-- ==== Sys2Proof/Word.lean ====
section
/-! DEFINITION. The byte type and the object path as a number (02_purel_mailboxes.md R60). -/

namespace Sys2Proof

/-- One octet of a frame, a buffer or a memory. -/
abbrev Byte := BitVec 8

/-- An octet string, first octet first. -/
abbrev Bytes := List Byte

/-- An object path as a 64-bit number: class in bits 63:48, instance in bits 47:8, attribute in bits 7:0 (R60). -/
abbrev Path := Nat

end Sys2Proof
end

