-- ==== Sys2Proof/Vocab.lean ====
section
/-! DEFINITION. The fixed sets of names the spec uses: roles, status codes, modes, life-cycle states, and the value a TLV carries. -/

namespace Sys2Proof

/-- The session roles of Table 02-8 (02_purel_mailboxes.md R64). -/
inductive Role
  | operator | billing | field | lighting | safety | audit | host | peer
  deriving DecidableEq, Repr

/-- The status codes of Table 02-13 (02_purel_mailboxes.md R80). -/
inductive Status
  | ok | accepted | duplicate | busy | deferred | refused | denied | lockedOut | fenced | tamperAbort | stale | flushed
  | badFrame | badCrc | badObject | badAttribute | badValue | versionMismatch | notFound | tableFull | storeFull
  | budgetExhausted | timeout | jumpRefused | internal
  deriving DecidableEq, Repr

/-- The code byte of a status, Table 02-13. -/
def Status.code : Status → Nat
  | .ok => 0x00 | .accepted => 0x01 | .duplicate => 0x02 | .busy => 0x10 | .deferred => 0x11 | .refused => 0x12
  | .denied => 0x13 | .lockedOut => 0x14 | .fenced => 0x15 | .tamperAbort => 0x16 | .stale => 0x17 | .flushed => 0x18
  | .badFrame => 0x20 | .badCrc => 0x21 | .badObject => 0x22 | .badAttribute => 0x23 | .badValue => 0x24
  | .versionMismatch => 0x25 | .notFound => 0x30 | .tableFull => 0x31 | .storeFull => 0x32 | .budgetExhausted => 0x33
  | .timeout => 0x34 | .jumpRefused => 0x35 | .internal => 0x3F

/-- The operating modes of Table 03-7 (03_modes_and_startup.md R101). -/
inductive Mode
  | factory | provision | service | island | shadow | holdup | booting
  deriving DecidableEq, Repr

/-- The encoding of Table 03-7. -/
def Mode.code : Mode → Nat
  | .factory => 0 | .provision => 1 | .service => 2 | .island => 3 | .shadow => 4 | .holdup => 5 | .booting => 15

/-- The life-cycle states of Table 03-10 (03_modes_and_startup.md R118). -/
inductive Lifecycle
  | blank | factory | field | ret | void
  deriving DecidableEq, Repr

/-- The encoding of Table 03-10. -/
def Lifecycle.code : Lifecycle → Nat
  | .blank => 0 | .factory => 1 | .field => 2 | .ret => 3 | .void => 4

/-- The ordering codes of Table 00-2 (00_scope.md R3). -/
inductive OrderCode
  | x | m | g
  deriving DecidableEq, Repr

/-- The encoding of Table 00-2. -/
def OrderCode.code : OrderCode → Nat
  | .x => 0 | .m => 1 | .g => 2

/-- The monitored rails of Table 03-2 (03_modes_and_startup.md R90). -/
inductive Rail
  | io33 | core
  deriving DecidableEq, Repr

/-- Where a mailbox command came from: a PCIe pair (R35), a virtual pair of a DTLS association (R77), a Cobor link (R51). -/
inductive Src
  | pair (n : Nat)
  | vpair (assoc vp : Nat)
  | peer (link : Nat)
  deriving DecidableEq, Repr

/-- The value of an attribute: a number (integer, boolean, enumeration and path types), an octet string, or an array of numbers
(Table 02-7). -/
inductive Val
  | num (n : Int)
  | bytes (b : Bytes)
  | arr (xs : List Int)
  deriving DecidableEq, Repr

/-- The TLV types of Table 02-7. -/
inductive Ty
  | u8 | u16 | u32 | u64 | s32 | s64 | bool | enum | path | bytes | text | arr (elem width minLen maxLen : Nat)
  deriving DecidableEq, Repr

/-- The type byte of Table 02-7. -/
def Ty.code : Ty → Nat
  | .u8 => 1 | .u16 => 2 | .u32 => 3 | .u64 => 4 | .s32 => 5 | .s64 => 6 | .bool => 7 | .enum => 8 | .path => 9
  | .bytes => 0xA | .text => 0xB | .arr _ _ _ _ => 0xC

/-- The partner's claim as decoded (Table 16-3). -/
inductive ClaimIn
  | released | claimed | invalid | absent
  deriving DecidableEq, Repr

/-- The encoding of Table 16-3. -/
def ClaimIn.code : ClaimIn → Nat
  | .released => 0 | .claimed => 1 | .invalid => 2 | .absent => 3

/-- The operations a port, lane, cell or handle takes part in name it by its number (00_scope.md, Words, numbers and notation). -/
abbrev Handle := Nat

end Sys2Proof
end

