-- ==== Sys2Proof/Facts.lean ====
section
/-! DEFINITION. The operands of rows that report something from outside the chip: what a host wrote, what a receiver decoded, what a supply did. -/

namespace Sys2Proof

/-- What the host wrote before a doorbell (steps 2 and 3 of 02_purel_mailboxes.md): the inbound buffer's frame and the octets of the pair's BAR4 slice. -/
structure BufWrite where
  frame : Bytes
  bulk : Bytes
  deriving DecidableEq, Repr

/-- One report into the fault collector (R669): source, unit, the rail pattern of a path fault (none for an error), whether the access was made by Purel itself
(R672), and whether the reaction failed to take effect within its limit (R681). -/
structure FaultFact where
  source : Nat
  unit : Nat
  path : Option Nat
  byPurel : Bool
  late : Bool
  deriving DecidableEq, Repr

/-- What the Guard found in one diagnostic cycle (Table 18-5): true where the check passed. -/
structure GuardFacts where
  checker : Bool
  lux : Bool
  renewGate : Bool
  txEnable : Bool
  clock : Bool
  policyCrc : Bool
  deriving DecidableEq, Repr

/-- One captured entry of a profile-generic buffer (R308–R310): capture time in s since the service epoch on the meter's clock, its deviation in minutes (none
for 0x8000), whether the clock status is invalid or doubtful, whether the status shows a power failure, whether the meter reports no energy, and per
channel whether the value is a cumulative register, and the value. -/
structure Reading where
  capture : Nat
  deviation : Option Int
  clockBad : Bool
  powerFail : Bool
  noEnergy : Bool
  vals : List (Nat × Bool × Nat)
  deriving DecidableEq, Repr

/-- What a protected payload holds: a profile-generic buffer that matches the capture template (a push, or the answer to a hardware poll), the response to a
downlink command, or a payload for Purel (R306). -/
inductive Apdu
  | readings (rs : List Reading) (poll : Bool)
  | response (serial status : Nat)
  | other (body : Bytes)
  deriving DecidableEq, Repr

/-- A protected payload: its counter (R314), whether the tag of the endpoint's key blob holds (R539), the key generation the payload authenticates under (none
where its tag is right under no key: R541), its content. -/
structure Secured where
  counter : Nat
  blobOk : Bool
  gen : Option Nat
  apdu : Apdu
  deriving DecidableEq, Repr

/-- What a line port's receiver decoded: port, lane, the 128 header bits, the payload octets, codewords decoded and failed, symbols erased, mean SNR and impulse
positions per region, noise per carrier, the stamp (R138), and the protected payload of the unit the frame completes. -/
structure LineRx where
  port : Nat
  lane : Nat
  header : BitVec 128
  body : Bytes
  codewords : Nat
  failed : Nat
  erasures : Nat
  snr : List Nat
  impulses : List Nat
  noise : Bytes
  stamp : Nat
  content : Secured
  deriving DecidableEq, Repr

/-- What a radio port's receiver decoded: port, cell, source key (EUI-64 or wireless M-Bus link address; none for a short address), source short address, 8-bit
sequence, SNR, whether the FCS held and the PHR was no mode switch, whether a mesh header was present, the wireless M-Bus security mode, the payload. -/
structure RadioRx where
  port : Nat
  cell : Nat
  key : Option Nat
  short : Nat
  seq : Nat
  snr : Nat
  fcsOk : Bool
  modeSwitch : Bool
  mesh : Bool
  security : Nat
  stamp : Nat
  content : Secured
  deriving DecidableEq, Repr

/-- One region's tone map of a set: stream, region, rate and 1,974 codes in 987 octets (R129, Table 05-3). -/
structure ToneMap where
  stream : Nat
  region : Nat
  rate : Nat
  codes : Bytes
  deriving DecidableEq, Repr

/-- What an ADMIT_REQ or association request says (Tables 05-3 and 05-9); `metric` is the mean SNR of its frame. -/
structure AdmitReq where
  cell : Nat
  eui : Nat
  caps : Nat
  longSpan : Nat
  streams : Nat
  role : Nat
  metric : Nat
  deriving DecidableEq, Repr

/-- A meter register report as Purel parsed it (R371): handle, capture interval, A+ and A− per rate with the two totals (34 values), the maximum demands, and
whether the meter reports a register reset or replacement. -/
structure MeterReport where
  handle : Nat
  capture : Nat
  values : List Int
  demands : List Int
  reset : Bool
  deriving DecidableEq, Repr

/-- What the parameter pages and the last checkpoint show at a mount (R492–R494, R507, R508): whether every target is of one supported model, blocks in all, pages of a block,
rated cycles, targets in all, factory bad blocks, and whether a valid checkpoint exists. -/
structure MediaFacts where
  oneModel : Bool
  blocks : Nat
  pages : Nat
  rated : Nat
  targets : Nat
  factoryBad : List Nat
  checkpoint : Bool
  deriving DecidableEq, Repr

/-- Where the flash translation puts a write (ch. 13): pages written by block, pages that become invalid by block. -/
structure MediaWrite where
  written : List (Nat × Nat)
  invalid : List (Nat × Nat)
  deriving DecidableEq, Repr

/-- A Cobor message as a link receives it (Table 16-13): the link, sender member and side, membership epoch, nonce counter, sequence, acknowledged sequence,
whether its tag holds under the link key (R644), its body. Its type is its row. -/
structure Cobor where
  link : Nat
  sender : Nat
  side : Nat
  epoch : Nat
  nonce : Nat
  seq : Nat
  acked : Nat
  tagOk : Bool
  body : Bytes
  deriving DecidableEq, Repr

/-- What the Guard's signed policy table says (Table 18-6), in the format the spec does not give: fields and deny list of target paths. -/
structure Policy where
  islandAllowed : Bool
  rateChip : Nat
  rateCell : Nat
  spacing : Nat
  deny : List Nat
  deriving DecidableEq, Repr

/-- A cell of a failed member that its CellPlan sends to this member (R637): cell number, line port, purpose, EUI of its relay node. -/
structure PlannedCell where
  cell : Nat
  port : Nat
  purpose : Nat
  relay : Nat
  deriving DecidableEq, Repr

/-- What a campaign target reports (R666): blocks it holds, the digest of what it holds, the digest of its running image. -/
inductive TargetReport
  | held (blocks : List Nat)
  | digest (d : Bytes)
  | running (d : Bytes)
  deriving DecidableEq, Repr

/-- What a boot meets (Table 03-6): the straps, the slots whose tag fails (R530), the settings generations whose CRC fails (R657), the media, whether media were replaced
(R520), and per ledger the buckets that elapsed since its persisted copy (R245). -/
structure BootFacts where
  twinSide : Nat
  bootSel : Nat
  testLow : Bool
  slotFaults : List Nat
  badGens : List Nat
  media : MediaFacts
  replaced : Bool
  elapsed : List (Nat × Nat)
  deriving DecidableEq, Repr

end Sys2Proof
end

