-- ==== Sys2Proof/Syntax.lean ====
section
/-! DEFINITION. The commands of the block: one constructor per row of the opcode table, in its order, with the row's operands. A mailbox command carries
its operands in its frame, which IN_RING, REMOTE_FRAME or PEER_MAILBOX brings; its own constructor then stands for its execution. -/

namespace Sys2Proof

/-- The commands (opcode_table.json). -/
inductive Instr
  /-- GET (R81): Reads one attribute of an object, or all attributes for attribute 0xFF. -/
  | get
  /-- SET (R56): Writes one attribute, in arrival order, with an optional expected-version check. -/
  | set
  /-- ACTION (R81): Invokes a method of an object that has no row of its own, with TLV arguments and results. -/
  | action
  /-- LIST (R81): Lists object paths of a class from a start instance, with an optional filter. -/
  | list
  /-- SUBSCRIBE (R82): Creates a change, event or periodic subscription within the session and chip limits. -/
  | subscribe
  /-- UNSUBSCRIBE (R749): Removes a subscription of the sending session. -/
  | unsubscribe
  /-- BATCH (R84): Executes 1 to 32 sub-commands together, all or none when ATOMIC is set. -/
  | batch
  /-- SESSION_CHALLENGE (R747): Checks the role and credential and returns a 32-byte nonce for a later open. -/
  | sessionChallenge
  /-- SESSION_OPEN (R47): Verifies the proof and opens a session slot with a new generation, binding the pair. -/
  | sessionOpen
  /-- SESSION_CLOSE (R57): Ends the session, unbinds its pairs and discards its subscriptions and pending energize commands. -/
  | sessionClose
  /-- SESSION_BIND_PAIR (R53): Binds a further free pair to an open session, at most 8 pairs per session. -/
  | sessionBindPair
  /-- SESSION_KEEPALIVE (R57): Restarts the idle timeout of the session. -/
  | sessionKeepalive
  /-- ENERGIZE_CONFIRM (R67): Confirms a pending energize-class command by its arrival number and passes it to the Guard. -/
  | energizeConfirm (intact : Bool) (cycles : Nat)
  /-- MODE_REQUEST (R105): Requests a change to SERVICE or PROVISION along the rows of Table 03-8. -/
  | modeRequest
  /-- CANCELLER_RETRAIN (R177): Asks the maintenance arbiter to retrain the echo canceller of one lane. -/
  | cancellerRetrain
  /-- CELL_FORM (R204): Forms or dissolves a local or remote line cell. -/
  | cellForm
  /-- SHORT_ADDRESS_RELEASE (R210): Releases a short address of a cell, sends ADDRESS_RELEASE and removes the locator entry. -/
  | shortAddressRelease
  /-- BAND_PROFILE_LOAD (R249): Writes a user band profile instance 3 to 7. -/
  | bandProfileLoad
  /-- TABLE_DMA (R285): Executes a list of locator table descriptors in order. -/
  | tableDma (run : Option Nat) (k : Nat)
  /-- TABLE_REBUILD (R292): Asks the arbiter to rebuild the locator table with new seeds. -/
  | tableRebuild (room : Bool)
  /-- POLL_NOW (R312): Queues a profile poll of an endpoint for a range of intervals. -/
  | pollNow
  /-- DOWNLINK_SEND (R312): Queues a COSEM APDU to an endpoint with a new command serial. -/
  | downlinkSend
  /-- SUPPLY_CONNECT (R66): Initiates an energize-class supply connection that waits for a two-person confirmation. -/
  | supplyConnect
  /-- SUPPLY_DISCONNECT (R312): Queues a disconnect action on the meter's disconnect-control object in queue 6. -/
  | supplyDisconnect
  /-- REVALIDATE (R330): Reruns the rule set over stored current versions and stores differing outcomes as new versions. -/
  | revalidate
  /-- INTERVAL_EDIT (R337): Commits a new EDITED version of an interval with the masked channels replaced. -/
  | intervalEdit
  /-- CALENDAR_LOAD (R342): Checks and writes the passive image of a tariff calendar. -/
  | calendarLoad
  /-- CALENDAR_ACTIVATE (R350): Schedules or cancels the activation of a calendar's passive image. -/
  | calendarActivate
  /-- SNAPSHOT_NOW (R368): Takes ON_DEMAND billing snapshots of one endpoint or of every endpoint of a calendar. -/
  | snapshotNow
  /-- GROUP_DEFINE (R395): Defines, replaces or deletes a balance group from an effective interval. -/
  | groupDefine
  /-- MEMBERSHIP_APPLY (R396): Applies proposals or explicit membership changes from an effective interval. -/
  | membershipApply
  /-- LEVEL_OVERRIDE (R458): Sets or cancels a level override on a segment or lantern. -/
  | levelOverride
  /-- CIRCUIT_ENERGIZE (R456): Initiates an energize-class close of a lighting circuit contactor. -/
  | circuitEnergize
  /-- ISOLATE (R457): Sends the open command to a lighting circuit contactor. -/
  | isolate
  /-- FIR_LOAD (R472): Writes a user FIR set 4 to 7. -/
  | firLoad
  /-- PROFILE_READ (R525): Returns stored interval records of a handle for a range of intervals. -/
  | profileRead
  /-- GC_BOOST (R515): Asks the arbiter for a garbage-collection boost to a target free share for a duration. -/
  | gcBoost
  /-- KEY_ROTATE (R540): Rotates a cell beacon key or the blob KEK, or imports endpoint keys. -/
  | keyRotate
  /-- ATTEST (R547): Returns a signed attestation report over a nonce. -/
  | attest
  /-- TAMPER_ACK (R555): Records one of the two acknowledgements that lift the glovebox seal. -/
  | tamperAck
  /-- LIFECYCLE_ADVANCE (R558): Advances the life-cycle state and then causes a CHIP reset. -/
  | lifecycleAdvance
  /-- ROOT_PROGRAM (R533): Programs a public OTP root slot with its tag and blows WRITTEN. -/
  | rootProgram
  /-- ROOT_DESTROY (R535): Blows every remaining bit of a USER slot and then DESTROYED. -/
  | rootDestroy
  /-- TAMPER_CONFIGURE (R552): Sets the class, active level and debounce of a tamper source. -/
  | tamperConfigure
  /-- CREDENTIAL_ADD (R558): Adds a role credential from a certificate chaining to CREDENTIAL_ROOT. -/
  | credentialAdd
  /-- CREDENTIAL_REMOVE (R558): Removes a role credential by identifier. -/
  | credentialRemove
  /-- TIME_STEP (R580): Commits the pending jump or sets service time to a given value. -/
  | timeStep
  /-- RTC_RECALIBRATE (R594): Asks the arbiter to measure the RTC against D2 and set the aging offset. -/
  | rtcRecalibrate
  /-- CASTLE (R618): Starts a planned castling of the ACTIVE role to the partner. -/
  | castle
  /-- PAIR (R605): Agrees the pair seed with the named partner over the pair link. -/
  | pair
  /-- FEDERATION_JOIN (R632): Joins the chip to a federation through a seed member. -/
  | federationJoin
  /-- FEDERATION_LEAVE (R632): Drains a member gracefully or removes a FAILED member. -/
  | federationLeave
  /-- REBALANCE (R634): Asks the arbiter for a federation rebalance of placements. -/
  | rebalance
  /-- IMAGE_STAGE (R652): Writes an image chunk into the free slot and checks the image after the last chunk. -/
  | imageStage
  /-- IMAGE_ACTIVATE (R653): Activates the STAGED image by handover, or reverts a trial to PREVIOUS. -/
  | imageActivate
  /-- IMAGE_CONFIRM (R660): Confirms a TRIAL image and raises the security floor. -/
  | imageConfirm (checked : Bool)
  /-- IMAGE_CHUNK (R664): Loads a chunk of an endpoint image into a campaign. -/
  | imageChunk
  /-- CAMPAIGN_START (R664): Starts or cancels an endpoint firmware campaign for a list of targets. -/
  | campaignStart (free : Nat)
  /-- FENCE (R678): Fences a unit of a domain on command. -/
  | fence
  /-- UNFENCE (R679): Clears, resets, self-tests, restores and unfences a unit. -/
  | unfence (ms : Nat) (fails : List FaultFact)
  /-- SELF_TEST_DEEP (R697): Fences, self-tests and unfences each domain of the mask in turn. -/
  | selfTestDeep (ms : Nat) (fails : List FaultFact)
  /-- FAULT_INJECT (R698): Forces a fault source's rail pair in FACTORY to test the reporting path. -/
  | faultInject
  /-- POLICY_LOAD (R686): Loads a signed Guard energize policy table. -/
  | policyLoad (p : Policy)
  /-- QUEUE_FLUSH (R707): Flushes a hardware queue and reports the items and words discarded. -/
  | queueFlush
  /-- RECORDER_CLEAR (R723): Removes non-safety event records up to a sequence and records RECORDER_CLEARED. -/
  | recorderClear
  /-- IN_RING (R37): A doorbell write passes the inbound buffer to the device, which assigns an arrival number and copies the frame. -/
  | inRing (n : Nat) (w : Option BufWrite)
  /-- OUT_DONE (R39): Releases the outbound buffer and clears OUT_FULL. -/
  | outDone (n : Nat)
  /-- RESPONSE_WRITTEN (R39): A response that waited for a free outbound buffer is written and IN_BUSY is cleared. -/
  | responseWritten (n : Nat)
  /-- REMOTE_FRAME (R79): A mailbox frame arrives in a DTLS record on a remote virtual pair. -/
  | remoteFrame (a : Nat) (v : Nat) (key : Bytes) (addr : Int) (f : Bytes)
  /-- COMMAND_COMPLETE (R746): The work of a NO_WAIT or ACCEPTED command ends and a COMPLETE notification is produced. -/
  | commandComplete (arr : Nat) (st : Status)
  /-- NOTIFICATION_DELIVER (R74): Queued notification entries are written to pair 0 or passed to the session's DTLS association. -/
  | notificationDeliver
  /-- PERIODIC (R81): The period of a periodic subscription expires and a report is produced. -/
  | periodic (id : Nat)
  /-- SESSION_IDLE_TIMEOUT (R57): A session's idle timeout expires and the session ends. -/
  | sessionIdleTimeout (h : Nat)
  /-- CREDENTIAL_LOCK_END (R49): The 300 s lock of a credential ends on D3. -/
  | credentialLockEnd (k : Nat)
  /-- ENERGIZE_WINDOW_EXPIRY (R68): An unconfirmed energize command's window expires; it is discarded with TIMEOUT. -/
  | energizeWindowExpiry (arr : Nat)
  /-- RESET_CTRL_PUREL (R94): A keyed write with scope PUREL resets the Purel processor and ends every session. -/
  | resetCtrlPurel (key : Nat)
  /-- RESET_CTRL_CHIP (R120): A keyed write with scope CHIP drops transmit enables and claim and resets the chip. -/
  | resetCtrlChip (key : Nat)
  /-- RESET_N (R91): RESET_N held low for 1 µs resets the chip. -/
  | resetN
  /-- POWER_ON_RESET (R91): VDD_CORE or VDD_IO33 rising through its reset level resets the chip. -/
  | powerOnReset
  /-- SUPPLY_MONITOR_RESET (R114): A monitored rail below its reset level resets the chip. -/
  | supplyMonitorReset (r : Rail)
  /-- BACKUP_DOMAIN_RESET (R595): The backup supply falls below 1.6 V and the backup domain, RTC and alarms reset. -/
  | backupDomainReset
  /-- BOOT (R97): The rising edge of RESET_N latches the straps and starts the boot sequence up to the first mode. -/
  | boot (f : BootFacts)
  /-- HOSTLOAD_CHUNK (R121): A keyed HOSTLOAD_CTRL write hands an image chunk to the loader. -/
  | hostloadChunk (key len : Nat) (data : Bytes)
  /-- HOSTLOAD_LAST (R121): A chunk with LAST ends the image, which is verified and run or rejected. -/
  | hostloadLast (key len : Nat) (data : Bytes)
  /-- HOSTLOAD_ABORT (R121): ABORT discards the image taken so far and returns to offset 0. -/
  | hostloadAbort (key : Nat)
  /-- HOSTLOAD_CHUNK_TAKEN (R121): The chunk has been taken and the state returns to WAIT_CHUNK. -/
  | hostloadChunkTaken
  /-- POWER_WARNING (R115): A rail falls below its warning level; journals flushed and erases suspended. -/
  | powerWarning (r : Rail) (mv : Nat) (ws : List MediaWrite)
  /-- DIP_RECOVERED (R116): The rail stays above its recover level for 10 ms; erases resume and DIPS increments. -/
  | dipRecovered (r : Rail)
  /-- PFI_ASSERT (R111): PFI_N falls and HOLDUP starts its sequence, or PFI_IGNORED is recorded. -/
  | pfiAssert (ws : List MediaWrite)
  /-- HOLDUP_DONE (R111): The hold-up sequence ends with the recorder mirrored and HOLDUP_DONE set. -/
  | holdupDone (ws : List MediaWrite) (cp : MediaWrite)
  /-- PFI_RELEASE (R752): PFI_N is released; after HOLDUP_DONE a CHIP reset follows. -/
  | pfiRelease
  /-- HOLDUP_RETURN (R752): The release has lasted 100 ms before HOLDUP_DONE and the previous mode resumes. -/
  | holdupReturn (resumed : Bool)
  /-- ISLAND_ENTRY (R104): Head end and federation unreachable for more than 60 s; SERVICE enters ISLAND. -/
  | islandEntry
  /-- ISLAND_EXIT (R102): Reachability holds for 10 s and ISLAND returns to SERVICE. -/
  | islandExit
  /-- STALEMATE_TIMER (R699): stalemate_reset_s elapses in STALEMATE and a CHIP reset follows. -/
  | stalemateTimer
  /-- LINE_FRAME_RECEIVED (R139): A line frame header is decoded and the frame is received by kind. -/
  | lineFrameReceived (x : LineRx)
  /-- FIRMWARE_PARSE_DONE (R306): Purel finishes parsing a payload from firmware_queue and the records go on to validation. -/
  | firmwareParseDone (rs : List Reading)
  /-- RECORD_COMMIT_CONFIRMED (R321): Every record of a frame reaches the required level and the application acknowledgement is sent. -/
  | recordCommitConfirmed (fid : Nat)
  /-- COMMIT_STALL (R322): The required level is not reached within commit_stall_ms. -/
  | commitStall (fid : Nat)
  /-- ACK_FRAME_RECEIVED (R191): A link acknowledgement ends or retries a segment's transmission. -/
  | ackFrameReceived (p : Nat) (seq : Nat) (seg : Nat) (result : Nat) (tm : Option Nat)
  /-- SEGMENT_ACK_TIMEOUT (R191): A segment without acknowledgement is resent, or its unit dropped after retry_limit. -/
  | segmentAckTimeout (p : Nat)
  /-- PARTIAL_UNIT_DISCARD (R190): A partial unit is discarded 2 s after its last segment. -/
  | partialUnitDiscard (p : Nat) (c : Nat) (src : Nat) (seq : Nat)
  /-- MEDIUM_IDLE (R182): The medium becomes idle and priority slots and contention start. -/
  | mediumIdle (p : Nat) (beaten : Bool) (room : Bool)
  /-- BACKOFF_SLOT (R183): An idle contention slot ends and the back-off count decrements, starting the frame at zero. -/
  | backoffSlot (p : Nat) (duplex : Bool) (room : Bool)
  /-- COLLISION (R184): A collision during the own preamble or header ends the transmission. -/
  | collision (p : Nat)
  /-- UNDERRUN (R194): Cut-through needs bytes not yet decoded; the frame is zero-filled and resent. -/
  | underrun (p : Nat) (bad : Bool)
  /-- TONE_MAP (R131): A TONE_MAP frame installs the set not named by the last frame. -/
  | toneMap (k : Nat) (set : Nat) (ms : List ToneMap)
  /-- TONE_MAP_AGE (R132): Region maps older than 30 s are refreshed; after 120 s the link uses ROBUST. -/
  | toneMapAge (k : Nat) (age : Nat) (snr : List (Nat × Bytes))
  /-- ADMIT_REQ (R207): An admission request is checked and answered with ADMIT_RESP. -/
  | admitReq (r : AdmitReq)
  /-- LEASE_ACK (R213): A lantern acknowledges the lease epoch. -/
  | leaseAck (c : Nat) (h : Nat) (epoch : Nat)
  /-- LEAVE (R210): An endpoint leaves and its short address is released. -/
  | leave (c : Nat) (eui : Nat)
  /-- ADDRESS_IDLE_RELEASE (R210): An endpoint unheard for address_idle_days loses its short address. -/
  | addressIdleRelease (c : Nat) (a : Nat)
  /-- BEACON_DUE (R199): A cell's beacon falls due at its position after the zero crossing and is sent. -/
  | beaconDue (c : Nat) (sensed : Bool)
  /-- BEACON_RETRY (R201): A beacon not started is retried in the next half-cycle or counted missed. -/
  | beaconRetry (c : Nat) (sensed : Bool)
  /-- LEASE_EPOCH (R213): Beacons or renewal resume and the lease epoch is incremented. -/
  | leaseEpoch (c : Nat)
  /-- BEACON_FEED (R203): A remote cell's beacon body is sent to its relay node 100 ms before it applies. -/
  | beaconFeed (c : Nat)
  /-- LEASE_ACK_TIMEOUT (R214): A lantern without LEASE_ACK after 10 beacon periods is left out and reported. -/
  | leaseAckTimeout (c : Nat) (h : Nat)
  /-- CANCEL_HALF (R156): ERLE falls below fd_exit and the lane enters HALF_DUPLEX. -/
  | cancelHalf (l : Nat) (erle : Nat)
  /-- CANCEL_FULL (R156): ERLE stays at or above fd_enter for 256 symbols and the lane returns to FULL_DUPLEX. -/
  | cancelFull (l : Nat) (erle : Nat) (taps : List Int)
  /-- CANCEL_DIVERGED (R157): The canceller diverges and its tap snapshot is restored. -/
  | cancelDiverged (l : Nat) (erle : Nat)
  /-- CANCELLER_TRAINING_DONE (R153): A training SOUND frame ends and the taps are fitted. -/
  | cancellerTrainingDone (l : Nat) (erle : Nat) (taps : List Int)
  /-- RETRAIN_REQUEST (R158): A lane long or often in HALF_DUPLEX asks the arbiter for retraining. -/
  | retrainRequest (l : Nat)
  /-- TRACKING_SOUND (R159): A HALF_DUPLEX lane silent for 5 ms sends a 32-symbol SOUND frame. -/
  | trackingSound (l : Nat)
  /-- ADC_CLIP (R161): ADC clipping forces HALF_DUPLEX or reports a lane fault. -/
  | adcClip (l : Nat) (n : Nat) (idle : Bool)
  /-- IMPULSE_LEARNT (R164): A region gains a recurring impulse position and its tone maps are recomputed. -/
  | impulseLearnt (p : Nat) (hit : List Nat) (snr : List (Nat × Bytes))
  /-- ZC_EDGE (R170): A zero-crossing edge is accepted, stamped and averaged into the port reference. -/
  | zcEdge (q : Nat) (t : Nat)
  /-- ZC_LOST (R172): Four expected edges are missing and the reference runs on. -/
  | zcLost (p : Nat)
  /-- ZC_INVALID (R172): 2 s without an accepted edge make the port's zero crossing invalid. -/
  | zcInvalid (p : Nat)
  /-- RX_SYNC_LOST (R221): Four words with a SYNC error unlock the radio word boundary. -/
  | rxSyncLost (n : Nat)
  /-- RADIO_WORD_LOCK (R221): Eight correct words lock the radio word boundary. -/
  | radioWordLock (n : Nat)
  /-- RADIO_FRAME_RECEIVED (R232): A radio frame is received, filtered for repeats and passed uplink. -/
  | radioFrameReceived (x : RadioRx)
  /-- ASSOCIATION_REQUEST (R237): A radio association request is admitted under the checks of Table 05-10. -/
  | associationRequest (c : Nat) (eui : Nat) (metric : Nat)
  /-- CHESS_CLOCK_ADMIT (R240): A radio frame is admitted or refused against the band budget and the transmit sequence starts. -/
  | chessClockAdmit (n : Nat) (answer : Bool) (a : Nat) (sensed : Bool)
  /-- RADIO_TX_END (R239): A radio frame ends, its airtime is charged and the receive script runs. -/
  | radioTxEnd (n : Nat) (us : Nat)
  /-- TX_CUT (R225): A reset, hold-up, stalemate or fence cuts a radio frame and charges its airtime. -/
  | txCut (n : Nat) (us : Nat)
  /-- LEDGER_BUCKET_END (R245): A ledger bucket ends; the ledger is persisted and mirrored. -/
  | ledgerBucketEnd (n : Nat)
  /-- RADIO_BEACON_DUE (R236): A PAN beacon falls due, is sent, retried every 1 ms or missed. -/
  | radioBeaconDue (c : Nat) (k : Nat) (a : Nat) (sensed : Bool)
  /-- LEARNING_COMMIT (R270): A queued sighting is committed to the locator and the held frame passed on. -/
  | learningCommit
  /-- LEARN_GUARD_END (R272): The learn-guard window of a primary ends and GUARD clears. -/
  | learnGuardEnd (h : Nat)
  /-- AGING_VISIT (R282): The scanner visits a bucket, ages its entries and moves back overflow entries. -/
  | agingVisit (ovf : Bool) (k : Nat)
  /-- SHADOW_COMPARE (R290): The comparator checks a bucket against Purel's shadow and repairs a mismatch. -/
  | shadowCompare (b : Nat) (crcOk : Bool)
  /-- BUCKET_DRAM_ERROR (R291): An uncorrectable DRAM error holds a lookup until the bucket is repaired. -/
  | bucketDramError (b : Nat) (key : Option Nat) (p : Nat) (c : Nat) (short : Nat) (metric : Nat) (x : Secured)
  /-- LOOKUP_UNRESOLVED (R291): A lookup unresolved after 1 ms drops its frame. -/
  | lookupUnresolved
  /-- LOCK_TIMEOUT (R287): A bucket lock held beyond its timeout is released by hardware. -/
  | lockTimeout (b : Nat)
  /-- LOCK_WAIT_TIMEOUT (R286): A LOCK descriptor waiting for another command's lock times out. -/
  | lockWaitTimeout (a : Nat)
  /-- TABLE_REBUILD_DONE (R292): The new table is complete and lookups switch to it in one slot. -/
  | tableRebuildDone
  /-- CHANGE_RECORD_APPLY (R289): Purel applies a locator change record from change_queue to its shadow. -/
  | changeRecordApply
  /-- SCHEDULE_SLOT (R299): An endpoint's slot falls due for push expectation or a poll. -/
  | scheduleSlot (h : Nat)
  /-- MISSING_DEADLINE (R299): An expected interval has no record at slot + missing_after_s; a MISSING placeholder is committed. -/
  | missingDeadline (h : Nat) (due : Nat)
  /-- REQUEST_TIMEOUT (R305): A request gets no response within response_timeout_ms and is repeated or fails. -/
  | requestTimeout (order : Nat)
  /-- POWER_RESTORE_NOTICE (R301): A power-restore notice queues one delayed restore poll. -/
  | powerRestoreNotice (h : Nat)
  /-- RESTORE_POLL_DUE (R301): The random delay of a restore poll ends and it is sent. -/
  | restorePollDue (h : Nat)
  /-- ESTIMATION_DUE (R331): estimate_delay_h after an interval ends, VAL estimates its absent values. -/
  | estimationDue (h : Nat) (n : Nat)
  /-- VAL_RECHECK (R329): After a VAL fence clears, unchecked records are rechecked in commit order. -/
  | valRecheck
  /-- ENGINE_RESUME (R16): After a fence of BIL, BAL or LUX clears, the engine replays the journal from its last record. -/
  | engineResume (d : Nat)
  /-- RECORD_BOOKING (R356): BIL books a committed record into the register set at its rate. -/
  | recordBooking
  /-- BILLING_BOUNDARY (R378): Service time reaches a billing boundary and BIL executes it in key order. -/
  | billingBoundary
  /-- PERIOD_CLOSED (R365): close_grace_min after a period end, BIL snapshots, resets demand and closes the period. -/
  | periodClosed (c : Nat)
  /-- REGISTER_COMPARE (R371): BIL compares a meter register report with its own registers. -/
  | registerCompare (r : MeterReport)
  /-- BALANCE_EVALUATE (R399): A group's interval is evaluated when complete or at settle_h, and the loss fit updated. -/
  | balanceEvaluate (g : Nat) (t : Nat)
  /-- DAILY_RUN (R414): BAL runs identification, signatures, scores, proposals and automatic application for the past day. -/
  | dailyRun
  /-- PROPOSAL_EXPIRY (R418): An OPEN proposal becomes EXPIRED 30 days after creation. -/
  | proposalExpiry (n : Nat)
  /-- BALANCE_SUMS_DEADLINE (R421): A member's sums missing at settle_h make its members absent. -/
  | balanceSumsDeadline (g : Nat) (t : Nat)
  /-- TRAFFIC_EVENT (R440): A sensor TRAFFIC event raises the reached segments and commands their levels. -/
  | trafficEvent
  /-- SCHEDULE_STEP (R435): A schedule step, dusk or dawn is reached and the segment level commanded. -/
  | scheduleStep (k : Nat)
  /-- HOLD_EXPIRY (R440): A segment's traffic hold ends and the level in force is commanded. -/
  | holdExpiry (g : Nat)
  /-- OVERRIDE_EXPIRY (R459): An override's duration ends and the normal level is restored. -/
  | overrideExpiry (lantern : Bool) (id : Nat)
  /-- MULTICAST_REPEAT (R444): A multicast LIGHT_CMD unit is repeated after repeat_gap_ms. -/
  | multicastRepeat
  /-- LIGHTING_REFRESH (R444): Every refresh_s the levels and serials of every segment of a cell are resent. -/
  | lightingRefresh (c : Nat)
  /-- LUX_SELF_TEST (R449): LUX tests itself every 10 ms and is fenced on failure. -/
  | luxSelfTest (pass : Bool)
  /-- LANTERN_RECORD (R454): record_delay_s after an interval, LUX commits an unmetered lantern's record. -/
  | lanternRecord (h : Nat) (n : Nat)
  /-- LANTERN_SILENT (R452): No frame from a lantern for silent_h sets SILENT. -/
  | lanternSilent (h : Nat)
  /-- SAFE_UNCONFIRMED (R452): safe_level_confirmed still 0 after 10 beacon periods sets the fault. -/
  | safeUnconfirmed (h : Nat)
  /-- CIRCUIT_STATE (R457): A contactor reports its state and the circuit state changes. -/
  | circuitState (c : Nat) (st : Nat)
  /-- MEA_SAMPLE (R469): The CIC and FIR engine produce an output sample of a channel. -/
  | meaSample (k : Nat) (words : List Int)
  /-- METROLOGY_CYCLE (R477): A busbar cycle ends and P and Q are booked per feeder. -/
  | metrologyCycle (b : Nat)
  /-- HALF_CYCLE_TEST (R483): A half-cycle ends and sag, swell and over-current conditions are tested. -/
  | halfCycleTest (b : Nat)
  /-- MEA_ZERO_CROSSING (R486): MEA detects a rising crossing of a voltage channel and passes its stamp to the port. -/
  | meaZeroCrossing (p : Nat)
  /-- HEAD_RECORD (R479): At an interval end MEA forms each feeder's record and passes it to VAL. -/
  | headRecord
  /-- FILTER_CHANGED (R473): A new fir_set takes effect at the next interval boundary. -/
  | filterChanged
  /-- JOURNAL_PROGRAM (R501): Gathered journal entries are programmed after 250 µs or a full page. -/
  | journalProgram (w : MediaWrite)
  /-- JOURNAL_CONFIRM (R501): A journal page programs with pass and its entries are committed. -/
  | journalConfirm
  /-- DAY_FOLD (R499): fold_delay_h after a UTC day ends STO writes its base segments. -/
  | dayFold (day : Nat) (stored : Nat) (w : MediaWrite)
  /-- DELTA_MERGE (R499): Delta segments above 1/8 of the base are merged into a new base. -/
  | deltaMerge (hb : Nat) (day : Nat) (w : MediaWrite)
  /-- CHECKPOINT (R504): STO writes a checkpoint by period or after 256 MiB of change. -/
  | checkpoint (w : MediaWrite)
  /-- GARBAGE_COLLECT (R510): Free blocks fall below gc_start_pct and collection copies and swaps blocks. -/
  | garbageCollect (target : Nat)
  /-- GC_COPY_RESTART (R512): A target block fails during a copy and the copy restarts. -/
  | gcCopyRestart (source : Nat) (failed : Nat) (target : Nat)
  /-- WEAR_LEVEL (R511): Erase counts differ by more than wear_spread and data move to a worn block. -/
  | wearLevel (source : Nat) (target : Nat)
  /-- BLOCK_REFRESH (R517): A block is relocated by read count, corrections or age. -/
  | blockRefresh (b : Nat) (reads : Nat) (bits : Nat) (age : Nat) (soft : Nat) (retry : Bool) (target : Nat)
  /-- BLOCK_RETIRED (R516): A failed erase, program or repeated soft decode retires a block. -/
  | blockRetired (b : Nat) (cause : Nat) (target : Nat)
  /-- MEDIA_REPAIR (R497): An uncorrectable segment codeword is fetched from another copy or lost. -/
  | mediaRepair (b : Nat) (hb : Nat) (day : Nat) (copy : Bool) (keys : List Nat)
  /-- MEDIA_RESERVE (R514): No free block outside the reserve remains and the store enters RESERVE. -/
  | mediaReserve
  /-- RETENTION_RELEASE (R518): Segments of days older than retention_days are released. -/
  | retentionRelease (day : Nat) (w : MediaWrite)
  /-- WRITE_SPACE_EXHAUSTED (R519): A write finds no free block and STO releases, spills or returns STORE_FULL. -/
  | writeSpaceExhausted (journal : Bool) (hb : Nat) (day : Nat) (accepting : List Nat) (w : MediaWrite)
  /-- END_OF_LIFE (R520): spare_left below 0.5 % makes the store READ_ONLY. -/
  | endOfLife
  /-- BEACON_KEY_SWITCH (R542): After every member confirms or 10 periods, the beacon CMAC switches to the new key. -/
  | beaconKeySwitch (c : Nat) (ten : Bool)
  /-- TRNG_FAULT (R546): A TRNG health test fails and random requests return INTERNAL. -/
  | trngFault (test : Nat)
  /-- TAMPER_TRIP (R553): A tamper source trips and its class reaction is applied. -/
  | tamperTrip (n : Nat) (ops : List (Nat × Nat))
  /-- TAMPER_SOURCE_INACTIVE (R756): A tamper source's condition ends and it becomes inactive. -/
  | tamperSourceInactive (n : Nat)
  /-- TAMPER_ACK_EXPIRY (R555): A first TAMPER_ACK unmatched within 600 s is discarded. -/
  | tamperAckExpiry
  /-- LIFECYCLE_ACK_EXPIRY (R558): A first two-session LIFECYCLE_ADVANCE unmatched within 60 s lapses. -/
  | lifecycleAckExpiry
  /-- PTP_SYNC (R575): A Sync message updates a domain's servo, lock and D2's rate and phase. -/
  | ptpSync (d : Nat) (master : Nat) (freq : Int) (steps : Bool)
  /-- DOMAIN_LOSS_TIMEOUT (R575): loss_timeout_s passes without a Sync and the domain loses lock. -/
  | domainLossTimeout (d : Nat)
  /-- DOMAIN_REVERT (R576): D0 meets the conditions for revert_s and is selected again. -/
  | domainRevert
  /-- AUTO_STEP (R579): A persistent jump is committed after jump_confirm_s when auto_step is 1. -/
  | autoStep
  /-- PTP_BRIDGE (R572): A bridged PTP event message gets its residence time added to correctionField. -/
  | ptpBridge (pin : Nat) (pout : Nat) (at3 : Nat) (correction : Int) (delay : Int) (sync : Bool)
  /-- BOUNDARY_CLOCK_SYNC (R573): The boundary-clock master sends Sync and Announce with the clockClass of the state. -/
  | boundaryClockSync (p : Nat)
  /-- LEAP_SECOND_SMEAR (R567): An announced leap second is spread over the last 1,000 s of the UTC day. -/
  | leapSecondSmear (inserted : Bool)
  /-- TIME_ANCHOR (R582): A time anchor record is written at every whole minute of service time. -/
  | timeAnchor
  /-- RTC_ALIGN (R600): Purel commits the RTC to service time after a step or a drift above 10 ms. -/
  | rtcAlign
  /-- RTC_SECOND (R598): The RTC advances a second and enabled alarms fire. -/
  | rtcSecond
  /-- RTC_GROUP_READ (R589): The first read of a group register freezes the reader's shadows. -/
  | rtcGroupRead (who : Nat) (a : Nat)
  /-- RTC_YEAR_READ (R589): A read of RTC_YEAR releases the reader's shadows. -/
  | rtcYearRead (who : Nat)
  /-- SHADOW_STALE (R589): RTC_YEAR unread within 1 s releases the shadows. -/
  | shadowStale (who : Nat)
  /-- RTC_STAGING_WRITE (R590): A write of a group register goes to staging, loading staging from live first. -/
  | rtcStagingWrite (who : Nat) (a : Nat) (v : Nat)
  /-- TIME_COMMIT (R590): A keyed commit loads staging into the live counters and restarts the prescaler. -/
  | timeCommit (who : Nat) (v : Nat)
  /-- ALARM_INSTANT_WRITE (R598): A write of ALMn_AT_HI resets LAST_FIRE. -/
  | alarmInstantWrite (n : Nat) (v : Nat)
  /-- TCOMP_SAMPLE (R593): The backup domain samples temperature and sets the trim. -/
  | tcompSample (t : Int)
  /-- OSC_STOPPED (R595): The crystal gives no edge for 1 ms and OSF is set. -/
  | oscStopped
  /-- VBAT_SWITCH (R596): The backup domain switches between VDD_IO33 and VBAT. -/
  | vbatSwitch (on : Bool)
  /-- VBAT_MEASURE (R596): Every 60 s VBAT is measured and VBAT_LOW set below 2.0 V. -/
  | vbatMeasure (mv : Nat)
  /-- CLAIM_IN_CHANGE (R612): The decoded partner claim state changes. -/
  | claimInChange (level : ClaimIn) (railP : Bool) (railM : Bool)
  /-- BOOT_CLAIM_DELAY (R617): At boot Queenside's 2,000 ms claim delay expires and it claims. -/
  | bootClaimDelay
  /-- CASTLE_GAP_END (R621): The castling gap ends and the new active is permitted to transmit. -/
  | castleGapEnd (planned : Bool) (cause : Nat) (cycles : Nat)
  /-- CLAIM_GATE_LAPSE (R613): The claim gate is not refreshed within 1 ms; enables drop and the claim is released. -/
  | claimGateLapse
  /-- SELF_CASTLE (R619): An enabled cause of Table 16-4 makes the active release its claim. -/
  | selfCastle (cause : Nat)
  /-- CASTLE_DRAIN_DONE (R620): A planned castling's drain ends and the old active releases its claim. -/
  | castleDrainDone
  /-- SOLO (R625): No confirmation for solo_after_ms or partner ABSENT; the active acknowledges at JOURNAL. -/
  | solo (cause : Nat)
  /-- TWIN_RESYNC (R627): A returning partner is resynchronised and the pair becomes PAIRED. -/
  | twinResync
  /-- HEALTH_TEST (R629): The standby tests its health every health_period_s. -/
  | healthTest (bits : Nat)
  /-- PAIR_LINK_DOWN (R645): Nothing arrives on the pair link for 10 ms and the link is down. -/
  | pairLinkDown
  /-- COBOR_RETRANSMIT (R645): A reliable message not acknowledged in time is sent again. -/
  | coborRetransmit (link : Nat) (seq : Nat)
  /-- COBOR_ACK_DUE (R645): A receiver with unacknowledged messages sends ACK within its limit. -/
  | coborAckDue (link : Nat)
  /-- LINK_REKEY (R644): A Cobor link is keyed again every 24 h or before its nonce limit. -/
  | linkRekey (link : Nat)
  /-- ADVERTISE (R646): A peer's versions and formats are received. -/
  | advertise (m : Cobor) (trial : Bool)
  /-- KEY_AGREE (R644): A signed ephemeral key is received and the link key derived. -/
  | keyAgree (m : Cobor)
  /-- HEARTBEAT (R632): A member heartbeat is received; sent every 100 ms. -/
  | heartbeat (m : Cobor) (rtt : Nat)
  /-- HEARTBEAT_SEND (R632): Every 100 ms the chip sends a heartbeat on every link. -/
  | heartbeatSend
  /-- ACK (R645): A Cobor ACK message acknowledges reliable messages. -/
  | ack (m : Cobor)
  /-- MIRROR (R607): The standby takes mirrored journal entries and applies them in order. -/
  | mirror (m : Cobor)
  /-- MIRROR_CONFIRM (R607): The active receives the standby's confirmation of held entries. -/
  | mirrorConfirm (m : Cobor)
  /-- REPLICA (R522): A replica chip takes replica entries into its journal. -/
  | replica (m : Cobor)
  /-- REPLICA_CONFIRM (R522): The home receives the replica's journal confirmation. -/
  | replicaConfirm (m : Cobor)
  /-- REPLICA_WAIT_TIMEOUT (R635): No replica confirmation for replica_wait_ms; the next member becomes replica or REPLICA_LOST. -/
  | replicaWaitTimeout (handle : Nat)
  /-- JOIN (R632): A JOIN message from a joining chip is received. -/
  | join (m : Cobor)
  /-- PROPOSE (R631): A proposed membership change is received for voting. -/
  | propose (m : Cobor)
  /-- VOTE (R631): A vote is received; a majority makes the change take effect. -/
  | vote (m : Cobor)
  /-- MEMBERSHIP_VOTE_TIMEOUT (R631): A change not confirmed by a majority within 10 s does not take effect. -/
  | membershipVoteTimeout (epoch : Nat) (proposer : Nat)
  /-- SUSPECT (R632): A suspicion of a member is received; a majority makes it FAILED. -/
  | suspect (m : Cobor)
  /-- MEMBER_TIMEOUT (R632): A member not heard for member_timeout_ms is suspected. -/
  | memberTimeout (member : Nat)
  /-- MIGRATED (R636): Endpoints of a FAILED member become homed on their replicas. -/
  | migrated (failed : Nat) (cells : List PlannedCell)
  /-- BALANCE_SUMS (R421): A member's sums for a group interval are received. -/
  | balanceSums (m : Cobor)
  /-- RESYNC_OFFER (R627): A returning chip's offer of journal entries is received. -/
  | resyncOffer (m : Cobor)
  /-- RESYNC_REQUEST (R627): A request for journal entries is received. -/
  | resyncRequest (m : Cobor)
  /-- SEGMENT (R646): A part of a bulk-copied segment is received. -/
  | segment (m : Cobor)
  /-- CASTLE_MESSAGE (R618): A CASTLE request passed by the standby is received by the active. -/
  | castleMessage (m : Cobor)
  /-- CASTLE_RESULT (R646): The result of a passed castling request is received. -/
  | castleResult (m : Cobor)
  /-- PEER_MAILBOX (R51): A mailbox frame for a PEER session arrives over Cobor. -/
  | peerMailbox (m : Cobor)
  /-- HANDOVER (R654): Purel passes control through the loader to the new image, which resumes from the handover record. -/
  | handover (start readable : Bool) (outage : Nat)
  /-- SETTINGS_UNREADABLE (R661): The new image declares its settings unreadable and falls back. -/
  | settingsUnreadable
  /-- CONFIRM_TIMEOUT (R661): The confirm window runs out and the trial image falls back. -/
  | confirmTimeout
  /-- CAMPAIGN_BLOCK (R665): A campaign image block is sent by multicast or unicast repair. -/
  | campaignBlock (camp block cell : Nat) (dest : Option Nat)
  /-- CAMPAIGN_TARGET_REPORT (R666): A target reports blocks held, digest or running image and its state advances. -/
  | campaignTargetReport (camp h : Nat) (r : TargetReport)
  /-- CAMPAIGN_NO_PROGRESS (R666): A target without progress for 7 days becomes FAILED. -/
  | campaignNoProgress (camp h : Nat)
  /-- CAMPAIGN_ACTIVATION_DUE (R666): The activation interval arrives and activation commands are sent. -/
  | campaignActivationDue (camp : Nat)
  /-- FAULT_REPORT (R670): A source reports an error or path fault and the collector applies its reaction. -/
  | faultReport (facts : List FaultFact)
  /-- COUNT_WINDOW_END (R672): A 1 s counting window ends and one FAULT is recorded for 2 or more reports. -/
  | countWindowEnd (n : Nat)
  /-- BLOCK_RESET_DONE (R680): After a BLOCK_RESET the domain is reset, self-tested and unfenced automatically. -/
  | blockResetDone (d : Nat) (u : Nat) (ms : Nat) (fails : List FaultFact)
  /-- ERR_PULSE_END (R675): The ERR_N pulse ends and ERR_N follows the hold bits. -/
  | errPulseEnd
  /-- GUARD_DIAGNOSTICS (R682): Every 10 ms the Guard runs its diagnostics and raises failing sources. -/
  | guardDiagnostics (g : GuardFacts)
  /-- CONFIG_MISMATCH (R681): The two copies of a collector register differ and STALEMATE follows. -/
  | configMismatch
  /-- NESTED_ERROR (R681): A reaction fails to take effect within its limit and STALEMATE follows. -/
  | nestedError
  /-- ACTIVITY_END (R695): An admitted maintenance activity ends and waiting requests are admitted in order. -/
  | activityEnd (kind : Nat) (unit : Nat) (err : Int)
  /-- DEFERRED_DROP (R695): A request deferred for 24 h is dropped with TIMEOUT. -/
  | deferredDrop (arr : Nat) (kind : Nat)
  /-- LATCHED_WRITE (R670): A write of 0 to latched clears a source after 16 healthy cycles or returns REFUSED. -/
  | latchedWrite (n : Nat) (v : Bool)
  /-- QH_DATA_LO_READ (R705): A consumer read takes the next word of a host queue or shows UNDERRUN or ABORTED. -/
  | qhDataLoRead (n : Nat)
  /-- QH_DATA_HI_READ (R709): A consumer read returns the high half of the word taken and advances. -/
  | qhDataHiRead (n : Nat)
  /-- QH_DATA_LO_WRITE (R709): A producer write stages the low half of a word. -/
  | qhDataLoWrite (n : Nat) (v : Nat)
  /-- QH_DATA_HI_WRITE (R704): A producer write pushes the staged word or receives FULL. -/
  | qhDataHiWrite (n : Nat) (v : Nat)
  /-- CLOSE (R704): The producer closes its open item, which is committed or returns FLUSHED. -/
  | close (n : Nat)
  /-- MARK (R706): The consumer marks its read position. -/
  | mark (n : Nat)
  /-- REWIND (R706): The consumer returns to its mark. -/
  | rewind (n : Nat)
  /-- RELEASE (R706): The consumer releases every word before its read position. -/
  | release (n : Nat)
  /-- FLUSH (R707): The host queue is flushed. -/
  | flush (n : Nat)
  /-- EVENT_ARRIVAL (R712): An event enters the safety or ordinary intake of the recorder. -/
  | eventArrival (safety : Bool) (code : Nat) (path : Nat) (args : List Int)
  /-- RECORD_COMMITTED (R713): The recorder commits a record or increments the repeat count of the last. -/
  | recordCommitted
  /-- OVERFLOW (R714): An entry frees after drops and one OVERFLOW record is committed. -/
  | overflow
  /-- RECORDER_MIRROR (R717): Every 1 s or 512 records the recorder writes records to the NAND mirror. -/
  | recorderMirror
  /-- REC_WINDOW_SNAPSHOT (R720): A read of 0x0A20 snapshots the record at the cursor. -/
  | recWindowSnapshot
  /-- REC_WINDOW_ADVANCE (R720): A read of 0x0A3C advances the cursor when AUTO_ADVANCE is 1. -/
  | recWindowAdvance
  /-- REGISTER_WRITE (R9): A write to a register without a row of its own updates its writable fields. -/
  | registerWrite (offset value : Nat)
  /-- DEBUG_REQUEST (R738): A debug transaction request with CHK and data CRC is received, repeated or refused. -/
  | debugRequest (word data crc : Nat)
  /-- DEBUG_RESYNC (R738): 40 low cycles followed by a MARK restart the debug protocol. -/
  | debugResync
  /-- READ_ID (R739): Returns ID_STEP and the part number. -/
  | readId
  /-- READ_STATUS (R739): Returns DBG_STATUS. -/
  | readStatus
  /-- READ_MODE (R739): Returns MODE_STATUS. -/
  | readMode
  /-- READ_EUI_LO (R739): Returns ID_EUI_LO. -/
  | readEuiLo
  /-- READ_EUI_HI (R739): Returns ID_EUI_HI. -/
  | readEuiHi
  /-- READ_MEM (R740): Reads a word at the debug address and advances it by 4. -/
  | readMem
  /-- WRITE_MEM (R740): Writes a word at the debug address and advances it by 4. -/
  | writeMem
  /-- WRITE_ADDR (R739): Sets debug address bits 31:0. -/
  | writeAddr
  /-- WRITE_ADDR_HI (R739): Sets debug address bits 39:32. -/
  | writeAddrHi
  /-- UNLOCK (R741): Checks a SAFETY signature over the challenge and grants wider debug access. -/
  | unlock
  /-- OTP_PROGRAM (R533): Programs a test or loader slot from the OTP window in BLANK. -/
  | otpProgram
  /-- LC_ADVANCE (R742): Advances the life cycle from BLANK to FACTORY through the debug port. -/
  | lcAdvance
  /-- GUARD_HALT (R742): Halts the Guard core in FACTORY. -/
  | guardHalt
  /-- RESET_REQ (R91): Requests a CHIP reset with cause DEBUG. -/
  | resetReq
  /-- STEP (R739): Executes one Purel instruction while halted. -/
  | step
  /-- RESUME (R739): Resumes the Purel processor. -/
  | resume
  /-- HALT (R743): Halts the Purel processor and suspends the Guard watchdog. -/
  | halt
  /-- DEBUG_BREAK (R740): A breakpoint or watchpoint stops the Purel processor. -/
  | debugBreak (watch : Bool) (n addr : Nat) (write : Bool)
  /-- UNLOCK_LAPSE (R743): Leaving PROVISION or FACTORY while halted ends the unlock. -/
  | unlockLapse
  /-- SERIAL_FRAME_RECEIVED (R305): An HDLC frame from a serial endpoint arrives on an RS-485 port and goes up the uplink path or answers a serial request. -/
  | serialFrameReceived (n : Nat) (key : Nat) (x : Secured)
  /-- PAIR_LINK_IDLE_MESSAGE (R645): A side of the pair link that has sent nothing for 1 ms sends a message. -/
  | pairLinkIdleMessage
  /-- BALANCE_SUMS_SEND (R421): A chip home to members of a group evaluated elsewhere sends that chip the member sum, estimated sum, member count and absent count for an interval. -/
  | balanceSumsSend (group : Nat) (interval : Nat)
  deriving DecidableEq, Repr

end Sys2Proof
end

