-- ==== Sys2Proof/Decode.lean ====
section
/-! DEFINITION. The command a word of the opcode table spells. The table of this hardware gives no row any bits: a command of the mailbox is a frame in memory, and
every other row is an event, so no word spells a command. -/

namespace Sys2Proof

/-- The command whose bits are `w`; the table gives no bits to any row, so there is none. -/
def decodeTableWord (_nbits _w : Nat) : Option Instr := none

end Sys2Proof
end

