-- ==== Sys2Proof/Machine/Assoc.lean ====
section
/-! DEFINITION. Lists of keyed entries that rise strictly by key: the one form in which the machine keeps anything sparse. -/

namespace Sys2Proof.Machine.Assoc

variable {α : Type}

/-- The entry of a key, if there is one. -/
def find (k : Nat) : List (Nat × α) → Option α
  | [] => none
  | (j, v) :: t => if j = k then some v else find k t

/-- Writes an entry, keeping the list rising. -/
def put (k : Nat) (v : α) : List (Nat × α) → List (Nat × α)
  | [] => [(k, v)]
  | (j, w) :: t => if k < j then (k, v) :: (j, w) :: t else if k = j then (k, v) :: t else (j, w) :: put k v t

/-- Removes the entry of a key. -/
def del (k : Nat) : List (Nat × α) → List (Nat × α)
  | [] => []
  | (j, w) :: t => if j = k then del k t else (j, w) :: del k t

/-- Writes an entry, or removes it when the value is the one an absent key reads as. -/
def set [DecidableEq α] (dflt : α) (k : Nat) (v : α) (l : List (Nat × α)) : List (Nat × α) :=
  if v = dflt then del k l else put k v l

/-- Whether a key is present. -/
def has (k : Nat) (l : List (Nat × α)) : Bool := (find k l).isSome

/-- Keys rise strictly. -/
abbrev Sorted (l : List (Nat × α)) : Prop := l.Pairwise (fun a b => a.1 < b.1)

/-- Applies a change to the entry of a key, reading an absent one as `dflt`. -/
def modify (dflt : α) (k : Nat) (f : α → α) (l : List (Nat × α)) : List (Nat × α) :=
  put k (f ((find k l).getD dflt)) l

end Sys2Proof.Machine.Assoc
end

