-- ==== Sys2Proof/Machine/Attributes.lean ====
section
/-! DEFINITION. The attributes of every Purel class as named numbers, and the class table: types, access, defaults and ranges, transcribed from
the attribute tables and lists of the spec (the rule of each class is in its docstring). -/

namespace Sys2Proof

/-- One attribute of a class (R61, R63, R748): number, type, whether a SET may write it, value when nothing has changed it, and the least and
greatest number a SET may give it. -/
structure AttrInfo where
  num : Nat
  ty : Ty
  rw : Bool
  dflt : Val
  lo : Int
  hi : Int
  deriving DecidableEq, Repr

/-- Which instances of a class exist: a fixed range from 0, or those the machine has created (kept in the object store). -/
inductive Insts
  | fixed (n : Nat)
  | dynamic
  deriving DecidableEq, Repr

/-- One Purel class: number, instances, carrying domains (Tables 01-1 and 01-3), attributes. -/
structure ClassInfo where
  id : Nat
  insts : Insts
  domains : List Nat
  attrs : List AttrInfo
  deriving DecidableEq, Repr

end Sys2Proof

namespace Sys2Proof.Attr

/-! Class `SystemIdentity` (0x0101), R3. -/
/-- `ordering_code` of `SystemIdentity` (R3). -/
abbrev SystemIdentity.orderingCode : Nat × Nat := (0x0101, 0x01)

/-! Class `SystemMode` (0x0102), R101. -/
/-- `mode` of `SystemMode` (R101). -/
abbrev SystemMode.mode : Nat × Nat := (0x0102, 0x01)
/-- `provision_state` of `SystemMode` (R101). -/
abbrev SystemMode.provisionState : Nat × Nat := (0x0102, 0x02)
/-- `head_end` of `SystemMode` (R101). -/
abbrev SystemMode.headEnd : Nat × Nat := (0x0102, 0x03)

/-! Class `MailboxService` (0x0110), R750. -/
/-- `energize_window` of `MailboxService` (R750). -/
abbrev MailboxService.energizeWindow : Nat × Nat := (0x0110, 0x01)
/-- `remote_port` of `MailboxService` (R750). -/
abbrev MailboxService.remotePort : Nat × Nat := (0x0110, 0x02)

/-! Class `LinePort` (0x0201), R174. -/
/-- `wiring` of `LinePort` (R174). -/
abbrev LinePort.wiring : Nat × Nat := (0x0201, 0x01)
/-- `zc_source` of `LinePort` (R174). -/
abbrev LinePort.zcSource : Nat × Nat := (0x0201, 0x02)
/-- `zc_source_arg` of `LinePort` (R174). -/
abbrev LinePort.zcSourceArg : Nat × Nat := (0x0201, 0x03)
/-- `zc_delay_ns` of `LinePort` (R174). -/
abbrev LinePort.zcDelayNs : Nat × Nat := (0x0201, 0x04)
/-- `region_bounds` of `LinePort` (R174). -/
abbrev LinePort.regionBounds : Nat × Nat := (0x0201, 0x05)
/-- `tone_margin` of `LinePort` (R174). -/
abbrev LinePort.toneMargin : Nat × Nat := (0x0201, 0x06)
/-- `notch_mask` of `LinePort` (R174). -/
abbrev LinePort.notchMask : Nat × Nat := (0x0201, 0x07)
/-- `psd_backoff` of `LinePort` (R174). -/
abbrev LinePort.psdBackoff : Nat × Nat := (0x0201, 0x08)
/-- `long_span_max` of `LinePort` (R174). -/
abbrev LinePort.longSpanMax : Nat × Nat := (0x0201, 0x09)
/-- `impulse_threshold` of `LinePort` (R174). -/
abbrev LinePort.impulseThreshold : Nat × Nat := (0x0201, 0x0A)
/-- `zc_valid` of `LinePort` (R174). -/
abbrev LinePort.zcValid : Nat × Nat := (0x0201, 0x0B)
/-- `mains_period_ns` of `LinePort` (R174). -/
abbrev LinePort.mainsPeriodNs : Nat × Nat := (0x0201, 0x0C)
/-- `avoid_regions` of `LinePort` (R174). -/
abbrev LinePort.avoidRegions : Nat × Nat := (0x0201, 0x0D)
/-- `max_segment` of `LinePort` (R174). -/
abbrev LinePort.maxSegment : Nat × Nat := (0x0201, 0x10)
/-- `retry_limit` of `LinePort` (R174). -/
abbrev LinePort.retryLimit : Nat × Nat := (0x0201, 0x11)
/-- `collision_threshold` of `LinePort` (R174). -/
abbrev LinePort.collisionThreshold : Nat × Nat := (0x0201, 0x12)
/-- `beacon_offset` of `LinePort` (R174). -/
abbrev LinePort.beaconOffset : Nat × Nat := (0x0201, 0x13)
/-- `cut_through` of `LinePort` (R174). -/
abbrev LinePort.cutThrough : Nat × Nat := (0x0201, 0x14)
/-- `ct_threshold` of `LinePort` (R174). -/
abbrev LinePort.ctThreshold : Nat × Nat := (0x0201, 0x15)
/-- `deliver_bad` of `LinePort` (R174). -/
abbrev LinePort.deliverBad : Nat × Nat := (0x0201, 0x16)
/-- `bad_frame_queue` of `LinePort` (R174). -/
abbrev LinePort.badFrameQueue : Nat × Nat := (0x0201, 0x17)
/-- `collisions` of `LinePort` (R174). -/
abbrev LinePort.collisions : Nat × Nat := (0x0201, 0x18)
/-- `underruns` of `LinePort` (R174). -/
abbrev LinePort.underruns : Nat × Nat := (0x0201, 0x19)
/-- `retries_exhausted` of `LinePort` (R174). -/
abbrev LinePort.retriesExhausted : Nat × Nat := (0x0201, 0x1A)

/-! Class `LineLane` (0x0202), R175. -/
/-- `canceller_state` of `LineLane` (R175). -/
abbrev LineLane.cancellerState : Nat × Nat := (0x0202, 0x01)
/-- `erle` of `LineLane` (R175). -/
abbrev LineLane.erle : Nat × Nat := (0x0202, 0x02)
/-- `mu_shift` of `LineLane` (R175). -/
abbrev LineLane.muShift : Nat × Nat := (0x0202, 0x03)
/-- `fd_exit` of `LineLane` (R175). -/
abbrev LineLane.fdExit : Nat × Nat := (0x0202, 0x04)
/-- `fd_enter` of `LineLane` (R175). -/
abbrev LineLane.fdEnter : Nat × Nat := (0x0202, 0x05)
/-- `tx_gain_cal` of `LineLane` (R175). -/
abbrev LineLane.txGainCal : Nat × Nat := (0x0202, 0x06)
/-- `clip_count` of `LineLane` (R175). -/
abbrev LineLane.clipCount : Nat × Nat := (0x0202, 0x07)
/-- `half_duplex_entries` of `LineLane` (R175). -/
abbrev LineLane.halfDuplexEntries : Nat × Nat := (0x0202, 0x08)

/-! Class `NotchMask` (0x0203), R147. -/
/-- `notches` of `NotchMask` (R147). -/
abbrev NotchMask.notches : Nat × Nat := (0x0203, 0x01)

/-! Class `LineCell` (0x0210), R216. -/
/-- `port` of `LineCell` (R216). -/
abbrev LineCell.port : Nat × Nat := (0x0210, 0x01)
/-- `kind` of `LineCell` (R216). -/
abbrev LineCell.kind : Nat × Nat := (0x0210, 0x02)
/-- `purpose` of `LineCell` (R216). -/
abbrev LineCell.purpose : Nat × Nat := (0x0210, 0x03)
/-- `beacon_period_ms` of `LineCell` (R216). -/
abbrev LineCell.beaconPeriodMs : Nat × Nat := (0x0210, 0x04)
/-- `beacon_slot` of `LineCell` (R216). -/
abbrev LineCell.beaconSlot : Nat × Nat := (0x0210, 0x05)
/-- `admission_open` of `LineCell` (R216). -/
abbrev LineCell.admissionOpen : Nat × Nat := (0x0210, 0x06)
/-- `relay_eui` of `LineCell` (R216). -/
abbrev LineCell.relayEui : Nat × Nat := (0x0210, 0x07)
/-- `members` of `LineCell` (R216). -/
abbrev LineCell.members : Nat × Nat := (0x0210, 0x08)
/-- `lease_epoch` of `LineCell` (R216). -/
abbrev LineCell.leaseEpoch : Nat × Nat := (0x0210, 0x09)
/-- `beacon_state` of `LineCell` (R216). -/
abbrev LineCell.beaconState : Nat × Nat := (0x0210, 0x0A)
/-- `beacons_missed` of `LineCell` (R216). -/
abbrev LineCell.beaconsMissed : Nat × Nat := (0x0210, 0x0B)
/-- `address_idle_days` of `LineCell` (R216). -/
abbrev LineCell.addressIdleDays : Nat × Nat := (0x0210, 0x0C)
/-- `beacon_seq` of `LineCell` (R216). -/
abbrev LineCell.beaconSeq : Nat × Nat := (0x0210, 0x0D)

/-! Class `LineLink` (0x0220), R176. -/
/-- `snr_region` of `LineLink` (R176). -/
abbrev LineLink.snrRegion : Nat × Nat := (0x0220, 0x01)
/-- `rate_region` of `LineLink` (R176). -/
abbrev LineLink.rateRegion : Nat × Nat := (0x0220, 0x02)
/-- `tone_map_age` of `LineLink` (R176). -/
abbrev LineLink.toneMapAge : Nat × Nat := (0x0220, 0x03)
/-- `frames_rx` of `LineLink` (R176). -/
abbrev LineLink.framesRx : Nat × Nat := (0x0220, 0x04)
/-- `header_errors` of `LineLink` (R176). -/
abbrev LineLink.headerErrors : Nat × Nat := (0x0220, 0x05)
/-- `codewords` of `LineLink` (R176). -/
abbrev LineLink.codewords : Nat × Nat := (0x0220, 0x06)
/-- `codewords_failed` of `LineLink` (R176). -/
abbrev LineLink.codewordsFailed : Nat × Nat := (0x0220, 0x07)
/-- `erasures` of `LineLink` (R176). -/
abbrev LineLink.erasures : Nat × Nat := (0x0220, 0x08)
/-- `impulses_region` of `LineLink` (R176). -/
abbrev LineLink.impulsesRegion : Nat × Nat := (0x0220, 0x09)
/-- `recurring` of `LineLink` (R176). -/
abbrev LineLink.recurring : Nat × Nat := (0x0220, 0x0A)
/-- `long_span_frames` of `LineLink` (R176). -/
abbrev LineLink.longSpanFrames : Nat × Nat := (0x0220, 0x0B)
/-- `long_span_refused` of `LineLink` (R176). -/
abbrev LineLink.longSpanRefused : Nat × Nat := (0x0220, 0x0C)
/-- `zco_last` of `LineLink` (R176). -/
abbrev LineLink.zcoLast : Nat × Nat := (0x0220, 0x0D)
/-- `streams` of `LineLink` (R176). -/
abbrev LineLink.streams : Nat × Nat := (0x0220, 0x0E)
/-- `carrier_noise` of `LineLink` (R176). -/
abbrev LineLink.carrierNoise : Nat × Nat := (0x0220, 0x0F)

/-! Class `RadioPort` (0x0301), R254. -/
/-- `standard` of `RadioPort` (R254). -/
abbrev RadioPort.standard : Nat × Nat := (0x0301, 0x01)
/-- `band_profile` of `RadioPort` (R254). -/
abbrev RadioPort.bandProfile : Nat × Nat := (0x0301, 0x02)
/-- `channel_khz` of `RadioPort` (R254). -/
abbrev RadioPort.channelKhz : Nat × Nat := (0x0301, 0x03)
/-- `phy_mode` of `RadioPort` (R254). -/
abbrev RadioPort.phyMode : Nat × Nat := (0x0301, 0x04)
/-- `sample_rate` of `RadioPort` (R254). -/
abbrev RadioPort.sampleRate : Nat × Nat := (0x0301, 0x05)
/-- `tx_script` of `RadioPort` (R254). -/
abbrev RadioPort.txScript : Nat × Nat := (0x0301, 0x06)
/-- `rx_script` of `RadioPort` (R254). -/
abbrev RadioPort.rxScript : Nat × Nat := (0x0301, 0x07)
/-- `tx_settle_us` of `RadioPort` (R254). -/
abbrev RadioPort.txSettleUs : Nat × Nat := (0x0301, 0x08)
/-- `pa_lead_us` of `RadioPort` (R254). -/
abbrev RadioPort.paLeadUs : Nat × Nat := (0x0301, 0x09)
/-- `bulk_limit_pct` of `RadioPort` (R254). -/
abbrev RadioPort.bulkLimitPct : Nat × Nat := (0x0301, 0x0A)
/-- `frames_rx` of `RadioPort` (R254). -/
abbrev RadioPort.framesRx : Nat × Nat := (0x0301, 0x0B)
/-- `frames_discarded` of `RadioPort` (R254). -/
abbrev RadioPort.framesDiscarded : Nat × Nat := (0x0301, 0x0C)
/-- `insecure_frames` of `RadioPort` (R254). -/
abbrev RadioPort.insecureFrames : Nat × Nat := (0x0301, 0x0D)
/-- `refusals` of `RadioPort` (R254). -/
abbrev RadioPort.refusals : Nat × Nat := (0x0301, 0x0E)
/-- `sync_losses` of `RadioPort` (R254). -/
abbrev RadioPort.syncLosses : Nat × Nat := (0x0301, 0x0F)
/-- `tx_channel_khz` of `RadioPort` (R254). -/
abbrev RadioPort.txChannelKhz : Nat × Nat := (0x0301, 0x10)

/-! Class `BandProfile` (0x0302), R249. -/
/-- `entries` of `BandProfile` (R249). -/
abbrev BandProfile.entries : Nat × Nat := (0x0302, 0x01)

/-! Class `ChessLedger` (0x0303), R256. -/
/-- `budget_us` of `ChessLedger` (R256). -/
abbrev ChessLedger.budgetUs : Nat × Nat := (0x0303, 0x01)
/-- `used_us` of `ChessLedger` (R256). -/
abbrev ChessLedger.usedUs : Nat × Nat := (0x0303, 0x02)
/-- `beacon_used_us` of `ChessLedger` (R256). -/
abbrev ChessLedger.beaconUsedUs : Nat × Nat := (0x0303, 0x03)
/-- `buckets` of `ChessLedger` (R256). -/
abbrev ChessLedger.buckets : Nat × Nat := (0x0303, 0x04)
/-- `refusals` of `ChessLedger` (R256). -/
abbrev ChessLedger.refusals : Nat × Nat := (0x0303, 0x05)

/-! Class `RadioPan` (0x0310), R255. -/
/-- `port` of `RadioPan` (R255). -/
abbrev RadioPan.port : Nat × Nat := (0x0310, 0x01)
/-- `kind` of `RadioPan` (R255). -/
abbrev RadioPan.kind : Nat × Nat := (0x0310, 0x02)
/-- `pan_id` of `RadioPan` (R255). -/
abbrev RadioPan.panId : Nat × Nat := (0x0310, 0x03)
/-- `wmbus_mode` of `RadioPan` (R255). -/
abbrev RadioPan.wmbusMode : Nat × Nat := (0x0310, 0x04)
/-- `beacon_period_ms` of `RadioPan` (R255). -/
abbrev RadioPan.beaconPeriodMs : Nat × Nat := (0x0310, 0x05)
/-- `beacon_order` of `RadioPan` (R255). -/
abbrev RadioPan.beaconOrder : Nat × Nat := (0x0310, 0x06)
/-- `beacon_slot` of `RadioPan` (R255). -/
abbrev RadioPan.beaconSlot : Nat × Nat := (0x0310, 0x07)
/-- `admission_open` of `RadioPan` (R255). -/
abbrev RadioPan.admissionOpen : Nat × Nat := (0x0310, 0x08)
/-- `members` of `RadioPan` (R255). -/
abbrev RadioPan.members : Nat × Nat := (0x0310, 0x09)
/-- `beacon_state` of `RadioPan` (R255). -/
abbrev RadioPan.beaconState : Nat × Nat := (0x0310, 0x0A)
/-- `beacons_missed` of `RadioPan` (R255). -/
abbrev RadioPan.beaconsMissed : Nat × Nat := (0x0310, 0x0B)
/-- `address_idle_days` of `RadioPan` (R255). -/
abbrev RadioPan.addressIdleDays : Nat × Nat := (0x0310, 0x0C)

/-! Class `EndpointLocator` (0x0401), R293. -/
/-- `eui` of `EndpointLocator` (R293). -/
abbrev EndpointLocator.eui : Nat × Nat := (0x0401, 0x01)
/-- `port` of `EndpointLocator` (R293). -/
abbrev EndpointLocator.port : Nat × Nat := (0x0401, 0x02)
/-- `cell` of `EndpointLocator` (R293). -/
abbrev EndpointLocator.cell : Nat × Nat := (0x0401, 0x03)
/-- `short` of `EndpointLocator` (R293). -/
abbrev EndpointLocator.short : Nat × Nat := (0x0401, 0x04)
/-- `primary_metric` of `EndpointLocator` (R293). -/
abbrev EndpointLocator.primaryMetric : Nat × Nat := (0x0401, 0x05)
/-- `secondary_port` of `EndpointLocator` (R293). -/
abbrev EndpointLocator.secondaryPort : Nat × Nat := (0x0401, 0x06)
/-- `secondary_cell` of `EndpointLocator` (R293). -/
abbrev EndpointLocator.secondaryCell : Nat × Nat := (0x0401, 0x07)
/-- `secondary_short` of `EndpointLocator` (R293). -/
abbrev EndpointLocator.secondaryShort : Nat × Nat := (0x0401, 0x08)
/-- `secondary_metric` of `EndpointLocator` (R293). -/
abbrev EndpointLocator.secondaryMetric : Nat × Nat := (0x0401, 0x09)
/-- `age` of `EndpointLocator` (R293). -/
abbrev EndpointLocator.age : Nat × Nat := (0x0401, 0x0A)
/-- `pinned` of `EndpointLocator` (R293). -/
abbrev EndpointLocator.pinned : Nat × Nat := (0x0401, 0x0B)

/-! Class `LocatorTable` (0x0402), R294. -/
/-- `hash_seed_1` of `LocatorTable` (R294). -/
abbrev LocatorTable.hashSeed1 : Nat × Nat := (0x0402, 0x01)
/-- `hash_seed_2` of `LocatorTable` (R294). -/
abbrev LocatorTable.hashSeed2 : Nat × Nat := (0x0402, 0x02)
/-- `learn_guard_ms` of `LocatorTable` (R294). -/
abbrev LocatorTable.learnGuardMs : Nat × Nat := (0x0402, 0x03)
/-- `hysteresis` of `LocatorTable` (R294). -/
abbrev LocatorTable.hysteresis : Nat × Nat := (0x0402, 0x04)
/-- `eviction` of `LocatorTable` (R294). -/
abbrev LocatorTable.eviction : Nat × Nat := (0x0402, 0x05)
/-- `aging_unit_s` of `LocatorTable` (R294). -/
abbrev LocatorTable.agingUnitS : Nat × Nat := (0x0402, 0x06)
/-- `aging_limit` of `LocatorTable` (R294). -/
abbrev LocatorTable.agingLimit : Nat × Nat := (0x0402, 0x07)
/-- `compare_period_s` of `LocatorTable` (R294). -/
abbrev LocatorTable.comparePeriodS : Nat × Nat := (0x0402, 0x08)
/-- `change_queue` of `LocatorTable` (R294). -/
abbrev LocatorTable.changeQueue : Nat × Nat := (0x0402, 0x09)
/-- `entries` of `LocatorTable` (R294). -/
abbrev LocatorTable.entries : Nat × Nat := (0x0402, 0x0A)
/-- `overflow_used` of `LocatorTable` (R294). -/
abbrev LocatorTable.overflowUsed : Nat × Nat := (0x0402, 0x0B)
/-- `learn_dropped` of `LocatorTable` (R294). -/
abbrev LocatorTable.learnDropped : Nat × Nat := (0x0402, 0x0C)
/-- `alias_misses` of `LocatorTable` (R294). -/
abbrev LocatorTable.aliasMisses : Nat × Nat := (0x0402, 0x0D)
/-- `secondary_hits` of `LocatorTable` (R294). -/
abbrev LocatorTable.secondaryHits : Nat × Nat := (0x0402, 0x0E)
/-- `repairs` of `LocatorTable` (R294). -/
abbrev LocatorTable.repairs : Nat × Nat := (0x0402, 0x0F)

/-! Class `EndpointProfile` (0x0501), R338. -/
/-- `eui` of `EndpointProfile` (R338). -/
abbrev EndpointProfile.eui : Nat × Nat := (0x0501, 0x01)
/-- `role` of `EndpointProfile` (R338). -/
abbrev EndpointProfile.role : Nat × Nat := (0x0501, 0x02)
/-- `capabilities` of `EndpointProfile` (R338). -/
abbrev EndpointProfile.capabilities : Nat × Nat := (0x0501, 0x03)
/-- `schedule` of `EndpointProfile` (R338). -/
abbrev EndpointProfile.schedule : Nat × Nat := (0x0501, 0x04)
/-- `capture_template` of `EndpointProfile` (R338). -/
abbrev EndpointProfile.captureTemplate : Nat × Nat := (0x0501, 0x05)
/-- `scale` of `EndpointProfile` (R338). -/
abbrev EndpointProfile.scale : Nat × Nat := (0x0501, 0x06)
/-- `rated_w` of `EndpointProfile` (R338). -/
abbrev EndpointProfile.ratedW : Nat × Nat := (0x0501, 0x07)
/-- `nominal_v` of `EndpointProfile` (R338). -/
abbrev EndpointProfile.nominalV : Nat × Nat := (0x0501, 0x08)
/-- `aux_kind` of `EndpointProfile` (R338). -/
abbrev EndpointProfile.auxKind : Nat × Nat := (0x0501, 0x09)
/-- `last_counter` of `EndpointProfile` (R338). -/
abbrev EndpointProfile.lastCounter : Nat × Nat := (0x0501, 0x0A)
/-- `command_serial` of `EndpointProfile` (R338). -/
abbrev EndpointProfile.commandSerial : Nat × Nat := (0x0501, 0x0B)
/-- `last_actual` of `EndpointProfile` (R338). -/
abbrev EndpointProfile.lastActual : Nat × Nat := (0x0501, 0x0C)
/-- `duplicates` of `EndpointProfile` (R338). -/
abbrev EndpointProfile.duplicates : Nat × Nat := (0x0501, 0x0D)
/-- `same_value` of `EndpointProfile` (R338). -/
abbrev EndpointProfile.sameValue : Nat × Nat := (0x0501, 0x0E)
/-- `calendar` of `EndpointProfile` (R338). -/
abbrev EndpointProfile.calendar : Nat × Nat := (0x0501, 0x20)
/-- `billing_authority` of `EndpointProfile` (R338). -/
abbrev EndpointProfile.billingAuthority : Nat × Nat := (0x0501, 0x21)

/-! Class `EndpointChannel` (0x0502), R339. -/
/-- `register_modulus` of `EndpointChannel` (R339). -/
abbrev EndpointChannel.registerModulus : Nat × Nat := (0x0502, 0x01)
/-- `last_register` of `EndpointChannel` (R339). -/
abbrev EndpointChannel.lastRegister : Nat × Nat := (0x0502, 0x02)
/-- `present` of `EndpointChannel` (R339). -/
abbrev EndpointChannel.present : Nat × Nat := (0x0502, 0x03)

/-! Class `CollectionSchedule` (0x0503), R297. -/
/-- `method` of `CollectionSchedule` (R297). -/
abbrev CollectionSchedule.method : Nat × Nat := (0x0503, 0x01)
/-- `period_min` of `CollectionSchedule` (R297). -/
abbrev CollectionSchedule.periodMin : Nat × Nat := (0x0503, 0x02)
/-- `offset_s` of `CollectionSchedule` (R297). -/
abbrev CollectionSchedule.offsetS : Nat × Nat := (0x0503, 0x03)
/-- `spread_s` of `CollectionSchedule` (R297). -/
abbrev CollectionSchedule.spreadS : Nat × Nat := (0x0503, 0x04)
/-- `lookback` of `CollectionSchedule` (R297). -/
abbrev CollectionSchedule.lookback : Nat × Nat := (0x0503, 0x05)
/-- `missing_after_s` of `CollectionSchedule` (R297). -/
abbrev CollectionSchedule.missingAfterS : Nat × Nat := (0x0503, 0x06)
/-- `poll_fallback` of `CollectionSchedule` (R297). -/
abbrev CollectionSchedule.pollFallback : Nat × Nat := (0x0503, 0x07)
/-- `restore_poll` of `CollectionSchedule` (R297). -/
abbrev CollectionSchedule.restorePoll : Nat × Nat := (0x0503, 0x08)
/-- `restore_spread_s` of `CollectionSchedule` (R297). -/
abbrev CollectionSchedule.restoreSpreadS : Nat × Nat := (0x0503, 0x09)
/-- `rule_set` of `CollectionSchedule` (R297). -/
abbrev CollectionSchedule.ruleSet : Nat × Nat := (0x0503, 0x0A)

/-! Class `CaptureTemplate` (0x0504), R308. -/
/-- `entries` of `CaptureTemplate` (R308). -/
abbrev CaptureTemplate.entries : Nat × Nat := (0x0504, 0x01)

/-! Class `CellCollection` (0x0505), R304. -/
/-- `concurrency` of `CellCollection` (R304). -/
abbrev CellCollection.concurrency : Nat × Nat := (0x0505, 0x01)
/-- `response_timeout_ms` of `CellCollection` (R304). -/
abbrev CellCollection.responseTimeoutMs : Nat × Nat := (0x0505, 0x02)
/-- `request_retries` of `CellCollection` (R304). -/
abbrev CellCollection.requestRetries : Nat × Nat := (0x0505, 0x03)

/-! Class `CollectionService` (0x0510), R339. -/
/-- `firmware_queue` of `CollectionService` (R339). -/
abbrev CollectionService.firmwareQueue : Nat × Nat := (0x0510, 0x01)
/-- `commit_stall_ms` of `CollectionService` (R339). -/
abbrev CollectionService.commitStallMs : Nat × Nat := (0x0510, 0x02)
/-- `frames_in` of `CollectionService` (R339). -/
abbrev CollectionService.framesIn : Nat × Nat := (0x0510, 0x03)
/-- `pending_repeats` of `CollectionService` (R339). -/
abbrev CollectionService.pendingRepeats : Nat × Nat := (0x0510, 0x04)
/-- `stale_frames` of `CollectionService` (R339). -/
abbrev CollectionService.staleFrames : Nat × Nat := (0x0510, 0x05)
/-- `too_old` of `CollectionService` (R339). -/
abbrev CollectionService.tooOld : Nat × Nat := (0x0510, 0x06)

/-! Class `ValidationRules` (0x0601), R327. -/
/-- `max_age_days` of `ValidationRules` (R327). -/
abbrev ValidationRules.maxAgeDays : Nat × Nat := (0x0601, 0x01)
/-- `future_tol_s` of `ValidationRules` (R327). -/
abbrev ValidationRules.futureTolS : Nat × Nat := (0x0601, 0x02)
/-- `clock_tol_s` of `ValidationRules` (R327). -/
abbrev ValidationRules.clockTolS : Nat × Nat := (0x0601, 0x03)
/-- `range_factor` of `ValidationRules` (R327). -/
abbrev ValidationRules.rangeFactor : Nat × Nat := (0x0601, 0x04)
/-- `spike_factor` of `ValidationRules` (R327). -/
abbrev ValidationRules.spikeFactor : Nat × Nat := (0x0601, 0x05)
/-- `spike_floor_wh` of `ValidationRules` (R327). -/
abbrev ValidationRules.spikeFloorWh : Nat × Nat := (0x0601, 0x06)
/-- `zero_run` of `ValidationRules` (R327). -/
abbrev ValidationRules.zeroRun : Nat × Nat := (0x0601, 0x07)
/-- `volt_tol_pct` of `ValidationRules` (R327). -/
abbrev ValidationRules.voltTolPct : Nat × Nat := (0x0601, 0x08)
/-- `sum_tol` of `ValidationRules` (R327). -/
abbrev ValidationRules.sumTol : Nat × Nat := (0x0601, 0x09)
/-- `estimate_delay_h` of `ValidationRules` (R327). -/
abbrev ValidationRules.estimateDelayH : Nat × Nat := (0x0601, 0x0A)
/-- `linear_max` of `ValidationRules` (R327). -/
abbrev ValidationRules.linearMax : Nat × Nat := (0x0601, 0x0B)

/-! Class `TariffCalendar` (0x0701), R387. -/
/-- `identifier_active` of `TariffCalendar` (R387). -/
abbrev TariffCalendar.identifierActive : Nat × Nat := (0x0701, 0x01)
/-- `identifier_passive` of `TariffCalendar` (R387). -/
abbrev TariffCalendar.identifierPassive : Nat × Nat := (0x0701, 0x02)
/-- `generation` of `TariffCalendar` (R387). -/
abbrev TariffCalendar.generation : Nat × Nat := (0x0701, 0x03)
/-- `activation_interval` of `TariffCalendar` (R387). -/
abbrev TariffCalendar.activationInterval : Nat × Nat := (0x0701, 0x04)
/-- `retired` of `TariffCalendar` (R387). -/
abbrev TariffCalendar.retired : Nat × Nat := (0x0701, 0x05)
/-- `period_number` of `TariffCalendar` (R387). -/
abbrev TariffCalendar.periodNumber : Nat × Nat := (0x0701, 0x06)
/-- `next_period_end` of `TariffCalendar` (R387). -/
abbrev TariffCalendar.nextPeriodEnd : Nat × Nat := (0x0701, 0x07)
/-- `meters_pending` of `TariffCalendar` (R387). -/
abbrev TariffCalendar.metersPending : Nat × Nat := (0x0701, 0x08)
/-- `endpoints` of `TariffCalendar` (R387). -/
abbrev TariffCalendar.endpoints : Nat × Nat := (0x0701, 0x09)
/-- `horizon_interval` of `TariffCalendar` (R387). -/
abbrev TariffCalendar.horizonInterval : Nat × Nat := (0x0701, 0x0A)

/-! Class `BillingRegisters` (0x0702), R388. -/
/-- `registers` of `BillingRegisters` (R388). -/
abbrev BillingRegisters.registers : Nat × Nat := (0x0702, 0x01)
/-- `max_demand` of `BillingRegisters` (R388). -/
abbrev BillingRegisters.maxDemand : Nat × Nat := (0x0702, 0x02)
/-- `max_demand_at` of `BillingRegisters` (R388). -/
abbrev BillingRegisters.maxDemandAt : Nat × Nat := (0x0702, 0x03)
/-- `estimated_wh` of `BillingRegisters` (R388). -/
abbrev BillingRegisters.estimatedWh : Nat × Nat := (0x0702, 0x04)
/-- `carry` of `BillingRegisters` (R388). -/
abbrev BillingRegisters.carry : Nat × Nat := (0x0702, 0x05)
/-- `partial_demands` of `BillingRegisters` (R388). -/
abbrev BillingRegisters.partialDemands : Nat × Nat := (0x0702, 0x06)
/-- `suspect_unbooked` of `BillingRegisters` (R388). -/
abbrev BillingRegisters.suspectUnbooked : Nat × Nat := (0x0702, 0x07)
/-- `aged_calendar` of `BillingRegisters` (R388). -/
abbrev BillingRegisters.agedCalendar : Nat × Nat := (0x0702, 0x08)

/-! Class `BillingSnapshot` (0x0703), R369. -/
/-- `snapshot` of `BillingSnapshot` (R369). -/
abbrev BillingSnapshot.snapshot : Nat × Nat := (0x0703, 0x01)

/-! Class `RegisterComparison` (0x0704), R389. -/
/-- `last_result` of `RegisterComparison` (R389). -/
abbrev RegisterComparison.lastResult : Nat × Nat := (0x0704, 0x01)
/-- `last_capture` of `RegisterComparison` (R389). -/
abbrev RegisterComparison.lastCapture : Nat × Nat := (0x0704, 0x02)
/-- `consecutive` of `RegisterComparison` (R389). -/
abbrev RegisterComparison.consecutive : Nat × Nat := (0x0704, 0x03)
/-- `mismatch` of `RegisterComparison` (R389). -/
abbrev RegisterComparison.mismatch : Nat × Nat := (0x0704, 0x04)
/-- `baseline` of `RegisterComparison` (R389). -/
abbrev RegisterComparison.baseline : Nat × Nat := (0x0704, 0x05)
/-- `deviation` of `RegisterComparison` (R389). -/
abbrev RegisterComparison.deviation : Nat × Nat := (0x0704, 0x06)
/-- `meter_max_demand` of `RegisterComparison` (R389). -/
abbrev RegisterComparison.meterMaxDemand : Nat × Nat := (0x0704, 0x07)

/-! Class `BillingService` (0x0710), R390. -/
/-- `close_grace_min` of `BillingService` (R390). -/
abbrev BillingService.closeGraceMin : Nat × Nat := (0x0710, 0x01)
/-- `book_suspect` of `BillingService` (R390). -/
abbrev BillingService.bookSuspect : Nat × Nat := (0x0710, 0x02)
/-- `snapshot_keep` of `BillingService` (R390). -/
abbrev BillingService.snapshotKeep : Nat × Nat := (0x0710, 0x03)
/-- `min_retention_days` of `BillingService` (R390). -/
abbrev BillingService.minRetentionDays : Nat × Nat := (0x0710, 0x04)
/-- `compare_delay_h` of `BillingService` (R390). -/
abbrev BillingService.compareDelayH : Nat × Nat := (0x0710, 0x05)
/-- `compare_tol_units` of `BillingService` (R390). -/
abbrev BillingService.compareTolUnits : Nat × Nat := (0x0710, 0x06)
/-- `compare_tol_ppm` of `BillingService` (R390). -/
abbrev BillingService.compareTolPpm : Nat × Nat := (0x0710, 0x07)
/-- `compare_persist` of `BillingService` (R390). -/
abbrev BillingService.comparePersist : Nat × Nat := (0x0710, 0x08)
/-- `boundary_seq` of `BillingService` (R390). -/
abbrev BillingService.boundarySeq : Nat × Nat := (0x0710, 0x09)
/-- `guard_interval` of `BillingService` (R390). -/
abbrev BillingService.guardInterval : Nat × Nat := (0x0710, 0x0A)
/-- `guard_position` of `BillingService` (R390). -/
abbrev BillingService.guardPosition : Nat × Nat := (0x0710, 0x0B)

/-! Class `BalanceGroup` (0x0801), R423. -/
/-- `kind` of `BalanceGroup` (R423). -/
abbrev BalanceGroup.kind : Nat × Nat := (0x0801, 0x01)
/-- `parent` of `BalanceGroup` (R423). -/
abbrev BalanceGroup.parent : Nat × Nat := (0x0801, 0x02)
/-- `head_handle` of `BalanceGroup` (R423). -/
abbrev BalanceGroup.headHandle : Nat × Nat := (0x0801, 0x03)
/-- `cell` of `BalanceGroup` (R423). -/
abbrev BalanceGroup.cell : Nat × Nat := (0x0801, 0x04)
/-- `vector_hour` of `BalanceGroup` (R423). -/
abbrev BalanceGroup.vectorHour : Nat × Nat := (0x0801, 0x05)
/-- `fixed_loss_wh` of `BalanceGroup` (R423). -/
abbrev BalanceGroup.fixedLossWh : Nat × Nat := (0x0801, 0x06)
/-- `rated_kva` of `BalanceGroup` (R423). -/
abbrev BalanceGroup.ratedKva : Nat × Nat := (0x0801, 0x07)
/-- `neighbours` of `BalanceGroup` (R423). -/
abbrev BalanceGroup.neighbours : Nat × Nat := (0x0801, 0x08)
/-- `members` of `BalanceGroup` (R423). -/
abbrev BalanceGroup.members : Nat × Nat := (0x0801, 0x09)
/-- `loss_coeff` of `BalanceGroup` (R423). -/
abbrev BalanceGroup.lossCoeff : Nat × Nat := (0x0801, 0x0A)
/-- `updates` of `BalanceGroup` (R423). -/
abbrev BalanceGroup.updates : Nat × Nat := (0x0801, 0x0B)
/-- `state` of `BalanceGroup` (R423). -/
abbrev BalanceGroup.state : Nat × Nat := (0x0801, 0x0C)
/-- `excess_count` of `BalanceGroup` (R423). -/
abbrev BalanceGroup.excessCount : Nat × Nat := (0x0801, 0x0D)
/-- `deficit_count` of `BalanceGroup` (R423). -/
abbrev BalanceGroup.deficitCount : Nat × Nat := (0x0801, 0x0E)
/-- `deficit_flag` of `BalanceGroup` (R423). -/
abbrev BalanceGroup.deficitFlag : Nat × Nat := (0x0801, 0x0F)
/-- `last_evaluated` of `BalanceGroup` (R423). -/
abbrev BalanceGroup.lastEvaluated : Nat × Nat := (0x0801, 0x10)
/-- `residual_day_wh` of `BalanceGroup` (R423). -/
abbrev BalanceGroup.residualDayWh : Nat × Nat := (0x0801, 0x11)
/-- `loss_day_wh` of `BalanceGroup` (R423). -/
abbrev BalanceGroup.lossDayWh : Nat × Nat := (0x0801, 0x12)
/-- `auto_apply` of `BalanceGroup` (R423). -/
abbrev BalanceGroup.autoApply : Nat × Nat := (0x0801, 0x13)
/-- `thr_abs_wh` of `BalanceGroup` (R423). -/
abbrev BalanceGroup.thrAbsWh : Nat × Nat := (0x0801, 0x14)
/-- `thr_pct` of `BalanceGroup` (R423). -/
abbrev BalanceGroup.thrPct : Nat × Nat := (0x0801, 0x15)

/-! Class `EndpointBalance` (0x0802), R425. -/
/-- `group` of `EndpointBalance` (R425). -/
abbrev EndpointBalance.group : Nat × Nat := (0x0802, 0x01)
/-- `phase` of `EndpointBalance` (R425). -/
abbrev EndpointBalance.phase : Nat × Nat := (0x0802, 0x02)
/-- `ident_state` of `EndpointBalance` (R425). -/
abbrev EndpointBalance.identState : Nat × Nat := (0x0802, 0x03)
/-- `ident_group` of `EndpointBalance` (R425). -/
abbrev EndpointBalance.identGroup : Nat × Nat := (0x0802, 0x04)
/-- `ident_phase` of `EndpointBalance` (R425). -/
abbrev EndpointBalance.identPhase : Nat × Nat := (0x0802, 0x05)
/-- `zco_bins` of `EndpointBalance` (R425). -/
abbrev EndpointBalance.zcoBins : Nat × Nat := (0x0802, 0x06)
/-- `volt_rho` of `EndpointBalance` (R425). -/
abbrev EndpointBalance.voltRho : Nat × Nat := (0x0802, 0x07)
/-- `rho` of `EndpointBalance` (R425). -/
abbrev EndpointBalance.rho : Nat × Nat := (0x0802, 0x08)
/-- `beta` of `EndpointBalance` (R425). -/
abbrev EndpointBalance.beta : Nat × Nat := (0x0802, 0x09)
/-- `signatures` of `EndpointBalance` (R425). -/
abbrev EndpointBalance.signatures : Nat × Nat := (0x0802, 0x0A)
/-- `score` of `EndpointBalance` (R425). -/
abbrev EndpointBalance.score : Nat × Nat := (0x0802, 0x0B)
/-- `score_parts` of `EndpointBalance` (R425). -/
abbrev EndpointBalance.scoreParts : Nat × Nat := (0x0802, 0x0C)
/-- `membership_locked` of `EndpointBalance` (R425). -/
abbrev EndpointBalance.membershipLocked : Nat × Nat := (0x0802, 0x0D)
/-- `export_permitted` of `EndpointBalance` (R425). -/
abbrev EndpointBalance.exportPermitted : Nat × Nat := (0x0802, 0x0E)

/-! Class `MembershipProposal` (0x0803), R426. -/
/-- `handle` of `MembershipProposal` (R426). -/
abbrev MembershipProposal.handle : Nat × Nat := (0x0803, 0x01)
/-- `from_group` of `MembershipProposal` (R426). -/
abbrev MembershipProposal.fromGroup : Nat × Nat := (0x0803, 0x02)
/-- `to_group` of `MembershipProposal` (R426). -/
abbrev MembershipProposal.toGroup : Nat × Nat := (0x0803, 0x03)
/-- `from_phase` of `MembershipProposal` (R426). -/
abbrev MembershipProposal.fromPhase : Nat × Nat := (0x0803, 0x04)
/-- `to_phase` of `MembershipProposal` (R426). -/
abbrev MembershipProposal.toPhase : Nat × Nat := (0x0803, 0x05)
/-- `basis` of `MembershipProposal` (R426). -/
abbrev MembershipProposal.basis : Nat × Nat := (0x0803, 0x06)
/-- `created` of `MembershipProposal` (R426). -/
abbrev MembershipProposal.created : Nat × Nat := (0x0803, 0x07)
/-- `state` of `MembershipProposal` (R426). -/
abbrev MembershipProposal.state : Nat × Nat := (0x0803, 0x08)

/-! Class `GroupResidual` (0x0804), R424. -/
/-- `interval` of `GroupResidual` (R424). -/
abbrev GroupResidual.interval : Nat × Nat := (0x0804, 0x01)
/-- `status` of `GroupResidual` (R424). -/
abbrev GroupResidual.status : Nat × Nat := (0x0804, 0x02)
/-- `head_wh` of `GroupResidual` (R424). -/
abbrev GroupResidual.headWh : Nat × Nat := (0x0804, 0x03)
/-- `members_wh` of `GroupResidual` (R424). -/
abbrev GroupResidual.membersWh : Nat × Nat := (0x0804, 0x04)
/-- `loss_wh` of `GroupResidual` (R424). -/
abbrev GroupResidual.lossWh : Nat × Nat := (0x0804, 0x05)
/-- `residual_wh` of `GroupResidual` (R424). -/
abbrev GroupResidual.residualWh : Nat × Nat := (0x0804, 0x06)
/-- `coverage` of `GroupResidual` (R424). -/
abbrev GroupResidual.coverage : Nat × Nat := (0x0804, 0x07)
/-- `estimated_share` of `GroupResidual` (R424). -/
abbrev GroupResidual.estimatedShare : Nat × Nat := (0x0804, 0x08)
/-- `evaluations` of `GroupResidual` (R424). -/
abbrev GroupResidual.evaluations : Nat × Nat := (0x0804, 0x09)

/-! Class `BalanceService` (0x0810), R427. -/
/-- `settle_h` of `BalanceService` (R427). -/
abbrev BalanceService.settleH : Nat × Nat := (0x0810, 0x01)
/-- `min_coverage` of `BalanceService` (R427). -/
abbrev BalanceService.minCoverage : Nat × Nat := (0x0810, 0x02)
/-- `max_estimated` of `BalanceService` (R427). -/
abbrev BalanceService.maxEstimated : Nat × Nat := (0x0810, 0x03)
/-- `reeval_days` of `BalanceService` (R427). -/
abbrev BalanceService.reevalDays : Nat × Nat := (0x0810, 0x04)
/-- `fit_min_updates` of `BalanceService` (R427). -/
abbrev BalanceService.fitMinUpdates : Nat × Nat := (0x0810, 0x05)
/-- `persist_window` of `BalanceService` (R427). -/
abbrev BalanceService.persistWindow : Nat × Nat := (0x0810, 0x06)
/-- `persist_count` of `BalanceService` (R427). -/
abbrev BalanceService.persistCount : Nat × Nat := (0x0810, 0x07)
/-- `attrib_rho` of `BalanceService` (R427). -/
abbrev BalanceService.attribRho : Nat × Nat := (0x0810, 0x08)
/-- `phase_tol` of `BalanceService` (R427). -/
abbrev BalanceService.phaseTol : Nat × Nat := (0x0810, 0x09)
/-- `phase_min_samples` of `BalanceService` (R427). -/
abbrev BalanceService.phaseMinSamples : Nat × Nat := (0x0810, 0x0A)
/-- `volt_rho_min` of `BalanceService` (R427). -/
abbrev BalanceService.voltRhoMin : Nat × Nat := (0x0810, 0x0B)
/-- `volt_rho_margin` of `BalanceService` (R427). -/
abbrev BalanceService.voltRhoMargin : Nat × Nat := (0x0810, 0x0C)
/-- `rev_floor_wh` of `BalanceService` (R427). -/
abbrev BalanceService.revFloorWh : Nat × Nat := (0x0810, 0x0D)
/-- `bypass_drop_pct` of `BalanceService` (R427). -/
abbrev BalanceService.bypassDropPct : Nat × Nat := (0x0810, 0x0E)
/-- `bypass_days` of `BalanceService` (R427). -/
abbrev BalanceService.bypassDays : Nat × Nat := (0x0810, 0x0F)
/-- `neutral_dev_pct` of `BalanceService` (R427). -/
abbrev BalanceService.neutralDevPct : Nat × Nat := (0x0810, 0x10)
/-- `neutral_hits` of `BalanceService` (R427). -/
abbrev BalanceService.neutralHits : Nat × Nat := (0x0810, 0x11)
/-- `daily_run_min` of `BalanceService` (R427). -/
abbrev BalanceService.dailyRunMin : Nat × Nat := (0x0810, 0x12)
/-- `score_weights` of `BalanceService` (R427). -/
abbrev BalanceService.scoreWeights : Nat × Nat := (0x0810, 0x13)
/-- `score_decay` of `BalanceService` (R427). -/
abbrev BalanceService.scoreDecay : Nat × Nat := (0x0810, 0x14)
/-- `score_alert` of `BalanceService` (R427). -/
abbrev BalanceService.scoreAlert : Nat × Nat := (0x0810, 0x15)
/-- `propose_days` of `BalanceService` (R427). -/
abbrev BalanceService.proposeDays : Nat × Nat := (0x0810, 0x16)
/-- `auto_max_per_day` of `BalanceService` (R427). -/
abbrev BalanceService.autoMaxPerDay : Nat × Nat := (0x0810, 0x17)
/-- `proposals_dropped` of `BalanceService` (R427). -/
abbrev BalanceService.proposalsDropped : Nat × Nat := (0x0810, 0x18)

/-! Class `Lantern` (0x0901), R446. -/
/-- `segment` of `Lantern` (R446). -/
abbrev Lantern.segment : Nat × Nat := (0x0901, 0x01)
/-- `circuit` of `Lantern` (R446). -/
abbrev Lantern.circuit : Nat × Nat := (0x0901, 0x02)
/-- `standby_mw` of `Lantern` (R446). -/
abbrev Lantern.standbyMw : Nat × Nat := (0x0901, 0x03)
/-- `safe_level` of `Lantern` (R446). -/
abbrev Lantern.safeLevel : Nat × Nat := (0x0901, 0x04)
/-- `safe_level_confirmed` of `Lantern` (R446). -/
abbrev Lantern.safeLevelConfirmed : Nat × Nat := (0x0901, 0x05)
/-- `lease_state` of `Lantern` (R446). -/
abbrev Lantern.leaseState : Nat × Nat := (0x0901, 0x06)
/-- `level_commanded` of `Lantern` (R446). -/
abbrev Lantern.levelCommanded : Nat × Nat := (0x0901, 0x07)
/-- `level_cause` of `Lantern` (R446). -/
abbrev Lantern.levelCause : Nat × Nat := (0x0901, 0x08)
/-- `faults` of `Lantern` (R446). -/
abbrev Lantern.faults : Nat × Nat := (0x0901, 0x09)
/-- `level_mean_last` of `Lantern` (R446). -/
abbrev Lantern.levelMeanLast : Nat × Nat := (0x0901, 0x0A)

/-! Class `LightingSegment` (0x0902), R429. -/
/-- `cell` of `LightingSegment` (R429). -/
abbrev LightingSegment.cell : Nat × Nat := (0x0902, 0x01)
/-- `group` of `LightingSegment` (R429). -/
abbrev LightingSegment.group : Nat × Nat := (0x0902, 0x02)
/-- `schedule` of `LightingSegment` (R429). -/
abbrev LightingSegment.schedule : Nat × Nat := (0x0902, 0x03)
/-- `rule` of `LightingSegment` (R429). -/
abbrev LightingSegment.rule : Nat × Nat := (0x0902, 0x04)
/-- `successors` of `LightingSegment` (R429). -/
abbrev LightingSegment.successors : Nat × Nat := (0x0902, 0x05)
/-- `transit_s` of `LightingSegment` (R429). -/
abbrev LightingSegment.transitS : Nat × Nat := (0x0902, 0x06)
/-- `lanterns` of `LightingSegment` (R429). -/
abbrev LightingSegment.lanterns : Nat × Nat := (0x0902, 0x07)
/-- `level` of `LightingSegment` (R429). -/
abbrev LightingSegment.level : Nat × Nat := (0x0902, 0x08)
/-- `cause` of `LightingSegment` (R429). -/
abbrev LightingSegment.cause : Nat × Nat := (0x0902, 0x09)
/-- `hold_until` of `LightingSegment` (R429). -/
abbrev LightingSegment.holdUntil : Nat × Nat := (0x0902, 0x0A)
/-- `serial` of `LightingSegment` (R429). -/
abbrev LightingSegment.serial : Nat × Nat := (0x0902, 0x0B)

/-! Class `LightingSchedule` (0x0903), R432. -/
/-- `latitude_ud` of `LightingSchedule` (R432). -/
abbrev LightingSchedule.latitudeUd : Nat × Nat := (0x0903, 0x01)
/-- `longitude_ud` of `LightingSchedule` (R432). -/
abbrev LightingSchedule.longitudeUd : Nat × Nat := (0x0903, 0x02)
/-- `sun_elevation` of `LightingSchedule` (R432). -/
abbrev LightingSchedule.sunElevation : Nat × Nat := (0x0903, 0x03)
/-- `calendar` of `LightingSchedule` (R432). -/
abbrev LightingSchedule.calendar : Nat × Nat := (0x0903, 0x04)
/-- `on_offset_min` of `LightingSchedule` (R432). -/
abbrev LightingSchedule.onOffsetMin : Nat × Nat := (0x0903, 0x05)
/-- `off_offset_min` of `LightingSchedule` (R432). -/
abbrev LightingSchedule.offOffsetMin : Nat × Nat := (0x0903, 0x06)
/-- `steps` of `LightingSchedule` (R432). -/
abbrev LightingSchedule.steps : Nat × Nat := (0x0903, 0x07)
/-- `special_days` of `LightingSchedule` (R432). -/
abbrev LightingSchedule.specialDays : Nat × Nat := (0x0903, 0x08)
/-- `ramp_s` of `LightingSchedule` (R432). -/
abbrev LightingSchedule.rampS : Nat × Nat := (0x0903, 0x09)
/-- `next_dusk` of `LightingSchedule` (R432). -/
abbrev LightingSchedule.nextDusk : Nat × Nat := (0x0903, 0x0A)
/-- `next_dawn` of `LightingSchedule` (R432). -/
abbrev LightingSchedule.nextDawn : Nat × Nat := (0x0903, 0x0B)

/-! Class `TrafficRule` (0x0904), R440. -/
/-- `raise_level` of `TrafficRule` (R440). -/
abbrev TrafficRule.raiseLevel : Nat × Nat := (0x0904, 0x01)
/-- `ramp_up` of `TrafficRule` (R440). -/
abbrev TrafficRule.rampUp : Nat × Nat := (0x0904, 0x02)
/-- `hold_s` of `TrafficRule` (R440). -/
abbrev TrafficRule.holdS : Nat × Nat := (0x0904, 0x03)
/-- `ramp_down` of `TrafficRule` (R440). -/
abbrev TrafficRule.rampDown : Nat × Nat := (0x0904, 0x04)
/-- `lookahead_s` of `TrafficRule` (R440). -/
abbrev TrafficRule.lookaheadS : Nat × Nat := (0x0904, 0x05)
/-- `lookahead_depth` of `TrafficRule` (R440). -/
abbrev TrafficRule.lookaheadDepth : Nat × Nat := (0x0904, 0x06)
/-- `min_count` of `TrafficRule` (R440). -/
abbrev TrafficRule.minCount : Nat × Nat := (0x0904, 0x07)
/-- `day_active` of `TrafficRule` (R440). -/
abbrev TrafficRule.dayActive : Nat × Nat := (0x0904, 0x08)

/-! Class `TrafficSensor` (0x0905), R440. -/
/-- `segment` of `TrafficSensor` (R440). -/
abbrev TrafficSensor.segment : Nat × Nat := (0x0905, 0x01)
/-- `events` of `TrafficSensor` (R440). -/
abbrev TrafficSensor.events : Nat × Nat := (0x0905, 0x02)
/-- `last_event` of `TrafficSensor` (R440). -/
abbrev TrafficSensor.lastEvent : Nat × Nat := (0x0905, 0x03)
/-- `counts` of `TrafficSensor` (R440). -/
abbrev TrafficSensor.counts : Nat × Nat := (0x0905, 0x04)

/-! Class `LightingCircuit` (0x0906), R457. -/
/-- `cell` of `LightingCircuit` (R457). -/
abbrev LightingCircuit.cell : Nat × Nat := (0x0906, 0x01)
/-- `contactor_handle` of `LightingCircuit` (R457). -/
abbrev LightingCircuit.contactorHandle : Nat × Nat := (0x0906, 0x02)
/-- `head_handle` of `LightingCircuit` (R457). -/
abbrev LightingCircuit.headHandle : Nat × Nat := (0x0906, 0x03)
/-- `state` of `LightingCircuit` (R457). -/
abbrev LightingCircuit.state : Nat × Nat := (0x0906, 0x04)
/-- `lanterns` of `LightingCircuit` (R457). -/
abbrev LightingCircuit.lanterns : Nat × Nat := (0x0906, 0x05)

/-! Class `LightingService` (0x0910), R444. -/
/-- `repeats` of `LightingService` (R444). -/
abbrev LightingService.repeats : Nat × Nat := (0x0910, 0x01)
/-- `repeat_gap_ms` of `LightingService` (R444). -/
abbrev LightingService.repeatGapMs : Nat × Nat := (0x0910, 0x02)
/-- `refresh_s` of `LightingService` (R444). -/
abbrev LightingService.refreshS : Nat × Nat := (0x0910, 0x03)
/-- `record_delay_s` of `LightingService` (R444). -/
abbrev LightingService.recordDelayS : Nat × Nat := (0x0910, 0x04)
/-- `fail_pct` of `LightingService` (R444). -/
abbrev LightingService.failPct : Nat × Nat := (0x0910, 0x05)
/-- `over_pct` of `LightingService` (R444). -/
abbrev LightingService.overPct : Nat × Nat := (0x0910, 0x06)
/-- `dayburn_floor_wh` of `LightingService` (R444). -/
abbrev LightingService.dayburnFloorWh : Nat × Nat := (0x0910, 0x07)
/-- `dayburn_intervals` of `LightingService` (R444). -/
abbrev LightingService.dayburnIntervals : Nat × Nat := (0x0910, 0x08)
/-- `silent_h` of `LightingService` (R444). -/
abbrev LightingService.silentH : Nat × Nat := (0x0910, 0x09)
/-- `campaign_night` of `LightingService` (R444). -/
abbrev LightingService.campaignNight : Nat × Nat := (0x0910, 0x0A)
/-- `campaign_restart_pct` of `LightingService` (R444). -/
abbrev LightingService.campaignRestartPct : Nat × Nat := (0x0910, 0x0B)
/-- `lookahead_truncated` of `LightingService` (R444). -/
abbrev LightingService.lookaheadTruncated : Nat × Nat := (0x0910, 0x0C)

/-! Class `MeasurementChannel` (0x0A01), R488. -/
/-- `enabled` of `MeasurementChannel` (R488). -/
abbrev MeasurementChannel.enabled : Nat × Nat := (0x0A01, 0x01)
/-- `units_per_volt` of `MeasurementChannel` (R488). -/
abbrev MeasurementChannel.unitsPerVolt : Nat × Nat := (0x0A01, 0x02)
/-- `gain_cal_ppm` of `MeasurementChannel` (R488). -/
abbrev MeasurementChannel.gainCalPpm : Nat × Nat := (0x0A01, 0x03)
/-- `offset_cal` of `MeasurementChannel` (R488). -/
abbrev MeasurementChannel.offsetCal : Nat × Nat := (0x0A01, 0x04)
/-- `phase_cal_ns` of `MeasurementChannel` (R488). -/
abbrev MeasurementChannel.phaseCalNs : Nat × Nat := (0x0A01, 0x05)
/-- `legacy_delay` of `MeasurementChannel` (R488). -/
abbrev MeasurementChannel.legacyDelay : Nat × Nat := (0x0A01, 0x06)
/-- `settling` of `MeasurementChannel` (R488). -/
abbrev MeasurementChannel.settling : Nat × Nat := (0x0A01, 0x07)
/-- `rms_half` of `MeasurementChannel` (R488). -/
abbrev MeasurementChannel.rmsHalf : Nat × Nat := (0x0A01, 0x08)
/-- `rms_interval` of `MeasurementChannel` (R488). -/
abbrev MeasurementChannel.rmsInterval : Nat × Nat := (0x0A01, 0x09)
/-- `overrange_count` of `MeasurementChannel` (R488). -/
abbrev MeasurementChannel.overrangeCount : Nat × Nat := (0x0A01, 0x0A)

/-! Class `MeasurementFeeder` (0x0A02), R489. -/
/-- `busbar` of `MeasurementFeeder` (R489). -/
abbrev MeasurementFeeder.busbar : Nat × Nat := (0x0A02, 0x01)
/-- `head_handle` of `MeasurementFeeder` (R489). -/
abbrev MeasurementFeeder.headHandle : Nat × Nat := (0x0A02, 0x02)
/-- `oc_a` of `MeasurementFeeder` (R489). -/
abbrev MeasurementFeeder.ocA : Nat × Nat := (0x0A02, 0x03)
/-- `oc_neutral_a` of `MeasurementFeeder` (R489). -/
abbrev MeasurementFeeder.ocNeutralA : Nat × Nat := (0x0A02, 0x04)
/-- `oc_hyst_pct` of `MeasurementFeeder` (R489). -/
abbrev MeasurementFeeder.ocHystPct : Nat × Nat := (0x0A02, 0x05)
/-- `persist` of `MeasurementFeeder` (R489). -/
abbrev MeasurementFeeder.persist : Nat × Nat := (0x0A02, 0x06)
/-- `p_w` of `MeasurementFeeder` (R489). -/
abbrev MeasurementFeeder.pW : Nat × Nat := (0x0A02, 0x07)
/-- `q_var` of `MeasurementFeeder` (R489). -/
abbrev MeasurementFeeder.qVar : Nat × Nat := (0x0A02, 0x08)

/-! Class `MeasurementBusbar` (0x0A03), R489. -/
/-- `nominal_v` of `MeasurementBusbar` (R489). -/
abbrev MeasurementBusbar.nominalV : Nat × Nat := (0x0A03, 0x01)
/-- `sag_level` of `MeasurementBusbar` (R489). -/
abbrev MeasurementBusbar.sagLevel : Nat × Nat := (0x0A03, 0x02)
/-- `swell_level` of `MeasurementBusbar` (R489). -/
abbrev MeasurementBusbar.swellLevel : Nat × Nat := (0x0A03, 0x03)
/-- `hysteresis` of `MeasurementBusbar` (R489). -/
abbrev MeasurementBusbar.hysteresis : Nat × Nat := (0x0A03, 0x04)
/-- `persist` of `MeasurementBusbar` (R489). -/
abbrev MeasurementBusbar.persist : Nat × Nat := (0x0A03, 0x05)
/-- `frequency_mhz` of `MeasurementBusbar` (R489). -/
abbrev MeasurementBusbar.frequencyMhz : Nat × Nat := (0x0A03, 0x06)

/-! Class `FirSet` (0x0A04), R490. -/
/-- `decimation` of `FirSet` (R490). -/
abbrev FirSet.decimation : Nat × Nat := (0x0A04, 0x01)
/-- `taps` of `FirSet` (R490). -/
abbrev FirSet.taps : Nat × Nat := (0x0A04, 0x02)
/-- `shift` of `FirSet` (R490). -/
abbrev FirSet.shift : Nat × Nat := (0x0A04, 0x03)
/-- `coefficients` of `FirSet` (R490). -/
abbrev FirSet.coefficients : Nat × Nat := (0x0A04, 0x04)
/-- `latency_ns` of `FirSet` (R490). -/
abbrev FirSet.latencyNs : Nat × Nat := (0x0A04, 0x05)

/-! Class `MeasurementService` (0x0A10), R490. -/
/-- `inputs_wired` of `MeasurementService` (R490). -/
abbrev MeasurementService.inputsWired : Nat × Nat := (0x0A10, 0x01)
/-- `fir_set` of `MeasurementService` (R490). -/
abbrev MeasurementService.firSet : Nat × Nat := (0x0A10, 0x02)
/-- `fir_set_active` of `MeasurementService` (R490). -/
abbrev MeasurementService.firSetActive : Nat × Nat := (0x0A10, 0x03)
/-- `overrange_limit_ms` of `MeasurementService` (R490). -/
abbrev MeasurementService.overrangeLimitMs : Nat × Nat := (0x0A10, 0x04)

/-! Class `IntervalRecord` (0x0B10), R525. -/

/-! Class `StoreService` (0x0B20), R527. -/
/-- `retention_policy` of `StoreService` (R527). -/
abbrev StoreService.retentionPolicy : Nat × Nat := (0x0B20, 0x01)
/-- `retention_days` of `StoreService` (R527). -/
abbrev StoreService.retentionDays : Nat × Nat := (0x0B20, 0x02)
/-- `media_state` of `StoreService` (R527). -/
abbrev StoreService.mediaState : Nat × Nat := (0x0B20, 0x03)
/-- `checkpoint_period_s` of `StoreService` (R527). -/
abbrev StoreService.checkpointPeriodS : Nat × Nat := (0x0B20, 0x04)
/-- `fold_delay_h` of `StoreService` (R527). -/
abbrev StoreService.foldDelayH : Nat × Nat := (0x0B20, 0x05)
/-- `gc_start_pct` of `StoreService` (R527). -/
abbrev StoreService.gcStartPct : Nat × Nat := (0x0B20, 0x06)
/-- `gc_stop_pct` of `StoreService` (R527). -/
abbrev StoreService.gcStopPct : Nat × Nat := (0x0B20, 0x07)
/-- `read_refresh_count` of `StoreService` (R527). -/
abbrev StoreService.readRefreshCount : Nat × Nat := (0x0B20, 0x08)
/-- `refresh_bits` of `StoreService` (R527). -/
abbrev StoreService.refreshBits : Nat × Nat := (0x0B20, 0x09)
/-- `refresh_age_days` of `StoreService` (R527). -/
abbrev StoreService.refreshAgeDays : Nat × Nat := (0x0B20, 0x0A)
/-- `wear_spread` of `StoreService` (R527). -/
abbrev StoreService.wearSpread : Nat × Nat := (0x0B20, 0x0B)
/-- `user_capacity_pct` of `StoreService` (R527). -/
abbrev StoreService.userCapacityPct : Nat × Nat := (0x0B20, 0x0C)
/-- `journal_gib` of `StoreService` (R527). -/
abbrev StoreService.journalGib : Nat × Nat := (0x0B20, 0x0D)
/-- `compression` of `StoreService` (R527). -/
abbrev StoreService.compression : Nat × Nat := (0x0B20, 0x0E)
/-- `retry_feature` of `StoreService` (R527). -/
abbrev StoreService.retryFeature : Nat × Nat := (0x0B20, 0x0F)
/-- `temp_feature` of `StoreService` (R527). -/
abbrev StoreService.tempFeature : Nat × Nat := (0x0B20, 0x10)

/-! Class `StoreHealth` (0x0B21), R528. -/
/-- `spare_left` of `StoreHealth` (R528). -/
abbrev StoreHealth.spareLeft : Nat × Nat := (0x0B21, 0x01)
/-- `wear_used` of `StoreHealth` (R528). -/
abbrev StoreHealth.wearUsed : Nat × Nat := (0x0B21, 0x02)
/-- `erase_max` of `StoreHealth` (R528). -/
abbrev StoreHealth.eraseMax : Nat × Nat := (0x0B21, 0x03)
/-- `corrected_bits` of `StoreHealth` (R528). -/
abbrev StoreHealth.correctedBits : Nat × Nat := (0x0B21, 0x04)
/-- `retries` of `StoreHealth` (R528). -/
abbrev StoreHealth.retries : Nat × Nat := (0x0B21, 0x05)
/-- `soft_decodes` of `StoreHealth` (R528). -/
abbrev StoreHealth.softDecodes : Nat × Nat := (0x0B21, 0x06)
/-- `uncorrectable` of `StoreHealth` (R528). -/
abbrev StoreHealth.uncorrectable : Nat × Nat := (0x0B21, 0x07)
/-- `program_fails` of `StoreHealth` (R528). -/
abbrev StoreHealth.programFails : Nat × Nat := (0x0B21, 0x08)
/-- `erase_fails` of `StoreHealth` (R528). -/
abbrev StoreHealth.eraseFails : Nat × Nat := (0x0B21, 0x09)
/-- `retired_blocks` of `StoreHealth` (R528). -/
abbrev StoreHealth.retiredBlocks : Nat × Nat := (0x0B21, 0x0A)
/-- `factory_bad` of `StoreHealth` (R528). -/
abbrev StoreHealth.factoryBad : Nat × Nat := (0x0B21, 0x0B)
/-- `refreshes` of `StoreHealth` (R528). -/
abbrev StoreHealth.refreshes : Nat × Nat := (0x0B21, 0x0C)
/-- `temp_hist` of `StoreHealth` (R528). -/
abbrev StoreHealth.tempHist : Nat × Nat := (0x0B21, 0x0D)
/-- `temp_max` of `StoreHealth` (R528). -/
abbrev StoreHealth.tempMax : Nat × Nat := (0x0B21, 0x0E)
/-- `compression_ratio` of `StoreHealth` (R528). -/
abbrev StoreHealth.compressionRatio : Nat × Nat := (0x0B21, 0x0F)
/-- `write_amp` of `StoreHealth` (R528). -/
abbrev StoreHealth.writeAmp : Nat × Nat := (0x0B21, 0x10)

/-! Class `RootSlot` (0x0C01), R563. -/
/-- `state` of `RootSlot` (R563). -/
abbrev RootSlot.state : Nat × Nat := (0x0C01, 0x01)
/-- `value` of `RootSlot` (R563). -/
abbrev RootSlot.value : Nat × Nat := (0x0C01, 0x02)
/-- `tag` of `RootSlot` (R563). -/
abbrev RootSlot.tag : Nat × Nat := (0x0C01, 0x03)

/-! Class `GloveboxService` (0x0C10), R563. -/
/-- `sealed` of `GloveboxService` (R563). -/
abbrev GloveboxService.sealed : Nat × Nat := (0x0C10, 0x01)
/-- `otp_locked` of `GloveboxService` (R563). -/
abbrev GloveboxService.otpLocked : Nat × Nat := (0x0C10, 0x02)
/-- `test_roots` of `GloveboxService` (R563). -/
abbrev GloveboxService.testRoots : Nat × Nat := (0x0C10, 0x03)
/-- `trip_count` of `GloveboxService` (R563). -/
abbrev GloveboxService.tripCount : Nat × Nat := (0x0C10, 0x04)
/-- `kek_generation` of `GloveboxService` (R563). -/
abbrev GloveboxService.kekGeneration : Nat × Nat := (0x0C10, 0x05)
/-- `key_grace_s` of `GloveboxService` (R563). -/
abbrev GloveboxService.keyGraceS : Nat × Nat := (0x0C10, 0x06)
/-- `beacon_key_unconfirmed` of `GloveboxService` (R563). -/
abbrev GloveboxService.beaconKeyUnconfirmed : Nat × Nat := (0x0C10, 0x07)
/-- `attest_public` of `GloveboxService` (R563). -/
abbrev GloveboxService.attestPublic : Nat × Nat := (0x0C10, 0x08)
/-- `attest_certificate` of `GloveboxService` (R563). -/
abbrev GloveboxService.attestCertificate : Nat × Nat := (0x0C10, 0x09)

/-! Class `TamperSource` (0x0C11), R563. -/
/-- `class` of `TamperSource` (R563). -/
abbrev TamperSource.klass : Nat × Nat := (0x0C11, 0x01)
/-- `active_level` of `TamperSource` (R563). -/
abbrev TamperSource.activeLevel : Nat × Nat := (0x0C11, 0x02)
/-- `debounce_ms` of `TamperSource` (R563). -/
abbrev TamperSource.debounceMs : Nat × Nat := (0x0C11, 0x03)
/-- `active` of `TamperSource` (R563). -/
abbrev TamperSource.active : Nat × Nat := (0x0C11, 0x04)
/-- `trips` of `TamperSource` (R563). -/
abbrev TamperSource.trips : Nat × Nat := (0x0C11, 0x05)

/-! Class `RoleCredential` (0x0C20), R558. -/
/-- `role` of `RoleCredential` (R558). -/
abbrev RoleCredential.role : Nat × Nat := (0x0C20, 0x01)
/-- `public_key` of `RoleCredential` (R558). -/
abbrev RoleCredential.publicKey : Nat × Nat := (0x0C20, 0x02)
/-- `cert_digest` of `RoleCredential` (R558). -/
abbrev RoleCredential.certDigest : Nat × Nat := (0x0C20, 0x03)
/-- `locked_until` of `RoleCredential` (R558). -/
abbrev RoleCredential.lockedUntil : Nat × Nat := (0x0C20, 0x04)

/-! Class `EndpointKey` (0x0C30), R563. -/
/-- `generation` of `EndpointKey` (R563). -/
abbrev EndpointKey.generation : Nat × Nat := (0x0C30, 0x01)
/-- `pending_generation` of `EndpointKey` (R563). -/
abbrev EndpointKey.pendingGeneration : Nat × Nat := (0x0C30, 0x02)
/-- `previous_generation` of `EndpointKey` (R563). -/
abbrev EndpointKey.previousGeneration : Nat × Nat := (0x0C30, 0x03)
/-- `suite` of `EndpointKey` (R563). -/
abbrev EndpointKey.suite : Nat × Nat := (0x0C30, 0x04)
/-- `key_state` of `EndpointKey` (R563). -/
abbrev EndpointKey.keyState : Nat × Nat := (0x0C30, 0x05)
/-- `blob_tag` of `EndpointKey` (R563). -/
abbrev EndpointKey.blobTag : Nat × Nat := (0x0C30, 0x06)

/-! Class `TimeService` (0x0D01), R602. -/
/-- `jump_threshold_ns` of `TimeService` (R602). -/
abbrev TimeService.jumpThresholdNs : Nat × Nat := (0x0D01, 0x01)
/-- `slew_ppm` of `TimeService` (R602). -/
abbrev TimeService.slewPpm : Nat × Nat := (0x0D01, 0x02)
/-- `auto_step` of `TimeService` (R602). -/
abbrev TimeService.autoStep : Nat × Nat := (0x0D01, 0x03)
/-- `jump_confirm_s` of `TimeService` (R602). -/
abbrev TimeService.jumpConfirmS : Nat × Nat := (0x0D01, 0x04)
/-- `step_max_s` of `TimeService` (R602). -/
abbrev TimeService.stepMaxS : Nat × Nat := (0x0D01, 0x05)
/-- `boot_accept_s` of `TimeService` (R602). -/
abbrev TimeService.bootAcceptS : Nat × Nat := (0x0D01, 0x06)
/-- `revert_s` of `TimeService` (R602). -/
abbrev TimeService.revertS : Nat × Nat := (0x0D01, 0x07)
/-- `state` of `TimeService` (R602). -/
abbrev TimeService.state : Nat × Nat := (0x0D01, 0x08)
/-- `selected` of `TimeService` (R602). -/
abbrev TimeService.selected : Nat × Nat := (0x0D01, 0x09)
/-- `pending_offset_ns` of `TimeService` (R602). -/
abbrev TimeService.pendingOffsetNs : Nat × Nat := (0x0D01, 0x0A)
/-- `steps` of `TimeService` (R602). -/
abbrev TimeService.steps : Nat × Nat := (0x0D01, 0x0B)
/-- `refusals` of `TimeService` (R602). -/
abbrev TimeService.refusals : Nat × Nat := (0x0D01, 0x0C)

/-! Class `TimeDomain` (0x0D02), R602. -/
/-- `source_port` of `TimeDomain` (R602). -/
abbrev TimeDomain.sourcePort : Nat × Nat := (0x0D02, 0x01)
/-- `ptp_domain` of `TimeDomain` (R602). -/
abbrev TimeDomain.ptpDomain : Nat × Nat := (0x0D02, 0x02)
/-- `lock_ns` of `TimeDomain` (R602). -/
abbrev TimeDomain.lockNs : Nat × Nat := (0x0D02, 0x03)
/-- `loss_timeout_s` of `TimeDomain` (R602). -/
abbrev TimeDomain.lossTimeoutS : Nat × Nat := (0x0D02, 0x04)
/-- `lock_state` of `TimeDomain` (R602). -/
abbrev TimeDomain.lockState : Nat × Nat := (0x0D02, 0x05)
/-- `offset_to_d2_ns` of `TimeDomain` (R602). -/
abbrev TimeDomain.offsetToD2Ns : Nat × Nat := (0x0D02, 0x06)
/-- `freq_ppb` of `TimeDomain` (R602). -/
abbrev TimeDomain.freqPpb : Nat × Nat := (0x0D02, 0x07)

/-! Class `PtpPort` (0x0D03), R602. -/
/-- `profile` of `PtpPort` (R602). -/
abbrev PtpPort.profile : Nat × Nat := (0x0D03, 0x01)
/-- `master` of `PtpPort` (R602). -/
abbrev PtpPort.master : Nat × Nat := (0x0D03, 0x02)
/-- `transport` of `PtpPort` (R602). -/
abbrev PtpPort.transport : Nat × Nat := (0x0D03, 0x03)
/-- `one_step` of `PtpPort` (R602). -/
abbrev PtpPort.oneStep : Nat × Nat := (0x0D03, 0x04)
/-- `sync_log_interval` of `PtpPort` (R602). -/
abbrev PtpPort.syncLogInterval : Nat × Nat := (0x0D03, 0x05)
/-- `rx_latency_ns` of `PtpPort` (R602). -/
abbrev PtpPort.rxLatencyNs : Nat × Nat := (0x0D03, 0x06)
/-- `tx_latency_ns` of `PtpPort` (R602). -/
abbrev PtpPort.txLatencyNs : Nat × Nat := (0x0D03, 0x07)

/-! Class `RealTimeClock` (0x0D10), R602. -/
/-- `host_write` of `RealTimeClock` (R602). -/
abbrev RealTimeClock.hostWrite : Nat × Nat := (0x0D10, 0x01)
/-- `tcomp_enable` of `RealTimeClock` (R602). -/
abbrev RealTimeClock.tcompEnable : Nat × Nat := (0x0D10, 0x02)
/-- `tcomp_period_s` of `RealTimeClock` (R602). -/
abbrev RealTimeClock.tcompPeriodS : Nat × Nat := (0x0D10, 0x03)
/-- `tcomp_curve` of `RealTimeClock` (R602). -/
abbrev RealTimeClock.tcompCurve : Nat × Nat := (0x0D10, 0x04)
/-- `aging_offset` of `RealTimeClock` (R602). -/
abbrev RealTimeClock.agingOffset : Nat × Nat := (0x0D10, 0x05)
/-- `trim_now` of `RealTimeClock` (R602). -/
abbrev RealTimeClock.trimNow : Nat × Nat := (0x0D10, 0x06)
/-- `temperature` of `RealTimeClock` (R602). -/
abbrev RealTimeClock.temperature : Nat × Nat := (0x0D10, 0x07)

/-! Class `RtcAlarm` (0x0D11), R602. -/
/-- `instant` of `RtcAlarm` (R602). -/
abbrev RtcAlarm.instant : Nat × Nat := (0x0D11, 0x01)
/-- `period_s` of `RtcAlarm` (R602). -/
abbrev RtcAlarm.periodS : Nat × Nat := (0x0D11, 0x02)
/-- `enable` of `RtcAlarm` (R602). -/
abbrev RtcAlarm.enable : Nat × Nat := (0x0D11, 0x03)
/-- `catchup` of `RtcAlarm` (R602). -/
abbrev RtcAlarm.catchup : Nat × Nat := (0x0D11, 0x04)
/-- `irq_enable` of `RtcAlarm` (R602). -/
abbrev RtcAlarm.irqEnable : Nat × Nat := (0x0D11, 0x05)
/-- `last_fire` of `RtcAlarm` (R602). -/
abbrev RtcAlarm.lastFire : Nat × Nat := (0x0D11, 0x06)

/-! Class `Federation` (0x0E01), R630. -/
/-- `federation_id` of `Federation` (R630). -/
abbrev Federation.federationId : Nat × Nat := (0x0E01, 0x01)
/-- `epoch` of `Federation` (R630). -/
abbrev Federation.epoch : Nat × Nat := (0x0E01, 0x02)
/-- `cobor_udp_port` of `Federation` (R630). -/
abbrev Federation.coborUdpPort : Nat × Nat := (0x0E01, 0x03)
/-- `cobor_auth_fails` of `Federation` (R630). -/
abbrev Federation.coborAuthFails : Nat × Nat := (0x0E01, 0x04)
/-- `member_timeout_ms` of `Federation` (R630). -/
abbrev Federation.memberTimeoutMs : Nat × Nat := (0x0E01, 0x05)
/-- `replica_lag_ms` of `Federation` (R630). -/
abbrev Federation.replicaLagMs : Nat × Nat := (0x0E01, 0x06)
/-- `replica_wait_ms` of `Federation` (R630). -/
abbrev Federation.replicaWaitMs : Nat × Nat := (0x0E01, 0x07)
/-- `rebalance_pct` of `Federation` (R630). -/
abbrev Federation.rebalancePct : Nat × Nat := (0x0E01, 0x08)

/-! Class `ServicePosture` (0x0E02), R24. -/
/-- `posture` of `ServicePosture` (R24). -/
abbrev ServicePosture.posture : Nat × Nat := (0x0E02, 0x01)

/-! Class `TwinPair` (0x0E10), R754. -/
/-- `pair_lane` of `TwinPair` (R754). -/
abbrev TwinPair.pairLane : Nat × Nat := (0x0E10, 0x01)
/-- `partner_eui` of `TwinPair` (R754). -/
abbrev TwinPair.partnerEui : Nat × Nat := (0x0E10, 0x02)
/-- `pair_state` of `TwinPair` (R754). -/
abbrev TwinPair.pairState : Nat × Nat := (0x0E10, 0x03)
/-- `self_castle` of `TwinPair` (R754). -/
abbrev TwinPair.selfCastle : Nat × Nat := (0x0E10, 0x04)
/-- `castle_gap_fclk` of `TwinPair` (R754). -/
abbrev TwinPair.castleGapFclk : Nat × Nat := (0x0E10, 0x05)
/-- `counter_reserve` of `TwinPair` (R754). -/
abbrev TwinPair.counterReserve : Nat × Nat := (0x0E10, 0x06)
/-- `solo_after_ms` of `TwinPair` (R754). -/
abbrev TwinPair.soloAfterMs : Nat × Nat := (0x0E10, 0x07)
/-- `health_period_s` of `TwinPair` (R754). -/
abbrev TwinPair.healthPeriodS : Nat × Nat := (0x0E10, 0x08)
/-- `health` of `TwinPair` (R754). -/
abbrev TwinPair.health : Nat × Nat := (0x0E10, 0x09)
/-- `fit` of `TwinPair` (R754). -/
abbrev TwinPair.fit : Nat × Nat := (0x0E10, 0x0A)
/-- `side` of `TwinPair` (R754). -/
abbrev TwinPair.side : Nat × Nat := (0x0E10, 0x0B)
/-- `role` of `TwinPair` (R754). -/
abbrev TwinPair.role : Nat × Nat := (0x0E10, 0x0C)

/-! Class `FederationMember` (0x0E20), R630. -/
/-- `eui` of `FederationMember` (R630). -/
abbrev FederationMember.eui : Nat × Nat := (0x0E20, 0x01)
/-- `address_kind` of `FederationMember` (R630). -/
abbrev FederationMember.addressKind : Nat × Nat := (0x0E20, 0x02)
/-- `lane` of `FederationMember` (R630). -/
abbrev FederationMember.lane : Nat × Nat := (0x0E20, 0x03)
/-- `ipv6` of `FederationMember` (R630). -/
abbrev FederationMember.ipv6 : Nat × Nat := (0x0E20, 0x04)
/-- `capacity_weight` of `FederationMember` (R630). -/
abbrev FederationMember.capacityWeight : Nat × Nat := (0x0E20, 0x05)
/-- `versions` of `FederationMember` (R630). -/
abbrev FederationMember.versions : Nat × Nat := (0x0E20, 0x06)
/-- `state` of `FederationMember` (R630). -/
abbrev FederationMember.state : Nat × Nat := (0x0E20, 0x07)

/-! Class `EndpointPlacement` (0x0E30), R634. -/
/-- `home` of `EndpointPlacement` (R634). -/
abbrev EndpointPlacement.home : Nat × Nat := (0x0E30, 0x01)
/-- `replica` of `EndpointPlacement` (R634). -/
abbrev EndpointPlacement.replica : Nat × Nat := (0x0E30, 0x02)

/-! Class `CellPlan` (0x0E40), R637. -/
/-- `target_member` of `CellPlan` (R637). -/
abbrev CellPlan.targetMember : Nat × Nat := (0x0E40, 0x01)
/-- `target_port` of `CellPlan` (R637). -/
abbrev CellPlan.targetPort : Nat × Nat := (0x0E40, 0x02)
/-- `target_cell` of `CellPlan` (R637). -/
abbrev CellPlan.targetCell : Nat × Nat := (0x0E40, 0x03)

/-! Class `FirmwareImage` (0x0F01), R667. -/
/-- `state` of `FirmwareImage` (R667). -/
abbrev FirmwareImage.state : Nat × Nat := (0x0F01, 0x01)
/-- `version` of `FirmwareImage` (R667). -/
abbrev FirmwareImage.version : Nat × Nat := (0x0F01, 0x02)
/-- `security_version` of `FirmwareImage` (R667). -/
abbrev FirmwareImage.securityVersion : Nat × Nat := (0x0F01, 0x03)
/-- `settings_generation` of `FirmwareImage` (R667). -/
abbrev FirmwareImage.settingsGeneration : Nat × Nat := (0x0F01, 0x04)
/-- `format_masks` of `FirmwareImage` (R667). -/
abbrev FirmwareImage.formatMasks : Nat × Nat := (0x0F01, 0x05)

/-! Class `SettingsGeneration` (0x0F02), R667. -/
/-- `state` of `SettingsGeneration` (R667). -/
abbrev SettingsGeneration.state : Nat × Nat := (0x0F02, 0x01)
/-- `sequence` of `SettingsGeneration` (R667). -/
abbrev SettingsGeneration.sequence : Nat × Nat := (0x0F02, 0x02)
/-- `format` of `SettingsGeneration` (R667). -/
abbrev SettingsGeneration.format : Nat × Nat := (0x0F02, 0x03)
/-- `writer_version` of `SettingsGeneration` (R667). -/
abbrev SettingsGeneration.writerVersion : Nat × Nat := (0x0F02, 0x04)

/-! Class `UpdateService` (0x0F10), R667. -/
/-- `confirm_window_s` of `UpdateService` (R667). -/
abbrev UpdateService.confirmWindowS : Nat × Nat := (0x0F10, 0x01)
/-- `security_floor` of `UpdateService` (R667). -/
abbrev UpdateService.securityFloor : Nat × Nat := (0x0F10, 0x02)
/-- `trial_remaining_s` of `UpdateService` (R667). -/
abbrev UpdateService.trialRemainingS : Nat × Nat := (0x0F10, 0x03)

/-! Class `EndpointCampaign` (0x0F20), R667. -/
/-- `state` of `EndpointCampaign` (R667). -/
abbrev EndpointCampaign.state : Nat × Nat := (0x0F20, 0x01)
/-- `counts` of `EndpointCampaign` (R667). -/
abbrev EndpointCampaign.counts : Nat × Nat := (0x0F20, 0x02)

/-! Class `CampaignTarget` (0x0F21), R667. -/
/-- `state` of `CampaignTarget` (R667). -/
abbrev CampaignTarget.state : Nat × Nat := (0x0F21, 0x01)
/-- `blocks_held` of `CampaignTarget` (R667). -/
abbrev CampaignTarget.blocksHeld : Nat × Nat := (0x0F21, 0x02)

/-! Class `FaultService` (0x1001), R699. -/
/-- `err_pulse_ms` of `FaultService` (R699). -/
abbrev FaultService.errPulseMs : Nat × Nat := (0x1001, 0x01)
/-- `auto_unfence_limit` of `FaultService` (R699). -/
abbrev FaultService.autoUnfenceLimit : Nat × Nat := (0x1001, 0x02)
/-- `stalemate_reset_s` of `FaultService` (R699). -/
abbrev FaultService.stalemateResetS : Nat × Nat := (0x1001, 0x03)

/-! Class `FaultSource` (0x1002), R699. -/
/-- `class` of `FaultSource` (R699). -/
abbrev FaultSource.klass : Nat × Nat := (0x1002, 0x01)
/-- `reaction` of `FaultSource` (R699). -/
abbrev FaultSource.reaction : Nat × Nat := (0x1002, 0x02)
/-- `err_pin` of `FaultSource` (R699). -/
abbrev FaultSource.errPin : Nat × Nat := (0x1002, 0x03)
/-- `latched` of `FaultSource` (R699). -/
abbrev FaultSource.latched : Nat × Nat := (0x1002, 0x04)
/-- `count` of `FaultSource` (R699). -/
abbrev FaultSource.count : Nat × Nat := (0x1002, 0x05)

/-! Class `FenceUnit` (0x1003), R699. -/
/-- `fenced` of `FenceUnit` (R699). -/
abbrev FenceUnit.fenced : Nat × Nat := (0x1003, 0x01)
/-- `cause` of `FenceUnit` (R699). -/
abbrev FenceUnit.cause : Nat × Nat := (0x1003, 0x02)
/-- `auto_resets` of `FenceUnit` (R699). -/
abbrev FenceUnit.autoResets : Nat × Nat := (0x1003, 0x03)
/-- `last_test` of `FenceUnit` (R699). -/
abbrev FenceUnit.lastTest : Nat × Nat := (0x1003, 0x04)

/-! Class `SafetyFunction` (0x1004), R699. -/
/-- `safe_state` of `SafetyFunction` (R699). -/
abbrev SafetyFunction.safeState : Nat × Nat := (0x1004, 0x01)
/-- `detections` of `SafetyFunction` (R699). -/
abbrev SafetyFunction.detections : Nat × Nat := (0x1004, 0x02)
/-- `policy_digest` of `SafetyFunction` (R699). -/
abbrev SafetyFunction.policyDigest : Nat × Nat := (0x1004, 0x03)

/-! Class `MaintenanceArbiter` (0x1010), R699. -/
/-- `admitted` of `MaintenanceArbiter` (R699). -/
abbrev MaintenanceArbiter.admitted : Nat × Nat := (0x1010, 0x01)
/-- `deferred` of `MaintenanceArbiter` (R699). -/
abbrev MaintenanceArbiter.deferred : Nat × Nat := (0x1010, 0x02)

/-! Class `GpioPin` (0x0120), R727. -/
/-- `direction` of `GpioPin` (R727). -/
abbrev GpioPin.direction : Nat × Nat := (0x0120, 0x01)
/-- `level` of `GpioPin` (R727). -/
abbrev GpioPin.level : Nat × Nat := (0x0120, 0x02)

/-! Class `HardwareQueue` (0x1101), R703. -/
/-- `location` of `HardwareQueue` (R703). -/
abbrev HardwareQueue.location : Nat × Nat := (0x1101, 0x01)
/-- `size_words` of `HardwareQueue` (R703). -/
abbrev HardwareQueue.sizeWords : Nat × Nat := (0x1101, 0x02)
/-- `producer` of `HardwareQueue` (R703). -/
abbrev HardwareQueue.producer : Nat × Nat := (0x1101, 0x03)
/-- `consumer` of `HardwareQueue` (R703). -/
abbrev HardwareQueue.consumer : Nat × Nat := (0x1101, 0x04)
/-- `ct_words` of `HardwareQueue` (R703). -/
abbrev HardwareQueue.ctWords : Nat × Nat := (0x1101, 0x05)
/-- `high_water_pct` of `HardwareQueue` (R703). -/
abbrev HardwareQueue.highWaterPct : Nat × Nat := (0x1101, 0x06)
/-- `host_role` of `HardwareQueue` (R703). -/
abbrev HardwareQueue.hostRole : Nat × Nat := (0x1101, 0x07)
/-- `words_used` of `HardwareQueue` (R703). -/
abbrev HardwareQueue.wordsUsed : Nat × Nat := (0x1101, 0x08)
/-- `items` of `HardwareQueue` (R703). -/
abbrev HardwareQueue.items : Nat × Nat := (0x1101, 0x09)
/-- `counters` of `HardwareQueue` (R703). -/
abbrev HardwareQueue.counters : Nat × Nat := (0x1101, 0x0A)

/-! Class `EventRecorder` (0x1110), R722. -/
/-- `head` of `EventRecorder` (R722). -/
abbrev EventRecorder.head : Nat × Nat := (0x1110, 0x01)
/-- `oldest` of `EventRecorder` (R722). -/
abbrev EventRecorder.oldest : Nat × Nat := (0x1110, 0x02)
/-- `mirrored` of `EventRecorder` (R722). -/
abbrev EventRecorder.mirrored : Nat × Nat := (0x1110, 0x03)
/-- `dropped` of `EventRecorder` (R722). -/
abbrev EventRecorder.dropped : Nat × Nat := (0x1110, 0x04)
/-- `overflow_records` of `EventRecorder` (R722). -/
abbrev EventRecorder.overflowRecords : Nat × Nat := (0x1110, 0x05)
/-- `mirror_gaps` of `EventRecorder` (R722). -/
abbrev EventRecorder.mirrorGaps : Nat × Nat := (0x1110, 0x06)

/-! Class `EventRecord` (0x1111), R721. -/
/-- `record` of `EventRecord` (R721). -/
abbrev EventRecord.record : Nat × Nat := (0x1111, 0x01)

end Sys2Proof.Attr

namespace Sys2Proof.Classes

/-- Class `SystemIdentity` (0x0101), R3. -/
def systemIdentity : ClassInfo where
  id := 0x0101
  insts := .fixed 1
  domains := [1, 20]
  attrs :=
   [⟨0x01, .enum, false, .num 0, 0, 2⟩]

/-- Class `SystemMode` (0x0102), R101. -/
def systemMode : ClassInfo where
  id := 0x0102
  insts := .fixed 1
  domains := [1]
  attrs :=
   [⟨0x01, .enum, false, .num 15, 0, 15⟩,
    ⟨0x02, .u8, false, .num 0, 0, 63⟩,
    ⟨0x03, .arr 0xA 16 0 4, true, .arr [], 0, 340282366920938463463374607431768211455⟩]

/-- Class `MailboxService` (0x0110), R750. -/
def mailboxService : ClassInfo where
  id := 0x0110
  insts := .fixed 1
  domains := [2]
  attrs :=
   [⟨0x01, .u32, true, .num 60, 10, 600⟩,
    ⟨0x02, .u16, true, .num 4812, 0, 65535⟩]

/-- Class `LinePort` (0x0201), R174. -/
def linePort : ClassInfo where
  id := 0x0201
  insts := .fixed 16
  domains := [4, 5]
  attrs :=
   [⟨0x01, .enum, true, .num 0, 0, 3⟩,
    ⟨0x02, .enum, true, .num 0, 0, 3⟩,
    ⟨0x03, .u8, true, .num 0, 0, 255⟩,
    ⟨0x04, .u32, true, .num 0, 0, 1000000⟩,
    ⟨0x05, .arr 0x1 1 5 5, true, .arr [40, 80, 120, 160, 200], 0, 255⟩,
    ⟨0x06, .u8, true, .num 12, 0, 255⟩,
    ⟨0x07, .path, true, .num 0x0203000000000000, 0, 18446744073709551615⟩,
    ⟨0x08, .u8, true, .num 0, 0, 60⟩,
    ⟨0x09, .u8, true, .num 0, 0, 8⟩,
    ⟨0x0A, .u8, true, .num 12, 6, 24⟩,
    ⟨0x0B, .bool, false, .num 0, 0, 1⟩,
    ⟨0x0C, .u32, false, .num 0, 0, 4294967295⟩,
    ⟨0x0D, .u8, false, .num 0, 0, 255⟩,
    ⟨0x10, .u16, true, .num 2048, 1024, 4096⟩,
    ⟨0x11, .u8, true, .num 7, 1, 15⟩,
    ⟨0x12, .u8, true, .num 10, 6, 20⟩,
    ⟨0x13, .u8, true, .num 4, 0, 80⟩,
    ⟨0x14, .bool, true, .num 1, 0, 1⟩,
    ⟨0x15, .u16, false, .num 512, 0, 65535⟩,
    ⟨0x16, .bool, true, .num 0, 0, 1⟩,
    ⟨0x17, .u16, true, .num 0, 0, 1023⟩,
    ⟨0x18, .u32, false, .num 0, 0, 4294967295⟩,
    ⟨0x19, .u32, false, .num 0, 0, 4294967295⟩,
    ⟨0x1A, .u32, false, .num 0, 0, 4294967295⟩]

/-- Class `LineLane` (0x0202), R175. -/
def lineLane : ClassInfo where
  id := 0x0202
  insts := .fixed 48
  domains := [4]
  attrs :=
   [⟨0x01, .enum, false, .num 0, 0, 3⟩,
    ⟨0x02, .u16, false, .num 0, 0, 65535⟩,
    ⟨0x03, .u8, true, .num 12, 8, 16⟩,
    ⟨0x04, .u8, true, .num 40, 0, 255⟩,
    ⟨0x05, .u8, true, .num 45, 0, 255⟩,
    ⟨0x06, .s32, true, .num 0, (-2147483648), 2147483647⟩,
    ⟨0x07, .u32, false, .num 0, 0, 4294967295⟩,
    ⟨0x08, .u32, false, .num 0, 0, 4294967295⟩]

/-- Class `NotchMask` (0x0203), R147. -/
def notchMask : ClassInfo where
  id := 0x0203
  insts := .fixed 16
  domains := [4]
  attrs :=
   [⟨0x01, .arr 0x2 2 0 64, true, .arr [], 0, 65535⟩]

/-- Class `LineCell` (0x0210), R216. -/
def lineCell : ClassInfo where
  id := 0x0210
  insts := .dynamic
  domains := [5, 8]
  attrs :=
   [⟨0x01, .u8, false, .num 0, 0, 255⟩,
    ⟨0x02, .enum, false, .num 0, 0, 1⟩,
    ⟨0x03, .enum, false, .num 0, 0, 1⟩,
    ⟨0x04, .u16, true, .num 8000, 250, 16000⟩,
    ⟨0x05, .u8, false, .num 0, 0, 255⟩,
    ⟨0x06, .bool, true, .num 1, 0, 1⟩,
    ⟨0x07, .u64, false, .num 0, 0, 18446744073709551615⟩,
    ⟨0x08, .u16, false, .num 0, 0, 65535⟩,
    ⟨0x09, .u16, false, .num 0, 0, 65535⟩,
    ⟨0x0A, .enum, false, .num 0, 0, 3⟩,
    ⟨0x0B, .u32, false, .num 0, 0, 4294967295⟩,
    ⟨0x0C, .u16, true, .num 30, 0, 65535⟩,
    ⟨0x0D, .u16, false, .num 0, 0, 65535⟩]

/-- Class `LineLink` (0x0220), R176. -/
def lineLink : ClassInfo where
  id := 0x0220
  insts := .dynamic
  domains := [4]
  attrs :=
   [⟨0x01, .arr 0x2 2 6 6, false, .arr [0, 0, 0, 0, 0, 0], 0, 65535⟩,
    ⟨0x02, .arr 0x3 4 6 6, false, .arr [0, 0, 0, 0, 0, 0], 0, 4294967295⟩,
    ⟨0x03, .u32, false, .num 0, 0, 4294967295⟩,
    ⟨0x04, .u64, false, .num 0, 0, 18446744073709551615⟩,
    ⟨0x05, .u32, false, .num 0, 0, 4294967295⟩,
    ⟨0x06, .u64, false, .num 0, 0, 18446744073709551615⟩,
    ⟨0x07, .u64, false, .num 0, 0, 18446744073709551615⟩,
    ⟨0x08, .u64, false, .num 0, 0, 18446744073709551615⟩,
    ⟨0x09, .arr 0x3 4 6 6, false, .arr [0, 0, 0, 0, 0, 0], 0, 4294967295⟩,
    ⟨0x0A, .bytes, false, .bytes (List.replicate 30 0), 0, 0⟩,
    ⟨0x0B, .u32, false, .num 0, 0, 4294967295⟩,
    ⟨0x0C, .u32, false, .num 0, 0, 4294967295⟩,
    ⟨0x0D, .u16, false, .num 0, 0, 65535⟩,
    ⟨0x0E, .u8, false, .num 1, 0, 255⟩,
    ⟨0x0F, .bytes, false, .bytes (List.replicate 987 0), 0, 0⟩]

/-- Class `RadioPort` (0x0301), R254. -/
def radioPort : ClassInfo where
  id := 0x0301
  insts := .fixed 16
  domains := [6]
  attrs :=
   [⟨0x01, .enum, true, .num 0, 0, 2⟩,
    ⟨0x02, .u8, true, .num 0, 0, 7⟩,
    ⟨0x03, .u32, true, .num 868300, 0, 4294967295⟩,
    ⟨0x04, .u8, true, .num 1, 0, 255⟩,
    ⟨0x05, .enum, true, .num 1, 0, 3⟩,
    ⟨0x06, .bytes, true, .bytes [], 0, 0⟩,
    ⟨0x07, .bytes, true, .bytes [], 0, 0⟩,
    ⟨0x08, .u8, true, .num 40, 10, 100⟩,
    ⟨0x09, .u8, true, .num 20, 0, 100⟩,
    ⟨0x0A, .u8, true, .num 75, 10, 100⟩,
    ⟨0x0B, .u64, false, .num 0, 0, 18446744073709551615⟩,
    ⟨0x0C, .u32, false, .num 0, 0, 4294967295⟩,
    ⟨0x0D, .u32, false, .num 0, 0, 4294967295⟩,
    ⟨0x0E, .u32, false, .num 0, 0, 4294967295⟩,
    ⟨0x0F, .u32, false, .num 0, 0, 4294967295⟩,
    ⟨0x10, .u32, true, .num 0, 0, 4294967295⟩]

/-- Class `BandProfile` (0x0302), R249. -/
def bandProfile : ClassInfo where
  id := 0x0302
  insts := .fixed 8
  domains := [6]
  attrs :=
   [⟨0x01, .bytes, false, .bytes [], 0, 0⟩]

/-- Class `ChessLedger` (0x0303), R256. -/
def chessLedger : ClassInfo where
  id := 0x0303
  insts := .dynamic
  domains := [6]
  attrs :=
   [⟨0x01, .u64, false, .num 0, 0, 18446744073709551615⟩,
    ⟨0x02, .u64, false, .num 0, 0, 18446744073709551615⟩,
    ⟨0x03, .u64, false, .num 0, 0, 18446744073709551615⟩,
    ⟨0x04, .arr 0x3 4 64 64, false, .arr (List.replicate 64 0), 0, 4294967295⟩,
    ⟨0x05, .u32, false, .num 0, 0, 4294967295⟩]

/-- Class `RadioPan` (0x0310), R255. -/
def radioPan : ClassInfo where
  id := 0x0310
  insts := .dynamic
  domains := [6, 8]
  attrs :=
   [⟨0x01, .u8, false, .num 0, 0, 255⟩,
    ⟨0x02, .enum, false, .num 0, 1, 2⟩,
    ⟨0x03, .u16, true, .num 0, 0, 65535⟩,
    ⟨0x04, .enum, true, .num 0, 0, 255⟩,
    ⟨0x05, .u16, true, .num 8000, 0, 65535⟩,
    ⟨0x06, .u8, false, .num 0, 0, 255⟩,
    ⟨0x07, .u8, true, .num 0, 0, 15⟩,
    ⟨0x08, .bool, true, .num 1, 0, 1⟩,
    ⟨0x09, .u16, false, .num 0, 0, 65535⟩,
    ⟨0x0A, .enum, false, .num 0, 0, 3⟩,
    ⟨0x0B, .u32, false, .num 0, 0, 4294967295⟩,
    ⟨0x0C, .u16, true, .num 30, 0, 65535⟩]

/-- Class `EndpointLocator` (0x0401), R293. -/
def endpointLocator : ClassInfo where
  id := 0x0401
  insts := .dynamic
  domains := [8]
  attrs :=
   [⟨0x01, .u64, false, .num 0, 0, 18446744073709551615⟩,
    ⟨0x02, .u8, false, .num 63, 0, 255⟩,
    ⟨0x03, .u16, false, .num 0, 0, 65535⟩,
    ⟨0x04, .u16, false, .num 0xFFFE, 0, 65535⟩,
    ⟨0x05, .u16, false, .num 0, 0, 65535⟩,
    ⟨0x06, .u8, false, .num 63, 0, 255⟩,
    ⟨0x07, .u16, false, .num 0, 0, 65535⟩,
    ⟨0x08, .u16, false, .num 0xFFFE, 0, 65535⟩,
    ⟨0x09, .u16, false, .num 0, 0, 65535⟩,
    ⟨0x0A, .u8, false, .num 0, 0, 255⟩,
    ⟨0x0B, .bool, true, .num 0, 0, 1⟩]

/-- Class `LocatorTable` (0x0402), R294. -/
def locatorTable : ClassInfo where
  id := 0x0402
  insts := .fixed 1
  domains := [8]
  attrs :=
   [⟨0x01, .u64, false, .num 0, 0, 18446744073709551615⟩,
    ⟨0x02, .u64, false, .num 0, 0, 18446744073709551615⟩,
    ⟨0x03, .u32, true, .num 2000, 100, 60000⟩,
    ⟨0x04, .u8, true, .num 24, 0, 80⟩,
    ⟨0x05, .enum, true, .num 0, 0, 1⟩,
    ⟨0x06, .u32, true, .num 10800, 60, 86400⟩,
    ⟨0x07, .u8, true, .num 240, 0, 255⟩,
    ⟨0x08, .u32, true, .num 600, 60, 86400⟩,
    ⟨0x09, .u16, true, .num 24, 0, 1023⟩,
    ⟨0x0A, .u32, false, .num 0, 0, 4294967295⟩,
    ⟨0x0B, .u16, false, .num 0, 0, 65535⟩,
    ⟨0x0C, .u32, false, .num 0, 0, 4294967295⟩,
    ⟨0x0D, .u32, false, .num 0, 0, 4294967295⟩,
    ⟨0x0E, .u32, false, .num 0, 0, 4294967295⟩,
    ⟨0x0F, .u32, false, .num 0, 0, 4294967295⟩]

/-- Class `EndpointProfile` (0x0501), R338. -/
def endpointProfile : ClassInfo where
  id := 0x0501
  insts := .dynamic
  domains := [9, 16, 11, 12]
  attrs :=
   [⟨0x01, .u64, false, .num 0, 0, 18446744073709551615⟩,
    ⟨0x02, .enum, false, .num 0, 0, 2⟩,
    ⟨0x03, .u32, true, .num 0, 0, 4294967295⟩,
    ⟨0x04, .u8, true, .num 0, 0, 63⟩,
    ⟨0x05, .u8, true, .num 0, 0, 15⟩,
    ⟨0x06, .s32, true, .num 0, (-3), 3⟩,
    ⟨0x07, .u32, true, .num 0, 0, 4294967295⟩,
    ⟨0x08, .u16, true, .num 23000, 0, 65535⟩,
    ⟨0x09, .enum, true, .num 0, 0, 4⟩,
    ⟨0x0A, .u32, false, .num 0, 0, 4294967295⟩,
    ⟨0x0B, .u32, false, .num 0, 0, 4294967295⟩,
    ⟨0x0C, .u32, false, .num 0, 0, 4294967295⟩,
    ⟨0x0D, .u32, false, .num 0, 0, 4294967295⟩,
    ⟨0x0E, .u32, false, .num 0, 0, 4294967295⟩,
    ⟨0x20, .u8, true, .num 0, 0, 63⟩,
    ⟨0x21, .enum, true, .num 0, 0, 1⟩]

/-- Class `EndpointChannel` (0x0502), R339. -/
def endpointChannel : ClassInfo where
  id := 0x0502
  insts := .dynamic
  domains := [9, 10, 11, 12]
  attrs :=
   [⟨0x01, .u64, true, .num 1000000000, 0, 18446744073709551615⟩,
    ⟨0x02, .u64, false, .num 0, 0, 18446744073709551615⟩,
    ⟨0x03, .bool, false, .num 0, 0, 1⟩]

/-- Class `CollectionSchedule` (0x0503), R297. -/
def collectionSchedule : ClassInfo where
  id := 0x0503
  insts := .fixed 64
  domains := [9]
  attrs :=
   [⟨0x01, .enum, true, .num 1, 1, 2⟩,
    ⟨0x02, .u16, true, .num 60, 15, 1440⟩,
    ⟨0x03, .u32, true, .num 0, 0, 4294967295⟩,
    ⟨0x04, .u32, true, .num 300, 0, 4294967295⟩,
    ⟨0x05, .u16, true, .num 4, 1, 672⟩,
    ⟨0x06, .u32, true, .num 900, 60, 86400⟩,
    ⟨0x07, .bool, true, .num 1, 0, 1⟩,
    ⟨0x08, .bool, true, .num 1, 0, 1⟩,
    ⟨0x09, .u16, true, .num 120, 0, 600⟩,
    ⟨0x0A, .u8, true, .num 0, 0, 15⟩]

/-- Class `CaptureTemplate` (0x0504), R308. -/
def captureTemplate : ClassInfo where
  id := 0x0504
  insts := .fixed 16
  domains := [9]
  attrs :=
   [⟨0x01, .bytes, true, .bytes [], 0, 0⟩]

/-- Class `CellCollection` (0x0505), R304. -/
def cellCollection : ClassInfo where
  id := 0x0505
  insts := .dynamic
  domains := [9]
  attrs :=
   [⟨0x01, .u8, true, .num 8, 1, 64⟩,
    ⟨0x02, .u32, true, .num 8000, 500, 60000⟩,
    ⟨0x03, .u8, true, .num 3, 1, 8⟩]

/-- Class `CollectionService` (0x0510), R339. -/
def collectionService : ClassInfo where
  id := 0x0510
  insts := .fixed 1
  domains := [9]
  attrs :=
   [⟨0x01, .u16, true, .num 25, 0, 1023⟩,
    ⟨0x02, .u16, true, .num 100, 10, 1000⟩,
    ⟨0x03, .u64, false, .num 0, 0, 18446744073709551615⟩,
    ⟨0x04, .u64, false, .num 0, 0, 18446744073709551615⟩,
    ⟨0x05, .u64, false, .num 0, 0, 18446744073709551615⟩,
    ⟨0x06, .u64, false, .num 0, 0, 18446744073709551615⟩]

/-- Class `ValidationRules` (0x0601), R327. -/
def validationRules : ClassInfo where
  id := 0x0601
  insts := .fixed 16
  domains := [10]
  attrs :=
   [⟨0x01, .u16, true, .num 400, 7, 400⟩,
    ⟨0x02, .u16, true, .num 120, 0, 3600⟩,
    ⟨0x03, .u16, true, .num 30, 1, 900⟩,
    ⟨0x04, .u16, true, .num 120, 100, 400⟩,
    ⟨0x05, .u8, true, .num 10, 2, 100⟩,
    ⟨0x06, .u32, true, .num 500, 0, 16777214⟩,
    ⟨0x07, .u16, true, .num 96, 4, 2880⟩,
    ⟨0x08, .u8, true, .num 15, 1, 50⟩,
    ⟨0x09, .u16, true, .num 2, 0, 1000⟩,
    ⟨0x0A, .u8, true, .num 6, 0, 72⟩,
    ⟨0x0B, .u8, true, .num 8, 1, 16⟩]

/-- Class `TariffCalendar` (0x0701), R387. -/
def tariffCalendar : ClassInfo where
  id := 0x0701
  insts := .fixed 64
  domains := [11]
  attrs :=
   [⟨0x01, .u32, false, .num 0, 0, 4294967295⟩,
    ⟨0x02, .u32, false, .num 0, 0, 4294967295⟩,
    ⟨0x03, .u16, false, .num 0, 0, 65535⟩,
    ⟨0x04, .u32, false, .num 0, 0, 4294967295⟩,
    ⟨0x05, .arr 0x3 4 3 3, false, .arr (List.replicate 3 0), 0, 4294967295⟩,
    ⟨0x06, .u32, false, .num 0, 0, 4294967295⟩,
    ⟨0x07, .u32, false, .num 0, 0, 4294967295⟩,
    ⟨0x08, .u32, false, .num 0, 0, 4294967295⟩,
    ⟨0x09, .u32, false, .num 0, 0, 4294967295⟩,
    ⟨0x0A, .u32, false, .num 0, 0, 4294967295⟩]

/-- Class `BillingRegisters` (0x0702), R388. -/
def billingRegisters : ClassInfo where
  id := 0x0702
  insts := .dynamic
  domains := [11]
  attrs :=
   [⟨0x01, .arr 0x4 8 64 64, false, .arr (List.replicate 64 0), 0, 18446744073709551615⟩,
    ⟨0x02, .arr 0x3 4 16 16, false, .arr (List.replicate 16 0), 0, 4294967295⟩,
    ⟨0x03, .arr 0x3 4 16 16, false, .arr (List.replicate 16 0), 0, 4294967295⟩,
    ⟨0x04, .u64, false, .num 0, 0, 18446744073709551615⟩,
    ⟨0x05, .arr 0x4 8 64 64, false, .arr (List.replicate 64 0), 0, 18446744073709551615⟩,
    ⟨0x06, .u32, false, .num 0, 0, 4294967295⟩,
    ⟨0x07, .u32, false, .num 0, 0, 4294967295⟩,
    ⟨0x08, .u32, false, .num 0, 0, 4294967295⟩]

/-- Class `BillingSnapshot` (0x0703), R369. -/
def billingSnapshot : ClassInfo where
  id := 0x0703
  insts := .dynamic
  domains := [11]
  attrs :=
   [⟨0x01, .bytes, false, .bytes [], 0, 0⟩]

/-- Class `RegisterComparison` (0x0704), R389. -/
def registerComparison : ClassInfo where
  id := 0x0704
  insts := .dynamic
  domains := [11]
  attrs :=
   [⟨0x01, .enum, false, .num 0, 0, 3⟩,
    ⟨0x02, .u32, false, .num 0, 0, 4294967295⟩,
    ⟨0x03, .u8, false, .num 0, 0, 255⟩,
    ⟨0x04, .bool, false, .num 0, 0, 1⟩,
    ⟨0x05, .arr 0x6 8 34 34, false, .arr (List.replicate 34 0), (-9223372036854775808), 9223372036854775807⟩,
    ⟨0x06, .arr 0x6 8 34 34, false, .arr (List.replicate 34 0), (-9223372036854775808), 9223372036854775807⟩,
    ⟨0x07, .arr 0x3 4 16 16, false, .arr (List.replicate 16 0), 0, 4294967295⟩]

/-- Class `BillingService` (0x0710), R390. -/
def billingService : ClassInfo where
  id := 0x0710
  insts := .fixed 1
  domains := [11]
  attrs :=
   [⟨0x01, .u16, true, .num 360, 0, 4320⟩,
    ⟨0x02, .bool, true, .num 1, 0, 1⟩,
    ⟨0x03, .u8, true, .num 25, 2, 64⟩,
    ⟨0x04, .u16, true, .num 400, 35, 400⟩,
    ⟨0x05, .u8, true, .num 24, 1, 168⟩,
    ⟨0x06, .u16, true, .num 10, 0, 65535⟩,
    ⟨0x07, .u32, true, .num 1000, 0, 4294967295⟩,
    ⟨0x08, .u8, true, .num 3, 1, 30⟩,
    ⟨0x09, .u32, false, .num 0, 0, 4294967295⟩,
    ⟨0x0A, .u32, false, .num 0, 0, 4294967295⟩,
    ⟨0x0B, .u8, false, .num 0, 0, 255⟩]

/-- Class `BalanceGroup` (0x0801), R423. -/
def balanceGroup : ClassInfo where
  id := 0x0801
  insts := .dynamic
  domains := [12]
  attrs :=
   [⟨0x01, .enum, false, .num 0, 0, 2⟩,
    ⟨0x02, .u16, false, .num 0xFFFF, 0, 65535⟩,
    ⟨0x03, .u32, false, .num 0xFFFFFFFF, 0, 4294967295⟩,
    ⟨0x04, .u16, false, .num 0xFFFF, 0, 65535⟩,
    ⟨0x05, .u8, false, .num 0, 0, 255⟩,
    ⟨0x06, .u32, false, .num 0, 0, 4294967295⟩,
    ⟨0x07, .u32, false, .num 0, 0, 4294967295⟩,
    ⟨0x08, .arr 0x2 2 8 8, false, .arr [65535, 65535, 65535, 65535, 65535, 65535, 65535, 65535], 0, 65535⟩,
    ⟨0x09, .u32, false, .num 0, 0, 4294967295⟩,
    ⟨0x0A, .u64, false, .num 0, 0, 18446744073709551615⟩,
    ⟨0x0B, .u32, false, .num 0, 0, 4294967295⟩,
    ⟨0x0C, .enum, false, .num 0, 0, 2⟩,
    ⟨0x0D, .u16, false, .num 0, 0, 65535⟩,
    ⟨0x0E, .u16, false, .num 0, 0, 65535⟩,
    ⟨0x0F, .bool, false, .num 0, 0, 1⟩,
    ⟨0x10, .u32, false, .num 0, 0, 4294967295⟩,
    ⟨0x11, .s64, false, .num 0, (-9223372036854775808), 9223372036854775807⟩,
    ⟨0x12, .s64, false, .num 0, (-9223372036854775808), 9223372036854775807⟩,
    ⟨0x13, .bool, true, .num 0, 0, 1⟩,
    ⟨0x14, .u32, true, .num 250, 0, 4294967295⟩,
    ⟨0x15, .u16, true, .num 15, 0, 65535⟩]

/-- Class `EndpointBalance` (0x0802), R425. -/
def endpointBalance : ClassInfo where
  id := 0x0802
  insts := .dynamic
  domains := [12]
  attrs :=
   [⟨0x01, .u16, false, .num 0xFFFF, 0, 65535⟩,
    ⟨0x02, .enum, false, .num 0, 0, 7⟩,
    ⟨0x03, .enum, false, .num 0, 0, 4⟩,
    ⟨0x04, .u16, false, .num 0xFFFF, 0, 65535⟩,
    ⟨0x05, .enum, false, .num 0, 0, 7⟩,
    ⟨0x06, .arr 0x3 4 7 7, false, .arr (List.replicate 7 0), 0, 4294967295⟩,
    ⟨0x07, .arr 0x5 4 2 2, false, .arr [0, 0], (-2147483648), 2147483647⟩,
    ⟨0x08, .s32, false, .num 0, (-2147483648), 2147483647⟩,
    ⟨0x09, .s32, false, .num 0, (-2147483648), 2147483647⟩,
    ⟨0x0A, .u8, false, .num 0, 0, 255⟩,
    ⟨0x0B, .u16, false, .num 0, 0, 65535⟩,
    ⟨0x0C, .arr 0x2 2 8 8, false, .arr (List.replicate 8 0), 0, 65535⟩,
    ⟨0x0D, .bool, true, .num 0, 0, 1⟩,
    ⟨0x0E, .bool, true, .num 0, 0, 1⟩]

/-- Class `MembershipProposal` (0x0803), R426. -/
def membershipProposal : ClassInfo where
  id := 0x0803
  insts := .fixed 4096
  domains := [12]
  attrs :=
   [⟨0x01, .u32, false, .num 0, 0, 4294967295⟩,
    ⟨0x02, .u16, false, .num 0, 0, 65535⟩,
    ⟨0x03, .u16, false, .num 0, 0, 65535⟩,
    ⟨0x04, .enum, false, .num 0, 0, 255⟩,
    ⟨0x05, .enum, false, .num 0, 0, 255⟩,
    ⟨0x06, .enum, false, .num 0, 0, 255⟩,
    ⟨0x07, .u32, false, .num 0, 0, 4294967295⟩,
    ⟨0x08, .enum, false, .num 0, 0, 5⟩]

/-- Class `GroupResidual` (0x0804), R424. -/
def groupResidual : ClassInfo where
  id := 0x0804
  insts := .dynamic
  domains := [12]
  attrs :=
   [⟨0x01, .u32, false, .num 0, 0, 4294967295⟩,
    ⟨0x02, .enum, false, .num 0, 0, 255⟩,
    ⟨0x03, .s64, false, .num 0, (-9223372036854775808), 9223372036854775807⟩,
    ⟨0x04, .s64, false, .num 0, (-9223372036854775808), 9223372036854775807⟩,
    ⟨0x05, .s64, false, .num 0, (-9223372036854775808), 9223372036854775807⟩,
    ⟨0x06, .s64, false, .num 0, (-9223372036854775808), 9223372036854775807⟩,
    ⟨0x07, .u16, false, .num 0, 0, 65535⟩,
    ⟨0x08, .u16, false, .num 0, 0, 65535⟩,
    ⟨0x09, .u8, false, .num 0, 0, 255⟩]

/-- Class `BalanceService` (0x0810), R427. -/
def balanceService : ClassInfo where
  id := 0x0810
  insts := .fixed 1
  domains := [12]
  attrs :=
   [⟨0x01, .u8, true, .num 12, 1, 48⟩,
    ⟨0x02, .u16, true, .num 980, 900, 1000⟩,
    ⟨0x03, .u16, true, .num 50, 0, 1000⟩,
    ⟨0x04, .u8, true, .num 7, 1, 28⟩,
    ⟨0x05, .u16, true, .num 672, 96, 8064⟩,
    ⟨0x06, .u16, true, .num 96, 16, 672⟩,
    ⟨0x07, .u16, true, .num 32, 1, 672⟩,
    ⟨0x08, .u16, true, .num 600, 0, 65535⟩,
    ⟨0x09, .u16, true, .num 171, 0, 341⟩,
    ⟨0x0A, .u16, true, .num 20, 5, 1000⟩,
    ⟨0x0B, .u16, true, .num 800, 0, 65535⟩,
    ⟨0x0C, .u16, true, .num 100, 0, 65535⟩,
    ⟨0x0D, .u16, true, .num 10, 0, 65535⟩,
    ⟨0x0E, .u8, true, .num 60, 0, 255⟩,
    ⟨0x0F, .u8, true, .num 3, 1, 14⟩,
    ⟨0x10, .u8, true, .num 10, 3, 30⟩,
    ⟨0x11, .u8, true, .num 8, 1, 96⟩,
    ⟨0x12, .u16, true, .num 150, 0, 1439⟩,
    ⟨0x13, .arr 0x2 2 8 8, true, .arr [400, 300, 250, 200, 50, 100, 100, 50], 0, 65535⟩,
    ⟨0x14, .u16, true, .num 900, 0, 1000⟩,
    ⟨0x15, .u16, true, .num 600, 1, 1000⟩,
    ⟨0x16, .u8, true, .num 3, 1, 14⟩,
    ⟨0x17, .u16, true, .num 16, 0, 1000⟩,
    ⟨0x18, .u32, false, .num 0, 0, 4294967295⟩]

/-- Class `Lantern` (0x0901), R446. -/
def lantern : ClassInfo where
  id := 0x0901
  insts := .dynamic
  domains := [13, 9]
  attrs :=
   [⟨0x01, .u16, true, .num 0xFFFF, 0, 65535⟩,
    ⟨0x02, .u8, true, .num 0xFF, 0, 255⟩,
    ⟨0x03, .u16, true, .num 500, 0, 65535⟩,
    ⟨0x04, .u16, true, .num 1000, 0, 1000⟩,
    ⟨0x05, .bool, false, .num 0, 0, 1⟩,
    ⟨0x06, .enum, false, .num 0, 0, 3⟩,
    ⟨0x07, .u16, false, .num 0, 0, 65535⟩,
    ⟨0x08, .enum, false, .num 0, 0, 5⟩,
    ⟨0x09, .u16, false, .num 0, 0, 65535⟩,
    ⟨0x0A, .u16, false, .num 0, 0, 65535⟩]

/-- Class `LightingSegment` (0x0902), R429. -/
def lightingSegment : ClassInfo where
  id := 0x0902
  insts := .fixed 16384
  domains := [13]
  attrs :=
   [⟨0x01, .u16, true, .num 0xFFFF, 0, 65535⟩,
    ⟨0x02, .u16, false, .num 0, 0, 65535⟩,
    ⟨0x03, .u8, true, .num 0, 0, 63⟩,
    ⟨0x04, .u8, true, .num 0xFF, 0, 255⟩,
    ⟨0x05, .arr 0x2 2 4 4, true, .arr [65535, 65535, 65535, 65535], 0, 65535⟩,
    ⟨0x06, .u16, true, .num 10, 1, 600⟩,
    ⟨0x07, .u32, false, .num 0, 0, 4294967295⟩,
    ⟨0x08, .u16, false, .num 0, 0, 65535⟩,
    ⟨0x09, .enum, false, .num 0, 0, 5⟩,
    ⟨0x0A, .u64, false, .num 0, 0, 18446744073709551615⟩,
    ⟨0x0B, .u32, false, .num 0, 0, 4294967295⟩]

/-- Class `LightingSchedule` (0x0903), R432. -/
def lightingSchedule : ClassInfo where
  id := 0x0903
  insts := .fixed 64
  domains := [13]
  attrs :=
   [⟨0x01, .s32, true, .num 0, (-90000000), 90000000⟩,
    ⟨0x02, .s32, true, .num 0, (-180000000), 180000000⟩,
    ⟨0x03, .s32, true, .num (-83), (-1800), 600⟩,
    ⟨0x04, .u8, true, .num 0xFF, 0, 255⟩,
    ⟨0x05, .s32, true, .num 0, (-120), 120⟩,
    ⟨0x06, .s32, true, .num 0, (-120), 120⟩,
    ⟨0x07, .bytes, true, .bytes (List.replicate 48 0), 0, 0⟩,
    ⟨0x08, .bytes, true, .bytes (List.replicate 32 [0, 0, 0, 0, 0xFF, 0xFF, 0, 0]).flatten, 0, 0⟩,
    ⟨0x09, .u8, true, .num 10, 0, 60⟩,
    ⟨0x0A, .u64, false, .num 0, 0, 18446744073709551615⟩,
    ⟨0x0B, .u64, false, .num 0, 0, 18446744073709551615⟩]

/-- Class `TrafficRule` (0x0904), R440. -/
def trafficRule : ClassInfo where
  id := 0x0904
  insts := .fixed 256
  domains := [13]
  attrs :=
   [⟨0x01, .u16, true, .num 1000, 0, 1000⟩,
    ⟨0x02, .u16, true, .num 50, 0, 6000⟩,
    ⟨0x03, .u16, true, .num 60, 5, 3600⟩,
    ⟨0x04, .u16, true, .num 1000, 0, 6000⟩,
    ⟨0x05, .u16, true, .num 30, 0, 600⟩,
    ⟨0x06, .u8, true, .num 3, 0, 8⟩,
    ⟨0x07, .u8, true, .num 1, 1, 255⟩,
    ⟨0x08, .bool, true, .num 0, 0, 1⟩]

/-- Class `TrafficSensor` (0x0905), R440. -/
def trafficSensor : ClassInfo where
  id := 0x0905
  insts := .dynamic
  domains := [13]
  attrs :=
   [⟨0x01, .u16, true, .num 0xFFFF, 0, 65535⟩,
    ⟨0x02, .u32, false, .num 0, 0, 4294967295⟩,
    ⟨0x03, .u64, false, .num 0, 0, 18446744073709551615⟩,
    ⟨0x04, .arr 0x2 2 96 96, false, .arr (List.replicate 96 0), 0, 65535⟩]

/-- Class `LightingCircuit` (0x0906), R457. -/
def lightingCircuit : ClassInfo where
  id := 0x0906
  insts := .fixed 64
  domains := [13]
  attrs :=
   [⟨0x01, .u16, true, .num 0, 0, 65535⟩,
    ⟨0x02, .u32, true, .num 0, 0, 4294967295⟩,
    ⟨0x03, .u32, true, .num 0xFFFFFFFF, 0, 4294967295⟩,
    ⟨0x04, .enum, false, .num 2, 0, 2⟩,
    ⟨0x05, .u32, false, .num 0, 0, 4294967295⟩]

/-- Class `LightingService` (0x0910), R444. -/
def lightingService : ClassInfo where
  id := 0x0910
  insts := .fixed 1
  domains := [13]
  attrs :=
   [⟨0x01, .u8, true, .num 2, 1, 4⟩,
    ⟨0x02, .u16, true, .num 200, 50, 2000⟩,
    ⟨0x03, .u16, true, .num 60, 10, 3600⟩,
    ⟨0x04, .u16, true, .num 60, 0, 600⟩,
    ⟨0x05, .u8, true, .num 30, 5, 95⟩,
    ⟨0x06, .u16, true, .num 150, 105, 400⟩,
    ⟨0x07, .u16, true, .num 5, 0, 65535⟩,
    ⟨0x08, .u8, true, .num 4, 1, 48⟩,
    ⟨0x09, .u16, true, .num 26, 1, 720⟩,
    ⟨0x0A, .bool, true, .num 0, 0, 1⟩,
    ⟨0x0B, .u8, true, .num 10, 1, 100⟩,
    ⟨0x0C, .u32, false, .num 0, 0, 4294967295⟩]

/-- Class `MeasurementChannel` (0x0A01), R488. -/
def measurementChannel : ClassInfo where
  id := 0x0A01
  insts := .fixed 80
  domains := [14]
  attrs :=
   [⟨0x01, .bool, true, .num 0, 0, 1⟩,
    ⟨0x02, .u32, true, .num 1000, 0, 4294967295⟩,
    ⟨0x03, .s32, true, .num 0, (-100000), 100000⟩,
    ⟨0x04, .s32, true, .num 0, (-100000), 100000⟩,
    ⟨0x05, .s32, true, .num 0, (-100000), 100000⟩,
    ⟨0x06, .u16, true, .num 0, 0, 1023⟩,
    ⟨0x07, .bool, false, .num 1, 0, 1⟩,
    ⟨0x08, .u32, false, .num 0, 0, 4294967295⟩,
    ⟨0x09, .u32, false, .num 0, 0, 4294967295⟩,
    ⟨0x0A, .u32, false, .num 0, 0, 4294967295⟩]

/-- Class `MeasurementFeeder` (0x0A02), R489. -/
def measurementFeeder : ClassInfo where
  id := 0x0A02
  insts := .fixed 16
  domains := [14]
  attrs :=
   [⟨0x01, .u8, true, .num 0, 0, 3⟩,
    ⟨0x02, .u32, true, .num 0xFFFFFFFF, 0, 4294967295⟩,
    ⟨0x03, .u32, true, .num 0, 0, 4294967295⟩,
    ⟨0x04, .u32, true, .num 0, 0, 4294967295⟩,
    ⟨0x05, .u8, true, .num 5, 1, 20⟩,
    ⟨0x06, .u8, true, .num 2, 1, 255⟩,
    ⟨0x07, .s64, false, .num 0, (-9223372036854775808), 9223372036854775807⟩,
    ⟨0x08, .s64, false, .num 0, (-9223372036854775808), 9223372036854775807⟩]

/-- Class `MeasurementBusbar` (0x0A03), R489. -/
def measurementBusbar : ClassInfo where
  id := 0x0A03
  insts := .fixed 4
  domains := [14]
  attrs :=
   [⟨0x01, .u32, true, .num 23000, 0, 4294967295⟩,
    ⟨0x02, .u16, true, .num 900, 0, 65535⟩,
    ⟨0x03, .u16, true, .num 1100, 0, 65535⟩,
    ⟨0x04, .u16, true, .num 20, 0, 65535⟩,
    ⟨0x05, .u8, true, .num 1, 1, 255⟩,
    ⟨0x06, .u32, false, .num 0, 0, 4294967295⟩]

/-- Class `FirSet` (0x0A04), R490. -/
def firSet : ClassInfo where
  id := 0x0A04
  insts := .fixed 8
  domains := [14]
  attrs :=
   [⟨0x01, .u8, false, .num 0, 0, 255⟩,
    ⟨0x02, .u16, false, .num 0, 0, 65535⟩,
    ⟨0x03, .u8, false, .num 0, 0, 255⟩,
    ⟨0x04, .bytes, false, .bytes [], 0, 0⟩,
    ⟨0x05, .u32, false, .num 0, 0, 4294967295⟩]

/-- Class `MeasurementService` (0x0A10), R490. -/
def measurementService : ClassInfo where
  id := 0x0A10
  insts := .fixed 1
  domains := [14]
  attrs :=
   [⟨0x01, .bool, true, .num 1, 0, 1⟩,
    ⟨0x02, .u8, true, .num 1, 0, 7⟩,
    ⟨0x03, .u8, false, .num 1, 0, 255⟩,
    ⟨0x04, .u16, true, .num 1000, 0, 60000⟩]

/-- Class `IntervalRecord` (0x0B10), R525. -/
def intervalRecord : ClassInfo where
  id := 0x0B10
  insts := .dynamic
  domains := [15, 19]
  attrs :=
   []

/-- Class `StoreService` (0x0B20), R527. -/
def storeService : ClassInfo where
  id := 0x0B20
  insts := .fixed 1
  domains := [15]
  attrs :=
   [⟨0x01, .enum, true, .num 0, 0, 1⟩,
    ⟨0x02, .u16, true, .num 400, 35, 3650⟩,
    ⟨0x03, .enum, false, .num 0, 0, 4⟩,
    ⟨0x04, .u16, true, .num 300, 60, 3600⟩,
    ⟨0x05, .u8, true, .num 26, 1, 72⟩,
    ⟨0x06, .u8, true, .num 3, 1, 20⟩,
    ⟨0x07, .u8, true, .num 5, 2, 30⟩,
    ⟨0x08, .u32, true, .num 50000, 1000, 1000000⟩,
    ⟨0x09, .u8, true, .num 108, 20, 170⟩,
    ⟨0x0A, .u16, true, .num 180, 7, 730⟩,
    ⟨0x0B, .u16, true, .num 200, 50, 5000⟩,
    ⟨0x0C, .u8, true, .num 88, 50, 95⟩,
    ⟨0x0D, .u16, true, .num 64, 16, 256⟩,
    ⟨0x0E, .bool, true, .num 1, 0, 1⟩,
    ⟨0x0F, .u8, true, .num 0, 0, 255⟩,
    ⟨0x10, .u8, true, .num 0, 0, 255⟩]

/-- Class `StoreHealth` (0x0B21), R528. -/
def storeHealth : ClassInfo where
  id := 0x0B21
  insts := .fixed 33
  domains := [15]
  attrs :=
   [⟨0x01, .u16, false, .num 0, 0, 65535⟩,
    ⟨0x02, .u16, false, .num 0, 0, 65535⟩,
    ⟨0x03, .u32, false, .num 0, 0, 4294967295⟩,
    ⟨0x04, .u64, false, .num 0, 0, 18446744073709551615⟩,
    ⟨0x05, .u64, false, .num 0, 0, 18446744073709551615⟩,
    ⟨0x06, .u64, false, .num 0, 0, 18446744073709551615⟩,
    ⟨0x07, .u32, false, .num 0, 0, 4294967295⟩,
    ⟨0x08, .u32, false, .num 0, 0, 4294967295⟩,
    ⟨0x09, .u32, false, .num 0, 0, 4294967295⟩,
    ⟨0x0A, .u32, false, .num 0, 0, 4294967295⟩,
    ⟨0x0B, .u32, false, .num 0, 0, 4294967295⟩,
    ⟨0x0C, .u64, false, .num 0, 0, 18446744073709551615⟩,
    ⟨0x0D, .arr 0x3 4 16 16, false, .arr (List.replicate 16 0), 0, 4294967295⟩,
    ⟨0x0E, .s32, false, .num 0, (-2147483648), 2147483647⟩,
    ⟨0x0F, .u16, false, .num 0, 0, 65535⟩,
    ⟨0x10, .u16, false, .num 0, 0, 65535⟩]

/-- Class `RootSlot` (0x0C01), R563. -/
def rootSlot : ClassInfo where
  id := 0x0C01
  insts := .fixed 32
  domains := [16]
  attrs :=
   [⟨0x01, .enum, false, .num 0, 0, 3⟩,
    ⟨0x02, .bytes, false, .bytes (List.replicate 32 0), 0, 0⟩,
    ⟨0x03, .u64, false, .num 0, 0, 18446744073709551615⟩]

/-- Class `GloveboxService` (0x0C10), R563. -/
def gloveboxService : ClassInfo where
  id := 0x0C10
  insts := .fixed 1
  domains := [16]
  attrs :=
   [⟨0x01, .bool, false, .num 0, 0, 1⟩,
    ⟨0x02, .bool, false, .num 0, 0, 1⟩,
    ⟨0x03, .bool, false, .num 0, 0, 1⟩,
    ⟨0x04, .u32, false, .num 0, 0, 4294967295⟩,
    ⟨0x05, .u8, false, .num 0, 0, 255⟩,
    ⟨0x06, .u32, false, .num 3600, 60, 604800⟩,
    ⟨0x07, .u32, false, .num 0, 0, 4294967295⟩,
    ⟨0x08, .bytes, false, .bytes [], 0, 0⟩,
    ⟨0x09, .bytes, false, .bytes [], 0, 0⟩]

/-- Class `TamperSource` (0x0C11), R563. -/
def tamperSource : ClassInfo where
  id := 0x0C11
  insts := .fixed 11
  domains := [16]
  attrs :=
   [⟨0x01, .enum, false, .num 0, 0, 3⟩,
    ⟨0x02, .u8, false, .num 0, 0, 255⟩,
    ⟨0x03, .u16, false, .num 10, 1, 64⟩,
    ⟨0x04, .bool, false, .num 0, 0, 1⟩,
    ⟨0x05, .u32, false, .num 0, 0, 4294967295⟩]

/-- Class `RoleCredential` (0x0C20), R558. -/
def roleCredential : ClassInfo where
  id := 0x0C20
  insts := .dynamic
  domains := [16]
  attrs :=
   [⟨0x01, .enum, false, .num 0, 0, 255⟩,
    ⟨0x02, .bytes, false, .bytes [], 0, 0⟩,
    ⟨0x03, .bytes, false, .bytes [], 0, 0⟩,
    ⟨0x04, .u64, false, .num 0, 0, 18446744073709551615⟩]

/-- Class `EndpointKey` (0x0C30), R563. -/
def endpointKey : ClassInfo where
  id := 0x0C30
  insts := .dynamic
  domains := [16]
  attrs :=
   [⟨0x01, .u8, false, .num 0xFF, 0, 255⟩,
    ⟨0x02, .u8, false, .num 0xFF, 0, 255⟩,
    ⟨0x03, .u8, false, .num 0xFF, 0, 255⟩,
    ⟨0x04, .enum, false, .num 0, 0, 3⟩,
    ⟨0x05, .enum, false, .num 0, 0, 2⟩,
    ⟨0x06, .u64, false, .num 0, 0, 18446744073709551615⟩]

/-- Class `TimeService` (0x0D01), R602. -/
def timeService : ClassInfo where
  id := 0x0D01
  insts := .fixed 1
  domains := [17]
  attrs :=
   [⟨0x01, .u32, true, .num 1000000, 1000, 1000000000⟩,
    ⟨0x02, .u16, true, .num 100, 1, 500⟩,
    ⟨0x03, .bool, true, .num 0, 0, 1⟩,
    ⟨0x04, .u32, true, .num 300, 10, 86400⟩,
    ⟨0x05, .u32, true, .num 86400, 1, 4294967295⟩,
    ⟨0x06, .u32, true, .num 10, 0, 3600⟩,
    ⟨0x07, .u16, true, .num 60, 10, 3600⟩,
    ⟨0x08, .enum, false, .num 0, 0, 4⟩,
    ⟨0x09, .enum, false, .num 0, 0, 255⟩,
    ⟨0x0A, .s64, false, .num 0, (-9223372036854775808), 9223372036854775807⟩,
    ⟨0x0B, .u32, false, .num 0, 0, 4294967295⟩,
    ⟨0x0C, .u32, false, .num 0, 0, 4294967295⟩]

/-- Class `TimeDomain` (0x0D02), R602. -/
def timeDomain : ClassInfo where
  id := 0x0D02
  insts := .fixed 4
  domains := [17]
  attrs :=
   [⟨0x01, .u8, true, .num 0, 0, 255⟩,
    ⟨0x02, .u8, true, .num 0, 0, 255⟩,
    ⟨0x03, .u32, true, .num 1000, 10, 1000000⟩,
    ⟨0x04, .u8, true, .num 3, 1, 60⟩,
    ⟨0x05, .enum, false, .num 0, 0, 2⟩,
    ⟨0x06, .s64, false, .num 0, (-9223372036854775808), 9223372036854775807⟩,
    ⟨0x07, .s32, false, .num 0, (-2147483648), 2147483647⟩]

/-- Class `PtpPort` (0x0D03), R602. -/
def ptpPort : ClassInfo where
  id := 0x0D03
  insts := .fixed 9
  domains := [7, 17]
  attrs :=
   [⟨0x01, .enum, true, .num 0, 0, 3⟩,
    ⟨0x02, .bool, true, .num 0, 0, 1⟩,
    ⟨0x03, .enum, true, .num 0, 0, 2⟩,
    ⟨0x04, .bool, true, .num 1, 0, 1⟩,
    ⟨0x05, .s32, true, .num 0, (-7), 4⟩,
    ⟨0x06, .s32, true, .num 0, (-100000), 100000⟩,
    ⟨0x07, .s32, true, .num 0, (-100000), 100000⟩]

/-- Class `RealTimeClock` (0x0D10), R602. -/
def realTimeClock : ClassInfo where
  id := 0x0D10
  insts := .fixed 1
  domains := [18]
  attrs :=
   [⟨0x01, .bool, true, .num 0, 0, 1⟩,
    ⟨0x02, .bool, true, .num 1, 0, 1⟩,
    ⟨0x03, .u16, true, .num 16, 4, 256⟩,
    ⟨0x04, .arr 0x5 2 16 16, true, .arr (List.replicate 16 0), (-32768), 32767⟩,
    ⟨0x05, .s32, true, .num 0, (-32768), 32767⟩,
    ⟨0x06, .s32, false, .num 0, (-2147483648), 2147483647⟩,
    ⟨0x07, .s32, false, .num 0, (-2147483648), 2147483647⟩]

/-- Class `RtcAlarm` (0x0D11), R602. -/
def rtcAlarm : ClassInfo where
  id := 0x0D11
  insts := .fixed 4
  domains := [18]
  attrs :=
   [⟨0x01, .u64, true, .num 0, 0, 18446744073709551615⟩,
    ⟨0x02, .u32, true, .num 0, 0, 4294967295⟩,
    ⟨0x03, .bool, true, .num 0, 0, 1⟩,
    ⟨0x04, .bool, true, .num 0, 0, 1⟩,
    ⟨0x05, .bool, true, .num 0, 0, 1⟩,
    ⟨0x06, .u64, false, .num 0, 0, 18446744073709551615⟩]

/-- Class `Federation` (0x0E01), R630. -/
def federation : ClassInfo where
  id := 0x0E01
  insts := .fixed 1
  domains := [19]
  attrs :=
   [⟨0x01, .u64, false, .num 0, 0, 18446744073709551615⟩,
    ⟨0x02, .u32, false, .num 0, 0, 4294967295⟩,
    ⟨0x03, .u16, true, .num 4813, 0, 65535⟩,
    ⟨0x04, .u32, false, .num 0, 0, 4294967295⟩,
    ⟨0x05, .u32, true, .num 3000, 500, 60000⟩,
    ⟨0x06, .u16, true, .num 1000, 10, 10000⟩,
    ⟨0x07, .u16, true, .num 200, 50, 5000⟩,
    ⟨0x08, .u8, true, .num 2, 1, 100⟩]

/-- Class `ServicePosture` (0x0E02), R24. -/
def servicePosture : ClassInfo where
  id := 0x0E02
  insts := .fixed 1
  domains := [19]
  attrs :=
   [⟨0x01, .enum, true, .num 0, 0, 3⟩]

/-- Class `TwinPair` (0x0E10), R754. -/
def twinPair : ClassInfo where
  id := 0x0E10
  insts := .fixed 1
  domains := [19]
  attrs :=
   [⟨0x01, .u8, true, .num 0, 0, 7⟩,
    ⟨0x02, .u64, false, .num 0, 0, 18446744073709551615⟩,
    ⟨0x03, .enum, false, .num 0, 0, 4⟩,
    ⟨0x04, .u8, true, .num 0x17, 0, 255⟩,
    ⟨0x05, .u32, true, .num 16384, 4096, 261504⟩,
    ⟨0x06, .u32, true, .num 1024, 64, 65536⟩,
    ⟨0x07, .u16, true, .num 50, 20, 1000⟩,
    ⟨0x08, .u16, true, .num 60, 10, 3600⟩,
    ⟨0x09, .u8, false, .num 0, 0, 255⟩,
    ⟨0x0A, .bool, false, .num 0, 0, 1⟩,
    ⟨0x0B, .enum, false, .num 0, 0, 1⟩,
    ⟨0x0C, .enum, false, .num 0, 0, 2⟩]

/-- Class `FederationMember` (0x0E20), R630. -/
def federationMember : ClassInfo where
  id := 0x0E20
  insts := .dynamic
  domains := [19]
  attrs :=
   [⟨0x01, .u64, false, .num 0, 0, 18446744073709551615⟩,
    ⟨0x02, .enum, false, .num 0, 0, 1⟩,
    ⟨0x03, .u8, false, .num 0, 0, 255⟩,
    ⟨0x04, .bytes, false, .bytes [], 0, 0⟩,
    ⟨0x05, .u16, false, .num 0, 0, 65535⟩,
    ⟨0x06, .bytes, false, .bytes [], 0, 0⟩,
    ⟨0x07, .enum, false, .num 0, 0, 4⟩]

/-- Class `EndpointPlacement` (0x0E30), R634. -/
def endpointPlacement : ClassInfo where
  id := 0x0E30
  insts := .dynamic
  domains := [19]
  attrs :=
   [⟨0x01, .u16, false, .num 0xFFFF, 0, 65535⟩,
    ⟨0x02, .u16, false, .num 0xFFFF, 0, 65535⟩]

/-- Class `CellPlan` (0x0E40), R637. -/
def cellPlan : ClassInfo where
  id := 0x0E40
  insts := .dynamic
  domains := [19]
  attrs :=
   [⟨0x01, .u16, true, .num 0, 0, 65535⟩,
    ⟨0x02, .u8, true, .num 0, 0, 255⟩,
    ⟨0x03, .u16, true, .num 0, 0, 65535⟩]

/-- Class `FirmwareImage` (0x0F01), R667. -/
def firmwareImage : ClassInfo where
  id := 0x0F01
  insts := .fixed 2
  domains := [1]
  attrs :=
   [⟨0x01, .enum, false, .num 0, 0, 6⟩,
    ⟨0x02, .u32, false, .num 0, 0, 4294967295⟩,
    ⟨0x03, .u16, false, .num 0, 0, 65535⟩,
    ⟨0x04, .u8, false, .num 0, 0, 255⟩,
    ⟨0x05, .bytes, false, .bytes [], 0, 0⟩]

/-- Class `SettingsGeneration` (0x0F02), R667. -/
def settingsGeneration : ClassInfo where
  id := 0x0F02
  insts := .fixed 4
  domains := [1]
  attrs :=
   [⟨0x01, .enum, false, .num 0, 0, 3⟩,
    ⟨0x02, .u32, false, .num 0, 0, 4294967295⟩,
    ⟨0x03, .u8, false, .num 0, 0, 255⟩,
    ⟨0x04, .u32, false, .num 0, 0, 4294967295⟩]

/-- Class `UpdateService` (0x0F10), R667. -/
def updateService : ClassInfo where
  id := 0x0F10
  insts := .fixed 1
  domains := [1]
  attrs :=
   [⟨0x01, .u32, true, .num 600, 60, 86400⟩,
    ⟨0x02, .u16, false, .num 0, 0, 65535⟩,
    ⟨0x03, .u32, false, .num 0, 0, 4294967295⟩]

/-- Class `EndpointCampaign` (0x0F20), R667. -/
def endpointCampaign : ClassInfo where
  id := 0x0F20
  insts := .fixed 8
  domains := [1]
  attrs :=
   [⟨0x01, .enum, false, .num 0, 0, 3⟩,
    ⟨0x02, .arr 0x3 4 8 8, false, .arr (List.replicate 8 0), 0, 4294967295⟩]

/-- Class `CampaignTarget` (0x0F21), R667. -/
def campaignTarget : ClassInfo where
  id := 0x0F21
  insts := .dynamic
  domains := [1]
  attrs :=
   [⟨0x01, .enum, false, .num 0, 0, 7⟩,
    ⟨0x02, .u16, false, .num 0, 0, 65535⟩]

/-- Class `FaultService` (0x1001), R699. -/
def faultService : ClassInfo where
  id := 0x1001
  insts := .fixed 1
  domains := [20]
  attrs :=
   [⟨0x01, .u8, true, .num 2, 2, 100⟩,
    ⟨0x02, .u8, true, .num 3, 0, 10⟩,
    ⟨0x03, .u16, true, .num 0, 0, 3600⟩]

/-- Class `FaultSource` (0x1002), R699. -/
def faultSource : ClassInfo where
  id := 0x1002
  insts := .dynamic
  domains := [20]
  attrs :=
   [⟨0x01, .enum, false, .num 0, 0, 4⟩,
    ⟨0x02, .enum, true, .num 0, 0, 5⟩,
    ⟨0x03, .bool, true, .num 0, 0, 1⟩,
    ⟨0x04, .bool, true, .num 0, 0, 1⟩,
    ⟨0x05, .u32, false, .num 0, 0, 4294967295⟩]

/-- Class `FenceUnit` (0x1003), R699. -/
def fenceUnit : ClassInfo where
  id := 0x1003
  insts := .dynamic
  domains := [20]
  attrs :=
   [⟨0x01, .bool, false, .num 0, 0, 1⟩,
    ⟨0x02, .u16, false, .num 0, 0, 65535⟩,
    ⟨0x03, .u8, false, .num 0, 0, 255⟩,
    ⟨0x04, .enum, false, .num 0, 0, 2⟩]

/-- Class `SafetyFunction` (0x1004), R699. -/
def safetyFunction : ClassInfo where
  id := 0x1004
  insts := .fixed 2
  domains := [20]
  attrs :=
   [⟨0x01, .bool, false, .num 0, 0, 1⟩,
    ⟨0x02, .u32, false, .num 0, 0, 4294967295⟩,
    ⟨0x03, .bytes, false, .bytes (List.replicate 32 0), 0, 0⟩]

/-- Class `MaintenanceArbiter` (0x1010), R699. -/
def maintenanceArbiter : ClassInfo where
  id := 0x1010
  insts := .fixed 1
  domains := [20]
  attrs :=
   [⟨0x01, .arr 0x1 1 11 11, false, .arr (List.replicate 11 0), 0, 255⟩,
    ⟨0x02, .arr 0x3 4 16 16, false, .arr (List.replicate 16 0), 0, 4294967295⟩]

/-- Class `GpioPin` (0x0120), R727. -/
def gpioPin : ClassInfo where
  id := 0x0120
  insts := .fixed 16
  domains := [1]
  attrs :=
   [⟨0x01, .enum, true, .num 0, 0, 1⟩,
    ⟨0x02, .bool, true, .num 0, 0, 1⟩]

/-- Class `HardwareQueue` (0x1101), R703. -/
def hardwareQueue : ClassInfo where
  id := 0x1101
  insts := .fixed 1024
  domains := [3]
  attrs :=
   [⟨0x01, .enum, true, .num 0, 0, 1⟩,
    ⟨0x02, .u32, true, .num 4096, 64, 16777216⟩,
    ⟨0x03, .path, true, .num 0, 0, 18446744073709551615⟩,
    ⟨0x04, .path, true, .num 0, 0, 18446744073709551615⟩,
    ⟨0x05, .u32, true, .num 0, 0, 4294967295⟩,
    ⟨0x06, .u8, true, .num 90, 50, 100⟩,
    ⟨0x07, .enum, true, .num 0, 0, 1⟩,
    ⟨0x08, .u32, false, .num 0, 0, 4294967295⟩,
    ⟨0x09, .u32, false, .num 0, 0, 4294967295⟩,
    ⟨0x0A, .arr 0x3 4 4 4, false, .arr [0, 0, 0, 0], 0, 4294967295⟩]

/-- Class `EventRecorder` (0x1110), R722. -/
def eventRecorder : ClassInfo where
  id := 0x1110
  insts := .fixed 1
  domains := [20]
  attrs :=
   [⟨0x01, .u32, false, .num 0, 0, 4294967295⟩,
    ⟨0x02, .u32, false, .num 0, 0, 4294967295⟩,
    ⟨0x03, .u32, false, .num 0, 0, 4294967295⟩,
    ⟨0x04, .u32, false, .num 0, 0, 4294967295⟩,
    ⟨0x05, .u32, false, .num 0, 0, 4294967295⟩,
    ⟨0x06, .u32, false, .num 0, 0, 4294967295⟩]

/-- Class `EventRecord` (0x1111), R721. -/
def eventRecord : ClassInfo where
  id := 0x1111
  insts := .dynamic
  domains := [20]
  attrs :=
   [⟨0x01, .bytes, false, .bytes [], 0, 0⟩]

/-- Every Purel class of the spec. -/
def table : List ClassInfo :=
  [systemIdentity, systemMode, mailboxService, linePort, lineLane, notchMask, lineCell, lineLink] ++
  [radioPort, bandProfile, chessLedger, radioPan, endpointLocator, locatorTable, endpointProfile, endpointChannel] ++
  [collectionSchedule, captureTemplate, cellCollection, collectionService, validationRules, tariffCalendar, billingRegisters, billingSnapshot] ++
  [registerComparison, billingService, balanceGroup, endpointBalance, membershipProposal, groupResidual, balanceService, lantern] ++
  [lightingSegment, lightingSchedule, trafficRule, trafficSensor, lightingCircuit, lightingService, measurementChannel, measurementFeeder] ++
  [measurementBusbar, firSet, measurementService, intervalRecord, storeService, storeHealth, rootSlot, gloveboxService] ++
  [tamperSource, roleCredential, endpointKey, timeService, timeDomain, ptpPort, realTimeClock, rtcAlarm] ++
  [federation, servicePosture, twinPair, federationMember, endpointPlacement, cellPlan, firmwareImage, settingsGeneration] ++
  [updateService, endpointCampaign, campaignTarget, faultService, faultSource, fenceUnit, safetyFunction, maintenanceArbiter] ++
  [gpioPin, hardwareQueue, eventRecorder, eventRecord]

end Sys2Proof.Classes
end

