-- ==== Sys2Proof/Config.lean ====
section
/-! DEFINITION. What the spec leaves to an implementation or to a published standard, as constants without a body: nothing can be proved of their
values. `free` draws are applied to the counter State.freeCtr; the others to the operands their result depends on. -/

namespace Sys2Proof.Config

/-- A free number: a result the spec leaves open, drawn with the counter of State. -/
opaque freeNat : Nat → Nat
/-- A free integer, as freeNat. -/
opaque freeInt : Nat → Int
/-- Octet k of a draw of the TRNG (nonces R47, seeds R264, challenges R741, keys R536). -/
opaque trng : Nat → Nat → Byte
/-- ECDSA P-256 verification (FIPS 186): public key, message, signature (R47, R558, R650, R741). -/
opaque ecdsaVerify : Bytes → Bytes → Bytes → Bool
/-- ECDSA P-256 signature by a private key that never leaves the glovebox (R547): key identity, message. -/
opaque ecdsaSign : Nat → Bytes → Bytes
/-- The public key of a signing key. -/
opaque publicKey : Nat → Bytes
/-- Whether a certificate (X.509, P-256) chains to a root whose slot holds the given digest (R558, R559). -/
opaque certChains : Bytes → Bytes → Bool
/-- The subject public key, 64 octets, of a certificate. -/
opaque certKey : Bytes → Bytes
/-- The role byte a certificate names. -/
opaque certRole : Bytes → Nat
/-- The EUI-64 a credential's certificate names, by the certificate's digest (R51). -/
opaque certEui : Bytes → Nat
/-- SHA-256. -/
opaque sha256 : Bytes → Bytes
/-- The packing of an event's argument values into the 12 argument bytes of its record, where R711 leaves it to the chapter of the code and the chapter
gives no layout: code, values, byte number. -/
opaque packArg : Nat → List Int → Nat → Byte
/-- Protection of an APDU for an endpoint under its current keys (R536, R541): handle, key generation, outbound counter, APDU. -/
opaque protect : Nat → Nat → Nat → Bytes → Bytes
/-- The application acknowledgement of a frame (DLMS/COSEM, EN 13757): handle, counter acknowledged. -/
opaque ackApdu : Nat → Nat → Bytes
/-- The profile read of R307: handle, first interval, count. -/
opaque pollApdu : Nat → Nat → Nat → Bytes
/-- The action on a meter's disconnect-control object (R313): 0 close now, 1 ready for local closing, 2 disconnect. -/
opaque supplyApdu : Nat → Bytes
/-- Protection of a body for every member of a cell under its broadcast key (R441, R536): cell, key generation, body. -/
opaque protectCell : Nat → Nat → Bytes → Bytes
/-- The AES-CMAC, truncated, of a beacon body under the cell's beacon key (R202): cell, generation, body. -/
opaque beaconMac : Nat → Nat → Bytes → Bytes
/-- Dusk of a date in s of UTC since the service epoch (R432): latitude, longitude, elevation, day number; dawn likewise. The accuracy is R432's. -/
opaque dusk : Int → Int → Int → Nat → Nat
opaque dawn : Int → Int → Int → Nat → Nat
/-- Whether the sun stays above (1) or below (2) the elevation for the whole of a date, else 0 (R433). -/
opaque polar : Int → Int → Int → Nat → Nat

/-- The certificate of the attestation key, issued on the production line (14_glovebox.md). -/
opaque attestCertificate : Bytes

/-- The DRAM fitted, in octets (Table 20-15, R33). -/
opaque dramBytes : Nat

/-- The mains period, in ns, that a port's free-running reference has before it has measured one (R172, R201). -/
opaque freePeriod : Nat → Nat

/-- Occupied bandwidth of a radio standard's PHY mode, in Hz (R251). -/
opaque occupiedHz : Nat → Nat → Nat
/-- aBaseSuperframeDuration at a PHY mode's symbol rate, in µs (R234, IEEE 802.15.4). -/
opaque superframeUs : Nat → Nat

/-- Whether an APDU is an ACTION-Request on a disconnect control object (class 70), method 2 (R560), in its COSEM encoding. -/
opaque energizeApdu : Bytes → Bool

/-- The transfer of a passive calendar image to a meter's activity calendar (R354, R376): calendar identifier, activation interval (0 for none). -/
opaque calendarApdu : Nat → Nat → Bytes
/-- The execution of the end of billing period script of a meter (Table 09-8). -/
opaque billingScriptApdu : Bytes

/-- ECDSA P-384 signature, 96 octets, by a private key that never leaves the glovebox (R547): key identity, message. -/
opaque ecdsaSign384 : Nat → Bytes → Bytes
/-- ECDSA P-384 verification against the public key whose SHA-256 a slot holds (R650): slot value, message, signature. -/
opaque ecdsaVerify384 : Bytes → Bytes → Bytes → Bool
/-- SHA-384. -/
opaque sha384 : Bytes → Bytes
/-- Decryption of an import record (R539): ephemeral public key, record index, record; none where its GCM tag fails. -/
opaque importKeys : Bytes → Nat → Bytes → Option Bytes
/-- Tag T of a blob (R538): KEK generation, bytes 0–7, plaintext keys. -/
opaque blobTag : Nat → Bytes → Bytes → Nat
/-- The transfer of a campaign block (R665): multicast group (0 for unicast), block number, its 512 octets. -/
opaque blockApdu : Nat → Nat → Bytes → Bytes
/-- The activation of an endpoint image (R666): its SHA-256 digest. -/
opaque activateApdu : Bytes → Bytes
/-- The transfer of a cell's beacon key to a member (R542): cell, generation. -/
opaque beaconKeyApdu : Nat → Nat → Bytes

/-- Whether an attestation report (Table 14-5) is that of the chip of an EUI, and the signature with its attestation key over report and ephemeral key holds (R605,
R644): EUI, report, key, signature. -/
opaque attested : Nat → Bytes → Bytes → Bytes → Bool

/-- Coefficient i, and the shift, of a shipped FIR set 0–3 (R471; the spec states their response only). -/
opaque firCoefficient : Nat → Nat → Int
opaque firShift : Nat → Nat

end Sys2Proof.Config
end

