-- ==== Sys2Proof/Machine/Operands.lean ====
section
/-! DEFINITION. Operand forms of the mailbox: little-endian fields (R8), the CRC-32C of R43, the frame header of Table 02-4, bulk descriptors, TLVs (R63). -/

namespace Sys2Proof.Machine

/-- The number a little-endian octet string holds (R8). -/
def leNat : Bytes → Nat
  | [] => 0
  | b :: t => b.toNat + 256 * leNat t

/-- The field of `n` octets at an offset; octets past the end read 0. -/
def field (b : Bytes) (off n : Nat) : Nat := leNat ((b.drop off).take n)

/-- A number as `n` little-endian octets (R8). -/
def leBytes : Nat → Nat → Bytes
  | 0, _ => []
  | n + 1, v => BitVec.ofNat 8 v :: leBytes n (v / 256)

/-- An integer as `n` little-endian octets in two's complement. -/
def intBytes (n : Nat) (v : Int) : Bytes := leBytes n (v % (2 ^ (8 * n) : Int)).toNat

/-- The two's-complement reading of a number of `bits` bits. -/
def signed (bits n : Nat) : Int := if n < 2 ^ (bits - 1) then n else (n : Int) - (2 ^ bits : Int)

/-- A signed little-endian field. -/
def sfield (b : Bytes) (off n : Nat) : Int := signed (8 * n) (field b off n)

/-- One octet at an offset, 0 past the end. -/
def octet (b : Bytes) (off : Nat) : Nat := field b off 1

/-- Bit `k` of a number. -/
def bit (n k : Nat) : Bool := n.testBit k

/-- Bits `hi` to `lo` of a number. -/
def bits (n hi lo : Nat) : Nat := (n >>> lo) % 2 ^ (hi + 1 - lo)

/-- A Bool as a register bit. -/
def b2n (b : Bool) : Nat := if b then 1 else 0

/-- The slice of an octet string. -/
def slice (b : Bytes) (off n : Nat) : Bytes := (b.drop off).take n

/-- Octets padded with zeros to a multiple of 4 (R63). -/
def pad4 (b : Bytes) : Bytes := b ++ List.replicate ((4 - b.length % 4) % 4) 0

/-! ### CRC-32C (R43) -/

/-- One bit of the reflected Castagnoli CRC; 0x82F6_3B78 is 0x1EDC_6F41 reflected. -/
def crcBit (c : BitVec 32) : BitVec 32 :=
  if c.getLsbD 0 then (c >>> 1) ^^^ 0x82F63B78#32 else c >>> 1

/-- One octet. -/
def crcByte (c : BitVec 32) (b : Byte) : BitVec 32 :=
  let c := c ^^^ b.zeroExtend 32
  crcBit (crcBit (crcBit (crcBit (crcBit (crcBit (crcBit (crcBit c)))))))

/-- The running register over an octet string. -/
def crcRun (c : BitVec 32) : Bytes → BitVec 32
  | [] => c
  | b :: t => crcRun (crcByte c b) t

/-- CRC-32C: initial value and final exclusive-OR 0xFFFF_FFFF (R43). -/
def crc32c (b : Bytes) : Nat := (crcRun 0xFFFFFFFF#32 b ^^^ 0xFFFFFFFF#32).toNat

/-! ### Frames (Table 02-4) -/

/-- The header of a frame. -/
structure Header where
  seq : Nat
  session : Nat
  opcode : Nat
  path : Nat
  length : Nat
  flags : Nat
  status : Nat
  reserved : Nat
  arrival : Nat
  crc : Nat
  deriving DecidableEq, Repr

/-- Reads the header; octets a short frame does not have read 0. -/
def parseHeader (b : Bytes) : Header where
  seq := field b 0 4
  session := field b 4 2
  opcode := field b 6 2
  path := field b 8 8
  length := field b 16 4
  flags := field b 20 2
  status := octet b 22
  reserved := octet b 23
  arrival := field b 24 4
  crc := field b 28 4

/-- The header octets 0 to 27 and the payload, which the CRC covers (R43). -/
def headerBody (h : Header) : Bytes :=
  leBytes 4 h.seq ++ leBytes 2 h.session ++ leBytes 2 h.opcode ++ leBytes 8 h.path ++ leBytes 4 h.length ++ leBytes 2 h.flags ++
    leBytes 1 h.status ++ leBytes 1 h.reserved ++ leBytes 4 h.arrival

/-- A frame with its CRC. -/
def mkFrame (h : Header) (payload : Bytes) : Bytes :=
  headerBody h ++ leBytes 4 (crc32c (headerBody h ++ payload)) ++ payload

/-- Flag bits of Table 02-5. -/
def flagResponse : Nat := 0
def flagIfVersion : Nat := 1
def flagAtomic : Nat := 2
def flagBulk : Nat := 3
def flagNoWait : Nat := 4
def flagNotify : Nat := 5

/-! ### Object paths (R60) -/

/-- The class of a path, bits 63:48. -/
def pathCls (p : Nat) : Nat := p / 2 ^ 48 % 2 ^ 16
/-- The instance of a path, bits 47:8. -/
def pathInst (p : Nat) : Nat := p / 2 ^ 8 % 2 ^ 40
/-- The attribute or method of a path, bits 7:0. -/
def pathAttr (p : Nat) : Nat := p % 2 ^ 8
/-- The path of an attribute. -/
def mkPath (c i a : Nat) : Nat := c * 2 ^ 48 + i * 2 ^ 8 + a
/-- The path of an object. -/
def objPath (c i : Nat) : Nat := mkPath c i 0
/-- The wildcard instance (R62). -/
def wildInst : Nat := 0xFFFFFFFFFF

/-! ### Values and TLVs (R63, Table 02-7) -/

/-- Octets of a value of a number type. -/
def tyWidth : Ty → Nat
  | .u8 | .bool | .enum => 1
  | .u16 => 2
  | .u32 | .s32 => 4
  | .u64 | .s64 | .path => 8
  | .bytes | .text => 0
  | .arr _ w _ _ => w

/-- Whether a type is signed. -/
def tySigned : Ty → Bool
  | .s32 | .s64 => true
  | .arr e _ _ _ => e == 5 || e == 6
  | _ => false

/-- The octets of a value under its type. -/
def encodeVal (t : Ty) (v : Val) : Bytes :=
  match t, v with
  | .arr e w _ _, .arr xs => leBytes 1 e ++ [0, 0, 0] ++ (xs.map (intBytes w)).flatten
  | _, .bytes b => b
  | t, .num n => intBytes (tyWidth t) n
  | t, .arr xs => (xs.map (intBytes (tyWidth t))).flatten

/-- A TLV (R63). -/
def encodeTlv (a : Nat) (t : Ty) (v : Val) : Bytes :=
  let b := encodeVal t v
  leBytes 1 a ++ leBytes 1 t.code ++ leBytes 2 b.length ++ pad4 b

/-- A TLV as received: attribute, type byte, value octets. -/
structure Tlv where
  attr : Nat
  ty : Nat
  val : Bytes
  deriving DecidableEq, Repr

/-- Reads one TLV from the front of a payload, with what follows it; none where the payload is too short. -/
def parseTlv (b : Bytes) : Option (Tlv × Bytes) :=
  let n := field b 2 2
  if b.length < 4 + n then none else some (⟨octet b 0, octet b 1, slice b 4 n⟩, b.drop (4 + n + (4 - n % 4) % 4))

/-- Reads every TLV of a payload. -/
def parseTlvs : Nat → Bytes → List Tlv
  | 0, _ => []
  | n + 1, b =>
    match parseTlv b with
    | none => []
    | some (t, rest) => t :: parseTlvs n rest

/-- The elements of `w` octets each of an octet string. -/
def elements (w : Nat) (sg : Bool) : Nat → Bytes → List Int
  | 0, _ => []
  | n + 1, b => (if sg then sfield b 0 w else (field b 0 w : Int)) :: elements w sg n (b.drop w)

/-- The value a TLV carries for an attribute of a given type; none where the type byte or the length does not fit (BAD_VALUE). -/
def decodeVal (t : Ty) (x : Tlv) : Option Val :=
  if x.ty ≠ t.code then none
  else
    match t with
    | .bytes | .text => some (.bytes x.val)
    | .arr e w lo hi =>
      let n := (x.val.length - 4) / w
      if x.val.length = 4 + n * w ∧ octet x.val 0 = e ∧ lo ≤ n ∧ n ≤ hi then some (.arr (elements w (tySigned t) n (x.val.drop 4))) else none
    | _ =>
      if x.val.length = tyWidth t then some (.num (if tySigned t then sfield x.val 0 (tyWidth t) else (field x.val 0 (tyWidth t) : Int))) else none

/-- Whether a value lies in an attribute's range (R63, and the range its chapter gives). -/
def inRange (i : Int × Int) : Val → Bool
  | .num n => i.1 ≤ n && n ≤ i.2
  | .arr xs => xs.all (fun n => i.1 ≤ n && n ≤ i.2)
  | .bytes _ => true

end Sys2Proof.Machine
end

