-- ==== Sys2Proof/Machine/Defaults.lean ====
section
/-! DEFINITION. Attribute defaults that differ from instance to instance: the fault sources of Table 18-3, the tamper sources of Table 14-7, the shipped band
profiles of Table 06-9 and FIR sets of Table 12-3. -/

namespace Sys2Proof.Machine

/-- A fault source (Table 18-3): number, class, default reaction, whether it reports per unit. -/
structure Source where
  num : Nat
  cls : Nat
  reaction : Nat
  perUnit : Bool
  deriving DecidableEq, Repr

/-- Table 18-3, part 1. -/
def sources1 : List Source :=
  [⟨16, 4, 5, false⟩,
   ⟨17, 4, 5, false⟩,
   ⟨18, 0, 0, false⟩,
   ⟨19, 4, 5, false⟩,
   ⟨20, 4, 5, false⟩,
   ⟨21, 2, 4, false⟩,
   ⟨22, 4, 5, false⟩,
   ⟨23, 4, 5, false⟩,
   ⟨32, 2, 3, false⟩,
   ⟨33, 0, 0, false⟩,
   ⟨34, 2, 3, false⟩,
   ⟨35, 2, 3, false⟩,
   ⟨48, 0, 0, false⟩,
   ⟨49, 1, 1, false⟩,
   ⟨50, 4, 5, false⟩,
   ⟨51, 4, 5, false⟩,
   ⟨52, 4, 5, false⟩,
   ⟨64, 2, 2, true⟩,
   ⟨65, 2, 3, true⟩,
   ⟨66, 2, 3, false⟩]

/-- Table 18-3, part 2. -/
def sources2 : List Source :=
  [⟨80, 2, 3, true⟩,
   ⟨81, 2, 2, true⟩,
   ⟨96, 1, 1, true⟩,
   ⟨97, 2, 3, true⟩,
   ⟨98, 2, 2, true⟩,
   ⟨112, 1, 1, true⟩,
   ⟨113, 2, 3, true⟩,
   ⟨128, 2, 3, false⟩,
   ⟨129, 2, 3, false⟩,
   ⟨144, 2, 3, false⟩,
   ⟨145, 2, 3, false⟩,
   ⟨160, 2, 3, false⟩,
   ⟨176, 2, 2, false⟩,
   ⟨177, 2, 3, false⟩,
   ⟨192, 2, 3, false⟩,
   ⟨208, 3, 2, false⟩,
   ⟨209, 3, 2, false⟩,
   ⟨224, 2, 3, false⟩,
   ⟨225, 2, 2, false⟩,
   ⟨240, 2, 2, false⟩]

/-- Table 18-3, part 3. -/
def sources3 : List Source :=
  [⟨241, 2, 2, false⟩,
   ⟨242, 2, 2, false⟩,
   ⟨256, 1, 1, false⟩,
   ⟨257, 2, 2, false⟩,
   ⟨258, 3, 1, false⟩,
   ⟨272, 2, 2, false⟩,
   ⟨288, 1, 1, false⟩,
   ⟨289, 2, 2, false⟩,
   ⟨304, 1, 1, true⟩,
   ⟨305, 2, 2, false⟩,
   ⟨306, 3, 1, false⟩,
   ⟨307, 3, 5, false⟩,
   ⟨308, 3, 5, false⟩,
   ⟨320, 4, 5, false⟩,
   ⟨321, 4, 5, false⟩,
   ⟨322, 4, 5, false⟩,
   ⟨323, 4, 5, false⟩,
   ⟨324, 1, 1, false⟩]

/-- The sources of Table 18-3. -/
def sources : List Source := sources1 ++ sources2 ++ sources3

/-- The source of a number. -/
def source (n : Nat) : Option Source := sources.find? (fun x => x.num == n)

/-- Class numbers of Table 18-1. -/
def clsCorrected : Nat := 0
def clsMinor : Nat := 1
def clsMajor : Nat := 2
def clsSafety : Nat := 3
def clsFatal : Nat := 4

/-- One band entry of Table 06-8. -/
def bandEntry (lo hi ppm window frame off reserve flags erp : Nat) : Bytes :=
  leBytes 4 lo ++ leBytes 4 hi ++ leBytes 4 ppm ++ leBytes 2 window ++ leBytes 2 frame ++ leBytes 2 off ++ leBytes 1 reserve ++ leBytes 1 flags ++
    leBytes 1 erp ++ [0, 0, 0]

/-- The shipped band profiles (Table 06-9). -/
def shippedBands : Nat → Bytes
  | 0 =>
    bandEntry 863000 868000 1000 3600 3600 0 10 0 14 ++ bandEntry 868000 868600 10000 3600 3600 0 10 0 14 ++
      bandEntry 868700 869200 1000 3600 3600 0 10 0 14 ++ bandEntry 869400 869650 100000 3600 3600 0 10 0 27 ++
        bandEntry 869700 870000 10000 3600 3600 0 10 0 14
  | 1 => bandEntry 169400 169475 100000 3600 3600 0 10 0 27
  | 2 => bandEntry 902000 928000 1000000 20 400 0 0 0 30
  | _ => []

/-- The shipped FIR sets (Table 12-3): decimation, taps, latency in ns. -/
def shippedFir : Nat → Nat × Nat × Nat
  | 0 => (1, 96, 1562000)
  | 1 => (4, 192, 3062000)
  | 2 => (8, 256, 4062000)
  | 3 => (32, 384, 6062000)
  | _ => (0, 0, 0)

/-- Class of a tamper source when TAMPER_CONFIGURE has not set it (Table 14-7). -/
def tamperClass (i : Nat) : Nat := if i ≤ 3 then 3 else if i = 9 then 3 else 2

/-- The default mask, in kHz (Table 04-6). -/
def defaultNotches : List (Nat × Nat) :=
  [(1800, 2000), (2850, 3025), (3400, 4000), (4650, 4700), (5450, 5680), (6525, 6685), (7000, 7300), (8815, 8965), (10005, 10150), (11275, 11400)] ++
  [(13260, 13410), (14000, 14350), (17900, 17970), (18068, 18168), (21000, 21450), (21924, 22000), (24890, 24990), (25550, 25670), (28000, 29700)]

/-- The default of an attribute that depends on the instance. -/
def instDflt (a : Nat × Nat) (i : Nat) : Option Val :=
  if a = Attr.FaultSource.klass then (source i).map (fun x => .num x.cls)
  else if a = Attr.FaultSource.reaction then (source i).map (fun x => .num x.reaction)
  else if a = Attr.FaultSource.errPin then (source i).map (fun x => .num (if x.cls ≥ clsMajor then 1 else 0))
  else if a = Attr.TamperSource.klass then some (.num (tamperClass i))
  else if a = Attr.BandProfile.entries then some (.bytes (shippedBands i))
  else if a = Attr.NotchMask.notches ∧ i = 0 then some (.arr (defaultNotches.flatMap (fun n => [(n.1 : Int), (n.2 : Int)])))
  else if a = Attr.FirSet.decimation then some (.num (shippedFir i).1)
  else if a = Attr.FirSet.taps then some (.num (shippedFir i).2.1)
  else if a = Attr.FirSet.latencyNs then some (.num (shippedFir i).2.2)
  else if a = Attr.TimeDomain.sourcePort ∧ i = 1 then some (.num 1)
  else none

end Sys2Proof.Machine
end

