-- ==== Sys2Proof/Machine/Parts/Balance.lean ====
section
/-! DEFINITION. State of BAL: definitions, membership history, fits, identification (10_balance_topology.md). -/

namespace Sys2Proof.Machine

/-- A double-precision number m × 2^e (R400): 0, or 2^52 ≤ |m| < 2^53. -/
structure Dbl where
  m : Int
  e : Int
  deriving DecidableEq, Repr

/-- A definition of a group from an effective interval (Table 10-1). -/
structure GroupDef where
  start : Nat
  gone : Bool
  kind : Nat
  vector : Nat
  parent : Nat
  head : Nat
  cell : Nat
  fixed : Nat
  rated : Nat
  near : List Nat
  deriving DecidableEq, Repr

/-- A group (R400–R403). -/
structure Group where
  /-- Definitions, latest command first (R396). -/
  defs : List GroupDef := []
  /-- k of the fit, 0 at definition (R401). -/
  k : Dbl := ⟨0, 0⟩
  /-- P of the fit, 1 at definition (R401). -/
  p : Dbl := ⟨4503599627370496, -52⟩
  /-- COMPLETE intervals that count toward persistence: interval, excess, deficit, newest interval first (R403). -/
  hist : List (Nat × Bool × Bool) := []
  /-- Sum of the reported residuals of each UTC day of a daily run (Table 10-7): day, residual; newest first. -/
  days : List (Nat × Int) := []
  deriving DecidableEq, Repr

/-- The exponentially weighted sums of a member (R404). -/
structure Sums where
  sr : Dbl := ⟨0, 0⟩
  se : Dbl := ⟨0, 0⟩
  srr : Dbl := ⟨0, 0⟩
  see : Dbl := ⟨0, 0⟩
  sre : Dbl := ⟨0, 0⟩
  rho : Dbl := ⟨0, 0⟩
  beta : Dbl := ⟨0, 0⟩
  deriving DecidableEq, Repr

/-- A membership from an effective interval (R396): start, group (0xFFFF none), phase. -/
structure Membership where
  start : Nat
  group : Nat
  phase : Nat
  deriving DecidableEq, Repr

/-- Another chip's sums for a group's interval (R421): member, member sum and estimated sum in Wh, members, absent. -/
structure RemoteSums where
  member : Nat
  sum : Int
  est : Int
  count : Nat
  absent : Nat
  deriving DecidableEq, Repr

/-- An identification that daily runs repeat (R417): group, phase, days. -/
structure Streak where
  group : Nat
  phase : Nat
  days : Nat
  deriving DecidableEq, Repr

/-- BAL. -/
structure Balance where
  /-- Groups by number; reset none. -/
  groups : List (Nat × Group) := []
  /-- Membership history of each handle, latest command first (R396); reset none. -/
  members : List (Nat × List Membership) := []
  /-- Attribution sums by handle (R404); reset none. -/
  sums : List (Nat × Sums) := []
  /-- ZCO counts of a handle for a candidate (R409): handle × 8,192 + group, six bins and unresolved; reset none. -/
  bins : List (Nat × List Dbl) := []
  /-- Interval of the last ZCO sample of a handle (R407); reset none. -/
  zcoLast : List (Nat × Nat) := []
  /-- NEUTRAL results of the last 96 intervals by handle, newest first (Table 10-7); reset none. -/
  neutral : List (Nat × List (Nat × Bool)) := []
  /-- Last UTC day on which a signature's test was true: handle × 8 + bit; reset none. -/
  sigTrue : List (Nat × Nat) := []
  /-- Group, phase and number of consecutive daily runs an identification has given them (R417), by handle; reset none. -/
  streak : List (Nat × Streak) := []
  /-- UTC day of the last daily run (R414); reset none. -/
  lastRun : Option Nat := none
  /-- Sums received for group × 2^32 + interval (R421); reset none. -/
  remote : List (Nat × List RemoteSums) := []
  /-- Proposals that have been created, oldest first (R418); reset none. -/
  order : List Nat := []
  /-- Number of the next proposal while slots are FREE (R418); reset 0. -/
  nextProposal : Nat := 0
  deriving DecidableEq, Repr

end Sys2Proof.Machine
end

