-- ==== Sys2Proof/Machine/Parts/Billing.lean ====
section
/-! DEFINITION. State of BIL: calendars, closes, what is booked (09_billing_tariffs.md). Registers, demands, comparisons and counters are attributes of BillingRegisters
and RegisterComparison. -/

namespace Sys2Proof.Machine

/-- A calendar image (Tables 09-1 and 09-2): seasons as (month, day, week profile), week profiles as seven day profiles, day profiles as (minute, rate) points,
special days as (year, month, day, day profile), transitions as (interval, offset in minutes). -/
structure Calendar where
  ident : Nat
  seasons : List (Nat × Nat × Nat)
  weeks : List (List Nat)
  days : List (List (Nat × Nat))
  specials : List (Nat × Nat × Nat × Nat)
  transitions : List (Nat × Int)
  block : Nat
  sliding : Bool
  period : Nat
  periodDay : Nat
  base : Int
  partialCounts : Bool
  push : Bool
  demandExport : Bool
  deriving DecidableEq, Repr

/-- A generation of a calendar: activation interval, generation number, image (R352). -/
structure CalGen where
  start : Nat
  number : Nat
  image : Calendar
  deriving DecidableEq, Repr

/-- A calendar number (R341): its passive image, its active and retired generations, newest first, and its periods. -/
structure CalSlot where
  passive : Option Calendar := none
  gens : List CalGen := []
  /-- End boundaries of periods whose close is scheduled, oldest first: interval of the boundary and service time in s of the close (R365). -/
  closes : List (Nat × Nat) := []
  /-- End boundary of the last closed period (R366, RETRO of R326); reset none. -/
  closedEnd : Option Nat := none
  /-- CALENDAR_HORIZON was recorded (R346); reset 0. -/
  horizon : Bool := false
  /-- Meters that have not confirmed the passive image (R354); reset none. -/
  pendingMeters : List Nat := []
  /-- Meters that had not confirmed at activation: NOT_COMPARED until they do (R354); reset none. -/
  late : List Nat := []
  deriving DecidableEq, Repr

/-- A stored snapshot (R367, R369): instance and its 544 octets. -/
abbrev Snapshot := Nat × Bytes

/-- BIL. -/
structure Billing where
  /-- Calendars by number; reset none loaded. -/
  cals : List (Nat × CalSlot) := []
  /-- What is booked for an interval: handle × 2^32 + interval, the four values, and estimated A+ (R356, R357); reset none. -/
  booked : List (Nat × List Nat) := []
  /-- What the carry set holds of an interval (R365): handle × 2^32 + interval, and the differences of the four values and of estimated A+; reset none. -/
  carried : List (Nat × List Int) := []
  /-- Demand windows of the open period counted partial (R361): handle × 2^32 + first interval; reset none. -/
  partials : List Nat := []
  /-- Boundaries executed, newest first: interval, position, calendar, flags bit 0 CLOCK bit 1 OUTAGE (R378); reset none. -/
  executed : List (Nat × Nat × Nat × Nat) := []
  /-- Per handle, snapshot flags of the open period (Table 09-6 offset 13); reset none. -/
  flags : List (Nat × Nat) := []
  /-- Stored snapshots by BillingSnapshot instance (R369); reset none. -/
  snaps : List Snapshot := []
  /-- ON_DEMAND snapshots taken per endpoint (R369); reset none. -/
  onDemand : List (Nat × Nat) := []
  /-- Chip register values at the baseline of each comparison: handle and 34 values (R372); reset none. -/
  baseChip : List (Nat × List Int) := []
  /-- Service time in s from which boundaries are executed at restoration with OUTAGE (R385); reset none. -/
  downSince : Option Nat := none
  /-- Zero-length intervals of forward steps and outages (R380, R385): first, last and 0 CLOCK or 1 OUTAGE; reset none. -/
  zeroSpans : List (Nat × Nat × Nat) := []
  deriving DecidableEq, Repr

end Sys2Proof.Machine
end

