-- ==== Sys2Proof/Machine/Parts/Collect.lean ====
section
/-! DEFINITION. State of COL and VAL and of the commit path (08_collection_validation.md). -/

namespace Sys2Proof.Machine

/-- One version of an interval's record (Table 08-8): quality bits 6:0, the eight 24-bit values, 0xFF_FFFF absent. -/
structure IRec where
  version : Nat
  quality : BitVec 7
  vals : List Nat
  deriving DecidableEq, Repr

/-- A record on its way: handle, interval, quality and values; its version is given at commit (R335). -/
structure NewRec where
  handle : Nat
  interval : Nat
  quality : BitVec 7
  vals : List Nat
  deriving DecidableEq, Repr

/-- A frame's records and mark on the commit path (R20, R317, R321). -/
structure Flight where
  id : Nat
  recs : List NewRec
  /-- The mark (handle, counter) that commits with the records (R316). -/
  mark : Option (Nat × Nat) := none
  /-- Endpoint and counter of the frame that is acknowledged after commit (R321). -/
  ack : Option (Nat × Nat) := none
  /-- Command that completes at commit: arrival number (R312, R330). -/
  done : Option Nat := none
  /-- The frame authenticated under the pending key generation (R541): the handle and the generation. -/
  newGen : Option (Nat × Nat) := none
  /-- The required level is not one the present targets meet: confirmations so far. -/
  journal : Bool := false
  mirror : Bool := false
  replica : Bool := false
  /-- COMMIT_STALL was recorded (R322). -/
  stalled : Bool := false
  /-- Made while VAL was fenced (R329). -/
  unchecked : Bool := false
  deriving DecidableEq, Repr

/-- A poll or downlink command (R304, R305, R311). -/
structure Request where
  handle : Nat
  cell : Nat
  queue : Nat
  order : Nat
  serial : Nat
  opcode : Nat
  /-- Range of a poll: first interval and count; none for a command. -/
  poll : Option (Nat × Nat)
  apdu : Bytes
  attempts : Nat := 0
  outstanding : Bool := false
  /-- It waits for the endpoint's next slot, at this service second, after BUDGET_EXHAUSTED (R303). -/
  retryAt : Option Nat := none
  /-- Arrival number of the command that asked for it. -/
  cmd : Option Nat := none
  deriving DecidableEq, Repr

/-- An endpoint's state record in DRAM, beside its attributes (08_collection_validation.md). -/
structure Endpoint where
  /-- Bitmap of the counters L − 63 to L, bit 0 for L (R315). -/
  bitmap : BitVec 64 := 0
  /-- A frame has been accepted, so that L is held (R315). -/
  heard : Bool := false
  /-- Bits whose commit is pending (R315). -/
  pendingCounters : List Nat := []
  /-- Registers of the energy channels at interval ends: channel, interval, register (R309). -/
  registers : List (Nat × Nat × Nat) := []
  /-- Committed unchecked while VAL was fenced: intervals (R329). -/
  unchecked : List Nat := []
  /-- Intervals for which the meter reported no energy (Table 08-11). -/
  noEnergy : List Nat := []
  /-- Gap limits already recorded: first intervals (R332). -/
  limits : List Nat := []
  /-- Outbound invocation counter of the chip (R318, R611). -/
  outCounter : Nat := 0
  /-- A restore poll is queued: its delay in s (R301). -/
  restorePoll : Option Nat := none
  /-- Power-restore notices counted while a restore poll is queued (R301). -/
  notices : Nat := 0
  /-- D3 instant of the last frame heard (R210, Table 11-8). -/
  heardAt : Nat := 0
  deriving DecidableEq, Repr

/-- COL, VAL and the commit path. -/
structure Collect where
  /-- State records by handle; reset none. -/
  eps : List (Nat × Endpoint) := []
  /-- Requests waiting or outstanding, in order (R304); reset none. -/
  requests : List Request := []
  /-- Order of the next request; reset 0. -/
  nextOrder : Nat := 0
  /-- Frames on the commit path; reset none. -/
  flights : List Flight := []
  /-- Identifier of the next flight; reset 0. -/
  nextFlight : Nat := 0
  /-- Polls that fell due while COL was fenced: handles (R302); reset none. -/
  duePolls : List Nat := []
  /-- Deadlines of PUSH_EXPECT that passed while COL was fenced: handle and due time in s (R302); reset none. -/
  dueDeadlines : List (Nat × Nat) := []
  /-- Frames held until their sighting is committed (R269): number and the frame; reset none. -/
  heldFrames : List (Nat × (Nat × Secured)) := []
  nextHeld : Nat := 0
  /-- Serial frames sent on RS-485 ports: port and octets; an output; reset none. -/
  serialOut : List (Nat × Bytes) := []
  deriving DecidableEq, Repr

end Sys2Proof.Machine
end

