-- ==== Sys2Proof/Machine/Parts/Debug.lean ====
section
/-! DEFINITION. State of the debug port (20_balls_electrical_debug.md R737–R744). -/

namespace Sys2Proof.Machine

/-- A debug request that has been taken: operation, SEQ, data, and the bits of a control word still to be acted on. -/
structure DebugReq where
  op : Nat
  seq : Nat
  data : Nat
  left : Nat
  deriving DecidableEq, Repr

/-- The four answers of R737. -/
inductive DebugAnswer
  | done | busy | error | refused
  deriving DecidableEq, Repr

/-- The debug port. -/
structure Debug where
  /-- The request under way (R738); reset none. -/
  req : Option DebugReq := none
  /-- The last request executed (R738), forgotten where the protocol starts afresh; reset none. -/
  last : Option DebugReq := none
  /-- The data that the last executed request returned, which a repeat returns again (R738); reset none. -/
  lastOut : Option Nat := none
  /-- The answer sent last, 4 bits, and the 32 data bits that followed it (R737): outputs; reset none. -/
  answer : Option DebugAnswer := none
  out : Option Nat := none
  /-- Address, 40 bits (Table 20-13); reset DESIGN CHOICE 0 (log 43). -/
  addr : Nat := 0
  /-- The draw of the TRNG that the unlock challenge, 32 octets, is (R741); reset 0, a draw no other value shares. -/
  challenge : Nat := 0
  /-- Unlock response, 64 octets; octets not listed are 0 (Table 20-15); reset DESIGN CHOICE zeros (log 43). -/
  response : Bytes := []
  /-- UNLOCKED, 1 bit (Table 20-17); reset 0. -/
  unlocked : Bool := false
  /-- UNLOCKS, 16 bits, and FAILED_UNLOCKS, 8 bits, saturating (Table 20-17); reset 0. -/
  unlocks : Nat := 0
  failed : Nat := 0
  /-- D3 instant at which `DBG_CK` toggled last, for CONNECTED (Table 20-17); reset none. -/
  clockAt : Option Nat := none
  /-- PUREL_HALTED and GUARD_HALTED, 1 bit each (Table 20-17); reset 0. -/
  halted : Bool := false
  guardHalted : Bool := false
  /-- JTAG_ACTIVE, 1 bit (Table 20-17): an input of the TAP, which no command moves; reset 0. -/
  jtag : Bool := false
  /-- Breakpoints 0–7, 32 bits each (Table 20-15); reset DESIGN CHOICE 0 (log 43). -/
  breaks : List Nat := List.replicate 8 0
  /-- Watchpoints 0–3: address, mask, control, 32 bits each (Table 20-15); reset DESIGN CHOICE 0 (log 43). -/
  watches : List Nat := List.replicate 12 0
  /-- Words of the program counter and of the core registers known while halted, by address, rising (Table 20-15); reset none. -/
  regs : List (Nat × Nat) := []
  /-- Words of Purel SRAM known while halted, by address, rising (Table 20-15); reset none. -/
  ram : List (Nat × Nat) := []
  /-- OTP window: slot, 32 bits, and value, 32 octets; octets not listed are 0 (Table 20-15); reset DESIGN CHOICE 0 (log 43). -/
  otpSlot : Nat := 0
  otpValue : Bytes := []
  deriving DecidableEq, Repr

/-- The processor runs: what was known of its registers and memory holds no longer. -/
def Debug.stirred (d : Debug) : Debug := { d with regs := [], ram := [] }

end Sys2Proof.Machine
end

