-- ==== Sys2Proof/Machine/Parts/Fault.lean ====
section
/-! DEFINITION. State of the fault collector, the safety functions and the maintenance arbiter (18_faults_safety.md). -/

namespace Sys2Proof.Machine

/-- A request to the maintenance arbiter or an admitted activity (Table 18-7): activity number, order position (R693), the unit it uses beside its
domains (lane and port of a retraining), the session and path of a command requester, whether it is an internal request, and when it was first
deferred. -/
structure Activity where
  kind : Nat
  arrival : Nat
  internal : Bool
  unit : Nat := 0
  session : Nat := 0
  path : Nat := 0
  arg : Bytes := []
  since : Nat := 0
  deriving DecidableEq, Repr

/-- FCR and the Guard's safety state. -/
structure FaultState where
  /-- FCR_REPORTS, 32 bits, saturating (R700); reset 0. -/
  reports : Nat := 0
  /-- LAST_SOURCE, 16 bits (Table 18-9); reset 0. -/
  lastSource : Nat := 0
  /-- LAST_REACTION, 3 bits (Table 18-9); reset 0. -/
  lastReaction : Nat := 0
  /-- INJECTED, 1 bit (Table 18-9); reset 0. -/
  injected : Bool := false
  /-- PULSE, 1 bit (Table 18-9, R675); reset 0. -/
  pulse : Bool := false
  /-- PUREL_HOLD, 1 bit (Table 18-10, R676); reset 0. -/
  purelHold : Bool := false
  /-- HOST_HOLD, 1 bit (Table 18-10); reset 0. -/
  hostHold : Bool := false
  /-- SF0_SAFE, 1 bit (Table 18-11); reset 0. -/
  sf0 : Bool := false
  /-- SF1_SAFE, 1 bit (Table 18-11); reset 0. -/
  sf1 : Bool := false
  /-- CHECKER_TEST_OK, 1 bit (Table 18-11); reset 0. -/
  checkerOk : Bool := false
  /-- LUX_TEST_OK, 1 bit (Table 18-11); reset 0. -/
  luxOk : Bool := false
  /-- Reports of each source in its current 1 s window (R672); reset none. -/
  window : List (Nat × Nat) := []
  /-- D3 instant of each source's last report, from which its healthy cycles count (R670); reset none. -/
  lastReport : List (Nat × Nat) := []
  /-- Purel interrupts raised (R672): a count; reset 0. -/
  irqs : Nat := 0
  /-- Synchronous traps given to Purel (R672): a count; reset 0. -/
  traps : Nat := 0
  /-- Block resets of each unit within the last 3,600 s: unit and D3 instant (R680); reset none. -/
  resets : List (Nat × Nat) := []
  /-- Units in block reset whose DOMAIN reset, self-test and unfencing have not ended (R680); reset none. -/
  resetting : List Nat := []
  /-- Injected reports still to be made: source, mode, count (R698); reset none. -/
  injections : List (Nat × Nat × Nat) := []
  /-- DOMAIN resets made, newest first: domain (R92); reset none. -/
  domainResets : List Nat := []
  /-- Admitted activities (R694); reset none. -/
  admitted : List Activity := []
  /-- Deferred requests, at most 16, in order (R695); reset none. -/
  deferred : List Activity := []
  /-- Internal requests that wait outside a full queue (R695); reset none. -/
  waiting : List Activity := []
  /-- Internal requests a fence or HOLDUP ended, to be made again (R677, R696); reset none. -/
  again : List Activity := []
  /-- The Guard's approvals of the last 60 s and of `target_spacing_s`: D3 instant, cell, target path (R686); reset none. -/
  approvals : List (Nat × Nat × Nat) := []
  /-- The Guard's policy table (R686): `island_allowed`, `rate_chip`, `rate_cell`, `target_spacing_s`; reset 1, 120, 16, 60. -/
  islandAllowed : Bool := true
  rateChip : Nat := 120
  rateCell : Nat := 16
  spacing : Nat := 60
  /-- The policy's deny list of target paths, at most 1,024 (Table 18-6); reset empty. -/
  deny : List Nat := []
  deriving DecidableEq, Repr

end Sys2Proof.Machine
end

