-- ==== Sys2Proof/Machine/Parts/Glovebox.lean ====
section
/-! DEFINITION. State of GLV (14_glovebox.md). -/

namespace Sys2Proof.Machine

/-- GLV. -/
structure Glovebox where
  /-- A TRNG health test has failed and no random bits are issued (R546); reset 0. -/
  trngFault : Bool := false
  /-- Last counter accepted under the previous generation, by handle (R541); reset none. -/
  prevLast : List (Nat × Nat) := []
  /-- D3 instant at which the previous generation ceased to be current, by handle (R541); reset none. -/
  prevSince : List (Nat × Nat) := []
  /-- Generation of the beacon key each cell's beacons are signed with (R541, R542), by cell; reset DESIGN CHOICE 0 (log 24). -/
  beaconGen : List (Nat × Nat) := []
  /-- Beacon keys on their way to the members of a cell (R542): cell, members that have not confirmed; reset none. -/
  beaconNext : List (Nat × List Nat) := []
  /-- GLV_STATUS.APPROVAL_REFUSED, 1 bit (R560); reset 0. -/
  approvalRefused : Bool := false
  /-- GLV_STATUS.KEY_ABORT, 1 bit (R553); reset 0. -/
  keyAbort : Bool := false
  /-- GLV_STATUS.DEBUG_OPENED, 1 bit (R549); reset 0. -/
  debugOpened : Bool := false
  /-- GLV_STATUS.READY, 1 bit (Table 14-11); reset 0. -/
  ready : Bool := false
  /-- GLV_STATUS.SLOT_FAULTS, 8 bits (R530); reset 0. -/
  slotFaults : Nat := 0
  /-- Contents of the OTP slots, 256 bits each, by slot (R530–R532); reset DESIGN CHOICE none written (log 2). -/
  slots : List (Nat × Bytes) := []
  /-- Bits of value and tag (40 octets) that a cut-short programming has blown in an unwritten slot (R534); reset none. -/
  blown : List (Nat × Bytes) := []
  /-- The key retention bank of the backup domain holds the blob KEK and the attestation scalar (R536, R537): the KEK's generation; reset none, empty. -/
  bank : Option Nat := none
  /-- Key pairs, 32 octets, by handle × 16 + generation: what the blobs hold (R538, R541); reset none. -/
  keys : List (Nat × Bytes) := []
  /-- Endpoint slots of the working-key cache, 3,072, latest used first: handle × 16 + generation (R543); reset none. -/
  cache : List Nat := []
  /-- TAMPER_STATUS.ERASED, 1 bit, backup domain (Table 14-12); reset DESIGN CHOICE 0 (log 2). -/
  erased : Bool := false
  /-- First trip without main power, not yet recorded: source and class, backup domain (R553); reset none. -/
  firstTrip : Option (Nat × Nat) := none
  /-- The pending first TAMPER_ACK (R555): role, credential, D3 instant; reset none. -/
  ack : Option (Nat × Nat × Nat) := none
  /-- The pending first LIFECYCLE_ADVANCE (R558): target, credential, D3 instant; reset none. -/
  advance : Option (Nat × Nat × Nat) := none
  /-- Commands whose key operation a trip aborted before they answered (R755): arrival number, import records complete before; reset none. -/
  aborting : List (Nat × Nat) := []
  /-- Hatband seeds, 16 bits each, backup domain (R550); reset none. -/
  hatSeeds : List Nat := []
  /-- Attestation count since the last life-cycle change (Table 14-5); reset DESIGN CHOICE 0 (log 2). -/
  attests : Nat := 0
  /-- SHA-384 of the loader and of the running image, SHA-256 of the Guard policy table (Table 14-5); reset DESIGN CHOICE empty (log 2). -/
  loaderHash : Bytes := []
  imageHash : Bytes := []
  policyHash : Bytes := []
  /-- Approval counters of the Guard and of the approval checker, 32 bits (R561); reset 0. -/
  approvals : Nat := 0
  checked : Nat := 0
  deriving DecidableEq, Repr

end Sys2Proof.Machine
end

