-- ==== Sys2Proof/Machine/Parts/Light.lean ====
section
/-! DEFINITION. State of LUX (11_lighting.md). -/

namespace Sys2Proof.Machine

/-- One step of a lantern's level in force (R453): service time in ms, levels in thousandths at its start and end, ramp in ms. -/
structure LevelStep where
  at2 : Nat
  before : Nat
  after : Nat
  ramp : Nat
  deriving DecidableEq, Repr

/-- An override (R458): lantern or segment, its number, level, ramp in 10 ms, end in s of service time. -/
structure Override where
  lantern : Bool
  id : Nat
  level : Nat
  ramp : Nat
  until2 : Nat
  deriving DecidableEq, Repr

/-- LUX. -/
structure Light where
  /-- Traffic level of each segment while its hold runs, and `ramp_down` of the rule that set it (R440); reset none. -/
  traffic : List (Nat × (Nat × Nat)) := []
  /-- Active overrides, at most 1,024 (R458); reset none. -/
  overrides : List Override := []
  /-- Multicast units to be sent again: cell, body, times left (R444); reset none. -/
  multicasts : List (Nat × Bytes × Nat) := []
  /-- Levels in force per lantern, newest first (R453); reset none. -/
  levels : List (Nat × List LevelStep) := []
  /-- Traffic events that passed step 6, oldest first: handle, count, speed (R438); reset none. -/
  events : List (Nat × Nat × Nat) := []
  /-- POLAR recorded: schedule and day number (R433); reset none. -/
  polar : List (Nat × Nat) := []
  /-- Consecutive intervals per lantern of the faults of Table 11-8: failed, over, at or below over, mismatched; reset none. -/
  runs : List (Nat × (Nat × Nat × Nat × Nat)) := []
  /-- Day-burner intervals per lantern: local day and count (Table 11-8 bit 2); reset none. -/
  dayBurn : List (Nat × (Nat × Nat)) := []
  /-- Day-burn intervals per circuit: local day and count (Table 11-8); reset none. -/
  circuitBurn : List (Nat × (Nat × Nat)) := []
  /-- Intervals in which LUX was fenced, waiting for their records: handle and interval (R455); reset none. -/
  lateRecords : List (Nat × Nat) := []
  /-- Circuits to be confirmed: circuit and the arrival number of the CIRCUIT_ENERGIZE (R456); reset none. -/
  energizing : List (Nat × Nat) := []
  /-- Spans in which a circuit was ISOLATED: circuit, start and end in ms of service time (R455); reset none. -/
  isolated : List (Nat × Nat × Option Nat) := []
  /-- Spans in which LUX was fenced: start and end in ms of service time (R455); reset none. -/
  fences : List (Nat × Option Nat) := []
  deriving DecidableEq, Repr

end Sys2Proof.Machine
end

