-- ==== Sys2Proof/Machine/Parts/Line.lean ====
section
/-! DEFINITION. State of LPE and LMA: lanes, links, line ports, cells, transmit units (04_bexnos_line_phy.md, 05_line_access.md). -/

namespace Sys2Proof.Machine

/-- A lane's canceller (R153–R158); its state and ERLE are attributes of LineLane. -/
structure Lane where
  /-- The 256 taps (R153); reset DESIGN CHOICE none fitted (log 8). -/
  taps : List Int := []
  /-- The tap snapshot of R157; reset none. -/
  snapshot : Option (List Int) := none
  /-- D3 instant of the last entry into HALF_DUPLEX (R158); reset none. -/
  halfSince : Option Nat := none
  /-- D3 instants of entries within the last 60 s (R158); reset none. -/
  halfTimes : List Nat := []
  /-- A SOUND frame of training is on the wire or awaited (R153); reset 0. -/
  training : Bool := false
  deriving DecidableEq, Repr

/-- Tone map sets of a link and what MAC needs of its peer (R131, R132, R168). -/
structure Link where
  /-- Maps the peer gave for the chip's transmissions, sets 0 and 1 (R131); reset none. -/
  set0 : List ToneMap := []
  set1 : List ToneMap := []
  /-- Set used for the chip's transmissions (R131); reset DESIGN CHOICE 0 (log 8). -/
  txSet : Nat := 0
  /-- Maps the chip gave to the peer, and the set they are in; the peer has acknowledged it (R131); reset none. -/
  rxMaps : List ToneMap := []
  rxSet : Nat := 0
  rxAcked : Bool := false
  /-- Set named by the last frame received (R131); reset DESIGN CHOICE 0 (log 8). -/
  lastSet : Nat := 0
  /-- The maps are no older than 120 s; otherwise ROBUST (R132); reset 0. -/
  mapsValid : Bool := false
  /-- Long span the peer declared at admission (R168); reset 0. -/
  peerSpan : Nat := 0
  /-- The peer declared the ZCO capability (R406, Table 05-9); reset 0. -/
  zco : Bool := false
  /-- The relay node declared FULL_DUPLEX (R186), MIMO streams are attribute `streams`; reset 0. -/
  fullDuplex : Bool := false
  deriving DecidableEq, Repr

/-- Who handed a unit to LMA, and hears of its end (R191, R203, R447). -/
inductive Producer
  | none
  | col (handle serial : Nat)
  | ack (handle counter : Nat)
  | lux (handle : Nat)
  | feed (cell : Nat)
  | safeLevel (handle : Nat)
  | transit
  | campaign (camp handle block : Nat)
  deriving DecidableEq, Repr

/-- A unit in a transmit queue (R188, R189): kind of Table 05-1, header fields, subkind, SECURED, body, sequence, progress. -/
structure TxUnit where
  kind : Nat
  cell : Nat
  dst16 : Nat
  src16 : Nat := 0
  group : Bool := false
  secured : Bool := true
  subkind : Nat := 0
  body : Bytes
  seq : Nat := 0
  /-- Segments acknowledged (R190). -/
  acked : List Nat := []
  /-- Failed attempts of the segment being sent (R191). -/
  attempts : Nat := 0
  /-- Link the unit goes out on (R176). -/
  link : Nat := 0
  producer : Producer := .none
  deriving DecidableEq, Repr

/-- The frame a port has on the wire: its header, sub-header and body as sent, the queue and segment it comes from, and whether its acknowledgement is due. -/
structure OnAir where
  header : BitVec 128
  body : Bytes
  queue : Nat
  seg : Nat
  awaitAck : Bool
  cutThrough : Bool := false
  deriving DecidableEq, Repr

/-- A partial unit at the receiver (R190). -/
structure Partial where
  cell : Nat
  src16 : Nat
  seq : Nat
  segs : List (Nat × Bytes)
  last : Option Nat
  len : Nat
  at3 : Nat
  deriving DecidableEq, Repr

/-- A cell's beacons and lease at run time (R199–R214). -/
structure Cell where
  /-- Consecutive missed beacons (R212); reset 0. -/
  missed : Nat := 0
  /-- Half-cycles a due beacon has been retried; none when none is due (R201); reset none. -/
  slip : Option Nat := none
  /-- LEASE_RENEW was held at 0 in the last beacon (R213); reset 1 (DESIGN CHOICE, log 8). -/
  held : Bool := true
  /-- The new epoch's condition of R213 still has to be met; reset 1 (DESIGN CHOICE, log 8). -/
  restoring : Bool := true
  /-- Consecutive beacons sent with LEASE_RENEW 0 (R211); reset 0. -/
  noRenew : Nat := 0
  /-- Consecutive renewing beacons of the present epoch (R213); reset 0. -/
  renewed : Nat := 0
  /-- Beacons since the first of the present epoch (R214); reset 0. -/
  sinceEpoch : Nat := 0
  /-- Lanterns that have acknowledged the present epoch (R213); reset none. -/
  acked : List Nat := []
  /-- Lanterns left out after 10 periods (R214); reset none. -/
  leftOut : List Nat := []
  /-- Beacon sequence of a radio PAN, 16 bits (Table 05-7); reset DESIGN CHOICE 0 (log 8). -/
  seq : Nat := 0
  /-- The body of the last beacon or feed, Table 05-7; reset none. -/
  body : Bytes := []
  deriving DecidableEq, Repr

/-- A line port's MAC. -/
structure Port where
  /-- The eight transmit queues, queue 0 first (R188); reset empty. -/
  queues : List (List TxUnit) := List.replicate 8 []
  /-- Medium busy (05_line_access.md); reset 0. -/
  busy : Bool := false
  /-- The chip contends in this contention (R182); reset 0. -/
  contending : Bool := false
  /-- Back-off count kept (R183); reset none. -/
  backoff : Option Nat := none
  /-- Attempt number (R183); reset 0. -/
  attempt : Nat := 0
  /-- Frame on the wire or awaiting its acknowledgement; reset none. -/
  onAir : Option OnAir := none
  /-- The acknowledgement the receiver sends ACK_IFS after a frame (R190): SEQ, SEG, RESULT, TM_ACK; an output; reset none. -/
  ackOut : Option (Nat × Nat × Nat × Option Nat) := none
  /-- Next unit sequence of the chip, 12 bits (Table 05-2); reset DESIGN CHOICE 0 (log 8). -/
  nextSeq : Nat := 0
  /-- Accepted (cell, SRC, SEQ, SEG) with D3 instants: the last 16 per source for 10 s (R192); reset none. -/
  repeats : List (Nat × Nat × Nat × Nat × Nat) := []
  /-- Partial units (R190); reset none. -/
  partials : List Partial := []
  /-- Consecutive cut-through frames without underrun (R195); reset 0. -/
  ctRun : Nat := 0
  /-- Positions hit in each of the last 256 half-cycles, newest first (R163); reset none. -/
  hits : List (List Nat) := []
  /-- Recurring positions (R163); reset none. -/
  recurring : List Nat := []
  /-- Accepted edges, newest first, at most 9, in TSCLK units of D3 (R170); reset none. -/
  edges : List Nat := []
  /-- Consecutive expected edges missing (R172); reset 0. -/
  missing : Nat := 0
  /-- Consecutive accepted edges since the loss (R172); reset 0. -/
  good : Nat := 0
  /-- ZC_LOST recorded and not restored: the reference runs on (R172); reset 0. -/
  zcLost : Bool := false
  /-- The cell of the beacon on the wire as it stood before it, with its `beacon_state` (R184, R201); reset none. -/
  undo : Option (Cell × Nat) := none
  deriving DecidableEq, Repr

/-- LPE and LMA. -/
structure Line where
  /-- The 48 lanes (R122); reset as Lane. -/
  lanes : List (Nat × Lane) := []
  /-- The 16 ports; reset as Port. -/
  ports : List (Nat × Port) := []
  /-- Links (R176); reset none. -/
  links : List (Nat × Link) := []
  /-- Cells, line and radio, by number; reset none. -/
  cells : List (Nat × Cell) := []
  /-- Short addresses held: cell × 2^16 + address, and the handle (R209); reset none. -/
  addrs : List (Nat × Nat) := []
  /-- Short addresses released, with the D3 instant (R209); reset none. -/
  released : List (Nat × Nat) := []
  /-- Handles marked NO_ZCO (R208); reset none. -/
  noZco : List Nat := []
  deriving DecidableEq, Repr

end Sys2Proof.Machine
end

