-- ==== Sys2Proof/Machine/Parts/Mailbox.lean ====
section
/-! DEFINITION. State of MBX: pairs, sessions, nonces, subscriptions, notifications, energize commands (02_purel_mailboxes.md). -/

namespace Sys2Proof.Machine

/-- A command frame that has been taken (R37, R40): where it came from, its header fields, its payload and bulk data, its arrival number, and the
session slot, role and credential it ran under. -/
structure Cmd where
  src : Src
  seq : Nat := 0
  session : Nat := 0
  opcode : Nat := 0
  path : Nat := 0
  flags : Nat := 0
  arrival : Nat := 0
  payload : Bytes := []
  bulk : Bytes := []
  role : Role := .audit
  cred : Nat := 0
  slot : Nat := 0
  localSess : Bool := true
  certKey : Bytes := []
  peerAddr : Int := 0
  deriving DecidableEq, Repr

/-- One mailbox pair of BAR2, BAR4 and BAR0 0x0100 + 16n (R34–R39, Tables 02-1 to 02-3). -/
structure Pair where
  /-- Inbound buffer, 4 KiB; octets not listed are 0. R37; reset zeros. -/
  inbuf : Bytes := []
  /-- BAR4 slice, 1 MiB; octets not listed are 0. R36; reset DESIGN CHOICE zeros (log 3). -/
  bar4 : Bytes := []
  /-- Outbound buffer. R35; reset DESIGN CHOICE zeros (log 3). -/
  outbuf : Bytes := []
  /-- OUT_FULL, 1 bit. Table 02-2; reset 0. -/
  outFull : Bool := false
  /-- IN_BUSY, 1 bit. Table 02-1; reset 0. -/
  inBusy : Bool := false
  /-- IN_RING_LOST, 1 bit. Table 02-1; reset 0. -/
  ringLost : Bool := false
  /-- IRQ_EN, 1 bit. Table 02-3; reset 0. -/
  irqEn : Bool := false
  /-- VECTOR, 6 bits. Table 02-3; reset n (its pair number). -/
  vector : Nat := 0
  /-- The response that waits for the outbound buffer (R39); reset none. -/
  waiting : Option Bytes := none
  /-- The arrival number of a frame that waits in the inbound buffer for a handover (R27, R41); reset none. -/
  held : Option Nat := none
  deriving DecidableEq, Repr

/-- A subscription (R81, R82): identifier, holder, trigger (1 change, 2 event, 3 periodic), period in s and object path. -/
structure Subscription where
  id : Nat
  session : Nat
  trigger : Nat
  period : Nat
  path : Nat
  deriving DecidableEq, Repr

/-- An open session slot (R47, R53, R54, R57). -/
structure Session where
  slot : Nat
  handle : Nat
  role : Role
  cred : Nat
  localSess : Bool
  assoc : Nat
  peerAddr : Int
  idle : Nat
  lastUse : Nat
  high : Nat := 0
  marks : List (Nat × Option Nat) := []
  pairs : List Src := []
  deriving DecidableEq, Repr

/-- A notification entry (Table 02-10) and the session it is for. -/
structure Entry where
  session : Nat
  sub : Nat
  kind : Nat
  path : Nat
  arrival : Nat
  status : Nat
  data : Bytes
  /-- The DTLS association it goes out on; none for pair 0 (R76). -/
  route : Option Nat := none
  deriving DecidableEq, Repr

/-- A pending energize-class command (R66–R70) with its window of R68. -/
structure Energize where
  arrival : Nat
  opcode : Nat
  path : Nat
  session : Nat
  role : Role
  cred : Nat
  localSess : Bool
  payload : Bytes
  window : Nat
  deriving DecidableEq, Repr

/-- A command answered ACCEPTED, DEFERRED or with NO_WAIT whose completion is still to be notified (R746). -/
structure Awaiting where
  arrival : Nat
  session : Nat
  path : Nat
  result : Option Nat
  deriving DecidableEq, Repr

/-- A nonce issued by SESSION_CHALLENGE (R47, R48): the pair it went to, role, credential, the nonce and the D3 instant. -/
structure Nonce where
  src : Src
  role : Nat
  cred : Nat
  nonce : Bytes
  at3 : Nat
  deriving DecidableEq, Repr

/-- MBX. -/
structure Mailbox where
  /-- The 64 mailbox pairs (R34, R35); reset as Pair. -/
  pairs : List Pair := (List.range 64).map (fun n => ({ vector := n } : Pair))
  /-- MB_ARRIVAL, 32 bits: the last arrival number (R40, Table 02-16); reset DESIGN CHOICE 0 (log 3). -/
  arrival : Nat := 0
  /-- Commands taken and checked, in arrival order, not yet executed (R56); reset none. -/
  taken : List Cmd := []
  /-- Repeats held until the first execution completes (R55); reset none. -/
  repeats : List Cmd := []
  /-- Virtual pairs executing a command (R79): association and virtual pair; reset none. -/
  vbusy : List (Nat × Nat) := []
  /-- Frames handed to DTLS associations: transport kind, association, virtual pair, octets (R77, R76); reset none. -/
  remoteOut : List (Nat × Nat × Nat × Bytes) := []
  /-- Response frames handed to Cobor links (R51): link and octets; reset none. -/
  peerOut : List (Nat × Bytes) := []
  /-- Remote command frames that wait for the end of a handover (R27): association, virtual pair, client key, peer address, octets; reset none. -/
  remoteHeld : List (Nat × Nat × Bytes × Int × Bytes) := []
  /-- MSI-X vectors raised (Table 02-3), newest first; reset none. -/
  msix : List Nat := []
  /-- Open sessions, at most 16 (R47, R50); reset none. -/
  sessions : List Session := []
  /-- Generation of each of the 16 slots, 12 bits, kept in handover SRAM (R47, R59); reset DESIGN CHOICE 0 (log 3). -/
  gens : List Nat := List.replicate 16 0
  /-- Nonces issued and not yet used (R48); reset none. -/
  nonces : List Nonce := []
  /-- Consecutive failed proofs per credential (R49); reset none. -/
  fails : List (Nat × Nat) := []
  /-- Locked credentials and the D3 instant at which the lock ends (R49); reset none. -/
  locks : List (Nat × Nat) := []
  /-- Subscriptions (R82); reset none. -/
  subs : List Subscription := []
  /-- Next subscription identifier, 16 bits (Table 02-10); reset DESIGN CHOICE 1 (log 3). -/
  nextSub : Nat := 1
  /-- Notification queue, 4,096 entries (R74); reset empty. -/
  notifs : List Entry := []
  /-- Entries dropped and not yet reported, per session (R75); reset none. -/
  lost : List (Nat × Nat) := []
  /-- Pending energize-class commands, at most 16 (R70); reset none. -/
  energize : List Energize := []
  /-- Arrival numbers of energize commands already confirmed (R69); reset none. -/
  confirmed : List Nat := []
  /-- Confirmed energize commands whose outcome at the endpoint is awaited (R67); reset none. -/
  awaiting : List Awaiting := []
  deriving DecidableEq, Repr

/-- The object store (R60–R62): every attribute value that differs from its default, by object path; the version of every object that has changed, by
object path without its attribute byte; the instances that exist of the classes whose instances come and go. Each list rises strictly by key. -/
structure Obj where
  /-- Attribute values, by object path (R60); reset: every attribute at its default (Classes.table). -/
  vals : List (Nat × Val) := []
  /-- Attribute 0x00 `version` of objects, 32 bits (R61); reset DESIGN CHOICE 0 (log 3). -/
  vers : List (Nat × Nat) := []
  /-- Dynamic instances that exist (R62), by class and instance; reset none. -/
  live : List (Nat × Unit) := []
  deriving DecidableEq, Repr

end Sys2Proof.Machine
end

