-- ==== Sys2Proof/Machine/Parts/Locator.lean ====
section
/-! DEFINITION. State of ELT (07_endpoint_locator.md). -/

namespace Sys2Proof.Machine

/-- A locator entry (Table 07-1); an invalid slot is the absence of one. -/
structure LEntry where
  key : Nat
  handle : Nat
  port : Nat
  cell : Nat
  short : Nat
  age : Nat := 0
  isAlias : Bool
  pinned : Bool := false
  guard : Bool := false
  deriving DecidableEq, Repr

/-- A sighting in the learning queue (R269–R275), with the frame it holds back: the index of that frame in the held frames. -/
structure Sighting where
  key : Nat
  port : Nat
  cell : Nat
  short : Nat
  metric : Nat
  frame : Option Nat
  deriving DecidableEq, Repr

/-- A bucket lock (R284–R287): bucket, command, timeout in 100 µs, KEEP_LOCK. -/
structure BucketLock where
  bucket : Nat
  arrival : Nat
  timeout : Nat
  keep : Bool
  deriving DecidableEq, Repr

/-- A TABLE_DMA command under way: the command, the descriptors still to run, the statuses so far, and the BAR4 slice it works on (R285). -/
structure DmaRun where
  cmd : Cmd
  descs : List Bytes
  done : List Nat
  slice : Bytes
  deriving DecidableEq, Repr

/-- A lookup held by an uncorrectable DRAM error (R291): the bucket, and the frame with its key, path and metric. -/
structure HeldLookup where
  bucket : Nat
  key : Option Nat
  port : Nat
  cell : Nat
  short : Nat
  metric : Nat
  frame : Secured
  deriving DecidableEq, Repr

/-- ELT. -/
structure Locator where
  /-- Buckets that hold an entry: four slots each (R261); reset none. -/
  buckets : List (Nat × List (Option LEntry)) := []
  /-- Overflow store, 16,384 entries (R276); reset none. -/
  overflow : List (Nat × LEntry) := []
  /-- Learning queue, 4,096 sightings (R275); reset none. -/
  queue : List Sighting := []
  /-- Locked buckets, at most 64 (R284); reset none. -/
  locks : List BucketLock := []
  /-- Buckets whose lock was released by its timeout, and the command that held it (R287); reset none. -/
  expired : List (Nat × Nat) := []
  /-- TABLE_DMA commands under way (R285); reset none. -/
  runs : List DmaRun := []
  /-- Purel's software shadow: buckets and overflow store (R289); reset none. -/
  shadow : List (Nat × List (Option LEntry)) := []
  shadowOvf : List (Nat × LEntry) := []
  /-- Metrics of the last 16 frames of the primary and of the secondary path, by handle (07_endpoint_locator.md); reset none. -/
  metrics : List (Nat × (List Nat × List Nat)) := []
  /-- D3 instant at which the present primary was set, by handle (R272); reset none. -/
  guardAt : List (Nat × Nat) := []
  /-- A table rebuild runs (R292, Table 07-9): the seeds drawn for the new table; reset none. -/
  rebuild : Option (Nat × Nat) := none
  /-- The lookup held by an uncorrectable DRAM error (R291); reset none. -/
  heldLookup : Option HeldLookup := none
  /-- ELT_LOCK_TIMEOUTS, 32 bits, saturating (Table 07-8); reset 0. -/
  lockTimeouts : Nat := 0
  /-- ELT_REPAIRS, 32 bits, saturating (Table 07-8); reset 0. -/
  repairs : Nat := 0
  /-- OVF_HIGH was reported (Table 07-9); reset 0. -/
  ovfHigh : Bool := false
  deriving DecidableEq, Repr

end Sys2Proof.Machine
end

