-- ==== Sys2Proof/Machine/Parts/Measure.lean ====
section
/-! DEFINITION. State of MEA: modulator filters, samples, metrology, conditions (12_feeder_measurement.md). -/

namespace Sys2Proof.Machine

/-- An exact fraction in lowest terms, den > 0. -/
structure Frac where
  num : Int
  den : Nat
  deriving DecidableEq, Repr

/-- A threshold condition of a channel (R483): half-cycles of the start run, of the end run, whether it holds, its extreme RMS, its duration and the RMS of the
first half-cycle of the start run. -/
structure Condition where
  active : Bool := false
  run : Nat := 0
  ends : Nat := 0
  extreme : Nat := 0
  duration : Nat := 0
  first : Nat := 0
  /-- The extreme before the current end run began. -/
  held : Nat := 0
  deriving DecidableEq, Repr

/-- A measurement channel. -/
structure MeaChannel where
  /-- The five integrators and combs, 48 bits each (R467); reset cleared (R468). -/
  integ : List (BitVec 48) := List.replicate 5 0
  comb : List (BitVec 48) := List.replicate 5 0
  /-- Words since the last CIC output, 0–374 (R467); reset 0. -/
  phase : Nat := 0
  /-- CIC outputs and FIR outputs still to be discarded (R468); reset 5, and 192, the taps of set 1. -/
  cicSkip : Nat := 5
  firSkip : Nat := 192
  /-- CIC outputs, newest first, as many as the greatest set has taps (R469); reset none. -/
  xs : List Int := []
  /-- CIC outputs since the last FIR output (R469); reset 0. -/
  count : Nat := 0
  /-- Output samples, newest first: instant t_n of channel 0's sample n on D3, and the code (R474); reset none. -/
  samples : List (Nat × Int) := []
  /-- Interval during which the channel began to run, while it runs (R481); reset none. -/
  since : Option Nat := none
  /-- D3 instant of the last overrange sample (R470); reset none. -/
  overAt : Option Nat := none
  /-- Overrange samples by interval (R481); reset none. -/
  overrange : List (Nat × Nat) := []
  /-- Sum of the squares of the codes, and samples, by interval (R479); reset none. -/
  squares : List (Nat × (Nat × Nat)) := []
  /-- The channel has been below −5 % (above +5 %) of its last half-cycle RMS since its last rising (falling) crossing (R486); reset 0. -/
  armedUp : Bool := false
  armedDown : Bool := false
  /-- Rising crossings and crossings of either direction, D3, newest first (R476, R486); reset none. -/
  rises : List Nat := []
  crossings : List Nat := []
  /-- Sag, swell and over-current (R483); reset inactive. -/
  sag : Condition := {}
  swell : Condition := {}
  oc : Condition := {}
  deriving DecidableEq, Repr

/-- A busbar's windows (R476): end of the last cycle and of the last half-cycle on D3, the last measured period. -/
structure MeaBus where
  cycleEnd : Nat := 0
  halfEnd : Nat := 0
  period : Nat := 0
  deriving DecidableEq, Repr

/-- A feeder's energy: joules of A+, A−, Q+, Q− by interval (R477), the rounding remainders in joules (R479), P and Q of the last cycle. -/
structure MeaFeeder where
  energy : List (Nat × List Frac) := []
  rest : List Frac := List.replicate 4 ⟨0, 1⟩
  p : Frac := ⟨0, 1⟩
  q : Frac := ⟨0, 1⟩
  deriving DecidableEq, Repr

/-- MEA. -/
structure Measure where
  /-- Channels by number; reset as MeaChannel. -/
  chans : List (Nat × MeaChannel) := []
  /-- Busbars and feeders by number; reset as MeaBus and MeaFeeder. -/
  buses : List (Nat × MeaBus) := []
  feeders : List (Nat × MeaFeeder) := []
  /-- The channels settle after a change of filter set (R473): those that have not finished; reset none. -/
  switching : List Nat := []
  /-- Intervals that contain such a settling (R481); reset none. -/
  suspect : List Nat := []
  /-- Intervals cut by a committed clock step that it did not leave (R481); reset none. -/
  cut : List Nat := []
  /-- The interval whose end was last processed (R479); reset none. -/
  headDone : Option Nat := none
  deriving DecidableEq, Repr

end Sys2Proof.Machine
end

