-- ==== Sys2Proof/Machine/Parts/Radio.lean ====
section
/-! DEFINITION. State of RAD (06_radio_ports.md). -/

namespace Sys2Proof.Machine

/-- A frame in a radio transmit queue or on air: cell, destination short address (0xFFFF broadcast), body, payload length, producer. -/
structure RadioTx where
  cell : Nat
  dst16 : Nat
  body : Bytes
  beacon : Bool := false
  producer : Producer := .none
  deriving DecidableEq, Repr

/-- A radio port at run time. -/
structure RPort where
  /-- Transmit queues 0 to 7 (Table 05-6); reset empty. -/
  queues : List (List RadioTx) := List.replicate 8 []
  /-- Frame on air: the frame, its queue, its computed airtime in µs and its band's ledger (R239); reset none. -/
  onAir : Option (RadioTx × Nat × Nat × Nat) := none
  /-- Locked to the word boundary (R221); reset 0. -/
  locked : Bool := false
  /-- RF_PAEN and RF_LNAEN high (R223, R225); reset 0. -/
  paEn : Bool := false
  lnaEn : Bool := false
  /-- D3 instant of the end of the last frame (R242); reset none. -/
  lastEnd : Option Nat := none
  /-- Last accepted extended sequence of each source, 12 bits (R232); reset none. -/
  lastSeq : List (Nat × Nat) := []
  /-- Accepted (source, extended sequence) with D3 instants and the response sent for them: the last 16 per source for 10 s (R232, R192); reset none. -/
  repeats : List (Nat × Nat × Nat × Option RadioTx) := []
  /-- The acknowledgement or response that waits for its admission (R231, R232); reset none. -/
  answer : Option RadioTx := none
  deriving DecidableEq, Repr

/-- RAD. -/
structure Radio where
  /-- The 16 ports; reset as RPort. -/
  ports : List (Nat × RPort) := []
  /-- Current bucket of each ledger, 0 to 63 (06_radio_ports.md); reset 0. -/
  current : List (Nat × Nat) := []
  /-- Ledgers as persisted in NAND: buckets by ledger instance (R245); reset DESIGN CHOICE none (log 9). -/
  persisted : List (Nat × List Int) := []
  /-- SPI scripts requested, per group, in order (R222): port and 0 tx_script or 1 rx_script; reset none. -/
  spi : List (Nat × Nat) := []
  deriving DecidableEq, Repr

end Sys2Proof.Machine
end

