-- ==== Sys2Proof/Machine/Parts/Recorder.lean ====
section
/-! DEFINITION. State of the event recorder and the hardware queues (19_queues_recorder.md). -/

namespace Sys2Proof.Machine

/-- An event on its way to the recorder: code, source object path and argument values (R711, R712). -/
structure Event where
  code : Nat
  path : Nat
  args : List Int
  deriving DecidableEq, Repr

/-- An event record (Table 19-7); `safety` marks a record of a safety-class event (R723). -/
structure Record where
  seq : Nat
  code : Nat
  count : Nat
  path : Nat
  args : List Int
  safety : Bool
  deriving DecidableEq, Repr

/-- FCR's event recorder. -/
structure Recorder where
  /-- SRAM ring, 16,384 records, oldest first (R717); reset: the records of the tail. -/
  ring : List Record := []
  /-- Retention tail in the backup domain, newest 256 records, oldest first (R717); reset DESIGN CHOICE none (log 4). -/
  tail : List Record := []
  /-- NAND mirror, 16,777,216 records, oldest first (R717); reset DESIGN CHOICE none (log 4). -/
  mirror : List Record := []
  /-- Sequence last written, 32 bits, kept in the backup domain (R92, R716); reset DESIGN CHOICE 0 (log 4). -/
  head : Nat := 0
  /-- Sequence held in the loader area, none when it holds none (R716); reset DESIGN CHOICE none (log 4). -/
  loaderSeq : Option Nat := none
  /-- Safety intake, 8 entries (R712); reset empty. -/
  safetyIn : List Event := []
  /-- Ordinary intake, 64 entries (R712); reset empty. -/
  ordinaryIn : List Event := []
  /-- Safety events latched at their sources in FCR while the intake is full (R715); reset none. -/
  latched : List Event := []
  /-- Ordinary events dropped since the last OVERFLOW record (R714); reset 0. -/
  dropCount : Nat := 0
  /-- Code of the first event dropped, 16 bits (R714); reset 0. -/
  dropFirst : Nat := 0
  /-- Code of the last event dropped, 16 bits (R714); reset 0. -/
  dropLast : Nat := 0
  /-- REC_DROPPED, 32 bits, saturating (Table 19-8); reset 0. -/
  dropped : Nat := 0
  /-- `overflow_records`, 32 bits (R722); reset 0. -/
  overflows : Nat := 0
  /-- `mirror_gaps`, 32 bits (R722); reset 0. -/
  gaps : Nat := 0
  /-- REC_MIRRORED, 32 bits (Table 19-8); reset DESIGN CHOICE 0 (log 4). -/
  mirrored : Nat := 0
  /-- First and last sequence of the run lost from the mirror and not yet recorded (R718); reset none. -/
  gapRun : Option (Nat × Nat) := none
  /-- The record committed last, while it has not been removed (R713, R723); reset none. -/
  last : Option Record := none
  /-- Records whose repeat count changed after they were mirrored (R718); reset none. -/
  remirror : List Nat := []
  /-- REC_CURSOR, 32 bits (Table 19-8); reset DESIGN CHOICE 0 (log 4). -/
  cursor : Nat := 0
  /-- AUTO_ADVANCE, 1 bit (Table 19-9); reset 1. -/
  autoAdvance : Bool := true
  /-- The snapshot of the window, 32 bytes (R720); reset DESIGN CHOICE zeros (log 4). -/
  snapshot : Bytes := List.replicate 32 0
  /-- The window last read 0 because the cursor was below the ring or at a removed sequence (Table 19-9 GONE); reset 0. -/
  gone : Bool := false
  /-- The window last read 0 because the cursor was above REC_HEAD (Table 19-9 AHEAD); reset 0. -/
  ahead : Bool := false
  /-- The host's last read of a recorder register, 32 bits: an output; reset DESIGN CHOICE 0 (log 4). -/
  readOut : Nat := 0
  deriving DecidableEq, Repr

/-- A word in a queue: its 64 bits, whether it ends its item, and whether its item is committed (R704, R705). -/
structure QWord where
  bits : Nat
  last : Bool
  committed : Bool
  deriving DecidableEq, Repr

/-- The contents of a hardware queue (R704–R708, Table 19-5). -/
structure QueueState where
  /-- Words not released, oldest first (R706); reset empty. -/
  words : List QWord := []
  /-- Read position, in words from the oldest (R706); reset 0. -/
  rd : Nat := 0
  /-- The mark: the read position, and whether it lies within an item (R706); reset none. -/
  mark : Option (Nat × Bool) := none
  /-- The consumer has taken words of an item and not yet its last one (R707); reset 0. -/
  mid : Bool := false
  /-- QH_DATA_LO has taken a word that QH_DATA_HI has yet to advance past (R709); reset 0. -/
  taken : Bool := false
  /-- The producer has an open item (Table 19-5 OPEN); reset 0. -/
  opened : Bool := false
  /-- The open item is poisoned (R707); reset 0. -/
  poisoned : Bool := false
  /-- A flush cut the item the consumer was reading, and its next read has yet to show it (R707); reset 0. -/
  cut : Bool := false
  /-- QUEUE_HIGH was recorded and use has not fallen below half the level (R704); reset 0. -/
  high : Bool := false
  /-- ABORTED, 1 bit (Table 19-5); reset 0. -/
  aborted : Bool := false
  /-- UNDERRUN, 1 bit (Table 19-5); reset 0. -/
  underrun : Bool := false
  /-- FLUSHED, 1 bit (Table 19-5); reset 0. -/
  flushed : Bool := false
  /-- LAST, 1 bit (Table 19-5); reset 0. -/
  last : Bool := false
  /-- The last value read, 64 bits (R705); reset DESIGN CHOICE 0 (log 4). -/
  lastValue : Nat := 0
  /-- The producer's staged low half, 32 bits (Table 19-4); reset DESIGN CHOICE 0 (log 4). -/
  staged : Nat := 0
  /-- What the last read of a data register returned, 32 bits: an output; reset DESIGN CHOICE 0 (log 4). -/
  readOut : Nat := 0
  /-- The last push was answered FULL (R704): an output; reset 0. -/
  wasFull : Bool := false
  deriving DecidableEq, Repr

/-- FAB's queues: the state of each queue that is not in the reset state, by queue number, rising. -/
structure Queues where
  /-- The 1,024 queues (R702); reset empty. -/
  qs : List (Nat × QueueState) := []
  /-- Items an engine has yet to push into a full queue (R704): queue and words; reset none. -/
  backlog : List (Nat × List Nat) := []
  deriving DecidableEq, Repr

end Sys2Proof.Machine
end

