-- ==== Sys2Proof/Machine/Parts/Store.lean ====
section
/-! DEFINITION. State of STO: the records, the journal, segments and media (13_profile_store.md). -/

namespace Sys2Proof.Machine

/-- What a journal entry holds (R500, R609): the records and mark of a flight, a boundary execution (calendar, position, flags, interval, sequence), a snapshot, a
locator path, a change of map or retention, a written attribute (by path), an arrival number, the outbound counter of an endpoint, a committed time step, the
airtime of a ledger's bucket, the lighting state of a cell, an import record, an entry taken as a replica of a member's (Tables 16-1 and 16-15). -/
inductive JKind
  | flight (id : Nat) (recs : List NewRec) (mark : Option (Nat × Nat))
  | boundary (cal pos flags interval seq : Nat)
  | snapshot (key : Nat)
  | path (handle : Nat)
  | map
  | setting (path : Nat)
  | arrival (n : Nat)
  | counter (handle : Nat)
  | timeStep (old new : Nat)
  | ledger (index bucket us : Nat)
  | lighting (cell : Nat)
  | keys (eph : Bytes) (index : Nat) (record : Bytes)
  | replica (home seq : Nat)
  deriving DecidableEq, Repr

/-- A NAND block of the store: erases, valid pages, whether it is free, whether it is erased, whether it is bad (factory or retired). -/
structure Block where
  erases : Nat := 0
  valid : Nat := 0
  free : Bool := true
  erased : Bool := true
  retired : Bool := false
  deriving DecidableEq, Repr

/-- STO. -/
structure Store where
  /-- Versions of each interval's record, oldest first, by handle × 2^32 + interval (R335); reset DESIGN CHOICE none (log 15). -/
  records : List (Nat × List IRec) := []
  /-- Records BIL has yet to take from the commit stream: handle, interval, version (R323); reset none. -/
  bilStream : List (Nat × Nat × Nat) := []
  /-- Records BAL has yet to take; reset none. -/
  balStream : List (Nat × Nat × Nat) := []
  /-- Last journal sequence given, 64 bits (R500); reset DESIGN CHOICE 0 (log 15). -/
  seq : Nat := 0
  /-- Entries gathered and not yet being programmed (R501); reset none. -/
  gather : List (Nat × JKind) := []
  /-- Entries of the page being programmed (R501); reset none. -/
  page : List (Nat × JKind) := []
  /-- Committed entries in the ring, oldest first (R503); reset DESIGN CHOICE none (log 15). -/
  ring : List (Nat × JKind) := []
  /-- Full checkpoints, newest first, at most 2: the sequence covered, and those of its deltas, newest first (R504); reset DESIGN CHOICE none (log 15). -/
  checkpoints : List (Nat × List Nat) := []
  /-- A day has been folded since the last checkpoint, so that the next holds everything (R504); reset 0. -/
  foldedSince : Bool := false
  /-- Base segments: handle block × 2^32 + day, and the record versions it holds (R499); reset DESIGN CHOICE none (log 15). -/
  segments : List (Nat × Nat) := []
  /-- Days folded (R499); reset none. -/
  folded : List Nat := []
  /-- Segments with lost records (R497): handle block × 2^32 + day; reset none. -/
  lost : List Nat := []
  /-- Segments placed on a peer (R524): handle block × 2^32 + day, and the member; reset none. -/
  peers : List (Nat × Nat) := []
  /-- UTC days below this one have been released (R518); reset 0. -/
  releasedTo : Nat := 0
  /-- Blocks of the fitted media, pages of a block, rated cycles (R493, R494); reset 0, before the mount. -/
  total : Nat := 0
  /-- Targets of the fitted media over all channels; reset 0. -/
  targets : Nat := 0
  pages : Nat := 0
  rated : Nat := 0
  /-- Blocks that are not free with 0 erases, by number; reset none. -/
  blocks : List (Nat × Block) := []
  /-- Octets of the segments folded before and after compression, pages written by the store's users and pages programmed (Table 13-5); reset 0. -/
  rawBytes : Nat := 0
  storedBytes : Nat := 0
  userPages : Nat := 0
  programmed : Nat := 0
  /-- Garbage is being collected until gc_stop_pct (R510); reset 0. -/
  collecting : Bool := false
  /-- The target free share of a running boost, in % (R515); reset none. -/
  boost : Option Nat := none
  deriving DecidableEq, Repr

end Sys2Proof.Machine
end

