-- ==== Sys2Proof/Machine/Parts/Sys.lean ====
section
/-! DEFINITION. Identification, modes, resets, straps, power and host load (00_scope.md, 03_modes_and_startup.md). -/

namespace Sys2Proof.Machine

/-- States of the host load (Table 03-17). -/
inductive HlState
  | idle | waitChunk | chunkBusy | verifying | accepted | rejected
  deriving DecidableEq, Repr

/-- The chip-level state. -/
structure Sys where
  /-- Ordering code, fused (R3); reset DESIGN CHOICE X (log 2: "This manual describes the SQ8412-X"). -/
  order : OrderCode := .x
  /-- Device EUI-64, 64 bits (Table 02-16); reset DESIGN CHOICE 0 (log 2). -/
  eui : Nat := 0
  /-- ID_STEP, 16 bits (Table 02-16); reset 0x0100. -/
  step : Nat := 0x0100
  /-- LIFECYCLE, 4 bits (Table 03-10); reset DESIGN CHOICE FIELD (log 2). -/
  lifecycle : Lifecycle := .field
  /-- MODE, 4 bits (Table 03-11); reset 0xF. -/
  mode : Mode := .booting
  /-- PREV_MODE, 4 bits (Table 03-11); reset 0xF. -/
  prevMode : Mode := .booting
  /-- PUREL_READY, 1 bit (Table 02-17); reset 0. -/
  purelReady : Bool := false
  /-- HANDOVER, 1 bit (Table 02-17); reset 0. -/
  handover : Bool := false
  /-- STALEMATE in force, 1 bit (R108); reset 0. -/
  stalemate : Bool := false
  /-- STALEMATE_CAUSE.VALID, 1 bit, backup domain (Table 03-16); reset 0. -/
  causeValid : Bool := false
  /-- STALEMATE_CAUSE.SOURCE, 16 bits, backup domain (Table 03-16); reset 0. -/
  causeSource : Nat := 0
  /-- RESET_CAUSE, 11 bits, backup domain (Table 03-13); reset 1 (POR) after backup reset. -/
  resetCause : BitVec 11 := 1
  /-- PWR_STATUS.DIPS, 16 bits (Table 03-14); reset 0. -/
  dips : Nat := 0
  /-- CORE_WARN, 1 bit (Table 03-14); reset 0. -/
  coreWarn : Bool := false
  /-- IO33_WARN, 1 bit (Table 03-14); reset 0. -/
  io33Warn : Bool := false
  /-- PFI, 1 bit: filtered PFI_N asserted (Table 03-14); reset 0. -/
  pfi : Bool := false
  /-- HOLDUP_PREP, 1 bit (Table 03-14); reset 0. -/
  holdupPrep : Bool := false
  /-- PWR_WARN, 1 bit (Table 03-14); reset 0. -/
  pwrWarn : Bool := false
  /-- HOLDUP_DONE, 1 bit (Table 03-11); reset 0. -/
  holdupDone : Bool := false
  /-- Last completed step of Table 03-9; reset 0. -/
  holdupStep : Nat := 0
  /-- A return from HOLDUP has been decided (R752); reset 0. -/
  returning : Bool := false
  /-- A CHIP reset is due within 100 ms (R558); reset 0. -/
  resetDue : Bool := false
  /-- NAND erases suspended (R100, R111, R115); reset 0. -/
  eraseHold : Bool := false
  /-- TAMPER_LATCHED, 1 bit, backup domain (Table 03-11); reset DESIGN CHOICE 0 (log 2). -/
  tamperLatched : Bool := false
  /-- BOOT_STATUS.STEP, 8 bits (Table 03-15); reset 0. -/
  bootStep : Nat := 0
  /-- BOOT_STATUS.SETTINGS_GEN, 4 bits (Table 03-15); reset 0. -/
  settingsGen : Nat := 0
  /-- BOOT_STATUS.SLOT, 2 bits (Table 03-15); reset 0. -/
  slot : Nat := 0
  /-- BOOT_STATUS.TEST_MODE, 1 bit (Table 03-15); reset 0. -/
  testMode : Bool := false
  /-- BOOT_STATUS.BOOT_SEL, 2 bits, latched straps (Table 03-15); reset DESIGN CHOICE 0 (log 2). -/
  bootSel : Nat := 0
  /-- What the boot in progress met, while it waits for a host load (R98, R121); reset none. -/
  boot : Option BootFacts := none
  /-- RESET_OUT_N driven low (R93); reset 1 (low). -/
  resetOutLow : Bool := true
  /-- Line and radio transmit enables and line driver enables permitted, chip level (R93, R109, R111); reset 0. -/
  txEnable : Bool := false
  /-- Purel processor held (R109) or halted by debug; reset 0. -/
  purelHeld : Bool := false
  /-- A PUREL reset has not yet ended: Purel takes mailbox commands again within 1 s (R94); reset 0. -/
  purelRestart : Bool := false
  /-- HOSTLOAD_STATUS.STATE (Table 03-17); reset IDLE. -/
  hlState : HlState := .idle
  /-- HOSTLOAD_STATUS.REASON, 8 bits (Table 03-17); reset 0. -/
  hlReason : Nat := 0
  /-- HOSTLOAD_OFFSET, 25 bits; reset DESIGN CHOICE 0 (log 2). -/
  hlOffset : Nat := 0
  /-- Length of the chunk being taken, and its LAST bit (Table 03-18); reset 0. -/
  hlLength : Nat := 0
  hlLast : Bool := false
  /-- The octets of the image taken so far (R121); reset none. -/
  hlImage : Bytes := []
  /-- D3 instant of the last instant at which the head end was reachable (R104); reset none. -/
  headEndAt : Option Nat := none
  /-- D3 instant of the last heartbeat from a member other than the twin partner (R104); reset none. -/
  federationAt : Option Nat := none
  /-- D3 instant of the last entry into SERVICE (R104); reset 0. -/
  serviceAt : Nat := 0
  /-- `posture` has been written since the last life-cycle change (R103 bit 4); reset DESIGN CHOICE 0 (log 2). -/
  postureWritten : Bool := false
  /-- At least one KEY_ROTATE import has completed (R103 bit 2); reset DESIGN CHOICE 0 (log 2). -/
  keysImported : Bool := false
  deriving DecidableEq, Repr

end Sys2Proof.Machine
end

