-- ==== Sys2Proof/Machine/Parts/Time.lean ====
section
/-! DEFINITION. State of TIM and of the RTC in the backup domain (15_time_and_rtc.md). -/

namespace Sys2Proof.Machine

/-- The registers of the RTC group (R589, R590, Table 15-7): `RTC_EPOCH` 48 bits, `RTC_SUBSEC` 15 bits, and the calendar. -/
structure RtcGroup where
  epoch : Nat := 0
  sub : Nat := 0
  sec : Nat := 0
  min : Nat := 0
  hour : Nat := 0
  wday : Nat := 6
  day : Nat := 1
  month : Nat := 1
  year : Nat := 2000
  deriving DecidableEq, Repr

/-- The RTC (R588–R600, Tables 15-7 to 15-9). -/
structure Rtc where
  /-- The live counters; reset as a backup-domain reset leaves them (R595). -/
  live : RtcGroup := {}
  /-- TSCLK ticks since the RTC second began, from which `RTC_SUBSEC` reads; reset 0. -/
  subTicks : Nat := 0
  /-- The staging registers (R590); reset DESIGN CHOICE as the live counters (log 2). -/
  stage : RtcGroup := {}
  /-- A staging write has been made since the last commit (R590); reset 0. -/
  staged : Bool := false
  /-- The shadows of PCIe and of Purel, with the D3 instant they froze (R589); reset none. -/
  pcie : Option (RtcGroup × Nat) := none
  purel : Option (RtcGroup × Nat) := none
  /-- OSF (R595); reset 1. -/
  osf : Bool := true
  /-- VBAT_LOW, BATT_USED, ON_VBAT, COMMIT_ERR, SHADOW_STALE (Table 15-8); reset 0; BATT_USED and ON_VBAT DESIGN CHOICE 0 (log 2). -/
  vbatLow : Bool := false
  battUsed : Bool := false
  onVbat : Bool := false
  commitErr : Bool := false
  stale : Bool := false
  /-- ALM_MISSED, ALM_SKIPPED, ALM_FIRED, 4 bits each (Table 15-8); reset 0. -/
  missed : Nat := 0
  skipped : Nat := 0
  fired : Nat := 0
  /-- SQW_RATE, 2 bits, SQW_EN (Table 15-9); reset 0. -/
  sqwRate : Nat := 0
  sqwEn : Bool := false
  /-- Interrupts that alarms raised at Purel and at the host (R598): counts; reset 0. -/
  purelIrqs : Nat := 0
  hostIrqs : Nat := 0
  /-- `RTC_EPOCH` when the fence of RTC fell (R14, Table 01-2); reset none. -/
  fencedAt : Option Nat := none
  /-- What the last read of an RTC register returned, 32 bits: an output; reset DESIGN CHOICE 0 (log 4). -/
  readOut : Nat := 0
  deriving DecidableEq, Repr

/-- A disciplined domain: D0, D1 or D2 (R566, R568, R575). Its counter is kept apart; here its rate in 2^-10 ppb, the part of 2^-16 ns its accumulator
holds in units of 1 / (2^10 · 10^9), and its servo. -/
structure Servo where
  freq : Int := 0
  acc : Int := 0
  /-- Consecutive Syncs within `lock_ns`, and beyond 10 times it. -/
  good : Nat := 0
  bad : Nat := 0
  /-- It has been LOCKED before. -/
  had : Bool := false
  deriving DecidableEq, Repr

/-- TIM and the RTC. -/
structure Time where
  /-- D0 to D3, in 2^-16 ns since the service epoch, D3 since CHIP reset (R566, R567); reset D3 0, D0 to D2 DESIGN CHOICE 0 (log 2). -/
  d0 : Nat := 0
  d1 : Nat := 0
  d2 : Nat := 0
  d3 : Nat := 0
  /-- Rates and servos of D0, D1, D2; reset at the nominal rate, FREE. -/
  s0 : Servo := {}
  s1 : Servo := {}
  s2 : Servo := {}
  /-- What D2 still has to slew, in 1 / (2^10 · 10^9) of 2^-16 ns (R577); reset 0. -/
  slew : Int := 0
  /-- A leap second announced for the end of the present UTC day: true where it is inserted (R567); reset none. -/
  leap : Option Bool := none
  /-- D3 instant since which D0 has met the conditions of R576 without being selected; reset none. -/
  revert : Option Nat := none
  /-- D3 instant since which the pending jump has persisted, and its offset in 2^-16 ns (R579); reset none. -/
  jump : Option (Nat × Int) := none
  /-- The RTC is to be committed to service time (R600); reset 0. -/
  alignDue : Bool := false
  /-- PTP event messages bridged: egress port and correctionField in 2^-16 ns (R572): an output; reset none. -/
  bridged : List (Nat × Int) := []
  /-- Announce and Sync sent as boundary clock: port, clockClass, D2 of the Sync where one was sent (R573): an output; reset none. -/
  served : List (Nat × Nat × Option Nat) := []
  /-- RTC in the backup domain. -/
  rtc : Rtc := {}
  deriving DecidableEq, Repr

end Sys2Proof.Machine
end

