-- ==== Sys2Proof/Machine/Parts/Twin.lean ====
section
/-! DEFINITION. State of TWN: interlock, castling, mirror, Cobor links, federation (16_twin_federation.md). -/

namespace Sys2Proof.Machine

/-- A Cobor message sent (R642, R643): link, type, RETRANSMIT, nonce counter, sequence, acknowledged sequence, body. -/
structure CoborOut where
  link : Nat
  type : Nat
  again : Bool
  nonce : Nat
  seq : Nat
  acked : Nat
  body : Bytes
  deriving DecidableEq, Repr

/-- A Cobor link (R642–R645). -/
structure CLink where
  /-- Something has arrived and the link has not been found down (R645). -/
  up : Bool := false
  /-- It has a link key (R644), since the D3 instant `keyedAt`; a KEY_AGREE of this side awaits the other's. -/
  keyed : Bool := false
  keyedAt : Nat := 0
  asked : Bool := false
  /-- Nonce counter and reliable sequence last sent. -/
  nonce : Nat := 0
  seq : Nat := 0
  /-- Reliable messages not acknowledged: sequence, type, body, D3 instant sent; and those that wait for the window of 4,096. -/
  unacked : List (Nat × Nat × Bytes × Nat) := []
  waiting : List (Nat × Bytes) := []
  /-- Highest reliable sequence received in order, messages held out of order with their type, an acknowledgement owed. -/
  rxSeq : Nat := 0
  held : List (Nat × Cobor) := []
  owed : Bool := false
  /-- D3 instants of the last message received and sent. -/
  heardAt : Nat := 0
  sentAt : Nat := 0
  /-- What the peer advertised: its EUI and the 18 octets of versions and formats; none before. -/
  peer : Option (Nat × Bytes) := none
  /-- The peer advertised that it runs a TRIAL image (R653, R659). -/
  trial : Bool := false
  deriving DecidableEq, Repr

/-- A proposed membership change (PROPOSE, R631): proposer, epoch, change, member, state, address kind, lane, weight, EUI, IPv6 address, D3 instant, the members that
have accepted it. -/
structure Proposal where
  proposer : Nat
  epoch : Nat
  change : Nat
  member : Nat
  state : Nat
  kind : Nat
  lane : Nat
  weight : Nat
  eui : Nat
  ip : Bytes
  at3 : Nat := 0
  votes : List Nat := []
  deriving DecidableEq, Repr

/-- TWN. -/
structure Twin where
  /-- This chip's member number, 16 bits (R630); reset DESIGN CHOICE 0xFFFF, none (log 20). -/
  self : Nat := 0xFFFF
  /-- CLAIM_OUT_P/M driven to the claimed state (R93, R109); reset 0, released. -/
  claimOut : Bool := false
  /-- CLAIM_STATUS.CLAIM_IN (Table 16-11); reset 3. -/
  claimIn : ClaimIn := .absent
  /-- CLAIM_STATUS.RAIL_P_PRESENT and RAIL_M_PRESENT, 1 bit each; reset 0. -/
  railP : Bool := false
  railM : Bool := false
  /-- CLAIM_STATUS.GATE_OK, 1 bit; reset 0. -/
  gateOk : Bool := false
  /-- TWIN_STATUS.INTERLOCK_WIRE, 1 bit (Table 16-10); reset 0. -/
  wire : Bool := false
  /-- TWIN_STATUS.TX_PERMITTED, 1 bit; reset 0. -/
  txPermitted : Bool := false
  /-- A planned castling drains (R620): reset 0. -/
  drain : Bool := false
  /-- D3 instant at which the gap count started (Table 16-5 step 4), and the trigger of the mode change it ends in; reset none. -/
  gap : Option (Nat × Nat) := none
  /-- Kingside waits for Queenside's release after a contest (R616); reset 0. -/
  contest : Bool := false
  /-- A claim waits for Queenside's delay or for the claim gate (R617): the trigger of its mode change; reset none. -/
  bootClaim : Option Nat := none
  /-- CASTLINGS, 32 bits, saturating; reset 0. -/
  castlings : Nat := 0
  /-- LAST_GAP, 19 bits; reset 0. -/
  lastGap : Nat := 0
  /-- CASTLE command that completes with the castling, and whether the partner sent it (R618); reset none. -/
  castleCmd : Option (Nat × Bool) := none
  /-- SIDE_CLASH was recorded: both chips strapped alike (R604); reset 0. -/
  sideClash : Bool := false
  /-- PAIR under way: the partner's EUI and the command (R605); reset none. -/
  pairing : Option (Nat × Nat) := none
  /-- The partner's last heartbeat: its mode, role, journal head (Table 16-14); reset none. -/
  partner : Option (Nat × Nat × Nat) := none
  /-- A castling to the partner is under way: this chip has released its claim (Table 16-5 step 3); reset 0. -/
  released : Bool := false
  /-- Cobor links: lanes 0 to 7, 8 + member number over UDP (R642); reset none. -/
  links : List (Nat × CLink) := []
  /-- Messages sent, oldest first: an output; reset none. -/
  out : List CoborOut := []
  /-- Journal entries not yet sent to the partner (R607); reset none. -/
  outbox : List (Nat × JKind) := []
  /-- Entries sent and not confirmed: sequence, D3 instant posted, the flight (R26); reset none. -/
  posted : List (Nat × Nat × Option Nat) := []
  /-- Last journal sequence the partner confirmed, of which MIRROR_SEQ shows 32 bits (Table 16-9); reset 0. -/
  mirrorSeq : Nat := 0
  /-- Confirmation times of the last second: D3 instant and µs, for MIRROR_LAG; reset none. -/
  lags : List (Nat × Nat) := []
  /-- Highest sequence held from the partner; reset 0. -/
  heldSeq : Nat := 0
  /-- A kind it does not read was met: it confirms no more (R647); reset 0. -/
  stopped : Bool := false
  /-- Journal sequences committed while SOLO (R625); reset none. -/
  soloMarks : List Nat := []
  /-- Entries exchanged in the present resync (R627); reset 0. -/
  exchanged : Nat := 0
  /-- Checks of Table 16-8 whose HEALTH_ALARM was recorded (R629), 8 bits; reset 0. -/
  alarms : Nat := 0
  /-- Heartbeat round trip of each member, in ms rounded up (R633); reset none. -/
  distance : List (Nat × Nat) := []
  /-- D3 instant at which each member was last heard (R632); reset none. -/
  heard : List (Nat × Nat) := []
  /-- No replica is left and frames are acknowledged at JOURNAL level (R635, REPLICA_LOST); reset 0. -/
  replicaLost : Bool := false
  /-- Entries to be sent to replicas: member, sequence, kind (R635); reset none. -/
  repOut : List (Nat × Nat × JKind) := []
  /-- Entries sent to replicas and not confirmed: member, sequence, flight; reset none. -/
  repWait : List (Nat × Nat × Option Nat) := []
  /-- Entries held for a home: member × 2^64 + sequence, kind and body of R647; reset none. -/
  replicas : List (Nat × Nat × Bytes) := []
  /-- Replica entries not confirmed to their home: home, sequence, own journal sequence; reset none. -/
  repDue : List (Nat × Nat × Nat) := []
  /-- Membership changes proposed and not decided (R631); reset none. -/
  proposals : List Proposal := []
  /-- Suspicions: member, and the members that suspect it (R632); reset none. -/
  suspects : List (Nat × List Nat) := []
  /-- FEDERATION_JOIN or FEDERATION_LEAVE under way: arrival and member; reset none. -/
  joining : List (Nat × Nat) := []
  /-- Endpoints moved by rebalances: day and count (R634); reset 0. -/
  moved : Nat × Nat := (0, 0)
  deriving DecidableEq, Repr

end Sys2Proof.Machine
end

