-- ==== Sys2Proof/Machine/Parts/Update.lean ====
section
/-! DEFINITION. State of the update functions: images, slot records' contents, staging, handovers, settings generations, campaigns (17_updates.md). -/

namespace Sys2Proof.Machine

/-- A handover under way or to be made (Table 17-3): the activation of a STAGED slot with its confirm window in s and the arrival number of its command, or a fallback with its
reason of Table 17-4 and, for a revert, its command. -/
inductive Handing
  | activate (slot window arrival : Nat)
  | fallback (reason : Nat) (arrival : Option Nat)
  deriving DecidableEq, Repr

/-- A campaign's target beside its attributes (R665, R666): blocks held, digests that did not match, D3 instant of its last progress, serial of its activation. -/
structure Target where
  held : List Nat := []
  mismatches : Nat := 0
  progressAt : Nat := 0
  serial : Nat := 0
  deriving DecidableEq, Repr

/-- An endpoint campaign (R664–R666). -/
structure Campaign where
  /-- The loaded image; reset none. -/
  image : Bytes := []
  /-- SHA-256 of the image, and the role of the targets (Table 17-5). -/
  digest : Bytes := []
  role : Nat := 0
  /-- Activation interval with ACTIVATE_AT. -/
  activateAt : Option Nat := none
  /-- Unicast repairs outstanding per cell at most. -/
  repairs : Nat := 1
  /-- Arrival number of the CAMPAIGN_START that is to complete. -/
  arrival : Nat := 0
  /-- Multicast group taken in each line cell (R665, R429): cell and group. -/
  groups : List (Nat × Nat) := []
  /-- Blocks sent by multicast: cell and block. -/
  sent : List (Nat × Nat) := []
  /-- Unicast blocks not yet reported on: handle and block. -/
  repairing : List (Nat × Nat) := []
  targets : List (Nat × Target) := []
  deriving DecidableEq, Repr

/-- The update functions. -/
structure Update where
  /-- Images: 0 slot A, 1 slot B, 2 the host's image (R121), 3 the loader (R650); reset DESIGN CHOICE none (log 41). -/
  images : List (Nat × Bytes) := []
  /-- A loader image staged, which takes effect at the next CHIP reset (R650); reset none. -/
  loaderNext : Option Bytes := none
  /-- Staging under way (R652): its destination, the total length, the octets staged; reset none. -/
  stage : Option (Nat × Nat × Bytes) := none
  /-- The handover under way or due; reset none. -/
  handing : Option Handing := none
  /-- D3 instant at which the confirm window runs out; reset none. -/
  trialEnd : Option Nat := none
  /-- Settings of the generations not in use: attribute values by object path (R656–R658); reset none, every setting at its default. -/
  books : List (Nat × List (Nat × Val)) := []
  /-- Formats of the segments of the store (R662): segment key and format; reset none. -/
  formats : List (Nat × Nat) := []
  /-- Campaigns 0 to 7; reset none. -/
  campaigns : List (Nat × Campaign) := []
  /-- Lanterns restarted into a new image: handle and D3 instant, those of the last 15 min (R460); reset none. -/
  restarts : List (Nat × Nat) := []
  deriving DecidableEq, Repr

end Sys2Proof.Machine
end

