-- ==== Sys2Proof/Machine/State.lean ====
section
/-! DEFINITION. The state of the block: a part per subsystem, the object store, and the queue of waiting commands. -/

namespace Sys2Proof.Machine

/-- What stops the machine as a fault. -/
inductive Fault
  /-- Kept for the form of the interface: no meaning raises it (the spec gives every error of the block an effect). Safe. -/
  | none
  deriving DecidableEq, Repr

/-- What stops the machine as a refusal. -/
inductive Refusal
  /-- A command without a meaning yet, by its mnemonic. Raised by exec's arms only. Safe. -/
  | notModelled (mnemonic : String)
  deriving DecidableEq, Repr

/-- The SQ8412. -/
structure State where
  sys : Sys := {}
  obj : Obj := {}
  mbx : Mailbox := {}
  fcr : FaultState := {}
  recd : Recorder := {}
  que : Queues := {}
  tim : Time := {}
  lin : Line := {}
  rad : Radio := {}
  elt : Locator := {}
  col : Collect := {}
  bil : Billing := {}
  bal : Balance := {}
  mea : Measure := {}
  lux : Light := {}
  sto : Store := {}
  glv : Glovebox := {}
  twn : Twin := {}
  upd : Update := {}
  dbg : Debug := {}
  /-- The model's own counter of draws of free values; DESIGN CHOICE 1 (log 1): draw 0 is the unlock challenge after reset. -/
  freeCtr : Nat := 1
  /-- Commands waiting, first in, first out. -/
  pending : List Instr := []
  deriving DecidableEq, Repr

/-- The machine right after reset: every part at its reset value, no command waiting. -/
def State.reset : State := {}

end Sys2Proof.Machine
end

