-- ==== Sys2Proof/Machine/Ops.lean ====
section
/-! DEFINITION. The operations every family shares: the outcome of a meaning, free values, the clock, attributes and versions (R60, R61), notifications
(R72–R75), events (R712, R714, R715), registers of a part. -/

namespace Sys2Proof.Machine

/-- The outcome of a step. -/
abbrev Out := Host.Outcome State Fault Refusal

/-! ### Free values and the clock -/

/-- The state after one draw of a free value. -/
def State.drawn (s : State) : State := { s with freeCtr := s.freeCtr + 1 }

/-- The next free number. -/
def State.freeNat (s : State) : Nat := Config.freeNat s.freeCtr

/-- The next free integer. -/
def State.freeInt (s : State) : Int := Config.freeInt s.freeCtr

/-- `n` octets of the TRNG's next draw. -/
def State.trng (s : State) (n : Nat) : Bytes := (List.range n).map (Config.trng s.freeCtr)

/-- A time in s as a count of the domains' unit of 2^-16 ns. -/
def sec (n : Nat) : Nat := n * 65536000000000

/-- A time in ms. -/
def msec (n : Nat) : Nat := n * 65536000000

/-- A time in µs. -/
def usec (n : Nat) : Nat := n * 65536000

/-! ### Attributes (R60, R61) -/


/-- The class of a number. -/
def classInfo (c : Nat) : Option ClassInfo := Classes.table.find? (fun i => i.id == c)

/-- The description of an attribute. -/
def attrInfo (a : Nat × Nat) : Option AttrInfo :=
  (classInfo a.1).bind (fun c => c.attrs.find? (fun i => i.num == a.2))

/-- The value an attribute has when nothing has changed it. -/
def dfltVal (a : Nat × Nat) : Val := ((attrInfo a).map AttrInfo.dflt).getD (.num 0)

/-- The value an attribute of an instance has when nothing has changed it. -/
def dfltAt (a : Nat × Nat) (i : Nat) : Val := (instDflt a i).getD (dfltVal a)

/-- The key of an object in the store: class and instance. -/
def objKey (c i : Nat) : Nat := c * 2 ^ 40 + i

/-- The value of an attribute. -/
def State.attr (s : State) (a : Nat × Nat) (i : Nat) : Val :=
  (Assoc.find (mkPath a.1 i a.2) s.obj.vals).getD (dfltAt a i)

/-- The integer an attribute holds; 0 for one that holds octets or an array. -/
def State.int (s : State) (a : Nat × Nat) (i : Nat) : Int :=
  match s.attr a i with
  | .num n => n
  | _ => 0

/-- The natural number an attribute holds. -/
def State.nat (s : State) (a : Nat × Nat) (i : Nat) : Nat := (s.int a i).toNat

/-- Whether a BOOL attribute is 1. -/
def State.flag (s : State) (a : Nat × Nat) (i : Nat) : Bool := s.int a i != 0

/-- Service time is UNSET: what is timed on it waits (R585). -/
def State.unset (s : State) : Bool := s.nat Attr.TimeService.state 0 == 0

/-- The array an attribute holds. -/
def State.arr (s : State) (a : Nat × Nat) (i : Nat) : List Int :=
  match s.attr a i with
  | .arr xs => xs
  | _ => []

/-- The octets an attribute holds. -/
def State.octets (s : State) (a : Nat × Nat) (i : Nat) : Bytes :=
  match s.attr a i with
  | .bytes b => b
  | _ => []

/-- The version of an object (R61). -/
def State.version (s : State) (c i : Nat) : Nat := (Assoc.find (objKey c i) s.obj.vers).getD 0

/-! ### Fence units (R11, R15, R677) -/

/-- Units of a domain: the lane for LPE, the port for LMA, RAD and BHL, one for every other domain (18_faults_safety.md). -/
def unitsOf (d : Nat) : Nat := if d = 4 then 48 else if d = 5 ∨ d = 6 then 16 else if d = 7 then 8 else if 1 ≤ d ∧ d ≤ 20 then 1 else 0

/-- Whether the ordering code fuses a unit off (Table 00-1, R4). -/
def State.fusedOff (s : State) (d u : Nat) : Bool :=
  match s.sys.order with
  | .x => false
  | .m => d == 13
  | .g => (d == 5 && 8 ≤ u) || (d == 4 && 24 ≤ u)

/-- Whether a unit is fenced by a fence (FenceUnit `fenced`). -/
def State.fencedUnit (s : State) (d u : Nat) : Bool := s.flag Attr.FenceUnit.fenced (d * 256 + u)

/-- Whether a unit answers FENCED: fenced, or fused off (R4). -/
def State.cutOff (s : State) (d u : Nat) : Bool := s.fusedOff d u || s.fencedUnit d u

/-- Whether any unit of a domain is fenced, fused-off units aside (R676). -/
def State.anyFenced (s : State) (d : Nat) : Bool := (List.range (unitsOf d)).any (fun u => s.fencedUnit d u && !s.fusedOff d u)

/-- The lanes a line port uses, by its wiring (Table 04-1). -/
def State.portLanes (s : State) (p : Nat) : List Nat :=
  match s.nat Attr.LinePort.wiring p with
  | 1 | 3 => [3 * p]
  | 2 => [3 * p, 3 * p + 1, 3 * p + 2]
  | _ => []

/-- The fence units that carry the data of an object (Tables 01-1 and 01-3). Classes whose instances serve every unit of a domain name none. -/
def State.carriers (s : State) (c i : Nat) : List (Nat × Nat) :=
  if c = 0x0201 then (5, i) :: (s.portLanes i).map (fun l => (4, l))
  else if c = 0x0202 then [(4, i)]
  else if c = 0x0203 ∨ c = 0x0302 ∨ c = 0x0303 then []
  else if c = 0x0210 then
    let p := s.nat Attr.LineCell.port i
    (8, 0) :: (5, p) :: (s.portLanes p).map (fun l => (4, l))
  else if c = 0x0220 then
    let p := i / 2 ^ 21 % 16
    (5, p) :: (s.portLanes p).map (fun l => (4, l))
  else if c = 0x0301 then [(6, i)]
  else if c = 0x0310 then [(8, 0), (6, s.nat Attr.RadioPan.port i)]
  else if c = 0x0D03 then if i < 8 then [(17, 0), (7, i)] else [(17, 0), (19, 0)]
  else if c = 0x1003 then [(i / 256, i % 256)]
  else ((classInfo c).map ClassInfo.domains).getD [] |>.map (fun d => (d, 0))

/-- R12, R19, R4: a command on an object returns FENCED when any carrying unit is fenced or fused off; a fault class stays available unless its unit is
fused off. -/
def State.fencedObject (s : State) (c i : Nat) : Bool :=
  if c / 256 = 0x10 then (s.carriers c i).any (fun u => s.fusedOff u.1 u.2) else (s.carriers c i).any (fun u => s.cutOff u.1 u.2)

/-! ### Notifications (R73–R75) -/

/-- Kinds of Table 02-11. -/
def kindChange : Nat := 1
def kindEvent : Nat := 2
def kindComplete : Nat := 3
def kindPeriodic : Nat := 4
def kindLost : Nat := 5
def kindSessionEnd : Nat := 6

/-- COMPLETE and SESSION_END, for which 256 entries are kept (R74). -/
def Entry.kept (e : Entry) : Bool := e.kind == kindComplete || e.kind == kindSessionEnd

/-- Whether an entry that may be dropped finds room: 4,096 entries less the 256 kept (R74). -/
def Mailbox.room (m : Mailbox) : Bool := (m.notifs.filter (fun e => !e.kept)).length < 3840

/-- The LOST entry of a session (R75). -/
def lostEntry (h n : Nat) : Entry := { session := h, sub := 0, kind := kindLost, path := 0, arrival := 0, status := 0, data := leBytes 4 n }

/-- Where the notifications of a session go out (R76): its association, or pair 0. -/
def Mailbox.routeOf (m : Mailbox) (h : Nat) : Option Nat :=
  (m.sessions.find? (fun x => x.handle == h)).bind (fun x => if x.localSess then none else some x.assoc)

/-- Enters a notification: a LOST entry of its session goes before it; where there is no room it is dropped and counted, unless it is of a kept kind. -/
def Mailbox.notify (m : Mailbox) (e : Entry) : Mailbox :=
  let r := m.routeOf e.session
  if e.kept || m.room then
    match Assoc.find e.session m.lost with
    | none => { m with notifs := m.notifs ++ [{ e with route := r }] }
    | some n =>
      { m with notifs := m.notifs ++ [{ lostEntry e.session n with route := r }, { e with route := r }], lost := Assoc.del e.session m.lost }
  else { m with lost := Assoc.modify 0 e.session (· + 1) m.lost }

/-- Enters several notifications in order. -/
def Mailbox.notifyAll (m : Mailbox) (es : List Entry) : Mailbox := es.foldl Mailbox.notify m

/-- Whether a subscription covers an attribute of an object: its class, its instance or every instance (R62), its attribute, or attribute 0 `version`, which changes with every other (R61). -/
def Subscription.covers (b : Subscription) (p : Nat) : Bool :=
  pathCls b.path == pathCls p && (pathInst b.path == pathInst p || pathInst b.path == wildInst) &&
    (pathAttr b.path == pathAttr p || pathAttr b.path == 0)

/-- The CHANGE entries a change of an attribute produces, one for each change subscription that covers it (Table 02-11); a fenced object produces none through a
wildcard subscription (R62). -/
def changeEntries (fenced : Bool) (subs : List Subscription) (p ver : Nat) (data : Bytes) : List Entry :=
  (subs.filter (fun b => b.trigger == 1 && b.covers p && !(fenced && pathInst b.path == wildInst))).map
    (fun b =>
      if pathAttr b.path = 0 then
        { session := b.session, sub := b.id, kind := kindChange, path := p / 256 * 256, arrival := 0, status := 0, data := leBytes 4 ver }
      else { session := b.session, sub := b.id, kind := kindChange, path := p, arrival := 0, status := 0, data := data.take 12 })

/-- COMPLETE for a command (Table 02-11); discarded where its session has ended (R746). -/
def State.complete (s : State) (h path arrival : Nat) (st : Status) : State :=
  if s.mbx.sessions.any (fun x => x.handle == h) then
    { s with mbx := s.mbx.notify { session := h, sub := 0, kind := kindComplete, path := path, arrival := arrival, status := st.code, data := [] } }
  else s

/-! ### Writing attributes (R61) -/

/-- Writes an attribute and counts the change in the object's version, 32 bits; nothing where it already holds the value (R61). -/
def State.setAttr (s : State) (a : Nat × Nat) (i : Nat) (v : Val) : State :=
  if s.attr a i = v then s
  else
    { s with
      obj := { s.obj with
        vals := Assoc.set (dfltAt a i) (mkPath a.1 i a.2) v s.obj.vals
        vers := Assoc.set 0 (objKey a.1 i) ((s.version a.1 i + 1) % 2 ^ 32) s.obj.vers }
      mbx := s.mbx.notifyAll (changeEntries (s.fencedObject a.1 i) s.mbx.subs (mkPath a.1 i a.2) ((s.version a.1 i + 1) % 2 ^ 32) (((attrInfo a).map (fun t => encodeVal t.ty v)).getD [])) }

/-- Counts a change of an attribute whose value another part of State holds: version and CHANGE notifications, as setAttr. -/
def State.touch (s : State) (a : Nat × Nat) (i : Nat) (v : Val) : State :=
  { s with
    obj := { s.obj with vers := Assoc.set 0 (objKey a.1 i) ((s.version a.1 i + 1) % 2 ^ 32) s.obj.vers }
    mbx := s.mbx.notifyAll (changeEntries (s.fencedObject a.1 i) s.mbx.subs (mkPath a.1 i a.2) ((s.version a.1 i + 1) % 2 ^ 32) (((attrInfo a).map (fun t => encodeVal t.ty v)).getD [])) }

/-- Writes a number attribute. -/
def State.setInt (s : State) (a : Nat × Nat) (i : Nat) (v : Int) : State := s.setAttr a i (.num v)

/-- Writes a natural-number attribute. -/
def State.setNat (s : State) (a : Nat × Nat) (i v : Nat) : State := s.setAttr a i (.num v)

/-- Writes a BOOL attribute. -/
def State.setFlag (s : State) (a : Nat × Nat) (i : Nat) (v : Bool) : State := s.setAttr a i (.num (if v then 1 else 0))

/-- Adds to a counter attribute, wrapping at 2^w. -/
def State.bump (s : State) (w : Nat) (a : Nat × Nat) (i : Nat) (n : Nat := 1) : State := s.setNat a i ((s.nat a i + n) % 2 ^ w)

/-- Adds to a counter attribute, saturating at 2^w − 1. -/
def State.bumpSat (s : State) (w : Nat) (a : Nat × Nat) (i : Nat) (n : Nat := 1) : State := s.setNat a i (min (s.nat a i + n) (2 ^ w - 1))

/-- Writes element `k` of an array attribute. -/
def State.setElem (s : State) (a : Nat × Nat) (i k : Nat) (v : Int) : State := s.setAttr a i (.arr ((s.arr a i).set k v))

/-- Element `k` of an array attribute. -/
def State.elem (s : State) (a : Nat × Nat) (i k : Nat) : Int := (s.arr a i).getD k 0

/-- Whether a dynamic instance exists. -/
def State.alive (s : State) (c i : Nat) : Bool := Assoc.has (objKey c i) s.obj.live

/-- Creates a dynamic instance. -/
def State.create (s : State) (c i : Nat) : State := { s with obj := { s.obj with live := Assoc.put (objKey c i) () s.obj.live } }

/-- Removes a dynamic instance with its attribute values; its version stays counted, so a later instance of the number continues it. -/
def State.destroy (s : State) (c i : Nat) : State :=
  { s with
    obj := { s.obj with
      live := Assoc.del (objKey c i) s.obj.live
      vals := s.obj.vals.filter (fun e => e.1 / 256 != objKey c i)
      vers := Assoc.set 0 (objKey c i) ((s.version c i + 1) % 2 ^ 32) s.obj.vers } }

/-- The live instances of a class, rising. -/
def State.instances (s : State) (c : Nat) : List Nat :=
  (s.obj.live.filter (fun e => e.1 / 2 ^ 40 == c)).map (fun e => e.1 % 2 ^ 40)

/-! ### Events (R712, R714, R715) -/

/-- An ordinary event arrives: it enters the intake of 64, or is dropped and counted (R714). -/
def Recorder.ordinary (r : Recorder) (e : Event) : Recorder :=
  if r.ordinaryIn.length < 64 then { r with ordinaryIn := r.ordinaryIn ++ [e] }
  else
    { r with
      dropCount := r.dropCount + 1
      dropped := min (r.dropped + 1) 0xFFFFFFFF
      dropFirst := if r.dropCount = 0 then e.code else r.dropFirst
      dropLast := e.code }

/-- A safety-class event arrives: it enters the intake of 8, or stays latched at its source (R715). -/
def Recorder.safe (r : Recorder) (e : Event) : Recorder :=
  if r.safetyIn.length < 8 then { r with safetyIn := r.safetyIn ++ [e] } else { r with latched := r.latched ++ [e] }

/-- Records an ordinary event. -/
def State.raise (s : State) (code path : Nat) (args : List Int := []) : State :=
  { s with recd := s.recd.ordinary ⟨code, path, args⟩ }

/-- Records a safety-class event. -/
def State.raiseSafe (s : State) (code path : Nat) (args : List Int := []) : State :=
  { s with recd := s.recd.safe ⟨code, path, args⟩ }

/-! ### The STO journal (R500) -/

/-- The journal entries that a kind stands for: a flight takes one for each record and one for its mark (R500). -/
def JKind.entries : JKind → Nat
  | .flight _ recs mark => recs.length + b2n mark.isSome
  | _ => 1

/-- Whether the mirror carries a kind of entry (Table 16-1). -/
def JKind.mirrored : JKind → Bool
  | .map | .arrival _ | .replica _ _ => false
  | _ => true

/-- The flight of an entry. -/
def JKind.flightId : JKind → Option Nat
  | .flight id _ _ => some id
  | _ => none

/-- The endpoint whose replica takes an entry (R522, R635): records, marks, and path changes. -/
def JKind.endpoint : JKind → Option Nat
  | .flight _ recs mark => ((recs.head?).map NewRec.handle).or (mark.map Prod.fst)
  | .path h => some h
  | _ => none

/-- What the twin and the federation make of a posted entry: the active of a pair posts it to its standby (R607), or marks it while SOLO (R625); in a federation it goes
to the replica of its endpoint (R635). -/
def State.shared (s : State) (q : Nat) (k : JKind) : State :=
  let pst := s.nat Attr.ServicePosture.posture 0
  let ps := s.nat Attr.TwinPair.pairState 0
  let tw := s.twn
  let tw := if (pst = 1 ∨ pst = 3) ∧ k.mirrored then
      if ps = 1 ∨ ps = 3 then { tw with outbox := tw.outbox ++ [(q, k)], posted := tw.posted ++ [(q, s.tim.d3, k.flightId)] }
      else if ps = 2 then { tw with soloMarks := tw.soloMarks ++ [q] }
      else tw
    else tw
  let r := (k.endpoint.map (fun h => s.nat Attr.EndpointPlacement.replica h)).getD 0xFFFF
  { s with twn := if (pst = 2 ∨ pst = 3) ∧ r ≠ 0xFFFF then { tw with repOut := tw.repOut ++ [(r, q, k)] } else tw }

/-- Posts to the journal under the next sequences, of which the last is kept: none in SHADOW, which takes its active's (R502, R381). -/
def State.post (s : State) (k : JKind) : State :=
  if s.sys.mode = .shadow then s
  else
    let q := (s.sto.seq + k.entries) % 2 ^ 64
    { s with sto := { s.sto with seq := q, gather := s.sto.gather ++ [(q, k)] } }.shared q k

/-! ### Pairs of the mailbox -/

/-- Pair `n`; one at reset past the end. -/
def State.pair (s : State) (n : Nat) : Pair := s.mbx.pairs.getD n {}

/-- Writes pair `n`. -/
def State.setPair (s : State) (n : Nat) (p : Pair) : State := { s with mbx := { s.mbx with pairs := s.mbx.pairs.set n p } }

/-- The session of a handle. -/
def State.session (s : State) (h : Nat) : Option Session := s.mbx.sessions.find? (fun x => x.handle == h)

/-- Changes the session of a handle. -/
def State.modSession (s : State) (h : Nat) (f : Session → Session) : State :=
  { s with mbx := { s.mbx with sessions := s.mbx.sessions.map (fun x => if x.handle = h then f x else x) } }

end Sys2Proof.Machine
end

