-- ==== Sys2Proof/Machine/Objects.lean ====
section
/-! DEFINITION. Objects: which instances exist, which domains carry them (R15, R19), which attributes have their value in another part of State, the rights of
Table 02-8 (R64) with the narrowings of the chapters, and what SHADOW serves (R628). -/

namespace Sys2Proof.Machine

/-! ### Existence -/

/-- Whether an endpoint handle is in use. -/
def State.endpoint (s : State) (h : Nat) : Bool := s.alive 0x0501 h

/-- The bands of a profile, in order, 24 octets each (Table 06-8). -/
def State.bands (s : State) (prof : Nat) : List Bytes :=
  let b := s.octets Attr.BandProfile.entries prof
  (List.range (b.length / 24)).map (fun k => slice b (24 * k) 24)

/-- Whether a band is CHIP_WIDE (Table 06-8, flags bit 1). -/
def bandChipWide (b : Bytes) : Bool := bit (octet b 19) 1

/-- Whether a ledger instance exists (R256): a band of a port's profile with a ledger of its own, or a CHIP_WIDE band. -/
def State.ledgerExists (s : State) (i : Nat) : Bool :=
  if i < 256 then ((s.bands (s.nat Attr.RadioPort.bandProfile (i / 16)))[i % 16]?).any (fun b => !bandChipWide b)
  else (List.range 16).any (fun p => ((s.bands (s.nat Attr.RadioPort.bandProfile p))[i - 256]?).any bandChipWide)

/-- The band of a ledger instance (R256). -/
def State.ledgerBand (s : State) (i : Nat) : Bytes :=
  if i < 256 then (s.bands (s.nat Attr.RadioPort.bandProfile (i / 16))).getD (i % 16) []
  else (((List.range 16).map (fun p => (s.bands (s.nat Attr.RadioPort.bandProfile p)).getD (i - 256) [])).find? bandChipWide).getD []

/-- A band's budget in µs: duty in ppm × window in s (06_radio_ports.md). -/
def bandBudget (b : Bytes) : Nat := field b 8 4 * field b 12 2

/-- The record of a sequence in the ring, else in the mirror (R721). -/
def Recorder.lookup (r : Recorder) (q : Nat) : Option Record :=
  match r.ring.find? (fun x => x.seq == q) with
  | some x => some x
  | none => r.mirror.find? (fun x => x.seq == q)

/-- Whether an instance of a class exists (check 9). Objects of an endpoint exist with its EndpointProfile; a GroupResidual with its group. -/
def State.exists (s : State) (c i : Nat) : Bool :=
  match (classInfo c).map ClassInfo.insts with
  | none => false
  | some (.fixed n) => i < n
  | some .dynamic =>
    if c = 0x0502 then s.endpoint (i / 8)
    else if c = 0x0702 ∨ c = 0x0704 ∨ c = 0x0802 ∨ c = 0x0C30 ∨ c = 0x0E30 ∨ c = 0x0B10 ∨ c = 0x0401 then s.endpoint i
    else if c = 0x0901 then s.endpoint i && s.nat Attr.EndpointProfile.role i == 1
    else if c = 0x0905 then s.endpoint i && s.nat Attr.EndpointProfile.role i == 2
    else if c = 0x0804 then s.alive 0x0801 (i / 4096) && s.alive 0x0804 i
    else if c = 0x0303 then s.ledgerExists i
    else if c = 0x0703 then Assoc.has i s.bil.snaps
    else if c = 0x1002 then (source i).isSome
    else if c = 0x1003 then i % 256 < unitsOf (i / 256)
    else if c = 0x1111 then (s.recd.lookup i).isSome
    else s.alive c i

/-! ### Attribute values held elsewhere in State -/

/-- The current interval: the interval that holds the service time (D2 counts 2^-16 ns). -/
def State.nowInterval (s : State) : Nat := s.tim.d2 / sec 900

/-- A balance group. -/
def State.group (s : State) (g : Nat) : Group := (Assoc.find g s.bal.groups).getD {}

/-- The definition of a group in force at an interval (R396): of those that have started, the latest command's; none where it deletes. -/
def State.defAt (s : State) (g i : Nat) : Option GroupDef := ((s.group g).defs.find? (fun d => decide (d.start ≤ i))).filter (fun d => !d.gone)

/-- The definition shown: the one in force now, else the latest. -/
def State.defShown (s : State) (g : Nat) : Option GroupDef := (s.defAt g s.nowInterval).or (s.group g).defs.head?

/-- The membership of an endpoint in force at an interval (R396). -/
def State.memberAt (s : State) (h i : Nat) : Membership :=
  (((Assoc.find h s.bal.members).getD []).find? (fun m => decide (m.start ≤ i))).getD ⟨0, 0xFFFF, 0⟩

/-- Members of a group at an interval, in ascending handle order. -/
def State.membersAt (s : State) (g i : Nat) : List Nat := (s.bal.members.filter (fun x => (s.memberAt x.1 i).group == g)).map Prod.fst

/-- Attributes of BalanceGroup and EndpointBalance that the history holds (R396, R423, R425). -/
def State.balanceComputed (s : State) (a : Nat × Nat) (i : Nat) : Option Val :=
  let d : Option GroupDef := if a.1 = 0x0801 then s.defShown i else none
  let n := fun (f : GroupDef → Nat) => d.map (fun x => Val.num (f x))
  if a = Attr.BalanceGroup.kind then n GroupDef.kind
  else if a = Attr.BalanceGroup.parent then n GroupDef.parent
  else if a = Attr.BalanceGroup.headHandle then n GroupDef.head
  else if a = Attr.BalanceGroup.cell then n GroupDef.cell
  else if a = Attr.BalanceGroup.vectorHour then n GroupDef.vector
  else if a = Attr.BalanceGroup.fixedLossWh then n GroupDef.fixed
  else if a = Attr.BalanceGroup.ratedKva then n GroupDef.rated
  else if a = Attr.BalanceGroup.neighbours then d.map (fun x => .arr ((x.near ++ List.replicate (8 - x.near.length) 0xFFFF).map Int.ofNat))
  else if a = Attr.BalanceGroup.members then some (.num (s.membersAt i s.nowInterval).length)
  else if a = Attr.EndpointBalance.group then some (.num (s.memberAt i s.nowInterval).group)
  else if a = Attr.EndpointBalance.phase then some (.num (s.memberAt i s.nowInterval).phase)
  else none

/-- The 12 argument octets of an event record (R711): OVERFLOW as R714 lays it out, those of MEA as R491 does, TIME_ANCHOR as R582 does, any other as its packing constant gives it. -/
def packArgs (code : Nat) (args : List Int) : Bytes :=
  match code, args with
  | 0x0E01, [c, b, z, v, d] | 0x0E02, [c, b, z, v, d] | 0x0E03, [c, b, z, v, d] | 0x0E04, [c, b, z, v, d] | 0x0E05, [c, b, z, v, d] | 0x0E06, [c, b, z, v, d]
  | 0x0E07, [c, b, z, v, d] => intBytes 1 c ++ intBytes 1 b ++ intBytes 1 z ++ [0] ++ intBytes 4 v ++ intBytes 4 d
  | 0x0E08, [a, b] | 0x0E09, [a, b] => [0, 0, 0, 0] ++ intBytes 4 a ++ intBytes 4 b
  | 0x1101, [a, b, c, d] => intBytes 6 a ++ intBytes 4 b ++ intBytes 1 c ++ intBytes 1 d
  | 0x1410, [n, f, l] => intBytes 4 n ++ intBytes 2 f ++ intBytes 2 l ++ [0, 0, 0, 0]
  | _, _ => (List.range 12).map (Config.packArg code args)

/-- The 32 octets of an event record (Table 19-7). -/
def recordBytes (r : Record) : Bytes :=
  let b := leBytes 4 r.seq ++ leBytes 2 r.code ++ leBytes 2 r.count ++ leBytes 8 r.path ++ packArgs r.code r.args
  b ++ leBytes 4 (crc32c b)

/-- REC_OLDEST: the oldest sequence in the ring, the head where the ring is empty (Table 19-8). -/
def Recorder.oldest (r : Recorder) : Nat := ((r.ring.head?).map Record.seq).getD r.head

/-- State of a queue. -/
def State.queue (s : State) (q : Nat) : QueueState := (Assoc.find q s.que.qs).getD {}

/-- Bodies of the units in a line or radio transmit queue (Table 19-1): 128 + 8 × port + queue, 256 + 8 × port + queue. -/
def State.txBodies (s : State) (n : Nat) : List Bytes :=
  if 128 ≤ n ∧ n < 256 then ((((Assoc.find ((n - 128) / 8) s.lin.ports).getD {}).queues.getD (n % 8) []).map TxUnit.body)
  else if 256 ≤ n ∧ n < 384 then ((((Assoc.find ((n - 256) / 8) s.rad.ports).getD {}).queues.getD (n % 8) []).map RadioTx.body)
  else []

/-- 64-bit words of a body. -/
def wordsOf (b : Bytes) : Nat := (b.length + 7) / 8

/-- `words_used` of a queue (Table 19-2). -/
def State.wordsUsed (s : State) (n : Nat) : Nat := (s.queue n).words.length + ((s.txBodies n).map wordsOf).sum

/-- `items` of a queue: its committed items. -/
def State.queueItems (s : State) (n : Nat) : Nat := (s.queue n).words.countP (fun w => w.last && w.committed) + (s.txBodies n).length

/-- Instances whose attribute holds a number. -/
def State.holders (s : State) (a : Nat × Nat) (n : Nat) : Nat :=
  s.obj.vals.countP (fun e => pathCls e.1 == a.1 && pathAttr e.1 == a.2 && e.2 == .num n && s.exists a.1 (pathInst e.1))

/-- The attestation key of the life-cycle state: 1 that of FIELD, 3 that of RETURN, 0 none (Table 14-6). -/
def State.attester (s : State) : Nat :=
  match s.sys.lifecycle with
  | .field => 1
  | .ret => 3
  | _ => 0

/-- Attributes whose value a typed part of State holds. -/
def State.computed (s : State) (a : Nat × Nat) (i : Nat) : Option Val :=
  if a.1 = 0x0801 ∨ a.1 = 0x0802 then s.balanceComputed a i
  else if a = Attr.SystemIdentity.orderingCode then some (.num s.sys.order.code)
  else if a = Attr.SystemMode.mode then some (.num s.sys.mode.code)
  else if a = Attr.EventRecorder.head then some (.num s.recd.head)
  else if a = Attr.EventRecorder.oldest then some (.num s.recd.oldest)
  else if a = Attr.EventRecorder.mirrored then some (.num s.recd.mirrored)
  else if a = Attr.EventRecorder.dropped then some (.num s.recd.dropped)
  else if a = Attr.EventRecorder.overflowRecords then some (.num s.recd.overflows)
  else if a = Attr.EventRecorder.mirrorGaps then some (.num s.recd.gaps)
  else if a = Attr.ChessLedger.budgetUs then some (.num (bandBudget (s.ledgerBand i)))
  else if a = Attr.EventRecord.record then some (.bytes (((s.recd.lookup i).map recordBytes).getD []))
  else if a = Attr.BillingSnapshot.snapshot then some (.bytes ((Assoc.find i s.bil.snaps).getD []))
  else if a = Attr.TariffCalendar.endpoints then some (.num ((s.instances 0x0501).countP (fun h => s.nat (0x0501, 0x20) h == i)))
  else if a = Attr.TariffCalendar.metersPending then some (.num (((Assoc.find i s.bil.cals).map (fun (x : CalSlot) => x.pendingMeters.length)).getD 0))
  else if a = Attr.MeasurementChannel.legacyDelay then
    let v := s.int Attr.MeasurementChannel.phaseCalNs i * 3
    some (.num (max 0 (min 1023 (if v < 0 then -((-2 * v + 250) / 500) else (2 * v + 250) / 500))))
  else if a = Attr.FirSet.shift ∧ i < 4 then some (.num (Config.firShift i))
  else if a = Attr.FirSet.coefficients ∧ i < 4 then some (.bytes ((List.range (s.nat Attr.FirSet.taps i)).flatMap (fun k => intBytes 3 (Config.firCoefficient i k))))
  else if a = Attr.StoreService.mediaState ∧ s.cutOff 15 0 then some (.num (if s.nat Attr.StoreService.mediaState 0 = 4 then 4 else 0))
  else if a = Attr.UpdateService.trialRemainingS then some (.num (((s.upd.trialEnd).map (fun t => (t - s.tim.d3) / sec 1)).getD 0))
  else if a = Attr.EndpointCampaign.counts then
    some (.arr ((List.range 8).map (fun k =>
      (((s.instances 0x0F21).countP (fun x => x / 2 ^ 21 == i && s.nat Attr.CampaignTarget.state x == k) : Nat) : Int))))
  else if a = Attr.LightingSegment.lanterns then some (.num (s.holders Attr.Lantern.segment i))
  else if a = Attr.LightingCircuit.lanterns then some (.num (s.holders Attr.Lantern.circuit i))
  else if a = Attr.GloveboxService.attestPublic then some (.bytes (if s.attester = 0 then [] else Config.publicKey s.attester))
  else if a = Attr.GloveboxService.attestCertificate then some (.bytes (if s.attester = 1 then Config.attestCertificate else []))
  else if a = Attr.HardwareQueue.wordsUsed then some (.num (s.wordsUsed i))
  else if a = Attr.HardwareQueue.items then some (.num (s.queueItems i))
  else if a = Attr.SafetyFunction.safeState then some (.num (b2n (if i = 0 then s.fcr.sf0 else s.fcr.sf1)))
  else if a = Attr.MaintenanceArbiter.admitted then
    some (.arr ((List.range 11).map (fun k => ((s.fcr.admitted.countP (fun x => x.kind == k + 1) : Nat) : Int))))
  else if a = Attr.MaintenanceArbiter.deferred then
    some (.arr ((List.range 16).map (fun k => (((s.fcr.deferred[k]?).map (fun x => (x.arrival : Int))).getD 0))))
  else none

/-- The value a GET of an attribute reads. -/
def State.read (s : State) (a : Nat × Nat) (i : Nat) : Val := (s.computed a i).getD (s.attr a i)

/-! ### Rights (R64, Table 02-8) -/

/-- Index of a role in the columns of Table 02-8, which also encodes a role byte (log 5). -/
def roleIndex : Role → Nat
  | .operator => 0 | .billing => 1 | .field => 2 | .lighting => 3 | .safety => 4 | .audit => 5 | .host => 6 | .peer => 7

/-- The role of a role byte. -/
def roleOfByte : Nat → Option Role
  | 0 => some .operator | 1 => some .billing | 2 => some .field | 3 => some .lighting | 4 => some .safety | 5 => some .audit
  | 6 => some .host | 7 => some .peer | _ => none

/-- Rights of Table 02-8 as bits: 4 read, 2 write, 1 execute; per range, a digit per role in column order. -/
def rightsRow : Nat → List Nat
  | 0x01 => [7, 4, 4, 4, 5, 4, 4, 4]
  | 0x02 => [7, 0, 7, 4, 4, 4, 4, 0]
  | 0x03 => [7, 0, 7, 4, 4, 4, 4, 0]
  | 0x04 => [7, 0, 5, 0, 4, 4, 4, 4]
  | 0x05 => [7, 4, 7, 4, 4, 4, 4, 7]
  | 0x06 => [7, 7, 4, 0, 0, 4, 4, 4]
  | 0x07 => [4, 7, 4, 4, 0, 4, 4, 4]
  | 0x08 => [7, 5, 4, 0, 0, 4, 4, 4]
  | 0x09 => [4, 4, 4, 7, 5, 4, 4, 4]
  | 0x0A => [7, 4, 4, 0, 4, 4, 4, 0]
  | 0x0B => [7, 4, 0, 0, 0, 4, 4, 7]
  | 0x0C => [5, 0, 0, 0, 5, 4, 0, 0]
  | 0x0D => [7, 4, 4, 4, 4, 4, 4, 4]
  | 0x0E => [7, 0, 0, 0, 5, 4, 4, 7]
  | 0x0F => [7, 0, 1, 1, 0, 4, 4, 4]
  | 0x10 => [5, 0, 0, 0, 7, 4, 4, 4]
  | 0x11 => [7, 4, 4, 4, 4, 4, 6, 4]
  | _ => []

/-- A role's rights on a class range. -/
def rights (r : Role) (range : Nat) : Nat := (rightsRow range).getD (roleIndex r) 0

/-- Read, write and execute rights. -/
def canRead (r : Role) (range : Nat) : Bool := bit (rights r range) 2
def canWrite (r : Role) (range : Nat) : Bool := bit (rights r range) 1
def canExec (r : Role) (range : Nat) : Bool := bit (rights r range) 0

/-! ### Opcodes (Tables 02-14 and 02-15) -/

def opGet : Nat := 0x0001
def opSet : Nat := 0x0002
def opAction : Nat := 0x0003
def opList : Nat := 0x0004
def opSubscribe : Nat := 0x0005
def opUnsubscribe : Nat := 0x0006
def opBatch : Nat := 0x0007
def opChallenge : Nat := 0x0010
def opOpen : Nat := 0x0011
def opClose : Nat := 0x0012
def opBind : Nat := 0x0013
def opKeepalive : Nat := 0x0014
def opConfirm : Nat := 0x0018
def opNotify : Nat := 0x00F0
def opConnect : Nat := 0x0503
def opCircuit : Nat := 0x0902

/-- Every command opcode of Tables 02-14 and 02-15 (check 3); NOTIFY is not one. -/
def commandOpcodes : List Nat :=
  [0x0001, 0x0002, 0x0003, 0x0004, 0x0005, 0x0006, 0x0007, 0x0010, 0x0011, 0x0012, 0x0013, 0x0014, 0x0018] ++
  [0x0101, 0x0201, 0x0210, 0x0211, 0x0301, 0x0401, 0x0402, 0x0501, 0x0502, 0x0503, 0x0504, 0x0601, 0x0602] ++
  [0x0701, 0x0702, 0x0703, 0x0801, 0x0802, 0x0901, 0x0902, 0x0A01, 0x0B01, 0x0B02, 0x0C01, 0x0C02, 0x0C03, 0x0C04] ++
  [0x0D01, 0x0D02, 0x0E01, 0x0E02, 0x0E03, 0x0E04, 0x0F01, 0x0F02, 0x0F03, 0x0F04, 0x1001, 0x1002, 0x1003, 0x1004, 0x1101, 0x1102]

/-- The opcodes that act on no object: the session commands, ENERGIZE_CONFIRM and BATCH (DEDUCED, log 6). -/
def pathless (op : Nat) : Bool := op == opClose || op == opBind || op == opKeepalive || op == opConfirm || op == opBatch

/-- The methods of the spec's classes: class and method number. -/
def methods : List (Nat × Nat) :=
  [(0x0906, 0x40), (0x0C01, 0x40), (0x0C01, 0x41), (0x0C11, 0x40), (0x0C10, 0x40), (0x0C10, 0x41), (0x0E10, 0x40), (0x0F20, 0x40), (0x1004, 0x40)]

/-- Roles a chapter narrows an opcode to (R64): R105 answers REFUSED itself and is not here. -/
def opRoles : Nat → Option (List Role)
  | 0x0301 => some [.operator]
  | 0x0701 | 0x0702 | 0x0703 => some [.billing]
  | 0x0B02 => some [.operator]
  | 0x0801 | 0x0802 => some [.operator]
  | 0x0C01 => some [.operator]
  | 0x0C02 | 0x0C03 | 0x0C04 => some [.operator, .safety]
  | 0x0E01 => some [.operator, .safety]
  | 0x0F01 | 0x0F02 | 0x0F03 => some [.operator]
  | 0x1101 | 0x1102 => some [.operator]
  | _ => none

/-- Roles a chapter narrows a method to. -/
def methodRoles : Nat × Nat → Option (List Role)
  | (0x0C01, 0x40) | (0x0C01, 0x41) => some [.operator]
  | (0x0C11, 0x40) | (0x0C10, 0x40) | (0x0C10, 0x41) => some [.operator]
  | (0x0E10, 0x40) => some [.operator]
  | (0x1004, 0x40) => some [.safety]
  | _ => none

/-- Initiators of an energize-class command (Table 02-9): local SAFETY in ISLAND. -/
def energizeInitiator (op : Nat) (island : Bool) (r : Role) (loc : Bool) : Bool :=
  if island then r == .safety && loc
  else r == .operator || (if op = opConnect then r == .field else r == .lighting)

/-- Confirmers of an energize-class command (Table 02-9). -/
def energizeConfirmer (op : Nat) (island : Bool) (r : Role) (loc : Bool) : Bool :=
  if island then (r == .operator || (if op = opConnect then r == .field else r == .lighting)) && loc
  else r == .safety

/-- Whether the role of a command may read an object: Table 02-8, with R377's narrowing of the billing classes for LIGHTING (lantern handles) and PEER
(endpoints this chip is home or replica of; `selfMember` is this chip's member number). -/
def State.mayRead (s : State) (r : Role) (c i self : Nat) : Bool :=
  canRead r (c / 256) &&
    (if c = 0x0702 ∨ c = 0x0703 ∨ c = 0x0704 then
      let h := if c = 0x0703 then i / 64 else i
      if r = .lighting then s.nat Attr.EndpointProfile.role h == 1
      else if r = .peer then s.nat Attr.EndpointPlacement.home h == self || s.nat Attr.EndpointPlacement.replica h == self
      else true
    else true)

/-- Whether the role of a command has the right the command needs on its object (check 11). -/
def State.mayRun (s : State) (c : Cmd) (self : Nat) : Bool :=
  let cls := pathCls c.path
  let inst := pathInst c.path
  if c.opcode = opList then canRead c.role (cls / 256)
  else if c.opcode = opGet ∨ c.opcode = opSubscribe then s.mayRead c.role cls inst self
  else if c.opcode = opSet then
    canWrite c.role (cls / 256) && ((cls, pathAttr c.path) != Attr.EndpointLocator.pinned || c.role == .operator)
  else if c.opcode = opAction then
    canExec c.role (cls / 256) && ((methodRoles (cls, pathAttr c.path)).map (fun l => l.contains c.role)).getD true
  else if c.opcode = opConnect ∨ c.opcode = opCircuit then energizeInitiator c.opcode (s.sys.mode == .island) c.role c.localSess
  else canExec c.role (c.opcode / 256) && ((opRoles c.opcode).map (fun l => l.contains c.role)).getD true

/-- The chip-local classes of Table 16-2. -/
def localClass (c : Nat) : Bool :=
  c == 0x0E10 || c == 0x0D03 || c == 0x0D02 || c == 0x0D10 || c == 0x0D11 || c == 0x0C11 || c == 0x0C20 || c == 0x0110

/-- The chip-local attributes of Table 16-2 (R610), with `legacy_delay`, another view of `phase_cal_ns` (R475). -/
def localAttr (a : Nat × Nat) : Bool :=
  localClass a.1 ||
    [Attr.LineLane.txGainCal, Attr.LineLane.muShift, Attr.LineLane.fdExit, Attr.LineLane.fdEnter, Attr.RadioPort.txScript, Attr.RadioPort.rxScript,
     Attr.RadioPort.txSettleUs, Attr.RadioPort.paLeadUs, Attr.MeasurementChannel.gainCalPpm, Attr.MeasurementChannel.offsetCal,
     Attr.MeasurementChannel.phaseCalNs, Attr.MeasurementChannel.legacyDelay].contains a

/-- What SHADOW serves (R628); MODE_REQUEST is served to PROVISION, which its own body checks. -/
def shadowServes (op path : Nat) : Bool :=
  let cls := pathCls path
  if op = opGet ∨ op = opList ∨ op = opSubscribe ∨ op = opUnsubscribe ∨ op = opBatch then true
  else if op = opSet then localAttr (cls, pathAttr path) || cls / 256 == 0x10
  else if op = opChallenge ∨ op = opOpen ∨ op = opClose ∨ op = opBind ∨ op = opKeepalive then true
  else if op = opAction then
    localClass cls || cls / 256 == 0x10 || cls == 0x0F01 || cls == 0x0F02 || cls == 0x0F10 ||
      (cls == 0x0C10 && (pathAttr path == 0x40 || pathAttr path == 0x41))
  else
    op / 256 == 0x10 || [0x0101, 0x0E01, 0x0C03, 0x0C02, 0x0D02, 0x0F01, 0x0F02, 0x0F03].contains op

/-- Whether a SET of an attribute is possible for anyone (check 10, R61): the attribute is RW; `err_pin` is RO for SAFETY and FATAL sources (R699), notch mask 0 is
read-only, and `host_role` belongs to queues 0–15 alone (Table 19-2). -/
def writable (a : Nat × Nat) (i : Nat) : Bool :=
  ((attrInfo a).map AttrInfo.rw).getD false &&
    (if a = Attr.NotchMask.notches then i != 0
     else if a = Attr.HardwareQueue.hostRole then decide (i < 16)
     else if a = Attr.FaultSource.errPin then ((source i).map (fun x => decide (x.cls < clsSafety))).getD false else true)

/-- Checks 8 to 13 of Table 02-6 for a command on an object, with R61, R62, R749 and R628; the first failing status, or none. -/
def State.objectChecks (s : State) (c : Cmd) (self : Nat) : Option Status :=
  let cls := pathCls c.path
  let inst := pathInst c.path
  let att := pathAttr c.path
  let wild := inst == wildInst
  match classInfo cls with
  | none => some .badObject
  | some ci =>
    if wild && c.opcode != opSubscribe then some .badObject
    else if !wild && c.opcode != opList && !s.exists cls inst then some .notFound
    else if !(if c.opcode = opGet then att == 0 || att == 0xFF || ci.attrs.any (fun x => x.num == att)
              else if c.opcode = opSet then writable (cls, att) inst
              else if c.opcode = opAction then methods.contains (cls, att)
              else if c.opcode = opList then att == 0
              else att == 0 || ci.attrs.any (fun x => x.num == att)) then some .badAttribute
    else if !s.mayRun c self then some .denied
    else if wild && (ci.domains.any (fun d => (List.range (unitsOf d)).all (s.fusedOff d))) then some .fenced
    else if !wild && s.fencedObject cls inst then some .fenced
    else if s.sys.mode = .shadow && !shadowServes c.opcode c.path then some .refused
    else none

/-- Checks 8 to 13 as they apply to an opcode: UNSUBSCRIBE replaces them by one of its own (R749), the session commands, ENERGIZE_CONFIRM and BATCH act on
no object and meet only SHADOW's rule. -/
def State.lateChecks (s : State) (c : Cmd) (self : Nat) : Option Status :=
  if c.opcode = opUnsubscribe then none
  else if pathless c.opcode then if s.sys.mode = .shadow && !shadowServes c.opcode c.path then some .refused else none
  else s.objectChecks c self

end Sys2Proof.Machine
end

