-- ==== Sys2Proof/Machine/Provision.lean ====
section
/-! DEFINITION. `provision_state` (R103), and what a sealed glovebox shuts off (R554). -/

namespace Sys2Proof.Machine

/-- Whether a root slot is WRITTEN and neither faulty nor DESTROYED (Table 14-5, bytes 28–35). -/
def State.slotGood (s : State) (i : Nat) : Bool := s.nat Attr.RootSlot.state i == 1

/-- Whether a credential of a role is held. -/
def State.holdsRole (s : State) (r : Role) : Bool := (s.instances 0x0C20).any (fun k => s.nat Attr.RoleCredential.role k == roleIndex r)

/-- The six bits of `provision_state` (R103). -/
def State.provisionBits (s : State) : List Bool :=
  let p := s.nat Attr.ServicePosture.posture 0
  let twin := p == 1 || p == 3
  let fed := p == 2 || p == 3
  let m := s.twn.self
  [[3, 4, 5, 6, 7, 8, 9].all s.slotGood,
   s.holdsRole .operator && s.holdsRole .safety,
   s.glv.bank.isSome && s.sys.keysImported,
   s.sys.settingsGen != 0 && s.nat Attr.SettingsGeneration.state s.sys.settingsGen == 2,
   s.sys.postureWritten,
   (!twin || s.nat Attr.TwinPair.partnerEui 0 != 0) &&
     (!fed || (s.alive 0x0E20 m && (s.nat Attr.FederationMember.state m == 0 || s.nat Attr.FederationMember.state m == 1)))]

/-- The value of `provision_state`. -/
def State.provisionState (s : State) : Nat := (s.provisionBits.zipIdx.map (fun x => b2n x.1 * 2 ^ x.2)).sum

/-- Publishes `provision_state`. -/
def State.refreshProvision (s : State) : State := s.setNat Attr.SystemMode.provisionState 0 s.provisionState

/-- Provisioning complete (Table 03-8). -/
def State.provisioned (s : State) : Bool := s.provisionState == 63

/-- A sealed glovebox shuts the data plane off as a fence of GLV does (R554). -/
def State.gloveShut (s : State) : Bool := s.cutOff 16 0 || s.flag Attr.GloveboxService.sealed 0

end Sys2Proof.Machine
end

