-- ==== Sys2Proof/Machine/Mailbox.lean ====
section
/-! DEFINITION. Mailboxes and sessions (02_purel_mailboxes.md): taking a frame and its checks, writing the response, opening and ending sessions,
notifications, and the running of a taken command. -/

namespace Sys2Proof.Machine

/-- What a command answers: a status and the response payload. -/
structure Reply where
  status : Status
  data : Bytes := []
  deriving DecidableEq, Repr

/-- The body of a command: its effect and its answer. -/
abbrev Body := Cmd → State → Reply × State

/-! ### Responses (R39, R44, R55) -/

/-- The response frame of a command (Table 02-4): header copied, RESPONSE set, and BULK where the payload is a descriptor. -/
def responseFrame (c : Cmd) (st : Status) (bulk : Bool) (data : Bytes) : Bytes :=
  mkFrame
    { seq := c.seq, session := c.session, opcode := c.opcode, path := c.path, length := data.length, flags := 1 + (if bulk then 8 else 0),
      status := st.code, reserved := 0, arrival := c.arrival, crc := 0 } data

/-- The bulk descriptor of a payload at the start of the slice: offset, length, CRC-32C, reserved. -/
def bulkDescriptor (data : Bytes) : Bytes := leBytes 4 0 ++ leBytes 4 data.length ++ leBytes 4 (crc32c data) ++ leBytes 4 0

/-- The pair's outbound buffer takes a frame: OUT_FULL, the vector if enabled, then IN_BUSY clear (step 6). -/
def State.writeOut (s : State) (n : Nat) (f : Bytes) : State :=
  let p := s.pair n
  let s := s.setPair n { p with outbuf := f, outFull := true, inBusy := false, waiting := none }
  if p.irqEn then { s with mbx := { s.mbx with msix := p.vector :: s.mbx.msix } } else s

/-- Delivers a response frame to where the command came from: a pair whose OUT_FULL is 1 keeps it waiting with IN_BUSY 1 (R39). -/
def State.deliver (s : State) (src : Src) (f : Bytes) : State :=
  match src with
  | .pair n => if (s.pair n).outFull then s.setPair n { s.pair n with waiting := some f } else s.writeOut n f
  | .vpair a v =>
    { s with mbx := { s.mbx with remoteOut := s.mbx.remoteOut ++ [(2, a, v, f)], vbusy := s.mbx.vbusy.filter (fun x => x != (a, v)) } }
  | .peer l => { s with mbx := { s.mbx with peerOut := s.mbx.peerOut ++ [(l, f)] } }

/-- Writes the response of a command. A payload above 4,064 octets goes to the pair's BAR4 slice with BULK set; without BULK, or above 1 MiB, it cannot be
carried and the answer is BAD_VALUE (R44; log 7). -/
def State.answer (s : State) (c : Cmd) (r : Reply) : State :=
  if r.data.length ≤ 4064 then s.deliver c.src (responseFrame c r.status false r.data)
  else if bit c.flags flagBulk && r.data.length ≤ 1048576 then
    match c.src with
    | .pair n => (s.setPair n { s.pair n with bar4 := r.data }).deliver c.src (responseFrame c r.status true (bulkDescriptor r.data))
    | _ => s.deliver c.src (responseFrame c r.status true (bulkDescriptor r.data))
  else s.deliver c.src (responseFrame c .badValue false [])

/-- Records the status of the first execution of a sequence (R55). -/
def State.mark (s : State) (h q : Nat) (st : Status) : State :=
  s.modSession h (fun x => { x with marks := x.marks.map (fun m => if m.1 = q then (q, some st.code) else m) })

/-- Answers DUPLICATE, with the status of the first execution in payload octet 0 (R55). -/
def State.answerDuplicate (s : State) (c : Cmd) (first : Nat) : State := s.answer c ⟨.duplicate, [BitVec.ofNat 8 first]⟩

/-- Writes a command's response, records its status and answers the repeats held for it (R55). -/
def State.respond (s : State) (c : Cmd) (r : Reply) : State :=
  let s := (s.mark c.session c.seq r.status).answer c r
  let held := s.mbx.repeats.filter (fun x => x.session == c.session && x.seq == c.seq)
  let s := { s with mbx := { s.mbx with repeats := s.mbx.repeats.filter (fun x => !(x.session == c.session && x.seq == c.seq)) } }
  held.foldl (fun s x => s.answerDuplicate x r.status.code) s

/-! ### Sessions (R47–R59) -/

/-- Serial distance of R40: a is 2^31 or more behind b. -/
def farBehind (a b : Nat) : Bool := decide (2 ^ 31 ≤ (b + 2 ^ 32 - a % 2 ^ 32) % 2 ^ 32)

/-- Drops deferred requests and pending energize commands that fall 2^31 behind the newest arrival number, with COMPLETE and TIMEOUT (R40). -/
def State.dropDistant (s : State) : State :=
  let new := s.mbx.arrival
  let gone := s.mbx.energize.filter (fun e => farBehind e.arrival new)
  let late := s.fcr.deferred.filter (fun a => farBehind a.arrival new)
  let s := { s with
    mbx := { s.mbx with energize := s.mbx.energize.filter (fun e => !farBehind e.arrival new) }
    fcr := { s.fcr with deferred := s.fcr.deferred.filter (fun a => !farBehind a.arrival new) } }
  let s := gone.foldl (fun s e => s.complete e.session e.path e.arrival .timeout) s
  late.foldl (fun s a => if a.internal then s else s.complete a.session a.path a.arrival .timeout) s

/-- The session a pair is bound to (R53). -/
def State.boundTo (s : State) (src : Src) : Option Session := s.mbx.sessions.find? (fun x => x.pairs.contains src)

/-- Position of a sequence against the window (R54), by serial distance from H. -/
inductive SeqPos
  | inside | stale | ahead
  deriving DecidableEq, Repr

/-- R54: inside when H − 64 < s ≤ H + 64 modulo 2^32, stale when s ≤ H − 64, ahead when s > H + 64. -/
def seqPos (high q : Nat) : SeqPos :=
  let d := (q + 2 ^ 32 - high % 2 ^ 32) % 2 ^ 32
  if d ≤ 64 then .inside else if d < 2 ^ 31 then .ahead else if 2 ^ 32 - 64 < d then .inside else .stale

/-- Accepts a sequence: marks it, advances H and forgets marks that left the window (R54). -/
def Session.accept (x : Session) (q now : Nat) : Session :=
  let d := (q + 2 ^ 32 - x.high % 2 ^ 32) % 2 ^ 32
  let high := if 1 ≤ d ∧ d ≤ 64 then q else x.high
  { x with
    high := high
    lastUse := now
    marks := (x.marks ++ [(q, none)]).filter (fun m => (high + 2 ^ 32 - m.1 % 2 ^ 32) % 2 ^ 32 < 64) }

/-- A qualifying remote session of R104: BILLING or OPERATOR, its peer address in `head_end`. -/
def State.qualifies (s : State) (x : Session) : Bool :=
  !x.localSess && (x.role == .billing || x.role == .operator) && (s.arr Attr.SystemMode.headEnd 0).contains x.peerAddr

/-- The command of a frame, before its session is known. -/
def frameCmd (src : Src) (f slice : Bytes) (key : Bytes) (addr : Int) (arr : Nat) : Cmd :=
  let h := parseHeader f
  let n := min h.length 4064
  let payload := (f.drop 32).take n
  { src := src, seq := h.seq, session := h.session, opcode := h.opcode, path := h.path, flags := h.flags, arrival := arr,
    payload := payload ++ List.replicate (n - payload.length) 0,
    bulk := if bit h.flags flagBulk then
        let b := (slice.drop (field payload 0 4)).take (field payload 4 4)
        b ++ List.replicate (min (field payload 4 4) 1048576 - b.length) 0
      else [],
    localSess := match src with | .pair _ => true | _ => false,
    certKey := key, peerAddr := addr }

/-- Checks 1 to 3 of Table 02-6, with R43, R44 and the bulk descriptor's bounds. -/
def headerChecks (f : Bytes) (c : Cmd) : Option Status :=
  let h := parseHeader f
  if 4064 < h.length ∨ h.reserved ≠ 0 ∨ h.flags / 64 ≠ 0 ∨ bit h.flags flagResponse ∨ bit h.flags flagNotify then some .badFrame
  else if h.crc ≠ crc32c ((f ++ List.replicate (28 - f.length) 0).take 28 ++ c.payload) then some .badCrc
  else if bit h.flags flagBulk ∧ 1048576 < field c.payload 0 4 + field c.payload 4 4 then some .badValue
  else if bit h.flags flagBulk ∧ field c.payload 8 4 ≠ crc32c c.bulk then some .badCrc
  else if !commandOpcodes.contains h.opcode then some .badFrame
  else none

/-- Takes a checked command for execution in arrival order (R56). -/
def State.take (s : State) (c : Cmd) : State := { s with mbx := { s.mbx with taken := s.mbx.taken ++ [c] } }

/-- Runs the intake checks of Table 02-6 on a frame that has its arrival number: the first failure is answered and nothing executes (R45–R55). -/
def State.intake (s : State) (src : Src) (f slice key : Bytes) (addr : Int) (arr : Nat) : State :=
  let c := frameCmd src f slice key addr arr
  match headerChecks f c with
  | some st => s.answer c ⟨st, []⟩
  | none =>
    if c.opcode = opChallenge ∨ c.opcode = opOpen then
      match s.boundTo src with
      | some _ => s.answer c ⟨.denied, []⟩
      | none => s.take c
    else
      match s.session c.session with
      | none => s.answer c ⟨.stale, []⟩
      | some x =>
        if !(x.pairs.contains src || (c.opcode == opBind && (s.boundTo src).isNone)) then s.answer c ⟨.denied, []⟩
        else
          match seqPos x.high c.seq with
          | .stale => s.answer c ⟨.stale, []⟩
          | .ahead => s.answer c ⟨.badFrame, []⟩
          | .inside =>
            match x.marks.find? (fun m => m.1 == c.seq) with
            | some (_, some first) => s.answerDuplicate c first
            | some (_, none) => { s with mbx := { s.mbx with repeats := s.mbx.repeats ++ [c] } }
            | none =>
              let c := { c with role := x.role, cred := x.cred, slot := x.slot }
              let s := s.modSession x.handle (fun y => y.accept c.seq s.tim.d3)
              let s := if s.qualifies x then { s with sys := { s.sys with headEndAt := some s.tim.d3 } } else s
              match s.lateChecks c s.twn.self with
              | some st => s.respond c ⟨st, []⟩
              | none => s.take c

/-- The next arrival number (R40). -/
def State.nextArrival (s : State) : State := { s with mbx := { s.mbx with arrival := (s.mbx.arrival + 1) % 2 ^ 32 } }

/-- Whether the chip takes doorbells and remote frames (R86). -/
def State.ready (s : State) : Bool := s.sys.purelReady && !s.sys.stalemate

/-- IN_RING (R34–R38, R40, R41, R86): the host may have written the buffers first; while IN_BUSY is 1 the writes are discarded and the ring is lost, as it is
before PUREL_READY and in STALEMATE; pair 0 is ignored; during a handover the frame waits in its buffer with its arrival number. -/
def execInRing (n : Nat) (w : Option BufWrite) (s : State) : Out :=
  if n = 0 ∨ 64 ≤ n then .next s
  else
    let p := s.pair n
    if p.inBusy then .next (s.setPair n { p with ringLost := true })
    else
      let p := match w with
        | some x => { p with inbuf := x.frame, bar4 := x.bulk }
        | none => p
      if !s.ready then .next (s.setPair n { p with ringLost := true })
      else
        let s := s.nextArrival.dropDistant
        if s.sys.handover then .next (s.setPair n { p with inBusy := true, held := some s.mbx.arrival })
        else .next ((s.setPair n { p with inBusy := true }).intake (.pair n) p.inbuf p.bar4 [] 0 s.mbx.arrival)

/-- RESPONSE_WRITTEN (R39): the response that waited is written once the outbound buffer is free. -/
def execResponseWritten (n : Nat) (s : State) : Out :=
  match (s.pair n).waiting with
  | some f => if (s.pair n).outFull then .next s else .next (s.writeOut n f)
  | none => .next s

/-- OUT_DONE (R39, Table 02-2): the outbound buffer is released. -/
def execOutDone (n : Nat) (s : State) : Out := .next (s.setPair n { s.pair n with outFull := false })

/-- REMOTE_FRAME (R40, R77, R79, R86): a command frame of a DTLS association. It is dropped before PUREL_READY, in STALEMATE, or while its virtual pair executes
an earlier command; a handover keeps it waiting. -/
def execRemoteFrame (a v : Nat) (key : Bytes) (addr : Int) (f : Bytes) (s : State) : Out :=
  if v = 0 ∨ 8 < v ∨ 16 ≤ a then .next s
  else if !s.ready then .next s
  else if s.mbx.vbusy.contains (a, v) then .next s
  else
    let s := s.nextArrival.dropDistant
    let s := { s with mbx := { s.mbx with vbusy := s.mbx.vbusy ++ [(a, v)] } }
    if s.sys.handover then .next { s with mbx := { s.mbx with remoteHeld := s.mbx.remoteHeld ++ [(a, v, key, addr, leBytes 4 s.mbx.arrival ++ f)] } }
    else .next (s.intake (.vpair a v) f [] key addr s.mbx.arrival)

/-- Takes the frames that waited for the end of a handover, in arrival order of their kind (R27, R41). -/
def State.takeHeld (s : State) : State :=
  let s := (List.range 64).foldl
    (fun s n =>
      match (s.pair n).held with
      | none => s
      | some a => (s.setPair n { s.pair n with held := none }).intake (.pair n) (s.pair n).inbuf (s.pair n).bar4 [] 0 a) s
  let held := s.mbx.remoteHeld
  let s := { s with mbx := { s.mbx with remoteHeld := [] } }
  held.foldl (fun s x => s.intake (.vpair x.1 x.2.1) (x.2.2.2.2.drop 4) [] x.2.2.1 x.2.2.2.1 (field x.2.2.2.2 0 4)) s

/-! ### Ending sessions (R57–R59) -/

/-- Ends a session (R58): subscriptions and pending energize commands discarded, pairs unbound. -/
def State.endSession (s : State) (h : Nat) : State :=
  { s with
    mbx := { s.mbx with
      sessions := s.mbx.sessions.filter (fun x => x.handle != h)
      subs := s.mbx.subs.filter (fun b => b.session != h)
      energize := s.mbx.energize.filter (fun e => e.session != h)
      lost := Assoc.del h s.mbx.lost } }

/-- Ends every session, as a PUREL reset does: no SESSION_END (R59). -/
def State.endAllSessions (s : State) : State :=
  { s with mbx := { s.mbx with sessions := [], subs := [], energize := [], lost := [] } }

/-- SESSION_IDLE_TIMEOUT (R57): the session ends, SESSION_END with TIMEOUT. -/
def execSessionIdleTimeout (h : Nat) (s : State) : Out :=
  if (s.session h).isSome then
    let s := { s with mbx := s.mbx.notify { session := h, sub := 0, kind := kindSessionEnd, path := 0, arrival := 0, status := Status.timeout.code, data := [] } }
    .next (s.endSession h)
  else .next s

/-! ### Running a taken command -/

/-- Removes the command at the head of the taken ones. -/
def State.pop (s : State) : State := { s with mbx := { s.mbx with taken := s.mbx.taken.tail } }

/-- Ends the execution of a command. With NO_WAIT a finished command answers ACCEPTED and its status waits for its COMPLETE (Table 02-5); a command that
answers ACCEPTED or DEFERRED is remembered until its work ends (R746). -/
def State.finish (s : State) (c : Cmd) (r : Reply) : State :=
  let later : Option Nat → Awaiting := fun x => { arrival := c.arrival, session := c.session, path := c.path, result := x }
  if r.status = .accepted ∨ r.status = .deferred then
    ({ s with mbx := { s.mbx with awaiting := s.mbx.awaiting ++ [later none] } }).respond c r
  else if bit c.flags flagNoWait then
    ({ s with mbx := { s.mbx with awaiting := s.mbx.awaiting ++ [later (some r.status.code)] } }).respond c ⟨.accepted, []⟩
  else s.respond c r

/-- Runs a body and writes the response; a command whose key operation a tamper trip aborted answers TAMPER_ABORT, but for a KEY_ROTATE, whose body says
which of its records stand (R755). -/
def State.run (s : State) (c : Cmd) (body : Body) : State :=
  if (s.glv.aborting.any (fun x => x.1 == c.arrival)) ∧ c.opcode ≠ 0x0C01 then s.pop.finish c ⟨.tamperAbort, []⟩
  else
    let r := body c s.pop
    r.2.finish c r.1

/-- The Purel processor executes nothing: held in STALEMATE (R109), halted by the debug port (R743), or in a PUREL reset (R94). -/
def State.purelStopped (s : State) : Bool := s.sys.stalemate || s.dbg.halted || s.sys.purelRestart

/-- The command Purel executes next: the oldest it has taken (R56), while it runs. -/
def State.frontCmd (s : State) : Option Cmd := if s.purelStopped then none else s.mbx.taken.head?

/-- Runs the command that Purel executes next when it has the given opcode; otherwise this command's turn has not come and nothing changes (R56). -/
def runOpcode (op : Nat) (body : Body) (s : State) : Out :=
  match s.frontCmd with
  | some c => if c.opcode = op then .next (s.run c body) else .next s
  | none => .next s

/-- Runs the command that Purel executes next when it is the ACTION of the given class and method. -/
def runMethod (cls m : Nat) (body : Body) (s : State) : Out :=
  match s.frontCmd with
  | some c => if c.opcode = opAction ∧ pathCls c.path = cls ∧ pathAttr c.path = m then .next (s.run c body) else .next s
  | none => .next s

/-- COMMAND_COMPLETE (R746): the work of a NO_WAIT or ACCEPTED command ends. `st` is the status the work ended with; a NO_WAIT command has its own. -/
def execCommandComplete (arr : Nat) (st : Status) (s : State) : Out :=
  match s.mbx.awaiting.find? (fun x => x.arrival == arr) with
  | none => .next s
  | some x =>
    let s := { s with mbx := { s.mbx with awaiting := s.mbx.awaiting.filter (fun y => y.arrival != arr) } }
    if s.mbx.sessions.any (fun y => y.handle == x.session) then
      .next { s with
        mbx := s.mbx.notify { session := x.session, sub := 0, kind := kindComplete, path := x.path, arrival := arr, status := x.result.getD st.code, data := [] } }
    else .next s

/-! ### Credentials and sessions (R47–R53, R747, R559) -/

/-- The bootstrap credential identifier (R559). -/
def bootstrapId : Nat := 0xFFFFFFFF

/-- Service time in whole seconds. -/
def State.serviceSec (s : State) : Nat := s.tim.d2 / sec 1

/-- Whether any credential has a role. -/
def State.hasCredential (s : State) (r : Role) : Bool :=
  (s.instances 0x0C20).any (fun i => s.nat Attr.RoleCredential.role i == roleIndex r)

/-- The credential a lock or a failure count belongs to: the bootstrap open counts against its certificate's key (R559). -/
def credKey (cred : Nat) (cert : Bytes) : Nat := if cred = bootstrapId then 2 ^ 32 + leNat (Config.certKey cert) else cred

/-- Whether a credential is locked on D3 (R49). -/
def State.locked (s : State) (k : Nat) : Bool := (Assoc.find k s.mbx.locks).any (fun t => s.tim.d3 < t)

/-- A failed proof (R49): the fifth in a row locks the credential for 300 s of D3, and `locked_until` reports the service time of the end. -/
def State.failProof (s : State) (k : Nat) : State :=
  let n := (Assoc.find k s.mbx.fails).getD 0 + 1
  if n < 5 then { s with mbx := { s.mbx with fails := Assoc.put k n s.mbx.fails } }
  else
    let s := { s with mbx := { s.mbx with fails := Assoc.del k s.mbx.fails, locks := Assoc.put k (s.tim.d3 + sec 300) s.mbx.locks } }
    if s.alive 0x0C20 k then s.setNat Attr.RoleCredential.lockedUntil k (s.serviceSec + 300) else s

/-- CREDENTIAL_LOCK_END (R49): the lock of a credential ends. -/
def execCredentialLockEnd (k : Nat) (s : State) : Out :=
  if Assoc.has k s.mbx.locks then
    let s := { s with mbx := { s.mbx with locks := Assoc.del k s.mbx.locks } }
    .next (if s.alive 0x0C20 k then s.setNat Attr.RoleCredential.lockedUntil k 0 else s)
  else .next s

/-- The roles a sealed glovebox leaves (R52). -/
def sealedRole (r : Nat) : Bool := r == roleIndex .safety || r == roleIndex .operator || r == roleIndex .audit

/-- Whether a credential belongs to a federation member or the twin partner (R51). -/
def State.peerCredential (s : State) (cred : Nat) : Bool :=
  let e := Config.certEui (s.octets Attr.RoleCredential.certDigest cred)
  e == s.nat Attr.TwinPair.partnerEui 0 || (s.instances 0x0E20).any (fun m => s.nat Attr.FederationMember.eui m == e)

/-- SESSION_CHALLENGE (R47–R49, R52, R559, R747, R546). -/
def doChallenge : Body := fun c s =>
  let role := octet c.payload 0
  let cred := field c.payload 4 4
  if cred ≠ bootstrapId ∧ !s.alive 0x0C20 cred then (⟨.denied, []⟩, s)
  else if s.locked cred then (⟨.lockedOut, []⟩, s)
  else if cred ≠ bootstrapId ∧ s.nat Attr.RoleCredential.role cred ≠ role then (⟨.denied, []⟩, s)
  else if s.flag Attr.GloveboxService.sealed 0 ∧ !sealedRole role then (⟨.denied, []⟩, s)
  else if s.glv.trngFault then (⟨.internal, []⟩, s)
  else
    let n := s.trng 32
    (⟨.ok, n⟩, { s.drawn with mbx := { s.mbx with nonces := s.mbx.nonces ++ [⟨c.src, role, cred, n, s.tim.d3⟩] } })

/-- The pair number octet a proof covers. -/
def srcNumber : Src → Nat
  | .pair n => n
  | .vpair _ v => v
  | .peer l => l

/-- What a proof is taken over (R47): nonce, role, credential identifier, pair number, EUI-64. -/
def proofMessage (nonce : Bytes) (role cred pair eui : Nat) : Bytes :=
  nonce ++ leBytes 1 role ++ leBytes 4 cred ++ leBytes 1 pair ++ leBytes 8 eui

/-- The idle timeout granted (R747). -/
def grantIdle (req : Nat) : Nat := if req = 0 then 300 else min (max req 10) 86400

/-- The lowest free slot. -/
def State.freeSlot (s : State) : Option Nat := (List.range 16).find? (fun k => !s.mbx.sessions.any (fun x => x.slot == k))

/-- The generation after one, 1 to 4,095, skipping 0 (R47). -/
def nextGen (g : Nat) : Nat := if 4095 ≤ g then 1 else g + 1

/-- The lowest unused credential identifier from 1 (log 5). -/
def State.newCredential (s : State) : Nat :=
  ((List.range ((s.instances 0x0C20).length + 1)).find? (fun k => !s.alive 0x0C20 (k + 1))).getD 0 + 1

/-- Adds a role credential from a certificate (R558). -/
def State.addCredential (s : State) (role : Nat) (cert : Bytes) : Nat × State :=
  let k := s.newCredential
  let s := s.create 0x0C20 k
  let s := s.setNat Attr.RoleCredential.role k role
  let s := s.setAttr Attr.RoleCredential.publicKey k (.bytes (Config.certKey cert))
  (k, (s.setAttr Attr.RoleCredential.certDigest k (.bytes (Config.sha256 cert))).refreshProvision)

/-- Opens a slot for a credential and binds the pair that carried the open (R47, R50, R53). The answer holds the handle and the idle timeout granted. -/
def State.openSlot (s : State) (c : Cmd) (role : Role) (cred idle : Nat) : Reply × State :=
  match s.freeSlot with
  | none => (⟨.tableFull, []⟩, s)
  | some k =>
    let g := nextGen (s.mbx.gens.getD k 0)
    let h := k * 4096 + g
    let x : Session :=
      { slot := k, handle := h, role := role, cred := cred, localSess := c.localSess, assoc := match c.src with | .vpair a _ => a | _ => 0,
        peerAddr := c.peerAddr, idle := idle, lastUse := s.tim.d3, pairs := [c.src] }
    (⟨.ok, leBytes 2 h ++ leBytes 2 0 ++ leBytes 4 idle⟩,
     { s with mbx := { s.mbx with sessions := s.mbx.sessions ++ [x], gens := s.mbx.gens.set k g } })

/-- SESSION_OPEN (R47–R53, R78, R747, and the bootstrap open of R559). -/
def doOpen : Body := fun c s =>
  let p := c.payload
  let role := octet p 0
  let cred := field p 4 4
  let nonce := slice p 8 32
  let proof := slice p 44 64
  let cert := p.drop 108
  let boot := cred == bootstrapId
  let key := credKey cred cert
  if !boot && !s.alive 0x0C20 cred then (⟨.denied, []⟩, s)
  else if s.locked key then (⟨.lockedOut, []⟩, s)
  else
    match s.mbx.nonces.find? (fun n => n.nonce == nonce && n.src == c.src && n.role == role && n.cred == cred) with
    | none => (⟨.stale, []⟩, s)
    | some n =>
      let s := { s with mbx := { s.mbx with nonces := s.mbx.nonces.filter (fun m => m.nonce != nonce) } }
      let pk := if boot then Config.certKey cert else s.octets Attr.RoleCredential.publicKey cred
      let remote : Bool := match c.src with | .vpair _ _ => true | _ => false
      match roleOfByte role with
      | none => (⟨.denied, []⟩, s)
      | some r =>
        if n.at3 + sec 10 < s.tim.d3 then (⟨.stale, []⟩, s)
        else if boot && !((s.sys.mode == .provision) && !s.hasCredential .operator && c.localSess && (r == .operator || r == .safety) &&
            Config.certRole cert == role && Config.certChains (s.octets Attr.RootSlot.value 6) cert) then (⟨.denied, []⟩, s)
        else if !boot && s.nat Attr.RoleCredential.role cred != role then (⟨.denied, []⟩, s)
        else if r = .host ∧ !c.localSess then (⟨.denied, []⟩, s)
        else if r = .peer ∧ (c.localSess ∨ !s.peerCredential cred) then (⟨.denied, []⟩, s)
        else if s.flag Attr.GloveboxService.sealed 0 ∧ !sealedRole role then (⟨.denied, []⟩, s)
        else if remote ∧ c.certKey ≠ pk then (⟨.denied, []⟩, s)
        else if !Config.ecdsaVerify pk (proofMessage nonce role cred (srcNumber c.src) s.sys.eui) proof then (⟨.denied, []⟩, s.failProof key)
        else
          let s := { s with mbx := { s.mbx with fails := Assoc.del key s.mbx.fails } }
          if s.freeSlot.isNone then (⟨.tableFull, []⟩, s)
          else
            let a := if boot then s.addCredential role cert else (cred, s)
            a.2.openSlot c r a.1 (grantIdle (field p 40 4))

/-- SESSION_CLOSE (R57, R58). -/
def doClose : Body := fun c s => (⟨.ok, []⟩, s.endSession c.session)

/-- SESSION_BIND_PAIR (R53): at most 8 pairs. -/
def doBind : Body := fun c s =>
  match s.session c.session with
  | none => (⟨.stale, []⟩, s)
  | some x =>
    if x.pairs.contains c.src then (⟨.ok, []⟩, s)
    else if (s.boundTo c.src).isSome then (⟨.denied, []⟩, s)
    else if 8 ≤ x.pairs.length then (⟨.tableFull, []⟩, s)
    else (⟨.ok, []⟩, s.modSession x.handle (fun y => { y with pairs := y.pairs ++ [c.src] }))

/-- SESSION_KEEPALIVE (R57): its acceptance has restarted the idle timeout. -/
def doKeepalive : Body := fun c s => (⟨.ok, []⟩, s.modSession c.session (fun x => { x with lastUse := s.tim.d3 }))

def execSessionChallenge (s : State) : Out := runOpcode opChallenge doChallenge s
def execSessionOpen (s : State) : Out := runOpcode opOpen doOpen s
def execSessionClose (s : State) : Out := runOpcode opClose doClose s
def execSessionBindPair (s : State) : Out := runOpcode opBind doBind s
def execSessionKeepalive (s : State) : Out := runOpcode opKeepalive doKeepalive s

/-! ### Subscriptions (R81, R82, R749) -/

/-- SUBSCRIBE (R62, R82): trigger 1 to 3, a period for the periodic one. -/
def doSubscribe : Body := fun c s =>
  let tr := octet c.payload 0
  let per := field c.payload 4 4
  if tr = 0 ∨ 3 < tr ∨ (tr = 3 ∧ per = 0) then (⟨.badValue, []⟩, s)
  else if 128 ≤ s.mbx.subs.countP (fun b => b.session == c.session) ∨ 1024 ≤ s.mbx.subs.length then (⟨.tableFull, []⟩, s)
  else
    let id := s.mbx.nextSub
    (⟨.ok, leBytes 2 id ++ [0, 0]⟩,
     { s with
       mbx := { s.mbx with
         subs := s.mbx.subs ++ [⟨id, c.session, tr, per, c.path⟩]
         nextSub := if 0xFFFF ≤ id then 1 else id + 1 } })

/-- UNSUBSCRIBE (R749): a subscription of the sending session and of no other. -/
def doUnsubscribe : Body := fun c s =>
  let id := field c.payload 0 2
  if s.mbx.subs.any (fun b => b.id == id && b.session == c.session) then
    (⟨.ok, []⟩, { s with mbx := { s.mbx with subs := s.mbx.subs.filter (fun b => !(b.id == id && b.session == c.session)) } })
  else (⟨.notFound, []⟩, s)

def execSubscribe (s : State) : Out := runOpcode opSubscribe doSubscribe s
def execUnsubscribe (s : State) : Out := runOpcode opUnsubscribe doUnsubscribe s

/-- PERIODIC (R81): the period of a subscription ends; the report holds the attribute's first 12 octets. A fenced object reports nothing through a wildcard
(R62): a wildcard covers every instance that exists. -/
def execPeriodic (id : Nat) (s : State) : Out :=
  match s.mbx.subs.find? (fun b => b.id == id && b.trigger == 3) with
  | none => .next s
  | some b =>
    let cls := pathCls b.path
    let a := (cls, pathAttr b.path)
    let insts := if pathInst b.path = wildInst then
        (match (classInfo cls).map ClassInfo.insts with | some (.fixed n) => List.range n | _ => s.instances cls).filter (fun i => !s.fencedObject cls i)
      else [pathInst b.path]
    let entry := fun i : Nat =>
      { session := b.session, sub := b.id, kind := kindPeriodic, path := mkPath cls i a.2, arrival := 0, status := 0,
        data := if a.2 = 0 then leBytes 4 (s.version cls i) else (((attrInfo a).map (fun t => encodeVal t.ty (s.read a i))).getD []).take 12 : Entry }
    .next { s with mbx := s.mbx.notifyAll (insts.map entry) }

/-! ### Delivery of notifications (R73–R76) -/

/-- One notification entry as 32 octets (Table 02-10). -/
def entryBytes (e : Entry) : Bytes :=
  leBytes 2 e.sub ++ leBytes 2 e.kind ++ leBytes 8 e.path ++ leBytes 4 e.arrival ++ leBytes 1 e.status ++ [0, 0, 0] ++
    (e.data ++ List.replicate 12 0).take 12

/-- A notification frame: opcode NOTIFY, NOTIFY flag, the subscriber's handle, 1 to 127 entries. -/
def notifyFrame (h : Nat) (es : List Entry) : Bytes :=
  let data := (es.map entryBytes).flatten
  mkFrame { seq := 0, session := h, opcode := opNotify, path := 0, length := data.length, flags := 32, status := 0, reserved := 0, arrival := 0, crc := 0 } data

/-- The entries of one session at the front of a queue, at most 127. -/
def frontRun (h : Nat) (n : Nat) : List Entry → List Entry
  | [] => []
  | e :: t => match n with
    | 0 => []
    | k + 1 => if e.session = h then e :: frontRun h k t else []

/-- LOST entries for the sessions that have lost some, as far as there is room (R75). -/
def Mailbox.fillLost (m : Mailbox) : Mailbox :=
  m.lost.foldl
    (fun m x =>
      if m.room then
        { m with notifs := m.notifs ++ [{ lostEntry x.1 x.2 with route := m.routeOf x.1 }], lost := Assoc.del x.1 m.lost }
      else m) m

/-- NOTIFICATION_DELIVER (R73–R76): the entries of one session at the front of the queue go out in one frame, to pair 0 when its outbound buffer is free or
to the session's association; then LOST entries take the room. -/
def execNotificationDeliver (s : State) : Out :=
  match s.mbx.notifs with
  | [] => .next s
  | e :: _ =>
    let run := frontRun e.session 127 s.mbx.notifs
    let f := notifyFrame e.session run
    match e.route with
    | none =>
      if (s.pair 0).outFull then .next s
      else
        let s := { s with mbx := ({ s.mbx with notifs := s.mbx.notifs.drop run.length }).fillLost }
        .next (s.writeOut 0 f)
    | some a =>
      .next { s with
        mbx := ({ s.mbx with notifs := s.mbx.notifs.drop run.length, remoteOut := s.mbx.remoteOut ++ [(3, a, 0, f)] }).fillLost }

/-! ### Energize-class commands: initiation and window (R66–R70) -/

/-- Initiates an energize-class command (R67, R68, R70): it waits for its confirmation within the window fixed now. -/
def State.initiate (s : State) (c : Cmd) : Reply × State :=
  if 16 ≤ s.mbx.energize.length then (⟨.busy, []⟩, s)
  else
    (⟨.accepted, []⟩,
     { s with
       mbx := { s.mbx with
         energize := s.mbx.energize ++
           [⟨c.arrival, c.opcode, c.path, c.session, c.role, c.cred, c.localSess, c.payload, s.nat Attr.MailboxService.energizeWindow 0⟩] } })

/-- Discards a pending energize command with COMPLETE and a status. -/
def State.discardEnergize (s : State) (e : Energize) (st : Status) : State :=
  let s := { s with
    mbx := { s.mbx with
      energize := s.mbx.energize.filter (fun x => x.arrival != e.arrival)
      awaiting := s.mbx.awaiting.filter (fun x => x.arrival != e.arrival) } }
  s.complete e.session e.path e.arrival st

/-- Discards every pending energize command with a status (R71 at a castling). -/
def State.discardAllEnergize (s : State) (st : Status) : State := s.mbx.energize.foldl (fun s e => s.discardEnergize e st) s

/-- ENERGIZE_WINDOW_EXPIRY (R68): the window ends unconfirmed. -/
def execEnergizeWindowExpiry (arr : Nat) (s : State) : Out :=
  match s.mbx.energize.find? (fun e => e.arrival == arr) with
  | none => .next s
  | some e => .next (s.discardEnergize e .timeout)

end Sys2Proof.Machine
end

