-- ==== Sys2Proof/Machine/MeaOps.lean ====
section
/-! DEFINITION. Measurement channels and their conditions, as fences and HOLDUP end them (12_feeder_measurement.md R485). -/

namespace Sys2Proof.Machine

/-- A channel. -/
def State.chan (s : State) (k : Nat) : MeaChannel := (Assoc.find k s.mea.chans).getD {}
/-- Writes a channel. -/
def State.setChan (s : State) (k : Nat) (x : MeaChannel) : State := { s with mea := { s.mea with chans := Assoc.put k x s.mea.chans } }

/-- The feeder of a current channel, or the busbar of a voltage channel (Table 12-1). -/
def chanOwner (k : Nat) : Nat := if k < 64 then k / 4 else (k - 64) / 3

/-- The busbar whose half-cycles a channel is tested in (R483). -/
def State.chanBus (s : State) (k : Nat) : Nat := if k < 64 then s.nat Attr.MeasurementFeeder.busbar (k / 4) else (k - 64) / 3

/-- An END event of a condition (R483, R491): channel, feeder or busbar, cause, extreme RMS, duration. -/
def State.condEnd (s : State) (k code cause : Nat) (c : Condition) (extreme : Nat) : State :=
  s.raise code (objPath 0x0A01 k) [k, chanOwner k, cause, extreme, c.duration]

/-- Ends every open condition with a cause: 1 HOLDUP, 2 FENCED (R485). -/
def State.endConditions (s : State) (cause : Nat) : State :=
  s.mea.chans.foldl
    (fun s (x : Nat × MeaChannel) =>
      let k := x.1
      let c := x.2
      let s := if c.sag.active then s.condEnd k 0x0E02 cause c.sag c.sag.extreme else s
      let s := if c.swell.active then s.condEnd k 0x0E04 cause c.swell c.swell.extreme else s
      let s := if c.oc.active then s.condEnd k 0x0E06 cause c.oc c.oc.extreme else s
      s.setChan k { c with sag := {}, swell := {}, oc := {} }) s

/-- No channel runs any longer (R481). -/
def State.meaStopped (s : State) : State :=
  { s with mea := { s.mea with chans := s.mea.chans.map (fun (x : Nat × MeaChannel) => (x.1, { x.2 with since := none })) } }

end Sys2Proof.Machine
end

