-- ==== Sys2Proof/Machine/UpdateOps.lean ====
section
/-! DEFINITION. Slot records, format masks, settings generations and the fallback of a trial (17_updates.md R650, R656–R662). -/

namespace Sys2Proof.Machine

/-- The path of a slot, and of a generation. -/
def slotPath (i : Nat) : Nat := objPath 0x0F01 i
def genPath (g : Nat) : Nat := objPath 0x0F02 g

/-- The image of a place: 0 slot A, 1 slot B, 2 host, 3 loader. -/
def State.image (s : State) (i : Nat) : Bytes := (Assoc.find i s.upd.images).getD []

/-- The state of a slot (Table 17-2). -/
def State.slotState (s : State) (i : Nat) : Nat := s.nat Attr.FirmwareImage.state i

/-- The slot in TRIAL. -/
def State.trialSlot (s : State) : Option Nat := [0, 1].find? (fun i => s.slotState i == 3)

/-- Offsets of the masks in `format_masks` (Table 17-1 offset 28): settings, handover, mirror, store, each read then write. -/
def maskOf (b : Bytes) (what : Nat) (write : Bool) : Nat := field b (4 * what + 2 * b2n write) 2

/-- The highest format of a mask. -/
def highest (m : Nat) : Option Nat := (List.range 16).reverse.find? (fun k => m.testBit k)

/-- The masks of the running image. -/
def State.masks (s : State) : Bytes := if s.sys.slot = 2 then slice (s.image 2) 28 16 else s.octets Attr.FirmwareImage.formatMasks s.sys.slot

/-- What every chip that must read a store format reads (R662): the twin partner, and every other ACTIVE member, as they advertise. -/
def State.storeReaders (s : State) : List Nat :=
  let p := s.nat Attr.ServicePosture.posture 0
  let twin := if p = 1 ∨ p = 3 then
      match (Assoc.find (s.nat Attr.TwinPair.pairLane 0) s.twn.links).bind (fun (k : CLink) => k.peer) with
      | some x => [field x.2 14 2]
      | none => []
    else []
  let ms := (s.instances 0x0E20).filter (fun m => m != s.twn.self && s.nat Attr.FederationMember.state m == 1)
  twin ++ ms.map (fun m => field (s.octets Attr.FederationMember.versions m) 14 2)

/-- The store format written (R662): the highest of the write mask that all of them read, and, in a trial, one the image before it writes. -/
def State.storeFormat (s : State) : Nat :=
  let own := maskOf s.masks 3 true
  let own := match s.trialSlot with
    | some t => own &&& maskOf (s.octets Attr.FirmwareImage.formatMasks (1 - t)) 3 true
    | none => own
  (highest (s.storeReaders.foldl (fun m r => m &&& r) own)).getD 0

/-! ### Settings generations (R656–R658) -/

/-- Whether a key of the object store is that of a setting: a writable attribute, but not a source's latch. -/
def isSetting (p : Nat) : Bool :=
  ((attrInfo (pathCls p, pathAttr p)).map AttrInfo.rw).getD false && (pathCls p, pathAttr p) != Attr.FaultSource.latched

/-- The settings in force. -/
def State.settings (s : State) : List (Nat × Val) := s.obj.vals.filter (fun e => isSetting e.1)

/-- Puts a book's settings in force, each change counted (R61). -/
def State.applySettings (s : State) (book : List (Nat × Val)) : State :=
  let set := fun (s : State) (p : Nat) (v : Val) => s.setAttr (pathCls p, pathAttr p) (pathInst p) v
  let gone := s.settings.filter (fun e => !Assoc.has e.1 book)
  let s := gone.foldl (fun s e => set s e.1 (dfltAt (pathCls e.1, pathAttr e.1) (pathInst e.1))) s
  book.foldl (fun s e => set s e.1 e.2) s

/-- The state of a generation: 0 EMPTY, 1 WRITING, 2 VALID, 3 DISCARDED. -/
def State.genState (s : State) (g : Nat) : Nat := s.nat Attr.SettingsGeneration.state g

/-- Keeps the settings in force as the book of the generation in use. -/
def State.keepBook (s : State) : State := { s with upd := { s.upd with books := Assoc.put s.sys.settingsGen s.settings s.upd.books } }

/-- Uses a generation: its book comes in force. -/
def State.useGeneration (s : State) (g : Nat) : State :=
  let s := { s with sys := { s.sys with settingsGen := g } }
  (s.applySettings ((Assoc.find g s.upd.books).getD [])).refreshProvision

/-- The generation the image of a slot boots on (R657): the one bound to it where VALID, else the VALID one of the highest sequence whose format the image reads, else the opening
book; `bad` are those whose CRC fails. -/
def State.bootGeneration (s : State) (slot : Nat) (masks : Bytes) (bad : List Nat) : Nat :=
  let ok := fun g => g != 0 && s.genState g == 2 && !bad.contains g
  let bound := s.nat Attr.FirmwareImage.settingsGeneration slot
  if slot < 2 ∧ ok bound then bound
  else
    ([1, 2, 3].filter (fun g => ok g && (maskOf masks 0 false).testBit (s.nat Attr.SettingsGeneration.format g))).foldl
      (fun best g => if best = 0 ∨ s.nat Attr.SettingsGeneration.sequence best < s.nat Attr.SettingsGeneration.sequence g then g else best) 0

/-- The generation a new image writes into (R658): of 1 to 3, bound to neither the CONFIRMED nor the PREVIOUS slot, of the lowest sequence. -/
def State.freeGeneration (s : State) : Nat :=
  let bound := ([0, 1].filter (fun i => s.slotState i == 4 || s.slotState i == 5)).map (fun i => s.nat Attr.FirmwareImage.settingsGeneration i)
  (([1, 2, 3].filter (fun g => !bound.contains g)).foldl
    (fun best g => if best = 0 ∨ s.nat Attr.SettingsGeneration.sequence g < s.nat Attr.SettingsGeneration.sequence best then g else best) 0)

/-- Writes the settings in force as a new generation, beside the one in use, and binds it to a slot (R658): SETTINGS_WRITTEN. -/
def State.newGeneration (s : State) (slot : Nat) : State :=
  let g := s.freeGeneration
  let seq := (([1, 2, 3].map (fun k => s.nat Attr.SettingsGeneration.sequence k)).foldl max 0 + 1) % 2 ^ 32
  let fmt := (highest (maskOf s.masks 0 true)).getD 0
  let s := s.keepBook
  let s := ((s.setNat Attr.SettingsGeneration.state g 2).setNat Attr.SettingsGeneration.sequence g seq).setNat Attr.SettingsGeneration.format g fmt
  let s := s.setNat Attr.SettingsGeneration.writerVersion g (if slot < 2 then s.nat Attr.FirmwareImage.version slot else field (s.image 2) 16 4)
  let s := if slot < 2 then s.setNat Attr.FirmwareImage.settingsGeneration slot g else s
  let s := { s with sys := { s.sys with settingsGen := g } }
  (s.raise 0x0144 (genPath g) [g, fmt, seq]).refreshProvision

/-! ### The fallback (R655, R661) -/

/-- Falls back from slot `t` (R661): FAILED, its generation DISCARDED, the other image on the generation bound to it, FW_FALLBACK with the reason. -/
def State.fallBack (s : State) (t reason : Nat) : State :=
  let g := s.nat Attr.FirmwareImage.settingsGeneration t
  let trial := s.slotState t == 3
  let s := s.setNat Attr.FirmwareImage.state t 6
  let s := { s with upd := { s.upd with trialEnd := none, handing := none } }
  let s := if trial then
      let s := if g = 0 then s else s.setNat Attr.SettingsGeneration.state g 3
      let o := 1 - t
      let s := { s with sys := { s.sys with slot := o } }
      s.useGeneration (s.bootGeneration o s.masks [])
    else s
  s.raise 0x0143 (slotPath t) [t, reason]

end Sys2Proof.Machine
end

