-- ==== Sys2Proof/Machine/Fault.lean ====
section
/-! DEFINITION. The fault collector's shared operations (18_faults_safety.md): STALEMATE, the PUREL reset, reports and reactions, fences, and the
maintenance arbiter. -/

namespace Sys2Proof.Machine

/-! ### ERR_N and STALEMATE (R108, R109, R675) -/

/-- ERR_N is low during the pulse, under a hold, and in STALEMATE (R675). -/
def State.errLow (s : State) : Bool := s.fcr.pulse || s.fcr.purelHold || s.fcr.hostHold || s.sys.stalemate

/-- Enters STALEMATE (R109, R110): transmit enables low, then the claim released, Purel held, the cause written, STALEMATE_ENTERED recorded. -/
def State.enterStalemate (s : State) (src : Nat) : State :=
  if s.sys.stalemate then s
  else
    ({ s with
      sys := { s.sys with stalemate := true, txEnable := false, purelHeld := true, causeValid := true, causeSource := src }
      twn := { s.twn with claimOut := false, txPermitted := false, gap := none } }).raiseSafe 0x1405 (objPath 0x1002 src) [src]

/-- A PUREL reset (R59, R92, R94): PUREL_READY 0 until Purel takes commands again, every session ends, a handover under way ends; `cause` is its RESET_CAUSE bit. The Guard
watchdog's during a trial falls back (Table 17-4). -/
def State.purelReset (s : State) (cause : Nat) : State :=
  let s := s.endAllSessions
  let s := { s with
    upd := { s.upd with handing := none }
    fcr := { s.fcr with admitted := s.fcr.admitted.filter (fun a => a.kind != 5) } }
  let s := if cause = 9 then (match s.trialSlot with
    | some t => s.fallBack t 5
    | none => s) else s
  { s with
    dbg := s.dbg.stirred
    sys := { s.sys with purelReady := false, purelRestart := true, handover := false, resetCause := s.sys.resetCause ||| BitVec.ofNat 11 (2 ^ cause) } }

/-! ### The maintenance arbiter (R693–R696, Table 18-7) -/

/-- Activity numbers each activity conflicts with (Table 18-7); 8 conflicts with itself on the same port only. -/
def conflictsWith : Nat → List Nat
  | 1 => [2, 4, 5, 11, 1]
  | 2 => [1, 4, 5, 11, 2]
  | 3 => [4, 5, 10, 11, 3]
  | 4 => [1, 2, 3, 5, 9, 10, 11, 4]
  | 5 => [1, 2, 3, 4, 9, 10, 11]
  | 6 => [9, 10, 11]
  | 7 => [11, 7]
  | 8 => [11]
  | 9 => [4, 5, 6, 10, 11, 9]
  | 10 => [3, 4, 5, 6, 9, 11, 10]
  | 11 => [1, 2, 3, 4, 5, 6, 7, 8, 9, 10, 11]
  | _ => []

/-- Whether two activities conflict; a retraining's unit is its lane, and port p uses lanes 3p to 3p + 2. -/
def Activity.conflicts (a b : Activity) : Bool :=
  (conflictsWith a.kind).contains b.kind || (conflictsWith b.kind).contains a.kind || (a.kind == 8 && b.kind == 8 && a.unit / 3 == b.unit / 3)

/-- The deferrable activities (Table 18-7). -/
def deferrable (k : Nat) : Bool := k == 1 || k == 2 || k == 3 || k == 4 || k == 7 || k == 8 || k == 9 || k == 10

/-- The fence units an activity uses (Table 18-7): its requester is told when one of them is fenced. Key rotation scope 1 also uses COL. -/
def Activity.uses (a : Activity) : List (Nat × Nat) :=
  match a.kind with
  | 1 | 2 => [(15, 0)]
  | 3 => [(8, 0)]
  | 4 | 10 => [(19, 0), (15, 0)]
  | 6 => [(9, 0)]
  | 7 => [(18, 0), (17, 0)]
  | 8 => [(4, a.unit), (5, a.unit / 3)]
  | 9 => if octet a.arg 0 = 1 then [(16, 0), (9, 0)] else [(16, 0)]
  | _ => []

/-- The arbiter's decision on a request. -/
inductive Decision
  | admitted | deferred | refused | busy
  deriving DecidableEq, Repr

/-- The path of the arbiter's object. -/
def arbiterPath : Nat := objPath 0x1010 0

/-- Records ACTIVITY: activity, 0 ADMITTED, 1 DEFERRED, 2 REFUSED or 3 ENDED, arrival number (R701). -/
def State.activityEvent (s : State) (a : Activity) (what : Nat) : State := s.raise 0x1409 arbiterPath [a.kind, what, a.arrival]

/-- Whether a request may be admitted: no admitted activity and no deferred request ordered before it conflicts (R694). -/
def State.mayAdmit (s : State) (a : Activity) (before : List Activity) : Bool :=
  !s.fcr.admitted.any a.conflicts && !before.any a.conflicts

/-- Admits an activity. -/
def State.admitActivity (s : State) (a : Activity) : State :=
  ({ s with fcr := { s.fcr with admitted := s.fcr.admitted ++ [a] } }).activityEvent a 0

/-- Decides a request (R694, R695): admitted, deferred when deferrable and the queue of 16 has room, BUSY for a command when it is full, else refused. An
internal request that finds the queue full waits outside it, at most one per activity and unit. -/
def State.arbitrate (s : State) (a : Activity) : Decision × State :=
  if s.mayAdmit a s.fcr.deferred then (.admitted, s.admitActivity a)
  else if deferrable a.kind then
    if s.fcr.deferred.length < 16 then
      (.deferred, ({ s with fcr := { s.fcr with deferred := s.fcr.deferred ++ [{ a with since := s.tim.d3 }] } }).activityEvent a 1)
    else if a.internal then
      if s.fcr.waiting.any (fun x => x.kind == a.kind && x.unit == a.unit) then (.deferred, s)
      else (.deferred, { s with fcr := { s.fcr with waiting := s.fcr.waiting ++ [a] } })
    else (.busy, s)
  else (.refused, s.activityEvent a 2)

/-- Whether a taken command will ask the arbiter: an internal request is decided after it (R693). -/
def asksArbiter (c : Cmd) : Bool := [0x0201, 0x0402, 0x0B02, 0x0C01, 0x0D02, 0x0E04, 0x0F02, 0x0F04, 0x1003].contains c.opcode

/-- An internal request (R693): decided at once when no command ordered before it waits to be decided, else kept in its place. -/
def State.requestInternal (s : State) (kind unit : Nat) : Decision × State :=
  let a : Activity := { kind := kind, arrival := s.mbx.arrival, internal := true, unit := unit }
  if s.fcr.admitted.any (fun x => x.internal && x.kind == kind && x.unit == unit) ∨
      s.fcr.deferred.any (fun x => x.internal && x.kind == kind && x.unit == unit) ∨
      s.fcr.waiting.any (fun x => x.kind == kind && x.unit == unit) then (.deferred, s)
  else if s.mbx.taken.any asksArbiter then (.deferred, { s with fcr := { s.fcr with waiting := s.fcr.waiting ++ [a] } })
  else s.arbitrate a

/-- A command's request: its arrival number orders it (R693). -/
def State.requestCmd (s : State) (c : Cmd) (kind unit : Nat) : Decision × State :=
  s.arbitrate { kind := kind, arrival := c.arrival, internal := false, unit := unit, session := c.session, path := c.path, arg := c.payload.take 16 }

/-- The status a decision answers; `st` for an admitted request. -/
def decisionStatus (d : Decision) (st : Status) : Status :=
  match d with
  | .admitted => st
  | .deferred => .deferred
  | .refused => .refused
  | .busy => .busy

/-- Goes through the deferred requests in order, admitting each that no admitted activity and no earlier deferred request conflicts with (R695); gives the
activities admitted. -/
def State.admitDeferred (s : State) : List Activity × State :=
  let step := fun (acc : List Activity × List Activity × State) (a : Activity) =>
    if acc.2.2.mayAdmit a acc.2.1 then (acc.1 ++ [a], acc.2.1, acc.2.2.admitActivity a) else (acc.1, acc.2.1 ++ [a], acc.2.2)
  let r := s.fcr.deferred.foldl step ([], [], s)
  (r.1, { r.2.2 with fcr := { r.2.2.fcr with deferred := r.2.1 } })

/-- Takes the internal requests that wait outside the queue, in their order, as far as the queue has room (R695). -/
def State.decideWaiting (s : State) : List Activity × State :=
  let step := fun (acc : List Activity × State) (a : Activity) =>
    match acc.2.arbitrate a with
    | (.admitted, t) => (acc.1 ++ [a], t)
    | (_, t) => (acc.1, t)
  s.fcr.waiting.foldl step ([], { s with fcr := { s.fcr with waiting := [] } })

/-- Ends admitted activities: a command requester receives COMPLETE with FLUSHED, an internal request is remembered to be made again (R677, R696). -/
def State.flushActivities (s : State) (p : Activity → Bool) : State :=
  let gone := s.fcr.admitted.filter p
  let s := { s with
    fcr := { s.fcr with admitted := s.fcr.admitted.filter (fun a => !p a), again := s.fcr.again ++ gone.filter Activity.internal }
    mbx := { s.mbx with awaiting := s.mbx.awaiting.filter (fun x => !gone.any (fun a => !a.internal && a.arrival == x.arrival)) } }
  gone.foldl (fun s a => (if a.internal then s else s.complete a.session a.path a.arrival .flushed).activityEvent a 3) s

/-- HOLDUP entry at the arbiter (R696): every admitted activity ends and every deferred request is dropped, with FLUSHED. -/
def State.flushArbiter (s : State) : State :=
  let s := s.flushActivities (fun _ => true)
  let ds := s.fcr.deferred
  let s := { s with
    fcr := { s.fcr with deferred := [], waiting := [], again := s.fcr.again ++ (s.fcr.waiting ++ ds.filter Activity.internal) }
    mbx := { s.mbx with awaiting := s.mbx.awaiting.filter (fun x => !ds.any (fun a => !a.internal && a.arrival == x.arrival)) } }
  ds.foldl (fun s a => if a.internal then s else s.complete a.session a.path a.arrival .flushed) s

/-! ### Flushing queues (R707) -/

/-- A flush of one queue: what it discards, in items and words, and the queue after it (Table 19-3). The example of 19_queues_recorder.md counts the
producer's open item. -/
def QueueState.flush (q : QueueState) : Nat × Nat × QueueState :=
  (q.words.countP (fun w => w.last && w.committed) + b2n (q.opened && !q.poisoned), q.words.length,
   { q with words := [], rd := 0, mark := none, poisoned := q.opened, cut := q.cut || q.mid, mid := false, taken := false, high := false })

/-- Adds to one of the four saturating counters of a queue: 0 flushes, 1 underruns, 2 aborted, 3 foreign (Table 19-2). -/
def State.queueCount (s : State) (n k : Nat) : State :=
  s.setElem Attr.HardwareQueue.counters n k (min (s.elem Attr.HardwareQueue.counters n k + 1) 0xFFFFFFFF)

/-- Empties the line or radio transmit queue a queue number names (Table 19-1). -/
def State.emptyTx (s : State) (n : Nat) : State :=
  if 128 ≤ n ∧ n < 256 then
    match Assoc.find ((n - 128) / 8) s.lin.ports with
    | none => s
    | some p => { s with lin := { s.lin with ports := Assoc.put ((n - 128) / 8) { p with queues := p.queues.set (n % 8) [] } s.lin.ports } }
  else if 256 ≤ n ∧ n < 384 then
    match Assoc.find ((n - 256) / 8) s.rad.ports with
    | none => s
    | some p => { s with rad := { s.rad with ports := Assoc.put ((n - 256) / 8) { p with queues := p.queues.set (n % 8) [] } s.rad.ports } }
  else s

/-- Flushes queue `n` with the cause 0 command, 1 host, 2 fence, 3 castling (R707, R724). -/
def State.flushQueue (s : State) (n cause : Nat) : (Nat × Nat) × State :=
  let r := (s.queue n).flush
  let items := r.1 + (s.txBodies n).length
  let words := s.wordsUsed n
  let s := ({ s with que := { s.que with qs := Assoc.put n r.2.2 s.que.qs } }).emptyTx n
  ((items, words), (s.queueCount n 0).raise 0x0301 (objPath 0x1101 n) [n, items, words, cause])

/-! ### Fences (R677) -/

/-- The unit's hardware queues that a fence flushes: the transmit queues of a line port or a radio port (Table 19-1). -/
def unitQueues (d u : Nat) : List Nat :=
  if d = 5 then (List.range 8).map (fun k => 128 + 8 * u + k) else if d = 6 then (List.range 8).map (fun k => 256 + 8 * u + k) else []

/-- Fences a unit (R677): `fenced` and `cause` set, FENCED recorded, its activities ended, its queues flushed, its port's transmit queues emptied. What the
fence cuts off (Table 01-2) is decided wherever the unit is used, from `fenced`. -/
def State.fence (s : State) (d u cause : Nat) : State :=
  if s.fencedUnit d u then s
  else
    let i := d * 256 + u
    let s := (s.setFlag Attr.FenceUnit.fenced i true).setNat Attr.FenceUnit.cause i cause
    let s := s.raise 0x1402 (objPath 0x1003 i) [d, u, cause]
    let s := if d = 13 then { s with lux := { s.lux with fences := (s.tim.d2 / msec 1, none) :: s.lux.fences } } else s
    let s := if d = 18 then { s with tim := { s.tim with rtc := { s.tim.rtc with fencedAt := some s.tim.rtc.live.epoch } } } else s
    let s := if d = 14 then (s.endConditions 2).meaStopped else s
    let s := s.flushActivities (fun a => a.uses.contains (d, u))
    (unitQueues d u).foldl (fun s q => if 0 < s.wordsUsed q then (s.flushQueue q 2).2 else s) s

/-- PUREL_HOLD at the end of a pulse (R676): held while a source of class MAJOR or above is latched or a unit is fenced. -/
def State.purelHoldNow (s : State) : Bool :=
  sources.any (fun x => decide (clsMajor ≤ x.cls) && s.flag Attr.FaultSource.latched x.num) || (List.range 21).any s.anyFenced

/-- Clears PUREL_HOLD when neither cause holds (R676). -/
def State.refreshHold (s : State) : State :=
  if s.fcr.purelHold && !s.purelHoldNow then { s with fcr := { s.fcr with purelHold := false } } else s

/-! ### Reports and reactions (R669–R674, R684, R685) -/

/-- The D3 instants within the last 3,600 s at which a unit was reset (R680). -/
def State.recentResets (s : State) (i : Nat) : List (Nat × Nat) := s.fcr.resets.filter (fun x => x.1 == i && s.tim.d3 ≤ x.2 + sec 3600)

/-- COUNT (Table 18-2): the source's count, saturating, and its 1 s window. -/
def State.countReport (s : State) (n : Nat) : State :=
  let s := s.bumpSat 32 Attr.FaultSource.count n
  { s with fcr := { s.fcr with window := Assoc.modify 0 n (· + 1) s.fcr.window } }

/-- FAULT with source, class and reaction; of class SAFETY or FATAL it is a safety event (R701). -/
def State.faultEvent (s : State) (x : Source) (r : Nat) : State :=
  if clsSafety ≤ x.cls then s.raiseSafe 0x1401 (objPath 0x1002 x.num) [x.num, x.cls, r] else s.raise 0x1401 (objPath 0x1002 x.num) [x.num, x.cls, r]

/-- The safety function enters its safe state (R684, R685). -/
def State.safeState (s : State) (f : Nat) : State :=
  let s := s.bumpSat 32 Attr.SafetyFunction.detections f
  if f = 0 then
    if s.fcr.sf0 then s else ({ s with fcr := { s.fcr with sf0 := true } }).raiseSafe 0x1406 (objPath 0x1004 0) [0, 1]
  else if s.fcr.sf1 then s else ({ s with fcr := { s.fcr with sf1 := true } }).raiseSafe 0x1406 (objPath 0x1004 1) [1, 1]

/-- The domain of a source, and the unit its fence falls on. -/
def Source.domain (x : Source) : Nat := x.num / 16
def Source.unitOf (x : Source) (u : Nat) : Nat := if x.perUnit then u else 0

/-- Applies one reaction (Table 18-2). -/
def State.react (s : State) (x : Source) (u r : Nat) : State :=
  let d := x.domain
  let u := x.unitOf u
  match r with
  | 0 => s.countReport x.num
  | 1 =>
    let s := (s.countReport x.num).faultEvent x 1
    let s := { s with fcr := { s.fcr with irqs := s.fcr.irqs + 1 } }
    if x.num = 258 then s.safeState 0 else s
  | 2 =>
    let s := (s.faultEvent x 2).fence d u x.num
    if x.num = 208 ∨ x.num = 209 then s.safeState 1 else s
  | 3 =>
    let i := d * 256 + u
    let s := (s.faultEvent x 3).fence d u x.num
    if s.nat Attr.FaultService.autoUnfenceLimit 0 ≤ (s.recentResets i).length then s.raise 0x1404 (objPath 0x1003 i) [d, u, x.num]
    else
      let s := s.bump 8 Attr.FenceUnit.autoResets i
      { s with
        fcr := { s.fcr with
          resets := s.recentResets i ++ s.fcr.resets.filter (fun y => y.1 != i) ++ [(i, s.tim.d3)]
          resetting := if s.fcr.resetting.contains i then s.fcr.resetting else s.fcr.resetting ++ [i] } }
  | 4 => (s.faultEvent x 4).purelReset 9
  | _ => (s.faultEvent x 5).enterStalemate x.num

/-- Latches one report (R669, R670, R675): the collector's registers, the source's latch, PATH_FAULT, the ERR_N pulse, and the trap of R672. -/
def State.latchReport (s : State) (x : Source) (f : FaultFact) (r : Nat) : State :=
  let s := s.setFlag Attr.FaultSource.latched x.num true
  let s := { s with
    fcr := { s.fcr with
      reports := min (s.fcr.reports + 1) 0xFFFFFFFF
      lastSource := if clsMinor ≤ x.cls then x.num else s.fcr.lastSource
      lastReaction := if clsMinor ≤ x.cls then r else s.fcr.lastReaction
      lastReport := Assoc.put x.num s.tim.d3 s.fcr.lastReport
      traps := if f.byPurel then s.fcr.traps + 1 else s.fcr.traps
      pulse := s.fcr.pulse || s.flag Attr.FaultSource.errPin x.num } }
  match f.path with
  | some pat => s.raise 0x1407 (objPath 0x1002 x.num) [x.num, pat]
  | none => s

/-- The reaction set for a source: SAFETY and FATAL sources and the Guard watchdog have theirs fixed (Table 18-1). -/
def State.reactionOf (s : State) (x : Source) : Nat := if clsSafety ≤ x.cls ∨ x.num = 21 then x.reaction else s.nat Attr.FaultSource.reaction x.num

/-- Insertion of a report by ascending source number (R674). -/
def insertFact (f : FaultFact) : List FaultFact → List FaultFact
  | [] => [f]
  | g :: t => if f.source < g.source then f :: g :: t else g :: insertFact f t

/-- The reports in ascending source number. -/
def sortFacts (fs : List FaultFact) : List FaultFact := fs.foldl (fun l f => insertFact f l) []

/-- Whether another report of the same cycle on the same unit has a stronger reaction, or an equal one and comes first (R674). -/
def State.outranked (s : State) (fs : List FaultFact) (f : FaultFact) : Bool :=
  match source f.source with
  | none => true
  | some x =>
    fs.any (fun g =>
      match source g.source with
      | none => false
      | some y =>
        y.domain == x.domain && y.unitOf g.unit == x.unitOf f.unit &&
          (decide (s.reactionOf x < s.reactionOf y) || (s.reactionOf x == s.reactionOf y && decide (g.source < f.source))))

/-- One injected report of a source has been made (R698). -/
def spendInjection (n : Nat) (l : List (Nat × Nat × Nat)) : List (Nat × Nat × Nat) :=
  (l.map (fun k => if k.1 = n then (k.1, k.2.1, k.2.2 - 1) else k)).filter (fun k => 0 < k.2.2)

/-- The collector takes the reports of one FCLK cycle (R670, R674, R681): all are latched; for each unit the strongest reaction acts, in ascending source
number. A reaction that fails to take effect raises NESTED_ERROR, source 321. A report of an injection is recorded INJECTED first (R698). -/
def State.collect (s : State) (facts : List FaultFact) : State :=
  let fs := (sortFacts facts).filter (fun f => (source f.source).isSome)
  let s := fs.foldl
    (fun s f =>
      match source f.source with
      | none => s
      | some x =>
        let s := match s.fcr.injections.find? (fun j => j.1 == f.source) with
          | none => s
          | some j =>
            ({ s with
              fcr := { s.fcr with
                injections := spendInjection f.source s.fcr.injections } }).raise
              0x140A (objPath 0x1002 f.source) [f.source, j.2.1]
        s.latchReport x f (s.reactionOf x)) s
  let s := (fs.filter (fun f => !s.outranked fs f)).foldl
    (fun s f =>
      match source f.source with
      | none => s
      | some x => s.react x f.unit (s.reactionOf x)) s
  if fs.any FaultFact.late then s.enterStalemate 321 else s

/-- A source reports an error of a unit, as an engine of the model raises it. -/
def State.report (s : State) (n u : Nat) : State := s.collect [⟨n, u, none, false, false⟩]

/-! ### Rows -/

/-- FAULT_REPORT (R669–R674). While the Purel processor is halted the Guard watchdog, source 21, is suspended (R743). -/
def execFaultReport (facts : List FaultFact) (s : State) : Out :=
  let idle := s.dbg.halted && !s.fcr.injections.any (fun j => j.1 == 21)
  .next (s.collect (facts.filter (fun f => !(idle && f.source == 21))))

/-- COUNT_WINDOW_END (R672): a window with 2 or more reports records one FAULT whose value is the count; the next window starts at 0. -/
def execCountWindowEnd (n : Nat) (s : State) : Out :=
  let k := (Assoc.find n s.fcr.window).getD 0
  let s' := { s with fcr := { s.fcr with window := Assoc.del n s.fcr.window } }
  if 2 ≤ k then .next (s'.raise 0x1401 (objPath 0x1002 n) [n, k]) else .next s'

/-- ERR_PULSE_END (R675, R676). -/
def execErrPulseEnd (s : State) : Out :=
  .next { s with fcr := { s.fcr with pulse := false, purelHold := s.purelHoldNow } }

/-- CONFIG_MISMATCH (R681): straight to STALEMATE. -/
def execConfigMismatch (s : State) : Out :=
  match source 320 with
  | none => .next s
  | some x => .next (((s.latchReport x ⟨320, 0, none, false, false⟩ 5).faultEvent x 5).enterStalemate 320)

/-- NESTED_ERROR (R681): a reaction being applied fails to take effect within its limit; straight to STALEMATE. -/
def execNestedError (s : State) : Out :=
  match source 321 with
  | none => .next s
  | some x => .next (((s.latchReport x ⟨321, 0, none, false, false⟩ 5).faultEvent x 5).enterStalemate 321)

/-- The Guard refreshes the claim gate from its diagnostics (R613); where a lapse had dropped the enables outside a pair, they are given again. -/
def State.refreshGate (s : State) : State :=
  let pst := s.nat Attr.ServicePosture.posture 0
  let on := !s.sys.stalemate && !s.twn.gateOk && !(pst == 1 || pst == 3) && (s.sys.mode == .service || s.sys.mode == .island)
  { s with twn := { s.twn with gateOk := true }, sys := { s.sys with txEnable := s.sys.txEnable || on } }

/-- GUARD_DIAGNOSTICS (R613, R682, Table 18-5): each failed check raises its source; the checker and LUX results are kept in SAFETY_STATUS. -/
def execGuardDiagnostics (g : GuardFacts) (s : State) : Out :=
  let s := { s with fcr := { s.fcr with checkerOk := g.checker, luxOk := g.lux } }
  let s := if g.checker && g.lux && g.renewGate && g.txEnable && g.clock && g.policyCrc && !s.sys.stalemate then s.refreshGate else s
  let f := fun (ok : Bool) (n : Nat) => if ok then [] else [(⟨n, 0, none, false, false⟩ : FaultFact)]
  .next (s.collect (f g.checker 258 ++ f g.lux 208 ++ f g.renewGate 308 ++ f g.txEnable 307 ++ f g.clock 23 ++ f g.policyCrc 20))

/-- Whether a source has shown 16 healthy FCLK cycles since its last report (R670): 26.67 ns of D3. -/
def State.healthy (s : State) (n : Nat) : Bool := (Assoc.find n s.fcr.lastReport).all (fun t => t + 1747627 ≤ s.tim.d3)

/-- A write of `latched` (R670): 0 clears a source that is not FATAL and has shown 16 healthy cycles, else REFUSED; 1 is BAD_VALUE. -/
def State.writeLatched (s : State) (n : Nat) (v : Int) : Status × State :=
  if v ≠ 0 then (.badValue, s)
  else if ((source n).map (fun x => x.cls == clsFatal)).getD true || !s.healthy n then (.refused, s)
  else (.ok, (s.setFlag Attr.FaultSource.latched n false).refreshHold)

/-- LATCHED_WRITE (R670): Purel's own write. -/
def execLatchedWrite (n : Nat) (v : Bool) (s : State) : Out := .next (s.writeLatched n (b2n v)).2

/-- DEFERRED_DROP (R695): a request deferred for 24 h is dropped with TIMEOUT; an internal one is made again when its cause still holds. -/
def execDeferredDrop (arr kind : Nat) (s : State) : Out :=
  match s.fcr.deferred.find? (fun a => a.arrival == arr && a.kind == kind) with
  | none => .next s
  | some a =>
    let s := { s with
      fcr := { s.fcr with
        deferred := s.fcr.deferred.filter (fun x => !(x.arrival == arr && x.kind == kind))
        again := if a.internal then s.fcr.again ++ [a] else s.fcr.again }
      mbx := { s.mbx with awaiting := s.mbx.awaiting.filter (fun x => a.internal || x.arrival != arr) } }
    if a.internal then .next s else .next (s.complete a.session a.path arr .timeout)

end Sys2Proof.Machine
end

