-- ==== Sys2Proof/Machine/LineOps.lean ====
section
/-! DEFINITION. Line PHY and MAC, shared operations (04_bexnos_line_phy.md, 05_line_access.md): masks and loading, headers, transmit queues and frames,
short addresses, missed beacons. -/

namespace Sys2Proof.Machine

/-! ### Access to the parts -/

/-- Lane `l`. -/
def State.lane (s : State) (l : Nat) : Lane := (Assoc.find l s.lin.lanes).getD {}
/-- Line port `p`. -/
def State.port (s : State) (p : Nat) : Port := (Assoc.find p s.lin.ports).getD {}
/-- Link `k`. -/
def State.link (s : State) (k : Nat) : Link := (Assoc.find k s.lin.links).getD {}
/-- Cell `c` at run time. -/
def State.cell (s : State) (c : Nat) : Cell := (Assoc.find c s.lin.cells).getD {}
/-- Writes lane `l`. -/
def State.setLane (s : State) (l : Nat) (x : Lane) : State := { s with lin := { s.lin with lanes := Assoc.put l x s.lin.lanes } }
/-- Writes port `p`. -/
def State.setPort (s : State) (p : Nat) (x : Port) : State := { s with lin := { s.lin with ports := Assoc.put p x s.lin.ports } }
/-- Writes link `k`. -/
def State.setLink (s : State) (k : Nat) (x : Link) : State := { s with lin := { s.lin with links := Assoc.put k x s.lin.links } }
/-- Writes cell `c`. -/
def State.setCell (s : State) (c : Nat) (x : Cell) : State := { s with lin := { s.lin with cells := Assoc.put c x s.lin.cells } }

/-! ### Cells -/

/-- Whether a cell number is a formed line cell. -/
def State.isLine (s : State) (c : Nat) : Bool := s.alive 0x0210 c
/-- Whether a cell number is a formed radio PAN. -/
def State.isPan (s : State) (c : Nat) : Bool := s.alive 0x0310 c
/-- Whether a line cell is remote (Table 05-12). -/
def State.isRemote (s : State) (c : Nat) : Bool := s.isLine c && s.nat Attr.LineCell.kind c == 1
/-- Whether a line cell is a lighting cell. -/
def State.isLighting (s : State) (c : Nat) : Bool := s.isLine c && s.nat Attr.LineCell.purpose c == 1
/-- The attribute of a cell, line or radio, by the class it has. -/
def State.cellAttr (s : State) (c : Nat) (line pan : Nat × Nat) : Nat × Nat := if s.isPan c then pan else line
/-- The PORT value of a cell (Table 07-2). -/
def State.cellPort (s : State) (c : Nat) : Nat :=
  if s.isPan c then 16 + s.nat Attr.RadioPan.port c else s.nat Attr.LineCell.port c

/-- The handles that hold a short address in a cell. -/
def State.cellHandles (s : State) (c : Nat) : List Nat := (s.lin.addrs.filter (fun a => a.1 / 65536 == c)).map Prod.snd

/-- The lanterns admitted in a cell. -/
def State.cellLanterns (s : State) (c : Nat) : List Nat := (s.cellHandles c).filter (fun h => s.nat Attr.EndpointProfile.role h == 1)

/-- The link of a handle on a port (R176), and of a relay node's cell. -/
def endpointLink (p h : Nat) : Nat := p * 2 ^ 21 + h
def relayLink (p c : Nat) : Nat := 2 ^ 25 + p * 2 ^ 21 + c

/-! ### Field transmission -/

/-- Whether the chip may transmit in the field at all: the enables of R93, R109 and R111, and a mode with field transmission (Table 03-7). -/
def State.fieldTx (s : State) : Bool :=
  s.sys.txEnable && !s.sys.stalemate && !s.twn.drain && (s.sys.mode == .service || s.sys.mode == .island || s.sys.mode == .factory)

/-- Whether a line port may transmit: field transmission, wiring not OFF, its port and lanes not cut off (R15, R122). -/
def State.portTx (s : State) (p : Nat) : Bool :=
  s.fieldTx && s.nat Attr.LinePort.wiring p != 0 && !s.cutOff 5 p && !(s.portLanes p).any (s.cutOff 4)

/-- The port's worst canceller state is FULL_DUPLEX on every lane (R126). -/
def State.portFullDuplex (s : State) (p : Nat) : Bool :=
  (s.portLanes p).all (fun l => s.nat Attr.LineLane.cancellerState l == 2) && !(s.portLanes p).isEmpty

/-! ### Masks and loading (R128–R134, R147) -/

/-- Pairs of an array of start and stop frequencies. -/
def notchPairs : List Int → List (Nat × Nat)
  | a :: b :: t => (a.toNat, b.toNat) :: notchPairs t
  | _ => []

/-- The user mask a port names (R148); instance 0 is the default mask itself. -/
def State.userNotches (s : State) (p : Nat) : List (Nat × Nat) :=
  let m := pathInst (s.nat Attr.LinePort.notchMask p)
  if m = 0 then [] else notchPairs (s.arr Attr.NotchMask.notches m)

/-- A carrier is masked when its frequency, k × 100 MHz / 4,096, lies within a notch widened by 2 carriers on each side (R147). -/
def maskedBy (n : Nat × Nat) (k : Nat) : Bool := decide (n.1 * 4096 ≤ (k + 2) * 100000) && decide (k * 100000 ≤ n.2 * 4096 + 200000)

/-- Whether a carrier is masked by any notch of a list. -/
def masked (ns : List (Nat × Nat)) (k : Nat) : Bool := ns.any (fun n => maskedBy n k)

/-- The carrier indices, 74 to 2,047 (Table 04-2). -/
def carriers : List Nat := (List.range 1974).map (· + 74)

/-- Carriers a pair of masks leaves (R137). -/
def unmaskedCount (ns : List (Nat × Nat)) : Nat := (carriers.filter (fun k => !masked ns k)).length

/-- The code of carrier index i (0 for carrier 74) in 987 octets, high nibble first (Table 05-3). -/
def codeAt (codes : Bytes) (i : Nat) : Nat := if i % 2 = 0 then octet codes (i / 2) / 16 else octet codes (i / 2) % 16

/-- Bits a symbol carries under several maps: carrier by carrier the lowest code (R133), masked carriers none (R147). -/
def symbolBits (maps : List ToneMap) (ns : List (Nat × Nat)) : Nat :=
  ((List.range 1974).map (fun i => if masked ns (i + 74) then 0 else maps.foldl (fun b m => min b (codeAt m.codes i)) 10)).sum

/-- Information bits of a codeword per RATE (R144). -/
def codewordBits : Nat → Nat
  | 0 => 1920
  | 1 => 2560
  | _ => 3200

/-- Payload symbols of so many octets at a rate and a loading (R145): whole codewords of 3,840 coded bits. -/
def symbolsFor (octets rate perSymbol : Nat) : Nat :=
  let k := codewordBits rate
  let coded := (octets * 8 + k - 1) / k * 3840
  if perSymbol = 0 then 4095 else (coded + perSymbol - 1) / perSymbol

/-- SNR threshold of a code, 0.25 dB units at rate 5/6 (Table 04-3); rates 2/3 and 1/2 lower it by 2 and 4 dB (R128). -/
def snrThreshold : Nat → Nat
  | 0 => 0 | 1 => 16 | 2 => 28 | 3 => 42 | 4 => 52 | 5 => 64 | 6 => 76 | 7 => 88 | 8 => 100 | 9 => 112 | _ => 124

/-- The highest code an SNR carries at a rate with a margin, 0.25 dB units (R130). -/
def bestCode (snr margin rate : Nat) : Nat :=
  ((List.range 11).filter (fun c => c = 0 || decide (snrThreshold c + margin ≤ snr + (2 - min rate 2) * 8))).foldl max 0

/-! ### Headers (Table 04-4) -/

/-- A field of a header. -/
def hfield (h : BitVec 128) (hi lo : Nat) : Nat := bits h.toNat hi lo

/-- One bit of the CRC-16 of Table 04-4: polynomial 0x1021, no reflection. -/
def crc16Bit (c : BitVec 16) (b : Bool) : BitVec 16 :=
  let t := c.getLsbD 15 ^^ b
  if t then (c <<< 1) ^^^ 0x1021#16 else c <<< 1

/-- HCRC over bits 127:16, most significant first, initial value 0xFFFF. -/
def hcrc (h : BitVec 128) : BitVec 16 := ((List.range 112).map (fun i => h.getLsbD (127 - i))).foldl crc16Bit 0xFFFF#16

/-- What a header holds (Table 04-4). -/
structure LineHeader where
  kind : Nat
  cell : Nat
  dst : Nat
  src : Nat := 0
  tmi : Nat := 0
  regStart : Nat := 0
  regEnd : Nat := 0
  rate : Nat := 0
  span : Nat := 0
  nsym : Nat
  zco : Nat := 0
  zcoValid : Bool := false
  prio : Nat := 0
  duplex : Bool := false
  psd : Nat := 0
  group : Bool := false
  tmSet : Nat := 0
  deriving DecidableEq, Repr

/-- The header's bits with VERSION 0x1 and its HCRC. -/
def encodeHeader (x : LineHeader) : BitVec 128 :=
  let n := 2 ^ 124 + x.kind % 16 * 2 ^ 120 + x.cell % 512 * 2 ^ 111 + x.dst % 4096 * 2 ^ 99 + x.src % 4096 * 2 ^ 87 + x.tmi % 8 * 2 ^ 84 +
    x.regStart % 8 * 2 ^ 81 + x.regEnd % 8 * 2 ^ 78 + x.rate % 4 * 2 ^ 76 + x.span % 4 * 2 ^ 74 + x.nsym % 4096 * 2 ^ 62 + x.zco % 4096 * 2 ^ 50 +
    b2n x.zcoValid * 2 ^ 49 + x.prio % 4 * 2 ^ 47 + b2n x.duplex * 2 ^ 46 + x.psd % 64 * 2 ^ 40 + b2n x.group * 2 ^ 39 + x.tmSet % 2 * 2 ^ 38
  let h := BitVec.ofNat 128 n
  h ||| (hcrc h).zeroExtend 128

/-- Reads a header. -/
def decodeHeader (h : BitVec 128) : LineHeader where
  kind := hfield h 123 120
  cell := hfield h 119 111
  dst := hfield h 110 99
  src := hfield h 98 87
  tmi := hfield h 86 84
  regStart := hfield h 83 81
  regEnd := hfield h 80 78
  rate := hfield h 77 76
  span := hfield h 75 74
  nsym := hfield h 73 62
  zco := hfield h 61 50
  zcoValid := h.getLsbD 49
  prio := hfield h 48 47
  duplex := h.getLsbD 46
  psd := hfield h 45 40
  group := h.getLsbD 39
  tmSet := hfield h 38 38

/-- A header is good when VERSION is 0x1 and HCRC holds (R139). -/
def headerGood (h : BitVec 128) : Bool := hfield h 127 124 == 1 && hfield h 15 0 == (hcrc h).toNat

/-! ### The MAC sub-header (Table 05-2), most significant bit first (R179) -/

/-- The number a most-significant-first octet string holds. -/
def beNat (b : Bytes) : Nat := b.foldl (fun n x => n * 256 + x.toNat) 0

/-- A number as `n` octets, most significant first. -/
def beBytes (n v : Nat) : Bytes := (leBytes n v).reverse

/-- The MAC sub-header. -/
structure SubHeader where
  src16 : Nat
  dst16 : Nat
  seq : Nat
  seg : Nat
  last : Bool
  secured : Bool
  subkind : Nat
  unitLen : Nat
  segLen : Nat
  deriving DecidableEq, Repr

/-- Reads a sub-header from 12 octets. -/
def decodeSub (b : Bytes) : SubHeader :=
  let n := beNat (b.take 12)
  { src16 := bits n 95 80, dst16 := bits n 79 64, seq := bits n 63 52, seg := bits n 51 46, last := n.testBit 45,
    secured := n.testBit 44, subkind := bits n 43 40, unitLen := bits n 39 24, segLen := bits n 23 11 }

/-- A sub-header as 12 octets. -/
def encodeSub (x : SubHeader) : Bytes :=
  beBytes 12 (x.src16 % 65536 * 2 ^ 80 + x.dst16 % 65536 * 2 ^ 64 + x.seq % 4096 * 2 ^ 52 + x.seg % 64 * 2 ^ 46 + b2n x.last * 2 ^ 45 +
    b2n x.secured * 2 ^ 44 + x.subkind % 16 * 2 ^ 40 + x.unitLen % 65536 * 2 ^ 24 + x.segLen % 8192 * 2 ^ 11)

/-- FCS of a DATA, MGMT or RELAY payload: the CRC-32C of R43 over sub-header and body, most significant octet first (R179). -/
def payloadFcsGood (b : Bytes) : Bool := beNat (b.drop (b.length - 4)) == crc32c (b.take (b.length - 4)) && decide (16 ≤ b.length)

/-! ### Zero crossing (R141, R170) -/

/-- Differences of consecutive edges, newest first. -/
def zcGaps : List Nat → List Nat
  | a :: b :: t => (a - b) :: zcGaps (b :: t)
  | _ => []

/-- Periods from the newest edge back to each edge: a gap counts as the nearest whole number of the smallest gap, so that edges missing between count too. -/
def zcCounts (edges : List Nat) : List Nat :=
  let gs := zcGaps edges
  let base := gs.foldl min (gs.headD 0)
  (gs.foldl (fun (acc : Nat × List Nat) g => let n := acc.1 + (g + base / 2) / max base 1; (n, acc.2 ++ [n])) (0, [0])).2

/-- The period of the port's reference, in D3 units: the mean over the last accepted edges. -/
def zcPeriod (edges : List Nat) : Nat :=
  match edges.head?, edges.getLast? with
  | some a, some b => (a - b) / max ((zcCounts edges).getLastD 0) 1
  | _, _ => 0

/-- The port's reference crossing: the average of the last 8 accepted edges, each projected onto the present period (R170). -/
def zcReference (edges : List Nat) : Nat :=
  let es := (edges.zip (zcCounts edges)).take 8
  let per := zcPeriod edges
  if es.isEmpty then 0 else (es.map (fun x => x.1 + x.2 * per)).sum / es.length

/-- ZCO of a time against the port's reference, in 1/4,096 of a period (R141). -/
def zcoAt (edges : List Nat) (t : Nat) : Nat :=
  let per := zcPeriod edges
  if per = 0 then 0 else ((t - zcReference edges) % per) * 4096 / per

/-- The region position, 0 to 239, of a time within its half-cycle (R129). -/
def regionPos (edges : List Nat) (t : Nat) : Nat :=
  let half := zcPeriod edges / 2
  if half = 0 then 0 else ((t - zcReference edges) % half) * 240 / half

/-- The region, 1 to 6, that covers a position (R129). -/
def State.regionOf (s : State) (p pos : Nat) : Nat := ((s.arr Attr.LinePort.regionBounds p).filter (fun b => b ≤ (pos : Int))).length + 1

/-- The regions a set of maps must be taken from: `n` of them in cyclic order from `r` (R133). -/
def regionRun (r n : Nat) : List Nat := (List.range n).map (fun k => (r - 1 + k) % 6 + 1)

/-! ### Transmit queues (R188, R189) -/

/-- Segments of a unit (R189). -/
def segments (len maxSeg : Nat) : Nat := if maxSeg = 0 then 0 else (max len 1 + maxSeg - 1) / maxSeg

/-- Puts a unit in a port's transmit queue, with the port's next sequence; a unit of more than 64 segments or 65,535 octets is refused (R189). -/
def State.enqueue (s : State) (p q : Nat) (u : TxUnit) : Status × State :=
  if 64 < segments u.body.length (s.nat Attr.LinePort.maxSegment p) ∨ 65535 < u.body.length then (.badValue, s)
  else
    let x := s.port p
    (.ok, s.setPort p { x with
      queues := x.queues.set q ((x.queues.getD q []) ++ [{ u with seq := x.nextSeq }])
      nextSeq := (x.nextSeq + 1) % 4096 })

/-- A MGMT unit to a short address of a cell, in queue 5 (Table 05-6). -/
def State.sendMgmt (s : State) (c dst16 subkind : Nat) (body : Bytes) (link : Nat) (pr : Producer) : State :=
  (s.enqueue (s.nat Attr.LineCell.port c) 5
    { kind := if s.isRemote c then 5 else 3, cell := c, dst16 := dst16, subkind := subkind, body := body, link := link, producer := pr,
      group := dst16 == 0xFFFF, secured := false }).2

/-- The highest queue that holds a unit (R188). -/
def Port.top (x : Port) : Option Nat := [7, 6, 5, 4, 3, 2, 1, 0].find? (fun q => !(x.queues.getD q []).isEmpty)

/-- The contention window (Table 05-4). -/
def contentionWindow (attempt prio : Nat) : Nat :=
  let k := min attempt 3
  if 2 ≤ prio then 4 * 2 ^ k else 8 * 2 ^ k

/-- The tone map index a unit goes out with: ROBUST for beacons, multicast and links without valid maps (R140, R132), from attempt 3, and LONG_SPAN from attempt 5
when both ends allow a span (R191, R168). -/
def State.tmiOf (s : State) (p : Nat) (u : TxUnit) : Nat :=
  let l := s.link u.link
  if u.kind = 0 ∨ u.group ∨ u.kind = 4 then 0
  else if 5 ≤ u.attempts ∧ 0 < min l.peerSpan (s.nat Attr.LinePort.longSpanMax p) then 7
  else if 3 ≤ u.attempts then 0
  else if !l.mapsValid ∨ s.nat Attr.LinePort.zcSource p = 3 then 0
  else 1

/-- SPAN code of a span in half-cycles (Table 04-4). -/
def spanCode (n : Nat) : Nat := if 8 ≤ n then 3 else if 4 ≤ n then 2 else if 2 ≤ n then 1 else 0

/-- Maps of the link's transmit set for a run of regions. -/
def Link.mapsFor (l : Link) (rs : List Nat) : List ToneMap :=
  (if l.txSet = 0 then l.set0 else l.set1).filter (fun m => rs.contains m.region && m.stream == 0)

/-- Samples of a payload in D3 units: 4,608 samples at 100 MS/s a symbol, 46.08 µs. -/
def symbolTime : Nat := 3019899

/-- The frame of a segment (R133–R134, R138, R141, R149, R172, R187, R191). A REGION frame names the fewest regions, from the one its payload starts in, that
cover its predicted time; all six where the zero crossing is invalid or the payload lasts a half-cycle. -/
def State.buildFrame (s : State) (p q : Nat) (u : TxUnit) (receiving : Bool) : OnAir :=
  let x := s.port p
  let maxSeg := s.nat Attr.LinePort.maxSegment p
  let nseg := segments u.body.length maxSeg
  let seg := ((List.range nseg).find? (fun k => !u.acked.contains k)).getD 0
  let part := slice u.body (seg * maxSeg) maxSeg
  let sub : SubHeader :=
    { src16 := u.src16, dst16 := u.dst16, seq := u.seq, seg := seg, last := decide (seg + 1 = nseg), secured := u.secured,
      subkind := u.subkind, unitLen := u.body.length, segLen := part.length }
  let raw := encodeSub sub ++ part
  let body := if u.kind = 0 ∨ u.kind = 4 then u.body else raw ++ beBytes 4 (crc32c raw)
  let l := s.link u.link
  let tmi := s.tmiOf p u
  let ns := defaultNotches ++ s.userNotches p
  let valid := s.flag Attr.LinePort.zcValid p
  let half := zcPeriod x.edges / 2
  let startPos := regionPos x.edges (s.tim.d3 + 2 * symbolTime + usec 51)
  let r0 := s.regionOf p startPos
  let run := fun n : Nat => l.mapsFor (regionRun r0 n)
  let rateOf := fun ms : List ToneMap => ms.foldl (fun r m => min r m.rate) 2
  let nsymOf := fun n : Nat => symbolsFor body.length (rateOf (run n)) (symbolBits (run n) ns)
  let ends := fun n : Nat =>
    let b : Nat := if r0 + n - 1 ≤ 5 then (s.elem Attr.LinePort.regionBounds p (r0 + n - 2)).toNat else 240 + (if r0 + n - 7 = 0 then 0 else (s.elem Attr.LinePort.regionBounds p (r0 + n - 8)).toNat)
    b * half / 240
  let n := if !valid ∨ half = 0 then 6
    else (([1, 2, 3, 4, 5].find? (fun k => startPos * half / 240 + nsymOf k * symbolTime ≤ ends k)).getD 6)
  let robustBits := 2 * unmaskedCount ns
  let span := min l.peerSpan (s.nat Attr.LinePort.longSpanMax p)
  let nsym := if u.kind = 0 then 2 else if u.kind = 4 then u.body.length
    else if tmi = 7 then min 4095 (span * half / symbolTime)
    else if tmi = 1 then nsymOf n else symbolsFor body.length 0 robustBits
  { header := encodeHeader
      { kind := u.kind, cell := u.cell, dst := if u.dst16 = 0xFFFF then 0 else u.dst16, src := if u.src16 = 0xFFFE then 0 else u.src16, tmi := tmi,
        regStart := if tmi = 1 ∧ n < 6 then r0 - 1 else 0, regEnd := if tmi = 1 then (if n < 6 then (r0 - 1 + n - 1) % 6 else 5) else 0,
        rate := if tmi = 1 then rateOf (run n) else 0, span := if tmi = 7 then spanCode span else 0, nsym := nsym,
        zco := if valid then zcoAt x.edges s.tim.d3 else 0, zcoValid := valid, prio := q / 2, duplex := receiving,
        psd := s.nat Attr.LinePort.psdBackoff p / 2, group := u.group || u.dst16 == 0xFFFF, tmSet := l.txSet },
    body := body, queue := q, seg := seg, awaitAck := (u.kind == 1 || u.kind == 3 || u.kind == 5) && !(u.group || u.dst16 == 0xFFFF) }

/-- Whether a frame would name an AVOID region although its priority allows it to wait (R164): PRIO 0 or 1, fewer than six regions named. -/
def State.avoids (s : State) (p : Nat) (f : OnAir) : Bool :=
  let h := decodeHeader f.header
  h.tmi == 1 && decide (h.prio ≤ 1) && decide (h.regStart ≠ 0 ∨ h.regEnd ≠ 5) &&
    (regionRun (h.regStart + 1) ((h.regEnd + 6 - h.regStart) % 6 + 1)).any (fun r => bit (s.nat Attr.LinePort.avoidRegions p) (r - 1))

/-- Starts the head frame of the highest queue (R183, R188); a frame that names AVOID regions waits when it can (R164). -/
def State.startFrame (s : State) (p : Nat) (receiving : Bool) : State :=
  let x := s.port p
  match x.top with
  | none => s.setPort p { x with contending := false, backoff := none }
  | some q =>
    match x.queues.getD q [] with
    | [] => s
    | u :: _ =>
      if !s.portTx p then s
      else
        let f := s.buildFrame p q u receiving
        if s.avoids p f then s.setPort p { x with backoff := some 0 }
        else s.setPort p { x with onAir := some f, busy := true, contending := false, backoff := none }

/-- Replaces the head unit of a queue. -/
def Port.setHead (x : Port) (q : Nat) (u : TxUnit) : Port := { x with queues := x.queues.set q (u :: (x.queues.getD q []).tail) }

/-- Removes the head unit of a queue. -/
def Port.popHead (x : Port) (q : Nat) : Port := { x with queues := x.queues.set q (x.queues.getD q []).tail }

/-! ### Beacons missed (R212) -/

/-- Events and attributes of a cell's beacons by the kind of cell. -/
def State.beaconState (s : State) (c v : Nat) : State := s.setNat (s.cellAttr c Attr.LineCell.beaconState Attr.RadioPan.beaconState) c v

/-- The path of a cell's object. -/
def State.cellPath (s : State) (c : Nat) : Nat := objPath (if s.isPan c then 0x0310 else 0x0210) c

/-- Service time in ms. -/
def State.serviceMs (s : State) : Nat := s.tim.d2 / msec 1

/-- The level of a step at a time, in thousandths: linear over the ramp (R453). -/
def LevelStep.level (x : LevelStep) (t : Nat) : Nat :=
  if x.ramp = 0 ∨ x.at2 + x.ramp ≤ t then x.after
  else ((x.before : Int) + ((x.after : Int) - x.before) * (t - x.at2 : Nat) / x.ramp).toNat

/-- The level in force at a lantern moves to a level over a ramp in ms; the steps of the last 2 h are kept (R453). -/
def State.lit (s : State) (h level ramp : Nat) : State :=
  let t := s.serviceMs
  let l := (Assoc.find h s.lux.levels).getD []
  let now := ((l.head?).map (fun x => x.level t)).getD 0
  let old := l.takeWhile (fun x => decide (t ≤ x.at2 + 7200000)) ++ (l.dropWhile (fun x => decide (t ≤ x.at2 + 7200000))).take 1
  { s with lux := { s.lux with levels := Assoc.put h (⟨t, now, level * 1000, ramp⟩ :: old) s.lux.levels } }

/-- Sets or clears a fault bit of a lantern; LANTERN_FAULT or LANTERN_CLEAR when it changes (R452). -/
def State.lanternFault (s : State) (h k : Nat) (on : Bool) : State :=
  let f := s.nat Attr.Lantern.faults h
  if bit f k = on then s
  else (s.setNat Attr.Lantern.faults h (if on then f + 2 ^ k else f - 2 ^ k)).raise (if on then 0x0D01 else 0x0D02) (objPath 0x0901 h) [h, k]

/-- A lantern becomes lease-expired, at its safe level (R212, R448). -/
def State.expireLantern (s : State) (h : Nat) : State :=
  if s.nat Attr.Lantern.leaseState h = 0 ∨ s.nat Attr.Lantern.leaseState h = 3 then s
  else ((s.setNat Attr.Lantern.leaseState h 3).setNat Attr.Lantern.levelCause h 4).lit h (s.nat Attr.Lantern.safeLevel h) 0

/-- The lanterns of a cell become lease-expired (R212, R448). -/
def State.expireLanterns (s : State) (c : Nat) : State := (s.cellLanterns c).foldl State.expireLantern s

/-- A beacon of a cell is missed: counted; the third in a row raises BEACON_LOST and its lanterns are lease-expired (R201, R212, R236). -/
def State.missBeacon (s : State) (c : Nat) : State :=
  let x := s.cell c
  let s := s.setCell c { x with missed := x.missed + 1, slip := none, renewed := 0 }
  let s := s.bumpSat 32 (s.cellAttr c Attr.LineCell.beaconsMissed Attr.RadioPan.beaconsMissed) c
  if x.missed + 1 = 3 then
    let s := (s.beaconState c 2).raise (if s.isPan c then 0x0602 else 0x0501) (s.cellPath c) [s.cellPort c, c]
    s.expireLanterns c
  else if x.missed + 1 < 3 ∧ s.nat (s.cellAttr c Attr.LineCell.beaconState Attr.RadioPan.beaconState) c = 0 then s.beaconState c 1
  else s

/-- A unit was dropped after its last attempt (R191): a lost feed is a missed beacon of its cell (R203); other producers see the timeout of their request. -/
def State.unitDropped (s : State) (pr : Producer) : State :=
  match pr with
  | .feed c => s.missBeacon c
  | _ => s

/-- A unit was acknowledged in full (R190): a lantern has its safe level (R447), a feed's cell has its beacon. -/
def State.unitDone (s : State) (pr : Producer) : State :=
  match pr with
  | .safeLevel h => (s.setFlag Attr.Lantern.safeLevelConfirmed h true).lanternFault h 6 false
  | .feed c => s.setCell c { s.cell c with missed := 0 }
  | _ => s

/-- Generation of a cell's beacon key, which is its members' broadcast key (R541, R542). -/
def State.beaconGen (s : State) (c : Nat) : Nat := (Assoc.find c s.glv.beaconGen).getD 0

/-! ### Short addresses (R209, R210) -/

/-- The short address a handle holds in a cell. -/
def State.addrOf (s : State) (c h : Nat) : Option Nat :=
  (s.lin.addrs.find? (fun a => a.1 / 65536 == c && a.2 == h)).map (fun a => a.1 % 65536)

/-- The lowest free address not released within 24 h, else the lowest free one (R209). -/
def State.freeAddr (s : State) (c : Nat) : Option Nat :=
  let free := (List.range 0xFFF).map (· + 1) |>.filter (fun a => !Assoc.has (c * 65536 + a) s.lin.addrs)
  match free.find? (fun a => (Assoc.find (c * 65536 + a) s.lin.released).all (fun t => t + sec 86400 ≤ s.tim.d3)) with
  | some a => some a
  | none => free.head?

/-- Causes of ADDRESS_RELEASED: command, LEAVE, idle, superseded, evicted, aged, dissolved (log 10). -/
def causeCommand : Nat := 0
def causeLeave : Nat := 1
def causeIdle : Nat := 2
def causeSuperseded : Nat := 3
def causeEvicted : Nat := 4
def causeAged : Nat := 5
def causeDissolved : Nat := 6

/-- Assigns an address of a cell to a handle. -/
def State.assignAddr (s : State) (c a h : Nat) : State :=
  let s := { s with lin := { s.lin with addrs := Assoc.put (c * 65536 + a) h s.lin.addrs } }
  s.bump 16 (s.cellAttr c Attr.LineCell.members Attr.RadioPan.members) c

/-- Releases an address (R210): ADDRESS_RELEASE goes once from queue 5 of a line cell, ADDRESS_RELEASED is recorded. The locator's entry is the caller's. -/
def State.releaseAddr (s : State) (c a cause : Nat) : State :=
  match Assoc.find (c * 65536 + a) s.lin.addrs with
  | none => s
  | some h =>
    let s := { s with
      lin := { s.lin with
        addrs := Assoc.del (c * 65536 + a) s.lin.addrs
        released := Assoc.put (c * 65536 + a) s.tim.d3 s.lin.released } }
    let m := s.cellAttr c Attr.LineCell.members Attr.RadioPan.members
    let s := s.setNat m c (s.nat m c - 1)
    let s := s.raise 0x0505 (s.cellPath c) [s.cellPort c, c, a, cause]
    if s.isLine c then
      s.sendMgmt c a 5 (beBytes 8 (s.nat Attr.EndpointProfile.eui h)) (endpointLink (s.nat Attr.LineCell.port c) h) .none
    else s

end Sys2Proof.Machine
end

