-- ==== Sys2Proof/Machine/Queues.lean ====
section
/-! DEFINITION. Hardware queues and the event recorder (19_queues_recorder.md). -/

namespace Sys2Proof.Machine

/-! ### Queues (R702–R710) -/

/-- Writes queue `n`. -/
def State.setQueue (s : State) (n : Nat) (q : QueueState) : State := { s with que := { s.que with qs := Assoc.put n q s.que.qs } }

/-- Words of the open item written so far. -/
def QueueState.openWords (q : QueueState) : Nat := q.words.countP (fun w => !w.committed)

/-- The word the consumer may take (R705): of a committed item, or of an open one when cut-through allows it. -/
def QueueState.next (q : QueueState) (ct : Nat) : Option QWord :=
  (q.words[q.rd]?).filter (fun w => w.committed || (decide (0 < ct) && decide (ct ≤ q.openWords)))

/-- Words readable now (Table 19-5 COUNT of a consumer). -/
def QueueState.readable (q : QueueState) (ct : Nat) : Nat :=
  (q.words.drop q.rd).countP (fun w => w.committed || (decide (0 < ct) && decide (ct ≤ q.openWords)))

/-- QUEUE_HIGH is recorded once when use rises to the level, until it falls below half of it (R704). -/
def State.queueLevel (s : State) (n : Nat) : State :=
  let q := s.queue n
  let level := s.nat Attr.HardwareQueue.sizeWords n * s.nat Attr.HardwareQueue.highWaterPct n
  if !q.high && decide (level ≤ q.words.length * 100) then
    (s.setQueue n { q with high := true }).raise 0x0302 (objPath 0x1101 n) [n, q.words.length]
  else if q.high && decide (q.words.length * 200 < level) then s.setQueue n { q with high := false }
  else s

/-- The producer pushes a word (R704, R707): FULL where no word is free; dropped while its item is poisoned. -/
def State.push (s : State) (n w : Nat) : Bool × State :=
  let q := s.queue n
  if q.poisoned then (true, s.setQueue n { q with wasFull := false })
  else if s.nat Attr.HardwareQueue.sizeWords n ≤ q.words.length then (false, s.setQueue n { q with wasFull := true })
  else (true, (s.setQueue n { q with words := q.words ++ [⟨w % 2 ^ 64, false, false⟩], opened := true, wasFull := false }).queueLevel n)

/-- The words of the open item are committed and the last of them marked LAST. -/
def commitWords : List QWord → List QWord
  | [] => []
  | [w] => if w.committed then [w] else [{ w with committed := true, last := true }]
  | w :: t => { w with committed := true } :: commitWords t

/-- Item-close (R704, R707, R708): commits the open item, or answers FLUSHED for a poisoned one. A close without an open item does nothing. -/
def State.closeItem (s : State) (n : Nat) : State :=
  let q := s.queue n
  if !q.opened then s
  else if q.poisoned then s.setQueue n { q with opened := false, poisoned := false, flushed := true }
  else s.setQueue n { q with opened := false, words := commitWords q.words, mid := q.mid && decide (q.rd < q.words.length) }

/-- An engine pushes one item; the words that find the queue full wait, as the engine pushes them again (R704). -/
def State.pushItem (s : State) (n : Nat) (ws : List Nat) : State :=
  if s.que.backlog.any (fun b => b.1 == n) || decide (s.nat Attr.HardwareQueue.sizeWords n < (s.queue n).words.length + ws.length) then
    { s with que := { s.que with backlog := s.que.backlog ++ [(n, ws)] } }
  else (ws.foldl (fun s w => (s.push n w).2) s).closeItem n

/-- Pushes the items that waited for room in a queue, in their order. -/
def State.pushBacklog (s : State) (n : Nat) : State :=
  let wait := s.que.backlog.filter (fun b => b.1 == n)
  wait.foldl (fun s b => s.pushItem b.1 b.2) { s with que := { s.que with backlog := s.que.backlog.filter (fun b => b.1 != n) } }

/-- The consumer reads a word (R705, R707): the next one, or the last value with ABORTED or UNDERRUN. A word is taken here and passed at `advance`. -/
def State.readWord (s : State) (n : Nat) : State :=
  let q := s.queue n
  if q.taken then s
  else if q.cut then (s.setQueue n { q with cut := false, aborted := true }).queueCount n 2
  else
    match q.next (s.nat Attr.HardwareQueue.ctWords n) with
    | none => (s.setQueue n { q with underrun := true }).queueCount n 1
    | some w => s.setQueue n { q with taken := true, lastValue := w.bits, last := w.last && w.committed, mid := !(w.last && w.committed) }

/-- The read position passes the word taken. -/
def State.advance (s : State) (n : Nat) : State :=
  let q := s.queue n
  if q.taken then s.setQueue n { q with taken := false, rd := q.rd + 1 } else s

/-- The consumer releases every word before its read position (R706). -/
def State.releaseWords (s : State) (n : Nat) : State :=
  let q := s.queue n
  ((s.setQueue n { q with words := q.words.drop q.rd, rd := 0, mark := none }).queueLevel n).pushBacklog n

/-- An engine that consumes a queue takes its oldest committed item whole and releases it. -/
def State.takeItem (s : State) (n : Nat) : Option (List Nat) × State :=
  let q := s.queue n
  match q.words.findIdx? (fun w => w.last && w.committed) with
  | none => (none, s)
  | some k =>
    (some ((q.words.take (k + 1)).map QWord.bits),
     ((s.setQueue n { q with words := q.words.drop (k + 1), rd := q.rd - (k + 1), mark := none }).queueLevel n).pushBacklog n)

/-- Whether the host is the producer of host queue `n` (Table 19-2). -/
def State.hostProduces (s : State) (n : Nat) : Bool := s.nat Attr.HardwareQueue.hostRole n == 1

/-- QH_DATA_LO_READ (R705, R709): a consumer's read; a read of a queue the host produces is ignored and counted foreign (R702). -/
def execQhDataLoRead (n : Nat) (s : State) : Out :=
  if 16 ≤ n then .next s
  else if s.hostProduces n then .next (s.queueCount n 3)
  else
    let s := s.readWord n
    .next (s.setQueue n { s.queue n with readOut := (s.queue n).lastValue % 2 ^ 32 })

/-- QH_DATA_HI_READ (R709). -/
def execQhDataHiRead (n : Nat) (s : State) : Out :=
  if 16 ≤ n then .next s
  else if s.hostProduces n then .next (s.queueCount n 3)
  else
    let s := s.advance n
    .next (s.setQueue n { s.queue n with readOut := (s.queue n).lastValue / 2 ^ 32 })

/-- QH_DATA_LO_WRITE (R709). -/
def execQhDataLoWrite (n v : Nat) (s : State) : Out :=
  if 16 ≤ n then .next s
  else if !s.hostProduces n then .next (s.queueCount n 3)
  else .next (s.setQueue n { s.queue n with staged := v % 2 ^ 32 })

/-- QH_DATA_HI_WRITE (R704, R709). -/
def execQhDataHiWrite (n v : Nat) (s : State) : Out :=
  if 16 ≤ n then .next s
  else if !s.hostProduces n then .next (s.queueCount n 3)
  else .next (s.push n ((s.queue n).staged + v % 2 ^ 32 * 2 ^ 32)).2

/-- The producing host closes its item. -/
def State.hostClose (s : State) (n : Nat) : State := if n < 16 ∧ s.hostProduces n then s.closeItem n else s

/-- The consuming host marks its read position (R706). -/
def State.hostMark (s : State) (n : Nat) : State :=
  if n < 16 ∧ !s.hostProduces n then s.setQueue n { s.queue n with mark := some ((s.queue n).rd, (s.queue n).mid) } else s

/-- The consuming host returns to the mark (R706); ignored without one. -/
def State.hostRewind (s : State) (n : Nat) : State :=
  if n < 16 ∧ !s.hostProduces n then
    match (s.queue n).mark with
    | none => s
    | some m => s.setQueue n { s.queue n with rd := m.1, mid := m.2, taken := false }
  else s

/-- The consuming host releases what it has read (R706). -/
def State.hostRelease (s : State) (n : Nat) : State := if n < 16 ∧ !s.hostProduces n then s.releaseWords n else s

/-- The host flushes a host queue (R707). -/
def State.hostFlush (s : State) (n : Nat) : State := if n < 16 then ((s.flushQueue n 1).2).pushBacklog n else s

/-- CLOSE (R704, R708): the producing host's item-close. -/
def execClose (n : Nat) (s : State) : Out := .next (s.hostClose n)

/-- MARK (R706). -/
def execMark (n : Nat) (s : State) : Out := .next (s.hostMark n)

/-- REWIND (R706). -/
def execRewind (n : Nat) (s : State) : Out := .next (s.hostRewind n)

/-- RELEASE (R706). -/
def execRelease (n : Nat) (s : State) : Out := .next (s.hostRelease n)

/-- FLUSH (R707): of a host queue. -/
def execFlush (n : Nat) (s : State) : Out := .next (s.hostFlush n)

/-- QUEUE_FLUSH (R707): answers the items and words discarded. -/
def doQueueFlush : Body := fun c s =>
  let n := pathInst c.path
  let r := s.flushQueue n 0
  (⟨.ok, leBytes 4 r.1.1 ++ leBytes 4 r.1.2⟩, r.2.pushBacklog n)

def execQueueFlush (s : State) : Out := runOpcode 0x1101 doQueueFlush s

/-! ### The recorder (R711–R724) -/

/-- EVENT notifications of a record (R722, Table 02-11): code, repeat count, sequence. -/
def State.eventNotify (s : State) (r : Record) : State :=
  { s with
    mbx := s.mbx.notifyAll ((s.mbx.subs.filter (fun b => b.trigger == 2 && b.covers r.path)).map (fun b =>
      { session := b.session, sub := b.id, kind := kindEvent, path := r.path, arrival := 0, status := 0,
        data := leBytes 2 r.code ++ leBytes 2 r.count ++ leBytes 4 r.seq })) }

/-- The run of sequences lost from the mirror after one more (R718): a record that leaves the ring before it was mirrored. -/
def Recorder.lose (r : Recorder) (x : Record) : Recorder :=
  if x.seq ≤ r.mirrored then { r with remirror := r.remirror.filter (fun q => q != x.seq) }
  else
    match r.gapRun with
    | none => { r with gapRun := some (x.seq, x.seq) }
    | some g => { r with gapRun := some (g.1, x.seq) }

/-- Stores a new record (R716, R717): ring of 16,384, tail of 256, the loader area at each multiple of 65,536. -/
def Recorder.store (r : Recorder) (x : Record) : Recorder :=
  let r := match r.ring with
    | y :: t => if 16384 ≤ r.ring.length then { r.lose y with ring := t } else r
    | [] => r
  let tail := r.tail ++ [x]
  { r with
    ring := r.ring ++ [x]
    tail := tail.drop (tail.length - 256)
    head := x.seq
    last := some x
    loaderSeq := if x.seq % 65536 = 0 then some x.seq else r.loaderSeq }

/-- Writes a record's repeat count wherever the record is held. -/
def setCount (q n : Nat) (l : List Record) : List Record := l.map (fun x => if x.seq = q then { x with count := n } else x)

/-- Commits one event (R713, R716, R722). Past the last sequence it is dropped and counted. -/
def State.commitEvent (s : State) (e : Event) (safety : Bool) : State :=
  let r := s.recd
  match r.last.filter (fun x => x.code == e.code && x.path == e.path && x.args == e.args && decide (x.count < 65535)) with
  | some x =>
    let x := { x with count := x.count + 1 }
    let s := { s with
      recd := { r with
        ring := setCount x.seq x.count r.ring
        tail := setCount x.seq x.count r.tail
        last := some x
        remirror := if x.seq ≤ r.mirrored ∧ !r.remirror.contains x.seq then r.remirror ++ [x.seq] else r.remirror } }
    if x.count = 16 ∨ x.count = 256 ∨ x.count = 4096 ∨ x.count = 65535 then s.eventNotify x else s
  | none =>
    if 0xFFFFFFFE ≤ r.head then
      { s with
        recd := { r with
          dropCount := r.dropCount + 1
          dropped := min (r.dropped + 1) 0xFFFFFFFF
          dropFirst := if r.dropCount = 0 then e.code else r.dropFirst
          dropLast := e.code } }
    else
      let x : Record := ⟨r.head + 1, e.code, 1, e.path, e.args, safety⟩
      { s with recd := r.store x }.eventNotify x

/-- The path of the recorder's object. -/
def recorderPath : Nat := objPath 0x1110 0

/-- Commits the MIRROR_GAP of the run lost so far (R718). -/
def State.commitGap (s : State) : State :=
  match s.recd.gapRun with
  | none => s
  | some g =>
    let s := { s with recd := { s.recd with gapRun := none, gaps := s.recd.gaps + 1 } }
    s.commitEvent ⟨0x1411, recorderPath, [g.1, g.2]⟩ false

/-- A run of 65,536 sequences ends by itself (R718). -/
def State.capGap (s : State) : State :=
  match s.recd.gapRun with
  | some g => if 65536 ≤ g.2 - g.1 + 1 then s.commitGap else s
  | none => s

/-- EVENT_ARRIVAL (R712, R714, R715): an event reaches its intake. -/
def execEventArrival (safety : Bool) (code path : Nat) (args : List Int) (s : State) : Out :=
  .next (if safety then s.raiseSafe code path args else s.raise code path args)

/-- RECORD_COMMITTED (R712, R713, R715): the safety intake first. A latched safety event takes the entry that frees. -/
def execRecordCommitted (s : State) : Out :=
  match s.recd.safetyIn with
  | e :: t =>
    let r := s.recd
    let r := match r.latched with
      | x :: rest => { r with safetyIn := t ++ [x], latched := rest }
      | [] => { r with safetyIn := t }
    .next (({ s with recd := r }).commitEvent e true).capGap
  | [] =>
    match s.recd.ordinaryIn with
    | e :: t => .next (({ s with recd := { s.recd with ordinaryIn := t } }).commitEvent e false).capGap
    | [] => .next s

/-- OVERFLOW (R714): once an entry of the ordinary intake is free, one record with the count and the first and last code dropped. -/
def execOverflow (s : State) : Out :=
  let r := s.recd
  if 0 < r.dropCount ∧ r.ordinaryIn.length < 64 then
    let args : List Int := [r.dropCount, r.dropFirst, r.dropLast]
    .next (({ s with recd := { r with dropCount := 0, dropFirst := 0, dropLast := 0, overflows := r.overflows + 1 } }).commitEvent
      ⟨0x1410, recorderPath, args⟩ false)
  else .next s

/-- Whether the NAND takes records: STO not fenced, media not READ_ONLY (R718, R520). -/
def State.mirrorTakes (s : State) : Bool := !s.cutOff 15 0 && s.nat Attr.StoreService.mediaState 0 != 3

/-- The mirror takes the records not mirrored yet and those whose repeat count changed; then the MIRROR_GAP of a run lost before (R717, R718). -/
def State.mirrorRecords (s : State) : State :=
  if !s.mirrorTakes then s
  else
    let r := s.recd
    let fresh := r.ring.filter (fun x => decide (r.mirrored < x.seq))
    let again := r.ring.filter (fun x => r.remirror.contains x.seq)
    let m := (again.foldl (fun m x => setCount x.seq x.count m) r.mirror) ++ fresh
    ({ s with recd := { r with mirror := m.drop (m.length - 16777216), mirrored := max r.mirrored r.head, remirror := [] } }).commitGap

/-- RECORDER_MIRROR (R717, R718). -/
def execRecorderMirror (s : State) : Out := .next s.mirrorRecords

/-- The record the window shows: the 32 octets, GONE and AHEAD (R720). -/
def Recorder.window (r : Recorder) : Bytes × Bool × Bool :=
  if r.head < r.cursor then (List.replicate 32 0, false, true)
  else
    match r.ring.find? (fun x => x.seq == r.cursor) with
    | some x => (recordBytes x, false, false)
    | none => (List.replicate 32 0, true, false)

/-- REC_WINDOW_SNAPSHOT (R720): a read of 0x0A20. -/
def execRecWindowSnapshot (s : State) : Out :=
  let w := s.recd.window
  .next { s with recd := { s.recd with snapshot := w.1, gone := w.2.1, ahead := w.2.2, readOut := field w.1 0 4 } }

/-- REC_WINDOW_ADVANCE (R720): a read of 0x0A3C. -/
def execRecWindowAdvance (s : State) : Out :=
  let r := s.recd
  .next { s with recd := { r with readOut := field r.snapshot 28 4, cursor := if r.autoAdvance then (r.cursor + 1) % 2 ^ 32 else r.cursor } }

/-- RECORDER_CLEAR (R723). -/
def doRecorderClear : Body := fun c s =>
  let upper := field c.payload 0 4
  let r := s.recd
  if s.sys.mode ≠ .provision then (⟨.refused, []⟩, s)
  else if r.mirrored < upper then (⟨.badValue, []⟩, s)
  else
    let keep := fun l : List Record => l.filter (fun x => x.safety || decide (upper < x.seq))
    let s := { s with recd := { r with ring := keep r.ring, mirror := keep r.mirror, last := r.last.filter (fun x => x.safety || decide (upper < x.seq)) } }
    (⟨.ok, []⟩, s.commitEvent ⟨0x1412, recorderPath, [upper, c.cred]⟩ false)

def execRecorderClear (s : State) : Out := runOpcode 0x1102 doRecorderClear s

end Sys2Proof.Machine
end

