-- ==== Sys2Proof/Machine/LocatorOps.lean ====
section
/-! DEFINITION. The endpoint locator (07_endpoint_locator.md): entries and buckets, placement, paths, and the bucket lock and table DMA. -/

namespace Sys2Proof.Machine

/-! ### Entries (R258–R260) -/

/-- An entry as the 128 bits of Table 07-1. -/
def encodeEntry (e : LEntry) : Nat :=
  e.key % 2 ^ 64 * 2 ^ 64 + e.handle % 2 ^ 21 * 2 ^ 43 + e.port % 64 * 2 ^ 37 + e.cell % 512 * 2 ^ 28 + e.short % 4096 * 2 ^ 16 + e.age % 256 * 2 ^ 8 + 128 +
    b2n e.isAlias * 64 + b2n e.pinned * 32 + b2n e.guard * 16

/-- A slot as 128 bits: an empty one is 0. -/
def encodeSlot (e : Option LEntry) : Nat := (e.map encodeEntry).getD 0

/-- Reads a slot; the other fields of an invalid slot are ignored. -/
def decodeSlot (n : Nat) : Option LEntry :=
  if bit n 7 then
    some { key := bits n 127 64, handle := bits n 63 43, port := bits n 42 37, cell := bits n 36 28, short := bits n 27 16, age := bits n 15 8,
           isAlias := bit n 6, pinned := bit n 5, guard := bit n 4 }
  else none

/-- The key of an alias entry. -/
def aliasKey (cell short : Nat) : Nat := cell * 65536 + short

/-! ### Hashing (R263) -/

/-- The mixing function of R263. -/
def fmix (x : BitVec 64) : BitVec 64 :=
  let x := x ^^^ (x >>> 33)
  let x := x * 0xFF51AFD7ED558CCD#64
  let x := x ^^^ (x >>> 33)
  let x := x * 0xC4CEB9FE1A85EC53#64
  x ^^^ (x >>> 33)

/-- The two candidate buckets of a key under two seeds (R263). -/
def buckets (seed1 seed2 : Nat) (isAlias : Bool) (key : Nat) : Nat × Nat :=
  let k := BitVec.ofNat 64 key ^^^ (if isAlias then 0x9E3779B97F4A7C15#64 else 0#64)
  let b1 := (fmix (k ^^^ BitVec.ofNat 64 seed1) >>> 44).toNat
  let b2 := (fmix (k ^^^ BitVec.ofNat 64 seed2) >>> 44).toNat
  (b1, if b2 = b1 then b1 ^^^ 1 else b2)

/-- The candidate buckets in the present table. -/
def State.candidates (s : State) (isAlias : Bool) (key : Nat) : Nat × Nat :=
  buckets (s.nat Attr.LocatorTable.hashSeed1 0) (s.nat Attr.LocatorTable.hashSeed2 0) isAlias key

/-! ### The table -/

/-- Four empty slots. -/
def emptyBucket : List (Option LEntry) := [none, none, none, none]

/-- The slots of a bucket. -/
def State.bucket (s : State) (b : Nat) : List (Option LEntry) := (Assoc.find b s.elt.buckets).getD emptyBucket

/-- The place of an entry: a slot of a bucket, or an entry of the overflow store. -/
inductive Place
  | slot (b i : Nat)
  | ovf (i : Nat)
  deriving DecidableEq, Repr

/-- What a place holds. -/
def State.atPlace (s : State) : Place → Option LEntry
  | .slot b i => (s.bucket b).getD i none
  | .ovf i => Assoc.find i s.elt.overflow

/-- Causes of a change record (R289; their numbers are log 13). -/
def chLearn : Nat := 0
def chMove : Nat := 1
def chDisplace : Nat := 2
def chAge : Nat := 3
def chEvict : Nat := 4
def chRelease : Nat := 5
def chDma : Nat := 6

/-- Posts a change record of three words to change_queue (R289). -/
def State.postChange (s : State) (pl : Place) (cause : Nat) : State :=
  let e := encodeSlot (s.atPlace pl)
  let w := match pl with
    | .slot b i => b + i * 2 ^ 32 + cause * 2 ^ 40
    | .ovf i => i + 0xFF * 2 ^ 32 + cause * 2 ^ 40
  s.pushItem (s.nat Attr.LocatorTable.changeQueue 0) [w, e % 2 ^ 64, e / 2 ^ 64]

/-- Writes a place without a change record. -/
def State.putRaw (s : State) (pl : Place) (e : Option LEntry) : State :=
  match pl with
  | .slot b i => { s with elt := { s.elt with buckets := Assoc.set emptyBucket b ((s.bucket b).set i e) s.elt.buckets } }
  | .ovf i =>
    { s with
      elt := { s.elt with
        overflow := match e with
          | some x => Assoc.put i x s.elt.overflow
          | none => Assoc.del i s.elt.overflow } }

/-- OVERFLOW_HIGH when use of the overflow store reaches 14,746 entries (R281, R296). -/
def State.overflowLevel (s : State) : State :=
  let n := s.elt.overflow.length
  let s := s.setNat Attr.LocatorTable.overflowUsed 0 n
  if 14746 ≤ n then
    if s.elt.ovfHigh then s else ({ s with elt := { s.elt with ovfHigh := true } }).raise 0x0807 (objPath 0x0402 0) [n]
  else { s with elt := { s.elt with ovfHigh := false } }

/-- Writes a place: the table, `entries` and `overflow_used`, and the change record. -/
def State.place (s : State) (pl : Place) (e : Option LEntry) (cause : Nat) : State :=
  let n := s.nat Attr.LocatorTable.entries 0 - b2n (s.atPlace pl).isSome + b2n e.isSome
  (((s.putRaw pl e).setNat Attr.LocatorTable.entries 0 n).overflowLevel).postChange pl cause

/-- The place of the entry with a kind and key (R265). -/
def State.findEntry (s : State) (isAlias : Bool) (key : Nat) : Option (Place × LEntry) :=
  let c := s.candidates isAlias key
  let places := ([0, 1, 2, 3].map (Place.slot c.1)) ++ ([0, 1, 2, 3].map (Place.slot c.2)) ++ (s.elt.overflow.map (fun x => Place.ovf x.1))
  places.findSome? (fun pl => ((s.atPlace pl).filter (fun e => e.isAlias == isAlias && e.key == key)).map (fun e => (pl, e)))

/-- Sets the AGE of an entry to 0, which is no change R289 posts. -/
def State.rejuvenate (s : State) (isAlias : Bool) (key : Nat) : State :=
  match s.findEntry isAlias key with
  | none => s
  | some (pl, e) => (s.putRaw pl (some { e with age := 0 })).setNat Attr.EndpointLocator.age e.handle 0

/-- A lookup (R265, R267): a hit sets AGE to 0. A hit on an alias counts for the endpoint's EUI entry, whose AGE alone is aged (log 14). -/
def State.lookup (s : State) (isAlias : Bool) (key : Nat) : Option LEntry × State :=
  match s.findEntry isAlias key with
  | none => (none, s)
  | some (_, e) => (some e, if isAlias then s.rejuvenate false (s.nat Attr.EndpointLocator.eui e.handle) else s.rejuvenate false key)

/-- Whether a bucket is locked by another command than `who` (R284). -/
def State.lockedBy (s : State) (who : Option Nat) (b : Nat) : Bool := s.elt.locks.any (fun l => l.bucket == b && some l.arrival != who)

/-- Whether an endpoint is pinned (R260, R293). -/
def State.pinned (s : State) (h : Nat) : Bool := s.flag Attr.EndpointLocator.pinned h

/-! ### Endpoints and paths -/

/-- The handle of an EUI key: the endpoint whose profile holds it. -/
def State.handleOf (s : State) (key : Nat) : Option Nat := (s.instances 0x0501).find? (fun h => s.nat Attr.EndpointProfile.eui h == key)

/-- A path: port, cell and short address, 0xFFFE for none. -/
structure Route where
  port : Nat
  cell : Nat
  short : Nat
  deriving DecidableEq, Repr

/-- The short address of a path that has none (R293). -/
def noShort : Nat := 0xFFFE

/-- PORT of an endpoint without a path (log 12). -/
def noPort : Nat := 63

/-- The primary path, where there is one. -/
def State.primary (s : State) (h : Nat) : Option Route :=
  let p := s.nat Attr.EndpointLocator.port h
  if p = noPort then none else some ⟨p, s.nat Attr.EndpointLocator.cell h, s.nat Attr.EndpointLocator.short h⟩

/-- The secondary path, where there is one. -/
def State.secondary (s : State) (h : Nat) : Option Route :=
  let p := s.nat Attr.EndpointLocator.secondaryPort h
  if p = noPort then none else some ⟨p, s.nat Attr.EndpointLocator.secondaryCell h, s.nat Attr.EndpointLocator.secondaryShort h⟩

/-- Posts a change of the paths of a locator to the journal (R500): none where they are as they were in `old`. -/
def State.pathChanged (s old : State) (h : Nat) : State := if s.primary h = old.primary h ∧ s.secondary h = old.secondary h then s else s.post (.path h)

/-- Writes the primary path. -/
def State.setPrimary (s : State) (h : Nat) (r : Route) : State :=
  State.pathChanged (((s.setNat Attr.EndpointLocator.port h r.port).setNat Attr.EndpointLocator.cell h r.cell).setNat Attr.EndpointLocator.short h r.short) s h

/-- Writes the secondary path. -/
def State.setSecondaryRaw (s : State) (h : Nat) (r : Route) : State :=
  State.pathChanged (((s.setNat Attr.EndpointLocator.secondaryPort h r.port).setNat Attr.EndpointLocator.secondaryCell h r.cell).setNat
    Attr.EndpointLocator.secondaryShort h r.short) s h

/-- A frame was received on the primary or secondary path: the metric is the mean over the last 16. -/
def State.metric (s : State) (h : Nat) (primary : Bool) (m : Nat) : State :=
  let x := (Assoc.find h s.elt.metrics).getD ([], [])
  let l := (m :: (if primary then x.1 else x.2)).take 16
  let s := { s with elt := { s.elt with metrics := Assoc.put h (if primary then (l, x.2) else (x.1, l)) s.elt.metrics } }
  s.setNat (if primary then Attr.EndpointLocator.primaryMetric else Attr.EndpointLocator.secondaryMetric) h (l.sum / l.length)

/-- Releases a short address and deletes its alias entry (R210, R289). -/
def State.dropAddr (s : State) (c a cause : Nat) : State :=
  let s := s.releaseAddr c a cause
  match s.findEntry true (aliasKey c a) with
  | none => s
  | some (pl, _) => s.place pl none chRelease

/-- Deletes an EUI entry with its aliases, whose addresses are released with a cause (R279, R283); the endpoint has no path then. -/
def State.deleteEui (s : State) (pl : Place) (e : LEntry) (cause change : Nat) : State :=
  let s := s.place pl none change
  let mine := s.lin.addrs.filter (fun a => a.2 == e.handle)
  let s := mine.foldl (fun s a => s.dropAddr (a.1 / 65536) (a.1 % 65536) cause) s
  let s := (s.setPrimary e.handle ⟨noPort, 0, noShort⟩).setSecondaryRaw e.handle ⟨noPort, 0, noShort⟩
  let s := { s with elt := { s.elt with metrics := Assoc.del e.handle s.elt.metrics, guardAt := Assoc.del e.handle s.elt.guardAt } }
  s

/-! ### Placement (R276–R280) -/

/-- The result of an insertion. -/
inductive Insert
  | done | full | waits
  deriving DecidableEq, Repr

/-- The lowest free slot of a bucket. -/
def State.freeSlotOf (s : State) (b : Nat) : Option Nat := [0, 1, 2, 3].find? (fun i => ((s.bucket b).getD i none).isNone)

/-- The lowest unused index of an ascending list. -/
def firstGap {α : Type} : Nat → List (Nat × α) → Nat
  | k, [] => k
  | k, (j, _) :: t => if j = k then firstGap (k + 1) t else k

/-- The other candidate bucket of an entry that lies in bucket `b`. -/
def State.otherBucket (s : State) (b : Nat) (e : LEntry) : Nat :=
  let c := s.candidates e.isAlias e.key
  if c.1 = b then c.2 else c.1

/-- The displacement a bucket offers (R276 step 3): the lowest slot with an unpinned entry whose other candidate bucket has a free slot. -/
def State.displacement (s : State) (b : Nat) : Option (Nat × LEntry × Nat × Nat) :=
  [0, 1, 2, 3].findSome? (fun i =>
    match (s.bucket b).getD i none with
    | none => none
    | some e =>
      if s.pinned e.handle then none
      else
        let o := s.otherBucket b e
        (s.freeSlotOf o).map (fun j => (i, e, o, j)))

/-- The entries of two buckets that may be evicted (R278), b1 first, by slot. -/
def State.evictable (s : State) (b1 b2 : Nat) : List (Place × LEntry) :=
  let of := fun b : Nat => [0, 1, 2, 3].filterMap (fun i =>
    ((s.bucket b).getD i none).bind (fun e =>
      let c := s.candidates e.isAlias e.key
      if e.isAlias || s.pinned e.handle || e.guard || s.elt.locks.any (fun l => l.bucket == c.1 || l.bucket == c.2) then none else some (Place.slot b i, e)))
  of b1 ++ of b2

/-- The entry to evict: the oldest, the first of equals, or one drawn (R278). -/
def State.evictChoice (s : State) (l : List (Place × LEntry)) : Option (Place × LEntry) × State :=
  if s.nat Attr.LocatorTable.eviction 0 = 1 then (l[s.freeNat % max l.length 1]?, s.drawn)
  else (l.foldl (fun best x => match best with
    | none => some x
    | some y => if y.2.age < x.2.age then some x else some y) none, s)

/-- Places a new entry (R276): it waits where another command holds a lock on a bucket it touches (R284). -/
def State.insertEntry (s : State) (e : LEntry) (who : Option Nat) (cause : Nat) : Insert × State :=
  let c := s.candidates e.isAlias e.key
  if s.lockedBy who c.1 ∨ s.lockedBy who c.2 then (.waits, s)
  else
    match s.freeSlotOf c.1, s.freeSlotOf c.2 with
    | some i, _ => (.done, s.place (.slot c.1 i) (some e) cause)
    | none, some i => (.done, s.place (.slot c.2 i) (some e) cause)
    | none, none =>
      let moved := match s.displacement c.1 with
        | some d => some (c.1, d)
        | none => (s.displacement c.2).map (fun d => (c.2, d))
      match moved with
      | some (b, i, old, o, j) =>
        if s.lockedBy who o then (.waits, s)
        else (.done, (s.place (.slot o j) (some old) chDisplace).place (.slot b i) (some e) cause)
      | none =>
        if s.elt.overflow.length < 16384 then (.done, s.place (.ovf (firstGap 0 s.elt.overflow)) (some e) cause)
        else
          let r := s.evictChoice (s.evictable c.1 c.2)
          match r.1 with
          | none => (.full, r.2.raise 0x0804 (objPath 0x0402 0) [e.handle])
          | some (pl, old) =>
            let s := (r.2.deleteEui pl old causeEvicted chEvict).raise 0x0802 (objPath 0x0401 old.handle) [old.handle, old.age]
            (.done, s.place pl (some e) cause)

/-! ### Learning (R270–R274) -/

/-- Changes the EUI entry of an endpoint. -/
def State.editEui (s : State) (key : Nat) (f : LEntry → LEntry) (cause : Nat) : State :=
  match s.findEntry false key with
  | none => s
  | some (pl, e) => s.place pl (some (f e)) cause

/-- Sets a new secondary path; the one it replaces loses its short address with cause SUPERSEDED (R274). -/
def State.setSecondary (s : State) (h : Nat) (r : Route) : State :=
  let s := match s.secondary h with
    | some old => if old.short ≠ noShort ∧ (old.cell, old.short) ≠ (r.cell, r.short) then s.dropAddr old.cell old.short causeSuperseded else s
    | none => s
  let s := { s with elt := { s.elt with metrics := Assoc.modify ([], []) h (fun x => (x.1, [])) s.elt.metrics } }
  s.setSecondaryRaw h r

/-- The alias entry of a path that has a short address (R260). -/
def aliasOf (h : Nat) (r : Route) : LEntry :=
  { key := aliasKey r.cell r.short, handle := h, port := r.port, cell := r.cell, short := r.short, isAlias := true }

/-- Enters the alias entry of a path, if it has a short address and no entry yet. -/
def State.enterAlias (s : State) (h : Nat) (r : Route) : Insert × State :=
  if r.short = noShort ∨ (s.findEntry true (aliasKey r.cell r.short)).isSome then (.done, s) else s.insertEntry (aliasOf h r) none chLearn

/-- Sets the primary path and starts its learn-guard window. -/
def State.startPrimary (s : State) (h key : Nat) (r : Route) (m : Nat) : State :=
  let s := s.setPrimary h r
  let s := { s with
    elt := { s.elt with
      guardAt := Assoc.put h s.tim.d3 s.elt.guardAt
      metrics := Assoc.modify ([], []) h (fun x => ([], x.2)) s.elt.metrics } }
  let s := s.editEui key (fun e => { e with port := r.port, cell := r.cell, short := if r.short = noShort then 0 else r.short, guard := true }) chMove
  s.metric h true m

/-- Commits a sighting of an endpoint on a path (R270–R274): the first sets the primary; in the window another path becomes the secondary without a short
address; after it the better path becomes primary with MOVE, the other the secondary. It waits while a bucket of its pair is locked (R284). -/
def State.commitPath (s : State) (h key : Nat) (r : Route) (m : Nat) : Insert × State :=
  let c := s.candidates false key
  if s.lockedBy none c.1 ∨ s.lockedBy none c.2 then (.waits, s)
  else
  match s.findEntry false key, s.primary h with
  | some (_, e), some old =>
    if old.port = r.port ∧ old.cell = r.cell then
      let a := s.enterAlias h r
      (a.1, if r.short = noShort then a.2.metric h true m else ((a.2.setPrimary h r).editEui key (fun e => { e with short := r.short }) chLearn).metric h true m)
    else if e.guard then (.done, (s.setSecondary h { r with short := noShort }).metric h false m)
    else
      let a := s.enterAlias h r
      if a.1 ≠ .done then a
      else
        let s := a.2
        if s.nat Attr.EndpointLocator.primaryMetric h + s.nat Attr.LocatorTable.hysteresis 0 ≤ m then
          let ms := ((Assoc.find h s.elt.metrics).getD ([], [])).1
          let s := match s.secondary h with
            | some sec => if sec.port = r.port ∧ sec.cell = r.cell then s.setSecondaryRaw h old else s.setSecondary h old
            | none => s.setSecondary h old
          let s := s.startPrimary h key r m
          let s := { s with elt := { s.elt with metrics := Assoc.modify ([], []) h (fun x => (x.1, ms)) s.elt.metrics } }
          let s := s.setNat Attr.EndpointLocator.secondaryMetric h (ms.sum / max ms.length 1)
          (.done, s.raise 0x0801 (objPath 0x0401 h) [h, old.port, old.cell, r.port, r.cell])
        else (.done, (s.setSecondary h r).metric h false m)
  | none, _ =>
    let e : LEntry :=
      { key := key, handle := h, port := r.port, cell := r.cell, short := if r.short = noShort then 0 else r.short, isAlias := false,
        pinned := s.pinned h, guard := true }
    let a := s.insertEntry e none chLearn
    if a.1 ≠ .done then a
    else
      let s := (a.2.setNat Attr.EndpointLocator.eui h key).startPrimary h key r m
      s.enterAlias h r
  | some _, none =>
    let s := s.startPrimary h key r m
    s.enterAlias h r

/-- Queues a sighting (R275). -/
def State.sight (s : State) (x : Sighting) : State :=
  if s.elt.queue.length < 4096 then { s with elt := { s.elt with queue := s.elt.queue ++ [x] } }
  else s.bump 32 Attr.LocatorTable.learnDropped 0

/-- LEARN_GUARD_END (R272): the window of a primary ends. -/
def execLearnGuardEnd (h : Nat) (s : State) : Out :=
  if Assoc.has h s.elt.guardAt then
    let s := { s with elt := { s.elt with guardAt := Assoc.del h s.elt.guardAt } }
    .next (s.editEui (s.nat Attr.EndpointLocator.eui h) (fun e => { e with guard := false }) chLearn)
  else .next s

/-! ### Aging (R281–R283) -/

/-- One EUI entry is visited. -/
def State.ageEntry (s : State) (pl : Place) : State :=
  match s.atPlace pl with
  | none => s
  | some e =>
    if e.isAlias then s
    else
      let e := { e with age := min (e.age + 1) 255 }
      let lim := s.nat Attr.LocatorTable.agingLimit 0
      if lim ≠ 0 ∧ lim ≤ e.age ∧ !s.pinned e.handle then
        (s.deleteEui pl e causeAged chAge).raise 0x0803 (objPath 0x0401 e.handle) [e.handle, e.age]
      else (s.putRaw pl (some e)).setNat Attr.EndpointLocator.age e.handle e.age

/-- Moves overflow entries back into a bucket as far as it has free slots (R281). -/
def State.moveBack (s : State) (b : Nat) : State :=
  s.elt.overflow.foldl
    (fun s x =>
      let c := s.candidates x.2.isAlias x.2.key
      match s.freeSlotOf b with
      | some i => if (c.1 = b ∨ c.2 = b) ∧ (Assoc.has x.1 s.elt.overflow) then (s.place (.slot b i) (some x.2) chMove).place (.ovf x.1) none chMove else s
      | none => s) s

/-- AGING_VISIT (R281–R284): the scanner visits a bucket, or an entry of the overflow store; it skips a locked bucket, and a fenced ELT does nothing. -/
def execAgingVisit (ovf : Bool) (k : Nat) (s : State) : Out :=
  if s.cutOff 8 0 then .next s
  else if ovf then .next (s.ageEntry (.ovf k))
  else if s.lockedBy none k then .next s
  else .next (([0, 1, 2, 3].foldl (fun s i => s.ageEntry (.slot k i)) s).moveBack k)

/-! ### Bucket lock and table DMA (R284–R288) -/

/-- The data octets of a command: its bulk data, or its payload (R44). -/
def Cmd.data (c : Cmd) : Bytes := if bit c.flags flagBulk then c.bulk else c.payload

/-- Writes octets at an offset of a slice. -/
def writeAt (b : Bytes) (off : Nat) (d : Bytes) : Bytes :=
  let b := b ++ List.replicate (off + d.length - b.length) 0
  b.take off ++ d ++ b.drop (off + d.length)

/-- A bucket as 64 octets. -/
def bucketBytes (l : List (Option LEntry)) : Bytes := (l.map (fun e => leBytes 16 (encodeSlot e))).flatten

/-- Whether an entry may be written: Table 07-2. -/
def LEntry.legal (e : LEntry) : Bool := decide (e.port ≤ 47)

/-- Whether new bucket content is consistent (R286): each valid entry hashes to the bucket, exists nowhere else, once in it, and has a legal PORT. -/
def State.bucketLegal (s : State) (b : Nat) (l : List (Option LEntry)) : Bool :=
  let es := l.filterMap id
  es.all (fun e =>
    let c := s.candidates e.isAlias e.key
    e.legal && (c.1 == b || c.2 == b) && decide (es.countP (fun x => x.isAlias == e.isAlias && x.key == e.key) = 1) &&
      (match s.findEntry e.isAlias e.key with
       | some (.slot b' _, _) => b' == b
       | some (.ovf _, _) => false
       | none => true))

/-- What one descriptor did: a status, the slice and the state; none while it waits for another command's lock. -/
abbrev DescOut := Option (Status × Bytes × State)

/-- The timeout of a descriptor in 100 µs: 0 means 10 ms (Table 07-6). -/
def lockTimeoutOf (t : Nat) : Nat := if t = 0 then 100 else t

/-- Whether a descriptor's operation is for OPERATOR sessions only (R288). -/
def dmaOperatorOnly (op : Nat) : Bool := op == 1 || op == 4 || op == 5 || op == 6

/-- Whether a descriptor acts on the bucket in its bucket field. -/
def dmaOnBucket (op : Nat) : Bool := 1 ≤ op && op ≤ 4

/-- After a DMA write of an entry the endpoint's `pinned` and path follow it. -/
def State.adoptEntry (s : State) (e : LEntry) : State :=
  if e.isAlias then s else (s.setFlag Attr.EndpointLocator.pinned e.handle e.pinned).setPrimary e.handle ⟨e.port, e.cell, if e.short = 0 then noShort else e.short⟩

/-- Runs one descriptor of a TABLE_DMA (R286–R288). -/
def State.dmaStep (s : State) (c : Cmd) (d slice : Bytes) : DescOut :=
  let op := octet d 0
  let flags := octet d 1
  let tmo := field d 2 2
  let b := field d 4 4
  let key := field d 8 8
  let off := field d 16 4
  let bad : DescOut := some (.badValue, slice, s)
  if dmaOperatorOnly op ∧ c.role ≠ .operator then some (.denied, slice, s)
  else if dmaOnBucket op ∧ s.elt.expired.contains (b, c.arrival) then some (.timeout, slice, s)
  else if 1000 < tmo then bad
  else
    let mine := s.elt.locks.any (fun l => l.bucket == b && l.arrival == c.arrival)
    match op with
    | 1 =>
      if 1048576 ≤ b then bad
      else if mine then some (.ok, slice, s)
      else if s.lockedBy (some c.arrival) b then none
      else if 64 ≤ s.elt.locks.length then some (.busy, slice, s)
      else if bit flags 1 then some (.ok, slice, { s with elt := { s.elt with locks := s.elt.locks ++ [⟨b, c.arrival, lockTimeoutOf tmo, true⟩] } })
      else some (.ok, slice, s)
    | 2 => some (.ok, slice, { s with elt := { s.elt with locks := s.elt.locks.filter (fun l => !(l.bucket == b && l.arrival == c.arrival)) } })
    | 3 =>
      if 1048576 ≤ b ∨ 1048576 < off + 64 then bad
      else some (.ok, writeAt slice off (bucketBytes (s.bucket b)), s)
    | 4 =>
      if 1048576 ≤ b ∨ 1048576 < off + 64 then bad
      else if !mine then some (.refused, slice, s)
      else
        let l := [0, 1, 2, 3].map (fun i => decodeSlot (field slice (off + 16 * i) 16))
        if !s.bucketLegal b l then bad
        else
          let s := (l.zipIdx).foldl (fun s x => s.place (.slot b x.2) x.1 chDma) s
          some (.ok, slice, (l.filterMap id).foldl State.adoptEntry s)
    | 5 =>
      match decodeSlot (field slice off 16) with
      | none => bad
      | some e =>
        if 1048576 < off + 16 ∨ !e.legal then bad
        else if (s.findEntry e.isAlias e.key).isSome then some (.duplicate, slice, s)
        else
          let r := s.insertEntry e (some c.arrival) chDma
          match r.1 with
          | .waits => none
          | .full => some (.tableFull, slice, r.2)
          | .done => some (.ok, slice, r.2.adoptEntry e)
    | 6 =>
      match s.findEntry (bit flags 0) key with
      | none => some (.notFound, slice, s)
      | some (pl, e) =>
        let s := s.place pl none chDma
        some (.ok, slice, if e.isAlias then s else s.setPrimary e.handle ⟨noPort, 0, noShort⟩)
    | 7 =>
      if 16384 ≤ b ∨ 1048576 < off + 16 then bad
      else some (.ok, writeAt slice off (leBytes 16 (encodeSlot (Assoc.find b s.elt.overflow))), s)
    | _ => bad

/-- Runs up to `k` descriptors of a run, as far as none waits. -/
def State.dmaSteps (s : State) : Nat → DmaRun → DmaRun × State
  | 0, r => (r, s)
  | k + 1, r =>
    match r.descs with
    | [] => (r, s)
    | d :: rest =>
      match s.dmaStep r.cmd d r.slice with
      | none => (r, s)
      | some (st, sl, s') => s'.dmaSteps k { r with descs := rest, done := r.done ++ [st.code], slice := sl }

/-- The end of a TABLE_DMA: its locks are released (R287), the slice is written back, the statuses answered. -/
def State.dmaFinish (s : State) (r : DmaRun) : State :=
  let a := r.cmd.arrival
  let s := { s with
    elt := { s.elt with
      locks := s.elt.locks.filter (fun l => l.arrival != a)
      expired := s.elt.expired.filter (fun x => x.2 != a)
      runs := s.elt.runs.filter (fun x => x.cmd.arrival != a) } }
  let s := match r.cmd.src with
    | .pair n => s.setPair n { s.pair n with bar4 := r.slice }
    | _ => s
  s.finish r.cmd ⟨.ok, pad4 (r.done.map (BitVec.ofNat 8))⟩

/-- Goes on with a run: it ends, or it is kept with what remains. -/
def State.dmaGo (s : State) (r : DmaRun) (k : Nat) : State :=
  let x := s.dmaSteps k r
  if x.1.descs.isEmpty then x.2.dmaFinish x.1
  else { x.2 with elt := { x.2.elt with runs := x.2.elt.runs.filter (fun y => y.cmd.arrival != r.cmd.arrival) ++ [x.1] } }

/-- TABLE_DMA (R285): starts the command at the head of the taken ones, or goes on with the run of a given arrival number; `k` descriptors run before the
next event. -/
def execTableDma (run : Option Nat) (k : Nat) (s : State) : Out :=
  match run with
  | some a =>
    match s.elt.runs.find? (fun r => r.cmd.arrival == a) with
    | some r => .next (s.dmaGo r k)
    | none => .next s
  | none =>
    match s.frontCmd with
    | some c =>
      if c.opcode ≠ 0x0401 then .next s
      else
        let d := c.data
        let n := field d 0 2
        let s := s.pop
        let sl := match c.src with
          | .pair n => (s.pair n).bar4
          | _ => []
        if 32767 < n ∨ d.length < 4 + 32 * n then .next (s.finish c ⟨.badValue, []⟩)
        else .next (s.dmaGo { cmd := c, descs := (List.range n).map (fun i => slice d (4 + 32 * i) 32), done := [], slice := sl } k)
    | none => .next s

/-- LOCK_TIMEOUT (R287): a lock held beyond its timeout is released by hardware. -/
def execLockTimeout (b : Nat) (s : State) : Out :=
  match s.elt.locks.find? (fun l => l.bucket == b) with
  | none => .next s
  | some l =>
    .next (({ s with
      elt := { s.elt with
        locks := s.elt.locks.filter (fun x => x.bucket != b)
        expired := s.elt.expired ++ [(b, l.arrival)]
        lockTimeouts := min (s.elt.lockTimeouts + 1) 0xFFFFFFFF } }).raise 0x0805 (objPath 0x0402 0) [b, l.timeout])

/-- LOCK_WAIT_TIMEOUT (R286): a LOCK that waits for another command's lock answers TIMEOUT, and its command goes on. -/
def execLockWaitTimeout (a : Nat) (s : State) : Out :=
  match s.elt.runs.find? (fun r => r.cmd.arrival == a) with
  | none => .next s
  | some r =>
    match r.descs with
    | d :: rest =>
      if octet d 0 = 1 ∧ s.lockedBy (some a) (field d 4 4) then
        .next (s.dmaGo { r with descs := rest, done := r.done ++ [Status.timeout.code] } 0)
      else .next s
    | [] => .next s

/-! ### Shadow, repair and rebuild (R289–R292) -/

/-- The shadow of a bucket. -/
def State.shadowBucket (s : State) (b : Nat) : List (Option LEntry) := (Assoc.find b s.elt.shadow).getD emptyBucket

/-- CHANGE_RECORD_APPLY (R289): Purel applies the oldest change record to its shadow. -/
def State.applyChange (s : State) : State :=
  let r := s.takeItem (s.nat Attr.LocatorTable.changeQueue 0)
  match r.1 with
  | some [w, lo, hi] =>
    let e := decodeSlot (lo + hi * 2 ^ 64)
    let k := w % 2 ^ 32
    let i := bits w 39 32
    let s := r.2
    if i = 0xFF then
      { s with
        elt := { s.elt with
          shadowOvf := match e with
            | some x => Assoc.put k x s.elt.shadowOvf
            | none => Assoc.del k s.elt.shadowOvf } }
    else { s with elt := { s.elt with shadow := Assoc.set emptyBucket k ((s.shadowBucket k).set i e) s.elt.shadow } }
  | _ => r.2

def execChangeRecordApply (s : State) : Out := .next s.applyChange

/-- First words of the change records among the words of a queue: each record is three words, the last marked. -/
def recordHeads : Bool → List QWord → List Nat
  | _, [] => []
  | true, w :: t => w.bits :: recordHeads w.last t
  | false, w :: t => recordHeads w.last t

/-- Whether change records of a bucket are not yet applied (R290). -/
def State.changesPending (s : State) (b : Nat) : Bool :=
  let q := s.nat Attr.LocatorTable.changeQueue 0
  let heads := recordHeads true (s.queue q).words ++ (s.que.backlog.filter (fun x => x.1 == q)).filterMap (fun x => x.2.head?)
  heads.any (fun w => w % 2 ^ 32 == b && bits w 39 32 != 0xFF)

/-- A bucket without its ages. -/
def ageless (l : List (Option LEntry)) : List (Option LEntry) := l.map (Option.map (fun e => { e with age := 0 }))

/-- Counts a repair and records SHADOW_REPAIR: direction 0 the table from the shadow, 1 the shadow from the table. -/
def State.repaired (s : State) (b dir : Nat) : State :=
  let s := (s.bump 32 Attr.LocatorTable.repairs 0).raise 0x0806 (objPath 0x0402 0) [b, dir]
  { s with elt := { s.elt with repairs := min (s.elt.repairs + 1) 0xFFFFFFFF } }

/-- Writes a bucket of the table from the shadow. -/
def State.fromShadow (s : State) (b : Nat) : State :=
  { s with elt := { s.elt with buckets := Assoc.set emptyBucket b (s.shadowBucket b) s.elt.buckets } }

/-- The comparison of a bucket (R290): `crcOk` is whether the shadow bucket's CRC-32C holds. -/
def State.compareBucket (s : State) (b : Nat) (crcOk : Bool) : State :=
  if s.lockedBy none b ∨ s.changesPending b then s
  else if ageless (s.bucket b) = ageless (s.shadowBucket b) then s
  else if crcOk then (s.fromShadow b).repaired b 0
  else ({ s with elt := { s.elt with shadow := Assoc.set emptyBucket b (s.bucket b) s.elt.shadow } }).repaired b 1

/-- Starts a rebuild (R292): new seeds are drawn, distinct (R264). -/
def State.startRebuild (s : State) : State :=
  let a := leNat (s.trng 8)
  let b := leNat (s.drawn.trng 8)
  { s.drawn.drawn with elt := { s.elt with rebuild := some (a, if b = a then (b + 1) % 2 ^ 64 else b) } }

/-- TABLE_REBUILD (R292): `room` is whether 64 MiB of variable DRAM is free. -/
def doTableRebuild (room : Bool) : Body := fun c s =>
  if !room then (⟨.tableFull, []⟩, s)
  else
    let d := s.requestCmd c 3 0
    (⟨decisionStatus d.1 .accepted, []⟩, if d.1 = .admitted then d.2.startRebuild else d.2)

def execTableRebuild (room : Bool) (s : State) : Out := runOpcode 0x0402 (doTableRebuild room) s

/-- Applies every change record that waits. -/
def State.applyAll : Nat → State → State
  | 0, s => s
  | n + 1, s => s.applyChange.applyAll n

/-- TABLE_REBUILD_DONE (R292): the table built from the shadow, with the changes made meanwhile, under the new seeds; lookups switch to it at once. -/
def execTableRebuildDone (s : State) : Out :=
  match s.elt.rebuild with
  | none => .next s
  | some (a, b) =>
    let s := State.applyAll ((s.queue (s.nat Attr.LocatorTable.changeQueue 0)).words.length) s
    let es := (s.elt.shadow.flatMap (fun x => x.2.filterMap id)) ++ s.elt.shadowOvf.map Prod.snd
    let s := (s.setNat Attr.LocatorTable.hashSeed1 0 a).setNat Attr.LocatorTable.hashSeed2 0 b
    let held := s.elt.locks
    let s := { s with elt := { s.elt with buckets := [], overflow := [], rebuild := none, locks := [] } }
    let s := s.setNat Attr.LocatorTable.entries 0 0
    let q := s.que
    let s := es.foldl (fun s e => (s.insertEntry e none chMove).2) s
    .next { s with que := q, elt := { s.elt with locks := held, shadow := s.elt.buckets, shadowOvf := s.elt.overflow } }

end Sys2Proof.Machine
end

