-- ==== Sys2Proof/Machine/Tariff.lean ====
section
/-! DEFINITION. Tariff calendars (09_billing_tariffs.md R341–R349): the civil date of a day, offsets, day profiles, rates and demand blocks. Intervals and instants are counted
in quarters of an hour since the service epoch, 1 January 2000 00:00 UTC. -/

namespace Sys2Proof.Machine

/-- Civil date (year, month, day) of a day number since 1 January 2000. -/
def civil (d : Nat) : Nat × Nat × Nat :=
  let z := d + 730425
  let era := z / 146097
  let doe := z % 146097
  let yoe := (doe - doe / 1460 + doe / 36524 - doe / 146096) / 365
  let doy := doe - (365 * yoe + yoe / 4 - yoe / 100)
  let mp := (5 * doy + 2) / 153
  let day := doy - (153 * mp + 2) / 5 + 1
  let month := if mp < 10 then mp + 3 else mp - 9
  (yoe + era * 400 + (if month ≤ 2 then 1 else 0), month, day)

/-- Day number of a civil date. -/
def dayNumber (y m d : Nat) : Nat :=
  let y := if m ≤ 2 then y - 1 else y
  let yoe := y % 400
  let doy := (153 * (if 2 < m then m - 3 else m + 9) + 2) / 5 + d - 1
  y / 400 * 146097 + (yoe * 365 + yoe / 4 - yoe / 100 + doy) - 730425

/-- Weekday of a day number, Monday 0; 1 January 2000 was a Saturday. -/
def weekday (d : Nat) : Nat := (d + 5) % 7

/-- The calendar slot of a number. -/
def State.calSlot (s : State) (n : Nat) : CalSlot := (Assoc.find n s.bil.cals).getD {}
/-- Writes a calendar slot. -/
def State.setCalSlot (s : State) (n : Nat) (x : CalSlot) : State := { s with bil := { s.bil with cals := Assoc.put n x s.bil.cals } }

/-- Offset in minutes at a UTC interval (R346). -/
def Calendar.offsetAt (c : Calendar) (u : Nat) : Int :=
  (c.transitions.filter (fun t => decide (t.1 ≤ u))).getLast?.map Prod.snd |>.getD c.base

/-- Local time of a UTC interval, in quarters of an hour. -/
def Calendar.localOf (c : Calendar) (u : Nat) : Nat := ((u : Int) + c.offsetAt u / 15).toNat

/-- Every offset the calendar uses. -/
def Calendar.offsets (c : Calendar) : List Int := c.base :: c.transitions.map Prod.snd

/-- The least element of a list. -/
def least (l : List Nat) : Option Nat := l.foldl (fun m x => match m with
  | none => some x
  | some y => some (min x y)) none

/-- The UTC instant of a local time (R347): the earliest, or the end of the skipped span. -/
def Calendar.instant (c : Calendar) (t : Nat) : Nat :=
  let hits := (c.offsets.map (fun o => ((t : Int) - o / 15).toNat)).filter (fun u => c.localOf u == t)
  match least hits with
  | some u => u
  | none =>
    let skip := c.transitions.find? (fun x => decide ((x.1 : Int) + c.offsetAt (x.1 - 1) / 15 ≤ t) && decide ((t : Int) < x.1 + x.2 / 15))
    (skip.map Prod.fst).getD ((t : Int) - c.base / 15).toNat

/-- Number of the day profile of a local date (R345). -/
def Calendar.dayProfile (c : Calendar) (d : Nat) : Nat :=
  let x := civil d
  match c.specials.find? (fun q => q.1 == x.1 && q.2.1 == x.2.1 && q.2.2.1 == x.2.2) with
  | some q => q.2.2.2
  | none =>
    match c.specials.find? (fun q => q.1 == 0 && q.2.1 == x.2.1 && q.2.2.1 == x.2.2) with
    | some q => q.2.2.2
    | none =>
      let past := c.seasons.filter (fun q => decide (q.1 < x.2.1 ∨ (q.1 = x.2.1 ∧ q.2.1 ≤ x.2.2)))
      let season := (past.getLast?.or c.seasons.getLast?).getD (1, 1, 0)
      (c.weeks.getD season.2.2 []).getD (weekday d) 0

/-- Switch instants of a local date with their rates (R347, R348). -/
def Calendar.switches (c : Calendar) (d : Nat) : List (Nat × Nat) :=
  (c.days.getD (c.dayProfile d) []).map (fun p => (c.instant (d * 96 + p.1 / 15), p.2))

/-- The rate of an interval (R348): that of the last switch instant at or before its start, from its local date and the day before. -/
def Calendar.rate (c : Calendar) (i : Nat) : Nat :=
  let d := c.localOf i / 96
  let past := (c.switches (d - 1) ++ c.switches d).filter (fun x => decide (x.1 ≤ i))
  ((past.foldl (fun best x => match best with
    | none => some x
    | some y => if y.1 ≤ x.1 then some x else some y) none).map Prod.snd).getD 1

/-- Whether a demand block starts at an interval (R349). -/
def Calendar.blockStart (c : Calendar) (i : Nat) : Bool := c.localOf i % 96 * 15 % c.block == 0

/-- Intervals of a demand block. -/
def Calendar.blockLen (c : Calendar) : Nat := c.block / 15

/-- First interval of the block that holds an interval: blocks are cut only at block starts (R349). -/
def Calendar.blockOf (c : Calendar) (i : Nat) : Nat :=
  ((List.range 4).find? (fun k => c.blockStart (i - k))).map (fun k => i - k) |>.getD i

/-- Whether the period kind ends a period at an interval (Table 09-5): the UTC instant of local 00:00, of the period day for MONTHLY. -/
def Calendar.periodEnds (c : Calendar) (i : Nat) : Bool :=
  let d := c.localOf i / 96
  match c.period with
  | 1 => c.instant (d * 96) == i
  | 2 => (civil d).2.2 == c.periodDay && c.instant (d * 96) == i
  | _ => false

/-- The generation in force at an interval (R352, R353): the newest that starts at or before it, or the oldest held, with whether the interval precedes it. -/
def CalSlot.genAt (x : CalSlot) (i : Nat) : Option (CalGen × Bool) :=
  match x.gens.find? (fun g => decide (g.start ≤ i)) with
  | some g => some (g, false)
  | none => x.gens.getLast?.map (fun g => (g, true))

/-- The calendar an endpoint names (09_billing_tariffs.md), at an interval. -/
def State.calendarOf (s : State) (h i : Nat) : Option (CalGen × Bool) := (s.calSlot (s.nat Attr.EndpointProfile.calendar h)).genAt i

/-- Offset in minutes of an endpoint's time-zone rule at a local time in s (R310). -/
def State.zoneOffset (s : State) (h t : Nat) : Int :=
  match s.calendarOf h (t / 900) with
  | none => 0
  | some (g, _) => g.image.offsetAt (g.image.instant (t / 900))

end Sys2Proof.Machine
end

