-- ==== Sys2Proof/Machine/CollectOps.lean ====
section
/-! DEFINITION. Collection and validation, shared operations (08_collection_validation.md): downlink frames and requests, the counter window, authentication, the checks of
Table 08-10, the commit path and versions. -/

namespace Sys2Proof.Machine

/-! ### Quality bits (Table 08-9) -/

def qMissing : BitVec 7 := 1
def qEstimated : BitVec 7 := 2
def qEdited : BitVec 7 := 4
def qSuspect : BitVec 7 := 8
def qClock : BitVec 7 := 16
def qOutage : BitVec 7 := 32
def qRetro : BitVec 7 := 64

/-- Whether a quality has a bit. -/
def IRec.has (r : IRec) (b : BitVec 7) : Bool := r.quality &&& b != 0

/-- An absent value (R325). -/
def absentVal : Nat := 0xFFFFFF
/-- The greatest energy value (R325). -/
def topVal : Nat := 0xFFFFFE

/-! ### Records (R324, R335) -/

/-- Key of an interval of a handle. -/
def recKey (h i : Nat) : Nat := h * 2 ^ 32 + i

/-- Versions of an interval, oldest first. -/
def State.versions (s : State) (h i : Nat) : List IRec := (Assoc.find (recKey h i) s.sto.records).getD []

/-- The current version: the highest (R335). -/
def State.current (s : State) (h i : Nat) : Option IRec := (s.versions h i).getLast?

/-- A record of the interval that is not MISSING. -/
def State.held (s : State) (h i : Nat) : Option IRec := (s.current h i).filter (fun r => !r.has qMissing)

/-- A record that is neither MISSING nor ESTIMATED. -/
def State.actual (s : State) (h i : Nat) : Option IRec := (s.held h i).filter (fun r => !r.has qEstimated)

/-- A value of a record; none where it is absent. -/
def IRec.val (r : IRec) (k : Nat) : Option Nat :=
  let v := r.vals.getD k absentVal
  if v = absentVal then none else some v

/-- The last interval that has ended (08_collection_validation.md). -/
def State.lastEnded (s : State) : Nat := s.serviceSec / 900 - 1

/-- The endpoint's record in DRAM. -/
def State.ep (s : State) (h : Nat) : Endpoint := (Assoc.find h s.col.eps).getD {}
/-- Writes it. -/
def State.setEp (s : State) (h : Nat) (e : Endpoint) : State := { s with col := { s.col with eps := Assoc.put h e s.col.eps } }

/-! ### Frames to an endpoint -/

/-- The port of the radio a cell is on, at run time. -/
def State.rport (s : State) (p : Nat) : RPort := (Assoc.find p s.rad.ports).getD {}
/-- Writes a radio port. -/
def State.setRport (s : State) (p : Nat) (x : RPort) : State := { s with rad := { s.rad with ports := Assoc.put p x s.rad.ports } }

/-- Puts a frame into a radio port's transmit queue. -/
def State.radioEnqueue (s : State) (p q : Nat) (x : RadioTx) : State :=
  let r := s.rport p
  s.setRport p { r with queues := r.queues.set q ((r.queues.getD q []) ++ [x]) }

/-- The link of an endpoint's frames: through the relay node for a remote cell (R176). -/
def State.linkTo (s : State) (r : Route) (h : Nat) : Nat := if s.isRemote r.cell then relayLink r.port r.cell else endpointLink r.port h

/-- Hands a unit to the MAC of the endpoint's primary path (Table 05-6, Table 06-5): nothing is sent without a path, or while GLV is fenced (Table 01-2). -/
def State.sendTo (s : State) (h queue : Nat) (body : Bytes) (pr : Producer) : State :=
  match s.primary h with
  | none => s
  | some r =>
    if s.gloveShut then s
    else if r.port < 16 then
      (s.enqueue r.port queue
        { kind := if s.isRemote r.cell then 5 else 1, cell := r.cell, dst16 := r.short, body := body, link := s.linkTo r h, producer := pr }).2
    else if r.port < 32 then s.radioEnqueue (r.port - 16) queue { cell := r.cell, dst16 := r.short, body := body, producer := pr }
    else { s with col := { s.col with serialOut := s.col.serialOut ++ [(r.port - 32, body)] } }

/-- Uses an endpoint's key pair: it becomes the latest used of the cache, which holds 3,072 of them (R543). -/
def State.useKey (s : State) (h g : Nat) : State :=
  { s with glv := { s.glv with cache := ((h * 16 + g) :: s.glv.cache.filter (fun k => k != h * 16 + g)).take 3072 } }

/-- Protects an APDU under the endpoint's current keys with the next outbound counter and hands it to the MAC (R318, R541). -/
def State.sendApdu (s : State) (h queue : Nat) (apdu : Bytes) (pr : Producer) : State :=
  if s.gloveShut ∨ s.nat Attr.EndpointKey.keyState h = 2 then s
  else
    let e := s.ep h
    let s := (s.setEp h { e with outCounter := e.outCounter + 1 }).useKey h (s.nat Attr.EndpointKey.generation h)
    (s.post (.counter h)).sendTo h queue (Config.protect h (s.nat Attr.EndpointKey.generation h) (e.outCounter + 1) apdu) pr

/-- The application acknowledgement of a frame, in queue 3 (R318, R321). -/
def State.sendAck (s : State) (h c : Nat) : State := s.sendApdu h 3 (Config.ackApdu h c) (.ack h c)

/-! ### Completion of commands -/

/-- COMPLETE for a command that answered ACCEPTED or DEFERRED, with data (R746, Table 02-11). -/
def State.completeCmd (s : State) (arr : Nat) (st : Status) (data : Bytes) : State :=
  match s.mbx.awaiting.find? (fun x => x.arrival == arr) with
  | none => s
  | some x =>
    let s := { s with mbx := { s.mbx with awaiting := s.mbx.awaiting.filter (fun y => y.arrival != arr) } }
    if s.mbx.sessions.any (fun y => y.handle == x.session) then
      { s with
        mbx := s.mbx.notify { session := x.session, sub := 0, kind := kindComplete, path := x.path, arrival := arr, status := st.code, data := data } }
    else s

/-! ### Requests (R304, R305, R307, R311, R312) -/

/-- The cell a request of an endpoint counts in: its cell, or its serial port. -/
def State.requestCell (s : State) (h : Nat) : Option Nat :=
  (s.primary h).map (fun r => if 32 ≤ r.port then 65536 + (r.port - 32) else r.cell)

/-- Whether a cell is a wireless M-Bus PAN, where a request waits for its meter's access (R305). -/
def State.isWmbus (s : State) (c : Nat) : Bool := s.isPan c && s.nat Attr.RadioPort.standard (s.nat Attr.RadioPan.port c) == 2

/-- Requests a cell may have outstanding (Table 08-2). -/
def State.concurrency (s : State) (c : Nat) : Nat := if 65536 ≤ c then 1 else s.nat Attr.CellCollection.concurrency c

/-- Attempts of a request (Table 08-2). -/
def State.requestRetries (s : State) (c : Nat) : Nat := if 65536 ≤ c then 3 else s.nat Attr.CellCollection.requestRetries c

/-- Sends the frame of a request. -/
def State.sendRequest (s : State) (r : Request) : State := s.sendApdu r.handle r.queue r.apdu (.col r.handle r.serial)

/-- The next request of a cell to send: the highest queue, then the earliest (R304). -/
def nextRequest (c : Nat) (rs : List Request) : Option Request :=
  rs.foldl (fun best r =>
    if r.cell ≠ c ∨ r.outstanding ∨ r.retryAt.isSome then best
    else
      match best with
      | none => some r
      | some b => if b.queue < r.queue ∨ (b.queue = r.queue ∧ r.order < b.order) then some r else some b) none

/-- Replaces a request by its order number. -/
def State.setRequest (s : State) (r : Request) : State :=
  { s with col := { s.col with requests := s.col.requests.map (fun x => if x.order = r.order then r else x) } }

/-- Removes a request. -/
def State.dropRequest (s : State) (r : Request) : State :=
  { s with col := { s.col with requests := s.col.requests.filter (fun x => x.order != r.order) } }

/-- Sends waiting requests of a cell as far as its concurrency allows (R304); none while COL is fenced (Table 01-2). -/
def State.pump (s : State) (c : Nat) : Nat → State
  | 0 => s
  | n + 1 =>
    if s.cutOff 9 0 ∨ s.isWmbus c ∨ s.concurrency c ≤ s.col.requests.countP (fun r => r.cell == c && r.outstanding) then s
    else
      match nextRequest c s.col.requests with
      | none => s
      | some r => ((s.setRequest { r with outstanding := true, attempts := r.attempts + 1 }).sendRequest r).pump c n

/-- Sends what may be sent in a cell: at most 64 requests are outstanding in one (Table 08-2). -/
def State.pumpCell (s : State) (c : Nat) : State := s.pump c 64

/-- Queues a request to an endpoint: without a path it waits for one (R304). -/
def State.request (s : State) (h queue opcode serial : Nat) (poll : Option (Nat × Nat)) (apdu : Bytes) (cmd : Option Nat) : State :=
  let c := (s.requestCell h).getD 0
  let r : Request := { handle := h, cell := c, queue := queue, order := s.col.nextOrder, serial := serial, opcode := opcode, poll := poll, apdu := apdu, cmd := cmd }
  ({ s with col := { s.col with requests := s.col.requests ++ [r], nextOrder := s.col.nextOrder + 1 } }).pumpCell c

/-- Queues a poll of a range (R307). -/
def State.poll (s : State) (h first count : Nat) (cmd : Option Nat) : State :=
  if count = 0 then s else s.request h 2 0x0501 0 (some (first, min count 672)) (Config.pollApdu h first (min count 672)) cmd

/-- The next command serial of an endpoint (R311). -/
def State.nextSerial (s : State) (h : Nat) : Nat × State :=
  let n := (s.nat Attr.EndpointProfile.commandSerial h + 1) % 2 ^ 32
  (n, s.setNat Attr.EndpointProfile.commandSerial h n)

/-- A request ends: it leaves, its command completes, the next one goes (R304, R305). -/
def State.endRequest (s : State) (r : Request) (st : Status) (data : Bytes) : State :=
  let s := s.dropRequest r
  let s := match r.cmd with
    | some a => s.completeCmd a st data
    | none => s
  s.pumpCell r.cell

/-- An endpoint's slot after its due time, in s (R298). -/
def State.slotDelay (s : State) (h : Nat) : Nat :=
  h * 0x9E3779B1 % 2 ^ 32 * s.nat Attr.CollectionSchedule.spreadS (s.nat Attr.EndpointProfile.schedule h) / 2 ^ 32

/-- The slot of an endpoint that follows a service second: due times are whole multiples of `period_min`, plus `offset_s` (R298). -/
def State.slotAfter (s : State) (h now : Nat) : Nat :=
  let k := s.nat Attr.EndpointProfile.schedule h
  let period := 60 * s.nat Attr.CollectionSchedule.periodMin k
  let shift := (s.nat Attr.CollectionSchedule.offsetS k + s.slotDelay h) % max period 1
  now + (period - (now + period - shift) % max period 1)

/-- A request's frame reached BUDGET_EXHAUSTED: it waits for the endpoint's next slot (R303). -/
def State.budgetExhausted (s : State) (h serial : Nat) : State :=
  { s with col := { s.col with requests := s.col.requests.map (fun (r : Request) =>
      if r.handle = h ∧ r.serial = serial then { r with outstanding := false, retryAt := some (s.slotAfter h s.serviceSec) } else r) } }

/-- The slot of an endpoint has come: its requests that wait for it go on (R303). -/
def State.slotRetries (s : State) (h : Nat) : State :=
  let cells := (s.col.requests.filter (fun (r : Request) => r.handle == h && r.retryAt.isSome)).map Request.cell
  let s := { s with col := { s.col with requests := s.col.requests.map (fun (r : Request) => if r.handle = h then { r with retryAt := none } else r) } }
  cells.eraseDups.foldl State.pumpCell s

/-! ### The counter window (R314–R316) -/

/-- The outcome of Table 08-6. -/
inductive CounterPos
  | fresh | duplicate | pending | stale
  deriving DecidableEq, Repr

/-- Table 08-6: a counter whose commit is pending is a pending repeat. -/
def State.counterPos (s : State) (h c : Nat) : CounterPos :=
  let e := s.ep h
  if e.pendingCounters.contains c then .pending
  else if !e.heard then .fresh
  else
    let d := (c + 2 ^ 32 - s.nat Attr.EndpointProfile.lastCounter h) % 2 ^ 32
    if 0 < d ∧ d < 2 ^ 31 then .fresh
    else
      let back := (2 ^ 32 - d) % 2 ^ 32
      if 64 ≤ back then .stale else if e.bitmap.getLsbD back then .duplicate else .fresh

/-- The mark of a committed frame (R315): L and the bitmap. -/
def State.markCounter (s : State) (h c : Nat) : State :=
  let e := s.ep h
  let e := { e with pendingCounters := e.pendingCounters.filter (fun x => x != c) }
  let l := s.nat Attr.EndpointProfile.lastCounter h
  let d := (c + 2 ^ 32 - l) % 2 ^ 32
  if !e.heard then (s.setEp h { e with heard := true, bitmap := 1 }).setNat Attr.EndpointProfile.lastCounter h c
  else if 0 < d ∧ d < 2 ^ 31 then
    (s.setEp h { e with bitmap := (if 64 ≤ d then 0 else e.bitmap <<< d) ||| 1 }).setNat Attr.EndpointProfile.lastCounter h c
  else s.setEp h { e with bitmap := e.bitmap ||| (1 <<< ((2 ^ 32 - d) % 2 ^ 32)) }

/-! ### Authentication (R539, R541) -/

/-- The generation a payload was authenticated under. -/
inductive AuthGen
  | pending | current | previous
  deriving DecidableEq, Repr

/-- Which of an endpoint's generations a payload's tag is right under (R541): the previous one within its grace, and with a rising counter. -/
def State.authGen (s : State) (h : Nat) (x : Secured) : Option AuthGen :=
  match x.gen with
  | none => none
  | some g =>
    if g = 0xFF then none
    else if g = s.nat Attr.EndpointKey.pendingGeneration h then some .pending
    else if g = s.nat Attr.EndpointKey.generation h then some .current
    else if g = s.nat Attr.EndpointKey.previousGeneration h ∧
        (Assoc.find h s.glv.prevSince).any (fun t => s.tim.d3 ≤ t + sec (s.nat Attr.GloveboxService.keyGraceS 0)) ∧
        (Assoc.find h s.glv.prevLast).all (fun l => l < x.counter) then some .previous
    else none

/-- UNWRAP_FAIL (R539). -/
def State.unwrapFail (s : State) (h : Nat) : State :=
  (s.setNat Attr.EndpointKey.keyState h 2).raise 0x1007 (objPath 0x0C30 h) [h, s.nat Attr.EndpointKey.generation h]

/-- The pending generation becomes current (R541). -/
def State.adoptGen (s : State) (h g : Nat) : State :=
  let old := s.nat Attr.EndpointKey.generation h
  let l := s.nat Attr.EndpointProfile.lastCounter h
  let s := ((s.setNat Attr.EndpointKey.previousGeneration h old).setNat Attr.EndpointKey.generation h g).setNat Attr.EndpointKey.pendingGeneration h 0xFF
  { s with glv := { s.glv with prevLast := Assoc.put h l s.glv.prevLast, prevSince := Assoc.put h s.tim.d3 s.glv.prevSince } }

/-! ### Validation (Table 08-10) -/

/-- The rule set of an endpoint: that of its schedule (Table 08-1). -/
def State.ruleSet (s : State) (h : Nat) : Nat := s.nat Attr.CollectionSchedule.ruleSet (s.nat Attr.EndpointProfile.schedule h)

/-- A value in thousandths of Wh: value × 10^(scale + 3). -/
def State.milli (s : State) (h v : Nat) : Nat := v * 10 ^ (s.int Attr.EndpointProfile.scale h + 3).toNat

/-- The register of a channel at an interval's end (R309). -/
def Endpoint.register (e : Endpoint) (k i : Nat) : Option Nat := (e.registers.find? (fun r => r.1 == k && r.2.1 == i)).map (fun r => r.2.2)

/-- The channel's register modulus. -/
def State.modulus (s : State) (h k : Nat) : Nat := s.nat Attr.EndpointChannel.registerModulus (h * 8 + k)

/-- Ascending insertion. -/
def insertNat (x : Nat) : List Nat → List Nat
  | [] => [x]
  | y :: t => if x ≤ y then x :: y :: t else y :: insertNat x t

/-- Twice the median of a list: the mean of the two middle values where their number is even. -/
def median2 (l : List Nat) : Nat :=
  let a := l.foldl (fun a x => insertNat x a) []
  a.getD ((a.length - 1) / 2) 0 + a.getD (a.length / 2) 0

/-- A+ of the same interval of day on each of the last `n` days, where held. -/
def State.sameTime (s : State) (h i n : Nat) : List Nat :=
  (List.range n).filterMap (fun k => if i < 96 * (k + 1) then none else (s.held h (i - 96 * (k + 1))).bind (fun r => r.val 0))

/-- Whether a voltage is within tolerance of nominal. -/
def State.voltOk (s : State) (h u : Nat) : Bool :=
  let n := s.nat Attr.EndpointProfile.nominalV h
  let t := n * s.nat Attr.ValidationRules.voltTolPct (s.ruleSet h)
  decide (n * 100 ≤ u * 100 + t) && decide (u * 100 ≤ n * 100 + t)

/-- Whether a record has zero A+ with U1 within tolerance. -/
def State.zeroAt (s : State) (h : Nat) (vals : List Nat) : Bool :=
  vals.getD 0 absentVal == 0 && vals.getD 4 absentVal != absentVal && s.voltOk h (vals.getD 4 absentVal)

/-- Checks 6 to 9 of Table 08-10 on values: SUSPECT where one fails (R327, R328). -/
def State.valueChecks (s : State) (h i : Nat) (vals : List Nat) : BitVec 7 :=
  let ru := s.ruleSet h
  let rated := s.nat Attr.EndpointProfile.ratedW h
  let skip := rated == 0 || s.nat Attr.EndpointProfile.nominalV h == 0
  let v := fun k : Nat => let x := vals.getD k absentVal
    if x = absentVal then none else some x
  let range := !skip && [0, 1].any (fun k => (v k).any (fun x => decide (rated * s.nat Attr.ValidationRules.rangeFactor ru * 1000 < s.milli h x * 400)))
  let hist := s.sameTime h i 14
  let spike := decide (7 ≤ hist.length) &&
    (v 0).any (fun x => decide (s.nat Attr.ValidationRules.spikeFactor ru * median2 hist < 2 * x) &&
      decide (s.nat Attr.ValidationRules.spikeFloorWh ru * 1000 < s.milli h x))
  let n := s.nat Attr.ValidationRules.zeroRun ru
  let run := !skip && s.zeroAt h vals && (List.range (n - 1)).all (fun k => (s.current h (i - 1 - k)).any (fun r => s.zeroAt h r.vals))
  let volt := !skip && [4, 5, 6].any (fun k => (v k).any (fun x => !s.voltOk h x))
  if range || spike || run || volt then qSuspect else 0

/-- What VAL makes of one captured entry (R309, R310, R325, R327): the record, none where it is too old; the registers to keep; the earlier records of a bracket
that fails SUM. -/
structure Checked where
  record : Option NewRec
  registers : List (Nat × Nat × Nat)
  bracket : List Nat
  deriving DecidableEq, Repr

/-- The interval and boundary distance of a captured entry (R310, check 3). -/
def State.captureOf (s : State) (h : Nat) (r : Reading) : Nat × Nat :=
  let off : Int := match r.deviation with
    | some d => d
    | none => - s.zoneOffset h r.capture
  let utc := ((r.capture : Int) + off * 60).toNat
  let b := (utc + 450) / 900
  (b - 1, if b * 900 ≤ utc then utc - b * 900 else b * 900 - utc)

/-- One channel of a reading: its value, whether it rolled back, the register, and whether its bracket fails SUM. A register below the previous one is a wrap when the
advance modulo `register_modulus` is less than half of it (log 17). -/
def State.channel (s : State) (h i k : Nat) (r : Reading) : Nat × Bool × Option Nat × Bool × Bool :=
  let plain := (r.vals.find? (fun x => x.1 == k && !x.2.1)).map (fun x => x.2.2)
  let reg := (r.vals.find? (fun x => x.1 == k && x.2.1)).map (fun x => x.2.2)
  let m := s.modulus h k
  let e := s.ep h
  match reg with
  | none => ((plain.map (fun v => if k < 4 then min v topVal else v)).getD absentVal, false, none, false, decide (k < 4) && plain.any (fun v => decide (topVal < v)))
  | some g =>
    let prev := e.register k (i - 1)
    let adv := prev.map (fun p => (g + m - p % max m 1) % max m 1)
    let back := prev.any (fun p => decide (g < p) && decide (m ≤ 2 * ((g + m - p) % max m 1)))
    let v := if back then none else plain.or adv
    let sum := plain.any (fun x => adv.any (fun a => !back &&
      decide (s.nat Attr.ValidationRules.sumTol (s.ruleSet h) < (if a ≤ x then x - a else a - x))))
    ((v.map (fun x => min x topVal)).getD absentVal, back, some g, sum, v.any (fun x => decide (topVal < x)))

/-- The bracket that a register closes over earlier intervals (check 10): the intervals since the last register held before `i`, when every value is present and their
sum differs from the advance by more than `sum_tol`. -/
def State.brokenBracket (s : State) (h i k g v : Nat) : List Nat :=
  match ((List.range 672).map (fun j => i - 1 - j)).find? (fun j => ((s.ep h).register k j).isSome) with
  | none => []
  | some j =>
    let m := s.modulus h k
    let adv := (g + m - ((s.ep h).register k j).getD 0 % max m 1) % max m 1
    let mid := (List.range (i - 1 - j)).map (fun n => j + 1 + n)
    let vs := mid.map (fun n => (s.held h n).bind (fun r => r.val k))
    if v = absentVal ∨ mid.isEmpty ∨ vs.any Option.isNone then []
    else
      let total := v + (vs.map (fun x => x.getD 0)).sum
      if s.nat Attr.ValidationRules.sumTol (s.ruleSet h) < (if adv ≤ total then total - adv else adv - total) then mid else []

/-- Runs the checks of Table 08-10 on one entry, in order. -/
def State.check (s : State) (h : Nat) (r : Reading) : Checked :=
  let ru := s.ruleSet h
  let cap := s.captureOf h r
  let i := cap.1
  let chans := (List.range 8).map (fun k => s.channel h i k r)
  let vals := chans.map Prod.fst
  let regs := ((List.range 4).zip chans).filterMap (fun x => x.2.2.2.1.map (fun g => (x.1, i, g)))
  if !s.unset ∧ (i + 1) * 900 + s.nat Attr.ValidationRules.maxAgeDays ru * 86400 < s.serviceSec then ⟨none, [], []⟩
  else
    let bracket := ((List.range 4).zip chans).flatMap (fun x => match x.2.2.2.1 with
      | some g => s.brokenBracket h i x.1 g x.2.1
      | none => [])
    let future := !s.unset && decide (s.serviceSec + s.nat Attr.ValidationRules.futureTolS ru < (i + 1) * 900)
    let clock := decide (s.nat Attr.ValidationRules.clockTolS ru < cap.2) || r.clockBad
    let suspect := future || chans.any (fun c => c.2.1 || c.2.2.2.1 || c.2.2.2.2) || !bracket.isEmpty
    let q := (if future || clock then qClock else 0) ||| (if r.powerFail then qOutage else 0) ||| (if suspect then qSuspect else 0) ||| s.valueChecks h i vals
    ⟨some ⟨h, i, q, vals⟩, regs, bracket⟩

/-- What COL commits while VAL is fenced (R329): the values without checks, SUSPECT. -/
def State.unchecked (s : State) (h : Nat) (r : Reading) : Checked :=
  let cap := s.captureOf h r
  let chans := (List.range 8).map (fun k => s.channel h cap.1 k r)
  ⟨some ⟨h, cap.1, qSuspect ||| (if r.powerFail then qOutage else 0), chans.map Prod.fst⟩,
   ((List.range 4).zip chans).filterMap (fun x => x.2.2.2.1.map (fun g => (x.1, cap.1, g))), []⟩

/-! ### The commit path (R20, R317, R320–R323) -/

/-- The commit level now required (R320, R624, R635). -/
def State.requiredLevel (s : State) : Nat :=
  match s.nat Attr.ServicePosture.posture 0 with
  | 1 | 3 => if s.nat Attr.TwinPair.pairState 0 = 1 then 2 else 1
  | 2 => if s.twn.replicaLost then 1 else 3
  | _ => 1

/-- Whether a flight has reached a level (Table 08-7). -/
def Flight.reached (f : Flight) (level : Nat) : Bool :=
  f.journal && (if level = 2 then f.mirror else if level = 3 then f.replica else true)

/-- Posts records and a mark to the commit targets (R317, R500). -/
def State.commit (s : State) (f : Flight) : State :=
  let f := { f with id := s.col.nextFlight }
  ({ s with col := { s.col with flights := s.col.flights ++ [f], nextFlight := s.col.nextFlight + 1 } }).post
    (.flight f.id f.recs f.mark)

/-- Takes readings to the commit path (R327, R329): the checks, the registers, the counter pending until commit. -/
def State.commitReadings (s : State) (h : Nat) (rs : List Reading) (f : Flight) : State :=
  let fenced := s.cutOff 10 0
  let step := fun (acc : List NewRec × State) (r : Reading) =>
    let c := if fenced then acc.2.unchecked h r else acc.2.check h r
    let e := acc.2.ep h
    let keep := c.registers ++ e.registers.filter (fun x => !c.registers.any (fun y => y.1 == x.1 && y.2.1 == x.2.1))
    let t := acc.2.setEp h { e with
      registers := keep.take 8192
      noEnergy := if r.noEnergy then (c.record.map (fun n => n.interval)).toList ++ e.noEnergy else e.noEnergy }
    let t := c.registers.foldl (fun t x => t.setNat Attr.EndpointChannel.lastRegister (h * 8 + x.1) x.2.2) t
    let t := (List.range 8).foldl (fun t k => if r.vals.any (fun x => x.1 == k) then t.setFlag Attr.EndpointChannel.present (h * 8 + k) true else t) t
    let older := c.bracket.filterMap (fun j => (t.current h j).map (fun q => (⟨h, j, q.quality ||| qSuspect, q.vals⟩ : NewRec)))
    match c.record with
    | none => (acc.1, t.bump 64 Attr.CollectionService.tooOld 0)
    | some n => (acc.1 ++ older ++ [n], t)
  let r := rs.foldl step ([], s)
  r.2.commit { f with recs := r.1, unchecked := fenced || s.unset }

/-- The end boundary of the last period closed for an endpoint (RETRO, R326). -/
def State.closedEnd (s : State) (h : Nat) : Option Nat := (s.calSlot (s.nat Attr.EndpointProfile.calendar h)).closedEnd

/-- How a record ended at commit. -/
inductive Stored
  | kept | same | limit
  deriving DecidableEq, Repr

/-- Stores one record (R319, R326, R335, R336): equal values and quality are not stored again, version 15 is the last. -/
def State.storeRecord (s : State) (n : NewRec) : Stored × State :=
  let q := if (s.closedEnd n.handle).any (fun e => decide (n.interval < e)) then n.quality ||| qRetro else n.quality
  let vs := s.versions n.handle n.interval
  if (vs.getLast?).any (fun r => r.quality == q && r.vals == n.vals) then (.same, s.bump 32 Attr.EndpointProfile.sameValue n.handle)
  else if 16 ≤ vs.length then (.limit, s.raise 0x0A01 (objPath 0x0501 n.handle) [n.handle, n.interval])
  else
    let key : Nat × Nat × Nat := (n.handle, n.interval, vs.length)
    let s := { s with
      sto := { s.sto with
        records := Assoc.put (recKey n.handle n.interval) (vs ++ [⟨vs.length, q, n.vals⟩]) s.sto.records
        bilStream := s.sto.bilStream ++ [key]
        balStream := s.sto.balStream ++ [key] } }
    let act := q &&& (qMissing ||| qEstimated) == 0
    (.kept, if act ∧ s.nat Attr.EndpointProfile.lastActual n.handle < n.interval then s.setNat Attr.EndpointProfile.lastActual n.handle n.interval else s)

/-- The commit of a flight (R315–R317, R321, R335, R541): records, mark, key generation, acknowledgement, completion. -/
def State.commitFlight (s : State) (f : Flight) : State :=
  let s := { s with col := { s.col with flights := s.col.flights.filter (fun x => x.id != f.id) } }
  let r := f.recs.foldl (fun (acc : Bool × State) n =>
    let x := acc.2.storeRecord n
    let t := if f.unchecked ∧ x.1 = .kept then x.2.setEp n.handle { x.2.ep n.handle with unchecked := (x.2.ep n.handle).unchecked ++ [n.interval] } else x.2
    (acc.1 || x.1 == .limit, t)) (false, s)
  let s := match f.newGen with
    | some (h, g) => r.2.adoptGen h g
    | none => r.2
  let s := match f.mark, f.newGen with
    | some (h, c), some _ =>
      let e := s.ep h
      (s.setEp h { e with heard := true, bitmap := 1, pendingCounters := e.pendingCounters.filter (fun x => x != c) }).setNat Attr.EndpointProfile.lastCounter h c
    | some (h, c), none => s.markCounter h c
    | none, _ => s
  let s := match f.ack with
    | some (h, c) => s.sendAck h c
    | none => s
  match f.done with
  | some a => s.completeCmd a (if r.1 then .tableFull else .ok) []
  | none => s

/-! ### Uplink: steps 4 to 8 (01_architecture.md, R306, R315, R316) -/

/-- The words of a payload for firmware_queue: handle and counter, the poll and generation marks, then the octets, eight to a word (log 18). -/
def firmwareWords (h c gen : Nat) (body : Bytes) : List Nat :=
  (h + c * 2 ^ 32) :: (body.length + gen * 2 ^ 32) :: (List.range ((body.length + 7) / 8)).map (fun k => field body (8 * k) 8)

/-- Passes a payload to Purel (R306); PARSE_BACKLOG when the queue is above half full. -/
def State.toFirmware (s : State) (h c gen : Nat) (body : Bytes) : State :=
  let q := s.nat Attr.CollectionService.firmwareQueue 0
  let s := s.pushItem q (firmwareWords h c gen body)
  if s.nat Attr.HardwareQueue.sizeWords q < 2 * s.wordsUsed q then s.raise 0x0904 (objPath 0x0510 0) [h, s.wordsUsed q] else s

/-- A meter has confirmed a calendar transfer (R354): it is no longer pending once none of its transfers is left. -/
def State.calendarConfirmed (s : State) (r : Request) : State :=
  if (r.opcode ≠ 0x0701 ∧ r.opcode ≠ 0x0702) ∨ s.col.requests.any (fun x => x.handle == r.handle && x.order != r.order && (x.opcode == 0x0701 || x.opcode == 0x0702)) then s
  else
    let c := s.nat Attr.EndpointProfile.calendar r.handle
    let x := s.calSlot c
    s.setCalSlot c { x with pendingMeters := x.pendingMeters.filter (fun h => h != r.handle), late := x.late.filter (fun h => h != r.handle) }

/-- A member has confirmed its cell's next beacon key (R542). -/
def State.beaconKeyConfirmed (s : State) (r : Request) : State :=
  if r.opcode ≠ 0x0C01 then s
  else { s with glv := { s.glv with beaconNext := s.glv.beaconNext.map (fun (x : Nat × List Nat) => if x.1 = r.cell then (x.1, x.2.filter (fun h => h != r.handle)) else x) } }

/-- The endpoint answers a command: the request ends with the response status and serial (R312). -/
def State.commandResponse (s : State) (h serial status : Nat) : State :=
  match s.col.requests.find? (fun r => r.handle == h && r.poll.isNone && r.serial == serial && r.outstanding) with
  | none => s
  | some r => (if status = 0 then (s.calendarConfirmed r).beaconKeyConfirmed r else s).endRequest r (if status = 0 then .ok else .internal) (leBytes 4 status ++ leBytes 4 serial)

/-- An accepted payload goes on by its kind (R306); a TRAFFIC body of a sensor is passed to LUX and committed without a record (R438, R439). -/
def State.accept (s : State) (h : Nat) (x : Secured) (g : AuthGen) : State :=
  let mark := match g with
    | .previous => none
    | _ => some (h, x.counter)
  let newGen := match g with
    | .pending => some (h, x.gen.getD 0)
    | _ => none
  let s := match g with
    | .previous => { s with glv := { s.glv with prevLast := Assoc.put h x.counter s.glv.prevLast } }
    | _ => s.setEp h { s.ep h with pendingCounters := (s.ep h).pendingCounters ++ [x.counter] }
  let f : Flight := { id := 0, recs := [], mark := mark, ack := some (h, x.counter), newGen := newGen }
  match x.apdu with
  | .readings rs poll =>
    let r := if poll then s.col.requests.find? (fun r => r.handle == h && r.poll.isSome && r.outstanding) else none
    match r with
    | some q => ((s.dropRequest q).commitReadings h rs { f with done := q.cmd }).pumpCell q.cell
    | none => s.commitReadings h rs f
  | .response serial status => (s.commandResponse h serial status).commit f
  | .other body =>
    if s.nat Attr.EndpointProfile.role h = 2 ∧ body.length = 4 ∧ octet body 0 = 1 then
      ({ s with lux := { s.lux with events := s.lux.events ++ [(h, octet body 1, octet body 2)] } }).commit f
    else s.toFirmware h x.counter (match g with | .pending => x.gen.getD 0 + 1 | _ => 0) body

/-- Modes that collect (Table 03-7): those that commit records. In SHADOW the records come by the mirror (R628). -/
def State.collects (s : State) : Bool := s.sys.mode == .service || s.sys.mode == .island || s.sys.mode == .factory

/-- A payload of an endpoint reaches COL (R314–R316, R541): the counter first, then GLV. The window is that of the current generation. -/
def State.uplink (s : State) (h : Nat) (x : Secured) : State :=
  if s.cutOff 9 0 ∨ s.gloveShut ∨ s.cutOff 8 0 ∨ !s.collects then s
  else
    let s := s.bump 64 Attr.CollectionService.framesIn 0
    let s := (s.setEp h { s.ep h with heardAt := s.tim.d3 }).lanternFault h 5 false
    if !x.blobOk ∨ (s.flag Attr.GloveboxService.testRoots 0 ∧ s.sys.lifecycle ≠ .factory) then s.unwrapFail h
    else if s.nat Attr.EndpointKey.keyState h = 2 then s
    else
      let s := s.useKey h (x.gen.getD (s.nat Attr.EndpointKey.generation h))
      match s.authGen h x with
      | some .pending => if (s.ep h).pendingCounters.contains x.counter then s.bump 64 Attr.CollectionService.pendingRepeats 0 else s.accept h x .pending
      | some .previous => s.accept h x .previous
      | g =>
        match s.counterPos h x.counter with
        | .pending => s.bump 64 Attr.CollectionService.pendingRepeats 0
        | .stale => (s.bump 64 Attr.CollectionService.staleFrames 0).raise 0x0902 (objPath 0x0501 h) [h, x.counter]
        | .duplicate => if g.isSome then (s.bump 32 Attr.EndpointProfile.duplicates h).sendAck h x.counter else s
        | .fresh => if g.isSome then s.accept h x .current else s

/-! ### Locator lookup of an uplink frame (R266, R269) -/

/-- A frame held until its sighting is committed. -/
def State.holdFrame (s : State) (key : Nat) (x : Secured) : Nat × State :=
  (s.col.nextHeld, { s with col := { s.col with heldFrames := s.col.heldFrames ++ [(s.col.nextHeld, (key, x))], nextHeld := s.col.nextHeld + 1 } })

/-- A frame of a known endpoint and path goes to COL. -/
def State.passed (s : State) (h : Nat) (r : Route) (metric : Nat) (x : Secured) : Option State :=
  let on := fun q : Route => q.port = r.port ∧ q.cell = r.cell
  if (s.primary h).any (fun q => on q) then some ((s.metric h true metric).uplink h x)
  else if (s.secondary h).any (fun q => on q) then some (((s.metric h false metric).bump 32 Attr.LocatorTable.secondaryHits 0).uplink h x)
  else none

/-- A frame at ELT (Table 07-5): by its EUI key where it carries one, else by its alias key. -/
def State.atLocator (s : State) (key : Option Nat) (r : Route) (metric : Nat) (x : Secured) : State :=
  if s.cutOff 8 0 then s
  else
    match key with
    | some k =>
      let f := s.lookup false k
      match f.1.bind (fun e => f.2.passed e.handle r metric x) with
      | some t => t
      | none =>
        let held := f.2.holdFrame k x
        if held.2.elt.queue.length < 4096 then held.2.sight ⟨k, r.port, r.cell, r.short, metric, some held.1⟩ else f.2.sight ⟨k, r.port, r.cell, r.short, metric, none⟩
    | none =>
      let f := s.lookup true (aliasKey r.cell r.short)
      match f.1.bind (fun e => f.2.passed e.handle r metric x) with
      | some t => t
      | none => f.2.bump 32 Attr.LocatorTable.aliasMisses 0

end Sys2Proof.Machine
end

