-- ==== Sys2Proof/Machine/Dbl.lean ====
section
/-! DEFINITION. Double-precision arithmetic (R400) on numbers m × 2^e with 53-bit mantissas, rounded to nearest, ties to even (log 28). -/

namespace Sys2Proof.Machine.Dbl

/-- 0. -/
def zero : Dbl := ⟨0, 0⟩

/-- The magnitude n × 2^e rounded to 53 bits: mantissa and exponent. -/
def roundNat (n : Nat) (e : Int) : Nat × Int :=
  if n = 0 then (0, 0)
  else
    let l := Nat.log2 n + 1
    if l ≤ 53 then (n * 2 ^ (53 - l), e - ((53 - l : Nat) : Int))
    else
      let s := l - 53
      let q := n / 2 ^ s
      let r := n % 2 ^ s
      let half := 2 ^ (s - 1)
      let q := if half < r ∨ (r = half ∧ q % 2 = 1) then q + 1 else q
      if q = 2 ^ 53 then (2 ^ 52, e + s + 1) else (q, e + s)

/-- n × 2^e. -/
def make (n : Int) (e : Int) : Dbl :=
  let r := roundNat n.natAbs e
  ⟨if n < 0 then -(r.1 : Int) else r.1, r.2⟩

/-- An integer. -/
def ofInt (n : Int) : Dbl := make n 0

/-- Negation. -/
def neg (a : Dbl) : Dbl := ⟨-a.m, a.e⟩

/-- Sum. -/
def add (a b : Dbl) : Dbl :=
  if a.m = 0 then b
  else if b.m = 0 then a
  else
    let e := min a.e b.e
    make (a.m * 2 ^ (a.e - e).toNat + b.m * 2 ^ (b.e - e).toNat) e

/-- Difference. -/
def sub (a b : Dbl) : Dbl := add a (neg b)

/-- Product. -/
def mul (a b : Dbl) : Dbl := make (a.m * b.m) (a.e + b.e)

/-- Quotient; 0 by 0 (no rule divides by 0). -/
def div (a b : Dbl) : Dbl :=
  if b.m = 0 then zero
  else
    let n := a.m.natAbs * 2 ^ 60
    let q := n / b.m.natAbs * 2 + (if n % b.m.natAbs = 0 then 0 else 1)
    make (if (a.m < 0) ≠ (b.m < 0) then -(q : Int) else q) (a.e - b.e - 61)

/-- Integer square root by bits, from bit k − 1 down. -/
def isqrt (n : Nat) : Nat → Nat → Nat
  | 0, r => r
  | k + 1, r => isqrt n k (if (r + 2 ^ k) * (r + 2 ^ k) ≤ n then r + 2 ^ k else r)

/-- Square root of a number that is not negative. -/
def sqrt (a : Dbl) : Dbl :=
  if a.m ≤ 0 then zero
  else
    let odd := a.e % 2 != 0
    let n := a.m.natAbs * 2 ^ (if odd then 65 else 64)
    let e := if odd then a.e - 65 else a.e - 64
    let r := isqrt n 60 0
    make (r * 2 + (if r * r = n then 0 else 1) : Nat) (e / 2 - 1)

/-- Whether a < b. -/
def lt (a b : Dbl) : Bool := (sub a b).m < 0

/-- Magnitude. -/
def abs (a : Dbl) : Dbl := ⟨a.m.natAbs, a.e⟩

/-- The greater. -/
def max (a b : Dbl) : Dbl := if lt a b then b else a

/-- The lesser. -/
def min (a b : Dbl) : Dbl := if lt b a then b else a

/-- The greatest integer not above it. -/
def floor (a : Dbl) : Int := if 0 ≤ a.e then a.m * 2 ^ a.e.toNat else a.m / 2 ^ (-a.e).toNat

/-- The nearest integer, half upwards. -/
def nearest (a : Dbl) : Int := if 0 ≤ a.e then a.m * 2 ^ a.e.toNat else (2 * a.m + 2 ^ (-a.e).toNat) / (2 * 2 ^ (-a.e).toNat)

/-- n / d. -/
def ratio (n d : Int) : Dbl := div (ofInt n) (ofInt d)

end Sys2Proof.Machine.Dbl
end

