-- ==== Sys2Proof/Machine/Placement.lean ====
section
/-! DEFINITION. The placement function of a federation (16_twin_federation.md R633, R634). -/

namespace Sys2Proof.Machine

/-- 64 fractional bits of log2 of a mantissa in [1, 2) given in units of 2^-64, by repeated squaring. -/
def logBits : Nat → Nat → Nat → Nat
  | 0, _, acc => acc
  | n + 1, m, acc =>
    let q := m * m / 2 ^ 64
    if 2 ^ 65 ≤ q then logBits n (q / 2) (2 * acc + 1) else logBits n q (2 * acc)

/-- log2 of a positive number in units of 2^-64. -/
def log2Fixed (n : Nat) : Nat :=
  let l := Nat.log2 n
  l * 2 ^ 64 + logBits 64 (n * 2 ^ 64 / 2 ^ l) 0

/-- −log2 of x = ((h >> 11) + 0.5) / 2^53 in units of 2^-64 (R633: the order of scores is that under any base; log 29). -/
def minusLog (h : BitVec 64) : Nat := 54 * 2 ^ 64 - log2Fixed (2 * (h >>> 11).toNat + 1)

/-- A member's score for a key as a fraction: numerator and denominator. -/
def State.score (s : State) (m key : Nat) : Nat × Nat :=
  let h := fmix (BitVec.ofNat 64 key ^^^ BitVec.ofNat 64 (s.nat Attr.FederationMember.eui m) ^^^ BitVec.ofNat 64 (s.nat Attr.Federation.federationId 0))
  let d := if m = s.twn.self then 0 else (Assoc.find m s.twn.distance).getD 0
  (s.nat Attr.FederationMember.capacityWeight m, (1 + d) * minusLog h)

/-- Inserts a member into an order by descending score, ties to the lower number (which comes first). -/
def insertScore (x : Nat × (Nat × Nat)) : List (Nat × (Nat × Nat)) → List (Nat × (Nat × Nat))
  | [] => [x]
  | y :: t => if y.2.1 * x.2.2 < x.2.1 * y.2.2 then x :: y :: t else y :: insertScore x t

/-- ACTIVE members. -/
def State.activeMembers (s : State) : List Nat := (s.instances 0x0E20).filter (fun m => s.nat Attr.FederationMember.state m == 1)

/-- The placement order of a key (R633). -/
def State.placement (s : State) (key : Nat) : List Nat :=
  (((s.activeMembers.filter (fun m => decide (0 < s.nat Attr.FederationMember.capacityWeight m))).map (fun m => (m, s.score m key))).foldl
    (fun l x => insertScore x l) []).map Prod.fst

/-- Whether the chip is in a federation (postures FEDERATED and TWIN_FEDERATED). -/
def State.federated (s : State) : Bool := s.nat Attr.ServicePosture.posture 0 == 2 || s.nat Attr.ServicePosture.posture 0 == 3

/-- The member that evaluates a balance group (R421); this chip outside a federation. -/
def State.groupHome (s : State) (g : Nat) : Nat := if s.federated then ((s.placement (0x4247000000000000 + g)).head?).getD s.twn.self else s.twn.self

/-- The home of an endpoint (R634): this chip outside a federation. -/
def State.homeOf (s : State) (h : Nat) : Nat := if s.federated then s.nat Attr.EndpointPlacement.home h else s.twn.self

end Sys2Proof.Machine
end

