-- ==== Sys2Proof/Machine/BalanceOps.lean ====
section
/-! DEFINITION. Identification from the zero-crossing offset: samples and bins (10_balance_topology.md R406–R409). -/

namespace Sys2Proof.Machine

/-- Writes a group. -/
def State.setGroup (s : State) (g : Nat) (x : Group) : State := { s with bal := { s.bal with groups := Assoc.put g x s.bal.groups } }

/-- The candidates of an endpoint (R409): its group, that group's neighbours, and the group that serves the cell of its secondary path; at most 10. -/
def State.balanceCandidates (s : State) (h : Nat) : List Nat :=
  let i := s.nowInterval
  let g := (s.memberAt h i).group
  let near := ((s.defAt g i).map GroupDef.near).getD []
  let served := match s.secondary h with
    | none => []
    | some r => (s.bal.groups.filter (fun (x : Nat × Group) => (s.defAt x.1 i).any (fun (d : GroupDef) => d.cell == r.cell))).map Prod.fst
  ((((if g = 0xFFFF then [] else [g]) ++ near).filter (fun x => (s.defAt x i).isSome)) ++ served.take 1).eraseDups.take 10

/-- Centres of the bins of Table 10-4. -/
def binCentres : List Nat := [0, 683, 1365, 2048, 2731, 3413]

/-- Distance of two offsets on the circle of 4,096. -/
def circular (a b : Nat) : Nat := let d := (a + 4096 - b % 4096) % 4096; min d (4096 - d)

/-- The bin an offset falls in (R408); 6 unresolved. -/
def binOf (tol θ : Nat) : Nat := (binCentres.findIdx? (fun c => decide (circular θ c ≤ tol))).getD 6

/-- θ of a candidate (R407): Δ + vector hour × 4,096 / 12, rounded. -/
def thetaOf (delta vector : Nat) : Nat := (24 * delta + 2 * 4096 * vector + 12) / 24 % 4096

/-- Key of an endpoint's bins for a candidate. -/
def binKey (h g : Nat) : Nat := h * 8192 + g

/-- The seven counts of an endpoint for a candidate. -/
def State.binsOf (s : State) (h g : Nat) : List Dbl := (Assoc.find (binKey h g) s.bal.bins).getD (List.replicate 7 Dbl.zero)

/-- Publishes the counts of the current group. -/
def State.showBins (s : State) (h : Nat) : State :=
  s.setAttr Attr.EndpointBalance.zcoBins h (.arr ((s.binsOf h (s.memberAt h s.nowInterval).group).map Dbl.floor))

/-- A ZCO sample (R407): at most one per endpoint per interval. -/
def State.zcoSample (s : State) (h zco reference : Nat) : State :=
  if s.cutOff 12 0 ∨ (Assoc.find h s.bal.zcoLast) = some s.nowInterval then s
  else
    let delta := (zco + 4096 - reference % 4096) % 4096
    let s := { s with bal := { s.bal with zcoLast := Assoc.put h s.nowInterval s.bal.zcoLast } }
    let s := (s.balanceCandidates h).foldl
      (fun s g =>
        let v := ((s.defAt g s.nowInterval).map GroupDef.vector).getD 0
        let k := binOf (s.nat Attr.BalanceService.phaseTol 0) (thetaOf delta v)
        let b := s.binsOf h g
        { s with bal := { s.bal with bins := Assoc.put (binKey h g) (b.set k (Dbl.add (b.getD k Dbl.zero) (Dbl.ofInt 1))) s.bal.bins } }) s
    s.showBins h

end Sys2Proof.Machine
end

