-- ==== Sys2Proof/Machine/Billing.lean ====
section
/-! DEFINITION. Billing: calendars' commands, boundaries, booking, demand, period closes, comparison, clock steps (09_billing_tariffs.md). -/

namespace Sys2Proof.Machine

/-! ### Calendar images (R342, R343) -/

/-- The records of `n` entries of `w` octets from an offset. -/
def records (b : Bytes) (off w n : Nat) : List Bytes := (List.range n).map (fun k => slice b (off + w * k) w)

/-- Strictly increasing by a key. -/
def rising (l : List Nat) : Bool := (l.zip l.tail).all (fun x => decide (x.1 < x.2))

/-- A day profile: 16 points of minute and rate, the first `n` used. -/
def parseDay (b : Bytes) : List (Nat × Nat) := (records b 4 4 (octet b 0)).map (fun p => (field p 0 2, octet p 2))

/-- Whether a day profile's octets pass R343. -/
def dayOk (block : Nat) (b : Bytes) : Bool :=
  let n := octet b 0
  let pts := parseDay b
  1 ≤ n && n ≤ 16 && field b 1 3 == 0 && pts.all (fun p => decide (p.1 ≤ 1439) && decide (1 ≤ p.2) && decide (p.2 ≤ 16) && p.1 % block == 0) &&
    (pts.head?).any (fun p => p.1 == 0) && rising (pts.map Prod.fst) && (records b 4 4 16).all (fun p => octet p 3 == 0) &&
    (b.drop (4 + 4 * n)).all (fun x => x == 0)

/-- The header checks of Table 09-1. -/
def calendarHeadOk (b : Bytes) : Bool :=
  octet b 0 ≤ 63 && 1 ≤ octet b 1 && octet b 1 ≤ 8 && 1 ≤ octet b 2 && octet b 2 ≤ 16 && 1 ≤ octet b 3 && octet b 3 ≤ 32 && field b 4 2 ≤ 256 &&
    field b 6 2 ≤ 60 && [15, 30, 60].contains (octet b 12) && octet b 13 ≤ 1 && octet b 14 ≤ 2 && 1 ≤ octet b 15 && octet b 15 ≤ 28 &&
    decide (-720 ≤ sfield b 16 2) && decide (sfield b 16 2 ≤ 840) && octet b 18 ≤ 7 && octet b 19 == 0

/-- A calendar number and its image (Tables 09-1 and 09-2); none where a check of R343 fails. -/
def parseCalendar (b : Bytes) : Option (Nat × Calendar) :=
  let ns := octet b 1
  let nw := octet b 2
  let nd := octet b 3
  let np := field b 4 2
  let nt := field b 6 2
  let block := octet b 12
  let base := sfield b 16 2
  let fl := octet b 18
  let o1 := 20 + 4 * ns
  let o2 := o1 + 8 * nw
  let o3 := o2 + 68 * nd
  let o4 := o3 + 8 * np
  let ss := records b 20 4 ns
  let ws := records b o1 8 nw
  let ds := records b o2 68 nd
  let ps := records b o3 8 np
  let ts := records b o4 8 nt
  let keys := ps.map (fun p => field p 0 4)
  if b.length ≠ o4 + 8 * nt ∨ !calendarHeadOk b then none
  else if !(ss.all (fun x => 1 ≤ octet x 0 && octet x 0 ≤ 12 && 1 ≤ octet x 1 && octet x 1 ≤ 31 && octet x 2 < nw && octet x 3 == 0) &&
      rising (ss.map (fun x => octet x 0 * 32 + octet x 1))) then none
  else if !ws.all (fun x => (x.take 7).all (fun d => decide (d.toNat < nd)) && octet x 7 == 0) then none
  else if !ds.all (dayOk block) then none
  else if !(ps.all (fun p => (field p 0 2 == 0 || (2000 ≤ field p 0 2 && field p 0 2 ≤ 2099)) && 1 ≤ octet p 2 && octet p 2 ≤ 12 && 1 ≤ octet p 3 &&
      octet p 3 ≤ 31 && octet p 4 < nd && field p 5 3 == 0) && decide keys.Nodup) then none
  else if !(ts.all (fun t => sfield t 4 2 % 15 == 0 && (sfield t 4 2 - base) % (block : Int) == 0 && octet t 6 ≤ 1 && octet t 7 == 0) &&
      rising (ts.map (fun t => field t 0 4)) && base % 15 == 0) then none
  else
    some (octet b 0,
      { ident := field b 8 4
        seasons := ss.map (fun x => (octet x 0, octet x 1, octet x 2))
        weeks := ws.map (fun x => (x.take 7).map BitVec.toNat)
        days := ds.map parseDay
        specials := ps.map (fun p => (field p 0 2, octet p 2, octet p 3, octet p 4))
        transitions := ts.map (fun t => (field t 0 4, sfield t 4 2))
        block := block, sliding := octet b 13 == 1, period := octet b 14, periodDay := octet b 15, base := base
        partialCounts := bit fl 0, push := bit fl 1, demandExport := bit fl 2 })

/-! ### Endpoints of a calendar -/

/-- The handles that name a calendar. -/
def State.calHandles (s : State) (c : Nat) : List Nat := (s.instances 0x0501).filter (fun h => s.nat Attr.EndpointProfile.calendar h == c)

/-- Meters that name a calendar. -/
def State.calMeters (s : State) (c : Nat) : List Nat := (s.calHandles c).filter (fun h => s.nat Attr.EndpointProfile.role h == 0)

/-- Transfers the passive image to every meter that names the calendar (R354), as a request of transmit queue 1. -/
def State.pushCalendar (s : State) (c opcode : Nat) : State :=
  let x := s.calSlot c
  match x.passive with
  | none => s
  | some im =>
    if !im.push then s
    else
      let ms := s.calMeters c
      let s := s.setCalSlot c { x with pendingMeters := (x.pendingMeters ++ ms).eraseDups }
      ms.foldl (fun s h =>
        let n := s.nextSerial h
        n.2.request h 1 opcode n.1 none (Config.calendarApdu im.ident (s.nat Attr.TariffCalendar.activationInterval c)) none) s

/-! ### Commands (R342–R344, R350, R351, R368) -/

/-- CALENDAR_LOAD (R341–R344). -/
def doCalendarLoad : Body := fun c s =>
  match parseCalendar c.data with
  | none => (⟨.badValue, []⟩, s)
  | some (n, im) =>
    if s.nat Attr.TariffCalendar.activationInterval n ≠ 0 then (⟨.refused, []⟩, s)
    else
      let s := s.setCalSlot n { s.calSlot n with passive := some im, pendingMeters := [] }
      (⟨.ok, []⟩, (s.setNat Attr.TariffCalendar.identifierPassive n im.ident).pushCalendar n 0x0701)

/-- 30 years after the current interval (R351). -/
def State.thirtyYears (s : State) : Nat :=
  let d := civil (s.nowInterval / 96)
  dayNumber (d.1 + 30) d.2.1 d.2.2 * 96 + s.nowInterval % 96

/-- Whether an interval starts a demand block of the calendar's generation in force there, if it has one. -/
def CalSlot.startsBlock (x : CalSlot) (i : Nat) : Bool := (x.genAt i).all (fun g => g.1.image.blockStart i)

/-- The activation interval CALENDAR_ACTIVATE asks for (R350): none where its date is none. -/
def activationOf (im : Calendar) (mode : Nat) (arg : Bytes) : Option Nat :=
  if mode = 1 then some (field arg 0 4)
  else
    let d := dayNumber (field arg 0 2) (octet arg 2) (octet arg 3)
    if 2000 ≤ field arg 0 2 ∧ civil d = (field arg 0 2, octet arg 2, octet arg 3) then some (im.instant (d * 96)) else none

/-- CALENDAR_ACTIVATE (R350, R351). -/
def doCalendarActivate : Body := fun c s =>
  let n := octet c.payload 0
  let mode := octet c.payload 1
  if 63 < n ∨ 2 < mode ∨ field c.payload 2 2 ≠ 0 then (⟨.badValue, []⟩, s)
  else
    let x := s.calSlot n
    match x.passive with
    | none => (⟨.notFound, []⟩, s)
    | some im =>
      if mode = 0 then
        if s.nat Attr.TariffCalendar.activationInterval n = 0 then (⟨.notFound, []⟩, s)
        else (⟨.ok, []⟩, s.setNat Attr.TariffCalendar.activationInterval n 0)
      else
        match activationOf im mode (slice c.payload 4 4) with
        | none => (⟨.badValue, []⟩, s)
        | some i =>
          if i ≤ s.nowInterval ∨ s.thirtyYears < i ∨ !im.blockStart i ∨ !x.startsBlock i then (⟨.badValue, []⟩, s)
          else (⟨.ok, []⟩, (s.setNat Attr.TariffCalendar.activationInterval n i).pushCalendar n 0x0702)

/-! ### Snapshots (R367, R369) -/

/-- The snapshot of an endpoint now (Table 09-6): period, interval, cause and flags as given. -/
def State.snapshotBytes (s : State) (h at' cause : Nat) : Bytes :=
  let c := s.nat Attr.EndpointProfile.calendar h
  let gen := (((s.calSlot c).genAt (at' - 1)).map (fun g => g.1.number)).getD 0
  let b := leBytes 4 h ++ leBytes 4 (s.nat Attr.TariffCalendar.periodNumber c) ++ leBytes 4 at' ++ leBytes 1 cause ++
    leBytes 1 ((Assoc.find h s.bil.flags).getD 0) ++ leBytes 2 gen ++ ((s.arr Attr.BillingRegisters.registers h).map (intBytes 6)).flatten ++
    ((s.arr Attr.BillingRegisters.maxDemand h).map (intBytes 4)).flatten ++ ((s.arr Attr.BillingRegisters.maxDemandAt h).map (intBytes 4)).flatten ++
    leBytes 6 (s.nat Attr.BillingRegisters.estimatedWh h) ++ leBytes 6 0
  b ++ leBytes 4 (crc32c b)

/-- Stores a snapshot and journals it. -/
def State.keepSnapshot (s : State) (i : Nat) (b : Bytes) : State :=
  ({ s with bil := { s.bil with snaps := Assoc.put i b s.bil.snaps } }).post (.snapshot i)

/-- Takes a period snapshot, keeping the last `snapshot_keep` of the endpoint (R366, R369). -/
def State.periodSnapshot (s : State) (h endS : Nat) : State :=
  let p := s.nat Attr.TariffCalendar.periodNumber (s.nat Attr.EndpointProfile.calendar h)
  let s := s.keepSnapshot (h * 128 + p % 64) (s.snapshotBytes h endS 0)
  { s with bil := { s.bil with
      snaps := s.bil.snaps.filter (fun x => !(x.1 / 128 == h && decide (x.1 % 128 < 64) && decide (field x.2 4 4 + s.nat Attr.BillingService.snapshotKeep 0 ≤ p))) } }

/-- Takes an ON_DEMAND snapshot (R368, R369). -/
def State.onDemandSnapshot (s : State) (h : Nat) : State :=
  let n := (Assoc.find h s.bil.onDemand).getD 0
  let s := s.keepSnapshot (h * 128 + 64 + n % 4) (s.snapshotBytes h s.nowInterval 1)
  { s with bil := { s.bil with onDemand := Assoc.put h (n + 1) s.bil.onDemand } }

/-- SNAPSHOT_NOW (R368). -/
def doSnapshotNow : Body := fun c s =>
  let scope := octet c.payload 0
  let cal := octet c.payload 1
  if 1 < scope ∨ 63 < cal ∨ field c.payload 2 2 ≠ 0 then (⟨.badValue, []⟩, s)
  else if scope = 0 then
    let k := pathCls c.path
    if k = 0x0702 ∨ k = 0x0704 ∨ k = 0x0501 then (⟨.ok, []⟩, s.onDemandSnapshot (pathInst c.path)) else (⟨.badObject, []⟩, s)
  else (⟨.accepted, []⟩, (s.calHandles cal).foldl State.onDemandSnapshot s)

def execCalendarLoad (s : State) : Out := runOpcode 0x0701 doCalendarLoad s
def execCalendarActivate (s : State) : Out := runOpcode 0x0702 doCalendarActivate s
def execSnapshotNow (s : State) : Out := runOpcode 0x0703 doSnapshotNow s

/-! ### Booking (R355–R358, R365) -/

/-- Adds to a register, modulo 2^48; a wrap records REGISTER_WRAP (R358). -/
def State.addRegister (s : State) (h k : Nat) (d : Int) : State :=
  if d = 0 then s
  else
    let v := s.elem Attr.BillingRegisters.registers h k + d
    let s := s.setElem Attr.BillingRegisters.registers h k (v % 2 ^ 48)
    if v < 0 ∨ 2 ^ 48 ≤ v then s.raise 0x0B08 (objPath 0x0702 h) [h, k] else s

/-- Adds to the carry set, modulo 2^48. -/
def State.addCarry (s : State) (h k : Nat) (d : Int) : State :=
  if d = 0 then s else s.setElem Attr.BillingRegisters.carry h k ((s.elem Attr.BillingRegisters.carry h k + d) % 2 ^ 48)

/-- Adds to the count of estimated A+ energy. -/
def State.addEstimated (s : State) (h : Nat) (d : Int) : State :=
  if d = 0 then s else s.setInt Attr.BillingRegisters.estimatedWh h ((s.int Attr.BillingRegisters.estimatedWh h + d) % 2 ^ 48)

/-- The rate of an interval for an endpoint (R348); 1 where its calendar has no generation. -/
def State.rateAt (s : State) (h i : Nat) : Nat := ((s.calendarOf h i).map (fun g => g.1.image.rate i)).getD 1

/-- What a version books (R356): the four values and estimated A+. -/
def State.bookable (s : State) (r : IRec) : List Nat :=
  if r.has qMissing ∨ (r.has qSuspect ∧ !s.flag Attr.BillingService.bookSuspect 0) then [0, 0, 0, 0, 0]
  else
    let v := fun k : Nat => (r.val k).getD 0
    [v 0, v 1, v 2, v 3, if r.has qEstimated then v 0 else 0]

/-- The end of the period that waits for its close, if one does (R365). -/
def State.closingEnd (s : State) (h : Nat) : Option Nat := ((s.calSlot (s.nat Attr.EndpointProfile.calendar h)).closes.head?).map Prod.fst

/-- Sets bits of an endpoint's snapshot flags. -/
def State.addFlags (s : State) (h f : Nat) : State :=
  { s with bil := { s.bil with flags := Assoc.put h ((Assoc.find h s.bil.flags).getD 0 ||| f) s.bil.flags } }

/-- Books the difference between a version and what is booked for its interval (R356, R357, R365, R366). -/
def State.book (s : State) (h i : Nat) (r : IRec) : State :=
  let aged := (s.calendarOf h i).any Prod.snd
  let s := if aged then s.bump 32 Attr.BillingRegisters.agedCalendar h else s
  let s := if r.has qSuspect ∧ !r.has qMissing ∧ !s.flag Attr.BillingService.bookSuspect 0 then s.bump 32 Attr.BillingRegisters.suspectUnbooked h else s
  let s := if r.has qRetro then s.addFlags h 8 else s
  let old := (Assoc.find (recKey h i) s.bil.booked).getD [0, 0, 0, 0, 0]
  let new := s.bookable r
  let d := (List.range 5).map (fun k => (new.getD k 0 : Int) - old.getD k 0)
  let s := { s with bil := { s.bil with booked := Assoc.put (recKey h i) new s.bil.booked } }
  let k := (s.rateAt h i - 1) * 4
  if (s.closingEnd h).any (fun e => decide (e ≤ i)) then
    let s := (List.range 4).foldl (fun s q => s.addCarry h (k + q) (d.getD q 0)) s
    let was := (Assoc.find (recKey h i) s.bil.carried).getD [0, 0, 0, 0, 0]
    { s with bil := { s.bil with carried := Assoc.put (recKey h i) ((List.range 5).map (fun q => was.getD q 0 + d.getD q 0)) s.bil.carried } }
  else ((List.range 4).foldl (fun s q => s.addRegister h (k + q) (d.getD q 0)) s).addEstimated h (d.getD 4 0)

/-! ### Demand (R360–R363) -/

/-- Whether an interval is zero-length (R380, R385). -/
def State.zeroLength (s : State) (i : Nat) : Bool := s.bil.zeroSpans.any (fun z => decide (z.1 ≤ i) && decide (i ≤ z.2.1))

/-- A demand window: its rate, its demand, whether it is partial, complete, whether it counts, and whether any record of it is held. -/
structure Window where
  rate : Nat
  demand : Nat
  part : Bool
  complete : Bool
  counts : Bool
  some' : Bool
  deriving DecidableEq, Repr

/-- The window from an interval (R360, R361); none for a sliding window that contains a switch, or without a calendar. -/
def State.window (s : State) (h a : Nat) : Option Window :=
  match s.calendarOf h a with
  | none => none
  | some (g, _) =>
    let im := g.image
    let is := (List.range im.blockLen).map (fun k => a + k)
    let rate := s.rateAt h a
    if im.sliding && is.any (fun i => s.rateAt h i != rate) then none
    else
      let q := if im.demandExport then 1 else 0
      let part := is.any (fun i => s.zeroLength i || (s.current h i).all (fun r => r.has qMissing || r.has qOutage))
      some
        { rate := rate
          demand := (is.map (fun i => ((s.held h i).bind (fun r => r.val q)).getD 0)).sum * 60 / im.block
          part := part
          complete := is.all (fun i => s.zeroLength i || (s.held h i).isSome)
          counts := !part || im.partialCounts
          some' := is.any (fun i => (s.current h i).isSome || s.zeroLength i) }

/-- First intervals of the windows that hold an interval: its block, or every sliding window. -/
def State.windowsOf (s : State) (h i : Nat) : List Nat :=
  match s.calendarOf h i with
  | none => []
  | some (g, _) => if g.image.sliding then (List.range g.image.blockLen).map (fun k => i + 1 - g.image.blockLen + k) else [g.image.blockOf i]

/-- The open period of an endpoint: from the last end to the end that waits for its close. -/
def State.inOpenPeriod (s : State) (h i : Nat) : Bool := (s.closedEnd h).all (fun e => decide (e ≤ i)) && (s.closingEnd h).all (fun e => decide (i < e))

/-- First intervals of the windows of the open period that a stored record falls in. -/
def State.periodWindows (s : State) (h : Nat) : List Nat :=
  ((s.sto.records.filter (fun x => x.1 / 2 ^ 32 == h && s.inOpenPeriod h (x.1 % 2 ^ 32))).flatMap (fun x => s.windowsOf h (x.1 % 2 ^ 32))).eraseDups

/-- Counts a partial window once (R361), and flags the snapshot. -/
def State.countPartial (s : State) (h a : Nat) (w : Window) : State :=
  if !w.part ∨ s.bil.partials.contains (recKey h a) then s
  else ({ (s.bump 32 Attr.BillingRegisters.partialDemands h) with bil := { s.bil with partials := recKey h a :: s.bil.partials } }).addFlags h 1

/-- Raises a rate's maximum to a demand (R362). -/
def State.raiseMax (s : State) (h a : Nat) (w : Window) : State :=
  if w.counts ∧ s.elem Attr.BillingRegisters.maxDemand h (w.rate - 1) < w.demand then
    (s.setElem Attr.BillingRegisters.maxDemand h (w.rate - 1) w.demand).setElem Attr.BillingRegisters.maxDemandAt h (w.rate - 1) a
  else s

/-- Evaluates a window. -/
def State.evaluate (s : State) (h a : Nat) (w : Window) : State := (s.countPartial h a w).raiseMax h a w

/-- Recomputes a rate's maximum from the stored records of the open period (R362). -/
def State.recomputeMax (s : State) (h rate : Nat) : State :=
  let ws := s.periodWindows h
  let s := (s.setElem Attr.BillingRegisters.maxDemand h (rate - 1) 0).setElem Attr.BillingRegisters.maxDemandAt h (rate - 1) 0
  ws.foldl (fun s a =>
    match s.window h a with
    | some w => if w.complete ∧ w.rate = rate then s.raiseMax h a w else s
    | none => s) s

/-- DEMAND_EVALUATE (R362) for the windows that hold an interval. -/
def State.demand (s : State) (h i : Nat) : State :=
  (s.windowsOf h i).foldl
    (fun s a =>
      match s.window h a with
      | none => s
      | some w =>
        if !w.complete ∨ !s.inOpenPeriod h a then s
        else
          let held := decide (s.elem Attr.BillingRegisters.maxDemandAt h (w.rate - 1) = (a : Int)) && decide (0 < s.elem Attr.BillingRegisters.maxDemand h (w.rate - 1))
          let s := s.countPartial h a w
          if held && decide ((w.demand : Int) < s.elem Attr.BillingRegisters.maxDemand h (w.rate - 1)) then s.recomputeMax h w.rate else s.raiseMax h a w) s

/-- RECORD_BOOKING (R323, R356, R16): BIL takes the oldest record of the commit stream; while fenced it takes none. -/
def execRecordBooking (s : State) : Out :=
  match s.sto.bilStream with
  | [] => .next s
  | (h, i, v) :: rest =>
    if s.cutOff 11 0 then .next s
    else
      let s := { s with sto := { s.sto with bilStream := rest } }
      match (s.versions h i).find? (fun r => r.version == v) with
      | none => .next s
      | some r => .next ((s.book h i r).demand h i)

/-! ### Boundaries (R378–R385, Table 09-9) -/

/-- Whether the chip commits to the store (Table 03-7): in SERVICE and ISLAND, and in HOLDUP until done. -/
def State.commits (s : State) : Bool :=
  match s.sys.mode with
  | .service | .island => true
  | .holdup => !s.sys.holdupDone
  | _ => false

/-- Whether a calendar has a boundary at an interval and position of Table 09-9. -/
def State.isBoundary (s : State) (c i p : Nat) : Bool :=
  let x := s.calSlot c
  let before := x.genAt (i - 1)
  match p with
  | 1 => before.any (fun g => !g.2 && g.1.image.blockStart i)
  | 2 => before.any (fun g => !g.2 && g.1.image.periodEnds i)
  | 3 => x.passive.isSome && s.nat Attr.TariffCalendar.activationInterval c == i && i != 0
  | 4 => (x.genAt i).any (fun g => !g.2 && (let d := g.1.image.localOf i / 96; (g.1.image.switches (d - 1) ++ g.1.image.switches d).any (fun w => w.1 == i)))
  | _ => false

/-- The guard (R378): the key of the last executed boundary. -/
def State.guard (s : State) : Nat × Nat := (s.nat Attr.BillingService.guardInterval 0, s.nat Attr.BillingService.guardPosition 0)

/-- Whether a key is above the guard. -/
def State.aboveGuard (s : State) (i p : Nat) : Bool := decide (s.guard.1 < i) || (s.guard.1 == i && decide (s.guard.2 < p))

/-- Writes an execution to the journal with the next boundary sequence and moves the guard (R378). -/
def State.boundaryDone (s : State) (c i p fl : Nat) : State :=
  let s := s.bump 32 Attr.BillingService.boundarySeq 0
  let s := (s.setNat Attr.BillingService.guardInterval 0 i).setNat Attr.BillingService.guardPosition 0 p
  ({ s with bil := { s.bil with executed := (i, p, c, fl) :: s.bil.executed } }).post (.boundary c p fl i (s.nat Attr.BillingService.boundarySeq 0))

/-- The next period end of a calendar after an interval, 0 where its kind ends none (log 27). -/
def Calendar.nextEnd (im : Calendar) (i : Nat) : Nat :=
  if im.period = 0 then 0 else (((List.range 3100).map (fun k => i + 1 + k)).find? im.periodEnds).getD 0

/-- A period ends (Table 09-9 position 2): its close is scheduled, from the end or, after a forward step, from the step (R365, R380). -/
def State.periodEnd (s : State) (c i fl : Nat) : State :=
  let x := s.calSlot c
  let from' := if bit fl 0 then s.serviceSec else i * 900
  let s := s.setNat Attr.TariffCalendar.nextPeriodEnd c (((x.genAt i).map (fun g => g.1.image.nextEnd i)).getD 0)
  s.setCalSlot c { x with closes := x.closes ++ [(i, from' + 60 * s.nat Attr.BillingService.closeGraceMin 0)] }

/-- A calendar activation takes effect (R352, R354). -/
def State.activateCalendar (s : State) (c i : Nat) : State :=
  let x := s.calSlot c
  match x.passive with
  | none => s
  | some im =>
    let g := (s.nat Attr.TariffCalendar.generation c + 1) % 2 ^ 16
    let gens := (⟨i, g, im⟩ :: x.gens).take 4
    let s := s.setCalSlot c { x with passive := none, gens := gens, horizon := false, late := x.pendingMeters }
    let s := (s.setNat Attr.TariffCalendar.generation c g).setNat Attr.TariffCalendar.activationInterval c 0
    let s := (s.setNat Attr.TariffCalendar.identifierActive c im.ident).setNat Attr.TariffCalendar.identifierPassive c 0
    let s := s.setAttr Attr.TariffCalendar.retired c (.arr ((List.range 3).map (fun k => (((gens[k + 1]?).map (fun y => (y.start : Int))).getD 0))))
    let s := s.setNat Attr.TariffCalendar.horizonInterval c (((im.transitions.getLast?).map Prod.fst).getD 0)
    let s := s.setNat Attr.TariffCalendar.nextPeriodEnd c (im.nextEnd i)
    let s := s.raise 0x0B04 (objPath 0x0701 c) [c, g]
    x.pendingMeters.foldl (fun s h => s.raise 0x0B06 (objPath 0x0501 h) [h, im.ident]) s

/-- Executes one boundary of one calendar. -/
def State.executeBoundary (s : State) (c i p fl : Nat) : State :=
  let s := if bit fl 1 then (s.calHandles c).foldl (fun s h => s.addFlags h 4) s else s
  let s := if p = 2 then s.periodEnd c i fl else if p = 3 then s.activateCalendar c i else s
  s.boundaryDone c i p fl

/-- Executes a key: every calendar that has a boundary there. -/
def State.executeKey (s : State) (i p fl : Nat) : State :=
  if !s.aboveGuard i p then s
  else ((List.range 64).filter (fun c => s.isBoundary c i p)).foldl (fun s c => s.executeBoundary c i p fl) s

/-- The first interval at which a calendar can have a boundary. -/
def State.firstBoundary (s : State) : Option Nat :=
  least (s.bil.cals.flatMap (fun x =>
    (x.2.gens.map CalGen.start) ++ (if x.2.passive.isSome && s.nat Attr.TariffCalendar.activationInterval x.1 != 0 then [s.nat Attr.TariffCalendar.activationInterval x.1] else [])))

/-- The intervals a scan for boundaries covers, from the guard to an interval. -/
def State.boundarySpan (s : State) (last : Nat) : List Nat :=
  match s.firstBoundary with
  | none => []
  | some f => let a := max f s.guard.1; (List.range (last + 1 - a)).map (fun k => a + k)

/-- Records CALENDAR_HORIZON once for a calendar with fewer than 365 days of its list left (R346). -/
def State.horizons (s : State) : State :=
  s.bil.cals.foldl
    (fun s x =>
      match (x.2.gens.head?).bind (fun g => (g.image.transitions.getLast?).map Prod.fst) with
      | none => s
      | some t =>
        if !x.2.horizon && decide (t < s.nowInterval + 365 * 96) then
          (s.setCalSlot x.1 { s.calSlot x.1 with horizon := true }).raise 0x0B05 (objPath 0x0701 x.1) [x.1, t]
        else s) s

/-- Whether BIL executes boundaries now (R381, R382, R384): not in SHADOW, not while fenced, not after HOLDUP_DONE, and while service time is set. -/
def State.executes (s : State) : Bool := s.commits && !s.cutOff 11 0 && s.nat Attr.TimeService.state 0 != 0

/-- Executes every boundary that service time has reached, in key order (R378). -/
def State.runBoundaries (s : State) (fl : Nat) : State :=
  if !s.executes then s
  else
    let fl := if s.bil.downSince.isSome then fl ||| 2 else fl
    ((s.boundarySpan s.nowInterval).foldl (fun s i => [1, 2, 3, 4].foldl (fun s p => s.executeKey i p fl) s) s).horizons

/-- The zero records of CHIP-authority endpoints for passed intervals (R380, R385). -/
def State.zeroRecords (s : State) (first last : Nat) (q : BitVec 7) : State :=
  if last < first ∨ !s.commits then s
  else
    let hs := (s.instances 0x0501).filter (fun h => s.nat Attr.EndpointProfile.billingAuthority h == 1)
    let recs := hs.flatMap (fun h => (List.range (last + 1 - first)).map
      (fun k => (⟨h, first + k, q, [0, 0, 0, 0, absentVal, absentVal, absentVal, absentVal]⟩ : NewRec)))
    if recs.isEmpty then s else s.commit { id := 0, recs := recs }

/-- Boundaries and records of an outage are made good at restoration (R385): boundaries with OUTAGE, then zero records for the intervals of the outage. -/
def State.restoreBilling (s : State) : State :=
  match s.bil.downSince with
  | none => s.runBoundaries 0
  | some t =>
    if !s.executes then s
    else
      let s := s.runBoundaries 2
      let first := t / 900
      let s := { s with bil := { s.bil with downSince := none } }
      if s.nowInterval ≤ first then s
      else
        let s := { s with bil := { s.bil with zeroSpans := s.bil.zeroSpans ++ [(first, s.nowInterval - 1, 1)] } }
        s.zeroRecords first (s.nowInterval - 1) qOutage

/-- BILLING_BOUNDARY (R378, R382, R385): service time has reached a boundary; BIL executes what is due, in key order, once each. -/
def execBillingBoundary (s : State) : Out := .next s.restoreBilling

/-- A clock step for BIL (R379, R380): from one service time to another, in s, beyond the jump threshold. -/
def State.billingStep (s : State) (old new : Nat) : State :=
  let s := s.bil.cals.foldl (fun s x => (s.calHandles x.1).foldl (fun s h => s.addFlags h 2) s) s
  if old < new then
    let first := (old + 899) / 900
    let last := new / 900
    let s := if first < last then
        ({ s with bil := { s.bil with zeroSpans := s.bil.zeroSpans ++ [(first, last - 1, 0)] } }).zeroRecords first (last - 1) qClock
      else s
    let n := s.bil.executed.length
    let s := s.runBoundaries 1
    if s.sys.mode = .shadow then s else s.raise 0x0B02 (objPath 0x0710 0) [old, new, s.bil.executed.length - n]
  else if s.bil.executed.any (fun x => decide (new < x.1 * 900) && decide (x.1 * 900 ≤ old)) ∧ s.sys.mode ≠ .shadow then
    s.raise 0x0B01 (objPath 0x0710 0) [old, new]
  else s

/-- The power cut is logged last at its instant (R383, position 5). -/
def State.logOutage (s : State) : State :=
  if !s.executes then s
  else
    let s := s.runBoundaries 0
    let s := s.boundaryDone 255 (max s.nowInterval s.guard.1) 5 2
    s.raise 0x0B09 (objPath 0x0710 0) [5, s.nat Attr.BillingService.boundarySeq 0]

/-! ### Period close (R362, R363, R365, R366) -/

/-- Adds to the registers what the carry set holds of intervals before `next`, the end that now waits, if any (R365). -/
def State.releaseCarry (s : State) (h : Nat) (next : Option Nat) : State :=
  let mine := fun (x : Nat × List Int) => x.1 / 2 ^ 32 == h && next.all (fun e => decide (x.1 % 2 ^ 32 < e))
  let out := s.bil.carried.filter mine
  let s := { s with bil := { s.bil with carried := s.bil.carried.filter (fun x => !mine x) } }
  out.foldl
    (fun s x =>
      let k := (s.rateAt h (x.1 % 2 ^ 32) - 1) * 4
      ((List.range 4).foldl (fun s q => (s.addCarry h (k + q) (-(x.2.getD q 0))).addRegister h (k + q) (x.2.getD q 0)) s).addEstimated h (x.2.getD 4 0)) s

/-- Evaluates at the close what is left of the period (R362): windows with a record. -/
def State.evaluateRest (s : State) (h : Nat) : State :=
  (s.periodWindows h).foldl
    (fun s a =>
      match s.window h a with
      | some w => if s.inOpenPeriod h a ∧ w.some' then s.evaluate h a w else s
      | none => s) s

/-- The first part of a close for an endpoint: demand, snapshot, maximum demand to 0 (R362, R363, R366). -/
def State.closeEndpoint (s : State) (h endS : Nat) : State :=
  let s := (s.evaluateRest h).periodSnapshot h endS
  let s := (s.setAttr Attr.BillingRegisters.maxDemand h (.arr (List.replicate 16 0))).setAttr Attr.BillingRegisters.maxDemandAt h (.arr (List.replicate 16 0))
  { s with bil := { s.bil with flags := Assoc.del h s.bil.flags, partials := s.bil.partials.filter (fun k => !(k / 2 ^ 32 == h && decide (k % 2 ^ 32 < endS))) } }

/-- Executes the end of billing period script of METER endpoints (Table 09-8). -/
def State.sendScript (s : State) (h : Nat) : State :=
  if s.nat Attr.EndpointProfile.billingAuthority h ≠ 0 ∨ s.nat Attr.EndpointProfile.role h ≠ 0 then s
  else
    let n := s.nextSerial h
    n.2.request h 2 0 n.1 none Config.billingScriptApdu none

/-- Closes the oldest period of a calendar that waits for its close. -/
def State.closePeriod (s : State) (c : Nat) : State :=
  let x := s.calSlot c
  match x.closes with
  | [] => s
  | (e, _) :: rest =>
    let hs := s.calHandles c
    let s := hs.foldl (fun s h => s.closeEndpoint h e) s
    let p := s.nat Attr.TariffCalendar.periodNumber c
    let s := s.setCalSlot c { x with closes := rest, closedEnd := some e }
    let s := s.setNat Attr.TariffCalendar.periodNumber c ((p + 1) % 2 ^ 32)
    let s := hs.foldl (fun s h =>
      let s := s.releaseCarry h ((rest.head?).map Prod.fst)
      (s.periodWindows h).foldl (fun s a =>
        match s.window h a with
        | some w => if w.complete ∧ s.inOpenPeriod h a then s.evaluate h a w else s
        | none => s) s) s
    let s := s.raise 0x0B03 (objPath 0x0701 c) [c, p]
    if s.sys.mode = .shadow then s else hs.foldl State.sendScript s

/-- PERIOD_CLOSED (R365): `close_grace_min` after a period's end boundary, or later where BIL was fenced. -/
def execPeriodClosed (c : Nat) (s : State) : Out :=
  if 64 ≤ c ∨ s.cutOff 11 0 ∨ (!s.commits ∧ s.sys.mode ≠ .shadow) then .next s else .next (s.closePeriod c)

/-! ### Comparison (R371–R375) -/

/-- The chip's value of each compared register, as booked up to the interval before a capture (R371): A+ and A− per rate, then the totals. -/
def State.bookedBefore (s : State) (h cap : Nat) : List Int :=
  let later := s.bil.booked.filter (fun x => x.1 / 2 ^ 32 == h && decide (cap ≤ x.1 % 2 ^ 32))
  let reg := fun (r q : Nat) =>
    (s.elem Attr.BillingRegisters.registers h (r * 4 + q) + s.elem Attr.BillingRegisters.carry h (r * 4 + q) -
      (later.filter (fun x => s.rateAt h (x.1 % 2 ^ 32) == r + 1)).foldl (fun n x => n + (x.2.getD q 0 : Int)) 0) % 2 ^ 48
  let rates := fun q : Nat => (List.range 16).map (fun r => reg r q)
  rates 0 ++ rates 1 ++ [(rates 0).sum, (rates 1).sum]

/-- The result of a comparison (Table 09-7) from which of the 34 deviations are within tolerance. -/
def compareResult (within : List Bool) : Nat :=
  if !(within.getD 32 false && within.getD 33 false) then 2 else if !within.all id then 1 else 0

/-- Whether every interval up to the capture is booked (R371). -/
def State.allBooked (s : State) (h cap : Nat) : Bool :=
  !s.sto.bilStream.any (fun x => x.1 == h && decide (x.2.1 < cap)) && (s.held h (cap - 1)).isSome

/-- A comparison with its result, counted and recorded (R373, R374). -/
def State.compared (s : State) (h res : Nat) (worst : Int) : State :=
  let s := s.setNat Attr.RegisterComparison.lastResult h res
  if res = 0 then (s.setNat Attr.RegisterComparison.consecutive h 0).setFlag Attr.RegisterComparison.mismatch h false
  else
    let n := min (s.nat Attr.RegisterComparison.consecutive h + 1) 255
    let s := s.setNat Attr.RegisterComparison.consecutive h n
    if n = s.nat Attr.BillingService.comparePersist 0 then
      (s.setFlag Attr.RegisterComparison.mismatch h true).raise 0x0B07 (objPath 0x0704 h) [h, res, worst]
    else s

/-- The deviation of greatest magnitude. -/
def worstOf (d : List Int) : Int := d.foldl (fun w x => if w.natAbs < x.natAbs then x else w) 0

/-- Compares a report (R371–R374). -/
def State.compare (s : State) (r : MeterReport) : State :=
  let h := r.handle
  let chip := s.bookedBefore h r.capture
  let last := s.nat Attr.RegisterComparison.lastCapture h
  let fresh := r.reset || (Assoc.find h s.bil.baseChip).isNone
  let missing := !fresh && (List.range (r.capture - last)).any (fun k => (s.current h (last + k)).any (fun x => x.has qMissing))
  let late := (s.calSlot (s.nat Attr.EndpointProfile.calendar h)).late.contains h
  let s := s.setAttr Attr.RegisterComparison.meterMaxDemand h (.arr ((List.range 16).map (fun k => r.demands.getD k 0)))
  let s := s.setNat Attr.RegisterComparison.lastCapture h r.capture
  if missing ∨ late then s.setNat Attr.RegisterComparison.lastResult h 3
  else
    let meter := fun k : Nat => r.values.getD k 0
    let s := if fresh then
        let b := (List.range 34).map (fun k => meter k - chip.getD k 0)
        ({ s with bil := { s.bil with baseChip := Assoc.put h chip s.bil.baseChip } }).setAttr Attr.RegisterComparison.baseline h (.arr b)
      else s
    let base := (Assoc.find h s.bil.baseChip).getD []
    let d := (List.range 34).map (fun k => meter k - chip.getD k 0 - s.elem Attr.RegisterComparison.baseline h k)
    let tol := fun k : Nat => (s.int Attr.BillingService.compareTolUnits 0) * 1000000 + (chip.getD k 0 - base.getD k 0) * s.int Attr.BillingService.compareTolPpm 0
    let within := (List.range 34).map (fun k => decide (((d.getD k 0).natAbs : Int) * 1000000 ≤ tol k))
    (s.setAttr Attr.RegisterComparison.deviation h (.arr d)).compared h (compareResult within) (worstOf d)

/-- REGISTER_COMPARE (R371, R375): Purel's parsed report, when every interval up to its capture is booked or `compare_delay_h` have passed. -/
def execRegisterCompare (r : MeterReport) (s : State) : Out :=
  if !s.endpoint r.handle ∨ s.cutOff 11 0 then .next s
  else if s.nat Attr.EndpointProfile.billingAuthority r.handle = 1 then .next (s.setNat Attr.RegisterComparison.lastResult r.handle 3)
  else if !s.allBooked r.handle r.capture ∧ s.serviceSec < r.capture * 900 + s.nat Attr.BillingService.compareDelayH 0 * 3600 then .next s
  else .next (s.compare r)

end Sys2Proof.Machine
end

