-- ==== Sys2Proof/Machine/Balance.lean ====
section
/-! DEFINITION. Balance groups, residuals and the fit, attribution, identification, signatures, scores and proposals (10_balance_topology.md). -/

namespace Sys2Proof.Machine

/-! ### Energy (R398, R393) -/

/-- An event of BAL: none in SHADOW (R422). -/
def State.balRaise (s : State) (code path : Nat) (args : List Int) : State := if s.sys.mode = .shadow then s else s.raise code path args

/-- Scales an energy of an endpoint to Wh (R325). -/
def State.toWh (s : State) (h : Nat) (v : Int) : Dbl :=
  let k := s.int Attr.EndpointProfile.scale h
  if 0 ≤ k then Dbl.ofInt (v * 10 ^ k.toNat) else Dbl.ratio v (10 ^ (-k).toNat)

/-- Net import of a record in Wh (R398); none where A+ is absent. -/
def State.netWh (s : State) (h : Nat) (r : IRec) : Option Dbl := (r.val 0).map (fun a => s.toWh h ((a : Int) - (r.val 1).getD 0))

/-- Whether a handle is that of an MEA channel's feeder head (R392). -/
def State.meaHandle (s : State) (h : Nat) : Bool := (List.range 16).any (fun f => s.nat Attr.MeasurementFeeder.headHandle f == h)

/-- The record of a head for an interval; none under a fence of MEA where the head is one of its handles (R399). -/
def State.headRec (s : State) (h t : Nat) : Option IRec := if s.meaHandle h && s.cutOff 14 0 then none else s.held h t

/-- No head, no parent, no cell, no group. -/
def noHead : Nat := 0xFFFFFFFF
def noGroup : Nat := 0xFFFF

/-- Children of a group at an interval. -/
def State.childrenAt (s : State) (g t : Nat) : List Nat :=
  (s.bal.groups.filter (fun (x : Nat × Group) => (s.defAt x.1 t).any (fun (d : GroupDef) => d.parent == g))).map Prod.fst

/-- Members of this chip, and those other chips are home to (R421). -/
def State.ownMembers (s : State) (g t : Nat) : List Nat := (s.membersAt g t).filter (fun h => s.homeOf h == s.twn.self)

/-- The sums of the members this chip is home to (R421): member sum, estimated sum, members, absent. -/
def State.ownSums (s : State) (g t : Nat) : Dbl × Dbl × Nat × Nat :=
  (s.ownMembers g t).foldl
    (fun (acc : Dbl × Dbl × Nat × Nat) h =>
      match (s.held h t).bind (fun r => (s.netWh h r).map (fun e => (e, r.has qEstimated))) with
      | none => (acc.1, acc.2.1, acc.2.2.1 + 1, acc.2.2.2 + 1)
      | some (e, est) => (Dbl.add acc.1 e, if est then Dbl.add acc.2.1 e.abs else acc.2.1, acc.2.2.1 + 1, acc.2.2.2)) (Dbl.zero, Dbl.zero, 0, 0)

/-- With what other chips sent; the members of a chip whose sums have not arrived are absent (R421). -/
def State.memberSums (s : State) (g t : Nat) : Dbl × Dbl × Nat × Nat :=
  let own := s.ownSums g t
  let got := (Assoc.find (g * 2 ^ 32 + t) s.bal.remote).getD []
  let silent := ((s.membersAt g t).filter (fun h => s.homeOf h != s.twn.self && !got.any (fun x => x.member == s.homeOf h))).length
  let r := got.foldl
    (fun (acc : Dbl × Dbl × Nat × Nat) (x : RemoteSums) =>
      (Dbl.add acc.1 (Dbl.ofInt x.sum), Dbl.add acc.2.1 (Dbl.ofInt x.est), acc.2.2.1 + x.count, acc.2.2.2 + x.absent)) own
  (r.1, r.2.1, r.2.2.1 + silent, r.2.2.2 + silent)

/-- Coverage in 0.1 %: the share of members and children that are not absent (R399). -/
def coverageOf (count absent : Nat) : Nat := if count = 0 then 1000 else (count - absent) * 1000 / count

/-- Adds the contributions of children to the sums of the members. -/
def addChildren (base : Dbl × Dbl × Nat × Nat) (cs : List (Option Dbl)) : Dbl × Dbl × Nat × Nat :=
  cs.foldl (fun acc c => match c with
    | none => (acc.1, acc.2.1, acc.2.2.1 + 1, acc.2.2.2 + 1)
    | some e => (Dbl.add acc.1 e, acc.2.1, acc.2.2.1 + 1, acc.2.2.2)) base

/-- The contribution of a group to its parent (R393): its head energy, or its member sum; none where the head is absent or too few members are there. -/
def State.contribution (s : State) (t : Nat) : Nat → Nat → Option Dbl
  | 0, _ => none
  | n + 1, g =>
    match s.defAt g t with
    | none => none
    | some d =>
      if d.head ≠ noHead then (s.headRec d.head t).bind (s.netWh d.head)
      else
        let x := addChildren (s.memberSums g t) ((s.childrenAt g t).map (s.contribution t n))
        if coverageOf x.2.2.1 x.2.2.2 < s.nat Attr.BalanceService.minCoverage 0 then none else some x.1

/-- The sum of a group: members and children (R400). -/
def State.groupSums (s : State) (g t : Nat) : Dbl × Dbl × Nat × Nat :=
  addChildren (s.memberSums g t) ((s.childrenAt g t).map (s.contribution t 4))

/-! ### The residual (R399, R400) -/

/-- The result of an interval. -/
structure Residual where
  status : Nat
  head : Dbl
  sum : Dbl
  loss : Dbl
  residual : Dbl
  excess : Bool
  deficit : Bool
  coverage : Nat
  estShare : Nat
  deriving DecidableEq, Repr

/-- Table 10-2. -/
def State.residualStatus (s : State) (head : Option IRec) (net : Option Dbl) (x : Dbl × Dbl × Nat × Nat) : Nat :=
  match head, net with
  | some r, some _ =>
    if r.has qSuspect then 2
    else if coverageOf x.2.2.1 x.2.2.2 < s.nat Attr.BalanceService.minCoverage 0 then 3
    else if 0 < x.2.2.2 then 4
    else if Dbl.lt (Dbl.div (Dbl.mul (Dbl.ofInt (s.nat Attr.BalanceService.maxEstimated 0)) x.1) (Dbl.ofInt 1000)) x.2.1 then 5
    else 6
  | _, _ => 1

/-- evaluate(g, t) of R400 without the fit. -/
def State.residual (s : State) (g t : Nat) (d : GroupDef) : Residual :=
  let hr := if d.head = noHead then none else s.headRec d.head t
  let net := hr.bind (s.netWh d.head)
  let x := s.groupSums g t
  let head := net.getD Dbl.zero
  let loss := Dbl.add (Dbl.mul (s.group g).k (Dbl.mul head head)) (Dbl.ofInt d.fixed)
  let res := Dbl.sub (Dbl.sub head x.1) loss
  let gate := Dbl.max (Dbl.ofInt (s.nat Attr.BalanceGroup.thrAbsWh g)) (Dbl.div (Dbl.mul (Dbl.ofInt (s.nat Attr.BalanceGroup.thrPct g)) head.abs) (Dbl.ofInt 1000))
  { status := s.residualStatus hr net x, head := head, sum := x.1, loss := loss, residual := res, excess := Dbl.lt gate res, deficit := Dbl.lt res gate.neg,
    coverage := coverageOf x.2.2.1 x.2.2.2,
    estShare := if x.1.m = 0 then 0 else (Dbl.floor (Dbl.abs (Dbl.div (Dbl.mul (Dbl.ofInt 1000) x.2.1) x.1))).toNat }

/-- Whether a status reports its residual (Table 10-2). -/
def reported (st : Nat) : Bool := st == 2 || st == 4 || st == 5 || st == 6

/-- fit(g, y, x, outlier) of R400. -/
def State.fit (s : State) (g : Nat) (d : GroupDef) (y x : Dbl) (outlier : Bool) : State :=
  let gr := s.group g
  let n := s.nat Attr.BalanceGroup.updates g
  if x.m = 0 ∨ (s.nat Attr.BalanceService.fitMinUpdates 0 ≤ n ∧ outlier) then s
  else
    let lam := Dbl.sub (Dbl.ofInt 1) (Dbl.ratio 1 2688)
    let e := Dbl.sub y (Dbl.mul gr.k x)
    let gain := Dbl.div (Dbl.mul gr.p x) (Dbl.add lam (Dbl.mul (Dbl.mul x gr.p) x))
    let k := Dbl.max Dbl.zero (Dbl.add gr.k (Dbl.mul gain e))
    let k := if 0 < d.rated then Dbl.min k (Dbl.div (Dbl.ratio 1 10) (Dbl.ofInt (d.rated * 250))) else k
    let p := Dbl.div (Dbl.sub gr.p (Dbl.mul (Dbl.mul gain x) gr.p)) lam
    let s := s.setGroup g { gr with k := k, p := p }
    (s.setNat Attr.BalanceGroup.updates g (n + 1)).setInt Attr.BalanceGroup.lossCoeff g (Dbl.nearest (Dbl.mul k (Dbl.ofInt 1000000000000)))

/-- attribute(m, r, e) of R404. -/
def Sums.attribute (m : Sums) (r e : Dbl) : Sums :=
  let a := Dbl.ratio 1 1344
  let b := Dbl.sub (Dbl.ofInt 1) a
  let f := fun (old x : Dbl) => Dbl.add (Dbl.mul b old) (Dbl.mul a x)
  let sr := f m.sr r
  let se := f m.se e
  let srr := f m.srr (Dbl.mul r r)
  let see := f m.see (Dbl.mul e e)
  let sre := f m.sre (Dbl.mul r e)
  let cov := Dbl.sub sre (Dbl.mul sr se)
  let vr := Dbl.sub srr (Dbl.mul sr sr)
  let ve := Dbl.sub see (Dbl.mul se se)
  { sr := sr, se := se, srr := srr, see := see, sre := sre
    rho := if 0 < vr.m ∧ 0 < ve.m then Dbl.div cov (Dbl.sqrt (Dbl.mul vr ve)) else Dbl.zero
    beta := if 0 < ve.m then Dbl.div cov ve else Dbl.zero }

/-- Attributes an interval to the members this chip is home to (R404). -/
def State.attribute (s : State) (g t : Nat) (r : Dbl) : State :=
  (s.ownMembers g t).foldl
    (fun s h =>
      match (s.held h t).bind (s.netWh h) with
      | none => s
      | some e =>
        let m := ((Assoc.find h s.bal.sums).getD {}).attribute r e
        let s := { s with bal := { s.bal with sums := Assoc.put h m s.bal.sums } }
        (s.setInt Attr.EndpointBalance.rho h (Dbl.nearest (Dbl.mul m.rho (Dbl.ofInt 1000)))).setInt Attr.EndpointBalance.beta h
          (Dbl.nearest (Dbl.mul m.beta (Dbl.ofInt 1000)))) s

/-! ### Persistence (R402, R403) -/

/-- Inserts the result of a COMPLETE interval, newest interval first; an earlier result of it is replaced. -/
def insertHist (x : Nat × Bool × Bool) : List (Nat × Bool × Bool) → List (Nat × Bool × Bool)
  | [] => [x]
  | y :: t => if y.1 < x.1 then x :: y :: t else if y.1 = x.1 then x :: t else y :: insertHist x t

/-- The state changes of Table 10-3 from the present counts. -/
def State.groupState (s : State) (g : Nat) : State :=
  let w := (s.group g).hist.take (s.nat Attr.BalanceService.persistWindow 0)
  let ex := w.countP (fun x => x.2.1)
  let de := w.countP (fun x => x.2.2)
  let pc := s.nat Attr.BalanceService.persistCount 0
  let s := (s.setNat Attr.BalanceGroup.excessCount g ex).setNat Attr.BalanceGroup.deficitCount g de
  let st := s.nat Attr.BalanceGroup.state g
  let s := if st = 1 ∧ pc ≤ ex then (s.setNat Attr.BalanceGroup.state g 2).balRaise 0x0C01 (objPath 0x0801 g) [g, ex]
    else if st = 2 ∧ ex ≤ pc / 2 then (s.setNat Attr.BalanceGroup.state g 1).balRaise 0x0C02 (objPath 0x0801 g) [g, ex]
    else s
  if st = 0 then s
  else if !s.flag Attr.BalanceGroup.deficitFlag g ∧ pc ≤ de then
    (s.setFlag Attr.BalanceGroup.deficitFlag g true).balRaise 0x0C03 (objPath 0x0801 g) [g, de]
  else if s.flag Attr.BalanceGroup.deficitFlag g ∧ de ≤ pc / 2 then s.setFlag Attr.BalanceGroup.deficitFlag g false
  else s

/-! ### NEUTRAL (Table 10-7) -/

/-- Whether a voltage lies within a percentage of another. -/
def withinPct (u v pct : Nat) : Bool := decide ((if u ≤ v then v - u else u - v) * 100 ≤ v * pct)

/-- The NEUTRAL test of one interval: none where a voltage it needs is absent. -/
def State.neutralHit (s : State) (h t : Nat) (hr : IRec) : Option Bool :=
  let ph := (s.memberAt h t).phase
  if ph = 0 ∨ 6 < ph then none
  else
    let nom := s.nat Attr.EndpointProfile.nominalV h
    let dev := s.nat Attr.BalanceService.neutralDevPct 0
    match hr.val (4 + (ph - 1) % 3), s.held h t with
    | some uh, some r =>
      if !withinPct uh nom 3 then some false
      else
        match r.val 4, r.val 5, r.val 6 with
        | some a, some b, some c =>
          some ([a, b, c].any (fun u => !withinPct u nom 3) && decide (nom * 2 * dev < (max a (max b c) - min a (min b c)) * 100))
        | some a, _, _ => some (!withinPct a nom 3 && !withinPct a uh dev)
        | none, _, _ => none
    | _, _ => none

/-- A signature bit becomes set: SIGNATURE once (R413). -/
def State.setSignature (s : State) (h b day : Nat) : State :=
  let s := { s with bal := { s.bal with sigTrue := Assoc.put (h * 8 + b) day s.bal.sigTrue } }
  let v := s.nat Attr.EndpointBalance.signatures h
  if bit v b then s else (s.setNat Attr.EndpointBalance.signatures h (v ||| 2 ^ b)).balRaise 0x0C04 (objPath 0x0802 h) [h, b]

/-- Tests NEUTRAL for the members of a group at a COMPLETE or PARTIAL interval: `neutral_hits` of the last 96 intervals. -/
def State.testNeutral (s : State) (g t : Nat) (hr : IRec) : State :=
  (s.ownMembers g t).foldl
    (fun s h =>
      match s.neutralHit h t hr with
      | none => s
      | some b =>
        let l := ((t, b) :: ((Assoc.find h s.bal.neutral).getD []).filter (fun x => x.1 != t && decide (t < x.1 + 96))).take 96
        let s := { s with bal := { s.bal with neutral := Assoc.put h l s.bal.neutral } }
        if s.nat Attr.BalanceService.neutralHits 0 ≤ l.countP Prod.snd then s.setSignature h 2 (t / 96) else s) s

/-! ### Evaluation (R399–R403) -/

/-- GroupResidual instance of an interval (R424). -/
def resInst (g t : Nat) : Nat := g * 4096 + t % 2688

/-- Whether an interval of a group has been evaluated. -/
def State.evaluated (s : State) (g t : Nat) : Bool := s.alive 0x0804 (resInst g t) && s.nat Attr.GroupResidual.interval (resInst g t) == t

/-- Writes a GroupResidual entry (R424); a status that reports no residual leaves it 0 (log 30). -/
def State.writeResidual (s : State) (g t : Nat) (r : Residual) : State :=
  let i := resInst g t
  let n := if s.evaluated g t then min (s.nat Attr.GroupResidual.evaluations i + 1) 255 else 1
  let s := s.create 0x0804 i
  let s := (s.setNat Attr.GroupResidual.interval i t).setNat Attr.GroupResidual.status i r.status
  let s := (s.setInt Attr.GroupResidual.headWh i (Dbl.nearest r.head)).setInt Attr.GroupResidual.membersWh i (Dbl.nearest r.sum)
  let s := (s.setInt Attr.GroupResidual.lossWh i (Dbl.nearest r.loss)).setInt Attr.GroupResidual.residualWh i (if reported r.status then Dbl.nearest r.residual else 0)
  ((s.setNat Attr.GroupResidual.coverage i r.coverage).setNat Attr.GroupResidual.estimatedShare i (min r.estShare 65535)).setNat Attr.GroupResidual.evaluations i n

/-- Evaluates a group's interval, first or again (R400–R403): the fit and the attribution take only a first COMPLETE evaluation. -/
def State.evaluateGroup (s : State) (g t : Nat) : State :=
  match s.defAt g t with
  | none => s
  | some d =>
    let again := s.evaluated g t
    let r := s.residual g t d
    let s := s.writeResidual g t r
    let learning := s.nat Attr.BalanceGroup.state g = 0
    let s := if again then s else s.setNat Attr.BalanceGroup.lastEvaluated g (max t (s.nat Attr.BalanceGroup.lastEvaluated g))
    let s := if r.status = 6 ∧ !again then
        (s.fit g d (Dbl.sub (Dbl.sub r.head r.sum) (Dbl.ofInt d.fixed)) (Dbl.mul r.head r.head) (r.excess || r.deficit)).attribute g t r.residual
      else s
    let gr := s.group g
    let hist := if r.status = 6 ∧ !learning then insertHist (t, r.excess, r.deficit) gr.hist else gr.hist.filter (fun x => x.1 != t)
    let s := s.setGroup g { gr with hist := hist.take 672 }
    let s := if learning ∧ s.nat Attr.BalanceService.fitMinUpdates 0 ≤ s.nat Attr.BalanceGroup.updates g then s.setNat Attr.BalanceGroup.state g 1 else s
    let s := s.groupState g
    match (if d.head = noHead then none else s.headRec d.head t) with
    | some hr => if r.status = 6 ∨ r.status = 4 then s.testNeutral g t hr else s
    | none => s

/-- A group and the groups above it at an interval (R393): at most 4. -/
def State.ancestors (s : State) (t : Nat) : Nat → Nat → List Nat
  | 0, _ => []
  | n + 1, g => g :: (match s.defAt g t with
    | some d => if d.parent = noGroup then [] else s.ancestors t n d.parent
    | none => [])

/-- The groups a record of a handle bears on: those it heads and that it is a member of, with the groups above them. -/
def State.groupsOf (s : State) (h t : Nat) : List Nat :=
  let heads := (s.bal.groups.filter (fun (x : Nat × Group) => (s.defAt x.1 t).any (fun (d : GroupDef) => d.head == h))).map Prod.fst
  let g := (s.memberAt h t).group
  ((heads ++ (if g = noGroup then [] else [g])).flatMap (fun g => s.ancestors t 4 g)).eraseDups

/-- BAL takes the records of the commit stream it has not taken (R16, R323); those of evaluated intervals within `reeval_days` evaluate them again (R401). -/
def State.takeBalance (s : State) : State :=
  let xs := s.sto.balStream
  let s := { s with sto := { s.sto with balStream := [] } }
  let old := s.nowInterval - s.nat Attr.BalanceService.reevalDays 0 * 96
  let todo := (xs.flatMap (fun x => ((s.groupsOf x.1 x.2.1).filter (fun g => s.evaluated g x.2.1 && decide (old ≤ x.2.1))).map (fun g => (g, x.2.1)))).eraseDups
  todo.foldl (fun s y => s.evaluateGroup y.1 y.2) s

/-- Whether a group's interval is due (R399): `settle_h` past its end. -/
def State.settled (s : State) (t : Nat) : Bool :=
  decide ((t + 1) * 900 + s.nat Attr.BalanceService.settleH 0 * 3600 ≤ s.serviceSec)

/-- Whether the head record and every member record of an interval are held. -/
def State.allHeld (s : State) (g t : Nat) : Bool :=
  (s.defAt g t).any (fun d => decide (d.head ≠ noHead) && (s.held d.head t).isSome) && (s.ownMembers g t).all (fun h => (s.held h t).isSome) &&
    ((s.membersAt g t).filter (fun h => s.homeOf h != s.twn.self)).all
      (fun h => ((Assoc.find (g * 2 ^ 32 + t) s.bal.remote).getD []).any (fun x => x.member == s.homeOf h))

/-- BALANCE_EVALUATE (R399, R401, R421): BAL takes what the stream holds, then evaluates the interval when it is due, on the chip that evaluates the group. -/
def execBalanceEvaluate (g t : Nat) (s : State) : Out :=
  if s.cutOff 12 0 ∨ s.unset then .next s
  else
    let s := s.takeBalance
    if s.groupHome g ≠ s.twn.self ∨ s.nowInterval ≤ t ∨ s.evaluated g t ∨ !(s.settled t || s.allHeld g t) then .next s
    else .next (s.evaluateGroup g t)

/-! ### GROUP_DEFINE and MEMBERSHIP_APPLY (R394–R397) -/

/-- Whether an effective interval is not too early (R396). -/
def State.effectiveOk (s : State) (t : Nat) : Bool := decide (s.nowInterval ≤ t + s.nat Attr.BalanceService.reevalDays 0 * 96)

/-- The evaluated intervals of a group at or after one. -/
def State.evaluatedFrom (s : State) (g t : Nat) : List Nat :=
  (((s.instances 0x0804).filter (fun i => i / 4096 == g)).map (s.nat Attr.GroupResidual.interval)).filter (fun i => decide (t ≤ i))

/-- Evaluates again what the change of some groups bears on (R396). -/
def State.evaluateAgain (s : State) (gs : List Nat) (t : Nat) : State :=
  let todo := ((gs.flatMap (fun g => s.ancestors (max t s.nowInterval) 4 g ++ [g])).eraseDups).flatMap (fun g => (s.evaluatedFrom g t).map (fun i => (g, i)))
  todo.foldl (fun s y => s.evaluateGroup y.1 y.2) s

/-- Depth of the parent chain above and with a group, as far as 5. -/
def State.chainUp (s : State) (t g p : Nat) : List Nat := if p = noGroup then [g] else g :: s.ancestors t 5 p

/-- Depth of the groups below a group. -/
def State.depthBelow (s : State) (t : Nat) : Nat → Nat → Nat
  | 0, _ => 0
  | n + 1, g => ((s.childrenAt g t).map (fun c => s.depthBelow t n c + 1)).foldl max 0

/-- The definition of a GROUP_DEFINE payload (Table 10-1): group number and definition; none where a field is out of range. -/
def parseGroup (b : Bytes) : Option (Nat × GroupDef) :=
  let g := field b 4 2
  let near := (List.range (octet b 28)).map (fun k => field b (32 + 2 * k) 2)
  let rest := (List.range (8 - octet b 28)).map (fun k => field b (32 + 2 * (octet b 28 + k)) 2)
  let opt := fun (v none' top : Nat) => v == none' || decide (v ≤ top)
  if b.length = 48 ∧ 1 ≤ octet b 0 ∧ octet b 0 ≤ 2 ∧ octet b 1 ≤ 2 ∧ octet b 2 ≤ 11 ∧ octet b 3 = 0 ∧ g ≤ 8191 ∧ opt (field b 6 2) noGroup 8191 ∧
      opt (field b 8 4) noHead 1572863 ∧ opt (field b 12 2) 0xFFFF 511 ∧ field b 14 2 = 0 ∧ field b 20 4 ≤ 16777214 ∧ field b 24 4 ≤ 1000000 ∧
      octet b 28 ≤ 8 ∧ field b 29 3 = 0 ∧ near.all (fun x => decide (x ≤ 8191)) ∧ rest.all (fun x => x == 0xFFFF) then
    some (g, { start := field b 16 4, gone := octet b 0 == 2, kind := octet b 1, vector := octet b 2, parent := field b 6 2, head := field b 8 4,
               cell := field b 12 2, fixed := field b 20 4, rated := field b 24 4, near := near })
  else none

/-- GROUP_DEFINE (R394–R396, R401, R403). A daily run is one step, so none is in progress when a command runs (R397). -/
def doGroupDefine : Body := fun c s =>
  match parseGroup c.payload with
  | none => (⟨.badValue, []⟩, s)
  | some (g, d) =>
    let t := d.start
    let up := s.chainUp t g d.parent
    let headTaken := decide (d.head ≠ noHead) &&
      ((s.memberAt d.head t).group != noGroup || s.bal.groups.any (fun (x : Nat × Group) => x.1 != g && (s.defAt x.1 t).any (fun (y : GroupDef) => y.head == d.head)))
    if !s.effectiveOk t then (⟨.badValue, []⟩, s)
    else if d.gone then
      if !(s.membersAt g t).isEmpty ∨ !(s.childrenAt g t).isEmpty then (⟨.badValue, []⟩, s)
      else
        let s := s.setGroup g { s.group g with defs := d :: (s.group g).defs }
        (⟨.ok, []⟩, if t ≤ s.nowInterval then s.destroy 0x0801 g else s)
    else if headTaken ∨ (up.drop 1).contains g ∨ 4 < up.length + s.depthBelow t 4 g then (⟨.badValue, []⟩, s)
    else
      let old := s.group g
      let fresh := (old.defs.head?).all GroupDef.gone
      let gr : Group := if fresh then { defs := d :: old.defs } else { old with defs := d :: old.defs, hist := [] }
      let s := s.create 0x0801 g
      let s := if fresh then ((s.setNat Attr.BalanceGroup.updates g 0).setNat Attr.BalanceGroup.state g 0).setNat Attr.BalanceGroup.lossCoeff g 0 else s
      (⟨.ok, []⟩, ((s.setGroup g gr).groupState g).evaluateAgain [g] t)

/-- Changes a membership from an interval (R396, R405, R419, R420): MEMBERSHIP_CHANGED; a change of group resets the attribution sums. -/
def State.changeMembership (s : State) (h g ph t cause : Nat) : State :=
  let was := s.memberAt h t
  let l := (Assoc.find h s.bal.members).getD []
  let s := { s with bal := { s.bal with members := Assoc.put h (⟨t, g, ph⟩ :: l) s.bal.members } }
  let s := if was.group = g then s
    else ({ s with bal := { s.bal with sums := Assoc.del h s.bal.sums } }).setInt Attr.EndpointBalance.rho h 0 |>.setInt Attr.EndpointBalance.beta h 0
  let s := (s.balRaise 0x0C07 (objPath 0x0802 h) [h, was.group, was.phase, g, ph, cause]).showBins h
  if was.group = g then s else s.evaluateAgain ((if was.group = noGroup then [] else [was.group]) ++ (if g = noGroup then [] else [g])) t

/-- One explicit entry of MEMBERSHIP_APPLY: its status and the state after it. -/
def State.applyExplicit (s : State) (b : Bytes) (t : Nat) : Status × State :=
  let h := field b 0 4 % 2 ^ 21
  let g := field b 4 2
  let ph := octet b 6
  let lock := octet b 7
  if 7 < ph ∨ 2 < lock then (.badValue, s)
  else if !s.endpoint h ∨ (g ≠ noGroup ∧ (s.defAt g t).isNone) then (.notFound, s)
  else if g ≠ noGroup ∧ (!s.flag Attr.EndpointChannel.present (h * 8) ∨
      s.bal.groups.any (fun (x : Nat × Group) => (s.defAt x.1 t).any (fun (y : GroupDef) => y.head == h))) then (.badValue, s)
  else
    let s := if lock = 0 then s else s.setFlag Attr.EndpointBalance.membershipLocked h (lock == 1)
    let was := s.memberAt h t
    (.ok, if was.group = g ∧ was.phase = ph then s else s.changeMembership h g ph t 1)

/-- One proposal of MEMBERSHIP_APPLY. -/
def State.applyProposal (s : State) (n t st : Nat) : Status × State :=
  if 4096 ≤ n then (.notFound, s)
  else if s.nat Attr.MembershipProposal.state n ≠ 1 then (.stale, s)
  else
    let s := s.setNat Attr.MembershipProposal.state n st
    (.ok, s.changeMembership (s.nat Attr.MembershipProposal.handle n) (s.nat Attr.MembershipProposal.toGroup n) (s.nat Attr.MembershipProposal.toPhase n) t (if st = 3 then 2 else 0))

/-- MEMBERSHIP_APPLY (R394–R397, R420). -/
def doMembershipApply : Body := fun c s =>
  let b := c.data
  let mode := octet b 0
  let n := field b 2 2
  let t := field b 4 4
  let w := if mode = 0 then 4 else 8
  if 1 < mode ∨ octet b 1 ≠ 0 ∨ n = 0 ∨ 1000 < n ∨ b.length ≠ 8 + w * n ∨ !s.effectiveOk t then (⟨.badValue, []⟩, s)
  else
    let r := (records b 8 w n).foldl
      (fun (acc : Bytes × State) e =>
        let x := if mode = 0 then acc.2.applyProposal (field e 0 4) t 2 else acc.2.applyExplicit e t
        (acc.1 ++ leBytes 1 x.1.code, x.2)) ([], s)
    (⟨.ok, pad4 r.1⟩, r.2)

def execGroupDefine (s : State) : Out := runOpcode 0x0801 doGroupDefine s
def execMembershipApply (s : State) : Out := runOpcode 0x0802 doMembershipApply s

/-! ### The daily run: identification (R409–R412) -/

/-- The bin that decides for a candidate (R409). -/
def State.decidingBin (s : State) (h g : Nat) : Option Nat :=
  let b := (s.binsOf h g).take 6
  let total := b.foldl Dbl.add Dbl.zero
  if Dbl.lt total (Dbl.ofInt (s.nat Attr.BalanceService.phaseMinSamples 0)) then none
  else b.findIdx? (fun x => !Dbl.lt (Dbl.mul (Dbl.ofInt 10) x) (Dbl.mul (Dbl.ofInt 9) total))

/-- The phase of a bin (Tables 10-4 and 10-5). -/
def binPhase : Nat → Nat
  | 0 => 1 | 1 => 5 | 2 => 3 | 3 => 4 | 4 => 2 | 5 => 6 | _ => 0

/-- The plain phase of a phase. -/
def plainPhase (p : Nat) : Nat := if 4 ≤ p ∧ p ≤ 6 then p - 3 else p

/-- What ZCO decides (R409): group and phase. -/
def State.zcoDecides (s : State) (h : Nat) : Option Nat × Option Nat :=
  let ds := (s.balanceCandidates h).filterMap (fun g => (s.decidingBin h g).map (fun b => (g, b)))
  match ds with
  | [] => (none, none)
  | [(g, b)] => (some g, some (binPhase b))
  | (_, b) :: t => if t.all (fun x => x.2 == b) then (none, some (binPhase b)) else (none, none)

/-- A first difference of a voltage channel over one interval (R410). -/
def State.voltDiff (s : State) (h k t : Nat) : Option Int :=
  match (s.held h (t - 1)).bind (fun r => r.val k), (s.held h t).bind (fun r => r.val k) with
  | some a, some b => some ((b : Int) - a)
  | _, _ => none

/-- The correlation of two voltage channels' first differences over the 14 days before an interval; none with fewer than 672 pairs (R410). -/
def State.voltRho (s : State) (h hd k e : Nat) : Option Dbl :=
  let ps := (List.range 1343).filterMap (fun j =>
    let t := e - 1343 + j
    match s.voltDiff h 4 t, s.voltDiff hd k t with
    | some a, some b => some (a, b)
    | _, _ => none)
  if ps.length < 672 then none
  else
    let n : Int := ps.length
    let sum := fun (f : Int × Int → Int) => ps.foldl (fun acc x => acc + f x) 0
    let sa := sum Prod.fst
    let sb := sum Prod.snd
    let cov := n * sum (fun x => x.1 * x.2) - sa * sb
    let va := n * sum (fun x => x.1 * x.1) - sa * sa
    let vb := n * sum (fun x => x.2 * x.2) - sb * sb
    if va ≤ 0 ∨ vb ≤ 0 then some Dbl.zero else some (Dbl.div (Dbl.ofInt cov) (Dbl.sqrt (Dbl.mul (Dbl.ofInt va) (Dbl.ofInt vb))))

/-- Inserts by descending correlation. -/
def insertRho (x : Dbl × Nat × Nat) : List (Dbl × Nat × Nat) → List (Dbl × Nat × Nat)
  | [] => [x]
  | y :: t => if Dbl.lt y.1 x.1 then x :: y :: t else y :: insertRho x t

/-- The correlations of an endpoint with the phases of its candidates' heads, best first (R410). -/
def State.voltOrder (s : State) (h e : Nat) : List (Dbl × Nat × Nat) :=
  ((s.balanceCandidates h).flatMap (fun g =>
    match s.defAt g s.nowInterval with
    | none => []
    | some d => if d.head = noHead then [] else [0, 1, 2].filterMap (fun p => (s.voltRho h d.head (4 + p) e).map (fun r => (r, g, p + 1))))).foldl
    (fun l x => insertRho x l) []

/-- Thousandths of a correlation, rounded down. -/
def rhoMilli (d : Dbl) : Int := Dbl.floor (Dbl.mul d (Dbl.ofInt 1000))

/-- What voltage decides (R411), from the ordered correlations. -/
def State.voltDecides (s : State) (l : List (Dbl × Nat × Nat)) : Option (Nat × Nat) :=
  let th := fun n : Nat => Dbl.ratio n 1000
  match l with
  | [] => none
  | (a, g, p) :: t =>
    let clear := match t with
      | [] => true
      | (b, _, _) :: _ => !Dbl.lt (Dbl.sub a b) (th (s.nat Attr.BalanceService.voltRhoMargin 0))
    if !Dbl.lt a (th (s.nat Attr.BalanceService.voltRhoMin 0)) && clear then some (g, p) else none

/-- Combines the two methods (R412, Table 10-6): state, group, phase. INV phases compare as their plain phase. -/
def combineIdent (z : Option Nat × Option Nat) (v : Option (Nat × Nat)) : Nat × Nat × Nat :=
  match v with
  | none => if z.1.isNone ∧ z.2.isNone then (0, noGroup, 0) else (1, z.1.getD noGroup, z.2.getD 0)
  | some (g, p) =>
    if z.1.isNone ∧ z.2.isNone then (2, g, p)
    else
      let gBad := z.1.any (fun x => x != g)
      let pBad := z.2.any (fun x => plainPhase x != p)
      if gBad ∨ pBad then (4, if gBad then noGroup else g, if pBad then 0 else z.2.getD p) else (3, g, z.2.getD p)

/-- Ages the bins of every endpoint by 6/7 (R409). -/
def State.ageBins (s : State) : State :=
  let f := fun (d : Dbl) => Dbl.div (Dbl.mul (Dbl.ofInt 6) d) (Dbl.ofInt 7)
  { s with bal := { s.bal with bins := s.bal.bins.map (fun (x : Nat × List Dbl) => (x.1, x.2.map f)) } }

/-- Whether an endpoint is reached through a DC_BUS port: no phase is identified (Table 10-5). -/
def State.onDc (s : State) (h : Nat) : Bool := (s.primary h).any (fun r => decide (r.port < 16) && s.nat Attr.LinePort.wiring r.port == 3)

/-- Identification of one endpoint (R409–R412), with the streak of R417. -/
def State.identify (s : State) (h day : Nat) : State :=
  let no := s.lin.noZco.contains h
  let l := s.voltOrder h ((day + 1) * 96)
  let v := s.voltDecides l
  let z := if no ∨ s.onDc h then (none, none) else s.zcoDecides h
  let x := if s.onDc h then (0, noGroup, 0) else combineIdent z v
  let s := s.setAttr Attr.EndpointBalance.voltRho h (.arr [((l[0]?).map (fun y => rhoMilli y.1)).getD 0, ((l[1]?).map (fun y => rhoMilli y.1)).getD 0])
  let s := if x.1 = 4 ∧ s.nat Attr.EndpointBalance.identState h ≠ 4 then
      s.balRaise 0x0C08 (objPath 0x0802 h) [h, z.1.getD noGroup, z.2.getD 0, (v.map Prod.fst).getD noGroup, (v.map Prod.snd).getD 0]
    else s
  let s := ((s.setNat Attr.EndpointBalance.identState h x.1).setNat Attr.EndpointBalance.identGroup h x.2.1).setNat Attr.EndpointBalance.identPhase h x.2.2
  let was := (Assoc.find h s.bal.streak).getD ⟨noGroup, 0, 0⟩
  let n := if was.group = x.2.1 ∧ was.phase = x.2.2 then was.days + 1 else 1
  { s with bal := { s.bal with streak := Assoc.put h ⟨x.2.1, x.2.2, n⟩ s.bal.streak } }.showBins h

/-! ### The daily run: signatures (Table 10-7) -/

/-- Sum of A+ of a day; none where no record of the day has it. -/
def State.dayImport (s : State) (h day : Nat) : Option Dbl :=
  let vs := (List.range 96).filterMap (fun k => ((s.held h (day * 96 + k)).bind (fun r => r.val 0)).map (fun (v : Nat) => s.toWh h v))
  if vs.isEmpty then none else some (vs.foldl Dbl.add Dbl.zero)

/-- Inserts into an ascending list. -/
def insertDbl (x : Dbl) : List Dbl → List Dbl
  | [] => [x]
  | y :: t => if Dbl.lt x y then x :: y :: t else y :: insertDbl x t

/-- The median; the mean of the two middle ones of an even count (log 31). -/
def median (l : List Dbl) : Option Dbl :=
  let o := l.foldl (fun a x => insertDbl x a) []
  let n := o.length
  if n = 0 then none
  else if n % 2 = 1 then o[n / 2]?
  else some (Dbl.div (Dbl.add (o.getD (n / 2 - 1) Dbl.zero) (o.getD (n / 2) Dbl.zero)) (Dbl.ofInt 2))

/-- The same weekday of the 28 days before a day. -/
def sameWeekdays (day : Nat) : List Nat := [day - 7, day - 14, day - 21, day - 28]

/-- The daily residual of a group. -/
def State.dayResidual (s : State) (g day : Nat) : Option Int := ((s.group g).days.find? (fun x => x.1 == day)).map Prod.snd

/-- The BYPASS test of one day. -/
def State.bypassDay (s : State) (h day : Nat) : Bool :=
  let g := (s.memberAt h (day * 96)).group
  match s.dayImport h day, median ((sameWeekdays day).filterMap (s.dayImport h)), s.dayResidual g day,
      median ((sameWeekdays day).filterMap (fun d => (s.dayResidual g d).map Dbl.ofInt)) with
  | some a, some base, some r, some rb =>
    let drop := Dbl.sub base a
    let us := (List.range 96).filterMap (fun k => (s.held h (day * 96 + k)).bind (fun q => q.val 4))
    let recs := (List.range 96).countP (fun k => (s.held h (day * 96 + k)).isSome)
    let ok := us.countP (fun u => withinPct u (s.nat Attr.EndpointProfile.nominalV h) (s.nat Attr.ValidationRules.voltTolPct (s.ruleSet h)))
    0 < drop.m && !Dbl.lt (Dbl.mul (Dbl.ofInt 100) drop) (Dbl.mul (Dbl.ofInt (s.nat Attr.BalanceService.bypassDropPct 0)) base) &&
      !Dbl.lt (Dbl.mul (Dbl.ofInt 2) (Dbl.sub (Dbl.ofInt r) rb)) drop && decide (recs * 90 ≤ ok * 100)
  | _, _, _, _ => false

/-- The REVERSED test of a day. -/
def State.reversedDay (s : State) (h day : Nat) : Bool :=
  !s.flag Attr.EndpointBalance.exportPermitted h &&
    decide (4 ≤ (List.range 96).countP (fun k =>
      ((s.held h (day * 96 + k)).bind (fun r => r.val 1)).any (fun v => Dbl.lt (Dbl.ofInt (s.nat Attr.BalanceService.revFloorWh 0)) (s.toWh h v))))

/-- A test of a day: sets the bit, or clears it after 7 consecutive days of false (R413). -/
def State.signatureDay (s : State) (h b day : Nat) (t : Bool) : State :=
  if t then s.setSignature h b day
  else
    let v := s.nat Attr.EndpointBalance.signatures h
    if bit v b ∧ (Assoc.find (h * 8 + b) s.bal.sigTrue).all (fun d => decide (d + 7 ≤ day)) then s.setNat Attr.EndpointBalance.signatures h (v - 2 ^ b) else s

/-- The daily signature tests of an endpoint; NEUTRAL's bit only clears here. -/
def State.signatures (s : State) (h day : Nat) : State :=
  let s := s.signatureDay h 0 day (s.reversedDay h day)
  let s := s.signatureDay h 1 day ((List.range (s.nat Attr.BalanceService.bypassDays 0)).all (fun k => s.bypassDay h (day - k)))
  s.signatureDay h 2 day (decide (s.nat Attr.BalanceService.neutralHits 0 ≤ ((Assoc.find h s.bal.neutral).getD []).countP (fun x => x.2 && decide (x.1 / 96 == day))))

/-! ### The daily run: scores (R405, R415, R416) -/

/-- Whether an endpoint is an attribution candidate (R405). -/
def State.candidateFor (s : State) (h : Nat) : Bool :=
  let g := (s.memberAt h s.nowInterval).group
  let m := (Assoc.find h s.bal.sums).getD {}
  g != noGroup && s.nat Attr.BalanceGroup.state g == 2 && !Dbl.lt m.rho (Dbl.ratio (s.nat Attr.BalanceService.attribRho 0) 1000) && decide (0 < m.beta.m)

/-- The components of an endpoint's score (Table 10-8). -/
def State.scoreParts (s : State) (h : Nat) : List Nat :=
  let w := fun k : Nat => (s.elem Attr.BalanceService.scoreWeights 0 k).toNat
  let sig := s.nat Attr.EndpointBalance.signatures h
  let mm := s.flag Attr.RegisterComparison.mismatch h
  let last := s.nat Attr.RegisterComparison.lastResult h
  let ph := s.nat Attr.EndpointBalance.identPhase h
  let p := fun (k : Nat) (b : Bool) => if b then w k else 0
  [if s.candidateFor h then (Dbl.floor (Dbl.mul (Dbl.ofInt (w 0)) ((Assoc.find h s.bal.sums).getD {}).rho)).toNat else 0,
   p 1 (bit sig 1), p 2 (bit sig 0), p 3 (mm && last == 2), p 4 (mm && last == 1), p 5 (bit sig 2), p 6 (decide (4 ≤ ph ∧ ph ≤ 6)),
   p 7 (s.nat Attr.EndpointBalance.identState h == 4)]

/-- Publishes an endpoint's score (R415, R416). -/
def State.publishScore (s : State) (h : Nat) : State :=
  let parts := s.scoreParts h
  let was := s.nat Attr.EndpointBalance.score h
  let new := max (min parts.sum 1000) (was * s.nat Attr.BalanceService.scoreDecay 0 / 1000)
  let alert := s.nat Attr.BalanceService.scoreAlert 0
  let s := (s.setAttr Attr.EndpointBalance.scoreParts h (.arr (parts.map Int.ofNat))).setNat Attr.EndpointBalance.score h new
  if was < alert ∧ alert ≤ new then s.balRaise 0x0C05 (objPath 0x0802 h) [h, new] else s

/-! ### The daily run: proposals (R417–R419) -/

/-- The slot of a new proposal (R418): the next FREE number, else that of the oldest proposal that is not OPEN. -/
def State.proposalSlot (s : State) : Option Nat :=
  if s.bal.nextProposal < 4096 ∧ s.nat Attr.MembershipProposal.state s.bal.nextProposal = 0 then some s.bal.nextProposal
  else s.bal.order.find? (fun n => s.nat Attr.MembershipProposal.state n != 1)

/-- The OPEN proposal of an endpoint. -/
def State.openProposal (s : State) (h : Nat) : Option Nat :=
  s.bal.order.find? (fun n => s.nat Attr.MembershipProposal.state n == 1 && s.nat Attr.MembershipProposal.handle n == h)

/-- Whether an identification may carry a proposal (R417). -/
def State.identSolid (s : State) (h : Nat) : Bool :=
  let st := s.nat Attr.EndpointBalance.identState h
  (st == 3 || (s.lin.noZco.contains h && (st == 1 || st == 2))) && s.nat Attr.EndpointBalance.identGroup h != noGroup && s.nat Attr.EndpointBalance.identPhase h != 0

/-- Withdraws an OPEN proposal the identification no longer supports (R418). -/
def State.withdraw (s : State) (n : Nat) : State :=
  let h := s.nat Attr.MembershipProposal.handle n
  if s.nat Attr.MembershipProposal.state n ≠ 1 ∨
      (s.identSolid h ∧ s.nat Attr.EndpointBalance.identGroup h = s.nat Attr.MembershipProposal.toGroup n ∧
        s.nat Attr.EndpointBalance.identPhase h = s.nat Attr.MembershipProposal.toPhase n) then s
  else s.setNat Attr.MembershipProposal.state n 4

/-- Creates a proposal for an endpoint when R417 asks for one. -/
def State.propose (s : State) (h : Nat) : State :=
  let m := s.memberAt h s.nowInterval
  let g := s.nat Attr.EndpointBalance.identGroup h
  let p := s.nat Attr.EndpointBalance.identPhase h
  if !s.identSolid h ∨ (g = m.group ∧ p = m.phase) ∨ s.flag Attr.EndpointBalance.membershipLocked h ∨ (s.openProposal h).isSome ∨
      !(Assoc.find h s.bal.streak).any (fun (x : Streak) => decide (s.nat Attr.BalanceService.proposeDays 0 ≤ x.days)) then s
  else
    match s.proposalSlot with
    | none => s.bump 32 Attr.BalanceService.proposalsDropped 0
    | some n =>
      let s := { s with bal := { s.bal with
        order := s.bal.order.filter (fun k => k != n) ++ [n], nextProposal := if n = s.bal.nextProposal then n + 1 else s.bal.nextProposal } }
      let s := (s.setNat Attr.MembershipProposal.handle n h).setNat Attr.MembershipProposal.fromGroup n m.group
      let s := (s.setNat Attr.MembershipProposal.toGroup n g).setNat Attr.MembershipProposal.fromPhase n m.phase
      let s := (s.setNat Attr.MembershipProposal.toPhase n p).setNat Attr.MembershipProposal.basis n (s.nat Attr.EndpointBalance.identState h)
      let s := (s.setNat Attr.MembershipProposal.created n s.nowInterval).setNat Attr.MembershipProposal.state n 1
      s.balRaise 0x0C06 (objPath 0x0803 n) [h, n, g, p]

/-- Applies the CONFIRMED proposals of groups with `auto_apply`, in ascending handle order, at most `auto_max_per_day` per group (R419). -/
def State.autoApply (s : State) (hs : List Nat) (t : Nat) : State :=
  (hs.foldl
    (fun (acc : List (Nat × Nat) × State) h =>
      match acc.2.openProposal h with
      | none => acc
      | some n =>
        let g := acc.2.nat Attr.MembershipProposal.fromGroup n
        let k := (Assoc.find g acc.1).getD 0
        if acc.2.nat Attr.MembershipProposal.basis n = 3 ∧ acc.2.flag Attr.BalanceGroup.autoApply g ∧ k < acc.2.nat Attr.BalanceService.autoMaxPerDay 0 then
          (Assoc.put g (k + 1) acc.1, (acc.2.applyProposal n t 3).2)
        else acc) ([], s)).2

/-- Sums a group's reported residuals and losses of a day (R423), keeping 42 days. -/
def State.closeDay (s : State) (g day : Nat) : State :=
  let is := ((List.range 96).map (fun k => day * 96 + k)).filter (fun t => s.evaluated g t && reported (s.nat Attr.GroupResidual.status (resInst g t)))
  let r := is.foldl (fun n t => n + s.int Attr.GroupResidual.residualWh (resInst g t)) 0
  let l := is.foldl (fun n t => n + s.int Attr.GroupResidual.lossWh (resInst g t)) 0
  let gr := s.group g
  ((s.setGroup g { gr with days := ((day, r) :: gr.days).take 42 }).setInt Attr.BalanceGroup.residualDayWh g r).setInt Attr.BalanceGroup.lossDayWh g l

/-- One daily run (R414), in its seven parts. -/
def State.dailyRun (s : State) (day : Nat) : State :=
  let hs := s.instances 0x0501
  let s := s.bal.groups.foldl (fun s x => s.closeDay x.1 day) s
  let s := s.ageBins
  let s := hs.foldl (fun s h => s.identify h day) s
  let s := hs.foldl (fun s h => if (s.memberAt h (day * 96)).group = noGroup then s else s.signatures h day) s
  let s := hs.foldl State.publishScore s
  let s := s.bal.order.foldl State.withdraw s
  let s := hs.foldl State.propose s
  let s := s.autoApply hs ((day + 1) * 96)
  { s with bal := { s.bal with lastRun := some day } }

/-- DAILY_RUN (R414, R422): the run for the oldest UTC day that has ended and has had none, `daily_run_min` after it ended; none while BAL is fenced, in SHADOW,
or while the chip commits nothing. -/
def execDailyRun (s : State) : Out :=
  let today := s.nowInterval / 96
  let day := match s.bal.lastRun with
    | some d => d + 1
    | none => today - 1
  if s.cutOff 12 0 ∨ !s.commits ∨ s.unset ∨ today ≤ day ∨ s.serviceSec < (day + 1) * 86400 + s.nat Attr.BalanceService.dailyRunMin 0 * 60 then .next s
  else .next (s.takeBalance.dailyRun day)

/-- PROPOSAL_EXPIRY (R418): 30 days after its creation an OPEN proposal becomes EXPIRED. -/
def execProposalExpiry (n : Nat) (s : State) : Out :=
  if s.nat Attr.MembershipProposal.state n = 1 ∧ s.nat Attr.MembershipProposal.created n + 30 * 96 ≤ s.nowInterval then
    .next (s.setNat Attr.MembershipProposal.state n 5)
  else .next s

/-- BALANCE_SUMS_DEADLINE (R421): at `settle_h` the interval is evaluated; the members of a chip whose sums have not arrived are absent. -/
def execBalanceSumsDeadline (g t : Nat) (s : State) : Out :=
  if s.cutOff 12 0 ∨ s.groupHome g ≠ s.twn.self ∨ !s.settled t then .next s
  else
    let s := s.takeBalance
    if s.evaluated g t then .next s else .next (s.evaluateGroup g t)

end Sys2Proof.Machine
end

