-- ==== Sys2Proof/Machine/Light.lean ====
section
/-! DEFINITION. City lighting (11_lighting.md): schedules and nights, levels in force, LIGHT_CMD units, traffic, leases and safe levels, faults, lantern records, circuits,
overrides. -/

namespace Sys2Proof.Machine

/-! ### Schedules (R432–R436) -/

/-- The calendar whose offset rule a lighting schedule uses, at a time in s; none for UTC. -/
def State.lightCalendar (s : State) (k t : Nat) : Option Calendar :=
  let n := s.nat Attr.LightingSchedule.calendar k
  if n = 0xFF then none else ((s.calSlot n).genAt (t / 900)).map (fun g => g.1.image)

/-- Local day number of a time in s. -/
def State.localDay (s : State) (k t : Nat) : Nat :=
  match s.lightCalendar k t with
  | none => t / 86400
  | some c => c.localOf (t / 900) / 96

/-- UTC time in s of a local minute of a day (R346, R347). -/
def State.localMinute (s : State) (k t d m : Nat) : Nat :=
  match s.lightCalendar k t with
  | none => d * 86400 + m * 60
  | some c => c.instant (d * 96 + m / 15) * 900 + m % 15 * 60

/-- Polar condition of a date for a schedule (R433). -/
def State.polarOf (s : State) (k d : Nat) : Nat :=
  Config.polar (s.int Attr.LightingSchedule.latitudeUd k) (s.int Attr.LightingSchedule.longitudeUd k) (s.int Attr.LightingSchedule.sunElevation k) d

/-- Start of the night of a date: dusk + `on_offset_min`. -/
def State.nightOn (s : State) (k d : Nat) : Nat :=
  ((Config.dusk (s.int Attr.LightingSchedule.latitudeUd k) (s.int Attr.LightingSchedule.longitudeUd k) (s.int Attr.LightingSchedule.sunElevation k) d : Int) +
    s.int Attr.LightingSchedule.onOffsetMin k * 60).toNat

/-- End of the night of a date: the next dawn + `off_offset_min`; a date without dawn is passed over (R433). -/
def State.nightOff (s : State) (k d : Nat) : Nat :=
  let n := ((List.range 200).find? (fun j => s.polarOf k (d + 1 + j) != 2)).getD 0
  ((Config.dawn (s.int Attr.LightingSchedule.latitudeUd k) (s.int Attr.LightingSchedule.longitudeUd k) (s.int Attr.LightingSchedule.sunElevation k) (d + 1 + n) : Int) +
    s.int Attr.LightingSchedule.offOffsetMin k * 60).toNat

/-- The date whose night runs at a time, if any: a night starts only on a date with a dusk (R433). -/
def State.nightAt (s : State) (k t : Nat) : Option Nat :=
  let today := s.localDay k t
  ((List.range 200).map (fun j => today - j)).find? (fun d => s.polarOf k d == 0 && decide (s.nightOn k d ≤ t) && decide (t < s.nightOff k d))

/-- Entry `j` of `steps` (R434): anchor, minute, level. -/
def State.stepEntry (s : State) (k j : Nat) : Nat × Int × Nat :=
  let b := slice (s.octets Attr.LightingSchedule.steps k) (6 * j) 6
  (octet b 0, sfield b 2 2, field b 4 2)

/-- The steps of a night with their instants; those outside the night are ignored (R434). -/
def State.nightSteps (s : State) (k d : Nat) : List (Nat × Nat) :=
  let on := s.nightOn k d
  let off := s.nightOff k d
  (List.range 8).filterMap (fun j =>
    let e := s.stepEntry k j
    let at? : Option Nat := match e.1 with
      | 1 => some ((on : Int) + e.2.1 * 60).toNat
      | 3 => some ((off : Int) + e.2.1 * 60).toNat
      | 2 => [s.localMinute k on d e.2.1.toNat, s.localMinute k on (d + 1) e.2.1.toNat].find? (fun x => decide (on ≤ x) && decide (x < off))
      | _ => none
    (at?.filter (fun x => decide (on ≤ x) && decide (x < off))).map (fun x => (x, e.2.2)))

/-- The special level of a date (R436): an entry with its year before one with year 0. -/
def State.specialLevel (s : State) (k d : Nat) : Option Nat :=
  let c := civil d
  let b := s.octets Attr.LightingSchedule.specialDays k
  let es := ((List.range 32).map (fun j => slice b (8 * j) 8)).filter (fun e => decide (field e 4 2 ≠ 0xFFFF) && octet e 2 == c.2.1 && octet e 3 == c.2.2 && !e.isEmpty)
  match es.find? (fun e => field e 0 2 == c.1) with
  | some e => some (field e 4 2)
  | none => (es.find? (fun e => field e 0 2 == 0)).map (fun e => field e 4 2)

/-- The schedule level at an instant of the night of a date (R435, R436). -/
def State.scheduleLevel (s : State) (k d t : Nat) : Nat :=
  match s.specialLevel k d with
  | some l => l
  | none =>
    let st := s.nightSteps k d
    let last := (st.filter (fun x => decide (x.1 ≤ t))).foldl (fun best x => match best with
      | none => some x
      | some y => if y.1 ≤ x.1 then some x else some y) none
    let first := st.foldl (fun best x => match best with
      | none => some x
      | some y => if x.1 < y.1 then some x else some y) none
    ((last.or first).map Prod.snd).getD 1000

/-- Daytime of a schedule (11_lighting.md, Faults): from dawn + 30 min to dusk − 30 min. -/
def State.daytime (s : State) (k t : Nat) : Bool :=
  let d := s.localDay k t
  let lat := s.int Attr.LightingSchedule.latitudeUd k
  let lon := s.int Attr.LightingSchedule.longitudeUd k
  let el := s.int Attr.LightingSchedule.sunElevation k
  decide (Config.dawn lat lon el d + 1800 ≤ t) && decide (t + 1800 ≤ Config.dusk lat lon el d)

/-! ### Levels in force (R431, Table 11-1) -/

/-- The lanterns of a segment. -/
def State.segLanterns (s : State) (g : Nat) : List Nat :=
  (s.instances 0x0501).filter (fun h => s.nat Attr.EndpointProfile.role h == 1 && s.nat Attr.Lantern.segment h == g)

/-- Whether a lantern's circuit is ISOLATED. -/
def State.lanternIsolated (s : State) (h : Nat) : Bool :=
  let c := s.nat Attr.Lantern.circuit h
  c != 0xFF && s.nat Attr.LightingCircuit.state c == 0

/-- A segment's circuit is ISOLATED: every lantern it has is on an ISOLATED circuit (log 22). -/
def State.segIsolated (s : State) (g : Nat) : Bool :=
  let l := s.segLanterns g
  !l.isEmpty && l.all s.lanternIsolated

/-- The traffic level of a segment while its hold runs. -/
def State.trafficLevel (s : State) (g t : Nat) : Nat :=
  if t < s.nat Attr.LightingSegment.holdUntil g then ((Assoc.find g s.lux.traffic).map Prod.fst).getD 0 else 0

/-- The override of a segment or lantern. -/
def State.override (s : State) (lantern : Bool) (id : Nat) : Option Override := s.lux.overrides.find? (fun o => o.lantern == lantern && o.id == id)

/-- Level and cause of a segment (Table 11-1). -/
def State.levelInForce (s : State) (g : Nat) : Nat × Nat :=
  let t := s.serviceSec
  if s.segIsolated g then (0, 5)
  else
    match s.override false g with
    | some o => (o.level, 3)
    | none =>
      let k := s.nat Attr.LightingSegment.schedule g
      let traffic := s.trafficLevel g t
      match s.nightAt k t with
      | some d =>
        let l := s.scheduleLevel k d t
        (max l traffic, if l < traffic then 2 else 1)
      | none =>
        let r := s.nat Attr.LightingSegment.rule g
        if r ≠ 0xFF ∧ s.flag Attr.TrafficRule.dayActive r then (traffic, if 0 < traffic then 2 else 0) else (0, 0)

/-! ### LIGHT_CMD units (R441–R444) -/

/-- An entry of a LIGHT_CMD unit (Table 11-4). -/
def lightEntry (group level ramp serial : Nat) : Bytes := leBytes 2 group ++ leBytes 2 level ++ leBytes 2 ramp ++ [0, 0] ++ leBytes 4 serial

/-- The body of a LIGHT_CMD unit (Table 11-4). -/
def State.lightBody (s : State) (c cmd : Nat) (entries : List Bytes) : Bytes :=
  leBytes 1 cmd ++ leBytes 1 entries.length ++ leBytes 2 (s.nat Attr.LineCell.leaseEpoch c) ++ [0, 0, 0, 0] ++ entries.flatten

/-- Whether LUX sends into a cell: not fenced (with GLV), not in SHADOW, no new epoch's condition outstanding (R213, R461). -/
def State.lightSends (s : State) (c : Nat) : Bool :=
  !s.cutOff 13 0 && !s.gloveShut && s.sys.mode != .shadow && !(s.cell c).restoring && s.isLighting c

/-- Sends a multicast unit from queue 7 (R441). -/
def State.sendMulticast (s : State) (c : Nat) (body : Bytes) : State :=
  (s.enqueue (s.nat Attr.LineCell.port c) 7
    { kind := if s.isRemote c then 5 else 1, cell := c, dst16 := 0xFFFF, group := true, body := Config.protectCell c (s.beaconGen c) body,
      producer := .none }).2

/-- Splits a list into runs of 32 (R442). -/
def chunks32 : Nat → List Bytes → List (List Bytes)
  | 0, _ => []
  | n + 1, l => if l.isEmpty then [] else l.take 32 :: chunks32 n (l.drop 32)

/-- Sends entries into a cell as multicast units, to be sent `repeats` times in all (R442, R444). -/
def State.sendEntries (s : State) (c : Nat) (entries : List Bytes) : State :=
  if entries.isEmpty || !s.lightSends c then s
  else
    let s := s.post (.lighting c)
    (chunks32 entries.length entries).foldl (fun s es =>
      let b := s.lightBody c 1 es
      let n := s.nat Attr.LightingService.repeats 0 - 1
      let s := s.sendMulticast c b
      if n = 0 then s else { s with lux := { s.lux with multicasts := s.lux.multicasts ++ [(c, b, n)] } }) s

/-- Entry of a segment's present level. -/
def State.segEntry (s : State) (g ramp : Nat) : Bytes :=
  lightEntry (s.nat Attr.LightingSegment.group g) (s.nat Attr.LightingSegment.level g) ramp (s.nat Attr.LightingSegment.serial g)

/-- The level a lantern shows for its segment; an overridden or lease-expired lantern keeps its own. -/
def State.followSegment (s : State) (h level cause ramp : Nat) : State :=
  if (s.override true h).isSome then s
  else
    let s := s.setNat Attr.Lantern.levelCommanded h level
    if s.nat Attr.Lantern.leaseState h = 3 then s.setNat Attr.Lantern.levelCause h 4
    else (s.setNat Attr.Lantern.levelCause h cause).lit h level (ramp * 10)

/-- Commands the level in force of segments, where it changes, with a ramp in 10 ms; one unit per cell holds what one happening produces (R431, R442); none while
service time is UNSET (R585). -/
def State.command (s : State) (gs : List (Nat × Nat)) : State :=
  if s.unset then s else
  let step := fun (acc : List (Nat × Nat × Bytes) × State) (x : Nat × Nat) =>
    let s := acc.2
    let g := x.1
    let lv := s.levelInForce g
    if lv.2 = 5 then
      let s := (s.setNat Attr.LightingSegment.level g 0).setNat Attr.LightingSegment.cause g 5
      (acc.1, (s.segLanterns g).foldl (fun s h => s.followSegment h 0 5 0) s)
    else
      let s' := s.setNat Attr.LightingSegment.cause g lv.2
      if s.nat Attr.LightingSegment.level g = lv.1 then (acc.1, s')
      else
        let s' := (s'.setNat Attr.LightingSegment.level g lv.1).bump 32 Attr.LightingSegment.serial g
        let s' := (s'.segLanterns g).foldl (fun s h => s.followSegment h lv.1 lv.2 x.2) s'
        (acc.1 ++ [(s'.nat Attr.LightingSegment.cell g, g, s'.segEntry g x.2)], s')
  let r := gs.foldl step ([], s)
  let cells := (r.1.map Prod.fst).eraseDups
  cells.foldl (fun s c => s.sendEntries c ((r.1.filter (fun e => e.1 == c)).map (fun e => e.2.2))) r.2

/-- Segments of a cell. -/
def State.cellSegments (s : State) (c : Nat) : List Nat :=
  ((s.obj.vals.filter (fun e => e.1 / 2 ^ 48 == 0x0902 && e.1 % 256 == 1 && e.2 == .num c)).map (fun e => pathInst e.1))

/-- The lowest multicast group free in a cell (R429, R665). -/
def State.freeGroup (s : State) (c : Nat) : Option Nat :=
  let used := (s.cellSegments c).map (fun g => s.nat Attr.LightingSegment.group g) ++
    s.upd.campaigns.flatMap (fun x => (x.2.groups.filter (fun g => g.1 == c)).map Prod.snd)
  ((List.range 4095).map (· + 1)).find? (fun g => !used.contains g)

/-- The refresh of a cell (R444): the present level and serial of every segment, once. -/
def State.refreshCell (s : State) (c : Nat) : State :=
  if !s.lightSends c ∨ s.unset then s
  else
    let es := (s.cellSegments c).map (fun g => s.segEntry g 0)
    (chunks32 es.length es).foldl (fun s l => s.sendMulticast c (s.lightBody c 1 l)) s

/-- LIGHTING_REFRESH (R444). -/
def execLightingRefresh (c : Nat) (s : State) : Out := .next (s.refreshCell c)

/-- MULTICAST_REPEAT (R444): the oldest unit waiting to be repeated is sent once more. -/
def execMulticastRepeat (s : State) : Out :=
  match s.lux.multicasts with
  | [] => .next s
  | (c, b, n) :: t =>
    let s := { s with lux := { s.lux with multicasts := t ++ (if n ≤ 1 then [] else [(c, b, n - 1)]) } }
    .next (if s.lightSends c then s.sendMulticast c b else s)

/-! ### Unicast to lanterns (R430, R446, R447, R459) -/

/-- The cell of a lantern's primary path. -/
def State.lanternCell (s : State) (h : Nat) : Nat := ((s.primary h).map Route.cell).getD 0xFFFF

/-- Sends a level to one lantern. -/
def State.unicastLevel (s : State) (h level ramp : Nat) : State :=
  let n := s.nextSerial h
  let c := n.2.lanternCell h
  let s := (n.2.setNat Attr.Lantern.levelCommanded h level)
  if !s.lightSends c then s else (s.sendApdu h 7 (s.lightBody c 1 [lightEntry 0 level ramp n.1]) (.lux h)).lit h level (ramp * 10)

/-- Sends SAFE_LEVEL (R446, R447). -/
def State.sendSafeLevel (s : State) (h : Nat) : State :=
  let s := s.setFlag Attr.Lantern.safeLevelConfirmed h false
  let n := s.nextSerial h
  if s.cutOff 13 0 ∨ s.sys.mode = .shadow then n.2
  else n.2.sendApdu h 7 (n.2.lightBody (n.2.lanternCell h) 2 [lightEntry 0 (n.2.nat Attr.Lantern.safeLevel h) 0 n.1]) (.safeLevel h)

/-- Sends GROUP_SET with a lantern's groups, most significant octet first (Table 05-3). -/
def State.sendGroups (s : State) (h : Nat) (gs : List Nat) : State :=
  match s.primary h with
  | none => s
  | some r => if s.cutOff 13 0 ∨ s.sys.mode = .shadow then s
    else s.sendMgmt r.cell r.short 4 (beBytes 2 gs.length ++ (gs.map (beBytes 2)).flatten) (s.linkTo r h) (.lux h)

/-- The groups a lantern belongs to: its segment's, none without a segment or under an override of its own. -/
def State.lanternGroups (s : State) (h : Nat) : List Nat :=
  let g := s.nat Attr.Lantern.segment h
  if g = 0xFFFF ∨ (s.override true h).isSome then [] else [s.nat Attr.LightingSegment.group g]

/-- The level a lantern should have, with its cause: its override, its segment's level, or its safe level without a segment (R446). -/
def State.lanternTarget (s : State) (h : Nat) : Nat × Nat :=
  match s.override true h with
  | some o => (o.level, 3)
  | none =>
    let g := s.nat Attr.Lantern.segment h
    if g = 0xFFFF then (s.nat Attr.Lantern.safeLevel h, 0) else (s.nat Attr.LightingSegment.level g, s.nat Attr.LightingSegment.cause g)

/-- Admission of a lantern (R446): PENDING, SAFE_LEVEL, then its group. -/
def State.lanternAdmitted (s : State) (h : Nat) : State :=
  ((s.setNat Attr.Lantern.leaseState h 1).sendSafeLevel h).sendGroups h (s.lanternGroups h)

/-- A lantern's LEASE_ACK for the current epoch (R446, R448, Table 11-8 bit 4): VALID, then its level. -/
def State.lanternValid (s : State) (h : Nat) : State :=
  let s := (s.setNat Attr.Lantern.leaseState h 2).lanternFault h 4 false
  let x := s.lanternTarget h
  (s.setNat Attr.Lantern.levelCause h x.2).unicastLevel h x.1 0

/-! ### Rows -/

/-- SCHEDULE_STEP (R431, R433, R435): a step, dusk or dawn of a schedule is reached; its segments are commanded with the schedule's ramp. POLAR once a date. -/
def State.scheduleStep (s : State) (k : Nat) : State :=
  let t := s.serviceSec
  let d := s.localDay k t
  let p := s.polarOf k d
  let s := if p ≠ 0 ∧ !s.lux.polar.contains (k, d) then
      ({ s with lux := { s.lux with polar := s.lux.polar ++ [(k, d)] } }).raise 0x0D04 (objPath 0x0903 k) [k, d, p]
    else s
  let s := (s.setNat Attr.LightingSchedule.nextDusk k (((List.range 400).map (fun j => s.nightOn k (d + j))).find? (fun x => t < x) |>.getD 0)).setNat
    Attr.LightingSchedule.nextDawn k (((List.range 400).map (fun j => s.nightOff k (d - 1 + j))).find? (fun x => t < x) |>.getD 0)
  let gs := (List.range 16384).filter (fun g => s.nat Attr.LightingSegment.cell g != 0xFFFF && s.nat Attr.LightingSegment.schedule g == k)
  s.command (gs.map (fun g => (g, s.nat Attr.LightingSchedule.rampS k * 100)))

def execScheduleStep (k : Nat) (s : State) : Out := if s.cutOff 13 0 ∨ 64 ≤ k ∨ s.unset then .next s else .next (s.scheduleStep k)

/-- HOLD_EXPIRY (R440): the traffic level returns to 0 and the level in force is commanded with `ramp_down` of the rule that set the hold. -/
def execHoldExpiry (g : Nat) (s : State) : Out :=
  match Assoc.find g s.lux.traffic with
  | none => .next s
  | some x =>
    if s.cutOff 13 0 then .next s
    else .next (({ s with lux := { s.lux with traffic := Assoc.del g s.lux.traffic } }).command [(g, x.2)])

/-- Removes an override and restores what it replaced (R459). -/
def State.endOverride (s : State) (o : Override) : State :=
  let s := { s with lux := { s.lux with overrides := s.lux.overrides.filter (fun x => !(x.lantern == o.lantern && x.id == o.id)) } }
  if o.lantern then
    let x := s.lanternTarget o.id
    ((s.sendGroups o.id (s.lanternGroups o.id)).setNat Attr.Lantern.levelCause o.id x.2).unicastLevel o.id x.1 o.ramp
  else s.command [(o.id, o.ramp)]

/-- OVERRIDE_EXPIRY (R459). -/
def execOverrideExpiry (lantern : Bool) (id : Nat) (s : State) : Out :=
  match s.override lantern id with
  | none => .next s
  | some o => .next (s.endOverride o)

/-- Enters an override: its level goes out, a lantern leaves its segment's group (R459). -/
def State.startOverride (s : State) (o : Override) (path dur : Nat) : State :=
  let s := ({ s with lux := { s.lux with overrides := s.lux.overrides ++ [o] } }).raise 0x0D05 path [o.id, o.level, dur]
  if o.lantern then ((s.sendGroups o.id []).setNat Attr.Lantern.levelCause o.id 3).unicastLevel o.id o.level o.ramp
  else s.command [(o.id, o.ramp)]

/-- LEVEL_OVERRIDE (R458, R459). -/
def doLevelOverride : Body := fun c s =>
  let level := field c.payload 0 2
  let ramp := field c.payload 2 2
  let dur := field c.payload 4 4
  let id := pathInst c.path
  let lantern := pathCls c.path == 0x0901
  if pathCls c.path ≠ 0x0901 ∧ pathCls c.path ≠ 0x0902 then (⟨.badObject, []⟩, s)
  else if 1000 < level ∨ 6000 < ramp ∨ 604800 < dur then (⟨.badValue, []⟩, s)
  else
    match s.override lantern id with
    | none =>
      if dur = 0 then (⟨.notFound, []⟩, s)
      else if 1024 ≤ s.lux.overrides.length then (⟨.tableFull, []⟩, s)
      else (⟨.ok, []⟩, s.startOverride ⟨lantern, id, level, ramp, s.serviceSec + dur⟩ c.path dur)
    | some o =>
      if dur = 0 then (⟨.ok, []⟩, (s.raise 0x0D05 c.path [id, level, dur]).endOverride { o with ramp := ramp })
      else
        let s := { s with lux := { s.lux with overrides := s.lux.overrides.filter (fun x => !(x.lantern == lantern && x.id == id)) } }
        (⟨.ok, []⟩, s.startOverride ⟨lantern, id, level, ramp, s.serviceSec + dur⟩ c.path dur)
def execLevelOverride (s : State) : Out := runOpcode 0x0901 doLevelOverride s

/-- One reached segment of R440. -/
def State.raiseSegment (s : State) (g r t arrive : Nat) : State :=
  let old := (Assoc.find g s.lux.traffic).getD (0, 0)
  let hold := s.nat Attr.LightingSegment.holdUntil g
  let new := t + arrive + s.nat Attr.TrafficRule.holdS r
  let level := if t < hold then old.1 else 0
  let x := (max level (s.nat Attr.TrafficRule.raiseLevel r), if hold < new then s.nat Attr.TrafficRule.rampDown r else old.2)
  ({ s with lux := { s.lux with traffic := Assoc.put g x s.lux.traffic } }).setNat Attr.LightingSegment.holdUntil g (max hold new)

/-- The breadth-first search of R440: `todo` holds segment, arrival and depth; answers the segments touched. -/
def State.spread (s : State) (r t s0 : Nat) : Nat → List (Nat × Nat × Nat) → List Nat → List Nat → List Nat × State
  | 0, _, _, touched => (touched, s)
  | _, [], _, touched => (touched, s)
  | n + 1, (g, arrive, depth) :: rest, seen, touched =>
    if touched.length = 64 then
      (touched, (s.bump 32 Attr.LightingService.lookaheadTruncated 0).raise 0x0D03 (objPath 0x0902 s0) [s0, 64])
    else
      let s := s.raiseSegment g r t arrive
      let a := arrive + s.nat Attr.LightingSegment.transitS g
      let succ := (s.arr Attr.LightingSegment.successors g).map Int.toNat
      let fresh := if depth < s.nat Attr.TrafficRule.lookaheadDepth r ∧ a ≤ s.nat Attr.TrafficRule.lookaheadS r then
          (succ.filter (fun x => x != 0xFFFF && !seen.contains x)).eraseDups
        else []
      s.spread r t s0 n (rest ++ fresh.map (fun x => (x, a, depth + 1))) (seen ++ fresh) (touched ++ [g])

/-- TRAFFIC_EVENT (R438, R440): LUX takes the oldest event that passed step 6. -/
def execTrafficEvent (s : State) : Out :=
  match s.lux.events with
  | [] => .next s
  | (h, n, _) :: t =>
    if s.cutOff 13 0 then .next s
    else
      let now := s.serviceSec
      let s := { s with lux := { s.lux with events := t } }
      let s := if now / 86400 = s.nat Attr.TrafficSensor.lastEvent h / 86400 then s else s.setAttr Attr.TrafficSensor.counts h (.arr (List.replicate 96 0))
      let i := now / 900 % 96
      let s := s.setElem Attr.TrafficSensor.counts h i ((s.elem Attr.TrafficSensor.counts h i + n) % 65536)
      let s := (s.bump 32 Attr.TrafficSensor.events h).setNat Attr.TrafficSensor.lastEvent h now
      let g := s.nat Attr.TrafficSensor.segment h
      let r := s.nat Attr.LightingSegment.rule g
      if g = 0xFFFF ∨ r = 0xFF ∨ n < s.nat Attr.TrafficRule.minCount r then .next s
      else
        let x := s.spread r now g 66 [(g, 0, 0)] [g] []
        .next (x.2.command (x.1.map (fun k => (k, x.2.nat Attr.TrafficRule.rampUp r))))

/-- LUX_SELF_TEST (R449): on a failed test LUX is fenced. -/
def execLuxSelfTest (pass : Bool) (s : State) : Out := if pass then .next s else .next (s.report 208 0)

/-- LANTERN_SILENT (R452 bit 5): not while its circuit is ISOLATED. -/
def execLanternSilent (h : Nat) (s : State) : Out := if s.lanternIsolated h then .next s else .next (s.lanternFault h 5 true)

/-- SAFE_UNCONFIRMED (R452 bit 6). -/
def execSafeUnconfirmed (h : Nat) (s : State) : Out := if s.flag Attr.Lantern.safeLevelConfirmed h then .next s else .next (s.lanternFault h 6 true)

/-! ### Circuits (R456, R457) -/

/-- Lanterns of a circuit. -/
def State.circuitLanterns (s : State) (c : Nat) : List Nat :=
  (s.instances 0x0501).filter (fun h => s.nat Attr.EndpointProfile.role h == 1 && s.nat Attr.Lantern.circuit h == c)

/-- CIRCUIT_STATE (R457): a contactor reports its state; the energize command that closed it completes (R456). -/
def execCircuitState (c st : Nat) (s : State) : Out :=
  let old := s.nat Attr.LightingCircuit.state c
  if old = st ∨ 64 ≤ c ∨ 2 < st then .next s
  else
    let now := s.serviceMs
    let s := (s.setNat Attr.LightingCircuit.state c st).raise 0x0D06 (objPath 0x0906 c) [c, old, st]
    let s := { s with
      lux := { s.lux with
        isolated :=
          let closed := s.lux.isolated.map (fun x : Nat × Nat × Option Nat => if x.1 = c ∧ x.2.2 = none then (x.1, x.2.1, some now) else x)
          if st = 0 then (c, now, none) :: closed else closed } }
    let s := (s.circuitLanterns c).foldl (fun s h =>
      if st = 0 then (s.setNat Attr.Lantern.levelCause h 5).lit h 0 0
      else if s.nat Attr.Lantern.leaseState h = 3 then s.lit h (s.nat Attr.Lantern.safeLevel h) 0
      else s.lit h (s.lanternTarget h).1 0) s
    let segs := ((s.circuitLanterns c).map (fun h => s.nat Attr.Lantern.segment h)).eraseDups.filter (fun g => g != 0xFFFF)
    let s := s.command (segs.map (fun g => (g, 0)))
    if st = 1 then
      let done := s.lux.energizing.filter (fun x => x.1 == c)
      .next (done.foldl (fun s x => s.completeCmd x.2 .ok []) { s with lux := { s.lux with energizing := s.lux.energizing.filter (fun x => x.1 != c) } })
    else .next s

/-- ISOLATE (R457): the open command to the contactor in queue 6. -/
def doIsolate : Body := fun c s =>
  let h := s.nat Attr.LightingCircuit.contactorHandle (pathInst c.path)
  let n := s.nextSerial h
  (⟨.ok, []⟩, n.2.request h 6 opAction n.1 none (Config.supplyApdu 2) none)

def execIsolate (s : State) : Out := runMethod 0x0906 0x40 doIsolate s

/-- CIRCUIT_ENERGIZE (R456, R66, R67): initiates. -/
def doCircuitEnergize : Body := fun c s => if 63 < field c.payload 0 2 then (⟨.badValue, []⟩, s) else s.initiate c

def execCircuitEnergize (s : State) : Out := runOpcode opCircuit doCircuitEnergize s

/-! ### Lantern metering (R453–R455) -/

/-- Twice the area under a step between two times, in thousandths × ms. -/
def LevelStep.area2 (x : LevelStep) (a b : Nat) : Nat :=
  if b ≤ a then 0
  else
    let r := x.at2 + x.ramp
    (if a < r then (x.level a + x.level (min b r)) * (min b r - a) else 0) + (if r < b then 2 * x.after * (b - max a r) else 0)

/-- Twice the area under the steps, newest first, up to `b` and from `a`. -/
def areaUnder : List LevelStep → Nat → Nat → Nat
  | [], _, _ => 0
  | x :: t, a, b => x.area2 (max a x.at2) b + areaUnder t a (min b x.at2)

/-- A lantern's mean level over an interval (R453). -/
def State.meanLevel (s : State) (h i : Nat) : Nat :=
  (areaUnder ((Assoc.find h s.lux.levels).getD []) (i * 900000) ((i + 1) * 900000) + 900000000) / 1800000000

/-- Expected energy of a lantern at a mean level, in mWh (R454). -/
def State.expectedMilli (s : State) (h l : Nat) : Nat := (s.nat Attr.EndpointProfile.ratedW h * l + s.nat Attr.Lantern.standbyMw h) / 4

/-- A+ of an unmetered lantern at a mean level, at its scale, rounded to the nearest unit (R454). -/
def State.lanternEnergy (s : State) (h l : Nat) : Nat :=
  let sc := s.int Attr.EndpointProfile.scale h
  let num := (s.nat Attr.EndpointProfile.ratedW h * l + s.nat Attr.Lantern.standbyMw h) * 10 ^ (-sc).toNat
  let den := 4000 * 10 ^ sc.toNat
  (2 * num + den) / (2 * den)

/-- Whether a span of service time covers the whole of, or meets, an interval. -/
def spanCovers (from2 : Nat) (to2 : Option Nat) (i : Nat) : Bool := decide (from2 ≤ i * 900000) && to2.all (fun e => decide ((i + 1) * 900000 ≤ e))
def spanMeets (from2 : Nat) (to2 : Option Nat) (i : Nat) : Bool := decide (from2 < (i + 1) * 900000) && to2.all (fun e => decide (i * 900000 < e))

/-- The record of an unmetered lantern (R454, R455), on its way through VAL to commit. -/
def State.commitLantern (s : State) (h i : Nat) : State :=
  let c := s.nat Attr.Lantern.circuit h
  let out := s.lux.isolated.any (fun x => x.1 == c && spanCovers x.2.1 x.2.2 i)
  let late := s.lux.fences.any (fun x => spanMeets x.1 x.2 i)
  let l := s.meanLevel h i
  let vals := [if out then 0 else min (s.lanternEnergy h l) topVal, absentVal, absentVal, absentVal, absentVal, absentVal, absentVal, l]
  let fenced := s.cutOff 10 0
  let q := (if out then qOutage else 0) ||| (if late || fenced then qSuspect else 0) ||| (if fenced then 0 else s.valueChecks h i vals)
  (s.setNat Attr.Lantern.levelMeanLast h l).commit { id := 0, recs := [⟨h, i, q, vals⟩], unchecked := fenced }

/-- Whether a lantern is metered (11_lighting.md): its channel 0 is present. -/
def State.metered (s : State) (h : Nat) : Bool := s.flag Attr.EndpointChannel.present (h * 8)

/-- LANTERN_RECORD (R454, R455): while LUX is fenced the record waits for its unfencing. -/
def execLanternRecord (h i : Nat) (s : State) : Out :=
  if s.metered h then .next s
  else if s.cutOff 13 0 ∨ s.unset then .next { s with lux := { s.lux with lateRecords := s.lux.lateRecords ++ [(h, i)] } }
  else .next (s.commitLantern h i)

/-! ### Fault tests at commit (Table 11-8) -/

/-- The tests of a metered lantern's record (R452 bits 0 to 3). -/
def State.lanternTests (s : State) (h i : Nat) (vals : List Nat) : State :=
  if s.nat Attr.EndpointProfile.role h ≠ 1 ∨ !s.metered h ∨ vals.getD 0 absentVal = absentVal then s
  else
    let l := s.meanLevel h i
    let s := s.setNat Attr.Lantern.levelMeanLast h l
    let e := s.expectedMilli h l
    let a := s.milli h (vals.getD 0 0)
    let r := (Assoc.find h s.lux.runs).getD (0, 0, 0, 0)
    let low := decide (100 ≤ l) && decide (a * 100 < e * s.nat Attr.LightingService.failPct 0)
    let above := decide (e * s.nat Attr.LightingService.overPct 0 < a * 100)
    let aux := vals.getD 7 absentVal
    let mis := aux != absentVal && decide (50 < (if aux ≤ l then l - aux else aux - l))
    let r' := (if low then r.1 + 1 else 0, if above then r.2.1 + 1 else 0, if above then 0 else r.2.2.1 + 1, if mis then r.2.2.2 + 1 else 0)
    let s := { s with lux := { s.lux with runs := Assoc.put h r' s.lux.runs } }
    let s := if 2 ≤ r'.1 then s.lanternFault h 0 true else if e * s.nat Attr.LightingService.failPct 0 ≤ a * 100 then s.lanternFault h 0 false else s
    let s := if 4 ≤ r'.2.1 then s.lanternFault h 1 true else if 4 ≤ r'.2.2.1 then s.lanternFault h 1 false else s
    let s := if 2 ≤ r'.2.2.2 then s.lanternFault h 3 true else if !mis then s.lanternFault h 3 false else s
    let k := s.nat Attr.LightingSegment.schedule (s.nat Attr.Lantern.segment h)
    let day := s.localDay k (i * 900)
    let b := (Assoc.find h s.lux.dayBurn).getD (day, 0)
    let s := if b.1 < day ∧ b.2 = 0 then s.lanternFault h 2 false else s
    let burn := s.daytime k (i * 900) && s.nat Attr.Lantern.levelCommanded h == 0 && s.nat Attr.Lantern.leaseState h == 2 &&
      decide (s.nat Attr.Lantern.standbyMw h / 4 + s.nat Attr.LightingService.dayburnFloorWh 0 * 1000 < a)
    let n := (if b.1 = day then b.2 else 0) + b2n burn
    let s := { s with lux := { s.lux with dayBurn := Assoc.put h (day, n) s.lux.dayBurn } }
    if s.nat Attr.LightingService.dayburnIntervals 0 ≤ n then s.lanternFault h 2 true else s

/-- The day-burn test of the circuits whose head meter a record is of (11_lighting.md, Faults). -/
def State.circuitTests (s : State) (h i : Nat) (vals : List Nat) : State :=
  ((List.range 64).filter (fun c => s.nat Attr.LightingCircuit.headHandle c == h)).foldl (fun s c =>
    let ls := s.circuitLanterns c
    match ls with
    | [] => s
    | x :: _ =>
      let k := s.nat Attr.LightingSegment.schedule (s.nat Attr.Lantern.segment x)
      let day := s.localDay k (i * 900)
      let b := (Assoc.find c s.lux.circuitBurn).getD (day, 0)
      let lim := (ls.map (fun y => s.nat Attr.Lantern.standbyMw y / 4)).sum + s.nat Attr.LightingService.dayburnFloorWh 0 * 1000 * ls.length
      let a := s.milli h (vals.getD 0 0)
      let n := (if b.1 = day then b.2 else 0) + b2n (s.daytime k (i * 900) && vals.getD 0 absentVal != absentVal && decide (lim < a))
      let old := if b.1 = day then b.2 else 0
      let s := { s with lux := { s.lux with circuitBurn := Assoc.put c (day, n) s.lux.circuitBurn } }
      if old < n ∧ n = s.nat Attr.LightingService.dayburnIntervals 0 then s.raise 0x0D07 (objPath 0x0906 c) [c, a - lim] else s) s

end Sys2Proof.Machine
end

