-- ==== Sys2Proof/Machine/Phy.lean ====
section
/-! DEFINITION. The signal a line frame is sent as (04_bexnos_line_phy.md R135, R136, R143–R145, R165): header coding, scrambling, LDPC coding, long-span positions.
They are functions of the frame a port has on the wire; a received frame's row carries the bits these codes protect. -/

namespace Sys2Proof.Machine

/-- Phase of carrier k in SYNCP, in units of π / 512: k² modulo 1,024 (R135). -/
def syncPhase (k : Nat) : Nat := k * k % 1024

/-- Carriers of SYNCP: multiples of 8 from 80 to 2,040 that are not masked (R135). -/
def syncCarriers (ns : List (Nat × Nat)) : List Nat := ((List.range 246).map (fun i => 80 + 8 * i)).filter (fun k => !masked ns k)

/-- The bits of a number, most significant first. -/
def msbBits (n w : Nat) : List Bool := (List.range w).map (fun i => n.testBit (w - 1 - i))

/-- Parity of the taps of a generator over a register of seven bits. -/
def parityOf (g r : Nat) : Bool := ((List.range 7).map (fun i => g.testBit i && r.testBit i)).foldl (· ^^ ·) false

/-- The tail-biting convolutional code of R136: constraint length 7, generators 133 and 171 octal; the register starts with the last six bits, the newest
bit highest. -/
def convolve (u : List Bool) : List Bool :=
  let start := (u.drop (u.length - 6)).foldl (fun r b => r / 2 + b2n b * 64) 0
  (u.foldl (fun (acc : Nat × List Bool) b =>
    let r := acc.1 / 2 + b2n b * 64
    (r, acc.2 ++ [parityOf 0o133 r, parityOf 0o171 r])) (start, [])).2

/-- The 256 coded bits of a header. -/
def headerBits (h : BitVec 128) : List Bool := convolve (msbBits h.toNat 128)

/-- The coded bit the n-th unmasked carrier position of the header symbols carries (R136). -/
def headerBitAt (h : BitVec 128) (n : Nat) : Bool := (headerBits h).getD (n % 256) false

/-- The scrambler of R143: x^11 + x^9 + 1, all ones at the first payload bit. -/
def scramble (u : List Bool) : List Bool :=
  (u.foldl (fun (acc : BitVec 11 × List Bool) b =>
    let f := acc.1.getLsbD 10 ^^ acc.1.getLsbD 8
    ((acc.1 <<< 1) ||| (if f then 1 else 0), acc.2 ++ [b ^^ f])) (BitVec.allOnes 11, [])).2

/-- Base rows of a rate (R144): 12, 8, 4. -/
def baseRows : Nat → Nat
  | 0 => 12
  | 1 => 8
  | _ => 4

/-- The cyclic shift of an information entry of the base matrix, where there is one (R144). -/
def infoShift (i j : Nat) : Option Nat := if (3 * i + j) % 4 = 3 then none else some ((17 * i * j + 29 * j + 7 * i) % 160)

/-- The shift of a parity entry: column 0 at rows 0, m/2 and m − 1; column q at rows q − 1 and q (R144). -/
def parityShift (m i q : Nat) : Option Nat :=
  if q = 0 then (if i = m / 2 then some 0 else if i = 0 ∨ i + 1 = m then some 1 else none) else if i + 1 = q ∨ i = q then some 0 else none

/-- A block of 160 bits times a shifted identity. -/
def shifted (v : BitVec 160) (k : Nat) : BitVec 160 := v.rotateRight k

/-- Row i of the parity check over a codeword's 24 blocks, information blocks first: zero for every row of a codeword (R144). -/
def checkRow (rate i : Nat) (cw : List (BitVec 160)) : BitVec 160 :=
  let m := baseRows rate
  ((List.range 24).map (fun j =>
    match (if j < 24 - m then infoShift i j else parityShift m i (j - (24 - m))) with
    | some k => shifted (cw.getD j 0) k
    | none => 0)).foldl (· ^^^ ·) 0

/-- The systematic codeword of 24 − m information blocks: the sum of the rows gives parity block 0, each row the next one. -/
def ldpcEncode (rate : Nat) (u : List (BitVec 160)) : List (BitVec 160) :=
  let m := baseRows rate
  let row := fun i : Nat =>
    ((List.range (24 - m)).map (fun j => match infoShift i j with
      | some k => shifted (u.getD j 0) k
      | none => 0)).foldl (· ^^^ ·) 0
  let p0 := ((List.range m).map row).foldl (· ^^^ ·) 0
  let next := fun (ps : List (BitVec 160)) (i : Nat) =>
    let own := if i = 0 then 0 else ps.getLast?.getD 0
    let c0 := match parityShift m i 0 with
      | some k => shifted p0 k
      | none => 0
    ps ++ [row i ^^^ own ^^^ c0]
  u ++ (p0 :: (List.range (m - 1)).foldl next [])

/-- The bits of a block of 160, first bit most significant. -/
def blockOf (u : List Bool) : BitVec 160 := BitVec.ofNat 160 ((List.range 160).foldl (fun n i => n * 2 + b2n (u.getD i false)) 0)

/-- The codewords of a payload (R143–R145): scrambled, the last one padded with zero information bits. -/
def payloadCodewords (rate : Nat) (b : Bytes) : List (List (BitVec 160)) :=
  let u := scramble (b.flatMap (fun x => msbBits x.toNat 8))
  let k := codewordBits rate
  (List.range ((u.length + k - 1) / k)).map (fun n =>
    ldpcEncode rate ((List.range (k / 160)).map (fun j => blockOf ((u.drop (n * k + j * 160)).take 160))))

/-- The multiplier of R165 for M positions: the smallest odd integer at or above ⌈0.382 × M⌉ coprime to M. -/
def spanStep (m : Nat) : Nat :=
  let a := (382 * m + 999) / 1000
  ((List.range (m + 2)).map (fun k => a + k)).find? (fun x => x % 2 = 1 ∧ Nat.gcd x m = 1) |>.getD 1

/-- The position at which coded position i of a LONG_SPAN frame is sent (R165). -/
def spanPosition (m i : Nat) : Nat := spanStep m * i % m

end Sys2Proof.Machine
end

