-- ==== Sys2Proof/Machine/LineRx.lean ====
section
/-! DEFINITION. Receiving on a line port (04_bexnos_line_phy.md, 05_line_access.md): frames by kind, acknowledgement, reassembly, transit, tone maps. -/

namespace Sys2Proof.Machine

/-! ### Links (R176) -/

/-- The link a header names: the relay link of a remote cell, or the link of the member with the source address. -/
def State.linkOf (s : State) (p c src : Nat) : Option Nat :=
  if s.isRemote c then some (relayLink p c) else (Assoc.find (c * 65536 + src) s.lin.addrs).map (endpointLink p)

/-- Where the frames of a link go: cell and short address, the relay node itself on a relay link. -/
def State.linkPeer (s : State) (k : Nat) : Nat × Nat :=
  if 2 ^ 25 ≤ k then (k % 2 ^ 21, 0)
  else
    let h := k % 2 ^ 21
    match s.primary h with
    | some r => (r.cell, r.short)
    | none => (0, 0xFFFE)

/-- The links of a port. -/
def State.portLinks (s : State) (p : Nat) : List Nat := (s.instances 0x0220).filter (fun k => k / 2 ^ 21 % 16 == p)

/-- Counts on a link that exists. -/
def State.linkCount (s : State) (k : Option Nat) (w : Nat) (a : Nat × Nat) (n : Nat) : State :=
  match k with
  | some k => if s.alive 0x0220 k then s.bumpSat w a k n else s
  | none => s

/-- Adds one to an element of an array of saturating counters. -/
def countInto (l : List Int) (k : Nat) : List Int := l.set k (min (l.getD k 0 + 1) 0xFFFFFFFF)

/-- The measurements a good header brings to its link (Table 04-10). -/
def State.linkStats (s : State) (k : Nat) (x : LineRx) (h : LineHeader) : State :=
  if !s.alive 0x0220 k then s
  else
    let s := (s.bump 64 Attr.LineLink.framesRx k).bump 64 Attr.LineLink.codewords k x.codewords
    let s := (s.bump 64 Attr.LineLink.codewordsFailed k x.failed).bump 64 Attr.LineLink.erasures k x.erasures
    let s := if x.snr.length = 6 then s.setAttr Attr.LineLink.snrRegion k (.arr (x.snr.map Int.ofNat)) else s
    let hits := x.impulses.foldl (fun l q => countInto l (s.regionOf x.port q - 1)) (s.arr Attr.LineLink.impulsesRegion k)
    let s := s.setAttr Attr.LineLink.impulsesRegion k (.arr hits)
    let s := if x.noise.length = 987 then s.setAttr Attr.LineLink.carrierNoise k (.bytes x.noise) else s
    let s := if h.zcoValid then s.setNat Attr.LineLink.zcoLast k h.zco else s
    let s := if h.tmi = 7 then s.bumpSat 32 Attr.LineLink.longSpanFrames k else s
    s.setLink k { s.link k with lastSet := h.tmSet }

/-! ### Acknowledgement, repeats, reassembly (R190, R192) -/

/-- The acknowledgement of a segment goes out ACK_IFS after it (R181, R190). -/
def State.sendLineAck (s : State) (p : Nat) (b : SubHeader) (result : Nat) : State :=
  if s.portTx p then s.setPort p { s.port p with ackOut := some (b.seq, b.seg, result, none) } else s

/-- Whether a segment repeats one of the last 16 accepted of its source within 10 s (R192). -/
def Port.repeated (x : Port) (now c : Nat) (b : SubHeader) : Bool :=
  x.repeats.any (fun r => r.1 == c && r.2.1 == b.src16 && r.2.2.1 == b.seq && r.2.2.2.1 == b.seg && decide (now ≤ r.2.2.2.2 + sec 10))

/-- Keeps an accepted segment: the last 16 of each source. -/
def Port.keep (x : Port) (now c : Nat) (b : SubHeader) : Port :=
  let mine := x.repeats.filter (fun r => r.1 == c && r.2.1 == b.src16)
  { x with repeats := x.repeats.filter (fun r => !(r.1 == c && r.2.1 == b.src16)) ++ (mine ++ [(c, b.src16, b.seq, b.seg, now)]).drop (mine.length - 15) }

/-- Whether two partial units are the same one. -/
def Partial.isOf (q : Partial) (c : Nat) (b : SubHeader) : Bool := q.cell == c && q.src16 == b.src16 && q.seq == b.seq

/-- Takes a segment into its unit: the unit's octets once every segment has arrived (R190). -/
def Port.assemble (x : Port) (now c : Nat) (b : SubHeader) (body : Bytes) : Option Bytes × Port :=
  let q := (x.partials.find? (fun q => q.isOf c b)).getD { cell := c, src16 := b.src16, seq := b.seq, segs := [], last := none, len := b.unitLen, at3 := now }
  let q := { q with segs := Assoc.put b.seg body q.segs, last := if b.last then some b.seg else q.last, at3 := now }
  let rest := x.partials.filter (fun r => !r.isOf c b)
  match q.last with
  | some n => if q.segs.length = n + 1 then (some (q.segs.map Prod.snd).flatten, { x with partials := rest }) else (none, { x with partials := rest ++ [q] })
  | none => (none, { x with partials := rest ++ [q] })

/-- PARTIAL_UNIT_DISCARD (R190): 2 s after its last segment. -/
def execPartialUnitDiscard (p c src seq : Nat) (s : State) : Out :=
  let x := s.port p
  .next (s.setPort p { x with partials := x.partials.filter (fun q => !(q.cell == c && q.src16 == src && q.seq == seq)) })

/-! ### Bad frames (R197) -/

/-- Octets as 64-bit words of a queue, little-endian. -/
def wordsOfBytes (b : Bytes) : List Nat := (List.range ((b.length + 7) / 8)).map (fun k => field b (8 * k) 8)

/-- Copies a bad frame to `bad_frame_queue` when `deliver_bad` is 1. -/
def State.deliverBad (s : State) (x : LineRx) : State :=
  if !s.flag Attr.LinePort.deliverBad x.port then s
  else
    let d := leBytes 1 x.port ++ leBytes 1 x.lane ++ leBytes 2 0 ++ leBytes 4 x.stamp ++ leBytes 4 x.failed ++ leBytes 4 x.body.length
    s.pushItem (s.nat Attr.LinePort.badFrameQueue x.port) (wordsOfBytes (d ++ beBytes 16 x.header.toNat ++ x.body))

/-! ### Transit (R193, R195) -/

/-- Sets `ct_threshold` and records CT_THRESHOLD when it changes. -/
def State.setThreshold (s : State) (p v : Nat) : State :=
  if s.nat Attr.LinePort.ctThreshold p = v then s
  else (s.setNat Attr.LinePort.ctThreshold p v).raise 0x0506 (objPath 0x0201 p) [p, v]

/-- A cut-through frame went without underrun: after 256 in a row the threshold falls by 512, to no less than 512 (R195). -/
def State.countCut (s : State) (p : Nat) : State :=
  let x := s.port p
  if x.ctRun + 1 < 256 then s.setPort p { x with ctRun := x.ctRun + 1 }
  else (s.setPort p { x with ctRun := 0 }).setThreshold p (max 512 (s.nat Attr.LinePort.ctThreshold p - 512))

/-- Whether a transit frame from port `p` to port `q` goes by cut-through (R193). -/
def State.cutsThrough (s : State) (p q segLen : Nat) : Bool :=
  s.flag Attr.LinePort.cutThrough q && s.portFullDuplex p && s.portFullDuplex q && decide (s.nat Attr.LinePort.ctThreshold q < segLen)

/-- Forwards a transit unit from queue 4 of the port its destination is reached through; by cut-through it is on the wire at once when the port is free. -/
def State.forward (s : State) (p c segLen : Nat) (b : SubHeader) (body : Bytes) : State :=
  match (Assoc.find (c * 65536 + b.dst16) s.lin.addrs).bind s.primary with
  | none => s
  | some r =>
    if 16 ≤ r.port ∨ (r.port = p ∧ s.nat Attr.LinePort.wiring p ≠ 2) then s
    else
      let h := (Assoc.find (c * 65536 + b.dst16) s.lin.addrs).getD 0
      let s := (s.enqueue r.port 4
        { kind := if s.isRemote r.cell then 5 else 1, cell := r.cell, dst16 := r.short, src16 := b.src16, secured := b.secured, body := body,
          link := s.linkTo r h, producer := .transit }).2
      let x := s.port r.port
      if s.cutsThrough p r.port segLen ∧ s.portTx r.port ∧ x.onAir.isNone ∧ x.top = some 4 then
        match x.queues.getD 4 [] with
        | u :: _ =>
          (s.setPort r.port { x with onAir := some { s.buildFrame r.port 4 u (decide (r.port = p)) with cutThrough := true }, busy := true }).countCut r.port
        | [] => s
      else s

/-! ### LINE_FRAME_RECEIVED -/

/-- SPAN in half-cycles. -/
def spanOf (code : Nat) : Nat := 2 ^ code

/-- The ZCO sample of an uplink frame (R406, R407): valid at the endpoint and at the port; through a relay node only when it declared the capability. -/
def State.zcoOf (s : State) (x : LineRx) (h : LineHeader) (b : SubHeader) : State :=
  match Assoc.find (h.cell * 65536 + b.src16) s.lin.addrs with
  | none => s
  | some k =>
    if !h.zcoValid ∨ !s.flag Attr.LinePort.zcValid x.port ∨ (s.isRemote h.cell ∧ !(s.link (relayLink x.port h.cell)).zco) then s
    else s.zcoSample k h.zco (zcoAt (s.port x.port).edges x.stamp)

/-- A complete DATA or RELAY unit: for the chip it goes to ELT, for another member it is a transit unit. A unit that GLV did not protect is under no key. -/
def State.unitReceived (s : State) (x : LineRx) (h : LineHeader) (b : SubHeader) (body : Bytes) : State :=
  if h.kind = 3 then s
  else if b.dst16 = 0 ∨ b.dst16 = 0xFFFF then
    (s.zcoOf x h b).atLocator none ⟨x.port, h.cell, b.src16⟩ (x.snr.sum / max x.snr.length 1) (if b.secured then x.content else { x.content with gen := none })
  else s.forward x.port h.cell b.segLen b body

/-- A DATA, MGMT or RELAY frame with a good header: bad ones are acknowledged BAD and copied, repeats DUP, others OK and taken into their unit. -/
def State.segmentReceived (s : State) (x : LineRx) (h : LineHeader) : State :=
  let b := decodeSub x.body
  if x.failed ≠ 0 ∨ !payloadFcsGood x.body then
    let s := if h.group then s else s.sendLineAck x.port b 1
    s.deliverBad x
  else
    let y := s.port x.port
    if y.repeated s.tim.d3 h.cell b then if h.group then s else s.sendLineAck x.port b 3
    else
      let r := (y.keep s.tim.d3 h.cell b).assemble s.tim.d3 h.cell b (slice x.body 12 b.segLen)
      let s := s.setPort x.port r.2
      let s := if h.group then s else s.sendLineAck x.port b 0
      let s := match Assoc.find (h.cell * 65536 + b.src16) s.lin.addrs with
        | some e => s.setEp e { s.ep e with heardAt := s.tim.d3 }
        | none => s
      match r.1 with
      | some unit => s.unitReceived x h b unit
      | none => s

/-- LINE_FRAME_RECEIVED (R139, R178, R168, R190–R197). A frame of a cell the port does not have, of TMI 2 to 6 or RATE 3 is discarded; ACK, BEACON and SOUND
frames end here (their effect is ACK_FRAME_RECEIVED's, the standby's, the canceller's). Nothing is received on a port or lane that is off or fenced. -/
def execLineFrameReceived (x : LineRx) (s : State) : Out :=
  let h := decodeHeader x.header
  let k := s.linkOf x.port h.cell h.src
  if !(s.portLanes x.port).contains x.lane ∨ s.cutOff 5 x.port ∨ s.cutOff 4 x.lane then .next s
  else
    let s := s.setPort x.port { s.port x.port with busy := true }
    if !headerGood x.header then .next (s.linkCount k 32 Attr.LineLink.headerErrors 1)
    else
      let s := match k with
        | some k => s.linkStats k x h
        | none => s
      if 6 ≤ h.kind then .next (s.linkCount k 32 Attr.LineLink.headerErrors 1)
      else if h.tmi = 7 ∧ s.nat Attr.LinePort.longSpanMax x.port < spanOf h.span then .next (s.linkCount k 32 Attr.LineLink.longSpanRefused 1)
      else if (2 ≤ h.tmi ∧ h.tmi ≤ 6) ∨ (h.tmi = 1 ∧ h.rate = 3) then .next s
      else if h.kind = 0 ∨ h.kind = 2 ∨ h.kind = 4 then .next s
      else if !s.isLine h.cell ∨ s.nat Attr.LineCell.port h.cell ≠ x.port ∨ !s.fieldTx then .next s
      else .next (s.segmentReceived x h)

/-! ### Tone maps (R129–R134) -/

/-- Twelve times the information bits per symbol of a code total at a rate. -/
def throughput (total rate : Nat) : Nat := total * (match rate with | 0 => 6 | 1 => 8 | _ => 10)

/-- The map of a region from the SNR of every carrier, 0.25 dB, one octet each (R130): per carrier the highest code its SNR carries with the margin, at the
highest of the rates that give the greatest throughput. -/
def mapFor (region margin : Nat) (ns : List (Nat × Nat)) (snr : Bytes) : ToneMap :=
  let codes := fun rate : Nat => (List.range 1974).map (fun i => if masked ns (i + 74) then 0 else bestCode (octet snr i) margin rate)
  let t := fun rate : Nat => throughput (codes rate).sum rate
  let rate := if t 1 ≤ t 2 ∧ t 0 ≤ t 2 then 2 else if t 0 ≤ t 1 then 1 else 0
  let c := codes rate
  { stream := 0, region := region, rate := rate, codes := (List.range 987).map (fun i => BitVec.ofNat 8 (c.getD (2 * i) 0 * 16 + c.getD (2 * i + 1) 0)) }

/-- The body of a TONE_MAP (Table 05-3): the maps of one stream, by region. -/
def toneMapBody (set : Nat) (ms : List ToneMap) : Bytes :=
  let mask := ms.foldl (fun n m => n ||| 2 ^ (m.region - 1)) 0
  let one := fun m : ToneMap => leBytes 1 m.rate ++ [0, 0, 0] ++ m.codes
  leBytes 1 set ++ leBytes 1 ((ms.head?.map ToneMap.stream).getD 0) ++ leBytes 1 mask ++ [0] ++ (ms.map one).flatten

/-- Replaces maps by region and stream. -/
def putMaps (old new : List ToneMap) : List ToneMap := old.filter (fun m => !new.any (fun n => n.region == m.region && n.stream == m.stream)) ++ new

/-- Computes maps of a link for some regions from measured SNR and sends them into the set the peer was not last sent a frame with (R130, R131). -/
def State.refreshMaps (s : State) (p k : Nat) (snr : List (Nat × Bytes)) : State :=
  let ns := defaultNotches ++ s.userNotches p
  let l := s.link k
  let ms := snr.map (fun x => mapFor x.1 (s.nat Attr.LinePort.toneMargin p) ns x.2)
  let set := 1 - l.txSet
  let s := s.setLink k { l with rxMaps := putMaps l.rxMaps ms, rxSet := set, rxAcked := false }
  let peer := s.linkPeer k
  s.sendMgmt peer.1 peer.2 2 (toneMapBody set ms) k .none

/-- The rate of a map in kb/s: code bits at the LDPC rate per symbol of 46.08 µs (Table 04-10). -/
def mapRate (m : ToneMap) (ns : List (Nat × Nat)) : Nat := throughput (symbolBits [m] ns) m.rate * 1000 * 100 / (12 * 4608)

/-- TONE_MAP (R131): the peer's maps go into the set not named by the last frame received; the acknowledgement names the set. -/
def execToneMap (k set : Nat) (ms : List ToneMap) (s : State) : Out :=
  let l := s.link k
  if !s.alive 0x0220 k ∨ set = l.lastSet ∨ 1 < set then .next s
  else
    let p := k / 2 ^ 21 % 16
    let ns := defaultNotches ++ s.userNotches p
    let s := s.setLink k (if set = 0 then { l with set0 := putMaps l.set0 ms } else { l with set1 := putMaps l.set1 ms })
    let s := s.setNat Attr.LineLink.toneMapAge k 0
    let rates := ms.foldl (fun a m => if m.stream = 0 then a.set (m.region - 1) (mapRate m ns : Int) else a) (s.arr Attr.LineLink.rateRegion k)
    let s := s.setAttr Attr.LineLink.rateRegion k (.arr rates)
    .next (s.setPort p { s.port p with ackOut := (s.port p).ackOut.map (fun a => (a.1, a.2.1, a.2.2.1, some set)) })

/-- TONE_MAP_AGE (R132): maps of an age in s; above 30 s they are measured anew and refreshed, from 120 s the link uses ROBUST. -/
def execToneMapAge (k age : Nat) (snr : List (Nat × Bytes)) (s : State) : Out :=
  if !s.alive 0x0220 k then .next s
  else
    let s := s.setNat Attr.LineLink.toneMapAge k age
    let s := if 120 ≤ age then s.setLink k { s.link k with mapsValid := false } else s
    .next (if 30 < age then s.refreshMaps (k / 2 ^ 21 % 16) k snr else s)

/-! ### Impulses (R162–R164) -/

/-- Positions of a region. -/
def State.regionSpan (s : State) (p r : Nat) : List Nat := (List.range 240).filter (fun q => s.regionOf p q == r)

/-- A bitmap of positions, 30 octets (Table 04-10). -/
def positionMap (l : List Nat) : Bytes := (List.range 30).map (fun i => BitVec.ofNat 8 (((List.range 8).map (fun b => if l.contains (8 * i + b) then 2 ^ b else 0)).sum))

/-- IMPULSE_LEARNT (R163, R164): the positions hit in one half-cycle enter the count over the last 256. A region that first contains a recurring position is
recorded and its maps are computed anew from SNR measured in the affected half-cycles; 25 % of recurring positions mark it AVOID. -/
def execImpulseLearnt (p : Nat) (hit : List Nat) (snr : List (Nat × Bytes)) (s : State) : Out :=
  let x := s.port p
  let hits := (hit :: x.hits).take 256
  let count := fun q : Nat => hits.countP (fun l => l.contains q)
  let recur := (List.range 240).filter (fun q => decide (128 ≤ count q) || (x.recurring.contains q && decide (64 ≤ count q)))
  let s := s.setPort p { x with hits := hits, recurring := recur }
  let s := if recur = x.recurring then s
    else (s.portLinks p).foldl (fun s k => s.setAttr Attr.LineLink.recurring k (.bytes (positionMap recur))) s
  .next ([1, 2, 3, 4, 5, 6].foldl
    (fun s r =>
      let span := s.regionSpan p r
      let now := span.filter (fun q => recur.contains q)
      let s := if now.isEmpty ∨ span.any (fun q => x.recurring.contains q) then s
        else
          let s := s.raise 0x0407 (objPath 0x0201 p) ([(p : Int), (r : Int)] ++ now.map Int.ofNat)
          (s.portLinks p).foldl (fun s k => s.refreshMaps p k (snr.filter (fun m => m.1 == r))) s
      let a := s.nat Attr.LinePort.avoidRegions p
      let on := !now.isEmpty && decide (span.length ≤ 4 * now.length)
      if bit a (r - 1) = on then s
      else (s.setNat Attr.LinePort.avoidRegions p (if on then a + 2 ^ (r - 1) else a - 2 ^ (r - 1))).raise 0x0408 (objPath 0x0201 p) [p, r, b2n on]) s)

end Sys2Proof.Machine
end

