-- ==== Sys2Proof/Machine/Line.lean ====
section
/-! DEFINITION. The line MAC on the medium (05_line_access.md), its cells and beacons, and the lanes and zero crossings of its ports (04_bexnos_line_phy.md). -/

namespace Sys2Proof.Machine

/-! ### Segments sent (R181, R190, R191) -/

/-- A unit was acknowledged in full, or sent in full where nothing acknowledges it. -/
def State.segmentDone (s : State) (p q seg : Nat) (done : State → Producer → State) : State :=
  let x := s.port p
  match x.queues.getD q [] with
  | [] => s
  | u :: _ =>
    let u := { u with acked := if u.acked.contains seg then u.acked else u.acked ++ [seg], attempts := 0 }
    if segments u.body.length (s.nat Attr.LinePort.maxSegment p) ≤ u.acked.length ∨ u.kind = 4 then done (s.setPort p (x.popHead q)) u.producer
    else s.setPort p (x.setHead q u)

/-- An attempt failed (R183, R191): the segment is sent again, or after the last attempt its unit is dropped. -/
def State.failAttempt (s : State) (p : Nat) : State :=
  let x := s.port p
  match x.onAir with
  | none => s
  | some f =>
    let x := { x with onAir := none, backoff := none, attempt := x.attempt + 1 }
    match x.queues.getD f.queue [] with
    | [] => s.setPort p { x with attempt := 0 }
    | u :: _ =>
      if s.nat Attr.LinePort.retryLimit p ≤ u.attempts + 1 then
        ((s.setPort p { x.popHead f.queue with attempt := 0 }).bump 32 Attr.LinePort.retriesExhausted p).unitDropped u.producer
      else s.setPort p (x.setHead f.queue { u with attempts := u.attempts + 1 })

/-- SEGMENT_ACK_TIMEOUT (R191). -/
def execSegmentAckTimeout (p : Nat) (s : State) : Out :=
  .next (if (s.port p).onAir.any OnAir.awaitAck then s.failAttempt p else s)

/-! ### Beacons (R198–R203, R211–R214) -/

/-- The mains period of a port's reference, in ns. -/
def State.portPeriod (s : State) (p : Nat) : Nat := if s.nat Attr.LinePort.mainsPeriodNs p = 0 then Config.freePeriod p else s.nat Attr.LinePort.mainsPeriodNs p

/-- A cell's period in mains cycles (R198). -/
def State.beaconCycles (s : State) (c : Nat) : Nat :=
  s.nat Attr.LineCell.beaconPeriodMs c * 1000000 / max (s.portPeriod (s.nat Attr.LineCell.port c)) 1

/-- The local cells of a port. -/
def State.localCells (s : State) (p : Nat) : List Nat := (s.instances 0x0210).filter (fun c => s.nat Attr.LineCell.port c == p && s.nat Attr.LineCell.kind c == 0)

/-- Beacon-time slots of a port: to its highest formed slot (R200). -/
def State.beaconSlots (s : State) (p : Nat) : Nat := ((s.localCells p).map (fun c => s.nat Attr.LineCell.beaconSlot c + 1)).foldl max 0

/-- Whether LUX and GLV let a lease be renewed (R211). -/
def State.leaseAble (s : State) : Bool := !s.cutOff 13 0 && !s.gloveShut

/-- LEASE_RENEW of a cell's next beacon (R211); after a hold it waits for the new epoch (R213). -/
def State.renews (s : State) (c : Nat) : Bool :=
  s.leaseAble && s.nat Attr.LineCell.beaconState c != 2 && !(s.cell c).held

/-- Field time of a D2 instant (R587): seconds in bits 63:30, nanoseconds below; little-endian. TIM fenced gives none (Table 01-2). -/
def State.fieldTime (s : State) (t : Nat) : Bytes := leBytes 8 (if s.cutOff 17 0 then 0 else t / sec 1 * 2 ^ 30 + t % sec 1 / 65536)

/-- The beacon body of Table 05-7. -/
def State.beaconBody (s : State) (c slip : Nat) (renew : Bool) (t : Nat) : Bytes :=
  let p := s.nat Attr.LineCell.port c
  beBytes 2 (s.nat Attr.LineCell.beaconSeq c) ++ beBytes 2 (s.beaconCycles c) ++ beBytes 1 (slip * 16 + s.nat Attr.LineCell.beaconSlot c) ++
    beBytes 1 (b2n (s.flag Attr.LineCell.admissionOpen c) + 2 * b2n renew + 4 * b2n (s.isLighting c) + 8 * b2n (s.isRemote c)) ++
    beBytes 1 (s.beaconSlots p) ++ beBytes 1 (s.nat Attr.LinePort.avoidRegions p) ++ s.fieldTime t ++ beBytes 2 (s.nat Attr.LineCell.leaseEpoch c) ++ [0, 0]

/-- The CMAC of a beacon: zero while GLV is fenced (R202). -/
def State.beaconCmac (s : State) (c : Nat) (body : Bytes) : Bytes :=
  if s.gloveShut then List.replicate 8 0 else (Config.beaconMac c (s.beaconGen c) body).take 8

/-- The condition of R213: two renewing beacons of the epoch and every lantern's LEASE_ACK, those left out aside; BEACON_RESTORED, and dimming resumes. -/
def State.restoreCheck (s : State) (c : Nat) : State :=
  let x := s.cell c
  if x.restoring && decide (2 ≤ x.renewed) && (s.cellLanterns c).all (fun h => x.acked.contains h || x.leftOut.contains h) then
    (((s.setCell c { x with restoring := false }).beaconState c 0).raise 0x0502 (s.cellPath c) [s.cellPort c, c]).refreshCell c
  else s

/-- A beacon of a cell went out, or its feed was acknowledged. -/
def State.beaconSent (s : State) (c : Nat) (renew : Bool) : State :=
  let x := s.cell c
  let s := s.setCell c { x with
    slip := none, missed := 0, held := x.held || !s.leaseAble, noRenew := if renew then 0 else x.noRenew + 1,
    renewed := if renew then x.renewed + 1 else 0, sinceEpoch := x.sinceEpoch + 1 }
  let s := if s.nat Attr.LineCell.beaconState c = 1 then s.beaconState c (if x.restoring then 3 else 0) else s
  let s := if !renew ∧ x.noRenew + 1 = 3 then s.expireLanterns c else s
  s.restoreCheck c

/-- Starts a cell's beacon at a slip, or keeps it for the next half-cycle; the fourth start not made is a miss (R201). -/
def State.tryBeacon (s : State) (c slip : Nat) (sensed : Bool) : State :=
  let p := s.nat Attr.LineCell.port c
  let x := s.port p
  if sensed || x.busy || x.onAir.isSome || !s.portTx p then
    if 3 ≤ slip then s.missBeacon c else s.setCell c { s.cell c with slip := some (slip + 1) }
  else
    let renew := s.renews c
    let body := s.beaconBody c slip renew s.tim.d2
    let f := s.buildFrame p 7 { kind := 0, cell := c, dst16 := 0xFFFF, group := true, secured := false, body := body ++ s.beaconCmac c body } false
    let s := s.setPort p { x with onAir := some f, busy := true, undo := some (s.cell c, s.nat Attr.LineCell.beaconState c) }
    let s := s.setCell c { s.cell c with body := body }
    s.beaconSent c renew

/-- BEACON_DUE (R198–R202): the sequence counts every period; `sensed` is a busy medium. In SHADOW and outside a transmitting mode the chip sends none. -/
def execBeaconDue (c : Nat) (sensed : Bool) (s : State) : Out :=
  if !s.isLine c ∨ s.isRemote c ∨ s.sys.mode = .shadow then .next s
  else
    let s := (s.bump 16 Attr.LineCell.beaconSeq c).post (.lighting c)
    .next (s.tryBeacon c 0 sensed)

/-- BEACON_RETRY (R201): the same position of the next half-cycle. -/
def execBeaconRetry (c : Nat) (sensed : Bool) (s : State) : Out :=
  match (s.cell c).slip with
  | none => .next s
  | some k => .next (s.tryBeacon c k sensed)

/-- BEACON_FEED (R203): the remote cell's body, 100 ms before it applies, to its relay node as a MGMT unit. -/
def execBeaconFeed (c : Nat) (s : State) : Out :=
  if !s.isRemote c ∨ s.sys.mode = .shadow then .next s
  else
    let s := (s.bump 16 Attr.LineCell.beaconSeq c).post (.lighting c)
    let p := s.nat Attr.LineCell.port c
    if !s.portTx p then .next (s.missBeacon c)
    else
      let body := s.beaconBody c 0 (s.renews c) (s.tim.d2 + msec 100)
      let s := s.setCell c { s.cell c with body := body }
      .next (s.sendMgmt c 0 6 body (relayLink p c) (.feed c))

/-- A unit was acknowledged: a feed counts as its cell's beacon (R203). -/
def State.unitAcked (s : State) (pr : Producer) : State :=
  match pr with
  | .feed c => s.beaconSent c (bit (octet (s.cell c).body 5) 1)
  | _ => s.unitDone pr

/-- LEASE_EPOCH (R213): beacons can be sent again after BEACON_LOST, or renewal resumes after it was held. -/
def execLeaseEpoch (c : Nat) (s : State) : Out :=
  let x := s.cell c
  let lost := s.nat Attr.LineCell.beaconState c == 2
  if !s.isLine c ∨ !s.portTx (s.nat Attr.LineCell.port c) ∨ !(lost || (x.held && s.leaseAble)) then .next s
  else
    let e := (s.nat Attr.LineCell.leaseEpoch c + 1) % 2 ^ 16
    let s := s.setNat Attr.LineCell.leaseEpoch c e
    let s := s.setCell c { x with held := !s.leaseAble, restoring := true, missed := 0, renewed := 0, sinceEpoch := 0, acked := [], leftOut := [] }
    let s := (s.cellLanterns c).foldl (fun s h => if s.nat Attr.Lantern.leaseState h = 2 then s.setNat Attr.Lantern.leaseState h 1 else s) s
    .next ((s.beaconState c 3).raise 0x0503 (s.cellPath c) [s.cellPort c, c, e])

/-- LEASE_ACK (R213, R446): counts for the present epoch alone. -/
def execLeaseAck (c h epoch : Nat) (s : State) : Out :=
  let x := s.cell c
  if !s.isLine c ∨ !(s.cellHandles c).contains h ∨ epoch ≠ s.nat Attr.LineCell.leaseEpoch c then .next s
  else
    let s := s.setCell c { x with acked := if x.acked.contains h then x.acked else x.acked ++ [h], leftOut := x.leftOut.filter (fun y => y != h) }
    let s := if s.nat Attr.EndpointProfile.role h = 1 ∧ s.nat Attr.LineCell.beaconState c ≠ 2 then s.lanternValid h else s
    .next (s.restoreCheck c)

/-- LEASE_ACK_TIMEOUT (R214): 10 periods after the first beacon of the epoch. -/
def execLeaseAckTimeout (c h : Nat) (s : State) : Out :=
  let x := s.cell c
  if x.acked.contains h ∨ !(s.cellLanterns c).contains h then .next s
  else
    let s := (s.setCell c { x with leftOut := x.leftOut ++ [h] }).lanternFault h 4 true
    .next (s.restoreCheck c)

/-! ### The medium (R181–R187) -/

/-- The frame on the wire has ended and nothing acknowledges it. -/
def State.endUnacked (s : State) (p : Nat) : State :=
  let x := s.port p
  match x.onAir with
  | none => s
  | some f =>
    if f.awaitAck then s
    else
      let s := s.setPort p { x with onAir := none, undo := none }
      if hfield f.header 123 120 = 0 then s else s.segmentDone p f.queue f.seg State.unitAcked

/-- MEDIUM_IDLE (R181–R183): the priority slots follow. A station with a signal in an earlier slot (`beaten`) defers; otherwise a count is drawn, or the kept
one goes on, and at 0 the frame starts unless it would reach into the beacon time (`room`, R200). -/
def execMediumIdle (p : Nat) (beaten room : Bool) (s : State) : Out :=
  let s := s.endUnacked p
  let x := { s.port p with busy := false }
  let s := s.setPort p x
  match x.top with
  | none => .next (s.setPort p { x with contending := false, backoff := none })
  | some q =>
    if x.onAir.isSome then .next s
    else if beaten then .next (s.setPort p { x with contending := false })
    else
      let n := x.backoff.getD (s.freeNat % contentionWindow x.attempt (q / 2))
      let s := if x.backoff.isNone then s.drawn else s
      let s := s.setPort p { x with contending := true, backoff := some n }
      .next (if n = 0 ∧ room then s.startFrame p false else s)

/-- BACKOFF_SLOT (R183, R186, R200): an idle contention slot ends; at 0 the frame starts. On a FULL_DUPLEX relay link (`duplex`) the frame to the relay node
starts while its own frame is being received. -/
def execBackoffSlot (p : Nat) (duplex room : Bool) (s : State) : Out :=
  let x := s.port p
  if x.onAir.isSome then .next s
  else if duplex then
    match x.top.bind (fun q => (x.queues.getD q []).head?) with
    | some u => .next (if (s.link u.link).fullDuplex ∧ 2 ^ 25 ≤ u.link ∧ room then s.startFrame p true else s)
    | none => .next s
  else
    match x.backoff with
    | none => .next s
    | some n =>
      if !x.contending then .next s
      else
        let s := s.setPort p { x with backoff := some (n - 1) }
        .next (if n ≤ 1 ∧ room then s.startFrame p false else s)

/-- COLLISION (R184, R185, R201): found while the port is in FULL_DUPLEX and outside the overlap of R186. A beacon ended so is retried. -/
def execCollision (p : Nat) (s : State) : Out :=
  let x := s.port p
  match x.onAir with
  | none => .next s
  | some f =>
    let h := decodeHeader f.header
    if !s.portFullDuplex p ∨ h.duplex then .next s
    else
      let s := s.bump 32 Attr.LinePort.collisions p
      let s := s.setPort p { x with onAir := none, undo := none, attempt := x.attempt + 1, backoff := none, contending := false }
      if h.kind ≠ 0 then .next s
      else
        let slip := octet f.body 4 / 16
        let s := match x.undo with
          | some (c, st) => (s.setCell h.cell { c with slip := some (slip + 1) }).beaconState h.cell st
          | none => s
        .next (if 3 ≤ slip then s.missBeacon h.cell else s)

/-- UNDERRUN (R194, R196): the rest of the payload is zeros. An underrun resends the frame in full, without counting an attempt, and raises the threshold; after a
failed incoming codeword (`bad`) it is not resent. -/
def execUnderrun (p : Nat) (bad : Bool) (s : State) : Out :=
  let x := s.port p
  match x.onAir with
  | none => .next s
  | some f =>
    if !f.cutThrough then .next s
    else if bad then .next (s.setPort p { x.popHead f.queue with onAir := none })
    else
      let s := s.setPort p { x with onAir := none, ctRun := 0 }
      let s := s.bump 32 Attr.LinePort.underruns p
      .next (s.setThreshold p (min 8192 (s.nat Attr.LinePort.ctThreshold p + 512)))

/-- ACK_FRAME_RECEIVED (R183, R190, R191, R131): OK and DUP end the segment, BAD and BUSY fail the attempt. TM_ACK switches the chip's transmissions to the set
acknowledged. -/
def execAckFrameReceived (p seq seg result : Nat) (tm : Option Nat) (s : State) : Out :=
  let x := s.port p
  match x.onAir with
  | none => .next s
  | some f =>
    match x.queues.getD f.queue [] with
    | [] => .next s
    | u :: _ =>
      if !f.awaitAck ∨ u.seq ≠ seq ∨ f.seg ≠ seg then .next s
      else
        let l := s.link u.link
        let s := match tm with
          | none => s
          | some t =>
            let have' := !(if t = 0 then l.set0 else l.set1).isEmpty
            let l := { l with rxAcked := l.rxAcked || t == l.rxSet }
            s.setLink u.link (if have' then { l with txSet := t, mapsValid := true } else l)
        if result = 0 ∨ result = 3 then
          .next ((s.setPort p { x with onAir := none, attempt := 0, backoff := none }).segmentDone p f.queue f.seg State.unitAcked)
        else .next (s.failAttempt p)

/-! ### Cells and addresses (R204–R210) -/

/-- Releases a short address (R210). Where the primary path uses it the endpoint's entries go, otherwise its alias. -/
def State.releasePath (s : State) (c a cause : Nat) : State :=
  match Assoc.find (c * 65536 + a) s.lin.addrs with
  | none => s
  | some h =>
    match (if (s.primary h).any (fun r => r.cell == c) then s.findEntry false (s.nat Attr.EndpointLocator.eui h) else none) with
    | some (pl, e) => s.deleteEui pl e cause chRelease
    | none =>
      let s := s.dropAddr c a cause
      if (s.secondary h).any (fun r => r.cell == c) then s.setSecondaryRaw h ⟨noPort, 0, noShort⟩ else s

/-- Local line cells a chip may have: 256, 128 on an SQ8412-G (R6, R205). -/
def State.localCellLimit (s : State) : Nat := if s.sys.order = .g then 128 else 256

/-- The beacon order of a period in ms (R234): the largest of 0–14 whose interval does not exceed it; none where that interval is below 250 ms. -/
def State.beaconOrder (s : State) (n period : Nat) : Option Nat :=
  let a := Config.superframeUs (s.nat Attr.RadioPort.phyMode n)
  ((List.range 15).reverse.find? (fun k => 2 ^ k * a ≤ period * 1000)).filter (fun k => 250000 ≤ 2 ^ k * a)

/-- The PANs of a radio port. -/
def State.pansOf (s : State) (n : Nat) : List Nat := (s.instances 0x0310).filter (fun c => s.nat Attr.RadioPan.port c == n)

/-- Dissolves a cell (R206): its lanterns expire, its addresses and locator entries go. -/
def State.dissolve (s : State) (cls cell : Nat) : State × Nat :=
  let s := s.expireLanterns cell
  let mine := s.lin.addrs.filter (fun a => a.1 / 65536 == cell)
  let s := mine.foldl (fun s a => s.releasePath cell (a.1 % 65536) causeDissolved) s
  ({ s.destroy cls cell with lin := { s.lin with cells := Assoc.del cell s.lin.cells } }, mine.length)

/-- CELL_FORM on a radio port, whose PORT is 16 to 31 (Table 07-2): forms a PAN under the port's standard (DESIGN CHOICE, log 45: the spec names no command that does). -/
def State.formPan (s : State) (n cell slot : Nat) : Status × State :=
  let std := s.nat Attr.RadioPort.standard n
  if std = 0 then (.refused, s)
  else if 16 ≤ (s.pansOf n).length ∨ 256 ≤ (s.instances 0x0310).length then (.tableFull, s)
  else if s.isLine cell ∨ s.isPan cell ∨ (std = 1 ∧ (s.pansOf n).any (fun k => s.nat Attr.RadioPan.beaconSlot k == slot)) then (.badValue, s)
  else
    let mode := ((s.pansOf n).head?.map (fun k => s.nat Attr.RadioPan.wmbusMode k)).getD 1
    let s := s.create 0x0310 cell
    let s := (s.setNat Attr.RadioPan.port cell n).setNat Attr.RadioPan.kind cell std
    let s := if std = 1 then (s.setNat Attr.RadioPan.beaconSlot cell slot).setNat Attr.RadioPan.beaconOrder cell ((s.beaconOrder n 8000).getD 0)
      else s.setNat Attr.RadioPan.wmbusMode cell mode
    (.ok, (s.setCell cell {}).raise 0x0507 (objPath 0x0310 cell) [16 + n, cell, std, 0])

/-- CELL_FORM (R204–R206, R198). -/
def doCellForm : Body := fun c s =>
  let b := c.payload
  let action := octet b 0
  let kind := octet b 1
  let purpose := octet b 2
  let p := octet b 3
  let cell := field b 4 2
  let slot := octet b 6
  let relay := field b 10 8
  if action = 2 then
    if !s.isLine cell ∧ !s.isPan cell then (⟨.notFound, []⟩, s)
    else
      let r := s.dissolve (if s.isPan cell then 0x0310 else 0x0210) cell
      (⟨.ok, []⟩, r.1.raise 0x0508 (s.cellPath cell) [s.cellPort cell, cell, r.2])
  else if action = 1 ∧ 16 ≤ p ∧ p < 32 ∧ cell ≤ 511 ∧ slot ≤ 15 ∧ s.fencedObject 0x0301 (p - 16) then (⟨.fenced, []⟩, s)
  else if action = 1 ∧ 16 ≤ p ∧ p < 32 ∧ cell ≤ 511 ∧ slot ≤ 15 then
    let r := s.formPan (p - 16) cell slot
    (⟨r.1, []⟩, r.2)
  else if action ≠ 1 ∨ 1 < kind ∨ 1 < purpose ∨ 15 < p ∨ 511 < cell ∨ (kind = 0 ∧ 15 < slot) then (⟨.badValue, []⟩, s)
  else if s.fencedObject 0x0201 p ∨ (purpose = 1 ∧ s.fusedOff 13 0) then (⟨.fenced, []⟩, s)
  else if s.nat Attr.LinePort.wiring p = 0 then (⟨.refused, []⟩, s)
  else if kind = 0 ∧ (16 ≤ (s.localCells p).length ∨ s.localCellLimit ≤ (s.instances 0x0210).countP (fun k => s.nat Attr.LineCell.kind k == 0)) then
    (⟨.tableFull, []⟩, s)
  else if s.isLine cell ∨ s.isPan cell ∨ (kind = 0 ∧ (s.localCells p).any (fun k => s.nat Attr.LineCell.beaconSlot k == slot)) then (⟨.badValue, []⟩, s)
  else
    let s := s.create 0x0210 cell
    let s := ((s.setNat Attr.LineCell.port cell p).setNat Attr.LineCell.kind cell kind).setNat Attr.LineCell.purpose cell purpose
    let s := (s.setNat Attr.LineCell.beaconPeriodMs cell (if purpose = 1 then 1000 else 8000)).setNat Attr.LineCell.beaconSlot cell (if kind = 0 then slot else 0)
    let s := s.setNat Attr.LineCell.relayEui cell (if kind = 1 then relay else 0)
    let s := s.setCell cell { held := false, restoring := false }
    (⟨.ok, []⟩, s.raise 0x0507 (objPath 0x0210 cell) [p, cell, kind, purpose])

/-- SHORT_ADDRESS_RELEASE (R210). -/
def doShortAddressRelease : Body := fun c s =>
  let cell := field c.payload 0 2
  let a := field c.payload 2 2
  if Assoc.has (cell * 65536 + a) s.lin.addrs then (⟨.ok, []⟩, s.releasePath cell a causeCommand) else (⟨.notFound, []⟩, s)

def execCellForm (s : State) : Out := runOpcode 0x0210 doCellForm s
def execShortAddressRelease (s : State) : Out := runOpcode 0x0211 doShortAddressRelease s

/-- LEAVE (R210). -/
def execLeave (c eui : Nat) (s : State) : Out :=
  match (s.handleOf eui).bind (s.addrOf c) with
  | none => .next s
  | some a => .next (s.releasePath c a causeLeave)

/-- ADDRESS_IDLE_RELEASE (R210): not heard for `address_idle_days`; 0 means never. -/
def execAddressIdleRelease (c a : Nat) (s : State) : Out :=
  if s.nat (s.cellAttr c Attr.LineCell.addressIdleDays Attr.RadioPan.addressIdleDays) c = 0 then .next s else .next (s.releasePath c a causeIdle)

/-- Whether an EUI has a profile with a key blob (Table 05-10). -/
def State.known (s : State) (eui : Nat) : Option Nat :=
  (s.handleOf eui).filter (fun h => s.nat Attr.EndpointKey.generation h != 0xFF || s.nat Attr.EndpointKey.pendingGeneration h != 0xFF)

/-- Checks 1 to 4 of Table 05-10, in order; 0 where all pass. A relay node is no endpoint: it meets check 3 alone (log 19). -/
def State.admitResult (s : State) (r : AdmitReq) : Nat :=
  let h := s.known r.eui
  if r.role = 3 then (if s.isRemote r.cell ∧ s.nat Attr.LineCell.relayEui r.cell = r.eui then 0 else 3)
  else if h.isNone then 1
  else if r.role = 1 ∧ s.sys.order = .m then 2
  else if (r.role = 1 ∧ !bit r.caps 1) ∨ (r.role = 0 ∧ !bit r.caps 5) then 3
  else if h.any (fun h => Assoc.has h s.elt.guardAt && (s.primary h).any (fun q => q.cell != r.cell)) then 4
  else 0

/-- The link of an admitted endpoint or relay node: its counters cleared, what the peer declared (R176, R168, R186). -/
def State.admitLink (s : State) (k : Nat) (r : AdmitReq) : State :=
  let s := (s.destroy 0x0220 k).create 0x0220 k
  let s := s.setNat Attr.LineLink.streams k (if bit r.caps 3 then min (max r.streams 1) 3 else 1)
  s.setLink k { peerSpan := if bit r.caps 4 then r.longSpan else 0, fullDuplex := bit r.caps 2, zco := bit r.caps 0 }

/-- What admission enters for an endpoint: capabilities, NO_ZCO on an AC port (R208), the lantern's lease (R446). -/
def State.admitEndpoint (s : State) (p h : Nat) (r : AdmitReq) : State :=
  let s := s.setNat Attr.EndpointProfile.capabilities h r.caps
  let ac := p < 16 && (s.nat Attr.LinePort.wiring p == 1 || s.nat Attr.LinePort.wiring p == 2)
  let rest := s.lin.noZco.filter (fun x => x != h)
  let s := { s with lin := { s.lin with noZco := if ac && !bit r.caps 0 then rest ++ [h] else rest } }
  if s.nat Attr.EndpointProfile.role h = 1 then s.lanternAdmitted h else s

/-- Gives an endpoint its address in a cell and its path (R209, R270): the address and its state, none where the bucket is locked by another command; the address
is none where no address or no place is free (CELL_FULL). -/
def State.admitAddr (s : State) (port h : Nat) (r : AdmitReq) : Option (Option Nat × State) :=
  match s.addrOf r.cell h with
  | some a =>
    let x := s.commitPath h r.eui ⟨port, r.cell, a⟩ r.metric
    if x.1 = .waits then none else some (some a, x.2)
  | none =>
    match s.freeAddr r.cell with
    | none => some (none, s)
    | some a =>
      let x := (s.assignAddr r.cell a h).commitPath h r.eui ⟨port, r.cell, a⟩ r.metric
      match x.1 with
      | .waits => none
      | .full => some (none, { s with freeCtr := x.2.freeCtr, recd := x.2.recd })
      | .done => some (some a, x.2)

/-- ADMIT_RESP (Table 05-3), to an endpoint without an address yet (log 21). -/
def State.admitResp (s : State) (r : AdmitReq) (result short : Nat) : State :=
  s.sendMgmt r.cell 0xFFFE 1
    (beBytes 8 r.eui ++ beBytes 1 result ++ [0] ++ beBytes 2 short ++ beBytes 2 r.cell ++ beBytes 2 (s.nat Attr.LineCell.leaseEpoch r.cell)) 0 .none

/-- A refused admission: ADMIT_REFUSED with the result and the EUI. After WRONG_CELL the sighting follows the path rules (R272). -/
def State.admitRefuse (s : State) (r : AdmitReq) (result : Nat) : State :=
  let s := if s.isPan r.cell then s else s.raise 0x0504 (s.cellPath r.cell) [s.cellPort r.cell, r.cell, result, r.eui]
  if result ≠ 4 then s
  else
    match s.handleOf r.eui with
    | some h => (s.commitPath h r.eui ⟨s.cellPort r.cell, r.cell, noShort⟩ r.metric).2
    | none => s

/-- ADMIT_REQ (R207–R209): answered only in a cell of the port whose beacon shows ADMIT_OPEN; ELT fenced admits nobody. -/
def execAdmitReq (r : AdmitReq) (s : State) : Out :=
  let p := s.nat Attr.LineCell.port r.cell
  if !s.isLine r.cell ∨ !s.flag Attr.LineCell.admissionOpen r.cell ∨ !s.portTx p ∨ s.cutOff 8 0 then .next s
  else
    let res := s.admitResult r
    if res ≠ 0 then .next ((s.admitRefuse r res).admitResp r res 0)
    else if r.role = 3 then .next ((s.admitLink (relayLink p r.cell) r).admitResp r 0 0)
    else
      match s.known r.eui with
      | none => .next s
      | some h =>
        match s.admitAddr p h r with
        | none => .next s
        | some (none, t) => .next ((t.admitRefuse r 5).admitResp r 5 0)
        | some (some a, t) =>
          let t := if t.isRemote r.cell then t else t.admitLink (endpointLink p h) r
          .next ((t.admitResp r 0 a).admitEndpoint p h r)

/-! ### Lanes (R153–R161) -/

/-- Starts a training (R153): a SOUND frame of 64 symbols. -/
def State.startTraining (s : State) (l : Nat) : State :=
  let s := s.setNat Attr.LineLane.cancellerState l 1
  let s := s.setLane l { s.lane l with training := true, halfSince := none }
  (s.enqueue (l / 3) 0 { kind := 4, cell := 0, dst16 := 0xFFFF, group := true, secured := false, body := List.replicate 64 0 }).2

/-- Enters HALF_DUPLEX; CANCEL_HALF with the ERLE (R156, R177). -/
def State.enterHalf (s : State) (l erle : Nat) : State :=
  if s.nat Attr.LineLane.cancellerState l ≠ 2 then s
  else
    let x := s.lane l
    let s := (s.setNat Attr.LineLane.cancellerState l 3).bumpSat 32 Attr.LineLane.halfDuplexEntries l
    let s := s.setLane l { x with halfSince := some s.tim.d3, halfTimes := (s.tim.d3 :: x.halfTimes).take 3 }
    s.raise 0x0401 (objPath 0x0202 l) [l, erle]

/-- CANCEL_HALF (R156): ERLE, in 0.1 dB, fell below `fd_exit`. -/
def execCancelHalf (l erle : Nat) (s : State) : Out :=
  let s := s.setNat Attr.LineLane.erle l erle
  .next (if erle < s.nat Attr.LineLane.fdExit l * 10 then s.enterHalf l erle else s)

/-- CANCEL_FULL (R156, R157): 256 symbols at or above `fd_enter`; the taps are kept as the snapshot. -/
def execCancelFull (l erle : Nat) (taps : List Int) (s : State) : Out :=
  let s := s.setNat Attr.LineLane.erle l erle
  if s.nat Attr.LineLane.cancellerState l ≠ 3 ∨ erle < s.nat Attr.LineLane.fdEnter l * 10 then .next s
  else
    let s := s.setLane l { s.lane l with taps := taps, snapshot := some taps, halfSince := none }
    .next ((s.setNat Attr.LineLane.cancellerState l 2).raise 0x0402 (objPath 0x0202 l) [l, erle])

/-- CANCEL_DIVERGED (R157): the snapshot is restored. -/
def execCancelDiverged (l erle : Nat) (s : State) : Out :=
  let x := s.lane l
  let s := s.setNat Attr.LineLane.erle l erle
  .next ((s.setLane l { x with taps := x.snapshot.getD x.taps }).raise 0x0403 (objPath 0x0202 l) [l, erle])

/-- CANCELLER_TRAINING_DONE (R153): the fitted taps; FULL_DUPLEX at `fd_enter` or above, else HALF_DUPLEX. -/
def execCancellerTrainingDone (l erle : Nat) (taps : List Int) (s : State) : Out :=
  let x := s.lane l
  if !x.training then .next s
  else
    let s := s.setNat Attr.LineLane.erle l erle
    let full := decide (s.nat Attr.LineLane.fdEnter l * 10 ≤ erle)
    let s := s.setLane l { x with training := false, taps := taps, snapshot := if full then some taps else x.snapshot, halfTimes := [], halfSince := if full then none else some s.tim.d3 }
    .next (s.setNat Attr.LineLane.cancellerState l (if full then 2 else 3))

/-- RETRAIN_REQUEST (R158): 2 s in HALF_DUPLEX, or 3 entries within 60 s. -/
def execRetrainRequest (l : Nat) (s : State) : Out :=
  let x := s.lane l
  let long := x.halfSince.any (fun t => t + sec 2 ≤ s.tim.d3)
  let often := x.halfTimes.length == 3 && x.halfTimes.all (fun t => s.tim.d3 ≤ t + sec 60)
  if !(long || often) then .next s
  else
    let r := s.requestInternal 8 l
    .next (if r.1 = .admitted then r.2.startTraining l else r.2)

/-- TRACKING_SOUND (R159): 5 ms without transmission in HALF_DUPLEX; a SOUND frame of 32 symbols from queue 0. -/
def execTrackingSound (l : Nat) (s : State) : Out :=
  if s.nat Attr.LineLane.cancellerState l ≠ 3 then .next s
  else .next (s.enqueue (l / 3) 0 { kind := 4, cell := 0, dst16 := 0xFFFF, group := true, secured := false, body := List.replicate 32 0 }).2

/-- ADC_CLIP (R161): during the lane's own transmission it enters HALF_DUPLEX; also while not transmitting, the lane fault is reported. -/
def execAdcClip (l n : Nat) (idle : Bool) (s : State) : Out :=
  let s := (s.bump 32 Attr.LineLane.clipCount l n).raise 0x0404 (objPath 0x0202 l) [l, n]
  let s := s.enterHalf l (s.nat Attr.LineLane.erle l)
  .next (if idle then s.report 64 l else s)

/-- CANCELLER_RETRAIN (R177). -/
def doCancellerRetrain : Body := fun c s =>
  let l := octet c.payload 0
  if 47 < l then (⟨.badValue, []⟩, s)
  else if s.nat Attr.LineLane.cancellerState l = 0 then (⟨.refused, []⟩, s)
  else
    let r := s.requestCmd c 8 l
    (⟨decisionStatus r.1 .accepted, []⟩, if r.1 = .admitted then r.2.startTraining l else r.2)

def execCancellerRetrain (s : State) : Out := runOpcode 0x0201 doCancellerRetrain s

/-- A port is enabled: its lanes train (R153). -/
def State.enablePort (s : State) (p : Nat) : State := (s.portLanes p).foldl State.startTraining s

/-! ### Zero crossing (R169–R173) -/

/-- A port takes an edge of its source at a D3 instant (R170, R172): the detector delay is subtracted, an edge outside 5 % of the expected period is rejected. -/
def State.zcEdge (s : State) (p t : Nat) : State :=
  let x := s.port p
  let t := t - s.nat Attr.LinePort.zcDelayNs p * 65536
  let per := zcPeriod x.edges
  let d := t - x.edges.headD 0
  let n := (d + per / 2) / max per 1
  let off := if n * per ≤ d then d - n * per else n * per - d
  if per ≠ 0 ∧ (n = 0 ∨ per < off * 20) then s
  else
    let edges := (t :: x.edges).take 9
    let good := x.good + 1
    let s := s.setPort p { x with edges := edges, missing := 0, good := good, zcLost := x.zcLost && decide (good < 8) }
    let s := s.setNat Attr.LinePort.mainsPeriodNs p (zcPeriod edges / 65536)
    if good < 8 then s
    else
      let s := s.setFlag Attr.LinePort.zcValid p true
      if x.zcLost then s.raise 0x0406 (objPath 0x0201 p) [p] else s

/-- Ports whose reference is the input of port `q` (Table 04-8). -/
def State.zcUsers (s : State) (q : Nat) : List Nat :=
  (List.range 16).filter (fun p =>
    (s.nat Attr.LinePort.zcSource p == 0 && p == q) || (s.nat Attr.LinePort.zcSource p == 1 && s.nat Attr.LinePort.zcSourceArg p == q))

/-- ZC_EDGE (R169, R170): an edge at input `q`, after its deglitch, reaches every port that uses the input. -/
def execZcEdge (q t : Nat) (s : State) : Out := .next ((s.zcUsers q).foldl (fun s p => s.zcEdge p t) s)

/-- ZC_LOST (R172): 4 consecutive expected edges are missing. -/
def execZcLost (p : Nat) (s : State) : Out :=
  let x := s.port p
  if x.zcLost ∨ x.edges.isEmpty then .next s
  else .next ((s.setPort p { x with zcLost := true, good := 0, missing := 4 }).raise 0x0405 (objPath 0x0201 p) [p, 4])

/-- ZC_INVALID (R172): 2 s without an accepted edge. -/
def execZcInvalid (p : Nat) (s : State) : Out :=
  let x := s.port p
  .next ((s.setPort p { x with good := 0 }).setFlag Attr.LinePort.zcValid p false)

end Sys2Proof.Machine
end

