-- ==== Sys2Proof/Machine/Locator.lean ====
section
/-! DEFINITION. Rows of the locator that pass frames on (07_endpoint_locator.md): learning commits, and a lookup held by a DRAM error. -/

namespace Sys2Proof.Machine

/-- Takes a held frame out (R269). -/
def State.takeHeldFrame (s : State) (n : Nat) : Option (Nat × Secured) × State :=
  ((s.col.heldFrames.find? (fun x => x.1 == n)).map Prod.snd, { s with col := { s.col with heldFrames := s.col.heldFrames.filter (fun x => x.1 != n) } })

/-- LEARNING_COMMIT (R269–R275): the oldest sighting. An EUI without an endpoint is not learnt and its frame is dropped; where the bucket pair is locked the sighting
waits. -/
def execLearningCommit (s : State) : Out :=
  match s.elt.queue with
  | [] => .next s
  | x :: rest =>
    if s.cutOff 8 0 then .next s
    else
      let popped := { s with elt := { s.elt with queue := rest } }
      let frame := x.frame.map popped.takeHeldFrame
      let t := (frame.map Prod.snd).getD popped
      match s.handleOf x.key with
      | none => .next t
      | some h =>
        let r := t.commitPath h x.key ⟨x.port, x.cell, x.short⟩ x.metric
        match r.1, frame.bind Prod.fst with
        | .waits, _ => .next s
        | .done, some f => .next (r.2.uplink h f.2)
        | _, _ => .next r.2

/-- BUCKET_DRAM_ERROR (R291): the lookup of a frame is held. -/
def execBucketDramError (b : Nat) (key : Option Nat) (p c short metric : Nat) (x : Secured) (s : State) : Out :=
  .next { s with elt := { s.elt with heldLookup := some ⟨b, key, p, c, short, metric, x⟩ } }

/-- SHADOW_COMPARE (R290, R291): the comparator reads a bucket; one that holds a lookup is repaired from the shadow and the lookup repeated. -/
def execShadowCompare (b : Nat) (crcOk : Bool) (s : State) : Out :=
  match s.elt.heldLookup with
  | some l =>
    if l.bucket = b ∧ crcOk then
      let s := ({ s with elt := { s.elt with heldLookup := none } }).fromShadow b |>.repaired b 0
      .next (s.atLocator l.key ⟨l.port, l.cell, l.short⟩ l.metric l.frame)
    else .next (s.compareBucket b crcOk)
  | none => .next (s.compareBucket b crcOk)

/-- LOOKUP_UNRESOLVED (R291): after 1 ms the frame is dropped unacknowledged. -/
def execLookupUnresolved (s : State) : Out := .next { s with elt := { s.elt with heldLookup := none } }

end Sys2Proof.Machine
end

