-- ==== Sys2Proof/Machine/Radio.lean ====
section
/-! DEFINITION. Radio ports and the chess clock (06_radio_ports.md). -/

namespace Sys2Proof.Machine

/-! ### Ports -/

/-- Whether a radio port is in use and may transmit: a standard, field transmission, no fence of the port (R225, Table 01-2). -/
def State.radioTx (s : State) (n : Nat) : Bool := s.fieldTx && s.nat Attr.RadioPort.standard n != 0 && !s.cutOff 6 n

/-- RX_SYNC_LOST (R221). -/
def execRxSyncLost (n : Nat) (s : State) : Out :=
  if !(s.rport n).locked then .next s
  else
    let s := (s.setRport n { s.rport n with locked := false }).bump 32 Attr.RadioPort.syncLosses n
    .next (s.raise 0x0601 (objPath 0x0301 n) [n, s.nat Attr.RadioPort.syncLosses n])

/-- RADIO_WORD_LOCK (R221). -/
def execRadioWordLock (n : Nat) (s : State) : Out := .next (s.setRport n { s.rport n with locked := true })

/-! ### The chess clock (R239–R247) -/

/-- The transmit channel of a port (R252). -/
def State.txChannel (s : State) (n : Nat) : Nat :=
  if s.nat Attr.RadioPort.txChannelKhz n = 0 then s.nat Attr.RadioPort.channelKhz n else s.nat Attr.RadioPort.txChannelKhz n

/-- The number of the band of a port's profile that holds a channel. -/
def State.bandOf (s : State) (n khz : Nat) : Option Nat :=
  let l := s.bands (s.nat Attr.RadioPort.bandProfile n)
  (List.range l.length).find? (fun k => let b := l.getD k []; decide (field b 0 4 ≤ khz ∧ khz ≤ field b 4 4))

/-- The ledger that takes a port's transmissions (R244, R256), and its band. -/
def State.ledgerOf (s : State) (n : Nat) : Option (Nat × Bytes) :=
  (s.bandOf n (s.txChannel n)).map (fun k =>
    let b := (s.bands (s.nat Attr.RadioPort.bandProfile n)).getD k []
    (if bandChipWide b then 256 + k else n * 16 + k, b))

/-- The bucket a ledger now charges. -/
def State.bucketNow (s : State) (i : Nat) : Nat := (Assoc.find i s.rad.current).getD 0

/-- Writes a ledger's buckets; used is their sum. -/
def State.setBuckets (s : State) (i : Nat) (l : List Int) : State :=
  (s.setAttr Attr.ChessLedger.buckets i (.arr l)).setNat Attr.ChessLedger.usedUs i l.sum.toNat

/-- Charges airtime in µs to a ledger's current bucket (R239). -/
def State.charge (s : State) (i us : Nat) (beacon : Bool) : State :=
  let l := s.arr Attr.ChessLedger.buckets i
  let k := s.bucketNow i
  let s := s.setBuckets i (l.set k (min (l.getD k 0 + us) 0xFFFFFFFF))
  if beacon then s.bump 64 Attr.ChessLedger.beaconUsedUs i us else s

/-- What a frame is to the chess clock (Table 06-7). -/
inductive FrameClass
  | beacon | prompt | bulk
  deriving DecidableEq, Repr

/-- Table 06-7's budget condition for a frame of airtime `a` µs in a band. -/
def budgetAllows (cls : FrameClass) (used a budget reserve bulk : Nat) : Bool :=
  let prompt := decide ((used + a) * 100 ≤ budget * (100 - reserve))
  match cls with
  | .beacon => decide (used + a ≤ budget)
  | .prompt => prompt
  | .bulk => prompt && decide ((used + a) * 100 ≤ budget * bulk)

/-- The decision of the chess clock on a frame of a port. -/
inductive Chess
  | allow (ledger : Nat)
  | wait
  | tooLong
  | refuse (ledger band : Nat)
  deriving DecidableEq, Repr

/-- Decides a frame (R240–R242); without a band no transmission is admitted. -/
def State.chess (s : State) (n a : Nat) (cls : FrameClass) (sensed : Bool) : Chess :=
  match s.ledgerOf n with
  | none => .tooLong
  | some (i, b) =>
    if field b 14 2 * 1000 < a then .tooLong
    else if (s.rport n).lastEnd.any (fun t => decide (s.tim.d3 < t + msec (field b 16 2))) then .wait
    else if bit (octet b 19) 0 && sensed then .wait
    else if budgetAllows cls (s.nat Attr.ChessLedger.usedUs i) a (bandBudget b) (octet b 18) (s.nat Attr.RadioPort.bulkLimitPct n) then .allow i
    else .refuse i (if 256 ≤ i then i - 256 else i % 16)

/-- Starts the transmit sequence of Table 06-4: LNA off, the tx_script, PA on. -/
def State.radioStart (s : State) (n : Nat) (x : RadioTx) (q a i : Nat) : State :=
  let s := s.setRport n { s.rport n with onAir := some (x, q, a, i), paEn := true, lnaEn := false }
  { s with rad := { s.rad with spi := s.rad.spi ++ [(n, 0)] } }

/-- A refusal is counted and recorded (R241). -/
def State.radioRefuse (s : State) (n i band q : Nat) : State :=
  ((s.bumpSat 32 Attr.RadioPort.refusals n).bumpSat 32 Attr.ChessLedger.refusals i).raise 0x0604 (objPath 0x0301 n) [n, band, q]

/-- The producer of a frame dropped with BUDGET_EXHAUSTED learns of it (R241): a request of COL waits for its endpoint's next slot (R303). -/
def State.radioDropped (s : State) (pr : Producer) : State :=
  match pr with
  | .col h k => s.budgetExhausted h k
  | _ => s

/-- A frame longer than `max_frame_ms` is refused with BAD_VALUE (R241): a request of COL ends with it. -/
def State.radioTooLong (s : State) (pr : Producer) : State :=
  match pr with
  | .col h k =>
    match s.col.requests.find? (fun r => r.handle == h && r.serial == k) with
    | some r => s.endRequest r .badValue []
    | none => s
  | _ => s

/-- The highest queue of a radio port that holds a frame. -/
def RPort.top (x : RPort) : Option Nat := [7, 6, 5, 4, 3, 2, 1, 0].find? (fun q => !(x.queues.getD q []).isEmpty)

/-- CHESS_CLOCK_ADMIT (R231, R239–R243): the answer that waits (`answer`), or the head of the highest queue, with its airtime `a` in µs and whether the channel
is sensed busy. A wireless M-Bus port sends answers alone. -/
def execChessClockAdmit (n : Nat) (answer : Bool) (a : Nat) (sensed : Bool) (s : State) : Out :=
  let x := s.rport n
  if !s.radioTx n ∨ x.onAir.isSome then .next s
  else if answer then
    match x.answer with
    | none => .next s
    | some f =>
      match s.chess n a .prompt sensed with
      | .allow i => .next ((s.setRport n { x with answer := none }).radioStart n f 8 a i)
      | .wait => .next s
      | .tooLong => .next ((s.setRport n { x with answer := none }).radioTooLong f.producer)
      | .refuse i k => .next (((s.setRport n { x with answer := none }).radioRefuse n i k 8).radioDropped f.producer)
  else if s.nat Attr.RadioPort.standard n = 2 then .next s
  else
    match x.top.bind (fun q => ((x.queues.getD q []).head?).map (fun f => (q, f))) with
    | none => .next s
    | some (q, f) =>
      let popped := s.setRport n { x with queues := x.queues.set q (x.queues.getD q []).tail }
      match s.chess n a (if q < 2 then .bulk else .prompt) sensed with
      | .allow i => .next (popped.radioStart n f q a i)
      | .wait => .next s
      | .tooLong => .next (popped.radioTooLong f.producer)
      | .refuse i k => .next ((popped.radioRefuse n i k q).radioDropped f.producer)

/-- The port returns to reception: PA off, the rx_script, LNA on. -/
def State.radioEnd (s : State) (n : Nat) : State :=
  let s := s.setRport n { s.rport n with onAir := none, paEn := false, lnaEn := true, lastEnd := some s.tim.d3 }
  { s with rad := { s.rad with spi := s.rad.spi ++ [(n, 1)] } }

/-- RADIO_TX_END (R223, R239): the measured airtime is charged; a request that went out in a meter's access is outstanding (R305). -/
def execRadioTxEnd (n us : Nat) (s : State) : Out :=
  match (s.rport n).onAir with
  | none => .next s
  | some (f, _, _, i) =>
    let s := (s.charge i us f.beacon).radioEnd n
    match f.producer with
    | .col h k =>
      .next { s with
        col := { s.col with
          requests := s.col.requests.map (fun r => if r.handle = h ∧ r.serial = k ∧ !r.outstanding then { r with outstanding := true, attempts := r.attempts + 1 } else r) } }
    | _ => .next s

/-- Cuts a port off (R225): PA and LNA enables low, SPI select released; a frame in flight is charged up to the cut and TX_CUT recorded. -/
def State.radioCut (s : State) (n us : Nat) : State :=
  let x := s.rport n
  let s := s.setRport n { x with onAir := none, paEn := false, lnaEn := false, answer := none }
  let s := { s with rad := { s.rad with spi := s.rad.spi.filter (fun e => e.1 != n) } }
  match x.onAir with
  | none => s
  | some (f, _, _, i) => (s.charge i us f.beacon).raise 0x0606 (objPath 0x0301 n) [n, us]

/-- TX_CUT (R225): while the port is fenced, in HOLDUP, in STALEMATE or in a reset; `us` is the airtime so far. -/
def execTxCut (n us : Nat) (s : State) : Out :=
  if s.cutOff 6 n ∨ s.sys.mode = .holdup ∨ s.sys.stalemate ∨ s.sys.mode = .booting then .next (s.radioCut n us) else .next s

/-- Keeps a ledger's buckets as persisted in NAND (R245). -/
def State.persistLedger (s : State) (i : Nat) : State :=
  { s with rad := { s.rad with persisted := Assoc.put i (s.arr Attr.ChessLedger.buckets i) s.rad.persisted } }

/-- LEDGER_BUCKET_END (R245, R246): the next bucket starts empty, the ledger is persisted; a pair mirrors it. -/
def execLedgerBucketEnd (i : Nat) (s : State) : Out :=
  let k := (s.bucketNow i + 1) % 64
  let s := s.post (.ledger i (s.bucketNow i) ((s.arr Attr.ChessLedger.buckets i).getD (s.bucketNow i) 0).toNat)
  let s := { s with rad := { s.rad with current := Assoc.put i k s.rad.current } }
  .next ((s.setBuckets i ((s.arr Attr.ChessLedger.buckets i).set k 0)).persistLedger i)

/-- After a change of a port's profile (R247): a band with the edges of an old one keeps that ledger, every other starts empty. -/
def State.reband (s : State) (n : Nat) (old : List Bytes) : State :=
  let new := s.bands (s.nat Attr.RadioPort.bandProfile n)
  let idx := fun (l : List Bytes) (k : Nat) => if bandChipWide (l.getD k []) then 256 + k else n * 16 + k
  let held := (List.range old.length).map (fun k => (slice (old.getD k []) 0 8, s.arr Attr.ChessLedger.buckets (idx old k), s.bucketNow (idx old k)))
  (List.range new.length).foldl
    (fun s k =>
      match held.find? (fun h => h.1 == slice (new.getD k []) 0 8) with
      | some h => { s.setBuckets (idx new k) h.2.1 with rad := { s.rad with current := Assoc.put (idx new k) h.2.2 s.rad.current } }
      | none => s.setBuckets (idx new k) (List.replicate 64 0)) s

/-! ### Band profiles (R249, R250) -/

/-- Whether an entry of Table 06-8 lies in its ranges. -/
def bandLegal (b : Bytes) : Bool :=
  decide (30000 ≤ field b 0 4 ∧ field b 4 4 ≤ 1000000 ∧ field b 0 4 < field b 4 4 ∧ 1 ≤ field b 8 4 ∧ field b 8 4 ≤ 1000000 ∧ 1 ≤ field b 12 2 ∧
    field b 12 2 ≤ 3600 ∧ 1 ≤ field b 14 2 ∧ octet b 18 ≤ 50 ∧ octet b 19 < 4 ∧ field b 21 3 = 0)

/-- Whether two bands overlap. -/
def bandsOverlap (a b : Bytes) : Bool := decide (field a 0 4 < field b 4 4 ∧ field b 0 4 < field a 4 4)

/-- BAND_PROFILE_LOAD (R249). -/
def doBandProfileLoad : Body := fun c s =>
  let b := c.data
  let i := octet b 0
  let n := octet b 1
  let es := (List.range n).map (fun k => slice b (4 + 24 * k) 24)
  if (List.range 16).any (fun p => s.nat Attr.RadioPort.bandProfile p == i) ∧ i ≤ 7 then (⟨.refused, []⟩, s)
  else if i < 3 ∨ 7 < i ∨ n = 0 ∨ 16 < n ∨ field b 2 2 ≠ 0 ∨ b.length ≠ 4 + 24 * n ∨ !es.all bandLegal ∨
      (List.range n).any (fun j => (List.range j).any (fun k => bandsOverlap (es.getD j []) (es.getD k []))) then (⟨.badValue, []⟩, s)
  else
    let s := s.setAttr Attr.BandProfile.entries i (.bytes (b.drop 4))
    (⟨.ok, []⟩, s.raise 0x0605 (objPath 0x0302 i) [i, n])

def execBandProfileLoad (s : State) : Out := runOpcode 0x0301 doBandProfileLoad s

/-! ### Reception (R227–R232) -/

/-- The extended sequence of a source: 256 is added when the number falls below the last accepted one (R232). -/
def extendSeq (last seq : Nat) : Nat := (last / 256 * 256 + seq + (if seq < last % 256 then 256 else 0)) % 4096

/-- The wireless M-Bus modes with a response window: S2, T2, C2, N2 (Table 06-6, numbered in its order: log 25). -/
def wmbusAnswers (mode : Nat) : Bool := mode == 2 || mode == 4 || mode == 6 || mode == 8

/-- Whether a queued frame is for an endpoint. -/
def RadioTx.forHandle (x : RadioTx) (h : Nat) : Bool :=
  match x.producer with
  | .col k _ | .ack k _ | .lux k | .safeLevel k => k == h
  | .campaign _ k _ => k == h
  | _ => false

/-- What a meter's access carries (R231, R305): the first frame queued for it, from the highest queue, else its next request. -/
def State.takeAnswer (s : State) (n h : Nat) : State :=
  let x := s.rport n
  match [7, 6, 5, 4, 3, 2, 1, 0].find? (fun q => (x.queues.getD q []).any (fun f => f.forHandle h)) with
  | some q =>
    let l := x.queues.getD q []
    match l.find? (fun f => f.forHandle h) with
    | some f => s.setRport n { x with answer := some f, queues := x.queues.set q (l.erase f) }
    | none => s
  | none =>
    match s.col.requests.find? (fun r => r.handle == h && !r.outstanding && r.retryAt.isNone) with
    | none => s
    | some r =>
      if s.cutOff 9 0 ∨ s.gloveShut ∨ s.nat Attr.EndpointKey.keyState h = 2 then s
      else
        let e := s.ep h
        let s := (s.setEp h { e with outCounter := e.outCounter + 1 }).post (.counter h)
        let body := Config.protect h (s.nat Attr.EndpointKey.generation h) (e.outCounter + 1) r.apdu
        s.setRport n { s.rport n with answer := some { cell := r.cell, dst16 := noShort, body := body, producer := .col h r.serial } }

/-- The number a radio source is kept under: its key, or its short address in its cell. -/
def rxSource (x : RadioRx) : Nat := x.key.getD (2 ^ 64 + x.cell * 65536 + x.short)

/-- RADIO_FRAME_RECEIVED (R227, R230–R232): frames of a locked port that is receiving. Repeats are answered again and dropped; mesh frames go to Purel; the rest go
to ELT by EUI, link address or short address. -/
def execRadioFrameReceived (x : RadioRx) (s : State) : Out :=
  let y := s.rport x.port
  let std := s.nat Attr.RadioPort.standard x.port
  if !s.radioTx x.port ∨ !y.locked ∨ y.paEn ∨ !s.isPan x.cell ∨ s.nat Attr.RadioPan.port x.cell ≠ x.port then .next s
  else
    let s := s.bump 64 Attr.RadioPort.framesRx x.port
    if x.modeSwitch ∨ !x.fcsOk then .next (s.bump 32 Attr.RadioPort.framesDiscarded x.port)
    else if std = 2 ∧ x.security ≠ 5 ∧ x.security ≠ 7 then .next (s.bump 32 Attr.RadioPort.insecureFrames x.port)
    else
      let src := rxSource x
      let ext := extendSeq ((Assoc.find src y.lastSeq).getD 0) x.seq
      match y.repeats.find? (fun r => r.1 == src && r.2.1 == ext && decide (s.tim.d3 ≤ r.2.2.1 + sec 10)) with
      | some r => .next (s.setRport x.port { y with answer := r.2.2.2 })
      | none =>
        let ack : RadioTx := { cell := x.cell, dst16 := x.short, body := [BitVec.ofNat 8 x.seq] }
        let s := if std = 1 then s.setRport x.port { y with answer := some ack } else s
        let route : Route := ⟨16 + x.port, x.cell, if std = 2 then noShort else x.short⟩
        let s := if std = 1 ∧ x.mesh then s.toFirmware 0xFFFFFFFF 0 0 (match x.content.apdu with | .other b => b | _ => [])
          else s.atLocator x.key route x.snr x.content
        let s := match x.key.bind s.handleOf with
          | some h => if std = 2 ∧ wmbusAnswers (s.nat Attr.RadioPan.wmbusMode x.cell) then s.takeAnswer x.port h else s
          | none => s
        let z := s.rport x.port
        let mine := z.repeats.filter (fun r => r.1 == src)
        .next (s.setRport x.port { z with
          lastSeq := Assoc.put src ext z.lastSeq
          repeats := z.repeats.filter (fun r => r.1 != src) ++ (mine ++ [(src, ext, s.tim.d3, z.answer)]).drop (mine.length - 15) })

/-- ASSOCIATION_REQUEST (R237, R238): on a SUN_FSK PAN, role and capabilities from the profile; ADMITTED is status 0, CELL_FULL 1, any other 2. -/
def execAssociationRequest (c eui metric : Nat) (s : State) : Out :=
  let n := s.nat Attr.RadioPan.port c
  if !s.isPan c ∨ !s.flag Attr.RadioPan.admissionOpen c ∨ !s.radioTx n ∨ s.nat Attr.RadioPort.standard n ≠ 1 ∨ s.cutOff 8 0 then .next s
  else
    let h := (s.handleOf eui).getD 0
    let role := if (s.handleOf eui).isSome then s.nat Attr.EndpointProfile.role h else 0
    let r : AdmitReq :=
      { cell := c, eui := eui, caps := if role = 1 then 0 else s.nat Attr.EndpointProfile.capabilities h, longSpan := 0, streams := 1, role := role, metric := metric }
    let reply := fun (s : State) (st short : Nat) =>
      s.radioEnqueue n 5 { cell := c, dst16 := noShort, body := leBytes 1 st ++ leBytes 2 short ++ leBytes 8 eui }
    let res := s.admitResult r
    if res ≠ 0 then .next (reply (s.admitRefuse r res) 2 0xFFFF)
    else
      match s.admitAddr (16 + n) h r with
      | none => .next s
      | some (none, t) => .next (reply (t.admitRefuse r 5) 1 0xFFFF)
      | some (some a, t) => .next (reply t 0 a)

/-! ### Beacons (R233–R236) -/

/-- A PAN's beacon: the body of Table 05-7 without lease, then its CMAC (R235). -/
def State.panBeacon (s : State) (c : Nat) : Bytes :=
  let n := s.nat Attr.RadioPan.port c
  let slots := (((s.instances 0x0310).filter (fun k => s.nat Attr.RadioPan.port k == n)).map (fun k => s.nat Attr.RadioPan.beaconSlot k + 1)).foldl max 0
  let body := beBytes 2 (s.cell c).seq ++ beBytes 2 0 ++ beBytes 1 (s.nat Attr.RadioPan.beaconSlot c) ++ beBytes 1 (b2n (s.flag Attr.RadioPan.admissionOpen c)) ++
    beBytes 1 slots ++ [0] ++ s.fieldTime s.tim.d2 ++ [0, 0, 0, 0]
  body ++ s.beaconCmac c body

/-- RADIO_BEACON_DUE (R236): attempt `k` ms after the due time. Refused by the chess clock, on a busy channel or a busy port it is tried again 1 ms later; not
started within 5 ms it is missed. -/
def execRadioBeaconDue (c k a : Nat) (sensed : Bool) (s : State) : Out :=
  let n := s.nat Attr.RadioPan.port c
  if !s.isPan c ∨ s.nat Attr.RadioPort.standard n ≠ 1 ∨ s.sys.mode = .shadow then .next s
  else
    let s := if k = 0 then s.setCell c { s.cell c with seq := ((s.cell c).seq + 1) % 65536 } else s
    let fail := fun s : State => if 5 ≤ k then s.missBeacon c else s.setCell c { s.cell c with slip := some (k + 1) }
    if !s.radioTx n ∨ (s.rport n).onAir.isSome then .next (fail s)
    else
      match s.chess n a .beacon sensed with
      | .allow i =>
        let s := s.radioStart n { cell := c, dst16 := 0xFFFF, body := s.panBeacon c, beacon := true } 7 a i
        let s := s.setCell c { s.cell c with missed := 0, slip := none }
        let st := s.nat Attr.RadioPan.beaconState c
        let s := s.beaconState c 0
        .next (if st = 2 then s.raise 0x0603 (objPath 0x0310 c) [16 + n, c] else s)
      | .refuse i b => .next (fail (s.radioRefuse n i b 7))
      | _ => .next (fail s)

end Sys2Proof.Machine
end

