-- ==== Sys2Proof/Machine/Collect.lean ====
section
/-! DEFINITION. Collection and validation: the commands and rows of 08_collection_validation.md. -/

namespace Sys2Proof.Machine

/-! ### Commands (R312, R313, R330, R337) -/

/-- The endpoint a command's path names; the path's class must be the one the command acts on (R312). -/
def Cmd.target (c : Cmd) (cls : Nat) : Option Nat := if pathCls c.path = cls then some (pathInst c.path) else none

/-- POLL_NOW (R312). -/
def doPollNow : Body := fun c s =>
  match c.target 0x0501 with
  | none => (⟨.badObject, []⟩, s)
  | some h =>
    let n := field c.payload 4 2
    if n = 0 ∨ 672 < n then (⟨.badValue, []⟩, s) else (⟨.accepted, []⟩, s.poll h (field c.payload 0 4) n (some c.arrival))

/-- An energize APDU without an approval (R560): refused, recorded with handle, serial and check 0. -/
def State.refuseEnergize (s : State) (h serial check : Nat) : State :=
  ({ s with glv := { s.glv with approvalRefused := true } }).raise 0x1009 (objPath 0x0C10 0) [h, serial, check]

/-- DOWNLINK_SEND (R312, R313, R560). -/
def doDownlinkSend : Body := fun c s =>
  match c.target 0x0501 with
  | none => (⟨.badObject, []⟩, s)
  | some h =>
    let q := octet c.data 0
    let apdu := c.data.drop 4
    if q = 0 ∨ 6 < q then (⟨.badValue, []⟩, s)
    else if s.nat Attr.EndpointProfile.role h = 1 then (⟨.refused, []⟩, s)
    else
      let n := s.nextSerial h
      if Config.energizeApdu apdu then (⟨.refused, []⟩, n.2.refuseEnergize h n.1 0)
      else (⟨.accepted, []⟩, n.2.request h q 0x0502 n.1 none apdu (some c.arrival))

/-- SUPPLY_CONNECT (R66, R312): waits for its confirmation. -/
def doSupplyConnect : Body := fun c s =>
  match c.target 0x0501 with
  | none => (⟨.badObject, []⟩, s)
  | some _ => if 1 < octet c.payload 0 then (⟨.badValue, []⟩, s) else s.initiate c

/-- SUPPLY_DISCONNECT (R312, R313). -/
def doSupplyDisconnect : Body := fun c s =>
  match c.target 0x0501 with
  | none => (⟨.badObject, []⟩, s)
  | some h =>
    let n := s.nextSerial h
    (⟨.accepted, []⟩, n.2.request h 6 0x0504 n.1 none (Config.supplyApdu 2) (some c.arrival))

/-- The quality the rule set now gives a stored version (R329, R330): the value checks anew; SUSPECT also stays where a value was cut to 0xFF_FFFE, where a rollback left
it absent, and where its bracket fails SUM. -/
def State.recheckQuality (s : State) (h i : Nat) (r : IRec) : BitVec 7 :=
  let reg := fun k : Nat => (s.ep h).register k i
  let kept := [0, 1, 2, 3].any (fun k =>
    r.vals.getD k absentVal == topVal || (r.has qSuspect && r.vals.getD k absentVal == absentVal && (reg k).isSome) ||
      (reg k).any (fun g => !(s.brokenBracket h i k g (r.vals.getD k absentVal)).isEmpty))
  (r.quality &&& ~~~ qSuspect) ||| s.valueChecks h i r.vals ||| (if kept then qSuspect else 0)

/-- A new version of an interval where the outcome of the rule set differs. -/
def State.recheck (s : State) (h i : Nat) : Option NewRec :=
  (s.held h i).bind (fun r => let q := s.recheckQuality h i r; if q = r.quality then none else some ⟨h, i, q, r.vals⟩)

/-- The endpoints REVALIDATE acts on: that of the path, or those whose schedule uses the path's rule set. -/
def State.revalidated (s : State) (path : Nat) : Option (List Nat) :=
  let i := pathInst path
  if pathCls path = 0x0501 ∨ pathCls path = 0x0B10 then some [i]
  else if pathCls path = 0x0601 then some ((s.instances 0x0501).filter (fun h => s.ruleSet h == i))
  else none

/-- REVALIDATE (R330): completion follows the commit of the new versions. -/
def doRevalidate : Body := fun c s =>
  let first := field c.payload 0 4
  let n := field c.payload 4 2
  match s.revalidated c.path with
  | none => (⟨.badObject, []⟩, s)
  | some hs =>
    if n = 0 ∨ 2880 < n then (⟨.badValue, []⟩, s)
    else
      let recs := hs.flatMap (fun h => (List.range n).filterMap (fun k => s.recheck h (first + k)))
      (⟨.accepted, []⟩, s.commit { id := 0, recs := recs, done := some c.arrival })

/-- Eight 3-octet values (Table 08-8). -/
def values24 (b : Bytes) : List Nat := (List.range 8).map (fun k => field b (3 * k) 3)

/-- INTERVAL_EDIT (R336, R337). -/
def doIntervalEdit : Body := fun c s =>
  let h := pathInst c.path
  let i := field c.payload 0 4
  let mask := octet c.payload 4
  if pathCls c.path ≠ 0x0501 ∧ pathCls c.path ≠ 0x0B10 then (⟨.badObject, []⟩, s)
  else if c.role ≠ .operator ∧ c.role ≠ .billing then (⟨.denied, []⟩, s)
  else if 16 ≤ (s.versions h i).length then (⟨.tableFull, []⟩, s.raise 0x0A01 (objPath 0x0501 h) [h, i])
  else
    let old := (s.current h i).getD ⟨0, 0, List.replicate 8 absentVal⟩
    let new := values24 (slice c.payload 8 24)
    let vals := (List.range 8).map (fun k => if bit mask k then new.getD k 0 else old.vals.getD k absentVal)
    (⟨.ok, []⟩, s.commit { id := 0, recs := [⟨h, i, old.quality ||| qEdited, vals⟩] })

def execPollNow (s : State) : Out := runOpcode 0x0501 doPollNow s
def execDownlinkSend (s : State) : Out := runOpcode 0x0502 doDownlinkSend s
def execSupplyConnect (s : State) : Out := runOpcode opConnect doSupplyConnect s
def execSupplyDisconnect (s : State) : Out := runOpcode 0x0504 doSupplyDisconnect s
def execRevalidate (s : State) : Out := runOpcode 0x0601 doRevalidate s
def execIntervalEdit (s : State) : Out := runOpcode 0x0602 doIntervalEdit s

/-! ### Schedules and polls (R297–R303) -/

/-- The first interval of the last `n` ended that is not held. -/
def State.firstMissing (s : State) (h n : Nat) : Option Nat :=
  let e := s.lastEnded
  ((List.range n).map (fun k => e + 1 - n + k)).find? (fun i => (s.held h i).isNone)

/-- Polls from the first interval not held to the last ended, over at most `n` intervals (R300). -/
def State.pollMissing (s : State) (h n : Nat) : State :=
  match s.firstMissing h (min n 672) with
  | none => s
  | some i => s.poll h i (s.lastEnded + 1 - i) none

/-- SCHEDULE_SLOT (R299, R300, R302, R303): a POLL endpoint is read; PUSH_EXPECT waits for its deadline; requests held for the slot go on. -/
def execScheduleSlot (h : Nat) (s : State) : Out :=
  let k := s.nat Attr.EndpointProfile.schedule h
  let s := s.slotRetries h
  if !s.endpoint h ∨ s.nat Attr.CollectionSchedule.method k ≠ 2 ∨ s.unset then .next s
  else if s.cutOff 9 0 then
    .next { s with col := { s.col with duePolls := if s.col.duePolls.contains h then s.col.duePolls else s.col.duePolls ++ [h] } }
  else .next (s.pollMissing h (s.nat Attr.CollectionSchedule.lookback k))

/-- A placeholder (R299). -/
def placeholder (h i : Nat) : NewRec := ⟨h, i, qMissing, List.replicate 8 absentVal⟩

/-- The deadline of a slot (R299): expected intervals without a record get placeholders, then one poll covers those missing. -/
def State.deadline (s : State) (h due : Nat) : State :=
  let k := s.nat Attr.EndpointProfile.schedule h
  let n := s.nat Attr.CollectionSchedule.lookback k
  let want := (List.range n).map (fun j => due / 900 - n + j)
  let none' := want.filter (fun i => (s.versions h i).isEmpty)
  let gone := want.filter (fun i => (s.held h i).isNone)
  let s := if none'.isEmpty then s else s.commit { id := 0, recs := none'.map (placeholder h) }
  if !s.flag Attr.CollectionSchedule.pollFallback k then s
  else
    match gone.head?, gone.getLast? with
    | some a, some b => s.poll h a (b + 1 - a) none
    | _, _ => s

/-- MISSING_DEADLINE (R299, R302): slot + `missing_after_s` of the due time `due`, in s. -/
def execMissingDeadline (h due : Nat) (s : State) : Out :=
  if !s.endpoint h ∨ s.nat Attr.CollectionSchedule.method (s.nat Attr.EndpointProfile.schedule h) ≠ 1 then .next s
  else if s.cutOff 9 0 ∨ s.unset then .next { s with col := { s.col with dueDeadlines := s.col.dueDeadlines ++ [(h, due)] } }
  else .next (s.deadline h due)

/-- REQUEST_TIMEOUT (R305): the request is repeated, or fails after its last attempt; a calendar transfer goes on (R354). -/
def execRequestTimeout (order : Nat) (s : State) : Out :=
  match s.col.requests.find? (fun r => r.order == order && r.outstanding) with
  | none => .next s
  | some r =>
    if r.attempts < s.requestRetries r.cell then
      if s.isWmbus r.cell then .next (s.setRequest { r with outstanding := false })
      else .next ((s.setRequest { r with attempts := r.attempts + 1 }).sendRequest r)
    else
      let s := (s.raise 0x0903 (objPath 0x0501 r.handle) [r.handle, r.opcode, r.serial]).endRequest r .timeout []
      if r.opcode = 0x0701 ∨ r.opcode = 0x0702 then .next (s.request r.handle 1 r.opcode r.serial none r.apdu none) else .next s

/-- POWER_RESTORE_NOTICE (R301): one delayed poll; later notices are counted. -/
def execPowerRestoreNotice (h : Nat) (s : State) : Out :=
  let k := s.nat Attr.EndpointProfile.schedule h
  let e := s.ep h
  if !s.endpoint h ∨ !s.flag Attr.CollectionSchedule.restorePoll k then .next s
  else if e.restorePoll.isSome then .next (s.setEp h { e with notices := e.notices + 1 })
  else .next (s.drawn.setEp h { e with restorePoll := some (s.freeNat % (s.nat Attr.CollectionSchedule.restoreSpreadS k + 1)) })

/-- RESTORE_POLL_DUE (R301, R302): the intervals since the last non-MISSING record. -/
def execRestorePollDue (h : Nat) (s : State) : Out :=
  let e := s.ep h
  if e.restorePoll.isNone then .next s
  else
    let s := s.setEp h { e with restorePoll := none, notices := 0 }
    if s.cutOff 9 0 then .next { s with col := { s.col with duePolls := if s.col.duePolls.contains h then s.col.duePolls else s.col.duePolls ++ [h] } }
    else
      let n := (((List.range 672).find? (fun k => (s.held h (s.lastEnded - k)).isSome)).getD 672)
      .next (s.poll h (s.lastEnded + 1 - n) n none)

/-! ### Records -/

/-- FIRMWARE_PARSE_DONE (R306, R28): Purel has parsed the oldest payload of `firmware_queue` into readings; during a handover the queue keeps it. -/
def execFirmwareParseDone (rs : List Reading) (s : State) : Out :=
  if s.sys.handover ∨ s.cutOff 9 0 then .next s
  else
    let r := s.takeItem (s.nat Attr.CollectionService.firmwareQueue 0)
    match r.1 with
    | some (w :: v :: _) =>
      let h := w % 2 ^ 32
      let c := w / 2 ^ 32
      let g := v / 2 ^ 32
      if h = 0xFFFFFFFF then .next r.2
      else
        .next (r.2.commitReadings h rs
          { id := 0, recs := [], mark := if (r.2.ep h).pendingCounters.contains c then some (h, c) else none, ack := some (h, c),
            newGen := if g = 0 then none else some (h, g - 1) })
    | _ => .next r.2

/-- SERIAL_FRAME_RECEIVED (R305): an HDLC frame on serial port `n`, its endpoint's key and protected payload. -/
def execSerialFrameReceived (n key : Nat) (x : Secured) (s : State) : Out := .next (s.atLocator (some key) ⟨32 + n, 0, noShort⟩ 0 x)

/-- The missing target of a flight by the code of its level (Table 08-7). -/
def Flight.lacks (f : Flight) (level : Nat) : Nat := if !f.journal then 1 else if level = 2 ∧ !f.mirror then 2 else 3

/-- Weight of an interval in a share: the PROFILE mean. Days of one type: Monday to Friday, Saturday, Sunday (log 26). -/
def dayType (d : Nat) : Nat := let w := weekday d; if w < 5 then 0 else w

/-- The actual values of the same interval of day on each of the last 28 days, with the number of days back. -/
def State.history28 (s : State) (h i k : Nat) : List (Nat × Nat) :=
  (List.range 28).filterMap (fun n => if i < 96 * (n + 1) then none else ((s.actual h (i - 96 * (n + 1))).bind (fun r => r.val k)).map (fun v => (n + 1, v)))

/-- Method 4 of Table 08-11, where at least 14 days are held. -/
def State.profileMean (s : State) (h i k : Nat) : Option Nat :=
  let l := s.history28 h i k
  let same := (l.filter (fun x => dayType (i / 96 - x.1) == dayType (i / 96))).map Prod.snd
  if l.length < 14 ∨ same.isEmpty then none else some ((2 * same.sum + same.length) / (2 * same.length))

/-- The actual value of an interval's channel. -/
def State.actualVal (s : State) (h i k : Nat) : Option Nat := (s.actual h i).bind (fun r => r.val k)

/-- The intervals with registers that bracket an interval: the last one before it and the first from it on, within 7 days. -/
def State.bracketOf (s : State) (h i k : Nat) : Option (Nat × Nat) :=
  let e := s.ep h
  match ((List.range 672).map (fun d => i - 1 - d)).find? (fun j => decide (j < i) && (e.register k j).isSome),
        ((List.range 672).map (fun d => i + d)).find? (fun j => (e.register k j).isSome) with
  | some a, some b => some (a, b)
  | _, _ => none

/-- Method 2: the advance less the actual values, shared over the rest; the remainder on the last interval. -/
def State.bracketShare (s : State) (h i k : Nat) : Option Nat :=
  (s.bracketOf h i k).map (fun ab =>
    let m := s.modulus h k
    let e := s.ep h
    let adv := ((e.register k ab.2).getD 0 + m - (e.register k ab.1).getD 0 % max m 1) % max m 1
    let all := (List.range (ab.2 - ab.1)).map (fun d => ab.1 + 1 + d)
    let open' := all.filter (fun j => (s.actualVal h j k).isNone)
    let rest := adv - (all.filterMap (fun j => s.actualVal h j k)).sum
    let means := open'.map (fun j => s.profileMean h j k)
    let ws := if means.any Option.isNone ∨ (means.map (fun x => x.getD 0)).sum = 0 then open'.map (fun _ => 1) else means.map (fun x => x.getD 0)
    let shares := ws.map (fun w => rest * w / max ws.sum 1)
    if open'.getLast? = some i then rest - (shares.dropLast).sum else ((open'.zip shares).find? (fun x => x.1 == i)).map Prod.snd |>.getD 0)

/-- Method 3: a straight line between the neighbouring actual values, to the nearest unit. -/
def State.linearAt (s : State) (h i k : Nat) : Option Nat :=
  let lim := s.nat Attr.ValidationRules.linearMax (s.ruleSet h)
  match ((List.range lim).map (fun d => i - 1 - d)).find? (fun j => decide (j < i) && (s.actualVal h j k).isSome),
        ((List.range lim).map (fun d => i + 1 + d)).find? (fun j => (s.actualVal h j k).isSome) with
  | some a, some b =>
    if lim < b - a - 1 then none
    else
      let va : Int := (s.actualVal h a k).getD 0
      let vb : Int := (s.actualVal h b k).getD 0
      let den : Int := b - a
      some (va + (2 * (vb - va) * (i - a : Nat) + den) / (2 * den)).toNat
  | _, _ => none

/-- The estimate of a channel by the first method of Table 08-11 whose condition holds. -/
def State.estimateVal (s : State) (h i k : Nat) (r : IRec) : Option Nat :=
  if r.has qOutage && (s.ep h).noEnergy.contains i then some 0
  else (s.bracketShare h i k).or ((s.linearAt h i k).or (s.profileMean h i k))

/-- Whether an actual record lies within 672 intervals (R332). -/
def State.nearActual (s : State) (h i : Nat) : Bool :=
  (List.range 673).any (fun d => (s.actual h (i + d)).isSome || (decide (d ≤ i) && (s.actual h (i - d)).isSome))

/-- The estimated record of an interval, where some value can be estimated (R331, R333). -/
def State.estimated (s : State) (h i : Nat) (again : Bool) : Option NewRec :=
  (s.current h i).bind (fun r =>
    let want := [0, 1, 2, 3].filter (fun k => s.flag Attr.EndpointChannel.present (h * 8 + k) && (r.has qMissing || (r.val k).isNone || (again && r.has qEstimated)))
    let est := want.filterMap (fun k => (s.estimateVal h i k r).map (fun v => (k, min v topVal)))
    if est.isEmpty then none
    else
      let vals := (List.range 8).map (fun k => if 4 ≤ k then absentVal else ((est.find? (fun x => x.1 == k)).map Prod.snd).getD (r.vals.getD k absentVal))
      some ⟨h, i, (r.quality &&& ~~~ qMissing) ||| qEstimated, vals⟩)

/-- The first interval of the gap an interval lies in. -/
def State.gapStart (s : State) (h i : Nat) : Nat :=
  i - ((List.range 2880).takeWhile (fun d => decide (d < i) && (s.current h (i - 1 - d)).any (fun r => r.has qMissing))).length

/-- ESTIMATION_DUE (R331–R333): `estimate_delay_h` after the interval; nothing while VAL is fenced. -/
def execEstimationDue (h i : Nat) (s : State) : Out :=
  if s.cutOff 10 0 ∨ s.unset ∨ (s.current h i).isNone then .next s
  else if !s.nearActual h i then
    let g := s.gapStart h i
    if (s.ep h).limits.contains g then .next s
    else .next ((s.setEp h { s.ep h with limits := (s.ep h).limits ++ [g] }).raise 0x0A02 (objPath 0x0501 h) [h, g])
  else
    match s.estimated h i false with
    | none => .next s
    | some n => .next (s.commit { id := 0, recs := [n] })

/-- After actual data for an estimated interval, the rest of its brackets is estimated anew (R334). -/
def State.reestimate (s : State) (n : NewRec) : State :=
  let js := [0, 1, 2, 3].flatMap (fun k => match s.bracketOf n.handle n.interval k with
    | some (a, b) => (List.range (b - a)).map (fun d => a + 1 + d)
    | none => [])
  let recs := (js.eraseDups.filter (fun j => j != n.interval && (s.current n.handle j).any (fun r => r.has qEstimated))).filterMap (fun j => s.estimated n.handle j true)
  let recs := recs.filter (fun r => (s.current r.handle r.interval).any (fun q => q.vals != r.vals))
  if recs.isEmpty then s else s.commit { id := 0, recs := recs }

/-- RECORD_COMMIT_CONFIRMED (R321, R335): a frame's records and mark have reached the required level. The lantern and circuit tests of Table 11-8 see each record; an
actual record for an estimated interval starts R334. -/
def execRecordCommitConfirmed (id : Nat) (s : State) : Out :=
  match s.col.flights.find? (fun f => f.id == id) with
  | none => .next s
  | some f =>
    if !f.reached s.requiredLevel then .next s
    else
      let was := f.recs.filter (fun n => n.quality &&& (qMissing ||| qEstimated) == 0 && (s.current n.handle n.interval).any (fun r => r.has qEstimated))
      let s := s.commitFlight f
      let s := f.recs.foldl (fun s n =>
        let s := if s.nat Attr.EndpointProfile.role n.handle = 1 then s.lanternTests n.handle n.interval n.vals else s
        s.circuitTests n.handle n.interval n.vals) s
      .next (was.foldl State.reestimate s)

/-- COMMIT_STALL (R322): once per stall, with the missing target. -/
def execCommitStall (id : Nat) (s : State) : Out :=
  match s.col.flights.find? (fun f => f.id == id) with
  | none => .next s
  | some f =>
    if f.reached s.requiredLevel ∨ f.stalled then .next s
    else
      let h := ((f.mark.map Prod.fst).or ((f.recs.head?).map NewRec.handle)).getD 0
      let s := { s with col := { s.col with flights := s.col.flights.map (fun (g : Flight) => if g.id = id then { g with stalled := true } else g) } }
      .next (s.raise 0x0901 (objPath 0x0510 0) [h, f.lacks s.requiredLevel])

/-- VAL_RECHECK (R329): every unchecked record, and RECHECK_DONE with their count. -/
def execValRecheck (s : State) : Out :=
  if s.cutOff 10 0 ∨ s.unset then .next s
  else
    let all := s.col.eps.flatMap (fun (e : Nat × Endpoint) => e.2.unchecked.map (fun i => (e.1, i)))
    if all.isEmpty then .next s
    else
      let recs := all.filterMap (fun x => s.recheck x.1 x.2)
      let s := { s with col := { s.col with eps := s.col.eps.map (fun (e : Nat × Endpoint) => (e.1, { e.2 with unchecked := [] })) } }
      let s := if recs.isEmpty then s else s.commit { id := 0, recs := recs }
      .next (s.raise 0x0A03 (objPath 0x0510 0) [all.length])

/-- An engine takes up its work where a fence, or UNSET service time (R585), stopped it (R16, R302, R455). BIL and BAL go on from the streams they have not taken
(RECORD_BOOKING, BALANCE_EVALUATE); LUX commits the records that wait; COL runs what fell due. -/
def State.resumeEngine (s : State) (d : Nat) : State :=
  if s.cutOff d 0 ∨ s.unset then s
  else if d = 9 then
    let polls := s.col.duePolls
    let dls := s.col.dueDeadlines
    let s := { s with col := { s.col with duePolls := [], dueDeadlines := [] } }
    let s := polls.foldl (fun s h => s.pollMissing h 672) s
    let s := dls.foldl (fun s x => s.deadline x.1 x.2) s
    ((s.col.requests.map Request.cell).eraseDups).foldl State.pumpCell s
  else if d = 13 then
    let late := s.lux.lateRecords
    late.foldl (fun s x => s.commitLantern x.1 x.2) { s with lux := { s.lux with lateRecords := [] } }
  else s

/-- ENGINE_RESUME. -/
def execEngineResume (d : Nat) (s : State) : Out := .next (s.resumeEngine d)

end Sys2Proof.Machine
end

