-- ==== Sys2Proof/Machine/Glovebox.lean ====
section
/-! DEFINITION. GLV (14_glovebox.md): root slots, endpoint keys, attestation, tamper, life cycle, credentials. -/

namespace Sys2Proof.Machine

/-- The path of the glovebox service. -/
def glovePath : Nat := objPath 0x0C10 0

/-! ### Root slots (R530–R535) -/

/-- The tag of a slot's value: the first 64 bits of SHA-256(0x47 ‖ slot ‖ value) (R530). -/
def slotTag (i : Nat) (v : Bytes) : Bytes := (Config.sha256 (0x47#8 :: leBytes 1 i ++ v)).take 8

/-- Whether Table 14-1 makes a slot public. -/
def publicSlot (i : Nat) : Bool := (2 ≤ i && i ≤ 6) || (16 ≤ i && i ≤ 31)

/-- Writes a slot: value, tag, WRITTEN; the value shows only for a public slot (R563). -/
def State.fillSlot (s : State) (i : Nat) (v : Bytes) : State :=
  let s := { s with glv := { s.glv with slots := Assoc.put i v s.glv.slots, blown := Assoc.del i s.glv.blown } }
  let s := s.setNat Attr.RootSlot.state i 1
  let s := s.setNat Attr.RootSlot.tag i (leNat (slotTag i v))
  if publicSlot i then s.setAttr Attr.RootSlot.value i (.bytes v) else s

/-- Destroys a slot: every bit of value and tag blown, then DESTROYED (R535). -/
def State.destroySlot (s : State) (i : Nat) : State :=
  let ones : Bytes := List.replicate 32 0xFF#8
  let s := { s with glv := { s.glv with slots := Assoc.put i ones s.glv.slots, blown := Assoc.del i s.glv.blown } }
  let s := (s.setNat Attr.RootSlot.state i 3).setNat Attr.RootSlot.tag i (2 ^ 64 - 1)
  if publicSlot i then s.setAttr Attr.RootSlot.value i (.bytes ones) else s

/-- Whether every bit that is 1 in `a` is 1 in `b`. -/
def coversBits (a b : Bytes) : Bool := (List.range a.length).all (fun k => a.getD k 0 &&& b.getD k 0 == a.getD k 0)

/-- Programs an unwritten slot: BAD_VALUE, and a faulty slot, where bits already blown are not 1 in the new value and tag (R533, R534). -/
def State.programSlot (s : State) (i : Nat) (v : Bytes) : Status × State :=
  if coversBits ((Assoc.find i s.glv.blown).getD []) (v ++ slotTag i v) then
    (.ok, ((s.fillSlot i v).raise 0x1005 (objPath 0x0C01 i) [i]).refreshProvision)
  else (.badValue, s.setNat Attr.RootSlot.state i 2)

/-- ROOT_PROGRAM (R533, R534, R553, R554). -/
def doRootProgram : Body := fun c s =>
  let i := pathInst c.path
  let life := s.sys.lifecycle
  let allowed := if 3 ≤ i ∧ i ≤ 6 then life == .factory else (16 ≤ i && i ≤ 31) && (life == .factory || (life == .field && s.sys.mode == .provision))
  if !allowed ∨ s.nat Attr.RootSlot.state i = 1 ∨ s.nat Attr.RootSlot.state i = 3 ∨ s.flag Attr.GloveboxService.otpLocked 0 ∨ s.flag Attr.GloveboxService.sealed 0 then
    (⟨.refused, []⟩, s)
  else if c.payload.length ≠ 32 then (⟨.badValue, []⟩, s)
  else
    let r := s.programSlot i c.payload
    (⟨r.1, []⟩, r.2)

def execRootProgram (s : State) : Out := runMethod 0x0C01 0x40 doRootProgram s

/-- ROOT_DESTROY (R535): a USER slot, in PROVISION. -/
def doRootDestroy : Body := fun c s =>
  let i := pathInst c.path
  if i < 16 ∨ s.sys.mode ≠ .provision ∨ s.flag Attr.GloveboxService.otpLocked 0 ∨ s.flag Attr.GloveboxService.sealed 0 then (⟨.refused, []⟩, s)
  else (⟨.ok, []⟩, ((s.destroySlot i).raise 0x1005 (objPath 0x0C01 i) [i]).refreshProvision)

def execRootDestroy (s : State) : Out := runMethod 0x0C01 0x41 doRootDestroy s

/-! ### Endpoint keys (R538–R543) -/

/-- Bytes 0–7 of a blob (Table 14-3). -/
def blobHead (h g suite k : Nat) : Bytes := leBytes 4 (h * 2 ^ 11 + g * 2 ^ 7 + suite * 16 + 1) ++ leBytes 1 k ++ leBytes 3 0

/-- The key pair of a generation. -/
def State.keyPair (s : State) (h g : Nat) : Bytes := (Assoc.find (h * 16 + g) s.glv.keys).getD []

/-- Publishes the tag of the blob that holds the newest generation of an endpoint's keys. -/
def State.showBlob (s : State) (h : Nat) : State :=
  let p := s.nat Attr.EndpointKey.pendingGeneration h
  let g := if p = 0xFF then s.nat Attr.EndpointKey.generation h else p
  s.setNat Attr.EndpointKey.blobTag h
    (Config.blobTag (s.nat Attr.GloveboxService.kekGeneration 0) (blobHead h g (s.nat Attr.EndpointKey.suite h) (s.nat Attr.GloveboxService.kekGeneration 0)) (s.keyPair h g))

/-- Handles usable for endpoints (00_scope.md). -/
def maxHandle : Nat := 1572863

/-- The profile of an endpoint: a first import makes it (log 36); its EUI and role are values the spec gives no source for. -/
def State.ensureEndpoint (s : State) (h : Nat) : State :=
  if s.endpoint h then s
  else
    let s := (s.create 0x0501 h).setNat Attr.EndpointProfile.eui h (s.freeNat % 2 ^ 64)
    let s := s.drawn
    let role := s.freeNat % 3
    let s := (s.setNat Attr.EndpointProfile.role h role).drawn
    s.setNat Attr.EndpointProfile.billingAuthority h (if role = 1 then 1 else 0)

/-- One import record (R540, R541): its status and what it changes. -/
def State.importRecord (s : State) (eph : Bytes) (idx : Nat) (r : Bytes) : Status × State :=
  let h := field r 0 4
  let suite := octet r 4
  if maxHandle < h ∨ 3 < suite then (.badValue, s)
  else
    match Config.importKeys eph idx r with
    | none => (.badValue, s)
    | some ks =>
      let s := s.ensureEndpoint h
      let g := (s.nat Attr.EndpointKey.generation h + 1) % 16
      let s := { s with glv := { s.glv with keys := Assoc.put (h * 16 + g) ks s.glv.keys } }
      let s := ((s.setNat Attr.EndpointKey.pendingGeneration h g).setNat Attr.EndpointKey.suite h suite).setNat Attr.EndpointKey.keyState h 1
      (.ok, s.showBlob h)

/-- The records of an import in order; from record `stop` on none is applied and its status reads TAMPER_ABORT (R755). -/
def State.importRecords (s : State) (eph : Bytes) (body : Bytes) (stop : Option Nat) : Nat → Nat → Bytes × State
  | 0, _ => ([], s)
  | n + 1, idx =>
    let done := stop.any (fun k => decide (k ≤ idx))
    let r := if done then (Status.tamperAbort, s) else s.importRecord eph idx (slice body (56 * idx) 56)
    let r := if r.1 = .ok then (r.1, r.2.post (.keys eph idx (slice body (56 * idx) 56))) else r
    let rest := r.2.importRecords eph body stop n (idx + 1)
    (BitVec.ofNat 8 r.1.code :: rest.1, rest.2)

/-- Starts the transfer of a cell's next beacon key to every member, through COL (R542). -/
def State.startBeaconKey (s : State) (c : Nat) : State :=
  let hs := s.cellHandles c
  let s := { s with glv := { s.glv with beaconNext := Assoc.put c hs s.glv.beaconNext } }
  hs.foldl (fun s h => let n := s.nextSerial h; n.2.request h 3 0x0C01 n.1 none (Config.beaconKeyApdu c (s.beaconGen c + 1)) none) s

/-- Re-wraps every blob under the next KEK generation and drops the old one (scope 2). -/
def State.rotateKek (s : State) : State :=
  let k := (s.nat Attr.GloveboxService.kekGeneration 0 + 1) % 256
  let s := s.setNat Attr.GloveboxService.kekGeneration 0 k
  let s := { s with glv := { s.glv with bank := s.glv.bank.map (fun _ => k) } }
  let hs := (s.glv.keys.map (fun x => x.1 / 16)).eraseDups
  (hs.foldl State.showBlob s).raise 0x1006 glovePath [2, hs.length, k]

/-- The work of an admitted key rotation (R540): the first octets of its payload say which. -/
def State.startRotation (s : State) (arg : Bytes) : State := if octet arg 0 = 1 then s.startBeaconKey (field arg 4 2) else s.rotateKek

/-- KEY_ROTATE (R540–R542, R553, R563, R755): refused while sealed; scope 2 sets `key_grace_s` where its body holds one (log 37). -/
def doKeyRotate : Body := fun c s =>
  let p := c.payload
  let scope := octet p 0
  if s.flag Attr.GloveboxService.sealed 0 then (⟨.refused, []⟩, s)
  else if scope = 1 then
    let cell := field p 4 2
    if !(s.isLine cell || s.isPan cell) then (⟨.notFound, []⟩, s)
    else
      let d := s.requestCmd c 9 0
      (⟨decisionStatus d.1 .accepted, []⟩, if d.1 = .admitted then d.2.startBeaconKey cell else d.2)
  else if scope = 2 then
    let grace := field p 4 4
    if 8 ≤ p.length ∧ (grace < 60 ∨ 604800 < grace) then (⟨.badValue, []⟩, s)
    else
      let d := s.requestCmd c 9 0
      let set := fun (t : State) => if 8 ≤ p.length then t.setNat Attr.GloveboxService.keyGraceS 0 grace else t
      (⟨decisionStatus d.1 .accepted, []⟩, if d.1 = .admitted then (set d.2).rotateKek else if d.1 = .deferred then set d.2 else d.2)
  else if scope = 3 then
    let b := c.data
    let n := field b 4 4
    if !bit c.flags flagBulk ∨ n = 0 ∨ 18723 < n ∨ b.length < 72 + 56 * n then (⟨.badValue, []⟩, s)
    else
      let stop := (s.glv.aborting.find? (fun x => x.1 == c.arrival)).map Prod.snd
      let r := s.importRecords (slice b 8 64) (b.drop 72) stop n 0
      let good := r.1.countP (fun x => x == 0)
      let s := { r.2 with sys := { r.2.sys with keysImported := r.2.sys.keysImported || decide (0 < good) } }
      (⟨if stop.isSome then .tamperAbort else .ok, r.1⟩, (s.raise 0x1006 glovePath [3, good, 0]).refreshProvision)
  else (⟨.badValue, []⟩, s)

def execKeyRotate (s : State) : Out := runOpcode 0x0C01 doKeyRotate s

/-- BEACON_KEY_SWITCH (R542): at the first beacon after every member has confirmed, or after 10 periods (`ten`). -/
def execBeaconKeySwitch (c : Nat) (ten : Bool) (s : State) : Out :=
  match Assoc.find c s.glv.beaconNext with
  | none => .next s
  | some left =>
    if left ≠ [] ∧ !ten then .next s
    else
      let g := (s.beaconGen c + 1) % 2 ^ 16
      let s := { s with glv := { s.glv with beaconGen := Assoc.put c g s.glv.beaconGen, beaconNext := Assoc.del c s.glv.beaconNext } }
      let s := s.bump 32 Attr.GloveboxService.beaconKeyUnconfirmed 0 left.length
      let s := if left = [] then s else s.raise 0x100A glovePath [c, left.length]
      .next (s.raise 0x1006 glovePath [1, c, g])

/-- TRNG_FAULT (R546): a health test fails; the fault goes to FCR. -/
def execTrngFault (test : Nat) (s : State) : Out :=
  if s.glv.trngFault then .next s
  else .next (({ s with glv := { s.glv with trngFault := true } }.raise 0x100B glovePath [test]).report 256 0)

/-! ### Attestation (R547) -/

/-- The signing key of Table 14-6: 0 none, 1 the attestation key, 2 that derived from TEST_ROOT_0, 3 the return key. -/
def State.attestKey (s : State) : Nat :=
  match s.sys.lifecycle with
  | .factory => 2
  | .field => if s.flag Attr.GloveboxService.testRoots 0 then 2 else 1
  | .ret => if s.flag Attr.GloveboxService.testRoots 0 then 2 else 3
  | _ => 0

/-- Pads or cuts to `n` octets. -/
def fitBytes (n : Nat) (b : Bytes) : Bytes := (b ++ List.replicate (n - b.length) 0#8).take n

/-- Bytes 0–199 of the report (Table 14-5). -/
def State.attestBody (s : State) (nonce : Bytes) : Bytes :=
  leBytes 2 1 ++ leBytes 2 s.sys.step ++ leBytes 4 0x8412 ++ leBytes 8 s.sys.eui ++ leBytes 1 s.sys.lifecycle.code ++ leBytes 1 s.sys.mode.code ++
    leBytes 1 (b2n s.sys.tamperLatched + 2 * b2n (s.flag Attr.GloveboxService.sealed 0) + 4 * b2n (s.flag Attr.GloveboxService.testRoots 0) + 8 * b2n s.glv.debugOpened) ++
    leBytes 1 s.sys.order.code ++ leBytes 4 s.recd.head ++ leBytes 4 s.glv.attests ++
    leBytes 8 ((List.range 32).map (fun i => s.nat Attr.RootSlot.state i * 4 ^ i)).sum ++ leBytes 1 s.sys.settingsGen ++ leBytes 1 s.sys.slot ++ leBytes 2 0 ++
    fitBytes 48 s.glv.loaderHash ++ fitBytes 48 s.glv.imageHash ++ fitBytes 32 s.glv.policyHash ++ fitBytes 32 nonce

/-- ATTEST (R547). -/
def doAttest : Body := fun c s =>
  if c.payload.length < 36 then (⟨.badValue, []⟩, s)
  else if s.attestKey = 0 then (⟨.refused, []⟩, s)
  else
    let s := { s with glv := { s.glv with attests := (s.glv.attests + 1) % 2 ^ 32 } }
    let b := s.attestBody (c.payload.take 32)
    (⟨.ok, b ++ fitBytes 96 (Config.ecdsaSign384 s.attestKey b)⟩, s)

def execAttest (s : State) : Out := runOpcode 0x0C02 doAttest s

/-! ### Tamper (R550–R555, R755, R756) -/

/-- The path of a tamper source. -/
def tamperPath (n : Nat) : Nat := objPath 0x0C11 n

/-- A key operation in progress is aborted (R553, R755): its command completes with TAMPER_ABORT, or will answer it, and KEY_ABORT is recorded. -/
def State.abortKey (s : State) (x : Nat × Nat) : State :=
  let s := ({ s with glv := { s.glv with keyAbort := true } }).raiseSafe 0x1003 glovePath [x.1]
  if s.mbx.taken.any (fun c => c.arrival == x.1) then { s with glv := { s.glv with aborting := s.glv.aborting ++ [x] } }
  else s.completeCmd x.1 .tamperAbort []

/-- TAMPER_TRIP (R553–R555, R756, Table 14-8): source `n` trips; `ops` are the commands whose key operation is in progress. One that is still active does not
trip again; GLITCH is active for its transient only. Before the boot (`RESET_OUT_N` low) nothing is recorded: the backup domain keeps the first trip for the boot. -/
def execTamperTrip (n : Nat) (ops : List (Nat × Nat)) (s : State) : Out :=
  if 10 < n ∨ s.flag Attr.TamperSource.active n then .next s
  else
    let cls := s.nat Attr.TamperSource.klass n
    let s := if n = 9 then s else s.setFlag Attr.TamperSource.active n true
    if cls = 0 then .next s
    else
      let count := (s.nat Attr.GloveboxService.tripCount 0 + 1) % 2 ^ 32
      let s := (s.setNat Attr.GloveboxService.tripCount 0 count).bump 32 Attr.TamperSource.trips n
      let s := if s.sys.resetOutLow then { s with glv := { s.glv with firstTrip := s.glv.firstTrip.or (some (n, cls)) } } else s.raiseSafe 0x1001 (tamperPath n) [n, cls, count]
      let s := { s with glv := { s.glv with ack := none } }
      if cls = 1 then .next s
      else
        let s := { s with sys := { s.sys with tamperLatched := true } }
        let s := s.setFlag Attr.GloveboxService.sealed 0 true
        let s := if cls = 3 then
            ({ s with glv := { s.glv with erased := true, cache := [], bank := none } }.setFlag Attr.GloveboxService.otpLocked 0 true).refreshProvision
          else s
        .next (ops.foldl State.abortKey s)

/-- TAMPER_SOURCE_INACTIVE (R756). -/
def execTamperSourceInactive (n : Nat) (s : State) : Out := .next (if n ≤ 10 then s.setFlag Attr.TamperSource.active n false else s)

/-- TAMPER_ACK (R99, R555): two valid acks, of the two roles and two credentials, the second within 600 s of the first. -/
def doTamperAck : Body := fun c s =>
  let role := roleIndex c.role
  if !s.sys.tamperLatched then (⟨.notFound, []⟩, s)
  else if field c.payload 0 4 ≠ s.nat Attr.GloveboxService.tripCount 0 then (⟨.stale, []⟩, s)
  else if (List.range 11).any (s.flag Attr.TamperSource.active) then (⟨.refused, []⟩, s)
  else
    match s.glv.ack.filter (fun a => decide (s.tim.d3 ≤ a.2.2 + sec 600)) with
    | some a =>
      if a.1 = role ∨ a.2.1 = c.cred then (⟨.accepted, []⟩, { s with glv := { s.glv with ack := some (role, c.cred, s.tim.d3) } })
      else
        let s := { s with
          sys := { s.sys with tamperLatched := false }
          glv := { s.glv with ack := none, erased := false, bank := some (s.nat Attr.GloveboxService.kekGeneration 0) } }
        let s := (s.setFlag Attr.GloveboxService.sealed 0 false).setFlag Attr.GloveboxService.otpLocked 0 false
        (⟨.ok, []⟩, (s.raise 0x1002 glovePath [s.nat Attr.GloveboxService.tripCount 0, a.2.1, c.cred]).refreshProvision)
    | none => (⟨.accepted, []⟩, { s with glv := { s.glv with ack := some (role, c.cred, s.tim.d3) } })

def execTamperAck (s : State) : Out := runOpcode 0x0C03 doTamperAck s

/-- TAMPER_ACK_EXPIRY (R555). -/
def execTamperAckExpiry (s : State) : Out := .next { s with glv := { s.glv with ack := none } }

/-- TAMPER_CONFIGURE (R552): class, active level (switches), debounce in ms. -/
def doTamperConfigure : Body := fun c s =>
  let i := pathInst c.path
  let cls := octet c.payload 0
  let ms := field c.payload 2 2
  if s.sys.mode ≠ .provision ∨ i = 9 ∨ (i ≤ 3 ∧ cls < 2 ∧ s.sys.lifecycle = .field) then (⟨.refused, []⟩, s)
  else if 3 < cls ∨ (4 ≤ i ∧ i ≤ 7 ∧ (1 < octet c.payload 1 ∨ ms < 1 ∨ 64 < ms)) then (⟨.badValue, []⟩, s)
  else
    let s := s.setNat Attr.TamperSource.klass i cls
    (⟨.ok, []⟩, if 4 ≤ i ∧ i ≤ 7 then (s.setNat Attr.TamperSource.activeLevel i (octet c.payload 1)).setNat Attr.TamperSource.debounceMs i ms else s)

def execTamperConfigure (s : State) : Out := runMethod 0x0C11 0x40 doTamperConfigure s

/-! ### Life cycle (R556–R558) -/

/-- The state a byte of LIFECYCLE_ADVANCE names. -/
def lifeOfByte : Nat → Option Lifecycle
  | 0 => some .blank | 1 => some .factory | 2 => some .field | 3 => some .ret | 4 => some .void
  | _ => none

/-- The arrows of Table 03-10. -/
def lifeArrow : Lifecycle → Lifecycle → Bool
  | .blank, .factory => true
  | .factory, .field | .factory, .void => true
  | .field, .ret | .field, .void => true
  | .ret, .void => true
  | _, _ => false

/-- Fills a secret slot from the TRNG (R531, R557). -/
def State.seedSlot (s : State) (i : Nat) : State := (s.fillSlot i (s.trng 32)).drawn

/-- A transition (R118, R556, R557, Table 14-9): the fuses, the slots destroyed, the new seeds; keys, credentials and records as the table says. The CHIP reset
that follows within 100 ms is left due (log 38). -/
def State.advanceLife (s : State) (to' : Lifecycle) : State :=
  let from' := s.sys.lifecycle
  let s := { s with
    sys := { s.sys with lifecycle := to', postureWritten := false, resetDue := true }
    dbg := { s.dbg with unlocks := 0 } }
  let s := if to' = .void then (List.range 32).foldl (fun t i => if 0 < t.nat Attr.RootSlot.state i then t.destroySlot i else t) s
    else if to' = .ret then [7, 8, 9].foldl State.destroySlot s else s
  let s := if to' = .field then [7, 8, 9].foldl State.seedSlot s else if to' = .ret then s.seedSlot 10 else s
  let s := { s with glv := { s.glv with cache := [], bank := none, attests := 0 } }
  let s := if to' = .ret ∨ to' = .void then
      (s.instances 0x0501).foldl (fun t h => ((((t.setNat Attr.EndpointKey.keyState h 0).setNat Attr.EndpointKey.generation h 0xFF).setNat Attr.EndpointKey.pendingGeneration h 0xFF).setNat Attr.EndpointKey.previousGeneration h 0xFF).setNat Attr.EndpointKey.blobTag h 0)
        { s with glv := { s.glv with keys := [] } }
    else s
  let s := if to' = .void ∨ from' = .factory then (s.instances 0x0C20).foldl (fun t k => t.destroy 0x0C20 k) s else s
  { s with recd := { s.recd with ring := [], tail := [], mirror := [], last := none, head := 0, loaderSeq := none, mirrored := 0 } }

/-- LIFECYCLE_ADVANCE (R558, Table 14-10): one OPERATOR session from FACTORY; from FIELD and RETURN a SAFETY session first, then an OPERATOR session with another
credential that names the same target within 60 s. -/
def doLifecycleAdvance : Body := fun c s =>
  match lifeOfByte (octet c.payload 0) with
  | none => (⟨.badValue, []⟩, s)
  | some to' =>
    if (s.sys.mode ≠ .provision ∧ s.sys.mode ≠ .factory) ∨ !lifeArrow s.sys.lifecycle to' ∨ s.flag Attr.GloveboxService.sealed 0 then (⟨.refused, []⟩, s)
    else if s.glv.trngFault ∧ (to' = .field ∨ to' = .ret) then (⟨.internal, []⟩, s)
    else if s.sys.lifecycle = .factory then
      if c.role ≠ .operator then (⟨.denied, []⟩, s)
      else if to' = .field ∧ !([2, 3, 4, 5, 6].all s.slotGood) then (⟨.refused, []⟩, s)
      else (⟨.ok, []⟩, s.advanceLife to')
    else if c.role = .safety then (⟨.accepted, []⟩, { s with glv := { s.glv with advance := some (to'.code, c.cred, s.tim.d3) } })
    else if c.role ≠ .operator then (⟨.denied, []⟩, s)
    else
      match s.glv.advance with
      | some a =>
        if a.1 = to'.code ∧ a.2.1 ≠ c.cred ∧ s.tim.d3 ≤ a.2.2 + sec 60 then (⟨.ok, []⟩, { s with glv := { s.glv with advance := none } }.advanceLife to')
        else (⟨.denied, []⟩, s)
      | none => (⟨.denied, []⟩, s)

def execLifecycleAdvance (s : State) : Out := runOpcode 0x0C04 doLifecycleAdvance s

/-- LIFECYCLE_ACK_EXPIRY (R558). -/
def execLifecycleAckExpiry (s : State) : Out := .next { s with glv := { s.glv with advance := none } }

/-! ### Credentials (R558) -/

/-- CREDENTIAL_ADD: the role and a certificate that chains to CREDENTIAL_ROOT; the answer names the new credential. -/
def doCredentialAdd : Body := fun c s =>
  let role := octet c.payload 0
  let cert := c.payload.drop 4
  if (roleOfByte role).isNone ∨ !Config.certChains (s.octets Attr.RootSlot.value 6) cert ∨ !s.slotGood 6 then (⟨.badValue, []⟩, s)
  else
    let r := s.addCredential role cert
    (⟨.ok, leBytes 4 r.1⟩, r.2)

/-- CREDENTIAL_REMOVE. -/
def doCredentialRemove : Body := fun c s =>
  let k := field c.payload 0 4
  if s.alive 0x0C20 k then (⟨.ok, []⟩, (s.destroy 0x0C20 k).refreshProvision) else (⟨.notFound, []⟩, s)

def execCredentialAdd (s : State) : Out := runMethod 0x0C10 0x40 doCredentialAdd s
def execCredentialRemove (s : State) : Out := runMethod 0x0C10 0x41 doCredentialRemove s

end Sys2Proof.Machine
end

