-- ==== Sys2Proof/Machine/ModeOps.lean ====
section
/-! DEFINITION. Changes of the operating mode (03_modes_and_startup.md R102). -/

namespace Sys2Proof.Machine

/-- The path of `SystemMode`. -/
def modePath : Nat := objPath 0x0102 0

/-- A transition of Table 03-8: the previous mode is kept, MODE_CHANGED recorded with its trigger, 0 boot, 1 MODE_REQUEST, 2 reachability, 3 castling, 4 PFI_N, 5
hold-up return. An entry into SERVICE is timed for R104; an unlock lapses where the chip leaves PROVISION or FACTORY while halted (R743). -/
def State.setMode (s : State) (m : Mode) (trigger : Nat) : State :=
  let old := s.sys.mode
  if old = m then s
  else
    let s := { s with sys := { s.sys with mode := m, prevMode := old, serviceAt := if m = Mode.service then s.tim.d3 else s.sys.serviceAt } }
    let s := if s.dbg.halted ∧ (old = .provision ∨ old = .factory) then { s with dbg := { s.dbg with unlocked := false } } else s
    (s.touch Attr.SystemMode.mode 0 (.num m.code)).raise 0x0101 modePath [old.code, m.code, trigger]

/-- Field transmission starts: the enables of R93 are given; none in STALEMATE, which holds them low (R109). -/
def State.transmitOn (s : State) : State := if s.sys.stalemate then s else { s with sys := { s.sys with txEnable := true } }

/-- Every transmit enable goes inactive, then the claim is released (R109, R111, R613). -/
def State.transmitOff (s : State) : State :=
  { s with sys := { s.sys with txEnable := false }, twn := { s.twn with txPermitted := false, claimOut := false, gap := none } }

/-- The posture is TWIN or TWIN_FEDERATED. -/
def State.twinned (s : State) : Bool := s.nat Attr.ServicePosture.posture 0 == 1 || s.nat Attr.ServicePosture.posture 0 == 3

/-- A change of a setting that the active of a pair mirrors (R609). -/
def State.postSetting (s : State) (path : Nat) : State := if s.twinned then s.post (.setting path) else s

/-- TWIN_SIDE: 1 for Queenside. -/
def State.side (s : State) : Nat := s.nat Attr.TwinPair.side 0

/-- The path of `TwinPair`. -/
def pairPath : Nat := objPath 0x0E10 0

/-- Whether the chip is the active of its pair. -/
def State.active (s : State) : Bool := s.nat Attr.TwinPair.role 0 == 1

/-- Enters a state of Table 16-7. -/
def State.setPairState (s : State) (n : Nat) : State := s.setNat Attr.TwinPair.pairState 0 n

/-- Becomes ACTIVE of its pair: the pair is SOLO until a partner confirms, or stays PAIRED where one does. -/
def State.becomeActive (s : State) : State :=
  let s := s.setNat Attr.TwinPair.role 0 1
  if s.nat Attr.TwinPair.pairState 0 = 1 then s else s.setPairState 2

/-- Becomes STANDBY: UNMIRRORED until the mirror runs (Table 16-7); one that was PAIRED stays so. -/
def State.becomeStandby (s : State) : State :=
  let s := s.setNat Attr.TwinPair.role 0 2
  if s.nat Attr.TwinPair.pairState 0 = 1 then s else s.setPairState 4

/-- Drives the claim and starts the gap count (R614, Table 16-5 step 4); without a refreshed gate the claim waits (R613), and in STALEMATE it stays released (R109). `trigger` is that
of the mode change. -/
def State.startClaim (s : State) (trigger : Nat) : State :=
  if s.sys.stalemate then s
  else if s.twn.gateOk then { s with twn := { s.twn with claimOut := true, gap := some (s.tim.d3, trigger), bootClaim := none } }
  else { s with twn := { s.twn with bootClaim := some trigger } }

/-- The decision of R617 at boot step 9 and for a MODE_REQUEST to SERVICE: SHADOW where the partner reads CLAIMED or INVALID, else a claim, by Queenside 2,000 ms later. -/
def State.decideClaim (s : State) (trigger : Nat) : State :=
  match s.twn.claimIn with
  | .claimed | .invalid => (s.setMode .shadow trigger).becomeStandby
  | _ => if s.side = 0 then s.startClaim trigger else { s with twn := { s.twn with bootClaim := some trigger } }

/-- Enters SERVICE, or decides between SERVICE and SHADOW in a twin posture (Table 03-8). -/
def State.enterService (s : State) (trigger : Nat) : State :=
  if s.twinned then s.decideClaim trigger
  else ((s.setMode .service trigger).transmitOn)

end Sys2Proof.Machine
end

