-- ==== Sys2Proof/Machine/Frac.lean ====
section
/-! DEFINITION. Exact fractions, in which metrology is computed (12_feeder_measurement.md gives no precision; log 32). -/

namespace Sys2Proof.Machine.Frac

/-- n / d in lowest terms; 0 for d = 0. -/
def make (n : Int) (d : Nat) : Frac :=
  let g := Nat.gcd n.natAbs d
  if d = 0 then ⟨0, 1⟩ else ⟨n / g, d / g⟩

def zero : Frac := ⟨0, 1⟩
/-- An integer. -/
def ofInt (n : Int) : Frac := ⟨n, 1⟩
/-- Sum, difference, product. -/
def add (a b : Frac) : Frac := make (a.num * b.den + b.num * a.den) (a.den * b.den)
def neg (a : Frac) : Frac := ⟨-a.num, a.den⟩
def sub (a b : Frac) : Frac := add a (neg b)
def mul (a b : Frac) : Frac := make (a.num * b.num) (a.den * b.den)
/-- n / d of integers. -/
def ratio (n d : Int) : Frac := if d < 0 then make (-n) d.natAbs else make n d.natAbs
/-- Sum of a list. -/
def sum (l : List Frac) : Frac := l.foldl add zero
/-- The greatest integer not above it, and the nearest, halves away from zero. -/
def floor (a : Frac) : Int := a.num / a.den
def nearest (a : Frac) : Int := if a.num < 0 then -((2 * -a.num + a.den) / (2 * a.den)) else (2 * a.num + a.den) / (2 * a.den)

end Sys2Proof.Machine.Frac
end

