-- ==== Sys2Proof/Machine/Measure.lean ====
section
/-! DEFINITION. The feeder-head measurement chain: modulators, filters, metrology, conditions, head records (12_feeder_measurement.md). -/

namespace Sys2Proof.Machine

/-! ### The CIC stage (R467) -/

/-- A signed number of 48 bits. -/
def wrap48 (n : Int) : BitVec 48 := BitVec.ofInt 48 n

/-- The integrators take a value. -/
def integrate (a : BitVec 48) : List (BitVec 48) → List (BitVec 48)
  | [] => []
  | x :: t => (x + a) :: integrate (x + a) t

/-- The combs take the integrators' output: their new states and the stage's output. -/
def combOut (x : BitVec 48) : List (BitVec 48) → List (BitVec 48) × BitVec 48
  | [] => ([], x)
  | c :: t => let r := combOut (x - c) t; (x :: r.1, r.2)

/-- One modulator word: the channel, and a CIC output every 375 words. -/
def MeaChannel.word (c : MeaChannel) (w : Int) : MeaChannel × Option Int :=
  let integ := integrate (wrap48 w) c.integ
  if c.phase + 1 < 375 then ({ c with integ := integ, phase := c.phase + 1 }, none)
  else
    let r := combOut (integ.getLastD 0) c.comb
    ({ c with integ := integ, comb := r.1, phase := 0 }, some (r.2.toInt / 65536))

/-! ### The FIR engine (R469, R470) -/

/-- Set in use, its taps, decimation, shift and coefficients. -/
def State.firSet (s : State) : Nat := s.nat Attr.MeasurementService.firSetActive 0
def State.firTaps (s : State) : Nat := s.nat Attr.FirSet.taps s.firSet
def State.firDecimation (s : State) : Nat := max (s.nat Attr.FirSet.decimation s.firSet) 1
def State.firShift (s : State) : Nat := if s.firSet < 4 then Config.firShift s.firSet else s.nat Attr.FirSet.shift s.firSet
def State.firCoefficient (s : State) (i : Nat) : Int :=
  if s.firSet < 4 then Config.firCoefficient s.firSet i else sfield (s.octets Attr.FirSet.coefficients s.firSet) (3 * i) 3

/-- Rounds n / d to nearest, halves away from zero. -/
def roundAway (n : Int) (d : Nat) : Int := Frac.nearest (Frac.make n d)

/-- Output sample of a channel from its CIC outputs, newest first (R469). -/
def State.firOut (s : State) (k : Nat) (xs : List Int) : Int :=
  let acc := ((List.range s.firTaps).zip xs).foldl (fun a p => a + s.firCoefficient p.1 * p.2) 0
  let y := roundAway acc (2 ^ s.firShift)
  let v := roundAway (y * (1000000 + s.int Attr.MeasurementChannel.gainCalPpm k)) 1000000 + s.int Attr.MeasurementChannel.offsetCal k
  max (-8388608) (min 8388607 v)

/-- The input instant of channel 0's sample on D3, the latency removed (R474). -/
def State.sampleInstant (s : State) : Nat := s.tim.d3 - s.nat Attr.FirSet.latencyNs s.firSet * 65536

/-- The instant a channel's sample represents, from that of channel 0's (R474). -/
def State.channelInstant (s : State) (k t : Nat) : Nat :=
  ((t : Int) + k * 250 * 65536 / 3 - s.int Attr.MeasurementChannel.phaseCalNs k * 65536).toNat

/-- An interval that a D3 instant falls in, by the present offset of D2 to D3. -/
def State.intervalOf (s : State) (t : Nat) : Nat := (s.tim.d2 + t - s.tim.d3) / sec 900

/-- The nominal voltage of a busbar, in 0.01 V. -/
def State.nominal (s : State) (b : Nat) : Nat := s.nat Attr.MeasurementBusbar.nominalV b

/-- 0.01 A or 0.01 V of a code (10^-7 V at the input), times 10^8 (R469, R488). -/
def State.codeScale (s : State) (k : Nat) : Nat := s.nat Attr.MeasurementChannel.unitsPerVolt k

/-- Crossing between two samples by linear interpolation (R486). -/
def crossingAt (t0 : Nat) (v0 : Int) (t1 : Nat) (v1 : Int) : Nat := (((t0 : Int) + (t1 - t0) * -v0 / (v1 - v0))).toNat

/-- Crossings of a voltage channel (R476, R486, R487): a rising one after the channel has been below −5 % of its last half-cycle RMS; a falling one likewise above
+5 % (log 33). None while that RMS is below 10 % of nominal. -/
def State.crossings (s : State) (k t : Nat) (v : Int) (c : MeaChannel) : MeaChannel :=
  if k < 64 then c
  else
    let rms := s.nat Attr.MeasurementChannel.rmsHalf k
    let code := v * s.codeScale k
    let c' := { c with armedUp := c.armedUp || decide (code * 20 < -((rms : Int) * 100000000)), armedDown := c.armedDown || decide ((rms : Int) * 100000000 < code * 20) }
    if k < 76 ∧ rms * 10 < s.nominal ((k - 64) / 3) then c'
    else
      match c.samples.head? with
      | none => c'
      | some (t0, v0) =>
        let a := s.channelInstant k t0
        let b := s.channelInstant k t
        if v0 ≤ 0 ∧ 0 < v ∧ c.armedUp then
          let x := crossingAt a v0 b v
          { c' with armedUp := false, rises := (x :: c.rises).take 2, crossings := (x :: c.crossings).take 3 }
        else if 0 ≤ v0 ∧ v < 0 ∧ c.armedDown then
          { c' with armedDown := false, crossings := (crossingAt a v0 b v :: c.crossings).take 3 }
        else c'

/-- Takes an output sample: overrange, crossings, squares for the RMS of the interval (R470, R479, R486). -/
def State.takeSample (s : State) (k : Nat) (v : Int) : State :=
  let t := s.sampleInstant
  let c := s.crossings k t v (s.chan k)
  let i := s.intervalOf (s.channelInstant k t)
  let big := decide (6250000 < v.natAbs)
  let first := big && c.overAt.all (fun u => decide (u + sec 1 ≤ s.tim.d3))
  let was := (Assoc.find i c.squares).getD (0, 0)
  let c := { c with
    samples := ((t, v) :: c.samples).take 4096
    squares := Assoc.put i (was.1 + v.natAbs * v.natAbs, was.2 + 1) c.squares
    overAt := if big then some s.tim.d3 else c.overAt
    overrange := if big then Assoc.modify 0 i (· + 1) c.overrange else c.overrange }
  let s := s.setChan k c
  let s := if big then s.bump 32 Attr.MeasurementChannel.overrangeCount k else s
  if first then s.raise 0x0E07 (objPath 0x0A01 k) [k, chanOwner k, 0, s.nat Attr.MeasurementChannel.rmsHalf k, 0] else s

/-- A channel's settling has ended (R468): it runs from this interval on, unless it only followed a change of set (R473). -/
def State.channelSettled (s : State) (k : Nat) : State :=
  let c := s.chan k
  let s := s.setFlag Attr.MeasurementChannel.settling k false
  let s := { s with mea := { s.mea with switching := s.mea.switching.filter (fun x => x != k) } }
  if c.since.isSome then s else s.setChan k { c with since := some s.nowInterval }

/-- Takes a CIC output: the first 5 and the first N FIR outputs are discarded (R468), then every D-th gives a sample. -/
def State.takeCic (s : State) (k : Nat) (x : Int) : State :=
  let c := s.chan k
  if 0 < c.cicSkip then s.setChan k { c with cicSkip := c.cicSkip - 1 }
  else
    let c := { c with xs := (x :: c.xs).take 384, count := c.count + 1 }
    if c.count < s.firDecimation then s.setChan k c
    else
      let c := { c with count := 0 }
      if 1 < c.firSkip then s.setChan k { c with firSkip := c.firSkip - 1 }
      else if c.firSkip = 1 then (s.setChan k { c with firSkip := 0 }).channelSettled k
      else (s.setChan k c).takeSample k (s.firOut k c.xs)

/-- MEA_SAMPLE (R466–R470): a channel's modulator words, 4-bit two's complement, go through its CIC and the FIR engine. -/
def execMeaSample (k : Nat) (words : List Int) (s : State) : Out :=
  if 80 ≤ k ∨ !s.flag Attr.MeasurementService.inputsWired 0 ∨ !s.flag Attr.MeasurementChannel.enabled k ∨ s.cutOff 14 0 then .next s
  else
    .next (words.foldl
      (fun s w =>
        let r := (s.chan k).word (max (-8) (min 7 w))
        let s := s.setChan k r.1
        match r.2 with
        | none => s
        | some x => s.takeCic k x) s)

/-- Enabling a channel clears its integrators and combs, and it settles (R468). -/
def State.startChannel (s : State) (k : Nat) : State :=
  (s.setChan k { ({} : MeaChannel) with firSkip := max s.firTaps 1 }).setFlag Attr.MeasurementChannel.settling k true

/-- FIR_LOAD (R472). -/
def doFirLoad : Body := fun c s =>
  let b := c.data
  let k := octet b 0
  let d := octet b 1
  let n := field b 2 2
  if k < 4 ∨ 7 < k ∨ !([1, 2, 4, 8, 16, 32] : List Nat).contains d ∨ n < 8 ∨ 384 < n ∨ 63 < octet b 4 ∨ field b 5 3 ≠ 0 ∨ b.length ≠ 8 + 3 * n ∨
      300000000 < 80 * (32000 / d) * n then (⟨.badValue, []⟩, s)
  else if k = s.nat Attr.MeasurementService.firSet 0 ∨ k = s.firSet then (⟨.refused, []⟩, s)
  else
    let s := (s.setNat Attr.FirSet.decimation k d).setNat Attr.FirSet.taps k n
    let s := (s.setNat Attr.FirSet.shift k (octet b 4)).setAttr Attr.FirSet.coefficients k (.bytes (b.drop 8))
    (⟨.ok, []⟩, s.setNat Attr.FirSet.latencyNs k (77920 + (n - 1) * 15625))

def execFirLoad (s : State) : Out := runOpcode 0x0A01 doFirLoad s

/-- FILTER_CHANGED (R473): at an interval boundary the set named by `fir_set` comes into use, and every running channel settles. -/
def execFilterChanged (s : State) : Out :=
  let n := s.nat Attr.MeasurementService.firSet 0
  if n = s.firSet then .next s
  else
    let s := s.setNat Attr.MeasurementService.firSetActive 0 n
    let ks := (List.range 80).filter (fun k => s.flag Attr.MeasurementChannel.enabled k)
    let s := ks.foldl
      (fun s k => (s.setChan k { s.chan k with firSkip := max s.firTaps 1, count := 0, samples := [] }).setFlag Attr.MeasurementChannel.settling k true) s
    let s := { s with mea := { s.mea with switching := ks, suspect := s.nowInterval :: s.mea.suspect.take 3 } }
    .next (s.raise 0x0E09 (objPath 0x0A10 0) [n, s.nowInterval])

/-! ### Alignment (R474) -/

/-- Lagrange interpolation through points at an instant. -/
def lagrange (pts : List (Nat × Int)) (t : Int) : Frac :=
  Frac.sum (pts.map (fun p =>
    (pts.filter (fun q => q.1 != p.1)).foldl (fun a q => Frac.mul a (Frac.ratio (t - q.1) ((p.1 : Int) - q.1))) (Frac.ofInt p.2)))

/-- The value of a channel at an instant, from the two samples at or before it and the two after it. -/
def State.valueAt (s : State) (k : Nat) (t : Int) : Frac :=
  let xs := (s.chan k).samples.map (fun p => (s.channelInstant k p.1, p.2))
  let after := (xs.takeWhile (fun p => decide (t < (p.1 : Int)))).reverse.take 2
  let before := (xs.dropWhile (fun p => decide (t < (p.1 : Int)))).take 2
  lagrange (after ++ before) t

/-- The common instants t_n within a window, from a voltage channel's samples. -/
def State.instants (s : State) (k a b : Nat) : List Nat := (((s.chan k).samples.map Prod.fst).filter (fun t => decide (a ≤ t) && decide (t < b))).reverse

/-! ### Metrology (R476, R477) -/

/-- A busbar's windows. -/
def State.meaBus (s : State) (b : Nat) : MeaBus := (Assoc.find b s.mea.buses).getD {}
def State.setMeaBus (s : State) (b : Nat) (x : MeaBus) : State := { s with mea := { s.mea with buses := Assoc.put b x s.mea.buses } }
/-- A feeder's energy. -/
def State.feeder (s : State) (f : Nat) : MeaFeeder := (Assoc.find f s.mea.feeders).getD {}
def State.setFeeder (s : State) (f : Nat) (x : MeaFeeder) : State := { s with mea := { s.mea with feeders := Assoc.put f x s.mea.feeders } }

/-- L1's channel of a busbar. -/
def busL1 (b : Nat) : Nat := 64 + 3 * b

/-- The cycle that has ended (R476): from one rising crossing of L1 to the next, else a window of the last measured period. -/
def State.cycleOf (s : State) (b : Nat) : Option (Nat × Nat) :=
  let m := s.meaBus b
  match (s.chan (busL1 b)).rises with
  | x :: y :: _ => if m.cycleEnd < x then some (max y m.cycleEnd, x) else if 0 < m.period then some (m.cycleEnd, m.cycleEnd + m.period) else none
  | _ => if 0 < m.period then some (m.cycleEnd, m.cycleEnd + m.period) else none

/-- P and Q of a feeder over a cycle's instants (R477), in W and var. -/
def State.feederPower (s : State) (f b per : Nat) (ts : List Nat) : Frac × Frac :=
  let n : Int := max ts.length 1
  let phase := fun p : Nat =>
    let kv := busL1 b + p
    let ki := 4 * f + p
    let scale := Frac.ratio ((s.codeScale kv : Int) * s.codeScale ki) (n * 100000000000000000000)
    let one := fun (lag : Int) => Frac.mul scale (Frac.sum (ts.map (fun t => Frac.mul (s.valueAt kv ((t : Int) - lag)) (s.valueAt ki t))))
    (one 0, one (per / 4 : Nat))
  let ps := [phase 0, phase 1, phase 2]
  (Frac.sum (ps.map Prod.fst), Frac.sum (ps.map Prod.snd))

/-- Books the energy of P and Q over a time to an interval: positive to A+ and Q+, negative to A− and Q−. -/
def MeaFeeder.book (x : MeaFeeder) (i : Nat) (p q time : Frac) : MeaFeeder :=
  let was := (Assoc.find i x.energy).getD (List.replicate 4 Frac.zero)
  let add := fun (k : Nat) (v : Frac) (on : Bool) => if on then Frac.add (was.getD k Frac.zero) (Frac.mul v time) else was.getD k Frac.zero
  { x with energy := Assoc.put i [add 0 p (decide (0 < p.num)), add 1 (Frac.neg p) (decide (p.num < 0)), add 2 q (decide (0 < q.num)), add 3 (Frac.neg q) (decide (q.num < 0))] x.energy }

/-- Books a cycle of a feeder: in proportion to its samples on each side of an interval boundary; during the settling of R473 at the last P and Q. -/
def State.bookCycle (s : State) (f b c1 c0 : Nat) : State :=
  let ts := s.instants (busL1 b) c1 c0
  let x := s.feeder f
  let held := !s.mea.switching.isEmpty
  let pq := if held then (x.p, x.q) else s.feederPower f b (c0 - c1) ts
  let i := s.intervalOf (c0 - 1)
  let n := ts.length
  let here := ts.countP (fun t => s.intervalOf t == i)
  let time := Frac.ratio (c0 - c1 : Nat) 65536000000000
  let part := fun (m : Nat) => if n = 0 then (if m = 0 then Frac.zero else time) else Frac.mul time (Frac.ratio m n)
  let x := { x with p := pq.1, q := pq.2 }
  let x := if n = 0 ∨ here = n then x.book i pq.1 pq.2 time else (x.book i pq.1 pq.2 (part here)).book (i - 1) pq.1 pq.2 (part (n - here))
  ((s.setFeeder f x).setInt Attr.MeasurementFeeder.pW f (Frac.nearest pq.1)).setInt Attr.MeasurementFeeder.qVar f (Frac.nearest pq.2)

/-- METROLOGY_CYCLE (R476, R477): a cycle of a busbar has ended; P and Q of each of its feeders are booked. -/
def execMetrologyCycle (b : Nat) (s : State) : Out :=
  if 4 ≤ b ∨ s.cutOff 14 0 ∨ !s.flag Attr.MeasurementService.inputsWired 0 then .next s
  else
    match s.cycleOf b with
    | none => .next s
    | some (c1, c0) =>
      let fs := (List.range 16).filter (fun f => s.nat Attr.MeasurementFeeder.busbar f == b)
      let s := fs.foldl (fun s f => s.bookCycle f b c1 c0) s
      let s := s.setMeaBus b { s.meaBus b with cycleEnd := c0, period := c0 - c1 }
      .next (s.setNat Attr.MeasurementBusbar.frequencyMhz b (if c0 ≤ c1 then 0 else 65536000000000000 / (c0 - c1)))

/-! ### Conditions (R483–R485) -/

/-- Integer square root. -/
def isqrtAll (n : Nat) : Nat := Dbl.isqrt n (Nat.log2 n / 2 + 1) 0

/-- RMS in 0.01 A or 0.01 V from a sum of squared codes and a count, rounded down. -/
def State.rmsOf (s : State) (k sq n : Nat) : Nat := if n = 0 then 0 else isqrtAll (sq * s.codeScale k * s.codeScale k / n / 10 ^ 16)

/-- A condition takes a half-cycle: whether its start test and its end test hold, the RMS, and whether the extreme is a minimum. Gives the condition, whether it
started and the extreme of an end. -/
def Condition.step (c : Condition) (start stop least' : Bool) (rms persist : Nat) : Condition × Bool × Option Nat :=
  let pick := fun (a b : Nat) => if least' then min a b else max a b
  if !c.active then
    if start then
      let n := c.run + 1
      let x := if c.run = 0 then rms else pick c.extreme rms
      let f := if c.run = 0 then rms else c.first
      if persist ≤ n then ({ active := true, run := 0, ends := 0, extreme := x, duration := n, first := f, held := x }, true, none)
      else ({ c with run := n, extreme := x, first := f }, false, none)
    else ({ c with run := 0 }, false, none)
  else if stop then
    let n := c.ends + 1
    let held := if c.ends = 0 then c.extreme else c.held
    if persist ≤ n then ({}, false, some held)
    else ({ c with ends := n, held := held, extreme := pick c.extreme rms, duration := c.duration + 1 }, false, none)
  else ({ c with ends := 0, extreme := pick c.extreme rms, duration := c.duration + 1 }, false, none)

/-- Duration at an end: half-cycles from the first of the start run to the first of the end run. -/
def Condition.span (c : Condition) : Nat := c.duration - c.ends

/-- Takes a half-cycle into one condition of a channel and records its events. -/
def State.condition (s : State) (k code : Nat) (c : Condition) (start stop least' : Bool) (rms persist : Nat) : Condition × State :=
  let r := c.step start stop least' rms persist
  let s := if r.2.1 then s.raise code (objPath 0x0A01 k) [k, chanOwner k, 0, r.1.first, 0] else s
  match r.2.2 with
  | none => (r.1, s)
  | some x => (r.1, s.condEnd k (code + 1) 0 { c with duration := c.span } x)

/-- Tests a voltage channel of a busbar (Table 12-5). -/
def State.testVoltage (s : State) (k b rms : Nat) : State :=
  let a := s.nat Attr.MeasurementBusbar.sagLevel b
  let w := s.nat Attr.MeasurementBusbar.swellLevel b
  let hy := s.nat Attr.MeasurementBusbar.hysteresis b
  let nom := s.nominal b
  let n := s.nat Attr.MeasurementBusbar.persist b
  let c := s.chan k
  let r := s.condition k 0x0E01 c.sag (decide (rms * 1000 < a * nom)) (decide ((a + hy) * nom ≤ rms * 1000)) true rms n
  let q := r.2.condition k 0x0E03 c.swell (decide (w * nom < rms * 1000)) (decide (rms * 1000 ≤ (w - hy) * nom)) false rms n
  q.2.setChan k { q.2.chan k with sag := r.1, swell := q.1 }

/-- Tests a current channel of a feeder (Table 12-5); a limit of 0 disables the test (R484). -/
def State.testCurrent (s : State) (k rms : Nat) : State :=
  let f := k / 4
  let lim := if k % 4 = 3 then s.nat Attr.MeasurementFeeder.ocNeutralA f else s.nat Attr.MeasurementFeeder.ocA f
  if lim = 0 then s
  else
    let r := s.condition k 0x0E05 (s.chan k).oc (decide (lim < rms)) (decide (rms * 100 ≤ lim * (100 - s.nat Attr.MeasurementFeeder.ocHystPct f))) false rms
      (s.nat Attr.MeasurementFeeder.persist f)
    r.2.setChan k { r.2.chan k with oc := r.1 }

/-- Computes the RMS of a channel over a half-cycle and tests it; none of the tests starts or ends anything while the set settles (R473). -/
def State.halfCycle (s : State) (k b a e : Nat) : State :=
  let xs := (s.chan k).samples.filter (fun p => decide (a ≤ s.channelInstant k p.1) && decide (s.channelInstant k p.1 < e))
  if !s.flag Attr.MeasurementChannel.enabled k ∨ xs.isEmpty then s
  else
    let rms := s.rmsOf k ((xs.map (fun p => p.2.natAbs * p.2.natAbs)).sum) xs.length
    let s := s.setNat Attr.MeasurementChannel.rmsHalf k rms
    if !s.mea.switching.isEmpty ∨ s.flag Attr.MeasurementChannel.settling k then s
    else if 64 ≤ k then s.testVoltage k b rms
    else s.testCurrent k rms

/-- The period of the windows before any has been measured: 20 ms (log 48). -/
def startPeriod : Nat := msec 20

/-- The half-cycle that has ended (R476); without a crossing, the next window of the last measured period, the first of them from the oldest sample (log 48). -/
def State.halfOf (s : State) (b : Nat) : Option (Nat × Nat) :=
  let m := s.meaBus b
  let c := s.chan (busL1 b)
  let from' := if m.halfEnd = 0 then ((c.samples.getLast?).map Prod.fst).getD 0 else m.halfEnd
  let run := if c.samples.isEmpty then none else some (from', from' + (if m.period = 0 then startPeriod else m.period) / 2)
  match c.crossings with
  | x :: y :: _ => if m.halfEnd < x then some (max y m.halfEnd, x) else run
  | _ => run

/-- HALF_CYCLE_TEST (R483): a half-cycle of a busbar has ended. Spare channels follow busbar 0 and are not tested (Table 12-1; log 33). -/
def execHalfCycleTest (b : Nat) (s : State) : Out :=
  if 4 ≤ b ∨ s.cutOff 14 0 ∨ !s.flag Attr.MeasurementService.inputsWired 0 then .next s
  else
    match s.halfOf b with
    | none => .next s
    | some (a, e) =>
      let ks := (List.range 76).filter (fun k => s.chanBus k == b)
      let s := ks.foldl (fun s k => s.halfCycle k b a e) s
      let s := if b = 0 then [76, 77, 78, 79].foldl (fun s k =>
          let xs := (s.chan k).samples.filter (fun p => decide (a ≤ p.1) && decide (p.1 < e))
          if xs.isEmpty then s else s.setNat Attr.MeasurementChannel.rmsHalf k (s.rmsOf k ((xs.map (fun p => p.2.natAbs * p.2.natAbs)).sum) xs.length)) s
        else s
      .next (s.setMeaBus b { s.meaBus b with halfEnd := e })

/-- MEA_ZERO_CROSSING (R486, R487, R173): the last rising crossing of the channel a line port names passes into the port's reference; none under a fence of MEA. -/
def execMeaZeroCrossing (p : Nat) (s : State) : Out :=
  if 16 ≤ p ∨ s.nat Attr.LinePort.zcSource p ≠ 2 ∨ s.cutOff 14 0 then .next s
  else
    match (s.chan (s.nat Attr.LinePort.zcSourceArg p)).rises with
    | [] => .next s
    | t :: _ => .next (s.zcEdge p t)

/-! ### Head records (R479–R482) -/

/-- The channels of a feeder and its busbar. -/
def State.feederChannels (s : State) (f : Nat) : List Nat :=
  [0, 1, 2, 3].map (fun p => 4 * f + p) ++ [0, 1, 2].map (fun p => busL1 (s.nat Attr.MeasurementFeeder.busbar f) + p)

/-- Whether a channel failed to run throughout an interval (R481). -/
def State.chanGap (s : State) (k i : Nat) : Bool :=
  let c := s.chan k
  let ms := (Assoc.find i c.overrange).getD 0 * s.firDecimation * 1000 / 32000
  !s.flag Attr.MeasurementChannel.enabled k || !c.since.any (fun a => decide (a < i)) || decide (s.nat Attr.MeasurementService.overrangeLimitMs 0 < ms)

/-- The energy values of a record and what is left over (R479): joules to units of the head's scale. -/
def headEnergy (scale : Int) (e rest : List Frac) : List Nat × List Frac :=
  let unit := if 0 ≤ scale then Frac.ofInt (3600 * 10 ^ scale.toNat) else Frac.ratio 3600 (10 ^ (-scale).toNat)
  let both := (List.range 4).map (fun k => Frac.add (e.getD k Frac.zero) (rest.getD k Frac.zero))
  let n := both.map (fun t => Frac.floor (Frac.make (t.num * unit.den) (t.den * unit.num.natAbs)))
  (n.map Int.toNat, (both.zip n).map (fun x => Frac.sub x.1 (Frac.mul unit (Frac.ofInt x.2))))

/-- Interval RMS of a voltage channel in 0.01 V. -/
def State.rmsInterval (s : State) (k i : Nat) : Nat := let q := (Assoc.find i (s.chan k).squares).getD (0, 0); s.rmsOf k q.1 q.2

/-- Forms a feeder's record of an interval and passes it to VAL (R479, R481, R327, R329). -/
def State.formHead (s : State) (f i : Nat) (extra : BitVec 7) : State :=
  let h := s.nat Attr.MeasurementFeeder.headHandle f
  let x := s.feeder f
  let r := headEnergy (s.int Attr.EndpointProfile.scale h) ((Assoc.find i x.energy).getD []) x.rest
  let b := s.nat Attr.MeasurementFeeder.busbar f
  let us := [0, 1, 2].map (fun p => min (s.rmsInterval (busL1 b + p) i) topVal)
  let vals := r.1.map (fun v => min v topVal) ++ us ++ [absentVal]
  let sus : BitVec 7 := if s.mea.suspect.contains i ∨ r.1.any (fun v => decide (topVal < v)) then qSuspect else 0
  let fenced := s.cutOff 10 0
  let q := extra ||| sus ||| (if s.mea.cut.contains i then qClock else 0) ||| (if fenced then qSuspect else s.valueChecks h i vals)
  (s.setFeeder f { x with energy := Assoc.del i x.energy, rest := r.2 }).commit { id := 0, recs := [⟨h, i, q, vals⟩], unchecked := fenced }

/-- The end of an interval for one feeder: its record, or HEAD_GAP with handle and interval (R481). -/
def State.headEnd (s : State) (f i : Nat) : State :=
  let h := s.nat Attr.MeasurementFeeder.headHandle f
  if h = 0xFFFFFFFF then s
  else if (s.feederChannels f).any (fun k => s.chanGap k i) then
    (s.setFeeder f { s.feeder f with energy := Assoc.del i (s.feeder f).energy }).raise 0x0E08 (objPath 0x0A02 f) [h, i]
  else s.formHead f i 0

/-- HEAD_RECORD (R479, R481, R482): an interval has ended. In SHADOW MEA keeps what it has accumulated; after a castling every interval kept is committed. -/
def execHeadRecord (s : State) : Out :=
  let i := s.nowInterval - 1
  let s := (List.range 80).foldl (fun s k => if (Assoc.find i (s.chan k).squares).isSome then s.setNat Attr.MeasurementChannel.rmsInterval k (s.rmsInterval k i) else s) s
  if !s.flag Attr.MeasurementService.inputsWired 0 ∨ !(s.sys.mode = .service ∨ s.sys.mode = .island) ∨ s.mea.headDone = some i ∨ s.unset then .next s
  else
    let s := (List.range 16).foldl
      (fun s f =>
        let older := ((s.feeder f).energy.map Prod.fst).filter (fun j => decide (j < i))
        (older ++ [i]).foldl (fun s j => s.headEnd f j) s) s
    .next { s with mea := { s.mea with headDone := some i } }

/-- The first committed step out of UNSET (R585): the energy measured meanwhile goes into the record of interval `i`, which carries CLOCK. -/
def State.headFirst (s : State) (i : Nat) : State :=
  let all := fun (x : MeaFeeder) => (List.range 4).map (fun k => x.energy.foldl (fun t e => Frac.add t (e.2.getD k Frac.zero)) Frac.zero)
  { s with mea := { s.mea with feeders := s.mea.feeders.map (fun x => (x.1, { x.2 with energy := [(i, all x.2)] })), cut := i :: s.mea.cut.take 3 } }

/-- A committed clock step cuts the interval in progress (R481): its record holds the energy up to the step and carries CLOCK. -/
def State.headStep (s : State) (old new : Nat) : State :=
  if !s.flag Attr.MeasurementService.inputsWired 0 ∨ !(s.sys.mode = .service ∨ s.sys.mode = .island) then s
  else if old = new then { s with mea := { s.mea with cut := old :: s.mea.cut.take 3 } }
  else (List.range 16).foldl (fun s f =>
    let h := s.nat Attr.MeasurementFeeder.headHandle f
    if h = 0xFFFFFFFF ∨ (s.feederChannels f).any (fun k => !(s.chan k).since.isSome) then s else s.formHead f old qClock) s

end Sys2Proof.Machine
end

