-- ==== Sys2Proof/Machine/Clock.lean ====
section
/-! DEFINITION. What one tick of the chip's clock does on its own: the domains advance (15_time_and_rtc.md R566–R568, R577; log 11). -/

namespace Sys2Proof.Machine

/-- One TSCLK period, 2.5 ns, in the domains' unit of 2^-16 ns. -/
def tickUnits : Nat := 163840

/-- The accumulator's unit: rates are in 2^-10 ppb (R568). -/
def rateUnit : Int := 1024000000000

/-- Nanoseconds of the last 1,000 s of a UTC day at which a counter stands (R567), in its unit. -/
def inSmear (d : Nat) : Bool := decide (sec 85400 ≤ d % sec 86400)

/-- The increment of a domain at one tick in accumulator units: the nominal one at its rate, 1 ms longer or shorter a second while a leap second is spread. -/
def increment (leap : Option Bool) (d : Nat) (freq : Int) : Int :=
  let n := (tickUnits : Int) * (rateUnit + freq)
  match leap with
  | none => n
  | some ins => if inSmear d then n * 1000 / (if ins then 1001 else 999) else n

/-- A disciplined domain at one tick: its counter and its servo after it; `extra` is what it slews. -/
def Servo.advance (v : Servo) (leap : Option Bool) (d : Nat) (extra : Int) : Nat × Servo :=
  let n := v.acc + increment leap d v.freq + extra
  ((d + n / rateUnit).toNat, { v with acc := n % rateUnit })

/-- What D2 slews in one tick: what is left, at most `slew_ppm` of the tick (R577). -/
def State.slewNow (s : State) : Int :=
  let m : Int := (tickUnits : Int) * s.int Attr.TimeService.slewPpm 0 * 1024000
  max (-m) (min m s.tim.slew)

/-- TIM at one tick. -/
def State.tickTime (s : State) : State :=
  let t := s.tim
  let a := t.s0.advance t.leap t.d0 0
  let b := t.s1.advance t.leap t.d1 0
  let c := t.s2.advance t.leap t.d2 s.slewNow
  { s with
    tim := { t with
      d0 := a.1, s0 := a.2, d1 := b.1, s1 := b.2, d2 := c.1, s2 := c.2, d3 := t.d3 + tickUnits
      slew := t.slew - s.slewNow
      leap := if t.d2 / sec 86400 < c.1 / sec 86400 then none else t.leap
      rtc := { t.rtc with subTicks := t.rtc.subTicks + 1 } } }

end Sys2Proof.Machine
end

