-- ==== Sys2Proof/Machine/Time.lean ====
section
/-! DEFINITION. TIM: domains, service time, steps, anchors, PTP (15_time_and_rtc.md). -/

namespace Sys2Proof.Machine

/-! ### Reading the domains -/

/-- The path of the time service. -/
def timePath : Nat := objPath 0x0D01 0

/-- A counter's seconds and nanoseconds (R570). -/
def splitTime (d : Nat) : Nat × Nat := (d / sec 1, d % sec 1 / 65536)

/-- D0 or D1. -/
def State.dom (s : State) (i : Nat) : Nat := if i = 0 then s.tim.d0 else s.tim.d1

def State.servo (s : State) (i : Nat) : Servo := if i = 0 then s.tim.s0 else if i = 1 then s.tim.s1 else s.tim.s2

/-- Writes D0 or D1 with its servo. -/
def State.setDom (s : State) (i d : Nat) (v : Servo) : State :=
  if i = 0 then { s with tim := { s.tim with d0 := d, s0 := v } } else { s with tim := { s.tim with d1 := d, s1 := v } }

/-- D0 or D1 minus D2, in 2^-16 ns. -/
def State.domDiff (s : State) (i : Nat) : Int := (s.dom i : Int) - s.tim.d2

/-- The jump threshold in 2^-16 ns. -/
def State.jumpLimit (s : State) : Nat := s.nat Attr.TimeService.jumpThresholdNs 0 * 65536

def State.domLocked (s : State) (i : Nat) : Bool := s.nat Attr.TimeDomain.lockState i == 2

/-- LOCKED and within the jump threshold of D2 (R576). -/
def State.domUsable (s : State) (i : Nat) : Bool := s.domLocked i && decide ((s.domDiff i).natAbs ≤ s.jumpLimit)

/-- D0 if it is LOCKED, else D1 if it is. -/
def State.lockedDom (s : State) : Option Nat := if s.domLocked 0 then some 0 else if s.domLocked 1 then some 1 else none

/-! ### Steps (R579–R582, R584, R585) -/

/-- Writes a time anchor (R582): cause 0 periodic, 1 step, 2 boot. -/
def State.anchor (s : State) (cause : Nat) : State :=
  let t := splitTime s.tim.d2
  s.raise 0x1101 timePath [t.1, t.2, s.nat Attr.TimeService.state 0, cause]

/-- The segments that belong to a cell. -/
def State.allSegments (s : State) : List Nat := (List.range 16384).filter (fun g => s.nat Attr.LightingSegment.cell g != 0xFFFF)

/-- What LUX, BIL and MEA do at a committed step from `old` to `new` (R380, R437, R481, R585). -/
def State.stepConsequences (s : State) (wasUnset : Bool) (old new : Nat) : State :=
  let a := old / sec 1
  let b := new / sec 1
  let s := if wasUnset then ((s.headFirst (b / 900)).restoreBilling.resumeEngine 9).resumeEngine 13 else s.headStep (a / 900) (b / 900)
  let s := if s.jumpLimit < ((new : Int) - old).natAbs then s.billingStep a b else s
  if s.cutOff 13 0 then s else s.command (s.allSegments.map (fun g => (g, 0)))

/-- Enters a state, recording HOLDOVER where it is entered or left. -/
def State.enterTime (s : State) (st : Nat) : State :=
  let old := s.nat Attr.TimeService.state 0
  let s := s.setNat Attr.TimeService.state 0 st
  if old = st then s else if st = 3 then s.raise 0x1106 timePath [1] else if old = 3 then s.raise 0x1106 timePath [0] else s

/-- Commits a step of D2 to `new` with the state that follows it; the anchor carries `cause` (R581). The RTC is to be aligned (R600). -/
def State.commitStep (s : State) (new state cause : Nat) : State :=
  let old := s.tim.d2
  let was := s.unset
  let s := { s with tim := { s.tim with d2 := new, slew := 0, jump := none, alignDue := true } }
  let s := ((s.bump 32 Attr.TimeService.steps 0).enterTime state).setNat Attr.TimeService.pendingOffsetNs 0 0
  let s := ((s.raise 0x1103 timePath [old / sec 1, new / sec 1]).anchor cause).post (.timeStep old new)
  s.stepConsequences was old new

/-- Whether a step may be committed (R579). -/
def State.mayStep (s : State) : Bool := s.sys.mode != .holdup && s.sys.mode != .shadow

/-! ### Selection (R576–R578, R584) -/

/-- Changes the selected domain, 0xFF for none. -/
def State.select (s : State) (i : Nat) : State :=
  let old := s.nat Attr.TimeService.selected 0
  if old = i then s else (s.setNat Attr.TimeService.selected 0 i).raise 0x1104 timePath [old, i]

/-- LOCKED to a domain, nothing pending. -/
def State.lockTo (s : State) (i : Nat) : State :=
  let s := ((s.enterTime 2).select i).setNat Attr.TimeService.pendingOffsetNs 0 0
  { s with tim := { s.tim with jump := none } }

/-- A jump (R578): refused once, and followed while it persists within the threshold of itself. -/
def State.jumpTo (s : State) (i : Nat) : State :=
  let d := s.domDiff i
  let first := s.nat Attr.TimeService.state 0 != 4
  let s := ((s.enterTime 4).select i).setInt Attr.TimeService.pendingOffsetNs 0 (d / 65536)
  let keep := s.tim.jump.any (fun x => decide ((d - x.2).natAbs ≤ s.jumpLimit))
  let s := { s with tim := { s.tim with jump := if keep then s.tim.jump else some (s.tim.d3, d) } }
  if first then (s.bump 32 Attr.TimeService.refusals 0).raise 0x1102 timePath [i, d / 65536] else s

/-- The selection after a change of a domain. In SHADOW D2 follows the partner's D2 instead (R586). -/
def State.selectDomain (s : State) : State :=
  let st := s.nat Attr.TimeService.state 0
  if s.sys.mode = .shadow then s
  else if st ≤ 1 then
    match s.lockedDom with
    | none => s
    | some i =>
      let far := (s.domDiff i).natAbs
      if st = 1 ∧ far ≤ s.jumpLimit then s.lockTo i
      else if !s.mayStep then s
      else if st = 0 then (s.select i).commitStep (s.dom i) 2 1
      else if far ≤ sec (s.nat Attr.TimeService.bootAcceptS 0) then (s.select i).commitStep (s.dom i) 2 2
      else s.jumpTo i
  else
    let sel := s.nat Attr.TimeService.selected 0
    let back := sel == 1 && s.domUsable 0
    let s := { s with tim := { s.tim with revert := if back then s.tim.revert.or (some s.tim.d3) else none } }
    if s.domUsable 0 ∧ !(sel == 1 && s.domUsable 1) then s.lockTo 0
    else if s.domUsable 1 then s.lockTo 1
    else
      match (if sel < 2 ∧ s.domLocked sel then some sel else s.lockedDom) with
      | some i => s.jumpTo i
      | none =>
        let s := ((s.enterTime 3).select 0xFF).setNat Attr.TimeService.pendingOffsetNs 0 0
        { s with tim := { s.tim with jump := none } }

/-- D2 takes a rate and slews a phase difference in 2^-16 ns (R577). -/
def State.follow (s : State) (freq diff : Int) : State :=
  { s with tim := { s.tim with s2 := { s.tim.s2 with freq := freq }, slew := diff * rateUnit } }

/-! ### Rows of TIM -/

/-- The adjustment range of R568 in 2^-10 ppb. -/
def clampRate (f : Int) : Int := max (-512000000) (min 512000000 f)

/-- Whether a domain's Syncs arrive: TIM, and the port they come by, are not fenced (Table 01-2). -/
def State.syncArrives (s : State) (d : Nat) : Bool :=
  let p := s.nat Attr.TimeDomain.sourcePort d
  !s.cutOff 17 0 && (if p < 8 then !s.cutOff 7 p else p == 8 && !s.cutOff 19 0)

/-- A change of a domain's lock records DOMAIN_LOCK (R575). -/
def State.setLock (s : State) (d l : Nat) : State :=
  let was := s.domLocked d
  let s := s.setNat Attr.TimeDomain.lockState d l
  if was = (l == 2) then s else s.raise 0x1105 (objPath 0x0D02 d) [d, b2n (l == 2)]

/-- PTP_SYNC (R575–R578, R584, R586): a Sync of the instance of D0 or D1 shows the master's time, in 2^-16 ns since the service epoch; the servo takes a rate and, where
`steps`, steps to the master. `d` = 2 is the partner's D2 over the twin link, which D2 follows in SHADOW. -/
def execPtpSync (d master : Nat) (freq : Int) (steps : Bool) (s : State) : Out :=
  if d = 2 then
    if s.sys.mode = .shadow ∧ !s.cutOff 17 0 ∧ !s.cutOff 19 0 then .next (s.follow (clampRate freq) ((master : Int) - s.tim.d2)) else .next s
  else if 2 < d ∨ !s.syncArrives d then .next s
  else
    let v := s.servo d
    let now := if steps then master else s.dom d
    let off := ((now : Int) - master).natAbs
    let lim := s.nat Attr.TimeDomain.lockNs d * 65536
    let good := if off ≤ lim then min (v.good + 1) 16 else 0
    let bad := if 10 * lim < off then v.bad + 1 else 0
    let l := if steps ∧ v.had then 2 else if s.domLocked d then (if 4 ≤ bad then 0 else 2) else if 16 ≤ good then 2 else 1
    let f := clampRate freq
    let s := s.setDom d now { v with freq := f, good := good, bad := bad, had := v.had || l == 2 }
    let s := (s.setInt Attr.TimeDomain.freqPpb d (f / 1024)).setInt Attr.TimeDomain.offsetToD2Ns d (s.domDiff d / 65536)
    let s := (s.setLock d l).selectDomain
    .next (if s.nat Attr.TimeService.state 0 = 2 ∧ s.nat Attr.TimeService.selected 0 = d ∧ s.sys.mode ≠ .shadow then s.follow f (s.domDiff d) else s)

/-- DOMAIN_LOSS_TIMEOUT (R575). -/
def execDomainLossTimeout (d : Nat) (s : State) : Out :=
  if 1 < d ∨ s.nat Attr.TimeDomain.lockState d = 0 then .next s
  else .next (((s.setDom d (s.dom d) { s.servo d with good := 0, bad := 0 }).setLock d 0).selectDomain)

/-- DOMAIN_REVERT (R576): D0 has met the conditions for `revert_s`. -/
def execDomainRevert (s : State) : Out :=
  if s.nat Attr.TimeService.selected 0 = 1 ∧ s.domUsable 0 ∧ s.sys.mode ≠ .shadow then
    .next ({ s with tim := { s.tim with revert := none } }.lockTo 0)
  else .next s

/-- The step a pending jump asks for. -/
def State.pendingStep (s : State) : Nat := s.dom (s.nat Attr.TimeService.selected 0)

/-- AUTO_STEP (R579). -/
def execAutoStep (s : State) : Out :=
  if s.nat Attr.TimeService.state 0 = 4 ∧ s.flag Attr.TimeService.autoStep 0 ∧ s.mayStep then .next (s.commitStep s.pendingStep 2 1) else .next s

/-- TIME_STEP (R579–R581, Table 15-5). -/
def doTimeStep : Body := fun c s =>
  let p := c.payload
  let mode := octet p 0
  let secs := field p 4 8
  let ns := field p 12 4
  let max' := sec (s.nat Attr.TimeService.stepMaxS 0)
  if mode = 0 then
    if s.nat Attr.TimeService.state 0 ≠ 4 then (⟨.notFound, []⟩, s)
    else if !s.mayStep then (⟨.refused, []⟩, s)
    else if max' < (s.domDiff (s.nat Attr.TimeService.selected 0)).natAbs then (⟨.jumpRefused, []⟩, s)
    else (⟨.ok, []⟩, s.commitStep s.pendingStep 2 1)
  else if mode = 1 then
    let new := sec secs + ns * 65536
    if !s.mayStep ∨ s.lockedDom.isSome then (⟨.refused, []⟩, s)
    else if 2 ^ 48 ≤ secs ∨ 1000000000 ≤ ns then (⟨.badValue, []⟩, s)
    else if max' < ((new : Int) - s.tim.d2).natAbs then (⟨.jumpRefused, []⟩, s)
    else (⟨.ok, []⟩, s.commitStep new (if s.nat Attr.TimeService.state 0 ≤ 1 then 3 else s.nat Attr.TimeService.state 0) 1)
  else (⟨.badValue, []⟩, s)

def execTimeStep (s : State) : Out := runOpcode 0x0D01 doTimeStep s

/-- PTP_BRIDGE (R572): a PTP event message that came in on a port at D3 instant `at3` goes out on another; the peer-to-peer mechanism adds the ingress port's link
delay to a Sync. -/
def execPtpBridge (pin pout at3 : Nat) (correction delay : Int) (sync : Bool) (s : State) : Out :=
  if s.cutOff 7 pin ∨ s.cutOff 7 pout ∨ 8 ≤ pin ∨ 8 ≤ pout then .next s
  else
    let p2p := s.nat Attr.PtpPort.profile pin == 2 || s.nat Attr.PtpPort.profile pin == 3
    let c := correction + ((s.tim.d3 : Int) - at3) + (if p2p && sync then delay else 0)
    .next { s with tim := { s.tim with bridged := s.tim.bridged ++ [(pout, c)] } }

/-- BOUNDARY_CLOCK_SYNC (R571, R573): clockClass 6 LOCKED, 7 HOLDOVER, else 248; no Sync while a jump is pending. -/
def execBoundaryClockSync (p : Nat) (s : State) : Out :=
  if 8 ≤ p ∨ !s.flag Attr.PtpPort.master p ∨ s.cutOff 7 p ∨ s.cutOff 17 0 ∨ s.nat Attr.TimeDomain.sourcePort 0 = p ∨ s.nat Attr.TimeDomain.sourcePort 1 = p then .next s
  else
    let st := s.nat Attr.TimeService.state 0
    .next { s with tim := { s.tim with served := s.tim.served ++ [(p, if st = 2 then 6 else if st = 3 then 7 else 248, if st = 4 then none else some s.tim.d2)] } }

/-- LEAP_SECOND_SMEAR (R567): a master announces a leap second for the end of the UTC day. -/
def execLeapSecondSmear (inserted : Bool) (s : State) : Out := .next { s with tim := { s.tim with leap := some inserted } }

/-- TIME_ANCHOR (R582): a whole minute of service time. -/
def execTimeAnchor (s : State) : Out := .next (s.anchor 0)

end Sys2Proof.Machine
end

