-- ==== Sys2Proof/Machine/RealTime.lean ====
section
/-! DEFINITION. The RTC in the backup domain (15_time_and_rtc.md R588–R601). Reader 0 is PCIe, reader 1 Purel. While RTC is fenced its registers read 0, writes are
ignored and no alarm fires (Table 01-2). -/

namespace Sys2Proof.Machine

/-- The path of the RTC object. -/
def rtcPath : Nat := objPath 0x0D10 0

def State.setRtc (s : State) (r : Rtc) : State := { s with tim := { s.tim with rtc := r } }

/-! ### The calendar (R588, Table 15-6) -/

/-- Days of a month; months 0 and 13 have 31. -/
def monthDays (y m : Nat) : Nat :=
  if m = 2 then (if (y % 4 = 0 ∧ y % 100 ≠ 0) ∨ y % 400 = 0 then 29 else 28)
  else if m = 4 ∨ m = 6 ∨ m = 9 ∨ m = 11 then 30 else 31

/-- The day roll. -/
def RtcGroup.dayRoll (g : RtcGroup) : RtcGroup :=
  let g := { g with wday := (g.wday + 1) % 7 }
  if g.day < monthDays g.year g.month then { g with day := g.day + 1 }
  else if 12 ≤ g.month then { g with day := 1, month := 1, year := if g.year = 9999 then 0 else g.year + 1 }
  else { g with day := 1, month := g.month + 1 }

/-- One second of the calendar and of `RTC_EPOCH`. -/
def RtcGroup.second (g : RtcGroup) : RtcGroup :=
  let g := { g with epoch := (g.epoch + 1) % 2 ^ 48, sub := 0 }
  if g.sec < 59 then { g with sec := g.sec + 1 }
  else
    let g := { g with sec := 0 }
    if g.min < 59 then { g with min := g.min + 1 }
    else
      let g := { g with min := 0 }
      if g.hour < 23 then { g with hour := g.hour + 1 } else { g with hour := 0 }.dayRoll

/-- Whether every counter lies within Table 15-6. -/
def RtcGroup.valid (g : RtcGroup) : Bool :=
  g.sec ≤ 59 && g.min ≤ 59 && g.hour ≤ 23 && g.wday ≤ 6 && g.day ≤ 31 && g.month ≤ 13 && g.year ≤ 9999

/-- The group of a UTC second since the service epoch. -/
def groupOf (t : Nat) : RtcGroup :=
  let d := t / 86400
  let c := civil d
  { epoch := t, sec := t % 60, min := t / 60 % 60, hour := t / 3600 % 24, wday := (d + 6) % 7, day := c.2.2, month := c.2.1, year := c.1 }

/-! ### Alarms (R598, R599) -/

/-- The first instant above `now` of an alarm at `t` with period `p`. -/
def advanceAlarm (t p now : Nat) : Nat := if now < t then t else t + ((now - t) / p + 1) * p

/-- Moves an alarm on: a repeating one to its first instant above `now`, a one-shot one disabled. -/
def State.moveAlarm (s : State) (n now : Nat) : State :=
  let p := s.nat Attr.RtcAlarm.periodS n
  if p = 0 then s.setFlag Attr.RtcAlarm.enable n false else s.setNat Attr.RtcAlarm.instant n (advanceAlarm (s.nat Attr.RtcAlarm.instant n) p now)

/-- An alarm fires; `last` becomes its `LAST_FIRE` (R598). -/
def State.fireAlarm (s : State) (n last : Nat) : State :=
  let r := s.tim.rtc
  let s := s.setRtc { r with
    fired := r.fired ||| 2 ^ n
    purelIrqs := r.purelIrqs + 1
    hostIrqs := if s.flag Attr.RtcAlarm.irqEnable n then r.hostIrqs + 1 else r.hostIrqs }
  s.setNat Attr.RtcAlarm.lastFire n last

/-- Alarms at an RTC second: enabled, at or below `RTC_EPOCH`, above `LAST_FIRE`. -/
def State.alarmTick (s : State) (n : Nat) : State :=
  let t := s.nat Attr.RtcAlarm.instant n
  let e := s.tim.rtc.live.epoch
  if s.flag Attr.RtcAlarm.enable n ∧ t ≤ e ∧ s.nat Attr.RtcAlarm.lastFire n < t then (s.fireAlarm n t).moveAlarm n e else s

/-- An alarm across a forward move of `RTC_EPOCH` (R599). -/
def State.alarmAcross (s : State) (old new n : Nat) : State :=
  let t := s.nat Attr.RtcAlarm.instant n
  let p := s.nat Attr.RtcAlarm.periodS n
  if !s.flag Attr.RtcAlarm.enable n ∨ t ≤ old ∨ new < t then s
  else if s.flag Attr.RtcAlarm.catchup n then
    let latest := if p = 0 then t else t + (new - t) / p * p
    let s := s.fireAlarm n latest
    let s := s.setRtc { s.tim.rtc with skipped := s.tim.rtc.skipped ||| 2 ^ n }
    (s.raise 0x1202 (objPath 0x0D11 n) [n, latest]).moveAlarm n new
  else
    let s := (s.setRtc { s.tim.rtc with missed := s.tim.rtc.missed ||| 2 ^ n }).moveAlarm n new
    s.raise 0x1203 (objPath 0x0D11 n) [n, s.nat Attr.RtcAlarm.instant n]

/-- Alarms across a move of `RTC_EPOCH` from `old` to `new`. -/
def State.alarmsAcross (s : State) (old new : Nat) : State := if old < new then (List.range 4).foldl (fun s n => s.alarmAcross old new n) s else s

/-- The end of a fence of RTC: alarms whose instants passed act as after a forward commit (Table 01-2). -/
def State.rtcUnfenced (s : State) : State :=
  match s.tim.rtc.fencedAt with
  | none => s
  | some e => (s.alarmsAcross e s.tim.rtc.live.epoch).setRtc { (s.alarmsAcross e s.tim.rtc.live.epoch).tim.rtc with fencedAt := none }

/-- RTC_SECOND (R588, R598). -/
def execRtcSecond (s : State) : Out :=
  let r := s.tim.rtc
  let s := s.setRtc { r with live := r.live.second, subTicks := 0 }
  .next (if s.cutOff 18 0 then s else (List.range 4).foldl State.alarmTick s)

/-! ### Reading and writing the group (R589–R591) -/

/-- The live group with its prescaler count. -/
def State.liveGroup (s : State) : RtcGroup := { s.tim.rtc.live with sub := min 32767 (s.tim.rtc.subTicks * 32768 / 400000000) }

/-- A register of the group by its address (Table 15-7). -/
def RtcGroup.reg (g : RtcGroup) (a : Nat) : Nat :=
  match a with
  | 0x0B00 => g.epoch % 2 ^ 32 | 0x0B04 => g.epoch / 2 ^ 32 | 0x0B08 => g.sub | 0x0B0C => g.sec | 0x0B10 => g.min | 0x0B14 => g.hour
  | 0x0B18 => g.wday | 0x0B1C => g.day | 0x0B20 => g.month | 0x0B24 => g.year
  | _ => 0

/-- Writes a register of the group, unused bits dropped; `RTC_SUBSEC` is read-only. -/
def RtcGroup.setReg (g : RtcGroup) (a v : Nat) : RtcGroup :=
  match a with
  | 0x0B00 => { g with epoch := g.epoch / 2 ^ 32 * 2 ^ 32 + v % 2 ^ 32 }
  | 0x0B04 => { g with epoch := v % 2 ^ 16 * 2 ^ 32 + g.epoch % 2 ^ 32 }
  | 0x0B0C => { g with sec := v % 64 }
  | 0x0B10 => { g with min := v % 64 }
  | 0x0B14 => { g with hour := v % 32 }
  | 0x0B18 => { g with wday := v % 8 }
  | 0x0B1C => { g with day := v % 32 }
  | 0x0B20 => { g with month := v % 16 }
  | 0x0B24 => { g with year := v % 2 ^ 14 }
  | _ => g

/-- A reader's shadows. -/
def Rtc.shadow (r : Rtc) (who : Nat) : Option (RtcGroup × Nat) := if who = 0 then r.pcie else r.purel
def Rtc.setShadow (r : Rtc) (who : Nat) (x : Option (RtcGroup × Nat)) : Rtc := if who = 0 then { r with pcie := x } else { r with purel := x }

/-- What a reader sees of the group, and its shadows frozen by the read. -/
def State.freeze (s : State) (who : Nat) : RtcGroup × State :=
  match s.tim.rtc.shadow who with
  | some x => (x.1, s)
  | none => (s.liveGroup, s.setRtc (s.tim.rtc.setShadow who (some (s.liveGroup, s.tim.d3))))

/-- RTC_GROUP_READ (R589). -/
def execRtcGroupRead (who a : Nat) (s : State) : Out :=
  if s.cutOff 18 0 then .next (s.setRtc { s.tim.rtc with readOut := 0 })
  else
    let x := s.freeze who
    .next (x.2.setRtc { x.2.tim.rtc with readOut := x.1.reg a })

/-- RTC_YEAR_READ (R589). -/
def execRtcYearRead (who : Nat) (s : State) : Out :=
  if s.cutOff 18 0 then .next (s.setRtc { s.tim.rtc with readOut := 0 })
  else
    let x := s.freeze who
    .next (x.2.setRtc { x.2.tim.rtc.setShadow who none with readOut := x.1.year })

/-- SHADOW_STALE (R589): `RTC_YEAR` was not read within 1 s. -/
def execShadowStale (who : Nat) (s : State) : Out :=
  if (s.tim.rtc.shadow who).isSome then .next (s.setRtc { s.tim.rtc.setShadow who none with stale := true }) else .next s

/-- Whether a reader may write (R591): PCIe only under `host_write`. -/
def State.rtcWrites (s : State) (who : Nat) : Bool := !s.cutOff 18 0 && (who != 0 || s.flag Attr.RealTimeClock.hostWrite 0)

/-- RTC_STAGING_WRITE (R590). -/
def execRtcStagingWrite (who a v : Nat) (s : State) : Out :=
  if !s.rtcWrites who then .next s
  else
    let r := s.tim.rtc
    let g := if r.staged then r.stage else s.liveGroup
    .next (s.setRtc { r with stage := g.setReg a v, staged := true })

/-- A commit of the staging registers (R590, R591, R599). -/
def State.rtcCommit (s : State) (g : RtcGroup) : State :=
  let r := s.tim.rtc
  if !g.valid then s.setRtc { r with commitErr := true }
  else
    let old := r.live.epoch
    let s := s.setRtc { r with live := { g with sub := 0 }, stage := g, staged := false, subTicks := 0, osf := false }
    (s.raise 0x1204 rtcPath [old, g.epoch]).alarmsAcross old g.epoch

/-- TIME_COMMIT (R590, R591): KEY 0x5A in bits 15:8, COMMIT in bit 0. -/
def execTimeCommit (who v : Nat) (s : State) : Out :=
  if !s.rtcWrites who ∨ v / 256 % 256 ≠ 0x5A ∨ v % 2 = 0 then .next s else .next (s.rtcCommit s.tim.rtc.stage)

/-- ALARM_INSTANT_WRITE (R598): a write of ALMn_AT_HI. -/
def execAlarmInstantWrite (n v : Nat) (s : State) : Out :=
  if 4 ≤ n ∨ s.cutOff 18 0 then .next s
  else .next ((s.setNat Attr.RtcAlarm.instant n (v % 2 ^ 16 * 2 ^ 32 + s.nat Attr.RtcAlarm.instant n % 2 ^ 32)).setNat Attr.RtcAlarm.lastFire n 0)

/-- RTC_ALIGN (R600): Purel commits the RTC to service time while it is LOCKED. -/
def execRtcAlign (s : State) : Out :=
  if s.nat Attr.TimeService.state 0 ≠ 2 ∨ s.cutOff 18 0 then .next s
  else .next ({ s with tim := { s.tim with alignDue := false } }.rtcCommit (groupOf s.serviceSec))

/-! ### Compensation, oscillator, supply (R592–R596) -/

/-- The value of `tcomp_curve` at a temperature in 0.5 °C: linear between its points, held at the ends; between two integers the one that the spec leaves open. -/
def State.curveAt (s : State) (t : Int) : Int × State :=
  let x := max 0 (min 300 (t + 80))
  let k := (x / 20).toNat
  let a := s.elem Attr.RealTimeClock.tcompCurve 0 k
  let b := s.elem Attr.RealTimeClock.tcompCurve 0 (min (k + 1) 15)
  let n := (b - a) * (x % 20)
  if n % 20 = 0 then (a + n / 20, s) else (a + n / 20 + (s.freeNat % 2 : Nat), s.drawn)

/-- Sets the trim in force, at most ±2,139 steps (R592, R593). -/
def State.setTrim (s : State) (t : Int) : State :=
  let c := s.curveAt t
  c.2.setInt Attr.RealTimeClock.trimNow 0 (max (-2139) (min 2139 (c.1 + s.int Attr.RealTimeClock.agingOffset 0)))

/-- TCOMP_SAMPLE (R593): the temperature in 0.5 °C. -/
def execTcompSample (t : Int) (s : State) : Out :=
  if s.flag Attr.RealTimeClock.tcompEnable 0 then .next ((s.setInt Attr.RealTimeClock.temperature 0 t).setTrim t) else .next s

/-- OSC_STOPPED (R595): no edge for 1 ms; OSF, the event, and the fault. -/
def execOscStopped (s : State) : Out :=
  if s.tim.rtc.osf then .next s else .next (((s.setRtc { s.tim.rtc with osf := true }).raise 0x1201 rtcPath []).report 288 0)

/-- VBAT_SWITCH (R596). -/
def execVbatSwitch (on : Bool) (s : State) : Out :=
  .next (s.setRtc { s.tim.rtc with onVbat := on, battUsed := s.tim.rtc.battUsed || on })

/-- VBAT_MEASURE (R596): VBAT in mV. -/
def execVbatMeasure (mv : Nat) (s : State) : Out :=
  let s := s.setRtc { s.tim.rtc with vbatLow := decide (mv < 2000) }
  .next (if mv < 2000 then s.raise 0x1205 rtcPath [mv] else s)

/-- RTC_RECALIBRATE (R594). -/
def doRtcRecalibrate : Body := fun c s =>
  let w := field c.payload 0 2
  if w ≠ 0 ∧ (w < 64 ∨ 3600 < w) then (⟨.badValue, []⟩, s)
  else if s.nat Attr.TimeService.state 0 ≠ 2 then (⟨.refused, []⟩, s)
  else
    let d := s.requestCmd c 7 0
    (⟨decisionStatus d.1 .accepted, []⟩, d.2)

def execRtcRecalibrate (s : State) : Out := runOpcode 0x0D02 doRtcRecalibrate s

/-- The end of a recalibration (R594): the measured error in 0.001 ppm, positive where the RTC runs fast, is taken out of the trim at 2^-23 a step. -/
def State.recalibrated (s : State) (err : Int) : State :=
  let steps := (err * 8388608 + 500000000) / 1000000000
  let a := max (-32768) (min 32767 (s.int Attr.RealTimeClock.agingOffset 0 + steps))
  let s := s.setInt Attr.RealTimeClock.agingOffset 0 a
  (s.setTrim (s.int Attr.RealTimeClock.temperature 0)).raise 0x1206 rtcPath [err, a]

end Sys2Proof.Machine
end

