-- ==== Sys2Proof/Machine/Settings.lean ====
section
/-! DEFINITION. What a SET checks and does beyond its attribute's type and range: the rules of each chapter for its settings. -/

namespace Sys2Proof.Machine

/-! ### Checks -/

/-- A status where a condition holds. -/
def refuseIf (c : Bool) (st : Status) : Option Status := if c then some st else none

/-- Lanes a wiring uses (Table 04-1). -/
def wiringLanes (w : Nat) : Nat := if w = 2 then 3 else if w = 0 then 0 else 1

/-- Units of the long-span pool that the other ports reserve (R166). -/
def State.spanUnits (s : State) (p : Nat) : Nat :=
  (((List.range 16).filter (fun q => q != p)).map (fun q => wiringLanes (s.nat Attr.LinePort.wiring q) * s.nat Attr.LinePort.longSpanMax q)).sum

/-- Whether a port's wiring and span fit the 64 units (R166, R167). -/
def State.spanFits (s : State) (p wiring span : Nat) : Bool := s.spanUnits p + wiringLanes wiring * span ≤ 64

/-- Inserts a notch by its start. -/
def insertNotch (n : Nat × Nat) : List (Nat × Nat) → List (Nat × Nat)
  | [] => [n]
  | m :: t => if n.1 < m.1 then n :: m :: t else m :: insertNotch n t

/-- Merges overlapping notches of a list that rises by start. -/
def mergeNotches : Option (Nat × Nat) → List (Nat × Nat) → List (Nat × Nat)
  | none, [] => []
  | some c, [] => [c]
  | none, m :: t => mergeNotches (some m) t
  | some c, m :: t => if m.1 ≤ c.2 then mergeNotches (some (c.1, max c.2 m.2)) t else c :: mergeNotches (some m) t

/-- R148 and R137 for a user mask: TABLE_FULL beyond 32 notches with the default mask, BAD_VALUE with fewer than 1,024 carriers left. -/
def maskStatus (user : List (Nat × Nat)) : Option Status :=
  let all := defaultNotches ++ user
  let merged := mergeNotches none (all.foldl (fun l n => insertNotch n l) [])
  if 32 < merged.length then some .tableFull else if unmaskedCount all < 1024 then some .badValue else none

/-- Strictly rising. -/
def risingInts : List Int → Bool
  | a :: b :: t => decide (a < b) && risingInts (b :: t)
  | _ => true

/-- Settings of LinePort, LineLane and NotchMask. -/
def State.lineStatus (s : State) (a : Nat × Nat) (i : Nat) (v : Val) : Option Status :=
  match v with
  | .num n =>
    let k := n.toNat
    if a = Attr.LinePort.wiring then
      (refuseIf (k != s.nat a i && (s.instances 0x0210).any (fun c => s.nat Attr.LineCell.port c == i)) .refused).or
        (refuseIf (!s.spanFits i k (s.nat Attr.LinePort.longSpanMax i)) .tableFull)
    else if a = Attr.LinePort.longSpanMax then
      (refuseIf (!([0, 1, 2, 4, 8] : List Nat).contains k) .badValue).or (refuseIf (!s.spanFits i (s.nat Attr.LinePort.wiring i) k) .tableFull)
    else if a = Attr.LinePort.notchMask then
      if pathCls k ≠ 0x0203 ∨ 15 < pathInst k then some .badValue
      else if pathInst k = 0 then none else maskStatus (notchPairs (s.arr Attr.NotchMask.notches (pathInst k)))
    else none
  | .arr xs =>
    if a = Attr.LinePort.regionBounds then refuseIf (!(risingInts xs && xs.all (fun x => 1 ≤ x && x ≤ 239))) .badValue
    else if a = Attr.NotchMask.notches then
      if xs.length % 2 = 1 then some .badValue else maskStatus (notchPairs xs)
    else none
  | .bytes _ => none

/-- Whether a channel, widened by half its occupied bandwidth on each side, lies inside one band (R251). A port that is OFF occupies none. -/
def State.channelFits (s : State) (n prof khz : Nat) : Bool :=
  let std := s.nat Attr.RadioPort.standard n
  let hz := if std = 0 then 0 else Config.occupiedHz std (s.nat Attr.RadioPort.phyMode n)
  (s.bands prof).any (fun b => decide (field b 0 4 * 2000 + hz ≤ khz * 2000) && decide (khz * 2000 + hz ≤ field b 4 4 * 2000))

/-- Whether a port's channels fit a profile (R251, R252). -/
def State.channelsFit (s : State) (n prof rx tx : Nat) : Bool := s.channelFits n prof rx && (tx == 0 || s.channelFits n prof tx)

/-- Settings of RadioPort and RadioPan. -/
def State.radioStatus (s : State) (a : Nat × Nat) (i k : Nat) : Option Status :=
  let formed := !(s.pansOf i).isEmpty && k != s.nat a i
  let rx := s.nat Attr.RadioPort.channelKhz i
  let tx := s.nat Attr.RadioPort.txChannelKhz i
  let prof := s.nat Attr.RadioPort.bandProfile i
  if a = Attr.RadioPort.standard then refuseIf formed .refused
  else if a = Attr.RadioPort.bandProfile then (refuseIf formed .refused).or (refuseIf (!s.channelsFit i k rx tx) .badValue)
  else if a = Attr.RadioPort.channelKhz then (refuseIf formed .refused).or (refuseIf (!s.channelsFit i prof k tx) .badValue)
  else if a = Attr.RadioPort.txChannelKhz then
    (refuseIf formed .refused).or (refuseIf (!s.channelsFit i prof rx k || (s.nat Attr.RadioPort.standard i == 1 && k != 0 && k != rx)) .badValue)
  else if a = Attr.RadioPort.paLeadUs then refuseIf (decide (s.nat Attr.RadioPort.txSettleUs i < k)) .badValue
  else if a = Attr.RadioPort.txSettleUs then refuseIf (decide (k < s.nat Attr.RadioPort.paLeadUs i)) .badValue
  else if a = Attr.RadioPan.wmbusMode then
    refuseIf (k == 0 || decide (8 < k) || (s.pansOf (s.nat Attr.RadioPan.port i)).any (fun c => c != i && s.nat Attr.RadioPan.wmbusMode c != k)) .badValue
  else if a = Attr.RadioPan.beaconPeriodMs then
    refuseIf (s.nat Attr.RadioPan.kind i == 1 && (s.beaconOrder (s.nat Attr.RadioPan.port i) k).isNone) .badValue
  else none

/-- Settings of the lighting classes (R429, R430). -/
def State.lightStatus (s : State) (a : Nat × Nat) (i k : Nat) : Option Status :=
  if a = Attr.LightingSegment.cell then
    (refuseIf (!(s.segLanterns i).isEmpty) .refused).or
      (refuseIf (k != 0xFFFF && k != s.nat a i && (s.freeGroup k).isNone) .tableFull)
  else if a = Attr.Lantern.segment then
    refuseIf (k != 0xFFFF && (decide (16383 < k) || s.nat Attr.LightingSegment.cell k != s.lanternCell i)) .badValue
  else if a = Attr.Lantern.circuit then refuseIf (k != 0xFF && decide (63 < k)) .badValue
  else none

/-- Settings of the measurement classes (R480, R484). -/
def State.meaStatus (s : State) (a : Nat × Nat) (i k : Nat) : Option Status :=
  let narrow := fun (sag swell hys : Nat) => refuseIf (decide (swell < sag + 2 * hys)) .badValue
  let sag := s.nat Attr.MeasurementBusbar.sagLevel i
  let swell := s.nat Attr.MeasurementBusbar.swellLevel i
  let hys := s.nat Attr.MeasurementBusbar.hysteresis i
  if a = Attr.MeasurementBusbar.sagLevel then narrow k swell hys
  else if a = Attr.MeasurementBusbar.swellLevel then narrow sag k hys
  else if a = Attr.MeasurementBusbar.hysteresis then narrow sag swell k
  else if a = Attr.MeasurementFeeder.headHandle then
    refuseIf (k != 0xFFFFFFFF && (decide (k < 1310720) || decide (1572863 < k) || s.nat Attr.EndpointProfile.role k != 2 ||
      (List.range 16).any (fun f => f != i && s.nat Attr.MeasurementFeeder.headHandle f == k))) .badValue
  else none

/-- Octets of a queue's words, where it lies in packet SRAM. -/
def State.sramWords (s : State) (n : Nat) : Nat := if s.nat Attr.HardwareQueue.location n = 0 then s.nat Attr.HardwareQueue.sizeWords n else 0

/-- Settings of HardwareQueue (R703). -/
def State.queueStatus (s : State) (a : Nat × Nat) (i k : Nat) : Option Status :=
  let busy := decide (0 < s.wordsUsed i) || (s.queue i).opened
  let others := ((List.range 1024).filter (fun n => n != i)).map s.sramWords |>.sum
  let fixed := [Attr.HardwareQueue.location, Attr.HardwareQueue.sizeWords, Attr.HardwareQueue.producer, Attr.HardwareQueue.consumer, Attr.HardwareQueue.hostRole]
  (refuseIf (a == Attr.HardwareQueue.sizeWords && k != 2 ^ Nat.log2 k) .badValue).or
    ((refuseIf (fixed.contains a && busy) .refused).or
      (if a = Attr.HardwareQueue.sizeWords then refuseIf (s.nat Attr.HardwareQueue.location i == 0 && decide (6291456 < others + k)) .tableFull
       else if a = Attr.HardwareQueue.location then refuseIf (k == 0 && decide (6291456 < others + s.nat Attr.HardwareQueue.sizeWords i)) .tableFull
       else none))

/-- Reactions Table 18-1 permits a source; FENCE and BLOCK_RESET for none of CPX, FAB and FCR (R671). -/
def Source.permits (x : Source) (k : Nat) : Bool :=
  let bare := x.domain == 1 || x.domain == 3 || x.domain == 20
  if clsSafety ≤ x.cls ∨ x.num = 21 then k == x.reaction
  else if x.cls = clsCorrected then k ≤ 1
  else if bare ∧ 2 ≤ k then false
  else if x.cls = clsMinor then 1 ≤ k && k ≤ 3
  else k == 2 || k == 3

/-- Settings of the other classes. -/
def State.otherStatus (s : State) (a : Nat × Nat) (i k : Nat) : Option Status :=
  if a = Attr.ServicePosture.posture then refuseIf (s.sys.mode != .provision) .refused
  else if a = Attr.StoreService.retentionDays then refuseIf (decide (k < s.nat Attr.BillingService.minRetentionDays 0)) .badValue
  else if a = Attr.StoreService.userCapacityPct ∨ a = Attr.StoreService.journalGib then
    refuseIf (s.sys.mode != .provision || !s.sto.segments.isEmpty) .refused
  else if a = Attr.StoreService.gcStopPct then refuseIf (decide (k ≤ s.nat Attr.StoreService.gcStartPct 0)) .badValue
  else if a = Attr.BalanceService.persistCount then refuseIf (decide (s.nat Attr.BalanceService.persistWindow 0 < k)) .badValue
  else if a = Attr.FaultSource.reaction then refuseIf (!((source i).map (fun x => x.permits k)).getD false) .badValue
  else if a = Attr.FaultSource.latched then
    let r := (s.writeLatched i k).1
    if r = .ok then none else some r
  else none

/-- What keeps a value of the right type and range from being set; none where it is set. -/
def State.setStatus (s : State) (a : Nat × Nat) (i : Nat) (v : Val) : Option Status :=
  if a.1 / 256 = 2 then s.lineStatus a i v
  else
    match v with
    | .num n =>
      let k := n.toNat
      if a.1 / 256 = 3 then s.radioStatus a i k
      else if a.1 / 256 = 9 then s.lightStatus a i k
      else if a.1 / 256 = 0x0A then s.meaStatus a i k
      else if a.1 = 0x1101 then s.queueStatus a i k
      else s.otherStatus a i k
    | _ => none

/-! ### Effects -/

/-- The lanes a port no longer uses power down (R123). -/
def State.lanesOff (s : State) (ls : List Nat) : State := ls.foldl (fun s l => (s.setLane l {}).setNat Attr.LineLane.cancellerState l 0) s

/-- A lantern moves to another segment (R430): its group, then the segment's level. -/
def State.lanternMoved (s : State) (h : Nat) : State :=
  let x := s.lanternTarget h
  ((s.sendGroups h (s.lanternGroups h)).setNat Attr.Lantern.levelCause h x.2).unicastLevel h x.1 0

/-- Writes a setting and does what the chapters give the write: `old` is the state before it. -/
def State.applySet (old : State) (a : Nat × Nat) (i : Nat) (v : Val) : State :=
  let k := match v with
    | .num n => n.toNat
    | _ => 0
  let s := old.setAttr a i v
  if a = Attr.LinePort.wiring then
    if k = old.nat a i then s else (s.lanesOff (old.portLanes i)).enablePort i
  else if a = Attr.RadioPort.bandProfile then if k = old.nat a i then s else s.reband i (old.bands (old.nat a i))
  else if a = Attr.RadioPan.beaconPeriodMs then
    if s.nat Attr.RadioPan.kind i = 1 then s.setNat Attr.RadioPan.beaconOrder i ((s.beaconOrder (s.nat Attr.RadioPan.port i) k).getD 0) else s
  else if a = Attr.LightingSegment.cell then
    if k = old.nat a i then s else s.setNat Attr.LightingSegment.group i (if k = 0xFFFF then 0 else (old.freeGroup k).getD 0)
  else if a = Attr.Lantern.segment then if k = old.nat a i then s else s.lanternMoved i
  else if a = Attr.Lantern.safeLevel then s.sendSafeLevel i
  else if a = Attr.MeasurementChannel.enabled then if k = 1 ∧ !old.flag a i then s.startChannel i else s
  else if a = Attr.MeasurementChannel.legacyDelay then old.setInt Attr.MeasurementChannel.phaseCalNs i ((k * 250 * 2 + 3) / 6 : Nat)
  else if a = Attr.MeasurementService.inputsWired then if k = 0 then s.meaStopped else s
  else if a = Attr.RealTimeClock.agingOffset ∨ a = Attr.RealTimeClock.tcompCurve then s.setTrim (s.int Attr.RealTimeClock.temperature 0)
  else if a = Attr.RtcAlarm.instant then s.setNat Attr.RtcAlarm.lastFire i 0
  else if a = Attr.EndpointLocator.pinned then s.editEui (s.nat Attr.EndpointLocator.eui i) (fun e => { e with pinned := k = 1 }) chDma
  else if a = Attr.ServicePosture.posture then { s with sys := { s.sys with postureWritten := true } }.refreshProvision
  else if a = Attr.TwinPair.selfCastle then old.setNat a i (k ||| 16)
  else if a = Attr.FaultSource.latched then (old.writeLatched i k).2
  else s

end Sys2Proof.Machine
end

