-- ==== Sys2Proof/Machine/Store.lean ====
section
/-! DEFINITION. STO: media, journal, checkpoints, segments, collection and wear, refresh and retirement, retention, reading profiles
(13_profile_store.md). Where the flash translation puts data is a fact of the command (MediaWrite, block numbers): the spec keeps it internal. -/

namespace Sys2Proof.Machine

/-! ### Blocks -/

/-- The path of the store's service object, to which its events belong. -/
def storePath : Nat := objPath 0x0B20 0

def State.block (s : State) (b : Nat) : Block := (Assoc.find b s.sto.blocks).getD {}

def State.setBlock (s : State) (b : Nat) (x : Block) : State := { s with sto := { s.sto with blocks := Assoc.set {} b x s.sto.blocks } }

/-- Good blocks: those neither bad from the factory nor retired. -/
def State.goodBlocks (s : State) : Nat := s.sto.total - s.sto.blocks.countP (fun x => x.2.retired)

/-- Good blocks that are free. -/
def State.freeBlocks (s : State) : Nat := s.sto.total - s.sto.blocks.countP (fun x => x.2.retired || !x.2.free)

/-- The reserve: 1 % of the good blocks. -/
def State.reserveBlocks (s : State) : Nat := s.goodBlocks / 100

/-- Free blocks outside the reserve. -/
def State.freeOutside (s : State) : Nat := s.freeBlocks - s.reserveBlocks

/-- A share in % of the good blocks. -/
def State.goodShare (s : State) (pct : Nat) : Nat := s.goodBlocks * pct / 100

/-- The StoreHealth instance of a block's target: blocks are numbered target after target, the targets of channel 0 first (log 34). -/
def State.healthOf (s : State) (b : Nat) : Nat :=
  let t := b * s.sto.targets / max s.sto.total 1
  let perChannel := max (s.sto.targets / 8) 1
  1 + 4 * (t / perChannel) + t % perChannel

/-- Adds to a health counter of `w` bits, of the whole store and of the block's target (R528). -/
def State.health (s : State) (w : Nat) (a : Nat × Nat) (b : Nat) (n : Nat := 1) : State := (s.bumpSat w a 0 n).bumpSat w a (s.healthOf b) n

/-- `spare_left` in 0.01 % (ch. 13, "What the store holds"). -/
def State.spareLeft (s : State) : Nat :=
  (s.goodBlocks - s.sto.total * s.nat Attr.StoreService.userCapacityPct 0 / 100 - s.reserveBlocks) * 10000 / max s.sto.total 1

/-- Erases of the good blocks. -/
def State.goodErases (s : State) : List Nat := (s.sto.blocks.filter (fun x => !x.2.retired)).map (fun x => x.2.erases)

/-- Publishes the health of the whole store (Table 13-5). -/
def State.refreshHealth (s : State) : State :=
  let e := s.goodErases
  let s := s.setNat Attr.StoreHealth.spareLeft 0 s.spareLeft
  let s := s.setNat Attr.StoreHealth.wearUsed 0 (min 65535 (e.sum * 10000 / max (s.goodBlocks * s.sto.rated) 1))
  let s := s.setNat Attr.StoreHealth.eraseMax 0 (e.foldl max 0)
  let s := if s.sto.storedBytes = 0 then s else s.setNat Attr.StoreHealth.compressionRatio 0 (min 65535 (s.sto.rawBytes * 100 / s.sto.storedBytes))
  if s.sto.userPages = 0 then s else s.setNat Attr.StoreHealth.writeAmp 0 (min 65535 (s.sto.programmed * 100 / s.sto.userPages))

/-- A free block is taken for writing `n` pages: erased first where it is not, which suspended erases do not allow (R506); none where it cannot be. -/
def State.takeBlock (s : State) (b n : Nat) : Option State :=
  let x := s.block b
  if s.sto.total ≤ b ∨ x.retired ∨ !x.free ∨ s.sto.pages < n ∨ (!x.erased ∧ s.sys.eraseHold) then none
  else some (s.setBlock b { x with free := false, erased := false, valid := n, erases := if x.erased then x.erases else x.erases + 1 })

/-- Writes `n` pages into a block, open or free. -/
def State.writeBlock (s : State) (b n : Nat) : Option State :=
  let x := s.block b
  if x.free then s.takeBlock b n
  else if x.retired ∨ s.sto.pages < x.valid + n then none
  else some (s.setBlock b { x with valid := x.valid + n })

/-- `n` pages of a block become invalid: with none left valid the block is free. -/
def State.invalidate (s : State) (x : Nat × Nat) : State :=
  let b := s.block x.1
  if b.free ∨ b.retired then s
  else s.setBlock x.1 { b with valid := b.valid - x.2, free := decide (b.valid ≤ x.2) }

/-- A write of the store's users; `all` lets it use the reserve (R514). None where a block it needs cannot be had (R506, R519). -/
def State.mediaWrite (s : State) (w : MediaWrite) (all : Bool) : Option State :=
  let n := (w.written.map Prod.snd).sum
  let r := w.written.foldl (fun (t : Option State) x => t.bind (fun t => t.writeBlock x.1 x.2)) (some s)
  r.bind (fun t =>
    if !all ∧ t.freeBlocks < s.freeBlocks ∧ t.freeBlocks < t.reserveBlocks then none
    else
      let t := w.invalid.foldl State.invalidate t
      some { t with sto := { t.sto with userPages := t.sto.userPages + n, programmed := t.sto.programmed + n } })

/-- Whether STO takes writes of its users: not fenced, and NORMAL (R519–R521). -/
def State.storeOpen (s : State) : Bool := !s.cutOff 15 0 && s.nat Attr.StoreService.mediaState 0 == 1

/-- Whether STO takes journal and checkpoint writes: NORMAL or RESERVE (R514). -/
def State.journalOpen (s : State) : Bool :=
  !s.cutOff 15 0 && (s.nat Attr.StoreService.mediaState 0 == 1 || s.nat Attr.StoreService.mediaState 0 == 2)

/-! ### Journal (R500–R503) -/

/-- Entries of 40 octets that a page of 16 KiB holds (ch. 13, worked example). -/
def pageEntries : Nat := 409

/-- Entries of a list of postings. -/
def weight (l : List (Nat × JKind)) : Nat := (l.map (fun x => x.2.entries)).sum

/-- Entries the ring of `journal_gib` holds. -/
def State.ringRoom (s : State) : Nat := s.nat Attr.StoreService.journalGib 0 * 2 ^ 30 / 40

/-- The gathered postings that fill one page, and the rest; the first is always taken. -/
def fillPage : Nat → List (Nat × JKind) → List (Nat × JKind) × List (Nat × JKind)
  | _, [] => ([], [])
  | n, x :: l => if n + x.2.entries ≤ pageEntries ∨ n = 0 then let r := fillPage (n + max x.2.entries 1) l; (x :: r.1, r.2) else ([], x :: l)

/-- Programs a page of gathered entries while none is being programmed and the ring has room (R501, R503). -/
def State.programJournal (s : State) (w : MediaWrite) : State :=
  let p := fillPage 0 s.sto.gather
  if !s.journalOpen ∨ s.sto.page ≠ [] ∨ p.1 = [] ∨ s.ringRoom < weight s.sto.ring + weight p.1 then s
  else
    match s.mediaWrite w true with
    | none => s
    | some t => { t with sto := { t.sto with page := p.1, gather := p.2 } }

/-- Sets the JOURNAL confirmation of a flight. -/
def State.journalFlight (s : State) (k : JKind) : State :=
  match k with
  | .flight id _ _ => { s with col := { s.col with flights := s.col.flights.map (fun f => if f.id = id then { f with journal := true } else f) } }
  | _ => s

/-- The page being programmed passes: its entries are committed and confirmed (R501). -/
def State.confirmJournal (s : State) : State :=
  let p := s.sto.page
  let s := { s with sto := { s.sto with page := [], ring := s.sto.ring ++ p } }
  p.foldl (fun s x => s.journalFlight x.2) s

/-- JOURNAL_PROGRAM (R501). -/
def execJournalProgram (w : MediaWrite) (s : State) : Out := .next (s.programJournal w)

/-- JOURNAL_CONFIRM (R501). -/
def execJournalConfirm (s : State) : Out := .next s.confirmJournal

/-! ### Segments and checkpoints (R499, R504) -/

/-- Record versions of a handle block and day. -/
def State.dayCount (s : State) (hb day : Nat) : Nat :=
  ((s.sto.records.filter (fun x => x.1 / 2 ^ 32 / 1024 == hb && x.1 % 2 ^ 32 / 96 == day)).map (fun x => x.2.length)).sum

/-- The key of a segment: handle block and day. -/
def segKey (hb day : Nat) : Nat := hb * 2 ^ 32 + day

/-- Handle blocks that hold records of a day. -/
def State.dayBlocks (s : State) (day : Nat) : List Nat :=
  ((s.sto.records.filter (fun x => x.1 % 2 ^ 32 / 96 == day)).map (fun x => x.1 / 2 ^ 32 / 1024)).eraseDups

/-- Today's UTC day. -/
def State.today (s : State) : Nat := s.serviceSec / 86400

/-- DAY_FOLD (R499): `fold_delay_h` after the day ends, one base segment for each handle block that holds records; `stored` octets after compression, which is
left out where it would not help (R500). -/
def execDayFold (day stored : Nat) (w : MediaWrite) (s : State) : Out :=
  if !s.storeOpen ∨ s.unset ∨ s.sto.folded.contains day ∨ s.serviceSec < (day + 1) * 86400 + s.nat Attr.StoreService.foldDelayH 0 * 3600 then .next s
  else
    match s.mediaWrite w false with
    | none => .next s
    | some t =>
      let hbs := t.dayBlocks day
      let raw := 32 * (hbs.map (fun hb => t.dayCount hb day)).sum
      let kept := if t.flag Attr.StoreService.compression 0 then min stored raw else raw
      let seg := hbs.foldl (fun l hb => Assoc.put (segKey hb day) (t.dayCount hb day) l) t.sto.segments
      .next ({ t with
        sto := { t.sto with
          segments := seg, folded := day :: t.sto.folded, foldedSince := true
          rawBytes := t.sto.rawBytes + raw, storedBytes := t.sto.storedBytes + kept }
        upd := { t.upd with formats := hbs.foldl (fun l hb => Assoc.put (segKey hb day) t.storeFormat l) t.upd.formats } }.post .map).refreshHealth

/-- DELTA_MERGE (R499): the delta segments of a day above 1/8 of its base are merged into a new base. -/
def execDeltaMerge (hb day : Nat) (w : MediaWrite) (s : State) : Out :=
  match Assoc.find (segKey hb day) s.sto.segments with
  | none => .next s
  | some base =>
    if s.storeOpen ∧ base < 8 * (s.dayCount hb day - base) then
      match s.mediaWrite w false with
      | none => .next s
      | some t => .next ({ t with
        sto := { t.sto with segments := Assoc.put (segKey hb day) (t.dayCount hb day) t.sto.segments }
        upd := { t.upd with formats := Assoc.put (segKey hb day) t.storeFormat t.upd.formats } }.post .map)
    else .next s

/-- Whether a committed entry may leave the ring: a checkpoint covers it and its days are folded or released (R503). -/
def State.mayDrop (s : State) (covered : Nat) (x : Nat × JKind) : Bool :=
  decide (x.1 ≤ covered) &&
    match x.2 with
    | .flight _ recs _ => recs.all (fun (n : NewRec) => s.sto.folded.contains (n.interval / 96) || decide (n.interval / 96 < s.sto.releasedTo))
    | _ => true

/-- Writes a checkpoint (R504): the first after a daily fold, and the first of all, holds everything; two full ones are kept with their deltas. -/
def State.checkpoint (s : State) (w : MediaWrite) : State :=
  if !s.journalOpen then s
  else
    match s.mediaWrite w true with
    | none => s
    | some t =>
      let covered := ((t.sto.ring.getLast?).map Prod.fst).getD ((t.sto.checkpoints.head?).map (fun c => (c.2.head?).getD c.1) |>.getD 0)
      let cps := match t.sto.checkpoints with
        | c :: l => if t.sto.foldedSince then (covered, []) :: (c :: l).take 1 else (c.1, covered :: c.2) :: l
        | [] => [(covered, [])]
      { t with sto := { t.sto with checkpoints := cps, foldedSince := false, ring := t.sto.ring.filter (fun x => !t.mayDrop covered x) } }

/-- CHECKPOINT (R504). -/
def execCheckpoint (w : MediaWrite) (s : State) : Out := .next (s.checkpoint w)

/-! ### Mount (R493, R494, R507–R509) -/

/-- Mounts the store; true where it mounted. -/
def State.mount (s : State) (m : MediaFacts) : Bool × State :=
  if !m.oneModel then (false, (((s.setNat Attr.StoreService.mediaState 0 4).raise 0x0F03 storePath []).report 242 0).fence 15 0 242)
  else
    let bad := m.factoryBad.foldl (fun l b => Assoc.put b ({ free := false, erased := false, retired := true } : Block) l) s.sto.blocks
    let last := ((s.sto.checkpoints.head?).map (fun c => (c.2.head?).getD c.1)).getD 0
    let replayed := weight (s.sto.ring.filter (fun x => decide (last < x.1)))
    let s := { s with sto := { s.sto with total := m.blocks, pages := m.pages, rated := m.rated, targets := m.targets, blocks := bad, gather := s.sto.page ++ s.sto.gather, page := [] } }
    let s := s.setNat Attr.StoreHealth.factoryBad 0 m.factoryBad.length
    let s := (s.setNat Attr.StoreService.mediaState 0 1).refreshHealth
    (true, if m.checkpoint then s.raise 0x0F01 storePath [replayed] else s.raise 0x0F02 storePath [weight s.sto.ring])

/-! ### Collection and wear (R510–R515) -/

/-- The victim of collection: the block with the fewest valid pages, of equals the one erased least, then the lowest number (R510, log 35). -/
def State.victim (s : State) : Option (Nat × Block) :=
  (s.sto.blocks.filter (fun x => !x.2.retired && !x.2.free)).foldl
    (fun (v : Option (Nat × Block)) x =>
      match v with
      | none => some x
      | some y => if x.2.valid < y.2.valid ∨ (x.2.valid = y.2.valid ∧ x.2.erases < y.2.erases) then some x else v)
    none

/-- Moves the valid pages of a block to a target and frees the source once the copy is verified: the map swaps atomically (R510). -/
def State.moveBlock (s : State) (b target : Nat) : Option State :=
  let x := s.block b
  if b = target ∨ x.free ∨ x.retired then none
  else
    (s.writeBlock target x.valid).map (fun t =>
      let t := { t with sto := { t.sto with programmed := t.sto.programmed + x.valid } }
      t.setBlock b (if t.sys.eraseHold then { x with valid := 0, free := true } else { x with valid := 0, free := true, erased := true, erases := x.erases + 1 }))

/-- The share of free blocks at which collection stops: that of a running boost, or `gc_stop_pct` (R510, R515). -/
def State.gcTarget (s : State) : Nat := (s.sto.boost).getD (s.nat Attr.StoreService.gcStopPct 0)

/-- GARBAGE_COLLECT (R510, R514, R515): one victim is copied to `target`. -/
def execGarbageCollect (target : Nat) (s : State) : Out :=
  let starts := s.sto.collecting || s.sto.boost.isSome || decide (s.freeOutside < s.goodShare (s.nat Attr.StoreService.gcStartPct 0))
  if !s.storeOpen ∨ !starts ∨ s.goodShare s.gcTarget ≤ s.freeOutside then .next { s with sto := { s.sto with collecting := false } }
  else
    match s.victim with
    | none => .next s
    | some v =>
      match s.moveBlock v.1 target with
      | none => .next s
      | some t => .next ({ t with sto := { t.sto with collecting := decide (t.freeOutside < t.goodShare t.gcTarget) } }.refreshHealth)

/-- Retires a block: it leaves the good blocks, counted and recorded with its cause, 0 erase, 1 program, 2 read (R516). -/
def State.retire (s : State) (b cause : Nat) : State :=
  let x := s.block b
  let s := s.setBlock b { x with retired := true, free := false, valid := 0 }
  let s := s.health 32 Attr.StoreHealth.retiredBlocks b
  let s := if cause = 0 then s.health 32 Attr.StoreHealth.eraseFails b else if cause = 1 then s.health 32 Attr.StoreHealth.programFails b else s
  (s.raise 0x0F04 storePath [b, cause]).refreshHealth

/-- BLOCK_RETIRED (R516): valid content moves to `target` first, where the block holds any. -/
def execBlockRetired (b cause target : Nat) (s : State) : Out :=
  let x := s.block b
  if s.cutOff 15 0 ∨ s.sto.total ≤ b ∨ x.retired then .next s
  else if x.free ∨ x.valid = 0 then .next (s.retire b cause)
  else
    match s.moveBlock b target with
    | none => .next s
    | some t => .next (t.retire b cause)

/-- GC_COPY_RESTART (R512): the target of a copy fails and is retired; the copy restarts from the source onto `target`. -/
def execGcCopyRestart (source failed target : Nat) (s : State) : Out :=
  let x := s.block source
  if s.cutOff 15 0 ∨ s.sto.total ≤ failed ∨ (s.block failed).retired ∨ !(s.block failed).free ∨ x.free ∨ x.retired ∨ failed = target then .next s
  else
    let s := (s.retire failed 1).raise 0x0F05 storePath [target]
    match s.moveBlock source target with
    | none => .next s
    | some t => .next t.refreshHealth

/-- WEAR_LEVEL (R511): two good blocks differ by more than `wear_spread`; the data of the block erased least move to a free block erased more. -/
def execWearLevel (source target : Nat) (s : State) : Out :=
  let e := s.goodErases
  let least := if s.sto.blocks.length < s.sto.total then 0 else e.foldl min (e.foldl max 0)
  let x := s.block source
  if s.storeOpen ∧ s.nat Attr.StoreService.wearSpread 0 < e.foldl max 0 - least ∧ x.erases < (s.block target).erases ∧
      (s.sto.blocks.all (fun y => y.2.retired || y.2.free || decide (x.erases ≤ y.2.erases))) then
    match s.moveBlock source target with
    | none => .next s
    | some t => .next t.refreshHealth
  else .next s

/-- Relocates a block under R517 and counts it. -/
def State.refreshBlock (s : State) (b target : Nat) : State :=
  match s.moveBlock b target with
  | none => s
  | some t => (t.health 64 Attr.StoreHealth.refreshes b).refreshHealth

/-- BLOCK_REFRESH (R496, R517; `soft` codewords took soft information): a block that needed read retry is relocated at once; one read `reads` times, with `bits` corrections or data of `age` days, in the
refresh pass, which the arbiter admits as "NAND refresh" (R515). -/
def execBlockRefresh (b reads bits age soft : Nat) (retry : Bool) (target : Nat) (s : State) : Out :=
  if s.cutOff 15 0 then .next s
  else
    let s := if bits = 0 then s else s.health 64 Attr.StoreHealth.correctedBits b bits
    let s := if soft = 0 then s else s.health 64 Attr.StoreHealth.softDecodes b soft
    if retry then .next ((s.health 64 Attr.StoreHealth.retries b).refreshBlock b target)
    else if s.nat Attr.StoreService.readRefreshCount 0 ≤ reads ∨ s.nat Attr.StoreService.refreshBits 0 ≤ bits ∨ s.nat Attr.StoreService.refreshAgeDays 0 < age then
      let r := if s.fcr.admitted.any (fun a => a.kind == 1) then (Decision.admitted, s) else s.requestInternal 1 0
      .next (if r.1 = .admitted then r.2.refreshBlock b target else r.2)
    else .next s

/-- GC_BOOST (R515): the target free share, the duration in minutes. -/
def doGcBoost : Body := fun c s =>
  let share := octet c.payload 0
  let mins := field c.payload 1 2
  if share < s.nat Attr.StoreService.gcStopPct 0 ∨ 40 < share ∨ mins = 0 ∨ 1440 < mins ∨ octet c.payload 3 ≠ 0 then (⟨.badValue, []⟩, s)
  else
    let d := s.requestCmd c 2 0
    (⟨decisionStatus d.1 .accepted, []⟩, if d.1 = .admitted then { d.2 with sto := { d.2.sto with boost := some share } } else d.2)

def execGcBoost (s : State) : Out := runOpcode 0x0B02 doGcBoost s

/-! ### Repair, space, retention (R497, R514, R518–R520, R524) -/

/-- MEDIA_REPAIR (R497): a segment's codeword is uncorrectable: rewritten from another copy, or the records `keys` (handle × 2^32 + interval) of it are lost. -/
def execMediaRepair (b hb day : Nat) (copy : Bool) (keys : List Nat) (s : State) : Out :=
  if s.cutOff 15 0 ∨ !Assoc.has (segKey hb day) s.sto.segments then .next s
  else
    let s := s.health 32 Attr.StoreHealth.uncorrectable b
    if copy then .next (s.raise 0x0F0B storePath [hb, day])
    else
      let gone := keys.filter (fun k => k / 2 ^ 32 / 1024 == hb && k % 2 ^ 32 / 96 == day)
      .next ({ s with
        sto := { s.sto with records := s.sto.records.filter (fun x => !gone.contains x.1), lost := segKey hb day :: s.sto.lost.filter (fun x => x != segKey hb day) } }.raise
          0x0F0C storePath [hb, day])

/-- MEDIA_RESERVE (R514): RESERVE is entered when no free block outside the reserve remains, not because erases are suspended (R506), and left when more than
`gc_start_pct` is free again. -/
def State.mediaReserve (s : State) : State :=
  if s.storeOpen ∧ s.freeOutside = 0 ∧ !s.sys.eraseHold then
    ({ (s.setNat Attr.StoreService.mediaState 0 2) with sto := { s.sto with collecting := false } }).raise 0x0F06 storePath [1]
  else if s.nat Attr.StoreService.mediaState 0 = 2 ∧ !s.cutOff 15 0 ∧ s.goodShare (s.nat Attr.StoreService.gcStartPct 0) < s.freeOutside then
    (s.setNat Attr.StoreService.mediaState 0 1).raise 0x0F06 storePath [0]
  else s

def execMediaReserve (s : State) : Out := .next s.mediaReserve

/-- Releases the segments of a day and of every day before it; `w` names the pages that become invalid (R513, R518). -/
def State.release (s : State) (day : Nat) (w : MediaWrite) : State :=
  let s := w.invalid.foldl State.invalidate s
  { s with
    sto := { s.sto with
      records := s.sto.records.filter (fun x => decide (day < x.1 % 2 ^ 32 / 96))
      segments := s.sto.segments.filter (fun x => decide (day < x.1 % 2 ^ 32))
      peers := s.sto.peers.filter (fun x => decide (day < x.1 % 2 ^ 32))
      lost := s.sto.lost.filter (fun x => decide (day < x % 2 ^ 32))
      folded := s.sto.folded.filter (fun d => decide (day < d))
      releasedTo := max s.sto.releasedTo (day + 1) } }.post .map

/-- RETENTION_RELEASE (R518): a day older than `retention_days` is released; RESERVE may end (R514). -/
def execRetentionRelease (day : Nat) (w : MediaWrite) (s : State) : Out :=
  if s.cutOff 15 0 ∨ s.today ≤ day + s.nat Attr.StoreService.retentionDays 0 then .next s else .next (s.release day w).mediaReserve

/-- The oldest day of which records are held. -/
def State.oldestDay (s : State) : Option Nat := (s.sto.records.map (fun x => x.1 % 2 ^ 32 / 96)).min?

/-- The placement order of a handle block (R524, R633). -/
def State.blockOrder (s : State) (hb : Nat) : List Nat :=
  (s.placement ((s.nat Attr.FederationMember.eui s.twn.self) ^^^ hb)).filter (fun m => m != s.twn.self)

/-- WRITE_SPACE_EXHAUSTED (R519): a write of handle block and day finds no free block outside the reserve; a journal write (`journal`) none at all. The oldest day beyond
`min_retention_days` is released under ROLL_OLDEST; else the segment goes to the first member of the order among those that accept; else STORE_FULL. -/
def execWriteSpaceExhausted (journal : Bool) (hb day : Nat) (accepting : List Nat) (w : MediaWrite) (s : State) : Out :=
  if s.cutOff 15 0 ∨ s.sys.eraseHold ∨ (if journal then s.freeBlocks else s.freeOutside) ≠ 0 then .next s
  else
    let old := (s.oldestDay).filter (fun d => decide (d + s.nat Attr.BillingService.minRetentionDays 0 < s.today))
    match (if s.nat Attr.StoreService.retentionPolicy 0 = 0 ∧ s.nat Attr.StoreService.mediaState 0 ≠ 3 then old else none) with
    | some d => .next ((s.release d w).raise 0x0F07 storePath [d]).mediaReserve
    | none =>
      match (if s.federated ∧ !journal then (s.blockOrder hb).find? (fun m => accepting.contains m) else none) with
      | some m => .next ({ s with sto := { s.sto with peers := Assoc.put (segKey hb day) m s.sto.peers } }.raise 0x0F08 storePath [hb, day, m])
      | none => .next (s.raise 0x0F09 storePath [hb, day])

/-- END_OF_LIFE (R520). -/
def execEndOfLife (s : State) : Out :=
  if s.journalOpen ∧ s.sto.total ≠ 0 ∧ s.spareLeft < 50 then .next ((s.setNat Attr.StoreService.mediaState 0 3).raise 0x0F0A storePath [s.spareLeft]) else .next s

/-! ### Reading profiles (R525, R526) -/

/-- The 32 octets of a record (Table 08-8). -/
def recBytes (h i : Nat) (r : IRec) : Bytes :=
  leBytes 4 (h * 2 ^ 11 + r.version * 2 ^ 7 + r.quality.toNat) ++ leBytes 4 i ++ ((List.range 8).flatMap (fun k => leBytes 3 (r.vals.getD k absentVal)))

/-- The versions of an interval that a read returns: all or the current one, without placeholders unless asked for (R526). -/
def State.readVersions (s : State) (h i : Nat) (all missing : Bool) : List IRec :=
  (if all then s.versions h i else (s.current h i).toList).filter (fun r => missing || !r.has qMissing)

/-- Appends the versions of intervals while the total stays at most 32,767, each interval whole: the records in reverse, and whether MORE is set (R525). -/
def gatherRecords (f : Nat → List IRec) (h : Nat) : List Nat → Nat → List (Nat × IRec) → List (Nat × IRec) × Bool
  | [], _, acc => (acc, false)
  | i :: l, n, acc =>
    let v := f i
    if 32767 < n + v.length then (acc, true) else gatherRecords f h l (n + v.length) ((v.map (fun r => (i, r))).reverse ++ acc)

/-- PROFILE_READ (R525, R526). -/
def doProfileRead : Body := fun c s =>
  match c.target 0x0B10 with
  | none => (⟨.badObject, []⟩, s)
  | some h =>
    let first := field c.payload 0 4
    let count := field c.payload 4 2
    let fl := octet c.payload 6
    if count = 0 ∨ 32768 < count ∨ 4 ≤ fl ∨ octet c.payload 7 ≠ 0 then (⟨.badValue, []⟩, s)
    else
      let is := (s.sto.records.filter (fun x => x.1 / 2 ^ 32 == h && decide (first ≤ x.1 % 2 ^ 32) && decide (x.1 % 2 ^ 32 < first + count))).map (fun x => x.1 % 2 ^ 32)
      if is = [] then (⟨.notFound, []⟩, s)
      else
        let g := gatherRecords (fun i => s.readVersions h i (bit fl 0) (bit fl 1)) h is 0 []
        let inDays := fun d => decide (first / 96 ≤ d) && decide (d ≤ (first + count - 1) / 96)
        let loss := s.sto.lost.any (fun k => k / 2 ^ 32 == h / 1024 && inDays (k % 2 ^ 32))
        let peer := s.sto.peers.any (fun x => x.1 / 2 ^ 32 == h / 1024 && inDays (x.1 % 2 ^ 32))
        let released := decide (first / 96 < s.sto.releasedTo)
        let flags := b2n loss + 2 * b2n peer + 4 * b2n released + 8 * b2n g.2
        (⟨.ok, leBytes 4 g.1.length ++ leBytes 1 flags ++ leBytes 3 0 ++ g.1.reverse.flatMap (fun x => recBytes h x.1 x.2)⟩, s)

def execProfileRead (s : State) : Out := runOpcode 0x0B01 doProfileRead s

end Sys2Proof.Machine
end

