-- ==== Sys2Proof/Machine/Cobor.lean ====
section
/-! DEFINITION. Cobor links (16_twin_federation.md R642–R647): sending, receiving in order, and the journal entries that MIRROR and REPLICA carry. -/

namespace Sys2Proof.Machine

/-! ### Sending (R643–R645) -/

/-- The link of a number. -/
def State.clink (s : State) (l : Nat) : CLink := (Assoc.find l s.twn.links).getD {}

def State.setClink (s : State) (l : Nat) (k : CLink) : State := { s with twn := { s.twn with links := Assoc.put l k s.twn.links } }

/-- The pair link (R604). -/
def State.pairLink (s : State) : Nat := s.nat Attr.TwinPair.pairLane 0

/-- The link to a member (R630): its lane, or its UDP peering. -/
def State.memberLink (s : State) (m : Nat) : Nat := if s.nat Attr.FederationMember.addressKind m = 0 then s.nat Attr.FederationMember.lane m else 8 + m

/-- The link to the seed of a join, over UDP (FEDERATION_JOIN). -/
def seedLink : Nat := 8 + 2000

/-- Greatest body of a link (R642). -/
def bodyLimit (l : Nat) : Nat := if l < 8 then 8192 else 1184

/-- Sends one message under the next nonce counter, with the acknowledgement it carries (R643, R645). -/
def State.emit (s : State) (l t q : Nat) (again : Bool) (body : Bytes) : State :=
  let k := s.clink l
  let s := s.setClink l { k with nonce := k.nonce + 1, sentAt := s.tim.d3, owed := false }
  { s with twn := { s.twn with out := s.twn.out ++ [⟨l, t, again, k.nonce + 1, q, k.rxSeq, body⟩] } }

/-- Whether a link carries protected messages: up, keyed, TWN not fenced (Table 01-2). -/
def State.linkOpen (s : State) (l : Nat) : Bool := (s.clink l).up && (s.clink l).keyed && !s.cutOff 19 0

/-- A reliable message takes the next sequence and goes. -/
def State.sendNow (s : State) (l t : Nat) (body : Bytes) : State :=
  let k := s.clink l
  (s.setClink l { k with seq := k.seq + 1, unacked := k.unacked ++ [(k.seq + 1, t, body, s.tim.d3)] }).emit l t (k.seq + 1) false body

/-- Sends waiting messages as far as the window of 4,096 allows (R645). -/
def State.pumpLink (s : State) (l : Nat) : State :=
  let k := s.clink l
  let n := if s.linkOpen l then 4096 - k.unacked.length else 0
  (k.waiting.take n).foldl (fun s x => s.sendNow l x.1 x.2) (s.setClink l { k with waiting := k.waiting.drop n })

/-- Sends a reliable message: a producer that finds the window full, or the link down, waits (R645). -/
def State.sendReliable (s : State) (l t : Nat) (body : Bytes) : State :=
  let k := s.clink l
  (s.setClink l { k with waiting := k.waiting ++ [(t, body)] }).pumpLink l

/-- Sends an unreliable message of a keyed link. -/
def State.sendPlain (s : State) (l t : Nat) (body : Bytes) : State := if s.linkOpen l then s.emit l t 0 false body else s

/-- Sends ADVERTISE or KEY_AGREE, which need no key (R644). -/
def State.sendOpen (s : State) (l t : Nat) (body : Bytes) : State := if s.cutOff 19 0 then s else s.emit l t 0 false body

/-- This chip's own versions: the Cobor protocol and the format masks of the running image (Table 17-1 offsets 25, 26 and 28). -/
def State.ownVersions (s : State) : Bytes := fitBytes 2 (slice (s.image s.sys.slot) 25 2) ++ fitBytes 16 s.masks

/-- Sends ADVERTISE on a link (Table 16-14). -/
def State.advertise (s : State) (l : Nat) : State :=
  let v := s.ownVersions
  s.sendOpen l 1 (leBytes 8 s.sys.eui ++ leBytes 1 s.side ++ [0] ++ leBytes 2 (s.nat Attr.FederationMember.capacityWeight s.twn.self) ++ v.take 2 ++ [0, 0] ++ v.drop 2 ++
    leBytes 4 (field (s.image s.sys.slot) 16 4))

/-- KEY_AGREE of this side, which its ADVERTISE precedes: the attestation report, an ephemeral key, and their signature (R605, R644). -/
def State.sendKeyAgree (s : State) (l : Nat) : State :=
  let b := s.attestBody (s.trng 32)
  let report := b ++ fitBytes 96 (Config.ecdsaSign384 s.attestKey b)
  let key := s.trng 96
  let s := (s.drawn.setClink l { s.clink l with asked := true }).advertise l
  s.sendOpen l 2 (report ++ key ++ fitBytes 96 (Config.ecdsaSign384 s.attestKey (Config.sha384 (report ++ key))))

/-! ### Receiving (R644, R645) -/

/-- A message has arrived on a link: it is up, and what it acknowledges is acknowledged. -/
def State.heardOn (s : State) (m : Cobor) : State :=
  let k := s.clink m.link
  (s.setClink m.link { k with up := true, heardAt := s.tim.d3, unacked := k.unacked.filter (fun x => decide (m.acked < x.1)) }).pumpLink m.link

/-- Delivers the messages that were held until their turn. -/
def State.drainHeld (deliver : Nat → Cobor → State → State) (l : Nat) : Nat → State → State
  | 0, s => s
  | n + 1, s =>
    let k := s.clink l
    match k.held.find? (fun x => x.2.seq == k.rxSeq + 1) with
    | none => s
    | some x =>
      State.drainHeld deliver l n
        (deliver x.1 x.2 (s.setClink l { k with rxSeq := k.rxSeq + 1, held := k.held.filter (fun y => y.2.seq != k.rxSeq + 1) }))

/-- Receives a message of type `t`: dropped while TWN is fenced; counted where its tag fails; a reliable one is delivered in its turn, held up to 4,096 out of order, and its
acknowledgement is owed (R645). -/
def State.coborIn (s : State) (deliver : Nat → Cobor → State → State) (t : Nat) (m : Cobor) : State :=
  if s.cutOff 19 0 ∨ bodyLimit m.link < m.body.length then s
  else if 2 < t ∧ (!m.tagOk ∨ !(s.clink m.link).keyed) then s.bump 32 Attr.Federation.coborAuthFails 0
  else
    let s := s.heardOn m
    if t < 0x10 then deliver t m s
    else
      let k := s.clink m.link
      let s := s.setClink m.link { k with owed := true }
      if m.seq ≤ k.rxSeq then s
      else if m.seq = k.rxSeq + 1 then
        State.drainHeld deliver m.link k.held.length (deliver t m (s.setClink m.link { k with owed := true, rxSeq := k.rxSeq + 1 }))
      else if k.held.length < 4096 ∧ !k.held.any (fun x => x.2.seq == m.seq) then s.setClink m.link { k with owed := true, held := k.held ++ [(t, m)] }
      else s

/-! ### Entries (R647, Table 16-15) -/

/-- The version a record takes: that of an equal one stored, else the next (R335). -/
def State.recVersion (s : State) (n : NewRec) : Nat :=
  let vs := s.versions n.handle n.interval
  ((vs.find? (fun r => r.quality == n.quality && r.vals == n.vals)).map IRec.version).getD vs.length

/-- A MARK body for a counter as it stands once the frame has committed. -/
def State.markBody (s : State) (h c : Nat) : Bytes :=
  let t := s.markCounter h c
  leBytes 4 h ++ leBytes 4 (t.nat Attr.EndpointProfile.lastCounter h) ++ leBytes 8 (t.ep h).bitmap.toNat ++ leBytes 1 (t.nat Attr.EndpointKey.generation h) ++ leBytes 3 0

/-- A PATH body: the primary entry, or one with VALID 0 where there is none, and the secondary path. -/
def State.pathBody (s : State) (h : Nat) : Bytes :=
  let key := s.nat Attr.EndpointProfile.eui h
  let e := match s.primary h with
    | some r => encodeEntry { key := key, handle := h, port := r.port, cell := r.cell, short := r.short, isAlias := false }
    | none => key % 2 ^ 64 * 2 ^ 64
  let t := (s.secondary h).getD ⟨noPort, 0, noShort⟩
  leBytes 16 e ++ leBytes 1 t.port ++ [0] ++ leBytes 2 t.cell ++ leBytes 2 t.short ++ [0, 0]

/-- A LIGHTING body: lease epoch, beacon sequence and the serials of a cell. -/
def State.lightingBody (s : State) (c : Nat) : Bytes :=
  let gs := s.cellSegments c
  leBytes 2 c ++ leBytes 2 (s.nat Attr.LineCell.leaseEpoch c) ++ leBytes 2 (s.nat Attr.LineCell.beaconSeq c) ++ leBytes 2 gs.length ++
    gs.flatMap (fun g => leBytes 2 g ++ [0, 0] ++ leBytes 4 (s.nat Attr.LightingSegment.serial g))

/-- A time as seconds and nanoseconds. -/
def timeBody (d : Nat) : Bytes := leBytes 6 (splitTime d).1 ++ leBytes 4 (splitTime d).2

/-- A SETTING body: the path and the value as a TLV. -/
def State.settingBody (s : State) (p : Nat) : Bytes :=
  let a := (pathCls p, pathAttr p)
  leBytes 8 p ++ ((attrInfo a).map (fun t => encodeTlv a.2 t.ty (s.attr a (pathInst p)))).getD []

/-- The sequences, kinds and bodies a journal entry travels as; the entries of a flight take the sequences up to its own. -/
def State.entries (s : State) (q : Nat) (k : JKind) : List (Nat × Nat × Bytes) :=
  match k with
  | .flight _ recs mark =>
    let n := recs.length + b2n mark.isSome
    (recs.zipIdx.map (fun (x : NewRec × Nat) => (q + 1 + x.2 - n, 1, recBytes x.1.handle x.1.interval ⟨s.recVersion x.1, x.1.quality, x.1.vals⟩))) ++
      (mark.map (fun m => (q, 2, s.markBody m.1 m.2))).toList
  | .boundary c p fl i n => [(q, 3, leBytes 1 c ++ leBytes 1 p ++ leBytes 2 (b2n (bit fl 1) + 2 * b2n (bit fl 0)) ++ leBytes 4 i ++ leBytes 4 n)]
  | .snapshot key => [(q, 4, (Assoc.find key s.bil.snaps).getD [])]
  | .path h => [(q, 5, s.pathBody h)]
  | .ledger i b us => [(q, 6, leBytes 2 i ++ leBytes 1 b ++ [0] ++ leBytes 4 us)]
  | .timeStep a b => [(q, 7, timeBody a ++ timeBody b ++ leBytes 4 0)]
  | .setting p => [(q, 8, s.settingBody p)]
  | .lighting c => [(q, 9, s.lightingBody c)]
  | .counter h => [(q, 10, leBytes 4 h ++ leBytes 1 (s.nat Attr.EndpointKey.generation h) ++ leBytes 3 0 ++ leBytes 4 (s.ep h).outCounter)]
  | .keys e i r => [(q, 11, fitBytes 64 e ++ leBytes 4 i ++ fitBytes 56 r)]
  | .map | .arrival _ | .replica _ _ => []

/-- An entry as it stands in a body (R647). -/
def entryOctets (e : Nat × Nat × Bytes) : Bytes := leBytes 8 e.1 ++ leBytes 1 e.2.1 ++ [0] ++ leBytes 2 e.2.2.length ++ e.2.2

/-- Packs entries into bodies of at most `lim` octets. -/
def packBodies (lim : Nat) (es : List Bytes) : List Bytes :=
  let r := es.foldl (fun (acc : List Bytes × Bytes) b => if acc.2.length + b.length ≤ lim then (acc.1, acc.2 ++ b) else (acc.1 ++ [acc.2], b)) ([], [])
  if r.2.isEmpty then r.1 else r.1 ++ [r.2]

/-- Reads the entries of a body. -/
def parseEntries : Nat → Bytes → List (Nat × Nat × Bytes)
  | 0, _ => []
  | n + 1, b =>
    if b.length < 12 then []
    else (field b 0 8, octet b 8, slice b 12 (field b 10 2)) :: parseEntries n (b.drop (12 + field b 10 2))

/-- A record from its 32 octets (Table 08-8). -/
def readRec (b : Bytes) : NewRec :=
  let w := field b 0 4
  ⟨w / 2 ^ 11, field b 4 4, BitVec.ofNat 7 w, (List.range 8).map (fun k => field b (8 + 3 * k) 3)⟩

/-- Applies a MARK: L, the bitmap, the generation. -/
def State.applyMark (s : State) (b : Bytes) : State :=
  let h := field b 0 4
  let g := octet b 16
  let s := if g ≠ s.nat Attr.EndpointKey.generation h ∧ g = s.nat Attr.EndpointKey.pendingGeneration h then s.adoptGen h g else s
  (s.setEp h { s.ep h with heard := true, bitmap := BitVec.ofNat 64 (field b 8 8) }).setNat Attr.EndpointProfile.lastCounter h (field b 4 4)

/-- Applies a PATH: both paths; VALID 0 removes the entry. -/
def State.applyPath (s : State) (b : Bytes) : State :=
  match decodeSlot (field b 0 16) with
  | some e =>
    let s := (s.commitPath e.handle e.key ⟨e.port, e.cell, e.short⟩ 0).2
    s.setSecondaryRaw e.handle ⟨octet b 16, field b 18 2, field b 20 2⟩
  | none =>
    match s.findEntry false (field b 8 8) with
    | some f => s.deleteEui f.1 f.2 chRelease 0
    | none => s

/-- Applies a LEDGER: the airtime of a bucket, and the bucket after it begins empty. -/
def State.applyLedger (s : State) (b : Bytes) : State :=
  let i := field b 0 2
  let k := octet b 2 % 64
  let s := s.setBuckets i (((s.arr Attr.ChessLedger.buckets i).set k (field b 4 4)).set ((k + 1) % 64) 0)
  { s with rad := { s.rad with current := Assoc.put i ((k + 1) % 64) s.rad.current } }

/-- Applies a TIME_STEP: the standby's D2 steps by the same amount (R586). -/
def State.applyStep (s : State) (b : Bytes) : State :=
  let d : Int := ((sec (field b 10 6) + field b 16 4 * 65536 : Nat) : Int) - (sec (field b 0 6) + field b 6 4 * 65536 : Nat)
  s.commitStep ((s.tim.d2 : Int) + d).toNat (if s.unset then 3 else s.nat Attr.TimeService.state 0) 1

/-- Applies a LIGHTING: lease epoch, beacon sequence, serials. -/
def State.applyLighting (s : State) (b : Bytes) : State :=
  let c := field b 0 2
  let s := (s.setNat Attr.LineCell.leaseEpoch c (field b 2 2)).setNat Attr.LineCell.beaconSeq c (field b 4 2)
  (List.range (field b 6 2)).foldl (fun s k => s.setNat Attr.LightingSegment.serial (field b (8 + 8 * k) 2) (field b (12 + 8 * k) 4)) s

/-- Applies a SETTING in its journal position (R609). -/
def State.applySetting (s : State) (b : Bytes) : State :=
  let p := field b 0 8
  let a := (pathCls p, pathAttr p)
  match (parseTlv (b.drop 8)), attrInfo a with
  | some t, some i => match decodeVal i.ty t.1 with | some v => s.applySet a (pathInst p) v | none => s
  | _, _ => s

/-- Applies an OUT_COUNTER. -/
def State.applyCounter (s : State) (b : Bytes) : State :=
  let h := field b 0 4
  s.setEp h { s.ep h with outCounter := field b 8 4 }

/-- A mirrored head record: MEA keeps what came after it (R482). -/
def State.headMirrored (s : State) (n : NewRec) : State :=
  { s with
    mea := { s.mea with
      feeders := s.mea.feeders.map (fun (x : Nat × MeaFeeder) =>
        if s.nat Attr.MeasurementFeeder.headHandle x.1 = n.handle then (x.1, { x.2 with energy := x.2.energy.filter (fun e => decide (n.interval < e.1)) }) else x) } }

/-- What a mirrored entry does at the standby, and what its own journal holds of it; none for a kind it does not read (R647). -/
def State.applyEntry (s : State) (q kind : Nat) (b : Bytes) : Option (JKind × State) :=
  match kind with
  | 1 => let n := readRec b; some (.flight (2 ^ 64 + q) [n] none, (s.storeRecord n).2.headMirrored n)
  | 2 => some (.flight (2 ^ 64 + q) [] (some (field b 0 4, field b 4 4)), s.applyMark b)
  | 3 =>
    let fl := b2n (bit (field b 2 2) 1) + 2 * b2n (bit (field b 2 2) 0)
    let t := (s.executeBoundary (octet b 0) (field b 4 4) (octet b 1) fl).setNat Attr.BillingService.boundarySeq 0 (field b 8 4)
    some (.boundary (octet b 0) (octet b 1) fl (field b 4 4) (field b 8 4), t)
  | 4 =>
    let h := field b 0 4
    let key := if octet b 12 = 0 then h * 128 + field b 4 4 % 64 else h * 128 + 64 + (Assoc.find h s.bil.onDemand).getD 0 % 4
    let t := s.keepSnapshot key b
    some (.snapshot key, if octet b 12 = 0 then t else { t with bil := { t.bil with onDemand := Assoc.modify 0 h (· + 1) t.bil.onDemand } })
  | 5 => some (.path (((decodeSlot (field b 0 16)).map LEntry.handle).getD 0), s.applyPath b)
  | 6 => some (.ledger (field b 0 2) (octet b 2) (field b 4 4), s.applyLedger b)
  | 7 => some (.timeStep (sec (field b 0 6) + field b 6 4 * 65536) (sec (field b 10 6) + field b 16 4 * 65536), s.applyStep b)
  | 8 => some (.setting (field b 0 8), s.applySetting b)
  | 9 => some (.lighting (field b 0 2), s.applyLighting b)
  | 10 => some (.counter (field b 0 4), s.applyCounter b)
  | 11 => some (.keys (slice b 0 64) (field b 64 4) (slice b 68 56), (s.importRecord (slice b 0 64) (field b 64 4) (slice b 68 56)).2)
  | _ => none

/-- COMPAT_REFUSED with the versions offered (R639, R641). -/
def State.compatRefused (s : State) (who : Nat) (versions : List Int) : State := s.raise 0x130C pairPath (who :: versions)

/-- The standby holds an entry in its mirror buffer and commits it to its own journal under the active's sequence (R502); entries held already are passed over. -/
def State.takeMirror (s : State) (e : Nat × Nat × Bytes) : State :=
  if s.twn.stopped ∨ e.1 ≤ s.twn.heldSeq then s
  else
    let mode := s.sys.mode
    match { s with sys := { s.sys with mode := .shadow } }.applyEntry e.1 e.2.1 e.2.2 with
    | none => ({ s with twn := { s.twn with stopped := true } }).compatRefused s.side [e.2.1]
    | some (k, t) =>
      { t with
        sys := { t.sys with mode := mode }
        sto := { t.sto with seq := e.1, gather := t.sto.gather ++ [(e.1, k)] }
        twn := { t.twn with heldSeq := e.1, exchanged := t.twn.exchanged + 1 } }

/-- The active commits a returning chip's records and marks through the commit path (R627 step 1). -/
def State.takeReturned (s : State) (e : Nat × Nat × Bytes) : State :=
  let s := { s with twn := { s.twn with exchanged := s.twn.exchanged + 1 } }
  match e.2.1 with
  | 1 => s.commit { id := 0, recs := [readRec e.2.2] }
  | 2 => s.commit { id := 0, recs := [], mark := some (field e.2.2 0 4, field e.2.2 4 4) }
  | _ => s

/-- Journal postings that have not left the ring, gathered ones included. -/
def State.journalled (s : State) : List (Nat × JKind) := s.sto.ring ++ s.sto.page ++ s.sto.gather

/-- Sends the mirror's entries to the partner (R607). -/
def State.flushPair (s : State) : State :=
  let l := s.pairLink
  if s.twn.outbox.isEmpty ∨ !s.linkOpen l then s
  else
    let es := s.twn.outbox.flatMap (fun x => (s.entries x.1 x.2).map entryOctets)
    (packBodies (bodyLimit l) es).foldl (fun (s : State) b => s.sendReliable l 0x10 b) { s with twn := { s.twn with outbox := [] } }

/-- Sends one entry to the replica of its endpoint (R635). -/
def State.sendReplica (s : State) (x : Nat × Nat × JKind) : State :=
  let k := s.memberLink x.1
  let s := { s with twn := { s.twn with repWait := s.twn.repWait ++ [(x.1, x.2.1, x.2.2.flightId)] } }
  (packBodies (bodyLimit k - 4) ((s.entries x.2.1 x.2.2).map entryOctets)).foldl
    (fun (s : State) y => s.sendReliable k 0x12 (leBytes 2 s.twn.self ++ [0, 0] ++ y)) s

/-- Confirms to their homes the replica entries that this chip's own journal has confirmed (R522). -/
def State.flushConfirms (s : State) : State :=
  let done := fun (d : Nat × Nat × Nat) => s.sto.ring.any (fun x => x.1 == d.2.2)
  (s.twn.repDue.filter done).foldl (fun (s : State) d => s.sendReliable (s.memberLink d.1) 0x13 (leBytes 2 d.1 ++ [0, 0] ++ leBytes 8 d.2.1))
    { s with twn := { s.twn with repDue := s.twn.repDue.filter (fun d => !done d) } }

/-- What the tick sends (log 39). -/
def State.flushMirror (s : State) : State :=
  let s := s.flushPair
  (s.twn.repOut.foldl State.sendReplica { s with twn := { s.twn with repOut := [] } }).flushConfirms

end Sys2Proof.Machine
end

