-- ==== Sys2Proof/Machine/Twin.lean ====
section
/-! DEFINITION. The twin pair (16_twin_federation.md R604–R629): PAIR, the interlock, castling, degraded states, the standby's health, and the timing of links. -/

namespace Sys2Proof.Machine

/-- Puts a piece of TWN's state. -/
def State.setTwn (s : State) (t : Twin) : State := { s with twn := t }

/-- Whether a slot of this chip runs on trial. -/
def State.trial (s : State) : Bool := s.trialSlot.isSome

/-! ### PAIR (R605) -/

/-- PAIR (R605): in PROVISION; the gloveboxes agree the pair seed over the pair link, and the command completes when they have. -/
def doPair : Body := fun c s =>
  let e := field c.payload 0 8
  if s.sys.mode ≠ .provision then (⟨.refused, []⟩, s)
  else if c.payload.length < 8 ∨ e = 0 ∨ e = s.sys.eui then (⟨.badValue, []⟩, s)
  else (⟨.accepted, []⟩, (s.setTwn { s.twn with pairing := some (e, c.arrival) }).sendKeyAgree s.pairLink)

def execPair (s : State) : Out := runMethod 0x0E10 0x40 doPair s

/-! ### Interlock (R612–R617) -/

/-- Becomes the standby in SHADOW after its claim went to the partner (Table 16-5 step 5); pending energize commands are discarded (R71). -/
def State.toShadow (s : State) (trigger : Nat) : State :=
  let s := (s.transmitOff.setMode .shadow trigger).discardAllEnergize .flushed
  (s.setTwn { s.twn with released := false, drain := false, bootClaim := none }).becomeStandby

/-- CLAIM_IN_CHANGE (R612, R614–R617, Table 16-5): INVALID raises INTERLOCK_WIRE; a standby claims when its partner is released or absent; an old active goes to SHADOW. -/
def execClaimInChange (c : ClaimIn) (p m : Bool) (s : State) : Out :=
  let was := s.twn.claimIn
  let s := s.setTwn { s.twn with claimIn := c, railP := p, railM := m }
  if !s.twinned ∨ s.sys.stalemate then .next s
  else
    match c with
    | .invalid =>
      let s := match s.twn.bootClaim with
        | some t => s.toShadow t
        | none => s
      if was = .invalid then .next s
      else .next (((s.setTwn { s.twn with wire := true }).raiseSafe 0x1302 pairPath [s.side, b2n p + 2 * b2n m]).report 306 0)
    | .claimed =>
      match s.twn.bootClaim with
      | some t => .next (s.toShadow t)
      | none => if (s.sys.mode = .service ∨ s.sys.mode = .island) ∧ !s.twn.claimOut then .next (s.toShadow 3) else .next s
    | _ =>
      if s.twn.contest then .next (s.setTwn { s.twn with contest := false, gap := some (s.tim.d3, (s.twn.gap.map Prod.snd).getD 3) })
      else if s.sys.mode = .shadow ∧ !s.twn.claimOut ∧ s.twn.bootClaim.isNone then .next (s.startClaim 3)
      else if s.twn.released ∧ c = .absent then .next (s.startClaim 3)
      else .next s

/-- BOOT_CLAIM_DELAY (R617): Queenside's 2,000 ms are over, or a claim that waited for its gate may start. -/
def execBootClaimDelay (s : State) : Out :=
  match s.twn.bootClaim with
  | none => .next s
  | some t => if s.sys.mode ≠ .holdup ∧ !s.sys.stalemate ∧ (s.twn.claimIn = .released ∨ s.twn.claimIn = .absent) then .next (s.startClaim t) else .next s

/-- CLAIM_GATE_LAPSE (R613): every field transmit enable goes inactive, then the claim is released. -/
def execClaimGateLapse (s : State) : Out :=
  let again := s.twinned && s.twn.claimOut
  let s := s.transmitOff
  .next (s.setTwn { s.twn with gateOk := false, bootClaim := if again then some 3 else s.twn.bootClaim })

/-! ### Castling (R618–R623) -/

/-- R618's refusal on either chip: pair link down, INVALID read (R615), HOLDUP (R107), or mode 0 without a FIT standby. -/
def State.castleRefused (s : State) (mode : Nat) : Bool :=
  !s.twinned || !(s.clink s.pairLink).up || s.twn.claimIn == .invalid || s.sys.mode == .holdup || (mode == 0 && !s.flag Attr.TwinPair.fit 0)

/-- Whether the active may start a planned castling now. -/
def State.castlesFrom (s : State) (mode : Nat) : Bool :=
  (s.sys.mode == .service || s.sys.mode == .island) && s.active && !s.twn.drain && !s.twn.released && !s.castleRefused mode

/-- CASTLE (R107, R618): the active starts to drain; the standby passes it to the active. -/
def doCastle : Body := fun c s =>
  let mode := octet c.payload 0
  if s.sys.mode = .holdup then (⟨.refused, []⟩, s)
  else if 1 < mode then (⟨.badValue, []⟩, s)
  else if mode = 1 ∧ c.role ≠ .safety then (⟨.denied, []⟩, s)
  else if s.sys.mode = .shadow then
    if s.castleRefused mode then (⟨.refused, []⟩, s)
    else
      (⟨.accepted, []⟩,
        (s.setTwn { s.twn with castleCmd := some (c.arrival, true) }).sendReliable s.pairLink 0x50 (leBytes 1 mode ++ [0, 0, 0] ++ leBytes 4 c.arrival))
  else if s.castlesFrom mode then (⟨.accepted, []⟩, s.setTwn { s.twn with drain := true, castleCmd := some (c.arrival, false) })
  else (⟨.refused, []⟩, s)

def execCastle (s : State) : Out := runOpcode 0x0E01 doCastle s

/-- The active gives up its claim (Table 16-5 steps 2 and 3). -/
def State.giveClaim (s : State) : State := s.transmitOff.setTwn { s.transmitOff.twn with drain := false, released := true }

/-- CASTLE_DRAIN_DONE (R620): the frames in flight have ended and the standby has confirmed every entry posted. -/
def execCastleDrainDone (s : State) : Out := if s.twn.drain ∧ s.twn.outbox.isEmpty ∧ s.twn.posted.isEmpty then .next s.giveClaim else .next s

/-- Whether a cause of Table 16-4 holds. -/
def State.selfCause (s : State) (b : Nat) : Bool :=
  match b with
  | 0 => s.cutOff 15 0
  | 1 => s.gloveShut
  | 2 => s.cutOff 9 0 || s.cutOff 8 0 || s.cutOff 13 0
  | 3 => s.anyFenced 5 || s.anyFenced 6
  | _ => false

/-- SELF_CASTLE (R619): an enabled cause holds and the standby is FIT. -/
def execSelfCastle (b : Nat) (s : State) : Out :=
  if s.active ∧ (s.sys.mode = .service ∨ s.sys.mode = .island) ∧ s.twn.claimOut ∧ s.flag Attr.TwinPair.fit 0 ∧ bit (s.nat Attr.TwinPair.selfCastle 0) b ∧ s.selfCause b then
    .next s.giveClaim
  else .next s

/-- `counter_reserve` is added to every outbound counter (R611). -/
def State.reserveCounters (s : State) : State :=
  let n := s.nat Attr.TwinPair.counterReserve 0
  { s with col := { s.col with eps := s.col.eps.map (fun (x : Nat × Endpoint) => (x.1, { x.2 with outCounter := x.2.outCounter + n })) } }

/-- The new active serves: transmit permitted, counters raised, boundaries above the guard executed, the lighting cells refreshed, CASTLED recorded, the command completed
(R461, R611, R618, R621–R623). -/
def State.castled (s : State) (planned : Bool) (cause cycles : Nat) : State :=
  let s := s.setTwn { s.twn with castlings := min (s.twn.castlings + 1) 0xFFFFFFFF, lastGap := cycles % 2 ^ 19 }
  let s := (s.raiseSafe 0x1301 pairPath [s.side, b2n planned, cause, cycles]).reserveCounters
  let s := s.runBoundaries 0
  let s := ((s.instances 0x0210).filter s.isLighting).foldl State.refreshCell s
  match s.twn.castleCmd with
  | some (a, _) => (s.setTwn { s.twn with castleCmd := none }).completeCmd a .ok []
  | none => s

/-- CASTLE_GAP_END (R614–R616, R621): the gap ends after `cycles` FCLK cycles from the partner's release. Both CLAIMED: Queenside releases, Kingside waits for that; INVALID: no
transmission, the claim is given up. -/
def execCastleGapEnd (planned : Bool) (cause cycles : Nat) (s : State) : Out :=
  match s.twn.gap with
  | none => .next s
  | some (_, trigger) =>
    if !s.twn.claimOut ∨ s.sys.stalemate then .next s
    else if s.twn.claimIn = .claimed then
      if s.side = 1 then .next ((s.toShadow trigger).raise 0x1303 pairPath [s.side]) else .next (s.setTwn { s.twn with contest := true })
    else if s.twn.claimIn = .invalid then .next (s.toShadow trigger)
    else
      let castling := s.sys.mode == .shadow
      let s := s.setTwn { s.twn with gap := none, txPermitted := true, released := false }
      let s := if s.sys.mode = .service ∨ s.sys.mode = .island then s else s.setMode .service trigger
      let s := s.transmitOn.becomeActive
      .next (if castling then s.castled planned cause cycles else s)

/-! ### Degraded pairs (R624–R627) -/

/-- SOLO (R625): no confirmation for `solo_after_ms` (0), the partner ABSENT (1), TWN fenced on either chip (2). -/
def execSolo (cause : Nat) (s : State) : Out :=
  let ps := s.nat Attr.TwinPair.pairState 0
  if !s.twinned ∨ !s.active ∨ !(ps = 1 ∨ ps = 3) ∨ (cause = 0 ∧ s.twn.posted.isEmpty) ∨ (cause = 1 ∧ s.twn.claimIn ≠ .absent) ∨ 2 < cause then .next s
  else
    let s := s.flushActivities (fun a => a.kind == 4)
    let s := (s.setPairState 2).setFlag Attr.TwinPair.fit 0 false
    .next ((s.setTwn { s.twn with outbox := [], posted := [] }).raise 0x1304 pairPath [s.side, cause])

/-- The resync's entries that the ring holds from a sequence on. -/
def State.ringSpan (s : State) (from' : Nat) : Option (Nat × Nat) :=
  let q := (s.journalled.map Prod.fst).filter (fun x => decide (from' ≤ x))
  match q.min?, q.max? with
  | some a, some b => some (a, b)
  | _, _ => none

/-- Begins an admitted resync (R627). -/
def State.startResync (s : State) : State := (s.setPairState 3).setTwn { (s.setPairState 3).twn with exchanged := 0 }

/-- TWIN_RESYNC (R627, R639): the active asks the arbiter and starts, or ends when its standby has confirmed everything; the returning standby offers what the active lacks and
requests what it lacks itself. -/
def execTwinResync (s : State) : Out :=
  let l := s.pairLink
  let ps := s.nat Attr.TwinPair.pairState 0
  if !s.twinned ∨ !s.linkOpen l then .next s
  else if s.nat Attr.TwinPair.role 0 = 2 then
    if s.twn.stopped then .next s
    else
      let s := match s.ringSpan (s.twn.mirrorSeq + 1) with
        | some r => s.sendReliable l 0x40 (leBytes 8 r.1 ++ leBytes 8 r.2)
        | none => s
      match s.twn.partner with
      | some (_, _, head) => if s.twn.heldSeq < head then .next (s.sendReliable l 0x41 (leBytes 8 (s.twn.heldSeq + 1) ++ leBytes 8 head)) else .next s
      | none => .next s
  else if !s.active then .next s
  else if ps = 2 then
    let d := s.requestInternal 4 0
    .next (if d.1 = .admitted then d.2.startResync else d.2)
  else if ps = 3 ∧ s.twn.posted.isEmpty ∧ s.twn.outbox.isEmpty then
    let gone := s.fcr.admitted.filter (fun a => a.kind == 4)
    let s := { s with fcr := { s.fcr with admitted := s.fcr.admitted.filter (fun a => a.kind != 4) } }
    let s := gone.foldl (fun s a => s.activityEvent a 3) s
    .next (((s.setPairState 1).setTwn { (s.setPairState 1).twn with soloMarks := [] }).raise 0x1305 pairPath [s.side, s.twn.exchanged])
  else .next s

/-- HEALTH_TEST (R629, R663, Table 16-8): the standby's checks; those that its own state shows are CLAIM and COMPAT, the others are in `bits`. A failed check records
HEALTH_ALARM until it passes again. -/
def execHealthTest (bits : Nat) (s : State) : Out :=
  if s.nat Attr.TwinPair.role 0 ≠ 2 then .next s
  else
    let claim := s.twn.gateOk && (s.twn.claimIn == .claimed || (s.twn.railP && s.twn.railM))
    let h := bits % 256 &&& 0x6F ||| (if claim then 0x10 else 0) ||| (if s.twn.stopped then 0 else 0x80)
    let bad := (List.range 8).filter (fun k => !bit h k && !bit s.twn.alarms k)
    let s := s.setNat Attr.TwinPair.health 0 h
    let s := s.setFlag Attr.TwinPair.fit 0 (h == 255 && s.nat Attr.TwinPair.pairState 0 == 1 && !s.trial)
    let s := s.setTwn { s.twn with alarms := 255 - h }
    .next (bad.foldl (fun s k => s.raise 0x1306 pairPath [s.side, k]) s)

/-! ### Timing of links (R644, R645) -/

/-- A link goes down: its messages wait for the next start, which begins sequences at 1 under a new key (R645). -/
def State.dropLink (s : State) (l : Nat) : State :=
  let k := s.clink l
  s.setClink l { k with
    up := false, keyed := false, asked := false, seq := 0, rxSeq := 0, held := [], owed := false, unacked := [],
    waiting := k.unacked.map (fun x => (x.2.1, x.2.2.1)) ++ k.waiting }

/-- PAIR_LINK_DOWN (R624, R626, R645): a standby whose partner is CLAIMED is UNMIRRORED and not FIT; the pair link has its key from the pair seed (R644). -/
def execPairLinkDown (s : State) : Out :=
  let l := s.pairLink
  if !(s.clink l).up then .next s
  else
    let keyed := (s.clink l).keyed && s.nat Attr.TwinPair.partnerEui 0 != 0
    let s := s.dropLink l
    let s := s.setClink l { s.clink l with keyed := keyed }
    let s := s.setTwn { s.twn with partner := none }
    if s.nat Attr.TwinPair.role 0 = 2 ∧ s.twn.claimIn = .claimed then .next ((s.setPairState 4).setFlag Attr.TwinPair.fit 0 false) else .next s

/-- COBOR_RETRANSMIT (R645): a reliable message not acknowledged in time goes again. -/
def execCoborRetransmit (l q : Nat) (s : State) : Out :=
  if s.cutOff 19 0 then .next s
  else
    match (s.clink l).unacked.find? (fun x => x.1 == q) with
    | none => .next s
    | some x =>
      let k := s.clink l
      .next ((s.setClink l { k with unacked := k.unacked.map (fun y => if y.1 = q then (y.1, y.2.1, y.2.2.1, s.tim.d3) else y) }).emit l x.2.1 q true x.2.2.1)

/-- COBOR_ACK_DUE (R645). -/
def execCoborAckDue (l : Nat) (s : State) : Out := if (s.clink l).owed then .next (s.sendPlain l 4 []) else .next s

/-- PAIR_LINK_IDLE_MESSAGE (R645): the side that has sent nothing for 1 ms sends an ACK. -/
def execPairLinkIdleMessage (s : State) : Out := if s.twinned then .next (s.sendPlain s.pairLink 4 []) else .next s

/-- LINK_REKEY (R644). -/
def execLinkRekey (l : Nat) (s : State) : Out := if (s.clink l).keyed then .next (s.sendKeyAgree l) else .next s

/-- The body of a HEARTBEAT (Table 16-14). -/
def State.heartbeatBody (s : State) : Bytes :=
  timeBody s.tim.d2 ++ leBytes 1 s.sys.mode.code ++ leBytes 1 (s.nat Attr.TwinPair.role 0) ++ leBytes 1 (s.nat Attr.TwinPair.pairState 0) ++
    leBytes 1 (s.nat Attr.TwinPair.health 0) ++ leBytes 1 (s.nat Attr.TwinPair.fit 0) ++ [0] ++ leBytes 2 (s.nat Attr.FederationMember.capacityWeight s.twn.self) ++
    leBytes 8 s.sto.seq ++ leBytes 4 0

/-- HEARTBEAT_SEND (R632, Table 16-14): on every link that is up. -/
def execHeartbeatSend (s : State) : Out := .next ((s.twn.links.map Prod.fst).foldl (fun s l => s.sendPlain l 3 s.heartbeatBody) s)

end Sys2Proof.Machine
end

