-- ==== Sys2Proof/Machine/Federation.lean ====
section
/-! DEFINITION. The federation and the Cobor messages (16_twin_federation.md R630–R647): what each type does when it is delivered, membership, placement, migration. -/

namespace Sys2Proof.Machine

/-- The path of `Federation`, and of a member. -/
def fedPath : Nat := objPath 0x0E01 0
def memberPath (m : Nat) : Nat := objPath 0x0E20 m

/-! ### Placement (R633, R634) -/

/-- Whether a member reads the store formats this chip writes: its store read mask meets this chip's store write mask. -/
def State.readsStore (s : State) (m : Nat) : Bool :=
  let v := s.octets Attr.FederationMember.versions m
  v.length != 18 || (maskOf s.masks 3 true &&& field v 14 2) != 0

/-- Places an endpoint: its home is this chip while it holds the primary path and takes placements, else the first of the order; the replica is the first other member that reads
the home's store format (R634). -/
def State.placeEndpoint (s : State) (h : Nat) : State :=
  let order := s.placement (s.nat Attr.EndpointProfile.eui h)
  let mine := (s.primary h).isSome && decide (0 < s.nat Attr.FederationMember.capacityWeight s.twn.self)
  let home := if mine then s.twn.self else (order.head?).getD s.twn.self
  let rep := (order.find? (fun m => m != home && s.readsStore m)).getD 0xFFFF
  (s.setNat Attr.EndpointPlacement.home h home).setNat Attr.EndpointPlacement.replica h rep

/-- Whether the placement of an endpoint would change. -/
def State.misplaced (s : State) (h : Nat) : Bool :=
  let t := s.placeEndpoint h
  t.nat Attr.EndpointPlacement.home h != s.nat Attr.EndpointPlacement.home h || t.nat Attr.EndpointPlacement.replica h != s.nat Attr.EndpointPlacement.replica h

/-- The work of an admitted rebalance: at most `rebalance_pct` of the chip's endpoints a day (R634); segments on peers return while space is free (R524). -/
def State.startRebalance (s : State) : State :=
  let all := s.instances 0x0501
  let done := if s.twn.moved.1 = s.today then s.twn.moved.2 else 0
  let n := all.length * s.nat Attr.Federation.rebalancePct 0 / 100 - done
  let hs := (all.filter s.misplaced).take n
  let s := hs.foldl State.placeEndpoint s
  let s := s.setTwn { s.twn with moved := (s.today, done + hs.length) }
  if 0 < s.freeOutside then { s with sto := { s.sto with peers := [] } } else s

/-- REBALANCE (R634). -/
def doRebalance : Body := fun c s =>
  if c.role ≠ .operator then (⟨.denied, []⟩, s)
  else
    let d := s.requestCmd c 10 0
    (⟨decisionStatus d.1 .accepted, []⟩, if d.1 = .admitted then d.2.startRebalance else d.2)

def execRebalance (s : State) : Out := runOpcode 0x0E04 doRebalance s

/-! ### Membership (R630–R632, R638) -/

/-- Every link to another member that has not left. -/
def State.memberLinks (s : State) : List Nat :=
  (((s.instances 0x0E20).filter (fun m => m != s.twn.self && s.nat Attr.FederationMember.state m != 4)).map s.memberLink).eraseDups

/-- Sends a reliable message to every other member. -/
def State.broadcast (s : State) (t : Nat) (body : Bytes) : State := s.memberLinks.foldl (fun s l => s.sendReliable l t body) s

/-- More than half of the ACTIVE members. -/
def State.majority (s : State) (voters : List Nat) : Bool := decide (s.activeMembers.length < 2 * (voters.filter s.activeMembers.contains).eraseDups.length)

/-- A member's state changes in a new epoch: MEMBER_CHANGED (R641). -/
def State.memberState (s : State) (m st : Nat) : State :=
  let e := (s.nat Attr.Federation.epoch 0 + 1) % 2 ^ 32
  let s := (s.setNat Attr.Federation.epoch 0 e).setNat Attr.FederationMember.state m st
  let s := s.raise 0x1309 (memberPath m) [m, st, e]
  let s := if st = 3 then s.raise 0x1308 (memberPath m) [m, e] else s
  s.refreshProvision

/-- A member declared FAILED that learns it offers its journal to the new homes (R638). -/
def State.offerAll (s : State) : State :=
  match s.ringSpan 1 with
  | some r => s.broadcast 0x40 (leBytes 8 r.1 ++ leBytes 8 r.2)
  | none => s

/-- The body of a PROPOSE. -/
def Proposal.body (p : Proposal) : Bytes :=
  leBytes 4 p.epoch ++ leBytes 1 p.change ++ [0] ++ leBytes 2 p.member ++ leBytes 1 p.state ++ leBytes 1 p.kind ++ leBytes 1 p.lane ++ [0] ++ leBytes 2 p.weight ++ [0, 0] ++
    leBytes 8 p.eui ++ fitBytes 16 p.ip

/-- The state a change leaves its member in: 1 join ACTIVE, 2 failed, 3 leave DRAINING, 4 left; 5 weight keeps it. -/
def Proposal.after (s : State) (p : Proposal) : Nat :=
  match p.change with
  | 1 => 1
  | 2 => 3
  | 3 => 2
  | 4 => 4
  | _ => s.nat Attr.FederationMember.state p.member

/-- A join or leave that the command's member waited for completes. -/
def State.completeMember (s : State) (m : Nat) : State :=
  let done := s.twn.joining.filter (fun x => x.2 == m)
  done.foldl (fun s x => s.completeCmd x.1 .ok []) (s.setTwn { s.twn with joining := s.twn.joining.filter (fun x => x.2 != m) })

/-- Registers a member as JOINING. -/
def State.enrol (s : State) (m eui kind lane weight : Nat) (ip : Bytes) : State :=
  let s := s.create 0x0E20 m
  let s := ((s.setNat Attr.FederationMember.eui m eui).setNat Attr.FederationMember.addressKind m kind).setNat Attr.FederationMember.lane m lane
  (s.setAttr Attr.FederationMember.ipv6 m (.bytes (fitBytes 16 ip))).setNat Attr.FederationMember.capacityWeight m weight

/-- A decided change takes effect and the epoch increments (R631); what was proposed for that epoch and lost is proposed again by its proposer. -/
def State.applyMembership (s : State) (p : Proposal) : State :=
  let m := p.member
  let s := s.setTwn { s.twn with proposals := s.twn.proposals.filter (fun x => x.epoch != p.epoch || x.proposer == s.twn.self) }
  let s := s.setTwn { s.twn with proposals := s.twn.proposals.filter (fun x => x != p) }
  let s := if p.change = 1 then s.enrol m p.eui p.kind p.lane p.weight p.ip else if p.change = 5 then s.setNat Attr.FederationMember.capacityWeight m p.weight else s
  let s := s.memberState m (p.after s)
  let s := if p.change = 6 then s.destroy 0x0E20 m else s
  let s := if p.change = 3 then s else s.completeMember m
  if p.change = 2 ∧ m = s.twn.self then s.offerAll else s

/-- Decides the proposals of the next epoch: the one from the lowest proposer that a majority has confirmed is taken (R631). -/
def State.tally (s : State) : State :=
  let e := s.nat Attr.Federation.epoch 0 + 1
  let mine := s.twn.proposals.filter (fun p => p.epoch == e)
  let first := mine.foldl (fun (b : Option Proposal) p => match b with | none => some p | some q => if p.proposer < q.proposer then some p else some q) none
  match first with
  | none => s
  | some p => if s.majority p.votes then s.applyMembership p else s

/-- Enters a proposal at this chip with its own vote, and tells every member; a proposal for an epoch that has passed is for the next one. -/
def State.proposeChange (s : State) (p : Proposal) : State :=
  let p := { p with proposer := s.twn.self, epoch := s.nat Attr.Federation.epoch 0 + 1, at3 := s.tim.d3, votes := [s.twn.self] }
  let s := (s.setTwn { s.twn with proposals := s.twn.proposals ++ [p] }).broadcast 0x21 p.body
  s.tally

/-- Proposes again what this chip proposed for an epoch that another change took (R631). -/
def State.reproposeStale (s : State) : State :=
  let e := s.nat Attr.Federation.epoch 0
  let old := s.twn.proposals.filter (fun p => p.proposer == s.twn.self && decide (p.epoch ≤ e))
  old.foldl State.proposeChange (s.setTwn { s.twn with proposals := s.twn.proposals.filter (fun p => decide (e < p.epoch)) })

/-- FEDERATION_JOIN (R632, R639): in PROVISION; the chip asks the seed member. Its completion is the change that makes it ACTIVE. -/
def doFederationJoin : Body := fun c s =>
  let fed := field c.payload 0 8
  let m := field c.payload 8 2
  if c.role ≠ .operator then (⟨.denied, []⟩, s)
  else if s.sys.mode ≠ .provision then (⟨.refused, []⟩, s)
  else if c.payload.length < 28 ∨ 1999 < m then (⟨.badValue, []⟩, s)
  else
    let s := (s.setNat Attr.Federation.federationId 0 fed).setTwn { s.setNat Attr.Federation.federationId 0 fed |>.twn with self := m, joining := s.twn.joining ++ [(c.arrival, m)] }
    let s := (s.enrol m s.sys.eui 1 0 (field c.payload 10 2) []).setNat Attr.FederationMember.state m 0
    let s := s.sendKeyAgree seedLink
    (⟨.accepted, []⟩, (s.sendReliable seedLink 0x20 (leBytes 8 fed ++ leBytes 2 m ++ leBytes 2 (field c.payload 10 2) ++ leBytes 4 0)).refreshProvision)

def execFederationJoin (s : State) : Out := runOpcode 0x0E02 doFederationJoin s

/-- FEDERATION_LEAVE (R632): graceful drains the member, remove is for a FAILED one. -/
def doFederationLeave : Body := fun c s =>
  let m := field c.payload 0 2
  let mode := octet c.payload 2
  if c.role ≠ .operator then (⟨.denied, []⟩, s)
  else if 1 < mode then (⟨.badValue, []⟩, s)
  else if !s.alive 0x0E20 m then (⟨.notFound, []⟩, s)
  else if mode = 1 ∧ s.nat Attr.FederationMember.state m ≠ 3 then (⟨.refused, []⟩, s)
  else
    let s := s.setTwn { s.twn with joining := s.twn.joining ++ [(c.arrival, m)] }
    (⟨.accepted, []⟩,
      s.proposeChange
        { proposer := s.twn.self, epoch := 0, change := if mode = 0 then 3 else 6, member := m, state := if mode = 0 then 2 else 3,
          kind := s.nat Attr.FederationMember.addressKind m, lane := s.nat Attr.FederationMember.lane m, weight := s.nat Attr.FederationMember.capacityWeight m,
          eui := s.nat Attr.FederationMember.eui m, ip := s.octets Attr.FederationMember.ipv6 m })

def execFederationLeave (s : State) : Out := runOpcode 0x0E03 doFederationLeave s

/-- A member that drains has migrated every placement away (R632): it proposes that it has left. -/
def State.leftWhenDrained (s : State) : State :=
  let m := s.twn.self
  if s.federated ∧ s.nat Attr.FederationMember.state m = 2 ∧ (s.instances 0x0501).all (fun h => s.nat Attr.EndpointPlacement.home h != m) ∧
      !s.twn.proposals.any (fun p => p.change == 4 && p.member == m) then
    s.proposeChange { proposer := m, epoch := 0, change := 4, member := m, state := 4, kind := 0, lane := 0, weight := 0, eui := s.sys.eui, ip := [] }
  else s

/-! ### What the messages do when they are delivered (Table 16-14) -/

/-- The versions an ADVERTISE offers: Cobor major and minor, then the format masks. -/
def advertised (b : Bytes) : Bytes := slice b 12 2 ++ slice b 16 16

/-- Whether two chips may pair: the standby reads the mirror format the active writes (R639). -/
def mirrorCompatible (active standby : Bytes) : Bool := (field active 12 2 &&& field standby 10 2) != 0 || field active 12 2 == 0

/-- Whether a member's versions agree with this one's: major equal, minor within 2 (R639). -/
def coborCompatible (a b : Bytes) : Bool :=
  octet a 0 == octet b 0 && decide (octet a 1 ≤ octet b 1 + 2) && decide (octet b 1 ≤ octet a 1 + 2)

/-- ADVERTISE (R604, R639, R662); `trial` is whether it says that the sender runs a TRIAL image (R653). -/
def State.takeAdvertise (s : State) (m : Cobor) (trial : Bool) : State :=
  let v := advertised m.body
  let e := field m.body 0 8
  let k := s.clink m.link
  let s := s.setClink m.link { k with peer := some (e, v), trial := trial }
  let s := (s.instances 0x0E20).foldl (fun s j => if s.nat Attr.FederationMember.eui j = e then s.setAttr Attr.FederationMember.versions j (.bytes v) else s) s
  if m.link = s.pairLink ∧ (s.twinned ∨ s.twn.pairing.isSome) then
    let s := if octet m.body 8 = s.side ∧ !s.twn.sideClash then (s.setTwn { s.twn with sideClash := true }).raise 0x1307 pairPath [s.side] else s
    let own := s.ownVersions
    let good := if s.active then mirrorCompatible own v else mirrorCompatible v own
    if good then s else ((if s.active then s else s.setTwn { s.twn with stopped := true })).compatRefused s.side (v.map (fun x => (x.toNat : Int)))
  else if m.link = seedLink ∧ !s.twn.joining.isEmpty ∧ !coborCompatible v s.ownVersions then
    let s := s.twn.joining.foldl (fun s x => s.completeCmd x.1 .versionMismatch []) s
    (s.setTwn { s.twn with joining := [] }).compatRefused s.twn.self (v.map (fun x => (x.toNat : Int)))
  else s

/-- KEY_AGREE (R605, R644): the peer's attestation report and signature hold: the link has a new key, and a PAIR under way its pair seed. -/
def State.takeKeyAgree (s : State) (m : Cobor) : State :=
  let report := slice m.body 0 296
  let key := slice m.body 296 96
  let pair := m.link == s.pairLink
  let e := match s.twn.pairing with
    | some (e, _) => if pair then e else field report 8 8
    | none => if pair && s.twinned then s.nat Attr.TwinPair.partnerEui 0 else field report 8 8
  if field report 8 8 ≠ e ∨ !Config.attested e report key (slice m.body 392 96) then s
  else
    let asked := (s.clink m.link).asked
    let s := if asked then s else s.sendKeyAgree m.link
    let k := s.clink m.link
    let s := (s.setClink m.link { k with keyed := true, keyedAt := s.tim.d3, asked := false, nonce := 0 }).pumpLink m.link
    match s.twn.pairing with
    | some (e, a) =>
      if pair then
        let s := (s.setNat Attr.TwinPair.partnerEui 0 e).setTwn { (s.setNat Attr.TwinPair.partnerEui 0 e).twn with pairing := none }
        (s.completeCmd a .ok []).refreshProvision
      else s
    | none => s

/-- HEARTBEAT (R104, R624, R629, R632, R633, R638): `rtt` is the round trip in ms. -/
def State.takeHeartbeat (s : State) (m : Cobor) (rtt : Nat) : State :=
  let b := m.body
  let role := octet b 11
  let s := if m.sender ≠ 0xFFFF ∧ m.sender ≠ s.twn.self then
      let s := s.setTwn { s.twn with heard := Assoc.put m.sender s.tim.d3 s.twn.heard, distance := Assoc.put m.sender rtt s.twn.distance }
      { s with sys := { s.sys with federationAt := some s.tim.d3 } }
    else s
  if m.link = s.pairLink ∧ s.twinned then
    let s := s.setTwn { s.twn with partner := some (octet b 10, role, field b 18 8) }
    let ps := octet b 12
    let s := if s.nat Attr.TwinPair.role 0 = 2 ∧ role = 1 ∧ 1 ≤ ps ∧ ps ≤ 3 then s.setPairState ps else s
    let s := if s.active then (s.setNat Attr.TwinPair.health 0 (octet b 13)).setFlag Attr.TwinPair.fit 0 (octet b 14 == 1) else s
    match s.twn.castleCmd with
    | some (a, false) => if role = 1 ∧ s.nat Attr.TwinPair.role 0 = 2 then (s.setTwn { s.twn with castleCmd := none }).completeCmd a .ok [] else s
    | _ => s
  else s

/-- MIRROR (R607, R609, R627): a standby, or a chip in HOLDUP until its HOLDUP_DONE (R112), holds the entries and confirms the last; an active in resync commits what a returning chip
sends. -/
def State.takeMirrorBody (s : State) (m : Cobor) : State :=
  let es := parseEntries m.body.length m.body
  if s.nat Attr.TwinPair.role 0 = 2 ∧ (s.sys.mode = .shadow ∨ (s.sys.mode = .holdup ∧ !s.sys.holdupDone)) then
    let s := es.foldl State.takeMirror s
    if s.twn.stopped then s else s.sendReliable m.link 0x11 (leBytes 8 s.twn.heldSeq)
  else if s.active ∧ s.nat Attr.TwinPair.pairState 0 = 3 then
    let s := es.foldl State.takeReturned s
    match es.getLast? with
    | some e => s.sendReliable m.link 0x11 (leBytes 8 e.1)
    | none => s
  else s

/-- MIRROR_CONFIRM (R26, R607): the entries up to the sequence are held by the partner. -/
def State.takeMirrorConfirm (s : State) (m : Cobor) : State :=
  let q := field m.body 0 8
  let done := s.twn.posted.filter (fun x => decide (x.1 ≤ q))
  let lag := done.map (fun x => (s.tim.d3, min 65535 ((s.tim.d3 - x.2.1) / usec 1)))
  let s := s.setTwn { s.twn with
    posted := s.twn.posted.filter (fun x => decide (q < x.1)), mirrorSeq := max s.twn.mirrorSeq q
    lags := lag ++ s.twn.lags.filter (fun x => decide (s.tim.d3 ≤ x.1 + sec 1)) }
  { s with col := { s.col with flights := s.col.flights.map (fun (f : Flight) => if done.any (fun x => x.2.2 == some f.id) then { f with mirror := true } else f) } }

/-- REPLICA (R522): the entries go into this chip's own journal, which will confirm them to the home. -/
def State.takeReplica (s : State) (m : Cobor) : State :=
  let home := field m.body 0 2
  (parseEntries m.body.length (m.body.drop 4)).foldl
    (fun s e =>
      let s := s.post (.replica home e.1)
      s.setTwn { s.twn with
        replicas := s.twn.replicas ++ [(home * 2 ^ 64 + e.1, e.2)]
        repDue := s.twn.repDue ++ [(home, e.1, s.sto.seq)] }) s

/-- REPLICA_CONFIRM (R522, R635): the replica's journal has confirmed; a lost replica is back once it confirms. -/
def State.takeReplicaConfirm (s : State) (m : Cobor) : State :=
  let q := field m.body 4 8
  let done := s.twn.repWait.filter (fun x => x.1 == m.sender && decide (x.2.1 ≤ q))
  let s := s.setTwn { s.twn with repWait := s.twn.repWait.filter (fun x => !(x.1 == m.sender && decide (x.2.1 ≤ q))), replicaLost := s.twn.replicaLost && done.isEmpty }
  { s with col := { s.col with flights := s.col.flights.map (fun (f : Flight) => if done.any (fun x => x.2.2 == some f.id) then { f with replica := true } else f) } }

/-- JOIN (R632, R639): a member of the federation named, with versions that agree, proposes the join; else COMPAT_REFUSED. -/
def State.takeJoin (s : State) (m : Cobor) : State :=
  let n := field m.body 8 2
  let v := ((s.clink m.link).peer.map Prod.snd).getD s.ownVersions
  if field m.body 0 8 ≠ s.nat Attr.Federation.federationId 0 ∨ 1999 < n then s
  else if !coborCompatible v s.ownVersions then s.compatRefused n (v.map (fun x => (x.toNat : Int)))
  else
    let e := ((s.clink m.link).peer.map Prod.fst).getD 0
    let kind := if m.link < 8 then 0 else 1
    let s := (s.enrol n e kind (m.link % 8) (field m.body 10 2) []).setNat Attr.FederationMember.state n 0
    let s := s.setAttr Attr.FederationMember.versions n (.bytes v)
    s.proposeChange { proposer := s.twn.self, epoch := 0, change := 1, member := n, state := 1, kind := kind, lane := m.link % 8, weight := field m.body 10 2, eui := e, ip := [] }

/-- PROPOSE (R631): accepted for the next epoch unless a lower member has proposed another for it; the vote goes to every member. -/
def State.takePropose (s : State) (m : Cobor) : State :=
  let b := m.body
  let p : Proposal :=
    { proposer := m.sender, epoch := field b 0 4, change := octet b 4, member := field b 6 2, state := octet b 8, kind := octet b 9, lane := octet b 10, weight := field b 12 2,
      eui := field b 16 8, ip := slice b 24 16, at3 := s.tim.d3, votes := [m.sender] }
  let ok := p.epoch == s.nat Attr.Federation.epoch 0 + 1 && !s.twn.proposals.any (fun x => x.epoch == p.epoch && decide (x.proposer < p.proposer))
  let p := if ok then { p with votes := p.votes ++ [s.twn.self] } else p
  let s := s.setTwn { s.twn with proposals := s.twn.proposals ++ [p] }
  let s := s.broadcast 0x22 (leBytes 4 p.epoch ++ leBytes 2 p.proposer ++ leBytes 1 (b2n ok) ++ [0])
  s.tally.reproposeStale

/-- VOTE (R631). -/
def State.takeVote (s : State) (m : Cobor) : State :=
  if octet m.body 6 ≠ 1 then s
  else
    let e := field m.body 0 4
    let who := field m.body 4 2
    let s := s.setTwn { s.twn with proposals := s.twn.proposals.map (fun p => if p.epoch = e ∧ p.proposer = who then { p with votes := m.sender :: p.votes } else p) }
    s.tally.reproposeStale

/-- Counts a suspicion; a majority makes the member FAILED (R632). -/
def State.suspect (s : State) (n who : Nat) : State :=
  if !s.alive 0x0E20 n ∨ s.nat Attr.FederationMember.state n = 3 ∨ s.nat Attr.FederationMember.state n = 4 then s
  else
    let v := who :: (Assoc.find n s.twn.suspects).getD []
    let s := s.setTwn { s.twn with suspects := Assoc.put n v s.twn.suspects }
    if s.majority v then
      let s := (s.setTwn { s.twn with suspects := Assoc.del n s.twn.suspects }).memberState n 3
      if n = s.twn.self then s.offerAll else s
    else s

/-- BALANCE_SUMS (R421): the sums of a member for a group and interval. -/
def State.takeSums (s : State) (m : Cobor) : State :=
  let b := m.body
  let key := field b 0 2 * 2 ^ 32 + field b 4 4
  let x : RemoteSums := ⟨m.sender, sfield b 8 8, sfield b 16 8, field b 24 4, field b 28 4⟩
  let old := ((Assoc.find key s.bal.remote).getD []).filter (fun y => y.member != m.sender)
  { s with bal := { s.bal with remote := Assoc.put key (old ++ [x]) s.bal.remote } }

/-- Canonical records of a segment in parts (Table 16-14). -/
def State.segmentBodies (s : State) (key lim : Nat) : List Bytes :=
  let rs := s.sto.records.filter (fun x => segKey (x.1 / 2 ^ 32 / 1024) (x.1 % 2 ^ 32 / 96) == key)
  let octets := rs.flatMap (fun x => x.2.map (fun r => recBytes (x.1 / 2 ^ 32) (x.1 % 2 ^ 32) r))
  let parts := packBodies (lim - 16) octets
  parts.zipIdx.map (fun (x : Bytes × Nat) =>
    leBytes 2 s.twn.self ++ leBytes 2 (key / 2 ^ 32) ++ leBytes 4 (key % 2 ^ 32) ++ leBytes 2 x.2 ++ leBytes 2 parts.length ++ leBytes 4 0 ++ x.1)

/-- RESYNC_OFFER (R627 step 1): the active asks for what is offered. -/
def State.takeOffer (s : State) (m : Cobor) : State :=
  if s.active ∨ s.federated then s.sendReliable m.link 0x41 (m.body.take 16) else s

/-- RESYNC_REQUEST (R627): the entries wanted; those no longer in the ring go as segments, in bulk. -/
def State.takeRequest (s : State) (m : Cobor) : State :=
  let a := field m.body 0 8
  let b := field m.body 8 8
  let ks := s.journalled.filter (fun x => decide (a ≤ x.1) && decide (x.1 ≤ b))
  let es := ks.flatMap (fun x => s.entries x.1 x.2)
  let first := ((s.journalled.map Prod.fst).min?).getD (b + 1)
  let segs := if a < first then s.sto.segments.flatMap (fun x => s.segmentBodies x.1 (bodyLimit m.link)) else []
  let s := segs.foldl (fun s y => s.sendReliable m.link 0x42 y) s
  let s := if s.active then s.setTwn { s.twn with posted := s.twn.posted ++ es.map (fun x => (x.1, s.tim.d3, none)), exchanged := s.twn.exchanged + es.length } else s
  (packBodies (bodyLimit m.link) (es.map entryOctets)).foldl (fun s y => s.sendReliable m.link 0x10 y) s

/-- SEGMENT (R627, R646): the records of a part; those of another home are held as its replica's. -/
def State.takeSegment (s : State) (m : Cobor) : State :=
  let home := field m.body 0 2
  let recs := (List.range ((m.body.length - 16) / 32)).map (fun k => slice m.body (16 + 32 * k) 32)
  if home = s.twn.self then recs.foldl (fun s r => (s.storeRecord (readRec r)).2) s
  else s.setTwn { s.twn with replicas := s.twn.replicas ++ recs.map (fun r => (home * 2 ^ 64, 1, r)) }

/-- CASTLE passed by the standby (R618): the active starts to drain, or sends the refusal back. -/
def State.takeCastle (s : State) (m : Cobor) : State :=
  let mode := octet m.body 0
  if s.castlesFrom mode then s.setTwn { s.twn with drain := true }
  else s.sendReliable m.link 0x51 (slice m.body 4 4 ++ leBytes 1 Status.refused.code ++ [0, 0, 0])

/-- CASTLE_RESULT: a refused request completes. -/
def State.takeCastleResult (s : State) (m : Cobor) : State :=
  let a := field m.body 0 4
  if octet m.body 4 = 0 ∨ octet m.body 4 = 1 then s
  else (s.setTwn { s.twn with castleCmd := none }).completeCmd a .refused []

/-- PEER_MAILBOX (R51): a mailbox frame for a PEER session; the peer is the credential of the link's EUI. -/
def State.takePeer (s : State) (m : Cobor) : State :=
  if !s.ready then s
  else
    let s := s.nextArrival.dropDistant
    s.intake (.peer m.link) m.body [] [] 0 s.mbx.arrival

/-- What a delivered message does, by its type (Table 16-14); any other type is dropped (R646). HEARTBEAT has its round trip from its own row. -/
def deliverCobor (t : Nat) (m : Cobor) (s : State) : State :=
  match t with
  | 0x02 => s.takeKeyAgree m
  | 0x10 => s.takeMirrorBody m
  | 0x11 => s.takeMirrorConfirm m
  | 0x12 => s.takeReplica m
  | 0x13 => s.takeReplicaConfirm m
  | 0x20 => s.takeJoin m
  | 0x21 => s.takePropose m
  | 0x22 => s.takeVote m
  | 0x23 => s.suspect (field m.body 0 2) m.sender
  | 0x30 => s.takeSums m
  | 0x40 => s.takeOffer m
  | 0x41 => s.takeRequest m
  | 0x42 => s.takeSegment m
  | 0x50 => s.takeCastle m
  | 0x51 => s.takeCastleResult m
  | 0x52 => s.takePeer m
  | _ => s

def execAdvertise (m : Cobor) (trial : Bool) (s : State) : Out := .next (s.coborIn (fun _ m s => s.takeAdvertise m trial) 0x01 m)
def execKeyAgree (m : Cobor) (s : State) : Out := .next (s.coborIn deliverCobor 0x02 m)
def execHeartbeat (m : Cobor) (rtt : Nat) (s : State) : Out := .next (s.coborIn (fun _ m s => s.takeHeartbeat m rtt) 0x03 m)
def execAck (m : Cobor) (s : State) : Out := .next (s.coborIn deliverCobor 0x04 m)
def execMirror (m : Cobor) (s : State) : Out := .next (s.coborIn deliverCobor 0x10 m)
def execMirrorConfirm (m : Cobor) (s : State) : Out := .next (s.coborIn deliverCobor 0x11 m)
def execReplica (m : Cobor) (s : State) : Out := .next (s.coborIn deliverCobor 0x12 m)
def execReplicaConfirm (m : Cobor) (s : State) : Out := .next (s.coborIn deliverCobor 0x13 m)
def execJoin (m : Cobor) (s : State) : Out := .next (s.coborIn deliverCobor 0x20 m)
def execPropose (m : Cobor) (s : State) : Out := .next (s.coborIn deliverCobor 0x21 m)
def execVote (m : Cobor) (s : State) : Out := .next (s.coborIn deliverCobor 0x22 m)
def execSuspect (m : Cobor) (s : State) : Out := .next (s.coborIn deliverCobor 0x23 m)
def execBalanceSums (m : Cobor) (s : State) : Out := .next (s.coborIn deliverCobor 0x30 m)
def execResyncOffer (m : Cobor) (s : State) : Out := .next (s.coborIn deliverCobor 0x40 m)
def execResyncRequest (m : Cobor) (s : State) : Out := .next (s.coborIn deliverCobor 0x41 m)
def execSegment (m : Cobor) (s : State) : Out := .next (s.coborIn deliverCobor 0x42 m)
def execCastleMessage (m : Cobor) (s : State) : Out := .next (s.coborIn deliverCobor 0x50 m)
def execCastleResult (m : Cobor) (s : State) : Out := .next (s.coborIn deliverCobor 0x51 m)
def execPeerMailbox (m : Cobor) (s : State) : Out := .next (s.coborIn deliverCobor 0x52 m)

/-! ### Timed rows -/

/-- MEMBERSHIP_VOTE_TIMEOUT (R631): a change that no majority has confirmed within 10 s does not take effect; its command completes with TIMEOUT. -/
def execMembershipVoteTimeout (e proposer : Nat) (s : State) : Out :=
  match s.twn.proposals.find? (fun p => p.epoch == e && p.proposer == proposer) with
  | none => .next s
  | some p =>
    let s := s.setTwn { s.twn with proposals := s.twn.proposals.filter (fun x => x != p) }
    if p.proposer = s.twn.self then
      .next ((s.twn.joining.filter (fun x => x.2 == p.member)).foldl (fun s x => s.completeCmd x.1 .timeout []) (s.setTwn { s.twn with joining := s.twn.joining.filter (fun x => x.2 != p.member) }))
    else .next s

/-- MEMBER_TIMEOUT (R632): a member not heard for `member_timeout_ms` is suspected, and the suspicion told to every other. -/
def execMemberTimeout (n : Nat) (s : State) : Out :=
  if !s.alive 0x0E20 n ∨ n = s.twn.self ∨ s.nat Attr.FederationMember.state n ≠ 1 then .next s
  else
    let s := s.broadcast 0x23 (leBytes 2 n ++ [0, 0] ++ leBytes 4 (s.nat Attr.Federation.epoch 0))
    .next (s.suspect n s.twn.self)

/-- REPLICA_WAIT_TIMEOUT (R635): the replica of an endpoint has confirmed nothing for `replica_wait_ms`: the next member of the order takes its place, or none is left and frames
are acknowledged at JOURNAL level. -/
def execReplicaWaitTimeout (h : Nat) (s : State) : Out :=
  let old := s.nat Attr.EndpointPlacement.replica h
  if !s.federated ∨ old = 0xFFFF ∨ !s.endpoint h then .next s
  else
    let order := (s.placement (s.nat Attr.EndpointProfile.eui h)).filter (fun m => m != s.twn.self && s.readsStore m)
    let rest := (order.dropWhile (fun m => m != old)).drop 1
    match rest.head? with
    | some m =>
      let again := s.twn.repWait.filter (fun x => x.1 == old)
      let s := s.setNat Attr.EndpointPlacement.replica h m
      let ks := s.journalled.filter (fun x => x.2.endpoint == some h && again.any (fun y => y.2.1 == x.1))
      .next (s.setTwn { s.twn with repOut := s.twn.repOut ++ ks.map (fun x => (m, x.1, x.2)) })
    | none => .next (((s.setNat Attr.EndpointPlacement.replica h 0xFFFF).setTwn { s.twn with replicaLost := true }).raise 0x130A (objPath 0x0E30 h) [h, old])

/-! ### Migration (R523, R636, R637) -/

/-- The lowest handle not in use. -/
def State.freeHandle (s : State) : Option Nat :=
  let n := (s.instances 0x0501).length
  ((List.range (n + 1)).find? (fun h => !s.endpoint h)).filter (fun h => decide (h ≤ maxHandle))

/-- The handle a replica entry is for: in its first octets, or in the locator entry of a PATH. -/
def replicaHandle (e : Nat × Nat × Bytes) : Nat :=
  match e.2.1 with
  | 1 => field e.2.2 0 4 / 2 ^ 11
  | 5 => ((decodeSlot (field e.2.2 0 16)).map LEntry.handle).getD 0
  | _ => field e.2.2 0 4

/-- One endpoint of the failed home becomes this chip's: a local handle, its EUI where a path told it, its records and mark re-tagged (R523, R636). -/
def State.migrateOne (s : State) (f h : Nat) : Nat × State :=
  match s.freeHandle with
  | none => (0, s)
  | some n =>
    let mine := s.twn.replicas.filter (fun e => e.1 / 2 ^ 64 == f && replicaHandle e == h)
    let eui := ((mine.filter (fun e => e.2.1 == 5)).getLast?).bind (fun e => (decodeSlot (field e.2.2 0 16)).map LEntry.key)
    let s := (s.create 0x0501 n).setNat Attr.EndpointProfile.eui n (eui.getD (s.freeNat % 2 ^ 64))
    let s := if eui.isSome then s else s.drawn
    let s := mine.foldl
      (fun s e =>
        if e.2.1 = 1 then (s.storeRecord { readRec e.2.2 with handle := n }).2
        else if e.2.1 = 2 then s.applyMark (leBytes 4 n ++ e.2.2.drop 4)
        else s) s
    let s := s.placeEndpoint n
    (1, s.setNat Attr.EndpointPlacement.home n s.twn.self)

/-- A planned cell is re-formed here with the same relay EUI; a lighting cell with a new beacon key generation and lease epoch, its lanterns at their safe level until R213 is met. -/
def State.reform (s : State) (x : PlannedCell) : State :=
  let c := x.cell
  if s.isLine c ∨ s.isPan c ∨ 511 < c ∨ 15 < x.port then s
  else
    let s := s.create 0x0210 c
    let s := ((s.setNat Attr.LineCell.port c x.port).setNat Attr.LineCell.kind c 1).setNat Attr.LineCell.purpose c x.purpose
    let s := (s.setNat Attr.LineCell.beaconPeriodMs c (if x.purpose = 1 then 1000 else 8000)).setNat Attr.LineCell.relayEui c x.relay
    let s := s.raise 0x0507 (objPath 0x0210 c) [x.port, c, 1, x.purpose]
    if x.purpose = 1 then
      let s := { s with glv := { s.glv with beaconGen := Assoc.put c ((s.beaconGen c + 1) % 2 ^ 16) s.glv.beaconGen } }
      (s.bump 16 Attr.LineCell.leaseEpoch c).setCell c { held := true, restoring := true }
    else s.setCell c { held := false, restoring := false }

/-- MIGRATED (R523, R636, R637): the endpoints of a FAILED member that this chip holds as their replica, and the cells its plan sends here. -/
def execMigrated (f : Nat) (cells : List PlannedCell) (s : State) : Out :=
  if s.nat Attr.FederationMember.state f ≠ 3 ∨ f = s.twn.self ∨ !s.alive 0x0E20 f then .next s
  else
    let hs := ((s.twn.replicas.filter (fun e => e.1 / 2 ^ 64 == f)).map replicaHandle).eraseDups
    let r := hs.foldl (fun (acc : Nat × State) h => let x := acc.2.migrateOne f h; (acc.1 + x.1, x.2)) (0, s)
    let s := r.2.setTwn { r.2.twn with replicas := r.2.twn.replicas.filter (fun e => e.1 / 2 ^ 64 != f) }
    let s := s.raise 0x130B (memberPath f) [f, r.1]
    .next (cells.foldl State.reform s)

/-- BALANCE_SUMS_SEND (R421): this chip sends the chip that evaluates a group its sums for an interval. -/
def execBalanceSumsSend (g i : Nat) (s : State) : Out :=
  let home := s.groupHome g
  if !s.federated ∨ home = s.twn.self ∨ s.cutOff 12 0 then .next s
  else
    let x := s.ownSums g i
    .next (s.sendReliable (s.memberLink home) 0x30
      (leBytes 2 g ++ [0, 0] ++ leBytes 4 i ++ intBytes 8 (Dbl.floor x.1) ++ intBytes 8 (Dbl.floor x.2.1) ++ leBytes 4 x.2.2.1 ++ leBytes 4 x.2.2.2))

/-- Mailbox responses to PEER sessions go out as PEER_MAILBOX messages (R51, Table 16-14; log 39). -/
def State.flushPeers (s : State) : State :=
  s.mbx.peerOut.foldl (fun (s : State) x => s.sendReliable x.1 0x52 x.2) { s with mbx := { s.mbx with peerOut := [] } }

end Sys2Proof.Machine
end

