-- ==== Sys2Proof/Machine/Guard.lean ====
section
/-! DEFINITION. The Guard's energize check, fencing commands, self-test, injection, and the arbiter's end of an activity (18_faults_safety.md; the confirmation of
02_purel_mailboxes.md R66–R71 and 14_glovebox.md R560–R562). -/

namespace Sys2Proof.Machine

/-! ### ENERGIZE_CONFIRM (R66–R69, R560–R562, R686) -/

/-- The endpoint that an energize command acts on: the meter, or the circuit's contactor. -/
def State.energizeHandle (s : State) (e : Energize) : Nat :=
  if e.opcode = opConnect then pathInst e.path else s.nat Attr.LightingCircuit.contactorHandle (field e.payload 0 2)

/-- The target of the policy's checks: the endpoint, or the circuit named. -/
def Energize.target (e : Energize) : Nat := if e.opcode = opConnect then objPath 0x0501 (pathInst e.path) else objPath 0x0906 (field e.payload 0 2)

/-- Approvals of the last `n` seconds that meet a condition. -/
def State.recentApprovals (s : State) (n : Nat) (p : Nat × Nat → Bool) : Nat :=
  s.fcr.approvals.countP (fun x => decide (s.tim.d3 ≤ x.1 + sec n) && p x.2)

/-- The first check of Table 18-6 that fails, from order 2 on; none where the Guard approves. -/
def State.policyCheck (s : State) (e : Energize) (cell : Nat) : Option Nat :=
  let island := s.sys.mode == .island
  if !(s.sys.mode == .service || island) || s.sys.stalemate || (island && !(s.fcr.islandAllowed && energizeInitiator e.opcode true e.role e.localSess)) then some 2
  else if s.fcr.deny.contains e.target then some 3
  else if s.fcr.rateChip ≤ s.recentApprovals 60 (fun _ => true) then some 4
  else if s.fcr.rateCell ≤ s.recentApprovals 60 (fun x => x.1 == cell) then some 5
  else if 0 < s.recentApprovals s.fcr.spacing (fun x => x.2 == e.target) then some 6
  else if e.opcode = opCircuit ∧ s.nat Attr.LightingCircuit.state (field e.payload 0 2) ≠ 0 then some 7
  else none

/-- The frame that an approved command sends in queue 6 (R313, R456). -/
def State.sendEnergize (s : State) (e : Energize) : State :=
  let h := s.energizeHandle e
  let n := s.nextSerial h
  if e.opcode = opConnect then n.2.request h 6 opConnect n.1 none (Config.supplyApdu (octet e.payload 0)) (some e.arrival)
  else
    let s := n.2.request h 6 opCircuit n.1 none (Config.supplyApdu 0) none
    { s with lux := { s.lux with energizing := s.lux.energizing ++ [(field e.payload 0 2, e.arrival)] } }

/-- ENERGIZE_CONFIRM (R66–R69): `intact` is whether the approval's tag reaches the checker as issued, `cycles` the GCLK cycles since its issue (R562). -/
def doEnergizeConfirm (intact : Bool) (cycles : Nat) : Body := fun c s =>
  let a := field c.payload 0 4
  let island := s.sys.mode == .island
  match s.mbx.energize.find? (fun e => e.arrival == a) with
  | none => (⟨if s.mbx.confirmed.contains a then .duplicate else .notFound, []⟩, s)
  | some e =>
    if !energizeConfirmer e.opcode island c.role c.localSess || c.cred == e.cred then (⟨.denied, []⟩, s)
    else
      let h := s.energizeHandle e
      let cell := (s.requestCell h).getD 0
      match s.policyCheck e cell with
      | some k => (⟨.refused, []⟩, (s.raise 0x1408 e.target [pathInst e.target, k]).discardEnergize e .refused)
      | none =>
        let n : Nat := (s.glv.approvals + 1) % 2 ^ 32
        let keep := s.fcr.approvals.filter (fun x => decide (s.tim.d3 ≤ x.1 + sec (max 60 s.fcr.spacing)))
        let s : State := { s with glv := { s.glv with approvals := n }, fcr := { s.fcr with approvals := (s.tim.d3, cell, e.target) :: keep } }
        let bad : Nat := if !intact then 1 else if (n : Nat) ≤ s.glv.checked then 2 else if 40000000 < cycles then 3 else 0
        if bad ≠ 0 ∨ s.fcr.sf0 ∨ s.gloveShut then
          (⟨.refused, []⟩, (s.refuseEnergize h (s.nat Attr.EndpointProfile.commandSerial h) bad).discardEnergize e .refused)
        else
          let s := { s with
            glv := { s.glv with checked := n }
            mbx := { s.mbx with energize := s.mbx.energize.filter (fun x => x.arrival != a), confirmed := s.mbx.confirmed ++ [a] } }
          (⟨.ok, []⟩, s.sendEnergize e)

def execEnergizeConfirm (intact : Bool) (cycles : Nat) (s : State) : Out := runOpcode opConfirm (doEnergizeConfirm intact cycles) s

/-- POLICY_LOAD (R686): a table signed with POLICY_ROOT, in PROVISION or SERVICE; `p` is what it says. -/
def doPolicyLoad (p : Policy) : Body := fun c s =>
  let b := c.data
  let body := b.take (b.length - 96)
  if pathInst c.path ≠ 0 ∨ (s.sys.mode ≠ .provision ∧ s.sys.mode ≠ .service) then (⟨.refused, []⟩, s)
  else if !bit c.flags flagBulk ∨ b.length < 96 ∨ 1024 < p.deny.length ∨ !s.slotGood 5 ∨ !Config.ecdsaVerify384 ((Assoc.find 5 s.glv.slots).getD []) body (b.drop (b.length - 96)) then
    (⟨.badValue, []⟩, s)
  else
    let d := Config.sha256 b
    let s := { s with
      fcr := { s.fcr with islandAllowed := p.islandAllowed, rateChip := p.rateChip, rateCell := p.rateCell, spacing := p.spacing, deny := p.deny }
      glv := { s.glv with policyHash := d } }
    (⟨.ok, []⟩, s.setAttr Attr.SafetyFunction.policyDigest 0 (.bytes d))

def execPolicyLoad (p : Policy) (s : State) : Out := runMethod 0x1004 0x40 (doPolicyLoad p) s

/-! ### Activities (R693–R696) -/

/-- Starts the work of an activity that was deferred. -/
def State.startActivity (s : State) (a : Activity) : State :=
  match a.kind with
  | 2 => { s with sto := { s.sto with boost := some (octet a.arg 0) } }
  | 3 => s.startRebuild
  | 4 => s.startResync
  | 8 => s.startTraining a.unit
  | 9 => s.startRotation a.arg
  | 10 => s.startRebalance
  | _ => s

/-- Admits what waits, in order, and starts it (R695). -/
def State.admitWaiting (s : State) : State :=
  let a := s.admitDeferred
  let b := a.2.decideWaiting
  (a.1 ++ b.1).foldl State.startActivity b.2

/-- ACTIVITY_END (R515, R594, R695, R746): an admitted activity ends; its command receives COMPLETE; `err` is what a recalibration measured, in 0.001 ppm. -/
def execActivityEnd (kind unit : Nat) (err : Int) (s : State) : Out :=
  match s.fcr.admitted.find? (fun a => a.kind == kind && a.unit == unit) with
  | none => .next s
  | some a =>
    let s := { s with fcr := { s.fcr with admitted := s.fcr.admitted.filter (fun x => x != a) } }
    let s := s.activityEvent a 3
    let s := if a.internal then s else s.completeCmd a.arrival .ok []
    let s := if kind = 2 then { s with sto := { s.sto with boost := none } } else if kind = 7 then s.recalibrated err else s
    .next s.admitWaiting

/-- Whether the cause of an internal request still holds: a lane in HALF_DUPLEX (R158), a pair that is SOLO (R627), a refresh pass (R517). -/
def State.stillWanted (s : State) (a : Activity) : Bool :=
  if a.kind = 8 then s.nat Attr.LineLane.cancellerState a.unit == 3 else if a.kind = 4 then s.nat Attr.TwinPair.pairState 0 == 2 else true

/-- Makes again the internal requests that a fence or HOLDUP ended (R677, R696). -/
def State.remake (s : State) (p : Activity → Bool) : State :=
  let l := s.fcr.again.filter p
  l.foldl
    (fun s a =>
      if s.stillWanted a then
        let r := s.requestInternal a.kind a.unit
        if r.1 = .admitted then r.2.startActivity a else r.2
      else s)
    { s with fcr := { s.fcr with again := s.fcr.again.filter (fun a => !p a) } }

/-! ### Fencing (R677–R680) -/

/-- A DOMAIN reset (R92): the engines and registers of the unit; what the spec keeps in DRAM, in media or in the backup domain stays (log 40). -/
def State.domainReset (s : State) (d u : Nat) : State :=
  let s := { s with fcr := { s.fcr with domainResets := d :: s.fcr.domainResets } }
  match d with
  | 4 => ({ s with lin := { s.lin with lanes := Assoc.del u s.lin.lanes } }).setNat Attr.LineLane.cancellerState u 0
  | 5 => { s with lin := { s.lin with ports := Assoc.del u s.lin.ports } }
  | 6 => { s with rad := { s.rad with ports := Assoc.del u s.rad.ports } }
  | 9 => { s with col := { s.col with requests := s.col.requests.map (fun r => { r with outstanding := false }) } }
  | 14 => { s with mea := { s.mea with chans := [] } }
  | 16 => { s with glv := { s.glv with cache := [], trngFault := false } }
  | 17 => [0, 1].foldl (fun (s : State) i => s.setDom i (s.dom i) {}) s
  | 19 => (s.twn.links.map Prod.fst).foldl State.dropLink s
  | _ => s

/-- Clears the latched sources of a domain that R670 lets go. -/
def State.clearSources (s : State) (d : Nat) : State :=
  (sources.filter (fun x => x.domain == d && s.flag Attr.FaultSource.latched x.num)).foldl (fun s x => (s.writeLatched x.num 0).2) s

/-- The fence is lifted (R16, R679 step 5): the domain takes up its work; `ms` is the self-test time. -/
def State.lift (s : State) (d u ms : Nat) : State :=
  let i := d * 256 + u
  let s := ((s.setFlag Attr.FenceUnit.fenced i false).setNat Attr.FenceUnit.cause i 0).setNat Attr.FenceUnit.lastTest i 1
  let s := s.raise 0x1403 (objPath 0x1003 i) [d, u, ms]
  let s := { s with fcr := { s.fcr with resetting := s.fcr.resetting.filter (fun x => x != i) } }
  let s := if d = 13 then
      let s := { s with lux := { s.lux with fences := s.lux.fences.map (fun (x : Nat × Option Nat) => (x.1, x.2.or (some (s.tim.d2 / msec 1)))) } }
      if s.fcr.sf1 then ({ s with fcr := { s.fcr with sf1 := false } }).raiseSafe 0x1406 (objPath 0x1004 1) [1, 0] else s
    else if d = 14 then ((List.range 80).filter (s.flag Attr.MeasurementChannel.enabled)).foldl State.startChannel s
    else if d = 18 then s.rtcUnfenced
    else s
  (s.resumeEngine d).remake (fun a => a.uses.contains (d, u)) |>.refreshHold

/-- Steps 2 to 5 of R679: `fails` are the reports made meanwhile, the self-test's among them. True where the fence is lifted. -/
def State.restore (s : State) (d u ms : Nat) (fails : List FaultFact) : Bool × State :=
  let i := d * 256 + u
  let s := s.domainReset d u
  if fails.isEmpty then (true, s.lift d u ms)
  else
    let s := (s.setNat Attr.FenceUnit.lastTest i 2).collect fails
    (false, (s.raise 0x1404 (objPath 0x1003 i) [d, u, ((fails.head?).map FaultFact.source).getD 0]).refreshHold)

/-- What FENCE and UNFENCE refuse (R678). -/
def State.fenceRefused (s : State) (d u : Nat) : Option Status :=
  if d = 1 ∨ d = 2 ∨ d = 3 ∨ d = 20 then some .refused
  else if unitsOf d ≤ u then some .notFound
  else if s.fusedOff d u then some .fenced
  else none

/-- FENCE (R677, R678): cause 0, a command. -/
def doFence : Body := fun c s =>
  let d := octet c.payload 0
  let u := octet c.payload 1
  match s.fenceRefused d u with
  | some st => (⟨st, []⟩, s)
  | none => (⟨.ok, []⟩, s.fence d u 0)

def execFence (s : State) : Out := runOpcode 0x1001 doFence s

/-- Energize integrity leaves its safe state (R684). -/
def State.leaveSf0 (s : State) : State := if s.fcr.sf0 then ({ s with fcr := { s.fcr with sf0 := false } }).raiseSafe 0x1406 (objPath 0x1004 0) [0, 0] else s

/-- UNFENCE (R678, R679, R684): domains 13 and 16 by SAFETY only; a unit that is not fenced has its sources cleared, but domain 16 in SF0's safe state is fenced and restored. -/
def doUnfence (ms : Nat) (fails : List FaultFact) : Body := fun c s =>
  let d := octet c.payload 0
  let u := octet c.payload 1
  match s.fenceRefused d u with
  | some st => (⟨st, []⟩, s)
  | none =>
    if (d = 13 ∨ d = 16) ∧ c.role ≠ .safety then (⟨.denied, []⟩, s)
    else
      let special := d == 16 && s.fcr.sf0
      let s := if special then s.fence d u 0 else s
      let was := s.fencedUnit d u
      let s := s.clearSources d
      if !was then (⟨.ok, []⟩, s.refreshHold)
      else
        let r := s.restore d u ms fails
        if r.1 then (⟨.ok, []⟩, if d = 16 then r.2.leaveSf0 else r.2) else (⟨.refused, []⟩, r.2)

def execUnfence (ms : Nat) (fails : List FaultFact) (s : State) : Out := runOpcode 0x1002 (doUnfence ms fails) s

/-- BLOCK_RESET_DONE (R680): the steps the chip runs by itself after a BLOCK_RESET. -/
def execBlockResetDone (d u ms : Nat) (fails : List FaultFact) (s : State) : Out :=
  if s.fcr.resetting.contains (d * 256 + u) ∧ s.fencedUnit d u then .next (s.restore d u ms fails).2 else .next s

/-- Self-tests one domain (R697): fenced, tested, unfenced on a pass. -/
def State.deepTest (s : State) (d ms : Nat) (fails : List FaultFact) : State :=
  (List.range (unitsOf d)).foldl
    (fun s u => if s.fusedOff d u then s else ((s.fence d u 0).restore d u ms (fails.filter (fun f => f.source / 16 == d && f.unit == u))).2) s

/-- SELF_TEST_DEEP (R697): in PROVISION and SHADOW; `fails` are the reports that the self-tests make. -/
def doSelfTestDeep (ms : Nat) (fails : List FaultFact) : Body := fun c s =>
  let m := field c.payload 0 4
  if s.sys.mode ≠ .provision ∧ s.sys.mode ≠ .shadow then (⟨.refused, []⟩, s)
  else if m % 16 ≠ 0 ∨ 2 ^ 20 ≤ m then (⟨.badValue, []⟩, s)
  else
    let r := s.requestCmd c 11 0
    if r.1 = .admitted then
      (⟨.accepted, []⟩, ((List.range 20).filter (fun d => bit m d)).foldl (fun s d => s.deepTest d ms fails) r.2)
    else (⟨decisionStatus r.1 .accepted, []⟩, r.2)

def execSelfTestDeep (ms : Nat) (fails : List FaultFact) (s : State) : Out := runOpcode 0x1003 (doSelfTestDeep ms fails) s

/-- FAULT_INJECT (R698): the reports follow as FAULT_REPORT. -/
def doFaultInject : Body := fun c s =>
  let n := field c.payload 0 2
  let mode := octet c.payload 2
  let k := octet c.payload 3
  if s.sys.lifecycle ≠ .factory ∨ s.sys.mode ≠ .factory then (⟨.refused, []⟩, s.raise 0x140B (objPath 0x1002 n) [s.sys.lifecycle.code, s.sys.mode.code])
  else if (source n).isNone ∨ mode = 0 ∨ 3 < mode ∨ k = 0 then (⟨.badValue, []⟩, s)
  else (⟨.ok, []⟩, { s with fcr := { s.fcr with injections := s.fcr.injections ++ [(n, mode, k)], injected := true } })

def execFaultInject (s : State) : Out := runOpcode 0x1004 doFaultInject s

end Sys2Proof.Machine
end

