-- ==== Sys2Proof/Machine/Update.lean ====
section
/-! DEFINITION. The chip's own firmware: staging, activation, handover, confirmation and fallback (17_updates.md R648–R663). -/

namespace Sys2Proof.Machine

/-! ### Images (R649, R650) -/

/-- Whether octets of a range are all 0. -/
def zeroRange (b : Bytes) (off n : Nat) : Bool := (List.range n).all (fun k => octet b (off + k) == 0)

/-- The signature of an image under the slot its header names. -/
def State.signatureOk (s : State) (b : Bytes) : Bool :=
  s.slotGood (octet b 7) && Config.ecdsaVerify384 ((Assoc.find (octet b 7) s.glv.slots).getD []) (b.take 160) (slice b 160 96)

/-- The first condition of R650 an image fails as one of a kind (1 Purel image, 2 loader), by the reasons of Table 03-17; none where it is accepted. -/
def State.imageFault (s : State) (kind : Nat) (b : Bytes) : Option Nat :=
  let slot := octet b 7
  let len := field b 8 4
  let sram := field b 12 4
  if b.length < 256 ∨ field b 0 4 ≠ 0x4D495153 ∨ field b 4 2 ≠ 1 ∨ !zeroRange b 27 1 ∨ !zeroRange b 44 4 ∨ !zeroRange b 96 64 ∨ len + 256 ≠ b.length ∨ 25165568 < len ∨
      12320768 < sram ∨ len < sram then some 2
  else if octet b 6 ≠ kind ∨ !(if kind = 1 then slot == 3 || slot == 4 else slot == 2) then some 8
  else if !s.signatureOk b then some 3
  else if Config.sha384 (b.drop 256) ≠ slice b 48 48 then some 4
  else if s.sys.step < field b 22 2 then some 5
  else if !(octet b 24).testBit s.sys.order.code then some 6
  else if field b 20 2 < s.nat Attr.UpdateService.securityFloor 0 then some 7
  else none

/-- Whether an image is accepted (R650). -/
def State.imageOk (s : State) (kind : Nat) (b : Bytes) : Bool := (s.imageFault kind b).isNone

/-! ### IMAGE_STAGE (R652) -/

/-- The slot that staging writes: neither CONFIRMED nor TRIAL. -/
def State.stageSlot (s : State) : Nat := (([0, 1].find? (fun i => s.slotState i != 4 && s.slotState i != 3))).getD 0

/-- The image is complete: R650 decides; FW_STAGED, or FAILED with BAD_VALUE. A loader image waits for the next CHIP reset. -/
def State.stagedWhole (s : State) (d : Nat) (b : Bytes) : Status × State :=
  let s := { s with upd := { s.upd with stage := none } }
  if d = 3 then
    if s.imageOk 2 b then (.ok, ({ s with upd := { s.upd with loaderNext := some b } }).raise 0x0140 (objPath 0x0F10 0) [2, field b 16 4]) else (.badValue, s)
  else if s.imageOk 1 b then
    let s := { s with upd := { s.upd with images := Assoc.put d b s.upd.images } }
    let s := (s.setNat Attr.FirmwareImage.state d 2).setNat Attr.FirmwareImage.version d (field b 16 4)
    let s := (s.setNat Attr.FirmwareImage.securityVersion d (field b 20 2)).setAttr Attr.FirmwareImage.formatMasks d (.bytes (slice b 28 16))
    (.ok, (s.setNat Attr.FirmwareImage.settingsGeneration d 0).raise 0x0140 (slotPath d) [d, field b 16 4])
  else (.badValue, s.setNat Attr.FirmwareImage.state d 6)

/-- IMAGE_STAGE (R652). -/
def doImageStage : Body := fun c s =>
  let x := c.data
  let off := field x 0 4
  let total := field x 4 4
  let chunk := x.drop 16
  if !bit c.flags flagBulk ∨ x.length < 16 then (⟨.badValue, []⟩, s)
  else if s.trialSlot.isSome then (⟨.refused, []⟩, s)
  else
    let cur : Option (Nat × Bytes) :=
      if off = 0 then some (if octet chunk 6 = 2 then 3 else s.stageSlot, chunk)
      else (s.upd.stage.filter (fun y => y.2.1 == total && y.2.2.length == off)).map (fun y => (y.1, y.2.2 ++ chunk))
    match cur with
    | none => (⟨.badValue, []⟩, s)
    | some (d, b) =>
      let last := bit (octet x 8) 0
      if total < b.length ∨ 25165824 < total then (⟨.badValue, []⟩, s)
      else
        let s := { s with upd := { s.upd with stage := some (d, total, b) } }
        let s := if off = 0 ∧ d < 2 then s.setNat Attr.FirmwareImage.state d 1 else s
        if !last then (⟨.ok, []⟩, s)
        else if b.length < total then (⟨.badValue, []⟩, if d < 2 then s.setNat Attr.FirmwareImage.state d 6 else s)
        else
          let r := s.stagedWhole d b
          (⟨r.1, []⟩, r.2)

def execImageStage (s : State) : Out := runOpcode 0x0F01 doImageStage s

/-! ### IMAGE_ACTIVATE (R653) -/

/-- The versions of an image, laid out as an ADVERTISE offers them. -/
def imageVersions (b : Bytes) : Bytes := fitBytes 2 (slice b 25 2) ++ fitBytes 16 (slice b 28 16)

/-- Whether versions meet R639 with the twin partner and the federation members that advertised theirs. -/
def State.meetsPeers (s : State) (v : Bytes) : Bool :=
  let twin := !s.twinned ||
    (match (s.clink s.pairLink).peer with
     | none => true
     | some p => if s.active then mirrorCompatible v p.2 else mirrorCompatible p.2 v)
  twin && (s.activeMembers.filter (fun m => m != s.twn.self)).all (fun m =>
    let w := s.octets Attr.FederationMember.versions m
    w.length != 18 || coborCompatible v w)

/-- The formats of the store's segments. -/
def State.storeFormats (s : State) : List Nat := (s.upd.formats.filter (fun x => Assoc.has x.1 s.sto.segments)).map Prod.snd

/-- The conditions of R653 on a new image. -/
def State.versionsFit (s : State) (b : Bytes) : Bool :=
  let n := slice b 28 16
  let r := s.masks
  (match highest (maskOf r 1 true) with
   | none => true
   | some k => (maskOf n 1 false).testBit k) &&
    (maskOf n 1 true &&& maskOf r 1 false) != 0 &&
    (maskOf n 0 false).testBit (s.nat Attr.SettingsGeneration.format s.sys.settingsGen) &&
    s.storeFormats.all (fun k => (maskOf n 3 false).testBit k) && s.meetsPeers (imageVersions b)

/-- Whether the twin partner or an ACTIVE member advertises a TRIAL image. -/
def State.peerTrial (s : State) : Bool :=
  (s.twinned && (s.clink s.pairLink).trial) || (s.activeMembers.filter (fun m => m != s.twn.self)).any (fun m => (s.clink (s.memberLink m)).trial)

/-- The STAGED slot. -/
def State.stagedSlot (s : State) : Option Nat := [0, 1].find? (fun i => s.slotState i == 2)

/-- IMAGE_ACTIVATE (R653): the handover follows as HANDOVER. -/
def doImageActivate : Body := fun c s =>
  let mode := octet c.payload 0
  let w := field c.payload 4 4
  let w := if w = 0 then s.nat Attr.UpdateService.confirmWindowS 0 else w
  if mode = 0 then
    if s.sys.mode = .holdup ∨ s.trialSlot.isSome ∨ s.peerTrial ∨ s.upd.handing.isSome then (⟨.refused, []⟩, s)
    else
      match s.stagedSlot with
      | none => (⟨.refused, []⟩, s)
      | some d =>
        if !s.versionsFit (s.image d) then (⟨.versionMismatch, []⟩, s)
        else
          let r := s.requestCmd c 5 0
          if r.1 = .admitted then (⟨.accepted, []⟩, { r.2 with upd := { r.2.upd with handing := some (.activate d w c.arrival) } })
          else (⟨decisionStatus r.1 .accepted, []⟩, r.2)
  else if mode = 1 then
    if s.trialSlot.isSome ∧ s.upd.handing.isNone then (⟨.accepted, []⟩, { s with upd := { s.upd with handing := some (.fallback 3 (some c.arrival)) } })
    else (⟨.refused, []⟩, s)
  else (⟨.badValue, []⟩, s)

def execImageActivate (s : State) : Out := runOpcode 0x0F02 doImageActivate s

/-! ### The handover (R654, R655, Table 17-3) -/

/-- ADVERTISE to the partner and every member: the running image has changed. -/
def State.advertiseAll (s : State) : State := ((if s.twinned then [s.pairLink] else []) ++ s.memberLinks).eraseDups.foldl State.advertise s

/-- The activity "own firmware update" ends. -/
def State.endUpdate (s : State) : State :=
  let gone := s.fcr.admitted.filter (fun a => a.kind == 5)
  let s := { s with fcr := { s.fcr with admitted := s.fcr.admitted.filter (fun a => a.kind != 5) } }
  (gone.foldl (fun s a => s.activityEvent a 3) s).admitWaiting

/-- `HANDOVER` returns to 0: the waiting doorbells are taken in arrival order (step 6). -/
def State.handoverOver (s : State) : State :=
  ({ s with sys := { s.sys with handover := false }, upd := { s.upd with handing := none } }).takeHeld.advertiseAll

/-- The new image runs its trial (R654 step 6, R658). -/
def State.startTrial (s : State) (d w outage : Nat) : State :=
  let s := s.setNat Attr.FirmwareImage.state d 3
  let s := ({ s with sys := { s.sys with slot := d } }).newGeneration d
  let s := { s with upd := { s.upd with trialEnd := some (s.tim.d3 + sec w) } }
  s.raise 0x0141 (slotPath d) [d, s.nat Attr.FirmwareImage.version d, outage]

/-- HANDOVER (R654, R655, R661): at its start `HANDOVER` becomes 1, after the loader has verified a STAGED slot; at its end the image that took over runs. `readable` is whether the
new image reads the handover record, `outage` the outage in µs. -/
def execHandover (start readable : Bool) (outage : Nat) (s : State) : Out :=
  if s.sys.stalemate then .next s
  else
    match s.upd.handing with
    | none => .next s
    | some (.activate d w a) =>
      if start then
        if s.imageOk 1 (s.image d) then .next { s with sys := { s.sys with handover := true } }
        else
          let s := { s.setNat Attr.FirmwareImage.state d 6 with upd := { s.upd with handing := none } }
          .next (s.completeCmd a .badValue []).endUpdate
      else if !s.sys.handover then .next s
      else
        let s := if readable then s.startTrial d w outage else s.fallBack d 4
        .next (s.handoverOver.completeCmd a (if readable then .ok else .internal) []).endUpdate
    | some (.fallback r a) =>
      if start then .next { s with sys := { s.sys with handover := true } }
      else if !s.sys.handover then .next s
      else
        let s := match s.trialSlot with
          | some t => s.fallBack t r
          | none => s
        let s := s.handoverOver
        match a with
        | some a => .next (s.completeCmd a .ok [])
        | none => .next s

/-- A fallback of the running trial by a handover. -/
def State.beginFallback (s : State) (r : Nat) : State :=
  if s.trialSlot.isSome ∧ s.upd.handing.isNone then { s with upd := { s.upd with handing := some (.fallback r none) } } else s

/-- SETTINGS_UNREADABLE (R660, R661). -/
def execSettingsUnreadable (s : State) : Out := .next (s.beginFallback 1)

/-- CONFIRM_TIMEOUT (R661). -/
def execConfirmTimeout (s : State) : Out := .next (s.beginFallback 2)

/-! ### IMAGE_CONFIRM (R660) -/

/-- IMAGE_CONFIRM: `checked` is whether the image has completed its start-up checks of the settings. -/
def doImageConfirm (checked : Bool) : Body := fun c s =>
  let d := octet c.payload 0
  if 1 < d ∨ s.slotState d ≠ 3 ∨ s.genState (s.nat Attr.FirmwareImage.settingsGeneration d) ≠ 2 ∨ !checked then (⟨.refused, []⟩, s)
  else
    let s := if s.slotState (1 - d) = 4 then s.setNat Attr.FirmwareImage.state (1 - d) 5 else s
    let s := s.setNat Attr.FirmwareImage.state d 4
    let f := max (s.nat Attr.UpdateService.securityFloor 0) (s.nat Attr.FirmwareImage.securityVersion d)
    let s := s.setNat Attr.UpdateService.securityFloor 0 f
    let s := { s with upd := { s.upd with trialEnd := none } }
    (⟨.ok, []⟩, (s.raise 0x0142 (slotPath d) [d, s.nat Attr.FirmwareImage.version d, f]).advertiseAll)

def execImageConfirm (checked : Bool) (s : State) : Out := runOpcode 0x0F03 (doImageConfirm checked) s

end Sys2Proof.Machine
end

