-- ==== Sys2Proof/Machine/Campaign.lean ====
section
/-! DEFINITION. Endpoint campaigns (17_updates.md R664–R666; 11_lighting.md R460). -/

namespace Sys2Proof.Machine

/-- A campaign; the instance of a target (17_updates.md); the path of a campaign. -/
def State.camp (s : State) (c : Nat) : Campaign := (Assoc.find c s.upd.campaigns).getD {}
def targetInst (c h : Nat) : Nat := c * 2 ^ 21 + h
def campPath (c : Nat) : Nat := objPath 0x0F20 c

/-- Writes a campaign. -/
def State.setCamp (s : State) (c : Nat) (x : Campaign) : State := { s with upd := { s.upd with campaigns := Assoc.put c x s.upd.campaigns } }

/-- Whether a campaign is RUNNING. -/
def State.campRuns (s : State) (c : Nat) : Bool := s.nat Attr.EndpointCampaign.state c == 2

/-- The state of a target (Table 17-6). -/
def State.targetState (s : State) (c h : Nat) : Nat := s.nat Attr.CampaignTarget.state (targetInst c h)

/-- A target of a campaign. -/
def State.target (s : State) (c h : Nat) : Option Target := Assoc.find h (s.camp c).targets

/-- Writes a target: its state and `blocks_held`, which travel to the twin partner as settings (R666). -/
def State.setTarget (s : State) (c h st : Nat) (t : Target) : State :=
  let i := targetInst c h
  let s := s.setCamp c { s.camp c with targets := Assoc.put h t (s.camp c).targets }
  let s := (s.setNat Attr.CampaignTarget.state i st).setNat Attr.CampaignTarget.blocksHeld i t.held.length
  (s.postSetting (mkPath 0x0F21 i 1)).postSetting (mkPath 0x0F21 i 2)

/-- Blocks of an image of `n` octets. -/
def blockCount (n : Nat) : Nat := (n + 511) / 512

/-- GROUP_SET to an endpoint of a line cell: a lantern's own groups and those of its campaigns (R665). -/
def State.sendGroupSet (s : State) (h : Nat) : State :=
  match s.primary h with
  | none => s
  | some r =>
    let own := if s.nat Attr.EndpointProfile.role h = 1 then s.lanternGroups h else []
    let gs := own ++ s.upd.campaigns.flatMap (fun x =>
      if Assoc.has h x.2.targets then (x.2.groups.filter (fun g => g.1 == r.cell)).map Prod.snd else [])
    if s.isLine r.cell then s.sendMgmt r.cell r.short 4 (beBytes 2 gs.length ++ (gs.map (beBytes 2)).flatten) (s.linkTo r h) .none else s

/-- When every target is DONE, FAILED or CANCELLED, the campaign ends (R666): CAMPAIGN_DONE, COMPLETE, and its groups are given back. -/
def State.campaignCheck (s : State) (c : Nat) : State :=
  let x := s.camp c
  let n := fun k => x.targets.countP (fun t => s.targetState c t.1 == k)
  if s.campRuns c && x.targets.all (fun t => decide (5 ≤ s.targetState c t.1)) then
    let s := (s.setNat Attr.EndpointCampaign.state c 3).setCamp c { x with groups := [], sent := [], repairing := [] }
    let s := (x.targets.filter (fun t => !x.groups.isEmpty && (s.requestCell t.1).any (fun k => x.groups.any (fun g => g.1 == k)))).foldl (fun s t => s.sendGroupSet t.1) s
    (s.raise 0x0147 (campPath c) [c, n 5, n 6]).completeCmd x.arrival .ok []
  else s

/-- A target fails: CAMPAIGN_TARGET_FAILED with 1 second mismatch, 2 old digest running, 3 no progress. -/
def State.failTarget (s : State) (c h cause : Nat) (t : Target) : State :=
  ((s.setTarget c h 6 t).raise 0x0146 (campPath c) [c, h, cause]).campaignCheck c

/-! ### Activation (R666, R460) -/

/-- Whether a lantern may restart now: at most `campaign_restart_pct` of its segment's lanterns within 15 min, and always one. -/
def State.mayRestart (s : State) (h : Nat) : Bool :=
  if s.nat Attr.EndpointProfile.role h ≠ 1 then true
  else
    let ls := s.segLanterns (s.nat Attr.Lantern.segment h)
    let n := s.upd.restarts.countP (fun x => ls.contains x.1 && decide (s.tim.d3 < x.2 + sec 900))
    decide (n < max 1 (ls.length * s.nat Attr.LightingService.campaignRestartPct 0 / 100))

/-- Sends the activation to a VERIFIED target. -/
def State.activateTarget (s : State) (c h : Nat) : State :=
  match s.target c h with
  | none => s
  | some t =>
    if s.targetState c h ≠ 3 ∨ !s.mayRestart h ∨ s.sys.mode = .shadow then s
    else
      let n := s.nextSerial h
      let keep := s.upd.restarts.filter (fun x => decide (s.tim.d3 < x.2 + sec 900))
      let s := if s.nat Attr.EndpointProfile.role h = 1 then { n.2 with upd := { n.2.upd with restarts := (h, s.tim.d3) :: keep } } else n.2
      let s := s.request h 0 0x0F04 n.1 none (Config.activateApdu (s.camp c).digest) none
      s.setTarget c h 4 { t with serial := n.1, progressAt := s.tim.d3 }

/-- Whether a campaign's activation is due: at once, or from its interval. -/
def State.activationDue (s : State) (c : Nat) : Bool := ((s.camp c).activateAt).all (fun i => decide (i ≤ s.nowInterval))

/-- CAMPAIGN_ACTIVATION_DUE (R666): the activation interval has come, or lanterns that had to wait may restart. -/
def execCampaignActivationDue (c : Nat) (s : State) : Out :=
  if s.campRuns c && s.activationDue c then .next ((s.camp c).targets.foldl (fun s t => s.activateTarget c t.1) s) else .next s

/-! ### Loading and starting (R664) -/

/-- IMAGE_CHUNK: an offset that is a multiple of 512, then the octets; none while the campaign runs. -/
def doImageChunk : Body := fun c s =>
  let k := pathInst c.path
  let b := c.data
  let off := field b 0 4
  let d := b.drop 4
  if !bit c.flags flagBulk ∨ b.length < 4 ∨ off % 512 ≠ 0 ∨ 4194304 < off + d.length then (⟨.badValue, []⟩, s)
  else if s.campRuns k then (⟨.refused, []⟩, s)
  else
    let x := s.camp k
    (⟨.ok, []⟩, (s.setCamp k { x with image := writeAt x.image off d }).setNat Attr.EndpointCampaign.state k 1)

def execImageChunk (s : State) : Out := runMethod 0x0F20 0x40 doImageChunk s

/-- Whether a role may start a campaign for endpoints of a role (R648). -/
def campaignRole (r : Role) (target : Nat) : Bool :=
  r == .operator || (r == .field && (target == 0 || target == 2)) || (r == .lighting && target == 1)

/-- Whether an endpoint is homed on this chip. -/
def State.homed (s : State) (h : Nat) : Bool :=
  s.endpoint h && (let p := s.nat Attr.ServicePosture.posture 0
    (p != 2 && p != 3) || s.nat Attr.EndpointPlacement.home h == s.twn.self)

/-- The status of one target of a start. -/
def State.targetStatus (s : State) (role h : Nat) : Status :=
  if !s.homed h then .notFound
  else if s.nat Attr.EndpointProfile.role h ≠ role ∨ s.upd.campaigns.any (fun x => s.campRuns x.1 && Assoc.has h x.2.targets) then .badValue
  else .ok

/-- The campaign takes one target: PENDING. -/
def State.addTarget (s : State) (c h : Nat) : State :=
  if (s.target c h).isSome then s else (s.create 0x0F21 (targetInst c h)).setTarget c h 0 { progressAt := s.tim.d3 }

/-- Takes a multicast group in a line cell for a campaign (R665). -/
def State.takeGroup (s : State) (c cell : Nat) : State :=
  let x := s.camp c
  if !s.isLine cell ∨ x.groups.any (fun g => g.1 == cell) then s
  else
    match s.freeGroup cell with
    | none => s
    | some g => s.setCamp c { x with groups := x.groups ++ [(cell, g)] }

/-- The start of a checked request: the targets it takes, their groups, CAMPAIGN_STARTED. -/
def State.startCampaign (s : State) (k : Nat) (b : Bytes) (arrival : Nat) : Bytes × State :=
  let n := field b 48 4
  let hs := (List.range n).map (fun j => field b (52 + 4 * j) 4)
  let old := (s.camp k).targets
  let s := old.foldl (fun s t => s.destroy 0x0F21 (targetInst k t.1)) s
  let s := s.setCamp k { image := (s.camp k).image, digest := slice b 8 32, role := octet b 2
                         activateAt := if bit (octet b 3) 0 then some (field b 40 4) else none
                         repairs := field b 44 2, arrival := arrival }
  let sts := hs.map (s.targetStatus (octet b 2))
  let ok := ((hs.zip sts).filter (fun x => x.2 == .ok)).map Prod.fst
  let s := ok.foldl (fun s h => s.addTarget k h) s
  let s := ((ok.filterMap s.requestCell).eraseDups).foldl (fun s c => s.takeGroup k c) s
  let s := ok.foldl (fun s h => if (s.requestCell h).any s.isLine then s.sendGroupSet h else s) s
  let s := (s.setNat Attr.EndpointCampaign.state k 2).raise 0x0145 (campPath k) [k, ok.length]
  (sts.map (fun st => BitVec.ofNat 8 st.code), s)

/-- Cancels a campaign: its targets not yet activated become CANCELLED. -/
def State.cancelCampaign (s : State) (k : Nat) : State :=
  ((s.camp k).targets.foldl (fun s t => if s.targetState k t.1 < 4 then s.setTarget k t.1 7 t.2 else s) s).campaignCheck k

/-- CAMPAIGN_START (R648, R664, Table 17-5): `free` is the variable DRAM free, in octets. -/
def doCampaignStart (free : Nat) : Body := fun c s =>
  let b := c.data
  let k := octet b 0
  let act := octet b 1
  let len := field b 4 4
  let n := field b 48 4
  let img := (s.camp k).image
  if 7 < k ∨ (act ≠ 1 ∧ act ≠ 2) then (⟨.badValue, []⟩, s)
  else if !campaignRole c.role (if act = 1 then octet b 2 else (s.camp k).role) then (⟨.denied, []⟩, s)
  else if act = 2 then if s.campRuns k then (⟨.ok, []⟩, s.cancelCampaign k) else (⟨.refused, []⟩, s)
  else if 2 < octet b 2 ∨ len = 0 ∨ 4194304 < len ∨ field b 44 2 = 0 ∨ 64 < field b 44 2 ∨ n = 0 ∨ 65536 < n ∨ b.length < 52 + 4 * n ∨
      (1000 < n ∧ !bit c.flags flagBulk) then (⟨.badValue, []⟩, s)
  else if img.length ≠ len ∨ Config.sha256 img ≠ slice b 8 32 then (⟨.badValue, []⟩, s)
  else if (List.range 8).all s.campRuns ∨ free < 1024 * n then (⟨.tableFull, []⟩, s)
  else if s.campRuns k then (⟨.refused, []⟩, s)
  else
    let r := s.requestCmd c 6 0
    if r.1 = .admitted then
      let x := r.2.startCampaign k b c.arrival
      let s := x.2
      let gone := s.fcr.admitted.filter (fun a => a.kind == 6)
      let s := { s with fcr := { s.fcr with admitted := s.fcr.admitted.filter (fun a => a.kind != 6) } }
      let s := gone.foldl (fun s a => s.activityEvent a 3) s
      (⟨if (s.camp k).targets.isEmpty then .ok else .accepted, x.1⟩, if (s.camp k).targets.isEmpty then s.campaignCheck k else s)
    else (⟨decisionStatus r.1 .accepted, []⟩, r.2)

def execCampaignStart (free : Nat) (s : State) : Out := runOpcode 0x0F04 (doCampaignStart free) s

/-! ### Blocks (R665) -/

/-- Whether a campaign's blocks may go to an endpoint now (R460). -/
def State.blockTime (s : State) (h : Nat) : Bool :=
  s.nat Attr.EndpointProfile.role h != 1 || s.flag Attr.LightingService.campaignNight 0 ||
    s.daytime (s.nat Attr.LightingSegment.schedule (s.nat Attr.Lantern.segment h)) s.serviceSec

/-- The targets of a campaign in a cell that still need blocks. -/
def State.wanting (s : State) (c cell : Nat) : List (Nat × Target) :=
  (s.camp c).targets.filter (fun t => decide (s.targetState c t.1 < 2) && s.requestCell t.1 == some cell)

/-- A target is being served. -/
def State.served (s : State) (c : Nat) (t : Nat × Target) : State := if s.targetState c t.1 = 0 then s.setTarget c t.1 1 t.2 else s

/-- Sends a block by multicast into a line cell, once. -/
def State.multicastBlock (s : State) (c cell b : Nat) : State :=
  let s := s.takeGroup c cell
  let x := s.camp c
  let ts := s.wanting c cell
  match Assoc.find cell x.groups with
  | none => s
  | some g =>
    if ts.isEmpty ∨ x.sent.contains (cell, b) ∨ !ts.all (fun t => s.blockTime t.1) ∨ s.gloveShut then s
    else
      let s := s.setCamp c { x with sent := x.sent ++ [(cell, b)] }
      let s := ts.foldl (fun s t => s.served c t) s
      (s.enqueue (s.nat Attr.LineCell.port cell) 0
        { kind := if s.isRemote cell then 5 else 1, cell := cell, dst16 := 0xFFFF, group := true
          body := Config.protectCell cell (s.beaconGen cell) (Config.blockApdu g b (slice x.image (512 * b) 512)), producer := .none }).2

/-- Sends a block to one target: on radio, or to repair. -/
def State.unicastBlock (s : State) (c h b : Nat) : State :=
  let x := s.camp c
  match s.target c h, s.requestCell h with
  | some t, some cell =>
    let out := x.repairing.countP (fun r => s.requestCell r.1 == some cell)
    let again := x.repairing.contains (h, b)
    if 2 ≤ s.targetState c h ∨ t.held.contains b ∨ (s.isLine cell ∧ !x.sent.contains (cell, b)) ∨ !s.blockTime h ∨ (x.repairs ≤ out ∧ !again) then s
    else
      let s := s.setCamp c { x with repairing := if again then x.repairing else x.repairing ++ [(h, b)] }
      (s.served c (h, t)).sendApdu h 0 (Config.blockApdu 0 b (slice x.image (512 * b) 512)) (.campaign c h b)
  | _, _ => s

/-- CAMPAIGN_BLOCK (R665): block `b` of a campaign goes out, by multicast in a line cell or by unicast to a target. -/
def execCampaignBlock (c b cell : Nat) (to' : Option Nat) (s : State) : Out :=
  if !s.campRuns c ∨ s.sys.mode = .shadow ∨ blockCount (s.camp c).image.length ≤ b then .next s
  else
    match to' with
    | none => .next (s.multicastBlock c cell b)
    | some h => .next (s.unicastBlock c h b)

/-! ### Reports (R666) -/

/-- Blocks a target reports as held. -/
def State.heldBlocks (s : State) (c h : Nat) (t : Target) (bs : List Nat) : State :=
  let n := blockCount (s.camp c).image.length
  let held := (t.held ++ bs.filter (fun b => decide (b < n))).eraseDups
  let s := s.setCamp c { s.camp c with repairing := (s.camp c).repairing.filter (fun r => r.1 != h) }
  s.setTarget c h (if n ≤ held.length then 2 else 1) { t with held := held, progressAt := if t.held.length < held.length then s.tim.d3 else t.progressAt }

/-- The digest a COMPLETE target reports. -/
def State.digestReport (s : State) (c h : Nat) (t : Target) (d : Bytes) : State :=
  if d = (s.camp c).digest then
    let s := s.setTarget c h 3 { t with progressAt := s.tim.d3 }
    if s.activationDue c then s.activateTarget c h else s
  else if t.mismatches = 0 then s.setTarget c h 1 { t with held := [], mismatches := 1, progressAt := s.tim.d3 }
  else s.failTarget c h 1 { t with mismatches := 2 }

/-- The image an ACTIVATED target reports as running; a lantern that restarted is PENDING and receives R446 again (R460). -/
def State.runningReport (s : State) (c h : Nat) (t : Target) (d : Bytes) : State :=
  let s := if s.nat Attr.EndpointProfile.role h = 1 then s.lanternAdmitted h else s
  if d = (s.camp c).digest then (s.setTarget c h 5 { t with progressAt := s.tim.d3 }).campaignCheck c else s.failTarget c h 2 t

/-- CAMPAIGN_TARGET_REPORT (R666). -/
def execCampaignTargetReport (c h : Nat) (r : TargetReport) (s : State) : Out :=
  match s.target c h with
  | none => .next s
  | some t =>
    let st := s.targetState c h
    if !s.campRuns c then .next s
    else
      match r with
      | .held bs => .next (if st < 2 then s.heldBlocks c h t bs else s)
      | .digest d => .next (if st = 2 then s.digestReport c h t d else s)
      | .running d => .next (if st = 4 then s.runningReport c h t d else s)

/-- CAMPAIGN_NO_PROGRESS (R666): 7 days have passed without progress of a target. -/
def execCampaignNoProgress (c h : Nat) (s : State) : Out :=
  match s.target c h with
  | none => .next s
  | some t => if s.campRuns c ∧ s.targetState c h < 5 then .next (s.failTarget c h 3 t) else .next s

end Sys2Proof.Machine
end

