-- ==== Sys2Proof/Machine/Reset.lean ====
section
/-! DEFINITION. Resets of scope CHIP and PUREL and of the backup domain (03_modes_and_startup.md R91–R94, R110, R120; 15_time_and_rtc.md R595). -/

namespace Sys2Proof.Machine

/-! ### What a CHIP reset leaves (R92) -/

/-- Classes whose read-only attributes are run-time state of engines. -/
def volatileClasses : List Nat := [0x0201, 0x0202, 0x0220, 0x0301, 0x0510, 0x0A01, 0x0A02, 0x0A03, 0x0A10, 0x0D01, 0x0D02, 0x0D10, 0x1002, 0x1003, 0x1101]

/-- Other read-only attributes that are run-time state. -/
def volatileAttrs : List (Nat × Nat) :=
  [Attr.LocatorTable.learnDropped, Attr.LocatorTable.aliasMisses, Attr.LocatorTable.secondaryHits, Attr.LocatorTable.repairs, Attr.LineCell.beaconState,
   Attr.LineCell.beaconsMissed, Attr.LineCell.beaconSeq, Attr.RadioPan.beaconState, Attr.RadioPan.beaconsMissed, Attr.TwinPair.pairState, Attr.TwinPair.health,
   Attr.TwinPair.fit, Attr.TwinPair.role, Attr.ChessLedger.usedUs, Attr.ChessLedger.beaconUsedUs, Attr.ChessLedger.buckets, Attr.ChessLedger.refusals,
   Attr.GloveboxService.testRoots, Attr.RoleCredential.lockedUntil, Attr.SafetyFunction.detections]

/-- Whether an attribute value outlives a CHIP reset: settings, and what boot steps 6 and 8 restore from flash and store (log 42). -/
def outlives (p : Nat) : Bool :=
  let a := (pathCls p, pathAttr p)
  isSetting p || (a != Attr.FaultSource.latched && !volatileAttrs.contains a && (!volatileClasses.contains a.1 || a == Attr.LineLink.streams))

/-- The backup domain's and the fuses' part of the chip-level state, with the cause added to RESET_CAUSE. -/
def Sys.afterReset (y : Sys) (cause : BitVec 11) : Sys :=
  { order := y.order, eui := y.eui, step := y.step, lifecycle := y.lifecycle, tamperLatched := y.tamperLatched, causeValid := y.causeValid, causeSource := y.causeSource
    resetCause := y.resetCause ||| cause ||| (if y.stalemate then BitVec.ofNat 11 256 else 0), pfi := y.pfi, postureWritten := y.postureWritten
    keysImported := y.keysImported }

/-- Frames of the commit path whose journal entries were programmed are replayed at the mount: records and marks are kept, nothing is acknowledged (R20, R114, R507). -/
def State.replay (s : State) : State :=
  let fs := s.col.flights.filter Flight.journal
  (fs.foldl (fun s f => ({ s with mbx := { s.mbx with awaiting := [] } }).commitFlight { f with ack := none, done := none }) s)

/-- COL after a CHIP reset: the endpoints' state records. -/
def Collect.afterReset (c : Collect) : Collect :=
  { eps := c.eps.map (fun (x : Nat × Endpoint) => (x.1, { x.2 with pendingCounters := [], restorePoll := none, notices := 0, heardAt := 0 })), nextFlight := c.nextFlight }

/-- ELT after a CHIP reset: the table and its shadow (boot step 8). -/
def Locator.afterReset (e : Locator) : Locator :=
  { buckets := e.buckets, overflow := e.overflow, shadow := e.shadow, shadowOvf := e.shadowOvf, metrics := e.metrics }

/-- LPE and LMA after a CHIP reset: what admission agreed. -/
def Line.afterReset (l : Line) : Line :=
  { links := l.links.map (fun (x : Nat × Link) => (x.1, { peerSpan := x.2.peerSpan, zco := x.2.zco, fullDuplex := x.2.fullDuplex })), addrs := l.addrs
    released := l.released.map (fun x => (x.1, 0)), noZco := l.noZco }

/-- GLV after a CHIP reset: slots, blobs, the retention bank, the tamper record, the policy's digest. -/
def Glovebox.afterReset (g : Glovebox) : Glovebox :=
  { prevLast := g.prevLast, prevSince := g.prevSince.map (fun x => (x.1, 0)), beaconGen := g.beaconGen, slots := g.slots, blown := g.blown, bank := g.bank
    keys := g.keys, erased := g.erased, firstTrip := g.firstTrip, hatSeeds := g.hatSeeds, attests := g.attests, policyHash := g.policyHash }

/-- TWN after a CHIP reset: membership, the journal's position with the partner, replicas. -/
def Twin.afterReset (t : Twin) : Twin :=
  { self := t.self, mirrorSeq := t.mirrorSeq, heldSeq := t.heldSeq, soloMarks := t.soloMarks ++ t.outbox.map Prod.fst ++ t.posted.map Prod.fst, replicas := t.replicas
    moved := t.moved }

/-- The recorder after a CHIP reset: its tail, mirror and sequence. -/
def Recorder.afterReset (r : Recorder) : Recorder :=
  { ring := r.tail, tail := r.tail, mirror := r.mirror, head := r.head, loaderSeq := r.loaderSeq, mirrored := r.mirrored }

/-- The update functions after a CHIP reset: a staged loader takes effect (R650). -/
def Update.afterReset (u : Update) : Update :=
  { images := (match u.loaderNext with | some b => Assoc.put 3 b u.images | none => u.images).filter (fun x => x.1 != 2)
    books := u.books, formats := u.formats, campaigns := u.campaigns }

/-- A CHIP reset (R91–R93, R110, R741, R743): transmit enables low, then the claim released; everything is reset but what survives. -/
def State.chipReset (s : State) (cause : BitVec 11) : State :=
  let s := s.replay.keepBook
  let wasUp := !s.unset && (s.sys.mode == .service || s.sys.mode == .island || s.sys.mode == .holdup)
  { State.reset with
    sys := s.sys.afterReset cause
    obj := { vals := s.obj.vals.filter (fun e => outlives e.1), vers := s.obj.vers, live := s.obj.live }
    mbx := { arrival := s.mbx.arrival }
    fcr := { islandAllowed := s.fcr.islandAllowed, rateChip := s.fcr.rateChip, rateCell := s.fcr.rateCell, spacing := s.fcr.spacing, deny := s.fcr.deny }
    recd := s.recd.afterReset
    tim := { rtc := { s.tim.rtc with pcie := none, purel := none, purelIrqs := 0, hostIrqs := 0, fencedAt := none } }
    lin := s.lin.afterReset
    rad := { persisted := s.rad.persisted, current := s.rad.current }
    elt := s.elt.afterReset
    col := s.col.afterReset
    bil := { s.bil with downSince := s.bil.downSince.or (if wasUp then some s.serviceSec else none) }
    bal := s.bal
    lux := { overrides := s.lux.overrides, levels := s.lux.levels, isolated := s.lux.isolated }
    sto := { s.sto with gather := s.sto.page ++ s.sto.gather, page := [], collecting := false, boost := none }
    glv := s.glv.afterReset
    twn := s.twn.afterReset
    upd := s.upd.afterReset
    dbg := { challenge := s.freeCtr, unlocks := s.dbg.unlocks }
    freeCtr := s.freeCtr + 1
    pending := s.pending }

/-- A bit of RESET_CAUSE. -/
def causeBit (n : Nat) : BitVec 11 := BitVec.ofNat 11 (2 ^ n)

/-! ### Rows -/

/-- RESET_CTRL_PUREL (R92, R94): a keyed write with scope PUREL. -/
def execResetCtrlPurel (key : Nat) (s : State) : Out := if key = 0xA5 then .next (s.purelReset 4) else .next s

/-- RESET_CTRL_CHIP (R120): a keyed write with scope CHIP: R109 on the transmit enables and the claim, then the reset. -/
def execResetCtrlChip (key : Nat) (s : State) : Out := if key = 0xA5 then .next (s.transmitOff.chipReset (causeBit 4)) else .next s

/-- RESET_N (R91). -/
def execResetN (s : State) : Out := .next (s.chipReset (causeBit 1))

/-- POWER_ON_RESET (R91). -/
def execPowerOnReset (s : State) : Out := .next (s.chipReset (causeBit 0))

/-- SUPPLY_MONITOR_RESET (R90, R91, R114): a rail is below its reset level. -/
def execSupplyMonitorReset (r : Rail) (s : State) : Out :=
  .next (s.chipReset (causeBit (match r with
    | .io33 => 2
    | .core => 3)))

/-- STALEMATE_TIMER (R699): `stalemate_reset_s` has elapsed in STALEMATE. -/
def execStalemateTimer (s : State) : Out :=
  if s.sys.stalemate ∧ s.nat Attr.FaultService.stalemateResetS 0 ≠ 0 then .next (s.chipReset (causeBit 10)) else .next s

/-- BACKUP_DOMAIN_RESET (R92, R595): the backup supply has fallen below 1.6 V. -/
def execBackupDomainReset (s : State) : Out :=
  let s := [0, 1, 2, 3].foldl (fun (s : State) n => (s.setFlag Attr.RtcAlarm.enable n false).setNat Attr.RtcAlarm.lastFire n 0) s
  let s := (s.setNat Attr.GloveboxService.tripCount 0 0).setFlag Attr.GloveboxService.otpLocked 0 false
  let s := (s.setAttr Attr.RealTimeClock.tcompCurve 0 (dfltVal Attr.RealTimeClock.tcompCurve)).setNat Attr.RealTimeClock.agingOffset 0 0
  .next { s with
    sys := { s.sys with resetCause := causeBit 0, causeValid := false, causeSource := 0, tamperLatched := false }
    tim := { s.tim with rtc := {} }
    recd := { s.recd with tail := [] }
    glv := { s.glv with bank := none, erased := false, firstTrip := none, hatSeeds := [] } }

end Sys2Proof.Machine
end

