-- ==== Sys2Proof/Machine/Power.lean ====
section
/-! DEFINITION. Mode requests, reachability, supply dips and hold-up (03_modes_and_startup.md R102–R117, R751, R752). -/

namespace Sys2Proof.Machine

/-! ### MODE_REQUEST and ISLAND (R102, R104, R105, R107) -/

/-- Leaves to PROVISION: field transmit ends, the claim is released. -/
def State.toProvision (s : State) : State :=
  let s := s.transmitOff.setMode .provision 1
  if s.twinned then s.setNat Attr.TwinPair.role 0 0 else s

/-- MODE_REQUEST (R105, R107, Table 03-8). A pair strapped alike never leaves PROVISION (R604). -/
def doModeRequest : Body := fun c s =>
  let m := octet c.payload 0
  if c.role ≠ .operator ∧ c.role ≠ .safety then (⟨.refused, []⟩, s)
  else if m = 2 ∧ s.sys.mode = .provision ∧ s.sys.lifecycle = .field ∧ s.provisioned ∧ !(s.twinned && s.twn.sideClash) then (⟨.ok, []⟩, s.enterService 1)
  else if m = 1 ∧ (s.sys.mode = .service ∨ s.sys.mode = .island ∨ s.sys.mode = .shadow) then (⟨.ok, []⟩, s.toProvision)
  else (⟨.refused, []⟩, s)

def execModeRequest (s : State) : Out := runOpcode 0x0101 doModeRequest s

/-- The later of the entry into SERVICE and the last instant at which the head end or the federation was reachable, 60 s after it was last heard (R104). -/
def State.lastReach (s : State) : Nat :=
  max s.sys.serviceAt (max ((s.sys.headEndAt.map (· + sec 60)).getD 0) ((s.sys.federationAt.map (· + sec 60)).getD 0))

/-- ISLAND_ENTRY (R104): both have been unreachable for more than 60 s. -/
def execIslandEntry (s : State) : Out := if s.sys.mode = .service ∧ s.lastReach + sec 60 < s.tim.d3 then .next (s.setMode .island 2) else .next s

/-- The head end or the federation is reachable (R104). -/
def State.reachable (s : State) : Bool := s.sys.headEndAt.any (fun t => decide (s.tim.d3 ≤ t + sec 60)) || s.sys.federationAt.any (fun t => decide (s.tim.d3 ≤ t + sec 60))

/-- ISLAND_EXIT (R102): one of them has been reachable for 10 s without a break. -/
def execIslandExit (s : State) : Out := if s.sys.mode = .island ∧ s.reachable then .next (s.setMode .service 2) else .next s

/-! ### Supply dips (R115–R117) -/

/-- STO programs the journal pages it holds. -/
def State.flushJournal (s : State) (ws : List MediaWrite) : State :=
  ws.foldl (fun s w => (s.programJournal w).confirmJournal) s.confirmJournal

/-- POWER_WARNING (R115): rail and lowest voltage in mV; the journals are flushed, new erases suspended. -/
def execPowerWarning (r : Rail) (mv : Nat) (ws : List MediaWrite) (s : State) : Out :=
  let s := { s with
    sys := { s.sys with
      pwrWarn := true, holdupPrep := true, eraseHold := true
      coreWarn := s.sys.coreWarn || r == Rail.core, io33Warn := s.sys.io33Warn || r == Rail.io33 } }
  .next ((s.raise 0x0102 (objPath 0x0102 0) [if r = Rail.core then 1 else 0, mv]).flushJournal ws)

/-- DIP_RECOVERED (R116): the rail has stayed above its recover level for 10 ms. -/
def execDipRecovered (r : Rail) (s : State) : Out :=
  let y := { s.sys with
    coreWarn := s.sys.coreWarn && r != Rail.core, io33Warn := s.sys.io33Warn && r != Rail.io33, dips := min (s.sys.dips + 1) 65535 }
  if (if r = Rail.core then s.sys.coreWarn else s.sys.io33Warn) then
    let still := y.coreWarn || y.io33Warn
    .next { s with sys := { y with holdupPrep := still, eraseHold := still || y.pfi } }
  else .next s

/-! ### Hold-up (R106, R111, R112, R751, R752, Table 03-9) -/

/-- Frames not yet validated are discarded, unacknowledged (Table 03-9 step 5): their counters are no longer pending. -/
def State.discardUnvalidated (s : State) : State :=
  let kept := fun (h : Nat) => (s.col.flights.filterMap Flight.mark).filterMap (fun m => if m.1 = h then some m.2 else none)
  let s := s.setQueue (s.nat Attr.CollectionService.firmwareQueue 0) {}
  { s with
    col := { s.col with
      heldFrames := []
      eps := s.col.eps.map (fun (x : Nat × Endpoint) => (x.1, { x.2 with pendingCounters := x.2.pendingCounters.filter (kept x.1).contains })) }
    elt := { s.elt with heldLookup := none, queue := s.elt.queue.map (fun q => { q with frame := none }) }
    lin := { s.lin with ports := s.lin.ports.map (fun (x : Nat × Port) => (x.1, { x.2 with partials := [] })) } }

/-- HOLDUP is entered (steps 2 to 5): the cut is logged, erases suspended, transmit and claim end, MEA stops, the arbiter is flushed. -/
def State.enterHoldup (s : State) : State :=
  let s := s.logOutage
  let s := (s.setMode .holdup 4).transmitOff
  let s := { s with sys := { s.sys with eraseHold := true, holdupStep := 5, returning := false } }
  ((s.endConditions 1).meaStopped.flushArbiter).discardUnvalidated

/-- PFI_ASSERT (R100, R106, R111, R751, R752): in FACTORY and in STALEMATE recorded and ignored; `ws` are the page writes of the journal pages held in STALEMATE. -/
def execPfiAssert (ws : List MediaWrite) (s : State) : Out :=
  let s := { s with sys := { s.sys with pfi := true } }
  if s.sys.stalemate then
    let s := { s with sys := { s.sys with eraseHold := true } }
    .next ((s.raise 0x0105 (objPath 0x0102 0) [s.sys.mode.code]).flushJournal ws)
  else
    match s.sys.mode with
    | .factory => .next (s.raise 0x0105 (objPath 0x0102 0) [s.sys.mode.code])
    | .booting => .next { s with sys := { s.sys with eraseHold := true } }
    | .holdup => .next { s with sys := { s.sys with returning := false } }
    | _ => .next s.enterHoldup

/-- Ledgers are written to NAND (R245). -/
def State.persistLedgers (s : State) : State := (s.obj.vals.filter (fun e => pathCls e.1 == 0x0303 && pathAttr e.1 == Attr.ChessLedger.buckets.2)).foldl (fun s e => s.persistLedger (pathInst e.1)) s

/-- HOLDUP_DONE (Table 03-9 steps 6 to 8, R384, R505): boundaries, journal (`ws` its page writes), checkpoint (`cp`), recorder mirror. A release that has not lasted 100 ms
counts as one after it (R752). -/
def execHoldupDone (ws : List MediaWrite) (cp : MediaWrite) (s : State) : Out :=
  if s.sys.mode ≠ .holdup ∨ s.sys.holdupDone ∨ s.sys.returning ∨ s.sys.stalemate then .next s
  else
    let s := ((s.runBoundaries 0).flushJournal ws).persistLedgers
    let s := (s.checkpoint cp).mirrorRecords
    let s := { s with
      sys := { s.sys with holdupDone := true, holdupStep := 8 }
      bil := { s.bil with downSince := s.bil.downSince.or (if s.unset then none else some s.serviceSec) } }
    if s.sys.pfi then .next s else .next (s.chipReset (causeBit 5))

/-- PFI_RELEASE (R100, R751, R752): after HOLDUP_DONE the CHIP reset of Table 03-3 follows. -/
def execPfiRelease (s : State) : Out :=
  let s := { s with sys := { s.sys with pfi := false } }
  if s.sys.stalemate then .next s
  else if s.sys.mode = .holdup then if s.sys.holdupDone then .next (s.chipReset (causeBit 5)) else .next s
  else .next { s with sys := { s.sys with eraseHold := s.sys.holdupPrep } }

/-- The previous mode resumes (R752): field transmit with its claim, MEA, and the internal requests of R696. -/
def State.resumeMode (s : State) : State :=
  let s := s.setMode s.sys.prevMode 5
  let s := { s with sys := { s.sys with returning := false, holdupStep := 0, eraseHold := s.sys.holdupPrep } }
  let on := s.sys.mode == .service || s.sys.mode == .island
  let s := if !on then s
    else if !s.twinned then s.transmitOn
    else if s.twn.claimIn = .claimed ∨ s.twn.claimIn = .invalid then s.toShadow 3
    else s.startClaim 5
  (((List.range 80).filter (s.flag Attr.MeasurementChannel.enabled)).foldl State.startChannel s).remake (fun _ => true)

/-- HOLDUP_RETURN (R752): the release has lasted 100 ms and HOLDUP_DONE is still 0 (`resumed` false): the return is decided; within 500 ms the previous mode resumes
(`resumed` true), unless PFI_N has fallen again. -/
def execHoldupReturn (resumed : Bool) (s : State) : Out :=
  if s.sys.mode ≠ .holdup ∨ s.sys.holdupDone ∨ s.sys.pfi ∨ s.sys.stalemate then .next s
  else if !resumed then .next { s with sys := { s.sys with returning := true } }
  else if s.sys.returning then .next s.resumeMode
  else .next s

end Sys2Proof.Machine
end

