-- ==== Sys2Proof/Machine/Boot.lean ====
section
/-! DEFINITION. Start-up and host load (03_modes_and_startup.md R95–R100, R102, R121; 15_time_and_rtc.md R583; 17_updates.md R651, R657). -/

namespace Sys2Proof.Machine

/-! ### Boot ROM: steps 1 to 5 -/

/-- The sequence the recorder goes on from (R716). -/
def Recorder.startSeq (r : Recorder) : Nat :=
  match r.tail.getLast? with
  | some x => x.seq
  | none => max ((r.mirror.getLast?).map Record.seq |>.getD 0) ((r.loaderSeq.map (· + 65536)).getD 0)

/-- Step 2: the straps (R95, R96). -/
def State.latchStraps (s : State) (f : BootFacts) : State :=
  let test := f.testLow && (s.sys.lifecycle == .blank || s.sys.lifecycle == .factory)
  let s := { s with
    sys := { s.sys with bootSel := f.bootSel % 4, testMode := test, resetOutLow := false, bootStep := 2, boot := some f }
    recd := { s.recd with head := s.recd.startSeq, ring := s.recd.tail } }
  let s := s.setNat Attr.TwinPair.side 0 (f.twinSide % 2)
  let s := if f.bootSel % 4 = 3 then s.raise 0x0103 (objPath 0x0102 0) [3] else s
  if f.testLow && !test then s.raise 0x0104 (objPath 0x0102 0) [s.sys.lifecycle.code] else s

/-- Steps 3 and 4: the Guard core starts; slot integrity (R530); the tamper latch (R99) and a trip without main power (R553). -/
def State.checkSlots (s : State) (f : BootFacts) : State :=
  let bad := (f.slotFaults.filter s.slotGood).eraseDups
  let s := bad.foldl (fun s i => (s.setNat Attr.RootSlot.state i 2).raise 0x1004 glovePath [i]) s
  let s := match s.glv.firstTrip with
    | some x => s.raiseSafe 0x1001 (tamperPath x.1) [x.1, x.2, s.nat Attr.GloveboxService.tripCount 0]
    | none => s
  let s := { s with
    sys := { s.sys with bootStep := 4 }
    twn := { s.twn with gateOk := true }
    glv := { s.glv with firstTrip := none, slotFaults := bad.length } }
  if s.sys.tamperLatched then s.setFlag Attr.GloveboxService.sealed 0 true else s

/-! ### Time, tables and store: steps 6 to 8 -/

/-- TIM starts D2 from the RTC, or from the last time anchor of the retention tail (R583). -/
def State.startD2 (s : State) : State :=
  if !s.tim.rtc.osf then
    let r := s.tim.rtc
    let sub := r.subTicks * 32768 / 400000000
    { s with tim := { s.tim with d2 := sec r.live.epoch + sec sub / 32768 } }.setNat Attr.TimeService.state 0 1
  else
    let d := match s.recd.tail.reverse.find? (fun r => r.code == 0x1101) with
      | some r => sec (r.args.getD 0 0).toNat + (r.args.getD 1 0).toNat * 65536
      | none => 0
    { s with tim := { s.tim with d2 := d } }.setNat Attr.TimeService.state 0 0

/-- The locator table is first formed: its seeds are drawn, distinct (R264). -/
def State.formTable (s : State) : State :=
  if s.nat Attr.LocatorTable.hashSeed1 0 ≠ s.nat Attr.LocatorTable.hashSeed2 0 then s
  else
    let t := s.startRebuild
    match t.elt.rebuild with
    | none => s
    | some (a, b) => ({ t with elt := s.elt }.setNat Attr.LocatorTable.hashSeed1 0 a).setNat Attr.LocatorTable.hashSeed2 0 b

/-- A ledger takes its persisted copy, and B/64 is charged to every bucket that elapsed since (R245). -/
def State.restoreLedger (s : State) (i n : Nat) : State :=
  let k := s.bucketNow i
  let share : Int := s.nat Attr.ChessLedger.budgetUs i / 64
  let share : Int := if bandBudget (s.ledgerBand i) = 0 then share else (bandBudget (s.ledgerBand i) / 64 : Nat)
  let old := ((Assoc.find i s.rad.persisted).getD (List.replicate 64 0))
  let l := ((List.range (min n 64)).map (fun j => (k + 1 + j) % 64)).foldl (fun (l : List Int) j => l.set j share) old
  { s.setBuckets i l with rad := { s.rad with current := Assoc.put i ((k + n) % 64) s.rad.current } }

/-- The store is mounted; media that were READ_ONLY are mounted again only when replaced (R507, R520). -/
def State.mountStore (s : State) (f : BootFacts) : State :=
  if s.nat Attr.StoreService.mediaState 0 = 3 ∧ !f.replaced then s else (s.mount f.media).2

/-! ### Step 9 -/

/-- The keys: the retention bank is derived again where it is empty, unless the glovebox is sealed or use is locked (R536, R99); hatband seeds are drawn in PROVISION (R550). -/
def State.deriveKeys (s : State) : State :=
  if s.glv.bank.isNone ∧ [7, 8, 9].all s.slotGood ∧ !s.flag Attr.GloveboxService.sealed 0 ∧ !s.flag Attr.GloveboxService.otpLocked 0 then
    { s with glv := { s.glv with bank := some (s.nat Attr.GloveboxService.kekGeneration 0), ready := true } }
  else { s with glv := { s.glv with ready := s.glv.bank.isSome } }

/-- Seeds of the four hatbands. -/
def State.drawHatSeeds (s : State) : State :=
  if s.glv.hatSeeds.isEmpty then
    { s.drawn with glv := { s.glv with hatSeeds := (List.range 4).map (fun k => field (s.trng 8) (2 * k) 2) } }
  else s

/-- The first mode (Table 03-8). -/
def State.firstMode (s : State) : State :=
  match s.sys.lifecycle with
  | .factory => (s.setMode .factory 0).transmitOn
  | .field => if s.sys.tamperLatched ∨ !s.provisioned then (s.setMode .provision 0).drawHatSeeds else s.enterService 0
  | _ => (s.setMode .provision 0).drawHatSeeds

/-- Steps 6 to 9 with an image: the settings generation, D2, tables, store, ledgers; then the anchor, the first mode, and the ports enabled (R153). -/
def State.runImage (s : State) (slot : Nat) (f : BootFacts) : State :=
  let s := { s with
    sys := { s.sys with slot := slot, bootStep := 6 }
    glv := { s.glv with imageHash := Config.sha384 (s.image slot) } }
  let s := s.useGeneration (s.bootGeneration (if slot = 2 then (if s.slotState 1 = 4 then 1 else 0) else slot) s.masks f.badGens)
  let s := ((s.startD2).formTable).mountStore f
  let s := f.elapsed.foldl (fun s x => s.restoreLedger x.1 x.2) s
  let s := s.deriveKeys.refreshProvision
  let s := { s with sys := { s.sys with bootStep := 9, purelReady := true, boot := none } }
  let s := (s.anchor 2).firstMode
  let s := (List.range 16).foldl State.enablePort s
  ((List.range 80).filter (s.flag Attr.MeasurementChannel.enabled)).foldl State.startChannel s.advertiseAll

/-! ### The loader -/

/-- The host load waits for its first chunk. -/
def State.awaitHost (s : State) : State := { s with sys := { s.sys with hlState := .waitChunk, hlReason := 0, hlOffset := 0, hlImage := [] } }

/-- The loader runs: step 6 under its strap (R651). A trial that a CHIP reset ended falls back first. -/
def State.runLoader (s : State) (f : BootFacts) : State :=
  let s := { s with sys := { s.sys with bootStep := 5 } }
  if s.sys.bootSel = 1 then s.awaitHost
  else if s.sys.bootSel = 2 then { s with sys := { s.sys with slot := 3 } }
  else
    let s := match s.trialSlot with
      | some t => s.fallBack t 6
      | none => s
    let ok := fun i => s.imageOk 1 (s.image i)
    match ([0, 1].filter (fun i => s.slotState i == 4 && ok i) ++ [0, 1].filter (fun i => s.slotState i == 5 && ok i)).head? with
    | some i => s.runImage i f
    | none => { s.awaitHost with sys := { s.awaitHost.sys with slot := 3 } }

/-- Step 5: the loader's signature (R98, R530). -/
def State.startLoader (s : State) (f : BootFacts) : State :=
  let b := s.image 3
  if octet b 7 = 2 ∧ s.signatureOk b then ({ s with glv := { s.glv with loaderHash := Config.sha384 b } }).runLoader f
  else { s.awaitHost with sys := { s.awaitHost.sys with bootStep := 0xE0 } }

/-- BOOT (R97, Table 03-6): the rising edge of RESET_N; while PFI_N is asserted it waits with erases suspended (R100). -/
def execBoot (f : BootFacts) (s : State) : Out :=
  if !s.sys.resetOutLow then .next s
  else if s.sys.pfi then .next { s with sys := { s.sys with eraseHold := true } }
  else
    let s := (s.latchStraps f).checkSlots f
    match s.sys.lifecycle with
    | .blank | .void => .next { s with sys := { s.sys with boot := none } }
    | _ => .next (s.startLoader f)

/-! ### Host load (R121, Tables 03-17 and 03-18) -/

/-- REJECTED with a reason. -/
def State.rejectLoad (s : State) (why : Nat) : State := { s with sys := { s.sys with hlState := .rejected, hlReason := why } }

/-- Octets an image may have in all, once its header's body length is there. -/
def loadLimit (b : Bytes) : Nat := if b.length < 12 then 25165824 else 256 + field b 8 4

/-- Takes the chunk that BAR4 of pair 1 holds. -/
def State.takeChunk (s : State) (len : Nat) : State :=
  let b := s.sys.hlImage ++ fitBytes len (s.pair 1).bar4
  if loadLimit b < b.length then s.rejectLoad 1 else { s with sys := { s.sys with hlImage := b, hlOffset := b.length, hlState := .waitChunk } }

/-- A keyed write that hands over a chunk: true where it is to be taken. -/
def State.offerChunk (s : State) (key len : Nat) (data : Bytes) : Bool × State :=
  if key ≠ 0xC3 then (false, s)
  else
    match s.sys.hlState with
    | .chunkBusy => (false, s.rejectLoad 1)
    | .waitChunk => if len = 0 ∨ 1048576 < len then (false, s.rejectLoad 1) else (true, s.setPair 1 { s.pair 1 with bar4 := data })
    | _ => (false, s)

/-- HOSTLOAD_CHUNK (R121 step 3): `data` is what the host wrote at the start of the BAR4 slice of pair 1. -/
def execHostloadChunk (key len : Nat) (data : Bytes) (s : State) : Out :=
  let r := s.offerChunk key len data
  if r.1 then .next { r.2 with sys := { r.2.sys with hlState := .chunkBusy, hlLength := len, hlLast := false } } else .next r.2

/-- HOSTLOAD_CHUNK_TAKEN (R121 step 4). -/
def execHostloadChunkTaken (s : State) : Out := if s.sys.hlState = .chunkBusy then .next (s.takeChunk s.sys.hlLength) else .next s

/-- The image is whole: R650 decides (R121 step 5). Under R98 it is a loader, which then runs; else a Purel image, which runs from SRAM. -/
def State.verifyLoad (s : State) : State :=
  let b := s.sys.hlImage
  let loader := s.sys.bootStep == 0xE0
  match s.imageFault (if loader then 2 else 1) b with
  | some why => s.rejectLoad why
  | none =>
    let s := { s with sys := { s.sys with hlState := .accepted, hlReason := 0, hlLast := true } }
    match s.sys.boot with
    | none => s
    | some f =>
      if loader then ({ s with glv := { s.glv with loaderHash := Config.sha384 b } }).runLoader f
      else ({ s with upd := { s.upd with images := Assoc.put 2 b s.upd.images } }).runImage 2 f

/-- HOSTLOAD_LAST (R121): the final chunk is taken and the image verified. -/
def execHostloadLast (key len : Nat) (data : Bytes) (s : State) : Out :=
  let r := s.offerChunk key len data
  if !r.1 then .next r.2
  else
    let s := r.2.takeChunk len
    if s.sys.hlState = .rejected then .next s else .next s.verifyLoad

/-- HOSTLOAD_ABORT (R121): back to offset 0 from any state but ACCEPTED. -/
def execHostloadAbort (key : Nat) (s : State) : Out :=
  if key ≠ 0xC3 ∨ s.sys.hlState = .accepted ∨ s.sys.boot.isNone then .next s else .next s.awaitHost

end Sys2Proof.Machine
end

