-- ==== Sys2Proof/Machine/Flags.lean ====
section
/-! DEFINITION. Status registers, flags and output pins as functions of the state: what a read of PCIe at an offset of BAR0 returns (the register tables of chapters 02, 03, 07, 14, 15, 16, 18,
19 and 20), and the levels of the pins of R727. A read with an effect of its own is a row (RTC_GROUP_READ, QH_DATA_LO_READ, REC_WINDOW_SNAPSHOT and the like); the value it returns is here too. -/

namespace Sys2Proof.Machine

/-- A flag at bit `n` of a register. -/
def flagAt (b : Bool) (n : Nat) : Nat := b2n b * 2 ^ n

/-- A field of `w` bits at bit `lo` of a register. -/
def fieldAt (v w lo : Nat) : Nat := v % 2 ^ w * 2 ^ lo

/-- A signed field of `w` bits at bit `lo`. -/
def signedAt (v : Int) (w lo : Nat) : Nat := (v % (2 ^ w : Int)).toNat * 2 ^ lo

/-- Bits, one for each index below `n`. -/
def bitsOf (n : Nat) (f : Nat → Bool) : Nat := ((List.range n).map (fun k => flagAt (f k) k)).sum

/-! ### Mailbox registers (Tables 02-1 to 02-3, 02-16, 02-17) -/

/-- GLOBAL_STATUS (Table 02-17). -/
def State.globalStatus (s : State) : Nat :=
  flagAt s.sys.purelReady 0 + flagAt s.sys.handover 1 + flagAt s.sys.stalemate 2 + flagAt s.errLow 3 + flagAt (s.mbx.lost.any (fun x => decide (0 < x.2))) 4

/-- MBn_IN (Table 02-1); IN_RING reads 0. -/
def Pair.inReg (p : Pair) : Nat := flagAt p.inBusy 1 + flagAt p.ringLost 2

/-- MBn_OUT (Table 02-2). -/
def Pair.outReg (p : Pair) : Nat := flagAt p.outFull 1

/-- MBn_IRQ (Table 02-3). -/
def Pair.irqReg (p : Pair) : Nat := fieldAt p.vector 6 0 + flagAt p.irqEn 8

/-- MB_QUEUED: commands copied and not yet answered: those not executed, and those whose response waits. -/
def State.mbQueued (s : State) : Nat := min 0xFFFF (s.mbx.taken.length + s.mbx.repeats.length + s.mbx.pairs.countP (fun p => p.waiting.isSome))

/-- OUT_FULL of 32 pairs. -/
def State.mbPending (s : State) (lo : Nat) : Nat := bitsOf 32 (fun k => (s.pair (lo + k)).outFull)

/-- MB_SESSIONS. -/
def State.mbSessions (s : State) : Nat := bitsOf 16 (fun k => s.mbx.sessions.any (fun x => x.slot == k))

/-! ### Mode and reset registers (Tables 03-11 to 03-17) -/

/-- MODE_STATUS (Table 03-11). -/
def State.modeStatus (s : State) : Nat :=
  s.sys.mode.code + s.sys.prevMode.code * 2 ^ 4 + s.sys.lifecycle.code * 2 ^ 8 + b2n s.sys.holdupDone * 2 ^ 16 +
    b2n (s.flag Attr.GloveboxService.sealed 0) * 2 ^ 18 + b2n s.sys.tamperLatched * 2 ^ 19

/-- PWR_STATUS (Table 03-14). -/
def Sys.pwrStatus (y : Sys) : Nat :=
  flagAt y.pwrWarn 0 + flagAt y.holdupPrep 1 + flagAt y.pfi 2 + flagAt y.io33Warn 3 + flagAt y.coreWarn 4 + fieldAt y.dips 16 16

/-- BOOT_STATUS (Table 03-15). -/
def Sys.bootStatus (y : Sys) : Nat := fieldAt y.bootSel 2 0 + flagAt y.testMode 2 + fieldAt y.slot 2 8 + fieldAt y.settingsGen 4 12 + fieldAt y.bootStep 8 16

/-- STALEMATE_CAUSE (Table 03-16). -/
def Sys.stalemateCause (y : Sys) : Nat := fieldAt y.causeSource 16 0 + flagAt y.causeValid 16

/-- The encoding of Table 03-17. -/
def HlState.code : HlState → Nat
  | .idle => 0 | .waitChunk => 1 | .chunkBusy => 2 | .verifying => 3 | .accepted => 4 | .rejected => 5

/-- HOSTLOAD_STATUS (Table 03-17). -/
def Sys.hostloadStatus (y : Sys) : Nat := fieldAt y.hlReason 8 16 + fieldAt y.hlState.code 8 24

/-! ### Fault and safety registers (Tables 18-8 to 18-11) -/

/-- FCR_STATUS (Table 18-9). -/
def State.fcrStatus (s : State) : Nat :=
  flagAt ((List.range 21).any s.anyFenced) 0 + flagAt s.sys.stalemate 1 + flagAt s.errLow 2 + flagAt s.fcr.pulse 3 + flagAt s.fcr.injected 4 +
    fieldAt s.fcr.lastReaction 3 8 + fieldAt s.fcr.lastSource 16 16

/-- FCR_FENCED: bit d for domain d (R676, Table 18-8). -/
def State.fcrFenced (s : State) : Nat := bitsOf 21 (fun d => decide (1 ≤ d) && s.anyFenced d)

/-- FCR_ERR_CTRL (Table 18-10). -/
def State.fcrErrCtrl (s : State) : Nat := flagAt s.fcr.purelHold 0 + flagAt s.fcr.hostHold 1 + fieldAt (s.nat Attr.FaultService.errPulseMs 0) 8 8

/-- SAFETY_STATUS (Table 18-11). -/
def FaultState.safetyStatus (f : FaultState) : Nat := flagAt f.sf0 0 + flagAt f.sf1 1 + flagAt f.checkerOk 2 + flagAt f.luxOk 3

/-! ### The recorder's registers (Tables 19-8, 19-9) -/

/-- REC_STATUS (Table 19-9). -/
def Recorder.status (r : Recorder) : Nat :=
  flagAt (decide (8192 < r.ring.countP (fun x => decide (r.mirrored < x.seq)))) 0 + flagAt (decide (64 ≤ r.ordinaryIn.length)) 1 +
    flagAt r.window.2.1 2 + flagAt r.window.2.2 3 + flagAt r.autoAdvance 4

/-- REC_WINDOW: the first word is that of the record at the cursor, which the read snapshots; the others are the snapshot's (R720). -/
def Recorder.windowWord (r : Recorder) (k : Nat) : Nat := if k = 0 then field r.window.1 0 4 else field r.snapshot (4 * k) 4

/-! ### The RTC's registers (Tables 15-7 to 15-9) -/

/-- RTC_STATUS (Table 15-8). -/
def Rtc.status (r : Rtc) : Nat :=
  flagAt r.osf 0 + fieldAt r.fired 4 4 + fieldAt r.skipped 4 8 + fieldAt r.missed 4 12 + flagAt r.stale 16 + flagAt r.commitErr 17 +
    flagAt r.onVbat 18 + flagAt r.battUsed 19 + flagAt r.vbatLow 20

/-- RTC_CTRL (Table 15-9). -/
def State.rtcCtrl (s : State) : Nat :=
  flagAt (s.flag Attr.RealTimeClock.tcompEnable 0) 5 + flagAt (s.flag Attr.RealTimeClock.hostWrite 0) 6 + flagAt s.tim.rtc.sqwEn 7 + fieldAt s.tim.rtc.sqwRate 2 8

/-- RTC_TRIM. -/
def State.rtcTrim (s : State) : Nat := signedAt (s.int Attr.RealTimeClock.trimNow 0) 13 0 + signedAt (s.int Attr.RealTimeClock.temperature 0) 13 16

/-- ALMn_AT_LO, ALMn_AT_HI, ALMn_PERIOD, ALMn_CTRL. -/
def State.alarmReg (s : State) (n r : Nat) : Nat :=
  if r = 0 then s.nat Attr.RtcAlarm.instant n % 2 ^ 32
  else if r = 4 then s.nat Attr.RtcAlarm.instant n / 2 ^ 32 % 2 ^ 16
  else if r = 8 then s.nat Attr.RtcAlarm.periodS n % 2 ^ 32
  else if r = 12 then
    flagAt (s.flag Attr.RtcAlarm.enable n) 0 + flagAt (s.flag Attr.RtcAlarm.catchup n) 1 + flagAt (s.flag Attr.RtcAlarm.irqEnable n) 2
  else 0

/-- Registers of the RTC as PCIe reads them (R589); 0 while RTC is fenced (Table 01-2). -/
def State.rtcReg (s : State) (a : Nat) : Nat :=
  if s.cutOff 18 0 then 0
  else if a ≤ 0x0B24 then (((s.tim.rtc.pcie).map Prod.fst).getD s.liveGroup).reg a
  else if a = 0x0B2C then s.tim.rtc.status
  else if a = 0x0B30 then s.rtcCtrl
  else if a = 0x0B34 then s.rtcTrim
  else if 0x0B40 ≤ a ∧ a < 0x0B80 then s.alarmReg ((a - 0x0B40) / 16) ((a - 0x0B40) % 16)
  else if 0x0B80 ≤ a ∧ a < 0x0BA0 then
    let l := s.nat Attr.RtcAlarm.lastFire ((a - 0x0B80) / 8)
    if a % 8 = 0 then l % 2 ^ 32 else if a % 8 = 4 then l / 2 ^ 32 % 2 ^ 16 else 0
  else 0

/-! ### The twin's registers (Tables 16-9 to 16-11) -/

/-- TWIN_STATUS (Table 16-10). -/
def State.twinStatus (s : State) : Nat :=
  flagAt s.twn.wire 0 + fieldAt (s.nat Attr.TwinPair.role 0) 2 2 + fieldAt s.side 1 4 + flagAt s.twn.txPermitted 5 +
    flagAt (((Assoc.find (s.nat Attr.TwinPair.pairLane 0) s.twn.links).map CLink.up).getD false) 6 + flagAt (s.flag Attr.TwinPair.fit 0) 7 +
    fieldAt (s.nat Attr.TwinPair.pairState 0) 4 8

/-- CLAIM_STATUS (Table 16-11). -/
def Twin.claimStatus (t : Twin) : Nat := t.claimIn.code + flagAt t.claimOut 4 + flagAt t.railP 8 + flagAt t.railM 9 + flagAt t.gateOk 10

/-- MIRROR_LAG: the largest confirmation time over the last second, in µs, saturating. -/
def State.mirrorLag (s : State) : Nat := min 0xFFFF (((s.twn.lags.filter (fun x => decide (s.tim.d3 ≤ x.1 + sec 1))).map Prod.snd).foldl max 0)

/-! ### The locator's registers (Tables 07-8, 07-9) -/

/-- ELT_STATUS (Table 07-9). -/
def State.eltStatus (s : State) : Nat :=
  flagAt (!s.elt.runs.isEmpty) 0 + flagAt s.elt.rebuild.isSome 1 + flagAt (decide (2048 ≤ s.elt.queue.length)) 2 +
    flagAt (decide (16384 * 90 ≤ s.elt.overflow.length * 100)) 3 + fieldAt s.elt.locks.length 8 16

/-! ### Host queue registers (Tables 19-4, 19-5) -/

/-- QHn_STATUS (Table 19-5). -/
def State.qhStatus (s : State) (n : Nat) : Nat :=
  let q := s.queue n
  let free := s.nat Attr.HardwareQueue.sizeWords n - q.words.length
  let seen := q.readable (s.nat Attr.HardwareQueue.ctWords n)
  flagAt q.mark.isSome 0 + flagAt q.opened 1 + flagAt q.last 2 + flagAt (decide (seen = 0)) 3 + flagAt (decide (free = 0)) 4 + flagAt q.flushed 5 +
    flagAt q.underrun 6 + flagAt q.aborted 7 + min 0xFFFFFF (if s.hostProduces n then free else seen) * 2 ^ 8

/-- A register of host queue `n`: the data registers return what their last read took; `QHn_CTRL` is write-only. -/
def State.queueReg (s : State) (n r : Nat) : Nat :=
  if r = 0 then (s.queue n).lastValue % 2 ^ 32 else if r = 4 then (s.queue n).lastValue / 2 ^ 32 else if r = 8 then s.qhStatus n else 0

/-! ### Glovebox and debug registers (Tables 14-11, 14-12, 20-17) -/

/-- GLV_STATUS (Table 14-11). -/
def State.glvStatus (s : State) : Nat :=
  flagAt s.glv.ready 0 + flagAt s.glv.keyAbort 1 + flagAt s.glv.approvalRefused 2 + flagAt (s.flag Attr.GloveboxService.sealed 0) 3 +
    flagAt (s.flag Attr.GloveboxService.otpLocked 0) 4 + flagAt (s.flag Attr.GloveboxService.testRoots 0) 5 + flagAt s.glv.debugOpened 6 +
    flagAt s.glv.trngFault 7 + fieldAt s.glv.slotFaults 8 16

/-- TAMPER_STATUS (Table 14-12): sources 0–3 are the hatbands, 4–7 the switches, 8 DIE_TEMP, 10 CLOCK. -/
def State.tamperStatus (s : State) : Nat :=
  let on := fun n => s.flag Attr.TamperSource.active n
  flagAt s.sys.tamperLatched 0 + flagAt s.glv.erased 2 + flagAt (on 8 || on 10) 3 + bitsOf 4 on * 2 ^ 4 + bitsOf 4 (fun n => on (4 + n)) * 2 ^ 8 +
    fieldAt (s.nat Attr.GloveboxService.tripCount 0) 16 16

/-- DBG_STATUS (Table 20-17). -/
def State.dbgStatus (s : State) : Nat :=
  let d := s.dbg
  b2n d.jtag * 2 ^ 3 + b2n d.guardHalted * 2 ^ 4 + b2n d.halted * 2 ^ 5 + b2n d.unlocked * 2 ^ 6 +
    b2n (d.clockAt.any (fun t => decide (s.tim.d3 ≤ t + sec 1))) * 2 ^ 7 + d.failed * 2 ^ 8 + d.unlocks * 2 ^ 16

/-! ### BAR0 -/

/-- Registers of 0x0000–0x00FF and 0x0500–0x07FF (Table 02-16) and of the pairs. -/
def State.globalReg (s : State) (a : Nat) : Nat :=
  match a with
  | 0x0000 => 0x8412
  | 0x0004 => s.sys.step
  | 0x0008 => s.sys.order.code
  | 0x000C => s.sys.eui % 2 ^ 32
  | 0x0010 => s.sys.eui / 2 ^ 32
  | 0x0014 => s.globalStatus
  | 0x0018 => 0x401000
  | 0x0500 => s.mbPending 0
  | 0x0504 => s.mbPending 32
  | 0x0508 => s.mbx.arrival
  | 0x050C => s.mbQueued
  | 0x0510 => s.mbSessions
  | _ => 0

/-- Registers of 0x0800–0x08FF (Tables 03-11 to 03-18); RESET_CTRL and HOSTLOAD_CTRL are write-only. -/
def State.modeReg (s : State) (a : Nat) : Nat :=
  match a with
  | 0x0800 => s.modeStatus
  | 0x0808 => s.sys.resetCause.toNat
  | 0x080C => s.sys.pwrStatus
  | 0x0810 => s.sys.bootStatus
  | 0x0814 => s.sys.stalemateCause
  | 0x0818 => s.sys.hostloadStatus
  | 0x0820 => s.sys.hlOffset
  | _ => 0

/-- Registers of 0x0900–0x09FF (Table 18-8). -/
def State.faultReg (s : State) (a : Nat) : Nat :=
  match a with
  | 0x0900 => s.fcrStatus
  | 0x0904 => s.fcrFenced
  | 0x0908 => s.fcrErrCtrl
  | 0x090C => s.fcr.reports
  | 0x0910 => s.fcr.safetyStatus
  | _ => 0

/-- Registers of 0x0A00–0x0AFF (Table 19-8). -/
def State.recorderReg (s : State) (a : Nat) : Nat :=
  let r := s.recd
  match a with
  | 0x0A00 => r.head
  | 0x0A04 => r.oldest
  | 0x0A08 => r.mirrored
  | 0x0A0C => r.cursor
  | 0x0A10 => r.status
  | 0x0A14 => r.dropped
  | _ => if 0x0A20 ≤ a ∧ a < 0x0A40 then r.windowWord ((a - 0x0A20) / 4) else 0

/-- Registers of 0x0C00–0x0CFF (Table 16-9). -/
def State.twinReg (s : State) (a : Nat) : Nat :=
  match a with
  | 0x0C00 => s.twinStatus
  | 0x0C04 => s.twn.claimStatus
  | 0x0C08 => s.mirrorLag
  | 0x0C0C => s.twn.mirrorSeq % 2 ^ 32
  | 0x0C10 => s.twn.castlings
  | 0x0C14 => s.twn.lastGap % 2 ^ 19
  | _ => 0

/-- Registers of 0x0D00–0x0DFF (Table 07-8). -/
def State.locatorReg (s : State) (a : Nat) : Nat :=
  match a with
  | 0x0D00 => s.eltStatus
  | 0x0D04 => s.nat Attr.LocatorTable.entries 0
  | 0x0D08 => s.elt.overflow.length
  | 0x0D0C => s.elt.lockTimeouts
  | 0x0D10 => s.elt.repairs
  | _ => 0

/-- What a 32-bit read of PCIe at an offset of BAR0 returns (R9, R85, R119, R295, R564, R601, R640, R700, R709, R719, R744): addresses not listed and reserved fields read 0. -/
def State.register (s : State) (a : Nat) : Nat :=
  if a < 0x0100 ∨ (0x0500 ≤ a ∧ a < 0x0800) then s.globalReg a
  else if a < 0x0500 then
    let p := s.pair ((a - 0x0100) / 16)
    if a % 16 = 0 then p.inReg else if a % 16 = 4 then p.outReg else if a % 16 = 8 then p.irqReg else 0
  else if a < 0x0900 then s.modeReg a
  else if a < 0x0A00 then s.faultReg a
  else if a < 0x0B00 then s.recorderReg a
  else if a < 0x0C00 then s.rtcReg a
  else if a < 0x0D00 then s.twinReg a
  else if a < 0x0E00 then s.locatorReg a
  else if a < 0x0F00 then s.queueReg ((a - 0x0E00) / 16) (a % 16)
  else if a = 0x0F00 then s.glvStatus
  else if a = 0x0F04 then s.tamperStatus
  else if a = 0x0F08 then s.dbgStatus
  else 0

/-- Whether BAR0 answers at an offset: until PUREL_READY under a host load only the identification and the mode registers (Host load); in VOID only those Table 03-10 names. -/
def State.registerAnswers (s : State) (a : Nat) : Bool :=
  if s.sys.lifecycle = .void then a == 0x0000 || a == 0x000C || a == 0x0010 || a == 0x0800
  else if s.sys.hlState ≠ .idle ∧ !s.sys.purelReady then decide (a < 0x001C) || (decide (0x0800 ≤ a) && decide (a < 0x0824))
  else true

/-! ### Output pins (R727, R602) -/

/-- ALM_N is low while an alarm that has fired has IRQ_EN. -/
def State.almLow (s : State) : Bool := (List.range 4).any (fun n => bit s.tim.rtc.fired n && s.flag Attr.RtcAlarm.irqEnable n)

/-- INT_N is low while a pair with IRQ_EN is full and MSI-X is disabled in the PCIe configuration space, which the host writes. -/
def State.intLow (s : State) (msixOff : Bool) : Bool := msixOff && s.mbx.pairs.any (fun p => p.outFull && p.irqEn)

/-- PPS_OUT: high for 100 ms from each whole second of service time, low while it is UNSET. -/
def State.ppsHigh (s : State) : Bool := !s.unset && decide (s.tim.d2 % sec 1 < msec 100)

/-- CLAIM_MON is high while this chip drives CLAIM_OUT CLAIMED. -/
def State.claimMon (s : State) : Bool := s.twn.claimOut

/-- The rate of SQW in Hz, where it is driven (Table 15-9). -/
def State.sqwHz (s : State) : Option Nat :=
  if !s.tim.rtc.sqwEn then none else some (match s.tim.rtc.sqwRate with | 0 => 1 | 1 => 1024 | 2 => 4096 | _ => 32768)

end Sys2Proof.Machine
end

