-- ==== Sys2Proof/Machine/Debug.lean ====
section
/-! DEFINITION. The debug port (20_balls_electrical_debug.md R737–R744). DEBUG_REQUEST brings a transaction; a row of its operation, or of a bit of its control word, then
stands for its execution. -/

namespace Sys2Proof.Machine

/-! ### Check codes (R737) -/

/-- One bit into a CRC register of `w` bits with the given polynomial. -/
def crcStep (w poly c : Nat) (b : Bool) : Nat :=
  let top := bit c (w - 1) != b
  let c := c * 2 % 2 ^ w
  if top then c ^^^ poly else c

/-- The CRC of the low `n` bits of a number, most significant bit first. -/
def crcBits (w poly init : Nat) (v n : Nat) : Nat := ((List.range n).map (fun k => bit v (n - 1 - k))).foldl (crcStep w poly) init

/-- CHK: polynomial x^5 + x^2 + 1, initial value 0b11111, over OP ‖ SEQ. -/
def chk5 (v : Nat) : Nat := crcBits 5 0x05 0x1F v 7

/-- The CRC of 32 data bits: polynomial x^8 + x^2 + x + 1, initial value 0. -/
def crc8 (v : Nat) : Nat := crcBits 8 0x07 0x00 v 32

/-! ### Reach (R742, Table 20-16) -/

/-- Operations (Table 20-13). -/
def dbgOps : List Nat := [0x01, 0x02, 0x03, 0x04, 0x05, 0x08, 0x10, 0x11, 0x12, 0x14, 0x18]

/-- Write operations. -/
def dbgWrites : List Nat := [0x10, 0x11, 0x12, 0x14, 0x18]

/-- Wider access after UNLOCK: in FIELD and RETURN, in PROVISION only. -/
def State.wider (s : State) : Bool := s.dbg.unlocked && s.sys.mode == .provision && (s.sys.lifecycle == .field || s.sys.lifecycle == .ret)

/-- The control bits a state permits (Table 20-14): in BLANK all but GUARD_HALT, which Table 20-17 keeps to FACTORY, and OTP_PROGRAM for slots 0–2; in FACTORY all
but OTP_PROGRAM and LC_ADVANCE; after UNLOCK HALT, RESUME, STEP and RESET_REQ. -/
def State.ctrlPermitted (s : State) : Nat :=
  match s.sys.lifecycle with
  | .blank => if s.dbg.otpSlot ≤ 2 then 0x6F else 0x2F
  | .factory => 0x1F
  | _ => if s.wider then 0x0F else 0

/-- Whether an operation is within reach. UNLOCK is answered by its own row; addresses have their own check. -/
def State.opReached (s : State) (op data : Nat) : Bool :=
  match s.sys.lifecycle with
  | .void => op ≤ 0x05 || op == 0x14
  | _ => if op = 0x10 then data &&& s.ctrlPermitted == data && (s.ctrlPermitted != 0) else true

/-- What an address of Table 20-15 names. -/
inductive DbgPlace
  | purelSram | memory | breakpoint (n : Nat) | watchpoint (n : Nat) | core | challenge (n : Nat) | response (n : Nat) | otpSlot | otpValue (n : Nat)
  deriving DecidableEq, Repr

/-- The place of an address, its low two bits ignored (DESIGN CHOICE, log 43); the program counter and the core registers are there while the processor is halted. -/
def State.dbgPlace (s : State) (a : Nat) : Option DbgPlace :=
  let a := a / 4 * 4
  let t := a - 0xFFFFFFF000
  if a < 0xC00000 then some .purelSram
  else if (0x01000000 ≤ a ∧ a < 0x01100000) ∨ (0x10000000 ≤ a ∧ a < 0x20000000) ∨ (0x40000000 ≤ a ∧ a < 0x43000000) ∨
      (0x0800000000 ≤ a ∧ a < 0x0800000000 + Config.dramBytes % 2 ^ 35) then some .memory
  else if a < 0xFFFFFFF000 then none
  else if t < 0x20 then some (.breakpoint (t / 4))
  else if t < 0x50 then some (.watchpoint ((t - 0x20) / 4))
  else if t < 0x58 then if s.dbg.halted then some .core else none
  else if 0x60 ≤ t ∧ t < 0x80 then some (.challenge (t - 0x60))
  else if 0x80 ≤ t ∧ t < 0xC0 then some (.response (t - 0x80))
  else if 0x100 ≤ t ∧ t < 0x200 then if s.dbg.halted then some .core else none
  else if t = 0x200 then some .otpSlot
  else if 0x204 ≤ t ∧ t ≤ 0x224 then some (.otpValue (t - 0x204))
  else none

/-- Whether a place is within reach. -/
def State.placeReached (s : State) (p : DbgPlace) : Bool :=
  match p with
  | .challenge _ | .response _ => s.sys.lifecycle != .void
  | .otpSlot | .otpValue _ => s.sys.lifecycle == .blank
  | _ => s.sys.lifecycle == .blank || s.sys.lifecycle == .factory || s.wider

/-! ### Answers (R737, R738) -/

/-- `DBG_CK` toggles. -/
def State.dbgClock (s : State) : State := { s with dbg := { s.dbg with clockAt := some s.tim.d3 } }

/-- An answer without data. -/
def State.dbgAnswer (s : State) (a : DebugAnswer) : State := { s with dbg := { s.dbg with answer := some a, out := none } }

/-- ERROR or REFUSED ends the request under way, which is not executed. -/
def State.dbgFail (s : State) (a : DebugAnswer) : State := { s with dbg := { s.dbg with req := none, answer := some a, out := none } }

/-- The request under way has been executed: DONE, with the data of a read. -/
def State.dbgDone (s : State) (out : Option Nat) : State :=
  { s with dbg := { s.dbg with req := none, last := s.dbg.req, lastOut := out, answer := some .done, out := out } }

/-- DEBUG_REQUEST (R737, R738): the 16 request bits, and for a write the 32 data bits and their CRC. A request that the last one executed is a repeat of is answered DONE with
the same data; one with its SEQ that differs from it is not executed (DEDUCED, log 43); while one is under way, BUSY. -/
def execDebugRequest (word data crc : Nat) (s : State) : Out :=
  let s := s.dbgClock
  let op := bits word 11 7
  let seq := bits word 6 5
  let data := if dbgWrites.contains op then data % 2 ^ 32 else 0
  if bits word 15 12 ≠ 0xD then .next s
  else if chk5 (bits word 11 5) ≠ bits word 4 0 ∨ (dbgWrites.contains op ∧ crc8 data ≠ crc % 256) then .next (s.dbgAnswer .error)
  else if s.dbg.req.isSome then .next (s.dbgAnswer .busy)
  else
    match s.dbg.last.filter (fun l => l.seq == seq) with
    | some l => if l.op = op ∧ l.data = data then .next { s with dbg := { s.dbg with answer := some .done, out := s.dbg.lastOut } } else .next (s.dbgAnswer .error)
    | none =>
      if !dbgOps.contains op then .next (s.dbgAnswer .error)
      else if !s.opReached op data then .next (s.dbgAnswer .refused)
      else if op = 0x10 ∧ data = 0 then .next { s with dbg := { s.dbg with last := some ⟨op, seq, data, 0⟩, lastOut := none, answer := some .done, out := none } }
      else .next { s with dbg := { s.dbg with req := some ⟨op, seq, data, data⟩, out := none } }

/-- DEBUG_RESYNC (R738): the next request is taken whatever its SEQ. -/
def execDebugResync (s : State) : Out := .next { s.dbgClock with dbg := { s.dbgClock.dbg with req := none, last := none } }

/-- The request under way, where it is of an operation. -/
def State.dbgReq (s : State) (op : Nat) : Option DebugReq := s.dbg.req.filter (fun r => r.op == op)

/-- A read operation: DONE with its data. -/
def State.dbgRead (s : State) (op v : Nat) : State := if (s.dbgReq op).isSome then s.dbgDone (some (v % 2 ^ 32)) else s

/-! ### Reads of status (Table 20-13) -/

/-- READ_ID: `ID_STEP` × 2^16 + 0x8412. -/
def execReadId (s : State) : Out := .next (s.dbgRead 0x01 (s.sys.step * 2 ^ 16 + 0x8412))

/-- READ_STATUS. -/
def execReadStatus (s : State) : Out := .next (s.dbgRead 0x02 s.dbgStatus)

/-- READ_MODE. -/
def execReadMode (s : State) : Out := .next (s.dbgRead 0x03 s.modeStatus)

/-- READ_EUI_LO. -/
def execReadEuiLo (s : State) : Out := .next (s.dbgRead 0x04 (s.sys.eui % 2 ^ 32))

/-- READ_EUI_HI. -/
def execReadEuiHi (s : State) : Out := .next (s.dbgRead 0x05 (s.sys.eui / 2 ^ 32))

/-! ### Memory (R740) -/

/-- The unlock challenge. -/
def State.challenge (s : State) : Bytes := (List.range 32).map (Config.trng s.dbg.challenge)

/-- Writes 4 octets of a buffer of `n` octets. -/
def putWord (n : Nat) (b : Bytes) (off v : Nat) : Bytes :=
  let b := b ++ List.replicate (n - b.length) 0#8
  b.take off ++ leBytes 4 v ++ b.drop (off + 4)

/-- A word whose value the spec leaves open: drawn, and kept while the processor stays halted where `keep` is set. -/
def State.openWord (s : State) (v : Option Nat) (keep : Nat → State → State) : Nat × State :=
  match v with
  | some x => (x, s)
  | none => (s.freeNat % 2 ^ 32, keep (s.freeNat % 2 ^ 32) s.drawn)

/-- The word read at a place. Memory that the processor and the engines write holds values the spec leaves open (log 44). -/
def State.dbgLoad (s : State) (a : Nat) (p : DbgPlace) : Nat × State :=
  let k := a / 4
  match p with
  | .purelSram => s.openWord (Assoc.find k s.dbg.ram) (fun v (t : State) => if t.dbg.halted then { t with dbg := { t.dbg with ram := Assoc.put k v t.dbg.ram } } else t)
  | .memory => s.openWord none (fun _ t => t)
  | .core => s.openWord (Assoc.find k s.dbg.regs) (fun v (t : State) => { t with dbg := { t.dbg with regs := Assoc.put k v t.dbg.regs } })
  | .breakpoint n => (s.dbg.breaks.getD n 0, s)
  | .watchpoint n => (s.dbg.watches.getD n 0, s)
  | .challenge n => (field s.challenge n 4, s)
  | .response _ => (0, s)
  | .otpSlot => (s.dbg.otpSlot, s)
  | .otpValue n => (field s.dbg.otpValue n 4, s)

/-- The effect of a word written at a place; the program counter and the challenge are read-only. What a write to handover SRAM, an engine register, packet SRAM or DRAM
changes in the block the spec does not say (log 44). -/
def State.dbgStore (s : State) (a v : Nat) (p : DbgPlace) : State :=
  let k := a / 4
  let d := s.dbg
  match p with
  | .purelSram => if d.halted then { s with dbg := { d with ram := Assoc.put k v d.ram } } else s
  | .memory => s
  | .core => if a / 4 * 4 < 0xFFFFFFF100 then s else { s with dbg := { d with regs := Assoc.put k v d.regs } }
  | .breakpoint n => { s with dbg := { d with breaks := d.breaks.set n v } }
  | .watchpoint n => { s with dbg := { d with watches := d.watches.set n v } }
  | .challenge _ => s
  | .response n => { s with dbg := { d with response := putWord 64 d.response n v } }
  | .otpSlot => { s with dbg := { d with otpSlot := v } }
  | .otpValue n => if n < 32 then { s with dbg := { d with otpValue := putWord 32 d.otpValue n v } } else s

/-- The address after an access (Table 20-13). -/
def State.nextAddr (s : State) : State := { s with dbg := { s.dbg with addr := (s.dbg.addr + 4) % 2 ^ 40 } }

/-- READ_MEM (R740): ERROR at an address not listed, REFUSED outside the reach. -/
def execReadMem (s : State) : Out :=
  match s.dbgReq 0x08, s.dbgPlace s.dbg.addr with
  | none, _ => .next s
  | some _, none => .next (s.dbgFail .error)
  | some _, some p =>
    if !s.placeReached p then .next (s.dbgFail .refused)
    else
      let r := s.dbgLoad s.dbg.addr p
      .next (r.2.nextAddr.dbgDone (some r.1))

/-- WRITE_MEM (R740). -/
def execWriteMem (s : State) : Out :=
  match s.dbgReq 0x18, s.dbgPlace s.dbg.addr with
  | none, _ => .next s
  | some _, none => .next (s.dbgFail .error)
  | some r, some p =>
    if !s.placeReached p then .next (s.dbgFail .refused)
    else .next ((s.dbgStore s.dbg.addr r.data p).nextAddr.dbgDone none)

/-- WRITE_ADDR (Table 20-13): address bits 31:0. -/
def execWriteAddr (s : State) : Out :=
  match s.dbgReq 0x11 with
  | none => .next s
  | some r => .next (({ s with dbg := { s.dbg with addr := s.dbg.addr / 2 ^ 32 * 2 ^ 32 + r.data } }).dbgDone none)

/-- WRITE_ADDR_HI: address bits 39:32. -/
def execWriteAddrHi (s : State) : Out :=
  match s.dbgReq 0x12 with
  | none => .next s
  | some r => .next (({ s with dbg := { s.dbg with addr := r.data % 256 * 2 ^ 32 + s.dbg.addr % 2 ^ 32 } }).dbgDone none)

/-! ### UNLOCK (R741, R549) -/

/-- Wider access is granted in FIELD or RETURN (R549): cache and key retention bank zeroed, DEBUG_OPENED, TEST_ROOTS, TEST_ROOTS_IN_USE. -/
def State.openDebug (s : State) : State :=
  let s := { s with glv := { s.glv with cache := [], bank := none, debugOpened := true } }
  ((s.setFlag Attr.GloveboxService.testRoots 0 true).raise 0x1008 glovePath [s.sys.lifecycle.code]).refreshProvision

/-- What the unlock response signs: challenge ‖ device EUI-64 ‖ 0x44. -/
def State.unlockMessage (s : State) : Bytes := s.challenge ++ leBytes 8 s.sys.eui ++ [0x44#8]

/-- UNLOCK (R741): the data names the `RoleCredential` of a SAFETY role. -/
def execUnlock (s : State) : Out :=
  match s.dbgReq 0x14 with
  | none => .next s
  | some r =>
    let sig := s.dbg.response ++ List.replicate (64 - s.dbg.response.length) 0#8
    let ok := (s.sys.lifecycle == .field || s.sys.lifecycle == .ret) && s.sys.mode == .provision && s.alive 0x0C20 r.data &&
      s.nat Attr.RoleCredential.role r.data == roleIndex .safety && Config.ecdsaVerify (s.octets Attr.RoleCredential.publicKey r.data) s.unlockMessage sig
    let s := { s.drawn with dbg := { s.dbg with challenge := s.freeCtr } }
    if ok then
      let s := s.openDebug
      .next (({ s with dbg := { s.dbg with unlocked := true, unlocks := min (s.dbg.unlocks + 1) 0xFFFF } }).dbgDone none)
    else .next (({ s with dbg := { s.dbg with failed := min (s.dbg.failed + 1) 0xFF } }).dbgFail .refused)

/-- The unlock lapses where the chip is out of PROVISION and FACTORY while halted (R743). -/
def State.lapse (s : State) : State :=
  if s.dbg.halted ∧ s.sys.mode ≠ .provision ∧ s.sys.mode ≠ .factory then { s with dbg := { s.dbg with unlocked := false } } else s

/-- UNLOCK_LAPSE (R743). -/
def execUnlockLapse (s : State) : Out := .next s.lapse

/-! ### Control (Table 20-14) -/

/-- One bit of the control word under way acts; with the last of them the request is DONE. -/
def State.ctrl (s : State) (b : Nat) (f : State → State) : State :=
  match s.dbgReq 0x10 with
  | none => s
  | some r =>
    if !bit r.left b then s
    else
      let left := r.left - 2 ^ b
      let s := { s with dbg := { s.dbg with req := some { r with left := left } } }
      if left = 0 then
        let d := f { s with dbg := { s.dbg with req := none } }
        { d with dbg := { d.dbg with last := some { r with left := 0 }, lastOut := none, answer := some .done, out := none } }
      else f s

/-- HALT (R743). -/
def execHalt (s : State) : Out := .next (s.ctrl 0 (fun s => if s.dbg.halted then s else { s with dbg := { s.dbg.stirred with halted := true } }))

/-- RESUME. -/
def execResume (s : State) : Out := .next (s.ctrl 1 (fun s => { s with dbg := { s.dbg.stirred with halted := false } }))

/-- STEP: one instruction while halted; what it leaves in registers and memory the spec does not say. -/
def execStep (s : State) : Out := .next (s.ctrl 2 (fun s => if s.dbg.halted then { s with dbg := s.dbg.stirred } else s))

/-- RESET_REQ (R91): a CHIP reset with cause DEBUG. -/
def execResetReq (s : State) : Out := .next (s.ctrl 3 (fun s => s.chipReset (causeBit 7)))

/-- GUARD_HALT. -/
def execGuardHalt (s : State) : Out := .next (s.ctrl 4 (fun s => { s with dbg := { s.dbg with guardHalted := true } }))

/-- LC_ADVANCE: BLANK to FACTORY. -/
def execLcAdvance (s : State) : Out := .next (s.ctrl 5 (fun s => if s.sys.lifecycle = .blank then s.advanceLife .factory else s))

/-- OTP_PROGRAM (R533, R534): the slot of the OTP window takes its value; slots 0–2, not yet written. -/
def execOtpProgram (s : State) : Out :=
  .next (s.ctrl 6 (fun s =>
    let i := s.dbg.otpSlot
    if 2 < i ∨ s.nat Attr.RootSlot.state i = 1 ∨ s.nat Attr.RootSlot.state i = 3 then s else (s.programSlot i (fitBytes 32 s.dbg.otpValue)).2))

/-- DEBUG_BREAK (R740): breakpoint `n` stops the processor before the instruction at its address; watchpoint `n` (`watch`) after an access at `addr`, a write or a read,
that matches it. -/
def execDebugBreak (watch : Bool) (n addr : Nat) (write : Bool) (s : State) : Out :=
  if s.dbg.halted then .next s
  else if watch then
    let w := fun k => s.dbg.watches.getD (3 * n + k) 0
    if n < 4 ∧ bit (w 2) 0 ∧ addr &&& w 1 = w 0 &&& w 1 ∧ bit (w 2) (if write then 2 else 1) then .next { s with dbg := { s.dbg.stirred with halted := true } }
    else .next s
  else
    let b := s.dbg.breaks.getD n 0
    if bit b 0 then .next { s with dbg := { s.dbg.stirred with halted := true, regs := [(0xFFFFFFF050 / 4, b - 1)] } } else .next s

end Sys2Proof.Machine
end

