-- ==== Sys2Proof/Machine/Generic.lean ====
section
/-! DEFINITION. The generic commands: GET, SET, ACTION, LIST, BATCH (02_purel_mailboxes.md R56, R60–R63, R81–R84; 16_twin_federation.md R609; 17_updates.md R656, R659). -/

namespace Sys2Proof.Machine

/-! ### GET -/

/-- An attribute as a TLV: `version` is attribute 0 (R61). -/
def State.tlvOf (s : State) (c i : Nat) (t : AttrInfo) : Bytes := encodeTlv t.num t.ty (s.read (c, t.num) i)

/-- The version as a TLV. -/
def State.versionTlv (s : State) (c i : Nat) : Bytes := encodeTlv 0 .u32 (.num (s.version c i))

/-- GET (R61, R81): one TLV, or every TLV for attribute 0xFF. -/
def doGet : Body := fun c s =>
  let cls := pathCls c.path
  let i := pathInst c.path
  let n := pathAttr c.path
  match classInfo cls with
  | none => (⟨.badObject, []⟩, s)
  | some k =>
    if n = 0xFF then (⟨.ok, s.versionTlv cls i ++ k.attrs.flatMap (s.tlvOf cls i)⟩, s)
    else if n = 0 then (⟨.ok, s.versionTlv cls i⟩, s)
    else
      match k.attrs.find? (fun t => t.num == n) with
      | none => (⟨.badAttribute, []⟩, s)
      | some t => (⟨.ok, s.tlvOf cls i t⟩, s)

/-! ### SET -/

/-- A trial runs on this chip, or on the twin partner as it last advertised (R659). -/
def State.pairTrial (s : State) : Bool :=
  s.twinned && (s.trialSlot.isSome || ((Assoc.find (s.nat Attr.TwinPair.pairLane 0) s.twn.links).map (fun (k : CLink) => k.trial)).getD false)

/-- The opening book is read-only outside FACTORY (R656): the first setting on it is made in a new generation (DEDUCED, log 46). -/
def State.openBook (s : State) (path : Nat) : State :=
  if isSetting path ∧ s.sys.settingsGen = 0 ∧ s.sys.lifecycle ≠ .factory then s.newGeneration s.sys.slot else s

/-- A checked SET takes effect, and travels to the standby unless it is chip-local (R609). -/
def State.doSetting (s : State) (path : Nat) (v : Val) : State :=
  let a := (pathCls path, pathAttr path)
  let i := pathInst path
  let was := s.read a i
  let s := (s.openBook path).applySet a i v
  if isSetting path && !localAttr a && s.read a i != was then s.postSetting path else s

/-- SET (R56, R61, R81, R659): the expected version where IF_VERSION is set, then one TLV. -/
def doSet : Body := fun c s =>
  let a := (pathCls c.path, pathAttr c.path)
  let i := pathInst c.path
  let ifv := bit c.flags flagIfVersion
  if ifv ∧ field c.data 0 4 ≠ s.version a.1 i then (⟨.versionMismatch, []⟩, s)
  else
    match attrInfo a, parseTlv (if ifv then c.data.drop 4 else c.data) with
    | some t, some (x, _) =>
      if x.attr ≠ a.2 then (⟨.badValue, []⟩, s)
      else
        match decodeVal t.ty x with
        | none => (⟨.badValue, []⟩, s)
        | some v =>
          if !inRange (t.lo, t.hi) v then (⟨.badValue, []⟩, s)
          else if isSetting c.path && !localAttr a && s.pairTrial then (⟨.refused, []⟩, s)
          else
            match s.setStatus a i v with
            | some st => (⟨st, []⟩, s)
            | none => (⟨.ok, []⟩, s.doSetting c.path v)
    | none, _ => (⟨.badAttribute, []⟩, s)
    | _, none => (⟨.badValue, []⟩, s)

/-! ### ACTION -/

/-- The body of a method, which the chapter of its class gives; POLICY_LOAD carries a table whose fields its own row names. -/
def methodBody : Nat × Nat → Option Body
  | (0x0906, 0x40) => some doIsolate
  | (0x0C01, 0x40) => some doRootProgram
  | (0x0C01, 0x41) => some doRootDestroy
  | (0x0C11, 0x40) => some doTamperConfigure
  | (0x0C10, 0x40) => some doCredentialAdd
  | (0x0C10, 0x41) => some doCredentialRemove
  | (0x0E10, 0x40) => some doPair
  | (0x0F20, 0x40) => some doImageChunk
  | _ => none

/-- ACTION (R81): invokes the method that the path names; BAD_ATTRIBUTE where there is none. -/
def doAction : Body := fun c s =>
  match methodBody (pathCls c.path, pathAttr c.path) with
  | some b => b c s
  | none => (⟨.badAttribute, []⟩, s)

/-! ### LIST -/

/-- The instances of a class that exist, rising. -/
def State.allInstances (s : State) (c : Nat) : List Nat :=
  match (classInfo c).map ClassInfo.insts with
  | none => []
  | some (.fixed n) => List.range n
  | some .dynamic =>
    let es := s.instances 0x0501
    let cand :=
      if c = 0x0502 then es.flatMap (fun h => (List.range 8).map (fun k => 8 * h + k))
      else if c = 0x0303 then List.range 272
      else if c = 0x0703 then s.bil.snaps.map Prod.fst
      else if c = 0x1002 then sources.map Source.num
      else if c = 0x1003 then (List.range 21).flatMap (fun d => (List.range (unitsOf d)).map (fun u => 256 * d + u))
      else if c = 0x1111 then (s.recd.mirror.filter (fun x => decide (x.seq < s.recd.oldest)) ++ s.recd.ring).map Record.seq
      else if [0x0702, 0x0704, 0x0802, 0x0C30, 0x0E30, 0x0B10, 0x0401, 0x0901, 0x0905].contains c then es
      else s.instances c
    cand.filter (s.exists c)

/-- Whether an object passes a LIST's filter: test 1 equal, 2 not equal. -/
def State.passes (s : State) (c i attr test : Nat) (v : Val) : Bool :=
  let now := if attr = 0 then .num (s.version c i) else s.read (c, attr) i
  if test = 0 then true else if test = 1 then now == v else now != v

/-- LIST (R81): from the instance of the path on. Objects that the role may not read are passed over (R377). -/
def doList : Body := fun c s =>
  let b := c.data
  let cls := pathCls c.path
  let n := field b 0 2
  let fa := octet b 2
  let test := octet b 3
  let ty : Option Ty := if fa = 0 then some .u32 else (attrInfo (cls, fa)).map AttrInfo.ty
  if n < 1 ∨ 500 < n ∨ 2 < test then (⟨.badValue, []⟩, s)
  else
    let filter : Except Status Val :=
      if test = 0 then .ok (.num 0)
      else
        match ty, parseTlv (b.drop 4) with
        | none, _ => .error .badAttribute
        | some t, some (x, _) => if x.attr = fa then (match decodeVal t x with | some v => .ok v | none => .error .badValue) else .error .badValue
        | _, none => .error .badValue
    match filter with
    | .error st => (⟨st, []⟩, s)
    | .ok v =>
      let all := (s.allInstances cls).filter (fun i => decide (pathInst c.path ≤ i) && s.mayRead c.role cls i s.twn.self && s.passes cls i fa test v)
      let page := all.take n
      let next := ((all.drop n).head?).getD wildInst
      (⟨.ok, leBytes 2 page.length ++ [0, 0] ++ leBytes 8 next ++ page.flatMap (fun i => leBytes 8 (objPath cls i))⟩, s)

/-! ### BATCH (R72, R82–R84) -/

/-- A sub-command: opcode, flags, path, payload. -/
structure Sub where
  opcode : Nat
  flags : Nat
  path : Nat
  payload : Bytes
  deriving DecidableEq, Repr

/-- The sub-commands of a payload; none where a sub-command is cut short. -/
def parseSubs : Nat → Bytes → Option (List Sub)
  | 0, b => if b.isEmpty then some [] else none
  | n + 1, b =>
    if b.isEmpty then some []
    else
      let len := field b 12 4
      let whole := 16 + len + (4 - len % 4) % 4
      if b.length < 16 + len then none
      else (parseSubs n (b.drop whole)).map (fun t => ⟨field b 0 2, field b 2 2, field b 4 8, slice b 16 len⟩ :: t)

/-- Opcodes a BATCH may carry (R83); one that is energize-class or ENERGIZE_CONFIRM is REFUSED (R72), any other BAD_FRAME. -/
def batchBody : Nat → Except Status Body
  | 0x0001 => .ok doGet
  | 0x0002 => .ok doSet
  | 0x0003 => .ok doAction
  | 0x0004 => .ok doList
  | 0x0005 => .ok doSubscribe
  | 0x0006 => .ok doUnsubscribe
  | 0x0503 | 0x0902 | 0x0018 => .error .refused
  | _ => .error .badFrame

/-- The command a sub-command is checked and executed as: its session's, with the sub-header's fields. -/
def Cmd.sub (c : Cmd) (x : Sub) : Cmd := { c with opcode := x.opcode, flags := x.flags % 2 ^ 6, path := x.path, payload := x.payload, bulk := [] }

/-- Runs one sub-command under its checks (R45, R83); with BULK it is BAD_FRAME, as its descriptor has no slice of its own (DEDUCED, log 47). -/
def State.runSub (s : State) (c : Cmd) (x : Sub) : Reply × State :=
  let k := c.sub x
  match batchBody x.opcode with
  | .error st => (⟨st, []⟩, s)
  | .ok b =>
    if bit x.flags flagBulk || bit x.flags flagResponse || bit x.flags flagNotify then (⟨.badFrame, []⟩, s)
    else
      match s.lateChecks k s.twn.self with
      | some st => (⟨st, []⟩, s)
      | none =>
        let r := b k s
        if r.1.status = .accepted ∨ r.1.status = .deferred then
          (r.1, { r.2 with mbx := { r.2.mbx with awaiting := r.2.mbx.awaiting ++ [{ arrival := c.arrival, session := c.session, path := x.path, result := none }] } })
        else r

/-- One result: status, three reserved octets, length, the padded result. -/
def subResult (r : Reply) : Bytes := leBytes 1 r.status.code ++ [0, 0, 0] ++ leBytes 4 r.data.length ++ pad4 r.data

/-- Whether a status is a failure: every code from BUSY on but DEFERRED. -/
def Status.failed (st : Status) : Bool := decide (0x10 ≤ st.code) && st != .deferred

/-- Runs the sub-commands in order. -/
def State.runSubs (s : State) (c : Cmd) (xs : List Sub) : List Reply × State :=
  xs.foldl (fun (acc : List Reply × State) x => let r := acc.2.runSub c x; (acc.1 ++ [r.1], r.2)) ([], s)

/-- BATCH (R84): with ATOMIC, one failure undoes all, and every other sub-command reports REFUSED. -/
def doBatch : Body := fun c s =>
  match parseSubs 32 c.data with
  | none => (⟨.badFrame, []⟩, s)
  | some xs =>
    if xs.isEmpty then (⟨.badFrame, []⟩, s)
    else if bit c.flags flagAtomic then
      let range := (xs.head?.map (fun x => pathCls x.path / 256)).getD 0
      if !xs.all (fun x => (x.opcode == opGet || x.opcode == opSet || x.opcode == opAction) && pathCls x.path / 256 == range) then (⟨.badFrame, []⟩, s)
      else
        let r := s.runSubs c xs
        match r.1.findIdx? (fun x => Status.failed x.status) with
        | none => (⟨.ok, r.1.flatMap subResult⟩, r.2)
        | some k =>
          (⟨.ok, (r.1.zipIdx.map (fun (x : Reply × Nat) => if x.2 = k then ({ x.1 with data := [] } : Reply) else ⟨.refused, []⟩)).flatMap subResult⟩, s)
    else
      let r := s.runSubs c xs
      (⟨.ok, r.1.flatMap subResult⟩, r.2)

/-! ### Rows -/

def execGet (s : State) : Out := runOpcode opGet doGet s
def execSet (s : State) : Out := runOpcode opSet doSet s
def execAction (s : State) : Out := runOpcode opAction doAction s
def execList (s : State) : Out := runOpcode opList doList s
def execBatch (s : State) : Out := runOpcode opBatch doBatch s

end Sys2Proof.Machine
end

