-- ==== Sys2Proof/Machine/Register.lean ====
section
/-! DEFINITION. Writes of PCIe to registers of BAR0 that have no row of their own (R9, R34, R597, R675, R720, and the register tables). A register whose write has a row
of its own (`IN_RING`, `OUT_DONE`, the staging registers, `ALMn_AT_HI`, resets) is not written here; `QHn_CTRL` is, for a write that sets several of its bits (R710). -/

namespace Sys2Proof.Machine

/-- Whether a written word clears a W1C field at bit `n`: the field's value after the write. -/
def w1c (old : Bool) (v n : Nat) : Bool := old && !bit v n

/-- Pair registers (Tables 02-1 and 02-3): 16 octets a pair from 0x0100. -/
def State.writePair (s : State) (n r v : Nat) : State :=
  let p := s.pair n
  if r = 0 then s.setPair n { p with ringLost := w1c p.ringLost v 2 }
  else if r = 8 then s.setPair n { p with irqEn := bit v 8, vector := v % 64 }
  else s

/-- Four W1C bits, one an alarm. -/
def clear4 (old v lo : Nat) : Nat := old &&& (15 - v / 2 ^ lo % 16)

/-- RTC_STATUS (Table 15-8). -/
def Rtc.writeStatus (r : Rtc) (v : Nat) : Rtc :=
  { r with
    battUsed := w1c r.battUsed v 19
    commitErr := w1c r.commitErr v 17
    stale := w1c r.stale v 16
    missed := clear4 r.missed v 12
    skipped := clear4 r.skipped v 8
    fired := clear4 r.fired v 4 }

/-- Alarm registers (Table 15-7): 16 octets an alarm from 0x0B40. -/
def State.writeAlarm (s : State) (n r v : Nat) : State :=
  if r = 0 then s.setNat Attr.RtcAlarm.instant n (s.nat Attr.RtcAlarm.instant n / 2 ^ 32 * 2 ^ 32 + v)
  else if r = 8 then s.setNat Attr.RtcAlarm.periodS n v
  else if r = 12 then
    ((s.setFlag Attr.RtcAlarm.enable n (bit v 0)).setFlag Attr.RtcAlarm.catchup n (bit v 1)).setFlag Attr.RtcAlarm.irqEnable n (bit v 2)
  else s

/-- Registers of the RTC; ignored while RTC is fenced (Table 01-2). -/
def State.writeRtc (s : State) (a v : Nat) : State :=
  if s.cutOff 18 0 then s
  else if a = 0x0B2C then s.setRtc (s.tim.rtc.writeStatus v)
  else if a = 0x0B30 then s.setRtc { s.tim.rtc with sqwRate := v / 256 % 4, sqwEn := bit v 7 }
  else if 0x0B40 ≤ a ∧ a < 0x0B80 then s.writeAlarm ((a - 0x0B40) / 16) ((a - 0x0B40) % 16) v
  else s

/-- `QHn_STATUS` (Table 19-5). -/
def State.writeQueueStatus (s : State) (n v : Nat) : State :=
  let q := s.queue n
  s.setQueue n { q with aborted := w1c q.aborted v 7, underrun := w1c q.underrun v 6, flushed := w1c q.flushed v 5 }

/-- `QHn_CTRL` (R710): the bits of one write act in the order CLOSE, MARK, REWIND, RELEASE, FLUSH. -/
def State.writeQueueCtrl (s : State) (n v : Nat) : State :=
  let s := if bit v 0 then s.hostClose n else s
  let s := if bit v 1 then s.hostMark n else s
  let s := if bit v 2 then s.hostRewind n else s
  let s := if bit v 3 then s.hostRelease n else s
  if bit v 4 then s.hostFlush n else s

/-- A write to a register: its writable fields take the value, W1C bits written 1 clear, and all else is as before. -/
def State.writeRegister (s : State) (a v : Nat) : State :=
  if 0x0100 ≤ a ∧ a < 0x0500 then s.writePair ((a - 0x0100) / 16) (a % 16) v
  else if a = 0x0808 then { s with sys := { s.sys with resetCause := s.sys.resetCause &&& ~~~(BitVec.ofNat 11 v) } }
  else if a = 0x080C then { s with sys := { s.sys with pwrWarn := w1c s.sys.pwrWarn v 0 } }
  else if a = 0x0814 then { s with sys := { s.sys with causeValid := w1c s.sys.causeValid v 16 } }
  else if a = 0x0900 then { s with fcr := { s.fcr with injected := w1c s.fcr.injected v 4 } }
  else if a = 0x0908 then { s with fcr := { s.fcr with hostHold := bit v 1 } }
  else if a = 0x0A0C then { s with recd := { s.recd with cursor := v } }
  else if a = 0x0A10 then { s with recd := { s.recd with autoAdvance := bit v 4 } }
  else if 0x0B2C ≤ a ∧ a < 0x0B80 then s.writeRtc a v
  else if a = 0x0C00 then { s with twn := { s.twn with wire := w1c s.twn.wire v 0 } }
  else if 0x0E00 ≤ a ∧ a < 0x0F00 ∧ a % 16 = 8 then s.writeQueueStatus ((a - 0x0E00) / 16) v
  else if 0x0E00 ≤ a ∧ a < 0x0F00 ∧ a % 16 = 12 then s.writeQueueCtrl ((a - 0x0E00) / 16) v
  else if a = 0x0F00 then
    { s with glv := { s.glv with approvalRefused := w1c s.glv.approvalRefused v 2, keyAbort := w1c s.glv.keyAbort v 1 } }
  else s

/-- REGISTER_WRITE (R9): a 32-bit write of PCIe at an offset of BAR0. -/
def execRegisterWrite (offset value : Nat) (s : State) : Out := .next (s.writeRegister offset (value % 2 ^ 32))

end Sys2Proof.Machine
end

