-- ==== Sys2Proof/Machine/Tick.lean ====
section
/-! DEFINITION. What one idle step does (log 11): the clocks advance by one tick, and what the chip has gathered or owes goes out. -/

namespace Sys2Proof.Machine

/-- A PUREL reset ends: Purel takes mailbox commands again (R94). -/
def State.purelAgain (s : State) : State :=
  if s.sys.purelRestart ∧ !s.sys.stalemate then { s with sys := { s.sys with purelRestart := false, purelReady := true } } else s

/-- A life-cycle change is followed by its CHIP reset (R558, log 38). -/
def State.dueReset (s : State) : State := if s.sys.resetDue then s.chipReset (causeBit 6) else s

/-- One idle step: TIM's tick, the mirror and the replicas (log 39), members that have drained, the end of a PUREL reset, a reset that is due. -/
def State.tick (s : State) : State := s.tickTime.flushMirror.flushPeers.leftWhenDrained.purelAgain.dueReset

end Sys2Proof.Machine
end

