-- ==== Sys2Proof/Machine/Dispatch.lean ====
section
/-! DEFINITION. One arm per command: the call of its meaning. -/

namespace Sys2Proof.Machine

/-- The effect of a command on everything but the queue. -/
def exec (i : Instr) (s : State) : Host.Outcome State Fault Refusal :=
  match i with
  | .get => Sys2Proof.Machine.execGet s
  | .set => Sys2Proof.Machine.execSet s
  | .action => Sys2Proof.Machine.execAction s
  | .list => Sys2Proof.Machine.execList s
  | .subscribe => Sys2Proof.Machine.execSubscribe s
  | .unsubscribe => Sys2Proof.Machine.execUnsubscribe s
  | .batch => Sys2Proof.Machine.execBatch s
  | .sessionChallenge => Sys2Proof.Machine.execSessionChallenge s
  | .sessionOpen => Sys2Proof.Machine.execSessionOpen s
  | .sessionClose => Sys2Proof.Machine.execSessionClose s
  | .sessionBindPair => Sys2Proof.Machine.execSessionBindPair s
  | .sessionKeepalive => Sys2Proof.Machine.execSessionKeepalive s
  | .energizeConfirm intact cycles => Sys2Proof.Machine.execEnergizeConfirm intact cycles s
  | .modeRequest => Sys2Proof.Machine.execModeRequest s
  | .cancellerRetrain => Sys2Proof.Machine.execCancellerRetrain s
  | .cellForm => Sys2Proof.Machine.execCellForm s
  | .shortAddressRelease => Sys2Proof.Machine.execShortAddressRelease s
  | .bandProfileLoad => Sys2Proof.Machine.execBandProfileLoad s
  | .tableDma run k => Sys2Proof.Machine.execTableDma run k s
  | .tableRebuild room => Sys2Proof.Machine.execTableRebuild room s
  | .pollNow => Sys2Proof.Machine.execPollNow s
  | .downlinkSend => Sys2Proof.Machine.execDownlinkSend s
  | .supplyConnect => Sys2Proof.Machine.execSupplyConnect s
  | .supplyDisconnect => Sys2Proof.Machine.execSupplyDisconnect s
  | .revalidate => Sys2Proof.Machine.execRevalidate s
  | .intervalEdit => Sys2Proof.Machine.execIntervalEdit s
  | .calendarLoad => Sys2Proof.Machine.execCalendarLoad s
  | .calendarActivate => Sys2Proof.Machine.execCalendarActivate s
  | .snapshotNow => Sys2Proof.Machine.execSnapshotNow s
  | .groupDefine => Sys2Proof.Machine.execGroupDefine s
  | .membershipApply => Sys2Proof.Machine.execMembershipApply s
  | .levelOverride => Sys2Proof.Machine.execLevelOverride s
  | .circuitEnergize => Sys2Proof.Machine.execCircuitEnergize s
  | .isolate => Sys2Proof.Machine.execIsolate s
  | .firLoad => Sys2Proof.Machine.execFirLoad s
  | .profileRead => Sys2Proof.Machine.execProfileRead s
  | .gcBoost => Sys2Proof.Machine.execGcBoost s
  | .keyRotate => Sys2Proof.Machine.execKeyRotate s
  | .attest => Sys2Proof.Machine.execAttest s
  | .tamperAck => Sys2Proof.Machine.execTamperAck s
  | .lifecycleAdvance => Sys2Proof.Machine.execLifecycleAdvance s
  | .rootProgram => Sys2Proof.Machine.execRootProgram s
  | .rootDestroy => Sys2Proof.Machine.execRootDestroy s
  | .tamperConfigure => Sys2Proof.Machine.execTamperConfigure s
  | .credentialAdd => Sys2Proof.Machine.execCredentialAdd s
  | .credentialRemove => Sys2Proof.Machine.execCredentialRemove s
  | .timeStep => Sys2Proof.Machine.execTimeStep s
  | .rtcRecalibrate => Sys2Proof.Machine.execRtcRecalibrate s
  | .castle => Sys2Proof.Machine.execCastle s
  | .pair => Sys2Proof.Machine.execPair s
  | .federationJoin => Sys2Proof.Machine.execFederationJoin s
  | .federationLeave => Sys2Proof.Machine.execFederationLeave s
  | .rebalance => Sys2Proof.Machine.execRebalance s
  | .imageStage => Sys2Proof.Machine.execImageStage s
  | .imageActivate => Sys2Proof.Machine.execImageActivate s
  | .imageConfirm checked => Sys2Proof.Machine.execImageConfirm checked s
  | .imageChunk => Sys2Proof.Machine.execImageChunk s
  | .campaignStart free => Sys2Proof.Machine.execCampaignStart free s
  | .fence => Sys2Proof.Machine.execFence s
  | .unfence ms fails => Sys2Proof.Machine.execUnfence ms fails s
  | .selfTestDeep ms fails => Sys2Proof.Machine.execSelfTestDeep ms fails s
  | .faultInject => Sys2Proof.Machine.execFaultInject s
  | .policyLoad p => Sys2Proof.Machine.execPolicyLoad p s
  | .queueFlush => Sys2Proof.Machine.execQueueFlush s
  | .recorderClear => Sys2Proof.Machine.execRecorderClear s
  | .inRing n w => Sys2Proof.Machine.execInRing n w s
  | .outDone n => Sys2Proof.Machine.execOutDone n s
  | .responseWritten n => Sys2Proof.Machine.execResponseWritten n s
  | .remoteFrame a v key addr f => Sys2Proof.Machine.execRemoteFrame a v key addr f s
  | .commandComplete arr st => Sys2Proof.Machine.execCommandComplete arr st s
  | .notificationDeliver => Sys2Proof.Machine.execNotificationDeliver s
  | .periodic id => Sys2Proof.Machine.execPeriodic id s
  | .sessionIdleTimeout h => Sys2Proof.Machine.execSessionIdleTimeout h s
  | .credentialLockEnd k => Sys2Proof.Machine.execCredentialLockEnd k s
  | .energizeWindowExpiry arr => Sys2Proof.Machine.execEnergizeWindowExpiry arr s
  | .resetCtrlPurel key => Sys2Proof.Machine.execResetCtrlPurel key s
  | .resetCtrlChip key => Sys2Proof.Machine.execResetCtrlChip key s
  | .resetN => Sys2Proof.Machine.execResetN s
  | .powerOnReset => Sys2Proof.Machine.execPowerOnReset s
  | .supplyMonitorReset r => Sys2Proof.Machine.execSupplyMonitorReset r s
  | .backupDomainReset => Sys2Proof.Machine.execBackupDomainReset s
  | .boot f => Sys2Proof.Machine.execBoot f s
  | .hostloadChunk key len data => Sys2Proof.Machine.execHostloadChunk key len data s
  | .hostloadLast key len data => Sys2Proof.Machine.execHostloadLast key len data s
  | .hostloadAbort key => Sys2Proof.Machine.execHostloadAbort key s
  | .hostloadChunkTaken => Sys2Proof.Machine.execHostloadChunkTaken s
  | .powerWarning r mv ws => Sys2Proof.Machine.execPowerWarning r mv ws s
  | .dipRecovered r => Sys2Proof.Machine.execDipRecovered r s
  | .pfiAssert ws => Sys2Proof.Machine.execPfiAssert ws s
  | .holdupDone ws cp => Sys2Proof.Machine.execHoldupDone ws cp s
  | .pfiRelease => Sys2Proof.Machine.execPfiRelease s
  | .holdupReturn resumed => Sys2Proof.Machine.execHoldupReturn resumed s
  | .islandEntry => Sys2Proof.Machine.execIslandEntry s
  | .islandExit => Sys2Proof.Machine.execIslandExit s
  | .stalemateTimer => Sys2Proof.Machine.execStalemateTimer s
  | .lineFrameReceived x => Sys2Proof.Machine.execLineFrameReceived x s
  | .firmwareParseDone rs => Sys2Proof.Machine.execFirmwareParseDone rs s
  | .recordCommitConfirmed fid => Sys2Proof.Machine.execRecordCommitConfirmed fid s
  | .commitStall fid => Sys2Proof.Machine.execCommitStall fid s
  | .ackFrameReceived p seq seg result tm => Sys2Proof.Machine.execAckFrameReceived p seq seg result tm s
  | .segmentAckTimeout p => Sys2Proof.Machine.execSegmentAckTimeout p s
  | .partialUnitDiscard p c src seq => Sys2Proof.Machine.execPartialUnitDiscard p c src seq s
  | .mediumIdle p beaten room => Sys2Proof.Machine.execMediumIdle p beaten room s
  | .backoffSlot p duplex room => Sys2Proof.Machine.execBackoffSlot p duplex room s
  | .collision p => Sys2Proof.Machine.execCollision p s
  | .underrun p bad => Sys2Proof.Machine.execUnderrun p bad s
  | .toneMap k set ms => Sys2Proof.Machine.execToneMap k set ms s
  | .toneMapAge k age snr => Sys2Proof.Machine.execToneMapAge k age snr s
  | .admitReq r => Sys2Proof.Machine.execAdmitReq r s
  | .leaseAck c h epoch => Sys2Proof.Machine.execLeaseAck c h epoch s
  | .leave c eui => Sys2Proof.Machine.execLeave c eui s
  | .addressIdleRelease c a => Sys2Proof.Machine.execAddressIdleRelease c a s
  | .beaconDue c sensed => Sys2Proof.Machine.execBeaconDue c sensed s
  | .beaconRetry c sensed => Sys2Proof.Machine.execBeaconRetry c sensed s
  | .leaseEpoch c => Sys2Proof.Machine.execLeaseEpoch c s
  | .beaconFeed c => Sys2Proof.Machine.execBeaconFeed c s
  | .leaseAckTimeout c h => Sys2Proof.Machine.execLeaseAckTimeout c h s
  | .cancelHalf l erle => Sys2Proof.Machine.execCancelHalf l erle s
  | .cancelFull l erle taps => Sys2Proof.Machine.execCancelFull l erle taps s
  | .cancelDiverged l erle => Sys2Proof.Machine.execCancelDiverged l erle s
  | .cancellerTrainingDone l erle taps => Sys2Proof.Machine.execCancellerTrainingDone l erle taps s
  | .retrainRequest l => Sys2Proof.Machine.execRetrainRequest l s
  | .trackingSound l => Sys2Proof.Machine.execTrackingSound l s
  | .adcClip l n idle => Sys2Proof.Machine.execAdcClip l n idle s
  | .impulseLearnt p hit snr => Sys2Proof.Machine.execImpulseLearnt p hit snr s
  | .zcEdge q t => Sys2Proof.Machine.execZcEdge q t s
  | .zcLost p => Sys2Proof.Machine.execZcLost p s
  | .zcInvalid p => Sys2Proof.Machine.execZcInvalid p s
  | .rxSyncLost n => Sys2Proof.Machine.execRxSyncLost n s
  | .radioWordLock n => Sys2Proof.Machine.execRadioWordLock n s
  | .radioFrameReceived x => Sys2Proof.Machine.execRadioFrameReceived x s
  | .associationRequest c eui metric => Sys2Proof.Machine.execAssociationRequest c eui metric s
  | .chessClockAdmit n answer a sensed => Sys2Proof.Machine.execChessClockAdmit n answer a sensed s
  | .radioTxEnd n us => Sys2Proof.Machine.execRadioTxEnd n us s
  | .txCut n us => Sys2Proof.Machine.execTxCut n us s
  | .ledgerBucketEnd n => Sys2Proof.Machine.execLedgerBucketEnd n s
  | .radioBeaconDue c k a sensed => Sys2Proof.Machine.execRadioBeaconDue c k a sensed s
  | .learningCommit => Sys2Proof.Machine.execLearningCommit s
  | .learnGuardEnd h => Sys2Proof.Machine.execLearnGuardEnd h s
  | .agingVisit ovf k => Sys2Proof.Machine.execAgingVisit ovf k s
  | .shadowCompare b crcOk => Sys2Proof.Machine.execShadowCompare b crcOk s
  | .bucketDramError b key p c short metric x => Sys2Proof.Machine.execBucketDramError b key p c short metric x s
  | .lookupUnresolved => Sys2Proof.Machine.execLookupUnresolved s
  | .lockTimeout b => Sys2Proof.Machine.execLockTimeout b s
  | .lockWaitTimeout a => Sys2Proof.Machine.execLockWaitTimeout a s
  | .tableRebuildDone => Sys2Proof.Machine.execTableRebuildDone s
  | .changeRecordApply => Sys2Proof.Machine.execChangeRecordApply s
  | .scheduleSlot h => Sys2Proof.Machine.execScheduleSlot h s
  | .missingDeadline h due => Sys2Proof.Machine.execMissingDeadline h due s
  | .requestTimeout order => Sys2Proof.Machine.execRequestTimeout order s
  | .powerRestoreNotice h => Sys2Proof.Machine.execPowerRestoreNotice h s
  | .restorePollDue h => Sys2Proof.Machine.execRestorePollDue h s
  | .estimationDue h n => Sys2Proof.Machine.execEstimationDue h n s
  | .valRecheck => Sys2Proof.Machine.execValRecheck s
  | .engineResume d => Sys2Proof.Machine.execEngineResume d s
  | .recordBooking => Sys2Proof.Machine.execRecordBooking s
  | .billingBoundary => Sys2Proof.Machine.execBillingBoundary s
  | .periodClosed c => Sys2Proof.Machine.execPeriodClosed c s
  | .registerCompare r => Sys2Proof.Machine.execRegisterCompare r s
  | .balanceEvaluate g t => Sys2Proof.Machine.execBalanceEvaluate g t s
  | .dailyRun => Sys2Proof.Machine.execDailyRun s
  | .proposalExpiry n => Sys2Proof.Machine.execProposalExpiry n s
  | .balanceSumsDeadline g t => Sys2Proof.Machine.execBalanceSumsDeadline g t s
  | .trafficEvent => Sys2Proof.Machine.execTrafficEvent s
  | .scheduleStep k => Sys2Proof.Machine.execScheduleStep k s
  | .holdExpiry g => Sys2Proof.Machine.execHoldExpiry g s
  | .overrideExpiry lantern id => Sys2Proof.Machine.execOverrideExpiry lantern id s
  | .multicastRepeat => Sys2Proof.Machine.execMulticastRepeat s
  | .lightingRefresh c => Sys2Proof.Machine.execLightingRefresh c s
  | .luxSelfTest pass => Sys2Proof.Machine.execLuxSelfTest pass s
  | .lanternRecord h n => Sys2Proof.Machine.execLanternRecord h n s
  | .lanternSilent h => Sys2Proof.Machine.execLanternSilent h s
  | .safeUnconfirmed h => Sys2Proof.Machine.execSafeUnconfirmed h s
  | .circuitState c st => Sys2Proof.Machine.execCircuitState c st s
  | .meaSample k words => Sys2Proof.Machine.execMeaSample k words s
  | .metrologyCycle b => Sys2Proof.Machine.execMetrologyCycle b s
  | .halfCycleTest b => Sys2Proof.Machine.execHalfCycleTest b s
  | .meaZeroCrossing p => Sys2Proof.Machine.execMeaZeroCrossing p s
  | .headRecord => Sys2Proof.Machine.execHeadRecord s
  | .filterChanged => Sys2Proof.Machine.execFilterChanged s
  | .journalProgram w => Sys2Proof.Machine.execJournalProgram w s
  | .journalConfirm => Sys2Proof.Machine.execJournalConfirm s
  | .dayFold day stored w => Sys2Proof.Machine.execDayFold day stored w s
  | .deltaMerge hb day w => Sys2Proof.Machine.execDeltaMerge hb day w s
  | .checkpoint w => Sys2Proof.Machine.execCheckpoint w s
  | .garbageCollect target => Sys2Proof.Machine.execGarbageCollect target s
  | .gcCopyRestart source failed target => Sys2Proof.Machine.execGcCopyRestart source failed target s
  | .wearLevel source target => Sys2Proof.Machine.execWearLevel source target s
  | .blockRefresh b reads bits age soft retry target => Sys2Proof.Machine.execBlockRefresh b reads bits age soft retry target s
  | .blockRetired b cause target => Sys2Proof.Machine.execBlockRetired b cause target s
  | .mediaRepair b hb day copy keys => Sys2Proof.Machine.execMediaRepair b hb day copy keys s
  | .mediaReserve => Sys2Proof.Machine.execMediaReserve s
  | .retentionRelease day w => Sys2Proof.Machine.execRetentionRelease day w s
  | .writeSpaceExhausted journal hb day accepting w => Sys2Proof.Machine.execWriteSpaceExhausted journal hb day accepting w s
  | .endOfLife => Sys2Proof.Machine.execEndOfLife s
  | .beaconKeySwitch c ten => Sys2Proof.Machine.execBeaconKeySwitch c ten s
  | .trngFault test => Sys2Proof.Machine.execTrngFault test s
  | .tamperTrip n ops => Sys2Proof.Machine.execTamperTrip n ops s
  | .tamperSourceInactive n => Sys2Proof.Machine.execTamperSourceInactive n s
  | .tamperAckExpiry => Sys2Proof.Machine.execTamperAckExpiry s
  | .lifecycleAckExpiry => Sys2Proof.Machine.execLifecycleAckExpiry s
  | .ptpSync d master freq steps => Sys2Proof.Machine.execPtpSync d master freq steps s
  | .domainLossTimeout d => Sys2Proof.Machine.execDomainLossTimeout d s
  | .domainRevert => Sys2Proof.Machine.execDomainRevert s
  | .autoStep => Sys2Proof.Machine.execAutoStep s
  | .ptpBridge pin pout at3 correction delay sync => Sys2Proof.Machine.execPtpBridge pin pout at3 correction delay sync s
  | .boundaryClockSync p => Sys2Proof.Machine.execBoundaryClockSync p s
  | .leapSecondSmear inserted => Sys2Proof.Machine.execLeapSecondSmear inserted s
  | .timeAnchor => Sys2Proof.Machine.execTimeAnchor s
  | .rtcAlign => Sys2Proof.Machine.execRtcAlign s
  | .rtcSecond => Sys2Proof.Machine.execRtcSecond s
  | .rtcGroupRead who a => Sys2Proof.Machine.execRtcGroupRead who a s
  | .rtcYearRead who => Sys2Proof.Machine.execRtcYearRead who s
  | .shadowStale who => Sys2Proof.Machine.execShadowStale who s
  | .rtcStagingWrite who a v => Sys2Proof.Machine.execRtcStagingWrite who a v s
  | .timeCommit who v => Sys2Proof.Machine.execTimeCommit who v s
  | .alarmInstantWrite n v => Sys2Proof.Machine.execAlarmInstantWrite n v s
  | .tcompSample t => Sys2Proof.Machine.execTcompSample t s
  | .oscStopped => Sys2Proof.Machine.execOscStopped s
  | .vbatSwitch on => Sys2Proof.Machine.execVbatSwitch on s
  | .vbatMeasure mv => Sys2Proof.Machine.execVbatMeasure mv s
  | .claimInChange level railP railM => Sys2Proof.Machine.execClaimInChange level railP railM s
  | .bootClaimDelay => Sys2Proof.Machine.execBootClaimDelay s
  | .castleGapEnd planned cause cycles => Sys2Proof.Machine.execCastleGapEnd planned cause cycles s
  | .claimGateLapse => Sys2Proof.Machine.execClaimGateLapse s
  | .selfCastle cause => Sys2Proof.Machine.execSelfCastle cause s
  | .castleDrainDone => Sys2Proof.Machine.execCastleDrainDone s
  | .solo cause => Sys2Proof.Machine.execSolo cause s
  | .twinResync => Sys2Proof.Machine.execTwinResync s
  | .healthTest bits => Sys2Proof.Machine.execHealthTest bits s
  | .pairLinkDown => Sys2Proof.Machine.execPairLinkDown s
  | .coborRetransmit link seq => Sys2Proof.Machine.execCoborRetransmit link seq s
  | .coborAckDue link => Sys2Proof.Machine.execCoborAckDue link s
  | .linkRekey link => Sys2Proof.Machine.execLinkRekey link s
  | .advertise m trial => Sys2Proof.Machine.execAdvertise m trial s
  | .keyAgree m => Sys2Proof.Machine.execKeyAgree m s
  | .heartbeat m rtt => Sys2Proof.Machine.execHeartbeat m rtt s
  | .heartbeatSend => Sys2Proof.Machine.execHeartbeatSend s
  | .ack m => Sys2Proof.Machine.execAck m s
  | .mirror m => Sys2Proof.Machine.execMirror m s
  | .mirrorConfirm m => Sys2Proof.Machine.execMirrorConfirm m s
  | .replica m => Sys2Proof.Machine.execReplica m s
  | .replicaConfirm m => Sys2Proof.Machine.execReplicaConfirm m s
  | .replicaWaitTimeout handle => Sys2Proof.Machine.execReplicaWaitTimeout handle s
  | .join m => Sys2Proof.Machine.execJoin m s
  | .propose m => Sys2Proof.Machine.execPropose m s
  | .vote m => Sys2Proof.Machine.execVote m s
  | .membershipVoteTimeout epoch proposer => Sys2Proof.Machine.execMembershipVoteTimeout epoch proposer s
  | .suspect m => Sys2Proof.Machine.execSuspect m s
  | .memberTimeout member => Sys2Proof.Machine.execMemberTimeout member s
  | .migrated failed cells => Sys2Proof.Machine.execMigrated failed cells s
  | .balanceSums m => Sys2Proof.Machine.execBalanceSums m s
  | .resyncOffer m => Sys2Proof.Machine.execResyncOffer m s
  | .resyncRequest m => Sys2Proof.Machine.execResyncRequest m s
  | .segment m => Sys2Proof.Machine.execSegment m s
  | .castleMessage m => Sys2Proof.Machine.execCastleMessage m s
  | .castleResult m => Sys2Proof.Machine.execCastleResult m s
  | .peerMailbox m => Sys2Proof.Machine.execPeerMailbox m s
  | .handover start readable outage => Sys2Proof.Machine.execHandover start readable outage s
  | .settingsUnreadable => Sys2Proof.Machine.execSettingsUnreadable s
  | .confirmTimeout => Sys2Proof.Machine.execConfirmTimeout s
  | .campaignBlock camp block cell dest => Sys2Proof.Machine.execCampaignBlock camp block cell dest s
  | .campaignTargetReport camp h r => Sys2Proof.Machine.execCampaignTargetReport camp h r s
  | .campaignNoProgress camp h => Sys2Proof.Machine.execCampaignNoProgress camp h s
  | .campaignActivationDue camp => Sys2Proof.Machine.execCampaignActivationDue camp s
  | .faultReport facts => Sys2Proof.Machine.execFaultReport facts s
  | .countWindowEnd n => Sys2Proof.Machine.execCountWindowEnd n s
  | .blockResetDone d u ms fails => Sys2Proof.Machine.execBlockResetDone d u ms fails s
  | .errPulseEnd => Sys2Proof.Machine.execErrPulseEnd s
  | .guardDiagnostics g => Sys2Proof.Machine.execGuardDiagnostics g s
  | .configMismatch => Sys2Proof.Machine.execConfigMismatch s
  | .nestedError => Sys2Proof.Machine.execNestedError s
  | .activityEnd kind unit err => Sys2Proof.Machine.execActivityEnd kind unit err s
  | .deferredDrop arr kind => Sys2Proof.Machine.execDeferredDrop arr kind s
  | .latchedWrite n v => Sys2Proof.Machine.execLatchedWrite n v s
  | .qhDataLoRead n => Sys2Proof.Machine.execQhDataLoRead n s
  | .qhDataHiRead n => Sys2Proof.Machine.execQhDataHiRead n s
  | .qhDataLoWrite n v => Sys2Proof.Machine.execQhDataLoWrite n v s
  | .qhDataHiWrite n v => Sys2Proof.Machine.execQhDataHiWrite n v s
  | .close n => Sys2Proof.Machine.execClose n s
  | .mark n => Sys2Proof.Machine.execMark n s
  | .rewind n => Sys2Proof.Machine.execRewind n s
  | .release n => Sys2Proof.Machine.execRelease n s
  | .flush n => Sys2Proof.Machine.execFlush n s
  | .eventArrival safety code path args => Sys2Proof.Machine.execEventArrival safety code path args s
  | .recordCommitted => Sys2Proof.Machine.execRecordCommitted s
  | .overflow => Sys2Proof.Machine.execOverflow s
  | .recorderMirror => Sys2Proof.Machine.execRecorderMirror s
  | .recWindowSnapshot => Sys2Proof.Machine.execRecWindowSnapshot s
  | .recWindowAdvance => Sys2Proof.Machine.execRecWindowAdvance s
  | .registerWrite offset value => Sys2Proof.Machine.execRegisterWrite offset value s
  | .debugRequest word data crc => Sys2Proof.Machine.execDebugRequest word data crc s
  | .debugResync => Sys2Proof.Machine.execDebugResync s
  | .readId => Sys2Proof.Machine.execReadId s
  | .readStatus => Sys2Proof.Machine.execReadStatus s
  | .readMode => Sys2Proof.Machine.execReadMode s
  | .readEuiLo => Sys2Proof.Machine.execReadEuiLo s
  | .readEuiHi => Sys2Proof.Machine.execReadEuiHi s
  | .readMem => Sys2Proof.Machine.execReadMem s
  | .writeMem => Sys2Proof.Machine.execWriteMem s
  | .writeAddr => Sys2Proof.Machine.execWriteAddr s
  | .writeAddrHi => Sys2Proof.Machine.execWriteAddrHi s
  | .unlock => Sys2Proof.Machine.execUnlock s
  | .otpProgram => Sys2Proof.Machine.execOtpProgram s
  | .lcAdvance => Sys2Proof.Machine.execLcAdvance s
  | .guardHalt => Sys2Proof.Machine.execGuardHalt s
  | .resetReq => Sys2Proof.Machine.execResetReq s
  | .step => Sys2Proof.Machine.execStep s
  | .resume => Sys2Proof.Machine.execResume s
  | .halt => Sys2Proof.Machine.execHalt s
  | .debugBreak watch n addr write => Sys2Proof.Machine.execDebugBreak watch n addr write s
  | .unlockLapse => Sys2Proof.Machine.execUnlockLapse s
  | .serialFrameReceived n key x => Sys2Proof.Machine.execSerialFrameReceived n key x s
  | .pairLinkIdleMessage => Sys2Proof.Machine.execPairLinkIdleMessage s
  | .balanceSumsSend group interval => Sys2Proof.Machine.execBalanceSumsSend group interval s

end Sys2Proof.Machine
end

