-- ==== Sys2Proof/Safety.lean ====
section
/-! DEFINITION. What counts as a safe state, in the terms the statements use: what STALEMATE holds (R109), the canonical form of the object store, and the fused identification. -/

namespace Sys2Proof.Machine

/-- While STALEMATE is in force the field transmit enables are low, the claim is released and the Purel processor is held (R109). -/
structure State.Safe (s : State) : Prop where
  enables : s.sys.stalemate = true → s.sys.txEnable = false
  claim : s.sys.stalemate = true → s.twn.claimOut = false
  held : s.sys.stalemate = true → s.sys.purelHeld = true

/-- The object store's one form: each of its three lists rises strictly by key, so that equal stores are equal data. -/
structure Obj.Canonical (o : Obj) : Prop where
  vals : Assoc.Sorted o.vals
  vers : Assoc.Sorted o.vers
  live : Assoc.Sorted o.live

/-- What the fuses and the die fix (R2, R3, Table 02-16): ordering code, device EUI-64, stepping. -/
def State.fused (s : State) : OrderCode × Nat × Nat := (s.sys.order, s.sys.eui, s.sys.step)

/-- The areas of the state: one for each subsystem, and the object store. -/
inductive Area
  | sys | obj | mbx | fcr | recd | que | tim | lin | rad | elt | col | bil | bal | mea | lux | sto | glv | twn | upd | dbg
  deriving DecidableEq, Repr

/-- `t` has every area of `s` but those listed, and the same commands waiting: what a command leaves as it was. -/
def SameBut (l : List Area) (s t : State) : Prop :=
  (Area.sys ∉ l → t.sys = s.sys) ∧ (Area.obj ∉ l → t.obj = s.obj) ∧ (Area.mbx ∉ l → t.mbx = s.mbx) ∧ (Area.fcr ∉ l → t.fcr = s.fcr) ∧
  (Area.recd ∉ l → t.recd = s.recd) ∧ (Area.que ∉ l → t.que = s.que) ∧ (Area.tim ∉ l → t.tim = s.tim) ∧ (Area.lin ∉ l → t.lin = s.lin) ∧
  (Area.rad ∉ l → t.rad = s.rad) ∧ (Area.elt ∉ l → t.elt = s.elt) ∧ (Area.col ∉ l → t.col = s.col) ∧ (Area.bil ∉ l → t.bil = s.bil) ∧
  (Area.bal ∉ l → t.bal = s.bal) ∧ (Area.mea ∉ l → t.mea = s.mea) ∧ (Area.lux ∉ l → t.lux = s.lux) ∧ (Area.sto ∉ l → t.sto = s.sto) ∧
  (Area.glv ∉ l → t.glv = s.glv) ∧ (Area.twn ∉ l → t.twn = s.twn) ∧ (Area.upd ∉ l → t.upd = s.upd) ∧ (Area.dbg ∉ l → t.dbg = s.dbg) ∧
  t.pending = s.pending

/-- Purel executes `c` next, which came through pair `n`; the pair's outbound buffer is free, no repeat of a command waits for an answer, no command is being
aborted, and the host waits for the outcome (no NO_WAIT): the answer of `c` goes straight to the pair (R39, R55, R56). -/
structure State.Serves (s : State) (c : Cmd) (n : Nat) : Prop where
  front : s.frontCmd = some c
  src : c.src = .pair n
  pair : n < s.mbx.pairs.length
  free : (s.pair n).outFull = false
  repeats : s.mbx.repeats = []
  aborting : s.glv.aborting = []
  waits : bit c.flags flagNoWait = false

/-- In `t` the command `c` has been executed and its answer, a status with a payload, stands in the outbound buffer of pair `n`, which is full and takes the
next frame (R39, R44, Table 02-2). -/
structure Answered (s t : State) (c : Cmd) (n : Nat) (st : Status) (data : Bytes) : Prop where
  frame : (t.pair n).outbuf = responseFrame c st false data
  full : (t.pair n).outFull = true
  idle : (t.pair n).inBusy = false
  taken : t.mbx.taken = s.mbx.taken.tail

/-- A Cobor message of the link is taken: TWN is not fenced, the link has its key, the message has its tag and an allowed length, and the link has nothing
unacknowledged and nothing that waits (R642–R645). -/
structure State.Hears (s : State) (m : Cobor) : Prop where
  served : s.cutOff 19 0 = false
  size : m.body.length ≤ bodyLimit m.link
  tag : m.tagOk = true
  keyed : (s.clink m.link).keyed = true
  sent : (s.clink m.link).unacked = []
  waits : (s.clink m.link).waiting = []

/-- A reliable message arrives in its turn, and none is held out of order (R645). -/
structure State.InTurn (s : State) (m : Cobor) : Prop where
  hears : s.Hears m
  next : m.seq = (s.clink m.link).rxSeq + 1
  held : (s.clink m.link).held = []

/-- The link after a message has arrived on it, and after a reliable one was delivered: its acknowledgement is owed (R645). -/
def State.heardLink (s : State) (m : Cobor) : CLink := { s.clink m.link with up := true, heardAt := s.tim.d3 }
def State.turnLink (s : State) (m : Cobor) : CLink := { s.heardLink m with owed := true, rxSeq := m.seq }

/-- A link after it has sent a reliable message at a D3 instant, which carries the acknowledgement owed (R643, R645). -/
def CLink.sends (k : CLink) (t : Nat) (b : Bytes) (at3 : Nat) : CLink :=
  { k with seq := k.seq + 1, unacked := k.unacked ++ [(k.seq + 1, t, b, at3)], nonce := k.nonce + 1, sentAt := at3, owed := false }

/-- A link that can send a message at once: TWN is not fenced, the link is up and keyed, nothing waits, and its window has room (R644, R645). -/
structure State.Sends (s : State) (l : Nat) : Prop where
  ready : s.linkOpen l = true
  waits : (s.clink l).waiting = []
  room : (s.clink l).unacked.length < 4096

/-- Attributes whose SET does more than write the value (`State.applySet`). -/
def actsBeyond : List (Nat × Nat) :=
  [Attr.LinePort.wiring, Attr.RadioPort.bandProfile, Attr.RadioPan.beaconPeriodMs, Attr.LightingSegment.cell, Attr.Lantern.segment, Attr.Lantern.safeLevel,
   Attr.MeasurementChannel.enabled, Attr.MeasurementChannel.legacyDelay, Attr.MeasurementService.inputsWired, Attr.RealTimeClock.agingOffset,
   Attr.RealTimeClock.tcompCurve, Attr.RtcAlarm.instant, Attr.EndpointLocator.pinned, Attr.ServicePosture.posture, Attr.TwinPair.selfCastle,
   Attr.FaultSource.latched]

/-- A command is answered with a next state, which has a property. -/
def Completes (o : Out) (p : State → Prop) : Prop := ∃ t, o = .next t ∧ p t

end Sys2Proof.Machine
end

