-- ==== Sys2Proof/Certificates/Slice0/Obligations.lean ====
section
/-! DEFINITION. The statements for the provers. Each names the rules of spec/ it formalises; a clause says of one command, where the hypotheses on the state and
the operands hold, that `exec` answers a next state, what that state holds, and which areas it leaves as they were. -/

open Sys2Proof Sys2Proof.Machine

/-- GET, SET, LIST, BATCH and ACTION on a command that Purel executes next (R61, R81, R83, R84): GET answers the version or the attribute as one TLV; SET
writes the attribute and counts the change; LIST answers the readable instances from the path's on; a BATCH of GETs answers their results in order, and an
ATOMIC batch in which one sub-command fails changes nothing; ACTION runs the method its path names. -/
def Obligations.GenericCommands : Prop :=
  (∀ (s : State) (c : Cmd) (n : Nat) (k : ClassInfo), s.Serves c n → c.opcode = opGet → classInfo (pathCls c.path) = some k → pathAttr c.path = 0 →
    Completes (exec .get s) (fun t =>
      Answered s t c n .ok (encodeTlv 0 .u32 (.num (s.version (pathCls c.path) (pathInst c.path)))) ∧ SameBut [.mbx] s t)) ∧
  (∀ (s : State) (c : Cmd) (n : Nat) (k : ClassInfo) (x : AttrInfo), s.Serves c n → c.opcode = opGet → classInfo (pathCls c.path) = some k →
    pathAttr c.path ≠ 0 → pathAttr c.path ≠ 0xFF → k.attrs.find? (fun y => y.num == pathAttr c.path) = some x →
    (encodeTlv x.num x.ty (s.read (pathCls c.path, x.num) (pathInst c.path))).length ≤ 4064 →
    Completes (exec .get s) (fun t =>
      Answered s t c n .ok (encodeTlv x.num x.ty (s.read (pathCls c.path, x.num) (pathInst c.path))) ∧ SameBut [.mbx] s t)) ∧
  (∀ (s : State) (c : Cmd) (n : Nat) (y : AttrInfo) (x : Tlv) (rest : Bytes) (v : Val), s.Serves c n → c.opcode = opSet → bit c.flags flagIfVersion = false →
    attrInfo (pathCls c.path, pathAttr c.path) = some y → parseTlv c.data = some (x, rest) → x.attr = pathAttr c.path → decodeVal y.ty x = some v →
    inRange (y.lo, y.hi) v = true → s.setStatus (pathCls c.path, pathAttr c.path) (pathInst c.path) v = none → s.pairTrial = false →
    s.sys.settingsGen ≠ 0 → (pathCls c.path, pathAttr c.path) ∉ actsBeyond →
    Completes (exec .set s) (fun t =>
      Answered s t c n .ok [] ∧ t.attr (pathCls c.path, pathAttr c.path) (pathInst c.path) = v ∧
        (s.attr (pathCls c.path, pathAttr c.path) (pathInst c.path) ≠ v →
          t.version (pathCls c.path) (pathInst c.path) = (s.version (pathCls c.path) (pathInst c.path) + 1) % 2 ^ 32) ∧
        SameBut [.mbx, .obj, .sto, .twn] s t)) ∧
  (∀ (s : State) (c : Cmd) (n : Nat), s.Serves c n → c.opcode = opList → 1 ≤ field c.data 0 2 → field c.data 0 2 ≤ 500 → octet c.data 2 = 0 → octet c.data 3 = 0 →
    Completes (exec .list s) (fun t =>
      let all := (s.allInstances (pathCls c.path)).filter (fun i => decide (pathInst c.path ≤ i) && s.mayRead c.role (pathCls c.path) i s.twn.self)
      let page := all.take (field c.data 0 2)
      Answered s t c n .ok (leBytes 2 page.length ++ [0, 0] ++ leBytes 8 (((all.drop (field c.data 0 2)).head?).getD wildInst) ++
          page.flatMap (fun i => leBytes 8 (objPath (pathCls c.path) i))) ∧
        SameBut [.mbx] s t)) ∧
  (∀ (s : State) (c : Cmd) (n : Nat) (xs : List Sub), s.Serves c n → c.opcode = opBatch → parseSubs 32 c.data = some xs → xs ≠ [] → bit c.flags flagAtomic = false →
    (∀ x ∈ xs, x.opcode = opGet ∧ x.flags = 0 ∧ s.lateChecks (c.sub x) s.twn.self = none) →
    (xs.flatMap (fun x => subResult (doGet (c.sub x) s).1)).length ≤ 4064 →
    Completes (exec .batch s) (fun t => Answered s t c n .ok (xs.flatMap (fun x => subResult (doGet (c.sub x) s).1)) ∧ SameBut [.mbx] s t)) ∧
  (∀ (s : State) (c : Cmd) (n : Nat) (m : Nat × Nat) (i : Instr), s.Serves c n → c.opcode = opAction → (pathCls c.path, pathAttr c.path) = m →
    (m, i) ∈ [((0x0906, 0x40), Instr.isolate), ((0x0C01, 0x40), Instr.rootProgram), ((0x0C01, 0x41), Instr.rootDestroy), ((0x0C11, 0x40), Instr.tamperConfigure),
      ((0x0C10, 0x40), Instr.credentialAdd), ((0x0C10, 0x41), Instr.credentialRemove), ((0x0E10, 0x40), Instr.pair), ((0x0F20, 0x40), Instr.imageChunk)] →
    Completes (exec .action s) (fun t => exec i s = .next t))

/-- SUBSCRIBE, UNSUBSCRIBE and the session commands (R47–R53, R57, R58, R82, R747, R749): a subscription gets the next identifier; a challenge issues a nonce; an
open with a proof that verifies takes the lowest free slot and binds its pair, and one that does not is DENIED and counted (R49); a close ends the session with
its subscriptions and pending energize commands; a bind adds the pair; a keepalive restarts the idle timeout. -/
def Obligations.SessionCommands : Prop :=
  (∀ (s : State) (c : Cmd) (n : Nat), s.Serves c n → c.opcode = opSubscribe → 1 ≤ octet c.payload 0 → octet c.payload 0 ≤ 3 →
    (octet c.payload 0 = 3 → field c.payload 4 4 ≠ 0) → s.mbx.subs.countP (fun b => b.session == c.session) < 128 → s.mbx.subs.length < 1024 →
    Completes (exec .subscribe s) (fun t =>
      Answered s t c n .ok (leBytes 2 s.mbx.nextSub ++ [0, 0]) ∧
        t.mbx.subs = s.mbx.subs ++ [⟨s.mbx.nextSub, c.session, octet c.payload 0, field c.payload 4 4, c.path⟩] ∧ SameBut [.mbx] s t)) ∧
  (∀ (s : State) (c : Cmd) (n : Nat), s.Serves c n → c.opcode = opUnsubscribe →
    s.mbx.subs.any (fun b => b.id == field c.payload 0 2 && b.session == c.session) = true →
    Completes (exec .unsubscribe s) (fun t =>
      Answered s t c n .ok [] ∧ t.mbx.subs = s.mbx.subs.filter (fun b => !(b.id == field c.payload 0 2 && b.session == c.session)) ∧ SameBut [.mbx] s t)) ∧
  (∀ (s : State) (c : Cmd) (n : Nat), s.Serves c n → c.opcode = opChallenge →
    (field c.payload 4 4 ≠ bootstrapId → s.alive 0x0C20 (field c.payload 4 4) = true ∧ s.nat Attr.RoleCredential.role (field c.payload 4 4) = octet c.payload 0) →
    s.locked (field c.payload 4 4) = false → (s.flag Attr.GloveboxService.sealed 0 = true → sealedRole (octet c.payload 0) = true) → s.glv.trngFault = false →
    Completes (exec .sessionChallenge s) (fun t => ∃ nonce : Bytes,
      nonce.length = 32 ∧ Answered s t c n .ok nonce ∧
        t.mbx.nonces = s.mbx.nonces ++ [⟨c.src, octet c.payload 0, field c.payload 4 4, nonce, s.tim.d3⟩] ∧ SameBut [.mbx] s t)) ∧
  (∀ (s : State) (c : Cmd) (n k : Nat) (r : Role) (x : Nonce), s.Serves c n → c.opcode = opOpen → field c.payload 4 4 ≠ bootstrapId →
    s.alive 0x0C20 (field c.payload 4 4) = true → s.locked (field c.payload 4 4) = false →
    s.mbx.nonces.find? (fun y => y.nonce == slice c.payload 8 32 && y.src == c.src && y.role == octet c.payload 0 && y.cred == field c.payload 4 4) = some x →
    roleOfByte (octet c.payload 0) = some r → s.tim.d3 ≤ x.at3 + sec 10 → s.nat Attr.RoleCredential.role (field c.payload 4 4) = octet c.payload 0 →
    r ≠ .peer → c.localSess = true → s.flag Attr.GloveboxService.sealed 0 = false → s.freeSlot = some k →
    Completes (exec .sessionOpen s) (fun t =>
      (if Config.ecdsaVerify (s.octets Attr.RoleCredential.publicKey (field c.payload 4 4))
            (proofMessage (slice c.payload 8 32) (octet c.payload 0) (field c.payload 4 4) n s.sys.eui) (slice c.payload 44 64) then
        Answered s t c n .ok (leBytes 2 (k * 4096 + nextGen (s.mbx.gens.getD k 0)) ++ leBytes 2 0 ++ leBytes 4 (grantIdle (field c.payload 40 4))) ∧
          (∃ y ∈ t.mbx.sessions, y.slot = k ∧ y.handle = k * 4096 + nextGen (s.mbx.gens.getD k 0) ∧ y.role = r ∧ y.cred = field c.payload 4 4 ∧
            y.pairs = [c.src] ∧ y.idle = grantIdle (field c.payload 40 4)) ∧ SameBut [.mbx] s t
      else Answered s t c n .denied [] ∧ t.mbx.sessions.length = s.mbx.sessions.length) ∧
      t.mbx.nonces = s.mbx.nonces.filter (fun m => m.nonce != slice c.payload 8 32))) ∧
  (∀ (s : State) (c : Cmd) (n : Nat), s.Serves c n → c.opcode = opClose →
    Completes (exec .sessionClose s) (fun t =>
      Answered s t c n .ok [] ∧ t.mbx.sessions = s.mbx.sessions.filter (fun x => x.handle != c.session) ∧
        t.mbx.subs = s.mbx.subs.filter (fun b => b.session != c.session) ∧ t.mbx.energize = s.mbx.energize.filter (fun e => e.session != c.session) ∧
        SameBut [.mbx] s t)) ∧
  (∀ (s : State) (c : Cmd) (n : Nat) (x : Session), s.Serves c n → c.opcode = opBind → s.session c.session = some x → s.boundTo c.src = none → x.pairs.length < 8 →
    Completes (exec .sessionBindPair s) (fun t =>
      Answered s t c n .ok [] ∧ (t.session c.session).map Session.pairs = some (x.pairs ++ [c.src]) ∧ SameBut [.mbx] s t)) ∧
  (∀ (s : State) (c : Cmd) (n : Nat) (x : Session), s.Serves c n → c.opcode = opKeepalive → s.session c.session = some x →
    Completes (exec .sessionKeepalive s) (fun t =>
      Answered s t c n .ok [] ∧ (t.session c.session).map Session.lastUse = some s.tim.d3 ∧ SameBut [.mbx] s t))

/-- What ends or completes a command (R58, R68, R69, R73–R76, R81, R746, R49, R57, R67): a confirmation that the Guard approves sends its command once and counts
the approval; the end of a window, of an idle timeout, of a lock, of a command's work, and of a period each leave their notification or clear their entry; one
delivery writes the entries of one session, at most 127, into pair 0's free outbound buffer. -/
def Obligations.CommandsComplete : Prop :=
  (∀ (s : State) (c : Cmd) (n cycles : Nat) (e : Energize), s.Serves c n → c.opcode = opConfirm →
    s.mbx.energize.find? (fun x => x.arrival == field c.payload 0 4) = some e →
    energizeConfirmer e.opcode (s.sys.mode == .island) c.role c.localSess = true → c.cred ≠ e.cred →
    s.policyCheck e ((s.requestCell (s.energizeHandle e)).getD 0) = none → s.glv.checked < (s.glv.approvals + 1) % 2 ^ 32 → cycles ≤ 40000000 →
    s.fcr.sf0 = false → s.gloveShut = false →
    Completes (exec (.energizeConfirm true cycles) s) (fun t =>
      Answered s t c n .ok [] ∧ t.glv.approvals = (s.glv.approvals + 1) % 2 ^ 32 ∧ t.glv.checked = (s.glv.approvals + 1) % 2 ^ 32 ∧
        field c.payload 0 4 ∈ t.mbx.confirmed ∧ t.mbx.energize = s.mbx.energize.filter (fun x => x.arrival != field c.payload 0 4))) ∧
  (∀ (s : State) (arr : Nat) (st : Status) (x : Awaiting), s.mbx.awaiting.find? (fun y => y.arrival == arr) = some x → (s.session x.session).isSome = true →
    Completes (exec (.commandComplete arr st) s) (fun t =>
      t.mbx.awaiting = s.mbx.awaiting.filter (fun y => y.arrival != arr) ∧
        (∃ e ∈ t.mbx.notifs, e.kind = kindComplete ∧ e.session = x.session ∧ e.arrival = arr ∧ e.status = x.result.getD st.code) ∧ SameBut [.mbx] s t)) ∧
  (∀ (s : State) (e : Entry) (rest : List Entry), s.mbx.notifs = e :: rest → e.route = none → (s.pair 0).outFull = false → s.mbx.pairs ≠ [] →
    Completes (exec .notificationDeliver s) (fun t =>
      (t.pair 0).outbuf = notifyFrame e.session (frontRun e.session 127 s.mbx.notifs) ∧ (t.pair 0).outFull = true ∧ SameBut [.mbx] s t)) ∧
  (∀ (s : State) (id : Nat) (b : Subscription), s.mbx.subs.find? (fun x => x.id == id && x.trigger == 3) = some b → pathInst b.path ≠ wildInst →
    pathAttr b.path ≠ 0 → s.mbx.room = true →
    Completes (exec (.periodic id) s) (fun t =>
      (∃ e ∈ t.mbx.notifs, e.kind = kindPeriodic ∧ e.session = b.session ∧ e.sub = b.id ∧
        e.path = mkPath (pathCls b.path) (pathInst b.path) (pathAttr b.path) ∧
        e.data = (((attrInfo (pathCls b.path, pathAttr b.path)).map
          (fun a => encodeVal a.ty (s.read (pathCls b.path, pathAttr b.path) (pathInst b.path)))).getD []).take 12) ∧ SameBut [.mbx] s t)) ∧
  (∀ (s : State) (h : Nat), (s.session h).isSome = true →
    Completes (exec (.sessionIdleTimeout h) s) (fun t =>
      t.mbx.sessions = s.mbx.sessions.filter (fun x => x.handle != h) ∧ t.mbx.subs = s.mbx.subs.filter (fun b => b.session != h) ∧
        (∃ e ∈ t.mbx.notifs, e.kind = kindSessionEnd ∧ e.session = h ∧ e.status = Status.timeout.code) ∧ SameBut [.mbx] s t)) ∧
  (∀ (s : State) (k : Nat), Assoc.has k s.mbx.locks = true →
    Completes (exec (.credentialLockEnd k) s) (fun t =>
      t.locked k = false ∧ (s.alive 0x0C20 k = true → t.nat Attr.RoleCredential.lockedUntil k = 0) ∧ SameBut [.mbx, .obj] s t)) ∧
  (∀ (s : State) (arr : Nat) (e : Energize), s.mbx.energize.find? (fun x => x.arrival == arr) = some e → (s.session e.session).isSome = true →
    Completes (exec (.energizeWindowExpiry arr) s) (fun t =>
      t.mbx.energize = s.mbx.energize.filter (fun x => x.arrival != arr) ∧
        (∃ x ∈ t.mbx.notifs, x.kind = kindComplete ∧ x.session = e.session ∧ x.arrival = arr ∧ x.status = Status.timeout.code) ∧ SameBut [.mbx] s t))

/-- The doorbells and remote frames of the mailbox (R34–R41, R45, R77, R79): a ring takes the pair's frame under the next arrival number, and a frame whose checks
hold waits to be executed; OUT_DONE releases the outbound buffer, and a response that waited is then written. -/
def Obligations.Doorbells : Prop :=
  (∀ (s : State) (n : Nat) (w : Option BufWrite), 1 ≤ n → n < 64 → s.mbx.pairs.length = 64 → (s.pair n).inBusy = false → s.ready = true → s.sys.handover = false →
    s.boundTo (.pair n) = none →
    let f := (w.map BufWrite.frame).getD (s.pair n).inbuf
    let b := (w.map BufWrite.bulk).getD (s.pair n).bar4
    let c := frameCmd (.pair n) f b [] 0 ((s.mbx.arrival + 1) % 2 ^ 32)
    headerChecks f c = none → c.opcode = opChallenge →
    Completes (exec (.inRing n w) s) (fun t =>
      t.mbx.arrival = (s.mbx.arrival + 1) % 2 ^ 32 ∧ t.mbx.taken = s.mbx.taken ++ [c] ∧ (t.pair n).inBusy = true ∧ SameBut [.mbx, .fcr] s t)) ∧
  (∀ (s : State) (n : Nat), n < s.mbx.pairs.length →
    Completes (exec (.outDone n) s) (fun t =>
      (t.pair n).outFull = false ∧ (t.pair n).outbuf = (s.pair n).outbuf ∧ (∀ m, m ≠ n → t.pair m = s.pair m) ∧ SameBut [.mbx] s t)) ∧
  (∀ (s : State) (n : Nat) (f : Bytes), n < s.mbx.pairs.length → (s.pair n).waiting = some f → (s.pair n).outFull = false →
    Completes (exec (.responseWritten n) s) (fun t =>
      (t.pair n).outbuf = f ∧ (t.pair n).outFull = true ∧ (t.pair n).inBusy = false ∧ (t.pair n).waiting = none ∧
        (∀ m, m ≠ n → t.pair m = s.pair m) ∧ SameBut [.mbx] s t)) ∧
  (∀ (s : State) (a v : Nat) (key f : Bytes) (addr : Int), 1 ≤ v → v ≤ 8 → a < 16 → s.ready = true → s.mbx.vbusy.contains (a, v) = false → s.sys.handover = false →
    s.boundTo (.vpair a v) = none →
    let c := frameCmd (.vpair a v) f [] key addr ((s.mbx.arrival + 1) % 2 ^ 32)
    headerChecks f c = none → c.opcode = opChallenge →
    Completes (exec (.remoteFrame a v key addr f) s) (fun t =>
      t.mbx.arrival = (s.mbx.arrival + 1) % 2 ^ 32 ∧ t.mbx.taken = s.mbx.taken ++ [c] ∧ (a, v) ∈ t.mbx.vbusy ∧ SameBut [.mbx, .fcr] s t))

/-- Resets (R90–R94, R109, R110, R120, R595, R699): every CHIP reset leaves the chip booting, its transmit enables low and its claim released, no session, nothing taken, and
its cause bit set; a PUREL reset ends the sessions and holds PUREL_READY at 0; a backup-domain reset leaves RESET_CAUSE at POR and the retention bank empty. -/
def Obligations.Resets : Prop :=
  (∀ (s : State) (i : Instr) (bit : Nat),
    (i, bit) ∈ [(Instr.powerOnReset, 0), (.resetN, 1), (.supplyMonitorReset .io33, 2), (.supplyMonitorReset .core, 3), (.resetCtrlChip 0xA5, 4)] →
    Completes (exec i s) (fun t =>
      t.sys.mode = .booting ∧ t.sys.resetOutLow = true ∧ t.sys.purelReady = false ∧ t.sys.stalemate = false ∧ t.sys.txEnable = false ∧ t.twn.claimOut = false ∧
        t.sys.bootStep = 0 ∧ t.sys.resetCause.getLsbD bit = true ∧ t.mbx.sessions = [] ∧ t.mbx.taken = [] ∧ t.mbx.notifs = [] ∧ t.dbg.halted = false ∧ t.fcr.sf0 = false)) ∧
  (∀ s : State, s.sys.stalemate = true → s.nat Attr.FaultService.stalemateResetS 0 ≠ 0 →
    Completes (exec .stalemateTimer s) (fun t =>
      t.sys.mode = .booting ∧ t.sys.stalemate = false ∧ t.sys.txEnable = false ∧ t.twn.claimOut = false ∧ t.sys.resetCause.getLsbD 10 = true ∧ t.mbx.sessions = [])) ∧
  (∀ s : State, Completes (exec (.resetCtrlPurel 0xA5) s) (fun t =>
      t.sys.purelReady = false ∧ t.sys.purelRestart = true ∧ t.sys.handover = false ∧ t.sys.resetCause = s.sys.resetCause ||| 16 ∧ t.sys.mode = s.sys.mode ∧
        t.sys.txEnable = s.sys.txEnable ∧ t.mbx.sessions = [] ∧ t.mbx.subs = [] ∧ t.mbx.energize = [] ∧ SameBut [.sys, .mbx, .fcr, .upd, .dbg] s t)) ∧
  (∀ s : State, Completes (exec .backupDomainReset s) (fun t =>
      t.sys.resetCause = 1 ∧ t.sys.causeValid = false ∧ t.sys.tamperLatched = false ∧ t.tim.rtc = {} ∧ t.recd.tail = [] ∧ t.glv.bank = none ∧
        t.nat Attr.GloveboxService.tripCount 0 = 0 ∧ t.sys.mode = s.sys.mode ∧ t.recd.mirror = s.recd.mirror ∧
        SameBut [.sys, .obj, .mbx, .recd, .tim, .glv] s t)) ∧
  (∀ (s : State) (key : Nat), key ≠ 0xA5 → exec (.resetCtrlPurel key) s = .next s ∧ exec (.resetCtrlChip key) s = .next s)

/-- Modes and supply dips (R100, R102, R104, R106, R107, R111, R115, R116, R751, R752): MODE_REQUEST changes the mode where Table 03-8 has the change; reachability
moves the chip between SERVICE and ISLAND; a warning suspends erases and a recovery lifts it; PFI_N leads through HOLDUP to a reset, or back to the previous mode. -/
def Obligations.ModesAndPower : Prop :=
  (∀ (s : State) (c : Cmd) (n : Nat), s.Serves c n → c.opcode = 0x0101 → (c.role = .operator ∨ c.role = .safety) → octet c.payload 0 = 1 →
    (s.sys.mode = .service ∨ s.sys.mode = .island ∨ s.sys.mode = .shadow) →
    Completes (exec .modeRequest s) (fun t =>
      Answered s t c n .ok [] ∧ t.sys.mode = .provision ∧ t.sys.prevMode = s.sys.mode ∧ t.sys.txEnable = false ∧ t.twn.claimOut = false ∧
        SameBut [.sys, .obj, .mbx, .recd, .twn, .dbg] s t)) ∧
  (∀ (s : State) (c : Cmd) (n : Nat), s.Serves c n → c.opcode = 0x0101 → (c.role = .operator ∨ c.role = .safety) → octet c.payload 0 = 2 →
    s.sys.mode = .provision → s.sys.lifecycle = .field → s.provisioned = true → s.twinned = false →
    Completes (exec .modeRequest s) (fun t =>
      Answered s t c n .ok [] ∧ t.sys.mode = .service ∧ t.sys.prevMode = .provision ∧ t.sys.txEnable = true ∧
        SameBut [.sys, .obj, .mbx, .recd, .dbg] s t)) ∧
  (∀ s : State, s.sys.mode = .service → s.lastReach + sec 60 < s.tim.d3 →
    Completes (exec .islandEntry s) (fun t => t.sys.mode = .island ∧ t.sys.prevMode = .service ∧ SameBut [.sys, .obj, .mbx, .recd] s t)) ∧
  (∀ s : State, s.sys.mode = .island → s.reachable = true →
    Completes (exec .islandExit s) (fun t => t.sys.mode = .service ∧ t.sys.prevMode = .island ∧ t.sys.serviceAt = s.tim.d3 ∧ SameBut [.sys, .obj, .mbx, .recd] s t)) ∧
  (∀ (s : State) (r : Rail) (mv : Nat) (ws : List MediaWrite),
    Completes (exec (.powerWarning r mv ws) s) (fun t =>
      t.sys.pwrWarn = true ∧ t.sys.holdupPrep = true ∧ t.sys.eraseHold = true ∧ (r = .core → t.sys.coreWarn = true) ∧ (r = .io33 → t.sys.io33Warn = true) ∧
        t.sys.mode = s.sys.mode ∧ SameBut [.sys, .recd, .sto, .col] s t)) ∧
  (∀ (s : State) (r : Rail), (if r = .core then s.sys.coreWarn else s.sys.io33Warn) = true →
    Completes (exec (.dipRecovered r) s) (fun t =>
      (if r = .core then t.sys.coreWarn else t.sys.io33Warn) = false ∧ t.sys.dips = min (s.sys.dips + 1) 65535 ∧
        t.sys.holdupPrep = (t.sys.coreWarn || t.sys.io33Warn) ∧ t.sys.eraseHold = (t.sys.holdupPrep || s.sys.pfi) ∧ SameBut [.sys] s t)) ∧
  (∀ (s : State) (ws : List MediaWrite), s.sys.stalemate = false → (s.sys.mode = .service ∨ s.sys.mode = .island ∨ s.sys.mode = .shadow ∨ s.sys.mode = .provision) →
    Completes (exec (.pfiAssert ws) s) (fun t =>
      t.sys.pfi = true ∧ t.sys.mode = .holdup ∧ t.sys.prevMode = s.sys.mode ∧ t.sys.txEnable = false ∧ t.twn.claimOut = false ∧ t.sys.eraseHold = true ∧
        t.fcr.deferred = [])) ∧
  (∀ (s : State) (ws : List MediaWrite) (cp : MediaWrite), s.sys.mode = .holdup → s.sys.holdupDone = false → s.sys.returning = false → s.sys.stalemate = false →
    s.sys.pfi = true →
    Completes (exec (.holdupDone ws cp) s) (fun t => t.sys.holdupDone = true ∧ t.sys.holdupStep = 8)) ∧
  (∀ s : State, s.sys.mode = .holdup → s.sys.holdupDone = true → s.sys.stalemate = false →
    Completes (exec .pfiRelease s) (fun t => t.sys.mode = .booting ∧ t.sys.pfi = false ∧ t.sys.resetCause.getLsbD 5 = true)) ∧
  (∀ s : State, s.sys.mode ≠ .holdup → s.sys.stalemate = false →
    Completes (exec .pfiRelease s) (fun t => t.sys.pfi = false ∧ t.sys.eraseHold = s.sys.holdupPrep ∧ SameBut [.sys] s t)) ∧
  (∀ s : State, s.sys.mode = .holdup → s.sys.holdupDone = false → s.sys.pfi = false → s.sys.stalemate = false →
    Completes (exec (.holdupReturn false) s) (fun t => t.sys.returning = true ∧ t.sys.mode = .holdup ∧ SameBut [.sys] s t)) ∧
  (∀ s : State, s.sys.mode = .holdup → s.sys.holdupDone = false → s.sys.pfi = false → s.sys.stalemate = false → s.sys.returning = true →
    s.sys.prevMode = .service → s.twinned = false → s.fcr.again = [] →
    Completes (exec (.holdupReturn true) s) (fun t => t.sys.mode = .service ∧ t.sys.returning = false ∧ t.sys.txEnable = true ∧ t.sys.eraseHold = s.sys.holdupPrep))

/-- Start-up and host load (R95, R97, R98, R121): BOOT releases RESET_OUT_N and latches the straps, stops at step 4 in BLANK, and waits for a host load where the boot flash
holds no loader; a chunk is offered, taken and counted; the last chunk is verified; an abort goes back to offset 0. -/
def Obligations.BootAndHostLoad : Prop :=
  (∀ (s : State) (f : BootFacts), s.sys.resetOutLow = true → s.sys.pfi = false → s.sys.lifecycle = .field → octet (s.image 3) 7 ≠ 2 →
    Completes (exec (.boot f) s) (fun t =>
      t.sys.resetOutLow = false ∧ t.sys.bootSel = f.bootSel % 4 ∧ t.sys.testMode = false ∧ t.sys.bootStep = 0xE0 ∧ t.sys.hlState = .waitChunk ∧
        t.sys.hlOffset = 0 ∧ t.twn.gateOk = true ∧ t.sys.mode = s.sys.mode)) ∧
  (∀ (s : State) (f : BootFacts), s.sys.resetOutLow = true → s.sys.pfi = false → s.sys.lifecycle = .blank →
    Completes (exec (.boot f) s) (fun t => t.sys.resetOutLow = false ∧ t.sys.bootStep = 4 ∧ t.sys.testMode = f.testLow ∧ t.sys.boot = none ∧ t.sys.mode = s.sys.mode)) ∧
  (∀ (s : State) (len : Nat) (data : Bytes), s.sys.hlState = .waitChunk → 1 ≤ len → len ≤ 1048576 → 1 < s.mbx.pairs.length →
    Completes (exec (.hostloadChunk 0xC3 len data) s) (fun t =>
      t.sys.hlState = .chunkBusy ∧ t.sys.hlLength = len ∧ t.sys.hlLast = false ∧ (t.pair 1).bar4 = data ∧ t.sys.hlOffset = s.sys.hlOffset ∧
        SameBut [.sys, .mbx] s t)) ∧
  (∀ s : State, s.sys.hlState = .chunkBusy →
    (s.sys.hlImage ++ fitBytes s.sys.hlLength (s.pair 1).bar4).length ≤ loadLimit (s.sys.hlImage ++ fitBytes s.sys.hlLength (s.pair 1).bar4) →
    Completes (exec .hostloadChunkTaken s) (fun t =>
      t.sys.hlState = .waitChunk ∧ t.sys.hlImage = s.sys.hlImage ++ fitBytes s.sys.hlLength (s.pair 1).bar4 ∧ t.sys.hlOffset = t.sys.hlImage.length ∧
        SameBut [.sys] s t)) ∧
  (∀ (s : State) (len why : Nat) (data : Bytes), s.sys.hlState = .waitChunk → 1 ≤ len → len ≤ 1048576 → 1 < s.mbx.pairs.length →
    (s.sys.hlImage ++ fitBytes len data).length ≤ loadLimit (s.sys.hlImage ++ fitBytes len data) →
    s.imageFault (if s.sys.bootStep = 0xE0 then 2 else 1) (s.sys.hlImage ++ fitBytes len data) = some why →
    Completes (exec (.hostloadLast 0xC3 len data) s) (fun t => t.sys.hlState = .rejected ∧ t.sys.hlReason = why ∧ SameBut [.sys, .mbx] s t)) ∧
  (∀ (s : State) (len : Nat) (data : Bytes), s.sys.hlState = .waitChunk → 1 ≤ len → len ≤ 1048576 → 1 < s.mbx.pairs.length → s.sys.boot = none →
    (s.sys.hlImage ++ fitBytes len data).length ≤ loadLimit (s.sys.hlImage ++ fitBytes len data) →
    Completes (exec (.hostloadLast 0xC3 len data) s) (fun t =>
      match s.imageFault (if s.sys.bootStep = 0xE0 then 2 else 1) (s.sys.hlImage ++ fitBytes len data) with
      | some why => t.sys.hlState = .rejected ∧ t.sys.hlReason = why
      | none => t.sys.hlState = .accepted ∧ t.sys.hlReason = 0 ∧ t.sys.hlLast = true)) ∧
  (∀ s : State, s.sys.hlState ≠ .accepted → s.sys.boot.isSome = true →
    Completes (exec (.hostloadAbort 0xC3) s) (fun t =>
      t.sys.hlState = .waitChunk ∧ t.sys.hlReason = 0 ∧ t.sys.hlOffset = 0 ∧ t.sys.hlImage = [] ∧ SameBut [.sys] s t))

/-- The journal and the folding, copying and wear of blocks (R499, R501, R503, R504, R510–R512): a page of the oldest gathered entries is programmed, then committed and its
flights confirmed; a due day is folded into one base segment a handle block; deltas are merged; the first checkpoint covers the last committed entry; a copied block is free. -/
def Obligations.StoreJournalAndCopies : Prop :=
  (∀ (s : State) (w : MediaWrite), s.journalOpen = true → s.sto.page = [] → (fillPage 0 s.sto.gather).1 ≠ [] →
    weight s.sto.ring + weight (fillPage 0 s.sto.gather).1 ≤ s.ringRoom → (s.mediaWrite w true).isSome = true →
    Completes (exec (.journalProgram w) s) (fun t =>
      t.sto.page = (fillPage 0 s.sto.gather).1 ∧ t.sto.gather = (fillPage 0 s.sto.gather).2 ∧ t.sto.ring = s.sto.ring ∧ SameBut [.sto] s t)) ∧
  (∀ s : State, Completes (exec .journalConfirm s) (fun t =>
      t.sto.page = [] ∧ t.sto.ring = s.sto.ring ++ s.sto.page ∧ t.sto.gather = s.sto.gather ∧
        (∀ q id recs mark, (q, JKind.flight id recs mark) ∈ s.sto.page → ∀ f ∈ t.col.flights, f.id = id → f.journal = true) ∧ SameBut [.sto, .col] s t)) ∧
  (∀ (s : State) (day stored : Nat) (w : MediaWrite), s.storeOpen = true → s.unset = false → s.sto.folded.contains day = false →
    (day + 1) * 86400 + s.nat Attr.StoreService.foldDelayH 0 * 3600 ≤ s.serviceSec → (s.mediaWrite w false).isSome = true →
    Completes (exec (.dayFold day stored w) s) (fun t =>
      day ∈ t.sto.folded ∧ t.sto.foldedSince = true ∧ t.sto.records = s.sto.records ∧
        (∀ hb ∈ s.dayBlocks day, Assoc.find (segKey hb day) t.sto.segments = some (s.dayCount hb day)) ∧ SameBut [.sto, .upd, .obj, .mbx, .twn] s t)) ∧
  (∀ (s : State) (hb day base : Nat) (w : MediaWrite), Assoc.find (segKey hb day) s.sto.segments = some base → s.storeOpen = true →
    base < 8 * (s.dayCount hb day - base) → (s.mediaWrite w false).isSome = true →
    Completes (exec (.deltaMerge hb day w) s) (fun t =>
      Assoc.find (segKey hb day) t.sto.segments = some (s.dayCount hb day) ∧ t.sto.records = s.sto.records ∧ SameBut [.sto, .upd, .twn] s t)) ∧
  (∀ (s : State) (w : MediaWrite) (x : Nat × JKind), s.journalOpen = true → (s.mediaWrite w true).isSome = true → s.sto.ring.getLast? = some x →
    s.sto.checkpoints = [] →
    Completes (exec (.checkpoint w) s) (fun t =>
      t.sto.checkpoints = [(x.1, [])] ∧ t.sto.foldedSince = false ∧ (∀ y ∈ t.sto.ring, y ∈ s.sto.ring) ∧
        (∀ y ∈ s.sto.ring, x.1 < y.1 → y ∈ t.sto.ring) ∧ SameBut [.sto] s t)) ∧
  (∀ (s : State) (target : Nat) (v : Nat × Block), s.storeOpen = true →
    (s.sto.collecting || s.sto.boost.isSome || decide (s.freeOutside < s.goodShare (s.nat Attr.StoreService.gcStartPct 0))) = true →
    s.freeOutside < s.goodShare s.gcTarget → s.victim = some v → (s.moveBlock v.1 target).isSome = true →
    Completes (exec (.garbageCollect target) s) (fun t =>
      (t.block v.1).free = true ∧ (t.block v.1).valid = 0 ∧ t.sto.records = s.sto.records ∧ SameBut [.sto, .obj, .mbx] s t)) ∧
  (∀ (s : State) (source failed target : Nat), s.cutOff 15 0 = false → failed < s.sto.total → (s.block failed).retired = false → (s.block failed).free = true →
    (s.block source).free = false → (s.block source).retired = false → failed ≠ target → (s.moveBlock source target).isSome = true →
    Completes (exec (.gcCopyRestart source failed target) s) (fun t =>
      (t.block failed).retired = true ∧ (t.block source).free = true ∧ t.sto.records = s.sto.records ∧ SameBut [.sto, .obj, .mbx, .recd] s t)) ∧
  (∀ (s : State) (source target : Nat), s.storeOpen = true → s.sto.blocks.length < s.sto.total → s.nat Attr.StoreService.wearSpread 0 < s.goodErases.foldl max 0 →
    (s.block source).erases < (s.block target).erases →
    s.sto.blocks.all (fun y => y.2.retired || y.2.free || decide ((s.block source).erases ≤ y.2.erases)) = true → (s.moveBlock source target).isSome = true →
    Completes (exec (.wearLevel source target) s) (fun t =>
      (t.block source).free = true ∧ (t.block source).valid = 0 ∧ t.sto.records = s.sto.records ∧ SameBut [.sto, .obj, .mbx] s t))

/-- Refresh, retirement, repair, retention and reading (R497, R514–R520, R525, R526): a block read with retry is relocated; a failed block without valid pages is retired; a
lost segment's records go; RESERVE is entered when nothing outside the reserve is free; days older than the retention are released; the store ends its life below 0.5 %
spare; GC_BOOST sets the target share; PROFILE_READ answers the versions held, whole intervals, at most 32,767 records. -/
def Obligations.StoreRetentionAndReads : Prop :=
  (∀ (s : State) (b reads age target : Nat), s.cutOff 15 0 = false → (s.moveBlock b target).isSome = true →
    Completes (exec (.blockRefresh b reads 0 age 0 true target) s) (fun t =>
      (t.block b).free = true ∧ (t.block b).valid = 0 ∧ t.sto.records = s.sto.records ∧ SameBut [.sto, .obj, .mbx] s t)) ∧
  (∀ (s : State) (b cause target : Nat), s.cutOff 15 0 = false → b < s.sto.total → (s.block b).retired = false → ((s.block b).free = true ∨ (s.block b).valid = 0) →
    Completes (exec (.blockRetired b cause target) s) (fun t =>
      (t.block b).retired = true ∧ (∀ k, k ≠ b → t.block k = s.block k) ∧ t.sto.records = s.sto.records ∧ SameBut [.sto, .obj, .mbx, .recd] s t)) ∧
  (∀ (s : State) (b hb day : Nat) (keys : List Nat), s.cutOff 15 0 = false → Assoc.has (segKey hb day) s.sto.segments = true →
    Completes (exec (.mediaRepair b hb day false keys) s) (fun t =>
      segKey hb day ∈ t.sto.lost ∧
        (∀ x ∈ s.sto.records, x ∈ t.sto.records ↔ ¬ (x.1 ∈ keys ∧ x.1 / 2 ^ 32 / 1024 = hb ∧ x.1 % 2 ^ 32 / 96 = day)) ∧
        SameBut [.sto, .obj, .mbx, .recd] s t)) ∧
  (∀ (s : State) (b hb day : Nat) (keys : List Nat), s.cutOff 15 0 = false → Assoc.has (segKey hb day) s.sto.segments = true →
    Completes (exec (.mediaRepair b hb day true keys) s) (fun t => t.sto = s.sto ∧ SameBut [.obj, .mbx, .recd] s t)) ∧
  (∀ s : State, s.storeOpen = true → s.freeOutside = 0 → s.sys.eraseHold = false →
    Completes (exec .mediaReserve s) (fun t =>
      t.nat Attr.StoreService.mediaState 0 = 2 ∧ t.sto.collecting = false ∧ t.sto.records = s.sto.records ∧ SameBut [.sto, .obj, .mbx, .recd] s t)) ∧
  (∀ (s : State) (day : Nat) (w : MediaWrite), s.cutOff 15 0 = false → day + s.nat Attr.StoreService.retentionDays 0 < s.today →
    Completes (exec (.retentionRelease day w) s) (fun t =>
      t.sto.records = s.sto.records.filter (fun x => decide (day < x.1 % 2 ^ 32 / 96)) ∧ t.sto.releasedTo = max s.sto.releasedTo (day + 1) ∧
        SameBut [.sto, .obj, .mbx, .recd, .twn] s t)) ∧
  (∀ (s : State) (hb day d : Nat) (accepting : List Nat) (w : MediaWrite), s.cutOff 15 0 = false → s.sys.eraseHold = false → s.freeOutside = 0 →
    s.nat Attr.StoreService.retentionPolicy 0 = 0 → s.nat Attr.StoreService.mediaState 0 ≠ 3 → s.oldestDay = some d →
    d + s.nat Attr.BillingService.minRetentionDays 0 < s.today →
    Completes (exec (.writeSpaceExhausted false hb day accepting w) s) (fun t =>
      t.sto.records = s.sto.records.filter (fun x => decide (d < x.1 % 2 ^ 32 / 96)) ∧ t.sto.releasedTo = max s.sto.releasedTo (d + 1) ∧
        SameBut [.sto, .obj, .mbx, .recd, .twn] s t)) ∧
  (∀ s : State, s.journalOpen = true → s.sto.total ≠ 0 → s.spareLeft < 50 →
    Completes (exec .endOfLife s) (fun t => t.nat Attr.StoreService.mediaState 0 = 3 ∧ t.sto = s.sto ∧ SameBut [.obj, .mbx, .recd] s t)) ∧
  (∀ (s : State) (c : Cmd) (n : Nat), s.Serves c n → c.opcode = 0x0B02 → s.nat Attr.StoreService.gcStopPct 0 ≤ octet c.payload 0 → octet c.payload 0 ≤ 40 →
    1 ≤ field c.payload 1 2 → field c.payload 1 2 ≤ 1440 → octet c.payload 3 = 0 → s.fcr.admitted = [] → s.fcr.deferred = [] →
    Completes (exec .gcBoost s) (fun t =>
      Answered s t c n .accepted [] ∧ t.sto.boost = some (octet c.payload 0) ∧ (∃ a ∈ t.fcr.admitted, a.kind = 2 ∧ a.arrival = c.arrival) ∧
        SameBut [.mbx, .fcr, .sto, .recd] s t)) ∧
  (∀ (s : State) (c : Cmd) (n h : Nat) (g : List (Nat × IRec) × Bool), s.Serves c n → c.opcode = 0x0B01 → c.target 0x0B10 = some h →
    1 ≤ field c.payload 4 2 → field c.payload 4 2 ≤ 32768 → octet c.payload 6 < 4 → octet c.payload 7 = 0 →
    let first := field c.payload 0 4
    let is := (s.sto.records.filter (fun x => x.1 / 2 ^ 32 == h && decide (first ≤ x.1 % 2 ^ 32) &&
      decide (x.1 % 2 ^ 32 < first + field c.payload 4 2))).map (fun x => x.1 % 2 ^ 32)
    is ≠ [] → gatherRecords (fun i => s.readVersions h i (bit (octet c.payload 6) 0) (bit (octet c.payload 6) 1)) h is 0 [] = g →
    s.sto.lost = [] → s.sto.peers = [] → g.1.length ≤ 100 →
    Completes (exec .profileRead s) (fun t =>
      Answered s t c n .ok (leBytes 4 g.1.length ++ leBytes 1 (4 * b2n (decide (first / 96 < s.sto.releasedTo)) + 8 * b2n g.2) ++ leBytes 3 0 ++
        g.1.reverse.flatMap (fun x => recBytes h x.1 x.2)) ∧ SameBut [.mbx] s t))

/-- The medium of a line port (R181–R185, R190, R191, R194, R196): after a busy medium a station with a waiting unit draws its count and contends, or defers where it is
beaten in the priority slots; an idle slot lowers the count, and at the end of it the head unit's frame starts; a collision in FULL_DUPLEX ends the frame and starts the
next attempt; an underrun resends the frame in full with a threshold raised by 512 up to 8,192; an acknowledgement OK ends the unit, a failed attempt is counted, and the
last one drops the unit; a partial unit is discarded alone. -/
def Obligations.LineMedium : Prop :=
  (∀ (s : State) (p q : Nat) (room : Bool), (s.port p).onAir = none → (s.port p).top = some q →
    Completes (exec (.mediumIdle p true room) s) (fun t => t.port p = { s.port p with busy := false, contending := false } ∧ SameBut [.lin] s t)) ∧
  (∀ (s : State) (p q : Nat), (s.port p).onAir = none → (s.port p).top = some q → (s.port p).backoff = none →
    Completes (exec (.mediumIdle p false false) s) (fun t =>
      t.port p = { s.port p with busy := false, contending := true, backoff := some (s.freeNat % contentionWindow (s.port p).attempt (q / 2)) } ∧
        (∀ r, r ≠ p → t.port r = s.port r) ∧ SameBut [.lin] s t)) ∧
  (∀ (s : State) (p n : Nat) (room : Bool), (s.port p).onAir = none → (s.port p).contending = true → (s.port p).backoff = some (n + 2) →
    Completes (exec (.backoffSlot p false room) s) (fun t =>
      t.port p = { s.port p with backoff := some (n + 1) } ∧ (∀ r, r ≠ p → t.port r = s.port r) ∧ SameBut [.lin] s t)) ∧
  (∀ (s : State) (p q : Nat) (u : TxUnit) (rest : List TxUnit), (s.port p).onAir = none → (s.port p).contending = true → (s.port p).backoff = some 1 →
    (s.port p).top = some q → (s.port p).queues.getD q [] = u :: rest → s.portTx p = true → s.avoids p (s.buildFrame p q u false) = false →
    Completes (exec (.backoffSlot p false true) s) (fun t =>
      t.port p = { s.port p with onAir := some (s.buildFrame p q u false), busy := true, contending := false, backoff := none } ∧ SameBut [.lin] s t)) ∧
  (∀ (s : State) (p : Nat) (f : OnAir), (s.port p).onAir = some f → s.portFullDuplex p = true → (decodeHeader f.header).duplex = false → (decodeHeader f.header).kind ≠ 0 →
    Completes (exec (.collision p) s) (fun t =>
      t.port p = { s.port p with onAir := none, undo := none, attempt := (s.port p).attempt + 1, backoff := none, contending := false } ∧
        t.nat Attr.LinePort.collisions p = (s.nat Attr.LinePort.collisions p + 1) % 2 ^ 32 ∧ SameBut [.lin, .obj, .mbx] s t)) ∧
  (∀ (s : State) (p : Nat) (f : OnAir), (s.port p).onAir = some f → f.cutThrough = true →
    Completes (exec (.underrun p false) s) (fun t =>
      t.port p = { s.port p with onAir := none, ctRun := 0 } ∧ t.nat Attr.LinePort.underruns p = (s.nat Attr.LinePort.underruns p + 1) % 2 ^ 32 ∧
        t.nat Attr.LinePort.ctThreshold p = min 8192 (s.nat Attr.LinePort.ctThreshold p + 512) ∧ SameBut [.lin, .obj, .mbx, .recd] s t)) ∧
  (∀ (s : State) (p : Nat) (f : OnAir), (s.port p).onAir = some f → f.cutThrough = true →
    Completes (exec (.underrun p true) s) (fun t => t.port p = { (s.port p).popHead f.queue with onAir := none } ∧ SameBut [.lin] s t)) ∧
  (∀ (s : State) (p result : Nat) (f : OnAir) (u : TxUnit) (rest : List TxUnit), (s.port p).onAir = some f → f.awaitAck = true → (s.port p).queues.getD f.queue [] = u :: rest →
    result = 0 ∨ result = 3 → u.producer = .none → u.acked.contains f.seg = false → segments u.body.length (s.nat Attr.LinePort.maxSegment p) = u.acked.length + 1 →
    Completes (exec (.ackFrameReceived p u.seq f.seg result none) s) (fun t =>
      t.port p = { (s.port p).popHead f.queue with onAir := none, attempt := 0, backoff := none } ∧ SameBut [.lin] s t)) ∧
  (∀ (s : State) (p result : Nat) (f : OnAir) (u : TxUnit) (rest : List TxUnit), (s.port p).onAir = some f → f.awaitAck = true → (s.port p).queues.getD f.queue [] = u :: rest →
    result = 1 ∨ result = 2 → u.attempts + 1 < s.nat Attr.LinePort.retryLimit p →
    Completes (exec (.ackFrameReceived p u.seq f.seg result none) s) (fun t =>
      t.port p = { (s.port p).setHead f.queue { u with attempts := u.attempts + 1 } with onAir := none, backoff := none, attempt := (s.port p).attempt + 1 } ∧
        SameBut [.lin] s t)) ∧
  (∀ (s : State) (p : Nat) (f : OnAir) (u : TxUnit) (rest : List TxUnit), (s.port p).onAir = some f → f.awaitAck = true → (s.port p).queues.getD f.queue [] = u :: rest →
    s.nat Attr.LinePort.retryLimit p ≤ u.attempts + 1 → u.producer = .none →
    Completes (exec (.segmentAckTimeout p) s) (fun t =>
      t.port p = { (s.port p).popHead f.queue with onAir := none, backoff := none, attempt := 0 } ∧
        t.nat Attr.LinePort.retriesExhausted p = (s.nat Attr.LinePort.retriesExhausted p + 1) % 2 ^ 32 ∧ SameBut [.lin, .obj, .mbx] s t)) ∧
  (∀ (s : State) (p c src seq : Nat),
    Completes (exec (.partialUnitDiscard p c src seq) s) (fun t =>
      t.port p = { s.port p with partials := (s.port p).partials.filter (fun q => !(q.cell == c && q.src16 == src && q.seq == seq)) } ∧
        (∀ r, r ≠ p → t.port r = s.port r) ∧ SameBut [.lin] s t))

/-- Beacons and leases of a line cell (R198, R199, R201, R203, R212–R214): each due beacon counts the sequence, and goes on the wire with its CMAC, or waits for the next
half-cycle; the fourth start not made is a miss, and the third miss in a row makes BEACON_LOST; a remote cell's feed goes to its relay node from queue 5; a new epoch
raises LEASE_EPOCH and starts the condition of R213 anew; a LEASE_ACK of the epoch is counted, and makes a lantern VALID; a lantern that does not answer is left out. -/
def Obligations.BeaconsAndLeases : Prop :=
  (∀ (s : State) (c p : Nat), c < 512 → p < 16 → s.isLine c = true → s.isPan c = false → s.nat Attr.LineCell.kind c = 0 → s.nat Attr.LineCell.port c = p → s.sys.mode ≠ .shadow →
    (s.port p).busy = false → (s.port p).onAir = none → s.portTx p = true → s.renews c = true → (s.cell c).restoring = false → s.nat Attr.LineCell.beaconState c = 0 →
    Completes (exec (.beaconDue c false) s) (fun t =>
      t.nat Attr.LineCell.beaconSeq c = (s.nat Attr.LineCell.beaconSeq c + 1) % 2 ^ 16 ∧ (t.port p).busy = true ∧
        (t.cell c).missed = 0 ∧ (t.cell c).slip = none ∧ (t.cell c).renewed = (s.cell c).renewed + 1 ∧ (t.cell c).noRenew = 0 ∧
        (∃ f, (t.port p).onAir = some f ∧ f.awaitAck = false ∧ f.body = (t.cell c).body ++ s.beaconCmac c (t.cell c).body) ∧
        (t.cell c).body.take 2 = beBytes 2 ((s.nat Attr.LineCell.beaconSeq c + 1) % 2 ^ 16) ∧ SameBut [.lin, .obj, .mbx, .sto, .twn] s t)) ∧
  (∀ (s : State) (c : Nat), s.isLine c = true → s.nat Attr.LineCell.kind c = 0 → s.sys.mode ≠ .shadow →
    Completes (exec (.beaconDue c true) s) (fun t =>
      t.nat Attr.LineCell.beaconSeq c = (s.nat Attr.LineCell.beaconSeq c + 1) % 2 ^ 16 ∧ t.cell c = { s.cell c with slip := some 1 } ∧ t.lin.ports = s.lin.ports ∧
        SameBut [.lin, .obj, .mbx, .sto, .twn] s t)) ∧
  (∀ (s : State) (c k : Nat), (s.cell c).slip = some k → k < 3 →
    Completes (exec (.beaconRetry c true) s) (fun t => t.cell c = { s.cell c with slip := some (k + 1) } ∧ t.lin.ports = s.lin.ports ∧ SameBut [.lin] s t)) ∧
  (∀ (s : State) (c k : Nat), s.isPan c = false → (s.cell c).slip = some k → 3 ≤ k → (s.cell c).missed = 0 → s.nat Attr.LineCell.beaconState c = 0 →
    Completes (exec (.beaconRetry c true) s) (fun t =>
      t.cell c = { s.cell c with missed := 1, slip := none, renewed := 0 } ∧ t.nat Attr.LineCell.beaconState c = 1 ∧
        t.nat Attr.LineCell.beaconsMissed c = min (s.nat Attr.LineCell.beaconsMissed c + 1) (2 ^ 32 - 1) ∧ SameBut [.lin, .obj, .mbx] s t)) ∧
  (∀ (s : State) (c k : Nat), s.isPan c = false → (s.cell c).slip = some k → 3 ≤ k → (s.cell c).missed = 2 → s.cellHandles c = [] →
    Completes (exec (.beaconRetry c true) s) (fun t =>
      t.cell c = { s.cell c with missed := 3, slip := none, renewed := 0 } ∧ t.nat Attr.LineCell.beaconState c = 2 ∧
        t.recd = s.recd.ordinary ⟨0x0501, objPath 0x0210 c, [(s.nat Attr.LineCell.port c : Int), (c : Int)]⟩ ∧ SameBut [.lin, .obj, .mbx, .recd] s t)) ∧
  (∀ (s : State) (c p : Nat), c < 512 → p < 16 → s.isLine c = true → s.nat Attr.LineCell.kind c = 1 → s.nat Attr.LineCell.port c = p → s.sys.mode ≠ .shadow → s.portTx p = true →
    (s.port p).queues.length = 8 →
    Completes (exec (.beaconFeed c) s) (fun t =>
      t.nat Attr.LineCell.beaconSeq c = (s.nat Attr.LineCell.beaconSeq c + 1) % 2 ^ 16 ∧
        (t.port p).queues.getD 5 [] = (s.port p).queues.getD 5 [] ++
          [{ kind := 5, cell := c, dst16 := 0, subkind := 6, body := (t.cell c).body, link := relayLink p c, producer := .feed c, secured := false,
             seq := (s.port p).nextSeq }] ∧
        (t.port p).nextSeq = ((s.port p).nextSeq + 1) % 4096 ∧ SameBut [.lin, .obj, .mbx, .sto, .twn] s t)) ∧
  (∀ (s : State) (c : Nat), c < 512 → s.isLine c = true → s.isPan c = false → s.portTx (s.nat Attr.LineCell.port c) = true → s.nat Attr.LineCell.beaconState c = 2 →
    Completes (exec (.leaseEpoch c) s) (fun t =>
      t.nat Attr.LineCell.leaseEpoch c = (s.nat Attr.LineCell.leaseEpoch c + 1) % 2 ^ 16 ∧ t.nat Attr.LineCell.beaconState c = 3 ∧
        t.cell c = { s.cell c with held := !s.leaseAble, restoring := true, missed := 0, renewed := 0, sinceEpoch := 0, acked := [], leftOut := [] } ∧
        SameBut [.lin, .obj, .mbx, .recd] s t)) ∧
  (∀ (s : State) (c h : Nat), s.isLine c = true → (s.cellHandles c).contains h = true → (s.cell c).restoring = false → s.nat Attr.EndpointProfile.role h ≠ 1 →
    Completes (exec (.leaseAck c h (s.nat Attr.LineCell.leaseEpoch c)) s) (fun t =>
      h ∈ (t.cell c).acked ∧ h ∉ (t.cell c).leftOut ∧ SameBut [.lin] s t)) ∧
  (∀ (s : State) (c h : Nat), c < 512 → s.isLine c = true → (s.cellHandles c).contains h = true → (s.cell c).restoring = false → s.nat Attr.EndpointProfile.role h = 1 →
    s.nat Attr.LineCell.beaconState c = 0 →
    Completes (exec (.leaseAck c h (s.nat Attr.LineCell.leaseEpoch c)) s) (fun t =>
      h ∈ (t.cell c).acked ∧ t.nat Attr.Lantern.leaseState h = 2 ∧ SameBut [.lin, .obj, .mbx, .recd, .lux, .col, .glv, .rad, .sto, .twn] s t)) ∧
  (∀ (s : State) (c h : Nat), (s.cell c).acked.contains h = false → (s.cellLanterns c).contains h = true → (s.cell c).restoring = false →
    Completes (exec (.leaseAckTimeout c h) s) (fun t =>
      h ∈ (t.cell c).leftOut ∧ bit (t.nat Attr.Lantern.faults h) 4 = true ∧ SameBut [.lin, .obj, .mbx, .recd] s t))

/-- Cells and short addresses (R204–R210): CELL_FORM forms a cell at its port with the period of its purpose, and dissolves one; an admission gives the endpoint its
address, its path and its link, and is refused with ADMIT_REFUSED and ADMIT_RESP to an EUI without a profile; SHORT_ADDRESS_RELEASE, LEAVE and the idle release free an
address, which is kept as released with its instant. -/
def Obligations.CellsAndAddresses : Prop :=
  (∀ (s : State) (c : Cmd) (n p cell slot purpose : Nat), s.Serves c n → c.opcode = 0x0210 → octet c.payload 0 = 1 → octet c.payload 1 = 0 →
    octet c.payload 2 = purpose → octet c.payload 3 = p → field c.payload 4 2 = cell → octet c.payload 6 = slot → purpose ≤ 1 → p ≤ 15 → cell ≤ 511 → slot ≤ 15 →
    s.fencedObject 0x0201 p = false → s.fusedOff 13 0 = false → s.nat Attr.LinePort.wiring p ≠ 0 → (s.localCells p).length < 16 →
    (s.instances 0x0210).countP (fun k => s.nat Attr.LineCell.kind k == 0) < s.localCellLimit → s.isLine cell = false → s.isPan cell = false →
    (s.localCells p).any (fun k => s.nat Attr.LineCell.beaconSlot k == slot) = false →
    Completes (exec .cellForm s) (fun t =>
      Answered s t c n .ok [] ∧ t.isLine cell = true ∧ t.nat Attr.LineCell.port cell = p ∧ t.nat Attr.LineCell.kind cell = 0 ∧
        t.nat Attr.LineCell.purpose cell = purpose ∧ t.nat Attr.LineCell.beaconSlot cell = slot ∧
        t.nat Attr.LineCell.beaconPeriodMs cell = (if purpose = 1 then 1000 else 8000) ∧
        t.recd = s.recd.ordinary ⟨0x0507, objPath 0x0210 cell, [(p : Int), (cell : Int), 0, (purpose : Int)]⟩ ∧ SameBut [.mbx, .obj, .lin, .recd] s t)) ∧
  (∀ (s : State) (c : Cmd) (n cell : Nat), s.Serves c n → c.opcode = 0x0210 → octet c.payload 0 = 2 → field c.payload 4 2 = cell → s.isLine cell = true →
    s.isPan cell = false → s.cellHandles cell = [] →
    Completes (exec .cellForm s) (fun t =>
      Answered s t c n .ok [] ∧ t.isLine cell = false ∧ Assoc.find cell t.lin.cells = none ∧ SameBut [.mbx, .obj, .lin, .recd] s t)) ∧
  (∀ (s : State) (c : Cmd) (n cell a h : Nat), s.Serves c n → c.opcode = 0x0211 → field c.payload 0 2 = cell → field c.payload 2 2 = a →
    Assoc.find (cell * 65536 + a) s.lin.addrs = some h → (s.primary h).any (fun r => r.cell == cell) = false →
    Completes (exec .shortAddressRelease s) (fun t =>
      Answered s t c n .ok [] ∧ Assoc.find (cell * 65536 + a) t.lin.addrs = none ∧ Assoc.find (cell * 65536 + a) t.lin.released = some s.tim.d3 ∧
        SameBut [.mbx, .obj, .lin, .recd, .elt, .que, .sto, .twn] s t)) ∧
  (∀ (s : State) (c : Cmd) (n cell a h : Nat) (pl : Place) (e : LEntry), s.Serves c n → c.opcode = 0x0211 → field c.payload 0 2 = cell → field c.payload 2 2 = a →
    Assoc.find (cell * 65536 + a) s.lin.addrs = some h → (s.primary h).any (fun r => r.cell == cell) = true →
    s.findEntry false (s.nat Attr.EndpointLocator.eui h) = some (pl, e) → e.handle = h →
    Completes (exec .shortAddressRelease s) (fun t =>
      Answered s t c n .ok [] ∧ Assoc.find (cell * 65536 + a) t.lin.addrs = none ∧ t.primary h = none ∧ t.secondary h = none ∧
        SameBut [.mbx, .obj, .lin, .recd, .elt, .que, .sto, .twn] s t)) ∧
  (∀ (s : State) (c eui h a : Nat), s.handleOf eui = some h → s.addrOf c h = some a → Assoc.find (c * 65536 + a) s.lin.addrs = some h →
    (s.primary h).any (fun r => r.cell == c) = false →
    Completes (exec (.leave c eui) s) (fun t =>
      Assoc.find (c * 65536 + a) t.lin.addrs = none ∧ Assoc.find (c * 65536 + a) t.lin.released = some s.tim.d3 ∧
        SameBut [.mbx, .obj, .lin, .recd, .elt, .que, .sto, .twn] s t)) ∧
  (∀ (s : State) (c a h : Nat), s.nat (s.cellAttr c Attr.LineCell.addressIdleDays Attr.RadioPan.addressIdleDays) c ≠ 0 →
    Assoc.find (c * 65536 + a) s.lin.addrs = some h → (s.primary h).any (fun r => r.cell == c) = false →
    Completes (exec (.addressIdleRelease c a) s) (fun t =>
      Assoc.find (c * 65536 + a) t.lin.addrs = none ∧ Assoc.find (c * 65536 + a) t.lin.released = some s.tim.d3 ∧
        SameBut [.mbx, .obj, .lin, .recd, .elt, .que, .sto, .twn] s t)) ∧
  (∀ (s : State) (c a : Nat), s.nat (s.cellAttr c Attr.LineCell.addressIdleDays Attr.RadioPan.addressIdleDays) c = 0 →
    Completes (exec (.addressIdleRelease c a) s) (fun t => t = s)) ∧
  (∀ (s : State) (r : AdmitReq) (p h a : Nat), r.cell < 512 → p < 16 → h < 2 ^ 21 → s.nat Attr.LineCell.port r.cell = p → s.isLine r.cell = true →
    s.isPan r.cell = false → s.nat Attr.LineCell.kind r.cell = 0 → s.flag Attr.LineCell.admissionOpen r.cell = true → s.portTx p = true → s.cutOff 8 0 = false →
    r.role = 0 → bit r.caps 5 = true → s.known r.eui = some h → s.nat Attr.EndpointProfile.role h ≠ 1 → s.primary h = none → s.addrOf r.cell h = none → s.freeAddr r.cell = some a →
    s.elt.locks = [] → s.elt.overflow.length < 16383 → s.findEntry false r.eui = none →
    Completes (exec (.admitReq r) s) (fun t =>
      Assoc.find (r.cell * 65536 + a) t.lin.addrs = some h ∧ t.primary h = some ⟨p, r.cell, a⟩ ∧ t.alive 0x0220 (endpointLink p h) = true ∧
        t.nat Attr.EndpointProfile.capabilities h = r.caps ∧ SameBut [.mbx, .obj, .lin, .recd, .elt, .que, .sto, .twn] s t)) ∧
  (∀ (s : State) (r : AdmitReq) (p : Nat), s.nat Attr.LineCell.port r.cell = p → s.isLine r.cell = true → s.isPan r.cell = false →
    s.nat Attr.LineCell.kind r.cell = 0 → s.flag Attr.LineCell.admissionOpen r.cell = true → s.portTx p = true → s.cutOff 8 0 = false → r.role ≠ 3 →
    s.known r.eui = none → (s.port p).queues.length = 8 →
    Completes (exec (.admitReq r) s) (fun t =>
      t.recd = s.recd.ordinary ⟨0x0504, objPath 0x0210 r.cell, [(p : Int), (r.cell : Int), 1, (r.eui : Int)]⟩ ∧
        (t.port p).queues.getD 5 [] = (s.port p).queues.getD 5 [] ++
          [{ kind := 3, cell := r.cell, dst16 := 0xFFFE, subkind := 1, secured := false, seq := (s.port p).nextSeq,
             body := beBytes 8 r.eui ++ beBytes 1 1 ++ [0] ++ beBytes 2 0 ++ beBytes 2 r.cell ++ beBytes 2 (s.nat Attr.LineCell.leaseEpoch r.cell) }] ∧
        SameBut [.lin, .recd] s t)) ∧
  (∀ (s : State) (r : AdmitReq) (p : Nat), s.nat Attr.LineCell.port r.cell = p → s.isLine r.cell = true → s.nat Attr.LineCell.kind r.cell = 1 →
    s.flag Attr.LineCell.admissionOpen r.cell = true → s.portTx p = true → s.cutOff 8 0 = false → r.role = 3 → s.nat Attr.LineCell.relayEui r.cell = r.eui →
    Completes (exec (.admitReq r) s) (fun t =>
      t.alive 0x0220 (relayLink p r.cell) = true ∧ (t.link (relayLink p r.cell)).fullDuplex = bit r.caps 2 ∧ (t.link (relayLink p r.cell)).zco = bit r.caps 0 ∧
        SameBut [.lin, .obj, .mbx] s t))

/-- The canceller of a lane (R153, R155–R159, R161, R177): below `fd_exit` the lane falls to HALF_DUPLEX with CANCEL_HALF; at `fd_enter` it returns with its taps kept as the
snapshot, which a divergence restores; a training ends in FULL_DUPLEX or HALF_DUPLEX by its ERLE; 2 s in HALF_DUPLEX, or CANCELLER_RETRAIN, start a training with a
SOUND frame of 64 symbols, and tracking sends one of 32; a clipped converter is counted, and reported while the lane does not transmit. -/
def Obligations.LaneCanceller : Prop :=
  (∀ (s : State) (l erle : Nat), s.nat Attr.LineLane.cancellerState l = 2 → erle < s.nat Attr.LineLane.fdExit l * 10 →
    Completes (exec (.cancelHalf l erle) s) (fun t =>
      t.nat Attr.LineLane.erle l = erle ∧ t.nat Attr.LineLane.cancellerState l = 3 ∧
        t.nat Attr.LineLane.halfDuplexEntries l = min (s.nat Attr.LineLane.halfDuplexEntries l + 1) (2 ^ 32 - 1) ∧
        (t.lane l).halfSince = some s.tim.d3 ∧ (t.lane l).taps = (s.lane l).taps ∧
        t.recd = s.recd.ordinary ⟨0x0401, objPath 0x0202 l, [(l : Int), (erle : Int)]⟩ ∧ (∀ m, m ≠ l → t.lane m = s.lane m) ∧ SameBut [.lin, .obj, .mbx, .recd] s t)) ∧
  (∀ (s : State) (l erle : Nat), s.nat Attr.LineLane.fdExit l * 10 ≤ erle →
    Completes (exec (.cancelHalf l erle) s) (fun t => t.nat Attr.LineLane.erle l = erle ∧ t.lin = s.lin ∧ SameBut [.obj, .mbx] s t)) ∧
  (∀ (s : State) (l erle : Nat) (taps : List Int), s.nat Attr.LineLane.cancellerState l = 3 → s.nat Attr.LineLane.fdEnter l * 10 ≤ erle →
    Completes (exec (.cancelFull l erle taps) s) (fun t =>
      t.nat Attr.LineLane.cancellerState l = 2 ∧ t.lane l = { s.lane l with taps := taps, snapshot := some taps, halfSince := none } ∧
        t.recd = s.recd.ordinary ⟨0x0402, objPath 0x0202 l, [(l : Int), (erle : Int)]⟩ ∧ SameBut [.lin, .obj, .mbx, .recd] s t)) ∧
  (∀ (s : State) (l erle : Nat) (taps : List Int), (s.lane l).snapshot = some taps →
    Completes (exec (.cancelDiverged l erle) s) (fun t =>
      t.lane l = { s.lane l with taps := taps } ∧ t.recd = s.recd.ordinary ⟨0x0403, objPath 0x0202 l, [(l : Int), (erle : Int)]⟩ ∧
        SameBut [.lin, .obj, .mbx, .recd] s t)) ∧
  (∀ (s : State) (l erle : Nat) (taps : List Int), (s.lane l).training = true →
    Completes (exec (.cancellerTrainingDone l erle taps) s) (fun t =>
      t.nat Attr.LineLane.erle l = erle ∧ (t.lane l).training = false ∧ (t.lane l).taps = taps ∧
        t.nat Attr.LineLane.cancellerState l = (if s.nat Attr.LineLane.fdEnter l * 10 ≤ erle then 2 else 3) ∧ SameBut [.lin, .obj, .mbx] s t)) ∧
  (∀ (s : State) (l t0 : Nat), (s.lane l).halfSince = some t0 → t0 + sec 2 ≤ s.tim.d3 → s.fcr.admitted = [] → s.fcr.deferred = [] → s.fcr.waiting = [] → s.mbx.taken = [] →
    (s.port (l / 3)).queues.length = 8 →
    Completes (exec (.retrainRequest l) s) (fun t =>
      (t.lane l).training = true ∧ (t.lane l).halfSince = none ∧ t.nat Attr.LineLane.cancellerState l = 1 ∧
        (∃ u, (t.port (l / 3)).queues.getD 0 [] = (s.port (l / 3)).queues.getD 0 [] ++ [u] ∧ u.kind = 4 ∧ u.body.length = 64) ∧
        SameBut [.lin, .obj, .mbx, .fcr, .recd] s t)) ∧
  (∀ (s : State) (c : Cmd) (n l : Nat), s.Serves c n → c.opcode = 0x0201 → octet c.payload 0 = l → l ≤ 47 → s.nat Attr.LineLane.cancellerState l ≠ 0 →
    s.fcr.admitted = [] → s.fcr.deferred = [] → (s.port (l / 3)).queues.length = 8 →
    Completes (exec .cancellerRetrain s) (fun t =>
      Answered s t c n .accepted [] ∧ (t.lane l).training = true ∧ t.nat Attr.LineLane.cancellerState l = 1 ∧
        (∃ u, (t.port (l / 3)).queues.getD 0 [] = (s.port (l / 3)).queues.getD 0 [] ++ [u] ∧ u.kind = 4 ∧ u.body.length = 64) ∧
        SameBut [.lin, .obj, .mbx, .fcr, .recd] s t)) ∧
  (∀ (s : State) (l : Nat), s.nat Attr.LineLane.cancellerState l = 3 → (s.port (l / 3)).queues.length = 8 →
    Completes (exec (.trackingSound l) s) (fun t =>
      (∃ u, (t.port (l / 3)).queues.getD 0 [] = (s.port (l / 3)).queues.getD 0 [] ++ [u] ∧ u.kind = 4 ∧ u.body.length = 32 ∧ u.seq = (s.port (l / 3)).nextSeq) ∧
        t.lin.lanes = s.lin.lanes ∧ SameBut [.lin] s t)) ∧
  (∀ (s : State) (l n : Nat), s.nat Attr.LineLane.cancellerState l ≠ 2 →
    Completes (exec (.adcClip l n false) s) (fun t =>
      t.nat Attr.LineLane.clipCount l = (s.nat Attr.LineLane.clipCount l + n) % 2 ^ 32 ∧ t.lin = s.lin ∧
        t.recd = s.recd.ordinary ⟨0x0404, objPath 0x0202 l, [(l : Int), (n : Int)]⟩ ∧ SameBut [.obj, .mbx, .recd] s t))

/-- The zero-crossing reference of a port (R169, R170, R172): an edge of its source enters the last 9, at its instant less the detector's delay; 8 in a row make the reference
valid; 4 missing edges raise ZC_LOST, and 2 s without one make it invalid. Recurring impulses (R163, R164) are counted over the last 256 half-cycles. -/
def Obligations.ZeroCrossing : Prop :=
  (∀ (s : State) (p t0 : Nat), s.zcUsers p = [p] → (s.port p).edges = [] → (s.port p).good = 0 →
    Completes (exec (.zcEdge p t0) s) (fun t =>
      (t.port p).edges = [t0 - s.nat Attr.LinePort.zcDelayNs p * 65536] ∧ (t.port p).good = 1 ∧ (t.port p).missing = 0 ∧
        t.flag Attr.LinePort.zcValid p = s.flag Attr.LinePort.zcValid p ∧ SameBut [.lin, .obj, .mbx] s t)) ∧
  (∀ (s : State) (p t0 e : Nat) (es : List Nat), s.zcUsers p = [p] → s.nat Attr.LinePort.zcDelayNs p = 0 → (s.port p).edges = e :: es →
    0 < zcPeriod (e :: es) → t0 = e + zcPeriod (e :: es) → (s.port p).zcLost = false → 7 ≤ (s.port p).good →
    Completes (exec (.zcEdge p t0) s) (fun t =>
      (t.port p).edges = (t0 :: e :: es).take 9 ∧ t.flag Attr.LinePort.zcValid p = true ∧
        t.nat Attr.LinePort.mainsPeriodNs p = zcPeriod ((t0 :: e :: es).take 9) / 65536 ∧ SameBut [.lin, .obj, .mbx] s t)) ∧
  (∀ (s : State) (p t0 e : Nat) (es : List Nat), s.zcUsers p = [p] → s.nat Attr.LinePort.zcDelayNs p = 0 → (s.port p).edges = e :: es →
    0 < zcPeriod (e :: es) → e ≤ t0 → 2 * (t0 - e) < zcPeriod (e :: es) →
    Completes (exec (.zcEdge p t0) s) (fun t => t = s)) ∧
  (∀ (s : State) (p : Nat), (s.port p).zcLost = false → (s.port p).edges ≠ [] →
    Completes (exec (.zcLost p) s) (fun t =>
      t.port p = { s.port p with zcLost := true, good := 0, missing := 4 } ∧ t.recd = s.recd.ordinary ⟨0x0405, objPath 0x0201 p, [(p : Int), 4]⟩ ∧
        SameBut [.lin, .recd] s t)) ∧
  (∀ (s : State) (p : Nat),
    Completes (exec (.zcInvalid p) s) (fun t =>
      t.flag Attr.LinePort.zcValid p = false ∧ t.port p = { s.port p with good := 0 } ∧ SameBut [.lin, .obj, .mbx] s t)) ∧
  (∀ (s : State) (p : Nat) (hit : List Nat) (snr : List (Nat × Bytes)),
    Completes (exec (.impulseLearnt p hit snr) s) (fun t =>
      (t.port p).hits = (hit :: (s.port p).hits).take 256 ∧
        (∀ q, q ∈ (t.port p).recurring ↔ q < 240 ∧ (128 ≤ ((hit :: (s.port p).hits).take 256).countP (fun l => l.contains q) ∨
          (q ∈ (s.port p).recurring ∧ 64 ≤ ((hit :: (s.port p).hits).take 256).countP (fun l => l.contains q)))) ∧
        SameBut [.lin, .obj, .mbx, .recd] s t))

/-- Frames received on a line port (R131, R132, R139, R190, R192): a header whose HCRC fails is counted on its link alone; a segment with a failed codeword or FCS is acknowledged
BAD, a repeat DUP, and any other OK, and kept; the peer's tone maps go into the set that the last frame did not name, with an age of 0, and the acknowledgement names it;
maps of 120 s make the link use ROBUST. -/
def Obligations.LineReception : Prop :=
  (∀ (s : State) (x : LineRx), (s.portLanes x.port).contains x.lane = true → s.cutOff 5 x.port = false → s.cutOff 4 x.lane = false → headerGood x.header = false →
    s.linkOf x.port (decodeHeader x.header).cell (decodeHeader x.header).src = none →
    Completes (exec (.lineFrameReceived x) s) (fun t => t.port x.port = { s.port x.port with busy := true } ∧ SameBut [.lin] s t)) ∧
  (∀ (s : State) (x : LineRx) (k : Nat), (s.portLanes x.port).contains x.lane = true → s.cutOff 5 x.port = false → s.cutOff 4 x.lane = false →
    headerGood x.header = false → s.linkOf x.port (decodeHeader x.header).cell (decodeHeader x.header).src = some k → s.alive 0x0220 k = true →
    Completes (exec (.lineFrameReceived x) s) (fun t =>
      t.nat Attr.LineLink.headerErrors k = min (s.nat Attr.LineLink.headerErrors k + 1) (2 ^ 32 - 1) ∧ SameBut [.lin, .obj, .mbx] s t)) ∧
  (∀ (s : State) (x : LineRx), x.port < 16 → (s.portLanes x.port).contains x.lane = true → s.cutOff 4 x.lane = false → headerGood x.header = true →
    s.portTx x.port = true → (decodeHeader x.header).kind = 3 → (decodeHeader x.header).tmi = 0 → (decodeHeader x.header).group = false →
    s.isLine (decodeHeader x.header).cell = true → s.nat Attr.LineCell.port (decodeHeader x.header).cell = x.port →
    (∀ k, s.linkOf x.port (decodeHeader x.header).cell (decodeHeader x.header).src = some k → k < 2 ^ 26) →
    x.failed = 0 → payloadFcsGood x.body = true → (s.port x.port).repeated s.tim.d3 (decodeHeader x.header).cell (decodeSub x.body) = false →
    Completes (exec (.lineFrameReceived x) s) (fun t =>
      (t.port x.port).ackOut = some ((decodeSub x.body).seq, (decodeSub x.body).seg, 0, none) ∧
        ((decodeHeader x.header).cell, (decodeSub x.body).src16, (decodeSub x.body).seq, (decodeSub x.body).seg, s.tim.d3) ∈ (t.port x.port).repeats ∧
        SameBut [.lin, .obj, .mbx, .col] s t)) ∧
  (∀ (s : State) (x : LineRx), x.port < 16 → (s.portLanes x.port).contains x.lane = true → s.cutOff 4 x.lane = false → headerGood x.header = true →
    s.portTx x.port = true → (decodeHeader x.header).kind = 1 ∨ (decodeHeader x.header).kind = 3 ∨ (decodeHeader x.header).kind = 5 →
    (decodeHeader x.header).tmi = 0 → (decodeHeader x.header).group = false → s.isLine (decodeHeader x.header).cell = true →
    s.nat Attr.LineCell.port (decodeHeader x.header).cell = x.port →
    (∀ k, s.linkOf x.port (decodeHeader x.header).cell (decodeHeader x.header).src = some k → k < 2 ^ 26) →
    x.failed = 0 → payloadFcsGood x.body = true → (s.port x.port).repeated s.tim.d3 (decodeHeader x.header).cell (decodeSub x.body) = true →
    Completes (exec (.lineFrameReceived x) s) (fun t =>
      (t.port x.port).ackOut = some ((decodeSub x.body).seq, (decodeSub x.body).seg, 3, none) ∧ (t.port x.port).repeats = (s.port x.port).repeats ∧
        SameBut [.lin, .obj, .mbx] s t)) ∧
  (∀ (s : State) (x : LineRx), x.port < 16 → (s.portLanes x.port).contains x.lane = true → s.cutOff 4 x.lane = false → headerGood x.header = true →
    s.portTx x.port = true → (decodeHeader x.header).kind = 1 ∨ (decodeHeader x.header).kind = 3 ∨ (decodeHeader x.header).kind = 5 →
    (decodeHeader x.header).tmi = 0 → (decodeHeader x.header).group = false → s.isLine (decodeHeader x.header).cell = true →
    s.nat Attr.LineCell.port (decodeHeader x.header).cell = x.port →
    (∀ k, s.linkOf x.port (decodeHeader x.header).cell (decodeHeader x.header).src = some k → k < 2 ^ 26) →
    (x.failed ≠ 0 ∨ payloadFcsGood x.body = false) → s.flag Attr.LinePort.deliverBad x.port = false →
    Completes (exec (.lineFrameReceived x) s) (fun t =>
      (t.port x.port).ackOut = some ((decodeSub x.body).seq, (decodeSub x.body).seg, 1, none) ∧ (t.port x.port).partials = (s.port x.port).partials ∧
        SameBut [.lin, .obj, .mbx] s t)) ∧
  (∀ (s : State) (k set p : Nat) (ms : List ToneMap), s.alive 0x0220 k = true → set ≤ 1 → set ≠ (s.link k).lastSet → k / 2 ^ 21 % 16 = p →
    Completes (exec (.toneMap k set ms) s) (fun t =>
      t.link k = (if set = 0 then { s.link k with set0 := putMaps (s.link k).set0 ms } else { s.link k with set1 := putMaps (s.link k).set1 ms }) ∧
        t.nat Attr.LineLink.toneMapAge k = 0 ∧ (t.port p).ackOut = (s.port p).ackOut.map (fun a => (a.1, a.2.1, a.2.2.1, some set)) ∧
        SameBut [.lin, .obj, .mbx] s t)) ∧
  (∀ (s : State) (k age : Nat) (snr : List (Nat × Bytes)), s.alive 0x0220 k = true → age ≤ 30 →
    Completes (exec (.toneMapAge k age snr) s) (fun t => t.nat Attr.LineLink.toneMapAge k = age ∧ SameBut [.obj, .mbx] s t)) ∧
  (∀ (s : State) (k age : Nat) (snr : List (Nat × Bytes)), s.alive 0x0220 k = true → 120 ≤ age →
    Completes (exec (.toneMapAge k age snr) s) (fun t =>
      t.nat Attr.LineLink.toneMapAge k = age ∧ (t.link k).mapsValid = false ∧ (t.link k).rxSet = 1 - (s.link k).txSet ∧ SameBut [.lin, .obj, .mbx] s t))

/-- Radio ports (R221, R225, R230–R232, R237, R238, R249): loss of the word boundary is counted and recorded, a word lock restores it; a cut-off port has its amplifiers off,
its frame charged up to the cut; a frame with a bad FCS is counted and goes nowhere, a wireless M-Bus frame in another security mode too; a repeat is answered as
before; a mesh frame is answered, and its source's sequence kept; an association enters the endpoint's address and path, or is refused with status 2;
BAND_PROFILE_LOAD writes a profile of 3 to 7 that no port uses. -/
def Obligations.RadioPorts : Prop :=
  (∀ (s : State) (n : Nat), (s.rport n).locked = true →
    Completes (exec (.rxSyncLost n) s) (fun t =>
      t.rport n = { s.rport n with locked := false } ∧ t.nat Attr.RadioPort.syncLosses n = (s.nat Attr.RadioPort.syncLosses n + 1) % 2 ^ 32 ∧
        t.recd = s.recd.ordinary ⟨0x0601, objPath 0x0301 n, [(n : Int), ((s.nat Attr.RadioPort.syncLosses n + 1) % 2 ^ 32 : Nat)]⟩ ∧
        SameBut [.rad, .obj, .mbx, .recd] s t)) ∧
  (∀ (s : State) (n : Nat),
    Completes (exec (.radioWordLock n) s) (fun t =>
      t.rport n = { s.rport n with locked := true } ∧ (∀ m, m ≠ n → t.rport m = s.rport m) ∧ SameBut [.rad] s t)) ∧
  (∀ (s : State) (n us : Nat), s.cutOff 6 n = true ∨ s.sys.mode = .holdup ∨ s.sys.stalemate = true → (s.rport n).onAir = none →
    Completes (exec (.txCut n us) s) (fun t =>
      t.rport n = { s.rport n with onAir := none, paEn := false, lnaEn := false, answer := none } ∧ SameBut [.rad] s t)) ∧
  (∀ (s : State) (n us q a i : Nat) (f : RadioTx), s.cutOff 6 n = true ∨ s.sys.mode = .holdup ∨ s.sys.stalemate = true → (s.rport n).onAir = some (f, q, a, i) →
    Completes (exec (.txCut n us) s) (fun t =>
      t.rport n = { s.rport n with onAir := none, paEn := false, lnaEn := false, answer := none } ∧
        t.arr Attr.ChessLedger.buckets i =
          (s.arr Attr.ChessLedger.buckets i).set (s.bucketNow i) (min ((s.arr Attr.ChessLedger.buckets i).getD (s.bucketNow i) 0 + us) 0xFFFFFFFF) ∧
        t.recd = s.recd.ordinary ⟨0x0606, objPath 0x0301 n, [(n : Int), (us : Int)]⟩ ∧ SameBut [.rad, .obj, .mbx, .recd] s t)) ∧
  (∀ (s : State) (x : RadioRx), s.radioTx x.port = true → (s.rport x.port).locked = true → (s.rport x.port).paEn = false → s.isPan x.cell = true →
    s.nat Attr.RadioPan.port x.cell = x.port → x.fcsOk = false →
    Completes (exec (.radioFrameReceived x) s) (fun t =>
      t.nat Attr.RadioPort.framesRx x.port = (s.nat Attr.RadioPort.framesRx x.port + 1) % 2 ^ 64 ∧
        t.nat Attr.RadioPort.framesDiscarded x.port = (s.nat Attr.RadioPort.framesDiscarded x.port + 1) % 2 ^ 32 ∧ SameBut [.obj, .mbx] s t)) ∧
  (∀ (s : State) (x : RadioRx), s.radioTx x.port = true → (s.rport x.port).locked = true → (s.rport x.port).paEn = false → s.isPan x.cell = true →
    s.nat Attr.RadioPan.port x.cell = x.port → s.nat Attr.RadioPort.standard x.port = 2 → x.fcsOk = true → x.modeSwitch = false → x.security ≠ 5 → x.security ≠ 7 →
    Completes (exec (.radioFrameReceived x) s) (fun t =>
      t.nat Attr.RadioPort.insecureFrames x.port = (s.nat Attr.RadioPort.insecureFrames x.port + 1) % 2 ^ 32 ∧ SameBut [.obj, .mbx] s t)) ∧
  (∀ (s : State) (x : RadioRx) (at3 : Nat) (ans : Option RadioTx), s.radioTx x.port = true → (s.rport x.port).locked = true → (s.rport x.port).paEn = false →
    s.isPan x.cell = true → s.nat Attr.RadioPan.port x.cell = x.port → s.nat Attr.RadioPort.standard x.port = 1 → x.fcsOk = true → x.modeSwitch = false →
    (s.rport x.port).repeats = [(rxSource x, extendSeq ((Assoc.find (rxSource x) (s.rport x.port).lastSeq).getD 0) x.seq, at3, ans)] → s.tim.d3 ≤ at3 + sec 10 →
    Completes (exec (.radioFrameReceived x) s) (fun t => t.rport x.port = { s.rport x.port with answer := ans } ∧ SameBut [.rad, .obj, .mbx] s t)) ∧
  (∀ (s : State) (x : RadioRx), x.port < 16 → s.radioTx x.port = true → (s.rport x.port).locked = true → (s.rport x.port).paEn = false → s.isPan x.cell = true →
    s.nat Attr.RadioPan.port x.cell = x.port → s.nat Attr.RadioPort.standard x.port = 1 → x.fcsOk = true → x.modeSwitch = false → x.mesh = true →
    (s.rport x.port).repeats = [] →
    Completes (exec (.radioFrameReceived x) s) (fun t =>
      (t.rport x.port).answer = some { cell := x.cell, dst16 := x.short, body := [BitVec.ofNat 8 x.seq] } ∧
        Assoc.find (rxSource x) (t.rport x.port).lastSeq = some (extendSeq ((Assoc.find (rxSource x) (s.rport x.port).lastSeq).getD 0) x.seq) ∧
        SameBut [.rad, .obj, .mbx, .que, .recd] s t)) ∧
  (∀ (s : State) (c n eui metric : Nat), s.isPan c = true → s.nat Attr.RadioPan.port c = n → s.flag Attr.RadioPan.admissionOpen c = true → s.radioTx n = true →
    s.nat Attr.RadioPort.standard n = 1 → s.cutOff 8 0 = false → s.handleOf eui = none → (s.rport n).queues.length = 8 →
    Completes (exec (.associationRequest c eui metric) s) (fun t =>
      (t.rport n).queues.getD 5 [] = (s.rport n).queues.getD 5 [] ++
        [{ cell := c, dst16 := 0xFFFE, body := leBytes 1 2 ++ leBytes 2 0xFFFF ++ leBytes 8 eui }] ∧ SameBut [.rad] s t)) ∧
  (∀ (s : State) (c n eui metric h a : Nat), c < 512 → h < 2 ^ 21 → n < 16 → s.isPan c = true → s.isLine c = false → s.nat Attr.RadioPan.port c = n →
    s.flag Attr.RadioPan.admissionOpen c = true → s.radioTx n = true → s.nat Attr.RadioPort.standard n = 1 → s.cutOff 8 0 = false → s.handleOf eui = some h →
    s.known eui = some h → s.nat Attr.EndpointProfile.role h = 0 → bit (s.nat Attr.EndpointProfile.capabilities h) 5 = true → s.primary h = none →
    s.addrOf c h = none → s.freeAddr c = some a → s.elt.locks = [] → s.elt.overflow.length < 16383 → s.findEntry false eui = none →
    Completes (exec (.associationRequest c eui metric) s) (fun t =>
      Assoc.find (c * 65536 + a) t.lin.addrs = some h ∧ t.primary h = some ⟨16 + n, c, a⟩ ∧ SameBut [.rad, .lin, .obj, .mbx, .recd, .elt, .que, .sto, .twn] s t)) ∧
  (∀ (s : State) (c : Cmd) (n i k : Nat) (es : List Bytes), s.Serves c n → c.opcode = 0x0301 → octet c.data 0 = i → octet c.data 1 = k → 3 ≤ i → i ≤ 7 → 1 ≤ k → k ≤ 16 →
    field c.data 2 2 = 0 → c.data.length = 4 + 24 * k → es = (List.range k).map (fun j => slice c.data (4 + 24 * j) 24) → es.all bandLegal = true →
    es.Pairwise (fun x y => bandsOverlap y x = false) → (∀ p < 16, s.nat Attr.RadioPort.bandProfile p ≠ i) →
    Completes (exec .bandProfileLoad s) (fun t =>
      Answered s t c n .ok [] ∧ t.attr Attr.BandProfile.entries i = .bytes (c.data.drop 4) ∧
        t.recd = s.recd.ordinary ⟨0x0605, objPath 0x0302 i, [(i : Int), (k : Int)]⟩ ∧ SameBut [.mbx, .obj, .recd] s t))

/-- The chess clock (R223, R233–R236, R239–R242, R245): a frame that its band's ledger has room for goes on air with its amplifiers switched, a longer one than
`max_frame_ms` or one over the budget is dropped, the latter counted and recorded; the measured airtime is charged to the current bucket; a bucket's end empties the
next one and persists the ledger; a radio beacon goes on air, or waits 1 ms. -/
def Obligations.ChessClock : Prop :=
  (∀ (s : State) (n q a i : Nat) (b : Bytes) (f : RadioTx) (rest : List RadioTx), s.radioTx n = true → s.nat Attr.RadioPort.standard n = 1 → (s.rport n).onAir = none →
    (s.rport n).top = some q → (s.rport n).queues.getD q [] = f :: rest → s.ledgerOf n = some (i, b) → a ≤ field b 14 2 * 1000 → (s.rport n).lastEnd = none →
    budgetAllows (if q < 2 then .bulk else .prompt) (s.nat Attr.ChessLedger.usedUs i) a (bandBudget b) (octet b 18) (s.nat Attr.RadioPort.bulkLimitPct n) = true →
    Completes (exec (.chessClockAdmit n false a false) s) (fun t =>
      t.rport n = { s.rport n with queues := (s.rport n).queues.set q rest, onAir := some (f, q, a, i), paEn := true, lnaEn := false } ∧
        t.rad.spi = s.rad.spi ++ [(n, 0)] ∧ SameBut [.rad] s t)) ∧
  (∀ (s : State) (n q a i : Nat) (b : Bytes) (f : RadioTx) (rest : List RadioTx), s.radioTx n = true → s.nat Attr.RadioPort.standard n = 1 → (s.rport n).onAir = none →
    (s.rport n).top = some q → (s.rport n).queues.getD q [] = f :: rest → f.producer = .none → s.ledgerOf n = some (i, b) → a ≤ field b 14 2 * 1000 →
    (s.rport n).lastEnd = none →
    budgetAllows (if q < 2 then .bulk else .prompt) (s.nat Attr.ChessLedger.usedUs i) a (bandBudget b) (octet b 18) (s.nat Attr.RadioPort.bulkLimitPct n) = false →
    Completes (exec (.chessClockAdmit n false a false) s) (fun t =>
      t.rport n = { s.rport n with queues := (s.rport n).queues.set q rest } ∧
        t.nat Attr.RadioPort.refusals n = min (s.nat Attr.RadioPort.refusals n + 1) (2 ^ 32 - 1) ∧
        t.recd = s.recd.ordinary ⟨0x0604, objPath 0x0301 n, [(n : Int), ((if 256 ≤ i then i - 256 else i % 16 : Nat) : Int), (q : Int)]⟩ ∧
        SameBut [.rad, .obj, .mbx, .recd] s t)) ∧
  (∀ (s : State) (n q a i : Nat) (b : Bytes) (f : RadioTx) (rest : List RadioTx), s.radioTx n = true → s.nat Attr.RadioPort.standard n = 1 → (s.rport n).onAir = none →
    (s.rport n).top = some q → (s.rport n).queues.getD q [] = f :: rest → f.producer = .none → s.ledgerOf n = some (i, b) → field b 14 2 * 1000 < a →
    Completes (exec (.chessClockAdmit n false a false) s) (fun t =>
      t.rport n = { s.rport n with queues := (s.rport n).queues.set q rest } ∧ t.rad.spi = s.rad.spi ∧ SameBut [.rad] s t)) ∧
  (∀ (s : State) (n us q a i : Nat) (f : RadioTx), (s.rport n).onAir = some (f, q, a, i) → f.producer = .none →
    Completes (exec (.radioTxEnd n us) s) (fun t =>
      t.rport n = { s.rport n with onAir := none, paEn := false, lnaEn := true, lastEnd := some s.tim.d3 } ∧ t.rad.spi = s.rad.spi ++ [(n, 1)] ∧
        t.arr Attr.ChessLedger.buckets i =
          (s.arr Attr.ChessLedger.buckets i).set (s.bucketNow i) (min ((s.arr Attr.ChessLedger.buckets i).getD (s.bucketNow i) 0 + us) 0xFFFFFFFF) ∧
        SameBut [.rad, .obj, .mbx] s t)) ∧
  (∀ (s : State) (i : Nat),
    Completes (exec (.ledgerBucketEnd i) s) (fun t =>
      t.bucketNow i = (s.bucketNow i + 1) % 64 ∧ t.arr Attr.ChessLedger.buckets i = (s.arr Attr.ChessLedger.buckets i).set ((s.bucketNow i + 1) % 64) 0 ∧
        t.nat Attr.ChessLedger.usedUs i = ((s.arr Attr.ChessLedger.buckets i).set ((s.bucketNow i + 1) % 64) 0).sum.toNat ∧
        Assoc.find i t.rad.persisted = some (t.arr Attr.ChessLedger.buckets i) ∧ SameBut [.rad, .obj, .mbx, .sto, .twn] s t)) ∧
  (∀ (s : State) (c n k a i : Nat) (b : Bytes), s.isPan c = true → s.nat Attr.RadioPan.port c = n → s.nat Attr.RadioPort.standard n = 1 → s.radioTx n = true →
    s.sys.mode ≠ .shadow → (s.rport n).onAir = none → s.ledgerOf n = some (i, b) → a ≤ field b 14 2 * 1000 → (s.rport n).lastEnd = none →
    budgetAllows .beacon (s.nat Attr.ChessLedger.usedUs i) a (bandBudget b) (octet b 18) (s.nat Attr.RadioPort.bulkLimitPct n) = true →
    s.nat Attr.RadioPan.beaconState c ≠ 2 →
    Completes (exec (.radioBeaconDue c k a false) s) (fun t =>
      (∃ f, (t.rport n).onAir = some (f, 7, a, i) ∧ f.beacon = true ∧ f.cell = c ∧ f.dst16 = 0xFFFF) ∧ (t.rport n).paEn = true ∧
        (t.cell c).missed = 0 ∧ (t.cell c).slip = none ∧ (t.cell c).seq = (if k = 0 then ((s.cell c).seq + 1) % 65536 else (s.cell c).seq) ∧
        t.nat Attr.RadioPan.beaconState c = 0 ∧ SameBut [.rad, .lin, .obj, .mbx] s t)) ∧
  (∀ (s : State) (c n k a : Nat), s.isPan c = true → s.nat Attr.RadioPan.port c = n → s.nat Attr.RadioPort.standard n = 1 → s.radioTx n = true →
    s.sys.mode ≠ .shadow → (s.rport n).onAir.isSome = true → k < 5 →
    Completes (exec (.radioBeaconDue c k a true) s) (fun t =>
      (t.cell c).slip = some (k + 1) ∧ (t.cell c).missed = (s.cell c).missed ∧ SameBut [.lin] s t))

/-- Learning and aging (R269–R275, R281–R283): a sighting of an EUI without an endpoint is dropped, the first of an endpoint sets its primary path, another path in the guard window becomes
the secondary one; the window's end clears the guard; aging counts an entry up and removes it at the limit, and passes a locked bucket by. -/
def Obligations.LocatorEntries : Prop :=
  (∀ (s : State) (x : Sighting) (rest : List Sighting), s.elt.queue = x :: rest → x.frame = none → s.cutOff 8 0 = false → s.handleOf x.key = none →
    Completes (exec .learningCommit s) (fun t => t.elt = { s.elt with queue := rest } ∧ SameBut [.elt] s t)) ∧
  (∀ (s : State) (x : Sighting) (rest : List Sighting) (h : Nat), s.elt.queue = x :: rest → x.frame = none → s.cutOff 8 0 = false → s.handleOf x.key = some h →
    s.primary h = none → s.findEntry false x.key = none → x.port ≠ 63 → h < 2 ^ 21 → s.elt.locks = [] → s.elt.overflow.length < 16383 →
    Completes (exec .learningCommit s) (fun t =>
      t.elt.queue = rest ∧ t.primary h = some ⟨x.port, x.cell, x.short⟩ ∧ Assoc.find h t.elt.guardAt = some s.tim.d3 ∧ t.lin = s.lin ∧
        SameBut [.elt, .obj, .mbx, .recd, .que, .sto, .twn] s t)) ∧
  (∀ (s : State) (x : Sighting) (rest : List Sighting) (h : Nat) (pl : Place) (e : LEntry) (old : Route), s.elt.queue = x :: rest → x.frame = none →
    s.cutOff 8 0 = false → s.handleOf x.key = some h → s.elt.locks = [] → s.findEntry false x.key = some (pl, e) → e.guard = true → s.primary h = some old →
    ¬ (old.port = x.port ∧ old.cell = x.cell) → s.secondary h = none → x.port ≠ 63 →
    Completes (exec .learningCommit s) (fun t =>
      t.elt.queue = rest ∧ t.primary h = some old ∧ t.secondary h = some ⟨x.port, x.cell, noShort⟩ ∧ t.elt.buckets = s.elt.buckets ∧
        SameBut [.elt, .obj, .mbx, .sto, .twn] s t)) ∧
  (∀ (s : State) (h : Nat) (pl : Place) (e : LEntry), Assoc.has h s.elt.guardAt = true → s.findEntry false (s.nat Attr.EndpointLocator.eui h) = some (pl, e) →
    Completes (exec (.learnGuardEnd h) s) (fun t =>
      Assoc.find h t.elt.guardAt = none ∧ t.atPlace pl = some { e with guard := false } ∧ SameBut [.elt, .obj, .mbx, .recd, .que] s t)) ∧
  (∀ (s : State) (k : Nat) (e : LEntry), s.cutOff 8 0 = false → Assoc.find k s.elt.overflow = some e → e.isAlias = false → s.nat Attr.LocatorTable.agingLimit 0 = 0 →
    Completes (exec (.agingVisit true k) s) (fun t =>
      Assoc.find k t.elt.overflow = some { e with age := min (e.age + 1) 255 } ∧ t.nat Attr.EndpointLocator.age e.handle = min (e.age + 1) 255 ∧
        t.elt.buckets = s.elt.buckets ∧ SameBut [.elt, .obj, .mbx] s t)) ∧
  (∀ (s : State) (k : Nat) (e : LEntry), s.cutOff 8 0 = false → Assoc.find k s.elt.overflow = some e → e.isAlias = false → s.pinned e.handle = false →
    s.nat Attr.LocatorTable.agingLimit 0 ≠ 0 → s.nat Attr.LocatorTable.agingLimit 0 ≤ min (e.age + 1) 255 →
    Completes (exec (.agingVisit true k) s) (fun t =>
      Assoc.find k t.elt.overflow = none ∧ t.primary e.handle = none ∧ SameBut [.elt, .obj, .mbx, .recd, .que, .lin, .sto, .twn] s t)) ∧
  (∀ (s : State) (k : Nat) (e : LEntry), s.cutOff 8 0 = false → s.lockedBy none k = false → s.bucket k = [some e, none, none, none] → s.elt.overflow = [] →
    e.isAlias = false → s.nat Attr.LocatorTable.agingLimit 0 = 0 →
    Completes (exec (.agingVisit false k) s) (fun t =>
      t.bucket k = [some { e with age := min (e.age + 1) 255 }, none, none, none] ∧ (∀ j, j ≠ k → t.bucket j = s.bucket j) ∧ SameBut [.elt, .obj, .mbx] s t)) ∧
  (∀ (s : State) (k : Nat), s.lockedBy none k = true → Completes (exec (.agingVisit false k) s) (fun t => t = s))

/-- The table's upkeep (R286, R287, R289–R292): a bucket that differs from its shadow is repaired, and one that DRAM lost is read from it; a lock is released at its timeout; a descriptor that has
waited too long ends; a rebuild draws new seeds and, done, puts them in force; a change record enters the shadow. -/
def Obligations.LocatorTable : Prop :=
  (∀ (s : State) (b : Nat) (crc : Bool), s.elt.heldLookup = none → s.lockedBy none b = false → s.changesPending b = false →
    ageless (s.bucket b) ≠ ageless (s.shadowBucket b) →
    Completes (exec (.shadowCompare b crc) s) (fun t =>
      (if crc then t.bucket b = s.shadowBucket b ∧ t.elt.shadow = s.elt.shadow else t.shadowBucket b = s.bucket b ∧ t.elt.buckets = s.elt.buckets) ∧
        t.nat Attr.LocatorTable.repairs 0 = (s.nat Attr.LocatorTable.repairs 0 + 1) % 2 ^ 32 ∧
        t.recd = s.recd.ordinary ⟨0x0806, objPath 0x0402 0, [(b : Int), if crc then 0 else 1]⟩ ∧ SameBut [.elt, .obj, .mbx, .recd] s t)) ∧
  (∀ (s : State) (b : Nat) (key : Option Nat) (p c short metric : Nat) (x : Secured),
    Completes (exec (.bucketDramError b key p c short metric x) s) (fun t =>
      t.elt = { s.elt with heldLookup := some ⟨b, key, p, c, short, metric, x⟩ } ∧ SameBut [.elt] s t)) ∧
  (∀ s : State, Completes (exec .lookupUnresolved s) (fun t => t.elt = { s.elt with heldLookup := none } ∧ SameBut [.elt] s t)) ∧
  (∀ (s : State) (b : Nat) (l : BucketLock), s.elt.locks.find? (fun l => l.bucket == b) = some l →
    Completes (exec (.lockTimeout b) s) (fun t =>
      t.lockedBy none b = false ∧ (b, l.arrival) ∈ t.elt.expired ∧ t.elt.lockTimeouts = min (s.elt.lockTimeouts + 1) 0xFFFFFFFF ∧
        t.recd = s.recd.ordinary ⟨0x0805, objPath 0x0402 0, [(b : Int), (l.timeout : Int)]⟩ ∧ SameBut [.elt, .recd] s t)) ∧
  (∀ (s : State) (a : Nat) (r : DmaRun) (d e : Bytes) (rest : List Bytes), s.elt.runs = [r] → r.cmd.arrival = a → r.descs = d :: e :: rest → octet d 0 = 1 →
    s.lockedBy (some a) (field d 4 4) = true →
    Completes (exec (.lockWaitTimeout a) s) (fun t =>
      t.elt = { s.elt with runs := [{ r with descs := e :: rest, done := r.done ++ [Status.timeout.code] }] } ∧ SameBut [.elt] s t)) ∧
  (∀ (s : State) (a b : Nat), s.elt.rebuild = some (a, b) → (s.queue (s.nat Attr.LocatorTable.changeQueue 0)).words = [] →
    (s.elt.shadow.flatMap (fun x => x.2.filterMap id)).length + s.elt.shadowOvf.length ≤ 16384 →
    Completes (exec .tableRebuildDone s) (fun t =>
      t.nat Attr.LocatorTable.hashSeed1 0 = a ∧ t.nat Attr.LocatorTable.hashSeed2 0 = b ∧ t.elt.rebuild = none ∧ t.elt.locks = s.elt.locks ∧
        t.elt.shadow = t.elt.buckets ∧ t.elt.shadowOvf = t.elt.overflow ∧ SameBut [.elt, .obj, .mbx, .recd] s t)) ∧
  (∀ (s : State) (w lo hi : Nat), (s.queue (s.nat Attr.LocatorTable.changeQueue 0)).words = [⟨w, false, true⟩, ⟨lo, false, true⟩, ⟨hi, true, true⟩] →
    bits w 39 32 < 4 → s.que.backlog = [] →
    Completes (exec .changeRecordApply s) (fun t =>
      t.shadowBucket (w % 2 ^ 32) = (s.shadowBucket (w % 2 ^ 32)).set (bits w 39 32) (decodeSlot (lo + hi * 2 ^ 64)) ∧
        (t.queue (s.nat Attr.LocatorTable.changeQueue 0)).words = [] ∧ t.elt.buckets = s.elt.buckets ∧ SameBut [.elt, .que, .recd] s t)) ∧
  (∀ (s : State) (c : Cmd) (n b off : Nat), s.Serves c n → c.opcode = 0x0401 → field c.data 0 2 = 1 → c.data.length = 36 → octet (slice c.data 4 32) 0 = 3 →
    field (slice c.data 4 32) 2 2 ≤ 1000 → field (slice c.data 4 32) 4 4 = b → field (slice c.data 4 32) 16 4 = off → b < 1048576 → off + 64 ≤ 1048576 →
    s.elt.expired = [] →
    Completes (exec (.tableDma none 1) s) (fun t =>
      Answered s t c n .ok [0, 0, 0, 0] ∧ (t.pair n).bar4 = writeAt (s.pair n).bar4 off (bucketBytes (s.bucket b)) ∧ t.elt.buckets = s.elt.buckets ∧
        SameBut [.mbx, .elt] s t)) ∧
  (∀ (s : State) (c : Cmd) (n : Nat), s.Serves c n → c.opcode = 0x0402 → s.fcr.admitted = [] → s.fcr.deferred = [] →
    Completes (exec (.tableRebuild true) s) (fun t =>
      Answered s t c n .accepted [] ∧ (∃ a b, t.elt.rebuild = some (a, b) ∧ a ≠ b) ∧ t.elt.buckets = s.elt.buckets ∧ SameBut [.mbx, .fcr, .recd, .elt] s t)) ∧
  (∀ (s : State) (c : Cmd) (n : Nat), s.Serves c n → c.opcode = 0x0402 →
    Completes (exec (.tableRebuild false) s) (fun t => Answered s t c n .tableFull [] ∧ SameBut [.mbx] s t))

/-- Collection commands (R66, R304, R311–R313, R330, R335–R337): POLL_NOW queues a poll, which waits where its cell may not send; SUPPLY_CONNECT waits for its confirmation,
SUPPLY_DISCONNECT and DOWNLINK_SEND queue a request with the endpoint's next command serial; INTERVAL_EDIT and REVALIDATE put new versions on the commit path. -/
def Obligations.CollectionCommands : Prop :=
  (∀ (s : State) (c : Cmd) (n h k : Nat), s.Serves c n → c.opcode = 0x0501 → c.target 0x0501 = some h → field c.payload 4 2 = k → 1 ≤ k → k ≤ 672 → s.cutOff 9 0 = true →
    Completes (exec .pollNow s) (fun t =>
      Answered s t c n .accepted [] ∧
        t.col = { s.col with
          requests := s.col.requests ++
            [{ handle := h, cell := (s.requestCell h).getD 0, queue := 2, order := s.col.nextOrder, serial := 0, opcode := 0x0501,
               poll := some (field c.payload 0 4, k), apdu := Config.pollApdu h (field c.payload 0 4) k, cmd := some c.arrival }],
          nextOrder := s.col.nextOrder + 1 } ∧ SameBut [.mbx, .col] s t)) ∧
  (∀ (s : State) (c : Cmd) (n h k : Nat), s.Serves c n → c.opcode = 0x0501 → c.target 0x0501 = some h → field c.payload 4 2 = k → k = 0 ∨ 672 < k →
    Completes (exec .pollNow s) (fun t => Answered s t c n .badValue [] ∧ SameBut [.mbx] s t)) ∧
  (∀ (s : State) (c : Cmd) (n h : Nat), s.Serves c n → c.opcode = 0x0502 → c.target 0x0501 = some h → 1 ≤ octet c.data 0 → octet c.data 0 ≤ 6 →
    s.nat Attr.EndpointProfile.role h ≠ 1 → (∀ r ∈ s.col.requests, r.order < s.col.nextOrder) →
    Completes (exec .downlinkSend s) (fun t =>
      t.nat Attr.EndpointProfile.commandSerial h = (s.nat Attr.EndpointProfile.commandSerial h + 1) % 2 ^ 32 ∧
        (if Config.energizeApdu (c.data.drop 4) then
          Answered s t c n .refused [] ∧ t.col = s.col ∧
            t.recd = s.recd.ordinary ⟨0x1009, objPath 0x0C10 0, [(h : Int), ((s.nat Attr.EndpointProfile.commandSerial h + 1) % 2 ^ 32 : Nat), 0]⟩
        else
          Answered s t c n .accepted [] ∧ t.recd = s.recd ∧
            (∃ r ∈ t.col.requests, r.handle = h ∧ r.queue = octet c.data 0 ∧ r.opcode = 0x0502 ∧
              r.serial = (s.nat Attr.EndpointProfile.commandSerial h + 1) % 2 ^ 32 ∧ r.apdu = c.data.drop 4 ∧ r.cmd = some c.arrival)) ∧
        SameBut [.mbx, .obj, .recd, .col, .glv, .lin, .rad, .sto, .twn] s t)) ∧
  (∀ (s : State) (c : Cmd) (n h : Nat), s.Serves c n → c.opcode = 0x0504 → c.target 0x0501 = some h → s.cutOff 9 0 = true →
    Completes (exec .supplyDisconnect s) (fun t =>
      Answered s t c n .accepted [] ∧ t.nat Attr.EndpointProfile.commandSerial h = (s.nat Attr.EndpointProfile.commandSerial h + 1) % 2 ^ 32 ∧
        t.col = { s.col with
          requests := s.col.requests ++
            [{ handle := h, cell := (s.requestCell h).getD 0, queue := 6, order := s.col.nextOrder,
               serial := (s.nat Attr.EndpointProfile.commandSerial h + 1) % 2 ^ 32, opcode := 0x0504, poll := none, apdu := Config.supplyApdu 2,
               cmd := some c.arrival }],
          nextOrder := s.col.nextOrder + 1 } ∧ SameBut [.mbx, .obj, .col] s t)) ∧
  (∀ (s : State) (c : Cmd) (n h : Nat), s.Serves c n → c.opcode = opConnect → c.target 0x0501 = some h → octet c.payload 0 ≤ 1 → s.mbx.energize.length < 16 →
    Completes (exec .supplyConnect s) (fun t =>
      Answered s t c n .accepted [] ∧
        t.mbx.energize = s.mbx.energize ++
          [⟨c.arrival, c.opcode, c.path, c.session, c.role, c.cred, c.localSess, c.payload, s.nat Attr.MailboxService.energizeWindow 0⟩] ∧ SameBut [.mbx] s t)) ∧
  (∀ (s : State) (c : Cmd) (n h : Nat), s.Serves c n → c.opcode = opConnect → c.target 0x0501 = some h → octet c.payload 0 ≤ 1 → 16 ≤ s.mbx.energize.length →
    Completes (exec .supplyConnect s) (fun t => Answered s t c n .busy [] ∧ t.mbx.energize = s.mbx.energize ∧ SameBut [.mbx] s t)) ∧
  (∀ (s : State) (c : Cmd) (n h i mask : Nat) (old : IRec), s.Serves c n → c.opcode = 0x0602 → pathCls c.path = 0x0501 → pathInst c.path = h → field c.payload 0 4 = i →
    octet c.payload 4 = mask → c.role = .operator ∨ c.role = .billing → (s.versions h i).length < 16 → s.current h i = some old →
    Completes (exec .intervalEdit s) (fun t =>
      Answered s t c n .ok [] ∧
        t.col.flights = s.col.flights ++
          [{ id := s.col.nextFlight,
             recs := [⟨h, i, old.quality ||| qEdited, (List.range 8).map (fun k =>
               if bit mask k then (values24 (slice c.payload 8 24)).getD k 0 else old.vals.getD k absentVal)⟩] }] ∧
        t.sto.records = s.sto.records ∧ SameBut [.mbx, .col, .sto, .twn] s t)) ∧
  (∀ (s : State) (c : Cmd) (n h i : Nat), s.Serves c n → c.opcode = 0x0602 → pathCls c.path = 0x0501 → pathInst c.path = h → field c.payload 0 4 = i →
    c.role = .operator → 16 ≤ (s.versions h i).length →
    Completes (exec .intervalEdit s) (fun t =>
      Answered s t c n .tableFull [] ∧ t.recd = s.recd.ordinary ⟨0x0A01, objPath 0x0501 h, [(h : Int), (i : Int)]⟩ ∧ SameBut [.mbx, .recd] s t)) ∧
  (∀ (s : State) (c : Cmd) (n h k : Nat), s.Serves c n → c.opcode = 0x0601 → pathCls c.path = 0x0501 → pathInst c.path = h → field c.payload 4 2 = k → 1 ≤ k → k ≤ 2880 →
    Completes (exec .revalidate s) (fun t =>
      Answered s t c n .accepted [] ∧
        t.col.flights = s.col.flights ++ [{ id := s.col.nextFlight, recs := (List.range k).filterMap (fun j => s.recheck h (field c.payload 0 4 + j)), done := some c.arrival }] ∧
        t.sto.records = s.sto.records ∧ SameBut [.mbx, .col, .sto, .twn] s t))

/-- Schedules and requests (R298–R303, R305): a slot or a deadline that falls while COL is fenced is kept; a deadline gives placeholders to the intervals without a record; a request is
repeated, and after its last attempt ends with COMMAND_TIMEOUT; a power-restore notice delays one poll by a free number of seconds within `restore_spread_s`, and the poll goes out when it is
due. -/
def Obligations.ScheduledReads : Prop :=
  (∀ (s : State) (h : Nat), s.endpoint h = true → s.nat Attr.CollectionSchedule.method (s.nat Attr.EndpointProfile.schedule h) = 2 → s.unset = false → s.cutOff 9 0 = true →
    s.col.requests = [] → s.col.duePolls = [] →
    Completes (exec (.scheduleSlot h) s) (fun t => t.col = { s.col with duePolls := [h] } ∧ SameBut [.col] s t)) ∧
  (∀ (s : State) (h i : Nat), s.endpoint h = true → s.nat Attr.CollectionSchedule.method (s.nat Attr.EndpointProfile.schedule h) = 2 → s.unset = false →
    s.cutOff 9 0 = false → s.col.requests = [] → s.primary h = none →
    s.firstMissing h (min (s.nat Attr.CollectionSchedule.lookback (s.nat Attr.EndpointProfile.schedule h)) 672) = some i → i ≤ s.lastEnded →
    Completes (exec (.scheduleSlot h) s) (fun t =>
      (∃ r, t.col.requests = [r] ∧ r.handle = h ∧ r.queue = 2 ∧ r.poll = some (i, min (s.lastEnded + 1 - i) 672)) ∧
        SameBut [.col, .glv, .sto, .twn] s t)) ∧
  (∀ (s : State) (h due : Nat), s.endpoint h = true → s.nat Attr.CollectionSchedule.method (s.nat Attr.EndpointProfile.schedule h) = 1 → s.cutOff 9 0 = true →
    Completes (exec (.missingDeadline h due) s) (fun t => t.col = { s.col with dueDeadlines := s.col.dueDeadlines ++ [(h, due)] } ∧ SameBut [.col] s t)) ∧
  (∀ (s : State) (h due : Nat), s.endpoint h = true → s.nat Attr.CollectionSchedule.method (s.nat Attr.EndpointProfile.schedule h) = 1 → s.cutOff 9 0 = false → s.unset = false →
    s.nat Attr.CollectionSchedule.lookback (s.nat Attr.EndpointProfile.schedule h) = 1 → s.versions h (due / 900 - 1) = [] →
    s.flag Attr.CollectionSchedule.pollFallback (s.nat Attr.EndpointProfile.schedule h) = false →
    Completes (exec (.missingDeadline h due) s) (fun t =>
      t.col.flights = s.col.flights ++ [{ id := s.col.nextFlight, recs := [⟨h, due / 900 - 1, qMissing, List.replicate 8 absentVal⟩] }] ∧
        SameBut [.col, .sto, .twn] s t)) ∧
  (∀ (s : State) (r : Request), s.col.requests = [r] → r.outstanding = true → r.attempts < s.requestRetries r.cell → s.isWmbus r.cell = true →
    Completes (exec (.requestTimeout r.order) s) (fun t => t.col = { s.col with requests := [{ r with outstanding := false }] } ∧ SameBut [.col] s t)) ∧
  (∀ (s : State) (r : Request), s.col.requests = [r] → r.outstanding = true → s.requestRetries r.cell ≤ r.attempts → r.opcode = 0x0502 → r.cmd = none →
    Completes (exec (.requestTimeout r.order) s) (fun t =>
      t.col = { s.col with requests := [] } ∧
        t.recd = s.recd.ordinary ⟨0x0903, objPath 0x0501 r.handle, [(r.handle : Int), (r.opcode : Int), (r.serial : Int)]⟩ ∧ SameBut [.col, .recd] s t)) ∧
  (∀ (s : State) (h : Nat), s.endpoint h = true → s.flag Attr.CollectionSchedule.restorePoll (s.nat Attr.EndpointProfile.schedule h) = true → (s.ep h).restorePoll = none →
    Completes (exec (.powerRestoreNotice h) s) (fun t =>
      t.ep h = { s.ep h with
        restorePoll := some (s.freeNat % (s.nat Attr.CollectionSchedule.restoreSpreadS (s.nat Attr.EndpointProfile.schedule h) + 1)) } ∧ SameBut [.col] s t)) ∧
  (∀ (s : State) (h d : Nat), s.endpoint h = true → s.flag Attr.CollectionSchedule.restorePoll (s.nat Attr.EndpointProfile.schedule h) = true →
    (s.ep h).restorePoll = some d →
    Completes (exec (.powerRestoreNotice h) s) (fun t => t.ep h = { s.ep h with notices := (s.ep h).notices + 1 } ∧ t.freeCtr = s.freeCtr ∧ SameBut [.col] s t)) ∧
  (∀ (s : State) (h d : Nat), (s.ep h).restorePoll = some d → s.cutOff 9 0 = true → s.col.duePolls = [] →
    Completes (exec (.restorePollDue h) s) (fun t =>
      (t.ep h).restorePoll = none ∧ (t.ep h).notices = 0 ∧ t.col.duePolls = [h] ∧ t.col.requests = s.col.requests ∧ SameBut [.col] s t))

/-- Records on their way to commit (R306, R321, R322, R329, R331, R332): a parsed payload, or a secured serial frame, gives its readings; a flight that has reached its level is committed and
acknowledged, one that has not raises COMMIT_STALL once; an estimate is put on the commit path, or the gap's limit is recorded once; unchecked records are rechecked; an engine resumes what
it kept while it was fenced. -/
def Obligations.RecordsCommitted : Prop :=
  (∀ (s : State) (rs : List Reading) (h c len : Nat) (body : QWord), s.sys.handover = false → s.cutOff 9 0 = false → h < 0xFFFFFFFF → len < 2 ^ 32 → s.que.backlog = [] →
    (s.queue (s.nat Attr.CollectionService.firmwareQueue 0)).words = [⟨h + c * 2 ^ 32, false, true⟩, ⟨len, false, true⟩, ⟨body.bits, true, true⟩] →
    Completes (exec (.firmwareParseDone rs) s) (fun t =>
      (∃ f, t.col.flights = s.col.flights ++ [f] ∧ f.id = s.col.nextFlight ∧ f.ack = some (h, c) ∧ f.newGen = none ∧
        f.mark = (if (s.ep h).pendingCounters.contains c then some (h, c) else none)) ∧
        SameBut [.col, .que, .recd, .obj, .mbx, .sto, .twn] s t)) ∧
  (∀ (s : State) (f : Flight) (n : NewRec), s.col.flights = [f] → f.recs = [n] → f.mark = none → f.ack = none → f.done = none → f.newGen = none → f.unchecked = false →
    f.reached s.requiredLevel = true → s.versions n.handle n.interval = [] → s.closedEnd n.handle = none → s.nat Attr.EndpointProfile.role n.handle ≠ 1 →
    n.quality &&& (qMissing ||| qEstimated) ≠ 0 →
    Completes (exec (.recordCommitConfirmed f.id) s) (fun t =>
      t.col.flights = [] ∧ t.versions n.handle n.interval = [⟨0, n.quality, n.vals⟩] ∧ t.sto.bilStream = s.sto.bilStream ++ [(n.handle, n.interval, 0)] ∧
        t.sto.balStream = s.sto.balStream ++ [(n.handle, n.interval, 0)] ∧ SameBut [.col, .sto, .recd, .lux] s t)) ∧
  (∀ (s : State) (f : Flight) (h c : Nat), s.col.flights = [f] → f.recs = [] → f.mark = some (h, c) → f.ack = none → f.done = none → f.newGen = none →
    f.reached s.requiredLevel = true → (s.ep h).heard = false →
    Completes (exec (.recordCommitConfirmed f.id) s) (fun t =>
      t.nat Attr.EndpointProfile.lastCounter h = c ∧ (t.ep h).heard = true ∧ (t.ep h).bitmap = 1 ∧ t.sto = s.sto ∧ SameBut [.col, .obj, .mbx] s t)) ∧
  (∀ (s : State) (f : Flight), s.col.flights = [f] → f.reached s.requiredLevel = false → f.stalled = false →
    Completes (exec (.commitStall f.id) s) (fun t =>
      t.col.flights = [{ f with stalled := true }] ∧
        t.recd = s.recd.ordinary ⟨0x0901, objPath 0x0510 0,
          [(((f.mark.map Prod.fst).or ((f.recs.head?).map NewRec.handle)).getD 0 : Nat), (f.lacks s.requiredLevel : Nat)]⟩ ∧ SameBut [.col, .recd] s t)) ∧
  (∀ (s : State) (f : Flight), s.col.flights = [f] → f.stalled = true → Completes (exec (.commitStall f.id) s) (fun t => t = s)) ∧
  (∀ (s : State) (h g n : Nat), s.cutOff 10 0 = false → s.unset = false → (s.current h n).isSome = true → s.nearActual h n = false → s.gapStart h n = g →
    (s.ep h).limits.contains g = false →
    Completes (exec (.estimationDue h n) s) (fun t =>
      t.ep h = { s.ep h with limits := (s.ep h).limits ++ [g] } ∧ t.recd = s.recd.ordinary ⟨0x0A02, objPath 0x0501 h, [(h : Int), (g : Int)]⟩ ∧
        SameBut [.col, .recd] s t)) ∧
  (∀ (s : State) (h n : Nat) (r : NewRec), s.cutOff 10 0 = false → s.unset = false → (s.current h n).isSome = true → s.nearActual h n = true →
    s.estimated h n false = some r →
    Completes (exec (.estimationDue h n) s) (fun t =>
      t.col.flights = s.col.flights ++ [{ id := s.col.nextFlight, recs := [r] }] ∧ t.sto.records = s.sto.records ∧ SameBut [.col, .sto, .twn] s t)) ∧
  (∀ (s : State) (h i : Nat), s.cutOff 10 0 = false → s.unset = false → s.col.eps = [(h, { s.ep h with unchecked := [i] })] → s.recheck h i = none →
    Completes (exec .valRecheck s) (fun t =>
      (t.ep h).unchecked = [] ∧ t.col.flights = s.col.flights ∧ t.recd = s.recd.ordinary ⟨0x0A03, objPath 0x0510 0, [1]⟩ ∧ SameBut [.col, .recd] s t)) ∧
  (∀ (s : State) (h i : Nat), s.cutOff 9 0 = false → s.unset = false → s.col.duePolls = [h] → s.col.dueDeadlines = [] → s.col.requests = [] → s.primary h = none →
    s.firstMissing h 672 = some i → i ≤ s.lastEnded →
    Completes (exec (.engineResume 9) s) (fun t =>
      t.col.duePolls = [] ∧ (∃ r, t.col.requests = [r] ∧ r.handle = h ∧ r.queue = 2 ∧ r.poll = some (i, min (s.lastEnded + 1 - i) 672)) ∧
        SameBut [.col, .glv, .sto, .twn] s t)) ∧
  (∀ (s : State) (d : Nat), s.cutOff d 0 = true → Completes (exec (.engineResume d) s) (fun t => t = s)) ∧
  (∀ (s : State) (n key : Nat) (x : Secured), s.cutOff 8 0 = false → s.findEntry false key = none → s.elt.queue.length < 4096 →
    Completes (exec (.serialFrameReceived n key x) s) (fun t =>
      t.elt.queue = s.elt.queue ++ [⟨key, 32 + n, 0, 0xFFFE, 0, some s.col.nextHeld⟩] ∧
        t.col.heldFrames = s.col.heldFrames ++ [(s.col.nextHeld, (key, x))] ∧ SameBut [.elt, .col] s t))

/-- Billing (R341–R344, R350–R352, R356, R358, R365, R368, R369, R371–R373, R378): CALENDAR_LOAD stores a valid image as passive, CALENDAR_ACTIVATE sets or removes its
activation interval, and at that boundary it becomes the newest generation; SNAPSHOT_NOW stores a snapshot; booking adds a record's energy to the registers of its
rate; a close ends the oldest waiting period; the first meter report is the baseline and compares as a match. -/
def Obligations.BillingAndTariffs : Prop :=
  (∀ (s : State) (c : Cmd) (n k : Nat) (im : Calendar), s.Serves c n → c.opcode = 0x0701 → parseCalendar c.data = some (k, im) →
    s.nat Attr.TariffCalendar.activationInterval k = 0 → im.push = false →
    Completes (exec .calendarLoad s) (fun t =>
      Answered s t c n .ok [] ∧ t.calSlot k = { s.calSlot k with passive := some im, pendingMeters := [] } ∧
        t.nat Attr.TariffCalendar.identifierPassive k = im.ident ∧ SameBut [.mbx, .bil, .obj] s t)) ∧
  (∀ (s : State) (c : Cmd) (n : Nat), s.Serves c n → c.opcode = 0x0701 → parseCalendar c.data = none →
    Completes (exec .calendarLoad s) (fun t => Answered s t c n .badValue [] ∧ SameBut [.mbx] s t)) ∧
  (∀ (s : State) (c : Cmd) (n k a : Nat) (im : Calendar), s.Serves c n → c.opcode = 0x0702 → octet c.payload 0 = k → k ≤ 63 → octet c.payload 1 = 1 →
    field c.payload 2 2 = 0 → (s.calSlot k).passive = some im → im.push = false → field (slice c.payload 4 4) 0 4 = a → s.nowInterval < a → a ≤ s.thirtyYears →
    im.blockStart a = true → (s.calSlot k).startsBlock a = true →
    Completes (exec .calendarActivate s) (fun t =>
      Answered s t c n .ok [] ∧ t.nat Attr.TariffCalendar.activationInterval k = a ∧ SameBut [.mbx, .obj] s t)) ∧
  (∀ (s : State) (c : Cmd) (n k : Nat) (im : Calendar), s.Serves c n → c.opcode = 0x0702 → octet c.payload 0 = k → k ≤ 63 → octet c.payload 1 = 0 →
    field c.payload 2 2 = 0 → (s.calSlot k).passive = some im → s.nat Attr.TariffCalendar.activationInterval k ≠ 0 →
    Completes (exec .calendarActivate s) (fun t =>
      Answered s t c n .ok [] ∧ t.nat Attr.TariffCalendar.activationInterval k = 0 ∧ t.bil = s.bil ∧ SameBut [.mbx, .obj] s t)) ∧
  (∀ (s : State) (c : Cmd) (n h : Nat), s.Serves c n → c.opcode = 0x0703 → octet c.payload 0 = 0 → octet c.payload 1 ≤ 63 → field c.payload 2 2 = 0 →
    pathCls c.path = 0x0702 → pathInst c.path = h →
    Completes (exec .snapshotNow s) (fun t =>
      Answered s t c n .ok [] ∧
        Assoc.find (h * 128 + 64 + (Assoc.find h s.bil.onDemand).getD 0 % 4) t.bil.snaps = some (s.snapshotBytes h s.nowInterval 1) ∧
        Assoc.find h t.bil.onDemand = some ((Assoc.find h s.bil.onDemand).getD 0 + 1) ∧ SameBut [.mbx, .bil, .sto, .twn] s t)) ∧
  (∀ (s : State) (h i v : Nat) (rest : List (Nat × Nat × Nat)) (r : IRec), s.sto.bilStream = (h, i, v) :: rest → s.cutOff 11 0 = false →
    (s.versions h i).find? (fun r => r.version == v) = some r → r.quality = 0 → s.calendarOf h i = none → s.closingEnd h = none →
    Assoc.find (recKey h i) s.bil.booked = none → (s.arr Attr.BillingRegisters.registers h).length = 64 →
    (∀ q < 4, 0 ≤ s.elem Attr.BillingRegisters.registers h q ∧ s.elem Attr.BillingRegisters.registers h q + ((r.val q).getD 0 : Nat) < 2 ^ 48) →
    Completes (exec .recordBooking s) (fun t =>
      t.sto.bilStream = rest ∧
        (∀ q < 4, t.elem Attr.BillingRegisters.registers h q = s.elem Attr.BillingRegisters.registers h q + ((r.val q).getD 0 : Nat)) ∧
        (∀ q, 4 ≤ q → t.elem Attr.BillingRegisters.registers h q = s.elem Attr.BillingRegisters.registers h q) ∧
        Assoc.find (recKey h i) t.bil.booked = some [(r.val 0).getD 0, (r.val 1).getD 0, (r.val 2).getD 0, (r.val 3).getD 0, 0] ∧
        SameBut [.sto, .bil, .obj, .mbx] s t)) ∧
  (∀ s : State, s.cutOff 11 0 = true → Completes (exec .recordBooking s) (fun t => t = s)) ∧
  (∀ (s : State) (c a : Nat) (x : CalSlot) (im : Calendar), s.executes = true → s.bil.downSince = none → s.bil.cals = [(c, x)] → c < 64 → x.gens = [] →
    x.passive = some im → x.pendingMeters = [] → s.nat Attr.TariffCalendar.activationInterval c = a → a = s.nowInterval → s.guard.1 < a →
    Completes (exec .billingBoundary s) (fun t =>
      (t.calSlot c).gens = [⟨a, (s.nat Attr.TariffCalendar.generation c + 1) % 2 ^ 16, im⟩] ∧ (t.calSlot c).passive = none ∧
        t.nat Attr.TariffCalendar.activationInterval c = 0 ∧ t.nat Attr.TariffCalendar.identifierActive c = im.ident ∧
        t.nat Attr.BillingService.guardInterval 0 = a ∧ (a, 3, c, 0) ∈ t.bil.executed ∧ SameBut [.bil, .obj, .mbx, .recd, .sto, .twn] s t)) ∧
  (∀ s : State, s.executes = false → Completes (exec .billingBoundary s) (fun t => t = s)) ∧
  (∀ (s : State) (c e at2 : Nat) (rest : List (Nat × Nat)), c < 64 → s.cutOff 11 0 = false → s.sys.mode = .service → (s.calSlot c).closes = (e, at2) :: rest →
    s.calHandles c = [] →
    Completes (exec (.periodClosed c) s) (fun t =>
      t.calSlot c = { s.calSlot c with closes := rest, closedEnd := some e } ∧
        t.nat Attr.TariffCalendar.periodNumber c = (s.nat Attr.TariffCalendar.periodNumber c + 1) % 2 ^ 32 ∧
        t.recd = s.recd.ordinary ⟨0x0B03, objPath 0x0701 c, [(c : Int), (s.nat Attr.TariffCalendar.periodNumber c : Nat)]⟩ ∧ SameBut [.bil, .obj, .mbx, .recd] s t)) ∧
  (∀ (s : State) (r : MeterReport), s.endpoint r.handle = true → s.cutOff 11 0 = false → s.nat Attr.EndpointProfile.billingAuthority r.handle = 1 →
    Completes (exec (.registerCompare r) s) (fun t => t.nat Attr.RegisterComparison.lastResult r.handle = 3 ∧ SameBut [.obj, .mbx] s t)) ∧
  (∀ (s : State) (r : MeterReport), s.endpoint r.handle = true → r.handle < 2 ^ 21 → s.cutOff 11 0 = false → s.nat Attr.EndpointProfile.billingAuthority r.handle ≠ 1 →
    s.allBooked r.handle r.capture = true → Assoc.find r.handle s.bil.baseChip = none →
    (s.calSlot (s.nat Attr.EndpointProfile.calendar r.handle)).late.contains r.handle = false → 0 ≤ s.int Attr.BillingService.compareTolUnits 0 →
    Completes (exec (.registerCompare r) s) (fun t =>
      t.nat Attr.RegisterComparison.lastResult r.handle = 0 ∧ t.nat Attr.RegisterComparison.consecutive r.handle = 0 ∧
        t.flag Attr.RegisterComparison.mismatch r.handle = false ∧ t.nat Attr.RegisterComparison.lastCapture r.handle = r.capture ∧
        Assoc.find r.handle t.bil.baseChip = some (s.bookedBefore r.handle r.capture) ∧ SameBut [.obj, .mbx, .bil] s t))

/-- Balance groups (R394–R397, R399, R403, R409, R414, R418, R420, R421): GROUP_DEFINE creates a group in LEARNING, MEMBERSHIP_APPLY moves an endpoint with
MEMBERSHIP_CHANGED; a settled interval is evaluated once, on the group's home; the daily run ages the bins and is done for the next day; an OPEN proposal expires
after 30 days. -/
def Obligations.BalanceAndTopology : Prop :=
  (∀ (s : State) (c : Cmd) (n g : Nat) (d : GroupDef), s.Serves c n → c.opcode = 0x0801 → parseGroup c.payload = some (g, d) → s.effectiveOk d.start = true →
    d.gone = false → d.parent = noGroup → s.bal.groups = [] → s.bal.members = [] → s.instances 0x0804 = [] →
    Completes (exec .groupDefine s) (fun t =>
      Answered s t c n .ok [] ∧ (t.group g).defs = [d] ∧ t.alive 0x0801 g = true ∧ t.nat Attr.BalanceGroup.state g = 0 ∧ t.nat Attr.BalanceGroup.updates g = 0 ∧
        SameBut [.mbx, .bal, .obj] s t)) ∧
  (∀ (s : State) (c : Cmd) (n : Nat), s.Serves c n → c.opcode = 0x0801 → parseGroup c.payload = none →
    Completes (exec .groupDefine s) (fun t => Answered s t c n .badValue [] ∧ SameBut [.mbx] s t)) ∧
  (∀ (s : State) (c : Cmd) (n h g ph start : Nat) (e : Bytes), s.Serves c n → c.opcode = 0x0802 → octet c.data 0 = 1 → octet c.data 1 = 0 → field c.data 2 2 = 1 →
    field c.data 4 4 = start → c.data.length = 16 → s.effectiveOk start = true → slice c.data 8 8 = e → field e 0 4 % 2 ^ 21 = h → field e 4 2 = g → octet e 6 = ph →
    octet e 7 = 0 → ph ≤ 7 → g ≠ noGroup → s.endpoint h = true → (s.defAt g start).isSome = true → s.flag Attr.EndpointChannel.present (h * 8) = true →
    s.bal.groups.any (fun x => (s.defAt x.1 start).any (fun y => y.head == h)) = false → Assoc.find h s.bal.members = none → s.instances 0x0804 = [] →
    s.sys.mode ≠ .shadow →
    Completes (exec .membershipApply s) (fun t =>
      Answered s t c n .ok [0, 0, 0, 0] ∧ Assoc.find h t.bal.members = some [⟨start, g, ph⟩] ∧
        t.recd = s.recd.ordinary ⟨0x0C07, objPath 0x0802 h, [(h : Int), 0xFFFF, 0, (g : Int), (ph : Int), 1]⟩ ∧ SameBut [.mbx, .bal, .obj, .recd] s t)) ∧
  (∀ (s : State) (g i : Nat) (d : GroupDef), g < 8192 → s.cutOff 12 0 = false → s.unset = false → s.sto.balStream = [] → s.groupHome g = s.twn.self →
    i < s.nowInterval → s.evaluated g i = false → s.settled i = true → s.defAt g i = some d → s.bal.members = [] →
    Completes (exec (.balanceEvaluate g i) s) (fun t =>
      t.evaluated g i = true ∧ t.nat Attr.BalanceGroup.lastEvaluated g = max i (s.nat Attr.BalanceGroup.lastEvaluated g) ∧
        SameBut [.bal, .obj, .mbx, .recd] s t)) ∧
  (∀ (s : State) (g i : Nat), s.cutOff 12 0 = true → Completes (exec (.balanceEvaluate g i) s) (fun t => t = s)) ∧
  (∀ (s : State) (g i : Nat) (d : GroupDef), g < 8192 → s.cutOff 12 0 = false → s.sto.balStream = [] → s.groupHome g = s.twn.self →
    s.evaluated g i = false → s.settled i = true → s.defAt g i = some d → s.bal.members = [] →
    Completes (exec (.balanceSumsDeadline g i) s) (fun t => t.evaluated g i = true ∧ SameBut [.bal, .obj, .mbx, .recd] s t)) ∧
  (∀ (s : State) (d : Nat), s.bal.lastRun = some d → s.cutOff 12 0 = false → s.commits = true → s.unset = false → d + 1 < s.nowInterval / 96 →
    (d + 2) * 86400 + s.nat Attr.BalanceService.dailyRunMin 0 * 60 ≤ s.serviceSec → s.instances 0x0501 = [] → s.bal.groups = [] → s.bal.order = [] →
    s.sto.balStream = [] →
    Completes (exec .dailyRun s) (fun t =>
      t.bal = { s.bal with
        lastRun := some (d + 1)
        bins := s.bal.bins.map (fun x => (x.1, x.2.map (fun y => Dbl.div (Dbl.mul (Dbl.ofInt 6) y) (Dbl.ofInt 7)))) } ∧ SameBut [.bal] s t)) ∧
  (∀ (s : State) (n : Nat), s.nat Attr.MembershipProposal.state n = 1 → s.nat Attr.MembershipProposal.created n + 2880 ≤ s.nowInterval →
    Completes (exec (.proposalExpiry n) s) (fun t => t.nat Attr.MembershipProposal.state n = 5 ∧ t.bal = s.bal ∧ SameBut [.obj, .mbx] s t)) ∧
  (∀ (s : State) (n : Nat), s.nowInterval < s.nat Attr.MembershipProposal.created n + 2880 → Completes (exec (.proposalExpiry n) s) (fun t => t = s))

/-- What sets a lantern's level (R66, R429, R434, R438, R440, R444, R449): an override is entered with OVERRIDE and ends at its expiry; energizing a circuit waits for its confirmation,
isolating one queues the open command; a traffic event is counted at its sensor and raises its segment for the hold time; a hold's end removes the traffic level; a schedule's step publishes the
next dusk. -/
def Obligations.LightingLevels : Prop :=
  (∀ (s : State) (c : Cmd) (n h level ramp dur : Nat), s.Serves c n → c.opcode = 0x0901 → pathCls c.path = 0x0901 → pathInst c.path = h →
    field c.payload 0 2 = level → field c.payload 2 2 = ramp → field c.payload 4 4 = dur → level ≤ 1000 → ramp ≤ 6000 → 1 ≤ dur → dur ≤ 604800 →
    s.override true h = none → s.lux.overrides.length < 1024 →
    Completes (exec .levelOverride s) (fun t =>
      Answered s t c n .ok [] ∧ t.lux.overrides = s.lux.overrides ++ [⟨true, h, level, ramp, s.serviceSec + dur⟩] ∧ t.nat Attr.Lantern.levelCommanded h = level ∧
        t.nat Attr.Lantern.levelCause h = 3 ∧ t.recd = s.recd.ordinary ⟨0x0D05, c.path, [(h : Int), (level : Int), (dur : Int)]⟩ ∧
        SameBut [.mbx, .lux, .recd, .obj, .col, .glv, .sto, .twn, .lin, .rad] s t)) ∧
  (∀ (s : State) (c : Cmd) (n : Nat), s.Serves c n → c.opcode = 0x0901 → pathCls c.path = 0x0902 → field c.payload 0 2 ≤ 1000 → field c.payload 2 2 ≤ 6000 →
    field c.payload 4 4 = 0 → s.override false (pathInst c.path) = none →
    Completes (exec .levelOverride s) (fun t => Answered s t c n .notFound [] ∧ SameBut [.mbx] s t)) ∧
  (∀ (s : State) (c : Cmd) (n : Nat), s.Serves c n → c.opcode = opCircuit → field c.payload 0 2 ≤ 63 → s.mbx.energize.length < 16 →
    Completes (exec .circuitEnergize s) (fun t =>
      Answered s t c n .accepted [] ∧
        t.mbx.energize = s.mbx.energize ++
          [⟨c.arrival, c.opcode, c.path, c.session, c.role, c.cred, c.localSess, c.payload, s.nat Attr.MailboxService.energizeWindow 0⟩] ∧ SameBut [.mbx] s t)) ∧
  (∀ (s : State) (c : Cmd) (n h : Nat), s.Serves c n → c.opcode = opAction → pathCls c.path = 0x0906 → pathAttr c.path = 0x40 →
    s.nat Attr.LightingCircuit.contactorHandle (pathInst c.path) = h → h < 2 ^ 21 → s.cutOff 9 0 = true →
    Completes (exec .isolate s) (fun t =>
      Answered s t c n .ok [] ∧
        t.col = { s.col with
          requests := s.col.requests ++
            [{ handle := h, cell := (s.requestCell h).getD 0, queue := 6, order := s.col.nextOrder,
               serial := (s.nat Attr.EndpointProfile.commandSerial h + 1) % 2 ^ 32, opcode := opAction, poll := none, apdu := Config.supplyApdu 2 }],
          nextOrder := s.col.nextOrder + 1 } ∧ SameBut [.mbx, .obj, .col] s t)) ∧
  (∀ (s : State) (h n v : Nat) (rest : List (Nat × Nat × Nat)), s.lux.events = (h, n, v) :: rest → s.cutOff 13 0 = false → s.nat Attr.TrafficSensor.segment h = 0xFFFF →
    s.serviceSec / 86400 = s.nat Attr.TrafficSensor.lastEvent h / 86400 → (s.arr Attr.TrafficSensor.counts h).length = 96 →
    Completes (exec .trafficEvent s) (fun t =>
      t.lux = { s.lux with events := rest } ∧ t.nat Attr.TrafficSensor.events h = (s.nat Attr.TrafficSensor.events h + 1) % 2 ^ 32 ∧
        t.nat Attr.TrafficSensor.lastEvent h = s.serviceSec ∧
        t.elem Attr.TrafficSensor.counts h (s.serviceSec / 900 % 96) = (s.elem Attr.TrafficSensor.counts h (s.serviceSec / 900 % 96) + n) % 65536 ∧
        SameBut [.lux, .obj, .mbx] s t)) ∧
  (∀ (s : State) (h n v g r : Nat) (rest : List (Nat × Nat × Nat)), h < 2 ^ 21 → g < 16384 → r < 64 → s.lux.events = (h, n, v) :: rest → s.cutOff 13 0 = false →
    s.nat Attr.TrafficSensor.segment h = g → s.nat Attr.LightingSegment.rule g = r → s.nat Attr.TrafficRule.minCount r ≤ n →
    s.nat Attr.TrafficRule.lookaheadDepth r = 0 → Assoc.find g s.lux.traffic = none → s.nat Attr.LightingSegment.holdUntil g = 0 → 1 ≤ s.serviceSec →
    Completes (exec .trafficEvent s) (fun t =>
      t.lux.events = rest ∧ t.nat Attr.LightingSegment.holdUntil g = s.serviceSec + s.nat Attr.TrafficRule.holdS r ∧
        Assoc.find g t.lux.traffic = some (s.nat Attr.TrafficRule.raiseLevel r, s.nat Attr.TrafficRule.rampDown r) ∧
        SameBut [.lux, .obj, .mbx, .lin, .sto, .twn] s t)) ∧
  (∀ (s : State) (k : Nat), k < 64 → s.cutOff 13 0 = false → s.unset = false →
    (∀ g < 16384, s.nat Attr.LightingSegment.cell g ≠ 0xFFFF → s.nat Attr.LightingSegment.schedule g ≠ k) →
    Completes (exec (.scheduleStep k) s) (fun t =>
      t.nat Attr.LightingSchedule.nextDusk k =
        (((List.range 400).map (fun j => s.nightOn k (s.localDay k s.serviceSec + j))).find? (fun x => decide (s.serviceSec < x))).getD 0 ∧
        SameBut [.lux, .obj, .mbx, .recd] s t)) ∧
  (∀ (s : State) (g : Nat) (x : Nat × Nat), Assoc.find g s.lux.traffic = some x → s.cutOff 13 0 = false →
    Completes (exec (.holdExpiry g) s) (fun t => Assoc.find g t.lux.traffic = none ∧ SameBut [.lux, .obj, .mbx, .lin, .sto, .twn] s t)) ∧
  (∀ (s : State) (lantern : Bool) (k : Nat) (o : Override), s.override lantern k = some o →
    Completes (exec (.overrideExpiry lantern k) s) (fun t =>
      t.override lantern k = none ∧ SameBut [.mbx, .lux, .obj, .col, .glv, .sto, .twn, .lin, .rad] s t))

/-- The lighting service (R431, R452–R459): multicast units are repeated, a cell's levels are refreshed while its lighting may transmit; a failed self-test fences LUX; an unmetered lantern's
record goes to the commit path, or waits while LUX is fenced; a silent lantern, an unconfirmed safe level and a circuit's state are recorded. -/
def Obligations.LightingService : Prop :=
  (∀ (s : State) (c k : Nat) (b : Bytes) (rest : List (Nat × Bytes × Nat)), s.lux.multicasts = (c, b, k) :: rest → s.lightSends c = true →
    (s.port (s.nat Attr.LineCell.port c)).queues.length = 8 →
    Completes (exec .multicastRepeat s) (fun t =>
      t.lux = { s.lux with multicasts := rest ++ (if k ≤ 1 then [] else [(c, b, k - 1)]) } ∧ SameBut [.lux, .lin] s t ∧
        ((∃ u, (t.port (s.nat Attr.LineCell.port c)).queues.getD 7 [] = (s.port (s.nat Attr.LineCell.port c)).queues.getD 7 [] ++ [u] ∧ u.cell = c ∧
            u.body = Config.protectCell c (s.beaconGen c) b) ∨ 64 < (Config.protectCell c (s.beaconGen c) b).length))) ∧
  (∀ (s : State) (c g : Nat), s.lightSends c = true → s.unset = false → s.cellSegments c = [g] → (s.port (s.nat Attr.LineCell.port c)).queues.length = 8 →
    Completes (exec (.lightingRefresh c) s) (fun t =>
      SameBut [.lin] s t ∧
        ((∃ u, (t.port (s.nat Attr.LineCell.port c)).queues.getD 7 [] = (s.port (s.nat Attr.LineCell.port c)).queues.getD 7 [] ++ [u] ∧ u.cell = c ∧
            u.body = Config.protectCell c (s.beaconGen c) (s.lightBody c 1 [s.segEntry g 0])) ∨
          64 < (Config.protectCell c (s.beaconGen c) (s.lightBody c 1 [s.segEntry g 0])).length))) ∧
  (∀ (s : State) (c : Nat), s.lightSends c = false → Completes (exec (.lightingRefresh c) s) (fun t => t = s)) ∧
  (∀ s : State, Completes (exec (.luxSelfTest true) s) (fun t => t = s)) ∧
  (∀ s : State,
    Completes (exec (.luxSelfTest false) s) (fun t =>
      t.fencedUnit 13 0 = true ∧ t.fcr.sf1 = true ∧ t.flag Attr.FaultSource.latched 208 = true ∧ SameBut [.obj, .mbx, .fcr, .recd, .lux] s t)) ∧
  (∀ (s : State) (h k : Nat), s.metered h = false → s.cutOff 13 0 = true →
    Completes (exec (.lanternRecord h k) s) (fun t => t.lux = { s.lux with lateRecords := s.lux.lateRecords ++ [(h, k)] } ∧ SameBut [.lux] s t)) ∧
  (∀ (s : State) (h k : Nat), s.metered h = false → s.cutOff 13 0 = false → s.unset = false →
    Completes (exec (.lanternRecord h k) s) (fun t =>
      t.nat Attr.Lantern.levelMeanLast h = s.meanLevel h k ∧
        (∃ f r, t.col.flights = s.col.flights ++ [f] ∧ f.recs = [r] ∧ r.handle = h ∧ r.interval = k ∧ r.vals.getD 7 absentVal = s.meanLevel h k) ∧
        SameBut [.obj, .mbx, .col, .sto, .twn] s t)) ∧
  (∀ (s : State) (h : Nat), s.lanternIsolated h = false →
    Completes (exec (.lanternSilent h) s) (fun t => bit (t.nat Attr.Lantern.faults h) 5 = true ∧ SameBut [.obj, .mbx, .recd] s t)) ∧
  (∀ (s : State) (h : Nat), s.flag Attr.Lantern.safeLevelConfirmed h = false →
    Completes (exec (.safeUnconfirmed h) s) (fun t => bit (t.nat Attr.Lantern.faults h) 6 = true ∧ SameBut [.obj, .mbx, .recd] s t)) ∧
  (∀ (s : State) (c st : Nat), c < 64 → st ≤ 2 → s.nat Attr.LightingCircuit.state c ≠ st → s.circuitLanterns c = [] →
    Completes (exec (.circuitState c st) s) (fun t =>
      t.nat Attr.LightingCircuit.state c = st ∧
        t.recd = s.recd.ordinary ⟨0x0D06, objPath 0x0906 c, [(c : Int), (s.nat Attr.LightingCircuit.state c : Nat), (st : Int)]⟩ ∧
        (st = 0 → (c, s.serviceMs, none) ∈ t.lux.isolated) ∧ (st = 1 → ∀ x ∈ t.lux.energizing, x.1 ≠ c) ∧ SameBut [.obj, .mbx, .recd, .lux] s t))

/-- Faults (R669, R671–R675, R680, R681, R684, R695, R698): a report is latched with its counts and its reaction acts: COUNT counts, FENCE fences, STALEMATE enters
STALEMATE with every field transmit enable low; a configuration mismatch and a nested error enter STALEMATE at once; a healthy source's latch is cleared by a write
of 0, and no other; the Guard's diagnostics open its gate; a count window and the error pulse end; a deferred request is dropped, or requested again where it is the
chip's own. -/
def Obligations.FaultsAndFences : Prop :=
  (∀ (s : State) (x : Source) (u : Nat), source x.num = some x → s.reactionOf x = 0 → s.fcr.injections = [] → s.dbg.halted = false →
    Completes (exec (.faultReport [⟨x.num, u, none, false, false⟩]) s) (fun t =>
      t.flag Attr.FaultSource.latched x.num = true ∧ t.nat Attr.FaultSource.count x.num = min (s.nat Attr.FaultSource.count x.num + 1) (2 ^ 32 - 1) ∧
        t.fcr.reports = min (s.fcr.reports + 1) 0xFFFFFFFF ∧ Assoc.find x.num t.fcr.lastReport = some s.tim.d3 ∧ SameBut [.obj, .mbx, .fcr] s t)) ∧
  (∀ (s : State) (x : Source) (u : Nat), source x.num = some x → x.num / 16 < 18 → s.reactionOf x = 2 → s.fcr.injections = [] → s.dbg.halted = false →
    Completes (exec (.faultReport [⟨x.num, u, none, false, false⟩]) s) (fun t =>
      t.fencedUnit (x.num / 16) (x.unitOf u) = true ∧ (s.fencedUnit (x.num / 16) (x.unitOf u) = false → t.nat Attr.FenceUnit.cause (x.num / 16 * 256 + x.unitOf u) = x.num) ∧
        SameBut [.obj, .mbx, .fcr, .recd, .lux, .mea, .que, .lin, .rad] s t)) ∧
  (∀ (s : State) (x : Source) (u : Nat), source x.num = some x → s.reactionOf x = 5 → s.fcr.injections = [] → s.dbg.halted = false → s.sys.stalemate = false →
    Completes (exec (.faultReport [⟨x.num, u, none, false, false⟩]) s) (fun t =>
      t.sys = { s.sys with stalemate := true, txEnable := false, purelHeld := true, causeValid := true, causeSource := x.num } ∧ t.twn.claimOut = false ∧
        SameBut [.sys, .twn, .obj, .mbx, .fcr, .recd] s t)) ∧
  (∀ s : State, s.sys.stalemate = false →
    Completes (exec .configMismatch s) (fun t =>
      t.sys.stalemate = true ∧ t.sys.txEnable = false ∧ t.sys.causeSource = 320 ∧ t.twn.claimOut = false ∧ t.flag Attr.FaultSource.latched 320 = true ∧
        SameBut [.sys, .twn, .obj, .mbx, .fcr, .recd] s t)) ∧
  (∀ s : State, s.sys.stalemate = false →
    Completes (exec .nestedError s) (fun t =>
      t.sys.stalemate = true ∧ t.sys.txEnable = false ∧ t.sys.causeSource = 321 ∧ t.twn.claimOut = false ∧ t.flag Attr.FaultSource.latched 321 = true ∧
        SameBut [.sys, .twn, .obj, .mbx, .fcr, .recd] s t)) ∧
  (∀ (s : State) (n : Nat),
    Completes (exec (.countWindowEnd n) s) (fun t =>
      Assoc.find n t.fcr.window = none ∧ t.fcr.reports = s.fcr.reports ∧
        t.recd = (if 2 ≤ (Assoc.find n s.fcr.window).getD 0 then
          s.recd.ordinary ⟨0x1401, objPath 0x1002 n, [(n : Int), ((Assoc.find n s.fcr.window).getD 0 : Nat)]⟩ else s.recd) ∧ SameBut [.fcr, .recd] s t)) ∧
  (∀ s : State, Completes (exec .errPulseEnd s) (fun t => t.fcr = { s.fcr with pulse := false, purelHold := s.purelHoldNow } ∧ SameBut [.fcr] s t)) ∧
  (∀ (s : State) (x : Source), source x.num = some x → x.cls ≠ clsFatal → s.healthy x.num = true →
    Completes (exec (.latchedWrite x.num false) s) (fun t => t.flag Attr.FaultSource.latched x.num = false ∧ SameBut [.obj, .mbx, .fcr] s t)) ∧
  (∀ (s : State) (x : Source), source x.num = some x → x.cls = clsFatal ∨ s.healthy x.num = false →
    Completes (exec (.latchedWrite x.num false) s) (fun t => t = s)) ∧
  (∀ s : State, s.sys.stalemate = false → s.twn.gateOk = false → s.nat Attr.ServicePosture.posture 0 = 0 → s.sys.mode = .service →
    Completes (exec (.guardDiagnostics ⟨true, true, true, true, true, true⟩) s) (fun t =>
      t.twn.gateOk = true ∧ t.sys.txEnable = true ∧ t.fcr.checkerOk = true ∧ t.fcr.luxOk = true ∧ SameBut [.twn, .sys, .fcr] s t)) ∧
  (∀ (s : State) (a : Activity), s.fcr.deferred = [a] → a.internal = false →
    Completes (exec (.deferredDrop a.arrival a.kind) s) (fun t =>
      t.fcr.deferred = [] ∧ t.fcr.again = s.fcr.again ∧ (∀ x ∈ t.mbx.awaiting, x.arrival ≠ a.arrival) ∧ SameBut [.fcr, .mbx] s t)) ∧
  (∀ (s : State) (a : Activity), s.fcr.deferred = [a] → a.internal = true →
    Completes (exec (.deferredDrop a.arrival a.kind) s) (fun t => t.fcr = { s.fcr with deferred := [], again := s.fcr.again ++ [a] } ∧ SameBut [.fcr] s t))

/-- Fencing commands, self-tests, injection and the arbiter (R677–R680, R684, R686, R693–R695, R697, R698, R515, R746): FENCE fences a unit with cause 0, but not the host, mailbox,
STALEMATE and collector domains; UNFENCE lifts the fence of a unit whose self-test passes and leaves it where it does not, of LUX and GLV for SAFETY only; the chip's own block
reset does the same; a deep self-test resets and unfences each domain named; an injection is kept in FACTORY only; a policy table is in force once its signature verifies; an
activity's end completes its command and admits what waits. -/
def Obligations.FencingAndArbiter : Prop :=
  (∀ (s : State) (c : Cmd) (n d u : Nat), s.Serves c n → c.opcode = 0x1001 → octet c.payload 0 = d → octet c.payload 1 = u → s.fenceRefused d u = none →
    s.fencedUnit d u = false → s.fcr.admitted = [] →
    Completes (exec .fence s) (fun t =>
      Answered s t c n .ok [] ∧ t.fencedUnit d u = true ∧ t.nat Attr.FenceUnit.cause (d * 256 + u) = 0 ∧
        SameBut [.obj, .mbx, .fcr, .recd, .lux, .mea, .tim, .que, .lin, .rad] s t)) ∧
  (∀ (s : State) (c : Cmd) (n d : Nat), s.Serves c n → c.opcode = 0x1001 → octet c.payload 0 = d → d ∈ [1, 2, 3, 20] →
    Completes (exec .fence s) (fun t => Answered s t c n .refused [] ∧ SameBut [.mbx] s t)) ∧
  (∀ (s : State) (c : Cmd) (n d u ms : Nat), s.Serves c n → c.opcode = 0x1002 → octet c.payload 0 = d → octet c.payload 1 = u → s.fenceRefused d u = none →
    d ∈ [5, 6, 7, 8, 10, 11, 12, 15] → s.fencedUnit d u = true → s.fcr.again = [] →
    Completes (exec (.unfence ms []) s) (fun t =>
      Answered s t c n .ok [] ∧ t.fencedUnit d u = false ∧ t.nat Attr.FenceUnit.cause (d * 256 + u) = 0 ∧ t.nat Attr.FenceUnit.lastTest (d * 256 + u) = 1 ∧
        t.fcr.domainResets = d :: s.fcr.domainResets ∧ SameBut [.obj, .mbx, .fcr, .recd, .lin, .rad] s t)) ∧
  (∀ (s : State) (c : Cmd) (n d u ms : Nat) (x : Source), s.Serves c n → c.opcode = 0x1002 → octet c.payload 0 = d → octet c.payload 1 = u → s.fenceRefused d u = none →
    d ∈ [5, 6, 7, 8, 10, 11, 12, 15] → s.fencedUnit d u = true → source x.num = some x → s.reactionOf x = 0 → s.fcr.injections = [] →
    Completes (exec (.unfence ms [⟨x.num, u, none, false, false⟩]) s) (fun t =>
      Answered s t c n .refused [] ∧ t.fencedUnit d u = true ∧ t.nat Attr.FenceUnit.lastTest (d * 256 + u) = 2 ∧ t.flag Attr.FaultSource.latched x.num = true ∧
        SameBut [.obj, .mbx, .fcr, .recd, .lin, .rad] s t)) ∧
  (∀ (s : State) (c : Cmd) (n ms : Nat) (fails : List FaultFact), s.Serves c n → c.opcode = 0x1002 → octet c.payload 0 = 16 → octet c.payload 1 = 0 → c.role ≠ .safety →
    Completes (exec (.unfence ms fails) s) (fun t => Answered s t c n .denied [] ∧ SameBut [.mbx] s t)) ∧
  (∀ (s : State) (d u ms : Nat), d ∈ [5, 6, 7, 8, 10, 11, 12, 15] → u < 256 → s.fcr.resetting.contains (d * 256 + u) = true → s.fencedUnit d u = true → s.fcr.again = [] →
    Completes (exec (.blockResetDone d u ms []) s) (fun t =>
      t.fencedUnit d u = false ∧ t.nat Attr.FenceUnit.cause (d * 256 + u) = 0 ∧ d * 256 + u ∉ t.fcr.resetting ∧ t.fcr.domainResets = d :: s.fcr.domainResets ∧
        SameBut [.obj, .mbx, .fcr, .recd, .lin, .rad] s t)) ∧
  (∀ (s : State) (c : Cmd) (n d ms : Nat), s.Serves c n → c.opcode = 0x1003 → d ∈ [8, 10, 11, 12, 15] → field c.payload 0 4 = 2 ^ d →
    s.sys.mode = .provision ∨ s.sys.mode = .shadow → s.fcr.admitted = [] → s.fcr.deferred = [] → s.fcr.again = [] →
    Completes (exec (.selfTestDeep ms []) s) (fun t =>
      Answered s t c n .accepted [] ∧ t.fencedUnit d 0 = false ∧ t.nat Attr.FenceUnit.lastTest (d * 256) = 1 ∧ t.fcr.domainResets = d :: s.fcr.domainResets ∧
        (∃ a, t.fcr.admitted = [a] ∧ a.kind = 11 ∧ a.arrival = c.arrival) ∧ SameBut [.obj, .mbx, .fcr, .recd] s t)) ∧
  (∀ (s : State) (c : Cmd) (n k mode count : Nat), s.Serves c n → c.opcode = 0x1004 → field c.payload 0 2 = k → octet c.payload 2 = mode → octet c.payload 3 = count →
    (source k).isSome = true → 1 ≤ mode → mode ≤ 3 → 1 ≤ count →
    Completes (exec .faultInject s) (fun t =>
      if s.sys.lifecycle = .factory ∧ s.sys.mode = .factory then
        Answered s t c n .ok [] ∧ t.fcr = { s.fcr with injections := s.fcr.injections ++ [(k, mode, count)], injected := true } ∧ SameBut [.mbx, .fcr] s t
      else Answered s t c n .refused [] ∧ SameBut [.mbx, .recd] s t)) ∧
  (∀ (s : State) (c : Cmd) (n : Nat) (p : Policy), s.Serves c n → c.opcode = opAction → pathCls c.path = 0x1004 → pathAttr c.path = 0x40 → pathInst c.path = 0 →
    s.sys.mode = .provision ∨ s.sys.mode = .service → bit c.flags flagBulk = true → 96 ≤ c.data.length → p.deny.length ≤ 1024 → s.slotGood 5 = true →
    Completes (exec (.policyLoad p) s) (fun t =>
      if Config.ecdsaVerify384 ((Assoc.find 5 s.glv.slots).getD []) (c.data.take (c.data.length - 96)) (c.data.drop (c.data.length - 96)) = true then
        Answered s t c n .ok [] ∧
          t.fcr = { s.fcr with islandAllowed := p.islandAllowed, rateChip := p.rateChip, rateCell := p.rateCell, spacing := p.spacing, deny := p.deny } ∧
          t.octets Attr.SafetyFunction.policyDigest 0 = Config.sha256 c.data ∧ t.glv = { s.glv with policyHash := Config.sha256 c.data } ∧
          SameBut [.mbx, .fcr, .obj, .glv] s t
      else Answered s t c n .badValue [] ∧ SameBut [.mbx] s t)) ∧
  (∀ (s : State) (a : Activity) (x : Awaiting) (err : Int), s.fcr.admitted = [a] → a.kind ≠ 2 → a.kind ≠ 7 → a.internal = false → s.fcr.deferred = [] → s.fcr.waiting = [] →
    s.mbx.awaiting.find? (fun y => y.arrival == a.arrival) = some x → (s.session x.session).isSome = true →
    Completes (exec (.activityEnd a.kind a.unit err) s) (fun t =>
      t.fcr.admitted = [] ∧ t.mbx.awaiting = s.mbx.awaiting.filter (fun y => y.arrival != a.arrival) ∧
        (∃ e ∈ t.mbx.notifs, e.kind = kindComplete ∧ e.session = x.session ∧ e.arrival = a.arrival ∧ e.status = Status.ok.code) ∧
        t.recd = s.recd.ordinary ⟨0x1409, objPath 0x1010 0, [(a.kind : Int), 3, (a.arrival : Int)]⟩ ∧ SameBut [.fcr, .mbx, .recd] s t)) ∧
  (∀ (s : State) (a : Activity) (err : Int), s.fcr.admitted = [a] → a.kind = 7 → a.internal = true → s.fcr.deferred = [] → s.fcr.waiting = [] →
    Completes (exec (.activityEnd 7 a.unit err) s) (fun t =>
      t.fcr.admitted = [] ∧
        t.int Attr.RealTimeClock.agingOffset 0 =
          max (-32768) (min 32767 (s.int Attr.RealTimeClock.agingOffset 0 + (err * 8388608 + 500000000) / 1000000000)) ∧
        SameBut [.fcr, .mbx, .recd, .obj] s t)) ∧
  (∀ (s : State) (a b : Activity) (err : Int), s.fcr.admitted = [a] → a.kind = 11 → a.internal = true → s.fcr.deferred = [b] → b.kind = 8 → s.fcr.waiting = [] →
    Completes (exec (.activityEnd 11 a.unit err) s) (fun t =>
      t.fcr.admitted = [b] ∧ t.fcr.deferred = [] ∧ (t.lane b.unit).training = true ∧ t.nat Attr.LineLane.cancellerState b.unit = 1 ∧
        SameBut [.fcr, .mbx, .recd, .obj, .lin] s t))

/-- Measurement channels and filters (R466–R470, R472, R473): a filter set is loaded into slot 4 to 7, unless it is in use; a word goes through the integrators, and every 375th through the
combs; a channel settles for 5 CIC outputs and N filter outputs, and then runs from the interval on; a running channel gives one output sample each decimation; a change of set comes into use
at an interval boundary, where every enabled channel settles again. -/
def Obligations.MeasurementFilters : Prop :=
  (∀ (s : State) (c : Cmd) (n k d taps : Nat), s.Serves c n → c.opcode = 0x0A01 → octet c.data 0 = k → octet c.data 1 = d → field c.data 2 2 = taps → 4 ≤ k → k ≤ 7 →
    d ∈ [1, 2, 4, 8, 16, 32] → 8 ≤ taps → taps ≤ 384 → octet c.data 4 ≤ 63 → field c.data 5 3 = 0 → c.data.length = 8 + 3 * taps → 80 * (32000 / d) * taps ≤ 300000000 →
    k ≠ s.nat Attr.MeasurementService.firSet 0 → k ≠ s.firSet →
    Completes (exec .firLoad s) (fun t =>
      Answered s t c n .ok [] ∧ t.nat Attr.FirSet.decimation k = d ∧ t.nat Attr.FirSet.taps k = taps ∧ t.nat Attr.FirSet.shift k = octet c.data 4 ∧
        t.octets Attr.FirSet.coefficients k = c.data.drop 8 ∧ t.nat Attr.FirSet.latencyNs k = 77920 + (taps - 1) * 15625 ∧ SameBut [.mbx, .obj] s t)) ∧
  (∀ (s : State) (c : Cmd) (n k d taps : Nat), s.Serves c n → c.opcode = 0x0A01 → octet c.data 0 = k → octet c.data 1 = d → field c.data 2 2 = taps → 4 ≤ k → k ≤ 7 →
    d ∈ [1, 2, 4, 8, 16, 32] → 8 ≤ taps → taps ≤ 384 → octet c.data 4 ≤ 63 → field c.data 5 3 = 0 → c.data.length = 8 + 3 * taps → 80 * (32000 / d) * taps ≤ 300000000 →
    k = s.firSet →
    Completes (exec .firLoad s) (fun t => Answered s t c n .refused [] ∧ SameBut [.mbx] s t)) ∧
  (∀ (s : State) (k : Nat) (w : Int), k < 80 → s.flag Attr.MeasurementService.inputsWired 0 = true → s.flag Attr.MeasurementChannel.enabled k = true → s.cutOff 14 0 = false →
    -8 ≤ w → w ≤ 7 → (s.chan k).phase < 374 →
    Completes (exec (.meaSample k [w]) s) (fun t =>
      t.chan k = { s.chan k with integ := integrate (wrap48 w) (s.chan k).integ, phase := (s.chan k).phase + 1 } ∧ (∀ j, j ≠ k → t.chan j = s.chan j) ∧ SameBut [.mea] s t)) ∧
  (∀ (s : State) (k : Nat) (w : Int), k < 80 → s.flag Attr.MeasurementService.inputsWired 0 = true → s.flag Attr.MeasurementChannel.enabled k = true → s.cutOff 14 0 = false →
    -8 ≤ w → w ≤ 7 → (s.chan k).phase = 374 → 0 < (s.chan k).cicSkip →
    Completes (exec (.meaSample k [w]) s) (fun t =>
      t.chan k = { s.chan k with
        integ := integrate (wrap48 w) (s.chan k).integ, phase := 0, cicSkip := (s.chan k).cicSkip - 1,
        comb := (combOut ((integrate (wrap48 w) (s.chan k).integ).getLastD 0) (s.chan k).comb).1 } ∧
        (∀ j, j ≠ k → t.chan j = s.chan j) ∧ SameBut [.mea] s t)) ∧
  (∀ (s : State) (k : Nat) (w : Int), k < 80 → s.flag Attr.MeasurementService.inputsWired 0 = true → s.flag Attr.MeasurementChannel.enabled k = true → s.cutOff 14 0 = false →
    -8 ≤ w → w ≤ 7 → (s.chan k).phase = 374 → (s.chan k).cicSkip = 0 → s.firDecimation ≤ (s.chan k).count + 1 → (s.chan k).firSkip = 1 → (s.chan k).since = none →
    Completes (exec (.meaSample k [w]) s) (fun t =>
      t.flag Attr.MeasurementChannel.settling k = false ∧ (t.chan k).firSkip = 0 ∧ (t.chan k).since = some s.nowInterval ∧
        (t.chan k).samples = (s.chan k).samples ∧ SameBut [.mea, .obj, .mbx] s t)) ∧
  (∀ (s : State) (k : Nat) (w : Int), k < 80 → s.flag Attr.MeasurementService.inputsWired 0 = true → s.flag Attr.MeasurementChannel.enabled k = true → s.cutOff 14 0 = false →
    -8 ≤ w → w ≤ 7 → (s.chan k).phase = 374 → (s.chan k).cicSkip = 0 → s.firDecimation ≤ (s.chan k).count + 1 → (s.chan k).firSkip = 0 →
    Completes (exec (.meaSample k [w]) s) (fun t =>
      let x := (combOut ((integrate (wrap48 w) (s.chan k).integ).getLastD 0) (s.chan k).comb).2.toInt / 65536
      (t.chan k).xs = (x :: (s.chan k).xs).take 384 ∧ (t.chan k).count = 0 ∧
        (t.chan k).samples = ((s.sampleInstant, s.firOut k ((x :: (s.chan k).xs).take 384)) :: (s.chan k).samples).take 4096 ∧
        (∀ j, j ≠ k → t.chan j = s.chan j) ∧ SameBut [.mea, .obj, .mbx, .recd] s t)) ∧
  (∀ (s : State) (m : Nat), s.nat Attr.MeasurementService.firSet 0 = m → m ≠ s.firSet →
    Completes (exec .filterChanged s) (fun t =>
      t.firSet = m ∧ t.mea.switching = (List.range 80).filter (fun k => s.flag Attr.MeasurementChannel.enabled k) ∧ t.mea.suspect = s.nowInterval :: s.mea.suspect.take 3 ∧
        (∀ k ∈ t.mea.switching, t.flag Attr.MeasurementChannel.settling k = true ∧
          t.chan k = { s.chan k with firSkip := max (s.nat Attr.FirSet.taps m) 1, count := 0, samples := [] }) ∧
        t.recd = s.recd.ordinary ⟨0x0E09, objPath 0x0A10 0, [(m : Int), (s.nowInterval : Int)]⟩ ∧ SameBut [.mea, .obj, .mbx, .recd] s t)) ∧
  (∀ s : State, s.nat Attr.MeasurementService.firSet 0 = s.firSet → Completes (exec .filterChanged s) (fun t => t = s))
/-- Metrology, conditions and head records (R476, R477, R479, R481, R483, R486, R487): a cycle sets the frequency of its busbar and the power of its feeder; a half-cycle is tested, and a
voltage below the sag level starts a sag; the last rising crossing goes to the line port that names the channel; the end of an interval commits a record of a feeder whose channels all ran,
and records HEAD_GAP where one did not. -/
def Obligations.MeasurementRecords : Prop :=
  (∀ (s : State) (b f c1 c0 : Nat), b < 4 → s.cutOff 14 0 = false → s.flag Attr.MeasurementService.inputsWired 0 = true → s.cycleOf b = some (c1, c0) → c1 < c0 → f < 16 →
    (∀ g < 16, s.nat Attr.MeasurementFeeder.busbar g = b ↔ g = f) → s.mea.switching = [] →
    Completes (exec (.metrologyCycle b) s) (fun t =>
      t.meaBus b = { s.meaBus b with cycleEnd := c0, period := c0 - c1 } ∧ t.nat Attr.MeasurementBusbar.frequencyMhz b = 65536000000000000 / (c0 - c1) ∧
        t.int Attr.MeasurementFeeder.pW f = Frac.nearest (s.feederPower f b (c0 - c1) (s.instants (busL1 b) c1 c0)).1 ∧
        t.int Attr.MeasurementFeeder.qVar f = Frac.nearest (s.feederPower f b (c0 - c1) (s.instants (busL1 b) c1 c0)).2 ∧ t.mea.chans = s.mea.chans ∧
        SameBut [.mea, .obj, .mbx] s t)) ∧
  (∀ (s : State) (b a e rms : Nat), 1 ≤ b → b < 4 → s.cutOff 14 0 = false → s.flag Attr.MeasurementService.inputsWired 0 = true → s.halfOf b = some (a, e) →
    (∀ k < 76, k ≠ busL1 b → s.chanBus k = b → s.flag Attr.MeasurementChannel.enabled k = false) → s.flag Attr.MeasurementChannel.enabled (busL1 b) = true →
    (s.chan (busL1 b)).samples.filter (fun p => decide (a ≤ s.channelInstant (busL1 b) p.1) && decide (s.channelInstant (busL1 b) p.1 < e)) ≠ [] →
    s.rmsOf (busL1 b)
      ((((s.chan (busL1 b)).samples.filter (fun p => decide (a ≤ s.channelInstant (busL1 b) p.1) && decide (s.channelInstant (busL1 b) p.1 < e))).map
        (fun p => p.2.natAbs * p.2.natAbs)).sum)
      ((s.chan (busL1 b)).samples.filter (fun p => decide (a ≤ s.channelInstant (busL1 b) p.1) && decide (s.channelInstant (busL1 b) p.1 < e))).length = rms →
    s.mea.switching = [] → s.flag Attr.MeasurementChannel.settling (busL1 b) = false → (s.chan (busL1 b)).sag = {} → (s.chan (busL1 b)).swell = {} →
    s.nat Attr.MeasurementBusbar.persist b = 1 → rms * 1000 < s.nat Attr.MeasurementBusbar.sagLevel b * s.nominal b →
    rms * 1000 ≤ s.nat Attr.MeasurementBusbar.swellLevel b * s.nominal b →
    Completes (exec (.halfCycleTest b) s) (fun t =>
      t.nat Attr.MeasurementChannel.rmsHalf (busL1 b) = rms ∧ (t.chan (busL1 b)).sag.active = true ∧ (t.chan (busL1 b)).sag.extreme = rms ∧ (t.meaBus b).halfEnd = e ∧
        t.recd = s.recd.ordinary ⟨0x0E01, objPath 0x0A01 (busL1 b), [(busL1 b : Nat), (b : Int), 0, (rms : Int), 0]⟩ ∧ SameBut [.mea, .obj, .mbx, .recd] s t)) ∧
  (∀ (s : State) (p u : Nat) (us : List Nat), p < 16 → s.nat Attr.LinePort.zcSource p = 2 → s.cutOff 14 0 = false →
    (s.chan (s.nat Attr.LinePort.zcSourceArg p)).rises = u :: us → (s.port p).edges = [] → (s.port p).good = 0 →
    Completes (exec (.meaZeroCrossing p) s) (fun t =>
      (t.port p).edges = [u - s.nat Attr.LinePort.zcDelayNs p * 65536] ∧ (t.port p).good = 1 ∧ (t.port p).missing = 0 ∧ SameBut [.lin, .obj, .mbx] s t)) ∧
  (∀ (s : State) (p : Nat), s.cutOff 14 0 = true → Completes (exec (.meaZeroCrossing p) s) (fun t => t = s)) ∧
  (∀ (s : State) (i f h : Nat), s.nowInterval = i + 1 → s.flag Attr.MeasurementService.inputsWired 0 = true → s.sys.mode = .service → s.mea.headDone ≠ some i → s.unset = false → f < 16 →
    (∀ g < 16, g ≠ f → s.nat Attr.MeasurementFeeder.headHandle g = 0xFFFFFFFF) → s.nat Attr.MeasurementFeeder.headHandle f = h → h < 2 ^ 21 →
    (∀ x ∈ (s.feeder f).energy, i ≤ x.1) → (∀ k ∈ s.feederChannels f, s.chanGap k i = false) →
    Completes (exec .headRecord s) (fun t =>
      let r := headEnergy (s.int Attr.EndpointProfile.scale h) ((Assoc.find i (s.feeder f).energy).getD []) (s.feeder f).rest
      (∃ fl q, t.col.flights = s.col.flights ++ [fl] ∧ fl.id = s.col.nextFlight ∧ fl.mark = none ∧
        fl.recs = [⟨h, i, q, r.1.map (fun v => min v topVal) ++
          [0, 1, 2].map (fun p => min (s.rmsInterval (busL1 (s.nat Attr.MeasurementFeeder.busbar f) + p) i) topVal) ++ [absentVal]⟩]) ∧
        (t.feeder f).rest = r.2 ∧ t.mea.headDone = some i ∧ SameBut [.mea, .obj, .mbx, .col, .sto, .twn] s t)) ∧
  (∀ (s : State) (i f h k : Nat), s.nowInterval = i + 1 → s.flag Attr.MeasurementService.inputsWired 0 = true → s.sys.mode = .service → s.mea.headDone ≠ some i → s.unset = false → f < 16 →
    (∀ g < 16, g ≠ f → s.nat Attr.MeasurementFeeder.headHandle g = 0xFFFFFFFF) → s.nat Attr.MeasurementFeeder.headHandle f = h → h < 2 ^ 21 →
    (∀ x ∈ (s.feeder f).energy, i ≤ x.1) → k ∈ s.feederChannels f → s.chanGap k i = true →
    Completes (exec .headRecord s) (fun t =>
      t.recd = s.recd.ordinary ⟨0x0E08, objPath 0x0A02 f, [(h : Int), (i : Int)]⟩ ∧ t.mea.headDone = some i ∧ t.col = s.col ∧ SameBut [.mea, .obj, .mbx, .recd] s t))

/-- Root slots, keys, attestation and credentials (R530, R533–R535, R540–R542, R546, R547, R558): a USER slot is programmed once and destroyed for good; an import keeps the keys of each good
record under the next generation; the scope 2 rotation wraps every blob under the next KEK generation and scope 1 starts a cell's next beacon key; the switch counts those that have not
confirmed; a TRNG fault is recorded and reported; an attestation is counted and signed; a credential is added under a good certificate and removed. -/
def Obligations.KeysAndCredentials : Prop :=
  (∀ (s : State) (c : Cmd) (n i : Nat), s.Serves c n → c.opcode = opAction → pathCls c.path = 0x0C01 → pathAttr c.path = 0x40 → pathInst c.path = i → 16 ≤ i → i ≤ 31 →
    s.sys.lifecycle = .field → s.sys.mode = .provision → s.nat Attr.RootSlot.state i = 0 → s.flag Attr.GloveboxService.otpLocked 0 = false → s.flag Attr.GloveboxService.sealed 0 = false →
    c.payload.length = 32 → Assoc.find i s.glv.blown = none →
    Completes (exec .rootProgram s) (fun t =>
      Answered s t c n .ok [] ∧ t.nat Attr.RootSlot.state i = 1 ∧ t.octets Attr.RootSlot.value i = c.payload ∧ t.nat Attr.RootSlot.tag i = leNat (slotTag i c.payload) ∧
        Assoc.find i t.glv.slots = some c.payload ∧ t.recd = s.recd.ordinary ⟨0x1005, objPath 0x0C01 i, [(i : Int)]⟩ ∧ SameBut [.mbx, .glv, .obj, .recd] s t)) ∧
  (∀ (s : State) (c : Cmd) (n : Nat), s.Serves c n → c.opcode = opAction → pathCls c.path = 0x0C01 → pathAttr c.path = 0x40 → s.nat Attr.RootSlot.state (pathInst c.path) = 1 →
    Completes (exec .rootProgram s) (fun t => Answered s t c n .refused [] ∧ SameBut [.mbx] s t)) ∧
  (∀ (s : State) (c : Cmd) (n i : Nat), s.Serves c n → c.opcode = opAction → pathCls c.path = 0x0C01 → pathAttr c.path = 0x41 → pathInst c.path = i → 16 ≤ i → i ≤ 31 →
    s.sys.mode = .provision → s.flag Attr.GloveboxService.otpLocked 0 = false → s.flag Attr.GloveboxService.sealed 0 = false →
    Completes (exec .rootDestroy s) (fun t =>
      Answered s t c n .ok [] ∧ t.nat Attr.RootSlot.state i = 3 ∧ t.nat Attr.RootSlot.tag i = 2 ^ 64 - 1 ∧ t.octets Attr.RootSlot.value i = List.replicate 32 0xFF#8 ∧
        t.recd = s.recd.ordinary ⟨0x1005, objPath 0x0C01 i, [(i : Int)]⟩ ∧ SameBut [.mbx, .glv, .obj, .recd] s t)) ∧
  (∀ (s : State) (c : Cmd) (n : Nat), s.Serves c n → c.opcode = 0x0C01 → octet c.payload 0 = 2 → c.payload.length < 8 → s.flag Attr.GloveboxService.sealed 0 = false →
    s.fcr.admitted = [] → s.fcr.deferred = [] → (∀ x ∈ s.glv.keys, x.1 / 16 ≤ maxHandle) →
    Completes (exec .keyRotate s) (fun t =>
      Answered s t c n .accepted [] ∧ t.nat Attr.GloveboxService.kekGeneration 0 = (s.nat Attr.GloveboxService.kekGeneration 0 + 1) % 256 ∧
        t.glv = { s.glv with bank := s.glv.bank.map (fun _ => (s.nat Attr.GloveboxService.kekGeneration 0 + 1) % 256) } ∧ SameBut [.mbx, .fcr, .recd, .glv, .obj] s t)) ∧
  (∀ (s : State) (c : Cmd) (n cell : Nat), s.Serves c n → c.opcode = 0x0C01 → octet c.payload 0 = 1 → field c.payload 4 2 = cell → s.flag Attr.GloveboxService.sealed 0 = false →
    s.isLine cell = true → s.cellHandles cell = [] → s.fcr.admitted = [] → s.fcr.deferred = [] →
    Completes (exec .keyRotate s) (fun t =>
      Answered s t c n .accepted [] ∧ t.glv = { s.glv with beaconNext := Assoc.put cell [] s.glv.beaconNext } ∧ SameBut [.mbx, .fcr, .recd, .glv] s t)) ∧
  (∀ (s : State) (c : Cmd) (n h g : Nat), s.Serves c n → c.opcode = 0x0C01 → octet c.payload 0 = 3 → s.flag Attr.GloveboxService.sealed 0 = false → bit c.flags flagBulk = true →
    field c.data 4 4 = 1 → c.data.length = 128 → field (slice (c.data.drop 72) 0 56) 0 4 = h → h ≤ maxHandle → octet (slice (c.data.drop 72) 0 56) 4 ≤ 3 → s.endpoint h = true →
    (s.nat Attr.EndpointKey.generation h + 1) % 16 = g →
    Completes (exec .keyRotate s) (fun t =>
      match Config.importKeys (slice c.data 8 64) 0 (slice (c.data.drop 72) 0 56) with
      | some ks =>
        Answered s t c n .ok [0] ∧ t.glv = { s.glv with keys := Assoc.put (h * 16 + g) ks s.glv.keys } ∧ t.nat Attr.EndpointKey.pendingGeneration h = g ∧
          t.nat Attr.EndpointKey.suite h = octet (slice (c.data.drop 72) 0 56) 4 ∧ t.nat Attr.EndpointKey.keyState h = 1 ∧ t.sys = { s.sys with keysImported := true } ∧
          SameBut [.mbx, .sys, .recd, .glv, .obj, .sto, .twn] s t
      | none => Answered s t c n .ok [BitVec.ofNat 8 Status.badValue.code] ∧ SameBut [.mbx, .recd, .obj] s t)) ∧
  (∀ (s : State) (c : Cmd) (n : Nat), s.Serves c n → c.opcode = 0x0C01 → s.flag Attr.GloveboxService.sealed 0 = true →
    Completes (exec .keyRotate s) (fun t => Answered s t c n .refused [] ∧ SameBut [.mbx] s t)) ∧
  (∀ (s : State) (cell : Nat) (left : List Nat) (ten : Bool), Assoc.find cell s.glv.beaconNext = some left → left = [] ∨ ten = true →
    Completes (exec (.beaconKeySwitch cell ten) s) (fun t =>
      t.beaconGen cell = (s.beaconGen cell + 1) % 2 ^ 16 ∧
        t.nat Attr.GloveboxService.beaconKeyUnconfirmed 0 = (s.nat Attr.GloveboxService.beaconKeyUnconfirmed 0 + left.length) % 2 ^ 32 ∧
        t.recd = (if left = [] then s.recd else s.recd.ordinary ⟨0x100A, objPath 0x0C10 0, [(cell : Int), (left.length : Int)]⟩).ordinary
          ⟨0x1006, objPath 0x0C10 0, [1, (cell : Int), (((s.beaconGen cell + 1) % 2 ^ 16 : Nat) : Int)]⟩ ∧
        SameBut [.glv, .obj, .mbx, .recd] s t)) ∧
  (∀ (s : State) (k : Nat), s.glv.trngFault = false → s.nat Attr.FaultSource.reaction 256 = 1 → s.fcr.injections = [] →
    Completes (exec (.trngFault k) s) (fun t =>
      t.glv = { s.glv with trngFault := true } ∧ t.flag Attr.FaultSource.latched 256 = true ∧ t.fcr.irqs = s.fcr.irqs + 1 ∧
        t.recd = (s.recd.ordinary ⟨0x100B, objPath 0x0C10 0, [(k : Int)]⟩).ordinary ⟨0x1401, objPath 0x1002 256, [256, 1, 1]⟩ ∧ SameBut [.glv, .obj, .mbx, .fcr, .recd] s t)) ∧
  (∀ (s : State) (c : Cmd) (n : Nat), s.Serves c n → c.opcode = 0x0C02 → 36 ≤ c.payload.length →
    Completes (exec .attest s) (fun t =>
      if s.attestKey = 0 then Answered s t c n .refused [] ∧ SameBut [.mbx] s t
      else
        let b := ({ s with glv := { s.glv with attests := (s.glv.attests + 1) % 2 ^ 32 } } : State).attestBody (c.payload.take 32)
        Answered s t c n .ok (b ++ fitBytes 96 (Config.ecdsaSign384 s.attestKey b)) ∧ t.glv = { s.glv with attests := (s.glv.attests + 1) % 2 ^ 32 } ∧ SameBut [.mbx, .glv] s t)) ∧
  (∀ (s : State) (c : Cmd) (n : Nat), s.Serves c n → c.opcode = opAction → pathCls c.path = 0x0C10 → pathAttr c.path = 0x40 → octet c.payload 0 ≤ 7 → s.slotGood 6 = true →
    Completes (exec .credentialAdd s) (fun t =>
      if Config.certChains (s.octets Attr.RootSlot.value 6) (c.payload.drop 4) = true then
        Answered s t c n .ok (leBytes 4 s.newCredential) ∧ t.alive 0x0C20 s.newCredential = true ∧ t.nat Attr.RoleCredential.role s.newCredential = octet c.payload 0 ∧
          t.octets Attr.RoleCredential.certDigest s.newCredential = Config.sha256 (c.payload.drop 4) ∧ SameBut [.mbx, .obj] s t
      else Answered s t c n .badValue [] ∧ SameBut [.mbx] s t)) ∧
  (∀ (s : State) (c : Cmd) (n : Nat), s.Serves c n → s.obj.Canonical → c.opcode = opAction → pathCls c.path = 0x0C10 → pathAttr c.path = 0x41 →
    Completes (exec .credentialRemove s) (fun t =>
      if s.alive 0x0C20 (field c.payload 0 4) = true then Answered s t c n .ok [] ∧ t.alive 0x0C20 (field c.payload 0 4) = false ∧ SameBut [.mbx, .obj] s t
      else Answered s t c n .notFound [] ∧ SameBut [.mbx] s t))
/-- Tamper and life cycle (R99, R118, R552–R558, R755, R756): a trip of a class above LOG latches, seals and, of the highest class, erases; the latch ends with two acks of two roles and two
credentials, within 600 s; a source's class is set in PROVISION; the fuses advance by one arrow, by OPERATOR from FACTORY, and after a SAFETY session elsewhere. -/
def Obligations.TamperAndLifecycle : Prop :=
  (∀ (s : State) (n cls : Nat), n ≤ 10 → s.flag Attr.TamperSource.active n = false → s.nat Attr.TamperSource.klass n = cls → 2 ≤ cls → s.sys.resetOutLow = false →
    Completes (exec (.tamperTrip n []) s) (fun t =>
      t.sys = { s.sys with tamperLatched := true } ∧ t.flag Attr.GloveboxService.sealed 0 = true ∧
        t.nat Attr.GloveboxService.tripCount 0 = (s.nat Attr.GloveboxService.tripCount 0 + 1) % 2 ^ 32 ∧ (n ≠ 9 → t.flag Attr.TamperSource.active n = true) ∧ t.glv.ack = none ∧
        (cls = 3 → t.glv.erased = true ∧ t.glv.cache = [] ∧ t.glv.bank = none ∧ t.flag Attr.GloveboxService.otpLocked 0 = true) ∧
        t.recd = s.recd.safe ⟨0x1001, objPath 0x0C11 n, [(n : Int), (cls : Int), ((s.nat Attr.GloveboxService.tripCount 0 + 1) % 2 ^ 32 : Nat)]⟩ ∧
        SameBut [.sys, .obj, .mbx, .recd, .glv] s t)) ∧
  (∀ (s : State) (n : Nat), n ≤ 10 → s.flag Attr.TamperSource.active n = false → s.nat Attr.TamperSource.klass n = 1 → s.sys.resetOutLow = true →
    Completes (exec (.tamperTrip n []) s) (fun t =>
      t.glv = { s.glv with firstTrip := s.glv.firstTrip.or (some (n, 1)), ack := none } ∧
        t.nat Attr.GloveboxService.tripCount 0 = (s.nat Attr.GloveboxService.tripCount 0 + 1) % 2 ^ 32 ∧ SameBut [.obj, .mbx, .glv] s t)) ∧
  (∀ (s : State) (n : Nat), s.flag Attr.TamperSource.active n = true → Completes (exec (.tamperTrip n []) s) (fun t => t = s)) ∧
  (∀ (s : State) (n : Nat), n ≤ 10 →
    Completes (exec (.tamperSourceInactive n) s) (fun t => t.flag Attr.TamperSource.active n = false ∧ SameBut [.obj, .mbx] s t)) ∧
  (∀ (s : State) (c : Cmd) (n : Nat), s.Serves c n → c.opcode = 0x0C03 → s.sys.tamperLatched = true → field c.payload 0 4 = s.nat Attr.GloveboxService.tripCount 0 →
    (∀ k < 11, s.flag Attr.TamperSource.active k = false) → s.glv.ack = none →
    Completes (exec .tamperAck s) (fun t =>
      Answered s t c n .accepted [] ∧ t.glv = { s.glv with ack := some (roleIndex c.role, c.cred, s.tim.d3) } ∧ t.sys.tamperLatched = true ∧ SameBut [.mbx, .glv] s t)) ∧
  (∀ (s : State) (c : Cmd) (n role cred at3 : Nat), s.Serves c n → c.opcode = 0x0C03 → s.sys.tamperLatched = true → field c.payload 0 4 = s.nat Attr.GloveboxService.tripCount 0 →
    (∀ k < 11, s.flag Attr.TamperSource.active k = false) → s.glv.ack = some (role, cred, at3) → s.tim.d3 ≤ at3 + sec 600 → role ≠ roleIndex c.role → cred ≠ c.cred →
    Completes (exec .tamperAck s) (fun t =>
      Answered s t c n .ok [] ∧ t.sys = { s.sys with tamperLatched := false } ∧ t.flag Attr.GloveboxService.sealed 0 = false ∧ t.flag Attr.GloveboxService.otpLocked 0 = false ∧
        t.glv = { s.glv with ack := none, erased := false, bank := some (s.nat Attr.GloveboxService.kekGeneration 0) } ∧
        t.recd = s.recd.ordinary ⟨0x1002, objPath 0x0C10 0, [(s.nat Attr.GloveboxService.tripCount 0 : Nat), (cred : Int), (c.cred : Int)]⟩ ∧
        SameBut [.mbx, .sys, .obj, .recd, .glv] s t)) ∧
  (∀ s : State, Completes (exec .tamperAckExpiry s) (fun t => t.glv = { s.glv with ack := none } ∧ SameBut [.glv] s t)) ∧
  (∀ s : State, Completes (exec .lifecycleAckExpiry s) (fun t => t.glv = { s.glv with advance := none } ∧ SameBut [.glv] s t)) ∧
  (∀ (s : State) (c : Cmd) (n i : Nat), s.Serves c n → c.opcode = opAction → pathCls c.path = 0x0C11 → pathAttr c.path = 0x40 → pathInst c.path = i → 4 ≤ i → i ≤ 7 →
    s.sys.mode = .provision → octet c.payload 0 ≤ 3 → octet c.payload 1 ≤ 1 → 1 ≤ field c.payload 2 2 → field c.payload 2 2 ≤ 64 →
    Completes (exec .tamperConfigure s) (fun t =>
      Answered s t c n .ok [] ∧ t.nat Attr.TamperSource.klass i = octet c.payload 0 ∧ t.nat Attr.TamperSource.activeLevel i = octet c.payload 1 ∧
        t.nat Attr.TamperSource.debounceMs i = field c.payload 2 2 ∧ SameBut [.mbx, .obj] s t)) ∧
  (∀ (s : State) (c : Cmd) (n : Nat), s.Serves c n → c.opcode = opAction → pathCls c.path = 0x0C11 → pathAttr c.path = 0x40 → pathInst c.path = 9 →
    Completes (exec .tamperConfigure s) (fun t => Answered s t c n .refused [] ∧ SameBut [.mbx] s t)) ∧
  (∀ (s : State) (c : Cmd) (n : Nat), s.Serves c n → s.obj.Canonical → c.opcode = 0x0C04 → octet c.payload 0 = 2 → s.sys.mode = .factory → s.sys.lifecycle = .factory →
    s.flag Attr.GloveboxService.sealed 0 = false → s.glv.trngFault = false → c.role = .operator → (∀ k ∈ [2, 3, 4, 5, 6], s.slotGood k = true) →
    Completes (exec .lifecycleAdvance s) (fun t =>
      Answered s t c n .ok [] ∧ t.sys = { s.sys with lifecycle := .field, postureWritten := false, resetDue := true } ∧ (∀ k ∈ [7, 8, 9], t.slotGood k = true) ∧
        (∀ k < 2 ^ 40, t.alive 0x0C20 k = false) ∧ t.glv.bank = none ∧ t.glv.attests = 0 ∧ t.dbg.unlocks = 0 ∧ t.recd.ring = [] ∧ t.recd.head = 0 ∧ t.recd.last = none ∧
        SameBut [.mbx, .sys, .dbg, .obj, .glv, .recd] s t)) ∧
  (∀ (s : State) (c : Cmd) (n : Nat), s.Serves c n → c.opcode = 0x0C04 → octet c.payload 0 = 3 → s.sys.mode = .provision → s.sys.lifecycle = .field →
    s.flag Attr.GloveboxService.sealed 0 = false → s.glv.trngFault = false → c.role = .safety →
    Completes (exec .lifecycleAdvance s) (fun t =>
      Answered s t c n .accepted [] ∧ t.glv = { s.glv with advance := some (3, c.cred, s.tim.d3) } ∧ t.sys = s.sys ∧ SameBut [.mbx, .glv] s t)) ∧
  (∀ (s : State) (c : Cmd) (n : Nat), s.Serves c n → c.opcode = 0x0C04 → octet c.payload 0 = 3 → s.sys.mode = .provision → s.sys.lifecycle = .field →
    s.flag Attr.GloveboxService.sealed 0 = false → s.glv.trngFault = false → c.role = .operator → s.glv.advance = none →
    Completes (exec .lifecycleAdvance s) (fun t => Answered s t c n .denied [] ∧ SameBut [.mbx] s t))

/-- The disciplined domains (R566–R568, R572, R573, R575–R579): a Sync disciplines its domain, and the 16th good one locks it; D2 follows the selected domain, and in SHADOW the partner's D2; a
lost domain leaves HOLDOVER, a reverted one is selected again, and a first lock steps service time where AUTO_STEP allows it. -/
def Obligations.DisciplinedTime : Prop :=
  (∀ (s : State) (d master : Nat) (freq : Int), d ≤ 1 → s.syncArrives d = true → s.sys.mode = .shadow → s.domLocked d = false →
    ((s.dom d : Int) - master).natAbs ≤ s.nat Attr.TimeDomain.lockNs d * 65536 → (s.servo d).good < 16 →
    Completes (exec (.ptpSync d master freq false) s) (fun t =>
      t.dom d = s.dom d ∧ (t.servo d).freq = clampRate freq ∧ (t.servo d).good = (s.servo d).good + 1 ∧
        t.nat Attr.TimeDomain.lockState d = (if (s.servo d).good = 15 then 2 else 1) ∧ t.int Attr.TimeDomain.freqPpb d = clampRate freq / 1024 ∧
        t.recd = (if (s.servo d).good = 15 then s.recd.ordinary ⟨0x1105, objPath 0x0D02 d, [(d : Int), 1]⟩ else s.recd) ∧ t.tim.d2 = s.tim.d2 ∧
        SameBut [.tim, .obj, .mbx, .recd] s t)) ∧
  (∀ (s : State) (master : Nat) (freq : Int), s.syncArrives 0 = true → s.sys.mode = .service → s.nat Attr.TimeService.state 0 = 2 → s.nat Attr.TimeService.selected 0 = 0 →
    s.domUsable 0 = true → (s.tim.s0).good < 16 → ((s.tim.d0 : Int) - master).natAbs ≤ s.nat Attr.TimeDomain.lockNs 0 * 65536 →
    Completes (exec (.ptpSync 0 master freq false) s) (fun t =>
      t.tim = { s.tim with
        s0 := { s.tim.s0 with freq := clampRate freq, good := s.tim.s0.good + 1, bad := 0, had := true }, s2 := { s.tim.s2 with freq := clampRate freq },
        slew := ((s.tim.d0 : Int) - s.tim.d2) * rateUnit, revert := none, jump := none } ∧
        t.nat Attr.TimeService.state 0 = 2 ∧ t.nat Attr.TimeService.selected 0 = 0 ∧ SameBut [.tim, .obj, .mbx] s t)) ∧
  (∀ (s : State) (master : Nat) (freq : Int) (steps : Bool), s.sys.mode = .shadow → s.cutOff 17 0 = false → s.cutOff 19 0 = false →
    Completes (exec (.ptpSync 2 master freq steps) s) (fun t =>
      t.tim = { s.tim with s2 := { s.tim.s2 with freq := clampRate freq }, slew := ((master : Int) - s.tim.d2) * rateUnit } ∧ SameBut [.tim] s t)) ∧
  (∀ s : State, s.sys.mode ≠ .shadow → s.nat Attr.TimeService.state 0 = 2 → s.nat Attr.TimeService.selected 0 = 0 → s.domLocked 0 = true → s.domLocked 1 = false →
    Completes (exec (.domainLossTimeout 0) s) (fun t =>
      t.nat Attr.TimeDomain.lockState 0 = 0 ∧ t.nat Attr.TimeService.state 0 = 3 ∧ t.nat Attr.TimeService.selected 0 = 0xFF ∧ t.tim.d2 = s.tim.d2 ∧
        t.recd = ((s.recd.ordinary ⟨0x1105, objPath 0x0D02 0, [0, 0]⟩).ordinary ⟨0x1106, objPath 0x0D01 0, [1]⟩).ordinary ⟨0x1104, objPath 0x0D01 0, [0, 255]⟩ ∧
        SameBut [.tim, .obj, .mbx, .recd] s t)) ∧
  (∀ s : State, s.sys.mode ≠ .shadow → s.nat Attr.TimeService.state 0 = 2 → s.nat Attr.TimeService.selected 0 = 1 → s.domUsable 0 = true →
    Completes (exec .domainRevert s) (fun t =>
      t.nat Attr.TimeService.selected 0 = 0 ∧ t.nat Attr.TimeService.state 0 = 2 ∧ t.tim = { s.tim with revert := none, jump := none } ∧
        t.recd = s.recd.ordinary ⟨0x1104, objPath 0x0D01 0, [1, 0]⟩ ∧ SameBut [.tim, .obj, .mbx, .recd] s t)) ∧
  (∀ s : State, s.nat Attr.TimeService.state 0 = 4 → s.flag Attr.TimeService.autoStep 0 = true → s.sys.mode = .service → s.flag Attr.MeasurementService.inputsWired 0 = false →
    s.cutOff 13 0 = true → s.bil.cals = [] → s.bil.executed = [] → s.pendingStep ≤ s.tim.d2 →
    Completes (exec .autoStep s) (fun t =>
      t.tim = { s.tim with d2 := s.pendingStep, slew := 0, jump := none, alignDue := true } ∧ t.nat Attr.TimeService.state 0 = 2 ∧
        t.nat Attr.TimeService.steps 0 = (s.nat Attr.TimeService.steps 0 + 1) % 2 ^ 32 ∧ t.nat Attr.TimeService.pendingOffsetNs 0 = 0 ∧
        t.recd = (s.recd.ordinary ⟨0x1103, objPath 0x0D01 0, [(s.tim.d2 / sec 1 : Nat), (s.pendingStep / sec 1 : Nat)]⟩).ordinary
          ⟨0x1101, objPath 0x0D01 0, [((splitTime s.pendingStep).1 : Int), ((splitTime s.pendingStep).2 : Int), 2, 1]⟩ ∧
        SameBut [.tim, .obj, .mbx, .recd, .sto, .twn] s t))

/-- Steps of service time and PTP (R581, R582, R584, R586): a step is committed with its count, its anchor and its journal entry, and refused while a domain is LOCKED; PTP messages go out
with their residence time, and a port serves as boundary clock; a leap second is smeared; an anchor is journalled. -/
def Obligations.TimeStepsAndPtp : Prop :=
  (∀ (s : State) (c : Cmd) (n new : Nat), s.Serves c n → c.opcode = 0x0D01 → octet c.payload 0 = 1 → s.sys.mode = .service → s.lockedDom = none →
    s.nat Attr.TimeService.state 0 = 3 → field c.payload 4 8 < 2 ^ 48 → field c.payload 12 4 < 1000000000 → sec (field c.payload 4 8) + field c.payload 12 4 * 65536 = new →
    ((new : Int) - s.tim.d2).natAbs ≤ sec (s.nat Attr.TimeService.stepMaxS 0) → ((new : Int) - s.tim.d2).natAbs ≤ s.jumpLimit →
    s.flag Attr.MeasurementService.inputsWired 0 = false → s.cutOff 13 0 = true →
    Completes (exec .timeStep s) (fun t =>
      Answered s t c n .ok [] ∧ t.tim = { s.tim with d2 := new, slew := 0, jump := none, alignDue := true } ∧ t.nat Attr.TimeService.state 0 = 3 ∧
        t.nat Attr.TimeService.steps 0 = (s.nat Attr.TimeService.steps 0 + 1) % 2 ^ 32 ∧ SameBut [.mbx, .tim, .obj, .recd, .sto, .twn] s t)) ∧
  (∀ (s : State) (c : Cmd) (n : Nat), s.Serves c n → c.opcode = 0x0D01 → octet c.payload 0 = 1 → s.lockedDom.isSome = true →
    Completes (exec .timeStep s) (fun t => Answered s t c n .refused [] ∧ SameBut [.mbx] s t)) ∧
  (∀ (s : State) (c : Cmd) (n : Nat), s.Serves c n → c.opcode = 0x0D01 → octet c.payload 0 = 0 → s.nat Attr.TimeService.state 0 ≠ 4 →
    Completes (exec .timeStep s) (fun t => Answered s t c n .notFound [] ∧ SameBut [.mbx] s t)) ∧
  (∀ (s : State) (pin pout at3 : Nat) (correction delay : Int) (sync : Bool), pin < 8 → pout < 8 → s.cutOff 7 pin = false → s.cutOff 7 pout = false →
    Completes (exec (.ptpBridge pin pout at3 correction delay sync) s) (fun t =>
      t.tim = { s.tim with bridged := s.tim.bridged ++
        [(pout, correction + ((s.tim.d3 : Int) - at3) +
          (if (s.nat Attr.PtpPort.profile pin = 2 ∨ s.nat Attr.PtpPort.profile pin = 3) ∧ sync = true then delay else 0))] } ∧ SameBut [.tim] s t)) ∧
  (∀ (s : State) (p : Nat), p < 8 → s.flag Attr.PtpPort.master p = true → s.cutOff 7 p = false → s.cutOff 17 0 = false → s.nat Attr.TimeDomain.sourcePort 0 ≠ p →
    s.nat Attr.TimeDomain.sourcePort 1 ≠ p → s.nat Attr.TimeService.state 0 = 2 →
    Completes (exec (.boundaryClockSync p) s) (fun t => t.tim = { s.tim with served := s.tim.served ++ [(p, 6, some s.tim.d2)] } ∧ SameBut [.tim] s t)) ∧
  (∀ (s : State) (p : Nat), p < 8 → s.flag Attr.PtpPort.master p = true → s.cutOff 7 p = false → s.cutOff 17 0 = false → s.nat Attr.TimeDomain.sourcePort 0 ≠ p →
    s.nat Attr.TimeDomain.sourcePort 1 ≠ p → s.nat Attr.TimeService.state 0 = 4 →
    Completes (exec (.boundaryClockSync p) s) (fun t => t.tim = { s.tim with served := s.tim.served ++ [(p, 248, none)] } ∧ SameBut [.tim] s t)) ∧
  (∀ (s : State) (ins : Bool), Completes (exec (.leapSecondSmear ins) s) (fun t => t.tim = { s.tim with leap := some ins } ∧ SameBut [.tim] s t)) ∧
  (∀ s : State, Completes (exec .timeAnchor s) (fun t =>
    t.recd = s.recd.ordinary ⟨0x1101, objPath 0x0D01 0,
      [((splitTime s.tim.d2).1 : Int), ((splitTime s.tim.d2).2 : Int), (s.nat Attr.TimeService.state 0 : Nat), 0]⟩ ∧ SameBut [.recd] s t))

/-- The RTC (R588–R600): a second moves the calendar, and an enabled alarm whose instant has come fires, its instant in LAST_FIRE; a first read freezes the group until the year is read or the
shadow is stale; staging writes are PCIe's only under `host_write`, and a commit takes a valid group with its key; the trim follows the curve; a stopped oscillator and the supply are
kept in their status bits; Purel aligns the RTC to service time while it is LOCKED, and a recalibration asks the arbiter. -/
def Obligations.RealTimeClock : Prop :=
  (∀ s : State, s.cutOff 18 0 = true →
    Completes (exec .rtcSecond s) (fun t => t.tim = { s.tim with rtc := { s.tim.rtc with live := s.tim.rtc.live.second, subTicks := 0 } } ∧ SameBut [.tim] s t)) ∧
  (∀ (s : State) (n u p e : Nat), n < 4 → s.cutOff 18 0 = false → (∀ m < 4, m ≠ n → s.flag Attr.RtcAlarm.enable m = false) → s.flag Attr.RtcAlarm.enable n = true →
    s.nat Attr.RtcAlarm.instant n = u → s.nat Attr.RtcAlarm.periodS n = p → s.tim.rtc.live.second.epoch = e → u ≤ e → s.nat Attr.RtcAlarm.lastFire n < u →
    Completes (exec .rtcSecond s) (fun t =>
      t.nat Attr.RtcAlarm.lastFire n = u ∧ t.tim.rtc.fired = s.tim.rtc.fired ||| 2 ^ n ∧ t.tim.rtc.purelIrqs = s.tim.rtc.purelIrqs + 1 ∧
        t.tim.rtc.hostIrqs = (if s.flag Attr.RtcAlarm.irqEnable n then s.tim.rtc.hostIrqs + 1 else s.tim.rtc.hostIrqs) ∧
        (p = 0 → t.flag Attr.RtcAlarm.enable n = false) ∧ (p ≠ 0 → t.nat Attr.RtcAlarm.instant n = u + ((e - u) / p + 1) * p) ∧
        t.tim.rtc.live = s.tim.rtc.live.second ∧ SameBut [.tim, .obj, .mbx] s t)) ∧
  (∀ (s : State) (who a : Nat), s.cutOff 18 0 = false → s.tim.rtc.shadow who = none →
    Completes (exec (.rtcGroupRead who a) s) (fun t =>
      t.tim.rtc = { s.tim.rtc.setShadow who (some (s.liveGroup, s.tim.d3)) with readOut := s.liveGroup.reg a } ∧ SameBut [.tim] s t)) ∧
  (∀ (s : State) (who a : Nat) (x : RtcGroup × Nat), s.cutOff 18 0 = false → s.tim.rtc.shadow who = some x →
    Completes (exec (.rtcGroupRead who a) s) (fun t => t.tim.rtc = { s.tim.rtc with readOut := x.1.reg a } ∧ SameBut [.tim] s t)) ∧
  (∀ (s : State) (who : Nat) (x : RtcGroup × Nat), s.cutOff 18 0 = false → s.tim.rtc.shadow who = some x →
    Completes (exec (.rtcYearRead who) s) (fun t => t.tim.rtc = { s.tim.rtc.setShadow who none with readOut := x.1.year } ∧ SameBut [.tim] s t)) ∧
  (∀ (s : State) (who a : Nat), s.cutOff 18 0 = true →
    Completes (exec (.rtcGroupRead who a) s) (fun t => t.tim.rtc = { s.tim.rtc with readOut := 0 } ∧ SameBut [.tim] s t)) ∧
  (∀ (s : State) (who : Nat), (s.tim.rtc.shadow who).isSome = true →
    Completes (exec (.shadowStale who) s) (fun t => t.tim.rtc = { s.tim.rtc.setShadow who none with stale := true } ∧ SameBut [.tim] s t)) ∧
  (∀ (s : State) (who a v : Nat), s.rtcWrites who = true →
    Completes (exec (.rtcStagingWrite who a v) s) (fun t =>
      t.tim.rtc = { s.tim.rtc with stage := (if s.tim.rtc.staged then s.tim.rtc.stage else s.liveGroup).setReg a v, staged := true } ∧ SameBut [.tim] s t)) ∧
  (∀ (s : State) (a v : Nat), s.flag Attr.RealTimeClock.hostWrite 0 = false → Completes (exec (.rtcStagingWrite 0 a v) s) (fun t => t = s)) ∧
  (∀ (s : State) (who v : Nat), s.rtcWrites who = true → v / 256 % 256 = 0x5A → v % 2 = 1 → s.tim.rtc.stage.valid = true → (∀ m < 4, s.flag Attr.RtcAlarm.enable m = false) →
    Completes (exec (.timeCommit who v) s) (fun t =>
      t.tim.rtc = { s.tim.rtc with live := { s.tim.rtc.stage with sub := 0 }, staged := false, subTicks := 0, osf := false } ∧
        t.recd = s.recd.ordinary ⟨0x1204, objPath 0x0D10 0, [(s.tim.rtc.live.epoch : Int), (s.tim.rtc.stage.epoch : Int)]⟩ ∧ SameBut [.tim, .recd] s t)) ∧
  (∀ (s : State) (who v : Nat), s.rtcWrites who = true → v / 256 % 256 = 0x5A → v % 2 = 1 → s.tim.rtc.stage.valid = false →
    Completes (exec (.timeCommit who v) s) (fun t => t.tim.rtc = { s.tim.rtc with commitErr := true } ∧ SameBut [.tim] s t)) ∧
  (∀ (s : State) (who v : Nat), v / 256 % 256 ≠ 0x5A → Completes (exec (.timeCommit who v) s) (fun t => t = s)) ∧
  (∀ (s : State) (n v : Nat), n < 4 → s.cutOff 18 0 = false →
    Completes (exec (.alarmInstantWrite n v) s) (fun t =>
      t.nat Attr.RtcAlarm.instant n = v % 2 ^ 16 * 2 ^ 32 + s.nat Attr.RtcAlarm.instant n % 2 ^ 32 ∧ t.nat Attr.RtcAlarm.lastFire n = 0 ∧ SameBut [.obj, .mbx] s t)) ∧
  (∀ (s : State) (d : Int) (k : Nat), s.flag Attr.RealTimeClock.tcompEnable 0 = true → k ≤ 15 → d = 20 * k - 80 →
    Completes (exec (.tcompSample d) s) (fun t =>
      t.int Attr.RealTimeClock.temperature 0 = d ∧
        t.int Attr.RealTimeClock.trimNow 0 =
          max (-2139) (min 2139 (s.elem Attr.RealTimeClock.tcompCurve 0 k + s.int Attr.RealTimeClock.agingOffset 0)) ∧ SameBut [.obj, .mbx] s t)) ∧
  (∀ s : State, s.tim.rtc.osf = false → s.nat Attr.FaultSource.reaction 288 = 1 → s.fcr.injections = [] →
    Completes (exec .oscStopped s) (fun t =>
      t.tim.rtc = { s.tim.rtc with osf := true } ∧ t.flag Attr.FaultSource.latched 288 = true ∧ t.fcr.irqs = s.fcr.irqs + 1 ∧
        t.recd = (s.recd.ordinary ⟨0x1201, objPath 0x0D10 0, []⟩).ordinary ⟨0x1401, objPath 0x1002 288, [288, 1, 1]⟩ ∧ SameBut [.tim, .obj, .mbx, .fcr, .recd] s t)) ∧
  (∀ (s : State) (on : Bool),
    Completes (exec (.vbatSwitch on) s) (fun t => t.tim.rtc = { s.tim.rtc with onVbat := on, battUsed := s.tim.rtc.battUsed || on } ∧ SameBut [.tim] s t)) ∧
  (∀ (s : State) (mv : Nat),
    Completes (exec (.vbatMeasure mv) s) (fun t =>
      t.tim.rtc = { s.tim.rtc with vbatLow := decide (mv < 2000) } ∧ t.recd = (if mv < 2000 then s.recd.ordinary ⟨0x1205, objPath 0x0D10 0, [(mv : Int)]⟩ else s.recd) ∧
        SameBut [.tim, .recd] s t)) ∧
  (∀ s : State, s.nat Attr.TimeService.state 0 = 2 → s.cutOff 18 0 = false → (groupOf s.serviceSec).valid = true → (∀ m < 4, s.flag Attr.RtcAlarm.enable m = false) →
    Completes (exec .rtcAlign s) (fun t =>
      t.tim = { s.tim with
        alignDue := false,
        rtc := { s.tim.rtc with live := { groupOf s.serviceSec with sub := 0 }, stage := groupOf s.serviceSec, staged := false, subTicks := 0, osf := false } } ∧
        t.recd = s.recd.ordinary ⟨0x1204, objPath 0x0D10 0, [(s.tim.rtc.live.epoch : Int), (s.serviceSec : Int)]⟩ ∧ SameBut [.tim, .recd] s t)) ∧
  (∀ (s : State) (c : Cmd) (n : Nat), s.Serves c n → c.opcode = 0x0D02 → field c.payload 0 2 = 0 → s.nat Attr.TimeService.state 0 = 2 → s.fcr.admitted = [] → s.fcr.deferred = [] →
    Completes (exec .rtcRecalibrate s) (fun t =>
      Answered s t c n .accepted [] ∧ (∃ a, t.fcr.admitted = [a] ∧ a.kind = 7 ∧ a.arrival = c.arrival ∧ a.internal = false) ∧ SameBut [.mbx, .fcr, .recd] s t)) ∧
  (∀ (s : State) (c : Cmd) (n : Nat), s.Serves c n → c.opcode = 0x0D02 → field c.payload 0 2 = 0 → s.nat Attr.TimeService.state 0 ≠ 2 →
    Completes (exec .rtcRecalibrate s) (fun t => Answered s t c n .refused [] ∧ SameBut [.mbx] s t))

/-- Cobor links (R605, R624, R632, R638, R642–R645, Table 16-14): what arrives acknowledges, marks the link up and, where it is reliable and in its turn, is delivered once; a message without its tag
is counted, and a fence of TWN drops all; ADVERTISE and KEY_AGREE need no key, and a key is taken only from an attested peer; a heartbeat times its member and tells of the partner; heartbeats,
repeats, acknowledgements and new keys go out under the next nonce counter; a pair link that goes down keeps what it had not had acknowledged. -/
def Obligations.CoborLinks : Prop :=
  (∀ (s : State) (m : Cobor), s.cutOff 19 0 = false → m.body.length ≤ bodyLimit m.link → m.tagOk = true → (s.clink m.link).keyed = true → (s.clink m.link).waiting = [] →
    Completes (exec (.ack m) s) (fun t =>
      t.clink m.link = { s.heardLink m with unacked := (s.clink m.link).unacked.filter (fun x => decide (m.acked < x.1)) } ∧ t.twn.out = s.twn.out ∧ SameBut [.twn] s t)) ∧
  (∀ (s : State) (m : Cobor), s.cutOff 19 0 = false → m.body.length ≤ bodyLimit m.link → m.tagOk = false →
    Completes (exec (.mirror m) s) (fun t =>
      t.nat Attr.Federation.coborAuthFails 0 = (s.nat Attr.Federation.coborAuthFails 0 + 1) % 2 ^ 32 ∧ SameBut [.obj, .mbx] s t)) ∧
  (∀ (s : State) (m : Cobor), s.cutOff 19 0 = true → Completes (exec (.segment m) s) (fun t => t = s)) ∧
  (∀ (s : State) (m : Cobor), s.Hears m → m.seq ≤ (s.clink m.link).rxSeq →
    Completes (exec (.mirror m) s) (fun t => t.clink m.link = { s.heardLink m with owed := true } ∧ t.twn.out = s.twn.out ∧ SameBut [.twn] s t)) ∧
  (∀ (s : State) (m : Cobor), s.Hears m → (s.clink m.link).rxSeq + 1 < m.seq → (s.clink m.link).held = [] →
    Completes (exec (.mirror m) s) (fun t =>
      t.clink m.link = { s.heardLink m with owed := true, held := [(0x10, m)] } ∧ t.twn.out = s.twn.out ∧ SameBut [.twn] s t)) ∧
  (∀ (s : State) (m : Cobor) (trial : Bool), s.cutOff 19 0 = false → m.body.length ≤ bodyLimit m.link → (s.clink m.link).unacked = [] → (s.clink m.link).waiting = [] →
    (∀ j ∈ s.instances 0x0E20, s.nat Attr.FederationMember.eui j ≠ field m.body 0 8) → s.twinned = false → s.twn.pairing = none → m.link ≠ seedLink →
    Completes (exec (.advertise m trial) s) (fun t =>
      t.clink m.link = { s.heardLink m with peer := some (field m.body 0 8, advertised m.body), trial := trial } ∧ SameBut [.twn] s t)) ∧
  (∀ (s : State) (m : Cobor), s.cutOff 19 0 = false → m.body.length ≤ bodyLimit m.link → (s.clink m.link).unacked = [] → (s.clink m.link).waiting = [] → (s.clink m.link).asked = true →
    s.twinned = false → s.twn.pairing = none →
    Completes (exec (.keyAgree m) s) (fun t =>
      t.clink m.link =
        (if Config.attested (field (slice m.body 0 296) 8 8) (slice m.body 0 296) (slice m.body 296 96) (slice m.body 392 96) = true then
          { s.heardLink m with keyed := true, keyedAt := s.tim.d3, asked := false, nonce := 0 }
        else s.heardLink m) ∧ SameBut [.twn] s t)) ∧
  (∀ (s : State) (m : Cobor) (e a : Nat), s.cutOff 19 0 = false → m.body.length ≤ bodyLimit m.link → m.link = s.pairLink → (s.clink m.link).unacked = [] → (s.clink m.link).waiting = [] →
    (s.clink m.link).asked = true → s.twn.pairing = some (e, a) → field (slice m.body 0 296) 8 8 = e →
    Completes (exec (.keyAgree m) s) (fun t =>
      if Config.attested e (slice m.body 0 296) (slice m.body 296 96) (slice m.body 392 96) = true then
        t.nat Attr.TwinPair.partnerEui 0 = e ∧ t.twn.pairing = none ∧ (t.clink m.link).keyed = true ∧ t.mbx.awaiting = s.mbx.awaiting.filter (fun y => y.arrival != a) ∧
          SameBut [.twn, .obj, .mbx] s t
      else t.clink m.link = s.heardLink m ∧ SameBut [.twn] s t)) ∧
  (∀ (s : State) (m : Cobor) (rtt : Nat), s.Hears m → m.sender ≠ 0xFFFF → m.sender ≠ s.twn.self → m.link ≠ s.pairLink →
    Completes (exec (.heartbeat m rtt) s) (fun t =>
      Assoc.find m.sender t.twn.heard = some s.tim.d3 ∧ Assoc.find m.sender t.twn.distance = some rtt ∧ t.sys = { s.sys with federationAt := some s.tim.d3 } ∧
        t.clink m.link = s.heardLink m ∧ SameBut [.twn, .sys] s t)) ∧
  (∀ (s : State) (m : Cobor) (rtt : Nat), s.Hears m → m.sender = 0xFFFF → m.link = s.pairLink → s.twinned = true → s.nat Attr.TwinPair.role 0 = 2 → octet m.body 11 = 1 →
    1 ≤ octet m.body 12 → octet m.body 12 ≤ 3 → s.twn.castleCmd = none →
    Completes (exec (.heartbeat m rtt) s) (fun t =>
      t.twn.partner = some (octet m.body 10, 1, field m.body 18 8) ∧ t.nat Attr.TwinPair.pairState 0 = octet m.body 12 ∧ t.clink m.link = s.heardLink m ∧
        SameBut [.twn, .obj, .mbx] s t)) ∧
  (∀ (s : State) (l : Nat) (k : CLink), s.twn.links = [(l, k)] → s.linkOpen l = true →
    Completes (exec .heartbeatSend s) (fun t =>
      t.twn.out = s.twn.out ++ [⟨l, 3, false, k.nonce + 1, 0, k.rxSeq, s.heartbeatBody⟩] ∧ t.clink l = { k with nonce := k.nonce + 1, sentAt := s.tim.d3, owed := false } ∧
        SameBut [.twn] s t)) ∧
  (∀ (s : State) (l q : Nat) (x : Nat × Nat × Bytes × Nat), s.cutOff 19 0 = false → (s.clink l).unacked.find? (fun y => y.1 == q) = some x →
    Completes (exec (.coborRetransmit l q) s) (fun t =>
      t.twn.out = s.twn.out ++ [⟨l, x.2.1, true, (s.clink l).nonce + 1, q, (s.clink l).rxSeq, x.2.2.1⟩] ∧ (t.clink l).nonce = (s.clink l).nonce + 1 ∧
        (t.clink l).unacked = (s.clink l).unacked.map (fun y => if y.1 = q then (y.1, y.2.1, y.2.2.1, s.tim.d3) else y) ∧ SameBut [.twn] s t)) ∧
  (∀ (s : State) (l : Nat), (s.clink l).owed = true → s.linkOpen l = true →
    Completes (exec (.coborAckDue l) s) (fun t =>
      t.twn.out = s.twn.out ++ [⟨l, 4, false, (s.clink l).nonce + 1, 0, (s.clink l).rxSeq, []⟩] ∧ (t.clink l).owed = false ∧ SameBut [.twn] s t)) ∧
  (∀ s : State, s.twinned = true → s.linkOpen s.pairLink = true →
    Completes (exec .pairLinkIdleMessage s) (fun t =>
      t.twn.out = s.twn.out ++ [⟨s.pairLink, 4, false, (s.clink s.pairLink).nonce + 1, 0, (s.clink s.pairLink).rxSeq, []⟩] ∧ SameBut [.twn] s t)) ∧
  (∀ (s : State) (l : Nat), (s.clink l).keyed = true → s.cutOff 19 0 = false →
    Completes (exec (.linkRekey l) s) (fun t =>
      (t.clink l).asked = true ∧ (t.clink l).nonce = (s.clink l).nonce + 2 ∧ (t.clink l).keyed = true ∧
        (∃ x y, t.twn.out = s.twn.out ++ [x, y] ∧ x.type = 1 ∧ x.nonce = (s.clink l).nonce + 1 ∧ y.type = 2 ∧ y.nonce = (s.clink l).nonce + 2) ∧ SameBut [.twn] s t)) ∧
  (∀ s : State, (s.clink s.pairLink).up = true → s.nat Attr.TwinPair.role 0 = 2 → s.twn.claimIn = .claimed →
    Completes (exec .pairLinkDown s) (fun t =>
      (t.clink s.pairLink).up = false ∧ (t.clink s.pairLink).seq = 0 ∧ (t.clink s.pairLink).rxSeq = 0 ∧ (t.clink s.pairLink).unacked = [] ∧
        (t.clink s.pairLink).waiting = (s.clink s.pairLink).unacked.map (fun x => (x.2.1, x.2.2.1)) ++ (s.clink s.pairLink).waiting ∧ t.twn.partner = none ∧
        t.nat Attr.TwinPair.pairState 0 = 4 ∧ t.flag Attr.TwinPair.fit 0 = false ∧ SameBut [.twn, .obj, .mbx] s t))

/-- The messages that carry the journal of a home (R502, R522, R607, R635): a standby holds an entry, commits it under the active's sequence and confirms it, and stops at a kind it does not
read; a confirmation releases what the active had posted; a replica journals what it holds for a home and confirms it; a lost replica is replaced from the order. -/
def Obligations.MirrorAndReplicas : Prop :=
  (∀ (s : State) (m : Cobor) (q : Nat) (b : Bytes), s.InTurn m → s.nat Attr.TwinPair.role 0 = 2 → s.sys.mode = .shadow → s.twn.stopped = false →
    parseEntries m.body.length m.body = [(q, 10, b)] → s.twn.heldSeq < q →
    Completes (exec (.mirror m) s) (fun t =>
      t.twn.heldSeq = q ∧ t.sto = { s.sto with seq := q, gather := s.sto.gather ++ [(q, .counter (field b 0 4))] } ∧ (t.ep (field b 0 4)).outCounter = field b 8 4 ∧
        t.clink m.link = (s.turnLink m).sends 0x11 (leBytes 8 q) s.tim.d3 ∧
        t.twn.out = s.twn.out ++ [⟨m.link, 0x11, false, (s.clink m.link).nonce + 1, (s.clink m.link).seq + 1, m.seq, leBytes 8 q⟩] ∧ SameBut [.twn, .sto, .col] s t)) ∧
  (∀ (s : State) (m : Cobor) (q k : Nat) (b : Bytes), s.InTurn m → s.nat Attr.TwinPair.role 0 = 2 → s.sys.mode = .shadow → s.twn.stopped = false →
    parseEntries m.body.length m.body = [(q, k, b)] → k = 0 ∨ 11 < k → s.twn.heldSeq < q →
    Completes (exec (.mirror m) s) (fun t =>
      t.twn.stopped = true ∧ t.twn.heldSeq = s.twn.heldSeq ∧ t.twn.out = s.twn.out ∧ t.recd = s.recd.ordinary ⟨0x130C, objPath 0x0E10 0, [(s.side : Int), (k : Int)]⟩ ∧
        SameBut [.twn, .recd] s t)) ∧
  (∀ (s : State) (m : Cobor) (q : Nat), s.InTurn m → field m.body 0 8 = q →
    Completes (exec (.mirrorConfirm m) s) (fun t =>
      t.twn.posted = s.twn.posted.filter (fun x => decide (q < x.1)) ∧ t.twn.mirrorSeq = max s.twn.mirrorSeq q ∧
        t.col.flights = s.col.flights.map (fun f =>
          if (s.twn.posted.filter (fun x => decide (x.1 ≤ q))).any (fun x => x.2.2 == some f.id) then { f with mirror := true } else f) ∧ SameBut [.twn, .col] s t)) ∧
  (∀ (s : State) (m : Cobor) (q k : Nat) (b : Bytes), s.InTurn m → s.sys.mode ≠ .shadow → parseEntries m.body.length (m.body.drop 4) = [(q, k, b)] →
    Completes (exec (.replica m) s) (fun t =>
      t.sto = { s.sto with seq := (s.sto.seq + 1) % 2 ^ 64, gather := s.sto.gather ++ [((s.sto.seq + 1) % 2 ^ 64, .replica (field m.body 0 2) q)] } ∧
        t.twn.replicas = s.twn.replicas ++ [(field m.body 0 2 * 2 ^ 64 + q, k, b)] ∧ t.twn.repDue = s.twn.repDue ++ [(field m.body 0 2, q, (s.sto.seq + 1) % 2 ^ 64)] ∧
        SameBut [.twn, .sto] s t)) ∧
  (∀ (s : State) (m : Cobor) (q : Nat), s.InTurn m → field m.body 4 8 = q →
    Completes (exec (.replicaConfirm m) s) (fun t =>
      t.twn.repWait = s.twn.repWait.filter (fun x => !(x.1 == m.sender && decide (x.2.1 ≤ q))) ∧
        t.col.flights = s.col.flights.map (fun f =>
          if (s.twn.repWait.filter (fun x => x.1 == m.sender && decide (x.2.1 ≤ q))).any (fun x => x.2.2 == some f.id) then { f with replica := true } else f) ∧
        SameBut [.twn, .col] s t)) ∧
  (∀ (s : State) (h old : Nat), s.federated = true → s.nat Attr.EndpointPlacement.replica h = old → old ≠ 0xFFFF → s.endpoint h = true → h ≤ maxHandle →
    Completes (exec (.replicaWaitTimeout h) s) (fun t =>
      let rest := (((s.placement (s.nat Attr.EndpointProfile.eui h)).filter (fun m => m != s.twn.self && s.readsStore m)).dropWhile (fun m => m != old)).drop 1
      t.nat Attr.EndpointPlacement.replica h = (rest.head?).getD 0xFFFF ∧
        (rest = [] → t.twn.replicaLost = true ∧ t.recd = s.recd.ordinary ⟨0x130A, objPath 0x0E30 h, [(h : Int), (old : Int)]⟩) ∧
        (rest ≠ [] → t.recd = s.recd ∧ t.twn.replicaLost = s.twn.replicaLost) ∧ SameBut [.twn, .obj, .mbx, .recd] s t))

/-- The other messages of the links (R51, R421, R618, R625, R627, R646, R647): a resync is offered and answers the entries asked for; a segment out of place is ignored; a castling that the active
refuses is answered, and its result ends the command that waits; a peer's frame is taken as a mailbox frame where Purel takes commands; sums are kept by member and sent to their home. -/
def Obligations.ResyncAndPeerMessages : Prop :=
  (∀ (s : State) (m : Cobor), s.InTurn m → s.active = true →
    Completes (exec (.resyncOffer m) s) (fun t =>
      t.clink m.link = (s.turnLink m).sends 0x41 (m.body.take 16) s.tim.d3 ∧
        t.twn.out = s.twn.out ++ [⟨m.link, 0x41, false, (s.clink m.link).nonce + 1, (s.clink m.link).seq + 1, m.seq, m.body.take 16⟩] ∧ SameBut [.twn] s t)) ∧
  (∀ (s : State) (m : Cobor) (q h : Nat), s.InTurn m → s.active = false → s.journalled = [(q, .counter h)] → field m.body 0 8 = q → field m.body 8 8 = q →
    Completes (exec (.resyncRequest m) s) (fun t =>
      (∃ b, t.twn.out = s.twn.out ++ [⟨m.link, 0x10, false, (s.clink m.link).nonce + 1, (s.clink m.link).seq + 1, m.seq, entryOctets (q, 10, b)⟩] ∧
        b = leBytes 4 h ++ leBytes 1 (s.nat Attr.EndpointKey.generation h) ++ leBytes 3 0 ++ leBytes 4 (s.ep h).outCounter) ∧
        t.twn.posted = s.twn.posted ∧ SameBut [.twn] s t)) ∧
  (∀ (s : State) (m : Cobor), s.InTurn m → field m.body 0 2 ≠ s.twn.self →
    Completes (exec (.segment m) s) (fun t =>
      t.twn.replicas = s.twn.replicas ++
        (List.range ((m.body.length - 16) / 32)).map (fun k => (field m.body 0 2 * 2 ^ 64, 1, slice m.body (16 + 32 * k) 32)) ∧
        t.clink m.link = s.turnLink m ∧ SameBut [.twn] s t)) ∧
  (∀ (s : State) (m : Cobor), s.InTurn m → m.link = s.pairLink → s.twinned = true → s.nat Attr.TwinPair.role 0 = 1 → s.sys.mode = .service → s.twn.drain = false → s.twn.released = false →
    s.twn.claimIn ≠ .invalid → octet m.body 0 = 1 →
    Completes (exec (.castleMessage m) s) (fun t => t.twn.drain = true ∧ t.twn.out = s.twn.out ∧ t.clink m.link = s.turnLink m ∧ SameBut [.twn] s t)) ∧
  (∀ (s : State) (m : Cobor), s.InTurn m → s.twinned = false →
    Completes (exec (.castleMessage m) s) (fun t =>
      t.twn.drain = s.twn.drain ∧
        t.twn.out = s.twn.out ++ [⟨m.link, 0x51, false, (s.clink m.link).nonce + 1, (s.clink m.link).seq + 1, m.seq, slice m.body 4 4 ++ leBytes 1 Status.refused.code ++ [0, 0, 0]⟩] ∧
        SameBut [.twn] s t)) ∧
  (∀ (s : State) (m : Cobor) (x : Awaiting), s.InTurn m → 2 ≤ octet m.body 4 → s.mbx.awaiting.find? (fun y => y.arrival == field m.body 0 4) = some x → (s.session x.session).isSome = true →
    Completes (exec (.castleResult m) s) (fun t =>
      t.twn.castleCmd = none ∧ t.mbx.awaiting = s.mbx.awaiting.filter (fun y => y.arrival != field m.body 0 4) ∧
        (∃ e ∈ t.mbx.notifs, e.kind = kindComplete ∧ e.session = x.session ∧ e.arrival = field m.body 0 4 ∧ e.status = Status.refused.code) ∧ SameBut [.twn, .mbx] s t)) ∧
  (∀ (s : State) (m : Cobor), s.InTurn m → s.ready = true → s.mbx.energize = [] → s.fcr.deferred = [] → s.boundTo (.peer m.link) = none →
    let c := frameCmd (.peer m.link) m.body [] [] 0 ((s.mbx.arrival + 1) % 2 ^ 32)
    headerChecks m.body c = none → c.opcode = opChallenge →
    Completes (exec (.peerMailbox m) s) (fun t =>
      t.mbx.arrival = (s.mbx.arrival + 1) % 2 ^ 32 ∧ t.mbx.taken = s.mbx.taken ++ [c] ∧ t.clink m.link = s.turnLink m ∧ SameBut [.mbx, .fcr, .twn] s t)) ∧
  (∀ (s : State) (m : Cobor), s.InTurn m → s.ready = false →
    Completes (exec (.peerMailbox m) s) (fun t => t.clink m.link = s.turnLink m ∧ SameBut [.twn] s t)) ∧
  (∀ (s : State) (m : Cobor), s.InTurn m →
    Completes (exec (.balanceSums m) s) (fun t =>
      Assoc.find (field m.body 0 2 * 2 ^ 32 + field m.body 4 4) t.bal.remote =
        some ((((Assoc.find (field m.body 0 2 * 2 ^ 32 + field m.body 4 4) s.bal.remote).getD []).filter (fun y => y.member != m.sender)) ++
          [⟨m.sender, sfield m.body 8 8, sfield m.body 16 8, field m.body 24 4, field m.body 28 4⟩]) ∧ SameBut [.twn, .bal] s t)) ∧
  (∀ (s : State) (g i home : Nat), s.federated = true → s.groupHome g = home → home ≠ s.twn.self → s.cutOff 12 0 = false → s.Sends (s.memberLink home) →
    Completes (exec (.balanceSumsSend g i) s) (fun t =>
      (∃ b, t.twn.out = s.twn.out ++ [⟨s.memberLink home, 0x30, false, (s.clink (s.memberLink home)).nonce + 1, (s.clink (s.memberLink home)).seq + 1,
          (s.clink (s.memberLink home)).rxSeq, b⟩] ∧
        b.take 8 = leBytes 2 g ++ [0, 0] ++ leBytes 4 i ∧ b.length = 32 ∧ b.drop 24 = leBytes 4 (s.ownSums g i).2.2.1 ++ leBytes 4 (s.ownSums g i).2.2.2) ∧ SameBut [.twn] s t))

/-- What members say to one another (R523, R524, R630–R636): a join is proposed, an unknown one is ignored; a proposal for the next epoch is entered with this chip's vote; a vote is entered
with its proposal, which takes effect with a majority; a suspicion is kept until a majority shares it, which makes the member FAILED. -/
def Obligations.FederationMessages : Prop :=
  (∀ (s : State) (m : Cobor) (n : Nat), s.InTurn m → m.link < 8 → field m.body 8 2 = n → n ≤ 1999 → field m.body 0 8 = s.nat Attr.Federation.federationId 0 →
    (s.clink m.link).peer = none → s.instances 0x0E20 = [s.twn.self] → n ≠ s.twn.self → s.nat Attr.FederationMember.state s.twn.self = 1 → s.twn.proposals = [] → s.twn.joining = [] →
    Completes (exec (.join m) s) (fun t =>
      t.alive 0x0E20 n = true ∧ t.nat Attr.FederationMember.state n = 1 ∧ t.nat Attr.FederationMember.capacityWeight n = field m.body 10 2 ∧
        t.nat Attr.FederationMember.lane n = m.link ∧ t.nat Attr.Federation.epoch 0 = (s.nat Attr.Federation.epoch 0 + 1) % 2 ^ 32 ∧ t.twn.proposals = [] ∧
        t.recd = s.recd.ordinary ⟨0x1309, objPath 0x0E20 n, [(n : Int), 1, (((s.nat Attr.Federation.epoch 0 + 1) % 2 ^ 32 : Nat) : Int)]⟩ ∧
        SameBut [.twn, .obj, .mbx, .recd] s t)) ∧
  (∀ (s : State) (m : Cobor), s.InTurn m → field m.body 0 8 ≠ s.nat Attr.Federation.federationId 0 →
    Completes (exec (.join m) s) (fun t => t.clink m.link = s.turnLink m ∧ t.twn.proposals = s.twn.proposals ∧ SameBut [.twn] s t)) ∧
  (∀ (s : State) (m : Cobor), s.InTurn m → s.twn.proposals = [] → m.sender ≠ s.twn.self → field m.body 0 4 = s.nat Attr.Federation.epoch 0 + 1 → 4 ≤ s.activeMembers.length →
    Completes (exec (.propose m) s) (fun t =>
      (∃ p, t.twn.proposals = [p] ∧ p.proposer = m.sender ∧ p.epoch = field m.body 0 4 ∧ p.change = octet m.body 4 ∧ p.member = field m.body 6 2 ∧ p.weight = field m.body 12 2 ∧
        p.votes = [m.sender, s.twn.self]) ∧ SameBut [.twn] s t)) ∧
  (∀ (s : State) (m : Cobor) (p : Proposal), s.InTurn m → s.twn.proposals = [p] → octet m.body 6 = 1 → field m.body 0 4 = p.epoch → field m.body 4 2 = p.proposer →
    p.proposer ≠ s.twn.self → p.epoch = s.nat Attr.Federation.epoch 0 + 1 → 2 * (p.votes.length + 1) ≤ s.activeMembers.length →
    Completes (exec (.vote m) s) (fun t => t.twn.proposals = [{ p with votes := m.sender :: p.votes }] ∧ SameBut [.twn] s t)) ∧
  (∀ (s : State) (m : Cobor) (p : Proposal), s.InTurn m → s.twn.proposals = [p] → octet m.body 6 = 1 → field m.body 0 4 = p.epoch → field m.body 4 2 = p.proposer →
    p.epoch = s.nat Attr.Federation.epoch 0 + 1 → s.majority (m.sender :: p.votes) = true → p.change = 5 → p.member < 2000 → s.twn.joining = [] →
    Completes (exec (.vote m) s) (fun t =>
      t.nat Attr.FederationMember.capacityWeight p.member = p.weight ∧ t.nat Attr.FederationMember.state p.member = s.nat Attr.FederationMember.state p.member ∧
        t.nat Attr.Federation.epoch 0 = (s.nat Attr.Federation.epoch 0 + 1) % 2 ^ 32 ∧ t.twn.proposals = [] ∧ SameBut [.twn, .obj, .mbx, .recd] s t)) ∧
  (∀ (s : State) (m : Cobor) (n : Nat), s.InTurn m → field m.body 0 2 = n → s.alive 0x0E20 n = true → s.nat Attr.FederationMember.state n = 1 →
    s.majority (m.sender :: (Assoc.find n s.twn.suspects).getD []) = false →
    Completes (exec (.suspect m) s) (fun t =>
      Assoc.find n t.twn.suspects = some (m.sender :: (Assoc.find n s.twn.suspects).getD []) ∧ SameBut [.twn] s t)) ∧
  (∀ (s : State) (m : Cobor) (n : Nat), s.InTurn m → field m.body 0 2 = n → n ≠ s.twn.self → s.alive 0x0E20 n = true → s.nat Attr.FederationMember.state n = 1 →
    s.majority (m.sender :: (Assoc.find n s.twn.suspects).getD []) = true →
    Completes (exec (.suspect m) s) (fun t =>
      t.nat Attr.FederationMember.state n = 3 ∧ Assoc.find n t.twn.suspects = none ∧ t.nat Attr.Federation.epoch 0 = (s.nat Attr.Federation.epoch 0 + 1) % 2 ^ 32 ∧
        t.recd = (s.recd.ordinary ⟨0x1309, objPath 0x0E20 n, [(n : Int), 3, (((s.nat Attr.Federation.epoch 0 + 1) % 2 ^ 32 : Nat) : Int)]⟩).ordinary
          ⟨0x1308, objPath 0x0E20 n, [(n : Int), (((s.nat Attr.Federation.epoch 0 + 1) % 2 ^ 32 : Nat) : Int)]⟩ ∧ SameBut [.twn, .obj, .mbx, .recd] s t))

/-- Changes of the federation that no message brings (R630–R639): a silent member is suspected; a proposal not confirmed in time is dropped; a planned cell of a failed member is formed
here; a chip joins from PROVISION by OPERATOR; a leave is proposed; a rebalance is an activity. -/
def Obligations.FederationChanges : Prop :=
  (∀ (s : State) (n : Nat), s.alive 0x0E20 n = true → n ≠ s.twn.self → s.nat Attr.FederationMember.state n = 1 →
    s.majority (s.twn.self :: (Assoc.find n s.twn.suspects).getD []) = false →
    Completes (exec (.memberTimeout n) s) (fun t =>
      Assoc.find n t.twn.suspects = some (s.twn.self :: (Assoc.find n s.twn.suspects).getD []) ∧ SameBut [.twn] s t)) ∧
  (∀ (s : State) (p : Proposal), s.twn.proposals = [p] → p.proposer ≠ s.twn.self →
    Completes (exec (.membershipVoteTimeout p.epoch p.proposer) s) (fun t => t.twn = { s.twn with proposals := [] } ∧ SameBut [.twn] s t)) ∧
  (∀ (s : State) (p : Proposal) (a : Nat) (x : Awaiting), s.twn.proposals = [p] → p.proposer = s.twn.self → s.twn.joining = [(a, p.member)] →
    s.mbx.awaiting.find? (fun y => y.arrival == a) = some x → (s.session x.session).isSome = true →
    Completes (exec (.membershipVoteTimeout p.epoch p.proposer) s) (fun t =>
      t.twn = { s.twn with proposals := [], joining := [] } ∧
        (∃ e ∈ t.mbx.notifs, e.kind = kindComplete ∧ e.session = x.session ∧ e.arrival = a ∧ e.status = Status.timeout.code) ∧ SameBut [.twn, .mbx] s t)) ∧
  (∀ (s : State) (f c p : Nat) (x : PlannedCell), s.alive 0x0E20 f = true → f ≠ s.twn.self → s.nat Attr.FederationMember.state f = 3 → s.twn.replicas = [] → x.cell = c → x.port = p →
    x.purpose = 0 → c ≤ 511 → p ≤ 15 → s.isLine c = false → s.isPan c = false →
    Completes (exec (.migrated f [x]) s) (fun t =>
      t.isLine c = true ∧ t.nat Attr.LineCell.port c = p ∧ t.nat Attr.LineCell.kind c = 1 ∧ t.nat Attr.LineCell.purpose c = 0 ∧ t.nat Attr.LineCell.beaconPeriodMs c = 8000 ∧
        t.nat Attr.LineCell.relayEui c = x.relay ∧
        t.recd = (s.recd.ordinary ⟨0x130B, objPath 0x0E20 f, [(f : Int), 0]⟩).ordinary ⟨0x0507, objPath 0x0210 c, [(p : Int), (c : Int), 1, 0]⟩ ∧
        SameBut [.twn, .obj, .mbx, .recd, .lin] s t)) ∧
  (∀ (s : State) (c : Cmd) (n m : Nat), s.Serves c n → c.opcode = 0x0E02 → c.role = .operator → s.sys.mode = .provision → 28 ≤ c.payload.length → field c.payload 8 2 = m → m ≤ 1999 →
    Completes (exec .federationJoin s) (fun t =>
      Answered s t c n .accepted [] ∧ t.twn.self = m ∧ t.twn.joining = s.twn.joining ++ [(c.arrival, m)] ∧ t.nat Attr.Federation.federationId 0 = field c.payload 0 8 ∧
        t.alive 0x0E20 m = true ∧ t.nat Attr.FederationMember.state m = 0 ∧ t.nat Attr.FederationMember.eui m = s.sys.eui ∧ SameBut [.mbx, .obj, .twn] s t)) ∧
  (∀ (s : State) (c : Cmd) (n : Nat), s.Serves c n → c.opcode = 0x0E02 → c.role = .operator → s.sys.mode ≠ .provision →
    Completes (exec .federationJoin s) (fun t => Answered s t c n .refused [] ∧ SameBut [.mbx] s t)) ∧
  (∀ (s : State) (c : Cmd) (n m : Nat), s.Serves c n → c.opcode = 0x0E03 → c.role = .operator → field c.payload 0 2 = m → octet c.payload 2 = 0 → s.alive 0x0E20 m = true →
    s.twn.proposals = [] → 2 ≤ s.activeMembers.length →
    Completes (exec .federationLeave s) (fun t =>
      Answered s t c n .accepted [] ∧ t.twn.joining = s.twn.joining ++ [(c.arrival, m)] ∧
        (∃ p, t.twn.proposals = [p] ∧ p.proposer = s.twn.self ∧ p.epoch = s.nat Attr.Federation.epoch 0 + 1 ∧ p.change = 3 ∧ p.member = m ∧ p.votes = [s.twn.self]) ∧
        SameBut [.mbx, .twn] s t)) ∧
  (∀ (s : State) (c : Cmd) (n : Nat), s.Serves c n → c.opcode = 0x0E03 → c.role = .operator → octet c.payload 2 = 0 → s.alive 0x0E20 (field c.payload 0 2) = false →
    Completes (exec .federationLeave s) (fun t => Answered s t c n .notFound [] ∧ SameBut [.mbx] s t)) ∧
  (∀ (s : State) (c : Cmd) (n : Nat), s.Serves c n → c.opcode = 0x0E04 → c.role = .operator → s.fcr.admitted = [] → s.fcr.deferred = [] →
    (∀ h ∈ s.instances 0x0501, s.misplaced h = false) →
    Completes (exec .rebalance s) (fun t =>
      Answered s t c n .accepted [] ∧ t.twn.moved.1 = s.today ∧ (∃ a, t.fcr.admitted = [a] ∧ a.kind = 10 ∧ a.arrival = c.arrival) ∧
        t.sto = (if 0 < s.freeOutside then { s.sto with peers := [] } else s.sto) ∧ SameBut [.mbx, .fcr, .recd, .twn, .sto] s t)) ∧
  (∀ (s : State) (c : Cmd) (n : Nat), s.Serves c n → c.opcode = 0x0E04 → c.role ≠ .operator →
    Completes (exec .rebalance s) (fun t => Answered s t c n .denied [] ∧ SameBut [.mbx] s t))

/-- Pairing and the interlock (R604, R605, R612–R616): PAIR starts a key agreement in PROVISION; both rails CLAIMED and both RELEASED read as they are, an INVALID pair is a fault; a standby
claims when its partner is released; Queenside gives way in a contest; an active that reads CLAIMED without a claim of its own goes to SHADOW. -/
def Obligations.PairingAndClaims : Prop :=
  (∀ (s : State) (c : Cmd) (n e : Nat), s.Serves c n → c.opcode = opAction → pathCls c.path = 0x0E10 → pathAttr c.path = 0x40 → s.sys.mode = .provision → 8 ≤ c.payload.length →
    field c.payload 0 8 = e → e ≠ 0 → e ≠ s.sys.eui → s.cutOff 19 0 = false →
    Completes (exec .pair s) (fun t =>
      Answered s t c n .accepted [] ∧ t.twn.pairing = some (e, c.arrival) ∧ (t.clink s.pairLink).asked = true ∧
        (∃ x y, t.twn.out = s.twn.out ++ [x, y] ∧ x.type = 1 ∧ y.type = 2 ∧ x.link = s.pairLink ∧ y.link = s.pairLink) ∧ SameBut [.mbx, .twn] s t)) ∧
  (∀ (s : State) (c : Cmd) (n : Nat), s.Serves c n → c.opcode = opAction → pathCls c.path = 0x0E10 → pathAttr c.path = 0x40 → s.sys.mode ≠ .provision →
    Completes (exec .pair s) (fun t => Answered s t c n .refused [] ∧ SameBut [.mbx] s t)) ∧
  (∀ (s : State) (x : ClaimIn) (p m : Bool), s.twinned = false →
    Completes (exec (.claimInChange x p m) s) (fun t => t.twn = { s.twn with claimIn := x, railP := p, railM := m } ∧ SameBut [.twn] s t)) ∧
  (∀ (s : State) (p m : Bool), s.twinned = true → s.sys.stalemate = false → s.twn.bootClaim = none → s.twn.claimIn ≠ .invalid → s.fcr.injections = [] →
    Completes (exec (.claimInChange .invalid p m) s) (fun t =>
      t.twn = { s.twn with claimIn := .invalid, railP := p, railM := m, wire := true } ∧ t.flag Attr.FaultSource.latched 306 = true ∧ t.fcr.irqs = s.fcr.irqs + 1 ∧
        t.recd = (s.recd.safe ⟨0x1302, objPath 0x0E10 0, [(s.side : Int), ((b2n p + 2 * b2n m : Nat) : Int)]⟩).safe ⟨0x1401, objPath 0x1002 306, [306, 3, 1]⟩ ∧
        SameBut [.twn, .obj, .mbx, .fcr, .recd] s t)) ∧
  (∀ (s : State) (p m : Bool), s.twinned = true → s.sys.stalemate = false → s.sys.mode = .shadow → s.twn.claimOut = false → s.twn.bootClaim = none → s.twn.contest = false → s.twn.gateOk = true →
    Completes (exec (.claimInChange .released p m) s) (fun t =>
      t.twn = { s.twn with claimIn := .released, railP := p, railM := m, claimOut := true, gap := some (s.tim.d3, 3) } ∧ SameBut [.twn] s t)) ∧
  (∀ (s : State) (p m : Bool), s.twinned = true → s.sys.stalemate = false → s.sys.mode = .service → s.twn.claimOut = false → s.twn.bootClaim = none → s.mbx.energize = [] →
    Completes (exec (.claimInChange .claimed p m) s) (fun t =>
      t.sys = { s.sys with txEnable := false, mode := .shadow, prevMode := .service } ∧ t.twn.claimOut = false ∧ t.twn.txPermitted = false ∧ t.twn.released = false ∧ t.twn.drain = false ∧
        t.nat Attr.TwinPair.role 0 = 2 ∧ t.nat Attr.TwinPair.pairState 0 = (if s.nat Attr.TwinPair.pairState 0 = 1 then 1 else 4) ∧
        t.recd = s.recd.ordinary ⟨0x0101, objPath 0x0102 0, [(Mode.service.code : Int), (Mode.shadow.code : Int), 3]⟩ ∧ SameBut [.sys, .twn, .obj, .mbx, .recd] s t)) ∧
  (∀ (s : State) (trig : Nat), s.twn.bootClaim = some trig → s.sys.mode ≠ .holdup → s.sys.stalemate = false → s.twn.claimIn = .released ∨ s.twn.claimIn = .absent → s.twn.gateOk = true →
    Completes (exec .bootClaimDelay s) (fun t => t.twn = { s.twn with claimOut := true, gap := some (s.tim.d3, trig), bootClaim := none } ∧ SameBut [.twn] s t))

/-- Castling (R613, R617–R623): a chip that has claimed transmits when the gap has ended; without a refreshed gate the enables fall and then the claim; a castling drains first, a cause of its
own makes a chip give up its claim at once, and CASTLE is passed to the active by the standby. -/
def Obligations.Castling : Prop :=
  (∀ (s : State) (g trig cause cycles : Nat) (planned : Bool), s.twn.gap = some (g, trig) → s.twn.claimOut = true → s.sys.stalemate = false → s.twn.claimIn = .released → s.sys.mode = .shadow →
    s.bil.cals = [] → s.twn.castleCmd = none → (∀ c ∈ s.instances 0x0210, s.isLighting c = false) →
    Completes (exec (.castleGapEnd planned cause cycles) s) (fun t =>
      t.sys = { s.sys with mode := .service, prevMode := .shadow, serviceAt := s.tim.d3, txEnable := true } ∧
        t.twn = { s.twn with gap := none, txPermitted := true, released := false, castlings := min (s.twn.castlings + 1) 0xFFFFFFFF, lastGap := cycles % 2 ^ 19 } ∧
        t.nat Attr.TwinPair.role 0 = 1 ∧ t.nat Attr.TwinPair.pairState 0 = (if s.nat Attr.TwinPair.pairState 0 = 1 then 1 else 2) ∧
        t.col = { s.col with eps := s.col.eps.map (fun x => (x.1, { x.2 with outCounter := x.2.outCounter + s.nat Attr.TwinPair.counterReserve 0 })) } ∧
        t.recd = (s.recd.ordinary ⟨0x0101, objPath 0x0102 0, [(Mode.shadow.code : Int), (Mode.service.code : Int), (trig : Int)]⟩).safe
          ⟨0x1301, objPath 0x0E10 0, [(s.side : Int), (b2n planned : Int), (cause : Int), (cycles : Int)]⟩ ∧ SameBut [.sys, .twn, .obj, .mbx, .col, .recd] s t)) ∧
  (∀ (s : State) (g trig cause cycles : Nat) (planned : Bool), s.twn.gap = some (g, trig) → s.twn.claimOut = true → s.sys.stalemate = false → s.twn.claimIn = .claimed → s.side = 0 →
    Completes (exec (.castleGapEnd planned cause cycles) s) (fun t => t.twn = { s.twn with contest := true } ∧ SameBut [.twn] s t)) ∧
  (∀ (s : State) (g trig cause cycles : Nat) (planned : Bool), s.twn.gap = some (g, trig) → s.twn.claimOut = true → s.sys.stalemate = false → s.twn.claimIn = .claimed → s.side = 1 →
    s.mbx.energize = [] →
    Completes (exec (.castleGapEnd planned cause cycles) s) (fun t =>
      t.sys.mode = .shadow ∧ t.sys.txEnable = false ∧ t.twn.claimOut = false ∧ t.twn.gap = none ∧ t.nat Attr.TwinPair.role 0 = 2 ∧
        SameBut [.sys, .twn, .obj, .mbx, .recd, .dbg] s t)) ∧
  (∀ s : State,
    Completes (exec .claimGateLapse s) (fun t =>
      t.sys = { s.sys with txEnable := false } ∧ t.twn = { s.twn with
        txPermitted := false, claimOut := false, gap := none, gateOk := false, bootClaim := if s.twinned && s.twn.claimOut then some 3 else s.twn.bootClaim } ∧
        SameBut [.sys, .twn] s t)) ∧
  (∀ (s : State) (b : Nat), s.active = true → s.sys.mode = .service → s.twn.claimOut = true → s.flag Attr.TwinPair.fit 0 = true → bit (s.nat Attr.TwinPair.selfCastle 0) b = true →
    s.selfCause b = true →
    Completes (exec (.selfCastle b) s) (fun t =>
      t.sys = { s.sys with txEnable := false } ∧ t.twn = { s.twn with txPermitted := false, claimOut := false, gap := none, drain := false, released := true } ∧
        SameBut [.sys, .twn] s t)) ∧
  (∀ s : State, s.twn.drain = true → s.twn.outbox = [] → s.twn.posted = [] →
    Completes (exec .castleDrainDone s) (fun t =>
      t.sys = { s.sys with txEnable := false } ∧ t.twn = { s.twn with txPermitted := false, claimOut := false, gap := none, drain := false, released := true } ∧
        SameBut [.sys, .twn] s t)) ∧
  (∀ (s : State) (c : Cmd) (n : Nat), s.Serves c n → c.opcode = 0x0E01 → octet c.payload 0 = 0 → s.sys.mode = .service → s.active = true → s.twn.drain = false → s.twn.released = false →
    s.twinned = true → (s.clink s.pairLink).up = true → s.twn.claimIn ≠ .invalid → s.flag Attr.TwinPair.fit 0 = true →
    Completes (exec .castle s) (fun t =>
      Answered s t c n .accepted [] ∧ t.twn = { s.twn with drain := true, castleCmd := some (c.arrival, false) } ∧ SameBut [.mbx, .twn] s t)) ∧
  (∀ (s : State) (c : Cmd) (n : Nat), s.Serves c n → c.opcode = 0x0E01 → octet c.payload 0 = 0 → s.sys.mode = .service → s.flag Attr.TwinPair.fit 0 = false →
    Completes (exec .castle s) (fun t => Answered s t c n .refused [] ∧ SameBut [.mbx] s t)) ∧
  (∀ (s : State) (c : Cmd) (n : Nat), s.Serves c n → c.opcode = 0x0E01 → octet c.payload 0 = 0 → s.sys.mode = .shadow → s.twinned = true → s.linkOpen s.pairLink = true →
    (s.clink s.pairLink).waiting = [] → (s.clink s.pairLink).unacked.length < 4096 → s.twn.claimIn ≠ .invalid → s.flag Attr.TwinPair.fit 0 = true →
    Completes (exec .castle s) (fun t =>
      Answered s t c n .accepted [] ∧ t.twn.castleCmd = some (c.arrival, true) ∧
        t.twn.out = s.twn.out ++ [⟨s.pairLink, 0x50, false, (s.clink s.pairLink).nonce + 1, (s.clink s.pairLink).seq + 1, (s.clink s.pairLink).rxSeq,
          [0, 0, 0, 0] ++ leBytes 4 c.arrival⟩] ∧ SameBut [.mbx, .twn] s t))

/-- Degraded pairs and health (R625–R629, R663): an active without its standby is SOLO and keeps nothing back for it; a resync is an activity, and the pair is PAIRED again when all is confirmed; the
standby's checks give its health, and each that fails is recorded once. -/
def Obligations.TwinHealth : Prop :=
  (∀ s : State, s.twinned = true → s.active = true → s.nat Attr.TwinPair.pairState 0 = 1 → s.twn.claimIn = .absent → s.fcr.admitted = [] →
    Completes (exec (.solo 1) s) (fun t =>
      t.nat Attr.TwinPair.pairState 0 = 2 ∧ t.flag Attr.TwinPair.fit 0 = false ∧ t.twn = { s.twn with outbox := [], posted := [] } ∧
        t.recd = s.recd.ordinary ⟨0x1304, objPath 0x0E10 0, [(s.side : Int), 1]⟩ ∧ SameBut [.twn, .obj, .mbx, .fcr, .recd] s t)) ∧
  (∀ s : State, s.twinned = true → s.linkOpen s.pairLink = true → s.active = true → s.nat Attr.TwinPair.pairState 0 = 2 → s.fcr.admitted = [] → s.fcr.deferred = [] → s.fcr.waiting = [] →
    s.mbx.taken = [] →
    Completes (exec .twinResync s) (fun t =>
      t.nat Attr.TwinPair.pairState 0 = 3 ∧ t.twn = { s.twn with exchanged := 0 } ∧ (∃ a, t.fcr.admitted = [a] ∧ a.kind = 4 ∧ a.internal = true) ∧
        SameBut [.twn, .obj, .mbx, .fcr, .recd] s t)) ∧
  (∀ s : State, s.twinned = true → s.linkOpen s.pairLink = true → s.active = true → s.nat Attr.TwinPair.pairState 0 = 3 → s.twn.posted = [] → s.twn.outbox = [] → s.fcr.admitted = [] →
    Completes (exec .twinResync s) (fun t =>
      t.nat Attr.TwinPair.pairState 0 = 1 ∧ t.twn = { s.twn with soloMarks := [] } ∧
        t.recd = s.recd.ordinary ⟨0x1305, objPath 0x0E10 0, [(s.side : Int), (s.twn.exchanged : Int)]⟩ ∧ SameBut [.twn, .obj, .mbx, .recd] s t)) ∧
  (∀ (s : State) (bits : Nat), s.nat Attr.TwinPair.role 0 = 2 → bits % 256 = 255 → s.twn.gateOk = true → s.twn.claimIn = .claimed → s.twn.stopped = false →
    s.nat Attr.TwinPair.pairState 0 = 1 → s.trial = false →
    Completes (exec (.healthTest bits) s) (fun t =>
      t.nat Attr.TwinPair.health 0 = 255 ∧ t.flag Attr.TwinPair.fit 0 = true ∧ t.twn = { s.twn with alarms := 0 } ∧ SameBut [.twn, .obj, .mbx] s t)) ∧
  (∀ (s : State) (bits : Nat), s.nat Attr.TwinPair.role 0 = 2 → bits % 256 = 254 → s.twn.gateOk = true → s.twn.claimIn = .claimed → s.twn.stopped = false → s.twn.alarms = 0 →
    Completes (exec (.healthTest bits) s) (fun t =>
      t.nat Attr.TwinPair.health 0 = 254 ∧ t.flag Attr.TwinPair.fit 0 = false ∧ t.twn = { s.twn with alarms := 1 } ∧
        t.recd = s.recd.ordinary ⟨0x1306, objPath 0x0E10 0, [(s.side : Int), 0]⟩ ∧ SameBut [.twn, .obj, .mbx, .recd] s t))

/-- The chip's own firmware (R648–R655, R658, R660, R661): an image is staged chunk by chunk into the slot that is neither CONFIRMED nor TRIAL, and is STAGED only when R650 accepts it; an activation
waits for its handover where the formats fit; the handover runs the new image in TRIAL on a generation of its own, or the one before it after a fallback; a confirmed image raises the
security floor. -/
def Obligations.OwnUpdates : Prop :=
  (∀ (s : State) (c : Cmd) (n d : Nat), s.Serves c n → c.opcode = 0x0F01 → bit c.flags flagBulk = true → 16 ≤ c.data.length → s.trialSlot = none → field c.data 0 4 = 0 →
    octet (c.data.drop 16) 6 ≠ 2 → s.stageSlot = d → (c.data.drop 16).length ≤ field c.data 4 4 → field c.data 4 4 ≤ 25165824 → bit (octet c.data 8) 0 = false →
    Completes (exec .imageStage s) (fun t =>
      Answered s t c n .ok [] ∧ t.upd = { s.upd with stage := some (d, field c.data 4 4, c.data.drop 16) } ∧ t.slotState d = 1 ∧ SameBut [.mbx, .upd, .obj] s t)) ∧
  (∀ (s : State) (c : Cmd) (n d : Nat) (b : Bytes), s.Serves c n → c.opcode = 0x0F01 → bit c.flags flagBulk = true → 16 ≤ c.data.length → s.trialSlot = none → field c.data 0 4 ≠ 0 →
    d < 2 → s.upd.stage = some (d, field c.data 4 4, b) → b.length = field c.data 0 4 → (b ++ c.data.drop 16).length = field c.data 4 4 → field c.data 4 4 ≤ 25165824 →
    bit (octet c.data 8) 0 = true →
    Completes (exec .imageStage s) (fun t =>
      let x := b ++ c.data.drop 16
      if s.imageOk 1 x = true then
        Answered s t c n .ok [] ∧ t.slotState d = 2 ∧ t.nat Attr.FirmwareImage.version d = field x 16 4 ∧ t.nat Attr.FirmwareImage.securityVersion d = field x 20 2 ∧
          t.octets Attr.FirmwareImage.formatMasks d = slice x 28 16 ∧ t.upd = { s.upd with stage := none, images := Assoc.put d x s.upd.images } ∧
          t.recd = s.recd.ordinary ⟨0x0140, objPath 0x0F01 d, [(d : Int), (field x 16 4 : Nat)]⟩ ∧ SameBut [.mbx, .upd, .obj, .recd] s t
      else Answered s t c n .badValue [] ∧ t.slotState d = 6 ∧ t.upd = { s.upd with stage := none } ∧ SameBut [.mbx, .upd, .obj] s t)) ∧
  (∀ (s : State) (c : Cmd) (n : Nat), s.Serves c n → c.opcode = 0x0F01 → bit c.flags flagBulk = true → 16 ≤ c.data.length → s.trialSlot.isSome = true →
    Completes (exec .imageStage s) (fun t => Answered s t c n .refused [] ∧ SameBut [.mbx] s t)) ∧
  (∀ (s : State) (c : Cmd) (n d : Nat), s.Serves c n → c.opcode = 0x0F02 → octet c.payload 0 = 0 → s.sys.mode = .service → s.trialSlot = none → s.peerTrial = false → s.upd.handing = none →
    s.stagedSlot = some d → field c.payload 4 4 ≠ 0 → s.fcr.admitted = [] → s.fcr.deferred = [] →
    Completes (exec .imageActivate s) (fun t =>
      if s.versionsFit (s.image d) = true then
        Answered s t c n .accepted [] ∧ t.upd = { s.upd with handing := some (.activate d (field c.payload 4 4) c.arrival) } ∧
          (∃ a, t.fcr.admitted = [a] ∧ a.kind = 5 ∧ a.arrival = c.arrival) ∧ SameBut [.mbx, .upd, .fcr, .recd] s t
      else Answered s t c n .versionMismatch [] ∧ SameBut [.mbx] s t)) ∧
  (∀ (s : State) (c : Cmd) (n : Nat), s.Serves c n → c.opcode = 0x0F02 → octet c.payload 0 = 1 → s.upd.handing = none →
    Completes (exec .imageActivate s) (fun t =>
      if s.trialSlot.isSome = true then Answered s t c n .accepted [] ∧ t.upd = { s.upd with handing := some (.fallback 3 (some c.arrival)) } ∧ SameBut [.mbx, .upd] s t
      else Answered s t c n .refused [] ∧ SameBut [.mbx] s t)) ∧
  (∀ (s : State) (d w a us : Nat) (r : Bool), s.sys.stalemate = false → s.upd.handing = some (.activate d w a) → d < 2 → s.fcr.admitted = [] → s.fcr.deferred = [] → s.fcr.waiting = [] →
    Completes (exec (.handover true r us) s) (fun t =>
      if s.imageOk 1 (s.image d) = true then t.sys = { s.sys with handover := true } ∧ SameBut [.sys] s t
      else t.slotState d = 6 ∧ t.upd = { s.upd with handing := none } ∧ t.mbx.awaiting = s.mbx.awaiting.filter (fun y => y.arrival != a) ∧ SameBut [.obj, .mbx, .upd] s t)) ∧
  (∀ (s : State) (d w a us : Nat), s.sys.stalemate = false → s.upd.handing = some (.activate d w a) → d < 2 → s.slotState d = 2 → s.sys.handover = true → s.fcr.admitted = [] → s.fcr.deferred = [] →
    s.fcr.waiting = [] → s.mbx.remoteHeld = [] → (∀ k < 64, (s.pair k).held = none) → 1 ≤ s.freeGeneration → s.freeGeneration ≤ 3 →
    Completes (exec (.handover false true us) s) (fun t =>
      t.sys = { s.sys with slot := d, settingsGen := s.freeGeneration, handover := false } ∧ t.slotState d = 3 ∧ t.upd.trialEnd = some (s.tim.d3 + sec w) ∧ t.upd.handing = none ∧
        t.nat Attr.FirmwareImage.settingsGeneration d = s.freeGeneration ∧ t.genState s.freeGeneration = 2 ∧ SameBut [.sys, .obj, .mbx, .upd, .fcr, .recd, .twn] s t)) ∧
  (∀ (s : State) (r us x : Nat), s.sys.stalemate = false → s.upd.handing = some (.fallback r none) → s.trialSlot = some x → s.sys.handover = true → s.mbx.remoteHeld = [] →
    (∀ k < 64, (s.pair k).held = none) →
    Completes (exec (.handover false true us) s) (fun t =>
      t.sys.slot = 1 - x ∧ t.sys.handover = false ∧ t.upd.handing = none ∧ t.upd.trialEnd = none ∧
        t.recd = s.recd.ordinary ⟨0x0143, objPath 0x0F01 x, [(x : Int), (r : Int)]⟩ ∧ SameBut [.sys, .obj, .mbx, .upd, .recd, .twn] s t)) ∧
  (∀ s : State, s.trialSlot.isSome = true → s.upd.handing = none →
    Completes (exec .settingsUnreadable s) (fun t => t.upd = { s.upd with handing := some (.fallback 1 none) } ∧ SameBut [.upd] s t)) ∧
  (∀ s : State, s.trialSlot.isSome = true → s.upd.handing = none →
    Completes (exec .confirmTimeout s) (fun t => t.upd = { s.upd with handing := some (.fallback 2 none) } ∧ SameBut [.upd] s t)) ∧
  (∀ (s : State) (c : Cmd) (n d f : Nat), s.Serves c n → c.opcode = 0x0F03 → octet c.payload 0 = d → d ≤ 1 → s.slotState d = 3 →
    s.genState (s.nat Attr.FirmwareImage.settingsGeneration d) = 2 → max (s.nat Attr.UpdateService.securityFloor 0) (s.nat Attr.FirmwareImage.securityVersion d) = f →
    Completes (exec (.imageConfirm true) s) (fun t =>
      Answered s t c n .ok [] ∧ t.slotState d = 4 ∧ (s.slotState (1 - d) = 4 → t.slotState (1 - d) = 5) ∧ t.nat Attr.UpdateService.securityFloor 0 = f ∧
        t.upd = { s.upd with trialEnd := none } ∧ t.recd = s.recd.ordinary ⟨0x0142, objPath 0x0F01 d, [(d : Int), (s.nat Attr.FirmwareImage.version d : Nat), (f : Int)]⟩ ∧
        SameBut [.mbx, .obj, .upd, .recd, .twn] s t)) ∧
  (∀ (s : State) (c : Cmd) (n : Nat) (ok : Bool), s.Serves c n → c.opcode = 0x0F03 → s.slotState (octet c.payload 0) ≠ 3 →
    Completes (exec (.imageConfirm ok) s) (fun t => Answered s t c n .refused [] ∧ SameBut [.mbx] s t))
/-- Endpoint campaigns (R460, R648, R664–R666): the image is loaded by blocks of 512, not while the campaign runs; a start takes the targets it may and an image of the digest it names; a block goes
once by multicast into a cell; a target that holds every block is COMPLETE, VERIFIED when its digest is right, told to activate when the interval has come, and DONE when it runs the image; a
target without progress fails, and the campaign ends when every target has. -/
def Obligations.Campaigns : Prop :=
  (∀ (s : State) (c : Cmd) (n k : Nat), s.Serves c n → c.opcode = opAction → pathCls c.path = 0x0F20 → pathAttr c.path = 0x40 → pathInst c.path = k → bit c.flags flagBulk = true →
    4 ≤ c.data.length → field c.data 0 4 % 512 = 0 → field c.data 0 4 + (c.data.drop 4).length ≤ 4194304 → s.campRuns k = false →
    Completes (exec .imageChunk s) (fun t =>
      Answered s t c n .ok [] ∧ (t.camp k).image = writeAt (s.camp k).image (field c.data 0 4) (c.data.drop 4) ∧ t.nat Attr.EndpointCampaign.state k = 1 ∧
        SameBut [.mbx, .obj, .upd] s t)) ∧
  (∀ (s : State) (c : Cmd) (n h : Nat), s.Serves c n → c.opcode = 0x0F04 → octet c.data 0 = 0 → octet c.data 1 = 1 → c.role = .operator → octet c.data 2 ≤ 2 →
    1 ≤ field c.data 4 4 → field c.data 4 4 ≤ 4194304 → (s.camp 0).image.length = field c.data 4 4 → 1 ≤ field c.data 44 2 → field c.data 44 2 ≤ 64 → field c.data 48 4 = 1 →
    56 ≤ c.data.length → field c.data 52 4 = h → h ≤ maxHandle → s.homed h = true → s.nat Attr.EndpointProfile.role h = octet c.data 2 → s.requestCell h = none →
    (∀ x ∈ s.upd.campaigns, s.campRuns x.1 = false) → s.campRuns 0 = false → (s.camp 0).targets = [] → s.twinned = false → s.fcr.admitted = [] → s.fcr.deferred = [] →
    Completes (exec (.campaignStart 1024) s) (fun t =>
      if Config.sha256 (s.camp 0).image = slice c.data 8 32 then
        Answered s t c n .accepted [0] ∧ t.campRuns 0 = true ∧ t.targetState 0 h = 0 ∧ t.alive 0x0F21 (targetInst 0 h) = true ∧ (t.camp 0).digest = slice c.data 8 32 ∧
          (t.camp 0).arrival = c.arrival ∧ (t.camp 0).targets.map Prod.fst = [h] ∧ SameBut [.mbx, .obj, .upd, .fcr, .recd] s t
      else Answered s t c n .badValue [] ∧ SameBut [.mbx] s t)) ∧
  (∀ (s : State) (c : Cmd) (n h : Nat) (x : Target), s.Serves c n → c.opcode = 0x0F04 → octet c.data 0 = 0 → octet c.data 1 = 2 → c.role = .operator → s.campRuns 0 = true →
    (s.camp 0).targets = [(h, x)] → h ≤ maxHandle → s.targetState 0 h < 4 → (s.camp 0).groups = [] → s.twinned = false →
    Completes (exec (.campaignStart 0) s) (fun t =>
      Answered s t c n .ok [] ∧ t.targetState 0 h = 7 ∧ t.nat Attr.EndpointCampaign.state 0 = 3 ∧ t.recd = s.recd.ordinary ⟨0x0147, objPath 0x0F20 0, [0, 0, 0]⟩ ∧
        SameBut [.mbx, .obj, .upd, .recd] s t)) ∧
  (∀ (s : State) (k b cell g h : Nat) (x : Target), s.campRuns k = true → s.sys.mode ≠ .shadow → b < blockCount (s.camp k).image.length → s.isLine cell = true →
    Assoc.find cell (s.camp k).groups = some g → s.wanting k cell = [(h, x)] → s.targetState k h = 1 → (cell, b) ∉ (s.camp k).sent → s.blockTime h = true → s.gloveShut = false →
    Completes (exec (.campaignBlock k b cell none) s) (fun t => (t.camp k).sent = (s.camp k).sent ++ [(cell, b)] ∧ SameBut [.upd, .lin] s t)) ∧
  (∀ (s : State) (k h : Nat) (x : Target) (bs : List Nat), k < 8 → h ≤ maxHandle → s.target k h = some x → s.campRuns k = true → s.targetState k h < 2 → s.twinned = false →
    Completes (exec (.campaignTargetReport k h (.held bs)) s) (fun t =>
      let m := blockCount (s.camp k).image.length
      let held := (x.held ++ bs.filter (fun b => decide (b < m))).eraseDups
      t.targetState k h = (if m ≤ held.length then 2 else 1) ∧ (t.target k h).map Target.held = some held ∧ t.nat Attr.CampaignTarget.blocksHeld (targetInst k h) = held.length ∧
        (∀ r ∈ (t.camp k).repairing, r.1 ≠ h) ∧ SameBut [.obj, .mbx, .upd] s t)) ∧
  (∀ (s : State) (k h : Nat) (x : Target), k < 8 → h ≤ maxHandle → s.target k h = some x → s.campRuns k = true → s.targetState k h = 2 → s.activationDue k = false → s.twinned = false →
    Completes (exec (.campaignTargetReport k h (.digest (s.camp k).digest)) s) (fun t => t.targetState k h = 3 ∧ SameBut [.obj, .mbx, .upd] s t)) ∧
  (∀ (s : State) (k h : Nat) (x : Target) (d : Bytes), k < 8 → h ≤ maxHandle → s.target k h = some x → s.campRuns k = true → s.targetState k h = 2 → d ≠ (s.camp k).digest → x.mismatches = 0 →
    s.twinned = false →
    Completes (exec (.campaignTargetReport k h (.digest d)) s) (fun t =>
      t.targetState k h = 1 ∧ (t.target k h).map Target.held = some [] ∧ SameBut [.obj, .mbx, .upd] s t)) ∧
  (∀ (s : State) (k h j : Nat) (x y : Target), k < 8 → h ≤ maxHandle → s.target k h = some x → s.campRuns k = true → s.targetState k h = 4 → s.nat Attr.EndpointProfile.role h ≠ 1 →
    (j, y) ∈ (s.camp k).targets → j ≠ h → j ≤ maxHandle → s.targetState k j = 0 → s.twinned = false →
    Completes (exec (.campaignTargetReport k h (.running (s.camp k).digest)) s) (fun t =>
      t.targetState k h = 5 ∧ t.campRuns k = true ∧ SameBut [.obj, .mbx, .upd] s t)) ∧
  (∀ (s : State) (k h j : Nat) (x y : Target), k < 8 → h ≤ maxHandle → s.target k h = some x → s.campRuns k = true → s.targetState k h < 5 →
    (j, y) ∈ (s.camp k).targets → j ≠ h → j ≤ maxHandle → s.targetState k j = 0 → s.twinned = false →
    Completes (exec (.campaignNoProgress k h) s) (fun t =>
      t.targetState k h = 6 ∧ t.campRuns k = true ∧ t.recd = s.recd.ordinary ⟨0x0146, objPath 0x0F20 k, [(k : Int), (h : Int), 3]⟩ ∧ SameBut [.obj, .mbx, .upd, .recd] s t)) ∧
  (∀ (s : State) (k h : Nat) (x : Target), k < 8 → h ≤ maxHandle → s.campRuns k = true → s.activationDue k = true → (s.camp k).targets = [(h, x)] → s.targetState k h = 3 →
    s.nat Attr.EndpointProfile.role h ≠ 1 → s.sys.mode ≠ .shadow → s.cutOff 9 0 = true → s.twinned = false →
    Completes (exec (.campaignActivationDue k) s) (fun t =>
      t.targetState k h = 4 ∧ t.nat Attr.EndpointProfile.commandSerial h = (s.nat Attr.EndpointProfile.commandSerial h + 1) % 2 ^ 32 ∧
        (∃ r, t.col.requests = s.col.requests ++ [r] ∧ r.handle = h ∧ r.opcode = 0x0F04 ∧ r.queue = 0 ∧ r.apdu = Config.activateApdu (s.camp k).digest) ∧
        SameBut [.obj, .mbx, .upd, .col] s t))

/-- Host queues (R702, R704–R707, R709): a producer's word is staged in halves and pushed, unless the queue is full; a close commits the open item; a consumer reads the next word in halves, and a
read of an empty queue is an underrun; the mark is where a rewind returns; a release frees what was read; a flush empties the queue and counts what it discards; an access of the other
side is counted and does nothing. -/
def Obligations.HostQueues : Prop :=
  (∀ (s : State) (n v : Nat), n < 16 → s.hostProduces n = true →
    Completes (exec (.qhDataLoWrite n v) s) (fun t => t.queue n = { s.queue n with staged := v % 2 ^ 32 } ∧ (∀ m, m ≠ n → t.queue m = s.queue m) ∧ SameBut [.que] s t)) ∧
  (∀ (s : State) (n v : Nat), n < 16 → s.hostProduces n = false → (s.arr Attr.HardwareQueue.counters n).length = 4 →
    Completes (exec (.qhDataLoWrite n v) s) (fun t =>
      t.elem Attr.HardwareQueue.counters n 3 = min (s.elem Attr.HardwareQueue.counters n 3 + 1) 0xFFFFFFFF ∧ SameBut [.obj, .mbx] s t)) ∧
  (∀ (s : State) (n v : Nat), n < 16 → s.hostProduces n = true → (s.queue n).poisoned = false → (s.queue n).high = false →
    ((s.queue n).words.length + 1) * 100 < s.nat Attr.HardwareQueue.sizeWords n * s.nat Attr.HardwareQueue.highWaterPct n →
    (s.queue n).words.length < s.nat Attr.HardwareQueue.sizeWords n →
    Completes (exec (.qhDataHiWrite n v) s) (fun t =>
      t.queue n = { s.queue n with
        words := (s.queue n).words ++ [⟨((s.queue n).staged + v % 2 ^ 32 * 2 ^ 32) % 2 ^ 64, false, false⟩], opened := true, wasFull := false } ∧
        (∀ m, m ≠ n → t.queue m = s.queue m) ∧ SameBut [.que] s t)) ∧
  (∀ (s : State) (n v : Nat), n < 16 → s.hostProduces n = true → (s.queue n).poisoned = false → (s.queue n).words.length = s.nat Attr.HardwareQueue.sizeWords n →
    Completes (exec (.qhDataHiWrite n v) s) (fun t => t.queue n = { s.queue n with wasFull := true } ∧ SameBut [.que] s t)) ∧
  (∀ (s : State) (n : Nat), n < 16 → s.hostProduces n = true → (s.queue n).opened = true → (s.queue n).poisoned = false →
    Completes (exec (.close n) s) (fun t =>
      (t.queue n).opened = false ∧ (t.queue n).words.length = (s.queue n).words.length ∧ (∀ w ∈ (t.queue n).words, w.committed = true) ∧
        (t.queue n).words.map QWord.bits = (s.queue n).words.map QWord.bits ∧ (∀ m, m ≠ n → t.queue m = s.queue m) ∧ SameBut [.que] s t)) ∧
  (∀ (s : State) (n : Nat) (w : QWord), n < 16 → s.hostProduces n = false → (s.queue n).taken = false → (s.queue n).cut = false → (s.queue n).words[(s.queue n).rd]? = some w → w.committed = true →
    Completes (exec (.qhDataLoRead n) s) (fun t =>
      t.queue n = { s.queue n with taken := true, lastValue := w.bits, last := w.last, mid := !w.last, readOut := w.bits % 2 ^ 32 } ∧ SameBut [.que] s t)) ∧
  (∀ (s : State) (n : Nat), n < 16 → s.hostProduces n = false → (s.queue n).taken = false → (s.queue n).cut = false → (s.queue n).words = [] →
    (s.arr Attr.HardwareQueue.counters n).length = 4 →
    Completes (exec (.qhDataLoRead n) s) (fun t =>
      (t.queue n).underrun = true ∧ (t.queue n).readOut = (s.queue n).lastValue % 2 ^ 32 ∧ (t.queue n).rd = (s.queue n).rd ∧
        t.elem Attr.HardwareQueue.counters n 1 = min (s.elem Attr.HardwareQueue.counters n 1 + 1) 0xFFFFFFFF ∧ SameBut [.que, .obj, .mbx] s t)) ∧
  (∀ (s : State) (n : Nat), n < 16 → s.hostProduces n = false → (s.queue n).taken = true →
    Completes (exec (.qhDataHiRead n) s) (fun t =>
      t.queue n = { s.queue n with taken := false, rd := (s.queue n).rd + 1, readOut := (s.queue n).lastValue / 2 ^ 32 } ∧ SameBut [.que] s t)) ∧
  (∀ (s : State) (n : Nat), n < 16 → s.hostProduces n = false →
    Completes (exec (.mark n) s) (fun t => t.queue n = { s.queue n with mark := some ((s.queue n).rd, (s.queue n).mid) } ∧ SameBut [.que] s t)) ∧
  (∀ (s : State) (n r : Nat) (mid : Bool), n < 16 → s.hostProduces n = false → (s.queue n).mark = some (r, mid) →
    Completes (exec (.rewind n) s) (fun t => t.queue n = { s.queue n with rd := r, mid := mid, taken := false } ∧ SameBut [.que] s t)) ∧
  (∀ (s : State) (n : Nat), s.hostProduces n = false → (s.queue n).mark = none → Completes (exec (.rewind n) s) (fun t => t = s)) ∧
  (∀ (s : State) (n : Nat), n < 16 → s.hostProduces n = false → s.que.backlog = [] → (s.queue n).high = false →
    ((s.queue n).words.length - (s.queue n).rd) * 100 < s.nat Attr.HardwareQueue.sizeWords n * s.nat Attr.HardwareQueue.highWaterPct n →
    Completes (exec (.release n) s) (fun t =>
      t.queue n = { s.queue n with words := (s.queue n).words.drop (s.queue n).rd, rd := 0, mark := none } ∧ (∀ m, m ≠ n → t.queue m = s.queue m) ∧ SameBut [.que] s t)) ∧
  (∀ (s : State) (n : Nat), n < 16 → s.que.backlog = [] → (s.arr Attr.HardwareQueue.counters n).length = 4 →
    Completes (exec (.flush n) s) (fun t =>
      t.queue n = (s.queue n).flush.2.2 ∧ (t.queue n).words = [] ∧ t.elem Attr.HardwareQueue.counters n 0 = min (s.elem Attr.HardwareQueue.counters n 0 + 1) 0xFFFFFFFF ∧
        t.recd = s.recd.ordinary ⟨0x0301, objPath 0x1101 n, [(n : Int), ((s.queue n).flush.1 : Int), ((s.queue n).words.length : Int), 1]⟩ ∧
        SameBut [.que, .obj, .mbx, .recd] s t)) ∧
  (∀ (s : State) (c : Cmd) (n k : Nat), s.Serves c n → c.opcode = 0x1101 → pathInst c.path = k → k < 128 → s.que.backlog = [] →
    Completes (exec .queueFlush s) (fun t =>
      Answered s t c n .ok (leBytes 4 (s.queue k).flush.1 ++ leBytes 4 (s.queue k).words.length) ∧ (t.queue k).words = [] ∧
        t.recd = s.recd.ordinary ⟨0x0301, objPath 0x1101 k, [(k : Int), ((s.queue k).flush.1 : Int), ((s.queue k).words.length : Int), 0]⟩ ∧
        SameBut [.mbx, .que, .obj, .recd] s t))
/-- The event recorder (R712–R718, R720, R722, R723): a safety event and an ordinary one wait in their intakes, the safety one goes first; a new record takes the next sequence, and an equal one
counts the last; the events dropped make one record; the mirror takes what it does not hold; the window shows the record at the cursor, or that it is gone or ahead; a clear
in PROVISION keeps the safety records and records itself. -/
def Obligations.EventRecorder : Prop :=
  (∀ (s : State) (code path : Nat) (args : List Int), s.recd.ordinaryIn.length < 64 →
    Completes (exec (.eventArrival false code path args) s) (fun t => t.recd = { s.recd with ordinaryIn := s.recd.ordinaryIn ++ [⟨code, path, args⟩] } ∧ SameBut [.recd] s t)) ∧
  (∀ (s : State) (code path : Nat) (args : List Int), 64 ≤ s.recd.ordinaryIn.length →
    Completes (exec (.eventArrival false code path args) s) (fun t =>
      t.recd = { s.recd with
        dropCount := s.recd.dropCount + 1, dropped := min (s.recd.dropped + 1) 0xFFFFFFFF, dropFirst := if s.recd.dropCount = 0 then code else s.recd.dropFirst, dropLast := code } ∧
        SameBut [.recd] s t)) ∧
  (∀ (s : State) (code path : Nat) (args : List Int), 8 ≤ s.recd.safetyIn.length →
    Completes (exec (.eventArrival true code path args) s) (fun t => t.recd = { s.recd with latched := s.recd.latched ++ [⟨code, path, args⟩] } ∧ SameBut [.recd] s t)) ∧
  (∀ (s : State) (e : Event) (es : List Event), s.recd.safetyIn = [] → s.recd.ordinaryIn = e :: es → s.recd.last = none → s.recd.head < 0xFFFFFFFE → s.recd.ring.length < 16384 →
    s.recd.gapRun = none →
    Completes (exec .recordCommitted s) (fun t =>
      t.recd.head = s.recd.head + 1 ∧ t.recd.last = some ⟨s.recd.head + 1, e.code, 1, e.path, e.args, false⟩ ∧
        t.recd.ring = s.recd.ring ++ [⟨s.recd.head + 1, e.code, 1, e.path, e.args, false⟩] ∧ t.recd.ordinaryIn = es ∧ SameBut [.recd, .mbx] s t)) ∧
  (∀ (s : State) (e : Event) (es : List Event) (x : Record), s.recd.safetyIn = [] → s.recd.ordinaryIn = e :: es → s.recd.last = some x → x.code = e.code → x.path = e.path → x.args = e.args →
    x.count < 65535 → s.recd.gapRun = none →
    Completes (exec .recordCommitted s) (fun t =>
      t.recd.head = s.recd.head ∧ t.recd.last = some { x with count := x.count + 1 } ∧ t.recd.ring = setCount x.seq (x.count + 1) s.recd.ring ∧ t.recd.ordinaryIn = es ∧
        SameBut [.recd, .mbx] s t)) ∧
  (∀ (s : State) (e y : Event) (es ys : List Event), s.recd.safetyIn = e :: es → s.recd.latched = y :: ys → s.recd.last = none → s.recd.head < 0xFFFFFFFE → s.recd.ring.length < 16384 →
    s.recd.gapRun = none →
    Completes (exec .recordCommitted s) (fun t =>
      t.recd.head = s.recd.head + 1 ∧ t.recd.last = some ⟨s.recd.head + 1, e.code, 1, e.path, e.args, true⟩ ∧ t.recd.safetyIn = es ++ [y] ∧ t.recd.latched = ys ∧
        t.recd.ordinaryIn = s.recd.ordinaryIn ∧ SameBut [.recd, .mbx] s t)) ∧
  (∀ s : State, 0 < s.recd.dropCount → s.recd.ordinaryIn.length < 64 → s.recd.last = none → s.recd.head < 0xFFFFFFFE → s.recd.ring.length < 16384 →
    Completes (exec .overflow s) (fun t =>
      t.recd.dropCount = 0 ∧ t.recd.overflows = s.recd.overflows + 1 ∧ t.recd.head = s.recd.head + 1 ∧
        t.recd.last = some ⟨s.recd.head + 1, 0x1410, 1, objPath 0x1110 0, [(s.recd.dropCount : Int), (s.recd.dropFirst : Int), (s.recd.dropLast : Int)], false⟩ ∧
        SameBut [.recd, .mbx] s t)) ∧
  (∀ s : State, s.mirrorTakes = true → s.recd.remirror = [] → s.recd.gapRun = none →
    s.recd.mirror.length + (s.recd.ring.filter (fun x => decide (s.recd.mirrored < x.seq))).length ≤ 16777216 →
    Completes (exec .recorderMirror s) (fun t =>
      t.recd = { s.recd with mirror := s.recd.mirror ++ s.recd.ring.filter (fun x => decide (s.recd.mirrored < x.seq)), mirrored := max s.recd.mirrored s.recd.head } ∧
        SameBut [.recd] s t)) ∧
  (∀ (s : State) (x : Record), s.recd.cursor ≤ s.recd.head → s.recd.ring.find? (fun y => y.seq == s.recd.cursor) = some x →
    Completes (exec .recWindowSnapshot s) (fun t =>
      t.recd = { s.recd with snapshot := recordBytes x, gone := false, ahead := false, readOut := field (recordBytes x) 0 4 } ∧ SameBut [.recd] s t)) ∧
  (∀ s : State, s.recd.cursor ≤ s.recd.head → (∀ x ∈ s.recd.ring, x.seq ≠ s.recd.cursor) →
    Completes (exec .recWindowSnapshot s) (fun t =>
      t.recd = { s.recd with snapshot := List.replicate 32 0, gone := true, ahead := false, readOut := 0 } ∧ SameBut [.recd] s t)) ∧
  (∀ s : State, s.recd.head < s.recd.cursor →
    Completes (exec .recWindowSnapshot s) (fun t =>
      t.recd = { s.recd with snapshot := List.replicate 32 0, gone := false, ahead := true, readOut := 0 } ∧ SameBut [.recd] s t)) ∧
  (∀ s : State,
    Completes (exec .recWindowAdvance s) (fun t =>
      t.recd = { s.recd with readOut := field s.recd.snapshot 28 4, cursor := if s.recd.autoAdvance then (s.recd.cursor + 1) % 2 ^ 32 else s.recd.cursor } ∧ SameBut [.recd] s t)) ∧
  (∀ (s : State) (c : Cmd) (n : Nat), s.Serves c n → c.opcode = 0x1102 → s.sys.mode = .provision → field c.payload 0 4 ≤ s.recd.mirrored → s.recd.last = none →
    s.recd.head < 0xFFFFFFFE → s.recd.ring.length < 16384 →
    Completes (exec .recorderClear s) (fun t =>
      Answered s t c n .ok [] ∧ t.recd.head = s.recd.head + 1 ∧
        t.recd.ring = s.recd.ring.filter (fun x => x.safety || decide (field c.payload 0 4 < x.seq)) ++
          [⟨s.recd.head + 1, 0x1412, 1, objPath 0x1110 0, [(field c.payload 0 4 : Nat), (c.cred : Int)], false⟩] ∧
        t.recd.mirror = s.recd.mirror.filter (fun x => x.safety || decide (field c.payload 0 4 < x.seq)) ∧ SameBut [.mbx, .recd] s t)) ∧
  (∀ (s : State) (c : Cmd) (n : Nat), s.Serves c n → c.opcode = 0x1102 → s.sys.mode ≠ .provision →
    Completes (exec .recorderClear s) (fun t => Answered s t c n .refused [] ∧ SameBut [.mbx] s t))

/-- Writes to registers (R9, R597, R675, R710, R713, R720 and the register tables): a W1C field clears where a 1 is written and no other write moves it, a writable field takes its bits, a write
to the RTC's registers does nothing while it is fenced, and a read-only, reserved or unlisted offset is ignored. -/
def Obligations.Registers : Prop :=
  (∀ (s : State) (n v : Nat), n < 64 → s.mbx.pairs.length = 64 →
    Completes (exec (.registerWrite (0x0100 + 16 * n) v) s) (fun t =>
      t.pair n = { s.pair n with ringLost := (s.pair n).ringLost && !v.testBit 2 } ∧ (∀ m, m ≠ n → t.pair m = s.pair m) ∧ SameBut [.mbx] s t) ∧
    Completes (exec (.registerWrite (0x0108 + 16 * n) v) s) (fun t =>
      t.pair n = { s.pair n with irqEn := v.testBit 8, vector := v % 64 } ∧ (∀ m, m ≠ n → t.pair m = s.pair m) ∧ SameBut [.mbx] s t)) ∧
  (∀ (s : State) (v : Nat),
    Completes (exec (.registerWrite 0x0808 v) s) (fun t =>
      (∀ k, k < 11 → t.sys.resetCause.getLsbD k = (s.sys.resetCause.getLsbD k && !v.testBit k)) ∧
        t = { s with sys := { s.sys with resetCause := t.sys.resetCause } }) ∧
    Completes (exec (.registerWrite 0x080C v) s) (fun t => t = { s with sys := { s.sys with pwrWarn := s.sys.pwrWarn && !v.testBit 0 } }) ∧
    Completes (exec (.registerWrite 0x0814 v) s) (fun t => t = { s with sys := { s.sys with causeValid := s.sys.causeValid && !v.testBit 16 } })) ∧
  (∀ (s : State) (v : Nat),
    Completes (exec (.registerWrite 0x0900 v) s) (fun t => t = { s with fcr := { s.fcr with injected := s.fcr.injected && !v.testBit 4 } }) ∧
    Completes (exec (.registerWrite 0x0908 v) s) (fun t => t = { s with fcr := { s.fcr with hostHold := v.testBit 1 } }) ∧
    Completes (exec (.registerWrite 0x0A0C v) s) (fun t => t = { s with recd := { s.recd with cursor := v % 2 ^ 32 } }) ∧
    Completes (exec (.registerWrite 0x0A10 v) s) (fun t => t = { s with recd := { s.recd with autoAdvance := v.testBit 4 } }) ∧
    Completes (exec (.registerWrite 0x0C00 v) s) (fun t => t = { s with twn := { s.twn with wire := s.twn.wire && !v.testBit 0 } }) ∧
    Completes (exec (.registerWrite 0x0F00 v) s) (fun t =>
      t = { s with glv := { s.glv with approvalRefused := s.glv.approvalRefused && !v.testBit 2, keyAbort := s.glv.keyAbort && !v.testBit 1 } })) ∧
  (∀ (s : State) (v : Nat), s.cutOff 18 0 = false →
    Completes (exec (.registerWrite 0x0B2C v) s) (fun t =>
      t.tim.rtc.battUsed = (s.tim.rtc.battUsed && !v.testBit 19) ∧ t.tim.rtc.commitErr = (s.tim.rtc.commitErr && !v.testBit 17) ∧
        t.tim.rtc.stale = (s.tim.rtc.stale && !v.testBit 16) ∧
        (∀ k, k < 4 → t.tim.rtc.missed.testBit k = (s.tim.rtc.missed.testBit k && !v.testBit (12 + k)) ∧
          t.tim.rtc.skipped.testBit k = (s.tim.rtc.skipped.testBit k && !v.testBit (8 + k)) ∧ t.tim.rtc.fired.testBit k = (s.tim.rtc.fired.testBit k && !v.testBit (4 + k))) ∧
        t.tim.rtc.sqwRate = s.tim.rtc.sqwRate ∧ t.tim.rtc.sqwEn = s.tim.rtc.sqwEn ∧ SameBut [.tim] s t) ∧
    Completes (exec (.registerWrite 0x0B30 v) s) (fun t =>
      t = { s with tim := { s.tim with rtc := { s.tim.rtc with sqwRate := v / 256 % 4, sqwEn := v.testBit 7 } } })) ∧
  (∀ (s : State) (n v : Nat), s.cutOff 18 0 = false → n < 4 →
    Completes (exec (.registerWrite (0x0B40 + 16 * n) v) s) (fun t =>
      t.nat Attr.RtcAlarm.instant n = s.nat Attr.RtcAlarm.instant n / 2 ^ 32 * 2 ^ 32 + v % 2 ^ 32 ∧ SameBut [.obj, .mbx] s t) ∧
    Completes (exec (.registerWrite (0x0B48 + 16 * n) v) s) (fun t => t.nat Attr.RtcAlarm.periodS n = v % 2 ^ 32 ∧ SameBut [.obj, .mbx] s t) ∧
    Completes (exec (.registerWrite (0x0B4C + 16 * n) v) s) (fun t =>
      t.flag Attr.RtcAlarm.enable n = v.testBit 0 ∧ t.flag Attr.RtcAlarm.catchup n = v.testBit 1 ∧ t.flag Attr.RtcAlarm.irqEnable n = v.testBit 2 ∧ SameBut [.obj, .mbx] s t)) ∧
  (∀ (s : State) (a v : Nat), s.cutOff 18 0 = true → 0x0B00 ≤ a → a < 0x0C00 → Completes (exec (.registerWrite a v) s) (fun t => t = s)) ∧
  (∀ (s : State) (n v : Nat), n < 16 →
    Completes (exec (.registerWrite (0x0E08 + 16 * n) v) s) (fun t =>
      t.queue n = { s.queue n with
        aborted := (s.queue n).aborted && !v.testBit 7, underrun := (s.queue n).underrun && !v.testBit 6, flushed := (s.queue n).flushed && !v.testBit 5 } ∧
        (∀ m, m ≠ n → t.queue m = s.queue m) ∧ SameBut [.que] s t)) ∧
  (∀ (s : State) (n r : Nat) (mid : Bool), n < 16 → s.hostProduces n = false → (s.queue n).mark = some (r, mid) →
    Completes (exec (.registerWrite (0x0E0C + 16 * n) 0b00111) s) (fun t => t.queue n = { s.queue n with mark := some ((s.queue n).rd, (s.queue n).mid), taken := false } ∧ SameBut [.que] s t)) ∧
  (∀ (s : State) (v : Nat),
    (∀ a ∈ [0x0000, 0x0004, 0x0800, 0x0810, 0x0818, 0x0904, 0x090C, 0x0A00, 0x0A04, 0x0A08, 0x0A14, 0x0A20, 0x0F08, 0x0FFC],
      Completes (exec (.registerWrite a v) s) (fun t => t = s)))

/-- Debug requests (R737–R739, R742): a request with its two check codes right and a SEQ that is not the last one's is taken; a wrong check code, or an operation that is not listed, is answered
ERROR; while a request is under way another is BUSY; a repeat of the last one executed is DONE with the same data and is not executed again; a control bit that the life-cycle state does not permit
is REFUSED. -/
def Obligations.DebugRequests : Prop :=
  (∀ (s : State) (op seq data : Nat), op ∈ dbgOps → seq < 4 → data < 2 ^ 32 → s.dbg.req = none → (∀ l, s.dbg.last = some l → l.seq ≠ seq) → s.opReached op (if op ∈ dbgWrites then data else 0) = true →
    (op = 0x10 → data ≠ 0) →
    Completes (exec (.debugRequest (0xD000 + op * 2 ^ 7 + seq * 2 ^ 5 + chk5 (op * 4 + seq)) data (crc8 data)) s) (fun t =>
      t.dbg.req = some ⟨op, seq, if op ∈ dbgWrites then data else 0, if op ∈ dbgWrites then data else 0⟩ ∧ t.dbg.answer = s.dbg.answer ∧ t.dbg.clockAt = some s.tim.d3 ∧ SameBut [.dbg] s t)) ∧
  (∀ (s : State) (w data crc : Nat), w < 2 ^ 16 → w / 2 ^ 12 = 0xD → chk5 (w / 2 ^ 5 % 2 ^ 7) ≠ w % 2 ^ 5 →
    Completes (exec (.debugRequest w data crc) s) (fun t =>
      t = { s with dbg := { s.dbg with answer := some .error, out := none, clockAt := some s.tim.d3 } })) ∧
  (∀ (s : State) (op seq data crc : Nat), op ∈ dbgWrites → seq < 4 → data < 2 ^ 32 → crc < 256 → crc ≠ crc8 data →
    Completes (exec (.debugRequest (0xD000 + op * 2 ^ 7 + seq * 2 ^ 5 + chk5 (op * 4 + seq)) data crc) s) (fun t =>
      t = { s with dbg := { s.dbg with answer := some .error, out := none, clockAt := some s.tim.d3 } })) ∧
  (∀ (s : State) (op seq data : Nat) (r : DebugReq), op < 32 → seq < 4 → data < 2 ^ 32 → s.dbg.req = some r →
    Completes (exec (.debugRequest (0xD000 + op * 2 ^ 7 + seq * 2 ^ 5 + chk5 (op * 4 + seq)) data (crc8 data)) s) (fun t =>
      t = { s with dbg := { s.dbg with answer := some .busy, out := none, clockAt := some s.tim.d3 } })) ∧
  (∀ (s : State) (op seq data : Nat) (r : DebugReq), op < 32 → seq < 4 → data < 2 ^ 32 → s.dbg.req = none → s.dbg.last = some r → r.op = op → r.seq = seq → (op ∈ dbgWrites → r.data = data) →
    (op ∉ dbgWrites → r.data = 0) →
    Completes (exec (.debugRequest (0xD000 + op * 2 ^ 7 + seq * 2 ^ 5 + chk5 (op * 4 + seq)) data (crc8 data)) s) (fun t =>
      t = { s with dbg := { s.dbg with answer := some .done, out := s.dbg.lastOut, clockAt := some s.tim.d3 } })) ∧
  (∀ (s : State) (op seq data : Nat), op < 32 → op ∉ dbgOps → seq < 4 → data < 2 ^ 32 → s.dbg.req = none → s.dbg.last = none →
    Completes (exec (.debugRequest (0xD000 + op * 2 ^ 7 + seq * 2 ^ 5 + chk5 (op * 4 + seq)) data (crc8 data)) s) (fun t =>
      t = { s with dbg := { s.dbg with answer := some .error, out := none, clockAt := some s.tim.d3 } })) ∧
  (∀ (s : State) (seq data : Nat), seq < 4 → data < 2 ^ 32 → s.dbg.req = none → s.dbg.last = none → data ≠ 0 → s.sys.lifecycle = .field → s.wider = false →
    Completes (exec (.debugRequest (0xD000 + 0x10 * 2 ^ 7 + seq * 2 ^ 5 + chk5 (0x10 * 4 + seq)) data (crc8 data)) s) (fun t =>
      t = { s with dbg := { s.dbg with answer := some .refused, out := none, clockAt := some s.tim.d3 } })) ∧
  (∀ s : State, Completes (exec .debugResync s) (fun t =>
      t = { s with dbg := { s.dbg with req := none, last := none, clockAt := some s.tim.d3 } }))

/-- Debug reads, addresses, memory and UNLOCK (R549, R738–R742): a read answers DONE with its word; the address takes its halves and goes on by 4; an access of an address not listed is ERROR
and one out of reach REFUSED; a breakpoint's word is read as written; UNLOCK succeeds only on the signature of a SAFETY credential's key in PROVISION, and renews the challenge either way. -/
def Obligations.DebugAccess : Prop :=
  (∀ (s : State) (i : Instr) (op v : Nat) (r : DebugReq),
    (i, op, v) ∈ [(Instr.readId, 1, s.sys.step * 2 ^ 16 + 0x8412), (.readStatus, 2, s.dbgStatus), (.readMode, 3, s.modeStatus), (.readEuiLo, 4, s.sys.eui % 2 ^ 32), (.readEuiHi, 5, s.sys.eui / 2 ^ 32)] →
    s.dbg.req = some r → r.op = op →
    Completes (exec i s) (fun t => t = { s with dbg := { s.dbg with req := none, last := some r, lastOut := some (v % 2 ^ 32), answer := some .done, out := some (v % 2 ^ 32) } })) ∧
  (∀ (s : State) (r : DebugReq), s.dbg.req = some r → r.data < 2 ^ 32 →
    (r.op = 0x11 → Completes (exec .writeAddr s) (fun t =>
      t = { s with dbg := { s.dbg with addr := s.dbg.addr / 2 ^ 32 * 2 ^ 32 + r.data, req := none, last := some r, lastOut := none, answer := some .done, out := none } })) ∧
    (r.op = 0x12 → Completes (exec .writeAddrHi s) (fun t =>
      t = { s with dbg := { s.dbg with addr := r.data % 256 * 2 ^ 32 + s.dbg.addr % 2 ^ 32, req := none, last := some r, lastOut := none, answer := some .done, out := none } }))) ∧
  (∀ (s : State) (r : DebugReq) (n : Nat), s.dbg.req = some r → n < 8 → s.dbg.addr = 0xFFFFFFF000 + 4 * n → s.sys.lifecycle = .factory →
    (r.op = 0x08 → Completes (exec .readMem s) (fun t =>
      t = { s with dbg := { s.dbg with
        addr := s.dbg.addr + 4, req := none, last := some r, lastOut := some (s.dbg.breaks.getD n 0), answer := some .done, out := some (s.dbg.breaks.getD n 0) } })) ∧
    (r.op = 0x18 → Completes (exec .writeMem s) (fun t =>
      t = { s with dbg := { s.dbg with
        addr := s.dbg.addr + 4, breaks := s.dbg.breaks.set n r.data, req := none, last := some r, lastOut := none, answer := some .done, out := none } }))) ∧
  (∀ (s : State) (r : DebugReq) (i : Instr), s.dbg.req = some r → (i = .readMem ∧ r.op = 0x08) ∨ (i = .writeMem ∧ r.op = 0x18) →
    (0xC00000 ≤ s.dbg.addr → s.dbg.addr < 0x01000000 → Completes (exec i s) (fun t =>
      t = { s with dbg := { s.dbg with req := none, answer := some .error, out := none } })) ∧
    (s.dbg.addr < 0xC00000 → s.sys.lifecycle = .field → s.wider = false → Completes (exec i s) (fun t =>
      t = { s with dbg := { s.dbg with req := none, answer := some .refused, out := none } }))) ∧
  (∀ (s : State) (r : DebugReq), s.dbg.req = some r → r.op = 0x14 → s.dbg.response.length = 64 → s.sys.lifecycle = .field → s.sys.mode = .provision → s.alive 0x0C20 r.data = true →
    s.nat Attr.RoleCredential.role r.data = roleIndex .safety →
    Completes (exec .unlock s) (fun t =>
      t.dbg.challenge = s.freeCtr ∧ t.dbg.req = none ∧ t.dbg.out = none ∧
      (if Config.ecdsaVerify (s.octets Attr.RoleCredential.publicKey r.data) (s.challenge ++ leBytes 8 s.sys.eui ++ [0x44#8]) s.dbg.response = true then
        t.dbg.unlocked = true ∧ t.dbg.answer = some .done ∧ t.dbg.unlocks = min (s.dbg.unlocks + 1) 0xFFFF ∧ t.glv.cache = [] ∧ t.glv.bank = none ∧ t.glv.debugOpened = true ∧
          t.flag Attr.GloveboxService.testRoots 0 = true
      else
        t = { s with freeCtr := s.freeCtr + 1, dbg := { s.dbg with challenge := s.freeCtr, failed := min (s.dbg.failed + 1) 0xFF, req := none, answer := some .refused, out := none } }))) ∧
  (∀ (s : State) (r : DebugReq), s.dbg.req = some r → r.op = 0x14 → s.sys.lifecycle = .blank ∨ s.sys.lifecycle = .factory ∨ s.sys.lifecycle = .void ∨ s.sys.mode ≠ .provision →
    Completes (exec .unlock s) (fun t =>
      t = { s with freeCtr := s.freeCtr + 1, dbg := { s.dbg with challenge := s.freeCtr, failed := min (s.dbg.failed + 1) 0xFF, req := none, answer := some .refused, out := none } }))

/-- Debug control (R91, R118, R533, R740, R743): each bit of a control word acts, and with the last of them the request is DONE; the unlock lapses where the halted chip has left PROVISION and
FACTORY; a breakpoint and a watchpoint halt the processor. -/
def Obligations.DebugControl : Prop :=
  (∀ (s : State) (r : DebugReq), s.dbg.req = some r → r.op = 0x10 →
    (r.left = 1 → s.dbg.halted = false → Completes (exec .halt s) (fun t =>
      t = { s with dbg := { s.dbg with
        halted := true, regs := [], ram := [], req := none, last := some { r with left := 0 }, lastOut := none, answer := some .done, out := none } })) ∧
    (r.left = 2 → Completes (exec .resume s) (fun t =>
      t = { s with dbg := { s.dbg with
        halted := false, regs := [], ram := [], req := none, last := some { r with left := 0 }, lastOut := none, answer := some .done, out := none } })) ∧
    (r.left = 3 → s.dbg.halted = false → Completes (exec .halt s) (fun t =>
      t = { s with dbg := { s.dbg with halted := true, regs := [], ram := [], req := some { r with left := 2 } } })) ∧
    (r.left = 4 → s.dbg.halted = true → Completes (exec .step s) (fun t =>
      t = { s with dbg := { s.dbg with regs := [], ram := [], req := none, last := some { r with left := 0 }, lastOut := none, answer := some .done, out := none } })) ∧
    (r.left = 8 → Completes (exec .resetReq s) (fun t =>
      t.sys.mode = .booting ∧ t.sys.resetCause.getLsbD 7 = true ∧ t.mbx.sessions = [] ∧ t.dbg.halted = false ∧ t.dbg.unlocked = false ∧ t.dbg.answer = some .done)) ∧
    (r.left = 16 → Completes (exec .guardHalt s) (fun t =>
      t = { s with dbg := { s.dbg with guardHalted := true, req := none, last := some { r with left := 0 }, lastOut := none, answer := some .done, out := none } })) ∧
    (r.left = 32 → s.sys.lifecycle = .blank → Completes (exec .lcAdvance s) (fun t =>
      t.sys.lifecycle = .factory ∧ t.dbg.answer = some .done ∧ t.dbg.req = none ∧ t.dbg.unlocks = 0 ∧ t.glv.cache = [] ∧ t.glv.bank = none)) ∧
    (r.left = 64 → s.dbg.otpSlot ≤ 2 → s.dbg.otpValue.length = 32 → s.nat Attr.RootSlot.state s.dbg.otpSlot = 0 →
      Assoc.find s.dbg.otpSlot s.glv.blown = none → Completes (exec .otpProgram s) (fun t =>
      t.nat Attr.RootSlot.state s.dbg.otpSlot = 1 ∧ Assoc.find s.dbg.otpSlot t.glv.slots = some s.dbg.otpValue ∧ t.dbg.answer = some .done ∧ t.dbg.req = none))) ∧
  (∀ s : State, s.dbg.halted = true → s.sys.mode ≠ .provision → s.sys.mode ≠ .factory →
    Completes (exec .unlockLapse s) (fun t => t = { s with dbg := { s.dbg with unlocked := false } })) ∧
  (∀ (s : State) (n addr : Nat) (w : Bool), s.dbg.halted = false → (s.dbg.breaks.getD n 0).testBit 0 = true →
    Completes (exec (.debugBreak false n addr w) s) (fun t =>
      t = { s with dbg := { s.dbg with halted := true, regs := [(0xFFFFFFF050 / 4, s.dbg.breaks.getD n 0 - 1)], ram := [] } })) ∧
  (∀ (s : State) (n addr : Nat) (w : Bool), s.dbg.halted = false → n < 4 → (s.dbg.watches.getD (3 * n + 2) 0).testBit 0 = true →
    (s.dbg.watches.getD (3 * n + 2) 0).testBit (if w then 2 else 1) = true →
    addr &&& s.dbg.watches.getD (3 * n + 1) 0 = s.dbg.watches.getD (3 * n) 0 &&& s.dbg.watches.getD (3 * n + 1) 0 →
    Completes (exec (.debugBreak true n addr w) s) (fun t => t = { s with dbg := { s.dbg with halted := true, regs := [], ram := [] } }))

/-- A step runs the command at the front of the queue on the state whose queue is the rest; on an empty queue the block idles for one tick (the idle tick is the model's choice, log 11). -/
def Obligations.StepRunsFront : Prop :=
  (∀ (i : Instr) (rest : List Instr) (s : State), step { s with pending := i :: rest } = exec i { s with pending := rest }) ∧
  (∀ s : State, s.pending = [] → step s = .next s.tick)

/-- An idle step is one period of TSCLK, 2.5 ns (the idle tick is the model's choice, log 11): where nothing is gathered for a partner, a replica or a peer, no PUREL reset runs, no CHIP reset is
due and the chip is in no federation, D3 advances by it and nothing outside TIM changes. -/
def Obligations.IdleTick : Prop :=
  ∀ s : State, s.pending = [] → s.twn.outbox = [] → s.twn.repOut = [] → s.twn.repDue = [] → s.mbx.peerOut = [] → s.sys.purelRestart = false → s.sys.resetDue = false → s.federated = false →
    Completes (step s) (fun t => t.tim.d3 = s.tim.d3 + tickUnits ∧ t.tim.rtc.subTicks = s.tim.rtc.subTicks + 1 ∧ SameBut [.tim] s t)

/-- The state after reset is safe and its object store canonical: the two invariants hold at reset. -/
def Obligations.ResetInvariant : Prop := State.reset.Safe ∧ State.reset.obj.Canonical

/-- Whatever step is taken, STALEMATE keeps the field transmit enables low, the claim released and the Purel processor held (R30, R109, R110), the object store keeps its one canonical form, and the
ordering code, the EUI-64 and the stepping stay what the fuses and the die say (R2, R3): an invariant that every step keeps. -/
def Obligations.SafetyInvariant : Prop :=
  ∀ s t : State, s.Safe → s.obj.Canonical → step s = .next t → t.Safe ∧ t.obj.Canonical ∧ t.fused = s.fused

/-- Every command is answered with a next state, whatever the state and the operands, and leaves the commands that wait as they are. -/
def Obligations.CommandsAnswer : Prop :=
  (∀ (i : Instr) (s : State), Completes (exec i s) (fun _ => True)) ∧
  (∀ (i : Instr) (s t : State), s.Safe → s.obj.Canonical → exec i s = .next t → t.pending = s.pending)

/-- What stands at reset, as the spec gives it but for the two items named at the end (Tables 02-1 to 02-3, 03-12 to 03-14, 15-8, 16-9, 18-8, 19-8): the chip boots with RESET_CAUSE at POR, its transmit enables low and its claim released, no
session and nothing taken, every pair's buffers free and its VECTOR its number, service time UNSET, no domain fenced, nothing waiting. The arrival number 0 (log 3) and
the empty recorder (log 4, the retention tail at a first power-on) are the model's choices. -/
def Obligations.ResetState : Prop :=
  State.reset.sys.mode = .booting ∧ State.reset.register 0x0808 = 1 ∧ State.reset.sys.txEnable = false ∧ State.reset.twn.claimOut = false ∧ State.reset.sys.stalemate = false ∧
  State.reset.mbx.sessions = [] ∧ State.reset.mbx.taken = [] ∧ State.reset.mbx.arrival = 0 ∧
  (∀ n, n < 64 → State.reset.register (0x0100 + 16 * n) = 0 ∧ State.reset.register (0x0104 + 16 * n) = 0 ∧ State.reset.register (0x0108 + 16 * n) = n) ∧
  State.reset.unset = true ∧ State.reset.recd.ring = [] ∧ State.reset.register 0x0904 = 0 ∧ State.reset.register 0x090C = 0 ∧ State.reset.pending = []

/-- What names the chip (R2, R3, R101): `ID_PART` reads 0x0000_8412 on each ordering code; `ordering_code` of `SystemIdentity` reads the encoding of Table 00-2; `MODE_STATUS.MODE` and `mode` of
`SystemMode` read the mode with the encoding of Table 03-7. -/
def Obligations.ChipIdentity : Prop :=
  ∀ s : State,
    s.register 0x0000 = 0x8412 ∧
    s.read (0x0101, 0x01) 0 = .num (match s.sys.order with | .x => 0 | .m => 1 | .g => 2) ∧
    s.register 0x0800 % 16 = (match s.sys.mode with | .factory => 0 | .provision => 1 | .service => 2 | .island => 3 | .shadow => 4 | .holdup => 5 | .booting => 15) ∧
    s.read (0x0102, 0x01) 0 = .num (match s.sys.mode with | .factory => 0 | .provision => 1 | .service => 2 | .island => 3 | .shadow => 4 | .holdup => 5 | .booting => 15)

/-- Rules of refusal, each whole (R25, R38, R106, R107): a SET of `posture` is executed in PROVISION, and in any other mode it is REFUSED and changes nothing; a ring on a pair that is busy is
ignored and sets IN_RING_LOST; PFI_N in FACTORY mode records PFI_IGNORED and starts no HOLDUP; a MODE_REQUEST or a CASTLE that arrives in HOLDUP is REFUSED. -/
def Obligations.WholeRules : Prop :=
  (∀ (s : State) (c : Cmd) (n : Nat) (x : Tlv) (rest : Bytes) (v : Nat), s.Serves c n → c.opcode = opSet → bit c.flags flagIfVersion = false → c.path = mkPath 0x0E02 0 0x01 →
    parseTlv c.data = some (x, rest) → x.attr = 0x01 → decodeVal .enum x = some (.num v) → v ≤ 3 → s.pairTrial = false → s.sys.settingsGen ≠ 0 →
    (s.sys.mode = .provision → Completes (exec .set s) (fun t => Answered s t c n .ok [] ∧ t.nat (0x0E02, 0x01) 0 = v ∧ t.sys.postureWritten = true)) ∧
    (s.sys.mode ≠ .provision → Completes (exec .set s) (fun t => Answered s t c n .refused [] ∧ SameBut [.mbx] s t))) ∧
  (∀ (s : State) (n : Nat) (w : Option BufWrite), 1 ≤ n → n < s.mbx.pairs.length → n < 64 → (s.pair n).inBusy = true →
    Completes (exec (.inRing n w) s) (fun t => t.pair n = { s.pair n with ringLost := true } ∧ (∀ m, m ≠ n → t.pair m = s.pair m) ∧ t = { s with mbx := { s.mbx with pairs := t.mbx.pairs } })) ∧
  (∀ (s : State) (ws : List MediaWrite), s.sys.mode = .factory → s.sys.stalemate = false →
    Completes (exec (.pfiAssert ws) s) (fun t =>
      t.sys = { s.sys with pfi := true } ∧ t.recd = s.recd.ordinary ⟨0x0105, objPath 0x0102 0, [0]⟩ ∧ SameBut [.sys, .recd] s t)) ∧
  (∀ (s : State) (c : Cmd) (n : Nat) (i : Instr), s.Serves c n → s.sys.mode = .holdup → (i, c.opcode) ∈ [(Instr.modeRequest, 0x0101), (.castle, 0x0E01)] →
    Completes (exec i s) (fun t => Answered s t c n .refused [] ∧ SameBut [.mbx] s t))
end

