-- ==== Sys2Proof/Laws/Assoc.lean ====
section
/-! SUPPORT. The laws of keyed lists: reading after writing, and that every write keeps the rising form. -/

namespace Sys2Proof.Machine.Assoc

variable {α : Type} {k j : Nat} {v : α} {l : List (Nat × α)}

/-- A bound on the keys survives a removal. -/
theorem mem_del {e : Nat × α} (h : e ∈ del k l) : e ∈ l := by
  induction l with
  | nil => exact h
  | cons x t ih =>
    unfold del at h
    split at h
    · exact .tail _ (ih h)
    · cases h with
      | head => exact .head _
      | tail _ h => exact .tail _ (ih h)

/-- Keys after a write are the key written or keys from before. -/
theorem mem_put {e : Nat × α} (h : e ∈ put k v l) : e.1 = k ∨ e ∈ l := by
  induction l with
  | nil => simp only [put, List.mem_singleton] at h; exact .inl (by rw [h])
  | cons x t ih =>
    unfold put at h
    split at h
    · cases h with
      | head => exact .inl rfl
      | tail _ h => exact .inr h
    · split at h
      · cases h with
        | head => exact .inl rfl
        | tail _ h => exact .inr (.tail _ h)
      · cases h with
        | head => exact .inr (.head _)
        | tail _ h => exact (ih h).imp id (.tail _)

theorem sorted_del (h : Sorted l) : Sorted (del k l) := by
  induction l with
  | nil => exact h
  | cons x t ih =>
    have ht := List.pairwise_cons.1 h
    unfold del
    split
    · exact ih ht.2
    · exact List.pairwise_cons.2 ⟨fun e he => ht.1 e (mem_del he), ih ht.2⟩

theorem sorted_put (h : Sorted l) : Sorted (put k v l) := by
  induction l with
  | nil => exact List.pairwise_singleton _ _
  | cons x t ih =>
    have ht := List.pairwise_cons.1 h
    unfold put
    split
    · rename_i hk
      exact List.pairwise_cons.2 ⟨fun e he => by
        cases he with
        | head => exact hk
        | tail _ he => exact Nat.lt_trans hk (ht.1 e he), h⟩
    · split
      · rename_i _ hk
        subst hk
        exact List.pairwise_cons.2 ⟨ht.1, ht.2⟩
      · exact List.pairwise_cons.2 ⟨fun e he => by
          rcases mem_put he with h1 | h1
          · rw [h1]; dsimp only; omega
          · exact ht.1 e h1, ih ht.2⟩

theorem sorted_set [DecidableEq α] {d : α} (h : Sorted l) : Sorted (set d k v l) := by
  unfold set
  split
  · exact sorted_del h
  · exact sorted_put h

/-- What was written is read. -/
@[simp] theorem find_put_same : find k (put k v l) = some v := by
  induction l with
  | nil => simp [put, find]
  | cons x t ih =>
    unfold put
    split
    · simp [find]
    · split
      · simp [find]
      · rename_i h1 h2
        rw [find, if_neg (Ne.symm h2)]; exact ih

/-- A write leaves every other key as it was. -/
theorem find_put_ne (h : j ≠ k) : find j (put k v l) = find j l := by
  induction l with
  | nil => simp [put, find, Ne.symm h]
  | cons x t ih =>
    unfold put
    split
    · simp [find, Ne.symm h]
    · split
      · rename_i h2
        subst h2
        simp [find, Ne.symm h]
      · simp only [find]; split
        · rfl
        · exact ih

/-- A removed key is absent. -/
@[simp] theorem find_del_same : find k (del k l) = none := by
  induction l with
  | nil => rfl
  | cons x t ih =>
    unfold del
    split
    · exact ih
    · rename_i h; simp only [find, if_neg h]; exact ih

/-- A removal leaves every other key as it was. -/
theorem find_del_ne (h : j ≠ k) : find j (del k l) = find j l := by
  induction l with
  | nil => rfl
  | cons x t ih =>
    unfold del
    split
    · rename_i hk; subst hk; simp only [find, if_neg (Ne.symm h)]; exact ih
    · simp only [find]; split
      · rfl
      · exact ih

/-- A key reads as written, an absent one as the default. -/
@[simp] theorem getD_set_same [DecidableEq α] {d : α} : (find k (set d k v l)).getD d = v := by
  unfold set
  split
  · rename_i h; rw [find_del_same, h]; rfl
  · rw [find_put_same]; rfl

theorem getD_set_ne [DecidableEq α] {d e : α} (h : j ≠ k) : (find j (set d k v l)).getD e = (find j l).getD e := by
  unfold set
  split
  · rw [find_del_ne h]
  · rw [find_put_ne h]

end Sys2Proof.Machine.Assoc
end

