-- ==== Sys2Proof/Laws/Kept.lean ====
section
/-! SUPPORT. What every operation of the machine keeps: the fused identification and the waiting queue, what STALEMATE holds, the canonical form of the object store. -/

namespace Sys2Proof.Laws

open Sys2Proof.Machine

/-- The state has the identification and the queue `k`, is safe, and its object store is canonical. -/
structure Kept (k : (OrderCode × Nat × Nat) × List Instr) (s : State) : Prop where
  fixed : (s.fused, s.pending) = k
  safe : s.Safe
  canonical : s.obj.Canonical

variable {k : (OrderCode × Nat × Nat) × List Instr}

/-- A change of the other parts keeps it. -/
theorem Kept.mk' {t : State} {sys obj mbx fcr recd que tim lin rad elt col bil bal mea lux sto glv twn upd dbg freeCtr pending}
    (h : Kept k t) (ho : obj = t.obj) (hp : pending = t.pending) (h1 : sys.order = t.sys.order) (h2 : sys.eui = t.sys.eui) (h3 : sys.step = t.sys.step)
    (h4 : sys.stalemate = t.sys.stalemate) (h5 : sys.txEnable = t.sys.txEnable) (h6 : sys.purelHeld = t.sys.purelHeld) (h7 : twn.claimOut = t.twn.claimOut) :
    Kept k ⟨sys, obj, mbx, fcr, recd, que, tim, lin, rad, elt, col, bil, bal, mea, lux, sto, glv, twn, upd, dbg, freeCtr, pending⟩ := by
  obtain ⟨he, ⟨s1, s2, s3⟩, hc⟩ := h
  subst ho hp
  refine ⟨?_, ⟨?_, ?_, ?_⟩, hc⟩
  · rw [← he]; simp only [State.fused, h1, h2, h3]
  · intro h; rw [h4] at h; exact h5.trans (s1 h)
  · intro h; rw [h4] at h; exact h7.trans (s2 h)
  · intro h; rw [h4] at h; exact h6.trans (s3 h)

theorem Kept.cut {s : State} {q : Prop} (hq : Kept k s → q) (h : Kept k s) : q := hq h

theorem Kept.snd {α} {p : α × State} {a t} (e : p = (a, t)) (h : Kept k p.2) : Kept k t := by subst e; exact h

theorem Kept.ofSome {α} {a : α} {t : State} {x : α × State} (h : Kept k t) (e : some (a, t) = some x) : Kept k x.2 := by cases e; exact h

theorem Kept.thd {α β} {p : α × β × State} {a b t} (e : p = (a, b, t)) (h : Kept k p.2.2) : Kept k t := by subst e; exact h

theorem Kept.ite {c : Prop} [Decidable c] {a b : State} (ha : Kept k a) (hb : Kept k b) : Kept k (if c then a else b) := by
  split <;> assumption

theorem Kept.ite_snd {α} {c : Prop} [Decidable c] {a b : α × State} (ha : Kept k a.2) (hb : Kept k b.2) : Kept k (if c then a else b).2 := by
  split <;> assumption

theorem Kept.ite_thd {α β} {c : Prop} [Decidable c] {a b : α × β × State} (ha : Kept k a.2.2) (hb : Kept k b.2.2) : Kept k (if c then a else b).2.2 := by
  split <;> assumption

theorem Kept.foldl {α} {g : State → α → State} {l : List α} {a : State} (ha : Kept k a) (hg : ∀ s x, Kept k s → Kept k (g s x)) : Kept k (l.foldl g a) := by
  induction l generalizing a with
  | nil => exact ha
  | cons x t ih => exact ih (hg a x ha)

theorem Kept.foldl_snd {α β} {g : β × State → α → β × State} {l : List α} {a : β × State} (ha : Kept k a.2)
    (hg : ∀ p x, Kept k p.2 → Kept k (g p x).2) : Kept k (l.foldl g a).2 := by
  induction l generalizing a with
  | nil => exact ha
  | cons x t ih => exact ih (hg a x ha)

theorem Kept.foldl_thd {α β γ} {g : β × γ × State → α → β × γ × State} {l : List α} {a : β × γ × State} (ha : Kept k a.2.2)
    (hg : ∀ p x, Kept k p.2.2 → Kept k (g p x).2.2) : Kept k (l.foldl g a).2.2 := by
  induction l generalizing a with
  | nil => exact ha
  | cons x t ih => exact ih (hg a x ha)

/-- A command's next state keeps it. -/
structure KeptOut (k : (OrderCode × Nat × Nat) × List Instr) (o : Out) : Prop where
  next' : ∀ t, o = .next t → Kept k t

theorem KeptOut.next {s : State} (h : Kept k s) : KeptOut k (.next s) := ⟨fun t e => by cases e; exact h⟩

theorem KeptOut.ite {c : Prop} [Decidable c] {a b : Out} (ha : KeptOut k a) (hb : KeptOut k b) : KeptOut k (if c then a else b) := by
  split <;> assumption

/-- An answer, where there is one, keeps it. -/
structure KeptSome {α β} (k : (OrderCode × Nat × Nat) × List Instr) (o : Option (α × β × State)) : Prop where
  get : ∀ x, o = some x → Kept k x.2.2

theorem KeptSome.some {α β} {a : α} {b : β} {t : State} (h : Kept k t) : KeptSome k (some (a, b, t)) := ⟨fun x e => by cases e; exact h⟩

theorem KeptSome.none {α β} : KeptSome (α := α) (β := β) k none := ⟨fun x e => nomatch e⟩

theorem KeptSome.ite {α β} {c : Prop} [Decidable c] {a b : Option (α × β × State)} (ha : KeptSome k a) (hb : KeptSome k b) : KeptSome k (if c then a else b) := by
  split <;> assumption

end Sys2Proof.Laws
end

