-- ==== Sys2Proof/Laws/Kept/Ops.lean ====
section
/-! SUPPORT. The operations of Machine/Ops.lean keep what Laws/Kept.lean names. -/

set_option linter.unusedTactic false
set_option linter.unreachableTactic false

namespace Sys2Proof.Laws

open Sys2Proof.Machine

variable {k : (OrderCode × Nat × Nat) × List Instr}

theorem State_drawn_kept {a0} (h : Kept k a0) : Kept k (State.drawn a0) := by
  unfold State.drawn
  repeat' (first
    | with_reducible assumption
    | with_reducible apply Kept.ite
    | ((try lift_lets -underBinder); intro x)
    | with_reducible apply Kept.ite_snd
    | with_reducible apply Kept.ite_thd
    | with_reducible refine Kept.foldl ?_ (fun _ _ _ => ?_)
    | with_reducible refine Kept.foldl_snd ?_ (fun _ _ _ => ?_)
    | with_reducible refine Kept.foldl_thd ?_ (fun _ _ _ => ?_)
    | fail_if_no_progress with_reducible refine Kept.mk' ?_ rfl rfl rfl rfl rfl rfl rfl rfl rfl
    | with_reducible refine Kept.snd ‹_ = (_, _)› ?_
    | with_reducible refine Kept.thd ‹_ = (_, _, _)› ?_
    | fail_if_no_progress dsimp -zeta only
    | intro _
    | split
    | ((clear_value *; split)))

theorem State_complete_kept {a0 a1 a2 a3 a4} (h : Kept k a0) : Kept k (State.complete a0 a1 a2 a3 a4) := by
  unfold State.complete
  repeat' (first
    | with_reducible assumption
    | with_reducible apply Kept.ite
    | ((try lift_lets -underBinder); intro x)
    | with_reducible apply Kept.ite_snd
    | with_reducible apply Kept.ite_thd
    | with_reducible refine Kept.foldl ?_ (fun _ _ _ => ?_)
    | with_reducible refine Kept.foldl_snd ?_ (fun _ _ _ => ?_)
    | with_reducible refine Kept.foldl_thd ?_ (fun _ _ _ => ?_)
    | fail_if_no_progress with_reducible refine Kept.mk' ?_ rfl rfl rfl rfl rfl rfl rfl rfl rfl
    | with_reducible refine Kept.snd ‹_ = (_, _)› ?_
    | with_reducible refine Kept.thd ‹_ = (_, _, _)› ?_
    | fail_if_no_progress dsimp -zeta only
    | intro _
    | split
    | ((clear_value *; split)))

theorem State_setAttr_kept {s : State} {a i v} (h : Kept k s) : Kept k (s.setAttr a i v) := by
  unfold State.setAttr
  split
  · exact h
  · exact ⟨h.fixed, ⟨h.safe.enables, h.safe.claim, h.safe.held⟩, ⟨Assoc.sorted_set h.canonical.vals, Assoc.sorted_set h.canonical.vers, h.canonical.live⟩⟩

theorem State_touch_kept {s : State} {a i v} (h : Kept k s) : Kept k (s.touch a i v) :=
  ⟨h.fixed, ⟨h.safe.enables, h.safe.claim, h.safe.held⟩, ⟨h.canonical.vals, Assoc.sorted_set h.canonical.vers, h.canonical.live⟩⟩

theorem State_setInt_kept {a0 a1 a2 a3} (h : Kept k a0) : Kept k (State.setInt a0 a1 a2 a3) := by
  unfold State.setInt
  repeat' (first
    | with_reducible assumption
    | with_reducible apply Kept.ite
    | with_reducible apply State_setAttr_kept
    | ((try lift_lets -underBinder); intro x)
    | with_reducible apply Kept.ite_snd
    | with_reducible apply Kept.ite_thd
    | with_reducible refine Kept.foldl ?_ (fun _ _ _ => ?_)
    | with_reducible refine Kept.foldl_snd ?_ (fun _ _ _ => ?_)
    | with_reducible refine Kept.foldl_thd ?_ (fun _ _ _ => ?_)
    | fail_if_no_progress with_reducible refine Kept.mk' ?_ rfl rfl rfl rfl rfl rfl rfl rfl rfl
    | with_reducible refine Kept.snd ‹_ = (_, _)› ?_
    | with_reducible refine Kept.thd ‹_ = (_, _, _)› ?_
    | fail_if_no_progress dsimp -zeta only
    | intro _
    | split
    | ((clear_value *; split)))

theorem State_setNat_kept {a0 a1 a2 a3} (h : Kept k a0) : Kept k (State.setNat a0 a1 a2 a3) := by
  unfold State.setNat
  repeat' (first
    | with_reducible assumption
    | with_reducible apply Kept.ite
    | with_reducible apply State_setAttr_kept
    | ((try lift_lets -underBinder); intro x)
    | with_reducible apply Kept.ite_snd
    | with_reducible apply Kept.ite_thd
    | with_reducible refine Kept.foldl ?_ (fun _ _ _ => ?_)
    | with_reducible refine Kept.foldl_snd ?_ (fun _ _ _ => ?_)
    | with_reducible refine Kept.foldl_thd ?_ (fun _ _ _ => ?_)
    | fail_if_no_progress with_reducible refine Kept.mk' ?_ rfl rfl rfl rfl rfl rfl rfl rfl rfl
    | with_reducible refine Kept.snd ‹_ = (_, _)› ?_
    | with_reducible refine Kept.thd ‹_ = (_, _, _)› ?_
    | fail_if_no_progress dsimp -zeta only
    | intro _
    | split
    | ((clear_value *; split)))

theorem State_setFlag_kept {a0 a1 a2 a3} (h : Kept k a0) : Kept k (State.setFlag a0 a1 a2 a3) := by
  unfold State.setFlag
  repeat' (first
    | with_reducible assumption
    | with_reducible apply Kept.ite
    | with_reducible apply State_setAttr_kept
    | ((try lift_lets -underBinder); intro x)
    | with_reducible apply Kept.ite_snd
    | with_reducible apply Kept.ite_thd
    | with_reducible refine Kept.foldl ?_ (fun _ _ _ => ?_)
    | with_reducible refine Kept.foldl_snd ?_ (fun _ _ _ => ?_)
    | with_reducible refine Kept.foldl_thd ?_ (fun _ _ _ => ?_)
    | fail_if_no_progress with_reducible refine Kept.mk' ?_ rfl rfl rfl rfl rfl rfl rfl rfl rfl
    | with_reducible refine Kept.snd ‹_ = (_, _)› ?_
    | with_reducible refine Kept.thd ‹_ = (_, _, _)› ?_
    | fail_if_no_progress dsimp -zeta only
    | intro _
    | split
    | ((clear_value *; split)))

theorem State_bump_kept {a0 a1 a2 a3 a4} (h : Kept k a0) : Kept k (State.bump a0 a1 a2 a3 a4) := by
  unfold State.bump
  repeat' (first
    | with_reducible assumption
    | with_reducible apply Kept.ite
    | with_reducible apply State_setNat_kept
    | ((try lift_lets -underBinder); intro x)
    | with_reducible apply Kept.ite_snd
    | with_reducible apply Kept.ite_thd
    | with_reducible refine Kept.foldl ?_ (fun _ _ _ => ?_)
    | with_reducible refine Kept.foldl_snd ?_ (fun _ _ _ => ?_)
    | with_reducible refine Kept.foldl_thd ?_ (fun _ _ _ => ?_)
    | fail_if_no_progress with_reducible refine Kept.mk' ?_ rfl rfl rfl rfl rfl rfl rfl rfl rfl
    | with_reducible refine Kept.snd ‹_ = (_, _)› ?_
    | with_reducible refine Kept.thd ‹_ = (_, _, _)› ?_
    | fail_if_no_progress dsimp -zeta only
    | intro _
    | split
    | ((clear_value *; split)))

theorem State_bumpSat_kept {a0 a1 a2 a3 a4} (h : Kept k a0) : Kept k (State.bumpSat a0 a1 a2 a3 a4) := by
  unfold State.bumpSat
  repeat' (first
    | with_reducible assumption
    | with_reducible apply Kept.ite
    | with_reducible apply State_setNat_kept
    | ((try lift_lets -underBinder); intro x)
    | with_reducible apply Kept.ite_snd
    | with_reducible apply Kept.ite_thd
    | with_reducible refine Kept.foldl ?_ (fun _ _ _ => ?_)
    | with_reducible refine Kept.foldl_snd ?_ (fun _ _ _ => ?_)
    | with_reducible refine Kept.foldl_thd ?_ (fun _ _ _ => ?_)
    | fail_if_no_progress with_reducible refine Kept.mk' ?_ rfl rfl rfl rfl rfl rfl rfl rfl rfl
    | with_reducible refine Kept.snd ‹_ = (_, _)› ?_
    | with_reducible refine Kept.thd ‹_ = (_, _, _)› ?_
    | fail_if_no_progress dsimp -zeta only
    | intro _
    | split
    | ((clear_value *; split)))

theorem State_setElem_kept {a0 a1 a2 a3 a4} (h : Kept k a0) : Kept k (State.setElem a0 a1 a2 a3 a4) := by
  unfold State.setElem
  repeat' (first
    | with_reducible assumption
    | with_reducible apply Kept.ite
    | with_reducible apply State_setAttr_kept
    | ((try lift_lets -underBinder); intro x)
    | with_reducible apply Kept.ite_snd
    | with_reducible apply Kept.ite_thd
    | with_reducible refine Kept.foldl ?_ (fun _ _ _ => ?_)
    | with_reducible refine Kept.foldl_snd ?_ (fun _ _ _ => ?_)
    | with_reducible refine Kept.foldl_thd ?_ (fun _ _ _ => ?_)
    | fail_if_no_progress with_reducible refine Kept.mk' ?_ rfl rfl rfl rfl rfl rfl rfl rfl rfl
    | with_reducible refine Kept.snd ‹_ = (_, _)› ?_
    | with_reducible refine Kept.thd ‹_ = (_, _, _)› ?_
    | fail_if_no_progress dsimp -zeta only
    | intro _
    | split
    | ((clear_value *; split)))

theorem State_create_kept {s : State} {c i} (h : Kept k s) : Kept k (s.create c i) :=
  ⟨h.fixed, ⟨h.safe.enables, h.safe.claim, h.safe.held⟩, ⟨h.canonical.vals, h.canonical.vers, Assoc.sorted_put h.canonical.live⟩⟩

theorem State_destroy_kept {s : State} {c i} (h : Kept k s) : Kept k (s.destroy c i) :=
  ⟨h.fixed, ⟨h.safe.enables, h.safe.claim, h.safe.held⟩, ⟨h.canonical.vals.filter _, Assoc.sorted_set h.canonical.vers, Assoc.sorted_del h.canonical.live⟩⟩

theorem State_raise_kept {a0 a1 a2 a3} (h : Kept k a0) : Kept k (State.raise a0 a1 a2 a3) := by
  unfold State.raise
  repeat' (first
    | with_reducible assumption
    | with_reducible apply Kept.ite
    | ((try lift_lets -underBinder); intro x)
    | with_reducible apply Kept.ite_snd
    | with_reducible apply Kept.ite_thd
    | with_reducible refine Kept.foldl ?_ (fun _ _ _ => ?_)
    | with_reducible refine Kept.foldl_snd ?_ (fun _ _ _ => ?_)
    | with_reducible refine Kept.foldl_thd ?_ (fun _ _ _ => ?_)
    | fail_if_no_progress with_reducible refine Kept.mk' ?_ rfl rfl rfl rfl rfl rfl rfl rfl rfl
    | with_reducible refine Kept.snd ‹_ = (_, _)› ?_
    | with_reducible refine Kept.thd ‹_ = (_, _, _)› ?_
    | fail_if_no_progress dsimp -zeta only
    | intro _
    | split
    | ((clear_value *; split)))

theorem State_raiseSafe_kept {a0 a1 a2 a3} (h : Kept k a0) : Kept k (State.raiseSafe a0 a1 a2 a3) := by
  unfold State.raiseSafe
  repeat' (first
    | with_reducible assumption
    | with_reducible apply Kept.ite
    | ((try lift_lets -underBinder); intro x)
    | with_reducible apply Kept.ite_snd
    | with_reducible apply Kept.ite_thd
    | with_reducible refine Kept.foldl ?_ (fun _ _ _ => ?_)
    | with_reducible refine Kept.foldl_snd ?_ (fun _ _ _ => ?_)
    | with_reducible refine Kept.foldl_thd ?_ (fun _ _ _ => ?_)
    | fail_if_no_progress with_reducible refine Kept.mk' ?_ rfl rfl rfl rfl rfl rfl rfl rfl rfl
    | with_reducible refine Kept.snd ‹_ = (_, _)› ?_
    | with_reducible refine Kept.thd ‹_ = (_, _, _)› ?_
    | fail_if_no_progress dsimp -zeta only
    | intro _
    | split
    | ((clear_value *; split)))

theorem State_shared_kept {s : State} {a1 a2} (h : Kept k s) : Kept k (s.shared a1 a2) := by
  unfold State.shared
  dsimp only
  refine Kept.mk' h rfl rfl rfl rfl rfl rfl rfl rfl ?_
  repeat' split
  all_goals rfl

theorem State_post_kept {a0 a1} (h : Kept k a0) : Kept k (State.post a0 a1) := by
  unfold State.post
  repeat' (first
    | with_reducible assumption
    | with_reducible apply Kept.ite
    | with_reducible apply State_shared_kept
    | ((try lift_lets -underBinder); intro x)
    | with_reducible apply Kept.ite_snd
    | with_reducible apply Kept.ite_thd
    | with_reducible refine Kept.foldl ?_ (fun _ _ _ => ?_)
    | with_reducible refine Kept.foldl_snd ?_ (fun _ _ _ => ?_)
    | with_reducible refine Kept.foldl_thd ?_ (fun _ _ _ => ?_)
    | fail_if_no_progress with_reducible refine Kept.mk' ?_ rfl rfl rfl rfl rfl rfl rfl rfl rfl
    | with_reducible refine Kept.snd ‹_ = (_, _)› ?_
    | with_reducible refine Kept.thd ‹_ = (_, _, _)› ?_
    | fail_if_no_progress dsimp -zeta only
    | intro _
    | split
    | ((clear_value *; split)))

theorem State_setPair_kept {a0 a1 a2} (h : Kept k a0) : Kept k (State.setPair a0 a1 a2) := by
  unfold State.setPair
  repeat' (first
    | with_reducible assumption
    | with_reducible apply Kept.ite
    | ((try lift_lets -underBinder); intro x)
    | with_reducible apply Kept.ite_snd
    | with_reducible apply Kept.ite_thd
    | with_reducible refine Kept.foldl ?_ (fun _ _ _ => ?_)
    | with_reducible refine Kept.foldl_snd ?_ (fun _ _ _ => ?_)
    | with_reducible refine Kept.foldl_thd ?_ (fun _ _ _ => ?_)
    | fail_if_no_progress with_reducible refine Kept.mk' ?_ rfl rfl rfl rfl rfl rfl rfl rfl rfl
    | with_reducible refine Kept.snd ‹_ = (_, _)› ?_
    | with_reducible refine Kept.thd ‹_ = (_, _, _)› ?_
    | fail_if_no_progress dsimp -zeta only
    | intro _
    | split
    | ((clear_value *; split)))

theorem State_modSession_kept {a0 a1 a2} (h : Kept k a0) : Kept k (State.modSession a0 a1 a2) := by
  unfold State.modSession
  repeat' (first
    | with_reducible assumption
    | with_reducible apply Kept.ite
    | ((try lift_lets -underBinder); intro x)
    | with_reducible apply Kept.ite_snd
    | with_reducible apply Kept.ite_thd
    | with_reducible refine Kept.foldl ?_ (fun _ _ _ => ?_)
    | with_reducible refine Kept.foldl_snd ?_ (fun _ _ _ => ?_)
    | with_reducible refine Kept.foldl_thd ?_ (fun _ _ _ => ?_)
    | fail_if_no_progress with_reducible refine Kept.mk' ?_ rfl rfl rfl rfl rfl rfl rfl rfl rfl
    | with_reducible refine Kept.snd ‹_ = (_, _)› ?_
    | with_reducible refine Kept.thd ‹_ = (_, _, _)› ?_
    | fail_if_no_progress dsimp -zeta only
    | intro _
    | split
    | ((clear_value *; split)))

end Sys2Proof.Laws
end

