-- ==== Sys2Proof/Laws/Kept/Provision.lean ====
section
/-! SUPPORT. The operations of Machine/Provision.lean keep what Laws/Kept.lean names. -/

set_option linter.unusedTactic false
set_option linter.unreachableTactic false

namespace Sys2Proof.Laws

open Sys2Proof.Machine

variable {k : (OrderCode × Nat × Nat) × List Instr}

theorem State_refreshProvision_kept {a0} (h : Kept k a0) : Kept k (State.refreshProvision a0) := by
  unfold State.refreshProvision
  repeat' (first
    | with_reducible assumption
    | with_reducible apply Kept.ite
    | with_reducible apply State_setNat_kept
    | ((try lift_lets -underBinder); intro x)
    | with_reducible apply Kept.ite_snd
    | with_reducible apply Kept.ite_thd
    | with_reducible refine Kept.foldl ?_ (fun _ _ _ => ?_)
    | with_reducible refine Kept.foldl_snd ?_ (fun _ _ _ => ?_)
    | with_reducible refine Kept.foldl_thd ?_ (fun _ _ _ => ?_)
    | fail_if_no_progress with_reducible refine Kept.mk' ?_ rfl rfl rfl rfl rfl rfl rfl rfl rfl
    | with_reducible refine Kept.snd ‹_ = (_, _)› ?_
    | with_reducible refine Kept.thd ‹_ = (_, _, _)› ?_
    | fail_if_no_progress dsimp -zeta only
    | intro _
    | split
    | ((clear_value *; split)))

end Sys2Proof.Laws
end

