-- ==== Sys2Proof/Laws/Kept/Mailbox.lean ====
section
/-! SUPPORT. The operations of Machine/Mailbox.lean keep what Laws/Kept.lean names. -/

set_option linter.unusedTactic false
set_option linter.unreachableTactic false

namespace Sys2Proof.Laws

open Sys2Proof.Machine

variable {k : (OrderCode × Nat × Nat) × List Instr}

theorem State_writeOut_kept {a0 a1 a2} (h : Kept k a0) : Kept k (State.writeOut a0 a1 a2) := by
  unfold State.writeOut
  repeat' (first
    | with_reducible assumption
    | with_reducible apply Kept.ite
    | with_reducible apply State_setPair_kept
    | ((try lift_lets -underBinder); intro x)
    | with_reducible apply Kept.ite_snd
    | with_reducible apply Kept.ite_thd
    | with_reducible refine Kept.foldl ?_ (fun _ _ _ => ?_)
    | with_reducible refine Kept.foldl_snd ?_ (fun _ _ _ => ?_)
    | with_reducible refine Kept.foldl_thd ?_ (fun _ _ _ => ?_)
    | fail_if_no_progress with_reducible refine Kept.mk' ?_ rfl rfl rfl rfl rfl rfl rfl rfl rfl
    | with_reducible refine Kept.snd ‹_ = (_, _)› ?_
    | with_reducible refine Kept.thd ‹_ = (_, _, _)› ?_
    | fail_if_no_progress dsimp -zeta only
    | intro _
    | split
    | ((clear_value *; split)))

theorem State_deliver_kept {a0 a1 a2} (h : Kept k a0) : Kept k (State.deliver a0 a1 a2) := by
  unfold State.deliver
  repeat' (first
    | with_reducible assumption
    | with_reducible apply Kept.ite
    | with_reducible apply State_setPair_kept
    | with_reducible apply State_writeOut_kept
    | ((try lift_lets -underBinder); intro x)
    | with_reducible apply Kept.ite_snd
    | with_reducible apply Kept.ite_thd
    | with_reducible refine Kept.foldl ?_ (fun _ _ _ => ?_)
    | with_reducible refine Kept.foldl_snd ?_ (fun _ _ _ => ?_)
    | with_reducible refine Kept.foldl_thd ?_ (fun _ _ _ => ?_)
    | fail_if_no_progress with_reducible refine Kept.mk' ?_ rfl rfl rfl rfl rfl rfl rfl rfl rfl
    | with_reducible refine Kept.snd ‹_ = (_, _)› ?_
    | with_reducible refine Kept.thd ‹_ = (_, _, _)› ?_
    | fail_if_no_progress dsimp -zeta only
    | intro _
    | split
    | ((clear_value *; split)))

theorem State_answer_kept {a0 a1 a2} (h : Kept k a0) : Kept k (State.answer a0 a1 a2) := by
  unfold State.answer
  repeat' (first
    | with_reducible assumption
    | with_reducible apply Kept.ite
    | with_reducible apply State_deliver_kept
    | with_reducible apply State_setPair_kept
    | ((try lift_lets -underBinder); intro x)
    | with_reducible apply Kept.ite_snd
    | with_reducible apply Kept.ite_thd
    | with_reducible refine Kept.foldl ?_ (fun _ _ _ => ?_)
    | with_reducible refine Kept.foldl_snd ?_ (fun _ _ _ => ?_)
    | with_reducible refine Kept.foldl_thd ?_ (fun _ _ _ => ?_)
    | fail_if_no_progress with_reducible refine Kept.mk' ?_ rfl rfl rfl rfl rfl rfl rfl rfl rfl
    | with_reducible refine Kept.snd ‹_ = (_, _)› ?_
    | with_reducible refine Kept.thd ‹_ = (_, _, _)› ?_
    | fail_if_no_progress dsimp -zeta only
    | intro _
    | split
    | ((clear_value *; split)))

theorem State_mark_kept {a0 a1 a2 a3} (h : Kept k a0) : Kept k (State.mark a0 a1 a2 a3) := by
  unfold State.mark
  repeat' (first
    | with_reducible assumption
    | with_reducible apply Kept.ite
    | with_reducible apply State_modSession_kept
    | ((try lift_lets -underBinder); intro x)
    | with_reducible apply Kept.ite_snd
    | with_reducible apply Kept.ite_thd
    | with_reducible refine Kept.foldl ?_ (fun _ _ _ => ?_)
    | with_reducible refine Kept.foldl_snd ?_ (fun _ _ _ => ?_)
    | with_reducible refine Kept.foldl_thd ?_ (fun _ _ _ => ?_)
    | fail_if_no_progress with_reducible refine Kept.mk' ?_ rfl rfl rfl rfl rfl rfl rfl rfl rfl
    | with_reducible refine Kept.snd ‹_ = (_, _)› ?_
    | with_reducible refine Kept.thd ‹_ = (_, _, _)› ?_
    | fail_if_no_progress dsimp -zeta only
    | intro _
    | split
    | ((clear_value *; split)))

theorem State_answerDuplicate_kept {a0 a1 a2} (h : Kept k a0) : Kept k (State.answerDuplicate a0 a1 a2) := by
  unfold State.answerDuplicate
  repeat' (first
    | with_reducible assumption
    | with_reducible apply Kept.ite
    | with_reducible apply State_answer_kept
    | ((try lift_lets -underBinder); intro x)
    | with_reducible apply Kept.ite_snd
    | with_reducible apply Kept.ite_thd
    | with_reducible refine Kept.foldl ?_ (fun _ _ _ => ?_)
    | with_reducible refine Kept.foldl_snd ?_ (fun _ _ _ => ?_)
    | with_reducible refine Kept.foldl_thd ?_ (fun _ _ _ => ?_)
    | fail_if_no_progress with_reducible refine Kept.mk' ?_ rfl rfl rfl rfl rfl rfl rfl rfl rfl
    | with_reducible refine Kept.snd ‹_ = (_, _)› ?_
    | with_reducible refine Kept.thd ‹_ = (_, _, _)› ?_
    | fail_if_no_progress dsimp -zeta only
    | intro _
    | split
    | ((clear_value *; split)))

theorem State_respond_kept {a0 a1 a2} (h : Kept k a0) : Kept k (State.respond a0 a1 a2) := by
  unfold State.respond
  repeat' (first
    | with_reducible assumption
    | with_reducible apply Kept.ite
    | with_reducible apply State_answer_kept
    | with_reducible apply State_mark_kept
    | with_reducible apply State_answerDuplicate_kept
    | ((try lift_lets -underBinder); intro x)
    | with_reducible apply Kept.ite_snd
    | with_reducible apply Kept.ite_thd
    | with_reducible refine Kept.foldl ?_ (fun _ _ _ => ?_)
    | with_reducible refine Kept.foldl_snd ?_ (fun _ _ _ => ?_)
    | with_reducible refine Kept.foldl_thd ?_ (fun _ _ _ => ?_)
    | fail_if_no_progress with_reducible refine Kept.mk' ?_ rfl rfl rfl rfl rfl rfl rfl rfl rfl
    | with_reducible refine Kept.snd ‹_ = (_, _)› ?_
    | with_reducible refine Kept.thd ‹_ = (_, _, _)› ?_
    | fail_if_no_progress dsimp -zeta only
    | intro _
    | split
    | ((clear_value *; split)))

theorem State_dropDistant_kept {a0} (h : Kept k a0) : Kept k (State.dropDistant a0) := by
  unfold State.dropDistant
  repeat' (first
    | with_reducible assumption
    | with_reducible apply Kept.ite
    | with_reducible apply State_complete_kept
    | ((try lift_lets -underBinder); intro x)
    | with_reducible apply Kept.ite_snd
    | with_reducible apply Kept.ite_thd
    | with_reducible refine Kept.foldl ?_ (fun _ _ _ => ?_)
    | with_reducible refine Kept.foldl_snd ?_ (fun _ _ _ => ?_)
    | with_reducible refine Kept.foldl_thd ?_ (fun _ _ _ => ?_)
    | fail_if_no_progress with_reducible refine Kept.mk' ?_ rfl rfl rfl rfl rfl rfl rfl rfl rfl
    | with_reducible refine Kept.snd ‹_ = (_, _)› ?_
    | with_reducible refine Kept.thd ‹_ = (_, _, _)› ?_
    | fail_if_no_progress dsimp -zeta only
    | intro _
    | split
    | ((clear_value *; split)))

theorem State_take_kept {a0 a1} (h : Kept k a0) : Kept k (State.take a0 a1) := by
  unfold State.take
  repeat' (first
    | with_reducible assumption
    | with_reducible apply Kept.ite
    | ((try lift_lets -underBinder); intro x)
    | with_reducible apply Kept.ite_snd
    | with_reducible apply Kept.ite_thd
    | with_reducible refine Kept.foldl ?_ (fun _ _ _ => ?_)
    | with_reducible refine Kept.foldl_snd ?_ (fun _ _ _ => ?_)
    | with_reducible refine Kept.foldl_thd ?_ (fun _ _ _ => ?_)
    | fail_if_no_progress with_reducible refine Kept.mk' ?_ rfl rfl rfl rfl rfl rfl rfl rfl rfl
    | with_reducible refine Kept.snd ‹_ = (_, _)› ?_
    | with_reducible refine Kept.thd ‹_ = (_, _, _)› ?_
    | fail_if_no_progress dsimp -zeta only
    | intro _
    | split
    | ((clear_value *; split)))

theorem State_intake_kept {a0 a1 a2 a3 a4 a5 a6} (h : Kept k a0) : Kept k (State.intake a0 a1 a2 a3 a4 a5 a6) := by
  unfold State.intake
  repeat' (first
    | with_reducible assumption
    | with_reducible apply Kept.ite
    | with_reducible apply State_answer_kept
    | with_reducible apply State_take_kept
    | with_reducible apply State_answerDuplicate_kept
    | with_reducible apply State_modSession_kept
    | with_reducible apply State_respond_kept
    | ((try lift_lets -underBinder); intro x)
    | with_reducible apply Kept.ite_snd
    | with_reducible apply Kept.ite_thd
    | with_reducible refine Kept.foldl ?_ (fun _ _ _ => ?_)
    | with_reducible refine Kept.foldl_snd ?_ (fun _ _ _ => ?_)
    | with_reducible refine Kept.foldl_thd ?_ (fun _ _ _ => ?_)
    | fail_if_no_progress with_reducible refine Kept.mk' ?_ rfl rfl rfl rfl rfl rfl rfl rfl rfl
    | with_reducible refine Kept.snd ‹_ = (_, _)› ?_
    | with_reducible refine Kept.thd ‹_ = (_, _, _)› ?_
    | fail_if_no_progress dsimp -zeta only
    | intro _
    | split
    | ((clear_value *; split)))

theorem State_nextArrival_kept {a0} (h : Kept k a0) : Kept k (State.nextArrival a0) := by
  unfold State.nextArrival
  repeat' (first
    | with_reducible assumption
    | with_reducible apply Kept.ite
    | ((try lift_lets -underBinder); intro x)
    | with_reducible apply Kept.ite_snd
    | with_reducible apply Kept.ite_thd
    | with_reducible refine Kept.foldl ?_ (fun _ _ _ => ?_)
    | with_reducible refine Kept.foldl_snd ?_ (fun _ _ _ => ?_)
    | with_reducible refine Kept.foldl_thd ?_ (fun _ _ _ => ?_)
    | fail_if_no_progress with_reducible refine Kept.mk' ?_ rfl rfl rfl rfl rfl rfl rfl rfl rfl
    | with_reducible refine Kept.snd ‹_ = (_, _)› ?_
    | with_reducible refine Kept.thd ‹_ = (_, _, _)› ?_
    | fail_if_no_progress dsimp -zeta only
    | intro _
    | split
    | ((clear_value *; split)))

theorem execInRing_kept {a0 a1 a2} (h : Kept k a2) : KeptOut k (execInRing a0 a1 a2) := by
  unfold execInRing
  repeat' (first
    | with_reducible assumption
    | with_reducible apply KeptOut.next
    | with_reducible apply KeptOut.ite
    | with_reducible apply Kept.ite
    | with_reducible apply State_setPair_kept
    | with_reducible apply State_dropDistant_kept
    | with_reducible apply State_nextArrival_kept
    | with_reducible apply State_intake_kept
    | ((try lift_lets -underBinder); intro x)
    | with_reducible apply Kept.ite_snd
    | with_reducible apply Kept.ite_thd
    | with_reducible refine Kept.foldl ?_ (fun _ _ _ => ?_)
    | with_reducible refine Kept.foldl_snd ?_ (fun _ _ _ => ?_)
    | with_reducible refine Kept.foldl_thd ?_ (fun _ _ _ => ?_)
    | fail_if_no_progress with_reducible refine Kept.mk' ?_ rfl rfl rfl rfl rfl rfl rfl rfl rfl
    | with_reducible refine Kept.snd ‹_ = (_, _)› ?_
    | with_reducible refine Kept.thd ‹_ = (_, _, _)› ?_
    | fail_if_no_progress dsimp -zeta only
    | intro _
    | split
    | ((clear_value *; split)))

theorem execResponseWritten_kept {a0 a1} (h : Kept k a1) : KeptOut k (execResponseWritten a0 a1) := by
  unfold execResponseWritten
  repeat' (first
    | with_reducible assumption
    | with_reducible apply KeptOut.next
    | with_reducible apply KeptOut.ite
    | with_reducible apply Kept.ite
    | with_reducible apply State_writeOut_kept
    | ((try lift_lets -underBinder); intro x)
    | with_reducible apply Kept.ite_snd
    | with_reducible apply Kept.ite_thd
    | with_reducible refine Kept.foldl ?_ (fun _ _ _ => ?_)
    | with_reducible refine Kept.foldl_snd ?_ (fun _ _ _ => ?_)
    | with_reducible refine Kept.foldl_thd ?_ (fun _ _ _ => ?_)
    | fail_if_no_progress with_reducible refine Kept.mk' ?_ rfl rfl rfl rfl rfl rfl rfl rfl rfl
    | with_reducible refine Kept.snd ‹_ = (_, _)› ?_
    | with_reducible refine Kept.thd ‹_ = (_, _, _)› ?_
    | fail_if_no_progress dsimp -zeta only
    | intro _
    | split
    | ((clear_value *; split)))

theorem execOutDone_kept {a0 a1} (h : Kept k a1) : KeptOut k (execOutDone a0 a1) := by
  unfold execOutDone
  repeat' (first
    | with_reducible assumption
    | with_reducible apply KeptOut.next
    | with_reducible apply KeptOut.ite
    | with_reducible apply Kept.ite
    | with_reducible apply State_setPair_kept
    | ((try lift_lets -underBinder); intro x)
    | with_reducible apply Kept.ite_snd
    | with_reducible apply Kept.ite_thd
    | with_reducible refine Kept.foldl ?_ (fun _ _ _ => ?_)
    | with_reducible refine Kept.foldl_snd ?_ (fun _ _ _ => ?_)
    | with_reducible refine Kept.foldl_thd ?_ (fun _ _ _ => ?_)
    | fail_if_no_progress with_reducible refine Kept.mk' ?_ rfl rfl rfl rfl rfl rfl rfl rfl rfl
    | with_reducible refine Kept.snd ‹_ = (_, _)› ?_
    | with_reducible refine Kept.thd ‹_ = (_, _, _)› ?_
    | fail_if_no_progress dsimp -zeta only
    | intro _
    | split
    | ((clear_value *; split)))

theorem execRemoteFrame_kept {a0 a1 a2 a3 a4 a5} (h : Kept k a5) : KeptOut k (execRemoteFrame a0 a1 a2 a3 a4 a5) := by
  unfold execRemoteFrame
  repeat' (first
    | with_reducible assumption
    | with_reducible apply KeptOut.next
    | with_reducible apply KeptOut.ite
    | with_reducible apply Kept.ite
    | with_reducible apply State_dropDistant_kept
    | with_reducible apply State_nextArrival_kept
    | with_reducible apply State_intake_kept
    | ((try lift_lets -underBinder); intro x)
    | with_reducible apply Kept.ite_snd
    | with_reducible apply Kept.ite_thd
    | with_reducible refine Kept.foldl ?_ (fun _ _ _ => ?_)
    | with_reducible refine Kept.foldl_snd ?_ (fun _ _ _ => ?_)
    | with_reducible refine Kept.foldl_thd ?_ (fun _ _ _ => ?_)
    | fail_if_no_progress with_reducible refine Kept.mk' ?_ rfl rfl rfl rfl rfl rfl rfl rfl rfl
    | with_reducible refine Kept.snd ‹_ = (_, _)› ?_
    | with_reducible refine Kept.thd ‹_ = (_, _, _)› ?_
    | fail_if_no_progress dsimp -zeta only
    | intro _
    | split
    | ((clear_value *; split)))

theorem State_takeHeld_kept {a0} (h : Kept k a0) : Kept k (State.takeHeld a0) := by
  unfold State.takeHeld
  repeat' (first
    | with_reducible assumption
    | with_reducible apply Kept.ite
    | with_reducible apply State_intake_kept
    | with_reducible apply State_setPair_kept
    | ((try lift_lets -underBinder); intro x)
    | with_reducible apply Kept.ite_snd
    | with_reducible apply Kept.ite_thd
    | with_reducible refine Kept.foldl ?_ (fun _ _ _ => ?_)
    | with_reducible refine Kept.foldl_snd ?_ (fun _ _ _ => ?_)
    | with_reducible refine Kept.foldl_thd ?_ (fun _ _ _ => ?_)
    | fail_if_no_progress with_reducible refine Kept.mk' ?_ rfl rfl rfl rfl rfl rfl rfl rfl rfl
    | with_reducible refine Kept.snd ‹_ = (_, _)› ?_
    | with_reducible refine Kept.thd ‹_ = (_, _, _)› ?_
    | fail_if_no_progress dsimp -zeta only
    | intro _
    | split
    | ((clear_value *; split)))

theorem State_endSession_kept {a0 a1} (h : Kept k a0) : Kept k (State.endSession a0 a1) := by
  unfold State.endSession
  repeat' (first
    | with_reducible assumption
    | with_reducible apply Kept.ite
    | ((try lift_lets -underBinder); intro x)
    | with_reducible apply Kept.ite_snd
    | with_reducible apply Kept.ite_thd
    | with_reducible refine Kept.foldl ?_ (fun _ _ _ => ?_)
    | with_reducible refine Kept.foldl_snd ?_ (fun _ _ _ => ?_)
    | with_reducible refine Kept.foldl_thd ?_ (fun _ _ _ => ?_)
    | fail_if_no_progress with_reducible refine Kept.mk' ?_ rfl rfl rfl rfl rfl rfl rfl rfl rfl
    | with_reducible refine Kept.snd ‹_ = (_, _)› ?_
    | with_reducible refine Kept.thd ‹_ = (_, _, _)› ?_
    | fail_if_no_progress dsimp -zeta only
    | intro _
    | split
    | ((clear_value *; split)))

theorem State_endAllSessions_kept {a0} (h : Kept k a0) : Kept k (State.endAllSessions a0) := by
  unfold State.endAllSessions
  repeat' (first
    | with_reducible assumption
    | with_reducible apply Kept.ite
    | ((try lift_lets -underBinder); intro x)
    | with_reducible apply Kept.ite_snd
    | with_reducible apply Kept.ite_thd
    | with_reducible refine Kept.foldl ?_ (fun _ _ _ => ?_)
    | with_reducible refine Kept.foldl_snd ?_ (fun _ _ _ => ?_)
    | with_reducible refine Kept.foldl_thd ?_ (fun _ _ _ => ?_)
    | fail_if_no_progress with_reducible refine Kept.mk' ?_ rfl rfl rfl rfl rfl rfl rfl rfl rfl
    | with_reducible refine Kept.snd ‹_ = (_, _)› ?_
    | with_reducible refine Kept.thd ‹_ = (_, _, _)› ?_
    | fail_if_no_progress dsimp -zeta only
    | intro _
    | split
    | ((clear_value *; split)))

theorem execSessionIdleTimeout_kept {a0 a1} (h : Kept k a1) : KeptOut k (execSessionIdleTimeout a0 a1) := by
  unfold execSessionIdleTimeout
  repeat' (first
    | with_reducible assumption
    | with_reducible apply KeptOut.next
    | with_reducible apply KeptOut.ite
    | with_reducible apply Kept.ite
    | with_reducible apply State_endSession_kept
    | ((try lift_lets -underBinder); intro x)
    | with_reducible apply Kept.ite_snd
    | with_reducible apply Kept.ite_thd
    | with_reducible refine Kept.foldl ?_ (fun _ _ _ => ?_)
    | with_reducible refine Kept.foldl_snd ?_ (fun _ _ _ => ?_)
    | with_reducible refine Kept.foldl_thd ?_ (fun _ _ _ => ?_)
    | fail_if_no_progress with_reducible refine Kept.mk' ?_ rfl rfl rfl rfl rfl rfl rfl rfl rfl
    | with_reducible refine Kept.snd ‹_ = (_, _)› ?_
    | with_reducible refine Kept.thd ‹_ = (_, _, _)› ?_
    | fail_if_no_progress dsimp -zeta only
    | intro _
    | split
    | ((clear_value *; split)))

theorem State_pop_kept {a0} (h : Kept k a0) : Kept k (State.pop a0) := by
  unfold State.pop
  repeat' (first
    | with_reducible assumption
    | with_reducible apply Kept.ite
    | ((try lift_lets -underBinder); intro x)
    | with_reducible apply Kept.ite_snd
    | with_reducible apply Kept.ite_thd
    | with_reducible refine Kept.foldl ?_ (fun _ _ _ => ?_)
    | with_reducible refine Kept.foldl_snd ?_ (fun _ _ _ => ?_)
    | with_reducible refine Kept.foldl_thd ?_ (fun _ _ _ => ?_)
    | fail_if_no_progress with_reducible refine Kept.mk' ?_ rfl rfl rfl rfl rfl rfl rfl rfl rfl
    | with_reducible refine Kept.snd ‹_ = (_, _)› ?_
    | with_reducible refine Kept.thd ‹_ = (_, _, _)› ?_
    | fail_if_no_progress dsimp -zeta only
    | intro _
    | split
    | ((clear_value *; split)))

theorem State_finish_kept {a0 a1 a2} (h : Kept k a0) : Kept k (State.finish a0 a1 a2) := by
  unfold State.finish
  repeat' (first
    | with_reducible assumption
    | with_reducible apply Kept.ite
    | with_reducible apply State_respond_kept
    | ((try lift_lets -underBinder); intro x)
    | with_reducible apply Kept.ite_snd
    | with_reducible apply Kept.ite_thd
    | with_reducible refine Kept.foldl ?_ (fun _ _ _ => ?_)
    | with_reducible refine Kept.foldl_snd ?_ (fun _ _ _ => ?_)
    | with_reducible refine Kept.foldl_thd ?_ (fun _ _ _ => ?_)
    | fail_if_no_progress with_reducible refine Kept.mk' ?_ rfl rfl rfl rfl rfl rfl rfl rfl rfl
    | with_reducible refine Kept.snd ‹_ = (_, _)› ?_
    | with_reducible refine Kept.thd ‹_ = (_, _, _)› ?_
    | fail_if_no_progress dsimp -zeta only
    | intro _
    | split
    | ((clear_value *; split)))

theorem State_run_kept {a0 a1 a2} (h : Kept k a0) (h2 : ∀ {c s}, Kept k s → Kept k (a2 c s).2) : Kept k (State.run a0 a1 a2) := by
  unfold State.run
  repeat' (first
    | with_reducible assumption
    | with_reducible apply Kept.ite
    | with_reducible apply State_finish_kept
    | with_reducible apply State_pop_kept
    | with_reducible apply h2
    | ((try lift_lets -underBinder); intro x)
    | with_reducible apply Kept.ite_snd
    | with_reducible apply Kept.ite_thd
    | with_reducible refine Kept.foldl ?_ (fun _ _ _ => ?_)
    | with_reducible refine Kept.foldl_snd ?_ (fun _ _ _ => ?_)
    | with_reducible refine Kept.foldl_thd ?_ (fun _ _ _ => ?_)
    | fail_if_no_progress with_reducible refine Kept.mk' ?_ rfl rfl rfl rfl rfl rfl rfl rfl rfl
    | with_reducible refine Kept.snd ‹_ = (_, _)› ?_
    | with_reducible refine Kept.thd ‹_ = (_, _, _)› ?_
    | fail_if_no_progress dsimp -zeta only
    | intro _
    | split
    | ((clear_value *; split)))

theorem runOpcode_kept {a0 a1 a2} (h : Kept k a2) (h1 : ∀ {c s}, Kept k s → Kept k (a1 c s).2) : KeptOut k (runOpcode a0 a1 a2) := by
  unfold runOpcode
  repeat' (first
    | with_reducible assumption
    | with_reducible apply KeptOut.next
    | with_reducible apply KeptOut.ite
    | with_reducible apply Kept.ite
    | with_reducible refine State_run_kept ?_ (fun _ => ?_)
    | with_reducible apply h1
    | ((try lift_lets -underBinder); intro x)
    | with_reducible apply Kept.ite_snd
    | with_reducible apply Kept.ite_thd
    | with_reducible refine Kept.foldl ?_ (fun _ _ _ => ?_)
    | with_reducible refine Kept.foldl_snd ?_ (fun _ _ _ => ?_)
    | with_reducible refine Kept.foldl_thd ?_ (fun _ _ _ => ?_)
    | fail_if_no_progress with_reducible refine Kept.mk' ?_ rfl rfl rfl rfl rfl rfl rfl rfl rfl
    | with_reducible refine Kept.snd ‹_ = (_, _)› ?_
    | with_reducible refine Kept.thd ‹_ = (_, _, _)› ?_
    | fail_if_no_progress dsimp -zeta only
    | intro _
    | split
    | ((clear_value *; split)))

theorem runMethod_kept {a0 a1 a2 a3} (h : Kept k a3) (h2 : ∀ {c s}, Kept k s → Kept k (a2 c s).2) : KeptOut k (runMethod a0 a1 a2 a3) := by
  unfold runMethod
  repeat' (first
    | with_reducible assumption
    | with_reducible apply KeptOut.next
    | with_reducible apply KeptOut.ite
    | with_reducible apply Kept.ite
    | with_reducible refine State_run_kept ?_ (fun _ => ?_)
    | with_reducible apply h2
    | ((try lift_lets -underBinder); intro x)
    | with_reducible apply Kept.ite_snd
    | with_reducible apply Kept.ite_thd
    | with_reducible refine Kept.foldl ?_ (fun _ _ _ => ?_)
    | with_reducible refine Kept.foldl_snd ?_ (fun _ _ _ => ?_)
    | with_reducible refine Kept.foldl_thd ?_ (fun _ _ _ => ?_)
    | fail_if_no_progress with_reducible refine Kept.mk' ?_ rfl rfl rfl rfl rfl rfl rfl rfl rfl
    | with_reducible refine Kept.snd ‹_ = (_, _)› ?_
    | with_reducible refine Kept.thd ‹_ = (_, _, _)› ?_
    | fail_if_no_progress dsimp -zeta only
    | intro _
    | split
    | ((clear_value *; split)))

theorem execCommandComplete_kept {a0 a1 a2} (h : Kept k a2) : KeptOut k (execCommandComplete a0 a1 a2) := by
  unfold execCommandComplete
  repeat' (first
    | with_reducible assumption
    | with_reducible apply KeptOut.next
    | with_reducible apply KeptOut.ite
    | with_reducible apply Kept.ite
    | ((try lift_lets -underBinder); intro x)
    | with_reducible apply Kept.ite_snd
    | with_reducible apply Kept.ite_thd
    | with_reducible refine Kept.foldl ?_ (fun _ _ _ => ?_)
    | with_reducible refine Kept.foldl_snd ?_ (fun _ _ _ => ?_)
    | with_reducible refine Kept.foldl_thd ?_ (fun _ _ _ => ?_)
    | fail_if_no_progress with_reducible refine Kept.mk' ?_ rfl rfl rfl rfl rfl rfl rfl rfl rfl
    | with_reducible refine Kept.snd ‹_ = (_, _)› ?_
    | with_reducible refine Kept.thd ‹_ = (_, _, _)› ?_
    | fail_if_no_progress dsimp -zeta only
    | intro _
    | split
    | ((clear_value *; split)))

theorem State_failProof_kept {a0 a1} (h : Kept k a0) : Kept k (State.failProof a0 a1) := by
  unfold State.failProof
  repeat' (first
    | with_reducible assumption
    | with_reducible apply Kept.ite
    | with_reducible apply State_setNat_kept
    | ((try lift_lets -underBinder); intro x)
    | with_reducible apply Kept.ite_snd
    | with_reducible apply Kept.ite_thd
    | with_reducible refine Kept.foldl ?_ (fun _ _ _ => ?_)
    | with_reducible refine Kept.foldl_snd ?_ (fun _ _ _ => ?_)
    | with_reducible refine Kept.foldl_thd ?_ (fun _ _ _ => ?_)
    | fail_if_no_progress with_reducible refine Kept.mk' ?_ rfl rfl rfl rfl rfl rfl rfl rfl rfl
    | with_reducible refine Kept.snd ‹_ = (_, _)› ?_
    | with_reducible refine Kept.thd ‹_ = (_, _, _)› ?_
    | fail_if_no_progress dsimp -zeta only
    | intro _
    | split
    | ((clear_value *; split)))

theorem execCredentialLockEnd_kept {a0 a1} (h : Kept k a1) : KeptOut k (execCredentialLockEnd a0 a1) := by
  unfold execCredentialLockEnd
  repeat' (first
    | with_reducible assumption
    | with_reducible apply KeptOut.next
    | with_reducible apply KeptOut.ite
    | with_reducible apply Kept.ite
    | with_reducible apply State_setNat_kept
    | ((try lift_lets -underBinder); intro x)
    | with_reducible apply Kept.ite_snd
    | with_reducible apply Kept.ite_thd
    | with_reducible refine Kept.foldl ?_ (fun _ _ _ => ?_)
    | with_reducible refine Kept.foldl_snd ?_ (fun _ _ _ => ?_)
    | with_reducible refine Kept.foldl_thd ?_ (fun _ _ _ => ?_)
    | fail_if_no_progress with_reducible refine Kept.mk' ?_ rfl rfl rfl rfl rfl rfl rfl rfl rfl
    | with_reducible refine Kept.snd ‹_ = (_, _)› ?_
    | with_reducible refine Kept.thd ‹_ = (_, _, _)› ?_
    | fail_if_no_progress dsimp -zeta only
    | intro _
    | split
    | ((clear_value *; split)))

theorem doChallenge_kept {c : Cmd} {s : State} (h : Kept k s) : Kept k (doChallenge c s).2 := by
  unfold doChallenge
  repeat' (first
    | with_reducible assumption
    | with_reducible apply Kept.ite
    | with_reducible apply State_drawn_kept
    | ((try lift_lets -underBinder); intro x)
    | with_reducible apply Kept.ite_snd
    | with_reducible apply Kept.ite_thd
    | with_reducible refine Kept.foldl ?_ (fun _ _ _ => ?_)
    | with_reducible refine Kept.foldl_snd ?_ (fun _ _ _ => ?_)
    | with_reducible refine Kept.foldl_thd ?_ (fun _ _ _ => ?_)
    | fail_if_no_progress with_reducible refine Kept.mk' ?_ rfl rfl rfl rfl rfl rfl rfl rfl rfl
    | with_reducible refine Kept.snd ‹_ = (_, _)› ?_
    | with_reducible refine Kept.thd ‹_ = (_, _, _)› ?_
    | fail_if_no_progress dsimp -zeta only
    | intro _
    | split
    | ((clear_value *; split)))

theorem State_addCredential_kept {a0 a1 a2} (h : Kept k a0) : Kept k (State.addCredential a0 a1 a2).2 := by
  unfold State.addCredential
  repeat' (first
    | with_reducible assumption
    | with_reducible apply Kept.ite
    | with_reducible apply State_create_kept
    | with_reducible apply State_setNat_kept
    | with_reducible apply State_setAttr_kept
    | with_reducible apply State_refreshProvision_kept
    | ((try lift_lets -underBinder); intro x)
    | with_reducible apply Kept.ite_snd
    | with_reducible apply Kept.ite_thd
    | with_reducible refine Kept.foldl ?_ (fun _ _ _ => ?_)
    | with_reducible refine Kept.foldl_snd ?_ (fun _ _ _ => ?_)
    | with_reducible refine Kept.foldl_thd ?_ (fun _ _ _ => ?_)
    | fail_if_no_progress with_reducible refine Kept.mk' ?_ rfl rfl rfl rfl rfl rfl rfl rfl rfl
    | with_reducible refine Kept.snd ‹_ = (_, _)› ?_
    | with_reducible refine Kept.thd ‹_ = (_, _, _)› ?_
    | fail_if_no_progress dsimp -zeta only
    | intro _
    | split
    | ((clear_value *; split)))

theorem State_openSlot_kept {a0 a1 a2 a3 a4} (h : Kept k a0) : Kept k (State.openSlot a0 a1 a2 a3 a4).2 := by
  unfold State.openSlot
  repeat' (first
    | with_reducible assumption
    | with_reducible apply Kept.ite
    | ((try lift_lets -underBinder); intro x)
    | with_reducible apply Kept.ite_snd
    | with_reducible apply Kept.ite_thd
    | with_reducible refine Kept.foldl ?_ (fun _ _ _ => ?_)
    | with_reducible refine Kept.foldl_snd ?_ (fun _ _ _ => ?_)
    | with_reducible refine Kept.foldl_thd ?_ (fun _ _ _ => ?_)
    | fail_if_no_progress with_reducible refine Kept.mk' ?_ rfl rfl rfl rfl rfl rfl rfl rfl rfl
    | with_reducible refine Kept.snd ‹_ = (_, _)› ?_
    | with_reducible refine Kept.thd ‹_ = (_, _, _)› ?_
    | fail_if_no_progress dsimp -zeta only
    | intro _
    | split
    | ((clear_value *; split)))

theorem doOpen_kept {c : Cmd} {s : State} (h : Kept k s) : Kept k (doOpen c s).2 := by
  unfold doOpen
  repeat' (first
    | with_reducible assumption
    | with_reducible apply Kept.ite
    | with_reducible apply State_failProof_kept
    | with_reducible apply State_addCredential_kept
    | with_reducible apply State_openSlot_kept
    | ((try lift_lets -underBinder); intro x)
    | with_reducible apply Kept.ite_snd
    | with_reducible apply Kept.ite_thd
    | with_reducible refine Kept.foldl ?_ (fun _ _ _ => ?_)
    | with_reducible refine Kept.foldl_snd ?_ (fun _ _ _ => ?_)
    | with_reducible refine Kept.foldl_thd ?_ (fun _ _ _ => ?_)
    | fail_if_no_progress with_reducible refine Kept.mk' ?_ rfl rfl rfl rfl rfl rfl rfl rfl rfl
    | with_reducible refine Kept.snd ‹_ = (_, _)› ?_
    | with_reducible refine Kept.thd ‹_ = (_, _, _)› ?_
    | fail_if_no_progress dsimp -zeta only
    | intro _
    | split
    | ((clear_value *; split)))

theorem doClose_kept {c : Cmd} {s : State} (h : Kept k s) : Kept k (doClose c s).2 := by
  unfold doClose
  repeat' (first
    | with_reducible assumption
    | with_reducible apply Kept.ite
    | with_reducible apply State_endSession_kept
    | ((try lift_lets -underBinder); intro x)
    | with_reducible apply Kept.ite_snd
    | with_reducible apply Kept.ite_thd
    | with_reducible refine Kept.foldl ?_ (fun _ _ _ => ?_)
    | with_reducible refine Kept.foldl_snd ?_ (fun _ _ _ => ?_)
    | with_reducible refine Kept.foldl_thd ?_ (fun _ _ _ => ?_)
    | fail_if_no_progress with_reducible refine Kept.mk' ?_ rfl rfl rfl rfl rfl rfl rfl rfl rfl
    | with_reducible refine Kept.snd ‹_ = (_, _)› ?_
    | with_reducible refine Kept.thd ‹_ = (_, _, _)› ?_
    | fail_if_no_progress dsimp -zeta only
    | intro _
    | split
    | ((clear_value *; split)))

theorem doBind_kept {c : Cmd} {s : State} (h : Kept k s) : Kept k (doBind c s).2 := by
  unfold doBind
  repeat' (first
    | with_reducible assumption
    | with_reducible apply Kept.ite
    | with_reducible apply State_modSession_kept
    | ((try lift_lets -underBinder); intro x)
    | with_reducible apply Kept.ite_snd
    | with_reducible apply Kept.ite_thd
    | with_reducible refine Kept.foldl ?_ (fun _ _ _ => ?_)
    | with_reducible refine Kept.foldl_snd ?_ (fun _ _ _ => ?_)
    | with_reducible refine Kept.foldl_thd ?_ (fun _ _ _ => ?_)
    | fail_if_no_progress with_reducible refine Kept.mk' ?_ rfl rfl rfl rfl rfl rfl rfl rfl rfl
    | with_reducible refine Kept.snd ‹_ = (_, _)› ?_
    | with_reducible refine Kept.thd ‹_ = (_, _, _)› ?_
    | fail_if_no_progress dsimp -zeta only
    | intro _
    | split
    | ((clear_value *; split)))

theorem doKeepalive_kept {c : Cmd} {s : State} (h : Kept k s) : Kept k (doKeepalive c s).2 := by
  unfold doKeepalive
  repeat' (first
    | with_reducible assumption
    | with_reducible apply Kept.ite
    | with_reducible apply State_modSession_kept
    | ((try lift_lets -underBinder); intro x)
    | with_reducible apply Kept.ite_snd
    | with_reducible apply Kept.ite_thd
    | with_reducible refine Kept.foldl ?_ (fun _ _ _ => ?_)
    | with_reducible refine Kept.foldl_snd ?_ (fun _ _ _ => ?_)
    | with_reducible refine Kept.foldl_thd ?_ (fun _ _ _ => ?_)
    | fail_if_no_progress with_reducible refine Kept.mk' ?_ rfl rfl rfl rfl rfl rfl rfl rfl rfl
    | with_reducible refine Kept.snd ‹_ = (_, _)› ?_
    | with_reducible refine Kept.thd ‹_ = (_, _, _)› ?_
    | fail_if_no_progress dsimp -zeta only
    | intro _
    | split
    | ((clear_value *; split)))

theorem execSessionChallenge_kept {a0} (h : Kept k a0) : KeptOut k (execSessionChallenge a0) := by
  unfold execSessionChallenge
  repeat' (first
    | with_reducible assumption
    | with_reducible apply KeptOut.next
    | with_reducible apply KeptOut.ite
    | with_reducible apply Kept.ite
    | with_reducible refine runOpcode_kept ?_ (fun _ => ?_)
    | with_reducible apply doChallenge_kept
    | ((try lift_lets -underBinder); intro x)
    | with_reducible apply Kept.ite_snd
    | with_reducible apply Kept.ite_thd
    | with_reducible refine Kept.foldl ?_ (fun _ _ _ => ?_)
    | with_reducible refine Kept.foldl_snd ?_ (fun _ _ _ => ?_)
    | with_reducible refine Kept.foldl_thd ?_ (fun _ _ _ => ?_)
    | fail_if_no_progress with_reducible refine Kept.mk' ?_ rfl rfl rfl rfl rfl rfl rfl rfl rfl
    | with_reducible refine Kept.snd ‹_ = (_, _)› ?_
    | with_reducible refine Kept.thd ‹_ = (_, _, _)› ?_
    | fail_if_no_progress dsimp -zeta only
    | intro _
    | split
    | ((clear_value *; split)))

theorem execSessionOpen_kept {a0} (h : Kept k a0) : KeptOut k (execSessionOpen a0) := by
  unfold execSessionOpen
  repeat' (first
    | with_reducible assumption
    | with_reducible apply KeptOut.next
    | with_reducible apply KeptOut.ite
    | with_reducible apply Kept.ite
    | with_reducible refine runOpcode_kept ?_ (fun _ => ?_)
    | with_reducible apply doOpen_kept
    | ((try lift_lets -underBinder); intro x)
    | with_reducible apply Kept.ite_snd
    | with_reducible apply Kept.ite_thd
    | with_reducible refine Kept.foldl ?_ (fun _ _ _ => ?_)
    | with_reducible refine Kept.foldl_snd ?_ (fun _ _ _ => ?_)
    | with_reducible refine Kept.foldl_thd ?_ (fun _ _ _ => ?_)
    | fail_if_no_progress with_reducible refine Kept.mk' ?_ rfl rfl rfl rfl rfl rfl rfl rfl rfl
    | with_reducible refine Kept.snd ‹_ = (_, _)› ?_
    | with_reducible refine Kept.thd ‹_ = (_, _, _)› ?_
    | fail_if_no_progress dsimp -zeta only
    | intro _
    | split
    | ((clear_value *; split)))

theorem execSessionClose_kept {a0} (h : Kept k a0) : KeptOut k (execSessionClose a0) := by
  unfold execSessionClose
  repeat' (first
    | with_reducible assumption
    | with_reducible apply KeptOut.next
    | with_reducible apply KeptOut.ite
    | with_reducible apply Kept.ite
    | with_reducible refine runOpcode_kept ?_ (fun _ => ?_)
    | with_reducible apply doClose_kept
    | ((try lift_lets -underBinder); intro x)
    | with_reducible apply Kept.ite_snd
    | with_reducible apply Kept.ite_thd
    | with_reducible refine Kept.foldl ?_ (fun _ _ _ => ?_)
    | with_reducible refine Kept.foldl_snd ?_ (fun _ _ _ => ?_)
    | with_reducible refine Kept.foldl_thd ?_ (fun _ _ _ => ?_)
    | fail_if_no_progress with_reducible refine Kept.mk' ?_ rfl rfl rfl rfl rfl rfl rfl rfl rfl
    | with_reducible refine Kept.snd ‹_ = (_, _)› ?_
    | with_reducible refine Kept.thd ‹_ = (_, _, _)› ?_
    | fail_if_no_progress dsimp -zeta only
    | intro _
    | split
    | ((clear_value *; split)))

theorem execSessionBindPair_kept {a0} (h : Kept k a0) : KeptOut k (execSessionBindPair a0) := by
  unfold execSessionBindPair
  repeat' (first
    | with_reducible assumption
    | with_reducible apply KeptOut.next
    | with_reducible apply KeptOut.ite
    | with_reducible apply Kept.ite
    | with_reducible refine runOpcode_kept ?_ (fun _ => ?_)
    | with_reducible apply doBind_kept
    | ((try lift_lets -underBinder); intro x)
    | with_reducible apply Kept.ite_snd
    | with_reducible apply Kept.ite_thd
    | with_reducible refine Kept.foldl ?_ (fun _ _ _ => ?_)
    | with_reducible refine Kept.foldl_snd ?_ (fun _ _ _ => ?_)
    | with_reducible refine Kept.foldl_thd ?_ (fun _ _ _ => ?_)
    | fail_if_no_progress with_reducible refine Kept.mk' ?_ rfl rfl rfl rfl rfl rfl rfl rfl rfl
    | with_reducible refine Kept.snd ‹_ = (_, _)› ?_
    | with_reducible refine Kept.thd ‹_ = (_, _, _)› ?_
    | fail_if_no_progress dsimp -zeta only
    | intro _
    | split
    | ((clear_value *; split)))

theorem execSessionKeepalive_kept {a0} (h : Kept k a0) : KeptOut k (execSessionKeepalive a0) := by
  unfold execSessionKeepalive
  repeat' (first
    | with_reducible assumption
    | with_reducible apply KeptOut.next
    | with_reducible apply KeptOut.ite
    | with_reducible apply Kept.ite
    | with_reducible refine runOpcode_kept ?_ (fun _ => ?_)
    | with_reducible apply doKeepalive_kept
    | ((try lift_lets -underBinder); intro x)
    | with_reducible apply Kept.ite_snd
    | with_reducible apply Kept.ite_thd
    | with_reducible refine Kept.foldl ?_ (fun _ _ _ => ?_)
    | with_reducible refine Kept.foldl_snd ?_ (fun _ _ _ => ?_)
    | with_reducible refine Kept.foldl_thd ?_ (fun _ _ _ => ?_)
    | fail_if_no_progress with_reducible refine Kept.mk' ?_ rfl rfl rfl rfl rfl rfl rfl rfl rfl
    | with_reducible refine Kept.snd ‹_ = (_, _)› ?_
    | with_reducible refine Kept.thd ‹_ = (_, _, _)› ?_
    | fail_if_no_progress dsimp -zeta only
    | intro _
    | split
    | ((clear_value *; split)))

theorem doSubscribe_kept {c : Cmd} {s : State} (h : Kept k s) : Kept k (doSubscribe c s).2 := by
  unfold doSubscribe
  repeat' (first
    | with_reducible assumption
    | with_reducible apply Kept.ite
    | ((try lift_lets -underBinder); intro x)
    | with_reducible apply Kept.ite_snd
    | with_reducible apply Kept.ite_thd
    | with_reducible refine Kept.foldl ?_ (fun _ _ _ => ?_)
    | with_reducible refine Kept.foldl_snd ?_ (fun _ _ _ => ?_)
    | with_reducible refine Kept.foldl_thd ?_ (fun _ _ _ => ?_)
    | fail_if_no_progress with_reducible refine Kept.mk' ?_ rfl rfl rfl rfl rfl rfl rfl rfl rfl
    | with_reducible refine Kept.snd ‹_ = (_, _)› ?_
    | with_reducible refine Kept.thd ‹_ = (_, _, _)› ?_
    | fail_if_no_progress dsimp -zeta only
    | intro _
    | split
    | ((clear_value *; split)))

theorem doUnsubscribe_kept {c : Cmd} {s : State} (h : Kept k s) : Kept k (doUnsubscribe c s).2 := by
  unfold doUnsubscribe
  repeat' (first
    | with_reducible assumption
    | with_reducible apply Kept.ite
    | ((try lift_lets -underBinder); intro x)
    | with_reducible apply Kept.ite_snd
    | with_reducible apply Kept.ite_thd
    | with_reducible refine Kept.foldl ?_ (fun _ _ _ => ?_)
    | with_reducible refine Kept.foldl_snd ?_ (fun _ _ _ => ?_)
    | with_reducible refine Kept.foldl_thd ?_ (fun _ _ _ => ?_)
    | fail_if_no_progress with_reducible refine Kept.mk' ?_ rfl rfl rfl rfl rfl rfl rfl rfl rfl
    | with_reducible refine Kept.snd ‹_ = (_, _)› ?_
    | with_reducible refine Kept.thd ‹_ = (_, _, _)› ?_
    | fail_if_no_progress dsimp -zeta only
    | intro _
    | split
    | ((clear_value *; split)))

theorem execSubscribe_kept {a0} (h : Kept k a0) : KeptOut k (execSubscribe a0) := by
  unfold execSubscribe
  repeat' (first
    | with_reducible assumption
    | with_reducible apply KeptOut.next
    | with_reducible apply KeptOut.ite
    | with_reducible apply Kept.ite
    | with_reducible refine runOpcode_kept ?_ (fun _ => ?_)
    | with_reducible apply doSubscribe_kept
    | ((try lift_lets -underBinder); intro x)
    | with_reducible apply Kept.ite_snd
    | with_reducible apply Kept.ite_thd
    | with_reducible refine Kept.foldl ?_ (fun _ _ _ => ?_)
    | with_reducible refine Kept.foldl_snd ?_ (fun _ _ _ => ?_)
    | with_reducible refine Kept.foldl_thd ?_ (fun _ _ _ => ?_)
    | fail_if_no_progress with_reducible refine Kept.mk' ?_ rfl rfl rfl rfl rfl rfl rfl rfl rfl
    | with_reducible refine Kept.snd ‹_ = (_, _)› ?_
    | with_reducible refine Kept.thd ‹_ = (_, _, _)› ?_
    | fail_if_no_progress dsimp -zeta only
    | intro _
    | split
    | ((clear_value *; split)))

theorem execUnsubscribe_kept {a0} (h : Kept k a0) : KeptOut k (execUnsubscribe a0) := by
  unfold execUnsubscribe
  repeat' (first
    | with_reducible assumption
    | with_reducible apply KeptOut.next
    | with_reducible apply KeptOut.ite
    | with_reducible apply Kept.ite
    | with_reducible refine runOpcode_kept ?_ (fun _ => ?_)
    | with_reducible apply doUnsubscribe_kept
    | ((try lift_lets -underBinder); intro x)
    | with_reducible apply Kept.ite_snd
    | with_reducible apply Kept.ite_thd
    | with_reducible refine Kept.foldl ?_ (fun _ _ _ => ?_)
    | with_reducible refine Kept.foldl_snd ?_ (fun _ _ _ => ?_)
    | with_reducible refine Kept.foldl_thd ?_ (fun _ _ _ => ?_)
    | fail_if_no_progress with_reducible refine Kept.mk' ?_ rfl rfl rfl rfl rfl rfl rfl rfl rfl
    | with_reducible refine Kept.snd ‹_ = (_, _)› ?_
    | with_reducible refine Kept.thd ‹_ = (_, _, _)› ?_
    | fail_if_no_progress dsimp -zeta only
    | intro _
    | split
    | ((clear_value *; split)))

theorem execPeriodic_kept {a0 a1} (h : Kept k a1) : KeptOut k (execPeriodic a0 a1) := by
  unfold execPeriodic
  repeat' (first
    | with_reducible assumption
    | with_reducible apply KeptOut.next
    | with_reducible apply KeptOut.ite
    | with_reducible apply Kept.ite
    | ((try lift_lets -underBinder); intro x)
    | with_reducible apply Kept.ite_snd
    | with_reducible apply Kept.ite_thd
    | with_reducible refine Kept.foldl ?_ (fun _ _ _ => ?_)
    | with_reducible refine Kept.foldl_snd ?_ (fun _ _ _ => ?_)
    | with_reducible refine Kept.foldl_thd ?_ (fun _ _ _ => ?_)
    | fail_if_no_progress with_reducible refine Kept.mk' ?_ rfl rfl rfl rfl rfl rfl rfl rfl rfl
    | with_reducible refine Kept.snd ‹_ = (_, _)› ?_
    | with_reducible refine Kept.thd ‹_ = (_, _, _)› ?_
    | fail_if_no_progress dsimp -zeta only
    | intro _
    | split
    | ((clear_value *; split)))

theorem execNotificationDeliver_kept {a0} (h : Kept k a0) : KeptOut k (execNotificationDeliver a0) := by
  unfold execNotificationDeliver
  repeat' (first
    | with_reducible assumption
    | with_reducible apply KeptOut.next
    | with_reducible apply KeptOut.ite
    | with_reducible apply Kept.ite
    | with_reducible apply State_writeOut_kept
    | ((try lift_lets -underBinder); intro x)
    | with_reducible apply Kept.ite_snd
    | with_reducible apply Kept.ite_thd
    | with_reducible refine Kept.foldl ?_ (fun _ _ _ => ?_)
    | with_reducible refine Kept.foldl_snd ?_ (fun _ _ _ => ?_)
    | with_reducible refine Kept.foldl_thd ?_ (fun _ _ _ => ?_)
    | fail_if_no_progress with_reducible refine Kept.mk' ?_ rfl rfl rfl rfl rfl rfl rfl rfl rfl
    | with_reducible refine Kept.snd ‹_ = (_, _)› ?_
    | with_reducible refine Kept.thd ‹_ = (_, _, _)› ?_
    | fail_if_no_progress dsimp -zeta only
    | intro _
    | split
    | ((clear_value *; split)))

theorem State_initiate_kept {a0 a1} (h : Kept k a0) : Kept k (State.initiate a0 a1).2 := by
  unfold State.initiate
  repeat' (first
    | with_reducible assumption
    | with_reducible apply Kept.ite
    | ((try lift_lets -underBinder); intro x)
    | with_reducible apply Kept.ite_snd
    | with_reducible apply Kept.ite_thd
    | with_reducible refine Kept.foldl ?_ (fun _ _ _ => ?_)
    | with_reducible refine Kept.foldl_snd ?_ (fun _ _ _ => ?_)
    | with_reducible refine Kept.foldl_thd ?_ (fun _ _ _ => ?_)
    | fail_if_no_progress with_reducible refine Kept.mk' ?_ rfl rfl rfl rfl rfl rfl rfl rfl rfl
    | with_reducible refine Kept.snd ‹_ = (_, _)› ?_
    | with_reducible refine Kept.thd ‹_ = (_, _, _)› ?_
    | fail_if_no_progress dsimp -zeta only
    | intro _
    | split
    | ((clear_value *; split)))

theorem State_discardEnergize_kept {a0 a1 a2} (h : Kept k a0) : Kept k (State.discardEnergize a0 a1 a2) := by
  unfold State.discardEnergize
  repeat' (first
    | with_reducible assumption
    | with_reducible apply Kept.ite
    | with_reducible apply State_complete_kept
    | ((try lift_lets -underBinder); intro x)
    | with_reducible apply Kept.ite_snd
    | with_reducible apply Kept.ite_thd
    | with_reducible refine Kept.foldl ?_ (fun _ _ _ => ?_)
    | with_reducible refine Kept.foldl_snd ?_ (fun _ _ _ => ?_)
    | with_reducible refine Kept.foldl_thd ?_ (fun _ _ _ => ?_)
    | fail_if_no_progress with_reducible refine Kept.mk' ?_ rfl rfl rfl rfl rfl rfl rfl rfl rfl
    | with_reducible refine Kept.snd ‹_ = (_, _)› ?_
    | with_reducible refine Kept.thd ‹_ = (_, _, _)› ?_
    | fail_if_no_progress dsimp -zeta only
    | intro _
    | split
    | ((clear_value *; split)))

theorem State_discardAllEnergize_kept {a0 a1} (h : Kept k a0) : Kept k (State.discardAllEnergize a0 a1) := by
  unfold State.discardAllEnergize
  repeat' (first
    | with_reducible assumption
    | with_reducible apply Kept.ite
    | with_reducible apply State_discardEnergize_kept
    | ((try lift_lets -underBinder); intro x)
    | with_reducible apply Kept.ite_snd
    | with_reducible apply Kept.ite_thd
    | with_reducible refine Kept.foldl ?_ (fun _ _ _ => ?_)
    | with_reducible refine Kept.foldl_snd ?_ (fun _ _ _ => ?_)
    | with_reducible refine Kept.foldl_thd ?_ (fun _ _ _ => ?_)
    | fail_if_no_progress with_reducible refine Kept.mk' ?_ rfl rfl rfl rfl rfl rfl rfl rfl rfl
    | with_reducible refine Kept.snd ‹_ = (_, _)› ?_
    | with_reducible refine Kept.thd ‹_ = (_, _, _)› ?_
    | fail_if_no_progress dsimp -zeta only
    | intro _
    | split
    | ((clear_value *; split)))

theorem execEnergizeWindowExpiry_kept {a0 a1} (h : Kept k a1) : KeptOut k (execEnergizeWindowExpiry a0 a1) := by
  unfold execEnergizeWindowExpiry
  repeat' (first
    | with_reducible assumption
    | with_reducible apply KeptOut.next
    | with_reducible apply KeptOut.ite
    | with_reducible apply Kept.ite
    | with_reducible apply State_discardEnergize_kept
    | ((try lift_lets -underBinder); intro x)
    | with_reducible apply Kept.ite_snd
    | with_reducible apply Kept.ite_thd
    | with_reducible refine Kept.foldl ?_ (fun _ _ _ => ?_)
    | with_reducible refine Kept.foldl_snd ?_ (fun _ _ _ => ?_)
    | with_reducible refine Kept.foldl_thd ?_ (fun _ _ _ => ?_)
    | fail_if_no_progress with_reducible refine Kept.mk' ?_ rfl rfl rfl rfl rfl rfl rfl rfl rfl
    | with_reducible refine Kept.snd ‹_ = (_, _)› ?_
    | with_reducible refine Kept.thd ‹_ = (_, _, _)› ?_
    | fail_if_no_progress dsimp -zeta only
    | intro _
    | split
    | ((clear_value *; split)))

end Sys2Proof.Laws
end

