-- ==== Sys2Proof/Laws/Kept/MeaOps.lean ====
section
/-! SUPPORT. The operations of Machine/MeaOps.lean keep what Laws/Kept.lean names. -/

set_option linter.unusedTactic false
set_option linter.unreachableTactic false

namespace Sys2Proof.Laws

open Sys2Proof.Machine

variable {k : (OrderCode × Nat × Nat) × List Instr}

theorem State_setChan_kept {a0 a1 a2} (h : Kept k a0) : Kept k (State.setChan a0 a1 a2) := by
  unfold State.setChan
  repeat' (first
    | with_reducible assumption
    | with_reducible apply Kept.ite
    | ((try lift_lets -underBinder); intro x)
    | with_reducible apply Kept.ite_snd
    | with_reducible apply Kept.ite_thd
    | with_reducible refine Kept.foldl ?_ (fun _ _ _ => ?_)
    | with_reducible refine Kept.foldl_snd ?_ (fun _ _ _ => ?_)
    | with_reducible refine Kept.foldl_thd ?_ (fun _ _ _ => ?_)
    | fail_if_no_progress with_reducible refine Kept.mk' ?_ rfl rfl rfl rfl rfl rfl rfl rfl rfl
    | with_reducible refine Kept.snd ‹_ = (_, _)› ?_
    | with_reducible refine Kept.thd ‹_ = (_, _, _)› ?_
    | fail_if_no_progress dsimp -zeta only
    | intro _
    | split
    | ((clear_value *; split)))

theorem State_condEnd_kept {a0 a1 a2 a3 a4 a5} (h : Kept k a0) : Kept k (State.condEnd a0 a1 a2 a3 a4 a5) := by
  unfold State.condEnd
  repeat' (first
    | with_reducible assumption
    | with_reducible apply Kept.ite
    | with_reducible apply State_raise_kept
    | ((try lift_lets -underBinder); intro x)
    | with_reducible apply Kept.ite_snd
    | with_reducible apply Kept.ite_thd
    | with_reducible refine Kept.foldl ?_ (fun _ _ _ => ?_)
    | with_reducible refine Kept.foldl_snd ?_ (fun _ _ _ => ?_)
    | with_reducible refine Kept.foldl_thd ?_ (fun _ _ _ => ?_)
    | fail_if_no_progress with_reducible refine Kept.mk' ?_ rfl rfl rfl rfl rfl rfl rfl rfl rfl
    | with_reducible refine Kept.snd ‹_ = (_, _)› ?_
    | with_reducible refine Kept.thd ‹_ = (_, _, _)› ?_
    | fail_if_no_progress dsimp -zeta only
    | intro _
    | split
    | ((clear_value *; split)))

theorem State_endConditions_kept {a0 a1} (h : Kept k a0) : Kept k (State.endConditions a0 a1) := by
  unfold State.endConditions
  repeat' (first
    | with_reducible assumption
    | with_reducible apply Kept.ite
    | with_reducible apply State_condEnd_kept
    | with_reducible apply State_setChan_kept
    | ((try lift_lets -underBinder); intro x)
    | with_reducible apply Kept.ite_snd
    | with_reducible apply Kept.ite_thd
    | with_reducible refine Kept.foldl ?_ (fun _ _ _ => ?_)
    | with_reducible refine Kept.foldl_snd ?_ (fun _ _ _ => ?_)
    | with_reducible refine Kept.foldl_thd ?_ (fun _ _ _ => ?_)
    | fail_if_no_progress with_reducible refine Kept.mk' ?_ rfl rfl rfl rfl rfl rfl rfl rfl rfl
    | with_reducible refine Kept.snd ‹_ = (_, _)› ?_
    | with_reducible refine Kept.thd ‹_ = (_, _, _)› ?_
    | fail_if_no_progress dsimp -zeta only
    | intro _
    | split
    | ((clear_value *; split)))

theorem State_meaStopped_kept {a0} (h : Kept k a0) : Kept k (State.meaStopped a0) := by
  unfold State.meaStopped
  repeat' (first
    | with_reducible assumption
    | with_reducible apply Kept.ite
    | ((try lift_lets -underBinder); intro x)
    | with_reducible apply Kept.ite_snd
    | with_reducible apply Kept.ite_thd
    | with_reducible refine Kept.foldl ?_ (fun _ _ _ => ?_)
    | with_reducible refine Kept.foldl_snd ?_ (fun _ _ _ => ?_)
    | with_reducible refine Kept.foldl_thd ?_ (fun _ _ _ => ?_)
    | fail_if_no_progress with_reducible refine Kept.mk' ?_ rfl rfl rfl rfl rfl rfl rfl rfl rfl
    | with_reducible refine Kept.snd ‹_ = (_, _)› ?_
    | with_reducible refine Kept.thd ‹_ = (_, _, _)› ?_
    | fail_if_no_progress dsimp -zeta only
    | intro _
    | split
    | ((clear_value *; split)))

end Sys2Proof.Laws
end

