-- ==== Sys2Proof/Laws/Kept/UpdateOps.lean ====
section
/-! SUPPORT. The operations of Machine/UpdateOps.lean keep what Laws/Kept.lean names. -/

set_option linter.unusedTactic false
set_option linter.unreachableTactic false

namespace Sys2Proof.Laws

open Sys2Proof.Machine

variable {k : (OrderCode × Nat × Nat) × List Instr}

theorem State_applySettings_kept {a0 a1} (h : Kept k a0) : Kept k (State.applySettings a0 a1) := by
  unfold State.applySettings
  repeat' (first
    | with_reducible assumption
    | with_reducible apply Kept.ite
    | with_reducible apply State_setAttr_kept
    | ((try lift_lets -underBinder); intro x)
    | with_reducible apply Kept.ite_snd
    | with_reducible apply Kept.ite_thd
    | with_reducible refine Kept.foldl ?_ (fun _ _ _ => ?_)
    | with_reducible refine Kept.foldl_snd ?_ (fun _ _ _ => ?_)
    | with_reducible refine Kept.foldl_thd ?_ (fun _ _ _ => ?_)
    | fail_if_no_progress with_reducible refine Kept.mk' ?_ rfl rfl rfl rfl rfl rfl rfl rfl rfl
    | with_reducible refine Kept.snd ‹_ = (_, _)› ?_
    | with_reducible refine Kept.thd ‹_ = (_, _, _)› ?_
    | fail_if_no_progress dsimp -zeta only
    | intro _
    | split
    | ((clear_value *; split)))

theorem State_keepBook_kept {a0} (h : Kept k a0) : Kept k (State.keepBook a0) := by
  unfold State.keepBook
  repeat' (first
    | with_reducible assumption
    | with_reducible apply Kept.ite
    | ((try lift_lets -underBinder); intro x)
    | with_reducible apply Kept.ite_snd
    | with_reducible apply Kept.ite_thd
    | with_reducible refine Kept.foldl ?_ (fun _ _ _ => ?_)
    | with_reducible refine Kept.foldl_snd ?_ (fun _ _ _ => ?_)
    | with_reducible refine Kept.foldl_thd ?_ (fun _ _ _ => ?_)
    | fail_if_no_progress with_reducible refine Kept.mk' ?_ rfl rfl rfl rfl rfl rfl rfl rfl rfl
    | with_reducible refine Kept.snd ‹_ = (_, _)› ?_
    | with_reducible refine Kept.thd ‹_ = (_, _, _)› ?_
    | fail_if_no_progress dsimp -zeta only
    | intro _
    | split
    | ((clear_value *; split)))

theorem State_useGeneration_kept {a0 a1} (h : Kept k a0) : Kept k (State.useGeneration a0 a1) := by
  unfold State.useGeneration
  repeat' (first
    | with_reducible assumption
    | with_reducible apply Kept.ite
    | with_reducible apply State_refreshProvision_kept
    | with_reducible apply State_applySettings_kept
    | ((try lift_lets -underBinder); intro x)
    | with_reducible apply Kept.ite_snd
    | with_reducible apply Kept.ite_thd
    | with_reducible refine Kept.foldl ?_ (fun _ _ _ => ?_)
    | with_reducible refine Kept.foldl_snd ?_ (fun _ _ _ => ?_)
    | with_reducible refine Kept.foldl_thd ?_ (fun _ _ _ => ?_)
    | fail_if_no_progress with_reducible refine Kept.mk' ?_ rfl rfl rfl rfl rfl rfl rfl rfl rfl
    | with_reducible refine Kept.snd ‹_ = (_, _)› ?_
    | with_reducible refine Kept.thd ‹_ = (_, _, _)› ?_
    | fail_if_no_progress dsimp -zeta only
    | intro _
    | split
    | ((clear_value *; split)))

theorem State_newGeneration_kept {a0 a1} (h : Kept k a0) : Kept k (State.newGeneration a0 a1) := by
  unfold State.newGeneration
  repeat' (first
    | with_reducible assumption
    | with_reducible apply Kept.ite
    | with_reducible apply State_keepBook_kept
    | with_reducible apply State_setNat_kept
    | with_reducible apply State_refreshProvision_kept
    | with_reducible apply State_raise_kept
    | ((try lift_lets -underBinder); intro x)
    | with_reducible apply Kept.ite_snd
    | with_reducible apply Kept.ite_thd
    | with_reducible refine Kept.foldl ?_ (fun _ _ _ => ?_)
    | with_reducible refine Kept.foldl_snd ?_ (fun _ _ _ => ?_)
    | with_reducible refine Kept.foldl_thd ?_ (fun _ _ _ => ?_)
    | fail_if_no_progress with_reducible refine Kept.mk' ?_ rfl rfl rfl rfl rfl rfl rfl rfl rfl
    | with_reducible refine Kept.snd ‹_ = (_, _)› ?_
    | with_reducible refine Kept.thd ‹_ = (_, _, _)› ?_
    | fail_if_no_progress dsimp -zeta only
    | intro _
    | split
    | ((clear_value *; split)))

theorem State_fallBack_kept {a0 a1 a2} (h : Kept k a0) : Kept k (State.fallBack a0 a1 a2) := by
  unfold State.fallBack
  repeat' (first
    | with_reducible assumption
    | with_reducible apply Kept.ite
    | with_reducible apply State_setNat_kept
    | with_reducible apply State_useGeneration_kept
    | with_reducible apply State_raise_kept
    | ((try lift_lets -underBinder); intro x)
    | with_reducible apply Kept.ite_snd
    | with_reducible apply Kept.ite_thd
    | with_reducible refine Kept.foldl ?_ (fun _ _ _ => ?_)
    | with_reducible refine Kept.foldl_snd ?_ (fun _ _ _ => ?_)
    | with_reducible refine Kept.foldl_thd ?_ (fun _ _ _ => ?_)
    | fail_if_no_progress with_reducible refine Kept.mk' ?_ rfl rfl rfl rfl rfl rfl rfl rfl rfl
    | with_reducible refine Kept.snd ‹_ = (_, _)› ?_
    | with_reducible refine Kept.thd ‹_ = (_, _, _)› ?_
    | fail_if_no_progress dsimp -zeta only
    | intro _
    | split
    | ((clear_value *; split)))

end Sys2Proof.Laws
end

