-- ==== Sys2Proof/Laws/Kept/Locator.lean ====
section
/-! SUPPORT. The operations of Machine/Locator.lean keep what Laws/Kept.lean names. -/

set_option linter.unusedTactic false
set_option linter.unreachableTactic false

namespace Sys2Proof.Laws

open Sys2Proof.Machine

variable {k : (OrderCode × Nat × Nat) × List Instr}

theorem State_takeHeldFrame_kept {a0 a1} (h : Kept k a0) : Kept k (State.takeHeldFrame a0 a1).2 := by
  unfold State.takeHeldFrame
  repeat' (first
    | with_reducible assumption
    | with_reducible apply Kept.ite
    | ((try lift_lets -underBinder); intro x)
    | with_reducible apply Kept.ite_snd
    | with_reducible apply Kept.ite_thd
    | with_reducible refine Kept.foldl ?_ (fun _ _ _ => ?_)
    | with_reducible refine Kept.foldl_snd ?_ (fun _ _ _ => ?_)
    | with_reducible refine Kept.foldl_thd ?_ (fun _ _ _ => ?_)
    | fail_if_no_progress with_reducible refine Kept.mk' ?_ rfl rfl rfl rfl rfl rfl rfl rfl rfl
    | with_reducible refine Kept.snd ‹_ = (_, _)› ?_
    | with_reducible refine Kept.thd ‹_ = (_, _, _)› ?_
    | fail_if_no_progress dsimp -zeta only
    | intro _
    | split
    | ((clear_value *; split)))

theorem execLearningCommit_kept {s : State} (h : Kept k s) : KeptOut k (execLearningCommit s) := by
  unfold execLearningCommit
  split
  · exact KeptOut.next h
  · rename_i x rest e
    split
    · exact KeptOut.next h
    · have hp : Kept k { s with elt := { s.elt with queue := rest } } := Kept.mk' h rfl rfl rfl rfl rfl rfl rfl rfl rfl
      have ht : Kept k (((x.frame.map { s with elt := { s.elt with queue := rest } }.takeHeldFrame).map Prod.snd).getD { s with elt := { s.elt with queue := rest } }) := by
        cases x.frame with
        | none => exact hp
        | some n => exact State_takeHeldFrame_kept hp
      dsimp only
      split
      · exact KeptOut.next ht
      · split
        · exact KeptOut.next h
        · exact KeptOut.next (State_uplink_kept (State_commitPath_kept ht))
        · exact KeptOut.next (State_commitPath_kept ht)

theorem execBucketDramError_kept {a0 a1 a2 a3 a4 a5 a6 a7} (h : Kept k a7) : KeptOut k (execBucketDramError a0 a1 a2 a3 a4 a5 a6 a7) := by
  unfold execBucketDramError
  repeat' (first
    | with_reducible assumption
    | with_reducible apply KeptOut.next
    | with_reducible apply KeptOut.ite
    | with_reducible apply Kept.ite
    | ((try lift_lets -underBinder); intro x)
    | with_reducible apply Kept.ite_snd
    | with_reducible apply Kept.ite_thd
    | with_reducible refine Kept.foldl ?_ (fun _ _ _ => ?_)
    | with_reducible refine Kept.foldl_snd ?_ (fun _ _ _ => ?_)
    | with_reducible refine Kept.foldl_thd ?_ (fun _ _ _ => ?_)
    | fail_if_no_progress with_reducible refine Kept.mk' ?_ rfl rfl rfl rfl rfl rfl rfl rfl rfl
    | with_reducible refine Kept.snd ‹_ = (_, _)› ?_
    | with_reducible refine Kept.thd ‹_ = (_, _, _)› ?_
    | fail_if_no_progress dsimp -zeta only
    | intro _
    | split
    | ((clear_value *; split)))

theorem execShadowCompare_kept {a0 a1 a2} (h : Kept k a2) : KeptOut k (execShadowCompare a0 a1 a2) := by
  unfold execShadowCompare
  repeat' (first
    | with_reducible assumption
    | with_reducible apply KeptOut.next
    | with_reducible apply KeptOut.ite
    | with_reducible apply Kept.ite
    | with_reducible apply State_repaired_kept
    | with_reducible apply State_fromShadow_kept
    | with_reducible apply State_atLocator_kept
    | with_reducible apply State_compareBucket_kept
    | ((try lift_lets -underBinder); intro x)
    | with_reducible apply Kept.ite_snd
    | with_reducible apply Kept.ite_thd
    | with_reducible refine Kept.foldl ?_ (fun _ _ _ => ?_)
    | with_reducible refine Kept.foldl_snd ?_ (fun _ _ _ => ?_)
    | with_reducible refine Kept.foldl_thd ?_ (fun _ _ _ => ?_)
    | fail_if_no_progress with_reducible refine Kept.mk' ?_ rfl rfl rfl rfl rfl rfl rfl rfl rfl
    | with_reducible refine Kept.snd ‹_ = (_, _)› ?_
    | with_reducible refine Kept.thd ‹_ = (_, _, _)› ?_
    | fail_if_no_progress dsimp -zeta only
    | intro _
    | split
    | ((clear_value *; split)))

theorem execLookupUnresolved_kept {a0} (h : Kept k a0) : KeptOut k (execLookupUnresolved a0) := by
  unfold execLookupUnresolved
  repeat' (first
    | with_reducible assumption
    | with_reducible apply KeptOut.next
    | with_reducible apply KeptOut.ite
    | with_reducible apply Kept.ite
    | ((try lift_lets -underBinder); intro x)
    | with_reducible apply Kept.ite_snd
    | with_reducible apply Kept.ite_thd
    | with_reducible refine Kept.foldl ?_ (fun _ _ _ => ?_)
    | with_reducible refine Kept.foldl_snd ?_ (fun _ _ _ => ?_)
    | with_reducible refine Kept.foldl_thd ?_ (fun _ _ _ => ?_)
    | fail_if_no_progress with_reducible refine Kept.mk' ?_ rfl rfl rfl rfl rfl rfl rfl rfl rfl
    | with_reducible refine Kept.snd ‹_ = (_, _)› ?_
    | with_reducible refine Kept.thd ‹_ = (_, _, _)› ?_
    | fail_if_no_progress dsimp -zeta only
    | intro _
    | split
    | ((clear_value *; split)))

end Sys2Proof.Laws
end

