-- ==== Sys2Proof/Laws/State.lean ====
section
/-! SUPPORT. What the shared updates leave of the state's areas, one lemma for an update and an area, and what a read gives after a write of an attribute. -/

namespace Sys2Proof.Machine

variable {s : State}

@[simp] theorem State.drawn_sys : s.drawn.sys = s.sys := rfl
@[simp] theorem State.drawn_obj : s.drawn.obj = s.obj := rfl
@[simp] theorem State.drawn_mbx : s.drawn.mbx = s.mbx := rfl
@[simp] theorem State.drawn_fcr : s.drawn.fcr = s.fcr := rfl
@[simp] theorem State.drawn_recd : s.drawn.recd = s.recd := rfl
@[simp] theorem State.drawn_que : s.drawn.que = s.que := rfl
@[simp] theorem State.drawn_tim : s.drawn.tim = s.tim := rfl
@[simp] theorem State.drawn_lin : s.drawn.lin = s.lin := rfl
@[simp] theorem State.drawn_rad : s.drawn.rad = s.rad := rfl
@[simp] theorem State.drawn_elt : s.drawn.elt = s.elt := rfl
@[simp] theorem State.drawn_col : s.drawn.col = s.col := rfl
@[simp] theorem State.drawn_bil : s.drawn.bil = s.bil := rfl
@[simp] theorem State.drawn_bal : s.drawn.bal = s.bal := rfl
@[simp] theorem State.drawn_mea : s.drawn.mea = s.mea := rfl
@[simp] theorem State.drawn_lux : s.drawn.lux = s.lux := rfl
@[simp] theorem State.drawn_sto : s.drawn.sto = s.sto := rfl
@[simp] theorem State.drawn_glv : s.drawn.glv = s.glv := rfl
@[simp] theorem State.drawn_twn : s.drawn.twn = s.twn := rfl
@[simp] theorem State.drawn_upd : s.drawn.upd = s.upd := rfl
@[simp] theorem State.drawn_dbg : s.drawn.dbg = s.dbg := rfl
@[simp] theorem State.drawn_pending : s.drawn.pending = s.pending := rfl

@[simp] theorem State.setPair_sys {n : Nat} {p : Pair} : (s.setPair n p).sys = s.sys := rfl
@[simp] theorem State.setPair_obj {n : Nat} {p : Pair} : (s.setPair n p).obj = s.obj := rfl
@[simp] theorem State.setPair_fcr {n : Nat} {p : Pair} : (s.setPair n p).fcr = s.fcr := rfl
@[simp] theorem State.setPair_recd {n : Nat} {p : Pair} : (s.setPair n p).recd = s.recd := rfl
@[simp] theorem State.setPair_que {n : Nat} {p : Pair} : (s.setPair n p).que = s.que := rfl
@[simp] theorem State.setPair_tim {n : Nat} {p : Pair} : (s.setPair n p).tim = s.tim := rfl
@[simp] theorem State.setPair_lin {n : Nat} {p : Pair} : (s.setPair n p).lin = s.lin := rfl
@[simp] theorem State.setPair_rad {n : Nat} {p : Pair} : (s.setPair n p).rad = s.rad := rfl
@[simp] theorem State.setPair_elt {n : Nat} {p : Pair} : (s.setPair n p).elt = s.elt := rfl
@[simp] theorem State.setPair_col {n : Nat} {p : Pair} : (s.setPair n p).col = s.col := rfl
@[simp] theorem State.setPair_bil {n : Nat} {p : Pair} : (s.setPair n p).bil = s.bil := rfl
@[simp] theorem State.setPair_bal {n : Nat} {p : Pair} : (s.setPair n p).bal = s.bal := rfl
@[simp] theorem State.setPair_mea {n : Nat} {p : Pair} : (s.setPair n p).mea = s.mea := rfl
@[simp] theorem State.setPair_lux {n : Nat} {p : Pair} : (s.setPair n p).lux = s.lux := rfl
@[simp] theorem State.setPair_sto {n : Nat} {p : Pair} : (s.setPair n p).sto = s.sto := rfl
@[simp] theorem State.setPair_glv {n : Nat} {p : Pair} : (s.setPair n p).glv = s.glv := rfl
@[simp] theorem State.setPair_twn {n : Nat} {p : Pair} : (s.setPair n p).twn = s.twn := rfl
@[simp] theorem State.setPair_upd {n : Nat} {p : Pair} : (s.setPair n p).upd = s.upd := rfl
@[simp] theorem State.setPair_dbg {n : Nat} {p : Pair} : (s.setPair n p).dbg = s.dbg := rfl
@[simp] theorem State.setPair_pending {n : Nat} {p : Pair} : (s.setPair n p).pending = s.pending := rfl

@[simp] theorem State.modSession_sys {h : Nat} {f : Session → Session} : (s.modSession h f).sys = s.sys := rfl
@[simp] theorem State.modSession_obj {h : Nat} {f : Session → Session} : (s.modSession h f).obj = s.obj := rfl
@[simp] theorem State.modSession_fcr {h : Nat} {f : Session → Session} : (s.modSession h f).fcr = s.fcr := rfl
@[simp] theorem State.modSession_recd {h : Nat} {f : Session → Session} : (s.modSession h f).recd = s.recd := rfl
@[simp] theorem State.modSession_que {h : Nat} {f : Session → Session} : (s.modSession h f).que = s.que := rfl
@[simp] theorem State.modSession_tim {h : Nat} {f : Session → Session} : (s.modSession h f).tim = s.tim := rfl
@[simp] theorem State.modSession_lin {h : Nat} {f : Session → Session} : (s.modSession h f).lin = s.lin := rfl
@[simp] theorem State.modSession_rad {h : Nat} {f : Session → Session} : (s.modSession h f).rad = s.rad := rfl
@[simp] theorem State.modSession_elt {h : Nat} {f : Session → Session} : (s.modSession h f).elt = s.elt := rfl
@[simp] theorem State.modSession_col {h : Nat} {f : Session → Session} : (s.modSession h f).col = s.col := rfl
@[simp] theorem State.modSession_bil {h : Nat} {f : Session → Session} : (s.modSession h f).bil = s.bil := rfl
@[simp] theorem State.modSession_bal {h : Nat} {f : Session → Session} : (s.modSession h f).bal = s.bal := rfl
@[simp] theorem State.modSession_mea {h : Nat} {f : Session → Session} : (s.modSession h f).mea = s.mea := rfl
@[simp] theorem State.modSession_lux {h : Nat} {f : Session → Session} : (s.modSession h f).lux = s.lux := rfl
@[simp] theorem State.modSession_sto {h : Nat} {f : Session → Session} : (s.modSession h f).sto = s.sto := rfl
@[simp] theorem State.modSession_glv {h : Nat} {f : Session → Session} : (s.modSession h f).glv = s.glv := rfl
@[simp] theorem State.modSession_twn {h : Nat} {f : Session → Session} : (s.modSession h f).twn = s.twn := rfl
@[simp] theorem State.modSession_upd {h : Nat} {f : Session → Session} : (s.modSession h f).upd = s.upd := rfl
@[simp] theorem State.modSession_dbg {h : Nat} {f : Session → Session} : (s.modSession h f).dbg = s.dbg := rfl
@[simp] theorem State.modSession_pending {h : Nat} {f : Session → Session} : (s.modSession h f).pending = s.pending := rfl

@[simp] theorem State.raise_sys {c p : Nat} {l : List Int} : (s.raise c p l).sys = s.sys := rfl
@[simp] theorem State.raise_obj {c p : Nat} {l : List Int} : (s.raise c p l).obj = s.obj := rfl
@[simp] theorem State.raise_mbx {c p : Nat} {l : List Int} : (s.raise c p l).mbx = s.mbx := rfl
@[simp] theorem State.raise_fcr {c p : Nat} {l : List Int} : (s.raise c p l).fcr = s.fcr := rfl
@[simp] theorem State.raise_que {c p : Nat} {l : List Int} : (s.raise c p l).que = s.que := rfl
@[simp] theorem State.raise_tim {c p : Nat} {l : List Int} : (s.raise c p l).tim = s.tim := rfl
@[simp] theorem State.raise_lin {c p : Nat} {l : List Int} : (s.raise c p l).lin = s.lin := rfl
@[simp] theorem State.raise_rad {c p : Nat} {l : List Int} : (s.raise c p l).rad = s.rad := rfl
@[simp] theorem State.raise_elt {c p : Nat} {l : List Int} : (s.raise c p l).elt = s.elt := rfl
@[simp] theorem State.raise_col {c p : Nat} {l : List Int} : (s.raise c p l).col = s.col := rfl
@[simp] theorem State.raise_bil {c p : Nat} {l : List Int} : (s.raise c p l).bil = s.bil := rfl
@[simp] theorem State.raise_bal {c p : Nat} {l : List Int} : (s.raise c p l).bal = s.bal := rfl
@[simp] theorem State.raise_mea {c p : Nat} {l : List Int} : (s.raise c p l).mea = s.mea := rfl
@[simp] theorem State.raise_lux {c p : Nat} {l : List Int} : (s.raise c p l).lux = s.lux := rfl
@[simp] theorem State.raise_sto {c p : Nat} {l : List Int} : (s.raise c p l).sto = s.sto := rfl
@[simp] theorem State.raise_glv {c p : Nat} {l : List Int} : (s.raise c p l).glv = s.glv := rfl
@[simp] theorem State.raise_twn {c p : Nat} {l : List Int} : (s.raise c p l).twn = s.twn := rfl
@[simp] theorem State.raise_upd {c p : Nat} {l : List Int} : (s.raise c p l).upd = s.upd := rfl
@[simp] theorem State.raise_dbg {c p : Nat} {l : List Int} : (s.raise c p l).dbg = s.dbg := rfl
@[simp] theorem State.raise_pending {c p : Nat} {l : List Int} : (s.raise c p l).pending = s.pending := rfl

@[simp] theorem State.raiseSafe_sys {c p : Nat} {l : List Int} : (s.raiseSafe c p l).sys = s.sys := rfl
@[simp] theorem State.raiseSafe_obj {c p : Nat} {l : List Int} : (s.raiseSafe c p l).obj = s.obj := rfl
@[simp] theorem State.raiseSafe_mbx {c p : Nat} {l : List Int} : (s.raiseSafe c p l).mbx = s.mbx := rfl
@[simp] theorem State.raiseSafe_fcr {c p : Nat} {l : List Int} : (s.raiseSafe c p l).fcr = s.fcr := rfl
@[simp] theorem State.raiseSafe_que {c p : Nat} {l : List Int} : (s.raiseSafe c p l).que = s.que := rfl
@[simp] theorem State.raiseSafe_tim {c p : Nat} {l : List Int} : (s.raiseSafe c p l).tim = s.tim := rfl
@[simp] theorem State.raiseSafe_lin {c p : Nat} {l : List Int} : (s.raiseSafe c p l).lin = s.lin := rfl
@[simp] theorem State.raiseSafe_rad {c p : Nat} {l : List Int} : (s.raiseSafe c p l).rad = s.rad := rfl
@[simp] theorem State.raiseSafe_elt {c p : Nat} {l : List Int} : (s.raiseSafe c p l).elt = s.elt := rfl
@[simp] theorem State.raiseSafe_col {c p : Nat} {l : List Int} : (s.raiseSafe c p l).col = s.col := rfl
@[simp] theorem State.raiseSafe_bil {c p : Nat} {l : List Int} : (s.raiseSafe c p l).bil = s.bil := rfl
@[simp] theorem State.raiseSafe_bal {c p : Nat} {l : List Int} : (s.raiseSafe c p l).bal = s.bal := rfl
@[simp] theorem State.raiseSafe_mea {c p : Nat} {l : List Int} : (s.raiseSafe c p l).mea = s.mea := rfl
@[simp] theorem State.raiseSafe_lux {c p : Nat} {l : List Int} : (s.raiseSafe c p l).lux = s.lux := rfl
@[simp] theorem State.raiseSafe_sto {c p : Nat} {l : List Int} : (s.raiseSafe c p l).sto = s.sto := rfl
@[simp] theorem State.raiseSafe_glv {c p : Nat} {l : List Int} : (s.raiseSafe c p l).glv = s.glv := rfl
@[simp] theorem State.raiseSafe_twn {c p : Nat} {l : List Int} : (s.raiseSafe c p l).twn = s.twn := rfl
@[simp] theorem State.raiseSafe_upd {c p : Nat} {l : List Int} : (s.raiseSafe c p l).upd = s.upd := rfl
@[simp] theorem State.raiseSafe_dbg {c p : Nat} {l : List Int} : (s.raiseSafe c p l).dbg = s.dbg := rfl
@[simp] theorem State.raiseSafe_pending {c p : Nat} {l : List Int} : (s.raiseSafe c p l).pending = s.pending := rfl

@[simp] theorem State.create_sys {c i : Nat} : (s.create c i).sys = s.sys := rfl
@[simp] theorem State.create_mbx {c i : Nat} : (s.create c i).mbx = s.mbx := rfl
@[simp] theorem State.create_fcr {c i : Nat} : (s.create c i).fcr = s.fcr := rfl
@[simp] theorem State.create_recd {c i : Nat} : (s.create c i).recd = s.recd := rfl
@[simp] theorem State.create_que {c i : Nat} : (s.create c i).que = s.que := rfl
@[simp] theorem State.create_tim {c i : Nat} : (s.create c i).tim = s.tim := rfl
@[simp] theorem State.create_lin {c i : Nat} : (s.create c i).lin = s.lin := rfl
@[simp] theorem State.create_rad {c i : Nat} : (s.create c i).rad = s.rad := rfl
@[simp] theorem State.create_elt {c i : Nat} : (s.create c i).elt = s.elt := rfl
@[simp] theorem State.create_col {c i : Nat} : (s.create c i).col = s.col := rfl
@[simp] theorem State.create_bil {c i : Nat} : (s.create c i).bil = s.bil := rfl
@[simp] theorem State.create_bal {c i : Nat} : (s.create c i).bal = s.bal := rfl
@[simp] theorem State.create_mea {c i : Nat} : (s.create c i).mea = s.mea := rfl
@[simp] theorem State.create_lux {c i : Nat} : (s.create c i).lux = s.lux := rfl
@[simp] theorem State.create_sto {c i : Nat} : (s.create c i).sto = s.sto := rfl
@[simp] theorem State.create_glv {c i : Nat} : (s.create c i).glv = s.glv := rfl
@[simp] theorem State.create_twn {c i : Nat} : (s.create c i).twn = s.twn := rfl
@[simp] theorem State.create_upd {c i : Nat} : (s.create c i).upd = s.upd := rfl
@[simp] theorem State.create_dbg {c i : Nat} : (s.create c i).dbg = s.dbg := rfl
@[simp] theorem State.create_pending {c i : Nat} : (s.create c i).pending = s.pending := rfl

@[simp] theorem State.destroy_sys {c i : Nat} : (s.destroy c i).sys = s.sys := rfl
@[simp] theorem State.destroy_mbx {c i : Nat} : (s.destroy c i).mbx = s.mbx := rfl
@[simp] theorem State.destroy_fcr {c i : Nat} : (s.destroy c i).fcr = s.fcr := rfl
@[simp] theorem State.destroy_recd {c i : Nat} : (s.destroy c i).recd = s.recd := rfl
@[simp] theorem State.destroy_que {c i : Nat} : (s.destroy c i).que = s.que := rfl
@[simp] theorem State.destroy_tim {c i : Nat} : (s.destroy c i).tim = s.tim := rfl
@[simp] theorem State.destroy_lin {c i : Nat} : (s.destroy c i).lin = s.lin := rfl
@[simp] theorem State.destroy_rad {c i : Nat} : (s.destroy c i).rad = s.rad := rfl
@[simp] theorem State.destroy_elt {c i : Nat} : (s.destroy c i).elt = s.elt := rfl
@[simp] theorem State.destroy_col {c i : Nat} : (s.destroy c i).col = s.col := rfl
@[simp] theorem State.destroy_bil {c i : Nat} : (s.destroy c i).bil = s.bil := rfl
@[simp] theorem State.destroy_bal {c i : Nat} : (s.destroy c i).bal = s.bal := rfl
@[simp] theorem State.destroy_mea {c i : Nat} : (s.destroy c i).mea = s.mea := rfl
@[simp] theorem State.destroy_lux {c i : Nat} : (s.destroy c i).lux = s.lux := rfl
@[simp] theorem State.destroy_sto {c i : Nat} : (s.destroy c i).sto = s.sto := rfl
@[simp] theorem State.destroy_glv {c i : Nat} : (s.destroy c i).glv = s.glv := rfl
@[simp] theorem State.destroy_twn {c i : Nat} : (s.destroy c i).twn = s.twn := rfl
@[simp] theorem State.destroy_upd {c i : Nat} : (s.destroy c i).upd = s.upd := rfl
@[simp] theorem State.destroy_dbg {c i : Nat} : (s.destroy c i).dbg = s.dbg := rfl
@[simp] theorem State.destroy_pending {c i : Nat} : (s.destroy c i).pending = s.pending := rfl

@[simp] theorem State.touch_sys {a : Nat × Nat} {i : Nat} {v : Val} : (s.touch a i v).sys = s.sys := rfl
@[simp] theorem State.touch_fcr {a : Nat × Nat} {i : Nat} {v : Val} : (s.touch a i v).fcr = s.fcr := rfl
@[simp] theorem State.touch_recd {a : Nat × Nat} {i : Nat} {v : Val} : (s.touch a i v).recd = s.recd := rfl
@[simp] theorem State.touch_que {a : Nat × Nat} {i : Nat} {v : Val} : (s.touch a i v).que = s.que := rfl
@[simp] theorem State.touch_tim {a : Nat × Nat} {i : Nat} {v : Val} : (s.touch a i v).tim = s.tim := rfl
@[simp] theorem State.touch_lin {a : Nat × Nat} {i : Nat} {v : Val} : (s.touch a i v).lin = s.lin := rfl
@[simp] theorem State.touch_rad {a : Nat × Nat} {i : Nat} {v : Val} : (s.touch a i v).rad = s.rad := rfl
@[simp] theorem State.touch_elt {a : Nat × Nat} {i : Nat} {v : Val} : (s.touch a i v).elt = s.elt := rfl
@[simp] theorem State.touch_col {a : Nat × Nat} {i : Nat} {v : Val} : (s.touch a i v).col = s.col := rfl
@[simp] theorem State.touch_bil {a : Nat × Nat} {i : Nat} {v : Val} : (s.touch a i v).bil = s.bil := rfl
@[simp] theorem State.touch_bal {a : Nat × Nat} {i : Nat} {v : Val} : (s.touch a i v).bal = s.bal := rfl
@[simp] theorem State.touch_mea {a : Nat × Nat} {i : Nat} {v : Val} : (s.touch a i v).mea = s.mea := rfl
@[simp] theorem State.touch_lux {a : Nat × Nat} {i : Nat} {v : Val} : (s.touch a i v).lux = s.lux := rfl
@[simp] theorem State.touch_sto {a : Nat × Nat} {i : Nat} {v : Val} : (s.touch a i v).sto = s.sto := rfl
@[simp] theorem State.touch_glv {a : Nat × Nat} {i : Nat} {v : Val} : (s.touch a i v).glv = s.glv := rfl
@[simp] theorem State.touch_twn {a : Nat × Nat} {i : Nat} {v : Val} : (s.touch a i v).twn = s.twn := rfl
@[simp] theorem State.touch_upd {a : Nat × Nat} {i : Nat} {v : Val} : (s.touch a i v).upd = s.upd := rfl
@[simp] theorem State.touch_dbg {a : Nat × Nat} {i : Nat} {v : Val} : (s.touch a i v).dbg = s.dbg := rfl
@[simp] theorem State.touch_pending {a : Nat × Nat} {i : Nat} {v : Val} : (s.touch a i v).pending = s.pending := rfl

@[simp] theorem State.setAttr_sys {a : Nat × Nat} {i : Nat} {v : Val} : (s.setAttr a i v).sys = s.sys := by unfold State.setAttr; split <;> rfl
@[simp] theorem State.setAttr_fcr {a : Nat × Nat} {i : Nat} {v : Val} : (s.setAttr a i v).fcr = s.fcr := by unfold State.setAttr; split <;> rfl
@[simp] theorem State.setAttr_recd {a : Nat × Nat} {i : Nat} {v : Val} : (s.setAttr a i v).recd = s.recd := by unfold State.setAttr; split <;> rfl
@[simp] theorem State.setAttr_que {a : Nat × Nat} {i : Nat} {v : Val} : (s.setAttr a i v).que = s.que := by unfold State.setAttr; split <;> rfl
@[simp] theorem State.setAttr_tim {a : Nat × Nat} {i : Nat} {v : Val} : (s.setAttr a i v).tim = s.tim := by unfold State.setAttr; split <;> rfl
@[simp] theorem State.setAttr_lin {a : Nat × Nat} {i : Nat} {v : Val} : (s.setAttr a i v).lin = s.lin := by unfold State.setAttr; split <;> rfl
@[simp] theorem State.setAttr_rad {a : Nat × Nat} {i : Nat} {v : Val} : (s.setAttr a i v).rad = s.rad := by unfold State.setAttr; split <;> rfl
@[simp] theorem State.setAttr_elt {a : Nat × Nat} {i : Nat} {v : Val} : (s.setAttr a i v).elt = s.elt := by unfold State.setAttr; split <;> rfl
@[simp] theorem State.setAttr_col {a : Nat × Nat} {i : Nat} {v : Val} : (s.setAttr a i v).col = s.col := by unfold State.setAttr; split <;> rfl
@[simp] theorem State.setAttr_bil {a : Nat × Nat} {i : Nat} {v : Val} : (s.setAttr a i v).bil = s.bil := by unfold State.setAttr; split <;> rfl
@[simp] theorem State.setAttr_bal {a : Nat × Nat} {i : Nat} {v : Val} : (s.setAttr a i v).bal = s.bal := by unfold State.setAttr; split <;> rfl
@[simp] theorem State.setAttr_mea {a : Nat × Nat} {i : Nat} {v : Val} : (s.setAttr a i v).mea = s.mea := by unfold State.setAttr; split <;> rfl
@[simp] theorem State.setAttr_lux {a : Nat × Nat} {i : Nat} {v : Val} : (s.setAttr a i v).lux = s.lux := by unfold State.setAttr; split <;> rfl
@[simp] theorem State.setAttr_sto {a : Nat × Nat} {i : Nat} {v : Val} : (s.setAttr a i v).sto = s.sto := by unfold State.setAttr; split <;> rfl
@[simp] theorem State.setAttr_glv {a : Nat × Nat} {i : Nat} {v : Val} : (s.setAttr a i v).glv = s.glv := by unfold State.setAttr; split <;> rfl
@[simp] theorem State.setAttr_twn {a : Nat × Nat} {i : Nat} {v : Val} : (s.setAttr a i v).twn = s.twn := by unfold State.setAttr; split <;> rfl
@[simp] theorem State.setAttr_upd {a : Nat × Nat} {i : Nat} {v : Val} : (s.setAttr a i v).upd = s.upd := by unfold State.setAttr; split <;> rfl
@[simp] theorem State.setAttr_dbg {a : Nat × Nat} {i : Nat} {v : Val} : (s.setAttr a i v).dbg = s.dbg := by unfold State.setAttr; split <;> rfl
@[simp] theorem State.setAttr_pending {a : Nat × Nat} {i : Nat} {v : Val} : (s.setAttr a i v).pending = s.pending := by unfold State.setAttr; split <;> rfl

@[simp] theorem State.setInt_sys {a : Nat × Nat} {i : Nat} {v : Int} : (s.setInt a i v).sys = s.sys := State.setAttr_sys
@[simp] theorem State.setInt_fcr {a : Nat × Nat} {i : Nat} {v : Int} : (s.setInt a i v).fcr = s.fcr := State.setAttr_fcr
@[simp] theorem State.setInt_recd {a : Nat × Nat} {i : Nat} {v : Int} : (s.setInt a i v).recd = s.recd := State.setAttr_recd
@[simp] theorem State.setInt_que {a : Nat × Nat} {i : Nat} {v : Int} : (s.setInt a i v).que = s.que := State.setAttr_que
@[simp] theorem State.setInt_tim {a : Nat × Nat} {i : Nat} {v : Int} : (s.setInt a i v).tim = s.tim := State.setAttr_tim
@[simp] theorem State.setInt_lin {a : Nat × Nat} {i : Nat} {v : Int} : (s.setInt a i v).lin = s.lin := State.setAttr_lin
@[simp] theorem State.setInt_rad {a : Nat × Nat} {i : Nat} {v : Int} : (s.setInt a i v).rad = s.rad := State.setAttr_rad
@[simp] theorem State.setInt_elt {a : Nat × Nat} {i : Nat} {v : Int} : (s.setInt a i v).elt = s.elt := State.setAttr_elt
@[simp] theorem State.setInt_col {a : Nat × Nat} {i : Nat} {v : Int} : (s.setInt a i v).col = s.col := State.setAttr_col
@[simp] theorem State.setInt_bil {a : Nat × Nat} {i : Nat} {v : Int} : (s.setInt a i v).bil = s.bil := State.setAttr_bil
@[simp] theorem State.setInt_bal {a : Nat × Nat} {i : Nat} {v : Int} : (s.setInt a i v).bal = s.bal := State.setAttr_bal
@[simp] theorem State.setInt_mea {a : Nat × Nat} {i : Nat} {v : Int} : (s.setInt a i v).mea = s.mea := State.setAttr_mea
@[simp] theorem State.setInt_lux {a : Nat × Nat} {i : Nat} {v : Int} : (s.setInt a i v).lux = s.lux := State.setAttr_lux
@[simp] theorem State.setInt_sto {a : Nat × Nat} {i : Nat} {v : Int} : (s.setInt a i v).sto = s.sto := State.setAttr_sto
@[simp] theorem State.setInt_glv {a : Nat × Nat} {i : Nat} {v : Int} : (s.setInt a i v).glv = s.glv := State.setAttr_glv
@[simp] theorem State.setInt_twn {a : Nat × Nat} {i : Nat} {v : Int} : (s.setInt a i v).twn = s.twn := State.setAttr_twn
@[simp] theorem State.setInt_upd {a : Nat × Nat} {i : Nat} {v : Int} : (s.setInt a i v).upd = s.upd := State.setAttr_upd
@[simp] theorem State.setInt_dbg {a : Nat × Nat} {i : Nat} {v : Int} : (s.setInt a i v).dbg = s.dbg := State.setAttr_dbg
@[simp] theorem State.setInt_pending {a : Nat × Nat} {i : Nat} {v : Int} : (s.setInt a i v).pending = s.pending := State.setAttr_pending

@[simp] theorem State.setNat_sys {a : Nat × Nat} {i v : Nat} : (s.setNat a i v).sys = s.sys := State.setAttr_sys
@[simp] theorem State.setNat_fcr {a : Nat × Nat} {i v : Nat} : (s.setNat a i v).fcr = s.fcr := State.setAttr_fcr
@[simp] theorem State.setNat_recd {a : Nat × Nat} {i v : Nat} : (s.setNat a i v).recd = s.recd := State.setAttr_recd
@[simp] theorem State.setNat_que {a : Nat × Nat} {i v : Nat} : (s.setNat a i v).que = s.que := State.setAttr_que
@[simp] theorem State.setNat_tim {a : Nat × Nat} {i v : Nat} : (s.setNat a i v).tim = s.tim := State.setAttr_tim
@[simp] theorem State.setNat_lin {a : Nat × Nat} {i v : Nat} : (s.setNat a i v).lin = s.lin := State.setAttr_lin
@[simp] theorem State.setNat_rad {a : Nat × Nat} {i v : Nat} : (s.setNat a i v).rad = s.rad := State.setAttr_rad
@[simp] theorem State.setNat_elt {a : Nat × Nat} {i v : Nat} : (s.setNat a i v).elt = s.elt := State.setAttr_elt
@[simp] theorem State.setNat_col {a : Nat × Nat} {i v : Nat} : (s.setNat a i v).col = s.col := State.setAttr_col
@[simp] theorem State.setNat_bil {a : Nat × Nat} {i v : Nat} : (s.setNat a i v).bil = s.bil := State.setAttr_bil
@[simp] theorem State.setNat_bal {a : Nat × Nat} {i v : Nat} : (s.setNat a i v).bal = s.bal := State.setAttr_bal
@[simp] theorem State.setNat_mea {a : Nat × Nat} {i v : Nat} : (s.setNat a i v).mea = s.mea := State.setAttr_mea
@[simp] theorem State.setNat_lux {a : Nat × Nat} {i v : Nat} : (s.setNat a i v).lux = s.lux := State.setAttr_lux
@[simp] theorem State.setNat_sto {a : Nat × Nat} {i v : Nat} : (s.setNat a i v).sto = s.sto := State.setAttr_sto
@[simp] theorem State.setNat_glv {a : Nat × Nat} {i v : Nat} : (s.setNat a i v).glv = s.glv := State.setAttr_glv
@[simp] theorem State.setNat_twn {a : Nat × Nat} {i v : Nat} : (s.setNat a i v).twn = s.twn := State.setAttr_twn
@[simp] theorem State.setNat_upd {a : Nat × Nat} {i v : Nat} : (s.setNat a i v).upd = s.upd := State.setAttr_upd
@[simp] theorem State.setNat_dbg {a : Nat × Nat} {i v : Nat} : (s.setNat a i v).dbg = s.dbg := State.setAttr_dbg
@[simp] theorem State.setNat_pending {a : Nat × Nat} {i v : Nat} : (s.setNat a i v).pending = s.pending := State.setAttr_pending

@[simp] theorem State.setFlag_sys {a : Nat × Nat} {i : Nat} {v : Bool} : (s.setFlag a i v).sys = s.sys := State.setAttr_sys
@[simp] theorem State.setFlag_fcr {a : Nat × Nat} {i : Nat} {v : Bool} : (s.setFlag a i v).fcr = s.fcr := State.setAttr_fcr
@[simp] theorem State.setFlag_recd {a : Nat × Nat} {i : Nat} {v : Bool} : (s.setFlag a i v).recd = s.recd := State.setAttr_recd
@[simp] theorem State.setFlag_que {a : Nat × Nat} {i : Nat} {v : Bool} : (s.setFlag a i v).que = s.que := State.setAttr_que
@[simp] theorem State.setFlag_tim {a : Nat × Nat} {i : Nat} {v : Bool} : (s.setFlag a i v).tim = s.tim := State.setAttr_tim
@[simp] theorem State.setFlag_lin {a : Nat × Nat} {i : Nat} {v : Bool} : (s.setFlag a i v).lin = s.lin := State.setAttr_lin
@[simp] theorem State.setFlag_rad {a : Nat × Nat} {i : Nat} {v : Bool} : (s.setFlag a i v).rad = s.rad := State.setAttr_rad
@[simp] theorem State.setFlag_elt {a : Nat × Nat} {i : Nat} {v : Bool} : (s.setFlag a i v).elt = s.elt := State.setAttr_elt
@[simp] theorem State.setFlag_col {a : Nat × Nat} {i : Nat} {v : Bool} : (s.setFlag a i v).col = s.col := State.setAttr_col
@[simp] theorem State.setFlag_bil {a : Nat × Nat} {i : Nat} {v : Bool} : (s.setFlag a i v).bil = s.bil := State.setAttr_bil
@[simp] theorem State.setFlag_bal {a : Nat × Nat} {i : Nat} {v : Bool} : (s.setFlag a i v).bal = s.bal := State.setAttr_bal
@[simp] theorem State.setFlag_mea {a : Nat × Nat} {i : Nat} {v : Bool} : (s.setFlag a i v).mea = s.mea := State.setAttr_mea
@[simp] theorem State.setFlag_lux {a : Nat × Nat} {i : Nat} {v : Bool} : (s.setFlag a i v).lux = s.lux := State.setAttr_lux
@[simp] theorem State.setFlag_sto {a : Nat × Nat} {i : Nat} {v : Bool} : (s.setFlag a i v).sto = s.sto := State.setAttr_sto
@[simp] theorem State.setFlag_glv {a : Nat × Nat} {i : Nat} {v : Bool} : (s.setFlag a i v).glv = s.glv := State.setAttr_glv
@[simp] theorem State.setFlag_twn {a : Nat × Nat} {i : Nat} {v : Bool} : (s.setFlag a i v).twn = s.twn := State.setAttr_twn
@[simp] theorem State.setFlag_upd {a : Nat × Nat} {i : Nat} {v : Bool} : (s.setFlag a i v).upd = s.upd := State.setAttr_upd
@[simp] theorem State.setFlag_dbg {a : Nat × Nat} {i : Nat} {v : Bool} : (s.setFlag a i v).dbg = s.dbg := State.setAttr_dbg
@[simp] theorem State.setFlag_pending {a : Nat × Nat} {i : Nat} {v : Bool} : (s.setFlag a i v).pending = s.pending := State.setAttr_pending

@[simp] theorem State.bump_sys {w i n : Nat} {a : Nat × Nat} : (s.bump w a i n).sys = s.sys := State.setAttr_sys
@[simp] theorem State.bump_fcr {w i n : Nat} {a : Nat × Nat} : (s.bump w a i n).fcr = s.fcr := State.setAttr_fcr
@[simp] theorem State.bump_recd {w i n : Nat} {a : Nat × Nat} : (s.bump w a i n).recd = s.recd := State.setAttr_recd
@[simp] theorem State.bump_que {w i n : Nat} {a : Nat × Nat} : (s.bump w a i n).que = s.que := State.setAttr_que
@[simp] theorem State.bump_tim {w i n : Nat} {a : Nat × Nat} : (s.bump w a i n).tim = s.tim := State.setAttr_tim
@[simp] theorem State.bump_lin {w i n : Nat} {a : Nat × Nat} : (s.bump w a i n).lin = s.lin := State.setAttr_lin
@[simp] theorem State.bump_rad {w i n : Nat} {a : Nat × Nat} : (s.bump w a i n).rad = s.rad := State.setAttr_rad
@[simp] theorem State.bump_elt {w i n : Nat} {a : Nat × Nat} : (s.bump w a i n).elt = s.elt := State.setAttr_elt
@[simp] theorem State.bump_col {w i n : Nat} {a : Nat × Nat} : (s.bump w a i n).col = s.col := State.setAttr_col
@[simp] theorem State.bump_bil {w i n : Nat} {a : Nat × Nat} : (s.bump w a i n).bil = s.bil := State.setAttr_bil
@[simp] theorem State.bump_bal {w i n : Nat} {a : Nat × Nat} : (s.bump w a i n).bal = s.bal := State.setAttr_bal
@[simp] theorem State.bump_mea {w i n : Nat} {a : Nat × Nat} : (s.bump w a i n).mea = s.mea := State.setAttr_mea
@[simp] theorem State.bump_lux {w i n : Nat} {a : Nat × Nat} : (s.bump w a i n).lux = s.lux := State.setAttr_lux
@[simp] theorem State.bump_sto {w i n : Nat} {a : Nat × Nat} : (s.bump w a i n).sto = s.sto := State.setAttr_sto
@[simp] theorem State.bump_glv {w i n : Nat} {a : Nat × Nat} : (s.bump w a i n).glv = s.glv := State.setAttr_glv
@[simp] theorem State.bump_twn {w i n : Nat} {a : Nat × Nat} : (s.bump w a i n).twn = s.twn := State.setAttr_twn
@[simp] theorem State.bump_upd {w i n : Nat} {a : Nat × Nat} : (s.bump w a i n).upd = s.upd := State.setAttr_upd
@[simp] theorem State.bump_dbg {w i n : Nat} {a : Nat × Nat} : (s.bump w a i n).dbg = s.dbg := State.setAttr_dbg
@[simp] theorem State.bump_pending {w i n : Nat} {a : Nat × Nat} : (s.bump w a i n).pending = s.pending := State.setAttr_pending

@[simp] theorem State.bumpSat_sys {w i n : Nat} {a : Nat × Nat} : (s.bumpSat w a i n).sys = s.sys := State.setAttr_sys
@[simp] theorem State.bumpSat_fcr {w i n : Nat} {a : Nat × Nat} : (s.bumpSat w a i n).fcr = s.fcr := State.setAttr_fcr
@[simp] theorem State.bumpSat_recd {w i n : Nat} {a : Nat × Nat} : (s.bumpSat w a i n).recd = s.recd := State.setAttr_recd
@[simp] theorem State.bumpSat_que {w i n : Nat} {a : Nat × Nat} : (s.bumpSat w a i n).que = s.que := State.setAttr_que
@[simp] theorem State.bumpSat_tim {w i n : Nat} {a : Nat × Nat} : (s.bumpSat w a i n).tim = s.tim := State.setAttr_tim
@[simp] theorem State.bumpSat_lin {w i n : Nat} {a : Nat × Nat} : (s.bumpSat w a i n).lin = s.lin := State.setAttr_lin
@[simp] theorem State.bumpSat_rad {w i n : Nat} {a : Nat × Nat} : (s.bumpSat w a i n).rad = s.rad := State.setAttr_rad
@[simp] theorem State.bumpSat_elt {w i n : Nat} {a : Nat × Nat} : (s.bumpSat w a i n).elt = s.elt := State.setAttr_elt
@[simp] theorem State.bumpSat_col {w i n : Nat} {a : Nat × Nat} : (s.bumpSat w a i n).col = s.col := State.setAttr_col
@[simp] theorem State.bumpSat_bil {w i n : Nat} {a : Nat × Nat} : (s.bumpSat w a i n).bil = s.bil := State.setAttr_bil
@[simp] theorem State.bumpSat_bal {w i n : Nat} {a : Nat × Nat} : (s.bumpSat w a i n).bal = s.bal := State.setAttr_bal
@[simp] theorem State.bumpSat_mea {w i n : Nat} {a : Nat × Nat} : (s.bumpSat w a i n).mea = s.mea := State.setAttr_mea
@[simp] theorem State.bumpSat_lux {w i n : Nat} {a : Nat × Nat} : (s.bumpSat w a i n).lux = s.lux := State.setAttr_lux
@[simp] theorem State.bumpSat_sto {w i n : Nat} {a : Nat × Nat} : (s.bumpSat w a i n).sto = s.sto := State.setAttr_sto
@[simp] theorem State.bumpSat_glv {w i n : Nat} {a : Nat × Nat} : (s.bumpSat w a i n).glv = s.glv := State.setAttr_glv
@[simp] theorem State.bumpSat_twn {w i n : Nat} {a : Nat × Nat} : (s.bumpSat w a i n).twn = s.twn := State.setAttr_twn
@[simp] theorem State.bumpSat_upd {w i n : Nat} {a : Nat × Nat} : (s.bumpSat w a i n).upd = s.upd := State.setAttr_upd
@[simp] theorem State.bumpSat_dbg {w i n : Nat} {a : Nat × Nat} : (s.bumpSat w a i n).dbg = s.dbg := State.setAttr_dbg
@[simp] theorem State.bumpSat_pending {w i n : Nat} {a : Nat × Nat} : (s.bumpSat w a i n).pending = s.pending := State.setAttr_pending

@[simp] theorem State.setElem_sys {a : Nat × Nat} {i k : Nat} {v : Int} : (s.setElem a i k v).sys = s.sys := State.setAttr_sys
@[simp] theorem State.setElem_fcr {a : Nat × Nat} {i k : Nat} {v : Int} : (s.setElem a i k v).fcr = s.fcr := State.setAttr_fcr
@[simp] theorem State.setElem_recd {a : Nat × Nat} {i k : Nat} {v : Int} : (s.setElem a i k v).recd = s.recd := State.setAttr_recd
@[simp] theorem State.setElem_que {a : Nat × Nat} {i k : Nat} {v : Int} : (s.setElem a i k v).que = s.que := State.setAttr_que
@[simp] theorem State.setElem_tim {a : Nat × Nat} {i k : Nat} {v : Int} : (s.setElem a i k v).tim = s.tim := State.setAttr_tim
@[simp] theorem State.setElem_lin {a : Nat × Nat} {i k : Nat} {v : Int} : (s.setElem a i k v).lin = s.lin := State.setAttr_lin
@[simp] theorem State.setElem_rad {a : Nat × Nat} {i k : Nat} {v : Int} : (s.setElem a i k v).rad = s.rad := State.setAttr_rad
@[simp] theorem State.setElem_elt {a : Nat × Nat} {i k : Nat} {v : Int} : (s.setElem a i k v).elt = s.elt := State.setAttr_elt
@[simp] theorem State.setElem_col {a : Nat × Nat} {i k : Nat} {v : Int} : (s.setElem a i k v).col = s.col := State.setAttr_col
@[simp] theorem State.setElem_bil {a : Nat × Nat} {i k : Nat} {v : Int} : (s.setElem a i k v).bil = s.bil := State.setAttr_bil
@[simp] theorem State.setElem_bal {a : Nat × Nat} {i k : Nat} {v : Int} : (s.setElem a i k v).bal = s.bal := State.setAttr_bal
@[simp] theorem State.setElem_mea {a : Nat × Nat} {i k : Nat} {v : Int} : (s.setElem a i k v).mea = s.mea := State.setAttr_mea
@[simp] theorem State.setElem_lux {a : Nat × Nat} {i k : Nat} {v : Int} : (s.setElem a i k v).lux = s.lux := State.setAttr_lux
@[simp] theorem State.setElem_sto {a : Nat × Nat} {i k : Nat} {v : Int} : (s.setElem a i k v).sto = s.sto := State.setAttr_sto
@[simp] theorem State.setElem_glv {a : Nat × Nat} {i k : Nat} {v : Int} : (s.setElem a i k v).glv = s.glv := State.setAttr_glv
@[simp] theorem State.setElem_twn {a : Nat × Nat} {i k : Nat} {v : Int} : (s.setElem a i k v).twn = s.twn := State.setAttr_twn
@[simp] theorem State.setElem_upd {a : Nat × Nat} {i k : Nat} {v : Int} : (s.setElem a i k v).upd = s.upd := State.setAttr_upd
@[simp] theorem State.setElem_dbg {a : Nat × Nat} {i k : Nat} {v : Int} : (s.setElem a i k v).dbg = s.dbg := State.setAttr_dbg
@[simp] theorem State.setElem_pending {a : Nat × Nat} {i k : Nat} {v : Int} : (s.setElem a i k v).pending = s.pending := State.setAttr_pending

@[simp] theorem State.complete_sys {h p r : Nat} {st : Status} : (s.complete h p r st).sys = s.sys := by unfold State.complete; split <;> rfl
@[simp] theorem State.complete_obj {h p r : Nat} {st : Status} : (s.complete h p r st).obj = s.obj := by unfold State.complete; split <;> rfl
@[simp] theorem State.complete_fcr {h p r : Nat} {st : Status} : (s.complete h p r st).fcr = s.fcr := by unfold State.complete; split <;> rfl
@[simp] theorem State.complete_recd {h p r : Nat} {st : Status} : (s.complete h p r st).recd = s.recd := by unfold State.complete; split <;> rfl
@[simp] theorem State.complete_que {h p r : Nat} {st : Status} : (s.complete h p r st).que = s.que := by unfold State.complete; split <;> rfl
@[simp] theorem State.complete_tim {h p r : Nat} {st : Status} : (s.complete h p r st).tim = s.tim := by unfold State.complete; split <;> rfl
@[simp] theorem State.complete_lin {h p r : Nat} {st : Status} : (s.complete h p r st).lin = s.lin := by unfold State.complete; split <;> rfl
@[simp] theorem State.complete_rad {h p r : Nat} {st : Status} : (s.complete h p r st).rad = s.rad := by unfold State.complete; split <;> rfl
@[simp] theorem State.complete_elt {h p r : Nat} {st : Status} : (s.complete h p r st).elt = s.elt := by unfold State.complete; split <;> rfl
@[simp] theorem State.complete_col {h p r : Nat} {st : Status} : (s.complete h p r st).col = s.col := by unfold State.complete; split <;> rfl
@[simp] theorem State.complete_bil {h p r : Nat} {st : Status} : (s.complete h p r st).bil = s.bil := by unfold State.complete; split <;> rfl
@[simp] theorem State.complete_bal {h p r : Nat} {st : Status} : (s.complete h p r st).bal = s.bal := by unfold State.complete; split <;> rfl
@[simp] theorem State.complete_mea {h p r : Nat} {st : Status} : (s.complete h p r st).mea = s.mea := by unfold State.complete; split <;> rfl
@[simp] theorem State.complete_lux {h p r : Nat} {st : Status} : (s.complete h p r st).lux = s.lux := by unfold State.complete; split <;> rfl
@[simp] theorem State.complete_sto {h p r : Nat} {st : Status} : (s.complete h p r st).sto = s.sto := by unfold State.complete; split <;> rfl
@[simp] theorem State.complete_glv {h p r : Nat} {st : Status} : (s.complete h p r st).glv = s.glv := by unfold State.complete; split <;> rfl
@[simp] theorem State.complete_twn {h p r : Nat} {st : Status} : (s.complete h p r st).twn = s.twn := by unfold State.complete; split <;> rfl
@[simp] theorem State.complete_upd {h p r : Nat} {st : Status} : (s.complete h p r st).upd = s.upd := by unfold State.complete; split <;> rfl
@[simp] theorem State.complete_dbg {h p r : Nat} {st : Status} : (s.complete h p r st).dbg = s.dbg := by unfold State.complete; split <;> rfl
@[simp] theorem State.complete_pending {h p r : Nat} {st : Status} : (s.complete h p r st).pending = s.pending := by unfold State.complete; split <;> rfl

@[simp] theorem State.post_sys {k : JKind} : (s.post k).sys = s.sys := by unfold State.post; split <;> rfl
@[simp] theorem State.post_obj {k : JKind} : (s.post k).obj = s.obj := by unfold State.post; split <;> rfl
@[simp] theorem State.post_mbx {k : JKind} : (s.post k).mbx = s.mbx := by unfold State.post; split <;> rfl
@[simp] theorem State.post_fcr {k : JKind} : (s.post k).fcr = s.fcr := by unfold State.post; split <;> rfl
@[simp] theorem State.post_recd {k : JKind} : (s.post k).recd = s.recd := by unfold State.post; split <;> rfl
@[simp] theorem State.post_que {k : JKind} : (s.post k).que = s.que := by unfold State.post; split <;> rfl
@[simp] theorem State.post_tim {k : JKind} : (s.post k).tim = s.tim := by unfold State.post; split <;> rfl
@[simp] theorem State.post_lin {k : JKind} : (s.post k).lin = s.lin := by unfold State.post; split <;> rfl
@[simp] theorem State.post_rad {k : JKind} : (s.post k).rad = s.rad := by unfold State.post; split <;> rfl
@[simp] theorem State.post_elt {k : JKind} : (s.post k).elt = s.elt := by unfold State.post; split <;> rfl
@[simp] theorem State.post_col {k : JKind} : (s.post k).col = s.col := by unfold State.post; split <;> rfl
@[simp] theorem State.post_bil {k : JKind} : (s.post k).bil = s.bil := by unfold State.post; split <;> rfl
@[simp] theorem State.post_bal {k : JKind} : (s.post k).bal = s.bal := by unfold State.post; split <;> rfl
@[simp] theorem State.post_mea {k : JKind} : (s.post k).mea = s.mea := by unfold State.post; split <;> rfl
@[simp] theorem State.post_lux {k : JKind} : (s.post k).lux = s.lux := by unfold State.post; split <;> rfl
@[simp] theorem State.post_glv {k : JKind} : (s.post k).glv = s.glv := by unfold State.post; split <;> rfl
@[simp] theorem State.post_upd {k : JKind} : (s.post k).upd = s.upd := by unfold State.post; split <;> rfl
@[simp] theorem State.post_dbg {k : JKind} : (s.post k).dbg = s.dbg := by unfold State.post; split <;> rfl
@[simp] theorem State.post_pending {k : JKind} : (s.post k).pending = s.pending := by unfold State.post; split <;> rfl

@[simp] theorem State.pop_sys : s.pop.sys = s.sys := rfl
@[simp] theorem State.pop_obj : s.pop.obj = s.obj := rfl
@[simp] theorem State.pop_fcr : s.pop.fcr = s.fcr := rfl
@[simp] theorem State.pop_recd : s.pop.recd = s.recd := rfl
@[simp] theorem State.pop_que : s.pop.que = s.que := rfl
@[simp] theorem State.pop_tim : s.pop.tim = s.tim := rfl
@[simp] theorem State.pop_lin : s.pop.lin = s.lin := rfl
@[simp] theorem State.pop_rad : s.pop.rad = s.rad := rfl
@[simp] theorem State.pop_elt : s.pop.elt = s.elt := rfl
@[simp] theorem State.pop_col : s.pop.col = s.col := rfl
@[simp] theorem State.pop_bil : s.pop.bil = s.bil := rfl
@[simp] theorem State.pop_bal : s.pop.bal = s.bal := rfl
@[simp] theorem State.pop_mea : s.pop.mea = s.mea := rfl
@[simp] theorem State.pop_lux : s.pop.lux = s.lux := rfl
@[simp] theorem State.pop_sto : s.pop.sto = s.sto := rfl
@[simp] theorem State.pop_glv : s.pop.glv = s.glv := rfl
@[simp] theorem State.pop_twn : s.pop.twn = s.twn := rfl
@[simp] theorem State.pop_upd : s.pop.upd = s.upd := rfl
@[simp] theorem State.pop_dbg : s.pop.dbg = s.dbg := rfl
@[simp] theorem State.pop_pending : s.pop.pending = s.pending := rfl

@[simp] theorem State.mark_sys {h q : Nat} {st : Status} : (s.mark h q st).sys = s.sys := rfl
@[simp] theorem State.mark_obj {h q : Nat} {st : Status} : (s.mark h q st).obj = s.obj := rfl
@[simp] theorem State.mark_fcr {h q : Nat} {st : Status} : (s.mark h q st).fcr = s.fcr := rfl
@[simp] theorem State.mark_recd {h q : Nat} {st : Status} : (s.mark h q st).recd = s.recd := rfl
@[simp] theorem State.mark_que {h q : Nat} {st : Status} : (s.mark h q st).que = s.que := rfl
@[simp] theorem State.mark_tim {h q : Nat} {st : Status} : (s.mark h q st).tim = s.tim := rfl
@[simp] theorem State.mark_lin {h q : Nat} {st : Status} : (s.mark h q st).lin = s.lin := rfl
@[simp] theorem State.mark_rad {h q : Nat} {st : Status} : (s.mark h q st).rad = s.rad := rfl
@[simp] theorem State.mark_elt {h q : Nat} {st : Status} : (s.mark h q st).elt = s.elt := rfl
@[simp] theorem State.mark_col {h q : Nat} {st : Status} : (s.mark h q st).col = s.col := rfl
@[simp] theorem State.mark_bil {h q : Nat} {st : Status} : (s.mark h q st).bil = s.bil := rfl
@[simp] theorem State.mark_bal {h q : Nat} {st : Status} : (s.mark h q st).bal = s.bal := rfl
@[simp] theorem State.mark_mea {h q : Nat} {st : Status} : (s.mark h q st).mea = s.mea := rfl
@[simp] theorem State.mark_lux {h q : Nat} {st : Status} : (s.mark h q st).lux = s.lux := rfl
@[simp] theorem State.mark_sto {h q : Nat} {st : Status} : (s.mark h q st).sto = s.sto := rfl
@[simp] theorem State.mark_glv {h q : Nat} {st : Status} : (s.mark h q st).glv = s.glv := rfl
@[simp] theorem State.mark_twn {h q : Nat} {st : Status} : (s.mark h q st).twn = s.twn := rfl
@[simp] theorem State.mark_upd {h q : Nat} {st : Status} : (s.mark h q st).upd = s.upd := rfl
@[simp] theorem State.mark_dbg {h q : Nat} {st : Status} : (s.mark h q st).dbg = s.dbg := rfl
@[simp] theorem State.mark_pending {h q : Nat} {st : Status} : (s.mark h q st).pending = s.pending := rfl

@[simp] theorem State.writeOut_sys {n : Nat} {f : Bytes} : (s.writeOut n f).sys = s.sys := by unfold State.writeOut; dsimp only; split <;> rfl
@[simp] theorem State.writeOut_obj {n : Nat} {f : Bytes} : (s.writeOut n f).obj = s.obj := by unfold State.writeOut; dsimp only; split <;> rfl
@[simp] theorem State.writeOut_fcr {n : Nat} {f : Bytes} : (s.writeOut n f).fcr = s.fcr := by unfold State.writeOut; dsimp only; split <;> rfl
@[simp] theorem State.writeOut_recd {n : Nat} {f : Bytes} : (s.writeOut n f).recd = s.recd := by unfold State.writeOut; dsimp only; split <;> rfl
@[simp] theorem State.writeOut_que {n : Nat} {f : Bytes} : (s.writeOut n f).que = s.que := by unfold State.writeOut; dsimp only; split <;> rfl
@[simp] theorem State.writeOut_tim {n : Nat} {f : Bytes} : (s.writeOut n f).tim = s.tim := by unfold State.writeOut; dsimp only; split <;> rfl
@[simp] theorem State.writeOut_lin {n : Nat} {f : Bytes} : (s.writeOut n f).lin = s.lin := by unfold State.writeOut; dsimp only; split <;> rfl
@[simp] theorem State.writeOut_rad {n : Nat} {f : Bytes} : (s.writeOut n f).rad = s.rad := by unfold State.writeOut; dsimp only; split <;> rfl
@[simp] theorem State.writeOut_elt {n : Nat} {f : Bytes} : (s.writeOut n f).elt = s.elt := by unfold State.writeOut; dsimp only; split <;> rfl
@[simp] theorem State.writeOut_col {n : Nat} {f : Bytes} : (s.writeOut n f).col = s.col := by unfold State.writeOut; dsimp only; split <;> rfl
@[simp] theorem State.writeOut_bil {n : Nat} {f : Bytes} : (s.writeOut n f).bil = s.bil := by unfold State.writeOut; dsimp only; split <;> rfl
@[simp] theorem State.writeOut_bal {n : Nat} {f : Bytes} : (s.writeOut n f).bal = s.bal := by unfold State.writeOut; dsimp only; split <;> rfl
@[simp] theorem State.writeOut_mea {n : Nat} {f : Bytes} : (s.writeOut n f).mea = s.mea := by unfold State.writeOut; dsimp only; split <;> rfl
@[simp] theorem State.writeOut_lux {n : Nat} {f : Bytes} : (s.writeOut n f).lux = s.lux := by unfold State.writeOut; dsimp only; split <;> rfl
@[simp] theorem State.writeOut_sto {n : Nat} {f : Bytes} : (s.writeOut n f).sto = s.sto := by unfold State.writeOut; dsimp only; split <;> rfl
@[simp] theorem State.writeOut_glv {n : Nat} {f : Bytes} : (s.writeOut n f).glv = s.glv := by unfold State.writeOut; dsimp only; split <;> rfl
@[simp] theorem State.writeOut_twn {n : Nat} {f : Bytes} : (s.writeOut n f).twn = s.twn := by unfold State.writeOut; dsimp only; split <;> rfl
@[simp] theorem State.writeOut_upd {n : Nat} {f : Bytes} : (s.writeOut n f).upd = s.upd := by unfold State.writeOut; dsimp only; split <;> rfl
@[simp] theorem State.writeOut_dbg {n : Nat} {f : Bytes} : (s.writeOut n f).dbg = s.dbg := by unfold State.writeOut; dsimp only; split <;> rfl
@[simp] theorem State.writeOut_pending {n : Nat} {f : Bytes} : (s.writeOut n f).pending = s.pending := by unfold State.writeOut; dsimp only; split <;> rfl

@[simp] theorem State.deliver_sys {c : Src} {f : Bytes} : (s.deliver c f).sys = s.sys := by unfold State.deliver; split; (split; rfl; exact State.writeOut_sys); rfl; rfl
@[simp] theorem State.deliver_obj {c : Src} {f : Bytes} : (s.deliver c f).obj = s.obj := by unfold State.deliver; split; (split; rfl; exact State.writeOut_obj); rfl; rfl
@[simp] theorem State.deliver_fcr {c : Src} {f : Bytes} : (s.deliver c f).fcr = s.fcr := by unfold State.deliver; split; (split; rfl; exact State.writeOut_fcr); rfl; rfl
@[simp] theorem State.deliver_recd {c : Src} {f : Bytes} : (s.deliver c f).recd = s.recd := by unfold State.deliver; split; (split; rfl; exact State.writeOut_recd); rfl; rfl
@[simp] theorem State.deliver_que {c : Src} {f : Bytes} : (s.deliver c f).que = s.que := by unfold State.deliver; split; (split; rfl; exact State.writeOut_que); rfl; rfl
@[simp] theorem State.deliver_tim {c : Src} {f : Bytes} : (s.deliver c f).tim = s.tim := by unfold State.deliver; split; (split; rfl; exact State.writeOut_tim); rfl; rfl
@[simp] theorem State.deliver_lin {c : Src} {f : Bytes} : (s.deliver c f).lin = s.lin := by unfold State.deliver; split; (split; rfl; exact State.writeOut_lin); rfl; rfl
@[simp] theorem State.deliver_rad {c : Src} {f : Bytes} : (s.deliver c f).rad = s.rad := by unfold State.deliver; split; (split; rfl; exact State.writeOut_rad); rfl; rfl
@[simp] theorem State.deliver_elt {c : Src} {f : Bytes} : (s.deliver c f).elt = s.elt := by unfold State.deliver; split; (split; rfl; exact State.writeOut_elt); rfl; rfl
@[simp] theorem State.deliver_col {c : Src} {f : Bytes} : (s.deliver c f).col = s.col := by unfold State.deliver; split; (split; rfl; exact State.writeOut_col); rfl; rfl
@[simp] theorem State.deliver_bil {c : Src} {f : Bytes} : (s.deliver c f).bil = s.bil := by unfold State.deliver; split; (split; rfl; exact State.writeOut_bil); rfl; rfl
@[simp] theorem State.deliver_bal {c : Src} {f : Bytes} : (s.deliver c f).bal = s.bal := by unfold State.deliver; split; (split; rfl; exact State.writeOut_bal); rfl; rfl
@[simp] theorem State.deliver_mea {c : Src} {f : Bytes} : (s.deliver c f).mea = s.mea := by unfold State.deliver; split; (split; rfl; exact State.writeOut_mea); rfl; rfl
@[simp] theorem State.deliver_lux {c : Src} {f : Bytes} : (s.deliver c f).lux = s.lux := by unfold State.deliver; split; (split; rfl; exact State.writeOut_lux); rfl; rfl
@[simp] theorem State.deliver_sto {c : Src} {f : Bytes} : (s.deliver c f).sto = s.sto := by unfold State.deliver; split; (split; rfl; exact State.writeOut_sto); rfl; rfl
@[simp] theorem State.deliver_glv {c : Src} {f : Bytes} : (s.deliver c f).glv = s.glv := by unfold State.deliver; split; (split; rfl; exact State.writeOut_glv); rfl; rfl
@[simp] theorem State.deliver_twn {c : Src} {f : Bytes} : (s.deliver c f).twn = s.twn := by unfold State.deliver; split; (split; rfl; exact State.writeOut_twn); rfl; rfl
@[simp] theorem State.deliver_upd {c : Src} {f : Bytes} : (s.deliver c f).upd = s.upd := by unfold State.deliver; split; (split; rfl; exact State.writeOut_upd); rfl; rfl
@[simp] theorem State.deliver_dbg {c : Src} {f : Bytes} : (s.deliver c f).dbg = s.dbg := by unfold State.deliver; split; (split; rfl; exact State.writeOut_dbg); rfl; rfl
@[simp] theorem State.deliver_pending {c : Src} {f : Bytes} : (s.deliver c f).pending = s.pending := by unfold State.deliver; split; (split; rfl; exact State.writeOut_pending); rfl; rfl

@[simp] theorem State.answer_sys {c : Cmd} {r : Reply} : (s.answer c r).sys = s.sys := by
  unfold State.answer
  repeat' split
  all_goals simp only [State.deliver_sys, State.setPair_sys]
@[simp] theorem State.answer_obj {c : Cmd} {r : Reply} : (s.answer c r).obj = s.obj := by
  unfold State.answer
  repeat' split
  all_goals simp only [State.deliver_obj, State.setPair_obj]
@[simp] theorem State.answer_fcr {c : Cmd} {r : Reply} : (s.answer c r).fcr = s.fcr := by
  unfold State.answer
  repeat' split
  all_goals simp only [State.deliver_fcr, State.setPair_fcr]
@[simp] theorem State.answer_recd {c : Cmd} {r : Reply} : (s.answer c r).recd = s.recd := by
  unfold State.answer
  repeat' split
  all_goals simp only [State.deliver_recd, State.setPair_recd]
@[simp] theorem State.answer_que {c : Cmd} {r : Reply} : (s.answer c r).que = s.que := by
  unfold State.answer
  repeat' split
  all_goals simp only [State.deliver_que, State.setPair_que]
@[simp] theorem State.answer_tim {c : Cmd} {r : Reply} : (s.answer c r).tim = s.tim := by
  unfold State.answer
  repeat' split
  all_goals simp only [State.deliver_tim, State.setPair_tim]
@[simp] theorem State.answer_lin {c : Cmd} {r : Reply} : (s.answer c r).lin = s.lin := by
  unfold State.answer
  repeat' split
  all_goals simp only [State.deliver_lin, State.setPair_lin]
@[simp] theorem State.answer_rad {c : Cmd} {r : Reply} : (s.answer c r).rad = s.rad := by
  unfold State.answer
  repeat' split
  all_goals simp only [State.deliver_rad, State.setPair_rad]
@[simp] theorem State.answer_elt {c : Cmd} {r : Reply} : (s.answer c r).elt = s.elt := by
  unfold State.answer
  repeat' split
  all_goals simp only [State.deliver_elt, State.setPair_elt]
@[simp] theorem State.answer_col {c : Cmd} {r : Reply} : (s.answer c r).col = s.col := by
  unfold State.answer
  repeat' split
  all_goals simp only [State.deliver_col, State.setPair_col]
@[simp] theorem State.answer_bil {c : Cmd} {r : Reply} : (s.answer c r).bil = s.bil := by
  unfold State.answer
  repeat' split
  all_goals simp only [State.deliver_bil, State.setPair_bil]
@[simp] theorem State.answer_bal {c : Cmd} {r : Reply} : (s.answer c r).bal = s.bal := by
  unfold State.answer
  repeat' split
  all_goals simp only [State.deliver_bal, State.setPair_bal]
@[simp] theorem State.answer_mea {c : Cmd} {r : Reply} : (s.answer c r).mea = s.mea := by
  unfold State.answer
  repeat' split
  all_goals simp only [State.deliver_mea, State.setPair_mea]
@[simp] theorem State.answer_lux {c : Cmd} {r : Reply} : (s.answer c r).lux = s.lux := by
  unfold State.answer
  repeat' split
  all_goals simp only [State.deliver_lux, State.setPair_lux]
@[simp] theorem State.answer_sto {c : Cmd} {r : Reply} : (s.answer c r).sto = s.sto := by
  unfold State.answer
  repeat' split
  all_goals simp only [State.deliver_sto, State.setPair_sto]
@[simp] theorem State.answer_glv {c : Cmd} {r : Reply} : (s.answer c r).glv = s.glv := by
  unfold State.answer
  repeat' split
  all_goals simp only [State.deliver_glv, State.setPair_glv]
@[simp] theorem State.answer_twn {c : Cmd} {r : Reply} : (s.answer c r).twn = s.twn := by
  unfold State.answer
  repeat' split
  all_goals simp only [State.deliver_twn, State.setPair_twn]
@[simp] theorem State.answer_upd {c : Cmd} {r : Reply} : (s.answer c r).upd = s.upd := by
  unfold State.answer
  repeat' split
  all_goals simp only [State.deliver_upd, State.setPair_upd]
@[simp] theorem State.answer_dbg {c : Cmd} {r : Reply} : (s.answer c r).dbg = s.dbg := by
  unfold State.answer
  repeat' split
  all_goals simp only [State.deliver_dbg, State.setPair_dbg]
@[simp] theorem State.answer_pending {c : Cmd} {r : Reply} : (s.answer c r).pending = s.pending := by
  unfold State.answer
  repeat' split
  all_goals simp only [State.deliver_pending, State.setPair_pending]

@[simp] theorem State.endSession_sys {h : Nat} : (s.endSession h).sys = s.sys := rfl
@[simp] theorem State.endSession_obj {h : Nat} : (s.endSession h).obj = s.obj := rfl
@[simp] theorem State.endSession_fcr {h : Nat} : (s.endSession h).fcr = s.fcr := rfl
@[simp] theorem State.endSession_recd {h : Nat} : (s.endSession h).recd = s.recd := rfl
@[simp] theorem State.endSession_que {h : Nat} : (s.endSession h).que = s.que := rfl
@[simp] theorem State.endSession_tim {h : Nat} : (s.endSession h).tim = s.tim := rfl
@[simp] theorem State.endSession_lin {h : Nat} : (s.endSession h).lin = s.lin := rfl
@[simp] theorem State.endSession_rad {h : Nat} : (s.endSession h).rad = s.rad := rfl
@[simp] theorem State.endSession_elt {h : Nat} : (s.endSession h).elt = s.elt := rfl
@[simp] theorem State.endSession_col {h : Nat} : (s.endSession h).col = s.col := rfl
@[simp] theorem State.endSession_bil {h : Nat} : (s.endSession h).bil = s.bil := rfl
@[simp] theorem State.endSession_bal {h : Nat} : (s.endSession h).bal = s.bal := rfl
@[simp] theorem State.endSession_mea {h : Nat} : (s.endSession h).mea = s.mea := rfl
@[simp] theorem State.endSession_lux {h : Nat} : (s.endSession h).lux = s.lux := rfl
@[simp] theorem State.endSession_sto {h : Nat} : (s.endSession h).sto = s.sto := rfl
@[simp] theorem State.endSession_glv {h : Nat} : (s.endSession h).glv = s.glv := rfl
@[simp] theorem State.endSession_twn {h : Nat} : (s.endSession h).twn = s.twn := rfl
@[simp] theorem State.endSession_upd {h : Nat} : (s.endSession h).upd = s.upd := rfl
@[simp] theorem State.endSession_dbg {h : Nat} : (s.endSession h).dbg = s.dbg := rfl
@[simp] theorem State.endSession_pending {h : Nat} : (s.endSession h).pending = s.pending := rfl

theorem State.answer_fold {l : List Cmd} {n : Nat} {P : State → Prop} (hP : ∀ t c, P t → P (t.answerDuplicate c n)) (h : P s) :
    P (l.foldl (fun t x => t.answerDuplicate x n) s) := by
  induction l generalizing s with
  | nil => exact h
  | cons x t ih => exact ih (hP s x h)

@[simp] theorem State.respond_sys {c : Cmd} {r : Reply} : (s.respond c r).sys = s.sys :=
  State.answer_fold (P := fun t => t.sys = s.sys) (fun t c h => State.answer_sys.trans h) (by simp)
@[simp] theorem State.respond_obj {c : Cmd} {r : Reply} : (s.respond c r).obj = s.obj :=
  State.answer_fold (P := fun t => t.obj = s.obj) (fun t c h => State.answer_obj.trans h) (by simp)
@[simp] theorem State.respond_fcr {c : Cmd} {r : Reply} : (s.respond c r).fcr = s.fcr :=
  State.answer_fold (P := fun t => t.fcr = s.fcr) (fun t c h => State.answer_fcr.trans h) (by simp)
@[simp] theorem State.respond_recd {c : Cmd} {r : Reply} : (s.respond c r).recd = s.recd :=
  State.answer_fold (P := fun t => t.recd = s.recd) (fun t c h => State.answer_recd.trans h) (by simp)
@[simp] theorem State.respond_que {c : Cmd} {r : Reply} : (s.respond c r).que = s.que :=
  State.answer_fold (P := fun t => t.que = s.que) (fun t c h => State.answer_que.trans h) (by simp)
@[simp] theorem State.respond_tim {c : Cmd} {r : Reply} : (s.respond c r).tim = s.tim :=
  State.answer_fold (P := fun t => t.tim = s.tim) (fun t c h => State.answer_tim.trans h) (by simp)
@[simp] theorem State.respond_lin {c : Cmd} {r : Reply} : (s.respond c r).lin = s.lin :=
  State.answer_fold (P := fun t => t.lin = s.lin) (fun t c h => State.answer_lin.trans h) (by simp)
@[simp] theorem State.respond_rad {c : Cmd} {r : Reply} : (s.respond c r).rad = s.rad :=
  State.answer_fold (P := fun t => t.rad = s.rad) (fun t c h => State.answer_rad.trans h) (by simp)
@[simp] theorem State.respond_elt {c : Cmd} {r : Reply} : (s.respond c r).elt = s.elt :=
  State.answer_fold (P := fun t => t.elt = s.elt) (fun t c h => State.answer_elt.trans h) (by simp)
@[simp] theorem State.respond_col {c : Cmd} {r : Reply} : (s.respond c r).col = s.col :=
  State.answer_fold (P := fun t => t.col = s.col) (fun t c h => State.answer_col.trans h) (by simp)
@[simp] theorem State.respond_bil {c : Cmd} {r : Reply} : (s.respond c r).bil = s.bil :=
  State.answer_fold (P := fun t => t.bil = s.bil) (fun t c h => State.answer_bil.trans h) (by simp)
@[simp] theorem State.respond_bal {c : Cmd} {r : Reply} : (s.respond c r).bal = s.bal :=
  State.answer_fold (P := fun t => t.bal = s.bal) (fun t c h => State.answer_bal.trans h) (by simp)
@[simp] theorem State.respond_mea {c : Cmd} {r : Reply} : (s.respond c r).mea = s.mea :=
  State.answer_fold (P := fun t => t.mea = s.mea) (fun t c h => State.answer_mea.trans h) (by simp)
@[simp] theorem State.respond_lux {c : Cmd} {r : Reply} : (s.respond c r).lux = s.lux :=
  State.answer_fold (P := fun t => t.lux = s.lux) (fun t c h => State.answer_lux.trans h) (by simp)
@[simp] theorem State.respond_sto {c : Cmd} {r : Reply} : (s.respond c r).sto = s.sto :=
  State.answer_fold (P := fun t => t.sto = s.sto) (fun t c h => State.answer_sto.trans h) (by simp)
@[simp] theorem State.respond_glv {c : Cmd} {r : Reply} : (s.respond c r).glv = s.glv :=
  State.answer_fold (P := fun t => t.glv = s.glv) (fun t c h => State.answer_glv.trans h) (by simp)
@[simp] theorem State.respond_twn {c : Cmd} {r : Reply} : (s.respond c r).twn = s.twn :=
  State.answer_fold (P := fun t => t.twn = s.twn) (fun t c h => State.answer_twn.trans h) (by simp)
@[simp] theorem State.respond_upd {c : Cmd} {r : Reply} : (s.respond c r).upd = s.upd :=
  State.answer_fold (P := fun t => t.upd = s.upd) (fun t c h => State.answer_upd.trans h) (by simp)
@[simp] theorem State.respond_dbg {c : Cmd} {r : Reply} : (s.respond c r).dbg = s.dbg :=
  State.answer_fold (P := fun t => t.dbg = s.dbg) (fun t c h => State.answer_dbg.trans h) (by simp)
@[simp] theorem State.respond_pending {c : Cmd} {r : Reply} : (s.respond c r).pending = s.pending :=
  State.answer_fold (P := fun t => t.pending = s.pending) (fun t c h => State.answer_pending.trans h) (by simp)

@[simp] theorem State.finish_sys {c : Cmd} {r : Reply} : (s.finish c r).sys = s.sys := by
  unfold State.finish; dsimp only; split; simp; split <;> simp
@[simp] theorem State.finish_obj {c : Cmd} {r : Reply} : (s.finish c r).obj = s.obj := by
  unfold State.finish; dsimp only; split; simp; split <;> simp
@[simp] theorem State.finish_fcr {c : Cmd} {r : Reply} : (s.finish c r).fcr = s.fcr := by
  unfold State.finish; dsimp only; split; simp; split <;> simp
@[simp] theorem State.finish_recd {c : Cmd} {r : Reply} : (s.finish c r).recd = s.recd := by
  unfold State.finish; dsimp only; split; simp; split <;> simp
@[simp] theorem State.finish_que {c : Cmd} {r : Reply} : (s.finish c r).que = s.que := by
  unfold State.finish; dsimp only; split; simp; split <;> simp
@[simp] theorem State.finish_tim {c : Cmd} {r : Reply} : (s.finish c r).tim = s.tim := by
  unfold State.finish; dsimp only; split; simp; split <;> simp
@[simp] theorem State.finish_lin {c : Cmd} {r : Reply} : (s.finish c r).lin = s.lin := by
  unfold State.finish; dsimp only; split; simp; split <;> simp
@[simp] theorem State.finish_rad {c : Cmd} {r : Reply} : (s.finish c r).rad = s.rad := by
  unfold State.finish; dsimp only; split; simp; split <;> simp
@[simp] theorem State.finish_elt {c : Cmd} {r : Reply} : (s.finish c r).elt = s.elt := by
  unfold State.finish; dsimp only; split; simp; split <;> simp
@[simp] theorem State.finish_col {c : Cmd} {r : Reply} : (s.finish c r).col = s.col := by
  unfold State.finish; dsimp only; split; simp; split <;> simp
@[simp] theorem State.finish_bil {c : Cmd} {r : Reply} : (s.finish c r).bil = s.bil := by
  unfold State.finish; dsimp only; split; simp; split <;> simp
@[simp] theorem State.finish_bal {c : Cmd} {r : Reply} : (s.finish c r).bal = s.bal := by
  unfold State.finish; dsimp only; split; simp; split <;> simp
@[simp] theorem State.finish_mea {c : Cmd} {r : Reply} : (s.finish c r).mea = s.mea := by
  unfold State.finish; dsimp only; split; simp; split <;> simp
@[simp] theorem State.finish_lux {c : Cmd} {r : Reply} : (s.finish c r).lux = s.lux := by
  unfold State.finish; dsimp only; split; simp; split <;> simp
@[simp] theorem State.finish_sto {c : Cmd} {r : Reply} : (s.finish c r).sto = s.sto := by
  unfold State.finish; dsimp only; split; simp; split <;> simp
@[simp] theorem State.finish_glv {c : Cmd} {r : Reply} : (s.finish c r).glv = s.glv := by
  unfold State.finish; dsimp only; split; simp; split <;> simp
@[simp] theorem State.finish_twn {c : Cmd} {r : Reply} : (s.finish c r).twn = s.twn := by
  unfold State.finish; dsimp only; split; simp; split <;> simp
@[simp] theorem State.finish_upd {c : Cmd} {r : Reply} : (s.finish c r).upd = s.upd := by
  unfold State.finish; dsimp only; split; simp; split <;> simp
@[simp] theorem State.finish_dbg {c : Cmd} {r : Reply} : (s.finish c r).dbg = s.dbg := by
  unfold State.finish; dsimp only; split; simp; split <;> simp
@[simp] theorem State.finish_pending {c : Cmd} {r : Reply} : (s.finish c r).pending = s.pending := by
  unfold State.finish; dsimp only; split; simp; split <;> simp

/-! ### Reading attributes after writing them -/

@[simp] theorem State.attr_setAttr {a : Nat × Nat} {i : Nat} {v : Val} : (s.setAttr a i v).attr a i = v := by
  by_cases h : s.attr a i = v
  · simp [State.setAttr, h]
  · unfold State.setAttr
    rw [if_neg h]
    exact Assoc.getD_set_same

theorem State.attr_setAttr_ne {a b : Nat × Nat} {i j : Nat} {v : Val} (h : mkPath b.1 j b.2 ≠ mkPath a.1 i a.2) : (s.setAttr a i v).attr b j = s.attr b j := by
  unfold State.setAttr
  split
  · rfl
  · exact Assoc.getD_set_ne h

@[simp] theorem State.nat_setNat {a : Nat × Nat} {i v : Nat} : (s.setNat a i v).nat a i = v := by simp [State.nat, State.int, State.setNat]

@[simp] theorem State.flag_setFlag {a : Nat × Nat} {i : Nat} {v : Bool} : (s.setFlag a i v).flag a i = v := by
  cases v <;> simp [State.flag, State.int, State.setFlag]

@[simp] theorem State.int_setInt {a : Nat × Nat} {i : Nat} {v : Int} : (s.setInt a i v).int a i = v := by simp [State.int, State.setInt]

@[simp] theorem State.nat_bump {w i n : Nat} {a : Nat × Nat} : (s.bump w a i n).nat a i = (s.nat a i + n) % 2 ^ w := State.nat_setNat

@[simp] theorem State.nat_bumpSat {w i n : Nat} {a : Nat × Nat} : (s.bumpSat w a i n).nat a i = min (s.nat a i + n) (2 ^ w - 1) := State.nat_setNat

/-- A write leaves every attribute whose path differs; so two attributes of one instance, and any two attribute numbers, are told apart. -/
theorem State.nat_setNat_ne {a b : Nat × Nat} {i j v : Nat} (h : mkPath b.1 j b.2 ≠ mkPath a.1 i a.2) : (s.setNat a i v).nat b j = s.nat b j := by
  simp only [State.nat, State.int, State.setNat, State.attr_setAttr_ne h]

theorem State.flag_setFlag_ne {a b : Nat × Nat} {i j : Nat} {v : Bool} (h : mkPath b.1 j b.2 ≠ mkPath a.1 i a.2) : (s.setFlag a i v).flag b j = s.flag b j := by
  simp only [State.flag, State.int, State.setFlag, State.attr_setAttr_ne h]

/-- Attributes depend on the object store alone. -/
theorem State.attr_congr {t : State} (h : t.obj = s.obj) (a : Nat × Nat) (i : Nat) : t.attr a i = s.attr a i := by simp only [State.attr, h]

theorem State.nat_congr {t : State} (h : t.obj = s.obj) (a : Nat × Nat) (i : Nat) : t.nat a i = s.nat a i := by simp only [State.nat, State.int, State.attr, h]

theorem State.flag_congr {t : State} (h : t.obj = s.obj) (a : Nat × Nat) (i : Nat) : t.flag a i = s.flag a i := by simp only [State.flag, State.int, State.attr, h]

end Sys2Proof.Machine
end

