-- ==== Sys2Proof/Laws/Mailbox.lean ====
section
/-! SUPPORT. What running a served command does: its body's effect, and its answer in the outbound buffer of the pair it came through. -/

namespace Sys2Proof.Machine

variable {s u : State} {c : Cmd} {n : Nat}

/-- The state `u` has the pairs and repeats of `s`, and its taken commands but the first. -/
structure Poised (s u : State) : Prop where
  pairs : u.mbx.pairs = s.mbx.pairs
  repeats : u.mbx.repeats = s.mbx.repeats
  taken : u.mbx.taken = s.mbx.taken.tail

theorem poised_pop : Poised s s.pop := ⟨rfl, rfl, rfl⟩

theorem Poised.of_mbx {t : State} (h : Poised s u) (e : t.mbx = u.mbx) : Poised s t := ⟨e ▸ h.pairs, e ▸ h.repeats, e ▸ h.taken⟩

theorem Mailbox.notify_pairs {m : Mailbox} {e : Entry} : (m.notify e).pairs = m.pairs ∧ (m.notify e).repeats = m.repeats ∧ (m.notify e).taken = m.taken := by
  unfold Mailbox.notify
  dsimp only
  split
  · split <;> exact ⟨rfl, rfl, rfl⟩
  · exact ⟨rfl, rfl, rfl⟩

theorem Mailbox.notifyAll_pairs {m : Mailbox} {es : List Entry} :
    (m.notifyAll es).pairs = m.pairs ∧ (m.notifyAll es).repeats = m.repeats ∧ (m.notifyAll es).taken = m.taken := by
  unfold Mailbox.notifyAll
  induction es generalizing m with
  | nil => exact ⟨rfl, rfl, rfl⟩
  | cons x t ih =>
    obtain ⟨a, b, d⟩ := ih (m := m.notify x)
    obtain ⟨a', b', d'⟩ := Mailbox.notify_pairs (m := m) (e := x)
    exact ⟨a.trans a', b.trans b', d.trans d'⟩

/-- A write of an attribute leaves the pairs and the commands taken. -/
theorem Poised.setAttr {a : Nat × Nat} {i : Nat} {v : Val} (h : Poised s u) : Poised s (u.setAttr a i v) := by
  unfold State.setAttr
  split
  · exact h
  · obtain ⟨x, y, z⟩ := Mailbox.notifyAll_pairs (m := u.mbx)
      (es := changeEntries (u.fencedObject a.1 i) u.mbx.subs (mkPath a.1 i a.2) ((u.version a.1 i + 1) % 2 ^ 32) (((attrInfo a).map (fun t => encodeVal t.ty v)).getD []))
    exact ⟨x.trans h.pairs, y.trans h.repeats, z.trans h.taken⟩

theorem Poised.touch {a : Nat × Nat} {i : Nat} {v : Val} (h : Poised s u) : Poised s (u.touch a i v) := by
  obtain ⟨x, y, z⟩ := Mailbox.notifyAll_pairs (m := u.mbx)
    (es := changeEntries (u.fencedObject a.1 i) u.mbx.subs (mkPath a.1 i a.2) ((u.version a.1 i + 1) % 2 ^ 32) (((attrInfo a).map (fun t => encodeVal t.ty v)).getD []))
  exact ⟨x.trans h.pairs, y.trans h.repeats, z.trans h.taken⟩

theorem Poised.complete {h' p r : Nat} {st : Status} (h : Poised s u) : Poised s (u.complete h' p r st) := by
  unfold State.complete
  split
  · obtain ⟨x, y, z⟩ := Mailbox.notify_pairs (m := u.mbx) (e := { session := h', sub := 0, kind := kindComplete, path := p, arrival := r, status := st.code, data := [] })
    exact ⟨x.trans h.pairs, y.trans h.repeats, z.trans h.taken⟩
  · exact h

theorem Poised.ite {p : Prop} [Decidable p] {a b : State} (ha : Poised s a) (hb : Poised s b) : Poised s (if p then a else b) := by split <;> assumption

theorem Poised.foldl {α} {g : State → α → State} {l : List α} (hg : ∀ t x, Poised s t → Poised s (g t x)) (h : Poised s u) : Poised s (l.foldl g u) := by
  induction l generalizing u with
  | nil => exact h
  | cons x t ih => exact ih (hg u x h)

/-- The answer of a command whose pair is free stands in its outbound buffer. -/
theorem State.writeOut_answered {f : Bytes} (hn : n < u.mbx.pairs.length) :
    ((u.writeOut n f).pair n).outbuf = f ∧ ((u.writeOut n f).pair n).outFull = true ∧ ((u.writeOut n f).pair n).inBusy = false ∧
      (u.writeOut n f).mbx.taken = u.mbx.taken ∧ (u.writeOut n f).mbx.repeats = u.mbx.repeats := by
  have key : ∀ p : Pair, ((u.setPair n p).pair n) = p := by
    intro p
    simp [State.pair, State.setPair, hn]
  unfold State.writeOut
  dsimp only
  split
  · have h := key { u.pair n with outbuf := f, outFull := true, inBusy := false, waiting := none }
    refine ⟨?_, ?_, ?_, rfl, rfl⟩
    · exact congrArg Pair.outbuf h
    · exact congrArg Pair.outFull h
    · exact congrArg Pair.inBusy h
  · rw [key]
    exact ⟨rfl, rfl, rfl, rfl, rfl⟩

theorem State.respond_answered {r : Reply} (hp : Poised s u) (hc : c.src = .pair n) (hn : n < s.mbx.pairs.length) (hf : (s.pair n).outFull = false)
    (hr : s.mbx.repeats = []) (hd : r.data.length ≤ 4064) : Answered s (u.respond c r) c n r.status r.data := by
  have hn' : n < (u.mark c.session c.seq r.status).mbx.pairs.length := by simpa [State.mark, State.modSession, hp.pairs] using hn
  have hf' : ((u.mark c.session c.seq r.status).pair n).outFull = false := by simpa [State.pair, State.mark, State.modSession, hp.pairs] using hf
  have ha : (u.mark c.session c.seq r.status).answer c r = (u.mark c.session c.seq r.status).writeOut n (responseFrame c r.status false r.data) := by
    simp [State.answer, hd, State.deliver, hc, hf']
  obtain ⟨h1, h2, h3, h4, h5⟩ := State.writeOut_answered (f := responseFrame c r.status false r.data) hn'
  have h6 : (u.mark c.session c.seq r.status).mbx.repeats = [] := hp.repeats.trans hr
  unfold State.respond
  simp only [ha, h5, h6, List.filter_nil, List.foldl_nil]
  exact ⟨h1, h2, h3, h4.trans hp.taken⟩

theorem State.finish_answered {r : Reply} (hp : Poised s u) (hc : c.src = .pair n) (hn : n < s.mbx.pairs.length) (hf : (s.pair n).outFull = false)
    (hr : s.mbx.repeats = []) (hw : bit c.flags flagNoWait = false) (hd : r.data.length ≤ 4064) : Answered s (u.finish c r) c n r.status r.data := by
  unfold State.finish
  dsimp only
  split
  · exact State.respond_answered (u := { u with mbx := { u.mbx with awaiting := u.mbx.awaiting ++ [_] } }) ⟨hp.pairs, hp.repeats, hp.taken⟩ hc hn hf hr hd
  · rw [hw]
    exact State.respond_answered hp hc hn hf hr hd

/-- A served command is executed: the body's effect and its answer. -/
theorem State.Serves.run {b : Body} {op : Nat} (h : s.Serves c n) (ho : c.opcode = op) : runOpcode op b s = .next ((b c s.pop).2.finish c (b c s.pop).1) := by
  simp [runOpcode, h.front, ho, State.run, h.aborting]

theorem State.Serves.runMethod {b : Body} {cls m : Nat} (h : s.Serves c n) (ho : c.opcode = opAction) (hc : pathCls c.path = cls) (hm : pathAttr c.path = m) :
    runMethod cls m b s = .next ((b c s.pop).2.finish c (b c s.pop).1) := by
  simp [Machine.runMethod, h.front, ho, hc, hm, State.run, h.aborting]

theorem State.Serves.answered {r : Reply} (h : s.Serves c n) (hp : Poised s u) (hd : r.data.length ≤ 4064) : Answered s (u.finish c r) c n r.status r.data :=
  State.finish_answered hp h.src h.pair h.free h.repeats h.waits hd

end Sys2Proof.Machine
end

