-- ==== Sys2Proof/WellFormed.lean ====
section
/-! DEFINITION. Which commands are well formed: every operand that names a unit, a register or a buffer lies in the range the spec gives it, and every word operand fits its width. A command
that is not well formed stands for no event of the hardware; execution does not rest on it. -/

namespace Sys2Proof

/-- A port of the 16 of a kind: line (R123), radio (R218), serial (Table 20-3). -/
def portOk (p : Nat) : Bool := decide (p < 16)

/-- One of the 48 line lanes (R123). -/
def laneOk (l : Nat) : Bool := decide (l < 48)

/-- An EUI-64 or another 64-bit key. -/
def keyOk (k : Nat) : Bool := decide (k < 2 ^ 64)

/-- A 16-bit cell number or short address. -/
def cellOk (c : Nat) : Bool := decide (c < 2 ^ 16)

/-- An endpoint handle: 21 bits (00_scope.md). -/
def handleOk (h : Nat) : Bool := decide (h < 2 ^ 21)

/-- A word of 32 bits. -/
def wordOk (v : Nat) : Bool := decide (v < 2 ^ 32)

/-- A reader of the RTC's shadows: 0 PCIe, 1 Purel (R589). -/
def readerOk (w : Nat) : Bool := decide (w < 2)

/-- A source number lies in domains 1 to 20 (R673). -/
def sourceOk (n : Nat) : Bool := decide (16 ≤ n) && decide (n < 336)

/-- A protected payload: its counter has 32 bits, and a generation of keys 4 (R314, Table 14-3). -/
def Secured.wf (x : Secured) : Bool := decide (x.counter < 2 ^ 32) && (match x.gen with | none => true | some g => decide (g < 16))

/-- A line frame comes from one of 16 ports over one of 48 lanes, and no more codewords fail than were decoded. -/
def LineRx.wf (x : LineRx) : Bool := portOk x.port && laneOk x.lane && decide (x.failed ≤ x.codewords) && x.content.wf

/-- A radio frame comes from one of 16 ports with an 8-bit sequence number, a cell and a short address of 16 bits, and a 64-bit key where it has one. -/
def RadioRx.wf (x : RadioRx) : Bool :=
  portOk x.port && cellOk x.cell && cellOk x.short && decide (x.seq < 256) && (match x.key with | none => true | some k => keyOk k) && x.content.wf

/-- An admission request: EUI-64 and octet-wide fields (Tables 05-3 and 05-9). -/
def AdmitReq.wf (r : AdmitReq) : Bool :=
  cellOk r.cell && keyOk r.eui && decide (r.caps < 256) && decide (r.longSpan < 256) && decide (r.streams < 256) && decide (r.role < 256)

/-- A report into the collector names a source; the rail pattern of a path fault has two bits (R669). -/
def FaultFact.wf (f : FaultFact) : Bool := sourceOk f.source && (match f.path with | none => true | some p => decide (p < 4))

/-- A meter register report holds 34 register values (R371). -/
def MeterReport.wf (r : MeterReport) : Bool := handleOk r.handle && decide (r.values.length = 34)

/-- A Cobor message comes over a lane or from a member, from side 0 or 1, with sequences of 32 bits (R642, Table 16-13). -/
def Cobor.wf (m : Cobor) : Bool := decide (m.link < 2 ^ 16 + 8) && decide (m.side < 2) && wordOk m.seq && wordOk m.acked

/-- What a boot meets: one-bit side strap, two-bit boot strap (Table 03-5). -/
def BootFacts.wf (f : BootFacts) : Bool := decide (f.twinSide < 2) && decide (f.bootSel < 4)

/-- A tone map of one region: 1,974 codes of 4 bits in 987 octets (Table 05-3). -/
def ToneMap.wf (m : ToneMap) : Bool := decide (m.codes.length = 987)

/-- What a host writes before a doorbell fits the 4 KiB inbound buffer and the 1 MiB BAR4 slice (R35, R36). -/
def BufWrite.wf (w : BufWrite) : Bool := decide (w.frame.length ≤ 4096) && decide (w.bulk.length ≤ 1048576)

/-- A policy table denies at most 1,024 targets (Table 18-6). -/
def Policy.wf (p : Policy) : Bool := decide (p.deny.length ≤ 1024)

/-- A report of a campaign target names blocks of a 4 MiB image, or a SHA-256 (Table 17-5). -/
def TargetReport.wf : TargetReport → Bool
  | .held bs => bs.all (fun b => decide (b < 8192))
  | .digest d => decide (d.length = 32)
  | .running d => decide (d.length = 32)

/-- The well-formed commands. -/
def Instr.wf : Instr → Bool
  | .unfence _ fails => fails.all FaultFact.wf
  | .selfTestDeep _ fails => fails.all FaultFact.wf
  | .policyLoad p => p.wf
  | .inRing n w => decide (n < 64) && w.all BufWrite.wf
  | .outDone n => decide (n < 64)
  | .responseWritten n => decide (n < 64)
  | .remoteFrame a v _ _ f => decide (a < 16) && decide (1 ≤ v) && decide (v ≤ 8) && decide (f.length ≤ 4096)
  | .commandComplete a _ => wordOk a
  | .periodic id => decide (id < 2 ^ 16)
  | .sessionIdleTimeout h => decide (h < 2 ^ 16)
  | .credentialLockEnd k => wordOk k
  | .energizeWindowExpiry a => wordOk a
  | .resetCtrlPurel k => decide (k < 256)
  | .resetCtrlChip k => decide (k < 256)
  | .boot f => f.wf
  | .hostloadChunk k _ d => decide (k < 256) && decide (d.length ≤ 1048576)
  | .hostloadLast k _ d => decide (k < 256) && decide (d.length ≤ 1048576)
  | .hostloadAbort k => decide (k < 256)
  | .lineFrameReceived x => x.wf
  | .ackFrameReceived p seq seg _ tm => portOk p && decide (seq < 2 ^ 16) && decide (seg < 256) && tm.all (fun k => decide (k < 2))
  | .segmentAckTimeout p => portOk p
  | .partialUnitDiscard p c src seq => portOk p && cellOk c && cellOk src && decide (seq < 2 ^ 16)
  | .mediumIdle p _ _ => portOk p
  | .backoffSlot p _ _ => portOk p
  | .collision p => portOk p
  | .underrun p _ => portOk p
  | .toneMap _ t ms => decide (t < 2) && ms.all ToneMap.wf
  | .admitReq r => r.wf
  | .leaseAck c h _ => cellOk c && handleOk h
  | .leave c eui => cellOk c && keyOk eui
  | .addressIdleRelease c a => cellOk c && cellOk a
  | .beaconDue c _ => cellOk c
  | .beaconRetry c _ => cellOk c
  | .leaseEpoch c => cellOk c
  | .beaconFeed c => cellOk c
  | .leaseAckTimeout c h => cellOk c && handleOk h
  | .cancelHalf l _ => laneOk l
  | .cancelFull l _ _ => laneOk l
  | .cancelDiverged l _ => laneOk l
  | .cancellerTrainingDone l _ _ => laneOk l
  | .retrainRequest l => laneOk l
  | .trackingSound l => laneOk l
  | .adcClip l _ _ => laneOk l
  | .impulseLearnt p hit _ => portOk p && hit.all (fun q => decide (q < 240))
  | .zcEdge q _ => portOk q
  | .zcLost p => portOk p
  | .zcInvalid p => portOk p
  | .rxSyncLost n => portOk n
  | .radioWordLock n => portOk n
  | .radioFrameReceived x => x.wf
  | .associationRequest c eui _ => cellOk c && keyOk eui
  | .chessClockAdmit n _ _ _ => portOk n
  | .radioTxEnd n _ => portOk n
  | .txCut n _ => portOk n
  | .radioBeaconDue c k _ _ => cellOk c && decide (k ≤ 5)
  | .learnGuardEnd h => handleOk h
  | .bucketDramError _ key _ c short _ x => key.all keyOk && cellOk c && cellOk short && x.wf
  | .lockWaitTimeout a => wordOk a
  | .scheduleSlot h => handleOk h
  | .missingDeadline h _ => handleOk h
  | .powerRestoreNotice h => handleOk h
  | .restorePollDue h => handleOk h
  | .estimationDue h _ => handleOk h
  | .engineResume d => decide (1 ≤ d) && decide (d ≤ 20)
  | .periodClosed c => decide (c < 256)
  | .registerCompare r => r.wf
  | .scheduleStep k => decide (k < 64)
  | .holdExpiry g => decide (g < 16384)
  | .lightingRefresh c => cellOk c
  | .lanternRecord h _ => handleOk h
  | .lanternSilent h => handleOk h
  | .safeUnconfirmed h => handleOk h
  | .circuitState c st => decide (c < 64) && decide (st ≤ 2)
  | .meaSample k ws => decide (k < 80) && ws.all (fun w => decide (-8 ≤ w) && decide (w ≤ 7))
  | .metrologyCycle b => decide (b < 4)
  | .halfCycleTest b => decide (b < 4)
  | .meaZeroCrossing p => portOk p
  | .beaconKeySwitch c _ => cellOk c
  | .tamperTrip n _ => decide (n ≤ 10)
  | .tamperSourceInactive n => decide (n ≤ 10)
  | .ptpSync d _ _ _ => decide (d ≤ 2)
  | .domainLossTimeout d => decide (d ≤ 1)
  | .ptpBridge a b _ _ _ _ => decide (a < 8) && decide (b < 8)
  | .boundaryClockSync p => decide (p < 8)
  | .rtcGroupRead w a => readerOk w && decide (0x0B00 ≤ a) && decide (a ≤ 0x0B24)
  | .rtcYearRead w => readerOk w
  | .shadowStale w => readerOk w
  | .rtcStagingWrite w a v => readerOk w && decide (0x0B00 ≤ a) && decide (a ≤ 0x0B24) && wordOk v
  | .timeCommit w v => readerOk w && wordOk v
  | .alarmInstantWrite n v => decide (n < 4) && wordOk v
  | .castleGapEnd _ cause cy => decide (cause < 16) && decide (cy < 2 ^ 19)
  | .selfCastle c => decide (c < 4)
  | .solo c => decide (c ≤ 2)
  | .healthTest b => decide (b < 256)
  | .coborRetransmit l seq => decide (l < 2 ^ 16 + 8) && wordOk seq
  | .coborAckDue l => decide (l < 2 ^ 16 + 8)
  | .linkRekey l => decide (l < 2 ^ 16 + 8)
  | .advertise m _ => m.wf
  | .keyAgree m => m.wf
  | .heartbeat m _ => m.wf
  | .ack m => m.wf
  | .mirror m => m.wf
  | .mirrorConfirm m => m.wf
  | .replica m => m.wf
  | .replicaConfirm m => m.wf
  | .replicaWaitTimeout h => handleOk h
  | .join m => m.wf
  | .propose m => m.wf
  | .vote m => m.wf
  | .suspect m => m.wf
  | .memberTimeout m => decide (m < 2 ^ 16)
  | .migrated f cs => decide (f < 2 ^ 16) && cs.all (fun c => cellOk c.cell && portOk c.port && keyOk c.relay)
  | .balanceSums m => m.wf
  | .resyncOffer m => m.wf
  | .resyncRequest m => m.wf
  | .segment m => m.wf
  | .castleMessage m => m.wf
  | .castleResult m => m.wf
  | .peerMailbox m => m.wf
  | .campaignBlock c b cell to' => decide (c < 8) && decide (b < 8192) && cellOk cell && to'.all handleOk
  | .campaignTargetReport c h r => decide (c < 8) && handleOk h && r.wf
  | .campaignNoProgress c h => decide (c < 8) && handleOk h
  | .campaignActivationDue c => decide (c < 8)
  | .faultReport fs => fs.all FaultFact.wf
  | .countWindowEnd n => sourceOk n
  | .blockResetDone d u _ fails => decide (4 ≤ d) && decide (d ≤ 19) && decide (u < 256) && fails.all FaultFact.wf
  | .activityEnd k _ _ => decide (1 ≤ k) && decide (k ≤ 11)
  | .deferredDrop a k => wordOk a && decide (1 ≤ k) && decide (k ≤ 11)
  | .latchedWrite n _ => sourceOk n
  | .qhDataLoRead n => decide (n < 16)
  | .qhDataHiRead n => decide (n < 16)
  | .qhDataLoWrite n v => decide (n < 16) && wordOk v
  | .qhDataHiWrite n v => decide (n < 16) && wordOk v
  | .close n => decide (n < 16)
  | .mark n => decide (n < 16)
  | .rewind n => decide (n < 16)
  | .release n => decide (n < 16)
  | .flush n => decide (n < 16)
  | .eventArrival _ code path _ => decide (code < 2 ^ 16) && keyOk path
  | .registerWrite off v => decide (off < 2 ^ 16) && decide (off % 4 = 0) && wordOk v
  | .debugRequest w d c => decide (w < 2 ^ 16) && wordOk d && decide (c < 256)
  | .debugBreak watch n _ _ => decide (n < if watch then 4 else 8)
  | .serialFrameReceived n k x => portOk n && keyOk k && x.wf
  | .get | .set | .action | .list | .subscribe | .unsubscribe | .batch | .sessionChallenge | .sessionOpen | .sessionClose | .sessionBindPair | .sessionKeepalive
    | .energizeConfirm _ _ | .modeRequest | .cancellerRetrain | .cellForm | .shortAddressRelease | .bandProfileLoad | .tableDma _ _ | .tableRebuild _ | .pollNow
    | .downlinkSend | .supplyConnect | .supplyDisconnect | .revalidate | .intervalEdit | .calendarLoad | .calendarActivate | .snapshotNow | .groupDefine
    | .membershipApply | .levelOverride | .circuitEnergize | .isolate | .firLoad | .profileRead | .gcBoost | .keyRotate | .attest | .tamperAck | .lifecycleAdvance
    | .rootProgram | .rootDestroy | .tamperConfigure | .credentialAdd | .credentialRemove | .timeStep | .rtcRecalibrate | .castle | .pair | .federationJoin
    | .federationLeave | .rebalance | .imageStage | .imageActivate | .imageConfirm _ | .imageChunk | .campaignStart _ | .fence | .faultInject | .queueFlush
    | .recorderClear | .notificationDeliver | .resetN | .powerOnReset | .supplyMonitorReset _ | .backupDomainReset | .hostloadChunkTaken | .powerWarning _ _ _
    | .dipRecovered _ | .pfiAssert _ | .holdupDone _ _ | .pfiRelease | .holdupReturn _ | .islandEntry | .islandExit | .stalemateTimer | .firmwareParseDone _
    | .recordCommitConfirmed _ | .commitStall _ | .toneMapAge _ _ _ | .ledgerBucketEnd _ | .learningCommit | .agingVisit _ _ | .shadowCompare _ _ | .lookupUnresolved
    | .lockTimeout _ | .tableRebuildDone | .changeRecordApply | .requestTimeout _ | .valRecheck | .recordBooking | .billingBoundary | .balanceEvaluate _ _ | .dailyRun
    | .proposalExpiry _ | .balanceSumsDeadline _ _ | .trafficEvent | .overrideExpiry _ _ | .multicastRepeat | .luxSelfTest _ | .headRecord | .filterChanged
    | .journalProgram _ | .journalConfirm | .dayFold _ _ _ | .deltaMerge _ _ _ | .checkpoint _ | .garbageCollect _ | .gcCopyRestart _ _ _ | .wearLevel _ _
    | .blockRefresh _ _ _ _ _ _ _ | .blockRetired _ _ _ | .mediaRepair _ _ _ _ _ | .mediaReserve | .retentionRelease _ _ | .writeSpaceExhausted _ _ _ _ _ | .endOfLife
    | .trngFault _ | .tamperAckExpiry | .lifecycleAckExpiry | .domainRevert | .autoStep | .leapSecondSmear _ | .timeAnchor | .rtcAlign | .rtcSecond | .tcompSample _
    | .oscStopped | .vbatSwitch _ | .vbatMeasure _ | .claimInChange _ _ _ | .bootClaimDelay | .claimGateLapse | .castleDrainDone | .twinResync | .pairLinkDown
    | .heartbeatSend | .membershipVoteTimeout _ _ | .handover _ _ _ | .settingsUnreadable | .confirmTimeout | .errPulseEnd | .guardDiagnostics _ | .configMismatch
    | .nestedError | .recordCommitted | .overflow | .recorderMirror | .recWindowSnapshot | .recWindowAdvance | .debugResync | .readId | .readStatus | .readMode
    | .readEuiLo | .readEuiHi | .readMem | .writeMem | .writeAddr | .writeAddrHi | .unlock | .otpProgram | .lcAdvance | .guardHalt | .resetReq | .step | .resume | .halt
    | .unlockLapse | .pairLinkIdleMessage | .balanceSumsSend _ _ => true

end Sys2Proof
end

