-- ==== Sys2Proof/Tests/Slice0.lean ====
section
/-! SUPPORT. Tests. For each statement one theorem: for each of its clauses, a state and operands that meet the clause's hypotheses together. Then the ill-formed terms that
each check of `Instr.wf` refuses, and a few values and single steps whose results are the worked examples of spec/. -/

namespace Sys2Proof.Tests

set_option Elab.async false
open Sys2Proof Sys2Proof.Machine

/-! ### Helpers: the premises of the statements, from decidable facts; small states -/

theorem serves_of {s : State} {c : Cmd} {n : Nat}
    (h : s.frontCmd = some c ∧ c.src = .pair n ∧ n < s.mbx.pairs.length ∧ (s.pair n).outFull = false ∧ s.mbx.repeats = [] ∧ s.glv.aborting = [] ∧
      bit c.flags flagNoWait = false) : s.Serves c n := ⟨h.1, h.2.1, h.2.2.1, h.2.2.2.1, h.2.2.2.2.1, h.2.2.2.2.2.1, h.2.2.2.2.2.2⟩
theorem hears_of {s : State} {m : Cobor}
    (h : s.cutOff 19 0 = false ∧ m.body.length ≤ bodyLimit m.link ∧ m.tagOk = true ∧ (s.clink m.link).keyed = true ∧ (s.clink m.link).unacked = [] ∧
      (s.clink m.link).waiting = []) : s.Hears m := ⟨h.1, h.2.1, h.2.2.1, h.2.2.2.1, h.2.2.2.2.1, h.2.2.2.2.2⟩
theorem inTurn_of {s : State} {m : Cobor}
    (h : (s.cutOff 19 0 = false ∧ m.body.length ≤ bodyLimit m.link ∧ m.tagOk = true ∧ (s.clink m.link).keyed = true ∧ (s.clink m.link).unacked = [] ∧
      (s.clink m.link).waiting = []) ∧ m.seq = (s.clink m.link).rxSeq + 1 ∧ (s.clink m.link).held = []) : s.InTurn m := ⟨hears_of h.1, h.2.1, h.2.2⟩
theorem canonical_of {o : Obj} (h : Assoc.Sorted o.vals ∧ Assoc.Sorted o.vers ∧ Assoc.Sorted o.live) : o.Canonical := ⟨h.1, h.2.1, h.2.2⟩
theorem sends_of {s : State} {l : Nat} (h : s.linkOpen l = true ∧ (s.clink l).waiting = [] ∧ (s.clink l).unacked.length < 4096) : s.Sends l :=
  ⟨h.1, h.2.1, h.2.2⟩
def wb : State := { (State.reset.setNat Attr.TimeService.state 0 2) with sys := { State.reset.sys with mode := .service, lifecycle := .field, purelReady := true, txEnable := true, resetOutLow := false } }
def serve (s : State) (c : Cmd) : State := { s with mbx := { s.mbx with taken := [c] } }
def challengeFrame : Bytes :=
  let h : Bytes := leBytes 4 1 ++ [0, 0, 0x10, 0] ++ leBytes 8 0 ++ leBytes 4 8 ++ leBytes 8 0
  h ++ leBytes 4 (crc32c (h ++ leBytes 8 1)) ++ leBytes 8 1
def provisionedW (s : State) : State :=
  let s := [3, 4, 5, 6, 7, 8, 9].foldl (fun (s : State) i => s.setNat Attr.RootSlot.state i 1) s
  let s := ((s.create 0x0C20 1).setNat Attr.RoleCredential.role 1 (roleIndex .operator))
  let s := ((s.create 0x0C20 2).setNat Attr.RoleCredential.role 2 (roleIndex .safety))
  let s := s.setNat Attr.SettingsGeneration.state 1 2
  { s with glv := { s.glv with bank := some 1 }, sys := { s.sys with keysImported := true, settingsGen := 1, postureWritten := true } }
def bootFacts : BootFacts :=
  { twinSide := 0, bootSel := 0, testLow := true, slotFaults := [], badGens := [], media := ⟨true, 1000, 100, 3000, 32, [], false⟩, replaced := false, elapsed := [] }
def wsto : State :=
  let s := wb.setNat Attr.StoreService.mediaState 0 1
  { s with sto := { s.sto with total := 1000, targets := 32, pages := 100, rated := 3000 } }
def u0 : TxUnit := { kind := 2, cell := 5, dst16 := 9, body := [1, 2] }
def f0 : OnAir := { header := encodeHeader { kind := 2, cell := 5, dst := 9, nsym := 4 }, body := [1, 2], queue := 7, seg := 0, awaitAck := true }
def rx0 : LineRx :=
  let b : Bytes := List.replicate 20 1#8
  { port := 1, lane := 3, header := encodeHeader { kind := 3, cell := 5, dst := 0, src := 9, nsym := 4, prio := 2 }, body := b ++ beBytes 4 (crc32c b),
    codewords := 1, failed := 0, erasures := 0, snr := [], impulses := [], noise := [], stamp := 0, content := ⟨1, true, none, .other []⟩ }
def rr0 : RadioRx := { port := 1, cell := 1, key := none, short := 9, seq := 3, snr := 100, fcsOk := true, modeSwitch := false, mesh := false, security := 4, stamp := 0, content := ⟨1, true, none, .other []⟩ }
def wrad : State := wb.setNat Attr.RadioPort.standard 1 1
def e0 : LEntry := { key := 99, handle := 7, port := 1, cell := 1, short := 5, isAlias := false }
def withEp (s : State) : State := ((s.create 0x0501 7).setNat Attr.EndpointProfile.eui 7 99).setNat Attr.EndpointLocator.eui 7 99
def onPath (s : State) : State := (((withEp s).setNat Attr.EndpointLocator.port 7 1).setNat Attr.EndpointLocator.cell 7 1).setNat Attr.EndpointLocator.short 7 5
def q0 : Request := { handle := 7, cell := 1, queue := 2, order := 3, serial := 0, opcode := 0x0502, poll := none, apdu := [] }
def rec0 (h i : Nat) : Nat × List IRec := (h * 2 ^ 32 + i, [⟨0, 0, [5, 0, 0, 0, 0, 0, 0, 0]⟩])
def cal0 (ident n : Nat) : Bytes :=
  [BitVec.ofNat 8 n, 1, 1, 1, 0, 0, 0, 0] ++ leBytes 4 ident ++ [15, 0, 0, 1, 0, 0, 0, 0] ++ [1, 1, 0, 0] ++ List.replicate 8 0 ++ ([1, 0, 0, 0] ++ [0, 0, 1, 0] ++ List.replicate 60 0)
def im0 : Calendar := ((parseCalendar (cal0 77 1)).map Prod.snd).getD ⟨0, [], [], [], [], [], 0, false, 0, 0, 0, false, false, false⟩
def slot0 (s : State) (c : Nat) (f : CalSlot → CalSlot) : State := s.setCalSlot c (f (s.calSlot c))
def gdef0 (start : Nat) : GroupDef := { start := start, gone := false, kind := 1, vector := 2, parent := noGroup, head := 3, cell := 0xFFFF, fixed := 0, rated := 1000, near := [] }
def grp0 (g : Nat) : Nat × Group := (g, { defs := [gdef0 0] })
def gbytes : Bytes := [1, 1, 2, 0, 5, 0, 0xFF, 0xFF] ++ leBytes 4 3 ++ [0xFF, 0xFF, 0, 0] ++ leBytes 4 0 ++ leBytes 4 0 ++ leBytes 4 1000 ++ [0, 0, 0, 0] ++ List.replicate 16 0xFF
def lcell0 (c : Nat) (s : State) : State := (((s.create 0x0210 c).setNat Attr.LineCell.purpose c 1).setNat Attr.LineCell.port c 3)
def src0 (n : Nat) : Source := (source n).getD ⟨n, 0, 0, false⟩
def act0 (k : Nat) (i : Bool) : Activity := { kind := k, arrival := 9, internal := i }
def meaOn (s : State) (k : Nat) (f : MeaChannel → MeaChannel) : State := ((s.setFlag Attr.MeasurementService.inputsWired 0 true).setFlag Attr.MeasurementChannel.enabled k true).setChan k (f (s.chan k))
def ls0 : State := ((lcell0 5 wb).setNat Attr.LightingSegment.cell 6 5).setCell 5 { restoring := false }
def m0 : Cobor := { link := 3, sender := 5, side := 0, epoch := 0, nonce := 9, seq := 1, acked := 0, tagOk := true, body := List.replicate 500 0 }
def withLink (l : Nat) (s : State) : State := s.setClink l { up := true, keyed := true }
def member (n : Nat) (s : State) : State := ((s.create 0x0E20 n).setNat Attr.FederationMember.state n 1).setNat Attr.FederationMember.lane n (n % 8)
def prop0 : Proposal := { proposer := 5, epoch := 1, change := 5, member := 6, state := 1, kind := 0, lane := 2, weight := 40, eui := 9, ip := [], at3 := 0, votes := [5] }
theorem wb_no_segment (g : Nat) (hg : g < 16384) : wb.nat Attr.LightingSegment.cell g = 0xFFFF := by
  have key : ∀ a < 128, ∀ b < 128, wb.nat Attr.LightingSegment.cell (128 * a + b) = 0xFFFF := by decide +kernel
  have h := key (g / 128) (by omega) (g % 128) (by omega)
  rwa [Nat.div_add_mod] at h

/-! ### Witnesses: the hypotheses of each clause can be met -/

theorem wit_GenericCommands :
    (∃ (s : State) (c : Cmd) (n : Nat) (k : ClassInfo), s.Serves c n ∧ c.opcode = opGet ∧ classInfo (pathCls c.path) = some k ∧ pathAttr c.path = 0) ∧
    (∃ (s : State) (c : Cmd) (n : Nat) (k : ClassInfo) (x : AttrInfo), s.Serves c n ∧ c.opcode = opGet ∧ classInfo (pathCls c.path) = some k ∧ pathAttr c.path ≠ 0 ∧ pathAttr c.path ≠ 0xFF ∧ k.attrs.find? (fun y => y.num == pathAttr c.path) = some x ∧ (encodeTlv x.num x.ty (s.read (pathCls c.path, x.num) (pathInst c.path))).length ≤ 4064) ∧
    (∃ (s : State) (c : Cmd) (n : Nat) (y : AttrInfo) (x : Tlv) (rest : Bytes) (v : Val), s.Serves c n ∧ c.opcode = opSet ∧ bit c.flags flagIfVersion = false ∧ attrInfo (pathCls c.path, pathAttr c.path) = some y ∧ parseTlv c.data = some (x, rest) ∧ x.attr = pathAttr c.path ∧ decodeVal y.ty x = some v ∧ inRange (y.lo, y.hi) v = true ∧ s.setStatus (pathCls c.path, pathAttr c.path) (pathInst c.path) v = none ∧ s.pairTrial = false ∧ s.sys.settingsGen ≠ 0 ∧ (pathCls c.path, pathAttr c.path) ∉ actsBeyond) ∧
    (∃ (s : State) (c : Cmd) (n : Nat), s.Serves c n ∧ c.opcode = opList ∧ 1 ≤ field c.data 0 2 ∧ field c.data 0 2 ≤ 500 ∧ octet c.data 2 = 0 ∧ octet c.data 3 = 0) ∧
    (∃ (s : State) (c : Cmd) (n : Nat) (xs : List Sub), s.Serves c n ∧ c.opcode = opBatch ∧ parseSubs 32 c.data = some xs ∧ xs ≠ [] ∧ bit c.flags flagAtomic = false ∧ (∀ x ∈ xs, x.opcode = opGet ∧ x.flags = 0 ∧ s.lateChecks (c.sub x) s.twn.self = none) ∧ (xs.flatMap (fun x => subResult (doGet (c.sub x) s).1)).length ≤ 4064) ∧
    (∃ (s : State) (c : Cmd) (n : Nat) (m : Nat × Nat) (i : Instr), s.Serves c n ∧ c.opcode = opAction ∧ (pathCls c.path, pathAttr c.path) = m ∧ (m, i) ∈ [((0x0906, 0x40), Instr.isolate), ((0x0C01, 0x40), Instr.rootProgram), ((0x0C01, 0x41), Instr.rootDestroy), ((0x0C11, 0x40), Instr.tamperConfigure), ((0x0C10, 0x40), Instr.credentialAdd), ((0x0C10, 0x41), Instr.credentialRemove), ((0x0E10, 0x40), Instr.pair), ((0x0F20, 0x40), Instr.imageChunk)]) :=
  ⟨⟨serve (wb) ({ src := .pair 1, opcode := opGet, path := mkPath 0x0102 0 0 } : Cmd), { src := .pair 1, opcode := opGet, path := mkPath 0x0102 0 0 }, 1, (classInfo 0x0102).get (by decide), serves_of (by decide +kernel), by decide +kernel⟩,
    ⟨serve (wb) ({ src := .pair 1, opcode := opGet, path := mkPath 0x0102 0 1 } : Cmd), { src := .pair 1, opcode := opGet, path := mkPath 0x0102 0 1 }, 1, (classInfo 0x0102).get (by decide), (((classInfo 0x0102).get (by decide) : ClassInfo).attrs.find? (fun y => y.num == 1)).get (by decide), serves_of (by decide +kernel), by decide +kernel⟩,
    ⟨serve ((let z0 : State := wb; { z0 with sys := { z0.sys with settingsGen := 1 } })) ({ src := .pair 1, opcode := opSet, payload := [1, 3, 4, 0, 30, 0, 0, 0], path := mkPath 0x0110 0 1 } : Cmd), { src := .pair 1, opcode := opSet, payload := [1, 3, 4, 0, 30, 0, 0, 0], path := mkPath 0x0110 0 1 }, 1, (attrInfo (0x0110, 1)).get (by decide), ⟨1, 3, [30, 0, 0, 0]⟩, [], .num 30, serves_of (by decide +kernel), by decide +kernel⟩,
    ⟨serve (wb) ({ src := .pair 1, opcode := opList, payload := leBytes 2 (3) ++ leBytes 1 (0) ++ leBytes 1 (0), path := mkPath 0x0102 0 0 } : Cmd), { src := .pair 1, opcode := opList, payload := leBytes 2 (3) ++ leBytes 1 (0) ++ leBytes 1 (0), path := mkPath 0x0102 0 0 }, 1, serves_of (by decide +kernel), by decide +kernel⟩,
    ⟨serve (wb) ({ src := .pair 1, opcode := opBatch, payload := [1, 0, 0, 0] ++ leBytes 8 (mkPath 0x0102 0 1) ++ [0, 0, 0, 0] } : Cmd), { src := .pair 1, opcode := opBatch, payload := [1, 0, 0, 0] ++ leBytes 8 (mkPath 0x0102 0 1) ++ [0, 0, 0, 0] }, 1, [⟨1, 0, mkPath 0x0102 0 1, []⟩], serves_of (by decide +kernel), by decide +kernel⟩,
    ⟨serve (wb) ({ src := .pair 1, opcode := opAction, path := mkPath 0x0C01 16 0x40 } : Cmd), { src := .pair 1, opcode := opAction, path := mkPath 0x0C01 16 0x40 }, 1, (0x0C01, 0x40), .rootProgram, serves_of (by decide +kernel), by decide +kernel⟩⟩

theorem wit_SessionCommands :
    (∃ (s : State) (c : Cmd) (n : Nat), s.Serves c n ∧ c.opcode = opSubscribe ∧ 1 ≤ octet c.payload 0 ∧ octet c.payload 0 ≤ 3 ∧ ((octet c.payload 0 = 3 → field c.payload 4 4 ≠ 0)) ∧ s.mbx.subs.countP (fun b => b.session == c.session) < 128 ∧ s.mbx.subs.length < 1024) ∧
    (∃ (s : State) (c : Cmd) (n : Nat), s.Serves c n ∧ c.opcode = opUnsubscribe ∧ s.mbx.subs.any (fun b => b.id == field c.payload 0 2 && b.session == c.session) = true) ∧
    (∃ (s : State) (c : Cmd) (n : Nat), s.Serves c n ∧ c.opcode = opChallenge ∧ ((field c.payload 4 4 ≠ bootstrapId → s.alive 0x0C20 (field c.payload 4 4) = true ∧ s.nat Attr.RoleCredential.role (field c.payload 4 4) = octet c.payload 0)) ∧ s.locked (field c.payload 4 4) = false ∧ ((s.flag Attr.GloveboxService.sealed 0 = true → sealedRole (octet c.payload 0) = true)) ∧ s.glv.trngFault = false) ∧
    (∃ (s : State) (c : Cmd) (n : Nat) (k : Nat) (r : Role) (x : Nonce), s.Serves c n ∧ c.opcode = opOpen ∧ field c.payload 4 4 ≠ bootstrapId ∧ s.alive 0x0C20 (field c.payload 4 4) = true ∧ s.locked (field c.payload 4 4) = false ∧ s.mbx.nonces.find? (fun y => y.nonce == slice c.payload 8 32 && y.src == c.src && y.role == octet c.payload 0 && y.cred == field c.payload 4 4) = some x ∧ roleOfByte (octet c.payload 0) = some r ∧ s.tim.d3 ≤ x.at3 + sec 10 ∧ s.nat Attr.RoleCredential.role (field c.payload 4 4) = octet c.payload 0 ∧ r ≠ .peer ∧ c.localSess = true ∧ s.flag Attr.GloveboxService.sealed 0 = false ∧ s.freeSlot = some k) ∧
    (∃ (s : State) (c : Cmd) (n : Nat), s.Serves c n ∧ c.opcode = opClose) ∧
    (∃ (s : State) (c : Cmd) (n : Nat) (x : Session), s.Serves c n ∧ c.opcode = opBind ∧ s.session c.session = some x ∧ s.boundTo c.src = none ∧ x.pairs.length < 8) ∧
    (∃ (s : State) (c : Cmd) (n : Nat) (x : Session), s.Serves c n ∧ c.opcode = opKeepalive ∧ s.session c.session = some x) :=
  ⟨⟨serve (wb) ({ src := .pair 1, opcode := opSubscribe, session := 0x1001, payload := leBytes 1 (1), path := mkPath 0x0102 0 1 } : Cmd), { src := .pair 1, opcode := opSubscribe, session := 0x1001, payload := leBytes 1 (1), path := mkPath 0x0102 0 1 }, 1, serves_of (by decide +kernel), by decide +kernel⟩,
    ⟨serve ((let z0 : State := wb; { z0 with mbx := { z0.mbx with subs := [⟨7, 0x1001, 1, 0, mkPath 0x0102 0 1⟩] } })) ({ src := .pair 1, opcode := opUnsubscribe, session := 0x1001, payload := leBytes 2 (7) } : Cmd), { src := .pair 1, opcode := opUnsubscribe, session := 0x1001, payload := leBytes 2 (7) }, 1, serves_of (by decide +kernel), by decide +kernel⟩,
    ⟨serve ((let z0 : State := ((wb).create 0x0C20 5).setNat Attr.RoleCredential.role 5 2; { z0 with glv := { z0.glv with trngFault := false } })) ({ src := .pair 1, opcode := opChallenge, payload := leBytes 1 (2) ++ List.replicate 3 0 ++ leBytes 4 (5) } : Cmd), { src := .pair 1, opcode := opChallenge, payload := leBytes 1 (2) ++ List.replicate 3 0 ++ leBytes 4 (5) }, 1, serves_of (by decide +kernel), by decide +kernel⟩,
    ⟨serve ((let z0 : State := (((wb).setFlag Attr.GloveboxService.sealed 0 false).create 0x0C20 5).setNat Attr.RoleCredential.role 5 2; { z0 with mbx := { z0.mbx with nonces := [({ src := .pair 1, role := 2, cred := 5, nonce := leBytes 32 9, at3 := 0 } : Nonce)] } })) ({ src := .pair 1, opcode := opOpen, localSess := true, payload := leBytes 1 (2) ++ List.replicate 3 0 ++ leBytes 4 (5) ++ leBytes 32 (9) ++ leBytes 4 (60) ++ List.replicate 64 0 } : Cmd), { src := .pair 1, opcode := opOpen, localSess := true, payload := leBytes 1 (2) ++ List.replicate 3 0 ++ leBytes 4 (5) ++ leBytes 32 (9) ++ leBytes 4 (60) ++ List.replicate 64 0 }, 1, 0, (roleOfByte 2).get (by decide), { src := .pair 1, role := 2, cred := 5, nonce := leBytes 32 9, at3 := 0 }, serves_of (by decide +kernel), by decide +kernel⟩,
    ⟨serve (wb) ({ src := .pair 1, opcode := opClose } : Cmd), { src := .pair 1, opcode := opClose }, 1, serves_of (by decide +kernel), by decide +kernel⟩,
    ⟨serve ((let z0 : State := wb; { z0 with mbx := { z0.mbx with sessions := [({ slot := 1, handle := 0x1001, role := .operator, cred := 5, localSess := true, assoc := 0, peerAddr := 0, idle := 60, lastUse := 0 } : Session)] } })) ({ src := .pair 1, opcode := opBind, session := 0x1001 } : Cmd), { src := .pair 1, opcode := opBind, session := 0x1001 }, 1, { slot := 1, handle := 0x1001, role := .operator, cred := 5, localSess := true, assoc := 0, peerAddr := 0, idle := 60, lastUse := 0 }, serves_of (by decide +kernel), by decide +kernel⟩,
    ⟨serve ((let z0 : State := wb; { z0 with mbx := { z0.mbx with sessions := [({ slot := 1, handle := 0x1001, role := .operator, cred := 5, localSess := true, assoc := 0, peerAddr := 0, idle := 60, lastUse := 0 } : Session)] } })) ({ src := .pair 1, opcode := opKeepalive, session := 0x1001 } : Cmd), { src := .pair 1, opcode := opKeepalive, session := 0x1001 }, 1, { slot := 1, handle := 0x1001, role := .operator, cred := 5, localSess := true, assoc := 0, peerAddr := 0, idle := 60, lastUse := 0 }, serves_of (by decide +kernel), by decide +kernel⟩⟩

theorem wit_CommandsComplete :
    (∃ (s : State) (c : Cmd) (n : Nat) (cycles : Nat) (e : Energize), s.Serves c n ∧ c.opcode = opConfirm ∧ s.mbx.energize.find? (fun x => x.arrival == field c.payload 0 4) = some e ∧ energizeConfirmer e.opcode (s.sys.mode == .island) c.role c.localSess = true ∧ c.cred ≠ e.cred ∧ s.policyCheck e ((s.requestCell (s.energizeHandle e)).getD 0) = none ∧ s.glv.checked < (s.glv.approvals + 1) % 2 ^ 32 ∧ cycles ≤ 40000000 ∧ s.fcr.sf0 = false ∧ s.gloveShut = false) ∧
    (∃ (s : State) (arr : Nat) (x : Awaiting), s.mbx.awaiting.find? (fun y => y.arrival == arr) = some x ∧ (s.session x.session).isSome = true) ∧
    (∃ (s : State) (e : Entry) (rest : List Entry), s.mbx.notifs = e :: rest ∧ e.route = none ∧ (s.pair 0).outFull = false ∧ s.mbx.pairs ≠ []) ∧
    (∃ (s : State) (id : Nat) (b : Subscription), s.mbx.subs.find? (fun x => x.id == id && x.trigger == 3) = some b ∧ pathInst b.path ≠ wildInst ∧ pathAttr b.path ≠ 0 ∧ s.mbx.room = true) ∧
    (∃ (s : State) (h : Nat), (s.session h).isSome = true) ∧
    (∃ (s : State) (k : Nat), Assoc.has k s.mbx.locks = true) ∧
    (∃ (s : State) (arr : Nat) (e : Energize), s.mbx.energize.find? (fun x => x.arrival == arr) = some e ∧ (s.session e.session).isSome = true) :=
  ⟨⟨serve ((let z0 : State := (wb).setNat Attr.LightingCircuit.state 0 0; { z0 with fcr := { z0.fcr with sf0 := false, rateChip := 10, rateCell := 10 }, mbx := { z0.mbx with energize := [({ arrival := 9, opcode := 0x0902, path := mkPath 0x0906 3 0, session := 0x1001, role := .safety, cred := 4, localSess := true, payload := [0, 0, 0, 0], window := 0 } : Energize)] } })) ({ src := .pair 1, opcode := opConfirm, role := .safety, cred := 5, payload := leBytes 4 (9) } : Cmd), { src := .pair 1, opcode := opConfirm, role := .safety, cred := 5, payload := leBytes 4 (9) }, 1, 1, { arrival := 9, opcode := 0x0902, path := mkPath 0x0906 3 0, session := 0x1001, role := .safety, cred := 4, localSess := true, payload := [0, 0, 0, 0], window := 0 }, serves_of (by decide +kernel), by decide +kernel⟩,
    ⟨(let z0 : State := wb; { z0 with mbx := { z0.mbx with awaiting := [({ arrival := 1, session := 0x1001, path := 0, result := none } : Awaiting)], sessions := [{ slot := 1, handle := 0x1001, role := .operator, cred := 5, localSess := true, assoc := 0, peerAddr := 0, idle := 60, lastUse := 0 }] } }), 1, { arrival := 1, session := 0x1001, path := 0, result := none }, by decide +kernel⟩,
    ⟨(let z0 : State := wb; { z0 with mbx := { z0.mbx with notifs := ({ session := 0x1001, sub := 0, kind := 3, path := 0, arrival := 1, status := 0, data := [] } : Entry) :: ([] : List Entry) } }), { session := 0x1001, sub := 0, kind := 3, path := 0, arrival := 1, status := 0, data := [] }, [], by decide +kernel⟩,
    ⟨(let z0 : State := wb; { z0 with mbx := { z0.mbx with subs := [(⟨1, 0x1001, 3, 60, mkPath 0x0102 0 1⟩ : Subscription)] } }), 1, ⟨1, 0x1001, 3, 60, mkPath 0x0102 0 1⟩, by decide +kernel⟩,
    ⟨(let z0 : State := wb; { z0 with mbx := { z0.mbx with sessions := [{ slot := 1, handle := 0x1001, role := .operator, cred := 5, localSess := true, assoc := 0, peerAddr := 0, idle := 60, lastUse := 0 }] } }), 0x1001, by decide +kernel⟩,
    ⟨(let z0 : State := ((wb).create 0x0C20 1).setNat Attr.RoleCredential.lockedUntil 1 99; { z0 with mbx := { z0.mbx with locks := [(1, 5)] } }), 1, by decide +kernel⟩,
    ⟨(let z0 : State := wb; { z0 with mbx := { z0.mbx with energize := [({ arrival := 1, opcode := 0x0902, path := mkPath 0x0906 3 0, session := 0x1001, role := .safety, cred := 4, localSess := true, payload := [0, 0, 0, 0], window := 0 } : Energize)], sessions := [{ slot := 1, handle := 0x1001, role := .operator, cred := 5, localSess := true, assoc := 0, peerAddr := 0, idle := 60, lastUse := 0 }] } }), 1, { arrival := 1, opcode := 0x0902, path := mkPath 0x0906 3 0, session := 0x1001, role := .safety, cred := 4, localSess := true, payload := [0, 0, 0, 0], window := 0 }, by decide +kernel⟩⟩

theorem wit_Doorbells :
    (∃ (s : State) (n : Nat) (w : Option BufWrite), 1 ≤ n ∧ n < 64 ∧ s.mbx.pairs.length = 64 ∧ (s.pair n).inBusy = false ∧ s.ready = true ∧ s.sys.handover = false ∧ s.boundTo (.pair n) = none ∧ (let f := (w.map BufWrite.frame).getD (s.pair n).inbuf; let b := (w.map BufWrite.bulk).getD (s.pair n).bar4; let c := frameCmd (.pair n) f b [] 0 ((s.mbx.arrival + 1) % 2 ^ 32); headerChecks f c = none ∧ c.opcode = opChallenge)) ∧
    (∃ (s : State) (n : Nat), n < s.mbx.pairs.length) ∧
    (∃ (s : State) (n : Nat) (f : Bytes), n < s.mbx.pairs.length ∧ (s.pair n).waiting = some f ∧ (s.pair n).outFull = false) ∧
    (∃ (s : State) (a : Nat) (v : Nat) (key : Bytes) (f : Bytes) (addr : Int), 1 ≤ v ∧ v ≤ 8 ∧ a < 16 ∧ s.ready = true ∧ s.mbx.vbusy.contains (a, v) = false ∧ s.sys.handover = false ∧ s.boundTo (.vpair a v) = none ∧ (let c := frameCmd (.vpair a v) f [] key addr ((s.mbx.arrival + 1) % 2 ^ 32); headerChecks f c = none ∧ c.opcode = opChallenge)) :=
  ⟨⟨(let z0 : State := wb; { z0 with sys := { z0.sys with handover := false } }), 1, some ⟨challengeFrame, []⟩, by decide +kernel⟩,
    ⟨wb, 1, by decide +kernel⟩,
    ⟨((fun (s : State) => s.setPair 1 { s.pair 1 with inBusy := true, waiting := some [1] }) (wb)), 1, [1], by decide +kernel⟩,
    ⟨(let z0 : State := wb; { z0 with sys := { z0.sys with handover := false } }), 1, 1, [], challengeFrame, 1, by decide +kernel⟩⟩

theorem wit_Resets :
    (∃ (i : Instr) (bit : Nat), (i, bit) ∈ [(Instr.powerOnReset, 0), (.resetN, 1), (.supplyMonitorReset .io33, 2), (.supplyMonitorReset .core, 3), (.resetCtrlChip 0xA5, 4)]) ∧
    (∃ (s : State), s.sys.stalemate = true ∧ s.nat Attr.FaultService.stalemateResetS 0 ≠ 0) ∧
    (∃ (key : Nat), key ≠ 0xA5) :=
  ⟨⟨.resetCtrlChip 0xA5, 4, by decide +kernel⟩,
    ⟨(let z0 : State := (wb).setNat Attr.FaultService.stalemateResetS 0 60; { z0 with sys := { z0.sys with stalemate := true } }), by decide +kernel⟩,
    ⟨1, by decide +kernel⟩⟩

theorem wit_ModesAndPower :
    (∃ (s : State) (c : Cmd) (n : Nat), s.Serves c n ∧ c.opcode = 0x0101 ∧ ((c.role = .operator ∨ c.role = .safety)) ∧ octet c.payload 0 = 1 ∧ ((s.sys.mode = .service ∨ s.sys.mode = .island ∨ s.sys.mode = .shadow))) ∧
    (∃ (s : State) (c : Cmd) (n : Nat), s.Serves c n ∧ c.opcode = 0x0101 ∧ ((c.role = .operator ∨ c.role = .safety)) ∧ octet c.payload 0 = 2 ∧ s.sys.mode = .provision ∧ s.sys.lifecycle = .field ∧ s.provisioned = true ∧ s.twinned = false) ∧
    (∃ (s : State), s.sys.mode = .service ∧ s.lastReach + sec 60 < s.tim.d3) ∧
    (∃ (s : State), s.sys.mode = .island ∧ s.reachable = true) ∧
    (∃ (s : State) (r : Rail), (if r = .core then s.sys.coreWarn else s.sys.io33Warn) = true) ∧
    (∃ (s : State), s.sys.stalemate = false ∧ ((s.sys.mode = .service ∨ s.sys.mode = .island ∨ s.sys.mode = .shadow ∨ s.sys.mode = .provision))) ∧
    (∃ (s : State), s.sys.mode = .holdup ∧ s.sys.holdupDone = false ∧ s.sys.returning = false ∧ s.sys.stalemate = false ∧ s.sys.pfi = true) ∧
    (∃ (s : State), s.sys.mode = .holdup ∧ s.sys.holdupDone = true ∧ s.sys.stalemate = false) ∧
    (∃ (s : State), s.sys.mode ≠ .holdup ∧ s.sys.stalemate = false) ∧
    (∃ (s : State), s.sys.mode = .holdup ∧ s.sys.holdupDone = false ∧ s.sys.pfi = false ∧ s.sys.stalemate = false) ∧
    (∃ (s : State), s.sys.mode = .holdup ∧ s.sys.holdupDone = false ∧ s.sys.pfi = false ∧ s.sys.stalemate = false ∧ s.sys.returning = true ∧ s.sys.prevMode = .service ∧ s.twinned = false ∧ s.fcr.again = []) :=
  ⟨⟨serve (wb) ({ src := .pair 1, opcode := 0x0101, role := .operator, payload := leBytes 1 (1) } : Cmd), { src := .pair 1, opcode := 0x0101, role := .operator, payload := leBytes 1 (1) }, 1, serves_of (by decide +kernel), by decide +kernel⟩,
    ⟨serve ((provisionedW ((let z0 : State := wb; { z0 with sys := { z0.sys with mode := .provision, lifecycle := .field } })))) ({ src := .pair 1, opcode := 0x0101, role := .operator, payload := leBytes 1 (2), path := 0 } : Cmd), { src := .pair 1, opcode := 0x0101, role := .operator, payload := leBytes 1 (2), path := 0 }, 1, serves_of (by decide +kernel), by decide +kernel⟩,
    ⟨(let z0 : State := wb; { z0 with sys := { z0.sys with mode := .service }, tim := { z0.tim with d3 := sec 1000 } }), by decide +kernel⟩,
    ⟨(let z0 : State := wb; { z0 with sys := { z0.sys with mode := .island, headEndAt := some (sec 990) }, tim := { z0.tim with d3 := sec 1000 } }), by decide +kernel⟩,
    ⟨(let z0 : State := wb; { z0 with sys := { z0.sys with io33Warn := true, holdupPrep := true } }), .io33, by decide +kernel⟩,
    ⟨(let z0 : State := wb; { z0 with sys := { z0.sys with stalemate := false } }), by decide +kernel⟩,
    ⟨(let z0 : State := wb; { z0 with sys := { z0.sys with mode := .holdup, holdupDone := false, returning := false, stalemate := false, pfi := true } }), by decide +kernel⟩,
    ⟨(let z0 : State := wb; { z0 with sys := { z0.sys with mode := .holdup, holdupDone := true, stalemate := false } }), by decide +kernel⟩,
    ⟨(let z0 : State := wb; { z0 with sys := { z0.sys with stalemate := false } }), by decide +kernel⟩,
    ⟨(let z0 : State := wb; { z0 with sys := { z0.sys with mode := .holdup, holdupDone := false, pfi := false, stalemate := false } }), by decide +kernel⟩,
    ⟨(let z0 : State := wb; { z0 with sys := { z0.sys with mode := .holdup, holdupDone := false, pfi := false, stalemate := false, returning := true, prevMode := .service }, fcr := { z0.fcr with again := [] } }), by decide +kernel⟩⟩

theorem wit_BootAndHostLoad :
    (∃ (s : State), s.sys.resetOutLow = true ∧ s.sys.pfi = false ∧ s.sys.lifecycle = .field ∧ octet (s.image 3) 7 ≠ 2) ∧
    (∃ (s : State), s.sys.resetOutLow = true ∧ s.sys.pfi = false ∧ s.sys.lifecycle = .blank) ∧
    (∃ (s : State) (len : Nat), s.sys.hlState = .waitChunk ∧ 1 ≤ len ∧ len ≤ 1048576 ∧ 1 < s.mbx.pairs.length) ∧
    (∃ (s : State), s.sys.hlState = .chunkBusy ∧ (s.sys.hlImage ++ fitBytes s.sys.hlLength (s.pair 1).bar4).length ≤ loadLimit (s.sys.hlImage ++ fitBytes s.sys.hlLength (s.pair 1).bar4)) ∧
    (∃ (s : State) (len : Nat) (why : Nat) (data : Bytes), s.sys.hlState = .waitChunk ∧ 1 ≤ len ∧ len ≤ 1048576 ∧ 1 < s.mbx.pairs.length ∧ (s.sys.hlImage ++ fitBytes len data).length ≤ loadLimit (s.sys.hlImage ++ fitBytes len data) ∧ s.imageFault (if s.sys.bootStep = 0xE0 then 2 else 1) (s.sys.hlImage ++ fitBytes len data) = some why) ∧
    (∃ (s : State) (len : Nat) (data : Bytes), s.sys.hlState = .waitChunk ∧ 1 ≤ len ∧ len ≤ 1048576 ∧ 1 < s.mbx.pairs.length ∧ s.sys.boot = none ∧ (s.sys.hlImage ++ fitBytes len data).length ≤ loadLimit (s.sys.hlImage ++ fitBytes len data)) ∧
    (∃ (s : State), s.sys.hlState ≠ .accepted ∧ s.sys.boot.isSome = true) :=
  ⟨⟨(let z0 : State := wb; { z0 with sys := { z0.sys with resetOutLow := true, pfi := false, lifecycle := .field } }), by decide +kernel⟩,
    ⟨(let z0 : State := wb; { z0 with sys := { z0.sys with resetOutLow := true, pfi := false, lifecycle := .blank } }), by decide +kernel⟩,
    ⟨(let z0 : State := wb; { z0 with sys := { z0.sys with hlState := .waitChunk } }), 1, by decide +kernel⟩,
    ⟨(let z0 : State := wb; { z0 with sys := { z0.sys with hlState := .chunkBusy } }), by decide +kernel⟩,
    ⟨(let z0 : State := wb; { z0 with sys := { z0.sys with hlState := .waitChunk } }), 1, 2, [], by decide +kernel⟩,
    ⟨(let z0 : State := wb; { z0 with sys := { z0.sys with hlState := .waitChunk, boot := none } }), 1, [], by decide +kernel⟩,
    ⟨(let z0 : State := wb; { z0 with sys := { z0.sys with boot := some bootFacts } }), by decide +kernel⟩⟩

theorem wit_StoreJournalAndCopies :
    (∃ (s : State) (w : MediaWrite), s.journalOpen = true ∧ s.sto.page = [] ∧ (fillPage 0 s.sto.gather).1 ≠ [] ∧ weight s.sto.ring + weight (fillPage 0 s.sto.gather).1 ≤ s.ringRoom ∧ (s.mediaWrite w true).isSome = true) ∧
    (∃ (s : State) (day : Nat) (w : MediaWrite), s.storeOpen = true ∧ s.unset = false ∧ s.sto.folded.contains day = false ∧ (day + 1) * 86400 + s.nat Attr.StoreService.foldDelayH 0 * 3600 ≤ s.serviceSec ∧ (s.mediaWrite w false).isSome = true) ∧
    (∃ (s : State) (hb : Nat) (day : Nat) (base : Nat) (w : MediaWrite), Assoc.find (segKey hb day) s.sto.segments = some base ∧ s.storeOpen = true ∧ base < 8 * (s.dayCount hb day - base) ∧ (s.mediaWrite w false).isSome = true) ∧
    (∃ (s : State) (w : MediaWrite) (x : Nat × JKind), s.journalOpen = true ∧ (s.mediaWrite w true).isSome = true ∧ s.sto.ring.getLast? = some x ∧ s.sto.checkpoints = []) ∧
    (∃ (s : State) (target : Nat) (v : Nat × Block), s.storeOpen = true ∧ (s.sto.collecting || s.sto.boost.isSome || decide (s.freeOutside < s.goodShare (s.nat Attr.StoreService.gcStartPct 0))) = true ∧ s.freeOutside < s.goodShare s.gcTarget ∧ s.victim = some v ∧ (s.moveBlock v.1 target).isSome = true) ∧
    (∃ (s : State) (source : Nat) (failed : Nat) (target : Nat), s.cutOff 15 0 = false ∧ failed < s.sto.total ∧ (s.block failed).retired = false ∧ (s.block failed).free = true ∧ (s.block source).free = false ∧ (s.block source).retired = false ∧ failed ≠ target ∧ (s.moveBlock source target).isSome = true) ∧
    (∃ (s : State) (source : Nat) (target : Nat), s.storeOpen = true ∧ s.sto.blocks.length < s.sto.total ∧ s.nat Attr.StoreService.wearSpread 0 < s.goodErases.foldl max 0 ∧ (s.block source).erases < (s.block target).erases ∧ s.sto.blocks.all (fun y => y.2.retired || y.2.free || decide ((s.block source).erases ≤ y.2.erases)) = true ∧ (s.moveBlock source target).isSome = true) :=
  ⟨⟨(let z0 : State := wsto; { z0 with sto := { z0.sto with page := [], gather := [(1, .map)] } }), ⟨[(3, 1)], []⟩, by decide +kernel⟩,
    ⟨(let z0 : State := wsto; { z0 with tim := { z0.tim with d2 := sec (86400 * 500) }, sto := { z0.sto with records := [(1 * 2 ^ 32 + 3 * 96, [⟨1, 0, [5]⟩])] } }), 3, ⟨[(3, 1)], []⟩, by decide +kernel⟩,
    ⟨(let z0 : State := wsto; { z0 with sto := { z0.sto with segments := [(segKey 0 3, 0)], records := [(1 * 2 ^ 32 + 3 * 96, [⟨1, 0, [5]⟩])] } }), 0, 3, 0, ⟨[(3, 1)], []⟩, by decide +kernel⟩,
    ⟨(let z0 : State := wsto; { z0 with sto := { z0.sto with checkpoints := [], ring := [(5, .map), (7, .map)] } }), ⟨[(3, 1)], []⟩, (7, .map), by decide +kernel⟩,
    ⟨(let z0 : State := wsto; { z0 with sto := { z0.sto with blocks := [((0, ⟨2, 5, false, false, false⟩) : Nat × Block)], boost := some 100, total := 2 } }), 1, (0, ⟨2, 5, false, false, false⟩), by decide +kernel⟩,
    ⟨(let z0 : State := wsto; { z0 with sto := { z0.sto with blocks := [(4, ⟨2, 5, false, false, false⟩)] } }), 4, 3, 9, by decide +kernel⟩,
    ⟨(let z0 : State := wsto; { z0 with sto := { z0.sto with blocks := [(4, ⟨2, 5, false, false, false⟩), (9, ⟨2000, 0, true, true, false⟩)] } }), 4, 9, by decide +kernel⟩⟩

theorem wit_StoreRetentionAndReads :
    (∃ (s : State) (b : Nat) (target : Nat), s.cutOff 15 0 = false ∧ (s.moveBlock b target).isSome = true) ∧
    (∃ (s : State) (b : Nat), s.cutOff 15 0 = false ∧ b < s.sto.total ∧ (s.block b).retired = false ∧ (((s.block b).free = true ∨ (s.block b).valid = 0))) ∧
    (∃ (s : State) (hb : Nat) (day : Nat), s.cutOff 15 0 = false ∧ Assoc.has (segKey hb day) s.sto.segments = true) ∧
    (∃ (s : State) (hb : Nat) (day : Nat), s.cutOff 15 0 = false ∧ Assoc.has (segKey hb day) s.sto.segments = true) ∧
    (∃ (s : State), s.storeOpen = true ∧ s.freeOutside = 0 ∧ s.sys.eraseHold = false) ∧
    (∃ (s : State) (day : Nat), s.cutOff 15 0 = false ∧ day + s.nat Attr.StoreService.retentionDays 0 < s.today) ∧
    (∃ (s : State) (d : Nat), s.cutOff 15 0 = false ∧ s.sys.eraseHold = false ∧ s.freeOutside = 0 ∧ s.nat Attr.StoreService.retentionPolicy 0 = 0 ∧ s.nat Attr.StoreService.mediaState 0 ≠ 3 ∧ s.oldestDay = some d ∧ d + s.nat Attr.BillingService.minRetentionDays 0 < s.today) ∧
    (∃ (s : State), s.journalOpen = true ∧ s.sto.total ≠ 0 ∧ s.spareLeft < 50) ∧
    (∃ (s : State) (c : Cmd) (n : Nat), s.Serves c n ∧ c.opcode = 0x0B02 ∧ s.nat Attr.StoreService.gcStopPct 0 ≤ octet c.payload 0 ∧ octet c.payload 0 ≤ 40 ∧ 1 ≤ field c.payload 1 2 ∧ field c.payload 1 2 ≤ 1440 ∧ octet c.payload 3 = 0 ∧ s.fcr.admitted = [] ∧ s.fcr.deferred = []) ∧
    (∃ (s : State) (c : Cmd) (n : Nat) (h : Nat) (g : List (Nat × IRec) × Bool), s.Serves c n ∧ c.opcode = 0x0B01 ∧ c.target 0x0B10 = some h ∧ 1 ≤ field c.payload 4 2 ∧ field c.payload 4 2 ≤ 32768 ∧ octet c.payload 6 < 4 ∧ octet c.payload 7 = 0 ∧ (let first := field c.payload 0 4; let is := (s.sto.records.filter (fun x => x.1 / 2 ^ 32 == h && decide (first ≤ x.1 % 2 ^ 32) && decide (x.1 % 2 ^ 32 < first + field c.payload 4 2))).map (fun x => x.1 % 2 ^ 32); is ≠ [] ∧ gatherRecords (fun i => s.readVersions h i (bit (octet c.payload 6) 0) (bit (octet c.payload 6) 1)) h is 0 [] = g ∧ s.sto.lost = [] ∧ s.sto.peers = [] ∧ g.1.length ≤ 100)) :=
  ⟨⟨(let z0 : State := wsto; { z0 with sto := { z0.sto with blocks := [(4, ⟨2, 5, false, false, false⟩)] } }), 4, 9, by decide +kernel⟩,
    ⟨(let z0 : State := wsto; { z0 with sto := { z0.sto with blocks := [(4, ⟨2, 0, false, false, false⟩)] } }), 4, by decide +kernel⟩,
    ⟨(let z0 : State := wsto; { z0 with sto := { z0.sto with segments := [(segKey 0 3, 0)], records := [(2 ^ 32 + 288, [⟨1, 0, [5]⟩]), (2 ^ 32 + 289, [⟨1, 0, [5]⟩])] } }), 0, 3, by decide +kernel⟩,
    ⟨(let z0 : State := wsto; { z0 with sto := { z0.sto with segments := [(segKey 0 3, 0)] } }), 0, 3, by decide +kernel⟩,
    ⟨(let z0 : State := wsto; { z0 with sys := { z0.sys with eraseHold := false }, sto := { z0.sto with total := 0 } }), by decide +kernel⟩,
    ⟨(let z0 : State := wsto; { z0 with tim := { z0.tim with d2 := sec (86400 * 2000) }, sto := { z0.sto with records := [(2 ^ 32 + 288, [⟨1, 0, [5]⟩]), (2 ^ 32 + 1289, [⟨1, 0, [5]⟩])] } }), 3, by decide +kernel⟩,
    ⟨(let z0 : State := (wsto).setNat Attr.StoreService.retentionPolicy 0 (0); { z0 with sys := { z0.sys with eraseHold := false }, sto := { z0.sto with total := 0, records := [(2 ^ 32 + 288, [⟨1, 0, [5]⟩]), (2 ^ 32 + 1289, [⟨1, 0, [5]⟩])] }, tim := { z0.tim with d2 := sec (86400 * 2000) } }), 3, by decide +kernel⟩,
    ⟨(let z0 : State := (wsto).setNat Attr.StoreService.userCapacityPct 0 99; { z0 with sto := { z0.sto with total := 100, blocks := [] } }), by decide +kernel⟩,
    ⟨serve ((let z0 : State := wsto; { z0 with fcr := { z0.fcr with admitted := [], deferred := [] } })) ({ src := .pair 1, opcode := 0x0B02, payload := leBytes 1 (35) ++ leBytes 2 (60) ++ leBytes 1 (0) } : Cmd), { src := .pair 1, opcode := 0x0B02, payload := leBytes 1 (35) ++ leBytes 2 (60) ++ leBytes 1 (0) }, 1, serves_of (by decide +kernel), by decide +kernel⟩,
    ⟨serve ((let z0 : State := wsto; { z0 with sto := { z0.sto with lost := [], peers := [], records := [(2 ^ 32 + 288, [⟨1, 0, [5]⟩]), (2 ^ 32 + 1289, [⟨1, 0, [5]⟩])] } })) ({ src := .pair 1, opcode := 0x0B01, payload := leBytes 4 (288) ++ leBytes 2 (5) ++ leBytes 1 (0) ++ leBytes 1 (0), path := mkPath 0x0B10 ((1 : Nat)) 0 } : Cmd), { src := .pair 1, opcode := 0x0B01, payload := leBytes 4 (288) ++ leBytes 2 (5) ++ leBytes 1 (0) ++ leBytes 1 (0), path := mkPath 0x0B10 ((1 : Nat)) 0 }, 1, 1, gatherRecords (fun i => (serve ((let z0 : State := wsto; { z0 with sto := { z0.sto with lost := [], peers := [], records := [(2 ^ 32 + 288, [⟨1, 0, [5]⟩]), (2 ^ 32 + 1289, [⟨1, 0, [5]⟩])] } })) ({ src := .pair 1, opcode := 0x0B01, payload := leBytes 4 (288) ++ leBytes 2 (5) ++ leBytes 1 (0) ++ leBytes 1 (0), path := mkPath 0x0B10 ((1 : Nat)) 0 } : Cmd) : State).readVersions 1 i false false) 1 [288] 0 [], serves_of (by decide +kernel), by decide +kernel⟩⟩

theorem wit_LineMedium :
    (∃ (s : State) (p : Nat) (q : Nat), (s.port p).onAir = none ∧ (s.port p).top = some q) ∧
    (∃ (s : State) (p : Nat) (q : Nat), (s.port p).onAir = none ∧ (s.port p).top = some q ∧ (s.port p).backoff = none) ∧
    (∃ (s : State) (p : Nat) (n : Nat), (s.port p).onAir = none ∧ (s.port p).contending = true ∧ (s.port p).backoff = some (n + 2)) ∧
    (∃ (s : State) (p : Nat) (q : Nat) (u : TxUnit) (rest : List TxUnit), (s.port p).onAir = none ∧ (s.port p).contending = true ∧ (s.port p).backoff = some 1 ∧ (s.port p).top = some q ∧ (s.port p).queues.getD q [] = u :: rest ∧ s.portTx p = true ∧ s.avoids p (s.buildFrame p q u false) = false) ∧
    (∃ (s : State) (p : Nat) (f : OnAir), (s.port p).onAir = some f ∧ s.portFullDuplex p = true ∧ (decodeHeader f.header).duplex = false ∧ (decodeHeader f.header).kind ≠ 0) ∧
    (∃ (s : State) (p : Nat) (f : OnAir), (s.port p).onAir = some f ∧ f.cutThrough = true) ∧
    (∃ (s : State) (p : Nat) (f : OnAir), (s.port p).onAir = some f ∧ f.cutThrough = true) ∧
    (∃ (s : State) (p : Nat) (result : Nat) (f : OnAir) (u : TxUnit) (rest : List TxUnit), (s.port p).onAir = some f ∧ f.awaitAck = true ∧ (s.port p).queues.getD f.queue [] = u :: rest ∧ (result = 0 ∨ result = 3) ∧ u.producer = .none ∧ u.acked.contains f.seg = false ∧ segments u.body.length (s.nat Attr.LinePort.maxSegment p) = u.acked.length + 1) ∧
    (∃ (s : State) (p : Nat) (result : Nat) (f : OnAir) (u : TxUnit) (rest : List TxUnit), (s.port p).onAir = some f ∧ f.awaitAck = true ∧ (s.port p).queues.getD f.queue [] = u :: rest ∧ (result = 1 ∨ result = 2) ∧ u.attempts + 1 < s.nat Attr.LinePort.retryLimit p) ∧
    (∃ (s : State) (p : Nat) (f : OnAir) (u : TxUnit) (rest : List TxUnit), (s.port p).onAir = some f ∧ f.awaitAck = true ∧ (s.port p).queues.getD f.queue [] = u :: rest ∧ s.nat Attr.LinePort.retryLimit p ≤ u.attempts + 1 ∧ u.producer = .none) :=
  ⟨⟨((fun (s : State) => s.setPort 1 { s.port 1 with queues := List.replicate 7 [] ++ [[u0]] }) (wb)), 1, 7, by decide +kernel⟩,
    ⟨((fun (s : State) => s.setPort 1 { s.port 1 with queues := List.replicate 7 [] ++ [[u0]] }) (wb)), 1, 7, by decide +kernel⟩,
    ⟨((fun (s : State) => s.setPort 1 { s.port 1 with contending := true, backoff := some 3 }) (wb)), 1, 1, by decide +kernel⟩,
    ⟨((fun (s : State) => s.setPort 1 { s.port 1 with queues := List.replicate 7 [] ++ [[u0]], contending := true, backoff := some 1 }) ((wb).setNat Attr.LinePort.wiring (1 : Nat) 1)), 1, 7, u0, [], by decide +kernel⟩,
    ⟨((fun (s : State) => s.setPort 1 { s.port 1 with onAir := some f0 }) (((wb).setNat Attr.LinePort.wiring 1 1).setNat Attr.LineLane.cancellerState 3 2)), 1, f0, by decide +kernel⟩,
    ⟨((fun (s : State) => s.setPort 1 { s.port 1 with onAir := some ({ f0 with cutThrough := true } : OnAir) }) (wb)), 1, { f0 with cutThrough := true }, by decide +kernel⟩,
    ⟨((fun (s : State) => s.setPort 1 { s.port 1 with onAir := some ({ f0 with cutThrough := true } : OnAir), queues := List.replicate 7 [] ++ [[u0]] }) (wb)), 1, { f0 with cutThrough := true }, by decide +kernel⟩,
    ⟨((fun (s : State) => s.setPort 1 { s.port 1 with onAir := some f0, queues := List.replicate 7 [] ++ [[u0]] }) (wb)), 1, 3, f0, u0, [], by decide +kernel⟩,
    ⟨((fun (s : State) => s.setPort 1 { s.port 1 with onAir := some f0, queues := List.replicate 7 [] ++ [[u0]] }) (wb)), 1, 2, f0, u0, [], by decide +kernel⟩,
    ⟨((fun (s : State) => s.setPort 1 { s.port 1 with onAir := some f0, queues := List.replicate 7 [] ++ [[({ u0 with attempts := 6 } : TxUnit)]] }) (wb)), 1, f0, { u0 with attempts := 6 }, [], by decide +kernel⟩⟩

theorem wit_BeaconsAndLeases :
    (∃ (s : State) (c : Nat) (p : Nat), c < 512 ∧ p < 16 ∧ s.isLine c = true ∧ s.isPan c = false ∧ s.nat Attr.LineCell.kind c = 0 ∧ s.nat Attr.LineCell.port c = p ∧ s.sys.mode ≠ .shadow ∧ (s.port p).busy = false ∧ (s.port p).onAir = none ∧ s.portTx p = true ∧ s.renews c = true ∧ (s.cell c).restoring = false ∧ s.nat Attr.LineCell.beaconState c = 0) ∧
    (∃ (s : State) (c : Nat), s.isLine c = true ∧ s.nat Attr.LineCell.kind c = 0 ∧ s.sys.mode ≠ .shadow) ∧
    (∃ (s : State) (c : Nat) (k : Nat), (s.cell c).slip = some k ∧ k < 3) ∧
    (∃ (s : State) (c : Nat) (k : Nat), s.isPan c = false ∧ (s.cell c).slip = some k ∧ 3 ≤ k ∧ (s.cell c).missed = 0 ∧ s.nat Attr.LineCell.beaconState c = 0) ∧
    (∃ (s : State) (c : Nat) (k : Nat), s.isPan c = false ∧ (s.cell c).slip = some k ∧ 3 ≤ k ∧ (s.cell c).missed = 2 ∧ s.cellHandles c = []) ∧
    (∃ (s : State) (c : Nat) (p : Nat), c < 512 ∧ p < 16 ∧ s.isLine c = true ∧ s.nat Attr.LineCell.kind c = 1 ∧ s.nat Attr.LineCell.port c = p ∧ s.sys.mode ≠ .shadow ∧ s.portTx p = true ∧ (s.port p).queues.length = 8) ∧
    (∃ (s : State) (c : Nat), c < 512 ∧ s.isLine c = true ∧ s.isPan c = false ∧ s.portTx (s.nat Attr.LineCell.port c) = true ∧ s.nat Attr.LineCell.beaconState c = 2) ∧
    (∃ (s : State) (c : Nat) (h : Nat), s.isLine c = true ∧ (s.cellHandles c).contains h = true ∧ (s.cell c).restoring = false ∧ s.nat Attr.EndpointProfile.role h ≠ 1) ∧
    (∃ (s : State) (c : Nat) (h : Nat), c < 512 ∧ s.isLine c = true ∧ (s.cellHandles c).contains h = true ∧ (s.cell c).restoring = false ∧ s.nat Attr.EndpointProfile.role h = 1 ∧ s.nat Attr.LineCell.beaconState c = 0) ∧
    (∃ (s : State) (c : Nat) (h : Nat), (s.cell c).acked.contains h = false ∧ (s.cellLanterns c).contains h = true ∧ (s.cell c).restoring = false) :=
  ⟨⟨((fun (s : State) => { s with lin := { s.lin with cells := Assoc.put 1 { held := false, restoring := false } s.lin.cells } }) ((((((wb).create 0x0210 (1 : Nat)).setNat Attr.LineCell.kind (1 : Nat) (0)).setNat Attr.LineCell.port (1 : Nat) ((1 : Nat))).setNat Attr.LinePort.wiring (1 : Nat) 1).setNat Attr.LineCell.beaconState (1 : Nat) (0))), 1, 1, by decide +kernel⟩,
    ⟨((wb).create 0x0210 (1 : Nat)).setNat Attr.LineCell.kind (1 : Nat) (0), 1, by decide +kernel⟩,
    ⟨((fun (s : State) => { s with lin := { s.lin with cells := Assoc.put 1 { slip := some 1 } s.lin.cells } }) (wb)), 1, 1, by decide +kernel⟩,
    ⟨((fun (s : State) => { s with lin := { s.lin with cells := Assoc.put 1 { slip := some 3 } s.lin.cells } }) ((wb).setNat Attr.LineCell.beaconState (1 : Nat) (0))), 1, 3, by decide +kernel⟩,
    ⟨((fun (s : State) => { s with lin := { s.lin with cells := Assoc.put 1 { slip := some 3, missed := 2 } s.lin.cells } }) (wb)), 1, 3, by decide +kernel⟩,
    ⟨((((wb).create 0x0210 (1 : Nat)).setNat Attr.LineCell.kind (1 : Nat) (1)).setNat Attr.LineCell.port (1 : Nat) ((1 : Nat))).setNat Attr.LinePort.wiring (1 : Nat) 1, 1, 1, by decide +kernel⟩,
    ⟨((((wb).create 0x0210 (1 : Nat)).setNat Attr.LineCell.beaconState (1 : Nat) (2)).setNat Attr.LineCell.port 1 0).setNat Attr.LinePort.wiring 0 1, 1, by decide +kernel⟩,
    ⟨((fun (s : State) => { s with lin := { s.lin with cells := Assoc.put 1 { restoring := false } s.lin.cells } }) ((let z0 : State := (wb).create 0x0210 (1 : Nat); { z0 with lin := { z0.lin with addrs := [(1 * 65536 + 5, 7)] } }))), 1, 7, by decide +kernel⟩,
    ⟨((fun (s : State) => { s with lin := { s.lin with cells := Assoc.put 1 { restoring := false } s.lin.cells } }) ((let z0 : State := (((wb).create 0x0210 (1 : Nat)).setNat Attr.EndpointProfile.role (7 : Nat) (1)).setNat Attr.LineCell.beaconState (1 : Nat) (0); { z0 with lin := { z0.lin with addrs := [(1 * 65536 + 5, 7)] } }))), 1, 7, by decide +kernel⟩,
    ⟨((fun (s : State) => { s with lin := { s.lin with cells := Assoc.put 1 { restoring := false } s.lin.cells } }) ((let z0 : State := (wb).setNat Attr.EndpointProfile.role 7 1; { z0 with lin := { z0.lin with addrs := [(1 * 65536 + 5, 7)] } }))), 1, 7, by decide +kernel⟩⟩

theorem wit_CellsAndAddresses :
    (∃ (s : State) (c : Cmd) (n : Nat) (p : Nat) (cell : Nat) (slot : Nat) (purpose : Nat), s.Serves c n ∧ c.opcode = 0x0210 ∧ octet c.payload 0 = 1 ∧ octet c.payload 1 = 0 ∧ octet c.payload 2 = purpose ∧ octet c.payload 3 = p ∧ field c.payload 4 2 = cell ∧ octet c.payload 6 = slot ∧ purpose ≤ 1 ∧ p ≤ 15 ∧ cell ≤ 511 ∧ slot ≤ 15 ∧ s.fencedObject 0x0201 p = false ∧ s.fusedOff 13 0 = false ∧ s.nat Attr.LinePort.wiring p ≠ 0 ∧ (s.localCells p).length < 16 ∧ (s.instances 0x0210).countP (fun k => s.nat Attr.LineCell.kind k == 0) < s.localCellLimit ∧ s.isLine cell = false ∧ s.isPan cell = false ∧ (s.localCells p).any (fun k => s.nat Attr.LineCell.beaconSlot k == slot) = false) ∧
    (∃ (s : State) (c : Cmd) (n : Nat) (cell : Nat), s.Serves c n ∧ c.opcode = 0x0210 ∧ octet c.payload 0 = 2 ∧ field c.payload 4 2 = cell ∧ s.isLine cell = true ∧ s.isPan cell = false ∧ s.cellHandles cell = []) ∧
    (∃ (s : State) (c : Cmd) (n : Nat) (cell : Nat) (a : Nat) (h : Nat), s.Serves c n ∧ c.opcode = 0x0211 ∧ field c.payload 0 2 = cell ∧ field c.payload 2 2 = a ∧ Assoc.find (cell * 65536 + a) s.lin.addrs = some h ∧ (s.primary h).any (fun r => r.cell == cell) = false) ∧
    (∃ (s : State) (c : Cmd) (n : Nat) (cell : Nat) (a : Nat) (h : Nat) (pl : Place) (e : LEntry), s.Serves c n ∧ c.opcode = 0x0211 ∧ field c.payload 0 2 = cell ∧ field c.payload 2 2 = a ∧ Assoc.find (cell * 65536 + a) s.lin.addrs = some h ∧ (s.primary h).any (fun r => r.cell == cell) = true ∧ s.findEntry false (s.nat Attr.EndpointLocator.eui h) = some (pl, e) ∧ e.handle = h) ∧
    (∃ (s : State) (c : Nat) (eui : Nat) (h : Nat) (a : Nat), s.handleOf eui = some h ∧ s.addrOf c h = some a ∧ Assoc.find (c * 65536 + a) s.lin.addrs = some h ∧ (s.primary h).any (fun r => r.cell == c) = false) ∧
    (∃ (s : State) (c : Nat) (a : Nat) (h : Nat), s.nat (s.cellAttr c Attr.LineCell.addressIdleDays Attr.RadioPan.addressIdleDays) c ≠ 0 ∧ Assoc.find (c * 65536 + a) s.lin.addrs = some h ∧ (s.primary h).any (fun r => r.cell == c) = false) ∧
    (∃ (s : State) (c : Nat), s.nat (s.cellAttr c Attr.LineCell.addressIdleDays Attr.RadioPan.addressIdleDays) c = 0) ∧
    (∃ (s : State) (r : AdmitReq) (p : Nat) (h : Nat) (a : Nat), r.cell < 512 ∧ p < 16 ∧ h < 2 ^ 21 ∧ s.nat Attr.LineCell.port r.cell = p ∧ s.isLine r.cell = true ∧ s.isPan r.cell = false ∧ s.nat Attr.LineCell.kind r.cell = 0 ∧ s.flag Attr.LineCell.admissionOpen r.cell = true ∧ s.portTx p = true ∧ s.cutOff 8 0 = false ∧ r.role = 0 ∧ bit r.caps 5 = true ∧ s.known r.eui = some h ∧ s.nat Attr.EndpointProfile.role h ≠ 1 ∧ s.primary h = none ∧ s.addrOf r.cell h = none ∧ s.freeAddr r.cell = some a ∧ s.elt.locks = [] ∧ s.elt.overflow.length < 16383 ∧ s.findEntry false r.eui = none) ∧
    (∃ (s : State) (r : AdmitReq) (p : Nat), s.nat Attr.LineCell.port r.cell = p ∧ s.isLine r.cell = true ∧ s.isPan r.cell = false ∧ s.nat Attr.LineCell.kind r.cell = 0 ∧ s.flag Attr.LineCell.admissionOpen r.cell = true ∧ s.portTx p = true ∧ s.cutOff 8 0 = false ∧ r.role ≠ 3 ∧ s.known r.eui = none ∧ (s.port p).queues.length = 8) ∧
    (∃ (s : State) (r : AdmitReq) (p : Nat), s.nat Attr.LineCell.port r.cell = p ∧ s.isLine r.cell = true ∧ s.nat Attr.LineCell.kind r.cell = 1 ∧ s.flag Attr.LineCell.admissionOpen r.cell = true ∧ s.portTx p = true ∧ s.cutOff 8 0 = false ∧ r.role = 3 ∧ s.nat Attr.LineCell.relayEui r.cell = r.eui) :=
  ⟨⟨serve ((wb).setNat Attr.LinePort.wiring 1 1) ({ src := .pair 1, opcode := 0x0210, payload := leBytes 1 (1) ++ leBytes 1 (0) ++ leBytes 1 ((1 : Nat)) ++ leBytes 1 ((1 : Nat)) ++ leBytes 2 ((1 : Nat)) ++ leBytes 1 ((1 : Nat)) } : Cmd), { src := .pair 1, opcode := 0x0210, payload := leBytes 1 (1) ++ leBytes 1 (0) ++ leBytes 1 ((1 : Nat)) ++ leBytes 1 ((1 : Nat)) ++ leBytes 2 ((1 : Nat)) ++ leBytes 1 ((1 : Nat)) }, 1, 1, 1, 1, 1, serves_of (by decide +kernel), by decide +kernel⟩,
    ⟨serve ((wb).create 0x0210 (1 : Nat)) ({ src := .pair 1, opcode := 0x0210, payload := leBytes 1 (2) ++ List.replicate 3 0 ++ leBytes 2 ((1 : Nat)) } : Cmd), { src := .pair 1, opcode := 0x0210, payload := leBytes 1 (2) ++ List.replicate 3 0 ++ leBytes 2 ((1 : Nat)) }, 1, 1, serves_of (by decide +kernel), by decide +kernel⟩,
    ⟨serve ((let z0 : State := wb; { z0 with lin := { z0.lin with addrs := [(1 * 65536 + 5, 7)] } })) ({ src := .pair 1, opcode := 0x0211, payload := leBytes 2 ((1 : Nat)) ++ leBytes 2 ((5 : Nat)) } : Cmd), { src := .pair 1, opcode := 0x0211, payload := leBytes 2 ((1 : Nat)) ++ leBytes 2 ((5 : Nat)) }, 1, 1, 5, 7, serves_of (by decide +kernel), by decide +kernel⟩,
    ⟨serve ((let z0 : State := ((((((wb).create 0x0501 7).setNat Attr.EndpointProfile.eui 7 99).setNat Attr.EndpointLocator.eui 7 99).setNat Attr.EndpointLocator.port 7 1).setNat Attr.EndpointLocator.cell 7 1).setNat Attr.EndpointLocator.short 7 5; { z0 with lin := { z0.lin with addrs := [(1 * 65536 + 5, 7)] }, elt := { z0.elt with overflow := [(0, ({ key := 99, handle := 7, port := 1, cell := 1, short := 5, isAlias := false } : LEntry))] } })) ({ src := .pair 1, opcode := 0x0211, payload := leBytes 2 ((1 : Nat)) ++ leBytes 2 ((5 : Nat)) } : Cmd), { src := .pair 1, opcode := 0x0211, payload := leBytes 2 ((1 : Nat)) ++ leBytes 2 ((5 : Nat)) }, 1, 1, 5, 7, .ovf 0, { key := 99, handle := 7, port := 1, cell := 1, short := 5, isAlias := false }, serves_of (by decide +kernel), by decide +kernel⟩,
    ⟨(let z0 : State := ((wb).create 0x0501 7).setNat Attr.EndpointProfile.eui 7 99; { z0 with lin := { z0.lin with addrs := [(1 * 65536 + 5, 7)] } }), 1, 99, 7, 5, by decide +kernel⟩,
    ⟨(let z0 : State := (wb).create 0x0210 1; { z0 with lin := { z0.lin with addrs := [(1 * 65536 + 5, 7)] } }), 1, 5, 7, by decide +kernel⟩,
    ⟨((wb).setNat Attr.LineCell.addressIdleDays 1 0).create 0x0210 1, 1, by decide +kernel⟩,
    ⟨(let z0 : State := ((((((((((((wb).setNat Attr.LineCell.port ({ cell := 1, eui := 99, caps := 32, longSpan := 0, streams := 0, role := 0, metric := 1 } : AdmitReq).cell ((1 : Nat))).create 0x0210 ({ cell := 1, eui := 99, caps := 32, longSpan := 0, streams := 0, role := 0, metric := 1 } : AdmitReq).cell).setNat Attr.LineCell.kind ({ cell := 1, eui := 99, caps := 32, longSpan := 0, streams := 0, role := 0, metric := 1 } : AdmitReq).cell (0)).setFlag Attr.LineCell.admissionOpen ({ cell := 1, eui := 99, caps := 32, longSpan := 0, streams := 0, role := 0, metric := 1 } : AdmitReq).cell true).setNat Attr.LinePort.wiring (1 : Nat) 1).create 0x0501 7).setNat Attr.EndpointProfile.eui 7 99).setNat Attr.EndpointKey.generation 7 0).setNat Attr.LinePort.wiring 1 1).create 0x0210 1).setFlag Attr.LineCell.admissionOpen 1 true).setNat Attr.LineCell.port 1 1; { z0 with elt := { z0.elt with locks := [] } }), { cell := 1, eui := 99, caps := 32, longSpan := 0, streams := 0, role := 0, metric := 1 }, 1, 7, 1, by decide +kernel⟩,
    ⟨(((((wb).setNat Attr.LineCell.port ({ cell := 1, eui := 99, caps := 32, longSpan := 0, streams := 0, role := 0, metric := 1 } : AdmitReq).cell ((1 : Nat))).create 0x0210 ({ cell := 1, eui := 99, caps := 32, longSpan := 0, streams := 0, role := 0, metric := 1 } : AdmitReq).cell).setNat Attr.LineCell.kind ({ cell := 1, eui := 99, caps := 32, longSpan := 0, streams := 0, role := 0, metric := 1 } : AdmitReq).cell (0)).setFlag Attr.LineCell.admissionOpen ({ cell := 1, eui := 99, caps := 32, longSpan := 0, streams := 0, role := 0, metric := 1 } : AdmitReq).cell true).setNat Attr.LinePort.wiring (1 : Nat) 1, { cell := 1, eui := 99, caps := 32, longSpan := 0, streams := 0, role := 0, metric := 1 }, 1, by decide +kernel⟩,
    ⟨((((((wb).setNat Attr.LineCell.port ({ cell := 1, eui := 99, caps := 32, longSpan := 0, streams := 0, role := 3, metric := 1 } : AdmitReq).cell ((1 : Nat))).create 0x0210 ({ cell := 1, eui := 99, caps := 32, longSpan := 0, streams := 0, role := 3, metric := 1 } : AdmitReq).cell).setNat Attr.LineCell.kind ({ cell := 1, eui := 99, caps := 32, longSpan := 0, streams := 0, role := 3, metric := 1 } : AdmitReq).cell (1)).setFlag Attr.LineCell.admissionOpen ({ cell := 1, eui := 99, caps := 32, longSpan := 0, streams := 0, role := 3, metric := 1 } : AdmitReq).cell true).setNat Attr.LinePort.wiring (1 : Nat) 1).setNat Attr.LineCell.relayEui ({ cell := 1, eui := 99, caps := 32, longSpan := 0, streams := 0, role := 3, metric := 1 } : AdmitReq).cell (({ cell := 1, eui := 99, caps := 32, longSpan := 0, streams := 0, role := 3, metric := 1 } : AdmitReq).eui), { cell := 1, eui := 99, caps := 32, longSpan := 0, streams := 0, role := 3, metric := 1 }, 1, by decide +kernel⟩⟩

theorem wit_LaneCanceller :
    (∃ (s : State) (l : Nat) (erle : Nat), s.nat Attr.LineLane.cancellerState l = 2 ∧ erle < s.nat Attr.LineLane.fdExit l * 10) ∧
    (∃ (s : State) (l : Nat) (erle : Nat), s.nat Attr.LineLane.fdExit l * 10 ≤ erle) ∧
    (∃ (s : State) (l : Nat) (erle : Nat), s.nat Attr.LineLane.cancellerState l = 3 ∧ s.nat Attr.LineLane.fdEnter l * 10 ≤ erle) ∧
    (∃ (s : State) (l : Nat) (taps : List Int), (s.lane l).snapshot = some taps) ∧
    (∃ (s : State) (l : Nat), (s.lane l).training = true) ∧
    (∃ (s : State) (l : Nat) (t0 : Nat), (s.lane l).halfSince = some t0 ∧ t0 + sec 2 ≤ s.tim.d3 ∧ s.fcr.admitted = [] ∧ s.fcr.deferred = [] ∧ s.fcr.waiting = [] ∧ s.mbx.taken = [] ∧ (s.port (l / 3)).queues.length = 8) ∧
    (∃ (s : State) (c : Cmd) (n : Nat) (l : Nat), s.Serves c n ∧ c.opcode = 0x0201 ∧ octet c.payload 0 = l ∧ l ≤ 47 ∧ s.nat Attr.LineLane.cancellerState l ≠ 0 ∧ s.fcr.admitted = [] ∧ s.fcr.deferred = [] ∧ (s.port (l / 3)).queues.length = 8) ∧
    (∃ (s : State) (l : Nat), s.nat Attr.LineLane.cancellerState l = 3 ∧ (s.port (l / 3)).queues.length = 8) ∧
    (∃ (s : State) (l : Nat), s.nat Attr.LineLane.cancellerState l ≠ 2) :=
  ⟨⟨(wb).setNat Attr.LineLane.cancellerState (1 : Nat) (2), 1, 1, by decide +kernel⟩,
    ⟨wb, 1, 500, by decide +kernel⟩,
    ⟨(wb).setNat Attr.LineLane.cancellerState (1 : Nat) (3), 1, 500, by decide +kernel⟩,
    ⟨((fun (s : State) => s.setLane 1 { snapshot := some [4] }) (wb)), 1, [4], by decide +kernel⟩,
    ⟨((fun (s : State) => s.setLane 1 { training := true }) (wb)), 1, by decide +kernel⟩,
    ⟨((fun (s : State) => s.setLane 1 { halfSince := some 5 }) ((let z0 : State := wb; { z0 with fcr := { z0.fcr with admitted := [], deferred := [], waiting := [] }, mbx := { z0.mbx with taken := [] }, tim := { z0.tim with d3 := sec 3 } }))), 1, 5, by decide +kernel⟩,
    ⟨serve ((let z0 : State := ((wb).setNat Attr.LineLane.cancellerState 1 3).setNat Attr.LinePort.wiring 0 3; { z0 with fcr := { z0.fcr with admitted := [], deferred := [] } })) ({ src := .pair 1, opcode := 0x0201, payload := leBytes 1 ((1 : Nat)) } : Cmd), { src := .pair 1, opcode := 0x0201, payload := leBytes 1 ((1 : Nat)) }, 1, 1, serves_of (by decide +kernel), by decide +kernel⟩,
    ⟨(wb).setNat Attr.LineLane.cancellerState (1 : Nat) (3), 1, by decide +kernel⟩,
    ⟨wb, 1, by decide +kernel⟩⟩

theorem wit_ZeroCrossing :
    (∃ (s : State) (p : Nat), s.zcUsers p = [p] ∧ (s.port p).edges = [] ∧ (s.port p).good = 0) ∧
    (∃ (s : State) (p : Nat) (t0 : Nat) (e : Nat) (es : List Nat), s.zcUsers p = [p] ∧ s.nat Attr.LinePort.zcDelayNs p = 0 ∧ (s.port p).edges = e :: es ∧ 0 < zcPeriod (e :: es) ∧ t0 = e + zcPeriod (e :: es) ∧ (s.port p).zcLost = false ∧ 7 ≤ (s.port p).good) ∧
    (∃ (s : State) (p : Nat) (t0 : Nat) (e : Nat) (es : List Nat), s.zcUsers p = [p] ∧ s.nat Attr.LinePort.zcDelayNs p = 0 ∧ (s.port p).edges = e :: es ∧ 0 < zcPeriod (e :: es) ∧ e ≤ t0 ∧ 2 * (t0 - e) < zcPeriod (e :: es)) ∧
    (∃ (s : State) (p : Nat), (s.port p).zcLost = false ∧ (s.port p).edges ≠ []) :=
  ⟨⟨wb, 1, by decide +kernel⟩,
    ⟨((fun (s : State) => s.setPort 1 { s.port 1 with edges := [40000000000, 20000000000], good := 7 }) (((wb).setNat Attr.LinePort.zcDelayNs (1 : Nat) (0)).setNat Attr.LinePort.zcDelayNs 1 0)), 1, 60000000000, 40000000000, [20000000000], by decide +kernel⟩,
    ⟨((fun (s : State) => s.setPort 1 { s.port 1 with edges := [40000000000, 20000000000], good := 7 }) (((wb).setNat Attr.LinePort.zcDelayNs (1 : Nat) (0)).setNat Attr.LinePort.zcDelayNs 1 0)), 1, 49000000000, 40000000000, [20000000000], by decide +kernel⟩,
    ⟨((fun (s : State) => s.setPort 1 { s.port 1 with edges := [40000000000, 20000000000], good := 7 }) (wb)), 1, by decide +kernel⟩⟩

theorem wit_LineReception :
    (∃ (s : State) (x : LineRx), (s.portLanes x.port).contains x.lane = true ∧ s.cutOff 5 x.port = false ∧ s.cutOff 4 x.lane = false ∧ headerGood x.header = false ∧ s.linkOf x.port (decodeHeader x.header).cell (decodeHeader x.header).src = none) ∧
    (∃ (s : State) (x : LineRx) (k : Nat), (s.portLanes x.port).contains x.lane = true ∧ s.cutOff 5 x.port = false ∧ s.cutOff 4 x.lane = false ∧ headerGood x.header = false ∧ s.linkOf x.port (decodeHeader x.header).cell (decodeHeader x.header).src = some k ∧ s.alive 0x0220 k = true) ∧
    (∃ (s : State) (x : LineRx), x.port < 16 ∧ (s.portLanes x.port).contains x.lane = true ∧ s.cutOff 4 x.lane = false ∧ headerGood x.header = true ∧ s.portTx x.port = true ∧ (decodeHeader x.header).kind = 3 ∧ (decodeHeader x.header).tmi = 0 ∧ (decodeHeader x.header).group = false ∧ s.isLine (decodeHeader x.header).cell = true ∧ s.nat Attr.LineCell.port (decodeHeader x.header).cell = x.port ∧ ((∀ k, s.linkOf x.port (decodeHeader x.header).cell (decodeHeader x.header).src = some k → k < 2 ^ 26)) ∧ x.failed = 0 ∧ payloadFcsGood x.body = true ∧ (s.port x.port).repeated s.tim.d3 (decodeHeader x.header).cell (decodeSub x.body) = false) ∧
    (∃ (s : State) (x : LineRx), x.port < 16 ∧ (s.portLanes x.port).contains x.lane = true ∧ s.cutOff 4 x.lane = false ∧ headerGood x.header = true ∧ s.portTx x.port = true ∧ ((decodeHeader x.header).kind = 1 ∨ (decodeHeader x.header).kind = 3 ∨ (decodeHeader x.header).kind = 5) ∧ (decodeHeader x.header).tmi = 0 ∧ (decodeHeader x.header).group = false ∧ s.isLine (decodeHeader x.header).cell = true ∧ s.nat Attr.LineCell.port (decodeHeader x.header).cell = x.port ∧ ((∀ k, s.linkOf x.port (decodeHeader x.header).cell (decodeHeader x.header).src = some k → k < 2 ^ 26)) ∧ x.failed = 0 ∧ payloadFcsGood x.body = true ∧ (s.port x.port).repeated s.tim.d3 (decodeHeader x.header).cell (decodeSub x.body) = true) ∧
    (∃ (s : State) (x : LineRx), x.port < 16 ∧ (s.portLanes x.port).contains x.lane = true ∧ s.cutOff 4 x.lane = false ∧ headerGood x.header = true ∧ s.portTx x.port = true ∧ ((decodeHeader x.header).kind = 1 ∨ (decodeHeader x.header).kind = 3 ∨ (decodeHeader x.header).kind = 5) ∧ (decodeHeader x.header).tmi = 0 ∧ (decodeHeader x.header).group = false ∧ s.isLine (decodeHeader x.header).cell = true ∧ s.nat Attr.LineCell.port (decodeHeader x.header).cell = x.port ∧ ((∀ k, s.linkOf x.port (decodeHeader x.header).cell (decodeHeader x.header).src = some k → k < 2 ^ 26)) ∧ ((x.failed ≠ 0 ∨ payloadFcsGood x.body = false)) ∧ s.flag Attr.LinePort.deliverBad x.port = false) ∧
    (∃ (s : State) (k : Nat) (set : Nat) (p : Nat), s.alive 0x0220 k = true ∧ set ≤ 1 ∧ set ≠ (s.link k).lastSet ∧ k / 2 ^ 21 % 16 = p) ∧
    (∃ (s : State) (k : Nat) (age : Nat), s.alive 0x0220 k = true ∧ age ≤ 30) ∧
    (∃ (s : State) (k : Nat) (age : Nat), s.alive 0x0220 k = true ∧ 120 ≤ age) :=
  ⟨⟨(wb).setNat Attr.LinePort.wiring 1 1, { rx0 with header := 0 }, by decide +kernel⟩,
    ⟨(let z0 : State := ((wb).create 0x0220 (endpointLink 1 7 : Nat)).setNat Attr.LinePort.wiring 1 1; { z0 with lin := { z0.lin with addrs := [(0, 7)] } }), { rx0 with header := 0 }, endpointLink 1 7, by decide +kernel⟩,
    ⟨(((wb).create 0x0210 5).setNat Attr.LineCell.port 5 1).setNat Attr.LinePort.wiring 1 1, rx0, by decide +kernel⟩,
    ⟨((fun (s : State) => s.setPort 1 { s.port 1 with repeats := [(5, (decodeSub rx0.body).src16, (decodeSub rx0.body).seq, (decodeSub rx0.body).seg, s.tim.d3)] }) ((((wb).create 0x0210 5).setNat Attr.LineCell.port 5 1).setNat Attr.LinePort.wiring 1 1)), rx0, by decide +kernel⟩,
    ⟨((((wb).setFlag Attr.LinePort.deliverBad ({ rx0 with failed := 1 } : LineRx).port false).create 0x0210 5).setNat Attr.LineCell.port 5 1).setNat Attr.LinePort.wiring 1 1, { rx0 with failed := 1 }, by decide +kernel⟩,
    ⟨(wb).create 0x0220 (endpointLink 3 7 : Nat), endpointLink 3 7, 1, 3, by decide +kernel⟩,
    ⟨(wb).create 0x0220 (1 : Nat), 1, 1, by decide +kernel⟩,
    ⟨(wb).create 0x0220 (1 : Nat), 1, 120, by decide +kernel⟩⟩

theorem wit_RadioPorts :
    (∃ (s : State) (n : Nat), (s.rport n).locked = true) ∧
    (∃ (s : State) (n : Nat), (s.cutOff 6 n = true ∨ s.sys.mode = .holdup ∨ s.sys.stalemate = true) ∧ (s.rport n).onAir = none) ∧
    (∃ (s : State) (n : Nat) (q : Nat) (a : Nat) (i : Nat) (f : RadioTx), (s.cutOff 6 n = true ∨ s.sys.mode = .holdup ∨ s.sys.stalemate = true) ∧ (s.rport n).onAir = some (f, q, a, i)) ∧
    (∃ (s : State) (x : RadioRx), s.radioTx x.port = true ∧ (s.rport x.port).locked = true ∧ (s.rport x.port).paEn = false ∧ s.isPan x.cell = true ∧ s.nat Attr.RadioPan.port x.cell = x.port ∧ x.fcsOk = false) ∧
    (∃ (s : State) (x : RadioRx), s.radioTx x.port = true ∧ (s.rport x.port).locked = true ∧ (s.rport x.port).paEn = false ∧ s.isPan x.cell = true ∧ s.nat Attr.RadioPan.port x.cell = x.port ∧ s.nat Attr.RadioPort.standard x.port = 2 ∧ x.fcsOk = true ∧ x.modeSwitch = false ∧ x.security ≠ 5 ∧ x.security ≠ 7) ∧
    (∃ (s : State) (x : RadioRx) (at3 : Nat) (ans : Option RadioTx), s.radioTx x.port = true ∧ (s.rport x.port).locked = true ∧ (s.rport x.port).paEn = false ∧ s.isPan x.cell = true ∧ s.nat Attr.RadioPan.port x.cell = x.port ∧ s.nat Attr.RadioPort.standard x.port = 1 ∧ x.fcsOk = true ∧ x.modeSwitch = false ∧ (s.rport x.port).repeats = [(rxSource x, extendSeq ((Assoc.find (rxSource x) (s.rport x.port).lastSeq).getD 0) x.seq, at3, ans)] ∧ s.tim.d3 ≤ at3 + sec 10) ∧
    (∃ (s : State) (x : RadioRx), x.port < 16 ∧ s.radioTx x.port = true ∧ (s.rport x.port).locked = true ∧ (s.rport x.port).paEn = false ∧ s.isPan x.cell = true ∧ s.nat Attr.RadioPan.port x.cell = x.port ∧ s.nat Attr.RadioPort.standard x.port = 1 ∧ x.fcsOk = true ∧ x.modeSwitch = false ∧ x.mesh = true ∧ (s.rport x.port).repeats = []) ∧
    (∃ (s : State) (c : Nat) (n : Nat) (eui : Nat), s.isPan c = true ∧ s.nat Attr.RadioPan.port c = n ∧ s.flag Attr.RadioPan.admissionOpen c = true ∧ s.radioTx n = true ∧ s.nat Attr.RadioPort.standard n = 1 ∧ s.cutOff 8 0 = false ∧ s.handleOf eui = none ∧ (s.rport n).queues.length = 8) ∧
    (∃ (s : State) (c : Nat) (n : Nat) (eui : Nat) (h : Nat) (a : Nat), c < 512 ∧ h < 2 ^ 21 ∧ n < 16 ∧ s.isPan c = true ∧ s.isLine c = false ∧ s.nat Attr.RadioPan.port c = n ∧ s.flag Attr.RadioPan.admissionOpen c = true ∧ s.radioTx n = true ∧ s.nat Attr.RadioPort.standard n = 1 ∧ s.cutOff 8 0 = false ∧ s.handleOf eui = some h ∧ s.known eui = some h ∧ s.nat Attr.EndpointProfile.role h = 0 ∧ bit (s.nat Attr.EndpointProfile.capabilities h) 5 = true ∧ s.primary h = none ∧ s.addrOf c h = none ∧ s.freeAddr c = some a ∧ s.elt.locks = [] ∧ s.elt.overflow.length < 16383 ∧ s.findEntry false eui = none) ∧
    (∃ (s : State) (c : Cmd) (n : Nat) (i : Nat) (k : Nat) (es : List Bytes), s.Serves c n ∧ c.opcode = 0x0301 ∧ octet c.data 0 = i ∧ octet c.data 1 = k ∧ 3 ≤ i ∧ i ≤ 7 ∧ 1 ≤ k ∧ k ≤ 16 ∧ field c.data 2 2 = 0 ∧ c.data.length = 4 + 24 * k ∧ es = (List.range k).map (fun j => slice c.data (4 + 24 * j) 24) ∧ es.all bandLegal = true ∧ es.Pairwise (fun x y => bandsOverlap y x = false) ∧ (∀ p < 16, s.nat Attr.RadioPort.bandProfile p ≠ i)) :=
  ⟨⟨((fun (s : State) => s.setRport 1 { s.rport 1 with locked := true }) (wb)), 1, by decide +kernel⟩,
    ⟨(wb).setFlag Attr.FenceUnit.fenced (6 * 256 + 1) true, 1, by decide +kernel⟩,
    ⟨((fun (s : State) => s.setRport 1 { s.rport 1 with onAir := some (({ cell := 1, dst16 := 5, body := [] } : RadioTx), (1 : Nat), (1 : Nat), (16 : Nat)) }) ((wb).setFlag Attr.FenceUnit.fenced (6 * 256 + 1) true)), 1, 1, 1, 16, { cell := 1, dst16 := 5, body := [] }, by decide +kernel⟩,
    ⟨((fun (s : State) => s.setRport 1 { s.rport 1 with locked := true }) ((((wb).create 0x0310 ({ rr0 with fcsOk := false } : RadioRx).cell).setNat Attr.RadioPan.port ({ rr0 with fcsOk := false } : RadioRx).cell (({ rr0 with fcsOk := false } : RadioRx).port)).setNat Attr.RadioPort.standard 1 1)), { rr0 with fcsOk := false }, by decide +kernel⟩,
    ⟨((fun (s : State) => s.setRport 1 { s.rport 1 with locked := true }) (((((wb).create 0x0310 (rr0 : RadioRx).cell).setNat Attr.RadioPan.port (rr0 : RadioRx).cell ((rr0 : RadioRx).port)).setNat Attr.RadioPort.standard (rr0 : RadioRx).port (2)).setNat Attr.RadioPort.standard 1 2)), rr0, by decide +kernel⟩,
    ⟨((fun (s : State) => s.setRport 1 { s.rport 1 with locked := true, repeats := [(rxSource ({ rr0 with seq := 4 } : RadioRx), extendSeq ((Assoc.find (rxSource ({ rr0 with seq := 4 } : RadioRx)) (s.rport ({ rr0 with seq := 4 } : RadioRx).port).lastSeq).getD 0) ({ rr0 with seq := 4 } : RadioRx).seq, 0, (some { cell := 1, dst16 := 5, body := [4] } : Option RadioTx))] }) ((((wb).create 0x0310 ({ rr0 with seq := 4 } : RadioRx).cell).setNat Attr.RadioPan.port ({ rr0 with seq := 4 } : RadioRx).cell (({ rr0 with seq := 4 } : RadioRx).port)).setNat Attr.RadioPort.standard ({ rr0 with seq := 4 } : RadioRx).port (1))), { rr0 with seq := 4 }, 0, some { cell := 1, dst16 := 5, body := [4] }, by decide +kernel⟩,
    ⟨((fun (s : State) => s.setRport 1 { s.rport 1 with locked := true }) ((((wb).create 0x0310 ({ rr0 with mesh := true } : RadioRx).cell).setNat Attr.RadioPan.port ({ rr0 with mesh := true } : RadioRx).cell (({ rr0 with mesh := true } : RadioRx).port)).setNat Attr.RadioPort.standard ({ rr0 with mesh := true } : RadioRx).port (1))), { rr0 with mesh := true }, by decide +kernel⟩,
    ⟨(((((wb).create 0x0310 (1 : Nat)).setNat Attr.RadioPan.port (1 : Nat) ((1 : Nat))).setFlag Attr.RadioPan.admissionOpen (1 : Nat) true).setNat Attr.RadioPort.standard (1 : Nat) 1).setNat Attr.RadioPort.standard (1 : Nat) (1), 1, 1, 1, by decide +kernel⟩,
    ⟨(let z0 : State := ((((((((((wb).create 0x0310 (1 : Nat)).setNat Attr.RadioPan.port (1 : Nat) ((1 : Nat))).setFlag Attr.RadioPan.admissionOpen (1 : Nat) true).setNat Attr.RadioPort.standard (1 : Nat) 1).setNat Attr.RadioPort.standard (1 : Nat) (1)).setNat Attr.EndpointProfile.role (7 : Nat) (0)).create 0x0501 7).setNat Attr.EndpointProfile.eui 7 99).setNat Attr.EndpointKey.generation 7 0).setNat Attr.EndpointProfile.capabilities 7 32; { z0 with elt := { z0.elt with locks := [] } }), 1, 1, 99, 7, 1, by decide +kernel⟩,
    ⟨serve (wb) ({ src := .pair 1, opcode := 0x0301, payload := [3, 1, 0, 0] ++ leBytes 4 868000 ++ leBytes 4 868600 ++ leBytes 4 10000 ++ leBytes 2 3600 ++ leBytes 2 1000 ++ [0, 0, 10, 0, 0, 0, 0, 0] } : Cmd), { src := .pair 1, opcode := 0x0301, payload := [3, 1, 0, 0] ++ leBytes 4 868000 ++ leBytes 4 868600 ++ leBytes 4 10000 ++ leBytes 2 3600 ++ leBytes 2 1000 ++ [0, 0, 10, 0, 0, 0, 0, 0] }, 1, 3, 1, [leBytes 4 868000 ++ leBytes 4 868600 ++ leBytes 4 10000 ++ leBytes 2 3600 ++ leBytes 2 1000 ++ [0, 0, 10, 0, 0, 0, 0, 0]], serves_of (by decide +kernel), by decide +kernel⟩⟩

theorem wit_ChessClock :
    (∃ (s : State) (n : Nat) (q : Nat) (a : Nat) (i : Nat) (b : Bytes) (f : RadioTx) (rest : List RadioTx), s.radioTx n = true ∧ s.nat Attr.RadioPort.standard n = 1 ∧ (s.rport n).onAir = none ∧ (s.rport n).top = some q ∧ (s.rport n).queues.getD q [] = f :: rest ∧ s.ledgerOf n = some (i, b) ∧ a ≤ field b 14 2 * 1000 ∧ (s.rport n).lastEnd = none ∧ budgetAllows (if q < 2 then .bulk else .prompt) (s.nat Attr.ChessLedger.usedUs i) a (bandBudget b) (octet b 18) (s.nat Attr.RadioPort.bulkLimitPct n) = true) ∧
    (∃ (s : State) (n : Nat) (q : Nat) (a : Nat) (i : Nat) (b : Bytes) (f : RadioTx) (rest : List RadioTx), s.radioTx n = true ∧ s.nat Attr.RadioPort.standard n = 1 ∧ (s.rport n).onAir = none ∧ (s.rport n).top = some q ∧ (s.rport n).queues.getD q [] = f :: rest ∧ f.producer = .none ∧ s.ledgerOf n = some (i, b) ∧ a ≤ field b 14 2 * 1000 ∧ (s.rport n).lastEnd = none ∧ budgetAllows (if q < 2 then .bulk else .prompt) (s.nat Attr.ChessLedger.usedUs i) a (bandBudget b) (octet b 18) (s.nat Attr.RadioPort.bulkLimitPct n) = false) ∧
    (∃ (s : State) (n : Nat) (q : Nat) (a : Nat) (i : Nat) (b : Bytes) (f : RadioTx) (rest : List RadioTx), s.radioTx n = true ∧ s.nat Attr.RadioPort.standard n = 1 ∧ (s.rport n).onAir = none ∧ (s.rport n).top = some q ∧ (s.rport n).queues.getD q [] = f :: rest ∧ f.producer = .none ∧ s.ledgerOf n = some (i, b) ∧ field b 14 2 * 1000 < a) ∧
    (∃ (s : State) (n : Nat) (q : Nat) (a : Nat) (i : Nat) (f : RadioTx), (s.rport n).onAir = some (f, q, a, i) ∧ f.producer = .none) ∧
    (∃ (s : State) (c : Nat) (n : Nat) (a : Nat) (i : Nat) (b : Bytes), s.isPan c = true ∧ s.nat Attr.RadioPan.port c = n ∧ s.nat Attr.RadioPort.standard n = 1 ∧ s.radioTx n = true ∧ s.sys.mode ≠ .shadow ∧ (s.rport n).onAir = none ∧ s.ledgerOf n = some (i, b) ∧ a ≤ field b 14 2 * 1000 ∧ (s.rport n).lastEnd = none ∧ budgetAllows .beacon (s.nat Attr.ChessLedger.usedUs i) a (bandBudget b) (octet b 18) (s.nat Attr.RadioPort.bulkLimitPct n) = true ∧ s.nat Attr.RadioPan.beaconState c ≠ 2) ∧
    (∃ (s : State) (c : Nat) (n : Nat) (k : Nat), s.isPan c = true ∧ s.nat Attr.RadioPan.port c = n ∧ s.nat Attr.RadioPort.standard n = 1 ∧ s.radioTx n = true ∧ s.sys.mode ≠ .shadow ∧ (s.rport n).onAir.isSome = true ∧ k < 5) :=
  ⟨⟨((fun (s : State) => s.setRport 1 { s.rport 1 with queues := [[], [({ cell := 1, dst16 := 5, body := [] } : RadioTx)], [], [], [], [], [], []] }) (((wrad).setNat Attr.RadioPort.standard (1 : Nat) 1).setNat Attr.RadioPort.standard (1 : Nat) (1))), 1, 1, 1000, ((wrad.ledgerOf 1).getD (0, [])).1, ((wrad.ledgerOf 1).getD (0, [])).2, { cell := 1, dst16 := 5, body := [] }, [], by decide +kernel⟩,
    ⟨((fun (s : State) => (s.setRport 1 { s.rport 1 with queues := [[], [({ cell := 1, dst16 := 5, body := [] } : RadioTx)], [], [], [], [], [], []] }).setNat Attr.ChessLedger.usedUs (((wrad.ledgerOf 1).getD (0, [])).1 : Nat) (2 ^ 40)) (((wrad).setNat Attr.RadioPort.standard (1 : Nat) 1).setNat Attr.RadioPort.standard (1 : Nat) (1))), 1, 1, 1000, ((wrad.ledgerOf 1).getD (0, [])).1, ((wrad.ledgerOf 1).getD (0, [])).2, { cell := 1, dst16 := 5, body := [] }, [], by decide +kernel⟩,
    ⟨((fun (s : State) => s.setRport 1 { s.rport 1 with queues := [[], [({ cell := 1, dst16 := 5, body := [] } : RadioTx)], [], [], [], [], [], []] }) (((wrad).setNat Attr.RadioPort.standard (1 : Nat) 1).setNat Attr.RadioPort.standard (1 : Nat) (1))), 1, 1, 10 ^ 12, ((wrad.ledgerOf 1).getD (0, [])).1, ((wrad.ledgerOf 1).getD (0, [])).2, { cell := 1, dst16 := 5, body := [] }, [], by decide +kernel⟩,
    ⟨((fun (s : State) => s.setRport 1 { s.rport 1 with onAir := some (({ cell := 1, dst16 := 5, body := [] } : RadioTx), (1 : Nat), (1 : Nat), (((wrad.ledgerOf 1).getD (0, [])).1 : Nat)) }) (wrad)), 1, 1, 1, ((wrad.ledgerOf 1).getD (0, [])).1, { cell := 1, dst16 := 5, body := [] }, by decide +kernel⟩,
    ⟨((((wrad).create 0x0310 (1 : Nat)).setNat Attr.RadioPan.port (1 : Nat) ((1 : Nat))).setNat Attr.RadioPort.standard (1 : Nat) (1)).setNat Attr.RadioPort.standard (1 : Nat) 1, 1, 1, 1, ((wrad.ledgerOf 1).getD (0, [])).1, ((wrad.ledgerOf 1).getD (0, [])).2, by decide +kernel⟩,
    ⟨((fun (s : State) => s.setRport 1 { s.rport 1 with onAir := some ({ cell := 1, dst16 := 5, body := [] }, 7, 1, 1) }) (((((wrad).create 0x0310 (1 : Nat)).setNat Attr.RadioPan.port (1 : Nat) ((1 : Nat))).setNat Attr.RadioPort.standard (1 : Nat) (1)).setNat Attr.RadioPort.standard (1 : Nat) 1)), 1, 1, 1, by decide +kernel⟩⟩

theorem wit_LocatorEntries :
    (∃ (s : State) (x : Sighting) (rest : List Sighting), s.elt.queue = x :: rest ∧ x.frame = none ∧ s.cutOff 8 0 = false ∧ s.handleOf x.key = none) ∧
    (∃ (s : State) (x : Sighting) (rest : List Sighting) (h : Nat), s.elt.queue = x :: rest ∧ x.frame = none ∧ s.cutOff 8 0 = false ∧ s.handleOf x.key = some h ∧ s.primary h = none ∧ s.findEntry false x.key = none ∧ x.port ≠ 63 ∧ h < 2 ^ 21 ∧ s.elt.locks = [] ∧ s.elt.overflow.length < 16383) ∧
    (∃ (s : State) (x : Sighting) (rest : List Sighting) (h : Nat) (pl : Place) (e : LEntry) (old : Route), s.elt.queue = x :: rest ∧ x.frame = none ∧ s.cutOff 8 0 = false ∧ s.handleOf x.key = some h ∧ s.elt.locks = [] ∧ s.findEntry false x.key = some (pl, e) ∧ e.guard = true ∧ s.primary h = some old ∧ ¬ (old.port = x.port ∧ old.cell = x.cell) ∧ s.secondary h = none ∧ x.port ≠ 63) ∧
    (∃ (s : State) (h : Nat) (pl : Place) (e : LEntry), Assoc.has h s.elt.guardAt = true ∧ s.findEntry false (s.nat Attr.EndpointLocator.eui h) = some (pl, e)) ∧
    (∃ (s : State) (k : Nat) (e : LEntry), s.cutOff 8 0 = false ∧ Assoc.find k s.elt.overflow = some e ∧ e.isAlias = false ∧ s.nat Attr.LocatorTable.agingLimit 0 = 0) ∧
    (∃ (s : State) (k : Nat) (e : LEntry), s.cutOff 8 0 = false ∧ Assoc.find k s.elt.overflow = some e ∧ e.isAlias = false ∧ s.pinned e.handle = false ∧ s.nat Attr.LocatorTable.agingLimit 0 ≠ 0 ∧ s.nat Attr.LocatorTable.agingLimit 0 ≤ min (e.age + 1) 255) ∧
    (∃ (s : State) (k : Nat) (e : LEntry), s.cutOff 8 0 = false ∧ s.lockedBy none k = false ∧ s.bucket k = [some e, none, none, none] ∧ s.elt.overflow = [] ∧ e.isAlias = false ∧ s.nat Attr.LocatorTable.agingLimit 0 = 0) ∧
    (∃ (s : State) (k : Nat), s.lockedBy none k = true) :=
  ⟨⟨(let z0 : State := wb; { z0 with elt := { z0.elt with queue := (⟨99, 1, 1, 5, 10, none⟩ : Sighting) :: ([] : List Sighting) } }), ⟨99, 1, 1, 5, 10, none⟩, [], by decide +kernel⟩,
    ⟨(withEp ((let z0 : State := wb; { z0 with elt := { z0.elt with queue := (⟨99, 1, 1, 5, 10, none⟩ : Sighting) :: ([] : List Sighting), locks := [] } }))), ⟨99, 1, 1, 5, 10, none⟩, [], 7, by decide +kernel⟩,
    ⟨(onPath ((let z0 : State := wb; { z0 with elt := { z0.elt with queue := (⟨99, 2, 1, 5, 10, none⟩ : Sighting) :: ([] : List Sighting), locks := [], overflow := [(0, ({ e0 with guard := true } : LEntry))] } }))), ⟨99, 2, 1, 5, 10, none⟩, [], 7, .ovf 0, { e0 with guard := true }, ⟨1, 1, 5⟩, by decide +kernel⟩,
    ⟨(onPath ((let z0 : State := wb; { z0 with elt := { z0.elt with overflow := [(0, ({ e0 with guard := true } : LEntry))], guardAt := [(7, 0)] } }))), 7, .ovf 0, { e0 with guard := true }, by decide +kernel⟩,
    ⟨(onPath ((let z0 : State := (wb).setNat Attr.LocatorTable.agingLimit 0 (0); { z0 with elt := { z0.elt with overflow := [(1, (e0 : LEntry))] } }))), 1, e0, by decide +kernel⟩,
    ⟨(onPath ((let z0 : State := (wb).setNat Attr.LocatorTable.agingLimit 0 10; { z0 with elt := { z0.elt with overflow := [(1, ({ e0 with age := 9 } : LEntry))] } }))), 1, { e0 with age := 9 }, by decide +kernel⟩,
    ⟨(onPath ((let z0 : State := (wb).setNat Attr.LocatorTable.agingLimit 0 (0); { z0 with elt := { z0.elt with overflow := [], buckets := [(1, [some e0, none, none, none])] } }))), 1, e0, by decide +kernel⟩,
    ⟨(let z0 : State := wb; { z0 with elt := { z0.elt with locks := [⟨1, 5, 10, false⟩] } }), 1, by decide +kernel⟩⟩

theorem wit_LocatorTable :
    (∃ (s : State) (b : Nat), s.elt.heldLookup = none ∧ s.lockedBy none b = false ∧ s.changesPending b = false ∧ ageless (s.bucket b) ≠ ageless (s.shadowBucket b)) ∧
    (∃ (s : State) (b : Nat) (l : BucketLock), s.elt.locks.find? (fun l => l.bucket == b) = some l) ∧
    (∃ (s : State) (a : Nat) (r : DmaRun) (d : Bytes) (e : Bytes) (rest : List Bytes), s.elt.runs = [r] ∧ r.cmd.arrival = a ∧ r.descs = d :: e :: rest ∧ octet d 0 = 1 ∧ s.lockedBy (some a) (field d 4 4) = true) ∧
    (∃ (s : State) (a : Nat) (b : Nat), s.elt.rebuild = some (a, b) ∧ (s.queue (s.nat Attr.LocatorTable.changeQueue 0)).words = [] ∧ (s.elt.shadow.flatMap (fun x => x.2.filterMap id)).length + s.elt.shadowOvf.length ≤ 16384) ∧
    (∃ (s : State) (w : Nat) (lo : Nat) (hi : Nat), (s.queue (s.nat Attr.LocatorTable.changeQueue 0)).words = [⟨w, false, true⟩, ⟨lo, false, true⟩, ⟨hi, true, true⟩] ∧ bits w 39 32 < 4 ∧ s.que.backlog = []) ∧
    (∃ (s : State) (c : Cmd) (n : Nat) (b : Nat) (off : Nat), s.Serves c n ∧ c.opcode = 0x0401 ∧ field c.data 0 2 = 1 ∧ c.data.length = 36 ∧ octet (slice c.data 4 32) 0 = 3 ∧ field (slice c.data 4 32) 2 2 ≤ 1000 ∧ field (slice c.data 4 32) 4 4 = b ∧ field (slice c.data 4 32) 16 4 = off ∧ b < 1048576 ∧ off + 64 ≤ 1048576 ∧ s.elt.expired = []) ∧
    (∃ (s : State) (c : Cmd) (n : Nat), s.Serves c n ∧ c.opcode = 0x0402 ∧ s.fcr.admitted = [] ∧ s.fcr.deferred = []) ∧
    (∃ (s : State) (c : Cmd) (n : Nat), s.Serves c n ∧ c.opcode = 0x0402) :=
  ⟨⟨(let z0 : State := wb; { z0 with elt := { z0.elt with heldLookup := none, buckets := [(1, [some e0, none, none, none])] } }), 1, by decide +kernel⟩,
    ⟨(let z0 : State := wb; { z0 with elt := { z0.elt with locks := [⟨1, 5, 10, false⟩] } }), 1, ⟨1, 5, 10, false⟩, by decide +kernel⟩,
    ⟨(let z0 : State := wb; { z0 with elt := { z0.elt with runs := [({ cmd := { src := .pair 1, arrival := 1 }, descs := [[1, 0, 0, 0, 4, 0, 0, 0], [2]], done := [], slice := [] } : DmaRun)], locks := [⟨4, 5, 10, false⟩] } }), 1, { cmd := { src := .pair 1, arrival := 1 }, descs := [[1, 0, 0, 0, 4, 0, 0, 0], [2]], done := [], slice := [] }, [1, 0, 0, 0, 4, 0, 0, 0], [2], [], by decide +kernel⟩,
    ⟨(let z0 : State := wb; { z0 with elt := { z0.elt with rebuild := some ((1 : Nat), (1 : Nat)) } }), 1, 1, by decide +kernel⟩,
    ⟨((fun (s : State) => s.setQueue (s.nat Attr.LocatorTable.changeQueue 0) { words := [⟨(5 + 2 * 2 ^ 32 : Nat), false, true⟩, ⟨(7 : Nat), false, true⟩, ⟨(9 : Nat), true, true⟩] }) ((let z0 : State := wb; { z0 with que := { z0.que with backlog := [] } }))), 5 + 2 * 2 ^ 32, 7, 9, by decide +kernel⟩,
    ⟨serve ((let z0 : State := wb; { z0 with elt := { z0.elt with expired := [] } })) ({ src := .pair 1, opcode := 0x0401, payload := [1, 0, 0, 0] ++ ([3, 0, 0, 0] ++ leBytes 4 77 ++ List.replicate 8 0 ++ leBytes 4 128 ++ List.replicate 12 0) } : Cmd), { src := .pair 1, opcode := 0x0401, payload := [1, 0, 0, 0] ++ ([3, 0, 0, 0] ++ leBytes 4 77 ++ List.replicate 8 0 ++ leBytes 4 128 ++ List.replicate 12 0) }, 1, 77, 128, serves_of (by decide +kernel), by decide +kernel⟩,
    ⟨serve ((let z0 : State := wb; { z0 with fcr := { z0.fcr with admitted := [], deferred := [] } })) ({ src := .pair 1, opcode := 0x0402 } : Cmd), { src := .pair 1, opcode := 0x0402 }, 1, serves_of (by decide +kernel), by decide +kernel⟩,
    ⟨serve (wb) ({ src := .pair 1, opcode := 0x0402 } : Cmd), { src := .pair 1, opcode := 0x0402 }, 1, serves_of (by decide +kernel), by decide +kernel⟩⟩

theorem wit_CollectionCommands :
    (∃ (s : State) (c : Cmd) (n : Nat) (h : Nat) (k : Nat), s.Serves c n ∧ c.opcode = 0x0501 ∧ c.target 0x0501 = some h ∧ field c.payload 4 2 = k ∧ 1 ≤ k ∧ k ≤ 672 ∧ s.cutOff 9 0 = true) ∧
    (∃ (s : State) (c : Cmd) (n : Nat) (h : Nat) (k : Nat), s.Serves c n ∧ c.opcode = 0x0501 ∧ c.target 0x0501 = some h ∧ field c.payload 4 2 = k ∧ (k = 0 ∨ 672 < k)) ∧
    (∃ (s : State) (c : Cmd) (n : Nat) (h : Nat), s.Serves c n ∧ c.opcode = 0x0502 ∧ c.target 0x0501 = some h ∧ 1 ≤ octet c.data 0 ∧ octet c.data 0 ≤ 6 ∧ s.nat Attr.EndpointProfile.role h ≠ 1 ∧ (∀ r ∈ s.col.requests, r.order < s.col.nextOrder)) ∧
    (∃ (s : State) (c : Cmd) (n : Nat) (h : Nat), s.Serves c n ∧ c.opcode = 0x0504 ∧ c.target 0x0501 = some h ∧ s.cutOff 9 0 = true) ∧
    (∃ (s : State) (c : Cmd) (n : Nat) (h : Nat), s.Serves c n ∧ c.opcode = opConnect ∧ c.target 0x0501 = some h ∧ octet c.payload 0 ≤ 1 ∧ s.mbx.energize.length < 16) ∧
    (∃ (s : State) (c : Cmd) (n : Nat) (h : Nat), s.Serves c n ∧ c.opcode = opConnect ∧ c.target 0x0501 = some h ∧ octet c.payload 0 ≤ 1 ∧ 16 ≤ s.mbx.energize.length) ∧
    (∃ (s : State) (c : Cmd) (n : Nat) (h : Nat) (i : Nat) (mask : Nat) (old : IRec), s.Serves c n ∧ c.opcode = 0x0602 ∧ pathCls c.path = 0x0501 ∧ pathInst c.path = h ∧ field c.payload 0 4 = i ∧ octet c.payload 4 = mask ∧ (c.role = .operator ∨ c.role = .billing) ∧ (s.versions h i).length < 16 ∧ s.current h i = some old) ∧
    (∃ (s : State) (c : Cmd) (n : Nat) (h : Nat) (i : Nat), s.Serves c n ∧ c.opcode = 0x0602 ∧ pathCls c.path = 0x0501 ∧ pathInst c.path = h ∧ field c.payload 0 4 = i ∧ c.role = .operator ∧ 16 ≤ (s.versions h i).length) ∧
    (∃ (s : State) (c : Cmd) (n : Nat) (h : Nat) (k : Nat), s.Serves c n ∧ c.opcode = 0x0601 ∧ pathCls c.path = 0x0501 ∧ pathInst c.path = h ∧ field c.payload 4 2 = k ∧ 1 ≤ k ∧ k ≤ 2880) :=
  ⟨⟨serve ((wb).setFlag Attr.FenceUnit.fenced (9 * 256 + 0) true) ({ src := .pair 1, opcode := 0x0501, payload := List.replicate 4 0 ++ leBytes 2 ((1 : Nat)), path := mkPath 0x0501 ((1 : Nat)) 0 } : Cmd), { src := .pair 1, opcode := 0x0501, payload := List.replicate 4 0 ++ leBytes 2 ((1 : Nat)), path := mkPath 0x0501 ((1 : Nat)) 0 }, 1, 1, 1, serves_of (by decide +kernel), by decide +kernel⟩,
    ⟨serve (wb) ({ src := .pair 1, opcode := 0x0501, payload := List.replicate 4 0 ++ leBytes 2 ((673 : Nat)), path := mkPath 0x0501 ((1 : Nat)) 0 } : Cmd), { src := .pair 1, opcode := 0x0501, payload := List.replicate 4 0 ++ leBytes 2 ((673 : Nat)), path := mkPath 0x0501 ((1 : Nat)) 0 }, 1, 1, 673, serves_of (by decide +kernel), by decide +kernel⟩,
    ⟨serve (wb) ({ src := .pair 1, opcode := 0x0502, payload := leBytes 1 (1), path := mkPath 0x0501 ((1 : Nat)) 0 } : Cmd), { src := .pair 1, opcode := 0x0502, payload := leBytes 1 (1), path := mkPath 0x0501 ((1 : Nat)) 0 }, 1, 1, serves_of (by decide +kernel), by decide +kernel⟩,
    ⟨serve ((wb).setFlag Attr.FenceUnit.fenced (9 * 256 + 0) true) ({ src := .pair 1, opcode := 0x0504, path := mkPath 0x0501 ((1 : Nat)) 0 } : Cmd), { src := .pair 1, opcode := 0x0504, path := mkPath 0x0501 ((1 : Nat)) 0 }, 1, 1, serves_of (by decide +kernel), by decide +kernel⟩,
    ⟨serve (wb) ({ src := .pair 1, opcode := opConnect, path := mkPath 0x0501 ((1 : Nat)) 0 } : Cmd), { src := .pair 1, opcode := opConnect, path := mkPath 0x0501 ((1 : Nat)) 0 }, 1, 1, serves_of (by decide +kernel), by decide +kernel⟩,
    ⟨serve ((let z0 : State := wb; { z0 with mbx := { z0.mbx with energize := (List.range 16).map (fun k => ⟨k, opConnect, 0, 1, .safety, 1, true, [], 60⟩) } })) ({ src := .pair 1, opcode := opConnect, path := mkPath 0x0501 ((1 : Nat)) 0 } : Cmd), { src := .pair 1, opcode := opConnect, path := mkPath 0x0501 ((1 : Nat)) 0 }, 1, 1, serves_of (by decide +kernel), by decide +kernel⟩,
    ⟨serve ((let z0 : State := wb; { z0 with sto := { z0.sto with records := [rec0 7 5] } })) ({ src := .pair 1, opcode := 0x0602, role := .operator, payload := leBytes 4 ((5 : Nat)) ++ leBytes 1 ((1 : Nat)), path := mkPath 0x0501 ((7 : Nat)) 0 } : Cmd), { src := .pair 1, opcode := 0x0602, role := .operator, payload := leBytes 4 ((5 : Nat)) ++ leBytes 1 ((1 : Nat)), path := mkPath 0x0501 ((7 : Nat)) 0 }, 1, 7, 5, 1, ⟨0, 0, [5, 0, 0, 0, 0, 0, 0, 0]⟩, serves_of (by decide +kernel), by decide +kernel⟩,
    ⟨serve ((let z0 : State := wb; { z0 with sto := { z0.sto with records := [(2 ^ 32 + 1, List.replicate 16 ⟨0, 0, []⟩)] } })) ({ src := .pair 1, opcode := 0x0602, role := .operator, payload := leBytes 4 ((1 : Nat)), path := mkPath 0x0501 ((1 : Nat)) 0 } : Cmd), { src := .pair 1, opcode := 0x0602, role := .operator, payload := leBytes 4 ((1 : Nat)), path := mkPath 0x0501 ((1 : Nat)) 0 }, 1, 1, 1, serves_of (by decide +kernel), by decide +kernel⟩,
    ⟨serve (wb) ({ src := .pair 1, opcode := 0x0601, payload := List.replicate 4 0 ++ leBytes 2 ((1 : Nat)), path := mkPath 0x0501 ((1 : Nat)) 0 } : Cmd), { src := .pair 1, opcode := 0x0601, payload := List.replicate 4 0 ++ leBytes 2 ((1 : Nat)), path := mkPath 0x0501 ((1 : Nat)) 0 }, 1, 1, 1, serves_of (by decide +kernel), by decide +kernel⟩⟩

theorem wit_ScheduledReads :
    (∃ (s : State) (h : Nat), s.endpoint h = true ∧ s.nat Attr.CollectionSchedule.method (s.nat Attr.EndpointProfile.schedule h) = 2 ∧ s.unset = false ∧ s.cutOff 9 0 = true ∧ s.col.requests = [] ∧ s.col.duePolls = []) ∧
    (∃ (s : State) (h : Nat) (i : Nat), s.endpoint h = true ∧ s.nat Attr.CollectionSchedule.method (s.nat Attr.EndpointProfile.schedule h) = 2 ∧ s.unset = false ∧ s.cutOff 9 0 = false ∧ s.col.requests = [] ∧ s.primary h = none ∧ s.firstMissing h (min (s.nat Attr.CollectionSchedule.lookback (s.nat Attr.EndpointProfile.schedule h)) 672) = some i ∧ i ≤ s.lastEnded) ∧
    (∃ (s : State) (h : Nat), s.endpoint h = true ∧ s.nat Attr.CollectionSchedule.method (s.nat Attr.EndpointProfile.schedule h) = 1 ∧ s.cutOff 9 0 = true) ∧
    (∃ (s : State) (h : Nat) (due : Nat), s.endpoint h = true ∧ s.nat Attr.CollectionSchedule.method (s.nat Attr.EndpointProfile.schedule h) = 1 ∧ s.cutOff 9 0 = false ∧ s.unset = false ∧ s.nat Attr.CollectionSchedule.lookback (s.nat Attr.EndpointProfile.schedule h) = 1 ∧ s.versions h (due / 900 - 1) = [] ∧ s.flag Attr.CollectionSchedule.pollFallback (s.nat Attr.EndpointProfile.schedule h) = false) ∧
    (∃ (s : State) (r : Request), s.col.requests = [r] ∧ r.outstanding = true ∧ r.attempts < s.requestRetries r.cell ∧ s.isWmbus r.cell = true) ∧
    (∃ (s : State) (r : Request), s.col.requests = [r] ∧ r.outstanding = true ∧ s.requestRetries r.cell ≤ r.attempts ∧ r.opcode = 0x0502 ∧ r.cmd = none) ∧
    (∃ (s : State) (h : Nat), s.endpoint h = true ∧ s.flag Attr.CollectionSchedule.restorePoll (s.nat Attr.EndpointProfile.schedule h) = true ∧ (s.ep h).restorePoll = none) ∧
    (∃ (s : State) (h : Nat) (d : Nat), s.endpoint h = true ∧ s.flag Attr.CollectionSchedule.restorePoll (s.nat Attr.EndpointProfile.schedule h) = true ∧ (s.ep h).restorePoll = some d) ∧
    (∃ (s : State) (h : Nat) (d : Nat), (s.ep h).restorePoll = some d ∧ s.cutOff 9 0 = true ∧ s.col.duePolls = []) :=
  ⟨⟨(let z0 : State := ((((wb).create 0x0501 (1 : Nat)).setFlag Attr.FenceUnit.fenced (9 * 256 + 0) true).setNat Attr.CollectionSchedule.method 0 2).setNat Attr.EndpointProfile.schedule 1 0; { z0 with col := { z0.col with requests := [], duePolls := [] } }), 1, by decide +kernel⟩,
    ⟨(let z0 : State := ((((wb).create 0x0501 (1 : Nat)).setNat Attr.CollectionSchedule.method 0 2).setNat Attr.EndpointProfile.schedule 1 0).setNat Attr.CollectionSchedule.lookback 0 1; { z0 with col := { z0.col with requests := [] }, tim := { z0.tim with d2 := sec (900 * 96000) } }), 1, 95999, by decide +kernel⟩,
    ⟨((((wb).create 0x0501 (1 : Nat)).setFlag Attr.FenceUnit.fenced (9 * 256 + 0) true).setNat Attr.CollectionSchedule.method 0 1).setNat Attr.EndpointProfile.schedule 1 0, 1, by decide +kernel⟩,
    ⟨(((((wb).create 0x0501 (1 : Nat)).setNat Attr.CollectionSchedule.method 0 1).setNat Attr.CollectionSchedule.lookback 0 1).setFlag Attr.CollectionSchedule.pollFallback 0 false).setNat Attr.EndpointProfile.schedule 1 0, 1, 9000, by decide +kernel⟩,
    ⟨(let z0 : State := (((wb).create 0x0310 1).setNat Attr.RadioPan.port 1 2).setNat Attr.RadioPort.standard 2 2; { z0 with col := { z0.col with requests := [({ q0 with outstanding := true, attempts := 0 } : Request)] } }), { q0 with outstanding := true, attempts := 0 }, by decide +kernel⟩,
    ⟨(let z0 : State := wb; { z0 with col := { z0.col with requests := [({ q0 with outstanding := true, attempts := 9 } : Request)] } }), { q0 with outstanding := true, attempts := 9 }, by decide +kernel⟩,
    ⟨(((wb).create 0x0501 (1 : Nat)).setFlag Attr.CollectionSchedule.restorePoll 0 true).setNat Attr.EndpointProfile.schedule 1 0, 1, by decide +kernel⟩,
    ⟨((fun (s : State) => s.setEp 1 { restorePoll := some 1 }) ((((wb).create 0x0501 (1 : Nat)).setFlag Attr.CollectionSchedule.restorePoll 0 true).setNat Attr.EndpointProfile.schedule 1 0)), 1, 1, by decide +kernel⟩,
    ⟨((fun (s : State) => s.setEp 1 { restorePoll := some 1 }) ((let z0 : State := (wb).setFlag Attr.FenceUnit.fenced (9 * 256 + 0) true; { z0 with col := { z0.col with duePolls := [] } }))), 1, 1, by decide +kernel⟩⟩

theorem wit_RecordsCommitted :
    (∃ (s : State) (h : Nat) (c : Nat) (len : Nat) (body : QWord), s.sys.handover = false ∧ s.cutOff 9 0 = false ∧ h < 0xFFFFFFFF ∧ len < 2 ^ 32 ∧ s.que.backlog = [] ∧ (s.queue (s.nat Attr.CollectionService.firmwareQueue 0)).words = [⟨h + c * 2 ^ 32, false, true⟩, ⟨len, false, true⟩, ⟨body.bits, true, true⟩]) ∧
    (∃ (s : State) (f : Flight) (n : NewRec), s.col.flights = [f] ∧ f.recs = [n] ∧ f.mark = none ∧ f.ack = none ∧ f.done = none ∧ f.newGen = none ∧ f.unchecked = false ∧ f.reached s.requiredLevel = true ∧ s.versions n.handle n.interval = [] ∧ s.closedEnd n.handle = none ∧ s.nat Attr.EndpointProfile.role n.handle ≠ 1 ∧ n.quality &&& (qMissing ||| qEstimated) ≠ 0) ∧
    (∃ (s : State) (f : Flight) (h : Nat) (c : Nat), s.col.flights = [f] ∧ f.recs = [] ∧ f.mark = some (h, c) ∧ f.ack = none ∧ f.done = none ∧ f.newGen = none ∧ f.reached s.requiredLevel = true ∧ (s.ep h).heard = false) ∧
    (∃ (s : State) (f : Flight), s.col.flights = [f] ∧ f.reached s.requiredLevel = false ∧ f.stalled = false) ∧
    (∃ (s : State) (f : Flight), s.col.flights = [f] ∧ f.stalled = true) ∧
    (∃ (s : State) (h : Nat) (g : Nat) (n : Nat), s.cutOff 10 0 = false ∧ s.unset = false ∧ (s.current h n).isSome = true ∧ s.nearActual h n = false ∧ s.gapStart h n = g ∧ (s.ep h).limits.contains g = false) ∧
    (∃ (s : State) (h : Nat) (n : Nat) (r : NewRec), s.cutOff 10 0 = false ∧ s.unset = false ∧ (s.current h n).isSome = true ∧ s.nearActual h n = true ∧ s.estimated h n false = some r) ∧
    (∃ (s : State) (h : Nat) (i : Nat), s.cutOff 10 0 = false ∧ s.unset = false ∧ s.col.eps = [(h, { s.ep h with unchecked := [i] })] ∧ s.recheck h i = none) ∧
    (∃ (s : State) (h : Nat) (i : Nat), s.cutOff 9 0 = false ∧ s.unset = false ∧ s.col.duePolls = [h] ∧ s.col.dueDeadlines = [] ∧ s.col.requests = [] ∧ s.primary h = none ∧ s.firstMissing h 672 = some i ∧ i ≤ s.lastEnded) ∧
    (∃ (s : State) (d : Nat), s.cutOff d 0 = true) ∧
    (∃ (s : State) (key : Nat), s.cutOff 8 0 = false ∧ s.findEntry false key = none ∧ s.elt.queue.length < 4096) :=
  ⟨⟨((fun (s : State) => s.setQueue (s.nat Attr.CollectionService.firmwareQueue 0) { words := [⟨(7 : Nat) + (1 : Nat) * 2 ^ 32, false, true⟩, ⟨(1 : Nat), false, true⟩, ⟨(⟨5, true, true⟩ : QWord).bits, true, true⟩] }) ((let z0 : State := wb; { z0 with sys := { z0.sys with handover := false }, que := { z0.que with backlog := [] } }))), 7, 1, 1, ⟨5, true, true⟩, by decide +kernel⟩,
    ⟨(let z0 : State := wb; { z0 with col := { z0.col with flights := [({ id := 1, recs := [(⟨7, 5, qMissing, List.replicate 8 absentVal⟩ : NewRec)], journal := true, mirror := true, replica := true } : Flight)] } }), { id := 1, recs := [(⟨7, 5, qMissing, List.replicate 8 absentVal⟩ : NewRec)], journal := true, mirror := true, replica := true }, ⟨7, 5, qMissing, List.replicate 8 absentVal⟩, by decide +kernel⟩,
    ⟨(let z0 : State := wb; { z0 with col := { z0.col with flights := [({ id := 1, recs := [], mark := some ((1 : Nat), (1 : Nat)), journal := true, mirror := true, replica := true } : Flight)] } }), { id := 1, recs := [], mark := some ((1 : Nat), (1 : Nat)), journal := true, mirror := true, replica := true }, 1, 1, by decide +kernel⟩,
    ⟨(let z0 : State := wb; { z0 with col := { z0.col with flights := [({ id := 1, recs := [] } : Flight)] } }), { id := 1, recs := [] }, by decide +kernel⟩,
    ⟨(let z0 : State := wb; { z0 with col := { z0.col with flights := [({ id := 1, recs := [], stalled := true } : Flight)] } }), { id := 1, recs := [], stalled := true }, by decide +kernel⟩,
    ⟨(let z0 : State := wb; { z0 with sto := { z0.sto with records := [(7 * 2 ^ 32 + 5, [⟨0, qMissing, List.replicate 8 absentVal⟩])] } }), 7, 5, 5, by decide +kernel⟩,
    ⟨(let z0 : State := (wb).setFlag Attr.EndpointChannel.present 56 true; { z0 with sto := { z0.sto with records := [rec0 7 4, (7 * 2 ^ 32 + 5, [⟨0, qMissing, List.replicate 8 absentVal⟩]), rec0 7 6] } }), 7, 5, (((let z0 : State := (wb).setFlag Attr.EndpointChannel.present 56 true; { z0 with sto := { z0.sto with records := [rec0 7 4, (7 * 2 ^ 32 + 5, [⟨0, qMissing, List.replicate 8 absentVal⟩]), rec0 7 6] } }) : State).estimated 7 5 false).getD ⟨0, 0, 0, []⟩, by decide +kernel⟩,
    ⟨(let z0 : State := wb; { z0 with col := { z0.col with eps := [((1 : Nat), { unchecked := [(5 : Nat)] })] } }), 1, 5, by decide +kernel⟩,
    ⟨(let z0 : State := wb; { z0 with col := { z0.col with duePolls := [(7 : Nat)], dueDeadlines := [], requests := [] }, tim := { z0.tim with d2 := sec (900 * 96000) } }), 7, 95328, by decide +kernel⟩,
    ⟨(wb).setFlag Attr.FenceUnit.fenced ((1 : Nat) * 256 + 0) true, 1, by decide +kernel⟩,
    ⟨wb, 1, by decide +kernel⟩⟩

theorem wit_BillingAndTariffs :
    (∃ (s : State) (c : Cmd) (n : Nat) (k : Nat) (im : Calendar), s.Serves c n ∧ c.opcode = 0x0701 ∧ parseCalendar c.data = some (k, im) ∧ s.nat Attr.TariffCalendar.activationInterval k = 0 ∧ im.push = false) ∧
    (∃ (s : State) (c : Cmd) (n : Nat), s.Serves c n ∧ c.opcode = 0x0701 ∧ parseCalendar c.data = none) ∧
    (∃ (s : State) (c : Cmd) (n : Nat) (k : Nat) (a : Nat) (im : Calendar), s.Serves c n ∧ c.opcode = 0x0702 ∧ octet c.payload 0 = k ∧ k ≤ 63 ∧ octet c.payload 1 = 1 ∧ field c.payload 2 2 = 0 ∧ (s.calSlot k).passive = some im ∧ im.push = false ∧ field (slice c.payload 4 4) 0 4 = a ∧ s.nowInterval < a ∧ a ≤ s.thirtyYears ∧ im.blockStart a = true ∧ (s.calSlot k).startsBlock a = true) ∧
    (∃ (s : State) (c : Cmd) (n : Nat) (k : Nat) (im : Calendar), s.Serves c n ∧ c.opcode = 0x0702 ∧ octet c.payload 0 = k ∧ k ≤ 63 ∧ octet c.payload 1 = 0 ∧ field c.payload 2 2 = 0 ∧ (s.calSlot k).passive = some im ∧ s.nat Attr.TariffCalendar.activationInterval k ≠ 0) ∧
    (∃ (s : State) (c : Cmd) (n : Nat) (h : Nat), s.Serves c n ∧ c.opcode = 0x0703 ∧ octet c.payload 0 = 0 ∧ octet c.payload 1 ≤ 63 ∧ field c.payload 2 2 = 0 ∧ pathCls c.path = 0x0702 ∧ pathInst c.path = h) ∧
    (∃ (s : State) (h : Nat) (i : Nat) (v : Nat) (rest : List (Nat × Nat × Nat)) (r : IRec), s.sto.bilStream = (h, i, v) :: rest ∧ s.cutOff 11 0 = false ∧ (s.versions h i).find? (fun r => r.version == v) = some r ∧ r.quality = 0 ∧ s.calendarOf h i = none ∧ s.closingEnd h = none ∧ Assoc.find (recKey h i) s.bil.booked = none ∧ (s.arr Attr.BillingRegisters.registers h).length = 64 ∧ (∀ q < 4, 0 ≤ s.elem Attr.BillingRegisters.registers h q ∧ s.elem Attr.BillingRegisters.registers h q + ((r.val q).getD 0 : Nat) < 2 ^ 48)) ∧
    (∃ (s : State), s.cutOff 11 0 = true) ∧
    (∃ (s : State) (c : Nat) (a : Nat) (x : CalSlot) (im : Calendar), s.executes = true ∧ s.bil.downSince = none ∧ s.bil.cals = [(c, x)] ∧ c < 64 ∧ x.gens = [] ∧ x.passive = some im ∧ x.pendingMeters = [] ∧ s.nat Attr.TariffCalendar.activationInterval c = a ∧ a = s.nowInterval ∧ s.guard.1 < a) ∧
    (∃ (s : State), s.executes = false) ∧
    (∃ (s : State) (c : Nat) (e : Nat) (at2 : Nat) (rest : List (Nat × Nat)), c < 64 ∧ s.cutOff 11 0 = false ∧ s.sys.mode = .service ∧ (s.calSlot c).closes = (e, at2) :: rest ∧ s.calHandles c = []) ∧
    (∃ (s : State) (r : MeterReport), s.endpoint r.handle = true ∧ s.cutOff 11 0 = false ∧ s.nat Attr.EndpointProfile.billingAuthority r.handle = 1) ∧
    (∃ (s : State) (r : MeterReport), s.endpoint r.handle = true ∧ r.handle < 2 ^ 21 ∧ s.cutOff 11 0 = false ∧ s.nat Attr.EndpointProfile.billingAuthority r.handle ≠ 1 ∧ s.allBooked r.handle r.capture = true ∧ Assoc.find r.handle s.bil.baseChip = none ∧ (s.calSlot (s.nat Attr.EndpointProfile.calendar r.handle)).late.contains r.handle = false ∧ 0 ≤ s.int Attr.BillingService.compareTolUnits 0) :=
  ⟨⟨serve ((wb).setNat Attr.TariffCalendar.activationInterval (1 : Nat) (0)) ({ src := .pair 1, opcode := 0x0701, payload := cal0 77 1 } : Cmd), { src := .pair 1, opcode := 0x0701, payload := cal0 77 1 }, 1, 1, im0, serves_of (by decide +kernel), by decide +kernel⟩,
    ⟨serve (wb) ({ src := .pair 1, opcode := 0x0701 } : Cmd), { src := .pair 1, opcode := 0x0701 }, 1, serves_of (by decide +kernel), by decide +kernel⟩,
    ⟨serve (((fun (s : State) => slot0 s 1 (fun x => { x with passive := some im0 })) (wb))) ({ src := .pair 1, opcode := 0x0702, payload := [1, 1, 0, 0] ++ leBytes 4 (96 : Nat) } : Cmd), { src := .pair 1, opcode := 0x0702, payload := [1, 1, 0, 0] ++ leBytes 4 (96 : Nat) }, 1, 1, 96, im0, serves_of (by decide +kernel), by decide +kernel⟩,
    ⟨serve (((fun (s : State) => slot0 s 1 (fun x => { x with passive := some im0 })) ((wb).setNat Attr.TariffCalendar.activationInterval 1 500))) ({ src := .pair 1, opcode := 0x0702, payload := leBytes 1 ((1 : Nat)) ++ leBytes 1 (0) ++ leBytes 2 (0) } : Cmd), { src := .pair 1, opcode := 0x0702, payload := leBytes 1 ((1 : Nat)) ++ leBytes 1 (0) ++ leBytes 2 (0) }, 1, 1, im0, serves_of (by decide +kernel), by decide +kernel⟩,
    ⟨serve (wb) ({ src := .pair 1, opcode := 0x0703, payload := leBytes 1 (0) ++ List.replicate 1 0 ++ leBytes 2 (0), path := mkPath 0x0702 ((1 : Nat)) 0 } : Cmd), { src := .pair 1, opcode := 0x0703, payload := leBytes 1 (0) ++ List.replicate 1 0 ++ leBytes 2 (0), path := mkPath 0x0702 ((1 : Nat)) 0 }, 1, 1, serves_of (by decide +kernel), by decide +kernel⟩,
    ⟨(let z0 : State := (wb).create 0x0702 7; { z0 with sto := { z0.sto with bilStream := ((7 : Nat), (5 : Nat), (0 : Nat)) :: ([] : List (Nat × Nat × Nat)), records := [rec0 7 5] } }), 7, 5, 0, [], ⟨0, 0, [5, 0, 0, 0, 0, 0, 0, 0]⟩, by decide +kernel⟩,
    ⟨(wb).setFlag Attr.FenceUnit.fenced (11 * 256 + 0) true, by decide +kernel⟩,
    ⟨(let z0 : State := (wb).setNat Attr.TariffCalendar.activationInterval (1 : Nat) ((500 : Nat)); { z0 with bil := { z0.bil with downSince := none, cals := [((1 : Nat), (({ passive := some im0 } : CalSlot) : CalSlot))] }, tim := { z0.tim with d2 := sec (900 * 500) } }), 1, 500, ({ passive := some im0 } : CalSlot), im0, by decide +kernel⟩,
    ⟨{ wb with sys := { wb.sys with mode := .booting } }, by decide +kernel⟩,
    ⟨((fun (s : State) => slot0 s 1 (fun x => { x with closes := [(5, 6)] })) ((let z0 : State := wb; { z0 with sys := { z0.sys with mode := .service } }))), 1, 5, 6, [], by decide +kernel⟩,
    ⟨(((wb).create 0x0501 (⟨7, 500, [], [], false⟩ : MeterReport).handle).setNat Attr.EndpointProfile.billingAuthority (⟨7, 500, [], [], false⟩ : MeterReport).handle (1)).create 0x0501 7, ⟨7, 500, [], [], false⟩, by decide +kernel⟩,
    ⟨(let z0 : State := ((wb).create 0x0501 (⟨7, 500, [], [], false⟩ : MeterReport).handle).create 0x0501 7; { z0 with sto := { z0.sto with records := [rec0 7 499] } }), ⟨7, 500, [], [], false⟩, by decide +kernel⟩⟩

theorem wit_BalanceAndTopology :
    (∃ (s : State) (c : Cmd) (n : Nat) (g : Nat) (d : GroupDef), s.Serves c n ∧ c.opcode = 0x0801 ∧ parseGroup c.payload = some (g, d) ∧ s.effectiveOk d.start = true ∧ d.gone = false ∧ d.parent = noGroup ∧ s.bal.groups = [] ∧ s.bal.members = [] ∧ s.instances 0x0804 = []) ∧
    (∃ (s : State) (c : Cmd) (n : Nat), s.Serves c n ∧ c.opcode = 0x0801 ∧ parseGroup c.payload = none) ∧
    (∃ (s : State) (c : Cmd) (n : Nat) (h : Nat) (g : Nat) (ph : Nat) (start : Nat) (e : Bytes), s.Serves c n ∧ c.opcode = 0x0802 ∧ octet c.data 0 = 1 ∧ octet c.data 1 = 0 ∧ field c.data 2 2 = 1 ∧ field c.data 4 4 = start ∧ c.data.length = 16 ∧ s.effectiveOk start = true ∧ slice c.data 8 8 = e ∧ field e 0 4 % 2 ^ 21 = h ∧ field e 4 2 = g ∧ octet e 6 = ph ∧ octet e 7 = 0 ∧ ph ≤ 7 ∧ g ≠ noGroup ∧ s.endpoint h = true ∧ (s.defAt g start).isSome = true ∧ s.flag Attr.EndpointChannel.present (h * 8) = true ∧ s.bal.groups.any (fun x => (s.defAt x.1 start).any (fun y => y.head == h)) = false ∧ Assoc.find h s.bal.members = none ∧ s.instances 0x0804 = [] ∧ s.sys.mode ≠ .shadow) ∧
    (∃ (s : State) (g : Nat) (i : Nat) (d : GroupDef), g < 8192 ∧ s.cutOff 12 0 = false ∧ s.unset = false ∧ s.sto.balStream = [] ∧ s.groupHome g = s.twn.self ∧ i < s.nowInterval ∧ s.evaluated g i = false ∧ s.settled i = true ∧ s.defAt g i = some d ∧ s.bal.members = []) ∧
    (∃ (s : State), s.cutOff 12 0 = true) ∧
    (∃ (s : State) (g : Nat) (i : Nat) (d : GroupDef), g < 8192 ∧ s.cutOff 12 0 = false ∧ s.sto.balStream = [] ∧ s.groupHome g = s.twn.self ∧ s.evaluated g i = false ∧ s.settled i = true ∧ s.defAt g i = some d ∧ s.bal.members = []) ∧
    (∃ (s : State) (d : Nat), s.bal.lastRun = some d ∧ s.cutOff 12 0 = false ∧ s.commits = true ∧ s.unset = false ∧ d + 1 < s.nowInterval / 96 ∧ (d + 2) * 86400 + s.nat Attr.BalanceService.dailyRunMin 0 * 60 ≤ s.serviceSec ∧ s.instances 0x0501 = [] ∧ s.bal.groups = [] ∧ s.bal.order = [] ∧ s.sto.balStream = []) ∧
    (∃ (s : State) (n : Nat), s.nat Attr.MembershipProposal.state n = 1 ∧ s.nat Attr.MembershipProposal.created n + 2880 ≤ s.nowInterval) ∧
    (∃ (s : State) (n : Nat), s.nowInterval < s.nat Attr.MembershipProposal.created n + 2880) :=
  ⟨⟨serve ((let z0 : State := wb; { z0 with bal := { z0.bal with groups := [], members := [] } })) ({ src := .pair 1, opcode := 0x0801, payload := gbytes } : Cmd), { src := .pair 1, opcode := 0x0801, payload := gbytes }, 1, 5, ((parseGroup gbytes).map Prod.snd).getD (gdef0 0), serves_of (by decide +kernel), by decide +kernel⟩,
    ⟨serve (wb) ({ src := .pair 1, opcode := 0x0801 } : Cmd), { src := .pair 1, opcode := 0x0801 }, 1, serves_of (by decide +kernel), by decide +kernel⟩,
    ⟨serve ((let z0 : State := ((wb).create 0x0501 (7 : Nat)).setFlag Attr.EndpointChannel.present ((7 : Nat) * 8) true; { z0 with bal := { z0.bal with groups := [grp0 5] } })) ({ src := .pair 1, opcode := 0x0802, payload := [1, 0, 1, 0, 0, 0, 0, 0] ++ leBytes 4 7 ++ leBytes 2 5 ++ [2, 0] } : Cmd), { src := .pair 1, opcode := 0x0802, payload := [1, 0, 1, 0, 0, 0, 0, 0] ++ leBytes 4 7 ++ leBytes 2 5 ++ [2, 0] }, 1, 7, 5, 2, 0, leBytes 4 7 ++ leBytes 2 5 ++ [2, 0], serves_of (by decide +kernel), by decide +kernel⟩,
    ⟨(let z0 : State := wb; { z0 with sto := { z0.sto with balStream := [] }, bal := { z0.bal with members := [], groups := [grp0 5] }, tim := { z0.tim with d2 := sec (900 * 1000) } }), 5, 10, gdef0 0, by decide +kernel⟩,
    ⟨(wb).setFlag Attr.FenceUnit.fenced (12 * 256 + 0) true, by decide +kernel⟩,
    ⟨(let z0 : State := wb; { z0 with sto := { z0.sto with balStream := [] }, bal := { z0.bal with members := [], groups := [grp0 5] }, tim := { z0.tim with d2 := sec (900 * 1000) } }), 5, 10, gdef0 0, by decide +kernel⟩,
    ⟨(let z0 : State := wb; { z0 with bal := { z0.bal with lastRun := some (1 : Nat), groups := [], order := [] }, sto := { z0.sto with balStream := [] }, tim := { z0.tim with d2 := sec (86400 * 5) } }), 1, by decide +kernel⟩,
    ⟨(let z0 : State := (wb).setNat Attr.MembershipProposal.state (1 : Nat) (1); { z0 with tim := { z0.tim with d2 := sec (900 * 5000) } }), 1, by decide +kernel⟩,
    ⟨wb, 1, by decide +kernel⟩⟩

theorem wit_LightingLevels :
    (∃ (s : State) (c : Cmd) (n : Nat) (h : Nat) (level : Nat) (ramp : Nat) (dur : Nat), s.Serves c n ∧ c.opcode = 0x0901 ∧ pathCls c.path = 0x0901 ∧ pathInst c.path = h ∧ field c.payload 0 2 = level ∧ field c.payload 2 2 = ramp ∧ field c.payload 4 4 = dur ∧ level ≤ 1000 ∧ ramp ≤ 6000 ∧ 1 ≤ dur ∧ dur ≤ 604800 ∧ s.override true h = none ∧ s.lux.overrides.length < 1024) ∧
    (∃ (s : State) (c : Cmd) (n : Nat), s.Serves c n ∧ c.opcode = 0x0901 ∧ pathCls c.path = 0x0902 ∧ field c.payload 0 2 ≤ 1000 ∧ field c.payload 2 2 ≤ 6000 ∧ field c.payload 4 4 = 0 ∧ s.override false (pathInst c.path) = none) ∧
    (∃ (s : State) (c : Cmd) (n : Nat), s.Serves c n ∧ c.opcode = opCircuit ∧ field c.payload 0 2 ≤ 63 ∧ s.mbx.energize.length < 16) ∧
    (∃ (s : State) (c : Cmd) (n : Nat) (h : Nat), s.Serves c n ∧ c.opcode = opAction ∧ pathCls c.path = 0x0906 ∧ pathAttr c.path = 0x40 ∧ s.nat Attr.LightingCircuit.contactorHandle (pathInst c.path) = h ∧ h < 2 ^ 21 ∧ s.cutOff 9 0 = true) ∧
    (∃ (s : State) (h : Nat) (n : Nat) (v : Nat) (rest : List (Nat × Nat × Nat)), s.lux.events = (h, n, v) :: rest ∧ s.cutOff 13 0 = false ∧ s.nat Attr.TrafficSensor.segment h = 0xFFFF ∧ s.serviceSec / 86400 = s.nat Attr.TrafficSensor.lastEvent h / 86400 ∧ (s.arr Attr.TrafficSensor.counts h).length = 96) ∧
    (∃ (s : State) (h : Nat) (n : Nat) (v : Nat) (g : Nat) (r : Nat) (rest : List (Nat × Nat × Nat)), h < 2 ^ 21 ∧ g < 16384 ∧ r < 64 ∧ s.lux.events = (h, n, v) :: rest ∧ s.cutOff 13 0 = false ∧ s.nat Attr.TrafficSensor.segment h = g ∧ s.nat Attr.LightingSegment.rule g = r ∧ s.nat Attr.TrafficRule.minCount r ≤ n ∧ s.nat Attr.TrafficRule.lookaheadDepth r = 0 ∧ Assoc.find g s.lux.traffic = none ∧ s.nat Attr.LightingSegment.holdUntil g = 0 ∧ 1 ≤ s.serviceSec) ∧
    (∃ (s : State) (k : Nat), k < 64 ∧ s.cutOff 13 0 = false ∧ s.unset = false ∧ ((∀ g < 16384, s.nat Attr.LightingSegment.cell g ≠ 0xFFFF → s.nat Attr.LightingSegment.schedule g ≠ k))) ∧
    (∃ (s : State) (g : Nat) (x : Nat × Nat), Assoc.find g s.lux.traffic = some x ∧ s.cutOff 13 0 = false) ∧
    (∃ (s : State) (lantern : Bool) (k : Nat) (o : Override), s.override lantern k = some o) :=
  ⟨⟨serve (wb) ({ src := .pair 1, opcode := 0x0901, payload := leBytes 2 ((1 : Nat)) ++ leBytes 2 ((1 : Nat)) ++ leBytes 4 ((1 : Nat)), path := mkPath 0x0901 ((1 : Nat)) 0 } : Cmd), { src := .pair 1, opcode := 0x0901, payload := leBytes 2 ((1 : Nat)) ++ leBytes 2 ((1 : Nat)) ++ leBytes 4 ((1 : Nat)), path := mkPath 0x0901 ((1 : Nat)) 0 }, 1, 1, 1, 1, 1, serves_of (by decide +kernel), by decide +kernel⟩,
    ⟨serve (wb) ({ src := .pair 1, opcode := 0x0901, payload := List.replicate 4 0 ++ leBytes 4 (0), path := mkPath 0x0902 (0) 0 } : Cmd), { src := .pair 1, opcode := 0x0901, payload := List.replicate 4 0 ++ leBytes 4 (0), path := mkPath 0x0902 (0) 0 }, 1, serves_of (by decide +kernel), by decide +kernel⟩,
    ⟨serve (wb) ({ src := .pair 1, opcode := opCircuit } : Cmd), { src := .pair 1, opcode := opCircuit }, 1, serves_of (by decide +kernel), by decide +kernel⟩,
    ⟨serve (((wb).setNat Attr.LightingCircuit.contactorHandle (pathInst ({ src := .pair 1, opcode := opAction, path := mkPath 0x0906 (0) 0x40 } : Cmd).path) ((1 : Nat))).setFlag Attr.FenceUnit.fenced (9 * 256 + 0) true) ({ src := .pair 1, opcode := opAction, path := mkPath 0x0906 (0) 0x40 } : Cmd), { src := .pair 1, opcode := opAction, path := mkPath 0x0906 (0) 0x40 }, 1, 1, serves_of (by decide +kernel), by decide +kernel⟩,
    ⟨(let z0 : State := (wb).setNat Attr.TrafficSensor.segment (1 : Nat) (0xFFFF); { z0 with lux := { z0.lux with events := ((1 : Nat), (1 : Nat), (1 : Nat)) :: ([] : List (Nat × Nat × Nat)) } }), 1, 1, 1, [], by decide +kernel⟩,
    ⟨(let z0 : State := ((((wb).setNat Attr.TrafficSensor.segment (7 : Nat) ((1 : Nat))).setNat Attr.LightingSegment.rule (1 : Nat) ((1 : Nat))).setNat Attr.TrafficRule.lookaheadDepth (1 : Nat) (0)).setNat Attr.LightingSegment.holdUntil (1 : Nat) (0); { z0 with lux := { z0.lux with events := ((7 : Nat), (200 : Nat), (1 : Nat)) :: ([] : List (Nat × Nat × Nat)) }, tim := { z0.tim with d2 := sec 90 } }), 7, 200, 1, 1, 1, [], by decide +kernel⟩,
    ⟨wb, 1, by decide, by decide +kernel, by decide +kernel, fun g hg h => absurd (wb_no_segment g hg) h⟩,
    ⟨(let z0 : State := wb; { z0 with lux := { z0.lux with traffic := [(1, (3, 4))] } }), 1, (3, 4), by decide +kernel⟩,
    ⟨(let z0 : State := wb; { z0 with lux := { z0.lux with overrides := [(⟨(false : Bool), (1 : Nat), 5, 6, 7⟩ : Override)] } }), false, 1, ⟨(false : Bool), (1 : Nat), 5, 6, 7⟩, by decide +kernel⟩⟩

theorem wit_LightingService :
    (∃ (s : State) (c : Nat) (k : Nat) (b : Bytes) (rest : List (Nat × Bytes × Nat)), s.lux.multicasts = (c, b, k) :: rest ∧ s.lightSends c = true ∧ (s.port (s.nat Attr.LineCell.port c)).queues.length = 8) ∧
    (∃ (s : State) (c : Nat) (g : Nat), s.lightSends c = true ∧ s.unset = false ∧ s.cellSegments c = [g] ∧ (s.port (s.nat Attr.LineCell.port c)).queues.length = 8) ∧
    (∃ (s : State) (c : Nat), s.lightSends c = false) ∧
    (∃ (s : State) (h : Nat), s.metered h = false ∧ s.cutOff 13 0 = true) ∧
    (∃ (s : State) (h : Nat), s.metered h = false ∧ s.cutOff 13 0 = false ∧ s.unset = false) ∧
    (∃ (s : State) (h : Nat), s.lanternIsolated h = false) ∧
    (∃ (s : State) (h : Nat), s.flag Attr.Lantern.safeLevelConfirmed h = false) ∧
    (∃ (s : State) (c : Nat) (st : Nat), c < 64 ∧ st ≤ 2 ∧ s.nat Attr.LightingCircuit.state c ≠ st ∧ s.circuitLanterns c = []) :=
  ⟨⟨((fun (s : State) => (lcell0 5 s).setCell 5 { restoring := false }) ((let z0 : State := wb; { z0 with lux := { z0.lux with multicasts := ((5 : Nat), ([] : Bytes), (1 : Nat)) :: ([] : List (Nat × Bytes × Nat)) } }))), 5, 1, [], [], by decide +kernel⟩,
    ⟨((fun (s : State) => ((lcell0 5 s).setNat Attr.LightingSegment.cell 6 5).setCell 5 { restoring := false }) (wb)), 5, 6, by decide +kernel⟩,
    ⟨wb, 1, by decide +kernel⟩,
    ⟨(wb).setFlag Attr.FenceUnit.fenced (13 * 256 + 0) true, 1, by decide +kernel⟩,
    ⟨wb, 7, by decide +kernel⟩,
    ⟨wb, 1, by decide +kernel⟩,
    ⟨(wb).setFlag Attr.Lantern.safeLevelConfirmed (1 : Nat) false, 1, by decide +kernel⟩,
    ⟨wb, 1, 1, by decide +kernel⟩⟩

theorem wit_FaultsAndFences :
    (∃ (s : State) (x : Source), source x.num = some x ∧ s.reactionOf x = 0 ∧ s.fcr.injections = [] ∧ s.dbg.halted = false) ∧
    (∃ (s : State) (x : Source), source x.num = some x ∧ x.num / 16 < 18 ∧ s.reactionOf x = 2 ∧ s.fcr.injections = [] ∧ s.dbg.halted = false) ∧
    (∃ (s : State) (x : Source), source x.num = some x ∧ s.reactionOf x = 5 ∧ s.fcr.injections = [] ∧ s.dbg.halted = false ∧ s.sys.stalemate = false) ∧
    (∃ (s : State), s.sys.stalemate = false) ∧
    (∃ (s : State), s.sys.stalemate = false) ∧
    (∃ (s : State) (x : Source), source x.num = some x ∧ x.cls ≠ clsFatal ∧ s.healthy x.num = true) ∧
    (∃ (s : State) (x : Source), source x.num = some x ∧ (x.cls = clsFatal ∨ s.healthy x.num = false)) ∧
    (∃ (s : State), s.sys.stalemate = false ∧ s.twn.gateOk = false ∧ s.nat Attr.ServicePosture.posture 0 = 0 ∧ s.sys.mode = .service) ∧
    (∃ (s : State) (a : Activity), s.fcr.deferred = [a] ∧ a.internal = false) ∧
    (∃ (s : State) (a : Activity), s.fcr.deferred = [a] ∧ a.internal = true) :=
  ⟨⟨(let z0 : State := wb; { z0 with fcr := { z0.fcr with injections := [] }, dbg := { z0.dbg with halted := false } }), src0 18, by decide +kernel⟩,
    ⟨(let z0 : State := wb; { z0 with fcr := { z0.fcr with injections := [] }, dbg := { z0.dbg with halted := false } }), src0 64, by decide +kernel⟩,
    ⟨(let z0 : State := wb; { z0 with fcr := { z0.fcr with injections := [] }, dbg := { z0.dbg with halted := false }, sys := { z0.sys with stalemate := false } }), src0 16, by decide +kernel⟩,
    ⟨(let z0 : State := wb; { z0 with sys := { z0.sys with stalemate := false } }), by decide +kernel⟩,
    ⟨(let z0 : State := wb; { z0 with sys := { z0.sys with stalemate := false } }), by decide +kernel⟩,
    ⟨wb, src0 64, by decide +kernel⟩,
    ⟨wb, src0 16, by decide +kernel⟩,
    ⟨(let z0 : State := (wb).setNat Attr.ServicePosture.posture 0 (0); { z0 with sys := { z0.sys with stalemate := false, mode := .service }, twn := { z0.twn with gateOk := false } }), by decide +kernel⟩,
    ⟨(let z0 : State := wb; { z0 with fcr := { z0.fcr with deferred := [(act0 3 false : Activity)] }, mbx := { z0.mbx with awaiting := [⟨9, 1, 0, none⟩] } }), act0 3 false, by decide +kernel⟩,
    ⟨(let z0 : State := wb; { z0 with fcr := { z0.fcr with deferred := [(act0 3 true : Activity)] } }), act0 3 true, by decide +kernel⟩⟩

theorem wit_FencingAndArbiter :
    (∃ (s : State) (c : Cmd) (n : Nat) (d : Nat) (u : Nat), s.Serves c n ∧ c.opcode = 0x1001 ∧ octet c.payload 0 = d ∧ octet c.payload 1 = u ∧ s.fenceRefused d u = none ∧ s.fencedUnit d u = false ∧ s.fcr.admitted = []) ∧
    (∃ (s : State) (c : Cmd) (n : Nat) (d : Nat), s.Serves c n ∧ c.opcode = 0x1001 ∧ octet c.payload 0 = d ∧ d ∈ [1, 2, 3, 20]) ∧
    (∃ (s : State) (c : Cmd) (n : Nat) (d : Nat) (u : Nat), s.Serves c n ∧ c.opcode = 0x1002 ∧ octet c.payload 0 = d ∧ octet c.payload 1 = u ∧ s.fenceRefused d u = none ∧ d ∈ [5, 6, 7, 8, 10, 11, 12, 15] ∧ s.fencedUnit d u = true ∧ s.fcr.again = []) ∧
    (∃ (s : State) (c : Cmd) (n : Nat) (d : Nat) (u : Nat) (x : Source), s.Serves c n ∧ c.opcode = 0x1002 ∧ octet c.payload 0 = d ∧ octet c.payload 1 = u ∧ s.fenceRefused d u = none ∧ d ∈ [5, 6, 7, 8, 10, 11, 12, 15] ∧ s.fencedUnit d u = true ∧ source x.num = some x ∧ s.reactionOf x = 0 ∧ s.fcr.injections = []) ∧
    (∃ (s : State) (c : Cmd) (n : Nat), s.Serves c n ∧ c.opcode = 0x1002 ∧ octet c.payload 0 = 16 ∧ octet c.payload 1 = 0 ∧ c.role ≠ .safety) ∧
    (∃ (s : State) (d : Nat) (u : Nat), d ∈ [5, 6, 7, 8, 10, 11, 12, 15] ∧ u < 256 ∧ s.fcr.resetting.contains (d * 256 + u) = true ∧ s.fencedUnit d u = true ∧ s.fcr.again = []) ∧
    (∃ (s : State) (c : Cmd) (n : Nat) (d : Nat), s.Serves c n ∧ c.opcode = 0x1003 ∧ d ∈ [8, 10, 11, 12, 15] ∧ field c.payload 0 4 = 2 ^ d ∧ (s.sys.mode = .provision ∨ s.sys.mode = .shadow) ∧ s.fcr.admitted = [] ∧ s.fcr.deferred = [] ∧ s.fcr.again = []) ∧
    (∃ (s : State) (c : Cmd) (n : Nat) (k : Nat) (mode : Nat) (count : Nat), s.Serves c n ∧ c.opcode = 0x1004 ∧ field c.payload 0 2 = k ∧ octet c.payload 2 = mode ∧ octet c.payload 3 = count ∧ (source k).isSome = true ∧ 1 ≤ mode ∧ mode ≤ 3 ∧ 1 ≤ count) ∧
    (∃ (s : State) (c : Cmd) (n : Nat) (p : Policy), s.Serves c n ∧ c.opcode = opAction ∧ pathCls c.path = 0x1004 ∧ pathAttr c.path = 0x40 ∧ pathInst c.path = 0 ∧ (s.sys.mode = .provision ∨ s.sys.mode = .service) ∧ bit c.flags flagBulk = true ∧ 96 ≤ c.data.length ∧ p.deny.length ≤ 1024 ∧ s.slotGood 5 = true) ∧
    (∃ (s : State) (a : Activity) (x : Awaiting), s.fcr.admitted = [a] ∧ a.kind ≠ 2 ∧ a.kind ≠ 7 ∧ a.internal = false ∧ s.fcr.deferred = [] ∧ s.fcr.waiting = [] ∧ s.mbx.awaiting.find? (fun y => y.arrival == a.arrival) = some x ∧ (s.session x.session).isSome = true) ∧
    (∃ (s : State) (a : Activity), s.fcr.admitted = [a] ∧ a.kind = 7 ∧ a.internal = true ∧ s.fcr.deferred = [] ∧ s.fcr.waiting = []) ∧
    (∃ (s : State) (a : Activity) (b : Activity), s.fcr.admitted = [a] ∧ a.kind = 11 ∧ a.internal = true ∧ s.fcr.deferred = [b] ∧ b.kind = 8 ∧ s.fcr.waiting = []) :=
  ⟨⟨serve ((let z0 : State := wb; { z0 with fcr := { z0.fcr with admitted := [] } })) ({ src := .pair 1, opcode := 0x1001, payload := leBytes 1 ((8 : Nat)) ++ leBytes 1 ((0 : Nat)) } : Cmd), { src := .pair 1, opcode := 0x1001, payload := leBytes 1 ((8 : Nat)) ++ leBytes 1 ((0 : Nat)) }, 1, 8, 0, serves_of (by decide +kernel), by decide +kernel⟩,
    ⟨serve (wb) ({ src := .pair 1, opcode := 0x1001, payload := leBytes 1 ((1 : Nat)) } : Cmd), { src := .pair 1, opcode := 0x1001, payload := leBytes 1 ((1 : Nat)) }, 1, 1, serves_of (by decide +kernel), by decide +kernel⟩,
    ⟨serve ((let z0 : State := (wb).setFlag Attr.FenceUnit.fenced ((8 : Nat) * 256 + (0 : Nat)) true; { z0 with fcr := { z0.fcr with again := [] } })) ({ src := .pair 1, opcode := 0x1002, payload := leBytes 1 ((8 : Nat)) ++ leBytes 1 ((0 : Nat)) } : Cmd), { src := .pair 1, opcode := 0x1002, payload := leBytes 1 ((8 : Nat)) ++ leBytes 1 ((0 : Nat)) }, 1, 8, 0, serves_of (by decide +kernel), by decide +kernel⟩,
    ⟨serve ((let z0 : State := (wb).setFlag Attr.FenceUnit.fenced ((8 : Nat) * 256 + (0 : Nat)) true; { z0 with fcr := { z0.fcr with injections := [] } })) ({ src := .pair 1, opcode := 0x1002, payload := leBytes 1 ((8 : Nat)) ++ leBytes 1 ((0 : Nat)) } : Cmd), { src := .pair 1, opcode := 0x1002, payload := leBytes 1 ((8 : Nat)) ++ leBytes 1 ((0 : Nat)) }, 1, 8, 0, src0 18, serves_of (by decide +kernel), by decide +kernel⟩,
    ⟨serve (wb) ({ src := .pair 1, opcode := 0x1002, role := .operator, payload := leBytes 1 (16) ++ leBytes 1 (0) } : Cmd), { src := .pair 1, opcode := 0x1002, role := .operator, payload := leBytes 1 (16) ++ leBytes 1 (0) }, 1, serves_of (by decide +kernel), by decide +kernel⟩,
    ⟨(let z0 : State := (wb).setFlag Attr.FenceUnit.fenced ((8 : Nat) * 256 + (0 : Nat)) true; { z0 with fcr := { z0.fcr with again := [], resetting := [(8 : Nat) * 256 + (0 : Nat)] } }), 8, 0, by decide +kernel⟩,
    ⟨serve ((let z0 : State := wb; { z0 with sys := { z0.sys with mode := .shadow }, fcr := { z0.fcr with admitted := [], deferred := [], again := [] } })) ({ src := .pair 1, opcode := 0x1003, payload := leBytes 4 256 } : Cmd), { src := .pair 1, opcode := 0x1003, payload := leBytes 4 256 }, 1, 8, serves_of (by decide +kernel), by decide +kernel⟩,
    ⟨serve (wb) ({ src := .pair 1, opcode := 0x1004, payload := leBytes 2 ((64 : Nat)) ++ leBytes 1 ((1 : Nat)) ++ leBytes 1 ((1 : Nat)) } : Cmd), { src := .pair 1, opcode := 0x1004, payload := leBytes 2 ((64 : Nat)) ++ leBytes 1 ((1 : Nat)) ++ leBytes 1 ((1 : Nat)) }, 1, 64, 1, 1, serves_of (by decide +kernel), by decide +kernel⟩,
    ⟨serve (((fun (s : State) => s.setNat Attr.RootSlot.state 5 1) ((let z0 : State := wb; { z0 with sys := { z0.sys with mode := .service } })))) ({ src := .pair 1, opcode := opAction, flags := 8, bulk := List.replicate 100 1, path := mkPath 0x1004 (0) 0x40 } : Cmd), { src := .pair 1, opcode := opAction, flags := 8, bulk := List.replicate 100 1, path := mkPath 0x1004 (0) 0x40 }, 1, ⟨true, 1, 2, 3, [4]⟩, serves_of (by decide +kernel), by decide +kernel⟩,
    ⟨(let z0 : State := wb; { z0 with fcr := { z0.fcr with admitted := [(act0 11 false : Activity)], deferred := [], waiting := [] }, mbx := { z0.mbx with awaiting := [(⟨9, 1, 0, none⟩ : Awaiting)], sessions := [{ slot := 1, handle := 1, role := .operator, cred := 5, localSess := true, assoc := 0, peerAddr := 0, idle := 60, lastUse := 0 }] } }), act0 11 false, ⟨9, 1, 0, none⟩, by decide +kernel⟩,
    ⟨(let z0 : State := wb; { z0 with fcr := { z0.fcr with admitted := [(act0 7 true : Activity)], deferred := [], waiting := [] } }), act0 7 true, by decide +kernel⟩,
    ⟨(let z0 : State := wb; { z0 with fcr := { z0.fcr with admitted := [(act0 11 true : Activity)], deferred := [({ act0 8 true with unit := 3 } : Activity)], waiting := [] } }), act0 11 true, { act0 8 true with unit := 3 }, by decide +kernel⟩⟩

theorem wit_MeasurementFilters :
    (∃ (s : State) (c : Cmd) (n : Nat) (k : Nat) (d : Nat) (taps : Nat), s.Serves c n ∧ c.opcode = 0x0A01 ∧ octet c.data 0 = k ∧ octet c.data 1 = d ∧ field c.data 2 2 = taps ∧ 4 ≤ k ∧ k ≤ 7 ∧ d ∈ [1, 2, 4, 8, 16, 32] ∧ 8 ≤ taps ∧ taps ≤ 384 ∧ octet c.data 4 ≤ 63 ∧ field c.data 5 3 = 0 ∧ c.data.length = 8 + 3 * taps ∧ 80 * (32000 / d) * taps ≤ 300000000 ∧ k ≠ s.nat Attr.MeasurementService.firSet 0 ∧ k ≠ s.firSet) ∧
    (∃ (s : State) (c : Cmd) (n : Nat) (k : Nat) (d : Nat) (taps : Nat), s.Serves c n ∧ c.opcode = 0x0A01 ∧ octet c.data 0 = k ∧ octet c.data 1 = d ∧ field c.data 2 2 = taps ∧ 4 ≤ k ∧ k ≤ 7 ∧ d ∈ [1, 2, 4, 8, 16, 32] ∧ 8 ≤ taps ∧ taps ≤ 384 ∧ octet c.data 4 ≤ 63 ∧ field c.data 5 3 = 0 ∧ c.data.length = 8 + 3 * taps ∧ 80 * (32000 / d) * taps ≤ 300000000 ∧ k = s.firSet) ∧
    (∃ (s : State) (k : Nat) (w : Int), k < 80 ∧ s.flag Attr.MeasurementService.inputsWired 0 = true ∧ s.flag Attr.MeasurementChannel.enabled k = true ∧ s.cutOff 14 0 = false ∧ -8 ≤ w ∧ w ≤ 7 ∧ (s.chan k).phase < 374) ∧
    (∃ (s : State) (k : Nat) (w : Int), k < 80 ∧ s.flag Attr.MeasurementService.inputsWired 0 = true ∧ s.flag Attr.MeasurementChannel.enabled k = true ∧ s.cutOff 14 0 = false ∧ -8 ≤ w ∧ w ≤ 7 ∧ (s.chan k).phase = 374 ∧ 0 < (s.chan k).cicSkip) ∧
    (∃ (s : State) (k : Nat) (w : Int), k < 80 ∧ s.flag Attr.MeasurementService.inputsWired 0 = true ∧ s.flag Attr.MeasurementChannel.enabled k = true ∧ s.cutOff 14 0 = false ∧ -8 ≤ w ∧ w ≤ 7 ∧ (s.chan k).phase = 374 ∧ (s.chan k).cicSkip = 0 ∧ s.firDecimation ≤ (s.chan k).count + 1 ∧ (s.chan k).firSkip = 1 ∧ (s.chan k).since = none) ∧
    (∃ (s : State) (k : Nat) (w : Int), k < 80 ∧ s.flag Attr.MeasurementService.inputsWired 0 = true ∧ s.flag Attr.MeasurementChannel.enabled k = true ∧ s.cutOff 14 0 = false ∧ -8 ≤ w ∧ w ≤ 7 ∧ (s.chan k).phase = 374 ∧ (s.chan k).cicSkip = 0 ∧ s.firDecimation ≤ (s.chan k).count + 1 ∧ (s.chan k).firSkip = 0) ∧
    (∃ (s : State) (m : Nat), s.nat Attr.MeasurementService.firSet 0 = m ∧ m ≠ s.firSet) ∧
    (∃ (s : State), s.nat Attr.MeasurementService.firSet 0 = s.firSet) :=
  ⟨⟨serve (wb) ({ src := .pair 1, opcode := 0x0A01, payload := leBytes 1 ((5 : Nat)) ++ leBytes 1 ((1 : Nat)) ++ leBytes 2 ((8 : Nat)) ++ List.replicate 1 0 ++ leBytes 3 (0) ++ List.replicate 24 0 } : Cmd), { src := .pair 1, opcode := 0x0A01, payload := leBytes 1 ((5 : Nat)) ++ leBytes 1 ((1 : Nat)) ++ leBytes 2 ((8 : Nat)) ++ List.replicate 1 0 ++ leBytes 3 (0) ++ List.replicate 24 0 }, 1, 5, 1, 8, serves_of (by decide +kernel), by decide +kernel⟩,
    ⟨serve ((wb).setNat Attr.MeasurementService.firSetActive 0 5) ({ src := .pair 1, opcode := 0x0A01, payload := leBytes 1 ((5 : Nat)) ++ leBytes 1 ((1 : Nat)) ++ leBytes 2 ((8 : Nat)) ++ List.replicate 1 0 ++ leBytes 3 (0) ++ List.replicate 24 0 } : Cmd), { src := .pair 1, opcode := 0x0A01, payload := leBytes 1 ((5 : Nat)) ++ leBytes 1 ((1 : Nat)) ++ leBytes 2 ((8 : Nat)) ++ List.replicate 1 0 ++ leBytes 3 (0) ++ List.replicate 24 0 }, 1, 5, 1, 8, serves_of (by decide +kernel), by decide +kernel⟩,
    ⟨((wb).setFlag Attr.MeasurementService.inputsWired 0 true).setFlag Attr.MeasurementChannel.enabled (5 : Nat) true, 5, 3, by decide +kernel⟩,
    ⟨((fun (s : State) => meaOn s 5 (fun x => { x with phase := 374 })) (((wb).setFlag Attr.MeasurementService.inputsWired 0 true).setFlag Attr.MeasurementChannel.enabled (5 : Nat) true)), 5, 1, by decide +kernel⟩,
    ⟨((fun (s : State) => meaOn s 5 (fun x => { x with phase := 374, cicSkip := 0, count := 400, firSkip := 1 })) (((wb).setFlag Attr.MeasurementService.inputsWired 0 true).setFlag Attr.MeasurementChannel.enabled (5 : Nat) true)), 5, 1, by decide +kernel⟩,
    ⟨((fun (s : State) => meaOn s 5 (fun x => { x with phase := 374, cicSkip := 0, count := 400, firSkip := 0 })) (((wb).setFlag Attr.MeasurementService.inputsWired 0 true).setFlag Attr.MeasurementChannel.enabled (5 : Nat) true)), 5, 1, by decide +kernel⟩,
    ⟨((wb).setNat Attr.MeasurementService.firSet 0 ((2 : Nat))).setFlag Attr.MeasurementChannel.enabled 5 true, 2, by decide +kernel⟩,
    ⟨wb, by decide +kernel⟩⟩

theorem wit_MeasurementRecords :
    (∃ (s : State) (b : Nat) (f : Nat) (c1 : Nat) (c0 : Nat), b < 4 ∧ s.cutOff 14 0 = false ∧ s.flag Attr.MeasurementService.inputsWired 0 = true ∧ s.cycleOf b = some (c1, c0) ∧ c1 < c0 ∧ f < 16 ∧ ((∀ g < 16, s.nat Attr.MeasurementFeeder.busbar g = b ↔ g = f)) ∧ s.mea.switching = []) ∧
    (∃ (s : State) (b : Nat) (a : Nat) (e : Nat) (rms : Nat), 1 ≤ b ∧ b < 4 ∧ s.cutOff 14 0 = false ∧ s.flag Attr.MeasurementService.inputsWired 0 = true ∧ s.halfOf b = some (a, e) ∧ ((∀ k < 76, k ≠ busL1 b → s.chanBus k = b → s.flag Attr.MeasurementChannel.enabled k = false)) ∧ s.flag Attr.MeasurementChannel.enabled (busL1 b) = true ∧ (s.chan (busL1 b)).samples.filter (fun p => decide (a ≤ s.channelInstant (busL1 b) p.1) && decide (s.channelInstant (busL1 b) p.1 < e)) ≠ [] ∧ s.rmsOf (busL1 b) ((((s.chan (busL1 b)).samples.filter (fun p => decide (a ≤ s.channelInstant (busL1 b) p.1) && decide (s.channelInstant (busL1 b) p.1 < e))).map (fun p => p.2.natAbs * p.2.natAbs)).sum) ((s.chan (busL1 b)).samples.filter (fun p => decide (a ≤ s.channelInstant (busL1 b) p.1) && decide (s.channelInstant (busL1 b) p.1 < e))).length = rms ∧ s.mea.switching = [] ∧ s.flag Attr.MeasurementChannel.settling (busL1 b) = false ∧ (s.chan (busL1 b)).sag = {} ∧ (s.chan (busL1 b)).swell = {} ∧ s.nat Attr.MeasurementBusbar.persist b = 1 ∧ rms * 1000 < s.nat Attr.MeasurementBusbar.sagLevel b * s.nominal b ∧ rms * 1000 ≤ s.nat Attr.MeasurementBusbar.swellLevel b * s.nominal b) ∧
    (∃ (s : State) (p : Nat) (u : Nat) (us : List Nat), p < 16 ∧ s.nat Attr.LinePort.zcSource p = 2 ∧ s.cutOff 14 0 = false ∧ (s.chan (s.nat Attr.LinePort.zcSourceArg p)).rises = u :: us ∧ (s.port p).edges = [] ∧ (s.port p).good = 0) ∧
    (∃ (s : State), s.cutOff 14 0 = true) ∧
    (∃ (s : State) (i : Nat) (f : Nat) (h : Nat), s.nowInterval = i + 1 ∧ s.flag Attr.MeasurementService.inputsWired 0 = true ∧ s.sys.mode = .service ∧ s.mea.headDone ≠ some i ∧ s.unset = false ∧ f < 16 ∧ ((∀ g < 16, g ≠ f → s.nat Attr.MeasurementFeeder.headHandle g = 0xFFFFFFFF)) ∧ s.nat Attr.MeasurementFeeder.headHandle f = h ∧ h < 2 ^ 21 ∧ (∀ x ∈ (s.feeder f).energy, i ≤ x.1) ∧ (∀ k ∈ s.feederChannels f, s.chanGap k i = false)) ∧
    (∃ (s : State) (i : Nat) (f : Nat) (h : Nat) (k : Nat), s.nowInterval = i + 1 ∧ s.flag Attr.MeasurementService.inputsWired 0 = true ∧ s.sys.mode = .service ∧ s.mea.headDone ≠ some i ∧ s.unset = false ∧ f < 16 ∧ ((∀ g < 16, g ≠ f → s.nat Attr.MeasurementFeeder.headHandle g = 0xFFFFFFFF)) ∧ s.nat Attr.MeasurementFeeder.headHandle f = h ∧ h < 2 ^ 21 ∧ (∀ x ∈ (s.feeder f).energy, i ≤ x.1) ∧ k ∈ s.feederChannels f ∧ s.chanGap k i = true) :=
  ⟨⟨((fun (s : State) => meaOn s (busL1 1) (fun x => { x with rises := [sec 2, sec 1], samples := [(sec 1 + 5, 3)] })) (((fun (s : State) => [0, 1, 2, 4, 5, 6, 7, 8, 9, 10, 11, 12, 13, 14, 15].foldl (fun (s : State) g => s.setNat Attr.MeasurementFeeder.busbar g 0) (s.setNat Attr.MeasurementFeeder.busbar 3 1)) ((let z0 : State := (wb).setFlag Attr.MeasurementService.inputsWired 0 true; { z0 with mea := { z0.mea with switching := [] } }))))), 1, 3, sec 1, sec 2, by decide +kernel⟩,
    ⟨((fun (s : State) => (meaOn s (busL1 1) (fun x => { x with crossings := [sec 2, sec 1], samples := [(sec 1 + sec 1 / 2, 3)] })).setMeaBus 1 { halfEnd := sec 1 }) ((let z0 : State := ((((wb).setFlag Attr.MeasurementService.inputsWired 0 true).setFlag Attr.MeasurementChannel.enabled (busL1 (1 : Nat)) true).setFlag Attr.MeasurementChannel.settling (busL1 (1 : Nat)) false).setNat Attr.MeasurementBusbar.persist (1 : Nat) (1); { z0 with mea := { z0.mea with switching := [] } }))), 1, sec 1, sec 2, 0, by decide +kernel⟩,
    ⟨((fun (s : State) => s.setChan (s.nat Attr.LinePort.zcSourceArg 3) { rises := [sec 1] }) ((wb).setNat Attr.LinePort.zcSource (3 : Nat) (2))), 3, sec 1, [], by decide +kernel⟩,
    ⟨(wb).setFlag Attr.FenceUnit.fenced (14 * 256 + 0) true, by decide +kernel⟩,
    ⟨((fun (s : State) => (s.feederChannels 2).foldl (fun (s : State) k => meaOn s k (fun x => { x with since := some 3 })) s) ((let z0 : State := ((wb).setFlag Attr.MeasurementService.inputsWired 0 true).setNat Attr.MeasurementFeeder.headHandle (2 : Nat) ((7 : Nat)); { z0 with sys := { z0.sys with mode := .service }, tim := { z0.tim with d2 := sec (900 * 11) } }))), 10, 2, 7, by decide +kernel⟩,
    ⟨(let z0 : State := ((wb).setFlag Attr.MeasurementService.inputsWired 0 true).setNat Attr.MeasurementFeeder.headHandle (2 : Nat) ((7 : Nat)); { z0 with sys := { z0.sys with mode := .service }, tim := { z0.tim with d2 := sec (900 * 11) } }), 10, 2, 7, 8, by decide +kernel⟩⟩

theorem wit_KeysAndCredentials :
    (∃ (s : State) (c : Cmd) (n : Nat) (i : Nat), s.Serves c n ∧ c.opcode = opAction ∧ pathCls c.path = 0x0C01 ∧ pathAttr c.path = 0x40 ∧ pathInst c.path = i ∧ 16 ≤ i ∧ i ≤ 31 ∧ s.sys.lifecycle = .field ∧ s.sys.mode = .provision ∧ s.nat Attr.RootSlot.state i = 0 ∧ s.flag Attr.GloveboxService.otpLocked 0 = false ∧ s.flag Attr.GloveboxService.sealed 0 = false ∧ c.payload.length = 32 ∧ Assoc.find i s.glv.blown = none) ∧
    (∃ (s : State) (c : Cmd) (n : Nat), s.Serves c n ∧ c.opcode = opAction ∧ pathCls c.path = 0x0C01 ∧ pathAttr c.path = 0x40 ∧ s.nat Attr.RootSlot.state (pathInst c.path) = 1) ∧
    (∃ (s : State) (c : Cmd) (n : Nat) (i : Nat), s.Serves c n ∧ c.opcode = opAction ∧ pathCls c.path = 0x0C01 ∧ pathAttr c.path = 0x41 ∧ pathInst c.path = i ∧ 16 ≤ i ∧ i ≤ 31 ∧ s.sys.mode = .provision ∧ s.flag Attr.GloveboxService.otpLocked 0 = false ∧ s.flag Attr.GloveboxService.sealed 0 = false) ∧
    (∃ (s : State) (c : Cmd) (n : Nat), s.Serves c n ∧ c.opcode = 0x0C01 ∧ octet c.payload 0 = 2 ∧ c.payload.length < 8 ∧ s.flag Attr.GloveboxService.sealed 0 = false ∧ s.fcr.admitted = [] ∧ s.fcr.deferred = [] ∧ (∀ x ∈ s.glv.keys, x.1 / 16 ≤ maxHandle)) ∧
    (∃ (s : State) (c : Cmd) (n : Nat) (cell : Nat), s.Serves c n ∧ c.opcode = 0x0C01 ∧ octet c.payload 0 = 1 ∧ field c.payload 4 2 = cell ∧ s.flag Attr.GloveboxService.sealed 0 = false ∧ s.isLine cell = true ∧ s.cellHandles cell = [] ∧ s.fcr.admitted = [] ∧ s.fcr.deferred = []) ∧
    (∃ (s : State) (c : Cmd) (n : Nat) (h : Nat) (g : Nat), s.Serves c n ∧ c.opcode = 0x0C01 ∧ octet c.payload 0 = 3 ∧ s.flag Attr.GloveboxService.sealed 0 = false ∧ bit c.flags flagBulk = true ∧ field c.data 4 4 = 1 ∧ c.data.length = 128 ∧ field (slice (c.data.drop 72) 0 56) 0 4 = h ∧ h ≤ maxHandle ∧ octet (slice (c.data.drop 72) 0 56) 4 ≤ 3 ∧ s.endpoint h = true ∧ (s.nat Attr.EndpointKey.generation h + 1) % 16 = g) ∧
    (∃ (s : State) (c : Cmd) (n : Nat), s.Serves c n ∧ c.opcode = 0x0C01 ∧ s.flag Attr.GloveboxService.sealed 0 = true) ∧
    (∃ (s : State) (cell : Nat) (left : List Nat) (ten : Bool), Assoc.find cell s.glv.beaconNext = some left ∧ (left = [] ∨ ten = true)) ∧
    (∃ (s : State), s.glv.trngFault = false ∧ s.nat Attr.FaultSource.reaction 256 = 1 ∧ s.fcr.injections = []) ∧
    (∃ (s : State) (c : Cmd) (n : Nat), s.Serves c n ∧ c.opcode = 0x0C02 ∧ 36 ≤ c.payload.length) ∧
    (∃ (s : State) (c : Cmd) (n : Nat), s.Serves c n ∧ c.opcode = opAction ∧ pathCls c.path = 0x0C10 ∧ pathAttr c.path = 0x40 ∧ octet c.payload 0 ≤ 7 ∧ s.slotGood 6 = true) ∧
    (∃ (s : State) (c : Cmd) (n : Nat), s.Serves c n ∧ s.obj.Canonical ∧ c.opcode = opAction ∧ pathCls c.path = 0x0C10 ∧ pathAttr c.path = 0x41) :=
  ⟨⟨serve ((let z0 : State := (((wb).setNat Attr.RootSlot.state (16 : Nat) (0)).setFlag Attr.GloveboxService.otpLocked 0 false).setFlag Attr.GloveboxService.sealed 0 false; { z0 with sys := { z0.sys with lifecycle := .field, mode := .provision } })) ({ src := .pair 1, opcode := opAction, payload := List.replicate 32 0, path := mkPath 0x0C01 ((16 : Nat)) 0x40 } : Cmd), { src := .pair 1, opcode := opAction, payload := List.replicate 32 0, path := mkPath 0x0C01 ((16 : Nat)) 0x40 }, 1, 16, serves_of (by decide +kernel), by decide +kernel⟩,
    ⟨serve ((wb).setNat Attr.RootSlot.state (pathInst ({ src := .pair 1, opcode := opAction, path := mkPath 0x0C01 (0) 0x40 } : Cmd).path) (1)) ({ src := .pair 1, opcode := opAction, path := mkPath 0x0C01 (0) 0x40 } : Cmd), { src := .pair 1, opcode := opAction, path := mkPath 0x0C01 (0) 0x40 }, 1, serves_of (by decide +kernel), by decide +kernel⟩,
    ⟨serve ((let z0 : State := ((wb).setFlag Attr.GloveboxService.otpLocked 0 false).setFlag Attr.GloveboxService.sealed 0 false; { z0 with sys := { z0.sys with mode := .provision } })) ({ src := .pair 1, opcode := opAction, path := mkPath 0x0C01 ((16 : Nat)) 0x41 } : Cmd), { src := .pair 1, opcode := opAction, path := mkPath 0x0C01 ((16 : Nat)) 0x41 }, 1, 16, serves_of (by decide +kernel), by decide +kernel⟩,
    ⟨serve ((let z0 : State := (wb).setFlag Attr.GloveboxService.sealed 0 false; { z0 with fcr := { z0.fcr with admitted := [], deferred := [] } })) ({ src := .pair 1, opcode := 0x0C01, payload := leBytes 1 (2) } : Cmd), { src := .pair 1, opcode := 0x0C01, payload := leBytes 1 (2) }, 1, serves_of (by decide +kernel), by decide +kernel⟩,
    ⟨serve ((let z0 : State := ((wb).setFlag Attr.GloveboxService.sealed 0 false).create 0x0210 (1 : Nat); { z0 with fcr := { z0.fcr with admitted := [], deferred := [] } })) ({ src := .pair 1, opcode := 0x0C01, payload := leBytes 1 (1) ++ List.replicate 3 0 ++ leBytes 2 ((1 : Nat)) } : Cmd), { src := .pair 1, opcode := 0x0C01, payload := leBytes 1 (1) ++ List.replicate 3 0 ++ leBytes 2 ((1 : Nat)) }, 1, 1, serves_of (by decide +kernel), by decide +kernel⟩,
    ⟨serve (((wb).setFlag Attr.GloveboxService.sealed 0 false).create 0x0501 (7 : Nat)) ({ src := .pair 1, opcode := 0x0C01, payload := [3], flags := 8, bulk := leBytes 4 3 ++ leBytes 4 1 ++ List.replicate 64 0 ++ leBytes 4 7 ++ List.replicate 52 0 } : Cmd), { src := .pair 1, opcode := 0x0C01, payload := [3], flags := 8, bulk := leBytes 4 3 ++ leBytes 4 1 ++ List.replicate 64 0 ++ leBytes 4 7 ++ List.replicate 52 0 }, 1, 7, 0, serves_of (by decide +kernel), by decide +kernel⟩,
    ⟨serve ((wb).setFlag Attr.GloveboxService.sealed 0 true) ({ src := .pair 1, opcode := 0x0C01 } : Cmd), { src := .pair 1, opcode := 0x0C01 }, 1, serves_of (by decide +kernel), by decide +kernel⟩,
    ⟨(let z0 : State := wb; { z0 with glv := { z0.glv with beaconNext := [(5, [])] } }), 5, [], false, by decide +kernel⟩,
    ⟨(let z0 : State := (wb).setNat Attr.FaultSource.reaction 256 (1); { z0 with glv := { z0.glv with trngFault := false }, fcr := { z0.fcr with injections := [] } }), by decide +kernel⟩,
    ⟨serve (wb) ({ src := .pair 1, opcode := 0x0C02, payload := List.replicate 40 0 } : Cmd), { src := .pair 1, opcode := 0x0C02, payload := List.replicate 40 0 }, 1, serves_of (by decide +kernel), by decide +kernel⟩,
    ⟨serve ((wb).setNat Attr.RootSlot.state 6 1) ({ src := .pair 1, opcode := opAction, path := mkPath 0x0C10 (0) 0x40 } : Cmd), { src := .pair 1, opcode := opAction, path := mkPath 0x0C10 (0) 0x40 }, 1, serves_of (by decide +kernel), by decide +kernel⟩,
    ⟨serve (wb) ({ src := .pair 1, opcode := opAction, path := mkPath 0x0C10 (0) 0x41 } : Cmd), { src := .pair 1, opcode := opAction, path := mkPath 0x0C10 (0) 0x41 }, 1, serves_of (by decide +kernel), canonical_of (by decide +kernel), by decide +kernel⟩⟩

theorem wit_TamperAndLifecycle :
    (∃ (s : State) (n : Nat) (cls : Nat), n ≤ 10 ∧ s.flag Attr.TamperSource.active n = false ∧ s.nat Attr.TamperSource.klass n = cls ∧ 2 ≤ cls ∧ s.sys.resetOutLow = false) ∧
    (∃ (s : State) (n : Nat), n ≤ 10 ∧ s.flag Attr.TamperSource.active n = false ∧ s.nat Attr.TamperSource.klass n = 1 ∧ s.sys.resetOutLow = true) ∧
    (∃ (s : State) (n : Nat), s.flag Attr.TamperSource.active n = true) ∧
    (∃ (n : Nat), n ≤ 10) ∧
    (∃ (s : State) (c : Cmd) (n : Nat), s.Serves c n ∧ c.opcode = 0x0C03 ∧ s.sys.tamperLatched = true ∧ field c.payload 0 4 = s.nat Attr.GloveboxService.tripCount 0 ∧ (∀ k < 11, s.flag Attr.TamperSource.active k = false) ∧ s.glv.ack = none) ∧
    (∃ (s : State) (c : Cmd) (n : Nat) (role : Nat) (cred : Nat) (at3 : Nat), s.Serves c n ∧ c.opcode = 0x0C03 ∧ s.sys.tamperLatched = true ∧ field c.payload 0 4 = s.nat Attr.GloveboxService.tripCount 0 ∧ (∀ k < 11, s.flag Attr.TamperSource.active k = false) ∧ s.glv.ack = some (role, cred, at3) ∧ s.tim.d3 ≤ at3 + sec 600 ∧ role ≠ roleIndex c.role ∧ cred ≠ c.cred) ∧
    (∃ (s : State) (c : Cmd) (n : Nat) (i : Nat), s.Serves c n ∧ c.opcode = opAction ∧ pathCls c.path = 0x0C11 ∧ pathAttr c.path = 0x40 ∧ pathInst c.path = i ∧ 4 ≤ i ∧ i ≤ 7 ∧ s.sys.mode = .provision ∧ octet c.payload 0 ≤ 3 ∧ octet c.payload 1 ≤ 1 ∧ 1 ≤ field c.payload 2 2 ∧ field c.payload 2 2 ≤ 64) ∧
    (∃ (s : State) (c : Cmd) (n : Nat), s.Serves c n ∧ c.opcode = opAction ∧ pathCls c.path = 0x0C11 ∧ pathAttr c.path = 0x40 ∧ pathInst c.path = 9) ∧
    (∃ (s : State) (c : Cmd) (n : Nat), s.Serves c n ∧ s.obj.Canonical ∧ c.opcode = 0x0C04 ∧ octet c.payload 0 = 2 ∧ s.sys.mode = .factory ∧ s.sys.lifecycle = .factory ∧ s.flag Attr.GloveboxService.sealed 0 = false ∧ s.glv.trngFault = false ∧ c.role = .operator ∧ (∀ k ∈ [2, 3, 4, 5, 6], s.slotGood k = true)) ∧
    (∃ (s : State) (c : Cmd) (n : Nat), s.Serves c n ∧ c.opcode = 0x0C04 ∧ octet c.payload 0 = 3 ∧ s.sys.mode = .provision ∧ s.sys.lifecycle = .field ∧ s.flag Attr.GloveboxService.sealed 0 = false ∧ s.glv.trngFault = false ∧ c.role = .safety) ∧
    (∃ (s : State) (c : Cmd) (n : Nat), s.Serves c n ∧ c.opcode = 0x0C04 ∧ octet c.payload 0 = 3 ∧ s.sys.mode = .provision ∧ s.sys.lifecycle = .field ∧ s.flag Attr.GloveboxService.sealed 0 = false ∧ s.glv.trngFault = false ∧ c.role = .operator ∧ s.glv.advance = none) :=
  ⟨⟨(let z0 : State := ((wb).setFlag Attr.TamperSource.active (1 : Nat) false).setNat Attr.TamperSource.klass (1 : Nat) ((3 : Nat)); { z0 with sys := { z0.sys with resetOutLow := false } }), 1, 3, by decide +kernel⟩,
    ⟨(let z0 : State := ((wb).setFlag Attr.TamperSource.active (1 : Nat) false).setNat Attr.TamperSource.klass (1 : Nat) (1); { z0 with sys := { z0.sys with resetOutLow := true } }), 1, by decide +kernel⟩,
    ⟨(wb).setFlag Attr.TamperSource.active (1 : Nat) true, 1, by decide +kernel⟩,
    ⟨1, by decide +kernel⟩,
    ⟨serve ((let z0 : State := wb; { z0 with sys := { z0.sys with tamperLatched := true }, glv := { z0.glv with ack := none } })) ({ src := .pair 1, opcode := 0x0C03, payload := leBytes 4 0 } : Cmd), { src := .pair 1, opcode := 0x0C03, payload := leBytes 4 0 }, 1, serves_of (by decide +kernel), by decide +kernel⟩,
    ⟨serve ((let z0 : State := wb; { z0 with sys := { z0.sys with tamperLatched := true }, glv := { z0.glv with ack := some ((1 : Nat), (7 : Nat), (0 : Nat)) } })) ({ src := .pair 1, opcode := 0x0C03, role := .safety, payload := leBytes 4 0 } : Cmd), { src := .pair 1, opcode := 0x0C03, role := .safety, payload := leBytes 4 0 }, 1, 1, 7, 0, serves_of (by decide +kernel), by decide +kernel⟩,
    ⟨serve ((let z0 : State := wb; { z0 with sys := { z0.sys with mode := .provision } })) ({ src := .pair 1, opcode := opAction, payload := [2, 1, 5, 0], path := mkPath 0x0C11 ((5 : Nat)) 0x40 } : Cmd), { src := .pair 1, opcode := opAction, payload := [2, 1, 5, 0], path := mkPath 0x0C11 ((5 : Nat)) 0x40 }, 1, 5, serves_of (by decide +kernel), by decide +kernel⟩,
    ⟨serve (wb) ({ src := .pair 1, opcode := opAction, path := mkPath 0x0C11 (9) 0x40 } : Cmd), { src := .pair 1, opcode := opAction, path := mkPath 0x0C11 (9) 0x40 }, 1, serves_of (by decide +kernel), by decide +kernel⟩,
    ⟨serve (((fun (s : State) => [2, 3, 4, 5, 6].foldl (fun (s : State) k => s.setNat Attr.RootSlot.state k 1) s) ((let z0 : State := (wb).setFlag Attr.GloveboxService.sealed 0 false; { z0 with sys := { z0.sys with mode := .factory, lifecycle := .factory }, glv := { z0.glv with trngFault := false } })))) ({ src := .pair 1, opcode := 0x0C04, role := .operator, payload := leBytes 1 (2) } : Cmd), { src := .pair 1, opcode := 0x0C04, role := .operator, payload := leBytes 1 (2) }, 1, serves_of (by decide +kernel), canonical_of (by decide +kernel), by decide +kernel⟩,
    ⟨serve ((let z0 : State := (wb).setFlag Attr.GloveboxService.sealed 0 false; { z0 with sys := { z0.sys with mode := .provision, lifecycle := .field }, glv := { z0.glv with trngFault := false } })) ({ src := .pair 1, opcode := 0x0C04, role := .safety, payload := leBytes 1 (3) } : Cmd), { src := .pair 1, opcode := 0x0C04, role := .safety, payload := leBytes 1 (3) }, 1, serves_of (by decide +kernel), by decide +kernel⟩,
    ⟨serve ((let z0 : State := (wb).setFlag Attr.GloveboxService.sealed 0 false; { z0 with sys := { z0.sys with mode := .provision, lifecycle := .field }, glv := { z0.glv with trngFault := false, advance := none } })) ({ src := .pair 1, opcode := 0x0C04, role := .operator, payload := leBytes 1 (3) } : Cmd), { src := .pair 1, opcode := 0x0C04, role := .operator, payload := leBytes 1 (3) }, 1, serves_of (by decide +kernel), by decide +kernel⟩⟩

theorem wit_DisciplinedTime :
    (∃ (s : State) (d : Nat) (master : Nat), d ≤ 1 ∧ s.syncArrives d = true ∧ s.sys.mode = .shadow ∧ s.domLocked d = false ∧ ((s.dom d : Int) - master).natAbs ≤ s.nat Attr.TimeDomain.lockNs d * 65536 ∧ (s.servo d).good < 16) ∧
    (∃ (s : State) (master : Nat), s.syncArrives 0 = true ∧ s.sys.mode = .service ∧ s.nat Attr.TimeService.state 0 = 2 ∧ s.nat Attr.TimeService.selected 0 = 0 ∧ s.domUsable 0 = true ∧ (s.tim.s0).good < 16 ∧ ((s.tim.d0 : Int) - master).natAbs ≤ s.nat Attr.TimeDomain.lockNs 0 * 65536) ∧
    (∃ (s : State), s.sys.mode = .shadow ∧ s.cutOff 17 0 = false ∧ s.cutOff 19 0 = false) ∧
    (∃ (s : State), s.sys.mode ≠ .shadow ∧ s.nat Attr.TimeService.state 0 = 2 ∧ s.nat Attr.TimeService.selected 0 = 0 ∧ s.domLocked 0 = true ∧ s.domLocked 1 = false) ∧
    (∃ (s : State), s.sys.mode ≠ .shadow ∧ s.nat Attr.TimeService.state 0 = 2 ∧ s.nat Attr.TimeService.selected 0 = 1 ∧ s.domUsable 0 = true) ∧
    (∃ (s : State), s.nat Attr.TimeService.state 0 = 4 ∧ s.flag Attr.TimeService.autoStep 0 = true ∧ s.sys.mode = .service ∧ s.flag Attr.MeasurementService.inputsWired 0 = false ∧ s.cutOff 13 0 = true ∧ s.bil.cals = [] ∧ s.bil.executed = [] ∧ s.pendingStep ≤ s.tim.d2) :=
  ⟨⟨(let z0 : State := wb; { z0 with sys := { z0.sys with mode := .shadow } }), 1, 1, by decide +kernel⟩,
    ⟨(let z0 : State := (((wb).setNat Attr.TimeService.state 0 (2)).setNat Attr.TimeService.selected 0 (0)).setNat Attr.TimeDomain.lockState 0 2; { z0 with sys := { z0.sys with mode := .service } }), 1, by decide +kernel⟩,
    ⟨(let z0 : State := wb; { z0 with sys := { z0.sys with mode := .shadow } }), by decide +kernel⟩,
    ⟨(((wb).setNat Attr.TimeService.state 0 (2)).setNat Attr.TimeService.selected 0 (0)).setNat Attr.TimeDomain.lockState 0 2, by decide +kernel⟩,
    ⟨(((wb).setNat Attr.TimeService.state 0 (2)).setNat Attr.TimeService.selected 0 (1)).setNat Attr.TimeDomain.lockState 0 2, by decide +kernel⟩,
    ⟨(let z0 : State := ((((wb).setNat Attr.TimeService.state 0 (4)).setFlag Attr.TimeService.autoStep 0 true).setFlag Attr.MeasurementService.inputsWired 0 false).setFlag Attr.FenceUnit.fenced (13 * 256 + 0) true; { z0 with sys := { z0.sys with mode := .service }, bil := { z0.bil with cals := [], executed := [] } }), by decide +kernel⟩⟩

theorem wit_TimeStepsAndPtp :
    (∃ (s : State) (c : Cmd) (n : Nat) (new : Nat), s.Serves c n ∧ c.opcode = 0x0D01 ∧ octet c.payload 0 = 1 ∧ s.sys.mode = .service ∧ s.lockedDom = none ∧ s.nat Attr.TimeService.state 0 = 3 ∧ field c.payload 4 8 < 2 ^ 48 ∧ field c.payload 12 4 < 1000000000 ∧ sec (field c.payload 4 8) + field c.payload 12 4 * 65536 = new ∧ ((new : Int) - s.tim.d2).natAbs ≤ sec (s.nat Attr.TimeService.stepMaxS 0) ∧ ((new : Int) - s.tim.d2).natAbs ≤ s.jumpLimit ∧ s.flag Attr.MeasurementService.inputsWired 0 = false ∧ s.cutOff 13 0 = true) ∧
    (∃ (s : State) (c : Cmd) (n : Nat), s.Serves c n ∧ c.opcode = 0x0D01 ∧ octet c.payload 0 = 1 ∧ s.lockedDom.isSome = true) ∧
    (∃ (s : State) (c : Cmd) (n : Nat), s.Serves c n ∧ c.opcode = 0x0D01 ∧ octet c.payload 0 = 0 ∧ s.nat Attr.TimeService.state 0 ≠ 4) ∧
    (∃ (s : State) (pin : Nat) (pout : Nat), pin < 8 ∧ pout < 8 ∧ s.cutOff 7 pin = false ∧ s.cutOff 7 pout = false) ∧
    (∃ (s : State) (p : Nat), p < 8 ∧ s.flag Attr.PtpPort.master p = true ∧ s.cutOff 7 p = false ∧ s.cutOff 17 0 = false ∧ s.nat Attr.TimeDomain.sourcePort 0 ≠ p ∧ s.nat Attr.TimeDomain.sourcePort 1 ≠ p ∧ s.nat Attr.TimeService.state 0 = 2) ∧
    (∃ (s : State) (p : Nat), p < 8 ∧ s.flag Attr.PtpPort.master p = true ∧ s.cutOff 7 p = false ∧ s.cutOff 17 0 = false ∧ s.nat Attr.TimeDomain.sourcePort 0 ≠ p ∧ s.nat Attr.TimeDomain.sourcePort 1 ≠ p ∧ s.nat Attr.TimeService.state 0 = 4) :=
  ⟨⟨serve ((let z0 : State := ((((wb).setNat Attr.TimeService.state 0 (3)).setFlag Attr.MeasurementService.inputsWired 0 false).setFlag Attr.FenceUnit.fenced (13 * 256 + 0) true).setNat Attr.TimeService.jumpThresholdNs 0 100000000000; { z0 with sys := { z0.sys with mode := .service } })) ({ src := .pair 1, opcode := 0x0D01, payload := [1, 0, 0, 0] ++ leBytes 8 20 ++ leBytes 4 0 } : Cmd), { src := .pair 1, opcode := 0x0D01, payload := [1, 0, 0, 0] ++ leBytes 8 20 ++ leBytes 4 0 }, 1, sec 20, serves_of (by decide +kernel), by decide +kernel⟩,
    ⟨serve ((wb).setNat Attr.TimeDomain.lockState 0 2) ({ src := .pair 1, opcode := 0x0D01, payload := leBytes 1 (1) } : Cmd), { src := .pair 1, opcode := 0x0D01, payload := leBytes 1 (1) }, 1, serves_of (by decide +kernel), by decide +kernel⟩,
    ⟨serve (wb) ({ src := .pair 1, opcode := 0x0D01, payload := leBytes 1 (0) } : Cmd), { src := .pair 1, opcode := 0x0D01, payload := leBytes 1 (0) }, 1, serves_of (by decide +kernel), by decide +kernel⟩,
    ⟨wb, 1, 1, by decide +kernel⟩,
    ⟨((wb).setFlag Attr.PtpPort.master (4 : Nat) true).setNat Attr.TimeService.state 0 (2), 4, by decide +kernel⟩,
    ⟨((wb).setFlag Attr.PtpPort.master (4 : Nat) true).setNat Attr.TimeService.state 0 (4), 4, by decide +kernel⟩⟩

theorem wit_RealTimeClock :
    (∃ (s : State), s.cutOff 18 0 = true) ∧
    (∃ (s : State) (n : Nat) (u : Nat) (p : Nat) (e : Nat), n < 4 ∧ s.cutOff 18 0 = false ∧ ((∀ m < 4, m ≠ n → s.flag Attr.RtcAlarm.enable m = false)) ∧ s.flag Attr.RtcAlarm.enable n = true ∧ s.nat Attr.RtcAlarm.instant n = u ∧ s.nat Attr.RtcAlarm.periodS n = p ∧ s.tim.rtc.live.second.epoch = e ∧ u ≤ e ∧ s.nat Attr.RtcAlarm.lastFire n < u) ∧
    (∃ (s : State) (who : Nat), s.cutOff 18 0 = false ∧ s.tim.rtc.shadow who = none) ∧
    (∃ (s : State) (who : Nat) (x : RtcGroup × Nat), s.cutOff 18 0 = false ∧ s.tim.rtc.shadow who = some x) ∧
    (∃ (s : State) (who : Nat) (x : RtcGroup × Nat), s.cutOff 18 0 = false ∧ s.tim.rtc.shadow who = some x) ∧
    (∃ (s : State), s.cutOff 18 0 = true) ∧
    (∃ (s : State) (who : Nat), (s.tim.rtc.shadow who).isSome = true) ∧
    (∃ (s : State) (who : Nat), s.rtcWrites who = true) ∧
    (∃ (s : State), s.flag Attr.RealTimeClock.hostWrite 0 = false) ∧
    (∃ (s : State) (who : Nat) (v : Nat), s.rtcWrites who = true ∧ v / 256 % 256 = 0x5A ∧ v % 2 = 1 ∧ s.tim.rtc.stage.valid = true ∧ (∀ m < 4, s.flag Attr.RtcAlarm.enable m = false)) ∧
    (∃ (s : State) (who : Nat) (v : Nat), s.rtcWrites who = true ∧ v / 256 % 256 = 0x5A ∧ v % 2 = 1 ∧ s.tim.rtc.stage.valid = false) ∧
    (∃ (v : Nat), v / 256 % 256 ≠ 0x5A) ∧
    (∃ (s : State) (n : Nat), n < 4 ∧ s.cutOff 18 0 = false) ∧
    (∃ (s : State) (d : Int) (k : Nat), s.flag Attr.RealTimeClock.tcompEnable 0 = true ∧ k ≤ 15 ∧ d = 20 * k - 80) ∧
    (∃ (s : State), s.tim.rtc.osf = false ∧ s.nat Attr.FaultSource.reaction 288 = 1 ∧ s.fcr.injections = []) ∧
    (∃ (s : State), s.nat Attr.TimeService.state 0 = 2 ∧ s.cutOff 18 0 = false ∧ (groupOf s.serviceSec).valid = true ∧ (∀ m < 4, s.flag Attr.RtcAlarm.enable m = false)) ∧
    (∃ (s : State) (c : Cmd) (n : Nat), s.Serves c n ∧ c.opcode = 0x0D02 ∧ field c.payload 0 2 = 0 ∧ s.nat Attr.TimeService.state 0 = 2 ∧ s.fcr.admitted = [] ∧ s.fcr.deferred = []) ∧
    (∃ (s : State) (c : Cmd) (n : Nat), s.Serves c n ∧ c.opcode = 0x0D02 ∧ field c.payload 0 2 = 0 ∧ s.nat Attr.TimeService.state 0 ≠ 2) :=
  ⟨⟨(wb).setFlag Attr.FenceUnit.fenced (18 * 256 + 0) true, by decide +kernel⟩,
    ⟨(((wb).setFlag Attr.RtcAlarm.enable (1 : Nat) true).setNat Attr.RtcAlarm.instant (1 : Nat) ((1 : Nat))).setNat Attr.RtcAlarm.periodS (1 : Nat) ((1 : Nat)), 1, 1, 1, 1, by decide +kernel⟩,
    ⟨wb, 1, by decide +kernel⟩,
    ⟨((fun (s : State) => { s with tim := { s.tim with rtc := s.tim.rtc.setShadow 0 (some ({ sec := 5 }, 7)) } }) (wb)), 0, ({ sec := 5 }, 7), by decide +kernel⟩,
    ⟨((fun (s : State) => { s with tim := { s.tim with rtc := s.tim.rtc.setShadow 0 (some ({ sec := 5 }, 7)) } }) (wb)), 0, ({ sec := 5 }, 7), by decide +kernel⟩,
    ⟨(wb).setFlag Attr.FenceUnit.fenced (18 * 256 + 0) true, by decide +kernel⟩,
    ⟨((fun (s : State) => { s with tim := { s.tim with rtc := s.tim.rtc.setShadow 0 (some ({ sec := 5 }, 7)) } }) (wb)), 0, by decide +kernel⟩,
    ⟨wb, 1, by decide +kernel⟩,
    ⟨(wb).setFlag Attr.RealTimeClock.hostWrite 0 false, by decide +kernel⟩,
    ⟨wb, 1, 0x5A01, by decide +kernel⟩,
    ⟨((fun (s : State) => { s with tim := { s.tim with rtc := { s.tim.rtc with stage := { sec := 60 } } } }) (wb)), 1, 0x5A01, by decide +kernel⟩,
    ⟨1, by decide +kernel⟩,
    ⟨wb, 1, by decide +kernel⟩,
    ⟨(wb).setFlag Attr.RealTimeClock.tcompEnable 0 true, 20, 5, by decide +kernel⟩,
    ⟨((fun (s : State) => { s with tim := { s.tim with rtc := { s.tim.rtc with osf := false } } }) ((let z0 : State := (wb).setNat Attr.FaultSource.reaction 288 (1); { z0 with fcr := { z0.fcr with injections := [] } }))), by decide +kernel⟩,
    ⟨(wb).setNat Attr.TimeService.state 0 (2), by decide +kernel⟩,
    ⟨serve ((let z0 : State := (wb).setNat Attr.TimeService.state 0 (2); { z0 with fcr := { z0.fcr with admitted := [], deferred := [] } })) ({ src := .pair 1, opcode := 0x0D02, payload := leBytes 2 (0) } : Cmd), { src := .pair 1, opcode := 0x0D02, payload := leBytes 2 (0) }, 1, serves_of (by decide +kernel), by decide +kernel⟩,
    ⟨serve ((wb).setNat Attr.TimeService.state 0 3) ({ src := .pair 1, opcode := 0x0D02, payload := leBytes 2 (0) } : Cmd), { src := .pair 1, opcode := 0x0D02, payload := leBytes 2 (0) }, 1, serves_of (by decide +kernel), by decide +kernel⟩⟩

theorem wit_CoborLinks :
    (∃ (s : State) (m : Cobor), s.cutOff 19 0 = false ∧ m.body.length ≤ bodyLimit m.link ∧ m.tagOk = true ∧ (s.clink m.link).keyed = true ∧ (s.clink m.link).waiting = []) ∧
    (∃ (s : State) (m : Cobor), s.cutOff 19 0 = false ∧ m.body.length ≤ bodyLimit m.link ∧ m.tagOk = false) ∧
    (∃ (s : State), s.cutOff 19 0 = true) ∧
    (∃ (s : State) (m : Cobor), s.Hears m ∧ m.seq ≤ (s.clink m.link).rxSeq) ∧
    (∃ (s : State) (m : Cobor), s.Hears m ∧ (s.clink m.link).rxSeq + 1 < m.seq ∧ (s.clink m.link).held = []) ∧
    (∃ (s : State) (m : Cobor), s.cutOff 19 0 = false ∧ m.body.length ≤ bodyLimit m.link ∧ (s.clink m.link).unacked = [] ∧ (s.clink m.link).waiting = [] ∧ (∀ j ∈ s.instances 0x0E20, s.nat Attr.FederationMember.eui j ≠ field m.body 0 8) ∧ s.twinned = false ∧ s.twn.pairing = none ∧ m.link ≠ seedLink) ∧
    (∃ (s : State) (m : Cobor), s.cutOff 19 0 = false ∧ m.body.length ≤ bodyLimit m.link ∧ (s.clink m.link).unacked = [] ∧ (s.clink m.link).waiting = [] ∧ (s.clink m.link).asked = true ∧ s.twinned = false ∧ s.twn.pairing = none) ∧
    (∃ (s : State) (m : Cobor) (e : Nat) (a : Nat), s.cutOff 19 0 = false ∧ m.body.length ≤ bodyLimit m.link ∧ m.link = s.pairLink ∧ (s.clink m.link).unacked = [] ∧ (s.clink m.link).waiting = [] ∧ (s.clink m.link).asked = true ∧ s.twn.pairing = some (e, a) ∧ field (slice m.body 0 296) 8 8 = e) ∧
    (∃ (s : State) (m : Cobor), s.Hears m ∧ m.sender ≠ 0xFFFF ∧ m.sender ≠ s.twn.self ∧ m.link ≠ s.pairLink) ∧
    (∃ (s : State) (m : Cobor), s.Hears m ∧ m.sender = 0xFFFF ∧ m.link = s.pairLink ∧ s.twinned = true ∧ s.nat Attr.TwinPair.role 0 = 2 ∧ octet m.body 11 = 1 ∧ 1 ≤ octet m.body 12 ∧ octet m.body 12 ≤ 3 ∧ s.twn.castleCmd = none) ∧
    (∃ (s : State) (l : Nat) (k : CLink), s.twn.links = [(l, k)] ∧ s.linkOpen l = true) ∧
    (∃ (s : State) (l : Nat) (q : Nat) (x : Nat × Nat × Bytes × Nat), s.cutOff 19 0 = false ∧ (s.clink l).unacked.find? (fun y => y.1 == q) = some x) ∧
    (∃ (s : State) (l : Nat), (s.clink l).owed = true ∧ s.linkOpen l = true) ∧
    (∃ (s : State), s.twinned = true ∧ s.linkOpen s.pairLink = true) ∧
    (∃ (s : State) (l : Nat), (s.clink l).keyed = true ∧ s.cutOff 19 0 = false) ∧
    (∃ (s : State), (s.clink s.pairLink).up = true ∧ s.nat Attr.TwinPair.role 0 = 2 ∧ s.twn.claimIn = .claimed) :=
  ⟨⟨((fun (s : State) => withLink 3 s) (wb)), m0, by decide +kernel⟩,
    ⟨((fun (s : State) => withLink 3 s) (wb)), { m0 with tagOk := false }, by decide +kernel⟩,
    ⟨((fun (s : State) => withLink 3 s) ((wb).setFlag Attr.FenceUnit.fenced (19 * 256 + 0) true)), by decide +kernel⟩,
    ⟨((fun (s : State) => withLink 3 s) (wb)), { m0 with seq := 0 }, hears_of (by decide +kernel), by decide +kernel⟩,
    ⟨((fun (s : State) => withLink 3 s) (wb)), { m0 with seq := 5 }, hears_of (by decide +kernel), by decide +kernel⟩,
    ⟨((fun (s : State) => withLink 3 s) ((let z0 : State := wb; { z0 with twn := { z0.twn with pairing := none } }))), m0, by decide +kernel⟩,
    ⟨((fun (s : State) => s.setClink 3 { up := true, asked := true }) (((fun (s : State) => withLink 3 s) ((let z0 : State := wb; { z0 with twn := { z0.twn with pairing := none } }))))), m0, by decide +kernel⟩,
    ⟨((fun (s : State) => s.setClink 3 { up := true, asked := true }) (((fun (s : State) => withLink 3 s) ((let z0 : State := (wb).setNat Attr.TwinPair.pairLane 0 3; { z0 with twn := { z0.twn with pairing := some ((77 : Nat), (9 : Nat)) }, mbx := { z0.mbx with awaiting := [⟨9, 1, 0, none⟩] } }))))), { m0 with body := List.replicate 8 0 ++ leBytes 8 77 ++ List.replicate 472 0 }, 77, 9, by decide +kernel⟩,
    ⟨((fun (s : State) => withLink 3 s) ((wb).setNat Attr.TwinPair.pairLane 0 4)), m0, hears_of (by decide +kernel), by decide +kernel⟩,
    ⟨((fun (s : State) => withLink 3 s) ((let z0 : State := (((wb).setNat Attr.ServicePosture.posture 0 1).setNat Attr.TwinPair.role 0 (2)).setNat Attr.TwinPair.pairLane 0 3; { z0 with twn := { z0.twn with castleCmd := none } }))), { m0 with sender := 0xFFFF, body := List.replicate 10 0 ++ [2, 1, 2] ++ List.replicate 40 0 }, hears_of (by decide +kernel), by decide +kernel⟩,
    ⟨((fun (s : State) => { s with twn := { s.twn with links := [((1 : Nat), ({ up := true, keyed := true } : CLink))] } }) (((fun (s : State) => withLink 3 s) ((let z0 : State := wb; { z0 with twn := { z0.twn with links := [((1 : Nat), ({ up := true, keyed := true } : CLink))] } }))))), 1, { up := true, keyed := true }, by decide +kernel⟩,
    ⟨((fun (s : State) => s.setClink 3 { up := true, keyed := true, unacked := [((7, 0x10, [], 0) : Nat × Nat × Bytes × Nat)] }) (((fun (s : State) => withLink 3 s) (wb)))), 3, 7, (7, 0x10, [], 0), by decide +kernel⟩,
    ⟨((fun (s : State) => s.setClink 1 { up := true, keyed := true, owed := true }) (((fun (s : State) => withLink 3 s) (wb)))), 1, by decide +kernel⟩,
    ⟨((fun (s : State) => withLink 3 s) (((wb).setNat Attr.ServicePosture.posture 0 1).setNat Attr.TwinPair.pairLane 0 3)), by decide +kernel⟩,
    ⟨((fun (s : State) => withLink 3 s) (wb)), 3, by decide +kernel⟩,
    ⟨((fun (s : State) => s.setClink 3 { up := true, keyed := true, unacked := [(1, 0x10, [], 0)] }) (((fun (s : State) => withLink 3 s) ((let z0 : State := ((wb).setNat Attr.TwinPair.role 0 (2)).setNat Attr.TwinPair.pairLane 0 3; { z0 with twn := { z0.twn with claimIn := .claimed } }))))), by decide +kernel⟩⟩

theorem wit_MirrorAndReplicas :
    (∃ (s : State) (m : Cobor) (q : Nat) (b : Bytes), s.InTurn m ∧ s.nat Attr.TwinPair.role 0 = 2 ∧ s.sys.mode = .shadow ∧ s.twn.stopped = false ∧ parseEntries m.body.length m.body = [(q, 10, b)] ∧ s.twn.heldSeq < q) ∧
    (∃ (s : State) (m : Cobor) (q : Nat) (k : Nat) (b : Bytes), s.InTurn m ∧ s.nat Attr.TwinPair.role 0 = 2 ∧ s.sys.mode = .shadow ∧ s.twn.stopped = false ∧ parseEntries m.body.length m.body = [(q, k, b)] ∧ (k = 0 ∨ 11 < k) ∧ s.twn.heldSeq < q) ∧
    (∃ (s : State) (m : Cobor) (q : Nat), s.InTurn m ∧ field m.body 0 8 = q) ∧
    (∃ (s : State) (m : Cobor) (q : Nat) (k : Nat) (b : Bytes), s.InTurn m ∧ s.sys.mode ≠ .shadow ∧ parseEntries m.body.length (m.body.drop 4) = [(q, k, b)]) ∧
    (∃ (s : State) (m : Cobor) (q : Nat), s.InTurn m ∧ field m.body 4 8 = q) ∧
    (∃ (s : State) (h : Nat) (old : Nat), s.federated = true ∧ s.nat Attr.EndpointPlacement.replica h = old ∧ old ≠ 0xFFFF ∧ s.endpoint h = true ∧ h ≤ maxHandle) :=
  ⟨⟨((fun (s : State) => withLink 3 s) ((let z0 : State := (wb).setNat Attr.TwinPair.role 0 (2); { z0 with sys := { z0.sys with mode := .shadow }, twn := { z0.twn with stopped := false } }))), { m0 with body := leBytes 8 5 ++ [10, 0] ++ leBytes 2 12 ++ (leBytes 4 7 ++ [0, 0, 0, 0] ++ leBytes 4 99 : Bytes) }, 5, leBytes 4 7 ++ [0, 0, 0, 0] ++ leBytes 4 99, inTurn_of (by decide +kernel), by decide +kernel⟩,
    ⟨((fun (s : State) => withLink 3 s) ((let z0 : State := (wb).setNat Attr.TwinPair.role 0 (2); { z0 with sys := { z0.sys with mode := .shadow }, twn := { z0.twn with stopped := false } }))), { m0 with body := leBytes 8 5 ++ [12, 0] ++ leBytes 2 2 ++ ([1, 2] : Bytes) }, 5, 12, [1, 2], inTurn_of (by decide +kernel), by decide +kernel⟩,
    ⟨((fun (s : State) => withLink 3 s) ((let z0 : State := wb; { z0 with twn := { z0.twn with posted := [(4, 1, some 9), (6, 1, none)] }, col := { z0.col with flights := [{ id := 9, recs := [] }] } }))), { m0 with body := leBytes 8 5 }, 5, inTurn_of (by decide +kernel), by decide +kernel⟩,
    ⟨((fun (s : State) => withLink 3 s) (wb)), { m0 with body := [5, 0, 0, 0] ++ leBytes 8 5 ++ [10, 0] ++ leBytes 2 12 ++ (leBytes 4 7 ++ [0, 0, 0, 0] ++ leBytes 4 99 : Bytes) }, 5, 10, leBytes 4 7 ++ [0, 0, 0, 0] ++ leBytes 4 99, inTurn_of (by decide +kernel), by decide +kernel⟩,
    ⟨((fun (s : State) => withLink 3 s) ((let z0 : State := wb; { z0 with twn := { z0.twn with repWait := [(5, 4, some 9), (5, 6, none)] }, col := { z0.col with flights := [{ id := 9, recs := [] }] } }))), { m0 with body := [0, 0, 0, 0] ++ leBytes 8 5 }, 5, inTurn_of (by decide +kernel), by decide +kernel⟩,
    ⟨((fun (s : State) => withLink 3 s) ((((wb).setNat Attr.ServicePosture.posture 0 2).setNat Attr.EndpointPlacement.replica (7 : Nat) ((4 : Nat))).create 0x0501 (7 : Nat))), 7, 4, by decide +kernel⟩⟩

theorem wit_ResyncAndPeerMessages :
    (∃ (s : State) (m : Cobor), s.InTurn m ∧ s.active = true) ∧
    (∃ (s : State) (m : Cobor) (q : Nat) (h : Nat), s.InTurn m ∧ s.active = false ∧ s.journalled = [(q, .counter h)] ∧ field m.body 0 8 = q ∧ field m.body 8 8 = q) ∧
    (∃ (s : State) (m : Cobor), s.InTurn m ∧ field m.body 0 2 ≠ s.twn.self) ∧
    (∃ (s : State) (m : Cobor), s.InTurn m ∧ m.link = s.pairLink ∧ s.twinned = true ∧ s.nat Attr.TwinPair.role 0 = 1 ∧ s.sys.mode = .service ∧ s.twn.drain = false ∧ s.twn.released = false ∧ s.twn.claimIn ≠ .invalid ∧ octet m.body 0 = 1) ∧
    (∃ (s : State) (m : Cobor), s.InTurn m ∧ s.twinned = false) ∧
    (∃ (s : State) (m : Cobor) (x : Awaiting), s.InTurn m ∧ 2 ≤ octet m.body 4 ∧ s.mbx.awaiting.find? (fun y => y.arrival == field m.body 0 4) = some x ∧ (s.session x.session).isSome = true) ∧
    (∃ (s : State) (m : Cobor), s.InTurn m ∧ s.ready = true ∧ s.mbx.energize = [] ∧ s.fcr.deferred = [] ∧ s.boundTo (.peer m.link) = none ∧ (let c := frameCmd (.peer m.link) m.body [] [] 0 ((s.mbx.arrival + 1) % 2 ^ 32); headerChecks m.body c = none ∧ c.opcode = opChallenge)) ∧
    (∃ (s : State) (m : Cobor), s.InTurn m ∧ s.ready = false) ∧
    (∃ (s : State) (m : Cobor), s.InTurn m) ∧
    (∃ (s : State) (g : Nat) (home : Nat), s.Sends (s.memberLink home) ∧ s.federated = true ∧ s.groupHome g = home ∧ home ≠ s.twn.self ∧ s.cutOff 12 0 = false) :=
  ⟨⟨((fun (s : State) => withLink 3 s) ((wb).setNat Attr.TwinPair.role 0 1)), m0, inTurn_of (by decide +kernel), by decide +kernel⟩,
    ⟨((fun (s : State) => withLink 3 s) ((let z0 : State := wb; { z0 with sto := { z0.sto with gather := [(5, .counter 7)] } }))), { m0 with body := leBytes 8 5 ++ leBytes 8 5 }, 5, 7, inTurn_of (by decide +kernel), by decide +kernel⟩,
    ⟨((fun (s : State) => withLink 3 s) (wb)), { m0 with body := [9, 0] ++ List.replicate 78 3 }, inTurn_of (by decide +kernel), by decide +kernel⟩,
    ⟨((fun (s : State) => withLink 3 s) ((let z0 : State := (((wb).setNat Attr.ServicePosture.posture 0 1).setNat Attr.TwinPair.role 0 (1)).setNat Attr.TwinPair.pairLane 0 3; { z0 with sys := { z0.sys with mode := .service }, twn := { z0.twn with drain := false, released := false } }))), { m0 with body := 1 :: List.replicate 78 3 }, inTurn_of (by decide +kernel), by decide +kernel⟩,
    ⟨((fun (s : State) => withLink 3 s) (wb)), { m0 with body := List.replicate 78 3 }, inTurn_of (by decide +kernel), by decide +kernel⟩,
    ⟨((fun (s : State) => withLink 3 s) ((let z0 : State := wb; { z0 with mbx := { z0.mbx with awaiting := [(⟨9, 1, 0, none⟩ : Awaiting)], sessions := [{ slot := 1, handle := 1, role := .operator, cred := 5, localSess := true, assoc := 0, peerAddr := 0, idle := 60, lastUse := 0 }] } }))), { m0 with body := leBytes 4 9 ++ [2] ++ List.replicate 78 0 }, ⟨9, 1, 0, none⟩, inTurn_of (by decide +kernel), by decide +kernel⟩,
    ⟨((fun (s : State) => withLink 3 s) ((let z0 : State := wb; { z0 with mbx := { z0.mbx with energize := [] }, fcr := { z0.fcr with deferred := [] } }))), { m0 with body := challengeFrame }, inTurn_of (by decide +kernel), by decide +kernel⟩,
    ⟨((fun (s : State) => withLink 3 s) ((let z0 : State := wb; { z0 with sys := { z0.sys with purelReady := false } }))), m0, inTurn_of (by decide +kernel), by decide +kernel⟩,
    ⟨((fun (s : State) => withLink 3 s) (wb)), { m0 with body := List.replicate 32 3 }, inTurn_of (by decide +kernel)⟩,
    ⟨((fun (s : State) => withLink 6 ((member 6 s).setNat Attr.FederationMember.capacityWeight 6 100)) (((fun (s : State) => withLink 3 s) ((wb).setNat Attr.ServicePosture.posture 0 2)))), 4, 6, sends_of (by decide +kernel), by decide +kernel⟩⟩

theorem wit_FederationMessages :
    (∃ (s : State) (m : Cobor) (n : Nat), s.InTurn m ∧ m.link < 8 ∧ field m.body 8 2 = n ∧ n ≤ 1999 ∧ field m.body 0 8 = s.nat Attr.Federation.federationId 0 ∧ (s.clink m.link).peer = none ∧ s.instances 0x0E20 = [s.twn.self] ∧ n ≠ s.twn.self ∧ s.nat Attr.FederationMember.state s.twn.self = 1 ∧ s.twn.proposals = [] ∧ s.twn.joining = []) ∧
    (∃ (s : State) (m : Cobor), s.InTurn m ∧ field m.body 0 8 ≠ s.nat Attr.Federation.federationId 0) ∧
    (∃ (s : State) (m : Cobor), s.InTurn m ∧ s.twn.proposals = [] ∧ m.sender ≠ s.twn.self ∧ field m.body 0 4 = s.nat Attr.Federation.epoch 0 + 1 ∧ 4 ≤ s.activeMembers.length) ∧
    (∃ (s : State) (m : Cobor) (p : Proposal), s.InTurn m ∧ s.twn.proposals = [p] ∧ octet m.body 6 = 1 ∧ field m.body 0 4 = p.epoch ∧ field m.body 4 2 = p.proposer ∧ p.proposer ≠ s.twn.self ∧ p.epoch = s.nat Attr.Federation.epoch 0 + 1 ∧ 2 * (p.votes.length + 1) ≤ s.activeMembers.length) ∧
    (∃ (s : State) (m : Cobor) (p : Proposal), s.InTurn m ∧ s.twn.proposals = [p] ∧ octet m.body 6 = 1 ∧ field m.body 0 4 = p.epoch ∧ field m.body 4 2 = p.proposer ∧ p.epoch = s.nat Attr.Federation.epoch 0 + 1 ∧ s.majority (m.sender :: p.votes) = true ∧ p.change = 5 ∧ p.member < 2000 ∧ s.twn.joining = []) ∧
    (∃ (s : State) (m : Cobor) (n : Nat), s.InTurn m ∧ field m.body 0 2 = n ∧ s.alive 0x0E20 n = true ∧ s.nat Attr.FederationMember.state n = 1 ∧ s.majority (m.sender :: (Assoc.find n s.twn.suspects).getD []) = false) ∧
    (∃ (s : State) (m : Cobor) (n : Nat), s.InTurn m ∧ field m.body 0 2 = n ∧ n ≠ s.twn.self ∧ s.alive 0x0E20 n = true ∧ s.nat Attr.FederationMember.state n = 1 ∧ s.majority (m.sender :: (Assoc.find n s.twn.suspects).getD []) = true) :=
  ⟨⟨((fun (s : State) => member 2 s) (((fun (s : State) => withLink 3 s) ((let z0 : State := wb; { z0 with twn := { z0.twn with proposals := [], joining := [], self := 2 } }))))), { m0 with body := leBytes 8 0 ++ leBytes 2 6 ++ leBytes 2 100 ++ List.replicate 30 0 }, 6, inTurn_of (by decide +kernel), by decide +kernel⟩,
    ⟨((fun (s : State) => withLink 3 s) (wb)), { m0 with body := List.replicate 40 3 }, inTurn_of (by decide +kernel), by decide +kernel⟩,
    ⟨((fun (s : State) => member 1 (member 2 (member 3 (member 4 s)))) (((fun (s : State) => withLink 3 s) ((let z0 : State := wb; { z0 with twn := { z0.twn with proposals := [], self := 2 } }))))), { m0 with body := leBytes 4 1 ++ [5, 0] ++ leBytes 2 6 ++ List.replicate 30 0 }, inTurn_of (by decide +kernel), by decide +kernel⟩,
    ⟨((fun (s : State) => member 1 (member 2 (member 3 (member 4 s)))) (((fun (s : State) => withLink 3 s) ((let z0 : State := wb; { z0 with twn := { z0.twn with proposals := [(prop0 : Proposal)] } }))))), { m0 with sender := 4, body := leBytes 4 1 ++ leBytes 2 5 ++ [1] ++ List.replicate 30 0 }, prop0, inTurn_of (by decide +kernel), by decide +kernel⟩,
    ⟨((fun (s : State) => member 5 (member 4 s)) (((fun (s : State) => withLink 3 s) ((let z0 : State := wb; { z0 with twn := { z0.twn with proposals := [(prop0 : Proposal)], joining := [] } }))))), { m0 with sender := 4, body := leBytes 4 1 ++ leBytes 2 5 ++ [1] ++ List.replicate 30 0 }, prop0, inTurn_of (by decide +kernel), by decide +kernel⟩,
    ⟨((fun (s : State) => member 1 (member 2 (member 3 (member 4 s)))) (((fun (s : State) => withLink 3 s) (((wb).create 0x0E20 (4 : Nat)).setNat Attr.FederationMember.state (4 : Nat) (1))))), { m0 with body := leBytes 2 4 ++ List.replicate 30 0 }, 4, inTurn_of (by decide +kernel), by decide +kernel⟩,
    ⟨((fun (s : State) => member 5 (member 4 s)) (((fun (s : State) => withLink 3 s) ((let z0 : State := ((wb).create 0x0E20 (4 : Nat)).setNat Attr.FederationMember.state (4 : Nat) (1); { z0 with twn := { z0.twn with suspects := [(4, [4])] } }))))), { m0 with body := leBytes 2 4 ++ List.replicate 30 0 }, 4, inTurn_of (by decide +kernel), by decide +kernel⟩⟩

theorem wit_FederationChanges :
    (∃ (s : State) (n : Nat), s.alive 0x0E20 n = true ∧ n ≠ s.twn.self ∧ s.nat Attr.FederationMember.state n = 1 ∧ s.majority (s.twn.self :: (Assoc.find n s.twn.suspects).getD []) = false) ∧
    (∃ (s : State) (p : Proposal), s.twn.proposals = [p] ∧ p.proposer ≠ s.twn.self) ∧
    (∃ (s : State) (p : Proposal) (a : Nat) (x : Awaiting), s.twn.proposals = [p] ∧ p.proposer = s.twn.self ∧ s.twn.joining = [(a, p.member)] ∧ s.mbx.awaiting.find? (fun y => y.arrival == a) = some x ∧ (s.session x.session).isSome = true) ∧
    (∃ (s : State) (f : Nat) (c : Nat) (p : Nat) (x : PlannedCell), s.alive 0x0E20 f = true ∧ f ≠ s.twn.self ∧ s.nat Attr.FederationMember.state f = 3 ∧ s.twn.replicas = [] ∧ x.cell = c ∧ x.port = p ∧ x.purpose = 0 ∧ c ≤ 511 ∧ p ≤ 15 ∧ s.isLine c = false ∧ s.isPan c = false) ∧
    (∃ (s : State) (c : Cmd) (n : Nat) (m : Nat), s.Serves c n ∧ c.opcode = 0x0E02 ∧ c.role = .operator ∧ s.sys.mode = .provision ∧ 28 ≤ c.payload.length ∧ field c.payload 8 2 = m ∧ m ≤ 1999) ∧
    (∃ (s : State) (c : Cmd) (n : Nat), s.Serves c n ∧ c.opcode = 0x0E02 ∧ c.role = .operator ∧ s.sys.mode ≠ .provision) ∧
    (∃ (s : State) (c : Cmd) (n : Nat) (m : Nat), s.Serves c n ∧ c.opcode = 0x0E03 ∧ c.role = .operator ∧ field c.payload 0 2 = m ∧ octet c.payload 2 = 0 ∧ s.alive 0x0E20 m = true ∧ s.twn.proposals = [] ∧ 2 ≤ s.activeMembers.length) ∧
    (∃ (s : State) (c : Cmd) (n : Nat), s.Serves c n ∧ c.opcode = 0x0E03 ∧ c.role = .operator ∧ octet c.payload 2 = 0 ∧ s.alive 0x0E20 (field c.payload 0 2) = false) ∧
    (∃ (s : State) (c : Cmd) (n : Nat), s.Serves c n ∧ c.opcode = 0x0E04 ∧ c.role = .operator ∧ s.fcr.admitted = [] ∧ s.fcr.deferred = [] ∧ (∀ h ∈ s.instances 0x0501, s.misplaced h = false)) ∧
    (∃ (s : State) (c : Cmd) (n : Nat), s.Serves c n ∧ c.opcode = 0x0E04 ∧ c.role ≠ .operator) :=
  ⟨⟨((wb).create 0x0E20 (1 : Nat)).setNat Attr.FederationMember.state (1 : Nat) (1), 1, by decide +kernel⟩,
    ⟨(let z0 : State := wb; { z0 with twn := { z0.twn with proposals := [(prop0 : Proposal)] } }), prop0, by decide +kernel⟩,
    ⟨(let z0 : State := wb; { z0 with twn := { z0.twn with proposals := [(prop0 : Proposal)], joining := [((9 : Nat), (prop0 : Proposal).member)], self := 5 }, mbx := { z0.mbx with awaiting := [(⟨9, 1, 0, none⟩ : Awaiting)], sessions := [{ slot := 1, handle := 1, role := .operator, cred := 5, localSess := true, assoc := 0, peerAddr := 0, idle := 60, lastUse := 0 }] } }), prop0, 9, ⟨9, 1, 0, none⟩, by decide +kernel⟩,
    ⟨(let z0 : State := ((wb).create 0x0E20 (1 : Nat)).setNat Attr.FederationMember.state (1 : Nat) (3); { z0 with twn := { z0.twn with replicas := [] } }), 1, 7, 2, ⟨7, 2, 0, 55⟩, by decide +kernel⟩,
    ⟨serve ((let z0 : State := wb; { z0 with sys := { z0.sys with mode := .provision } })) ({ src := .pair 1, opcode := 0x0E02, role := .operator, payload := List.replicate 8 0 ++ leBytes 2 ((6 : Nat)) ++ List.replicate 20 0 } : Cmd), { src := .pair 1, opcode := 0x0E02, role := .operator, payload := List.replicate 8 0 ++ leBytes 2 ((6 : Nat)) ++ List.replicate 20 0 }, 1, 6, serves_of (by decide +kernel), by decide +kernel⟩,
    ⟨serve (wb) ({ src := .pair 1, opcode := 0x0E02, role := .operator } : Cmd), { src := .pair 1, opcode := 0x0E02, role := .operator }, 1, serves_of (by decide +kernel), by decide +kernel⟩,
    ⟨serve (((fun (s : State) => member 5 (member 4 s)) ((let z0 : State := (wb).create 0x0E20 (4 : Nat); { z0 with twn := { z0.twn with proposals := [] } })))) ({ src := .pair 1, opcode := 0x0E03, role := .operator, payload := leBytes 2 ((4 : Nat)) ++ leBytes 1 (0) } : Cmd), { src := .pair 1, opcode := 0x0E03, role := .operator, payload := leBytes 2 ((4 : Nat)) ++ leBytes 1 (0) }, 1, 4, serves_of (by decide +kernel), by decide +kernel⟩,
    ⟨serve (wb) ({ src := .pair 1, opcode := 0x0E03, role := .operator, payload := List.replicate 2 0 ++ leBytes 1 (0) } : Cmd), { src := .pair 1, opcode := 0x0E03, role := .operator, payload := List.replicate 2 0 ++ leBytes 1 (0) }, 1, serves_of (by decide +kernel), by decide +kernel⟩,
    ⟨serve ((let z0 : State := wb; { z0 with fcr := { z0.fcr with admitted := [], deferred := [] } })) ({ src := .pair 1, opcode := 0x0E04, role := .operator } : Cmd), { src := .pair 1, opcode := 0x0E04, role := .operator }, 1, serves_of (by decide +kernel), by decide +kernel⟩,
    ⟨serve (wb) ({ src := .pair 1, opcode := 0x0E04 } : Cmd), { src := .pair 1, opcode := 0x0E04 }, 1, serves_of (by decide +kernel), by decide +kernel⟩⟩

theorem wit_PairingAndClaims :
    (∃ (s : State) (c : Cmd) (n : Nat) (e : Nat), s.Serves c n ∧ c.opcode = opAction ∧ pathCls c.path = 0x0E10 ∧ pathAttr c.path = 0x40 ∧ s.sys.mode = .provision ∧ 8 ≤ c.payload.length ∧ field c.payload 0 8 = e ∧ e ≠ 0 ∧ e ≠ s.sys.eui ∧ s.cutOff 19 0 = false) ∧
    (∃ (s : State) (c : Cmd) (n : Nat), s.Serves c n ∧ c.opcode = opAction ∧ pathCls c.path = 0x0E10 ∧ pathAttr c.path = 0x40 ∧ s.sys.mode ≠ .provision) ∧
    (∃ (s : State), s.twinned = false) ∧
    (∃ (s : State), s.twinned = true ∧ s.sys.stalemate = false ∧ s.twn.bootClaim = none ∧ s.twn.claimIn ≠ .invalid ∧ s.fcr.injections = []) ∧
    (∃ (s : State), s.twinned = true ∧ s.sys.stalemate = false ∧ s.sys.mode = .shadow ∧ s.twn.claimOut = false ∧ s.twn.bootClaim = none ∧ s.twn.contest = false ∧ s.twn.gateOk = true) ∧
    (∃ (s : State), s.twinned = true ∧ s.sys.stalemate = false ∧ s.sys.mode = .service ∧ s.twn.claimOut = false ∧ s.twn.bootClaim = none ∧ s.mbx.energize = []) ∧
    (∃ (s : State) (trig : Nat), s.twn.bootClaim = some trig ∧ s.sys.mode ≠ .holdup ∧ s.sys.stalemate = false ∧ (s.twn.claimIn = .released ∨ s.twn.claimIn = .absent) ∧ s.twn.gateOk = true) :=
  ⟨⟨serve ((let z0 : State := wb; { z0 with sys := { z0.sys with mode := .provision } })) ({ src := .pair 1, opcode := opAction, payload := leBytes 8 ((77 : Nat)), path := mkPath 0x0E10 (0) 0x40 } : Cmd), { src := .pair 1, opcode := opAction, payload := leBytes 8 ((77 : Nat)), path := mkPath 0x0E10 (0) 0x40 }, 1, 77, serves_of (by decide +kernel), by decide +kernel⟩,
    ⟨serve (wb) ({ src := .pair 1, opcode := opAction, path := mkPath 0x0E10 (0) 0x40 } : Cmd), { src := .pair 1, opcode := opAction, path := mkPath 0x0E10 (0) 0x40 }, 1, serves_of (by decide +kernel), by decide +kernel⟩,
    ⟨wb, by decide +kernel⟩,
    ⟨(let z0 : State := (wb).setNat Attr.ServicePosture.posture 0 1; { z0 with sys := { z0.sys with stalemate := false }, twn := { z0.twn with bootClaim := none }, fcr := { z0.fcr with injections := [] } }), by decide +kernel⟩,
    ⟨(let z0 : State := (wb).setNat Attr.ServicePosture.posture 0 1; { z0 with sys := { z0.sys with stalemate := false, mode := .shadow }, twn := { z0.twn with claimOut := false, bootClaim := none, contest := false, gateOk := true } }), by decide +kernel⟩,
    ⟨(let z0 : State := (wb).setNat Attr.ServicePosture.posture 0 1; { z0 with sys := { z0.sys with stalemate := false, mode := .service }, twn := { z0.twn with claimOut := false, bootClaim := none }, mbx := { z0.mbx with energize := [] } }), by decide +kernel⟩,
    ⟨(let z0 : State := wb; { z0 with twn := { z0.twn with bootClaim := some (1 : Nat), gateOk := true }, sys := { z0.sys with stalemate := false } }), 1, by decide +kernel⟩⟩

theorem wit_Castling :
    (∃ (s : State) (g : Nat) (trig : Nat), s.twn.gap = some (g, trig) ∧ s.twn.claimOut = true ∧ s.sys.stalemate = false ∧ s.twn.claimIn = .released ∧ s.sys.mode = .shadow ∧ s.bil.cals = [] ∧ s.twn.castleCmd = none ∧ (∀ c ∈ s.instances 0x0210, s.isLighting c = false)) ∧
    (∃ (s : State) (g : Nat) (trig : Nat), s.twn.gap = some (g, trig) ∧ s.twn.claimOut = true ∧ s.sys.stalemate = false ∧ s.twn.claimIn = .claimed ∧ s.side = 0) ∧
    (∃ (s : State) (g : Nat) (trig : Nat), s.twn.gap = some (g, trig) ∧ s.twn.claimOut = true ∧ s.sys.stalemate = false ∧ s.twn.claimIn = .claimed ∧ s.side = 1 ∧ s.mbx.energize = []) ∧
    (∃ (s : State) (b : Nat), s.active = true ∧ s.sys.mode = .service ∧ s.twn.claimOut = true ∧ s.flag Attr.TwinPair.fit 0 = true ∧ bit (s.nat Attr.TwinPair.selfCastle 0) b = true ∧ s.selfCause b = true) ∧
    (∃ (s : State), s.twn.drain = true ∧ s.twn.outbox = [] ∧ s.twn.posted = []) ∧
    (∃ (s : State) (c : Cmd) (n : Nat), s.Serves c n ∧ c.opcode = 0x0E01 ∧ octet c.payload 0 = 0 ∧ s.sys.mode = .service ∧ s.active = true ∧ s.twn.drain = false ∧ s.twn.released = false ∧ s.twinned = true ∧ (s.clink s.pairLink).up = true ∧ s.twn.claimIn ≠ .invalid ∧ s.flag Attr.TwinPair.fit 0 = true) ∧
    (∃ (s : State) (c : Cmd) (n : Nat), s.Serves c n ∧ c.opcode = 0x0E01 ∧ octet c.payload 0 = 0 ∧ s.sys.mode = .service ∧ s.flag Attr.TwinPair.fit 0 = false) ∧
    (∃ (s : State) (c : Cmd) (n : Nat), s.Serves c n ∧ c.opcode = 0x0E01 ∧ octet c.payload 0 = 0 ∧ s.sys.mode = .shadow ∧ s.twinned = true ∧ s.linkOpen s.pairLink = true ∧ (s.clink s.pairLink).waiting = [] ∧ (s.clink s.pairLink).unacked.length < 4096 ∧ s.twn.claimIn ≠ .invalid ∧ s.flag Attr.TwinPair.fit 0 = true) :=
  ⟨⟨(let z0 : State := wb; { z0 with twn := { z0.twn with gap := some ((1 : Nat), (1 : Nat)), claimOut := true, claimIn := .released, castleCmd := none }, sys := { z0.sys with stalemate := false, mode := .shadow }, bil := { z0.bil with cals := [] } }), 1, 1, by decide +kernel⟩,
    ⟨(let z0 : State := wb; { z0 with twn := { z0.twn with gap := some ((1 : Nat), (1 : Nat)), claimOut := true, claimIn := .claimed }, sys := { z0.sys with stalemate := false } }), 1, 1, by decide +kernel⟩,
    ⟨(let z0 : State := (wb).setNat Attr.TwinPair.side 0 1; { z0 with twn := { z0.twn with gap := some ((1 : Nat), (1 : Nat)), claimOut := true, claimIn := .claimed }, sys := { z0.sys with stalemate := false }, mbx := { z0.mbx with energize := [] } }), 1, 1, by decide +kernel⟩,
    ⟨(let z0 : State := ((((wb).setNat Attr.TwinPair.role 0 1).setFlag Attr.TwinPair.fit 0 true).setNat Attr.TwinPair.selfCastle 0 1).setFlag Attr.FenceUnit.fenced (15 * 256) true; { z0 with sys := { z0.sys with mode := .service }, twn := { z0.twn with claimOut := true } }), 0, by decide +kernel⟩,
    ⟨(let z0 : State := wb; { z0 with twn := { z0.twn with drain := true, outbox := [], posted := [] } }), by decide +kernel⟩,
    ⟨serve (((fun (s : State) => withLink 0 s) ((let z0 : State := (((wb).setNat Attr.TwinPair.role 0 1).setNat Attr.ServicePosture.posture 0 1).setFlag Attr.TwinPair.fit 0 true; { z0 with sys := { z0.sys with mode := .service }, twn := { z0.twn with drain := false, released := false } })))) ({ src := .pair 1, opcode := 0x0E01, payload := leBytes 1 (0) } : Cmd), { src := .pair 1, opcode := 0x0E01, payload := leBytes 1 (0) }, 1, serves_of (by decide +kernel), by decide +kernel⟩,
    ⟨serve ((let z0 : State := (wb).setFlag Attr.TwinPair.fit 0 false; { z0 with sys := { z0.sys with mode := .service } })) ({ src := .pair 1, opcode := 0x0E01, payload := leBytes 1 (0) } : Cmd), { src := .pair 1, opcode := 0x0E01, payload := leBytes 1 (0) }, 1, serves_of (by decide +kernel), by decide +kernel⟩,
    ⟨serve (((fun (s : State) => withLink 0 s) ((let z0 : State := ((wb).setNat Attr.ServicePosture.posture 0 1).setFlag Attr.TwinPair.fit 0 true; { z0 with sys := { z0.sys with mode := .shadow } })))) ({ src := .pair 1, opcode := 0x0E01, payload := leBytes 1 (0) } : Cmd), { src := .pair 1, opcode := 0x0E01, payload := leBytes 1 (0) }, 1, serves_of (by decide +kernel), by decide +kernel⟩⟩

theorem wit_TwinHealth :
    (∃ (s : State), s.twinned = true ∧ s.active = true ∧ s.nat Attr.TwinPair.pairState 0 = 1 ∧ s.twn.claimIn = .absent ∧ s.fcr.admitted = []) ∧
    (∃ (s : State), s.twinned = true ∧ s.linkOpen s.pairLink = true ∧ s.active = true ∧ s.nat Attr.TwinPair.pairState 0 = 2 ∧ s.fcr.admitted = [] ∧ s.fcr.deferred = [] ∧ s.fcr.waiting = [] ∧ s.mbx.taken = []) ∧
    (∃ (s : State), s.twinned = true ∧ s.linkOpen s.pairLink = true ∧ s.active = true ∧ s.nat Attr.TwinPair.pairState 0 = 3 ∧ s.twn.posted = [] ∧ s.twn.outbox = [] ∧ s.fcr.admitted = []) ∧
    (∃ (s : State) (bits : Nat), s.nat Attr.TwinPair.role 0 = 2 ∧ bits % 256 = 255 ∧ s.twn.gateOk = true ∧ s.twn.claimIn = .claimed ∧ s.twn.stopped = false ∧ s.nat Attr.TwinPair.pairState 0 = 1 ∧ s.trial = false) ∧
    (∃ (s : State) (bits : Nat), s.nat Attr.TwinPair.role 0 = 2 ∧ bits % 256 = 254 ∧ s.twn.gateOk = true ∧ s.twn.claimIn = .claimed ∧ s.twn.stopped = false ∧ s.twn.alarms = 0) :=
  ⟨⟨(let z0 : State := (((wb).setNat Attr.ServicePosture.posture 0 1).setNat Attr.TwinPair.role 0 1).setNat Attr.TwinPair.pairState 0 (1); { z0 with twn := { z0.twn with claimIn := .absent }, fcr := { z0.fcr with admitted := [] } }), by decide +kernel⟩,
    ⟨((fun (s : State) => withLink 0 s) ((let z0 : State := (((wb).setNat Attr.ServicePosture.posture 0 1).setNat Attr.TwinPair.role 0 1).setNat Attr.TwinPair.pairState 0 (2); { z0 with fcr := { z0.fcr with admitted := [], deferred := [], waiting := [] }, mbx := { z0.mbx with taken := [] } }))), by decide +kernel⟩,
    ⟨((fun (s : State) => withLink 0 s) ((let z0 : State := (((wb).setNat Attr.ServicePosture.posture 0 1).setNat Attr.TwinPair.role 0 1).setNat Attr.TwinPair.pairState 0 (3); { z0 with twn := { z0.twn with posted := [], outbox := [] }, fcr := { z0.fcr with admitted := [] } }))), by decide +kernel⟩,
    ⟨(let z0 : State := ((wb).setNat Attr.TwinPair.role 0 (2)).setNat Attr.TwinPair.pairState 0 (1); { z0 with twn := { z0.twn with gateOk := true, claimIn := .claimed, stopped := false } }), 255, by decide +kernel⟩,
    ⟨(let z0 : State := (wb).setNat Attr.TwinPair.role 0 (2); { z0 with twn := { z0.twn with gateOk := true, claimIn := .claimed, stopped := false, alarms := 0 } }), 254, by decide +kernel⟩⟩

theorem wit_OwnUpdates :
    (∃ (s : State) (c : Cmd) (n : Nat) (d : Nat), s.Serves c n ∧ c.opcode = 0x0F01 ∧ bit c.flags flagBulk = true ∧ 16 ≤ c.data.length ∧ s.trialSlot = none ∧ field c.data 0 4 = 0 ∧ octet (c.data.drop 16) 6 ≠ 2 ∧ s.stageSlot = d ∧ (c.data.drop 16).length ≤ field c.data 4 4 ∧ field c.data 4 4 ≤ 25165824 ∧ bit (octet c.data 8) 0 = false) ∧
    (∃ (s : State) (c : Cmd) (n : Nat) (d : Nat) (b : Bytes), s.Serves c n ∧ c.opcode = 0x0F01 ∧ bit c.flags flagBulk = true ∧ 16 ≤ c.data.length ∧ s.trialSlot = none ∧ field c.data 0 4 ≠ 0 ∧ d < 2 ∧ s.upd.stage = some (d, field c.data 4 4, b) ∧ b.length = field c.data 0 4 ∧ (b ++ c.data.drop 16).length = field c.data 4 4 ∧ field c.data 4 4 ≤ 25165824 ∧ bit (octet c.data 8) 0 = true) ∧
    (∃ (s : State) (c : Cmd) (n : Nat), s.Serves c n ∧ c.opcode = 0x0F01 ∧ bit c.flags flagBulk = true ∧ 16 ≤ c.data.length ∧ s.trialSlot.isSome = true) ∧
    (∃ (s : State) (c : Cmd) (n : Nat) (d : Nat), s.Serves c n ∧ c.opcode = 0x0F02 ∧ octet c.payload 0 = 0 ∧ s.sys.mode = .service ∧ s.trialSlot = none ∧ s.peerTrial = false ∧ s.upd.handing = none ∧ s.stagedSlot = some d ∧ field c.payload 4 4 ≠ 0 ∧ s.fcr.admitted = [] ∧ s.fcr.deferred = []) ∧
    (∃ (s : State) (c : Cmd) (n : Nat), s.Serves c n ∧ c.opcode = 0x0F02 ∧ octet c.payload 0 = 1 ∧ s.upd.handing = none) ∧
    (∃ (s : State) (d : Nat) (w : Nat) (a : Nat), s.sys.stalemate = false ∧ s.upd.handing = some (.activate d w a) ∧ d < 2 ∧ s.fcr.admitted = [] ∧ s.fcr.deferred = [] ∧ s.fcr.waiting = []) ∧
    (∃ (s : State) (d : Nat) (w : Nat) (a : Nat), s.sys.stalemate = false ∧ s.upd.handing = some (.activate d w a) ∧ d < 2 ∧ s.slotState d = 2 ∧ s.sys.handover = true ∧ s.fcr.admitted = [] ∧ s.fcr.deferred = [] ∧ s.fcr.waiting = [] ∧ s.mbx.remoteHeld = [] ∧ (∀ k < 64, (s.pair k).held = none) ∧ 1 ≤ s.freeGeneration ∧ s.freeGeneration ≤ 3) ∧
    (∃ (s : State) (r : Nat) (x : Nat), s.sys.stalemate = false ∧ s.upd.handing = some (.fallback r none) ∧ s.trialSlot = some x ∧ s.sys.handover = true ∧ s.mbx.remoteHeld = [] ∧ (∀ k < 64, (s.pair k).held = none)) ∧
    (∃ (s : State), s.trialSlot.isSome = true ∧ s.upd.handing = none) ∧
    (∃ (s : State), s.trialSlot.isSome = true ∧ s.upd.handing = none) ∧
    (∃ (s : State) (c : Cmd) (n : Nat) (d : Nat) (f : Nat), s.Serves c n ∧ c.opcode = 0x0F03 ∧ octet c.payload 0 = d ∧ d ≤ 1 ∧ s.slotState d = 3 ∧ s.genState (s.nat Attr.FirmwareImage.settingsGeneration d) = 2 ∧ max (s.nat Attr.UpdateService.securityFloor 0) (s.nat Attr.FirmwareImage.securityVersion d) = f) ∧
    (∃ (s : State) (c : Cmd) (n : Nat), s.Serves c n ∧ c.opcode = 0x0F03 ∧ s.slotState (octet c.payload 0) ≠ 3) :=
  ⟨⟨serve (wb) ({ src := .pair 1, opcode := 0x0F01, flags := 8, bulk := leBytes 4 0 ++ leBytes 4 100 ++ List.replicate 8 0 ++ List.replicate 20 1 } : Cmd), { src := .pair 1, opcode := 0x0F01, flags := 8, bulk := leBytes 4 0 ++ leBytes 4 100 ++ List.replicate 8 0 ++ List.replicate 20 1 }, 1, 0, serves_of (by decide +kernel), by decide +kernel⟩,
    ⟨serve ((let z0 : State := wb; { z0 with upd := { z0.upd with stage := some ((0 : Nat), field ({ src := .pair 1, opcode := 0x0F01, flags := 8, bulk := leBytes 4 4 ++ leBytes 4 24 ++ (1 :: List.replicate 7 0) ++ List.replicate 20 1 } : Cmd).data 4 4, ([1, 2, 3, 4] : Bytes)) } })) ({ src := .pair 1, opcode := 0x0F01, flags := 8, bulk := leBytes 4 4 ++ leBytes 4 24 ++ (1 :: List.replicate 7 0) ++ List.replicate 20 1 } : Cmd), { src := .pair 1, opcode := 0x0F01, flags := 8, bulk := leBytes 4 4 ++ leBytes 4 24 ++ (1 :: List.replicate 7 0) ++ List.replicate 20 1 }, 1, 0, [1, 2, 3, 4], serves_of (by decide +kernel), by decide +kernel⟩,
    ⟨serve ((wb).setNat Attr.FirmwareImage.state 1 3) ({ src := .pair 1, opcode := 0x0F01, flags := 8, bulk := List.replicate 40 1 } : Cmd), { src := .pair 1, opcode := 0x0F01, flags := 8, bulk := List.replicate 40 1 }, 1, serves_of (by decide +kernel), by decide +kernel⟩,
    ⟨serve ((let z0 : State := (wb).setNat Attr.FirmwareImage.state 0 2; { z0 with sys := { z0.sys with mode := .service }, upd := { z0.upd with handing := none }, fcr := { z0.fcr with admitted := [], deferred := [] } })) ({ src := .pair 1, opcode := 0x0F02, payload := leBytes 1 (0) ++ List.replicate 3 0 ++ leBytes 4 (600) } : Cmd), { src := .pair 1, opcode := 0x0F02, payload := leBytes 1 (0) ++ List.replicate 3 0 ++ leBytes 4 (600) }, 1, 0, serves_of (by decide +kernel), by decide +kernel⟩,
    ⟨serve ((let z0 : State := wb; { z0 with upd := { z0.upd with handing := none } })) ({ src := .pair 1, opcode := 0x0F02, payload := leBytes 1 (1) } : Cmd), { src := .pair 1, opcode := 0x0F02, payload := leBytes 1 (1) }, 1, serves_of (by decide +kernel), by decide +kernel⟩,
    ⟨(let z0 : State := wb; { z0 with sys := { z0.sys with stalemate := false }, upd := { z0.upd with handing := some (.activate (0 : Nat) (1 : Nat) (1 : Nat)) }, fcr := { z0.fcr with admitted := [], deferred := [], waiting := [] } }), 0, 1, 1, by decide +kernel⟩,
    ⟨(let z0 : State := (wb).setNat Attr.FirmwareImage.state 0 2; { z0 with sys := { z0.sys with stalemate := false, handover := true }, upd := { z0.upd with handing := some (.activate (0 : Nat) (1 : Nat) (1 : Nat)) }, fcr := { z0.fcr with admitted := [], deferred := [], waiting := [] }, mbx := { z0.mbx with remoteHeld := [] } }), 0, 1, 1, by decide +kernel⟩,
    ⟨(let z0 : State := (wb).setNat Attr.FirmwareImage.state 1 3; { z0 with sys := { z0.sys with stalemate := false, handover := true }, upd := { z0.upd with handing := some (.fallback (1 : Nat) none) }, mbx := { z0.mbx with remoteHeld := [] } }), 1, 1, by decide +kernel⟩,
    ⟨(let z0 : State := (wb).setNat Attr.FirmwareImage.state 1 3; { z0 with upd := { z0.upd with handing := none } }), by decide +kernel⟩,
    ⟨(let z0 : State := (wb).setNat Attr.FirmwareImage.state 1 3; { z0 with upd := { z0.upd with handing := none } }), by decide +kernel⟩,
    ⟨serve ((((wb).setNat Attr.FirmwareImage.state 0 3).setNat Attr.FirmwareImage.settingsGeneration 0 1).setNat Attr.SettingsGeneration.state 1 2) ({ src := .pair 1, opcode := 0x0F03, payload := leBytes 1 ((0 : Nat)) } : Cmd), { src := .pair 1, opcode := 0x0F03, payload := leBytes 1 ((0 : Nat)) }, 1, 0, 0, serves_of (by decide +kernel), by decide +kernel⟩,
    ⟨serve (wb) ({ src := .pair 1, opcode := 0x0F03 } : Cmd), { src := .pair 1, opcode := 0x0F03 }, 1, serves_of (by decide +kernel), by decide +kernel⟩⟩

theorem wit_Campaigns :
    (∃ (s : State) (c : Cmd) (n : Nat) (k : Nat), s.Serves c n ∧ c.opcode = opAction ∧ pathCls c.path = 0x0F20 ∧ pathAttr c.path = 0x40 ∧ pathInst c.path = k ∧ bit c.flags flagBulk = true ∧ 4 ≤ c.data.length ∧ field c.data 0 4 % 512 = 0 ∧ field c.data 0 4 + (c.data.drop 4).length ≤ 4194304 ∧ s.campRuns k = false) ∧
    (∃ (s : State) (c : Cmd) (n : Nat) (h : Nat), s.Serves c n ∧ c.opcode = 0x0F04 ∧ octet c.data 0 = 0 ∧ octet c.data 1 = 1 ∧ c.role = .operator ∧ octet c.data 2 ≤ 2 ∧ 1 ≤ field c.data 4 4 ∧ field c.data 4 4 ≤ 4194304 ∧ (s.camp 0).image.length = field c.data 4 4 ∧ 1 ≤ field c.data 44 2 ∧ field c.data 44 2 ≤ 64 ∧ field c.data 48 4 = 1 ∧ 56 ≤ c.data.length ∧ field c.data 52 4 = h ∧ h ≤ maxHandle ∧ s.homed h = true ∧ s.nat Attr.EndpointProfile.role h = octet c.data 2 ∧ s.requestCell h = none ∧ (∀ x ∈ s.upd.campaigns, s.campRuns x.1 = false) ∧ s.campRuns 0 = false ∧ (s.camp 0).targets = [] ∧ s.twinned = false ∧ s.fcr.admitted = [] ∧ s.fcr.deferred = []) ∧
    (∃ (s : State) (c : Cmd) (n : Nat) (h : Nat) (x : Target), s.Serves c n ∧ c.opcode = 0x0F04 ∧ octet c.data 0 = 0 ∧ octet c.data 1 = 2 ∧ c.role = .operator ∧ s.campRuns 0 = true ∧ (s.camp 0).targets = [(h, x)] ∧ h ≤ maxHandle ∧ s.targetState 0 h < 4 ∧ (s.camp 0).groups = [] ∧ s.twinned = false) ∧
    (∃ (s : State) (k : Nat) (b : Nat) (cell : Nat) (g : Nat) (h : Nat) (x : Target), s.campRuns k = true ∧ s.sys.mode ≠ .shadow ∧ b < blockCount (s.camp k).image.length ∧ s.isLine cell = true ∧ Assoc.find cell (s.camp k).groups = some g ∧ s.wanting k cell = [(h, x)] ∧ s.targetState k h = 1 ∧ (cell, b) ∉ (s.camp k).sent ∧ s.blockTime h = true ∧ s.gloveShut = false) ∧
    (∃ (s : State) (k : Nat) (h : Nat) (x : Target), k < 8 ∧ h ≤ maxHandle ∧ s.target k h = some x ∧ s.campRuns k = true ∧ s.targetState k h < 2 ∧ s.twinned = false) ∧
    (∃ (s : State) (k : Nat) (h : Nat) (x : Target), k < 8 ∧ h ≤ maxHandle ∧ s.target k h = some x ∧ s.campRuns k = true ∧ s.targetState k h = 2 ∧ s.activationDue k = false ∧ s.twinned = false) ∧
    (∃ (s : State) (k : Nat) (h : Nat) (x : Target) (d : Bytes), k < 8 ∧ h ≤ maxHandle ∧ s.target k h = some x ∧ s.campRuns k = true ∧ s.targetState k h = 2 ∧ d ≠ (s.camp k).digest ∧ x.mismatches = 0 ∧ s.twinned = false) ∧
    (∃ (s : State) (k : Nat) (h : Nat) (j : Nat) (x : Target) (y : Target), k < 8 ∧ h ≤ maxHandle ∧ s.target k h = some x ∧ s.campRuns k = true ∧ s.targetState k h = 4 ∧ s.nat Attr.EndpointProfile.role h ≠ 1 ∧ (j, y) ∈ (s.camp k).targets ∧ j ≠ h ∧ j ≤ maxHandle ∧ s.targetState k j = 0 ∧ s.twinned = false) ∧
    (∃ (s : State) (k : Nat) (h : Nat) (j : Nat) (x : Target) (y : Target), k < 8 ∧ h ≤ maxHandle ∧ s.target k h = some x ∧ s.campRuns k = true ∧ s.targetState k h < 5 ∧ (j, y) ∈ (s.camp k).targets ∧ j ≠ h ∧ j ≤ maxHandle ∧ s.targetState k j = 0 ∧ s.twinned = false) ∧
    (∃ (s : State) (k : Nat) (h : Nat) (x : Target), k < 8 ∧ h ≤ maxHandle ∧ s.campRuns k = true ∧ s.activationDue k = true ∧ (s.camp k).targets = [(h, x)] ∧ s.targetState k h = 3 ∧ s.nat Attr.EndpointProfile.role h ≠ 1 ∧ s.sys.mode ≠ .shadow ∧ s.cutOff 9 0 = true ∧ s.twinned = false) :=
  ⟨⟨serve (wb) ({ src := .pair 1, opcode := opAction, path := mkPath 0x0F20 2 0x40, flags := 8, bulk := leBytes 4 512 ++ List.replicate 20 1 } : Cmd), { src := .pair 1, opcode := opAction, path := mkPath 0x0F20 2 0x40, flags := 8, bulk := leBytes 4 512 ++ List.replicate 20 1 }, 1, 2, serves_of (by decide +kernel), by decide +kernel⟩,
    ⟨serve (((fun (s : State) => s.setCamp 0 { image := List.replicate 10 3 }) ((let z0 : State := ((wb).setNat Attr.EndpointProfile.role (7 : Nat) (octet ({ src := .pair 1, opcode := 0x0F04, role := .operator, payload := [0, 1, 0, 0] ++ leBytes 4 10 ++ List.replicate 36 0 ++ leBytes 2 4 ++ [0, 0] ++ leBytes 4 1 ++ leBytes 4 7 } : Cmd).data 2)).create 0x0501 7; { z0 with fcr := { z0.fcr with admitted := [], deferred := [] } })))) ({ src := .pair 1, opcode := 0x0F04, role := .operator, payload := [0, 1, 0, 0] ++ leBytes 4 10 ++ List.replicate 36 0 ++ leBytes 2 4 ++ [0, 0] ++ leBytes 4 1 ++ leBytes 4 7 } : Cmd), { src := .pair 1, opcode := 0x0F04, role := .operator, payload := [0, 1, 0, 0] ++ leBytes 4 10 ++ List.replicate 36 0 ++ leBytes 2 4 ++ [0, 0] ++ leBytes 4 1 ++ leBytes 4 7 }, 1, 7, serves_of (by decide +kernel), by decide +kernel⟩,
    ⟨serve (((fun (s : State) => s.setCamp 0 { image := List.replicate 10 3, targets := [(7, (({ held := [0] } : Target) : Target))] }) ((wb).setNat Attr.EndpointCampaign.state 0 2))) ({ src := .pair 1, opcode := 0x0F04, role := .operator, payload := leBytes 1 (0) ++ leBytes 1 (2) } : Cmd), { src := .pair 1, opcode := 0x0F04, role := .operator, payload := leBytes 1 (0) ++ leBytes 1 (2) }, 1, 7, ({ held := [0] } : Target), serves_of (by decide +kernel), by decide +kernel⟩,
    ⟨((fun (s : State) => (onPath s).setCamp 2 { image := List.replicate 10 3, targets := [(7, (({ held := [0] } : Target) : Target))], groups := [(1, 70)] }) ((((wb).setNat Attr.EndpointCampaign.state (2 : Nat) 2).create 0x0210 (1 : Nat)).setNat Attr.CampaignTarget.state (targetInst 2 7) 1)), 2, 0, 1, 70, 7, ({ held := [0] } : Target), by decide +kernel⟩,
    ⟨((fun (s : State) => s.setCamp 2 { image := List.replicate 1000 3, targets := [(7, (({ held := [0] } : Target) : Target))] }) ((wb).setNat Attr.EndpointCampaign.state (2 : Nat) 2)), 2, 7, ({ held := [0] } : Target), by decide +kernel⟩,
    ⟨((fun (s : State) => s.setCamp 2 { image := List.replicate 1000 3, targets := [(7, (({ held := [0] } : Target) : Target))], activateAt := some 50 }) (((wb).setNat Attr.EndpointCampaign.state (2 : Nat) 2).setNat Attr.CampaignTarget.state (targetInst 2 7) 2)), 2, 7, ({ held := [0] } : Target), by decide +kernel⟩,
    ⟨((fun (s : State) => s.setCamp 2 { image := List.replicate 1000 3, targets := [(7, (({ held := [0] } : Target) : Target))], digest := [5] }) (((wb).setNat Attr.EndpointCampaign.state (2 : Nat) 2).setNat Attr.CampaignTarget.state (targetInst 2 7) 2)), 2, 7, ({ held := [0] } : Target), [1], by decide +kernel⟩,
    ⟨((fun (s : State) => s.setCamp 2 { image := List.replicate 1000 3, targets := [(7, (({ held := [0] } : Target) : Target)), (8, (({ held := [0] } : Target) : Target))], digest := [5] }) (((wb).setNat Attr.EndpointCampaign.state (2 : Nat) 2).setNat Attr.CampaignTarget.state (targetInst 2 7) 4)), 2, 7, 8, ({ held := [0] } : Target), ({ held := [0] } : Target), by decide +kernel⟩,
    ⟨((fun (s : State) => s.setCamp 2 { image := List.replicate 1000 3, targets := [(7, (({ held := [0] } : Target) : Target)), (8, (({ held := [0] } : Target) : Target))], digest := [5] }) (((wb).setNat Attr.EndpointCampaign.state (2 : Nat) 2).setNat Attr.CampaignTarget.state (targetInst 2 7) 4)), 2, 7, 8, ({ held := [0] } : Target), ({ held := [0] } : Target), by decide +kernel⟩,
    ⟨((fun (s : State) => s.setCamp 2 { image := List.replicate 1000 3, targets := [(7, (({ held := [0] } : Target) : Target))], digest := [5] }) ((((wb).setNat Attr.EndpointCampaign.state (2 : Nat) 2).setFlag Attr.FenceUnit.fenced (9 * 256 + 0) true).setNat Attr.CampaignTarget.state (targetInst 2 7) 3)), 2, 7, ({ held := [0] } : Target), by decide +kernel⟩⟩

theorem wit_HostQueues :
    (∃ (s : State) (n : Nat), n < 16 ∧ s.hostProduces n = true) ∧
    (∃ (s : State) (n : Nat), n < 16 ∧ s.hostProduces n = false ∧ (s.arr Attr.HardwareQueue.counters n).length = 4) ∧
    (∃ (s : State) (n : Nat), n < 16 ∧ s.hostProduces n = true ∧ (s.queue n).poisoned = false ∧ (s.queue n).high = false ∧ ((s.queue n).words.length + 1) * 100 < s.nat Attr.HardwareQueue.sizeWords n * s.nat Attr.HardwareQueue.highWaterPct n ∧ (s.queue n).words.length < s.nat Attr.HardwareQueue.sizeWords n) ∧
    (∃ (s : State) (n : Nat), n < 16 ∧ s.hostProduces n = true ∧ (s.queue n).poisoned = false ∧ (s.queue n).words.length = s.nat Attr.HardwareQueue.sizeWords n) ∧
    (∃ (s : State) (n : Nat), n < 16 ∧ s.hostProduces n = true ∧ (s.queue n).opened = true ∧ (s.queue n).poisoned = false) ∧
    (∃ (s : State) (n : Nat) (w : QWord), n < 16 ∧ s.hostProduces n = false ∧ (s.queue n).taken = false ∧ (s.queue n).cut = false ∧ (s.queue n).words[(s.queue n).rd]? = some w ∧ w.committed = true) ∧
    (∃ (s : State) (n : Nat), n < 16 ∧ s.hostProduces n = false ∧ (s.queue n).taken = false ∧ (s.queue n).cut = false ∧ (s.queue n).words = [] ∧ (s.arr Attr.HardwareQueue.counters n).length = 4) ∧
    (∃ (s : State) (n : Nat), n < 16 ∧ s.hostProduces n = false ∧ (s.queue n).taken = true) ∧
    (∃ (s : State) (n : Nat), n < 16 ∧ s.hostProduces n = false) ∧
    (∃ (s : State) (n : Nat) (r : Nat) (mid : Bool), n < 16 ∧ s.hostProduces n = false ∧ (s.queue n).mark = some (r, mid)) ∧
    (∃ (s : State) (n : Nat), s.hostProduces n = false ∧ (s.queue n).mark = none) ∧
    (∃ (s : State) (n : Nat), n < 16 ∧ s.hostProduces n = false ∧ s.que.backlog = [] ∧ (s.queue n).high = false ∧ ((s.queue n).words.length - (s.queue n).rd) * 100 < s.nat Attr.HardwareQueue.sizeWords n * s.nat Attr.HardwareQueue.highWaterPct n) ∧
    (∃ (s : State) (n : Nat), n < 16 ∧ s.que.backlog = [] ∧ (s.arr Attr.HardwareQueue.counters n).length = 4) ∧
    (∃ (s : State) (c : Cmd) (n : Nat) (k : Nat), s.Serves c n ∧ c.opcode = 0x1101 ∧ pathInst c.path = k ∧ k < 128 ∧ s.que.backlog = []) :=
  ⟨⟨(wb).setNat Attr.HardwareQueue.hostRole (1 : Nat) 1, 1, by decide +kernel⟩,
    ⟨wb, 1, by decide +kernel⟩,
    ⟨(wb).setNat Attr.HardwareQueue.hostRole (1 : Nat) 1, 1, by decide +kernel⟩,
    ⟨((fun (s : State) => s.setQueue 1 { words := [⟨5, false, false⟩, ⟨6, false, true⟩] }) (((wb).setNat Attr.HardwareQueue.hostRole (1 : Nat) 1).setNat Attr.HardwareQueue.sizeWords 1 2)), 1, by decide +kernel⟩,
    ⟨((fun (s : State) => s.setQueue 1 { words := [⟨5, false, true⟩, ⟨6, false, false⟩], opened := true }) ((wb).setNat Attr.HardwareQueue.hostRole (1 : Nat) 1)), 1, by decide +kernel⟩,
    ⟨((fun (s : State) => s.setQueue 1 { words := [⟨5, false, true⟩, ⟨6, false, false⟩] }) (wb)), 1, ⟨5, false, true⟩, by decide +kernel⟩,
    ⟨wb, 1, by decide +kernel⟩,
    ⟨((fun (s : State) => s.setQueue 1 { words := [⟨5, false, true⟩, ⟨6, false, false⟩], taken := true }) (wb)), 1, by decide +kernel⟩,
    ⟨wb, 1, by decide +kernel⟩,
    ⟨((fun (s : State) => s.setQueue 1 { words := [⟨5, false, true⟩, ⟨6, false, false⟩], mark := some (1, false) }) (wb)), 1, 1, false, by decide +kernel⟩,
    ⟨wb, 1, by decide +kernel⟩,
    ⟨(let z0 : State := wb; { z0 with que := { z0.que with backlog := [] } }), 1, by decide +kernel⟩,
    ⟨(let z0 : State := wb; { z0 with que := { z0.que with backlog := [] } }), 1, by decide +kernel⟩,
    ⟨serve ((let z0 : State := wb; { z0 with que := { z0.que with backlog := [] } })) ({ src := .pair 1, opcode := 0x1101, path := mkPath 0 ((1 : Nat)) 0 } : Cmd), { src := .pair 1, opcode := 0x1101, path := mkPath 0 ((1 : Nat)) 0 }, 1, 1, serves_of (by decide +kernel), by decide +kernel⟩⟩

theorem wit_EventRecorder :
    (∃ (s : State), s.recd.ordinaryIn.length < 64) ∧
    (∃ (s : State), 64 ≤ s.recd.ordinaryIn.length) ∧
    (∃ (s : State), 8 ≤ s.recd.safetyIn.length) ∧
    (∃ (s : State) (e : Event) (es : List Event), s.recd.safetyIn = [] ∧ s.recd.ordinaryIn = e :: es ∧ s.recd.last = none ∧ s.recd.head < 0xFFFFFFFE ∧ s.recd.ring.length < 16384 ∧ s.recd.gapRun = none) ∧
    (∃ (s : State) (e : Event) (es : List Event) (x : Record), s.recd.safetyIn = [] ∧ s.recd.ordinaryIn = e :: es ∧ s.recd.last = some x ∧ x.code = e.code ∧ x.path = e.path ∧ x.args = e.args ∧ x.count < 65535 ∧ s.recd.gapRun = none) ∧
    (∃ (s : State) (e : Event) (y : Event) (es : List Event) (ys : List Event), s.recd.safetyIn = e :: es ∧ s.recd.latched = y :: ys ∧ s.recd.last = none ∧ s.recd.head < 0xFFFFFFFE ∧ s.recd.ring.length < 16384 ∧ s.recd.gapRun = none) ∧
    (∃ (s : State), 0 < s.recd.dropCount ∧ s.recd.ordinaryIn.length < 64 ∧ s.recd.last = none ∧ s.recd.head < 0xFFFFFFFE ∧ s.recd.ring.length < 16384) ∧
    (∃ (s : State), s.mirrorTakes = true ∧ s.recd.remirror = [] ∧ s.recd.gapRun = none ∧ s.recd.mirror.length + (s.recd.ring.filter (fun x => decide (s.recd.mirrored < x.seq))).length ≤ 16777216) ∧
    (∃ (s : State) (x : Record), s.recd.cursor ≤ s.recd.head ∧ s.recd.ring.find? (fun y => y.seq == s.recd.cursor) = some x) ∧
    (∃ (s : State), s.recd.cursor ≤ s.recd.head ∧ (∀ x ∈ s.recd.ring, x.seq ≠ s.recd.cursor)) ∧
    (∃ (s : State), s.recd.head < s.recd.cursor) ∧
    (∃ (s : State) (c : Cmd) (n : Nat), s.Serves c n ∧ c.opcode = 0x1102 ∧ s.sys.mode = .provision ∧ field c.payload 0 4 ≤ s.recd.mirrored ∧ s.recd.last = none ∧ s.recd.head < 0xFFFFFFFE ∧ s.recd.ring.length < 16384) ∧
    (∃ (s : State) (c : Cmd) (n : Nat), s.Serves c n ∧ c.opcode = 0x1102 ∧ s.sys.mode ≠ .provision) :=
  ⟨⟨wb, by decide +kernel⟩,
    ⟨(let z0 : State := wb; { z0 with recd := { z0.recd with ordinaryIn := List.replicate 64 ⟨0x0301, 5, [1]⟩ } }), by decide +kernel⟩,
    ⟨(let z0 : State := wb; { z0 with recd := { z0.recd with safetyIn := List.replicate 8 ⟨0x0301, 5, [1]⟩ } }), by decide +kernel⟩,
    ⟨(let z0 : State := wb; { z0 with recd := { z0.recd with safetyIn := [], ordinaryIn := ((⟨0x0301, 5, [1]⟩ : Event) : Event) :: ([] : List Event), last := none, gapRun := none } }), (⟨0x0301, 5, [1]⟩ : Event), [], by decide +kernel⟩,
    ⟨(let z0 : State := wb; { z0 with recd := { z0.recd with safetyIn := [], ordinaryIn := ((⟨0x0301, 5, [1]⟩ : Event) : Event) :: ([] : List Event), last := some (⟨9, 0x0301, 1, 5, [1], false⟩ : Record), gapRun := none, ring := [(⟨9, 0x0301, 1, 5, [1], false⟩ : Record)] } }), (⟨0x0301, 5, [1]⟩ : Event), [], ⟨9, 0x0301, 1, 5, [1], false⟩, by decide +kernel⟩,
    ⟨(let z0 : State := wb; { z0 with recd := { z0.recd with safetyIn := ((⟨0x0301, 5, [1]⟩ : Event) : Event) :: ([] : List Event), latched := ((⟨0x0302, 5, [1]⟩ : Event) : Event) :: ([] : List Event), last := none, gapRun := none } }), (⟨0x0301, 5, [1]⟩ : Event), (⟨0x0302, 5, [1]⟩ : Event), [], [], by decide +kernel⟩,
    ⟨(let z0 : State := wb; { z0 with recd := { z0.recd with last := none, dropCount := 3 } }), by decide +kernel⟩,
    ⟨(let z0 : State := wb; { z0 with recd := { z0.recd with remirror := [], gapRun := none } }), by decide +kernel⟩,
    ⟨(let z0 : State := wb; { z0 with recd := { z0.recd with ring := [(⟨9, 0x0301, 1, 5, [1], false⟩ : Record)], cursor := 9, head := 12 } }), ⟨9, 0x0301, 1, 5, [1], false⟩, by decide +kernel⟩,
    ⟨wb, by decide +kernel⟩,
    ⟨(let z0 : State := wb; { z0 with recd := { z0.recd with cursor := 9 } }), by decide +kernel⟩,
    ⟨serve ((let z0 : State := wb; { z0 with sys := { z0.sys with mode := .provision }, recd := { z0.recd with last := none } })) ({ src := .pair 1, opcode := 0x1102 } : Cmd), { src := .pair 1, opcode := 0x1102 }, 1, serves_of (by decide +kernel), by decide +kernel⟩,
    ⟨serve (wb) ({ src := .pair 1, opcode := 0x1102 } : Cmd), { src := .pair 1, opcode := 0x1102 }, 1, serves_of (by decide +kernel), by decide +kernel⟩⟩

theorem wit_Registers :
    (∃ (s : State) (n : Nat), n < 64 ∧ s.mbx.pairs.length = 64) ∧
    (∃ (s : State) (n : Nat), n < 64 ∧ s.mbx.pairs.length = 64) ∧
    (∃ (s : State), s.cutOff 18 0 = false) ∧
    (∃ (s : State), s.cutOff 18 0 = false) ∧
    (∃ (s : State) (n : Nat), s.cutOff 18 0 = false ∧ n < 4) ∧
    (∃ (s : State) (n : Nat), s.cutOff 18 0 = false ∧ n < 4) ∧
    (∃ (s : State) (n : Nat), s.cutOff 18 0 = false ∧ n < 4) ∧
    (∃ (s : State) (a : Nat), s.cutOff 18 0 = true ∧ 0x0B00 ≤ a ∧ a < 0x0C00) ∧
    (∃ (n : Nat), n < 16) ∧
    (∃ (s : State) (n : Nat) (r : Nat) (mid : Bool), n < 16 ∧ s.hostProduces n = false ∧ (s.queue n).mark = some (r, mid)) ∧
    (∃ (a : Nat), a ∈ [0x0000, 0x0004, 0x0800, 0x0810, 0x0818, 0x0904, 0x090C, 0x0A00, 0x0A04, 0x0A08, 0x0A14, 0x0A20, 0x0F08, 0x0FFC]) :=
  ⟨⟨wb, 1, by decide +kernel⟩,
    ⟨wb, 1, by decide +kernel⟩,
    ⟨wb, by decide +kernel⟩,
    ⟨wb, by decide +kernel⟩,
    ⟨wb, 1, by decide +kernel⟩,
    ⟨wb, 1, by decide +kernel⟩,
    ⟨wb, 1, by decide +kernel⟩,
    ⟨(wb).setFlag Attr.FenceUnit.fenced (18 * 256 + 0) true, 0x0B00, by decide +kernel⟩,
    ⟨1, by decide +kernel⟩,
    ⟨((fun (s : State) => s.setQueue 1 { words := [⟨5, false, true⟩, ⟨6, false, false⟩], mark := some (1, false) }) (wb)), 1, 1, false, by decide +kernel⟩,
    ⟨0, by decide +kernel⟩⟩

theorem wit_DebugRequests :
    (∃ (s : State) (op : Nat) (seq : Nat) (data : Nat), op ∈ dbgOps ∧ seq < 4 ∧ data < 2 ^ 32 ∧ s.dbg.req = none ∧ ((∀ l, s.dbg.last = some l → l.seq ≠ seq)) ∧ s.opReached op (if op ∈ dbgWrites then data else 0) = true ∧ ((op = 0x10 → data ≠ 0))) ∧
    (∃ (w : Nat), w < 2 ^ 16 ∧ w / 2 ^ 12 = 0xD ∧ chk5 (w / 2 ^ 5 % 2 ^ 7) ≠ w % 2 ^ 5) ∧
    (∃ (op : Nat) (seq : Nat) (data : Nat) (crc : Nat), op ∈ dbgWrites ∧ seq < 4 ∧ data < 2 ^ 32 ∧ crc < 256 ∧ crc ≠ crc8 data) ∧
    (∃ (s : State) (op : Nat) (seq : Nat) (data : Nat) (r : DebugReq), op < 32 ∧ seq < 4 ∧ data < 2 ^ 32 ∧ s.dbg.req = some r) ∧
    (∃ (s : State) (op : Nat) (seq : Nat) (data : Nat) (r : DebugReq), op < 32 ∧ seq < 4 ∧ data < 2 ^ 32 ∧ s.dbg.req = none ∧ s.dbg.last = some r ∧ r.op = op ∧ r.seq = seq ∧ ((op ∈ dbgWrites → r.data = data)) ∧ ((op ∉ dbgWrites → r.data = 0))) ∧
    (∃ (s : State) (op : Nat) (seq : Nat) (data : Nat), op < 32 ∧ op ∉ dbgOps ∧ seq < 4 ∧ data < 2 ^ 32 ∧ s.dbg.req = none ∧ s.dbg.last = none) ∧
    (∃ (s : State) (seq : Nat) (data : Nat), seq < 4 ∧ data < 2 ^ 32 ∧ s.dbg.req = none ∧ s.dbg.last = none ∧ data ≠ 0 ∧ s.sys.lifecycle = .field ∧ s.wider = false) :=
  ⟨⟨(let z0 : State := wb; { z0 with dbg := { z0.dbg with req := none } }), 1, 1, 1, by decide +kernel⟩,
    ⟨0xD01F, by decide +kernel⟩,
    ⟨0x10, 1, 1, 1, by decide +kernel⟩,
    ⟨(let z0 : State := wb; { z0 with dbg := { z0.dbg with req := some (⟨1, 1, 0, 0⟩ : DebugReq) } }), 1, 1, 1, ⟨1, 1, 0, 0⟩, by decide +kernel⟩,
    ⟨(let z0 : State := wb; { z0 with dbg := { z0.dbg with req := none, last := some (⟨1, 1, 0, 0⟩ : DebugReq) } }), 1, 1, 1, ⟨1, 1, 0, 0⟩, by decide +kernel⟩,
    ⟨(let z0 : State := wb; { z0 with dbg := { z0.dbg with req := none, last := none } }), 31, 1, 1, by decide +kernel⟩,
    ⟨(let z0 : State := wb; { z0 with dbg := { z0.dbg with req := none, last := none }, sys := { z0.sys with lifecycle := .field } }), 1, 1, by decide +kernel⟩⟩

theorem wit_DebugAccess :
    (∃ (s : State) (i : Instr) (op : Nat) (v : Nat) (r : DebugReq), (i, op, v) ∈ [(Instr.readId, 1, s.sys.step * 2 ^ 16 + 0x8412), (.readStatus, 2, s.dbgStatus), (.readMode, 3, s.modeStatus), (.readEuiLo, 4, s.sys.eui % 2 ^ 32), (.readEuiHi, 5, s.sys.eui / 2 ^ 32)] ∧ s.dbg.req = some r ∧ r.op = op) ∧
    (∃ (s : State) (r : DebugReq), s.dbg.req = some r ∧ r.data < 2 ^ 32 ∧ r.op = 0x11) ∧
    (∃ (s : State) (r : DebugReq), s.dbg.req = some r ∧ r.data < 2 ^ 32 ∧ r.op = 0x12) ∧
    (∃ (s : State) (r : DebugReq) (n : Nat), s.dbg.req = some r ∧ n < 8 ∧ s.dbg.addr = 0xFFFFFFF000 + 4 * n ∧ s.sys.lifecycle = .factory ∧ r.op = 0x08) ∧
    (∃ (s : State) (r : DebugReq) (n : Nat), s.dbg.req = some r ∧ n < 8 ∧ s.dbg.addr = 0xFFFFFFF000 + 4 * n ∧ s.sys.lifecycle = .factory ∧ r.op = 0x18) ∧
    (∃ (s : State) (r : DebugReq) (i : Instr), s.dbg.req = some r ∧ ((i = .readMem ∧ r.op = 0x08) ∨ (i = .writeMem ∧ r.op = 0x18)) ∧ 0xC00000 ≤ s.dbg.addr ∧ s.dbg.addr < 0x01000000) ∧
    (∃ (s : State) (r : DebugReq) (i : Instr), s.dbg.req = some r ∧ ((i = .readMem ∧ r.op = 0x08) ∨ (i = .writeMem ∧ r.op = 0x18)) ∧ s.dbg.addr < 0xC00000 ∧ s.sys.lifecycle = .field ∧ s.wider = false) ∧
    (∃ (s : State) (r : DebugReq), s.dbg.req = some r ∧ r.op = 0x14 ∧ s.dbg.response.length = 64 ∧ s.sys.lifecycle = .field ∧ s.sys.mode = .provision ∧ s.alive 0x0C20 r.data = true ∧ s.nat Attr.RoleCredential.role r.data = roleIndex .safety) ∧
    (∃ (s : State) (r : DebugReq), s.dbg.req = some r ∧ r.op = 0x14 ∧ (s.sys.lifecycle = .blank ∨ s.sys.lifecycle = .factory ∨ s.sys.lifecycle = .void ∨ s.sys.mode ≠ .provision)) :=
  ⟨⟨(let z0 : State := wb; { z0 with dbg := { z0.dbg with req := some (⟨2, 1, 0, 0⟩ : DebugReq) } }), .readStatus, 2, ((let z0 : State := wb; { z0 with dbg := { z0.dbg with req := some (⟨2, 1, 0, 0⟩ : DebugReq) } }) : State).dbgStatus, ⟨2, 1, 0, 0⟩, by decide +kernel⟩,
    ⟨(let z0 : State := wb; { z0 with dbg := { z0.dbg with req := some (⟨0x11, 1, 0xABCD, 0⟩ : DebugReq) } }), ⟨0x11, 1, 0xABCD, 0⟩, by decide +kernel⟩,
    ⟨(let z0 : State := wb; { z0 with dbg := { z0.dbg with req := some (⟨0x12, 1, 0xABCD, 0⟩ : DebugReq) } }), ⟨0x12, 1, 0xABCD, 0⟩, by decide +kernel⟩,
    ⟨(let z0 : State := wb; { z0 with dbg := { z0.dbg with req := some (⟨0x08, 1, 0, 0⟩ : DebugReq), addr := 0xFFFFFFF000 + 4 * (1 : Nat) }, sys := { z0.sys with lifecycle := .factory } }), ⟨0x08, 1, 0, 0⟩, 1, by decide +kernel⟩,
    ⟨(let z0 : State := wb; { z0 with dbg := { z0.dbg with req := some (⟨0x18, 1, 0xABCD, 0⟩ : DebugReq), addr := 0xFFFFFFF000 + 4 * (1 : Nat) }, sys := { z0.sys with lifecycle := .factory } }), ⟨0x18, 1, 0xABCD, 0⟩, 1, by decide +kernel⟩,
    ⟨(let z0 : State := wb; { z0 with dbg := { z0.dbg with req := some (⟨0x08, 1, 0, 0⟩ : DebugReq), addr := 0xC00000 } }), ⟨0x08, 1, 0, 0⟩, .readMem, by decide +kernel⟩,
    ⟨(let z0 : State := wb; { z0 with dbg := { z0.dbg with req := some (⟨0x18, 1, 0, 0⟩ : DebugReq) }, sys := { z0.sys with lifecycle := .field } }), ⟨0x18, 1, 0, 0⟩, .writeMem, by decide +kernel⟩,
    ⟨(let z0 : State := ((((wb).create 0x0C20 (⟨0x14, 1, 2, 0⟩ : DebugReq).data).setNat Attr.RoleCredential.role (⟨0x14, 1, 2, 0⟩ : DebugReq).data (roleIndex .safety)).create 0x0C20 2).setNat Attr.RoleCredential.role 2 (roleIndex .safety); { z0 with dbg := { z0.dbg with req := some (⟨0x14, 1, 2, 0⟩ : DebugReq), response := List.replicate 64 0 }, sys := { z0.sys with lifecycle := .field, mode := .provision } }), ⟨0x14, 1, 2, 0⟩, by decide +kernel⟩,
    ⟨(let z0 : State := wb; { z0 with dbg := { z0.dbg with req := some (⟨0x14, 1, 2, 0⟩ : DebugReq) } }), ⟨0x14, 1, 2, 0⟩, by decide +kernel⟩⟩

theorem wit_DebugControl :
    (∃ (s : State) (r : DebugReq), s.dbg.req = some r ∧ r.op = 0x10 ∧ r.left = 1 ∧ s.dbg.halted = false) ∧
    (∃ (s : State) (r : DebugReq), s.dbg.req = some r ∧ r.op = 0x10 ∧ r.left = 2) ∧
    (∃ (s : State) (r : DebugReq), s.dbg.req = some r ∧ r.op = 0x10 ∧ r.left = 3 ∧ s.dbg.halted = false) ∧
    (∃ (s : State) (r : DebugReq), s.dbg.req = some r ∧ r.op = 0x10 ∧ r.left = 4 ∧ s.dbg.halted = true) ∧
    (∃ (s : State) (r : DebugReq), s.dbg.req = some r ∧ r.op = 0x10 ∧ r.left = 8) ∧
    (∃ (s : State) (r : DebugReq), s.dbg.req = some r ∧ r.op = 0x10 ∧ r.left = 16) ∧
    (∃ (s : State) (r : DebugReq), s.dbg.req = some r ∧ r.op = 0x10 ∧ r.left = 32 ∧ s.sys.lifecycle = .blank) ∧
    (∃ (s : State) (r : DebugReq), s.dbg.req = some r ∧ r.op = 0x10 ∧ r.left = 64 ∧ s.dbg.otpSlot ≤ 2 ∧ s.dbg.otpValue.length = 32 ∧ s.nat Attr.RootSlot.state s.dbg.otpSlot = 0 ∧ Assoc.find s.dbg.otpSlot s.glv.blown = none) ∧
    (∃ (s : State), s.dbg.halted = true ∧ s.sys.mode ≠ .provision ∧ s.sys.mode ≠ .factory) ∧
    (∃ (s : State) (n : Nat), s.dbg.halted = false ∧ (s.dbg.breaks.getD n 0).testBit 0 = true) ∧
    (∃ (s : State) (n : Nat) (addr : Nat) (w : Bool), s.dbg.halted = false ∧ n < 4 ∧ (s.dbg.watches.getD (3 * n + 2) 0).testBit 0 = true ∧ (s.dbg.watches.getD (3 * n + 2) 0).testBit (if w then 2 else 1) = true ∧ addr &&& s.dbg.watches.getD (3 * n + 1) 0 = s.dbg.watches.getD (3 * n) 0 &&& s.dbg.watches.getD (3 * n + 1) 0) :=
  ⟨⟨(let z0 : State := wb; { z0 with dbg := { z0.dbg with req := some (⟨0x10, 1, 1, 1⟩ : DebugReq), halted := false } }), ⟨0x10, 1, 1, 1⟩, by decide +kernel⟩,
    ⟨(let z0 : State := wb; { z0 with dbg := { z0.dbg with req := some (⟨0x10, 1, 2, 2⟩ : DebugReq) } }), ⟨0x10, 1, 2, 2⟩, by decide +kernel⟩,
    ⟨(let z0 : State := wb; { z0 with dbg := { z0.dbg with req := some (⟨0x10, 1, 3, 3⟩ : DebugReq), halted := false } }), ⟨0x10, 1, 3, 3⟩, by decide +kernel⟩,
    ⟨(let z0 : State := wb; { z0 with dbg := { z0.dbg with req := some (⟨0x10, 1, 4, 4⟩ : DebugReq), halted := true } }), ⟨0x10, 1, 4, 4⟩, by decide +kernel⟩,
    ⟨(let z0 : State := wb; { z0 with dbg := { z0.dbg with req := some (⟨0x10, 1, 8, 8⟩ : DebugReq) } }), ⟨0x10, 1, 8, 8⟩, by decide +kernel⟩,
    ⟨(let z0 : State := wb; { z0 with dbg := { z0.dbg with req := some (⟨0x10, 1, 16, 16⟩ : DebugReq) } }), ⟨0x10, 1, 16, 16⟩, by decide +kernel⟩,
    ⟨(let z0 : State := wb; { z0 with dbg := { z0.dbg with req := some (⟨0x10, 1, 32, 32⟩ : DebugReq) }, sys := { z0.sys with lifecycle := .blank } }), ⟨0x10, 1, 32, 32⟩, by decide +kernel⟩,
    ⟨(let z0 : State := wb; { z0 with dbg := { z0.dbg with req := some (⟨0x10, 1, 64, 64⟩ : DebugReq), otpValue := List.replicate 32 1 } }), ⟨0x10, 1, 64, 64⟩, by decide +kernel⟩,
    ⟨(let z0 : State := wb; { z0 with dbg := { z0.dbg with halted := true } }), by decide +kernel⟩,
    ⟨(let z0 : State := wb; { z0 with dbg := { z0.dbg with halted := false, breaks := [3, 5, 7, 9, 11, 13, 15, 17] } }), 1, by decide +kernel⟩,
    ⟨(let z0 : State := wb; { z0 with dbg := { z0.dbg with halted := false, watches := [4, 0xFF, 7, 4, 0xFF, 7, 4, 0xFF, 7, 4, 0xFF, 7] } }), 1, 4, false, by decide +kernel⟩⟩

theorem wit_StepRunsFront : ∃ (s : State), s.pending = [] :=
  ⟨wb, by decide +kernel⟩

theorem wit_IdleTick : ∃ (s : State), s.pending = [] ∧ s.twn.outbox = [] ∧ s.twn.repOut = [] ∧ s.twn.repDue = [] ∧ s.mbx.peerOut = [] ∧ s.sys.purelRestart = false ∧ s.sys.resetDue = false ∧ s.federated = false :=
  ⟨(let z0 : State := wb; { z0 with twn := { z0.twn with outbox := [], repOut := [], repDue := [] }, mbx := { z0.mbx with peerOut := [] }, sys := { z0.sys with purelRestart := false, resetDue := false } }), by decide +kernel⟩

theorem wit_ResetState : ∃ (n : Nat), n < 64 :=
  ⟨1, by decide +kernel⟩

theorem wit_WholeRules :
    (∃ (s : State) (c : Cmd) (n : Nat) (x : Tlv) (rest : Bytes) (v : Nat), s.Serves c n ∧ c.opcode = opSet ∧ bit c.flags flagIfVersion = false ∧ c.path = mkPath 0x0E02 0 0x01 ∧ parseTlv c.data = some (x, rest) ∧ x.attr = 0x01 ∧ decodeVal .enum x = some (.num v) ∧ v ≤ 3 ∧ s.pairTrial = false ∧ s.sys.settingsGen ≠ 0 ∧ s.sys.mode = .provision) ∧
    (∃ (s : State) (c : Cmd) (n : Nat) (x : Tlv) (rest : Bytes) (v : Nat), s.Serves c n ∧ c.opcode = opSet ∧ bit c.flags flagIfVersion = false ∧ c.path = mkPath 0x0E02 0 0x01 ∧ parseTlv c.data = some (x, rest) ∧ x.attr = 0x01 ∧ decodeVal .enum x = some (.num v) ∧ v ≤ 3 ∧ s.pairTrial = false ∧ s.sys.settingsGen ≠ 0 ∧ s.sys.mode ≠ .provision) ∧
    (∃ (s : State) (n : Nat), 1 ≤ n ∧ n < s.mbx.pairs.length ∧ n < 64 ∧ (s.pair n).inBusy = true) ∧
    (∃ (s : State), s.sys.mode = .factory ∧ s.sys.stalemate = false) ∧
    (∃ (s : State) (c : Cmd) (n : Nat) (i : Instr), s.Serves c n ∧ s.sys.mode = .holdup ∧ (i, c.opcode) ∈ [(Instr.modeRequest, 0x0101), (.castle, 0x0E01)]) :=
  ⟨⟨serve ((let z0 : State := wb; { z0 with sys := { z0.sys with mode := .provision, settingsGen := 1 } })) ({ src := .pair 1, opcode := opSet, payload := [1, 8, 1, 0, 2], path := mkPath 0x0E02 0 0x01 } : Cmd), { src := .pair 1, opcode := opSet, payload := [1, 8, 1, 0, 2], path := mkPath 0x0E02 0 0x01 }, 1, ⟨1, 8, [2]⟩, [], 2, serves_of (by decide +kernel), by decide +kernel⟩,
    ⟨serve ((let z0 : State := wb; { z0 with sys := { z0.sys with settingsGen := 1 } })) ({ src := .pair 1, opcode := opSet, payload := [1, 8, 1, 0, 2], path := mkPath 0x0E02 0 0x01 } : Cmd), { src := .pair 1, opcode := opSet, payload := [1, 8, 1, 0, 2], path := mkPath 0x0E02 0 0x01 }, 1, ⟨1, 8, [2]⟩, [], 2, serves_of (by decide +kernel), by decide +kernel⟩,
    ⟨((fun (s : State) => { s with mbx := { s.mbx with pairs := s.mbx.pairs.set 1 { (s.pair 1) with inBusy := true } } }) (wb)), 1, by decide +kernel⟩,
    ⟨(let z0 : State := wb; { z0 with sys := { z0.sys with mode := .factory, stalemate := false } }), by decide +kernel⟩,
    ⟨serve ((let z0 : State := wb; { z0 with sys := { z0.sys with mode := .holdup } })) ({ src := .pair 1, opcode := 0x0101 } : Cmd), { src := .pair 1, opcode := 0x0101 }, 1, .modeRequest, serves_of (by decide +kernel), by decide +kernel⟩⟩

theorem reset_safe : State.reset.Safe := ⟨by decide +kernel, by decide +kernel, by decide +kernel⟩

theorem wit_SafetyInvariant : ∃ s t : State, s.Safe ∧ s.obj.Canonical ∧ step s = .next t :=
  ⟨State.reset, State.reset.tick, reset_safe, canonical_of (by decide +kernel), rfl⟩

theorem wit_CommandsAnswer : ∃ (i : Instr) (s t : State), s.Safe ∧ s.obj.Canonical ∧ exec i s = .next t :=
  ⟨.lifecycleAckExpiry, State.reset, _, reset_safe, canonical_of (by decide +kernel), rfl⟩

/-! ### Well-formedness: of each command with a checked operand one well-formed term, and for each check a term that it refuses -/

def adm0 : AdmitReq := ⟨5, 99, 0, 0, 0, 0, 72⟩
def flt0 : FaultFact := ⟨16, 0, none, false, false⟩
def rep0 : MeterReport := ⟨7, 5, List.replicate 34 0, [], false⟩
def pol0 : Policy := ⟨true, 1, 1, 1, []⟩

theorem test_wf_1 :
    (Instr.unfence 1 []).wf = true ∧ [Instr.unfence 1 [{ flt0 with source := 15 }], Instr.unfence 1 [{ flt0 with source := 336 }], Instr.unfence 1 [{ flt0 with path := some 4 }]].all (fun x => !x.wf) = true ∧
    (Instr.selfTestDeep 1 []).wf = true ∧ [Instr.selfTestDeep 1 [{ flt0 with source := 15 }]].all (fun x => !x.wf) = true ∧
    (Instr.policyLoad pol0).wf = true ∧ [Instr.policyLoad { pol0 with deny := List.replicate 1025 0 }].all (fun x => !x.wf) = true ∧
    (Instr.inRing 1 none).wf = true ∧ [Instr.inRing (64) none, Instr.inRing 1 (some ⟨List.replicate 4097 0, []⟩)].all (fun x => !x.wf) = true ∧
    (Instr.outDone 1).wf = true ∧ [Instr.outDone (64)].all (fun x => !x.wf) = true ∧
    (Instr.responseWritten 1).wf = true ∧ [Instr.responseWritten (64)].all (fun x => !x.wf) = true ∧
    (Instr.remoteFrame 1 1 [] 1 []).wf = true ∧ [Instr.remoteFrame (16) 1 [] 1 [], Instr.remoteFrame 1 0 [] 1 [], Instr.remoteFrame 1 (8 + 1) [] 1 []].all (fun x => !x.wf) = true ∧
    (Instr.commandComplete 1 .ok).wf = true ∧ [Instr.commandComplete (2 ^ 32) .ok].all (fun x => !x.wf) = true ∧
    (Instr.periodic 1).wf = true ∧ [Instr.periodic (2 ^ 16)].all (fun x => !x.wf) = true ∧
    (Instr.sessionIdleTimeout 1).wf = true ∧ [Instr.sessionIdleTimeout (2 ^ 16)].all (fun x => !x.wf) = true ∧
    (Instr.credentialLockEnd 1).wf = true ∧ [Instr.credentialLockEnd (2 ^ 32)].all (fun x => !x.wf) = true ∧
    (Instr.energizeWindowExpiry 1).wf = true ∧ [Instr.energizeWindowExpiry (2 ^ 32)].all (fun x => !x.wf) = true ∧
    (Instr.resetCtrlPurel 1).wf = true ∧ [Instr.resetCtrlPurel (256)].all (fun x => !x.wf) = true ∧
    (Instr.resetCtrlChip 1).wf = true ∧ [Instr.resetCtrlChip (256)].all (fun x => !x.wf) = true ∧
    (Instr.boot bootFacts).wf = true ∧ [Instr.boot { bootFacts with twinSide := 2 }, Instr.boot { bootFacts with bootSel := 4 }].all (fun x => !x.wf) = true ∧
    (Instr.hostloadChunk 1 1 []).wf = true ∧ [Instr.hostloadChunk (256) 1 []].all (fun x => !x.wf) = true := by
  decide +kernel

theorem test_wf_2 :
    (Instr.hostloadLast 1 1 []).wf = true ∧ [Instr.hostloadLast (256) 1 []].all (fun x => !x.wf) = true ∧
    (Instr.hostloadAbort 1).wf = true ∧ [Instr.hostloadAbort (256)].all (fun x => !x.wf) = true ∧
    (Instr.lineFrameReceived rx0).wf = true ∧ [Instr.lineFrameReceived { rx0 with port := 16 }, Instr.lineFrameReceived { rx0 with lane := 48 }, Instr.lineFrameReceived { rx0 with failed := 9 }, Instr.lineFrameReceived { rx0 with content := ⟨2 ^ 32, true, none, .other []⟩ }, Instr.lineFrameReceived { rx0 with content := ⟨1, true, some 16, .other []⟩ }].all (fun x => !x.wf) = true ∧
    (Instr.ackFrameReceived 1 1 1 1 none).wf = true ∧ [Instr.ackFrameReceived 16 1 1 1 none, Instr.ackFrameReceived 1 (2 ^ 16) 1 1 none, Instr.ackFrameReceived 1 1 (256) 1 none, Instr.ackFrameReceived 1 1 1 1 (some (2 ^ 70))].all (fun x => !x.wf) = true ∧
    (Instr.segmentAckTimeout 1).wf = true ∧ [Instr.segmentAckTimeout 16].all (fun x => !x.wf) = true ∧
    (Instr.partialUnitDiscard 1 1 1 1).wf = true ∧ [Instr.partialUnitDiscard 16 1 1 1, Instr.partialUnitDiscard 1 (2 ^ 16) 1 1, Instr.partialUnitDiscard 1 1 (2 ^ 16) 1, Instr.partialUnitDiscard 1 1 1 (2 ^ 16)].all (fun x => !x.wf) = true ∧
    (Instr.mediumIdle 1 false false).wf = true ∧ [Instr.mediumIdle 16 false false].all (fun x => !x.wf) = true ∧
    (Instr.backoffSlot 1 false false).wf = true ∧ [Instr.backoffSlot 16 false false].all (fun x => !x.wf) = true ∧
    (Instr.collision 1).wf = true ∧ [Instr.collision 16].all (fun x => !x.wf) = true ∧
    (Instr.underrun 1 false).wf = true ∧ [Instr.underrun 16 false].all (fun x => !x.wf) = true ∧
    (Instr.toneMap 1 1 []).wf = true ∧ [Instr.toneMap 1 (2) [], Instr.toneMap 1 1 [⟨0, 0, 0, []⟩]].all (fun x => !x.wf) = true ∧
    (Instr.admitReq adm0).wf = true ∧ [Instr.admitReq { adm0 with cell := 2 ^ 16 }, Instr.admitReq { adm0 with eui := 2 ^ 64 }, Instr.admitReq { adm0 with caps := 256 }, Instr.admitReq { adm0 with longSpan := 256 }, Instr.admitReq { adm0 with streams := 256 }, Instr.admitReq { adm0 with role := 256 }].all (fun x => !x.wf) = true ∧
    (Instr.leaseAck 1 1 1).wf = true ∧ [Instr.leaseAck (2 ^ 16) 1 1, Instr.leaseAck 1 (2 ^ 21) 1].all (fun x => !x.wf) = true ∧
    (Instr.leave 1 1).wf = true ∧ [Instr.leave (2 ^ 16) 1, Instr.leave 1 (2 ^ 64)].all (fun x => !x.wf) = true ∧
    (Instr.addressIdleRelease 1 1).wf = true ∧ [Instr.addressIdleRelease (2 ^ 16) 1, Instr.addressIdleRelease 1 (2 ^ 16)].all (fun x => !x.wf) = true ∧
    (Instr.beaconDue 1 false).wf = true ∧ [Instr.beaconDue (2 ^ 16) false].all (fun x => !x.wf) = true := by
  decide +kernel

theorem test_wf_3 :
    (Instr.beaconRetry 1 false).wf = true ∧ [Instr.beaconRetry (2 ^ 16) false].all (fun x => !x.wf) = true ∧
    (Instr.leaseEpoch 1).wf = true ∧ [Instr.leaseEpoch (2 ^ 16)].all (fun x => !x.wf) = true ∧
    (Instr.beaconFeed 1).wf = true ∧ [Instr.beaconFeed (2 ^ 16)].all (fun x => !x.wf) = true ∧
    (Instr.leaseAckTimeout 1 1).wf = true ∧ [Instr.leaseAckTimeout (2 ^ 16) 1, Instr.leaseAckTimeout 1 (2 ^ 21)].all (fun x => !x.wf) = true ∧
    (Instr.cancelHalf 1 1).wf = true ∧ [Instr.cancelHalf 48 1].all (fun x => !x.wf) = true ∧
    (Instr.cancelFull 1 1 []).wf = true ∧ [Instr.cancelFull 48 1 []].all (fun x => !x.wf) = true ∧
    (Instr.cancelDiverged 1 1).wf = true ∧ [Instr.cancelDiverged 48 1].all (fun x => !x.wf) = true ∧
    (Instr.cancellerTrainingDone 1 1 []).wf = true ∧ [Instr.cancellerTrainingDone 48 1 []].all (fun x => !x.wf) = true ∧
    (Instr.retrainRequest 1).wf = true ∧ [Instr.retrainRequest 48].all (fun x => !x.wf) = true ∧
    (Instr.trackingSound 1).wf = true ∧ [Instr.trackingSound 48].all (fun x => !x.wf) = true ∧
    (Instr.adcClip 1 1 false).wf = true ∧ [Instr.adcClip 48 1 false].all (fun x => !x.wf) = true ∧
    (Instr.impulseLearnt 1 [] []).wf = true ∧ [Instr.impulseLearnt 16 [] [], Instr.impulseLearnt 1 [2 ^ 70] []].all (fun x => !x.wf) = true ∧
    (Instr.zcEdge 1 1).wf = true ∧ [Instr.zcEdge 16 1].all (fun x => !x.wf) = true ∧
    (Instr.zcLost 1).wf = true ∧ [Instr.zcLost 16].all (fun x => !x.wf) = true ∧
    (Instr.zcInvalid 1).wf = true ∧ [Instr.zcInvalid 16].all (fun x => !x.wf) = true ∧
    (Instr.rxSyncLost 1).wf = true ∧ [Instr.rxSyncLost 16].all (fun x => !x.wf) = true := by
  decide +kernel

theorem test_wf_4 :
    (Instr.radioWordLock 1).wf = true ∧ [Instr.radioWordLock 16].all (fun x => !x.wf) = true ∧
    (Instr.radioFrameReceived rr0).wf = true ∧ [Instr.radioFrameReceived { rr0 with port := 16 }, Instr.radioFrameReceived { rr0 with cell := 2 ^ 16 }, Instr.radioFrameReceived { rr0 with short := 2 ^ 16 }, Instr.radioFrameReceived { rr0 with seq := 256 }, Instr.radioFrameReceived { rr0 with key := some (2 ^ 64) }, Instr.radioFrameReceived { rr0 with content := ⟨2 ^ 32, true, none, .other []⟩ }].all (fun x => !x.wf) = true ∧
    (Instr.associationRequest 1 1 1).wf = true ∧ [Instr.associationRequest (2 ^ 16) 1 1, Instr.associationRequest 1 (2 ^ 64) 1].all (fun x => !x.wf) = true ∧
    (Instr.chessClockAdmit 1 false 1 false).wf = true ∧ [Instr.chessClockAdmit 16 false 1 false].all (fun x => !x.wf) = true ∧
    (Instr.radioTxEnd 1 1).wf = true ∧ [Instr.radioTxEnd 16 1].all (fun x => !x.wf) = true ∧
    (Instr.txCut 1 1).wf = true ∧ [Instr.txCut 16 1].all (fun x => !x.wf) = true ∧
    (Instr.radioBeaconDue 1 1 1 false).wf = true ∧ [Instr.radioBeaconDue (2 ^ 16) 1 1 false, Instr.radioBeaconDue 1 (5 + 1) 1 false].all (fun x => !x.wf) = true ∧
    (Instr.learnGuardEnd 1).wf = true ∧ [Instr.learnGuardEnd (2 ^ 21)].all (fun x => !x.wf) = true ∧
    (Instr.bucketDramError 1 none 1 1 1 1 ⟨1, true, none, .other []⟩).wf = true ∧ [Instr.bucketDramError 1 (some (2 ^ 70)) 1 1 1 1 ⟨1, true, none, .other []⟩, Instr.bucketDramError 1 none 1 (2 ^ 16) 1 1 ⟨1, true, none, .other []⟩, Instr.bucketDramError 1 none 1 1 (2 ^ 16) 1 ⟨1, true, none, .other []⟩, Instr.bucketDramError 1 none 1 1 1 1 ⟨2 ^ 32, true, none, .other []⟩, Instr.bucketDramError 1 none 1 1 1 1 ⟨1, true, some 16, .other []⟩].all (fun x => !x.wf) = true ∧
    (Instr.lockWaitTimeout 1).wf = true ∧ [Instr.lockWaitTimeout (2 ^ 32)].all (fun x => !x.wf) = true ∧
    (Instr.scheduleSlot 1).wf = true ∧ [Instr.scheduleSlot (2 ^ 21)].all (fun x => !x.wf) = true ∧
    (Instr.missingDeadline 1 1).wf = true ∧ [Instr.missingDeadline (2 ^ 21) 1].all (fun x => !x.wf) = true ∧
    (Instr.powerRestoreNotice 1).wf = true ∧ [Instr.powerRestoreNotice (2 ^ 21)].all (fun x => !x.wf) = true ∧
    (Instr.restorePollDue 1).wf = true ∧ [Instr.restorePollDue (2 ^ 21)].all (fun x => !x.wf) = true ∧
    (Instr.estimationDue 1 1).wf = true ∧ [Instr.estimationDue (2 ^ 21) 1].all (fun x => !x.wf) = true ∧
    (Instr.engineResume 1).wf = true ∧ [Instr.engineResume 0, Instr.engineResume (20 + 1)].all (fun x => !x.wf) = true := by
  decide +kernel

theorem test_wf_5 :
    (Instr.periodClosed 1).wf = true ∧ [Instr.periodClosed (256)].all (fun x => !x.wf) = true ∧
    (Instr.registerCompare rep0).wf = true ∧ [Instr.registerCompare { rep0 with handle := 2 ^ 21 }, Instr.registerCompare { rep0 with values := [] }].all (fun x => !x.wf) = true ∧
    (Instr.scheduleStep 1).wf = true ∧ [Instr.scheduleStep (64)].all (fun x => !x.wf) = true ∧
    (Instr.holdExpiry 1).wf = true ∧ [Instr.holdExpiry (16384)].all (fun x => !x.wf) = true ∧
    (Instr.lightingRefresh 1).wf = true ∧ [Instr.lightingRefresh (2 ^ 16)].all (fun x => !x.wf) = true ∧
    (Instr.lanternRecord 1 1).wf = true ∧ [Instr.lanternRecord (2 ^ 21) 1].all (fun x => !x.wf) = true ∧
    (Instr.lanternSilent 1).wf = true ∧ [Instr.lanternSilent (2 ^ 21)].all (fun x => !x.wf) = true ∧
    (Instr.safeUnconfirmed 1).wf = true ∧ [Instr.safeUnconfirmed (2 ^ 21)].all (fun x => !x.wf) = true ∧
    (Instr.circuitState 1 1).wf = true ∧ [Instr.circuitState (64) 1, Instr.circuitState 1 (2 + 1)].all (fun x => !x.wf) = true ∧
    (Instr.meaSample 1 []).wf = true ∧ [Instr.meaSample (80) [], Instr.meaSample 1 [8], Instr.meaSample 1 [-9]].all (fun x => !x.wf) = true ∧
    (Instr.metrologyCycle 1).wf = true ∧ [Instr.metrologyCycle (4)].all (fun x => !x.wf) = true ∧
    (Instr.halfCycleTest 1).wf = true ∧ [Instr.halfCycleTest (4)].all (fun x => !x.wf) = true ∧
    (Instr.meaZeroCrossing 1).wf = true ∧ [Instr.meaZeroCrossing 16].all (fun x => !x.wf) = true ∧
    (Instr.beaconKeySwitch 1 false).wf = true ∧ [Instr.beaconKeySwitch (2 ^ 16) false].all (fun x => !x.wf) = true ∧
    (Instr.tamperTrip 1 []).wf = true ∧ [Instr.tamperTrip (10 + 1) []].all (fun x => !x.wf) = true ∧
    (Instr.tamperSourceInactive 1).wf = true ∧ [Instr.tamperSourceInactive (10 + 1)].all (fun x => !x.wf) = true := by
  decide +kernel

theorem test_wf_6 :
    (Instr.ptpSync 1 1 1 false).wf = true ∧ [Instr.ptpSync (2 + 1) 1 1 false].all (fun x => !x.wf) = true ∧
    (Instr.domainLossTimeout 1).wf = true ∧ [Instr.domainLossTimeout (1 + 1)].all (fun x => !x.wf) = true ∧
    (Instr.ptpBridge 1 1 1 1 1 false).wf = true ∧ [Instr.ptpBridge (8) 1 1 1 1 false, Instr.ptpBridge 1 (8) 1 1 1 false].all (fun x => !x.wf) = true ∧
    (Instr.boundaryClockSync 1).wf = true ∧ [Instr.boundaryClockSync (8)].all (fun x => !x.wf) = true ∧
    (Instr.rtcGroupRead 1 0x0B00).wf = true ∧ [Instr.rtcGroupRead 2 0x0B00, Instr.rtcGroupRead 1 2815, Instr.rtcGroupRead 1 (0x0B24 + 1)].all (fun x => !x.wf) = true ∧
    (Instr.rtcYearRead 1).wf = true ∧ [Instr.rtcYearRead 2].all (fun x => !x.wf) = true ∧
    (Instr.shadowStale 1).wf = true ∧ [Instr.shadowStale 2].all (fun x => !x.wf) = true ∧
    (Instr.rtcStagingWrite 1 0x0B00 1).wf = true ∧ [Instr.rtcStagingWrite 2 0x0B00 1, Instr.rtcStagingWrite 1 2815 1, Instr.rtcStagingWrite 1 (0x0B24 + 1) 1, Instr.rtcStagingWrite 1 0x0B00 (2 ^ 32)].all (fun x => !x.wf) = true ∧
    (Instr.timeCommit 1 1).wf = true ∧ [Instr.timeCommit 2 1, Instr.timeCommit 1 (2 ^ 32)].all (fun x => !x.wf) = true ∧
    (Instr.alarmInstantWrite 1 1).wf = true ∧ [Instr.alarmInstantWrite (4) 1, Instr.alarmInstantWrite 1 (2 ^ 32)].all (fun x => !x.wf) = true ∧
    (Instr.castleGapEnd false 1 1).wf = true ∧ [Instr.castleGapEnd false (16) 1, Instr.castleGapEnd false 1 (2 ^ 19)].all (fun x => !x.wf) = true ∧
    (Instr.selfCastle 1).wf = true ∧ [Instr.selfCastle (4)].all (fun x => !x.wf) = true ∧
    (Instr.solo 1).wf = true ∧ [Instr.solo (2 + 1)].all (fun x => !x.wf) = true ∧
    (Instr.healthTest 1).wf = true ∧ [Instr.healthTest (256)].all (fun x => !x.wf) = true ∧
    (Instr.coborRetransmit 1 1).wf = true ∧ [Instr.coborRetransmit (2 ^ 16 + 8) 1, Instr.coborRetransmit 1 (2 ^ 32)].all (fun x => !x.wf) = true ∧
    (Instr.coborAckDue 1).wf = true ∧ [Instr.coborAckDue (2 ^ 16 + 8)].all (fun x => !x.wf) = true := by
  decide +kernel

theorem test_wf_7 :
    (Instr.linkRekey 1).wf = true ∧ [Instr.linkRekey (2 ^ 16 + 8)].all (fun x => !x.wf) = true ∧
    (Instr.advertise m0 false).wf = true ∧ [Instr.advertise { m0 with link := 2 ^ 16 + 8 } false, Instr.advertise { m0 with side := 2 } false, Instr.advertise { m0 with seq := 2 ^ 32 } false, Instr.advertise { m0 with acked := 2 ^ 32 } false].all (fun x => !x.wf) = true ∧
    (Instr.keyAgree m0).wf = true ∧ [Instr.keyAgree { m0 with link := 2 ^ 16 + 8 }].all (fun x => !x.wf) = true ∧
    (Instr.heartbeat m0 1).wf = true ∧ [Instr.heartbeat { m0 with link := 2 ^ 16 + 8 } 1].all (fun x => !x.wf) = true ∧
    (Instr.ack m0).wf = true ∧ [Instr.ack { m0 with link := 2 ^ 16 + 8 }].all (fun x => !x.wf) = true ∧
    (Instr.mirror m0).wf = true ∧ [Instr.mirror { m0 with link := 2 ^ 16 + 8 }].all (fun x => !x.wf) = true ∧
    (Instr.mirrorConfirm m0).wf = true ∧ [Instr.mirrorConfirm { m0 with link := 2 ^ 16 + 8 }].all (fun x => !x.wf) = true ∧
    (Instr.replica m0).wf = true ∧ [Instr.replica { m0 with link := 2 ^ 16 + 8 }].all (fun x => !x.wf) = true ∧
    (Instr.replicaConfirm m0).wf = true ∧ [Instr.replicaConfirm { m0 with link := 2 ^ 16 + 8 }].all (fun x => !x.wf) = true ∧
    (Instr.replicaWaitTimeout 1).wf = true ∧ [Instr.replicaWaitTimeout (2 ^ 21)].all (fun x => !x.wf) = true ∧
    (Instr.join m0).wf = true ∧ [Instr.join { m0 with link := 2 ^ 16 + 8 }].all (fun x => !x.wf) = true ∧
    (Instr.propose m0).wf = true ∧ [Instr.propose { m0 with link := 2 ^ 16 + 8 }].all (fun x => !x.wf) = true ∧
    (Instr.vote m0).wf = true ∧ [Instr.vote { m0 with link := 2 ^ 16 + 8 }].all (fun x => !x.wf) = true ∧
    (Instr.suspect m0).wf = true ∧ [Instr.suspect { m0 with link := 2 ^ 16 + 8 }].all (fun x => !x.wf) = true ∧
    (Instr.memberTimeout 1).wf = true ∧ [Instr.memberTimeout (2 ^ 16)].all (fun x => !x.wf) = true ∧
    (Instr.migrated 1 []).wf = true ∧ [Instr.migrated (2 ^ 16) [], Instr.migrated 1 [⟨2 ^ 16, 0, 0, 0⟩], Instr.migrated 1 [⟨0, 16, 0, 0⟩], Instr.migrated 1 [⟨0, 0, 0, 2 ^ 64⟩]].all (fun x => !x.wf) = true := by
  decide +kernel

theorem test_wf_8 :
    (Instr.balanceSums m0).wf = true ∧ [Instr.balanceSums { m0 with link := 2 ^ 16 + 8 }].all (fun x => !x.wf) = true ∧
    (Instr.resyncOffer m0).wf = true ∧ [Instr.resyncOffer { m0 with link := 2 ^ 16 + 8 }].all (fun x => !x.wf) = true ∧
    (Instr.resyncRequest m0).wf = true ∧ [Instr.resyncRequest { m0 with link := 2 ^ 16 + 8 }].all (fun x => !x.wf) = true ∧
    (Instr.segment m0).wf = true ∧ [Instr.segment { m0 with link := 2 ^ 16 + 8 }].all (fun x => !x.wf) = true ∧
    (Instr.castleMessage m0).wf = true ∧ [Instr.castleMessage { m0 with link := 2 ^ 16 + 8 }].all (fun x => !x.wf) = true ∧
    (Instr.castleResult m0).wf = true ∧ [Instr.castleResult { m0 with link := 2 ^ 16 + 8 }].all (fun x => !x.wf) = true ∧
    (Instr.peerMailbox m0).wf = true ∧ [Instr.peerMailbox { m0 with link := 2 ^ 16 + 8 }].all (fun x => !x.wf) = true ∧
    (Instr.campaignBlock 1 1 1 none).wf = true ∧ [Instr.campaignBlock (8) 1 1 none, Instr.campaignBlock 1 (8192) 1 none, Instr.campaignBlock 1 1 (2 ^ 16) none].all (fun x => !x.wf) = true ∧
    (Instr.campaignTargetReport 1 1 (.held [])).wf = true ∧ [Instr.campaignTargetReport (8) 1 (.held []), Instr.campaignTargetReport 1 (2 ^ 21) (.held []), Instr.campaignTargetReport 1 1 (.held [8192]), Instr.campaignTargetReport 1 1 (.digest []), Instr.campaignTargetReport 1 1 (.running [])].all (fun x => !x.wf) = true ∧
    (Instr.campaignNoProgress 1 1).wf = true ∧ [Instr.campaignNoProgress (8) 1, Instr.campaignNoProgress 1 (2 ^ 21)].all (fun x => !x.wf) = true ∧
    (Instr.campaignActivationDue 1).wf = true ∧ [Instr.campaignActivationDue (8)].all (fun x => !x.wf) = true ∧
    (Instr.faultReport []).wf = true ∧ [Instr.faultReport [{ flt0 with source := 15 }]].all (fun x => !x.wf) = true ∧
    (Instr.countWindowEnd 16).wf = true ∧ [Instr.countWindowEnd 336, Instr.countWindowEnd 15].all (fun x => !x.wf) = true ∧
    (Instr.blockResetDone 8 1 1 []).wf = true ∧ [Instr.blockResetDone 3 1 1 [], Instr.blockResetDone (19 + 1) 1 1 [], Instr.blockResetDone 8 (256) 1 [], Instr.blockResetDone 8 1 1 [{ flt0 with source := 15 }]].all (fun x => !x.wf) = true ∧
    (Instr.activityEnd 1 1 1).wf = true ∧ [Instr.activityEnd 0 1 1, Instr.activityEnd (11 + 1) 1 1].all (fun x => !x.wf) = true ∧
    (Instr.deferredDrop 1 1).wf = true ∧ [Instr.deferredDrop (2 ^ 32) 1, Instr.deferredDrop 1 0, Instr.deferredDrop 1 (11 + 1)].all (fun x => !x.wf) = true := by
  decide +kernel

theorem test_wf_9 :
    (Instr.latchedWrite 16 false).wf = true ∧ [Instr.latchedWrite 336 false, Instr.latchedWrite 15 false].all (fun x => !x.wf) = true ∧
    (Instr.qhDataLoRead 1).wf = true ∧ [Instr.qhDataLoRead (16)].all (fun x => !x.wf) = true ∧
    (Instr.qhDataHiRead 1).wf = true ∧ [Instr.qhDataHiRead (16)].all (fun x => !x.wf) = true ∧
    (Instr.qhDataLoWrite 1 1).wf = true ∧ [Instr.qhDataLoWrite (16) 1, Instr.qhDataLoWrite 1 (2 ^ 32)].all (fun x => !x.wf) = true ∧
    (Instr.qhDataHiWrite 1 1).wf = true ∧ [Instr.qhDataHiWrite (16) 1, Instr.qhDataHiWrite 1 (2 ^ 32)].all (fun x => !x.wf) = true ∧
    (Instr.close 1).wf = true ∧ [Instr.close (16)].all (fun x => !x.wf) = true ∧
    (Instr.mark 1).wf = true ∧ [Instr.mark (16)].all (fun x => !x.wf) = true ∧
    (Instr.rewind 1).wf = true ∧ [Instr.rewind (16)].all (fun x => !x.wf) = true ∧
    (Instr.release 1).wf = true ∧ [Instr.release (16)].all (fun x => !x.wf) = true ∧
    (Instr.flush 1).wf = true ∧ [Instr.flush (16)].all (fun x => !x.wf) = true ∧
    (Instr.eventArrival false 1 1 []).wf = true ∧ [Instr.eventArrival false (2 ^ 16) 1 [], Instr.eventArrival false 1 (2 ^ 64) []].all (fun x => !x.wf) = true ∧
    (Instr.registerWrite 4 1).wf = true ∧ [Instr.registerWrite (2 ^ 16) 1, Instr.registerWrite 2 1, Instr.registerWrite 4 (2 ^ 32)].all (fun x => !x.wf) = true ∧
    (Instr.debugRequest 1 1 1).wf = true ∧ [Instr.debugRequest (2 ^ 16) 1 1, Instr.debugRequest 1 (2 ^ 32) 1, Instr.debugRequest 1 1 (256)].all (fun x => !x.wf) = true ∧
    (Instr.debugBreak false 1 1 false).wf = true ∧ [Instr.debugBreak false 8 1 false].all (fun x => !x.wf) = true ∧
    (Instr.serialFrameReceived 1 1 ⟨1, true, none, .other []⟩).wf = true ∧ [Instr.serialFrameReceived 16 1 ⟨1, true, none, .other []⟩, Instr.serialFrameReceived 1 (2 ^ 64) ⟨1, true, none, .other []⟩, Instr.serialFrameReceived 1 1 ⟨2 ^ 32, true, none, .other []⟩].all (fun x => !x.wf) = true := by
  decide +kernel

/-! ### Single steps and values against the worked examples of spec/ -/

/-- 02_purel_mailboxes.md, worked example: the path of `EndpointProfile` 70,001. -/
theorem test_object_path : mkPath 0x0501 70001 0 = 0x0501000001117100 := by decide +kernel
/-- 08_collection_validation.md, worked example: the slot of handle 70,001 is 299 s after the hour. -/
theorem test_slot_of_70001 : wb.slotDelay 70001 = 299 := by decide +kernel
/-- 08_collection_validation.md, worked example: day 11,392 is 11 March 2031. -/
theorem test_day_11392 : civil 11392 = (2031, 3, 11) := by decide +kernel
/-- 08_collection_validation.md, Table 08-14: the 32 octets of the record of interval 1,093,670. -/
theorem test_record_octets :
    recBytes 70001 1093670 ⟨0, 0, [312, 0, 54, 0, 23147, absentVal, absentVal, absentVal]⟩ =
      [0x00, 0x88, 0x8B, 0x08, 0x26, 0xB0, 0x10, 0x00, 0x38, 0x01, 0x00, 0x00, 0x00, 0x00, 0x36, 0x00, 0x00, 0x00, 0x00, 0x00, 0x6B, 0x5A, 0x00, 0xFF, 0xFF, 0xFF,
       0xFF, 0xFF, 0xFF, 0xFF, 0xFF, 0xFF] := by decide +kernel
/-- 08_collection_validation.md, worked example: SUSPECT makes word 0 read 0x088B_8808. -/
theorem test_suspect_word : field (recBytes 70001 1093671 ⟨0, qSuspect, []⟩) 0 4 = 0x088B8808 := by decide +kernel
/-- 19_queues_recorder.md, worked example: the flush of queue 0 answers 3 items and 66 words. -/
theorem test_flush_counts :
    let item := fun (n : Nat) (done : Bool) => (List.range n).map (fun k => QWord.mk k (done && k + 1 == n) done)
    let q : QueueState := { words := item 40 true ++ item 20 true ++ item 6 false, rd := 10, mid := true, opened := true }
    (q.flush.1, q.flush.2.1, q.flush.2.2.words.length, q.flush.2.2.poisoned, q.flush.2.2.cut) = (3, 66, 0, true, true) := by decide +kernel
/-- 20_balls_electrical_debug.md, Table 20-13: the first stepping answers READ_ID with 0x0100_8412. -/
theorem test_read_id :
    (match exec .readId { State.reset with dbg := { State.reset.dbg with req := some ⟨1, 1, 0, 0⟩ } } with | .next t => t.dbg.out | _ => none) = some 0x01008412 := by
  decide +kernel
/-- 02_purel_mailboxes.md R38: a ring on a busy pair is lost. -/
theorem test_ring_lost :
    (match exec (.inRing 2 none) (wb.setPair 2 { wb.pair 2 with inBusy := true }) with | .next t => ((t.pair 2).ringLost, t.mbx.taken) | _ => (false, [])) =
      (true, []) := by decide +kernel
/-- The front command leaves the queue and the rest waits. -/
theorem test_queue_front_first :
    (match step { State.reset with pending := [.qhDataLoWrite 3 7, .errPulseEnd] } with | .next t => t.pending | _ => []) = [.errPulseEnd] := by decide +kernel
/-- The block's table gives no row any bits: no word spells a command. -/
theorem test_no_word_spells_a_command : decodeTableWord 16 0x8412 = none := by decide

end Sys2Proof.Tests
end

section
/-! The chip's identity and mode as PCIe and Purel read them (R2, R3, R101): one lemma for each register or attribute that names them. -/

namespace Sys2Proof

/-- The low 4 bits of a register hold the mode: Table 03-7 has no greater code than 15. -/
theorem Mode.code_lt (m : Mode) : m.code < 16 := by
  cases m <;> decide

namespace Machine

@[simp] theorem State.register_idPart (s : State) : s.register 0x0000 = 0x8412 := rfl

@[simp] theorem State.register_modeStatus (s : State) : s.register 0x0800 = s.modeStatus := rfl

/-- Field MODE of MODE_STATUS (Table 03-11): every other field starts at bit 4 or above. -/
theorem State.modeStatus_mod_16 (s : State) : s.modeStatus % 16 = s.sys.mode.code := by
  have hmode := s.sys.mode.code_lt
  unfold State.modeStatus
  omega

@[simp] theorem State.read_orderingCode (s : State) (i : Nat) : s.read Attr.SystemIdentity.orderingCode i = .num s.sys.order.code := rfl

@[simp] theorem State.read_mode (s : State) (i : Nat) : s.read Attr.SystemMode.mode i = .num s.sys.mode.code := rfl

/-- Settles O58: the registers read what the lemmas above say, and the codes are those of Tables 00-2 and 03-7. -/
theorem chipIdentity : Obligations.ChipIdentity := by
  intro s
  refine ⟨s.register_idPart, ?orderingCode, ?modeStatus, ?mode⟩
  case orderingCode =>
    rw [s.read_orderingCode]
    cases s.sys.order <;> rfl
  case modeStatus =>
    rw [s.register_modeStatus, s.modeStatus_mod_16]
    cases s.sys.mode <;> rfl
  case mode =>
    rw [s.read_mode]
    cases s.sys.mode <;> rfl

end Machine

end Sys2Proof
end

section
/-! The rules of refusal, each whole (R25, R38, R106, R107): first what a shared operation does (a served command whose body changes nothing, a SET that passes its checks, a write of one pair),
then the rules, each from the lemma about the one body or row it speaks of. -/

namespace Sys2Proof.Machine

variable {s : State} {c : Cmd} {n : Nat}

/-! ### A command that changes nothing -/

/-- A served command whose body leaves the state as it is changes the mailboxes alone: its answer stands in the pair's buffer. -/
theorem State.Serves.completes_unchanged {b : Body} {op : Nat} {r : Reply} (h : s.Serves c n) (ho : c.opcode = op) (hb : b c s.pop = (r, s.pop)) (hd : r.data.length ≤ 4064) :
    Completes (runOpcode op b s) (fun t => Answered s t c n r.status r.data ∧ SameBut [.mbx] s t) := by
  refine ⟨s.pop.finish c r, ?next, h.answered poised_pop hd, ?same⟩
  case next => rw [h.run ho, hb]
  case same => simp [SameBut]

/-! ### SET of `posture` (R25) -/

/-- A SET without IF_VERSION whose TLV has the right type and range, while the pair runs no trial: what the chapter's check of the setting says decides. -/
theorem doSet_of_fits {t : AttrInfo} {x : Tlv} {rest : Bytes} {v : Val} (hv : bit c.flags flagIfVersion = false) (ht : attrInfo (pathCls c.path, pathAttr c.path) = some t)
    (hx : parseTlv c.data = some (x, rest)) (ha : x.attr = pathAttr c.path) (hd : decodeVal t.ty x = some v) (hr : inRange (t.lo, t.hi) v = true) (htrial : s.pairTrial = false) :
    doSet c s = (s.setStatus (pathCls c.path, pathAttr c.path) (pathInst c.path) v).elim (⟨.ok, []⟩, s.doSetting c.path v) (fun st => (⟨st, []⟩, s)) := by
  unfold doSet
  simp only [hv, ht, hx, hd, hr, htrial, Bool.false_eq_true, false_and, if_false]
  cases s.setStatus (pathCls c.path, pathAttr c.path) (pathInst c.path) v <;> simp [ha]

@[simp] theorem State.pop_pairTrial (s : State) : s.pop.pairTrial = s.pairTrial := rfl

theorem State.setStatus_posture (i : Nat) (k : Int) : s.setStatus Attr.ServicePosture.posture i (.num k) = refuseIf (s.sys.mode != .provision) .refused := rfl

theorem State.applySet_posture (i : Nat) (v : Val) :
    s.applySet Attr.ServicePosture.posture i v =
      { s.setAttr Attr.ServicePosture.posture i v with sys := { (s.setAttr Attr.ServicePosture.posture i v).sys with postureWritten := true } }.refreshProvision := rfl

/-- R656: a setting outside the opening book needs no new generation. -/
theorem State.openBook_of_generation (path : Nat) (h : s.sys.settingsGen ≠ 0) : s.openBook path = s := by
  simp [State.openBook, h]

@[simp] theorem State.postSetting_sys {p : Nat} : (s.postSetting p).sys = s.sys := by unfold State.postSetting; split <;> simp
@[simp] theorem State.postSetting_obj {p : Nat} : (s.postSetting p).obj = s.obj := by unfold State.postSetting; split <;> simp
@[simp] theorem State.postSetting_mbx {p : Nat} : (s.postSetting p).mbx = s.mbx := by unfold State.postSetting; split <;> simp

/-- A setting takes effect as `applySet` says; that it travels to the standby adds nothing to the areas SYS, MBX and the object store. -/
theorem State.doSetting_areas (path : Nat) (v : Val) (h : s.sys.settingsGen ≠ 0) :
    let u := s.applySet (pathCls path, pathAttr path) (pathInst path) v
    (s.doSetting path v).sys = u.sys ∧ (s.doSetting path v).obj = u.obj ∧ (s.doSetting path v).mbx = u.mbx := by
  unfold State.doSetting
  rw [s.openBook_of_generation path h]
  dsimp only
  split <;> simp

/-- What publishing `provision_state` leaves: the posture written before it. -/
theorem State.nat_posture_refreshProvision : s.refreshProvision.nat Attr.ServicePosture.posture 0 = s.nat Attr.ServicePosture.posture 0 :=
  State.nat_setNat_ne (by decide)

/-- R25: the posture that is set is written, and the chip has had its posture written. -/
theorem State.applySet_posture_effect (v : Nat) :
    (s.applySet Attr.ServicePosture.posture 0 (.num v)).nat Attr.ServicePosture.posture 0 = v ∧ (s.applySet Attr.ServicePosture.posture 0 (.num v)).sys.postureWritten = true := by
  rw [s.applySet_posture]
  refine ⟨?posture, ?written⟩
  case posture =>
    rw [State.nat_posture_refreshProvision]
    exact (State.nat_congr rfl _ _).trans (s.nat_setNat (v := v))
  case written => simp [State.refreshProvision]

theorem Poised.applySet_posture {u : State} {v : Val} (h : Poised s u) : Poised s (u.applySet Attr.ServicePosture.posture 0 v) := by
  rw [u.applySet_posture]
  exact Poised.setAttr ((h.setAttr (a := Attr.ServicePosture.posture) (i := 0) (v := v)).of_mbx rfl)

/-- A SET of `posture` to one of its four values, without IF_VERSION (R25, R63). -/
structure Cmd.SetsPosture (c : Cmd) (v : Nat) : Prop where
  opcode : c.opcode = opSet
  plain : bit c.flags flagIfVersion = false
  path : c.path = mkPath 0x0E02 0 0x01
  tlv : ∃ x rest, parseTlv c.data = some (x, rest) ∧ x.attr = 0x01 ∧ decodeVal .enum x = some (.num v)
  range : v ≤ 3

/-- R25: a SET of `posture` is executed in PROVISION and refused outside it. -/
theorem Cmd.SetsPosture.doSet_eq {v : Nat} (h : c.SetsPosture v) (htrial : s.pairTrial = false) :
    doSet c s = if s.sys.mode = .provision then (⟨.ok, []⟩, s.doSetting c.path (.num v)) else (⟨.refused, []⟩, s) := by
  obtain ⟨x, rest, hx, ha, hd⟩ := h.tlv
  have hcls : pathCls c.path = 0x0E02 := by rw [h.path]; rfl
  have hatt : pathAttr c.path = 0x01 := by rw [h.path]; rfl
  have hinfo : attrInfo (pathCls c.path, pathAttr c.path) = some ⟨0x01, .enum, true, .num 0, 0, 3⟩ := by rw [hcls, hatt]; rfl
  have hrange : inRange ((0 : Int), (3 : Int)) (.num v) = true := by
    have := h.range
    simp [inRange]
    omega
  rw [doSet_of_fits h.plain hinfo hx (ha.trans hatt.symm) hd hrange htrial, hcls, hatt, s.setStatus_posture]
  by_cases hmode : s.sys.mode = .provision <;> simp [hmode, refuseIf]

/-- R25 in PROVISION: the SET is executed. -/
theorem State.Serves.setPosture_provision {v : Nat} (h : s.Serves c n) (hset : c.SetsPosture v) (htrial : s.pairTrial = false) (hgen : s.sys.settingsGen ≠ 0)
    (hmode : s.sys.mode = .provision) : Completes (exec .set s) (fun t => Answered s t c n .ok [] ∧ t.nat (0x0E02, 0x01) 0 = v ∧ t.sys.postureWritten = true) := by
  have hbody : doSet c s.pop = (⟨.ok, []⟩, s.pop.doSetting (mkPath 0x0E02 0 0x01) (.num v)) := by
    rw [hset.doSet_eq (s.pop_pairTrial.trans htrial), hset.path]
    exact if_pos hmode
  have hrun : exec .set s = .next ((s.pop.doSetting (mkPath 0x0E02 0 0x01) (.num v)).finish c ⟨.ok, []⟩) := by
    rw [show exec .set s = runOpcode opSet doSet s from rfl, h.run hset.opcode, hbody]
  obtain ⟨hsys, hobj, hmbx⟩ := s.pop.doSetting_areas (mkPath 0x0E02 0 0x01) (.num v) hgen
  obtain ⟨hposture, hwritten⟩ := s.pop.applySet_posture_effect v
  refine ⟨_, hrun, h.answered (poised_pop.applySet_posture.of_mbx hmbx) (Nat.zero_le _), ?posture, ?written⟩
  case posture => exact (State.nat_congr (State.finish_obj.trans hobj) _ _).trans hposture
  case written => rw [State.finish_sys, hsys]; exact hwritten

/-- R25 in any other mode: the SET is refused. -/
theorem State.Serves.setPosture_refused {v : Nat} (h : s.Serves c n) (hset : c.SetsPosture v) (htrial : s.pairTrial = false) (hmode : s.sys.mode ≠ .provision) :
    Completes (exec .set s) (fun t => Answered s t c n .refused [] ∧ SameBut [.mbx] s t) := by
  have hbody : doSet c s.pop = (⟨.refused, []⟩, s.pop) := by
    rw [hset.doSet_eq (s.pop_pairTrial.trans htrial)]
    exact if_neg hmode
  exact h.completes_unchanged hset.opcode hbody (Nat.zero_le _)

/-! ### IN_RING on a busy pair (R38) -/

theorem State.pair_setPair_same {p : Pair} (h : n < s.mbx.pairs.length) : (s.setPair n p).pair n = p := by
  simp [State.pair, State.setPair, h]

theorem State.pair_setPair_ne {p : Pair} {m : Nat} (h : m ≠ n) : (s.setPair n p).pair m = s.pair m := by
  simp [State.pair, State.setPair, List.getElem?_set_ne (Ne.symm h)]

theorem execInRing_busy {w : Option BufWrite} (hpos : 1 ≤ n) (hlt : n < 64) (hbusy : (s.pair n).inBusy = true) :
    execInRing n w s = .next (s.setPair n { s.pair n with ringLost := true }) := by
  have hn : ¬ (n = 0 ∨ 64 ≤ n) := by omega
  simp [execInRing, hn, hbusy]

/-! ### PFI_N in FACTORY (R106) -/

theorem execPfiAssert_factory {ws : List MediaWrite} (hmode : s.sys.mode = .factory) (hstale : s.sys.stalemate = false) :
    execPfiAssert ws s = .next ({ s with sys := { s.sys with pfi := true } }.raise 0x0105 (objPath 0x0102 0) [0]) := by
  simp [execPfiAssert, hmode, hstale, Mode.code]

/-! ### MODE_REQUEST and CASTLE in HOLDUP (R107) -/

theorem doModeRequest_holdup (hmode : s.sys.mode = .holdup) : doModeRequest c s = (⟨.refused, []⟩, s) := by
  simp [doModeRequest, hmode]

theorem doCastle_holdup (hmode : s.sys.mode = .holdup) : doCastle c s = (⟨.refused, []⟩, s) := by
  simp [doCastle, hmode]

/-- Settles O59: each rule from what the lemmas above say of its body or row. -/
theorem wholeRules : Obligations.WholeRules := by
  refine ⟨?setPosture, ?ring, ?pfi, ?holdup⟩
  case setPosture =>
    intro s c n x rest v h ho hv hpath hx ha hd hr htrial hgen
    have hset : c.SetsPosture v := ⟨ho, hv, hpath, ⟨x, rest, hx, ha, hd⟩, hr⟩
    exact ⟨h.setPosture_provision hset htrial hgen, h.setPosture_refused hset htrial⟩
  case ring =>
    intro s n w hpos hlen hlt hbusy
    exact ⟨_, execInRing_busy hpos hlt hbusy, State.pair_setPair_same hlen, fun _ hm => State.pair_setPair_ne hm, rfl⟩
  case pfi =>
    intro s ws hmode hstale
    exact ⟨_, execPfiAssert_factory hmode hstale, rfl, rfl, by simp [SameBut]⟩
  case holdup =>
    intro s c n i h hmode hi
    have hpop : s.pop.sys.mode = .holdup := hmode
    rcases List.mem_pair.1 hi with hi | hi <;> obtain ⟨rfl, ho⟩ := Prod.mk.inj hi
    · exact h.completes_unchanged ho (doModeRequest_holdup hpop) (Nat.zero_le _)
    · exact h.completes_unchanged ho (doCastle_holdup hpop) (Nat.zero_le _)

end Sys2Proof.Machine
end

section
/-! Every step (R2, R3, R30, R56, R109, R110): a command always has a next state, which keeps what `Kept` names. -/

namespace Sys2Proof.Machine

open Sys2Proof.Laws

theorem completes_next {s : State} : Completes (.next s) (fun _ => True) := ⟨s, rfl, trivial⟩

theorem Completes.ite {p : State → Prop} {c : Prop} [Decidable c] {a b : Out} (ha : Completes a p) (hb : Completes b p) : Completes (if c then a else b) p := by
  split <;> assumption

theorem runOpcode_completes {op : Nat} {b : Body} {s : State} : Completes (runOpcode op b s) (fun _ => True) := by
  unfold runOpcode
  repeat' split
  all_goals exact ⟨_, rfl, trivial⟩

theorem runMethod_completes {cls m : Nat} {b : Body} {s : State} : Completes (runMethod cls m b s) (fun _ => True) := by
  unfold runMethod
  repeat' split
  all_goals exact ⟨_, rfl, trivial⟩

/-- Whatever branch a command's meaning takes, it ends in a next state: an opcode or a method runs through `runOpcode` or `runMethod`, some rows have one branch, and
of the others each branch is looked at. -/
theorem exec_completes (i : Instr) (s : State) : Completes (exec i s) (fun _ => True) := by
  unfold exec
  cases i
  case get | set | action | list | subscribe | unsubscribe | batch | sessionChallenge | sessionOpen | sessionClose | sessionBindPair |
    sessionKeepalive | energizeConfirm | modeRequest | cancellerRetrain | cellForm | shortAddressRelease | bandProfileLoad | tableRebuild | pollNow |
    downlinkSend | supplyConnect | supplyDisconnect | revalidate | intervalEdit | calendarLoad | calendarActivate | snapshotNow | groupDefine |
    membershipApply | levelOverride | circuitEnergize | firLoad | profileRead | gcBoost | keyRotate | attest | tamperAck | lifecycleAdvance | timeStep
    | rtcRecalibrate | castle | federationJoin | federationLeave | rebalance | imageStage | imageActivate | imageConfirm | campaignStart | fence |
    unfence | selfTestDeep | faultInject | queueFlush | recorderClear => exact runOpcode_completes
  case isolate | rootProgram | rootDestroy | tamperConfigure | credentialAdd | credentialRemove | pair | imageChunk | policyLoad => exact runMethod_completes
  case outDone | resetN | powerOnReset | supplyMonitorReset | backupDomainReset | powerWarning | segmentAckTimeout | partialUnitDiscard | cancelHalf |
    cancelDiverged | adcClip | impulseLearnt | zcEdge | zcInvalid | radioWordLock | ledgerBucketEnd | bucketDramError | lookupUnresolved |
    changeRecordApply | engineResume | billingBoundary | lightingRefresh | journalProgram | journalConfirm | checkpoint | mediaReserve |
    tamperSourceInactive | tamperAckExpiry | lifecycleAckExpiry | leapSecondSmear | timeAnchor | rtcSecond | vbatSwitch | vbatMeasure | claimGateLapse
    | advertise | keyAgree | heartbeat | heartbeatSend | ack | mirror | mirrorConfirm | replica | replicaConfirm | join | propose | vote | suspect |
    balanceSums | resyncOffer | resyncRequest | segment | castleMessage | castleResult | peerMailbox | settingsUnreadable | confirmTimeout |
    faultReport | errPulseEnd | guardDiagnostics | configMismatch | nestedError | latchedWrite | close | mark | rewind | release | flush |
    eventArrival | recorderMirror | recWindowSnapshot | recWindowAdvance | registerWrite | debugResync | readId | readStatus | readMode | readEuiLo |
    readEuiHi | otpProgram | lcAdvance | guardHalt | resetReq | step | resume | halt | unlockLapse | serialFrameReceived => exact ⟨_, rfl, trivial⟩
  all_goals
    dsimp -zeta only
    delta execTableDma execInRing execResponseWritten execRemoteFrame execCommandComplete execNotificationDeliver execPeriodic execSessionIdleTimeout
      execCredentialLockEnd execEnergizeWindowExpiry execResetCtrlPurel execResetCtrlChip execBoot execHostloadChunk execHostloadLast
      execHostloadAbort execHostloadChunkTaken execDipRecovered execPfiAssert execHoldupDone execPfiRelease execHoldupReturn execIslandEntry
      execIslandExit execStalemateTimer execLineFrameReceived execFirmwareParseDone execRecordCommitConfirmed execCommitStall execAckFrameReceived
      execMediumIdle execBackoffSlot execCollision execUnderrun execToneMap execToneMapAge execAdmitReq execLeaseAck execLeave execAddressIdleRelease
      execBeaconDue execBeaconRetry execLeaseEpoch execBeaconFeed execLeaseAckTimeout execCancelFull execCancellerTrainingDone execRetrainRequest
      execTrackingSound execZcLost execRxSyncLost execRadioFrameReceived execAssociationRequest execChessClockAdmit execRadioTxEnd execTxCut
      execRadioBeaconDue execLearningCommit execLearnGuardEnd execAgingVisit execShadowCompare execLockTimeout execLockWaitTimeout
      execTableRebuildDone execScheduleSlot execMissingDeadline execRequestTimeout execPowerRestoreNotice execRestorePollDue execEstimationDue
      execValRecheck execRecordBooking execPeriodClosed execRegisterCompare execBalanceEvaluate execDailyRun execProposalExpiry
      execBalanceSumsDeadline execTrafficEvent execScheduleStep execHoldExpiry execOverrideExpiry execMulticastRepeat execLuxSelfTest
      execLanternRecord execLanternSilent execSafeUnconfirmed execCircuitState execMeaSample execMetrologyCycle execHalfCycleTest execMeaZeroCrossing
      execHeadRecord execFilterChanged execDayFold execDeltaMerge execGarbageCollect execGcCopyRestart execWearLevel execBlockRefresh execBlockRetired
      execMediaRepair execRetentionRelease execWriteSpaceExhausted execEndOfLife execBeaconKeySwitch execTrngFault execTamperTrip execPtpSync
      execDomainLossTimeout execDomainRevert execAutoStep execPtpBridge execBoundaryClockSync execRtcAlign execRtcGroupRead execRtcYearRead
      execShadowStale execRtcStagingWrite execTimeCommit execAlarmInstantWrite execTcompSample execOscStopped execClaimInChange execBootClaimDelay
      execCastleGapEnd execSelfCastle execCastleDrainDone execSolo execTwinResync execHealthTest execPairLinkDown execCoborRetransmit execCoborAckDue
      execLinkRekey execReplicaWaitTimeout execMembershipVoteTimeout execMemberTimeout execMigrated execHandover execCampaignBlock
      execCampaignTargetReport execCampaignNoProgress execCampaignActivationDue execCountWindowEnd execBlockResetDone execActivityEnd execDeferredDrop
      execQhDataLoRead execQhDataHiRead execQhDataLoWrite execQhDataHiWrite execRecordCommitted execOverflow execDebugRequest execReadMem execWriteMem
      execWriteAddr execWriteAddrHi execUnlock execDebugBreak execPairLinkIdleMessage execBalanceSumsSend
    repeat' (first
      | with_reducible exact completes_next
      | with_reducible refine Completes.ite ?_ ?_
      | (try lift_lets -underBinder); intro _
      | split)

variable {k : (OrderCode × Nat × Nat) × List Instr} {s : State}

/-- Each command keeps the identification, the queue, what STALEMATE holds and the store's form. -/
theorem exec_kept (i : Instr) (h : Kept k s) : KeptOut k (exec i s) := by
  unfold exec
  cases i with
  | get => exact execGet_kept h
  | set => exact execSet_kept h
  | action => exact execAction_kept h
  | list => exact execList_kept h
  | subscribe => exact execSubscribe_kept h
  | unsubscribe => exact execUnsubscribe_kept h
  | batch => exact execBatch_kept h
  | sessionChallenge => exact execSessionChallenge_kept h
  | sessionOpen => exact execSessionOpen_kept h
  | sessionClose => exact execSessionClose_kept h
  | sessionBindPair => exact execSessionBindPair_kept h
  | sessionKeepalive => exact execSessionKeepalive_kept h
  | energizeConfirm _ _ => exact execEnergizeConfirm_kept h
  | modeRequest => exact execModeRequest_kept h
  | cancellerRetrain => exact execCancellerRetrain_kept h
  | cellForm => exact execCellForm_kept h
  | shortAddressRelease => exact execShortAddressRelease_kept h
  | bandProfileLoad => exact execBandProfileLoad_kept h
  | tableDma _ _ => exact execTableDma_kept h
  | tableRebuild _ => exact execTableRebuild_kept h
  | pollNow => exact execPollNow_kept h
  | downlinkSend => exact execDownlinkSend_kept h
  | supplyConnect => exact execSupplyConnect_kept h
  | supplyDisconnect => exact execSupplyDisconnect_kept h
  | revalidate => exact execRevalidate_kept h
  | intervalEdit => exact execIntervalEdit_kept h
  | calendarLoad => exact execCalendarLoad_kept h
  | calendarActivate => exact execCalendarActivate_kept h
  | snapshotNow => exact execSnapshotNow_kept h
  | groupDefine => exact execGroupDefine_kept h
  | membershipApply => exact execMembershipApply_kept h
  | levelOverride => exact execLevelOverride_kept h
  | circuitEnergize => exact execCircuitEnergize_kept h
  | isolate => exact execIsolate_kept h
  | firLoad => exact execFirLoad_kept h
  | profileRead => exact execProfileRead_kept h
  | gcBoost => exact execGcBoost_kept h
  | keyRotate => exact execKeyRotate_kept h
  | attest => exact execAttest_kept h
  | tamperAck => exact execTamperAck_kept h
  | lifecycleAdvance => exact execLifecycleAdvance_kept h
  | rootProgram => exact execRootProgram_kept h
  | rootDestroy => exact execRootDestroy_kept h
  | tamperConfigure => exact execTamperConfigure_kept h
  | credentialAdd => exact execCredentialAdd_kept h
  | credentialRemove => exact execCredentialRemove_kept h
  | timeStep => exact execTimeStep_kept h
  | rtcRecalibrate => exact execRtcRecalibrate_kept h
  | castle => exact execCastle_kept h
  | pair => exact execPair_kept h
  | federationJoin => exact execFederationJoin_kept h
  | federationLeave => exact execFederationLeave_kept h
  | rebalance => exact execRebalance_kept h
  | imageStage => exact execImageStage_kept h
  | imageActivate => exact execImageActivate_kept h
  | imageConfirm _ => exact execImageConfirm_kept h
  | imageChunk => exact execImageChunk_kept h
  | campaignStart _ => exact execCampaignStart_kept h
  | fence => exact execFence_kept h
  | unfence _ _ => exact execUnfence_kept h
  | selfTestDeep _ _ => exact execSelfTestDeep_kept h
  | faultInject => exact execFaultInject_kept h
  | policyLoad _ => exact execPolicyLoad_kept h
  | queueFlush => exact execQueueFlush_kept h
  | recorderClear => exact execRecorderClear_kept h
  | inRing _ _ => exact execInRing_kept h
  | outDone _ => exact execOutDone_kept h
  | responseWritten _ => exact execResponseWritten_kept h
  | remoteFrame _ _ _ _ _ => exact execRemoteFrame_kept h
  | commandComplete _ _ => exact execCommandComplete_kept h
  | notificationDeliver => exact execNotificationDeliver_kept h
  | periodic _ => exact execPeriodic_kept h
  | sessionIdleTimeout _ => exact execSessionIdleTimeout_kept h
  | credentialLockEnd _ => exact execCredentialLockEnd_kept h
  | energizeWindowExpiry _ => exact execEnergizeWindowExpiry_kept h
  | resetCtrlPurel _ => exact execResetCtrlPurel_kept h
  | resetCtrlChip _ => exact execResetCtrlChip_kept h
  | resetN => exact execResetN_kept h
  | powerOnReset => exact execPowerOnReset_kept h
  | supplyMonitorReset _ => exact execSupplyMonitorReset_kept h
  | backupDomainReset => exact execBackupDomainReset_kept h
  | boot _ => exact execBoot_kept h
  | hostloadChunk _ _ _ => exact execHostloadChunk_kept h
  | hostloadLast _ _ _ => exact execHostloadLast_kept h
  | hostloadAbort _ => exact execHostloadAbort_kept h
  | hostloadChunkTaken => exact execHostloadChunkTaken_kept h
  | powerWarning _ _ _ => exact execPowerWarning_kept h
  | dipRecovered _ => exact execDipRecovered_kept h
  | pfiAssert _ => exact execPfiAssert_kept h
  | holdupDone _ _ => exact execHoldupDone_kept h
  | pfiRelease => exact execPfiRelease_kept h
  | holdupReturn _ => exact execHoldupReturn_kept h
  | islandEntry => exact execIslandEntry_kept h
  | islandExit => exact execIslandExit_kept h
  | stalemateTimer => exact execStalemateTimer_kept h
  | lineFrameReceived _ => exact execLineFrameReceived_kept h
  | firmwareParseDone _ => exact execFirmwareParseDone_kept h
  | recordCommitConfirmed _ => exact execRecordCommitConfirmed_kept h
  | commitStall _ => exact execCommitStall_kept h
  | ackFrameReceived _ _ _ _ _ => exact execAckFrameReceived_kept h
  | segmentAckTimeout _ => exact execSegmentAckTimeout_kept h
  | partialUnitDiscard _ _ _ _ => exact execPartialUnitDiscard_kept h
  | mediumIdle _ _ _ => exact execMediumIdle_kept h
  | backoffSlot _ _ _ => exact execBackoffSlot_kept h
  | collision _ => exact execCollision_kept h
  | underrun _ _ => exact execUnderrun_kept h
  | toneMap _ _ _ => exact execToneMap_kept h
  | toneMapAge _ _ _ => exact execToneMapAge_kept h
  | admitReq _ => exact execAdmitReq_kept h
  | leaseAck _ _ _ => exact execLeaseAck_kept h
  | leave _ _ => exact execLeave_kept h
  | addressIdleRelease _ _ => exact execAddressIdleRelease_kept h
  | beaconDue _ _ => exact execBeaconDue_kept h
  | beaconRetry _ _ => exact execBeaconRetry_kept h
  | leaseEpoch _ => exact execLeaseEpoch_kept h
  | beaconFeed _ => exact execBeaconFeed_kept h
  | leaseAckTimeout _ _ => exact execLeaseAckTimeout_kept h
  | cancelHalf _ _ => exact execCancelHalf_kept h
  | cancelFull _ _ _ => exact execCancelFull_kept h
  | cancelDiverged _ _ => exact execCancelDiverged_kept h
  | cancellerTrainingDone _ _ _ => exact execCancellerTrainingDone_kept h
  | retrainRequest _ => exact execRetrainRequest_kept h
  | trackingSound _ => exact execTrackingSound_kept h
  | adcClip _ _ _ => exact execAdcClip_kept h
  | impulseLearnt _ _ _ => exact execImpulseLearnt_kept h
  | zcEdge _ _ => exact execZcEdge_kept h
  | zcLost _ => exact execZcLost_kept h
  | zcInvalid _ => exact execZcInvalid_kept h
  | rxSyncLost _ => exact execRxSyncLost_kept h
  | radioWordLock _ => exact execRadioWordLock_kept h
  | radioFrameReceived _ => exact execRadioFrameReceived_kept h
  | associationRequest _ _ _ => exact execAssociationRequest_kept h
  | chessClockAdmit _ _ _ _ => exact execChessClockAdmit_kept h
  | radioTxEnd _ _ => exact execRadioTxEnd_kept h
  | txCut _ _ => exact execTxCut_kept h
  | ledgerBucketEnd _ => exact execLedgerBucketEnd_kept h
  | radioBeaconDue _ _ _ _ => exact execRadioBeaconDue_kept h
  | learningCommit => exact execLearningCommit_kept h
  | learnGuardEnd _ => exact execLearnGuardEnd_kept h
  | agingVisit _ _ => exact execAgingVisit_kept h
  | shadowCompare _ _ => exact execShadowCompare_kept h
  | bucketDramError _ _ _ _ _ _ _ => exact execBucketDramError_kept h
  | lookupUnresolved => exact execLookupUnresolved_kept h
  | lockTimeout _ => exact execLockTimeout_kept h
  | lockWaitTimeout _ => exact execLockWaitTimeout_kept h
  | tableRebuildDone => exact execTableRebuildDone_kept h
  | changeRecordApply => exact execChangeRecordApply_kept h
  | scheduleSlot _ => exact execScheduleSlot_kept h
  | missingDeadline _ _ => exact execMissingDeadline_kept h
  | requestTimeout _ => exact execRequestTimeout_kept h
  | powerRestoreNotice _ => exact execPowerRestoreNotice_kept h
  | restorePollDue _ => exact execRestorePollDue_kept h
  | estimationDue _ _ => exact execEstimationDue_kept h
  | valRecheck => exact execValRecheck_kept h
  | engineResume _ => exact execEngineResume_kept h
  | recordBooking => exact execRecordBooking_kept h
  | billingBoundary => exact execBillingBoundary_kept h
  | periodClosed _ => exact execPeriodClosed_kept h
  | registerCompare _ => exact execRegisterCompare_kept h
  | balanceEvaluate _ _ => exact execBalanceEvaluate_kept h
  | dailyRun => exact execDailyRun_kept h
  | proposalExpiry _ => exact execProposalExpiry_kept h
  | balanceSumsDeadline _ _ => exact execBalanceSumsDeadline_kept h
  | trafficEvent => exact execTrafficEvent_kept h
  | scheduleStep _ => exact execScheduleStep_kept h
  | holdExpiry _ => exact execHoldExpiry_kept h
  | overrideExpiry _ _ => exact execOverrideExpiry_kept h
  | multicastRepeat => exact execMulticastRepeat_kept h
  | lightingRefresh _ => exact execLightingRefresh_kept h
  | luxSelfTest _ => exact execLuxSelfTest_kept h
  | lanternRecord _ _ => exact execLanternRecord_kept h
  | lanternSilent _ => exact execLanternSilent_kept h
  | safeUnconfirmed _ => exact execSafeUnconfirmed_kept h
  | circuitState _ _ => exact execCircuitState_kept h
  | meaSample _ _ => exact execMeaSample_kept h
  | metrologyCycle _ => exact execMetrologyCycle_kept h
  | halfCycleTest _ => exact execHalfCycleTest_kept h
  | meaZeroCrossing _ => exact execMeaZeroCrossing_kept h
  | headRecord => exact execHeadRecord_kept h
  | filterChanged => exact execFilterChanged_kept h
  | journalProgram _ => exact execJournalProgram_kept h
  | journalConfirm => exact execJournalConfirm_kept h
  | dayFold _ _ _ => exact execDayFold_kept h
  | deltaMerge _ _ _ => exact execDeltaMerge_kept h
  | checkpoint _ => exact execCheckpoint_kept h
  | garbageCollect _ => exact execGarbageCollect_kept h
  | gcCopyRestart _ _ _ => exact execGcCopyRestart_kept h
  | wearLevel _ _ => exact execWearLevel_kept h
  | blockRefresh _ _ _ _ _ _ _ => exact execBlockRefresh_kept h
  | blockRetired _ _ _ => exact execBlockRetired_kept h
  | mediaRepair _ _ _ _ _ => exact execMediaRepair_kept h
  | mediaReserve => exact execMediaReserve_kept h
  | retentionRelease _ _ => exact execRetentionRelease_kept h
  | writeSpaceExhausted _ _ _ _ _ => exact execWriteSpaceExhausted_kept h
  | endOfLife => exact execEndOfLife_kept h
  | beaconKeySwitch _ _ => exact execBeaconKeySwitch_kept h
  | trngFault _ => exact execTrngFault_kept h
  | tamperTrip _ _ => exact execTamperTrip_kept h
  | tamperSourceInactive _ => exact execTamperSourceInactive_kept h
  | tamperAckExpiry => exact execTamperAckExpiry_kept h
  | lifecycleAckExpiry => exact execLifecycleAckExpiry_kept h
  | ptpSync _ _ _ _ => exact execPtpSync_kept h
  | domainLossTimeout _ => exact execDomainLossTimeout_kept h
  | domainRevert => exact execDomainRevert_kept h
  | autoStep => exact execAutoStep_kept h
  | ptpBridge _ _ _ _ _ _ => exact execPtpBridge_kept h
  | boundaryClockSync _ => exact execBoundaryClockSync_kept h
  | leapSecondSmear _ => exact execLeapSecondSmear_kept h
  | timeAnchor => exact execTimeAnchor_kept h
  | rtcAlign => exact execRtcAlign_kept h
  | rtcSecond => exact execRtcSecond_kept h
  | rtcGroupRead _ _ => exact execRtcGroupRead_kept h
  | rtcYearRead _ => exact execRtcYearRead_kept h
  | shadowStale _ => exact execShadowStale_kept h
  | rtcStagingWrite _ _ _ => exact execRtcStagingWrite_kept h
  | timeCommit _ _ => exact execTimeCommit_kept h
  | alarmInstantWrite _ _ => exact execAlarmInstantWrite_kept h
  | tcompSample _ => exact execTcompSample_kept h
  | oscStopped => exact execOscStopped_kept h
  | vbatSwitch _ => exact execVbatSwitch_kept h
  | vbatMeasure _ => exact execVbatMeasure_kept h
  | claimInChange _ _ _ => exact execClaimInChange_kept h
  | bootClaimDelay => exact execBootClaimDelay_kept h
  | castleGapEnd _ _ _ => exact execCastleGapEnd_kept h
  | claimGateLapse => exact execClaimGateLapse_kept h
  | selfCastle _ => exact execSelfCastle_kept h
  | castleDrainDone => exact execCastleDrainDone_kept h
  | solo _ => exact execSolo_kept h
  | twinResync => exact execTwinResync_kept h
  | healthTest _ => exact execHealthTest_kept h
  | pairLinkDown => exact execPairLinkDown_kept h
  | coborRetransmit _ _ => exact execCoborRetransmit_kept h
  | coborAckDue _ => exact execCoborAckDue_kept h
  | linkRekey _ => exact execLinkRekey_kept h
  | advertise _ _ => exact execAdvertise_kept h
  | keyAgree _ => exact execKeyAgree_kept h
  | heartbeat _ _ => exact execHeartbeat_kept h
  | heartbeatSend => exact execHeartbeatSend_kept h
  | ack _ => exact execAck_kept h
  | mirror _ => exact execMirror_kept h
  | mirrorConfirm _ => exact execMirrorConfirm_kept h
  | replica _ => exact execReplica_kept h
  | replicaConfirm _ => exact execReplicaConfirm_kept h
  | replicaWaitTimeout _ => exact execReplicaWaitTimeout_kept h
  | join _ => exact execJoin_kept h
  | propose _ => exact execPropose_kept h
  | vote _ => exact execVote_kept h
  | membershipVoteTimeout _ _ => exact execMembershipVoteTimeout_kept h
  | suspect _ => exact execSuspect_kept h
  | memberTimeout _ => exact execMemberTimeout_kept h
  | migrated _ _ => exact execMigrated_kept h
  | balanceSums _ => exact execBalanceSums_kept h
  | resyncOffer _ => exact execResyncOffer_kept h
  | resyncRequest _ => exact execResyncRequest_kept h
  | segment _ => exact execSegment_kept h
  | castleMessage _ => exact execCastleMessage_kept h
  | castleResult _ => exact execCastleResult_kept h
  | peerMailbox _ => exact execPeerMailbox_kept h
  | handover _ _ _ => exact execHandover_kept h
  | settingsUnreadable => exact execSettingsUnreadable_kept h
  | confirmTimeout => exact execConfirmTimeout_kept h
  | campaignBlock _ _ _ _ => exact execCampaignBlock_kept h
  | campaignTargetReport _ _ _ => exact execCampaignTargetReport_kept h
  | campaignNoProgress _ _ => exact execCampaignNoProgress_kept h
  | campaignActivationDue _ => exact execCampaignActivationDue_kept h
  | faultReport _ => exact execFaultReport_kept h
  | countWindowEnd _ => exact execCountWindowEnd_kept h
  | blockResetDone _ _ _ _ => exact execBlockResetDone_kept h
  | errPulseEnd => exact execErrPulseEnd_kept h
  | guardDiagnostics _ => exact execGuardDiagnostics_kept h
  | configMismatch => exact execConfigMismatch_kept h
  | nestedError => exact execNestedError_kept h
  | activityEnd _ _ _ => exact execActivityEnd_kept h
  | deferredDrop _ _ => exact execDeferredDrop_kept h
  | latchedWrite _ _ => exact execLatchedWrite_kept h
  | qhDataLoRead _ => exact execQhDataLoRead_kept h
  | qhDataHiRead _ => exact execQhDataHiRead_kept h
  | qhDataLoWrite _ _ => exact execQhDataLoWrite_kept h
  | qhDataHiWrite _ _ => exact execQhDataHiWrite_kept h
  | close _ => exact execClose_kept h
  | mark _ => exact execMark_kept h
  | rewind _ => exact execRewind_kept h
  | release _ => exact execRelease_kept h
  | flush _ => exact execFlush_kept h
  | eventArrival _ _ _ _ => exact execEventArrival_kept h
  | recordCommitted => exact execRecordCommitted_kept h
  | overflow => exact execOverflow_kept h
  | recorderMirror => exact execRecorderMirror_kept h
  | recWindowSnapshot => exact execRecWindowSnapshot_kept h
  | recWindowAdvance => exact execRecWindowAdvance_kept h
  | registerWrite _ _ => exact execRegisterWrite_kept h
  | debugRequest _ _ _ => exact execDebugRequest_kept h
  | debugResync => exact execDebugResync_kept h
  | readId => exact execReadId_kept h
  | readStatus => exact execReadStatus_kept h
  | readMode => exact execReadMode_kept h
  | readEuiLo => exact execReadEuiLo_kept h
  | readEuiHi => exact execReadEuiHi_kept h
  | readMem => exact execReadMem_kept h
  | writeMem => exact execWriteMem_kept h
  | writeAddr => exact execWriteAddr_kept h
  | writeAddrHi => exact execWriteAddrHi_kept h
  | unlock => exact execUnlock_kept h
  | otpProgram => exact execOtpProgram_kept h
  | lcAdvance => exact execLcAdvance_kept h
  | guardHalt => exact execGuardHalt_kept h
  | resetReq => exact execResetReq_kept h
  | step => exact execStep_kept h
  | resume => exact execResume_kept h
  | halt => exact execHalt_kept h
  | debugBreak _ _ _ _ => exact execDebugBreak_kept h
  | unlockLapse => exact execUnlockLapse_kept h
  | serialFrameReceived _ _ _ => exact execSerialFrameReceived_kept h
  | pairLinkIdleMessage => exact execPairLinkIdleMessage_kept h
  | balanceSumsSend _ _ => exact execBalanceSumsSend_kept h

theorem Kept.of_safe {q : List Instr} (hsafe : s.Safe) (hobj : s.obj.Canonical) : Kept (s.fused, q) { s with pending := q } :=
  ⟨rfl, ⟨hsafe.enables, hsafe.claim, hsafe.held⟩, hobj⟩

/-- A step keeps what its command keeps: the front one on the rest of the queue, or the tick of an empty queue. -/
theorem step_kept {t : State} (hsafe : s.Safe) (hobj : s.obj.Canonical) (hstep : step s = .next t) : Kept (s.fused, s.pending.tail) t := by
  unfold step at hstep
  split at hstep
  next hpending =>
    cases hstep
    have h : Kept (s.fused, s.pending.tail) s := ⟨by rw [hpending]; rfl, hsafe, hobj⟩
    exact State_tick_kept h
  next i rest hpending =>
    rw [hpending]
    exact (exec_kept i (Kept.of_safe hsafe hobj)).next' t hstep

/-- Settles O55: a case of `step_kept`, which the operations of the machine keep one by one (Laws/Kept). -/
theorem safetyInvariant : Obligations.SafetyInvariant := by
  intro s t hsafe hobj hstep
  have h := step_kept hsafe hobj hstep
  exact ⟨h.safe, h.canonical, (Prod.mk.inj h.fixed).1⟩

/-- Settles O56: no meaning ends in a fault or a refusal, and each leaves the queue to `step`. -/
theorem commandsAnswer : Obligations.CommandsAnswer := by
  refine ⟨exec_completes, ?pending⟩
  case pending =>
    intro i s t hsafe hobj ht
    have h := (exec_kept i ⟨rfl, hsafe, hobj⟩).next' t ht
    exact (Prod.mk.inj h.fixed).2

/-- Settles O52: the two branches of `step`. -/
theorem stepRunsFront : Obligations.StepRunsFront := by
  refine ⟨fun i rest s => rfl, ?idle⟩
  case idle =>
    intro s hpending
    simp [step, hpending]

/-- Settles O54. -/
theorem resetInvariant : Obligations.ResetInvariant :=
  ⟨⟨by decide +kernel, by decide +kernel, by decide +kernel⟩, ⟨by decide +kernel, by decide +kernel, by decide +kernel⟩⟩

end Sys2Proof.Machine
end

section
/-! The idle step and the state at reset (log 3, log 4, log 11). -/

namespace Sys2Proof.Machine

variable {s : State}

/-! ### The idle step: each stage after TIM's has nothing to do -/

theorem State.flushPair_of_empty (h : s.twn.outbox = []) : s.flushPair = s := by
  simp [State.flushPair, h]

theorem State.flushConfirms_of_empty (h : s.twn.repDue = []) : s.flushConfirms = s := by
  unfold State.flushConfirms
  simp only [h, List.filter_nil, List.foldl_nil]
  rw [← h]

theorem State.flushMirror_of_empty (ho : s.twn.outbox = []) (hr : s.twn.repOut = []) (hd : s.twn.repDue = []) : s.flushMirror = s := by
  have hs : { s with twn := { s.twn with repOut := [] } } = s := by rw [← hr]
  simp only [State.flushMirror, s.flushPair_of_empty ho, hr, List.foldl_nil]
  exact (congrArg State.flushConfirms hs).trans (s.flushConfirms_of_empty hd)

theorem State.flushPeers_of_empty (h : s.mbx.peerOut = []) : s.flushPeers = s := by
  unfold State.flushPeers
  rw [h, List.foldl_nil, ← h]

theorem State.leftWhenDrained_of_alone (h : s.federated = false) : s.leftWhenDrained = s := by
  simp [State.leftWhenDrained, h]

theorem State.purelAgain_of_running (h : s.sys.purelRestart = false) : s.purelAgain = s := by
  simp [State.purelAgain, h]

theorem State.dueReset_of_none (h : s.sys.resetDue = false) : s.dueReset = s := by
  simp [State.dueReset, h]

/-- Settles O53: the tick is TIM's alone, since every other stage of it finds nothing. -/
theorem idleTick : Obligations.IdleTick := by
  intro s hpending hout hrep hdue hpeer hrestart hreset hfed
  have htick : s.tick = s.tickTime := by
    unfold State.tick
    rw [s.tickTime.flushMirror_of_empty hout hrep hdue, s.tickTime.flushPeers_of_empty hpeer, s.tickTime.leftWhenDrained_of_alone hfed,
      s.tickTime.purelAgain_of_running hrestart, s.tickTime.dueReset_of_none hreset]
  refine ⟨s.tickTime, ?next, rfl, rfl, ?same⟩
  case next => rw [stepRunsFront.2 s hpending, htick]
  case same => simp [SameBut, State.tickTime]

/-! ### The state at reset -/

/-- A mailbox pair has its registers at 16 octets from the next one's (Tables 02-1 to 02-3). -/
theorem State.register_pair {n k : Nat} (hn : n < 64) (hk : k < 16) :
    s.register (0x0100 + k + 16 * n) =
      if k = 0 then (s.pair n).inReg else if k = 4 then (s.pair n).outReg else if k = 8 then (s.pair n).irqReg else 0 := by
  have hglobal : ¬ (0x0100 + k + 16 * n < 0x0100 ∨ (0x0500 ≤ 0x0100 + k + 16 * n ∧ 0x0100 + k + 16 * n < 0x0800)) := by omega
  have hpairs : 0x0100 + k + 16 * n < 0x0500 := by omega
  have hpair : (0x0100 + k + 16 * n - 0x0100) / 16 = n := by omega
  have hoffset : (0x0100 + k + 16 * n) % 16 = k := by omega
  unfold State.register
  rw [if_neg hglobal, if_pos hpairs, hpair, hoffset]

theorem State.pair_reset {n : Nat} (h : n < 64) : State.reset.pair n = { vector := n } := by
  simp [State.pair, State.reset, h]

/-- Settles O57: the areas at their reset values; a pair's registers by `register_pair`. -/
theorem resetState : Obligations.ResetState := by
  refine ⟨rfl, by decide +kernel, rfl, rfl, rfl, rfl, rfl, rfl, ?pairs, by decide +kernel, rfl, by decide +kernel, by decide +kernel, rfl⟩
  case pairs =>
    intro n hn
    have hvector : n % 2 ^ 6 = n := Nat.mod_eq_of_lt hn
    have hreg := fun k hk => State.register_pair (s := State.reset) (k := k) hn hk
    rw [State.pair_reset hn] at hreg
    refine ⟨hreg 0 (by decide), hreg 4 (by decide), (hreg 8 (by decide)).trans ?vector⟩
    show fieldAt n 6 0 + flagAt false 8 = n
    rw [fieldAt, hvector, pow_zero, mul_one]
    rfl

end Sys2Proof.Machine
end

section
/-! What a command leaves: `SameBut` composes, and an answer changes of the mailboxes only what carries responses (R39, R55).

The side conditions of this layer are closed and small. Their default proofs borrow `by decide` of Mathlib's `Nat.toPNat` and `by omega` of core's
`Nat.dfold`: a default tactic of this text is ready only when all before it is checked, and would hold up each proof that uses it. -/

namespace Sys2Proof.Machine

variable {s t u : State} {l l' : List Area} {c : Cmd} {r : Reply} {n : Nat}

/-! ### Areas left as they were -/

/-- An area is the same in both states. -/
def Area.Same (s t : State) : Area → Prop
  | .sys => t.sys = s.sys | .obj => t.obj = s.obj | .mbx => t.mbx = s.mbx | .fcr => t.fcr = s.fcr | .recd => t.recd = s.recd
  | .que => t.que = s.que | .tim => t.tim = s.tim | .lin => t.lin = s.lin | .rad => t.rad = s.rad | .elt => t.elt = s.elt
  | .col => t.col = s.col | .bil => t.bil = s.bil | .bal => t.bal = s.bal | .mea => t.mea = s.mea | .lux => t.lux = s.lux
  | .sto => t.sto = s.sto | .glv => t.glv = s.glv | .twn => t.twn = s.twn | .upd => t.upd = s.upd | .dbg => t.dbg = s.dbg

theorem sameBut_iff : SameBut l s t ↔ (∀ a, a ∉ l → a.Same s t) ∧ t.pending = s.pending := by
  constructor
  · rintro ⟨h1, h2, h3, h4, h5, h6, h7, h8, h9, h10, h11, h12, h13, h14, h15, h16, h17, h18, h19, h20, hp⟩
    refine ⟨fun a => ?_, hp⟩
    cases a <;> assumption
  · rintro ⟨h, hp⟩
    exact ⟨h .sys, h .obj, h .mbx, h .fcr, h .recd, h .que, h .tim, h .lin, h .rad, h .elt, h .col, h .bil, h .bal, h .mea, h .lux, h .sto, h .glv, h .twn,
      h .upd, h .dbg, hp⟩

theorem Area.Same.trans {a : Area} (h : a.Same s t) (h' : a.Same t u) : a.Same s u := by
  cases a <;> exact Eq.trans h' h

theorem SameBut.refl : SameBut l s s := sameBut_iff.2 ⟨fun a _ => by cases a <;> rfl, rfl⟩

theorem SameBut.trans (h : SameBut l s t) (h' : SameBut l t u) : SameBut l s u := by
  rw [sameBut_iff] at *
  exact ⟨fun a ha => (h.1 a ha).trans (h'.1 a ha), h'.2.trans h.2⟩

theorem SameBut.mono (h : SameBut l s t) (hl : l ⊆ l') : SameBut l' s t := by
  rw [sameBut_iff] at *
  exact ⟨fun a ha => h.1 a (fun hm => ha (hl hm)), h.2⟩

theorem SameBut.foldl {α} {g : State → α → State} {xs : List α} (hg : ∀ t x, SameBut l t (g t x)) : SameBut l s (xs.foldl g s) := by
  induction xs generalizing s with
  | nil => exact .refl
  | cons x xs ih => exact (hg s x).trans ih

theorem SameBut.ite {p : Prop} [Decidable p] (ht : SameBut l s t) (hu : SameBut l s u) : SameBut l s (if p then t else u) := by
  split <;> assumption

/-- A further operation that leaves all but `l'`. -/
theorem SameBut.step (h : SameBut l s t) (h' : SameBut l' t u) (hl : autoParam (l' ⊆ l) Nat.toPNat._auto_1) : SameBut l s u := h.trans (h'.mono hl)

theorem SameBut.area (h : SameBut l s t) (a : Area) (ha : autoParam (a ∉ l) Nat.toPNat._auto_1) : a.Same s t := (sameBut_iff.1 h).1 a ha

theorem SameBut.set_sys {x} (h : SameBut l s t) (hl : autoParam (Area.sys ∈ l) Nat.toPNat._auto_1) : SameBut l s { t with sys := x } := h.trans (by simp [SameBut, hl])
theorem SameBut.set_obj {x} (h : SameBut l s t) (hl : autoParam (Area.obj ∈ l) Nat.toPNat._auto_1) : SameBut l s { t with obj := x } := h.trans (by simp [SameBut, hl])
theorem SameBut.set_mbx {x} (h : SameBut l s t) (hl : autoParam (Area.mbx ∈ l) Nat.toPNat._auto_1) : SameBut l s { t with mbx := x } := h.trans (by simp [SameBut, hl])
theorem SameBut.set_fcr {x} (h : SameBut l s t) (hl : autoParam (Area.fcr ∈ l) Nat.toPNat._auto_1) : SameBut l s { t with fcr := x } := h.trans (by simp [SameBut, hl])
theorem SameBut.set_recd {x} (h : SameBut l s t) (hl : autoParam (Area.recd ∈ l) Nat.toPNat._auto_1) : SameBut l s { t with recd := x } := h.trans (by simp [SameBut, hl])
theorem SameBut.set_que {x} (h : SameBut l s t) (hl : autoParam (Area.que ∈ l) Nat.toPNat._auto_1) : SameBut l s { t with que := x } := h.trans (by simp [SameBut, hl])
theorem SameBut.set_tim {x} (h : SameBut l s t) (hl : autoParam (Area.tim ∈ l) Nat.toPNat._auto_1) : SameBut l s { t with tim := x } := h.trans (by simp [SameBut, hl])
theorem SameBut.set_lin {x} (h : SameBut l s t) (hl : autoParam (Area.lin ∈ l) Nat.toPNat._auto_1) : SameBut l s { t with lin := x } := h.trans (by simp [SameBut, hl])
theorem SameBut.set_rad {x} (h : SameBut l s t) (hl : autoParam (Area.rad ∈ l) Nat.toPNat._auto_1) : SameBut l s { t with rad := x } := h.trans (by simp [SameBut, hl])
theorem SameBut.set_elt {x} (h : SameBut l s t) (hl : autoParam (Area.elt ∈ l) Nat.toPNat._auto_1) : SameBut l s { t with elt := x } := h.trans (by simp [SameBut, hl])
theorem SameBut.set_col {x} (h : SameBut l s t) (hl : autoParam (Area.col ∈ l) Nat.toPNat._auto_1) : SameBut l s { t with col := x } := h.trans (by simp [SameBut, hl])
theorem SameBut.set_bil {x} (h : SameBut l s t) (hl : autoParam (Area.bil ∈ l) Nat.toPNat._auto_1) : SameBut l s { t with bil := x } := h.trans (by simp [SameBut, hl])
theorem SameBut.set_bal {x} (h : SameBut l s t) (hl : autoParam (Area.bal ∈ l) Nat.toPNat._auto_1) : SameBut l s { t with bal := x } := h.trans (by simp [SameBut, hl])
theorem SameBut.set_mea {x} (h : SameBut l s t) (hl : autoParam (Area.mea ∈ l) Nat.toPNat._auto_1) : SameBut l s { t with mea := x } := h.trans (by simp [SameBut, hl])
theorem SameBut.set_lux {x} (h : SameBut l s t) (hl : autoParam (Area.lux ∈ l) Nat.toPNat._auto_1) : SameBut l s { t with lux := x } := h.trans (by simp [SameBut, hl])
theorem SameBut.set_sto {x} (h : SameBut l s t) (hl : autoParam (Area.sto ∈ l) Nat.toPNat._auto_1) : SameBut l s { t with sto := x } := h.trans (by simp [SameBut, hl])
theorem SameBut.set_glv {x} (h : SameBut l s t) (hl : autoParam (Area.glv ∈ l) Nat.toPNat._auto_1) : SameBut l s { t with glv := x } := h.trans (by simp [SameBut, hl])
theorem SameBut.set_twn {x} (h : SameBut l s t) (hl : autoParam (Area.twn ∈ l) Nat.toPNat._auto_1) : SameBut l s { t with twn := x } := h.trans (by simp [SameBut, hl])
theorem SameBut.set_upd {x} (h : SameBut l s t) (hl : autoParam (Area.upd ∈ l) Nat.toPNat._auto_1) : SameBut l s { t with upd := x } := h.trans (by simp [SameBut, hl])
theorem SameBut.set_dbg {x} (h : SameBut l s t) (hl : autoParam (Area.dbg ∈ l) Nat.toPNat._auto_1) : SameBut l s { t with dbg := x } := h.trans (by simp [SameBut, hl])

theorem sameBut_pop : SameBut [.mbx] s s.pop := by simp [SameBut]

theorem sameBut_finish : SameBut [.mbx] s (s.finish c r) := by simp [SameBut]

theorem sameBut_setAttr {a : Nat × Nat} {i : Nat} {v : Val} : SameBut [.mbx, .obj] s (s.setAttr a i v) := by simp [SameBut]

theorem sameBut_setNat {a : Nat × Nat} {i v : Nat} : SameBut [.mbx, .obj] s (s.setNat a i v) := sameBut_setAttr

theorem sameBut_setInt {a : Nat × Nat} {i : Nat} {v : Int} : SameBut [.mbx, .obj] s (s.setInt a i v) := sameBut_setAttr

theorem sameBut_setFlag {a : Nat × Nat} {i : Nat} {v : Bool} : SameBut [.mbx, .obj] s (s.setFlag a i v) := sameBut_setAttr

theorem sameBut_bump {a : Nat × Nat} {w i k : Nat} : SameBut [.mbx, .obj] s (s.bump w a i k) := sameBut_setAttr

theorem sameBut_raise {k p : Nat} {xs : List Int} : SameBut [.recd] s (s.raise k p xs) := by simp [SameBut]

theorem sameBut_raiseSafe {k p : Nat} {xs : List Int} : SameBut [.recd] s (s.raiseSafe k p xs) := by simp [SameBut]

theorem sameBut_touch {a : Nat × Nat} {i : Nat} {v : Val} : SameBut [.mbx, .obj] s (s.touch a i v) := by simp [SameBut]

theorem sameBut_create {k i : Nat} : SameBut [.obj] s (s.create k i) := by simp [SameBut]

theorem sameBut_destroy {k i : Nat} : SameBut [.obj] s (s.destroy k i) := by simp [SameBut]

theorem sameBut_complete {h p k : Nat} {st : Status} : SameBut [.mbx] s (s.complete h p k st) := by simp [SameBut]

theorem sameBut_mbx {m : Mailbox} : SameBut [.mbx] s { s with mbx := m } := by simp [SameBut]

theorem State.nat_setAttr_ne {a b : Nat × Nat} {i j : Nat} {v : Val} (h : mkPath b.1 j b.2 ≠ mkPath a.1 i a.2) : (s.setAttr a i v).nat b j = s.nat b j := by
  simp only [State.nat, State.int, State.attr_setAttr_ne h]

theorem sameBut_post {k : JKind} : SameBut [.sto, .twn] s (s.post k) := by simp [SameBut]

/-! ### What an answer leaves of the mailboxes -/

/-- The mailboxes without what an answer writes: the pairs and other ways out, the commands that wait for their end or for a repeat's answer, and the sessions, whose
marks it sets. -/
def Mailbox.unanswered (m : Mailbox) : Mailbox :=
  { m with pairs := [], msix := [], remoteOut := [], vbusy := [], peerOut := [], repeats := [], awaiting := [], sessions := [] }

/-- A session after the status of a sequence has been recorded (R55). -/
def Session.marked (x : Session) (h q : Nat) (st : Status) : Session :=
  if x.handle = h then { x with marks := x.marks.map (fun m => if m.1 = q then (q, some st.code) else m) } else x

theorem State.writeOut_unanswered {f : Bytes} :
    (s.writeOut n f).mbx.unanswered = s.mbx.unanswered ∧ (s.writeOut n f).mbx.sessions = s.mbx.sessions ∧ (s.writeOut n f).mbx.awaiting = s.mbx.awaiting := by
  unfold State.writeOut
  dsimp only
  split <;> exact ⟨rfl, rfl, rfl⟩

theorem State.deliver_unanswered {c : Src} {f : Bytes} :
    (s.deliver c f).mbx.unanswered = s.mbx.unanswered ∧ (s.deliver c f).mbx.sessions = s.mbx.sessions ∧ (s.deliver c f).mbx.awaiting = s.mbx.awaiting := by
  unfold State.deliver
  split
  · split
    · exact ⟨rfl, rfl, rfl⟩
    · exact State.writeOut_unanswered
  · exact ⟨rfl, rfl, rfl⟩
  · exact ⟨rfl, rfl, rfl⟩

theorem State.answer_unanswered :
    (s.answer c r).mbx.unanswered = s.mbx.unanswered ∧ (s.answer c r).mbx.sessions = s.mbx.sessions ∧ (s.answer c r).mbx.awaiting = s.mbx.awaiting := by
  unfold State.answer
  split
  · exact State.deliver_unanswered
  · split
    · split
      · exact State.deliver_unanswered
      · exact State.deliver_unanswered
    · exact State.deliver_unanswered

theorem State.respond_unanswered :
    (s.respond c r).mbx.unanswered = s.mbx.unanswered ∧
      (s.respond c r).mbx.sessions = s.mbx.sessions.map (fun x => x.marked c.session c.seq r.status) ∧ (s.respond c r).mbx.awaiting = s.mbx.awaiting := by
  have hfold : ∀ (xs : List Cmd) (q : Nat) (u : State), (xs.foldl (fun s x => s.answerDuplicate x q) u).mbx.unanswered = u.mbx.unanswered ∧
      (xs.foldl (fun s x => s.answerDuplicate x q) u).mbx.sessions = u.mbx.sessions ∧ (xs.foldl (fun s x => s.answerDuplicate x q) u).mbx.awaiting = u.mbx.awaiting := by
    intro xs q
    induction xs with
    | nil => exact fun u => ⟨rfl, rfl, rfl⟩
    | cons x xs ih =>
      intro u
      obtain ⟨h1, h2, h3⟩ := ih (u.answerDuplicate x q)
      obtain ⟨k1, k2, k3⟩ := State.answer_unanswered (s := u) (c := x) (r := ⟨.duplicate, [BitVec.ofNat 8 q]⟩)
      exact ⟨h1.trans k1, h2.trans k2, h3.trans k3⟩
  unfold State.respond
  obtain ⟨h1, h2, h3⟩ := hfold _ r.status.code _
  obtain ⟨k1, k2, k3⟩ := State.answer_unanswered (s := s.mark c.session c.seq r.status) (c := c) (r := r)
  exact ⟨h1.trans k1, h2.trans k2, h3.trans k3⟩

/-- The status that answers a command: ACCEPTED where the command does not wait and is not itself answered ACCEPTED or DEFERRED (Table 02-5). -/
def Reply.answered (r : Reply) (c : Cmd) : Status :=
  if r.status = .accepted ∨ r.status = .deferred then r.status else if bit c.flags flagNoWait then .accepted else r.status

theorem State.finish_unanswered :
    (s.finish c r).mbx.unanswered = s.mbx.unanswered ∧ (s.finish c r).mbx.sessions = s.mbx.sessions.map (fun x => x.marked c.session c.seq (r.answered c)) := by
  unfold State.finish Reply.answered
  dsimp only
  split
  · obtain ⟨h1, h2, -⟩ := State.respond_unanswered
    exact ⟨h1, h2⟩
  · split
    · obtain ⟨h1, h2, -⟩ := State.respond_unanswered
      exact ⟨h1, h2⟩
    · obtain ⟨h1, h2, -⟩ := State.respond_unanswered
      exact ⟨h1, h2⟩

@[simp] theorem State.finish_subs : (s.finish c r).mbx.subs = s.mbx.subs := (congrArg Mailbox.subs State.finish_unanswered.1 :)
@[simp] theorem State.finish_nonces : (s.finish c r).mbx.nonces = s.mbx.nonces := (congrArg Mailbox.nonces State.finish_unanswered.1 :)
@[simp] theorem State.finish_energize : (s.finish c r).mbx.energize = s.mbx.energize := (congrArg Mailbox.energize State.finish_unanswered.1 :)
@[simp] theorem State.finish_confirmed : (s.finish c r).mbx.confirmed = s.mbx.confirmed := (congrArg Mailbox.confirmed State.finish_unanswered.1 :)
@[simp] theorem State.finish_notifs : (s.finish c r).mbx.notifs = s.mbx.notifs := (congrArg Mailbox.notifs State.finish_unanswered.1 :)

@[simp] theorem Session.marked_handle {x : Session} {h q : Nat} {st : Status} : (x.marked h q st).handle = x.handle := by unfold Session.marked; split <;> rfl
@[simp] theorem Session.marked_slot {x : Session} {h q : Nat} {st : Status} : (x.marked h q st).slot = x.slot := by unfold Session.marked; split <;> rfl
@[simp] theorem Session.marked_role {x : Session} {h q : Nat} {st : Status} : (x.marked h q st).role = x.role := by unfold Session.marked; split <;> rfl
@[simp] theorem Session.marked_cred {x : Session} {h q : Nat} {st : Status} : (x.marked h q st).cred = x.cred := by unfold Session.marked; split <;> rfl
@[simp] theorem Session.marked_pairs {x : Session} {h q : Nat} {st : Status} : (x.marked h q st).pairs = x.pairs := by unfold Session.marked; split <;> rfl
@[simp] theorem Session.marked_idle {x : Session} {h q : Nat} {st : Status} : (x.marked h q st).idle = x.idle := by unfold Session.marked; split <;> rfl
@[simp] theorem Session.marked_lastUse {x : Session} {h q : Nat} {st : Status} : (x.marked h q st).lastUse = x.lastUse := by unfold Session.marked; split <;> rfl

/-- The session of a handle after an answer: the same one, marked. -/
theorem State.finish_session {h : Nat} : (s.finish c r).session h = (s.session h).map (fun x => x.marked c.session c.seq (r.answered c)) := by
  unfold State.session
  rw [State.finish_unanswered.2, List.find?_map]
  congr 2
  funext x
  simp

/-! ### What a notification leaves of the mailboxes -/

/-- The mailboxes without the queue of notifications. -/
def Mailbox.unnotified (m : Mailbox) : Mailbox := { m with notifs := [], lost := [] }

@[simp] theorem Mailbox.notify_unnotified {m : Mailbox} {e : Entry} : (m.notify e).unnotified = m.unnotified := by
  unfold Mailbox.notify
  dsimp only
  split
  · split <;> rfl
  · rfl

@[simp] theorem Mailbox.notifyAll_unnotified {m : Mailbox} {es : List Entry} : (m.notifyAll es).unnotified = m.unnotified := by
  unfold Mailbox.notifyAll
  induction es generalizing m with
  | nil => rfl
  | cons e es ih => exact (ih (m := m.notify e)).trans Mailbox.notify_unnotified

@[simp] theorem State.setAttr_unnotified {a : Nat × Nat} {i : Nat} {v : Val} : (s.setAttr a i v).mbx.unnotified = s.mbx.unnotified := by
  unfold State.setAttr
  split
  · rfl
  · exact Mailbox.notifyAll_unnotified

@[simp] theorem State.setAttr_sessions {a : Nat × Nat} {i : Nat} {v : Val} : (s.setAttr a i v).mbx.sessions = s.mbx.sessions :=
  (congrArg Mailbox.sessions State.setAttr_unnotified :)
@[simp] theorem State.setAttr_nonces {a : Nat × Nat} {i : Nat} {v : Val} : (s.setAttr a i v).mbx.nonces = s.mbx.nonces :=
  (congrArg Mailbox.nonces State.setAttr_unnotified :)
@[simp] theorem State.setAttr_pairs {a : Nat × Nat} {i : Nat} {v : Val} : (s.setAttr a i v).mbx.pairs = s.mbx.pairs :=
  (congrArg Mailbox.pairs State.setAttr_unnotified :)
@[simp] theorem State.setAttr_repeats {a : Nat × Nat} {i : Nat} {v : Val} : (s.setAttr a i v).mbx.repeats = s.mbx.repeats :=
  (congrArg Mailbox.repeats State.setAttr_unnotified :)
@[simp] theorem State.setAttr_taken {a : Nat × Nat} {i : Nat} {v : Val} : (s.setAttr a i v).mbx.taken = s.mbx.taken :=
  (congrArg Mailbox.taken State.setAttr_unnotified :)
@[simp] theorem State.setAttr_locks {a : Nat × Nat} {i : Nat} {v : Val} : (s.setAttr a i v).mbx.locks = s.mbx.locks :=
  (congrArg Mailbox.locks State.setAttr_unnotified :)

/-! ### Serving a command -/

/-- A served command: its body's effect and answer, and the state it ends in is the body's but for the answer. -/
theorem State.Serves.completes {b : Body} {op : Nat} (h : s.Serves c n) (ho : c.opcode = op) (hb : b c s.pop = (r, u)) (hp : Poised s u) (hd : r.data.length ≤ 4064) :
    ∃ t, runOpcode op b s = .next t ∧ t = u.finish c r ∧ Answered s t c n r.status r.data :=
  ⟨u.finish c r, by rw [h.run ho, hb], rfl, h.answered hp hd⟩

end Sys2Proof.Machine
end

section
/-! GET, SET, LIST, BATCH and ACTION (R61, R81, R83, R84): what each body answers, then the answer of the served command. -/

namespace Sys2Proof.Machine

variable {s t u : State} {c : Cmd} {n : Nat}

/-! ### GET, LIST and ACTION: the bodies change nothing, or are those of the methods' own rows -/

theorem doGet_version {k : ClassInfo} (hk : classInfo (pathCls c.path) = some k) (ha : pathAttr c.path = 0) :
    doGet c s = (⟨.ok, s.versionTlv (pathCls c.path) (pathInst c.path)⟩, s) := by
  simp [doGet, hk, ha]

theorem doGet_attribute {k : ClassInfo} {x : AttrInfo} (hk : classInfo (pathCls c.path) = some k) (h0 : pathAttr c.path ≠ 0) (hall : pathAttr c.path ≠ 0xFF)
    (hx : k.attrs.find? (fun y => y.num == pathAttr c.path) = some x) : doGet c s = (⟨.ok, s.tlvOf (pathCls c.path) (pathInst c.path) x⟩, s) := by
  simp [doGet, hk, h0, hall, hx]

/-- A GET changes nothing and is never answered as one that goes on. -/
theorem doGet_state : (doGet c s).2 = s ∧ (doGet c s).1.status ≠ .accepted ∧ (doGet c s).1.status ≠ .deferred := by
  unfold doGet
  dsimp only
  split
  · exact ⟨rfl, nofun, nofun⟩
  · repeat' split
    all_goals exact ⟨rfl, nofun, nofun⟩

@[simp] theorem leBytes_length {w v : Nat} : (leBytes w v).length = w := by
  induction w generalizing v with
  | zero => rfl
  | succ w ih => simp [leBytes, ih]

theorem State.versionTlv_length {i k : Nat} : (s.versionTlv k i).length ≤ 4064 := by
  simp [State.versionTlv, encodeTlv, encodeVal, pad4, intBytes, tyWidth]

/-- The answer of a GET does not depend on the commands that wait. -/
theorem doGet_pop : (doGet c s.pop).1 = (doGet c s).1 := by
  unfold doGet
  dsimp only
  split
  · rfl
  · repeat' split
    all_goals rfl

/-- The instances a LIST without a filter shows (R81). -/
def State.listed (s : State) (c : Cmd) : List Nat :=
  (s.allInstances (pathCls c.path)).filter (fun i => decide (pathInst c.path ≤ i) && s.mayRead c.role (pathCls c.path) i s.twn.self)

/-- The answer of a LIST: a page of at most `k` paths and the number to go on from. -/
def listAnswer (cls k : Nat) (all : List Nat) : Bytes :=
  leBytes 2 (all.take k).length ++ [0, 0] ++ leBytes 8 (((all.drop k).head?).getD wildInst) ++ (all.take k).flatMap (fun i => leBytes 8 (objPath cls i))

theorem doList_unfiltered (hlo : 1 ≤ field c.data 0 2) (hhi : field c.data 0 2 ≤ 500) (htest : octet c.data 3 = 0) :
    doList c s = (⟨.ok, listAnswer (pathCls c.path) (field c.data 0 2) (s.listed c)⟩, s) := by
  have hpos : field c.data 0 2 ≠ 0 := by omega
  simp [doList, htest, hpos, hhi, State.passes, State.listed, listAnswer]

theorem listAnswer_length {cls k : Nat} {all : List Nat} (hk : k ≤ 500) : (listAnswer cls k all).length ≤ 4064 := by
  have htake : (all.take k).length ≤ 500 := by
    rw [List.length_take]
    omega
  have hpaths : ((all.take k).flatMap (fun i => leBytes 8 (objPath cls i))).length = (all.take k).length * 8 := by
    simp [List.length_flatMap]
  simp only [listAnswer, List.length_append, leBytes_length, List.length_cons, List.length_nil, hpaths]
  omega

/-- The methods that ACTION runs as their rows do (R81). -/
theorem doAction_method {b : Body} (hb : methodBody (pathCls c.path, pathAttr c.path) = some b) : doAction c s = b c s := by
  simp [doAction, hb]

theorem State.Serves.action_eq_method {b : Body} {cls m : Nat} (h : s.Serves c n) (ho : c.opcode = opAction) (hm : (pathCls c.path, pathAttr c.path) = (cls, m))
    (hb : methodBody (cls, m) = some b) : Completes (exec .action s) (fun t => Machine.runMethod cls m b s = .next t) := by
  obtain ⟨hcls, hatt⟩ := Prod.mk.inj hm
  refine ⟨_, h.run ho, ?_⟩
  rw [h.runMethod ho hcls hatt, doAction_method (hm ▸ hb)]

/-! ### BATCH of GETs -/

/-- A sub-command that is a GET, without flags, and passes its checks, answers as the GET does and changes nothing. -/
theorem State.runSub_get {x : Sub} (hop : x.opcode = opGet) (hfl : x.flags = 0) (hchk : s.lateChecks (c.sub x) s.twn.self = none) :
    s.runSub c x = ((doGet (c.sub x) s).1, s) := by
  obtain ⟨hstate, hacc, hdef⟩ := doGet_state (c := c.sub x) (s := s)
  have hbody : batchBody x.opcode = .ok doGet := by rw [hop]; rfl
  simp only [State.runSub, hbody, hfl, hchk]
  rw [if_neg (by decide), if_neg (by simp [hacc, hdef])]
  exact Prod.ext rfl hstate

theorem State.runSubs_gets {xs : List Sub} (h : ∀ x ∈ xs, x.opcode = opGet ∧ x.flags = 0 ∧ s.lateChecks (c.sub x) s.twn.self = none) :
    s.runSubs c xs = (xs.map (fun x => (doGet (c.sub x) s).1), s) := by
  have hfold : ∀ (ys : List Sub) (acc : List Reply), (∀ x ∈ ys, x.opcode = opGet ∧ x.flags = 0 ∧ s.lateChecks (c.sub x) s.twn.self = none) →
      ys.foldl (fun (acc : List Reply × State) x => let r := acc.2.runSub c x; (acc.1 ++ [r.1], r.2)) (acc, s) = (acc ++ ys.map (fun x => (doGet (c.sub x) s).1), s) := by
    intro ys
    induction ys with
    | nil => simp
    | cons y ys ih =>
      intro acc hy
      obtain ⟨hop, hfl, hchk⟩ := hy y List.mem_cons_self
      rw [List.foldl_cons, State.runSub_get hop hfl hchk]
      simpa using ih (acc ++ [(doGet (c.sub y) s).1]) (fun x hx => hy x (List.mem_cons_of_mem _ hx))
  simpa [State.runSubs] using hfold xs [] h

theorem doBatch_gets {xs : List Sub} (hx : parseSubs 32 c.data = some xs) (hne : xs ≠ []) (hatomic : bit c.flags flagAtomic = false)
    (h : ∀ x ∈ xs, x.opcode = opGet ∧ x.flags = 0 ∧ s.lateChecks (c.sub x) s.twn.self = none) :
    doBatch c s = (⟨.ok, xs.flatMap (fun x => subResult (doGet (c.sub x) s).1)⟩, s) := by
  simp [doBatch, hx, hne, hatomic, State.runSubs_gets h, List.flatMap_map]

/-! ### SET -/

/-- A setting whose SET does no more than write it. -/
theorem State.applySet_plain {a : Nat × Nat} {i : Nat} {v : Val} (h : a ∉ actsBeyond) : s.applySet a i v = s.setAttr a i v := by
  simp only [actsBeyond, List.mem_cons, List.not_mem_nil, or_false, not_or] at h
  obtain ⟨h1, h2, h3, h4, h5, h6, h7, h8, h9, h10, h11, h12, h13, h14, h15, h16⟩ := h
  unfold State.applySet
  dsimp only
  rw [if_neg h1, if_neg h2, if_neg h3, if_neg h4, if_neg h5, if_neg h6, if_neg h7, if_neg h8, if_neg h9, if_neg (not_or.2 ⟨h10, h11⟩), if_neg h12, if_neg h13,
    if_neg h14, if_neg h15, if_neg h16]

theorem State.version_congr (h : t.obj = s.obj) (k i : Nat) : t.version k i = s.version k i := by simp only [State.version, h]

theorem State.version_setAttr {a : Nat × Nat} {i : Nat} {v : Val} (h : s.attr a i ≠ v) : (s.setAttr a i v).version a.1 i = (s.version a.1 i + 1) % 2 ^ 32 := by
  unfold State.setAttr
  rw [if_neg h]
  exact Assoc.getD_set_same

/-- Whether a setting is possible does not depend on the commands that wait; a source's latch has a row of its own. -/
theorem State.setStatus_pop {a : Nat × Nat} {i : Nat} {v : Val} (h : a ≠ Attr.FaultSource.latched) : s.pop.setStatus a i v = s.setStatus a i v := by
  have hother : ∀ k, s.pop.otherStatus a i k = s.otherStatus a i k := by
    intro k
    unfold State.otherStatus
    rw [if_neg h, if_neg h]
    rfl
  unfold State.setStatus
  split
  · rfl
  · cases v with
    | num x =>
      dsimp only
      rw [hother]
      rfl
    | bytes b => rfl
    | arr xs => rfl

theorem State.postSetting_same {p : Nat} : SameBut [.mbx, .obj, .sto, .twn] s (s.postSetting p) :=
  (sameBut_post.mono (by decide)).ite .refl

/-- A plain setting outside the opening book: its value is written, counted, and perhaps sent to the standby. -/
theorem State.doSetting_plain {path : Nat} {v : Val} (hgen : s.sys.settingsGen ≠ 0) (hplain : (pathCls path, pathAttr path) ∉ actsBeyond) :
    let w := s.setAttr (pathCls path, pathAttr path) (pathInst path) v
    s.doSetting path v = w ∨ s.doSetting path v = w.postSetting path := by
  unfold State.doSetting
  dsimp only
  rw [s.openBook_of_generation path hgen, State.applySet_plain hplain]
  split
  · exact .inr rfl
  · exact .inl rfl

theorem State.doSetting_plain_areas {path : Nat} {v : Val} (hgen : s.sys.settingsGen ≠ 0) (hplain : (pathCls path, pathAttr path) ∉ actsBeyond) :
    let w := s.setAttr (pathCls path, pathAttr path) (pathInst path) v
    (s.doSetting path v).obj = w.obj ∧ (s.doSetting path v).mbx = w.mbx ∧ SameBut [.mbx, .obj, .sto, .twn] s (s.doSetting path v) := by
  have hset : SameBut [.mbx, .obj, .sto, .twn] s (s.setAttr (pathCls path, pathAttr path) (pathInst path) v) := sameBut_setAttr.mono (by decide)
  rcases s.doSetting_plain (v := v) hgen hplain with h | h
  · rw [h]
    exact ⟨rfl, rfl, hset⟩
  · rw [h]
    exact ⟨State.postSetting_obj, State.postSetting_mbx, hset.trans State.postSetting_same⟩

/-- Settles O1: each clause runs its body as the lemmas above say; a popped command leaves every value and every object as it was. -/
theorem genericCommands : Obligations.GenericCommands := by
  refine ⟨?version, ?get, ?set, ?list, ?batch, ?action⟩
  case version =>
    intro s c n k h ho hk ha
    exact h.completes_unchanged ho (doGet_version hk ha) s.versionTlv_length
  case get =>
    intro s c n k x h ho hk h0 hall hx hlen
    exact h.completes_unchanged ho (doGet_attribute hk h0 hall hx) hlen
  case set =>
    intro s c n y x rest v h ho hv hy hx ha hd hr hst htrial hgen hplain
    have hlatched : (pathCls c.path, pathAttr c.path) ≠ Attr.FaultSource.latched := fun hl => hplain (by rw [hl]; decide)
    have hbody : doSet c s.pop = (⟨.ok, []⟩, s.pop.doSetting c.path v) := by
      rw [doSet_of_fits hv hy hx ha hd hr (s.pop_pairTrial.trans htrial)]
      rw [State.setStatus_pop hlatched, hst]
      rfl
    obtain ⟨hobj, hmbx, hsame⟩ := s.pop.doSetting_plain_areas (v := v) hgen hplain
    obtain ⟨t, hrun, rfl, hans⟩ := h.completes ho hbody ((Poised.setAttr poised_pop).of_mbx hmbx) (Nat.zero_le _)
    have hfin := State.finish_obj (s := s.pop.doSetting c.path v) (c := c) (r := ⟨.ok, []⟩)
    refine ⟨_, hrun, hans, ?value, ?counted, (sameBut_pop.mono (by decide)).trans (hsame.trans (sameBut_finish.mono (by decide)))⟩
    case value => exact (State.attr_congr (hfin.trans hobj) _ _).trans State.attr_setAttr
    case counted =>
      intro hne
      have hversion := State.version_setAttr (s := s.pop) hne
      rwa [← State.version_congr (hfin.trans hobj)] at hversion
  case list =>
    intro s c n h ho hlo hhi hattr htest
    exact h.completes_unchanged ho (doList_unfiltered hlo hhi htest) (listAnswer_length hhi)
  case batch =>
    intro s c n xs h ho hx hne hatomic hall hlen
    have hbody := doBatch_gets (s := s.pop) hx hne hatomic hall
    simp only [doGet_pop] at hbody
    exact h.completes_unchanged ho hbody hlen
  case action =>
    intro s c n m i h ho hm hi
    simp only [List.mem_cons, List.not_mem_nil, or_false, Prod.mk.injEq] at hi
    rcases hi with ⟨rfl, rfl⟩ | ⟨rfl, rfl⟩ | ⟨rfl, rfl⟩ | ⟨rfl, rfl⟩ | ⟨rfl, rfl⟩ | ⟨rfl, rfl⟩ | ⟨rfl, rfl⟩ | ⟨rfl, rfl⟩ <;>
      exact h.action_eq_method ho hm rfl

end Sys2Proof.Machine
end

section
/-! Subscriptions and sessions (R47–R53, R57, R58, R82, R747, R749): what each body answers, then the answer of the served command. -/

namespace Sys2Proof.Machine

variable {s u : State} {c : Cmd} {n k : Nat}

/-- A served command whose body changes only fields of MBX that carry no answer. -/
theorem State.Serves.completes_mbx {b : Body} {op : Nat} {r : Reply} {m : Mailbox} {p : State → Prop} (h : s.Serves c n) (ho : c.opcode = op)
    (hb : b c s.pop = (r, { s.pop with mbx := m })) (hpairs : m.pairs = s.mbx.pairs) (hrepeats : m.repeats = s.mbx.repeats) (htaken : m.taken = s.mbx.taken.tail)
    (hd : r.data.length ≤ 4064) (hp : p ({ s.pop with mbx := m }.finish c r)) :
    Completes (runOpcode op b s) (fun t => Answered s t c n r.status r.data ∧ p t ∧ SameBut [.mbx] s t) := by
  obtain ⟨t, hrun, rfl, hans⟩ := h.completes ho hb ⟨hpairs, hrepeats, htaken⟩ hd
  exact ⟨_, hrun, hans, hp, by simp [SameBut]⟩

/-! ### Subscriptions -/

theorem doSubscribe_fits (hlo : 1 ≤ octet c.payload 0) (hhi : octet c.payload 0 ≤ 3) (hper : octet c.payload 0 = 3 → field c.payload 4 4 ≠ 0)
    (hown : s.mbx.subs.countP (fun b => b.session == c.session) < 128) (hall : s.mbx.subs.length < 1024) :
    doSubscribe c s = (⟨.ok, leBytes 2 s.mbx.nextSub ++ [0, 0]⟩,
      { s with mbx := { s.mbx with
          subs := s.mbx.subs ++ [⟨s.mbx.nextSub, c.session, octet c.payload 0, field c.payload 4 4, c.path⟩]
          nextSub := if 0xFFFF ≤ s.mbx.nextSub then 1 else s.mbx.nextSub + 1 } }) := by
  have htrigger : ¬ (octet c.payload 0 = 0 ∨ 3 < octet c.payload 0 ∨ (octet c.payload 0 = 3 ∧ field c.payload 4 4 = 0)) := by omega
  have hroom : ¬ (128 ≤ s.mbx.subs.countP (fun b => b.session == c.session) ∨ 1024 ≤ s.mbx.subs.length) := by omega
  unfold doSubscribe
  dsimp only
  rw [if_neg htrigger, if_neg hroom]

theorem doUnsubscribe_held (h : s.mbx.subs.any (fun b => b.id == field c.payload 0 2 && b.session == c.session) = true) :
    doUnsubscribe c s = (⟨.ok, []⟩,
      { s with mbx := { s.mbx with subs := s.mbx.subs.filter (fun b => !(b.id == field c.payload 0 2 && b.session == c.session)) } }) := by
  simp only [doUnsubscribe, h, if_true]

/-! ### Challenges -/

theorem doChallenge_issues
    (hcred : field c.payload 4 4 ≠ bootstrapId → s.alive 0x0C20 (field c.payload 4 4) = true ∧ s.nat Attr.RoleCredential.role (field c.payload 4 4) = octet c.payload 0)
    (hlock : s.locked (field c.payload 4 4) = false) (hseal : s.flag Attr.GloveboxService.sealed 0 = true → sealedRole (octet c.payload 0) = true)
    (htrng : s.glv.trngFault = false) :
    doChallenge c s = (⟨.ok, s.trng 32⟩,
      { s.drawn with mbx := { s.mbx with nonces := s.mbx.nonces ++ [⟨c.src, octet c.payload 0, field c.payload 4 4, s.trng 32, s.tim.d3⟩] } }) := by
  have halive : ¬ (field c.payload 4 4 ≠ bootstrapId ∧ (!s.alive 0x0C20 (field c.payload 4 4)) = true) := fun ⟨h, ha⟩ => by simp [(hcred h).1] at ha
  have hrole : ¬ (field c.payload 4 4 ≠ bootstrapId ∧ s.nat Attr.RoleCredential.role (field c.payload 4 4) ≠ octet c.payload 0) := fun ⟨h, hr⟩ => hr (hcred h).2
  have hsealed : ¬ (s.flag Attr.GloveboxService.sealed 0 = true ∧ (!sealedRole (octet c.payload 0)) = true) := fun ⟨h, hr⟩ => by simp [hseal h] at hr
  unfold doChallenge
  dsimp only
  rw [if_neg halive, if_neg (by simp [hlock]), if_neg hrole, if_neg hsealed, if_neg (by simp [htrng])]

theorem State.trng_length {w : Nat} : (s.trng w).length = w := by simp [State.trng]

/-! ### Opening a session -/

/-- The session that an open makes in slot `k` (R47, R50, R53). -/
def State.opened (s : State) (c : Cmd) (r : Role) (cred idle k : Nat) : Session :=
  { slot := k, handle := k * 4096 + nextGen (s.mbx.gens.getD k 0), role := r, cred := cred, localSess := c.localSess,
    assoc := match c.src with | .vpair a _ => a | _ => 0
    peerAddr := c.peerAddr, idle := idle, lastUse := s.tim.d3, pairs := [c.src] }

theorem State.openSlot_free {r : Role} {cred idle : Nat} (hk : s.freeSlot = some k) :
    s.openSlot c r cred idle =
      (⟨.ok, leBytes 2 (k * 4096 + nextGen (s.mbx.gens.getD k 0)) ++ leBytes 2 0 ++ leBytes 4 idle⟩,
       { s with mbx := { s.mbx with
          sessions := s.mbx.sessions ++ [s.opened c r cred idle k]
          gens := s.mbx.gens.set k (nextGen (s.mbx.gens.getD k 0)) } }) := by
  simp only [State.openSlot, hk]
  rfl

/-- The state once the nonce of an open is used (R48). -/
def State.nonceUsed (s : State) (c : Cmd) : State :=
  { s with mbx := { s.mbx with nonces := s.mbx.nonces.filter (fun m => m.nonce != slice c.payload 8 32) } }

/-- The state once the proof of an open has verified: the credential's failures in a row end (R49). -/
def State.proven (s : State) (c : Cmd) : State :=
  { s.nonceUsed c with mbx := { (s.nonceUsed c).mbx with fails := Assoc.del (field c.payload 4 4) s.mbx.fails } }

/-- What SESSION_OPEN has checked before it looks at the proof (R47–R52, R78): the credential and its lock, the nonce, and the role over a local pair. -/
structure State.MayOpen (s : State) (c : Cmd) (r : Role) : Prop where
  ordinary : field c.payload 4 4 ≠ bootstrapId
  alive : s.alive 0x0C20 (field c.payload 4 4) = true
  unlocked : s.locked (field c.payload 4 4) = false
  nonce : ∃ x, s.mbx.nonces.find?
    (fun y => y.nonce == slice c.payload 8 32 && y.src == c.src && y.role == octet c.payload 0 && y.cred == field c.payload 4 4) = some x ∧ s.tim.d3 ≤ x.at3 + sec 10
  role : roleOfByte (octet c.payload 0) = some r
  granted : s.nat Attr.RoleCredential.role (field c.payload 4 4) = octet c.payload 0
  noPeer : r ≠ .peer
  localSess : c.localSess = true
  unsealed : s.flag Attr.GloveboxService.sealed 0 = false

/-- The proof of an open over pair `n` verifies (R47). -/
def State.proofHolds (s : State) (c : Cmd) (n : Nat) : Bool :=
  Config.ecdsaVerify (s.octets Attr.RoleCredential.publicKey (field c.payload 4 4))
    (proofMessage (slice c.payload 8 32) (octet c.payload 0) (field c.payload 4 4) n s.sys.eui) (slice c.payload 44 64)

/-- Where the open may be made over a pair and a slot is free, the proof decides (R47, R49). -/
theorem State.MayOpen.doOpen_eq {r : Role} (h : s.MayOpen c r) (hsrc : c.src = .pair n) (hslot : s.freeSlot = some k) :
    doOpen c s =
      if s.proofHolds c n then
        (s.proven c).openSlot c r (field c.payload 4 4) (grantIdle (field c.payload 40 4))
      else (⟨.denied, []⟩, (s.nonceUsed c).failProof (field c.payload 4 4)) := by
  obtain ⟨hordinary, halive, hlock, ⟨x, hx, hfresh⟩, hrole, hgranted, hpeer, hlocal, hsealed⟩ := h
  have hboot : (field c.payload 4 4 == bootstrapId) = false := by simpa using hordinary
  have hkey : credKey (field c.payload 4 4) (c.payload.drop 108) = field c.payload 4 4 := by simp [credKey, hordinary]
  have hold : ¬ x.at3 + sec 10 < s.tim.d3 := by omega
  unfold doOpen
  dsimp only
  rw [hboot, hkey, hx, hrole]
  dsimp only
  refine (if_neg ?alive).trans ((if_neg ?unlocked).trans ((if_neg hold).trans ((if_neg ?boot).trans ((if_neg ?granted).trans ((if_neg ?host).trans
    ((if_neg ?peer).trans ((if_neg ?sealed).trans ((if_neg ?remote).trans ?proof))))))))
  case alive => simp [halive]
  case unlocked => simp [hlock]
  case boot => simp
  case granted =>
    show ¬ ((!false && s.nat Attr.RoleCredential.role (field c.payload 4 4) != octet c.payload 0) = true)
    simp [hgranted]
  case host => simp [hlocal]
  case peer => simp [hpeer]
  case sealed =>
    show ¬ (s.flag Attr.GloveboxService.sealed 0 = true ∧ _)
    simp [hsealed]
  case remote => simp [hsrc]
  case proof =>
    rw [hsrc]
    by_cases hv : s.proofHolds c n = true
    · rw [if_pos hv]
      refine (if_neg ?_).trans ((if_neg ?_).trans rfl)
      · show ¬ (!s.proofHolds c n) = true
        simp [hv]
      · show ¬ s.freeSlot.isNone = true
        simp [hslot]
    · rw [if_neg hv]
      refine (if_pos ?_).trans rfl
      show (!s.proofHolds c n) = true
      simpa using hv

/-- A failed proof leaves the sessions and the nonces, and keeps what an answer needs (R49). -/
theorem State.failProof_mbx {j : Nat} :
    (s.failProof j).mbx.sessions = s.mbx.sessions ∧ (s.failProof j).mbx.nonces = s.mbx.nonces ∧ (s.failProof j).mbx.pairs = s.mbx.pairs ∧
      (s.failProof j).mbx.repeats = s.mbx.repeats ∧ (s.failProof j).mbx.taken = s.mbx.taken := by
  unfold State.failProof
  dsimp only
  split
  · exact ⟨rfl, rfl, rfl, rfl, rfl⟩
  · split
    · simp [State.setNat]
    · exact ⟨rfl, rfl, rfl, rfl, rfl⟩

/-! ### Sessions in use -/

theorem State.session_handle {h : Nat} {x : Session} (hx : s.session h = some x) : x.handle = h := by
  simpa using List.find?_some hx

theorem State.session_mem {h : Nat} {x : Session} (hx : s.session h = some x) : x ∈ s.mbx.sessions := List.mem_of_find?_eq_some hx

/-- A pair bound to no session is not one of any session's pairs (R53). -/
theorem State.unbound_not_mem {src : Src} {x : Session} (hfree : s.boundTo src = none) (hx : x ∈ s.mbx.sessions) : x.pairs.contains src = false := by
  simpa using List.find?_eq_none.1 hfree x hx

theorem doBind_adds {x : Session} (hx : s.session c.session = some x) (hfree : s.boundTo c.src = none) (hroom : x.pairs.length < 8) :
    doBind c s = (⟨.ok, []⟩, s.modSession c.session (fun y => { y with pairs := y.pairs ++ [c.src] })) := by
  have hnew := s.unbound_not_mem hfree (s.session_mem hx)
  simp only [doBind, hx, hnew, hfree, Bool.false_eq_true, if_false, Option.isSome_none, Nat.not_le.2 hroom, s.session_handle hx]

theorem State.session_modSession {h : Nat} {f : Session → Session} (hf : ∀ x, (f x).handle = x.handle) : (s.modSession h f).session h = (s.session h).map f := by
  unfold State.session State.modSession
  dsimp only
  rw [List.find?_map]
  have hp : ((fun x : Session => x.handle == h) ∘ fun x => if x.handle = h then f x else x) = fun x => x.handle == h := by
    funext x
    by_cases hx : x.handle = h <;> simp [hx, hf]
  rw [hp]
  cases hx : s.mbx.sessions.find? (fun x => x.handle == h) with
  | none => rfl
  | some x =>
    have hh : x.handle = h := s.session_handle hx
    simp [hh]

/-- An ended session is marked no more. -/
theorem map_marked_of_ended {xs : List Session} {h q : Nat} {st : Status} :
    (xs.filter (fun x => x.handle != h)).map (fun x => x.marked h q st) = xs.filter (fun x => x.handle != h) := by
  conv_rhs => rw [← List.map_id (xs.filter (fun x => x.handle != h))]
  refine List.map_congr_left (fun x hx => ?_)
  have hne : x.handle ≠ h := by simpa using (List.mem_filter.1 hx).2
  simp [Session.marked, hne]

/-- Settles O2: each clause runs its body as the lemmas above say. -/
theorem sessionCommands : Obligations.SessionCommands := by
  refine ⟨?subscribe, ?unsubscribe, ?challenge, ?opens, ?close, ?bind, ?keepalive⟩
  case subscribe =>
    intro s c n h ho hlo hhi hper hown hall
    exact h.completes_mbx ho (doSubscribe_fits hlo hhi hper hown hall) rfl rfl rfl (by simp) State.finish_subs
  case unsubscribe =>
    intro s c n h ho hheld
    exact h.completes_mbx ho (doUnsubscribe_held hheld) rfl rfl rfl (Nat.zero_le _) State.finish_subs
  case challenge =>
    intro s c n h ho hcred hlock hseal htrng
    obtain ⟨t, hrun, rfl, hans⟩ := h.completes ho (doChallenge_issues (s := s.pop) hcred hlock hseal htrng) ⟨rfl, rfl, rfl⟩ (by simp [State.trng_length])
    exact ⟨_, hrun, s.pop.trng 32, State.trng_length, hans, State.finish_nonces, by simp [SameBut]⟩
  case opens =>
    intro s c n k r x h ho hordinary halive hlock hx hrole hfresh hgranted hpeer hlocal hsealed hslot
    have hmay : s.pop.MayOpen c r := ⟨hordinary, halive, hlock, ⟨x, hx, hfresh⟩, hrole, hgranted, hpeer, hlocal, hsealed⟩
    have hbody := hmay.doOpen_eq h.src (hslot : s.pop.freeSlot = some k)
    by_cases hv : s.proofHolds c n = true
    · rw [if_pos (show s.pop.proofHolds c n = true from hv), State.openSlot_free (s := s.pop.proven c) hslot] at hbody
      obtain ⟨t, hrun, rfl, hans⟩ := h.completes ho hbody ⟨rfl, rfl, rfl⟩ (by simp)
      refine ⟨_, hrun, ?_, State.finish_nonces⟩
      rw [if_pos (show Config.ecdsaVerify _ _ _ = true from hv)]
      refine ⟨hans, ⟨((s.pop.proven c).opened c r (field c.payload 4 4) (grantIdle (field c.payload 40 4)) k).marked c.session c.seq .ok, ?_, ?_⟩, by simp [SameBut, State.proven, State.nonceUsed]⟩
      · rw [State.finish_unanswered.2]
        exact List.mem_map_of_mem (List.mem_append_right _ List.mem_cons_self)
      · simp [State.opened, State.proven, State.nonceUsed, State.pop, h.src]
    · rw [if_neg (show ¬ s.pop.proofHolds c n = true from hv)] at hbody
      obtain ⟨hsess, hnonces, hpairs, hrepeats, htaken⟩ := (s.pop.nonceUsed c).failProof_mbx (j := field c.payload 4 4)
      obtain ⟨t, hrun, rfl, hans⟩ := h.completes ho hbody ⟨hpairs, hrepeats, htaken⟩ (Nat.zero_le _)
      refine ⟨_, hrun, ?_, by rw [State.finish_nonces, hnonces]; rfl⟩
      rw [if_neg (show ¬ Config.ecdsaVerify _ _ _ = true from hv)]
      refine ⟨hans, ?_⟩
      rw [State.finish_unanswered.2, List.length_map, hsess]
      rfl
  case close =>
    intro s c n h ho
    obtain ⟨t, hrun, rfl, hans⟩ := h.completes (b := doClose) (r := ⟨.ok, []⟩) ho rfl ⟨rfl, rfl, rfl⟩ (Nat.zero_le _)
    refine ⟨_, hrun, hans, ?_, ?_, ?_, by simp [SameBut]⟩
    · rw [State.finish_unanswered.2]
      exact map_marked_of_ended
    · exact State.finish_subs
    · exact State.finish_energize
  case bind =>
    intro s c n x h ho hx hfree hroom
    obtain ⟨t, hrun, rfl, hans⟩ := h.completes ho (doBind_adds (s := s.pop) hx hfree hroom) ⟨rfl, rfl, rfl⟩ (Nat.zero_le _)
    refine ⟨_, hrun, hans, ?_, by simp [SameBut]⟩
    rw [State.finish_session, State.session_modSession, show s.pop.session c.session = some x from hx]
    · simp
    · exact fun _ => rfl
  case keepalive =>
    intro s c n x h ho hx
    obtain ⟨t, hrun, rfl, hans⟩ := h.completes (b := doKeepalive) (r := ⟨.ok, []⟩) ho rfl ⟨rfl, rfl, rfl⟩ (Nat.zero_le _)
    refine ⟨_, hrun, hans, ?_, by simp [SameBut]⟩
    rw [State.finish_session, State.session_modSession, show s.pop.session c.session = some x from hx]
    · simp
    · exact fun _ => rfl

end Sys2Proof.Machine
end

section
/-! What sending to an endpoint leaves (R304, R318, R541): queues, requests, the key cache and the journal change, and nothing else. -/

namespace Sys2Proof.Machine

variable {s t u : State}

/-- From `s` to `t` the chip has sent to endpoints: transmit queues and requests, the use of keys, and the counters' journal. -/
structure Sent (s t : State) : Prop where
  same : SameBut [.lin, .rad, .col, .glv, .sto, .twn] s t
  keys : ∃ l, t.glv = { s.glv with cache := l }

theorem Sent.refl : Sent s s := ⟨.refl, s.glv.cache, rfl⟩

theorem Sent.trans (h : Sent s t) (h' : Sent t u) : Sent s u := by
  obtain ⟨l, hl⟩ := h.keys
  obtain ⟨l', hl'⟩ := h'.keys
  exact ⟨h.same.trans h'.same, l', by rw [hl', hl]⟩

theorem sameBut_setPort {p : Nat} {x : Port} : SameBut [.lin] s (s.setPort p x) := by simp [SameBut, State.setPort]

theorem sameBut_setRport {p : Nat} {x : RPort} : SameBut [.rad] s (s.setRport p x) := by simp [SameBut, State.setRport]

theorem sameBut_setEp {h : Nat} {e : Endpoint} : SameBut [.col] s (s.setEp h e) := by simp [SameBut, State.setEp]

theorem sameBut_enqueue {p q : Nat} {x : TxUnit} : SameBut [.lin] s (s.enqueue p q x).2 := by
  unfold State.enqueue
  split
  · exact .refl
  · exact sameBut_setPort

theorem sameBut_sendTo {h q : Nat} {b : Bytes} {pr : Producer} : SameBut [.lin, .rad, .col] s (s.sendTo h q b pr) := by
  unfold State.sendTo
  split
  · exact .refl
  · refine SameBut.ite .refl (SameBut.ite (sameBut_enqueue.mono (by decide)) (SameBut.ite (sameBut_setRport.mono (by decide)) ?_))
    simp [SameBut]

/-- A change of queues, requests or the journal alone. -/
theorem Sent.of_sameBut (h : SameBut [.lin, .rad, .col, .sto, .twn] s t) : Sent s t :=
  ⟨h.mono (by decide), s.glv.cache, (sameBut_iff.1 h).1 .glv (by decide)⟩

theorem sent_useKey {h g : Nat} : Sent s (s.useKey h g) := ⟨by simp [SameBut, State.useKey], _, rfl⟩

theorem sent_sendApdu {h q : Nat} {b : Bytes} {pr : Producer} : Sent s (s.sendApdu h q b pr) := by
  unfold State.sendApdu
  split
  · exact .refl
  · exact ((Sent.of_sameBut (sameBut_setEp.mono (by decide))).trans sent_useKey).trans
      ((Sent.of_sameBut (sameBut_post.mono (by decide))).trans (Sent.of_sameBut (sameBut_sendTo.mono (by decide))))

theorem sent_setRequest {r : Request} : Sent s (s.setRequest r) := .of_sameBut (by simp [SameBut, State.setRequest])

theorem sent_pump {c n : Nat} : Sent s (s.pump c n) := by
  induction n generalizing s with
  | zero => exact .refl
  | succ n ih =>
    unfold State.pump
    split
    · exact .refl
    · split
      · exact .refl
      · exact (sent_setRequest.trans sent_sendApdu).trans ih

theorem sent_request {h q op sn : Nat} {poll : Option (Nat × Nat)} {b : Bytes} {cmd : Option Nat} : Sent s (s.request h q op sn poll b cmd) := by
  unfold State.request
  exact (Sent.of_sameBut (t := { s with col := _ }) (by simp [SameBut])).trans sent_pump

end Sys2Proof.Machine
end

section
/-! What ends or completes a command (R49, R57, R58, R67–R69, R73–R76, R81, R746). -/

namespace Sys2Proof.Machine

variable {s u : State} {c : Cmd} {n : Nat}

/-! ### Entering a notification -/

/-- An entry that has room, or is of a kept kind, enters the queue (R74). -/
theorem Mailbox.notify_mem {m : Mailbox} {e : Entry} (h : (e.kept || m.room) = true) : { e with route := m.routeOf e.session } ∈ (m.notify e).notifs := by
  unfold Mailbox.notify
  simp only [h, if_true]
  split <;> simp

theorem State.session_isSome {h : Nat} : (s.session h).isSome = s.mbx.sessions.any (fun x => x.handle == h) := by
  rw [Bool.eq_iff_iff, State.session, List.find?_isSome, List.any_eq_true]

/-- COMPLETE of a session that is open enters the queue (R746). -/
theorem State.complete_notifies {h p r : Nat} {st : Status} (hs : (s.session h).isSome = true) :
    ∃ e ∈ (s.complete h p r st).mbx.notifs, e.kind = kindComplete ∧ e.session = h ∧ e.arrival = r ∧ e.status = st.code := by
  unfold State.complete
  rw [if_pos (State.session_isSome ▸ hs)]
  exact ⟨_, Mailbox.notify_mem rfl, rfl, rfl, rfl, rfl⟩

theorem State.complete_unnotified {h p r : Nat} {st : Status} : (s.complete h p r st).mbx.unnotified = s.mbx.unnotified := by
  unfold State.complete
  split
  · exact Mailbox.notify_unnotified
  · rfl

/-! ### The Guard's approval (R67, R560) -/

/-- The state in which an approved command is sent: the approval counted and checked, the command confirmed. -/
def State.approved (s : State) (e : Energize) : State :=
  { s with
    glv := { s.glv with approvals := (s.glv.approvals + 1) % 2 ^ 32, checked := (s.glv.approvals + 1) % 2 ^ 32 }
    fcr := { s.fcr with approvals := (s.tim.d3, (s.requestCell (s.energizeHandle e)).getD 0, e.target) ::
      s.fcr.approvals.filter (fun x => decide (s.tim.d3 ≤ x.1 + sec (max 60 s.fcr.spacing))) }
    mbx := { s.mbx with energize := s.mbx.energize.filter (fun x => x.arrival != e.arrival), confirmed := s.mbx.confirmed ++ [e.arrival] } }

theorem doEnergizeConfirm_approves {cycles : Nat} {e : Energize} (he : s.mbx.energize.find? (fun x => x.arrival == field c.payload 0 4) = some e)
    (hmay : energizeConfirmer e.opcode (s.sys.mode == .island) c.role c.localSess = true) (hcred : c.cred ≠ e.cred)
    (hpolicy : s.policyCheck e ((s.requestCell (s.energizeHandle e)).getD 0) = none) (hcount : s.glv.checked < (s.glv.approvals + 1) % 2 ^ 32)
    (hage : cycles ≤ 40000000) (hsf : s.fcr.sf0 = false) (hshut : s.gloveShut = false) :
    doEnergizeConfirm true cycles c s = (⟨.ok, []⟩, (s.approved e).sendEnergize e) := by
  have harr : e.arrival = field c.payload 0 4 := by simpa using List.find?_some he
  have hbad : (if (s.glv.approvals + 1) % 2 ^ 32 ≤ s.glv.checked then 2 else if 40000000 < cycles then 3 else 0) = 0 := by
    rw [if_neg (by omega), if_neg (by omega)]
  unfold doEnergizeConfirm
  dsimp only
  rw [he]
  dsimp only
  rw [if_neg (by simp [hmay, hcred]), hpolicy]
  dsimp only
  refine (if_neg ?_).trans ?_
  · rintro (h | h | h)
    · exact h ((if_neg (by decide)).trans hbad)
    · exact absurd (hsf.symm.trans h) (by decide)
    · exact absurd (hshut.symm.trans h) (by decide)
  · rw [← harr]
    rfl

/-- Sending an approved command leaves the Guard's counters and the mailboxes but for notifications. -/
theorem State.sendEnergize_keeps {e : Energize} :
    (s.sendEnergize e).glv.approvals = s.glv.approvals ∧ (s.sendEnergize e).glv.checked = s.glv.checked ∧
      (s.sendEnergize e).mbx.unnotified = s.mbx.unnotified := by
  have hserial : (s.nextSerial (s.energizeHandle e)).2.mbx.unnotified = s.mbx.unnotified := State.setAttr_unnotified
  have hglv : (s.nextSerial (s.energizeHandle e)).2.glv = s.glv := State.setAttr_glv
  have hsent : ∀ {q op sn : Nat} {b : Bytes} {cmd : Option Nat},
      let t := (s.nextSerial (s.energizeHandle e)).2.request (s.energizeHandle e) q op sn none b cmd
      t.glv.approvals = s.glv.approvals ∧ t.glv.checked = s.glv.checked ∧ t.mbx.unnotified = s.mbx.unnotified := by
    intro q op sn b cmd
    obtain ⟨hsame, l, hl⟩ := sent_request (s := (s.nextSerial (s.energizeHandle e)).2) (h := s.energizeHandle e) (q := q) (op := op) (sn := sn) (poll := none) (b := b) (cmd := cmd)
    refine ⟨?_, ?_, ?_⟩
    · rw [hl, hglv]
    · rw [hl, hglv]
    · rw [show _ = _ from (sameBut_iff.1 hsame).1 .mbx (by decide), hserial]
  unfold State.sendEnergize
  dsimp only
  split
  · exact hsent
  · exact hsent

/-! ### The end of a window, a timeout, a lock; a report; a delivery -/

theorem State.discardEnergize_effect {e : Energize} {st : Status} :
    (s.discardEnergize e st).mbx.energize = s.mbx.energize.filter (fun x => x.arrival != e.arrival) ∧ SameBut [.mbx] s (s.discardEnergize e st) ∧
      ((s.session e.session).isSome = true →
        ∃ x ∈ (s.discardEnergize e st).mbx.notifs, x.kind = kindComplete ∧ x.session = e.session ∧ x.arrival = e.arrival ∧ x.status = st.code) := by
  refine ⟨?_, by simp [SameBut, State.discardEnergize], fun h => State.complete_notifies h⟩
  exact (congrArg Mailbox.energize State.complete_unnotified :)

/-- SESSION_END with TIMEOUT (R57). -/
def sessionEndEntry (h : Nat) : Entry :=
  { session := h, sub := 0, kind := kindSessionEnd, path := 0, arrival := 0, status := Status.timeout.code, data := [] }

/-- COMPLETE of a command whose work has ended (R746). -/
def Awaiting.completeEntry (x : Awaiting) (arr : Nat) (st : Status) : Entry :=
  { session := x.session, sub := 0, kind := kindComplete, path := x.path, arrival := arr, status := x.result.getD st.code, data := [] }

theorem execCommandComplete_open {arr : Nat} {st : Status} {x : Awaiting} (hx : s.mbx.awaiting.find? (fun y => y.arrival == arr) = some x)
    (hs : (s.session x.session).isSome = true) :
    execCommandComplete arr st s = .next
      { s with mbx := ({ s.mbx with awaiting := s.mbx.awaiting.filter (fun y => y.arrival != arr) } : Mailbox).notify (x.completeEntry arr st) } := by
  unfold execCommandComplete
  rw [hx]
  exact if_pos (State.session_isSome ▸ hs)

theorem State.locked_of_unlisted {k : Nat} (h : Assoc.find k s.mbx.locks = none) : s.locked k = false := by simp [State.locked, h]

theorem execCredentialLockEnd_listed {k : Nat} (h : Assoc.has k s.mbx.locks = true) :
    execCredentialLockEnd k s = .next (if s.alive 0x0C20 k then
      ({ s with mbx := { s.mbx with locks := Assoc.del k s.mbx.locks } } : State).setNat Attr.RoleCredential.lockedUntil k 0
      else { s with mbx := { s.mbx with locks := Assoc.del k s.mbx.locks } }) := by
  simp only [execCredentialLockEnd, h, if_true]
  rfl

theorem Mailbox.fillLost_pairs {m : Mailbox} : m.fillLost.pairs = m.pairs := by
  have hfold : ∀ (xs : List (Nat × Nat)) (m : Mailbox), (xs.foldl (fun (m : Mailbox) x =>
      if m.room then { m with notifs := m.notifs ++ [{ lostEntry x.1 x.2 with route := m.routeOf x.1 }], lost := Assoc.del x.1 m.lost } else m) m).pairs = m.pairs := by
    intro xs
    induction xs with
    | nil => exact fun _ => rfl
    | cons x xs ih =>
      intro m
      rw [List.foldl_cons, ih]
      split <;> rfl
  exact hfold m.lost m

/-- One delivery to pair 0 writes the run at the front of the queue (R73, R76). -/
theorem execNotificationDeliver_local {e : Entry} {rest : List Entry} (hq : s.mbx.notifs = e :: rest) (hroute : e.route = none) (hfree : (s.pair 0).outFull = false) :
    execNotificationDeliver s = .next
      (({ s with mbx := ({ s.mbx with notifs := s.mbx.notifs.drop (frontRun e.session 127 s.mbx.notifs).length } : Mailbox).fillLost } : State).writeOut 0
        (notifyFrame e.session (frontRun e.session 127 s.mbx.notifs))) := by
  unfold execNotificationDeliver
  split
  next h => rw [hq] at h; cases h
  next e' t h =>
    obtain ⟨rfl, -⟩ := List.cons.inj (hq.symm.trans h)
    dsimp only
    rw [hroute]
    dsimp only
    rw [hfree]
    rfl

/-- The entry of a periodic report of one value (R81). -/
def State.periodEntry (s : State) (b : Subscription) : Entry :=
  { session := b.session, sub := b.id, kind := kindPeriodic, path := mkPath (pathCls b.path) (pathInst b.path) (pathAttr b.path), arrival := 0, status := 0
    data := (((attrInfo (pathCls b.path, pathAttr b.path)).map (fun a => encodeVal a.ty (s.read (pathCls b.path, pathAttr b.path) (pathInst b.path)))).getD []).take 12 }

theorem execPeriodic_one {id : Nat} {b : Subscription} (hb : s.mbx.subs.find? (fun x => x.id == id && x.trigger == 3) = some b) (hinst : pathInst b.path ≠ wildInst)
    (hattr : pathAttr b.path ≠ 0) : execPeriodic id s = .next { s with mbx := s.mbx.notify (s.periodEntry b) } := by
  unfold execPeriodic
  rw [hb]
  dsimp only
  rw [if_neg hinst]
  simp only [hattr, if_false]
  rfl

/-- Settles O3: each row by the lemma about it. -/
theorem commandsComplete : Obligations.CommandsComplete := by
  refine ⟨?confirm, ?complete, ?deliver, ?periodic, ?idle, ?lockEnd, ?window⟩
  case confirm =>
    intro s c n cycles e h ho he hmay hcred hpolicy hcount hage hsf hshut
    have harr : e.arrival = field c.payload 0 4 := by simpa using List.find?_some he
    have hbody := doEnergizeConfirm_approves (s := s.pop) he hmay hcred hpolicy hcount hage hsf hshut
    obtain ⟨happrovals, hchecked, hmbx⟩ := State.sendEnergize_keeps (s := s.pop.approved e) (e := e)
    obtain ⟨t, hrun, rfl, hans⟩ := h.completes ho hbody
      ⟨(congrArg Mailbox.pairs hmbx :), (congrArg Mailbox.repeats hmbx :), (congrArg Mailbox.taken hmbx :)⟩ (Nat.zero_le _)
    refine ⟨_, hrun, hans, ?_, ?_, ?_, ?_⟩
    · rw [State.finish_glv, happrovals]
      rfl
    · rw [State.finish_glv, hchecked]
      rfl
    · have hconfirmed : ((s.pop.approved e).sendEnergize e).mbx.confirmed = s.mbx.confirmed ++ [e.arrival] := (congrArg Mailbox.confirmed hmbx :)
      rw [State.finish_confirmed, hconfirmed, ← harr]
      exact List.mem_append_right _ List.mem_cons_self
    · rw [State.finish_energize, ← harr]
      exact (congrArg Mailbox.energize hmbx :)
  case complete =>
    intro s arr st x hx hsess
    refine ⟨_, execCommandComplete_open hx hsess, ?_, ⟨_, Mailbox.notify_mem rfl, rfl, rfl, rfl, rfl⟩, by simp [SameBut]⟩
    exact (congrArg Mailbox.awaiting Mailbox.notify_unnotified :)
  case deliver =>
    intro s e rest hq hroute hfree hpairs
    have hlen : 0 < s.mbx.pairs.length := List.length_pos_of_ne_nil hpairs
    obtain ⟨h1, h2, -⟩ := State.writeOut_answered (n := 0) (f := notifyFrame e.session (frontRun e.session 127 s.mbx.notifs))
      (u := { s with mbx := ({ s.mbx with notifs := s.mbx.notifs.drop (frontRun e.session 127 s.mbx.notifs).length } : Mailbox).fillLost })
      (by rw [Mailbox.fillLost_pairs]; exact hlen)
    exact ⟨_, execNotificationDeliver_local hq hroute hfree, h1, h2, by simp [SameBut]⟩
  case periodic =>
    intro s id b hb hinst hattr hroom
    exact ⟨_, execPeriodic_one hb hinst hattr, ⟨_, Mailbox.notify_mem (m := s.mbx) (e := s.periodEntry b) (by simp [hroom]), rfl, rfl, rfl, rfl, rfl⟩, by simp [SameBut]⟩
  case idle =>
    intro s h hs
    have hrun : exec (.sessionIdleTimeout h) s = .next (({ s with mbx := s.mbx.notify (sessionEndEntry h) } : State).endSession h) := if_pos hs
    have hmbx := Mailbox.notify_unnotified (m := s.mbx) (e := sessionEndEntry h)
    refine ⟨_, hrun, ?_, ?_, ⟨_, Mailbox.notify_mem (e := sessionEndEntry h) rfl, rfl, rfl, rfl⟩, by simp [SameBut]⟩
    · exact congrArg (List.filter _) (congrArg Mailbox.sessions hmbx :)
    · exact congrArg (List.filter _) (congrArg Mailbox.subs hmbx :)
  case lockEnd =>
    intro s k hk
    refine ⟨_, execCredentialLockEnd_listed hk, ?_, ?_, ?_⟩
    · refine State.locked_of_unlisted ?_
      split
      · rw [State.setNat, State.setAttr_locks]
        exact Assoc.find_del_same
      · exact Assoc.find_del_same
    · intro halive
      rw [if_pos halive]
      exact State.nat_setNat
    · split <;> simp [SameBut]
  case window =>
    intro s arr e he hsess
    have harr : e.arrival = arr := by simpa using List.find?_some he
    obtain ⟨henergize, hsame, hnotif⟩ := State.discardEnergize_effect (s := s) (e := e) (st := .timeout)
    refine ⟨s.discardEnergize e .timeout, ?_, harr ▸ henergize, harr ▸ hnotif hsess, hsame⟩
    show execEnergizeWindowExpiry arr s = _
    simp only [execEnergizeWindowExpiry, he]

end Sys2Proof.Machine
end

section
/-! The doorbells and remote frames of the mailbox (R34–R41, R45, R77, R79). -/

namespace Sys2Proof.Machine

variable {s : State} {n a v : Nat}

/-- The mailboxes without what a distant arrival number drops (R40). -/
def Mailbox.undropped (m : Mailbox) : Mailbox := { m.unnotified with energize := [] }

theorem State.dropDistant_mbx : s.dropDistant.mbx.undropped = s.mbx.undropped := by
  have hgone : ∀ (es : List Energize) (u : State), (es.foldl (fun s e => s.complete e.session e.path e.arrival .timeout) u).mbx.undropped = u.mbx.undropped := by
    intro es
    induction es with
    | nil => exact fun _ => rfl
    | cons e es ih => exact fun u => (ih _).trans (congrArg (fun m : Mailbox => { m with energize := [] }) State.complete_unnotified)
  have hlate : ∀ (xs : List Activity) (u : State),
      (xs.foldl (fun s a => if a.internal then s else s.complete a.session a.path a.arrival .timeout) u).mbx.undropped = u.mbx.undropped := by
    intro xs
    induction xs with
    | nil => exact fun _ => rfl
    | cons x xs ih =>
      intro u
      rw [List.foldl_cons, ih]
      split
      · rfl
      · exact congrArg (fun m : Mailbox => { m with energize := [] }) State.complete_unnotified
  unfold State.dropDistant
  dsimp only
  rw [hlate, hgone]
  rfl

theorem sameBut_dropDistant : SameBut [.mbx, .fcr] s s.dropDistant := by
  unfold State.dropDistant
  dsimp only
  have hfold : ∀ {u : State}, SameBut [.mbx, .fcr] s u → ∀ {es : List Energize} {xs : List Activity}, SameBut [.mbx, .fcr] s
      (xs.foldl (fun s a => if a.internal then s else s.complete a.session a.path a.arrival .timeout)
        (es.foldl (fun s e => s.complete e.session e.path e.arrival .timeout) u)) :=
    fun hu _ _ => (hu.trans (SameBut.foldl fun _ _ => sameBut_complete.mono (by decide))).trans
      (SameBut.foldl fun _ _ => SameBut.ite .refl (sameBut_complete.mono (by decide)))
  exact hfold (by simp [SameBut])

/-- The state in which the next arrival number has been given out (R40). -/
def State.arrived (s : State) : State := s.nextArrival.dropDistant

theorem State.arrived_mbx :
    s.arrived.mbx.arrival = s.nextArrival.mbx.arrival ∧ s.arrived.mbx.taken = s.mbx.taken ∧ s.arrived.mbx.sessions = s.mbx.sessions ∧
      s.arrived.mbx.pairs = s.mbx.pairs ∧ s.arrived.mbx.vbusy = s.mbx.vbusy := by
  have h := s.nextArrival.dropDistant_mbx
  simp only [Mailbox.undropped, Mailbox.unnotified, Mailbox.mk.injEq] at h
  obtain ⟨hpairs, harrival, htaken, -, hvbusy, -, -, -, -, hsessions, -⟩ := h
  exact ⟨harrival, htaken, hsessions, hpairs, hvbusy⟩

theorem sameBut_nextArrival : SameBut [.mbx] s s.nextArrival := by
  unfold State.nextArrival
  exact sameBut_mbx

theorem sameBut_arrived : SameBut [.mbx, .fcr] s s.arrived := (sameBut_nextArrival.mono (by decide)).trans sameBut_dropDistant

/-- A SESSION_CHALLENGE over a way bound to no session, whose frame passes its checks, waits to be executed (R45, R53, R56). -/
theorem State.intake_challenge {src : Src} {f b key : Bytes} {addr : Int} {arr : Nat} (hchk : headerChecks f (frameCmd src f b key addr arr) = none)
    (hop : (frameCmd src f b key addr arr).opcode = opChallenge) (hfree : s.boundTo src = none) :
    s.intake src f b key addr arr = s.take (frameCmd src f b key addr arr) := by
  simp only [State.intake, hchk, hop, true_or, if_true, hfree]

theorem execInRing_taken {w : Option BufWrite} (hpos : 1 ≤ n) (hlt : n < 64) (hbusy : (s.pair n).inBusy = false) (hready : s.ready = true)
    (hhandover : s.sys.handover = false) :
    let p := match w with | some x => { s.pair n with inbuf := x.frame, bar4 := x.bulk } | none => s.pair n
    execInRing n w s = .next ((s.arrived.setPair n { p with inBusy := true }).intake (.pair n) p.inbuf p.bar4 [] 0 s.arrived.mbx.arrival) := by
  have hn : ¬ (n = 0 ∨ 64 ≤ n) := by omega
  have hh : ¬ s.arrived.sys.handover = true := by
    rw [show s.arrived.sys = s.sys from (sameBut_iff.1 sameBut_arrived).1 .sys (by decide), hhandover]
    decide
  unfold execInRing
  rw [if_neg hn]
  dsimp only
  rw [hbusy, hready]
  exact (if_neg (by decide)).trans ((if_neg (by decide)).trans (if_neg hh))

theorem State.writeOut_waiting {f : Bytes} (hn : n < s.mbx.pairs.length) : ((s.writeOut n f).pair n).waiting = none := by
  have hpair : ∀ p : Pair, (s.setPair n p).pair n = p := fun _ => State.pair_setPair_same hn
  unfold State.writeOut
  dsimp only
  split <;> exact congrArg Pair.waiting (hpair _)

theorem State.writeOut_pair_ne {f : Bytes} {m : Nat} (hm : m ≠ n) : (s.writeOut n f).pair m = s.pair m := by
  have hpair : ∀ p : Pair, (s.setPair n p).pair m = s.pair m := fun _ => State.pair_setPair_ne hm
  unfold State.writeOut
  dsimp only
  split <;> exact hpair _

/-- The state in which a virtual pair executes a command (R79). -/
def State.occupy (s : State) (a v : Nat) : State := { s with mbx := { s.mbx with vbusy := s.mbx.vbusy ++ [(a, v)] } }

theorem execRemoteFrame_taken {key f : Bytes} {addr : Int} (hlo : 1 ≤ v) (hhi : v ≤ 8) (ha : a < 16) (hready : s.ready = true)
    (hidle : s.mbx.vbusy.contains (a, v) = false) (hhandover : s.sys.handover = false) :
    execRemoteFrame a v key addr f s = .next ((s.arrived.occupy a v).intake (.vpair a v) f [] key addr s.arrived.mbx.arrival) := by
  have hv : ¬ (v = 0 ∨ 8 < v ∨ 16 ≤ a) := by omega
  have hh : ¬ (s.arrived.occupy a v).sys.handover = true := by
    rw [show (s.arrived.occupy a v).sys = s.sys from (sameBut_iff.1 sameBut_arrived).1 .sys (by decide), hhandover]
    decide
  unfold execRemoteFrame
  rw [if_neg hv, hready, hidle]
  exact (if_neg (by decide)).trans ((if_neg (by decide)).trans (if_neg hh))

/-- Settles O4: a frame that passes its checks is taken under its arrival number; the other two rows write one pair. -/
theorem doorbells : Obligations.Doorbells := by
  refine ⟨?ring, ?outDone, ?response, ?remote⟩
  case ring =>
    intro s n w hpos hlt hlen hbusy hready hhandover hfree f b c hchk hop
    obtain ⟨harr, htaken, hsess, hpairs, -⟩ := s.arrived_mbx
    have harr' : s.arrived.mbx.arrival = (s.mbx.arrival + 1) % 2 ^ 32 := harr.trans (by unfold State.nextArrival; rfl)
    have hrun := execInRing_taken (w := w) hpos hlt hbusy hready hhandover
    dsimp only at hrun
    rw [harr'] at hrun
    have hn : n < s.arrived.mbx.pairs.length := by rw [hpairs, hlen]; exact hlt
    have hsame : ∀ p x, SameBut [.mbx, .fcr] s ((s.arrived.setPair n p).take x) := fun p x => sameBut_arrived.trans (by simp [SameBut, State.take])
    have hbound : ∀ p, (s.arrived.setPair n p).boundTo (.pair n) = none := by
      intro p
      rw [← hfree]
      exact congrArg (List.find? _) hsess
    cases w with
    | none =>
      refine ⟨_, hrun.trans (congrArg _ (State.intake_challenge hchk hop (hbound _))), harr', congrArg (· ++ [_]) htaken, ?_, hsame _ _⟩
      exact congrArg Pair.inBusy (State.pair_setPair_same (s := s.arrived) hn)
    | some x =>
      refine ⟨_, hrun.trans (congrArg _ (State.intake_challenge hchk hop (hbound _))), harr', congrArg (· ++ [_]) htaken, ?_, hsame _ _⟩
      exact congrArg Pair.inBusy (State.pair_setPair_same (s := s.arrived) hn)
  case outDone =>
    intro s n hn
    have hpair : (s.setPair n { s.pair n with outFull := false }).pair n = { s.pair n with outFull := false } := State.pair_setPair_same hn
    exact ⟨_, rfl, by rw [hpair], by rw [hpair], fun m hm => State.pair_setPair_ne hm, by simp [SameBut]⟩
  case response =>
    intro s n f hn hf hfree
    have hrun : exec (.responseWritten n) s = .next (s.writeOut n f) := by
      show execResponseWritten n s = _
      unfold execResponseWritten
      rw [hf, hfree]
      rfl
    obtain ⟨hout, hfull, hbusy, -, -⟩ := State.writeOut_answered (f := f) hn
    exact ⟨_, hrun, hout, hfull, hbusy, State.writeOut_waiting hn, fun m hm => State.writeOut_pair_ne hm, by simp [SameBut]⟩
  case remote =>
    intro s a v key f addr hlo hhi ha hready hidle hhandover hfree c hchk hop
    obtain ⟨harr, htaken, hsess, -, -⟩ := s.arrived_mbx
    have harr' : s.arrived.mbx.arrival = (s.mbx.arrival + 1) % 2 ^ 32 := harr.trans (by unfold State.nextArrival; rfl)
    have hrun := execRemoteFrame_taken (key := key) (addr := addr) (f := f) hlo hhi ha hready hidle hhandover
    have hbound : (s.arrived.occupy a v).boundTo (.vpair a v) = none := by
      rw [← hfree]
      exact congrArg (List.find? _) hsess
    rw [harr', State.intake_challenge hchk hop hbound] at hrun
    exact ⟨_, hrun, harr', congrArg (· ++ [_]) htaken, List.mem_append_right _ List.mem_cons_self, sameBut_arrived.trans (by simp [SameBut, State.take, State.occupy])⟩

end Sys2Proof.Machine
end

section
/-! Resets (R90–R94, R109, R110, R120, R595, R699). -/

namespace Sys2Proof.Machine

variable {s : State}

/-- A CHIP reset sets its cause bit (Table 03-13). -/
theorem State.chipReset_cause {k : Nat} (hk : k < 11) : (s.chipReset (causeBit k)).sys.resetCause.getLsbD k = true := by
  have hbit : (causeBit k).getLsbD k = true := by
    unfold causeBit
    rw [BitVec.getLsbD_ofNat, Nat.testBit_two_pow_self]
    simp [hk]
  show (BitVec.getLsbD (_ ||| causeBit k ||| _) k) = true
  simp [BitVec.getLsbD_or, hbit]

/-- What stands after any CHIP reset: the chip boots, silent, with no session and nothing taken (R92, R93). -/
structure State.Restarted (t : State) : Prop where
  mode : t.sys.mode = .booting
  low : t.sys.resetOutLow = true
  ready : t.sys.purelReady = false
  stalemate : t.sys.stalemate = false
  enables : t.sys.txEnable = false
  claim : t.twn.claimOut = false
  step : t.sys.bootStep = 0
  sessions : t.mbx.sessions = []
  taken : t.mbx.taken = []
  notifs : t.mbx.notifs = []
  halted : t.dbg.halted = false
  safe : t.fcr.sf0 = false

theorem State.chipReset_restarted {cause : BitVec 11} : (s.chipReset cause).Restarted :=
  ⟨rfl, rfl, rfl, rfl, rfl, rfl, rfl, rfl, rfl, rfl, rfl, rfl⟩

/-- The alarms after a backup-domain reset: disabled, with no last fire (R595). -/
def State.alarmsCleared (s : State) : State :=
  [0, 1, 2, 3].foldl (fun (s : State) n => (s.setFlag Attr.RtcAlarm.enable n false).setNat Attr.RtcAlarm.lastFire n 0) s

/-- The attributes of the backup domain at their reset values (R595). -/
def State.backupCleared (s : State) : State :=
  (((s.alarmsCleared.setNat Attr.GloveboxService.tripCount 0 0).setFlag Attr.GloveboxService.otpLocked 0 false).setAttr Attr.RealTimeClock.tcompCurve 0
    (dfltVal Attr.RealTimeClock.tcompCurve)).setNat Attr.RealTimeClock.agingOffset 0 0

theorem State.backupCleared_same : SameBut [.mbx, .obj] s s.backupCleared := by
  have halarms : SameBut [.mbx, .obj] s s.alarmsCleared := SameBut.foldl fun _ _ => sameBut_setFlag.trans sameBut_setNat
  exact (((halarms.trans sameBut_setNat).trans sameBut_setFlag).trans sameBut_setAttr).trans sameBut_setNat

theorem State.backupCleared_tripCount : s.backupCleared.nat Attr.GloveboxService.tripCount 0 = 0 := by
  unfold State.backupCleared
  rw [State.nat_setNat_ne (by decide), State.nat_setAttr_ne (by decide), State.setFlag, State.nat_setAttr_ne (by decide)]
  exact State.nat_setNat

/-- The rest of a backup-domain reset acts on a state that differs from `s` in attributes only. -/
theorem execBackupDomainReset_eq : ∃ u : State, SameBut [.mbx, .obj] s u ∧ u.nat Attr.GloveboxService.tripCount 0 = 0 ∧
    execBackupDomainReset s = .next { u with
      sys := { u.sys with resetCause := causeBit 0, causeValid := false, causeSource := 0, tamperLatched := false }
      tim := { u.tim with rtc := {} }
      recd := { u.recd with tail := [] }
      glv := { u.glv with bank := none, erased := false, firstTrip := none, hatSeeds := [] } } := by
  refine ⟨s.backupCleared, s.backupCleared_same, s.backupCleared_tripCount, ?_⟩
  unfold execBackupDomainReset State.backupCleared State.alarmsCleared
  dsimp only

/-- Settles O5: every CHIP reset is `chipReset`; the other two rows by their own equations. -/
theorem resets : Obligations.Resets := by
  refine ⟨?chip, ?stalemate, ?purel, ?backup, ?unkeyed⟩
  case chip =>
    intro s i bit hi
    have hreset : ∃ u : State, exec i s = .next (u.chipReset (causeBit bit)) ∧ bit < 11 := by
      simp only [List.mem_cons, List.not_mem_nil, or_false, Prod.mk.injEq] at hi
      rcases hi with ⟨rfl, rfl⟩ | ⟨rfl, rfl⟩ | ⟨rfl, rfl⟩ | ⟨rfl, rfl⟩ | ⟨rfl, rfl⟩
      · exact ⟨s, rfl, by decide⟩
      · exact ⟨s, rfl, by decide⟩
      · exact ⟨s, rfl, by decide⟩
      · exact ⟨s, rfl, by decide⟩
      · exact ⟨s.transmitOff, rfl, by decide⟩
    obtain ⟨u, hrun, hbit⟩ := hreset
    obtain ⟨hmode, hlow, hready, hstale, hen, hclaim, hstep, hsess, htaken, hnotifs, hhalt, hsafe⟩ := u.chipReset_restarted (cause := causeBit bit)
    exact ⟨_, hrun, hmode, hlow, hready, hstale, hen, hclaim, hstep, State.chipReset_cause hbit, hsess, htaken, hnotifs, hhalt, hsafe⟩
  case stalemate =>
    intro s hstale htimer
    have h := s.chipReset_restarted (cause := causeBit 10)
    exact ⟨_, if_pos ⟨hstale, htimer⟩, h.mode, h.stalemate, h.enables, h.claim, State.chipReset_cause (by decide), h.sessions⟩
  case purel =>
    intro s
    exact ⟨s.purelReset 4, rfl, rfl, rfl, rfl, rfl, rfl, rfl, rfl, rfl, rfl, by simp [SameBut, State.purelReset, State.endAllSessions]⟩
  case backup =>
    intro s
    obtain ⟨u, hsame, htrips, hrun⟩ := execBackupDomainReset_eq (s := s)
    have hsys : u.sys = s.sys := hsame.area .sys
    have hrecd : u.recd = s.recd := hsame.area .recd
    exact ⟨_, hrun, rfl, rfl, rfl, rfl, rfl, rfl, htrips, (congrArg Sys.mode hsys :), (congrArg Recorder.mirror hrecd :),
      (hsame.mono (by decide)).trans (by simp [SameBut])⟩
  case unkeyed =>
    intro s key hkey
    exact ⟨if_neg hkey, if_neg hkey⟩

end Sys2Proof.Machine
end

section
/-! Hardware queues and their host registers (R702, R704–R707, R709). -/

namespace Sys2Proof.Machine

variable {s t : State} {n m : Nat} {q : QueueState}

/-! ### The queues of a state -/

@[simp] theorem State.queue_setQueue : (s.setQueue n q).queue n = q := by
  simp [State.queue, State.setQueue]

theorem State.queue_setQueue_ne (h : m ≠ n) : (s.setQueue n q).queue m = s.queue m := by
  simp [State.queue, State.setQueue, Assoc.find_put_ne h]

theorem sameBut_setQueue : SameBut [.que] s (s.setQueue n q) := by simp [SameBut, State.setQueue]

theorem State.queue_congr (h : t.que = s.que) : t.queue n = s.queue n := by simp only [State.queue, h]

@[simp] theorem State.setQueue_nat {a : Nat × Nat} {i : Nat} : (s.setQueue n q).nat a i = s.nat a i := rfl

@[simp] theorem State.setQueue_backlog : (s.setQueue n q).que.backlog = s.que.backlog := rfl

@[simp] theorem State.arr_setAttr {a : Nat × Nat} {i : Nat} {xs : List Int} : (s.setAttr a i (.arr xs)).arr a i = xs := by
  simp only [State.arr, State.attr_setAttr]

theorem State.elem_setElem {a : Nat × Nat} {i k : Nat} {v : Int} (h : k < (s.arr a i).length) : (s.setElem a i k v).elem a i k = v := by
  simp [State.elem, State.setElem, h]

theorem State.queueCount_elem {k : Nat} (hk : k < (s.arr Attr.HardwareQueue.counters n).length) :
    (s.queueCount n k).elem Attr.HardwareQueue.counters n k = min (s.elem Attr.HardwareQueue.counters n k + 1) 0xFFFFFFFF :=
  State.elem_setElem hk

theorem sameBut_queueCount {k : Nat} : SameBut [.mbx, .obj] s (s.queueCount n k) := sameBut_setAttr

@[simp] theorem State.queueCount_queue {k : Nat} : (s.queueCount n k).queue m = s.queue m := State.queue_congr State.setElem_que

/-! ### Pushing, closing and releasing -/

/-- Below its level a queue records nothing (R704). -/
theorem State.queueLevel_below (hhigh : (s.queue n).high = false)
    (hlow : (s.queue n).words.length * 100 < s.nat Attr.HardwareQueue.sizeWords n * s.nat Attr.HardwareQueue.highWaterPct n) : s.queueLevel n = s := by
  simp only [State.queueLevel, hhigh, Bool.not_false, Bool.true_and, Bool.false_and, decide_eq_true_eq, Bool.false_eq_true, ↓reduceIte]
  exact if_neg (by omega)

theorem State.push_full {w : Nat} (hp : (s.queue n).poisoned = false) (hfull : s.nat Attr.HardwareQueue.sizeWords n ≤ (s.queue n).words.length) :
    (s.push n w).2 = s.setQueue n { s.queue n with wasFull := true } := by
  simp [State.push, hp, hfull]

theorem State.push_below {w : Nat} (hp : (s.queue n).poisoned = false) (hhigh : (s.queue n).high = false)
    (hroom : (s.queue n).words.length < s.nat Attr.HardwareQueue.sizeWords n)
    (hlow : ((s.queue n).words.length + 1) * 100 < s.nat Attr.HardwareQueue.sizeWords n * s.nat Attr.HardwareQueue.highWaterPct n) :
    (s.push n w).2 =
      s.setQueue n { s.queue n with words := (s.queue n).words ++ [⟨w % 2 ^ 64, false, false⟩], opened := true, wasFull := false } := by
  simp only [State.push, hp, Bool.false_eq_true, ↓reduceIte, if_neg (Nat.not_le.2 hroom)]
  exact State.queueLevel_below (by simpa using hhigh) (by simpa using hlow)

theorem commitWords_length (ws : List QWord) : (commitWords ws).length = ws.length := by
  induction ws using commitWords.induct <;> simp_all [commitWords]

theorem commitWords_bits (ws : List QWord) : (commitWords ws).map QWord.bits = ws.map QWord.bits := by
  induction ws using commitWords.induct <;> simp_all [commitWords]

theorem commitWords_committed (ws : List QWord) : ∀ w ∈ commitWords ws, w.committed = true := by
  induction ws using commitWords.induct <;> simp_all [commitWords]

/-- Where no item waits for room, nothing is pushed again. -/
theorem State.pushBacklog_of_empty (h : s.que.backlog = []) : s.pushBacklog n = s := by
  simp only [State.pushBacklog, h, List.filter_nil, List.foldl_nil]
  rw [← h]

theorem State.releaseWords_below (hback : s.que.backlog = []) (hhigh : (s.queue n).high = false)
    (hlow : ((s.queue n).words.length - (s.queue n).rd) * 100 < s.nat Attr.HardwareQueue.sizeWords n * s.nat Attr.HardwareQueue.highWaterPct n) :
    s.releaseWords n = s.setQueue n { s.queue n with words := (s.queue n).words.drop (s.queue n).rd, rd := 0, mark := none } := by
  unfold State.releaseWords
  dsimp only
  rw [State.queueLevel_below (by simpa using hhigh) (by simpa using hlow), State.pushBacklog_of_empty]
  exact hback

/-! ### Flushing -/

theorem State.txBodies_of_lt (h : n < 128) : s.txBodies n = [] := by
  unfold State.txBodies
  rw [if_neg (by omega), if_neg (by omega)]

theorem State.emptyTx_of_lt (h : n < 128) : s.emptyTx n = s := by
  unfold State.emptyTx
  rw [if_neg (by omega), if_neg (by omega)]

/-- A flush of a queue that no port owns (R707). -/
theorem State.flushQueue_of_lt {cause : Nat} (h : n < 128) :
    s.flushQueue n cause =
      (((s.queue n).flush.1, (s.queue n).words.length),
        ((s.setQueue n (s.queue n).flush.2.2).queueCount n 0).raise 0x0301 (objPath 0x1101 n)
          [(n : Int), ((s.queue n).flush.1 : Int), ((s.queue n).words.length : Int), (cause : Int)]) := by
  simp only [State.flushQueue, State.wordsUsed, State.txBodies_of_lt h, State.emptyTx_of_lt h, List.length_nil, List.map_nil, List.sum_nil, Nat.add_zero]
  rfl

/-- A flush of such a queue where no item waits for room. -/
theorem State.flushed_of_lt {cause : Nat} (h : n < 128) (hback : s.que.backlog = []) :
    ((s.flushQueue n cause).2.pushBacklog n).queue n = (s.queue n).flush.2.2 ∧ (((s.flushQueue n cause).2.pushBacklog n).queue n).words = [] ∧
      (0 < (s.arr Attr.HardwareQueue.counters n).length → ((s.flushQueue n cause).2.pushBacklog n).elem Attr.HardwareQueue.counters n 0 =
        min (s.elem Attr.HardwareQueue.counters n 0 + 1) 0xFFFFFFFF) ∧
      ((s.flushQueue n cause).2.pushBacklog n).recd = s.recd.ordinary ⟨0x0301, objPath 0x1101 n,
        [(n : Int), ((s.queue n).flush.1 : Int), ((s.queue n).words.length : Int), (cause : Int)]⟩ ∧
      SameBut [.que, .obj, .mbx, .recd] s ((s.flushQueue n cause).2.pushBacklog n) := by
  rw [State.flushQueue_of_lt h]
  dsimp only
  rw [State.pushBacklog_of_empty (by simpa [State.queueCount] using hback)]
  have hqueue : (((s.setQueue n (s.queue n).flush.2.2).queueCount n 0).raise 0x0301 (objPath 0x1101 n)
      [(n : Int), ((s.queue n).flush.1 : Int), ((s.queue n).words.length : Int), (cause : Int)]).queue n = (s.queue n).flush.2.2 :=
    (State.queue_congr State.raise_que).trans (State.queueCount_queue.trans State.queue_setQueue)
  refine ⟨hqueue, congrArg QueueState.words hqueue, fun hlen => ?_, ?_, ?_⟩
  · exact State.queueCount_elem (s := s.setQueue n (s.queue n).flush.2.2) hlen
  · simp [State.queueCount, State.setQueue, State.raise]
  · exact ((sameBut_setQueue.mono (by decide)).step sameBut_queueCount).step sameBut_raise

/-! ### The obligation -/

theorem State.readWord_committed {w : QWord} (htaken : (s.queue n).taken = false) (hcut : (s.queue n).cut = false)
    (hw : (s.queue n).words[(s.queue n).rd]? = some w) (hc : w.committed = true) :
    s.readWord n = s.setQueue n { s.queue n with taken := true, lastValue := w.bits, last := w.last, mid := !w.last } := by
  have hnext : (s.queue n).next (s.nat Attr.HardwareQueue.ctWords n) = some w := by simp [QueueState.next, hw, hc]
  simp [State.readWord, hnext, htaken, hcut, hc]

theorem State.readWord_empty (htaken : (s.queue n).taken = false) (hcut : (s.queue n).cut = false) (hw : (s.queue n).words = []) :
    s.readWord n = (s.setQueue n { s.queue n with underrun := true }).queueCount n 1 := by
  simp [State.readWord, QueueState.next, htaken, hcut, hw]

/-- Settles O46: each register by what it does to the one queue it names. -/
theorem hostQueues : Obligations.HostQueues := by
  refine ⟨?lo, ?foreign, ?push, ?full, ?close, ?read, ?underrun, ?advance, ?mark, ?rewind, ?unmarked, ?release, ?flush, ?command⟩
  case lo =>
    intro s n v hn hprod
    exact ⟨_, (if_neg (by omega)).trans (if_neg (by simp [hprod])), State.queue_setQueue, fun m hm => State.queue_setQueue_ne hm, sameBut_setQueue⟩
  case foreign =>
    intro s n v hn hprod hlen
    exact ⟨_, (if_neg (by omega)).trans (if_pos (by simp [hprod])), State.queueCount_elem (by omega), sameBut_queueCount.mono (by decide)⟩
  case push =>
    intro s n v hn hprod hp hhigh hlow hroom
    refine ⟨_, (if_neg (by omega)).trans (if_neg (by simp [hprod])), ?_⟩
    rw [State.push_below hp hhigh hroom hlow]
    exact ⟨State.queue_setQueue, fun m hm => State.queue_setQueue_ne hm, sameBut_setQueue⟩
  case full =>
    intro s n v hn hprod hp hfull
    refine ⟨_, (if_neg (by omega)).trans (if_neg (by simp [hprod])), ?_⟩
    rw [State.push_full hp hfull.ge]
    exact ⟨State.queue_setQueue, sameBut_setQueue⟩
  case close =>
    intro s n hn hprod hopen hp
    have hclose : s.closeItem n = s.setQueue n { s.queue n with
        opened := false, words := commitWords (s.queue n).words, mid := (s.queue n).mid && decide ((s.queue n).rd < (s.queue n).words.length) } := by
      simp [State.closeItem, hopen, hp]
    refine ⟨s.closeItem n, congrArg Host.Outcome.next (if_pos ⟨hn, hprod⟩), ?_⟩
    rw [hclose]
    dsimp only
    rw [State.queue_setQueue]
    exact ⟨rfl, commitWords_length _, commitWords_committed _, commitWords_bits _, fun m hm => State.queue_setQueue_ne hm, sameBut_setQueue⟩
  case read =>
    intro s n w hn hprod htaken hcut hw hc
    refine ⟨_, (if_neg (by omega)).trans (if_neg (by simp [hprod])), ?_⟩
    rw [State.readWord_committed htaken hcut hw hc]
    dsimp only
    rw [State.queue_setQueue, State.queue_setQueue]
    exact ⟨rfl, sameBut_setQueue.trans sameBut_setQueue⟩
  case underrun =>
    intro s n hn hprod htaken hcut hw hlen
    refine ⟨_, (if_neg (by omega)).trans (if_neg (by simp [hprod])), ?_⟩
    rw [State.readWord_empty htaken hcut hw]
    dsimp only
    rw [State.queue_setQueue, State.queueCount_queue, State.queue_setQueue]
    exact ⟨rfl, rfl, rfl, State.queueCount_elem (s := s.setQueue n _) (k := 1) (show 1 < (s.arr Attr.HardwareQueue.counters n).length by omega),
      ((sameBut_setQueue.mono (by decide)).step sameBut_queueCount).step sameBut_setQueue⟩
  case advance =>
    intro s n hn hprod htaken
    refine ⟨_, (if_neg (by omega)).trans (if_neg (by simp [hprod])), ?_⟩
    have hadv : s.advance n = s.setQueue n { s.queue n with taken := false, rd := (s.queue n).rd + 1 } := if_pos htaken
    rw [hadv]
    dsimp only
    rw [State.queue_setQueue, State.queue_setQueue]
    exact ⟨rfl, sameBut_setQueue.trans sameBut_setQueue⟩
  case mark =>
    intro s n hn hprod
    exact ⟨_, congrArg Host.Outcome.next (if_pos ⟨hn, by simp [hprod]⟩), State.queue_setQueue, sameBut_setQueue⟩
  case rewind =>
    intro s n r mid hn hprod hmark
    refine ⟨s.setQueue n { s.queue n with rd := r, mid := mid, taken := false }, congrArg Host.Outcome.next ?_, State.queue_setQueue, sameBut_setQueue⟩
    simp [State.hostRewind, hn, hprod, hmark]
  case unmarked =>
    intro s n hprod hmark
    refine ⟨s, congrArg Host.Outcome.next ?_, rfl⟩
    simp [State.hostRewind, hmark]
  case release =>
    intro s n hn hprod hback hhigh hlow
    refine ⟨s.releaseWords n, congrArg Host.Outcome.next (if_pos ⟨hn, by simp [hprod]⟩), ?_⟩
    rw [State.releaseWords_below hback hhigh hlow]
    exact ⟨State.queue_setQueue, fun m hm => State.queue_setQueue_ne hm, sameBut_setQueue⟩
  case flush =>
    intro s n hn hback hlen
    obtain ⟨hq, hw, hc, hr, hsame⟩ := State.flushed_of_lt (cause := 1) (show n < 128 by omega) hback
    exact ⟨_, congrArg Host.Outcome.next (if_pos hn), hq, hw, hc (by omega), hr, hsame.mono (by decide)⟩
  case command =>
    intro s c n k h ho hk hlt hback
    obtain ⟨hq, hw, -, hr, hsame⟩ := State.flushed_of_lt (s := s.pop) (cause := 0) hlt (by simpa using hback)
    have hbody : doQueueFlush c s.pop =
        (⟨.ok, leBytes 4 (s.queue k).flush.1 ++ leBytes 4 (s.queue k).words.length⟩, (s.pop.flushQueue k 0).2.pushBacklog k) := by
      simp only [doQueueFlush, hk, State.flushQueue_of_lt hlt]
      rfl
    have hpoised : Poised s ((s.pop.flushQueue k 0).2.pushBacklog k) := by
      rw [State.flushQueue_of_lt hlt]
      dsimp only
      rw [State.pushBacklog_of_empty (by simpa [State.queueCount] using hback)]
      exact (Poised.setAttr (u := s.pop.setQueue k _) (poised_pop.of_mbx rfl)).of_mbx rfl
    obtain ⟨t, hrun, rfl, hans⟩ := h.completes ho hbody hpoised (by simp)
    have hcongr : ∀ {u : State} {r : Reply}, (u.finish c r).queue k = u.queue k := State.queue_congr (by simp)
    exact ⟨_, hrun, hans, hcongr.symm ▸ hw, State.finish_recd.trans hr, (sameBut_pop.mono (by decide)).trans ((hsame.mono (by decide)).step sameBut_finish)⟩

end Sys2Proof.Machine
end

section
/-! The event recorder (R712–R718, R720, R722, R723). -/

namespace Sys2Proof.Machine

variable {s : State} {n : Nat} {e : Event} {safety : Bool}

/-! ### Committing an event -/

theorem sameBut_eventNotify {x : Record} : SameBut [.mbx] s (s.eventNotify x) := by simp [SameBut, State.eventNotify]

theorem State.eventNotify_unnotified {x : Record} : (s.eventNotify x).mbx.unnotified = s.mbx.unnotified := Mailbox.notifyAll_unnotified

/-- What stands after a new record: it is the last one and the newest of the ring. -/
structure Recorder.Stored (r u : Recorder) (x : Record) : Prop where
  ring : u.ring = r.ring ++ [x]
  head : u.head = x.seq
  last : u.last = some x
  mirror : u.mirror = r.mirror
  gapRun : u.gapRun = r.gapRun
  safetyIn : u.safetyIn = r.safetyIn
  latched : u.latched = r.latched
  ordinaryIn : u.ordinaryIn = r.ordinaryIn
  dropCount : u.dropCount = r.dropCount
  overflows : u.overflows = r.overflows

theorem Recorder.stored_store {r : Recorder} {x : Record} (h : r.ring.length < 16384) : r.Stored (r.store x) x := by
  have hstore : r.store x = { r with
      ring := r.ring ++ [x], tail := (r.tail ++ [x]).drop ((r.tail ++ [x]).length - 256), head := x.seq, last := some x
      loaderSeq := if x.seq % 65536 = 0 then some x.seq else r.loaderSeq } := by
    unfold Recorder.store
    cases hr : r.ring with
    | nil => simp [hr]
    | cons y ys =>
      dsimp only
      rw [if_neg (by rw [← hr]; omega)]
      simp only [hr]
  rw [hstore]
  exact ⟨rfl, rfl, rfl, rfl, rfl, rfl, rfl, rfl, rfl, rfl⟩

/-- An event that repeats no last record is committed under the next sequence (R713, R716). -/
theorem State.commitEvent_new (hlast : s.recd.last = none) (hhead : s.recd.head < 0xFFFFFFFE) (hring : s.recd.ring.length < 16384) :
    s.recd.Stored (s.commitEvent e safety).recd ⟨s.recd.head + 1, e.code, 1, e.path, e.args, safety⟩ ∧ SameBut [.recd, .mbx] s (s.commitEvent e safety) ∧
      (s.commitEvent e safety).mbx.unnotified = s.mbx.unnotified := by
  have hcommit : s.commitEvent e safety =
      ({ s with recd := s.recd.store ⟨s.recd.head + 1, e.code, 1, e.path, e.args, safety⟩ }).eventNotify ⟨s.recd.head + 1, e.code, 1, e.path, e.args, safety⟩ := by
    simp only [State.commitEvent, hlast, Option.filter_none]
    exact if_neg (Nat.not_le.2 hhead)
  rw [hcommit]
  exact ⟨Recorder.stored_store hring, (SameBut.refl.set_recd).step sameBut_eventNotify, State.eventNotify_unnotified⟩

/-- An event equal to the last record counts it (R713). -/
theorem State.commitEvent_repeat {x : Record} (hlast : s.recd.last = some x) (hcode : x.code = e.code) (hpath : x.path = e.path) (hargs : x.args = e.args)
    (hcount : x.count < 65535) :
    (s.commitEvent e safety).recd.head = s.recd.head ∧ (s.commitEvent e safety).recd.last = some { x with count := x.count + 1 } ∧
      (s.commitEvent e safety).recd.ring = setCount x.seq (x.count + 1) s.recd.ring ∧ (s.commitEvent e safety).recd.ordinaryIn = s.recd.ordinaryIn ∧
      (s.commitEvent e safety).recd.gapRun = s.recd.gapRun ∧ SameBut [.recd, .mbx] s (s.commitEvent e safety) := by
  simp only [State.commitEvent, hlast, Option.filter_some, hcode, hpath, hargs, hcount, beq_self_eq_true, decide_true, Bool.and_self, ↓reduceIte]
  split
  · exact ⟨rfl, rfl, rfl, rfl, rfl, (SameBut.refl.set_recd).step sameBut_eventNotify⟩
  · exact ⟨rfl, rfl, rfl, rfl, rfl, SameBut.refl.set_recd⟩

/-- An ordinary event is committed where no safety event waits (R712). -/
theorem execRecordCommitted_ordinary {es : List Event} (hs : s.recd.safetyIn = []) (ho : s.recd.ordinaryIn = e :: es) :
    execRecordCommitted s = .next (({ s with recd := { s.recd with ordinaryIn := es } }).commitEvent e false).capGap := by
  unfold execRecordCommitted
  split
  · simp_all
  · split
    · next h =>
      obtain ⟨rfl, rfl⟩ := List.cons.inj (ho.symm.trans h)
      rfl
    · simp_all

/-- The first safety event is committed, and a latched one takes its place (R712, R715). -/
theorem execRecordCommitted_safety {y : Event} {es ys : List Event} (hs : s.recd.safetyIn = e :: es) (hl : s.recd.latched = y :: ys) :
    execRecordCommitted s = .next (({ s with recd := { s.recd with safetyIn := es ++ [y], latched := ys } }).commitEvent e true).capGap := by
  unfold execRecordCommitted
  split
  · next h =>
    obtain ⟨rfl, rfl⟩ := List.cons.inj (hs.symm.trans h)
    simp only [hl]
  · simp_all

theorem State.capGap_of_none (h : s.recd.gapRun = none) : s.capGap = s := by simp [State.capGap, h]

/-! ### Mirror and window -/

theorem State.mirrorRecords_fresh (ht : s.mirrorTakes = true) (hr : s.recd.remirror = []) (hg : s.recd.gapRun = none)
    (hroom : s.recd.mirror.length + (s.recd.ring.filter (fun x => decide (s.recd.mirrored < x.seq))).length ≤ 16777216) :
    s.mirrorRecords = { s with recd := { s.recd with
      mirror := s.recd.mirror ++ s.recd.ring.filter (fun x => decide (s.recd.mirrored < x.seq)), mirrored := max s.recd.mirrored s.recd.head } } := by
  have hdrop : s.recd.mirror.length + (s.recd.ring.filter (fun x => decide (s.recd.mirrored < x.seq))).length - 16777216 = 0 := by omega
  simp only [State.mirrorRecords, ht, hr, State.commitGap, hg, Bool.not_true, Bool.false_eq_true, ↓reduceIte, List.contains_nil, List.filter_false,
    List.foldl_nil, List.length_append, hdrop, List.drop_zero]

theorem Recorder.window_ahead {r : Recorder} (h : r.head < r.cursor) : r.window = (List.replicate 32 0, false, true) := if_pos h

theorem Recorder.window_held {r : Recorder} {x : Record} (h : r.cursor ≤ r.head) (hx : r.ring.find? (fun y => y.seq == r.cursor) = some x) :
    r.window = (recordBytes x, false, false) := by
  simp [Recorder.window, Nat.not_lt.2 h, hx]

theorem Recorder.window_gone {r : Recorder} (h : r.cursor ≤ r.head) (hx : ∀ x ∈ r.ring, x.seq ≠ r.cursor) :
    r.window = (List.replicate 32 0, true, false) := by
  have hnone : r.ring.find? (fun y => y.seq == r.cursor) = none := by simpa using hx
  simp [Recorder.window, Nat.not_lt.2 h, hnone]

/-! ### The obligation -/

/-- Settles O47: the intakes by their rooms, a commit by whether it repeats the last record, the window by where its cursor stands. -/
theorem eventRecorder : Obligations.EventRecorder := by
  refine ⟨?ordinary, ?dropped, ?latched, ?new, ?again, ?safety, ?overflow, ?mirror, ?held, ?gone, ?ahead, ?advance, ?clear, ?refused⟩
  case ordinary =>
    intro s code path args hroom
    exact ⟨_, rfl, if_pos hroom, sameBut_raise⟩
  case dropped =>
    intro s code path args hfull
    exact ⟨_, rfl, if_neg (Nat.not_lt.2 hfull), sameBut_raise⟩
  case latched =>
    intro s code path args hfull
    exact ⟨_, rfl, if_neg (Nat.not_lt.2 hfull), sameBut_raiseSafe⟩
  case new =>
    intro s e es hs ho hlast hhead hring hgap
    let u : State := { s with recd := { s.recd with ordinaryIn := es } }
    obtain ⟨hst, hsame, -⟩ := State.commitEvent_new (s := u) (e := e) (safety := false) hlast hhead hring
    have hrun : exec .recordCommitted s = .next (u.commitEvent e false) := by
      refine (execRecordCommitted_ordinary hs ho).trans (congrArg Host.Outcome.next ?_)
      exact State.capGap_of_none (hst.gapRun.trans hgap)
    exact ⟨_, hrun, hst.head, hst.last, hst.ring, hst.ordinaryIn, (SameBut.refl.set_recd).trans hsame⟩
  case again =>
    intro s e es x hs ho hlast hcode hpath hargs hcount hgap
    let u : State := { s with recd := { s.recd with ordinaryIn := es } }
    obtain ⟨hhead, hl, hring, hin, hrun', hsame⟩ := State.commitEvent_repeat (s := u) (e := e) (safety := false) hlast hcode hpath hargs hcount
    have hrun : exec .recordCommitted s = .next (u.commitEvent e false) := by
      refine (execRecordCommitted_ordinary hs ho).trans (congrArg Host.Outcome.next ?_)
      exact State.capGap_of_none (hrun'.trans hgap)
    exact ⟨_, hrun, hhead, hl, hring, hin, (SameBut.refl.set_recd).trans hsame⟩
  case safety =>
    intro s e y es ys hs hl hlast hhead hring hgap
    let u : State := { s with recd := { s.recd with safetyIn := es ++ [y], latched := ys } }
    obtain ⟨hst, hsame, -⟩ := State.commitEvent_new (s := u) (e := e) (safety := true) hlast hhead hring
    have hrun : exec .recordCommitted s = .next (u.commitEvent e true) := by
      refine (execRecordCommitted_safety hs hl).trans (congrArg Host.Outcome.next ?_)
      exact State.capGap_of_none (hst.gapRun.trans hgap)
    exact ⟨_, hrun, hst.head, hst.last, hst.safetyIn, hst.latched, hst.ordinaryIn, (SameBut.refl.set_recd).trans hsame⟩
  case overflow =>
    intro s hdrop hroom hlast hhead hring
    let u : State := { s with recd := { s.recd with dropCount := 0, dropFirst := 0, dropLast := 0, overflows := s.recd.overflows + 1 } }
    obtain ⟨hst, hsame, -⟩ := State.commitEvent_new (s := u)
      (e := ⟨0x1410, recorderPath, [(s.recd.dropCount : Int), (s.recd.dropFirst : Int), (s.recd.dropLast : Int)]⟩) (safety := false) hlast hhead hring
    exact ⟨_, if_pos ⟨hdrop, hroom⟩, hst.dropCount, hst.overflows, hst.head, hst.last, (SameBut.refl.set_recd).trans hsame⟩
  case mirror =>
    intro s ht hr hg hroom
    exact ⟨_, congrArg Host.Outcome.next (State.mirrorRecords_fresh ht hr hg hroom), rfl, SameBut.refl.set_recd⟩
  case held =>
    intro s x hle hx
    refine ⟨_, rfl, ?_, SameBut.refl.set_recd⟩
    dsimp only
    rw [Recorder.window_held hle hx]
  case gone =>
    intro s hle hx
    refine ⟨_, rfl, ?_, SameBut.refl.set_recd⟩
    dsimp only
    rw [Recorder.window_gone hle hx]
    rfl
  case ahead =>
    intro s hlt
    refine ⟨_, rfl, ?_, SameBut.refl.set_recd⟩
    dsimp only
    rw [Recorder.window_ahead hlt]
    rfl
  case advance => exact fun s => ⟨_, rfl, rfl, SameBut.refl.set_recd⟩
  case clear =>
    intro s c n h ho hmode hup hlast hhead hring
    let keep (l : List Record) : List Record := l.filter (fun x => x.safety || decide (field c.payload 0 4 < x.seq))
    let u : State := { s.pop with recd := { s.recd with ring := keep s.recd.ring, mirror := keep s.recd.mirror, last := none } }
    obtain ⟨hst, hsame, hmbx⟩ := State.commitEvent_new (s := u) (e := ⟨0x1412, recorderPath, [(field c.payload 0 4 : Nat), (c.cred : Int)]⟩) (safety := false)
      rfl hhead (lt_of_le_of_lt (List.length_filter_le _ _) hring)
    have hbody : doRecorderClear c s.pop = (⟨.ok, []⟩, u.commitEvent ⟨0x1412, recorderPath, [(field c.payload 0 4 : Nat), (c.cred : Int)]⟩ false) := by
      refine (if_neg (by simpa using hmode)).trans ((if_neg (by simpa using hup)).trans ?_)
      show (Reply.mk .ok [], State.commitEvent { s.pop with recd := { s.recd with last := s.recd.last.filter _, ring := _, mirror := _ } } _ _) = _
      rw [hlast]
      rfl
    have hpoised : Poised s (u.commitEvent ⟨0x1412, recorderPath, [(field c.payload 0 4 : Nat), (c.cred : Int)]⟩ false) :=
      ⟨(congrArg Mailbox.pairs hmbx :), (congrArg Mailbox.repeats hmbx :), (congrArg Mailbox.taken hmbx :)⟩
    obtain ⟨t, hrun, rfl, hans⟩ := h.completes ho hbody hpoised (Nat.zero_le _)
    have hsame' : SameBut [.recd, .mbx] s.pop u := SameBut.refl.set_recd
    exact ⟨_, hrun, hans, (congrArg Recorder.head State.finish_recd).trans hst.head, (congrArg Recorder.ring State.finish_recd).trans hst.ring,
      (congrArg Recorder.mirror State.finish_recd).trans hst.mirror,
      (sameBut_pop.mono (by decide)).trans (((hsame'.trans hsame).step sameBut_finish).mono (by decide))⟩
  case refused =>
    intro s c n h ho hmode
    exact h.completes_unchanged (b := doRecorderClear) ho (if_pos hmode) (Nat.zero_le _)

end Sys2Proof.Machine
end

section
/-! Writes to registers (R9, R597, R675, R710, R713, R720 and the register tables). -/

namespace Sys2Proof.Machine

variable {s : State} {n a v : Nat}

/-! ### Fields of a written word -/

theorem bit_word {k : Nat} (hk : autoParam (k < 32) Nat.toPNat._auto_1) : bit (v % 2 ^ 32) k = v.testBit k := by
  simp only [bit, Nat.testBit_mod_two_pow, hk, decide_true, Bool.true_and]

theorem w1c_word {old : Bool} {k : Nat} (hk : autoParam (k < 32) Nat.toPNat._auto_1) : w1c old (v % 2 ^ 32) k = (old && !v.testBit k) := by
  rw [w1c, bit_word hk]

/-- A bit of the four W1C bits at `lo`. -/
theorem clear4_testBit {old lo k : Nat} (hk : k < 4) : (clear4 old v lo).testBit k = (old.testBit k && !v.testBit (lo + k)) := by
  have hnot : ∀ x < 16, ∀ k < 4, (15 - x).testBit k = !x.testBit k := by decide
  unfold clear4
  rw [Nat.testBit_and, hnot _ (Nat.mod_lt _ (by decide)) k hk, show (16 : Nat) = 2 ^ 4 from rfl, Nat.testBit_mod_two_pow, Nat.testBit_div_two_pow]
  simp [hk, Nat.add_comm]

/-! ### Which register an offset names -/

theorem State.writeRegister_pair {r : Nat} (hn : n < 64) (hr : r < 16) : s.writeRegister (0x0100 + r + 16 * n) v = s.writePair n r v := by
  unfold State.writeRegister
  rw [if_pos (by omega)]
  congr 1 <;> omega

theorem State.writeRegister_rtc (hlo : 0x0B2C ≤ a) (hhi : a < 0x0B80) : s.writeRegister a v = s.writeRtc a v := by
  unfold State.writeRegister
  rw [if_neg (by omega), if_neg (by omega), if_neg (by omega), if_neg (by omega), if_neg (by omega), if_neg (by omega), if_neg (by omega),
    if_neg (by omega), if_pos ⟨hlo, hhi⟩]

theorem State.writeRegister_alarm {r : Nat} (hlive : s.cutOff 18 0 = false) (hn : n < 4) (hr : r < 16) :
    s.writeRegister (0x0B40 + r + 16 * n) v = s.writeAlarm n r v := by
  rw [State.writeRegister_rtc (by omega) (by omega)]
  unfold State.writeRtc
  rw [if_neg (by simp [hlive]), if_neg (by omega), if_neg (by omega), if_pos (by omega),
    show (0x0B40 + r + 16 * n - 0x0B40) / 16 = n by omega, show (0x0B40 + r + 16 * n - 0x0B40) % 16 = r by omega]

theorem State.writeRegister_queueStatus (hn : n < 16) : s.writeRegister (0x0E08 + 16 * n) v = s.writeQueueStatus n v := by
  unfold State.writeRegister
  rw [if_neg (by omega), if_neg (by omega), if_neg (by omega), if_neg (by omega), if_neg (by omega), if_neg (by omega), if_neg (by omega),
    if_neg (by omega), if_neg (by omega), if_neg (by omega), if_pos (by omega)]
  congr 1
  omega

theorem State.writeRegister_queueCtrl (hn : n < 16) : s.writeRegister (0x0E0C + 16 * n) v = s.writeQueueCtrl n v := by
  unfold State.writeRegister
  rw [if_neg (by omega), if_neg (by omega), if_neg (by omega), if_neg (by omega), if_neg (by omega), if_neg (by omega), if_neg (by omega),
    if_neg (by omega), if_neg (by omega), if_neg (by omega), if_neg (by omega), if_pos (by omega)]
  congr 1
  omega

/-- While the RTC is fenced its page ignores writes (Table 01-2). -/
theorem State.writeRegister_fenced (hcut : s.cutOff 18 0 = true) (hlo : 0x0B00 ≤ a) (hhi : a < 0x0C00) : s.writeRegister a v = s := by
  by_cases hrtc : 0x0B2C ≤ a ∧ a < 0x0B80
  · rw [State.writeRegister_rtc hrtc.1 hrtc.2]
    exact if_pos hcut
  · unfold State.writeRegister
    rw [if_neg (by omega), if_neg (by omega), if_neg (by omega), if_neg (by omega), if_neg (by omega), if_neg (by omega), if_neg (by omega),
      if_neg (by omega), if_neg (by omega), if_neg (by omega), if_neg (by omega), if_neg (by omega), if_neg (by omega)]

/-! ### The obligation -/

/-- A register write takes the word of 32 bits (R9). -/
theorem exec_registerWrite : exec (.registerWrite a v) s = .next (s.writeRegister a (v % 2 ^ 32)) := rfl

theorem State.writeRegister_resetCause :
    s.writeRegister 0x0808 v = { s with sys := { s.sys with resetCause := s.sys.resetCause &&& ~~~(BitVec.ofNat 11 v) } } := rfl

theorem State.writeRegister_pwrWarn : s.writeRegister 0x080C v = { s with sys := { s.sys with pwrWarn := w1c s.sys.pwrWarn v 0 } } := rfl

theorem State.writeRegister_causeValid : s.writeRegister 0x0814 v = { s with sys := { s.sys with causeValid := w1c s.sys.causeValid v 16 } } := rfl

theorem State.writeRegister_injected : s.writeRegister 0x0900 v = { s with fcr := { s.fcr with injected := w1c s.fcr.injected v 4 } } := rfl

theorem State.writeRegister_hostHold : s.writeRegister 0x0908 v = { s with fcr := { s.fcr with hostHold := bit v 1 } } := rfl

theorem State.writeRegister_cursor : s.writeRegister 0x0A0C v = { s with recd := { s.recd with cursor := v } } := rfl

theorem State.writeRegister_autoAdvance : s.writeRegister 0x0A10 v = { s with recd := { s.recd with autoAdvance := bit v 4 } } := rfl

theorem State.writeRegister_wire : s.writeRegister 0x0C00 v = { s with twn := { s.twn with wire := w1c s.twn.wire v 0 } } := rfl

theorem State.writeRegister_glovebox : s.writeRegister 0x0F00 v =
    { s with glv := { s.glv with approvalRefused := w1c s.glv.approvalRefused v 2, keyAbort := w1c s.glv.keyAbort v 1 } } := rfl

theorem State.writeRegister_rtcStatus (hlive : s.cutOff 18 0 = false) : s.writeRegister 0x0B2C v = s.setRtc (s.tim.rtc.writeStatus v) := by
  rw [State.writeRegister_rtc (by decide) (by decide)]
  exact if_neg (by simp [hlive])

theorem State.writeRegister_rtcSqw (hlive : s.cutOff 18 0 = false) :
    s.writeRegister 0x0B30 v = s.setRtc { s.tim.rtc with sqwRate := v / 256 % 4, sqwEn := bit v 7 } := by
  rw [State.writeRegister_rtc (by decide) (by decide)]
  unfold State.writeRtc
  rw [if_neg (by simp [hlive]), if_neg (by decide), if_pos rfl]

theorem State.writeAlarm_instant :
    s.writeAlarm n 0 v = s.setNat Attr.RtcAlarm.instant n (s.nat Attr.RtcAlarm.instant n / 2 ^ 32 * 2 ^ 32 + v) := by simp [State.writeAlarm]

theorem State.writeAlarm_period : s.writeAlarm n 8 v = s.setNat Attr.RtcAlarm.periodS n v := by simp [State.writeAlarm]

/-- Different attributes of one class have different paths (R20). -/
theorem mkPath_ne {x y : Nat × Nat} {i : Nat} (h : x.1 = y.1 ∧ x.2 < 256 ∧ y.2 < 256 ∧ x.2 ≠ y.2) : mkPath x.1 i x.2 ≠ mkPath y.1 i y.2 := by
  obtain ⟨hcls, hx, hy, hne⟩ := h
  unfold mkPath
  omega

/-- The three enables of an alarm (Table 15-7). -/
theorem State.writeAlarm_enables :
    (s.writeAlarm n 12 v).flag Attr.RtcAlarm.enable n = bit v 0 ∧ (s.writeAlarm n 12 v).flag Attr.RtcAlarm.catchup n = bit v 1 ∧
      (s.writeAlarm n 12 v).flag Attr.RtcAlarm.irqEnable n = bit v 2 ∧ SameBut [.obj, .mbx] s (s.writeAlarm n 12 v) := by
  have hset : s.writeAlarm n 12 v =
      ((s.setFlag Attr.RtcAlarm.enable n (bit v 0)).setFlag Attr.RtcAlarm.catchup n (bit v 1)).setFlag Attr.RtcAlarm.irqEnable n (bit v 2) := rfl
  rw [hset]
  refine ⟨?_, ?_, State.flag_setFlag, ((sameBut_setFlag.step sameBut_setFlag).step sameBut_setFlag).mono (by decide)⟩
  · rw [State.flag_setFlag_ne (mkPath_ne (by decide)), State.flag_setFlag_ne (mkPath_ne (by decide)), State.flag_setFlag]
  · rw [State.flag_setFlag_ne (mkPath_ne (by decide)), State.flag_setFlag]

/-- CLOSE, MARK and REWIND in one write: a consumer's mark is set, and it returns to it. -/
theorem State.writeQueueCtrl_markRewind (hn : n < 16) (hprod : s.hostProduces n = false) :
    (s.writeQueueCtrl n 0b00111).queue n = { s.queue n with mark := some ((s.queue n).rd, (s.queue n).mid), taken := false } ∧
      SameBut [.que] s (s.writeQueueCtrl n 0b00111) := by
  have hclose : s.hostClose n = s := if_neg (by simp [hprod])
  have hmark : s.hostMark n = s.setQueue n { s.queue n with mark := some ((s.queue n).rd, (s.queue n).mid) } := if_pos ⟨hn, by simp [hprod]⟩
  have hprod' : (s.hostMark n).hostProduces n = false := by rw [hmark]; exact hprod
  have hctrl : s.writeQueueCtrl n 0b00111 = (s.hostMark n).hostRewind n := by
    simp [State.writeQueueCtrl, bit, Nat.testBit, hclose]
  have hrewind : (s.hostMark n).hostRewind n =
      (s.hostMark n).setQueue n { (s.hostMark n).queue n with rd := (s.queue n).rd, mid := (s.queue n).mid, taken := false } := by
    unfold State.hostRewind
    rw [if_pos ⟨hn, by simp [hprod']⟩]
    simp [hmark]
  rw [hctrl, hrewind, State.queue_setQueue, hmark, State.queue_setQueue]
  exact ⟨rfl, sameBut_setQueue.trans sameBut_setQueue⟩

/-- Settles O48: each offset by the register it names. -/
theorem registers : Obligations.Registers := by
  refine ⟨?pairs, ?system, ?others, ?rtc, ?alarms, ?fenced, ?status, ?ctrl, ?ignored⟩
  case pairs =>
    intro s n v hn hlen
    have hpair : n < s.mbx.pairs.length := by omega
    constructor
    · refine ⟨_, exec_registerWrite.trans <| congrArg Host.Outcome.next (State.writeRegister_pair (r := 0) hn (by decide)), ?_, fun m hm => State.pair_setPair_ne hm, sameBut_mbx⟩
      exact (State.pair_setPair_same hpair).trans (by rw [w1c_word])
    · refine ⟨_, exec_registerWrite.trans <| congrArg Host.Outcome.next (State.writeRegister_pair (r := 8) hn (by decide)), ?_, fun m hm => State.pair_setPair_ne hm, sameBut_mbx⟩
      refine (State.pair_setPair_same hpair).trans ?_
      rw [bit_word, Nat.mod_mod_of_dvd v (by decide : 64 ∣ 2 ^ 32)]
  case system =>
    intro s v
    refine ⟨⟨_, exec_registerWrite.trans (congrArg Host.Outcome.next State.writeRegister_resetCause), fun k hk => ?_, rfl⟩,
      ⟨_, exec_registerWrite, by rw [State.writeRegister_pwrWarn, w1c_word]⟩, ⟨_, exec_registerWrite, by rw [State.writeRegister_causeValid, w1c_word]⟩⟩
    dsimp only
    rw [BitVec.getLsbD_and, BitVec.getLsbD_not, BitVec.getLsbD_ofNat, ← bit, bit_word (by omega)]
    simp [hk]
  case others =>
    intro s v
    exact ⟨⟨_, exec_registerWrite, by rw [State.writeRegister_injected, w1c_word]⟩, ⟨_, exec_registerWrite, by rw [State.writeRegister_hostHold, bit_word]⟩,
      ⟨_, exec_registerWrite, State.writeRegister_cursor⟩, ⟨_, exec_registerWrite, by rw [State.writeRegister_autoAdvance, bit_word]⟩,
      ⟨_, exec_registerWrite, by rw [State.writeRegister_wire, w1c_word]⟩, ⟨_, exec_registerWrite, by rw [State.writeRegister_glovebox, w1c_word, w1c_word]⟩⟩
  case rtc =>
    intro s v hlive
    refine ⟨⟨_, exec_registerWrite.trans (congrArg Host.Outcome.next (State.writeRegister_rtcStatus hlive)), w1c_word, w1c_word, w1c_word,
        fun k hk => ?_, rfl, rfl, SameBut.refl.set_tim⟩, ⟨_, exec_registerWrite, ?_⟩⟩
    · have hbit : ∀ (old lo : Nat), lo + k < 32 → (clear4 old (v % 2 ^ 32) lo).testBit k = (old.testBit k && !v.testBit (lo + k)) := by
        intro old lo hlo
        rw [clear4_testBit hk, Nat.testBit_mod_two_pow]
        simp [hlo]
      exact ⟨hbit _ 12 (by omega), hbit _ 8 (by omega), hbit _ 4 (by omega)⟩
    · have hrate : v % 2 ^ 32 / 256 % 4 = v / 256 % 4 := by omega
      rw [State.writeRegister_rtcSqw hlive, bit_word, hrate]
      rfl
  case alarms =>
    intro s n v hlive hn
    have hinstant := (State.writeRegister_alarm (v := v % 2 ^ 32) (r := 0) hlive hn (by decide)).trans State.writeAlarm_instant
    have hperiod := (State.writeRegister_alarm (v := v % 2 ^ 32) (r := 8) hlive hn (by decide)).trans State.writeAlarm_period
    have henables := State.writeRegister_alarm (v := v % 2 ^ 32) (r := 12) hlive hn (by decide)
    refine ⟨⟨_, exec_registerWrite.trans (congrArg Host.Outcome.next hinstant), State.nat_setNat, sameBut_setNat.mono (by decide)⟩,
      ⟨_, exec_registerWrite.trans (congrArg Host.Outcome.next hperiod), State.nat_setNat, sameBut_setNat.mono (by decide)⟩,
      ⟨_, exec_registerWrite.trans (congrArg Host.Outcome.next henables), ?_⟩⟩
    have h := State.writeAlarm_enables (s := s) (n := n) (v := v % 2 ^ 32)
    rwa [bit_word, bit_word, bit_word] at h
  case fenced =>
    intro s a v hcut hlo hhi
    exact ⟨s, congrArg Host.Outcome.next (State.writeRegister_fenced hcut hlo hhi), rfl⟩
  case status =>
    intro s n v hn
    refine ⟨_, exec_registerWrite.trans <| congrArg Host.Outcome.next (State.writeRegister_queueStatus hn), ?_, fun m hm => State.queue_setQueue_ne hm, sameBut_setQueue⟩
    refine State.queue_setQueue.trans ?_
    rw [w1c_word, w1c_word, w1c_word]
  case ctrl =>
    intro s n r mid hn hprod _
    refine ⟨_, exec_registerWrite.trans <| congrArg Host.Outcome.next (State.writeRegister_queueCtrl hn), ?_⟩
    exact State.writeQueueCtrl_markRewind hn hprod
  case ignored =>
    intro s v a ha
    refine ⟨s, congrArg Host.Outcome.next ?_, rfl⟩
    unfold State.writeRegister
    simp only [List.mem_cons, List.not_mem_nil, or_false] at ha
    rw [if_neg (by omega), if_neg (by omega), if_neg (by omega), if_neg (by omega), if_neg (by omega), if_neg (by omega), if_neg (by omega),
      if_neg (by omega), if_neg (by omega), if_neg (by omega), if_neg (by omega), if_neg (by omega), if_neg (by omega)]

end Sys2Proof.Machine
end

section
/-! Debug requests and their answers (R737–R739, R742). -/

namespace Sys2Proof.Machine

variable {s : State} {op seq data crc c : Nat}

/-! ### Check codes and fields -/

theorem crcStep_lt {w poly c : Nat} {b : Bool} (hp : poly < 2 ^ w) : crcStep w poly c b < 2 ^ w := by
  unfold crcStep
  dsimp only
  split
  · exact Nat.xor_lt_two_pow (Nat.mod_lt _ (Nat.two_pow_pos w)) hp
  · exact Nat.mod_lt _ (Nat.two_pow_pos w)

theorem crcBits_lt {w poly init v n : Nat} (hp : poly < 2 ^ w) (hi : init < 2 ^ w) : crcBits w poly init v n < 2 ^ w := by
  unfold crcBits
  generalize (List.range n).map _ = bs
  induction bs generalizing init with
  | nil => exact hi
  | cons b bs ih => exact ih (crcStep_lt hp)

theorem chk5_lt {v : Nat} : chk5 v < 32 := crcBits_lt (by decide) (by decide)

theorem crc8_lt {v : Nat} : crc8 v < 256 := crcBits_lt (by decide) (by decide)

/-- The 16 bits of a request (R737): 0xD, the operation, the SEQ and the check code. -/
def requestWord (op seq c : Nat) : Nat := 0xD000 + op * 2 ^ 7 + seq * 2 ^ 5 + c

theorem requestWord_fields (ho : op < 32) (hs : seq < 4) (hc : c < 32) :
    bits (requestWord op seq c) 15 12 = 0xD ∧ bits (requestWord op seq c) 11 7 = op ∧ bits (requestWord op seq c) 6 5 = seq ∧
      bits (requestWord op seq c) 11 5 = op * 4 + seq ∧ bits (requestWord op seq c) 4 0 = c := by
  simp only [bits, requestWord, Nat.shiftRight_eq_div_pow]
  omega

/-- The data of a request: a read has none (R737). -/
def requestData (op data : Nat) : Nat := if dbgWrites.contains op then data % 2 ^ 32 else 0

/-- What a request with a right check code does where its data are right too: the table of R738. -/
def State.dbgTake (s : State) (op seq data : Nat) : Out :=
  if s.dbg.req.isSome then .next (s.dbgAnswer .busy)
  else
    match s.dbg.last.filter (fun l => l.seq == seq) with
    | some l => if l.op = op ∧ l.data = data then .next { s with dbg := { s.dbg with answer := some .done, out := s.dbg.lastOut } } else .next (s.dbgAnswer .error)
    | none =>
      if !dbgOps.contains op then .next (s.dbgAnswer .error)
      else if !s.opReached op data then .next (s.dbgAnswer .refused)
      else if op = 0x10 ∧ data = 0 then .next { s with dbg := { s.dbg with last := some ⟨op, seq, data, 0⟩, lastOut := none, answer := some .done, out := none } }
      else .next { s with dbg := { s.dbg with req := some ⟨op, seq, data, data⟩, out := none } }

theorem execDebugRequest_checked (ho : op < 32) (hs : seq < 4) (hcrc : op ∈ dbgWrites → crc8 (data % 2 ^ 32) = crc % 256) :
    execDebugRequest (requestWord op seq (chk5 (op * 4 + seq))) data crc s = s.dbgClock.dbgTake op seq (requestData op data) := by
  obtain ⟨hd, hop, hseq, hboth, hchk⟩ := requestWord_fields ho hs (chk5_lt (v := op * 4 + seq))
  have hgood : ¬ (chk5 (op * 4 + seq) ≠ chk5 (op * 4 + seq) ∨ dbgWrites.contains op = true ∧ crc8 (requestData op data) ≠ crc % 256) := by
    rintro (h | ⟨hw, h⟩)
    · exact h rfl
    · exact h ((congrArg crc8 (if_pos hw)).trans (hcrc (by simpa using hw)))
  unfold execDebugRequest
  rw [hd, hop, hseq, hboth, hchk]
  exact (if_neg (by decide)).trans (if_neg hgood)

/-- The data of a request as the obligations write it. -/
theorem requestData_eq (hd : data < 2 ^ 32) : requestData op data = if op ∈ dbgWrites then data else 0 := by
  simp only [requestData, List.contains_iff_mem, Nat.mod_eq_of_lt hd]

/-- A request whose own check code over its data is right. -/
theorem exec_debugRequest_own (ho : op < 32) (hs : seq < 4) (hd : data < 2 ^ 32) :
    exec (.debugRequest (0xD000 + op * 2 ^ 7 + seq * 2 ^ 5 + chk5 (op * 4 + seq)) data (crc8 data)) s =
      s.dbgClock.dbgTake op seq (if op ∈ dbgWrites then data else 0) := by
  rw [← requestData_eq hd]
  exact execDebugRequest_checked ho hs fun _ => by rw [Nat.mod_eq_of_lt hd, Nat.mod_eq_of_lt crc8_lt]

/-! ### The table of R738 -/

theorem State.dbgTake_busy (h : s.dbg.req.isSome) : s.dbgTake op seq data = .next (s.dbgAnswer .busy) := if_pos h

theorem State.dbgTake_repeat {r : DebugReq} (h : s.dbg.req = none) (hl : s.dbg.last = some r) (hop : r.op = op) (hseq : r.seq = seq) (hdata : r.data = data) :
    s.dbgTake op seq data = .next { s with dbg := { s.dbg with answer := some .done, out := s.dbg.lastOut } } := by
  have hsome : s.dbg.last.filter (fun l => l.seq == seq) = some r := by simp [hl, hseq]
  simp only [State.dbgTake, h, hsome, hop, hdata, Option.isSome_none, Bool.false_eq_true, and_self, ↓reduceIte]

/-- A request that the last one executed does not share its SEQ with. -/
theorem State.dbgTake_fresh (h : s.dbg.req = none) (hl : ∀ l, s.dbg.last = some l → l.seq ≠ seq) :
    s.dbgTake op seq data =
      if op ∉ dbgOps then .next (s.dbgAnswer .error)
      else if s.opReached op data = false then .next (s.dbgAnswer .refused)
      else if op = 0x10 ∧ data = 0 then .next { s with dbg := { s.dbg with last := some ⟨op, seq, data, 0⟩, lastOut := none, answer := some .done, out := none } }
      else .next { s with dbg := { s.dbg with req := some ⟨op, seq, data, data⟩, out := none } } := by
  have hnone : s.dbg.last.filter (fun l => l.seq == seq) = none := by
    cases hlast : s.dbg.last with
    | none => rfl
    | some l => simp [hl l hlast]
  simp [State.dbgTake, h, hnone]

/-- Settles O49: a request fails at its check codes, or comes to the table of R738. -/
theorem debugRequests : Obligations.DebugRequests := by
  refine ⟨?taken, ?badCheck, ?badCrc, ?busy, ?again, ?unlisted, ?refused, ?resync⟩
  case taken =>
    intro s op seq data hop hs hd hreq hlast hreach hctrl
    have h32 : op < 32 := (by decide : ∀ x ∈ dbgOps, x < 32) op hop
    have hone : ¬ (op = 0x10 ∧ (if op ∈ dbgWrites then data else 0) = 0) := by
      rintro ⟨rfl, h⟩
      exact hctrl rfl h
    refine ⟨_, (exec_debugRequest_own h32 hs hd).trans ((State.dbgTake_fresh (s := s.dbgClock) hreq hlast).trans ((if_neg (by simpa using hop)).trans
      ((if_neg ?_).trans (if_neg hone)))), rfl, rfl, rfl, by simp [SameBut, State.dbgClock]⟩
    show ¬ s.opReached op _ = false
    simp [hreach]
  case badCheck =>
    intro s w data crc hw hd hchk
    have hbits : bits w 15 12 = 0xD ∧ bits w 11 5 = w / 2 ^ 5 % 2 ^ 7 ∧ bits w 4 0 = w % 2 ^ 5 := by
      simp only [bits, Nat.shiftRight_eq_div_pow]
      refine ⟨?_, trivial, ?_⟩ <;> omega
    obtain ⟨h1, h2, h3⟩ := hbits
    have hrun : execDebugRequest w data crc s = .next (s.dbgClock.dbgAnswer .error) := by
      unfold execDebugRequest
      rw [h1, h2, h3]
      exact (if_neg (by decide)).trans (if_pos (.inl hchk))
    exact ⟨_, hrun, rfl⟩
  case badCrc =>
    intro s op seq data crc hop hs hd hcrc hne
    have h32 : op < 32 := (by decide : ∀ x ∈ dbgWrites, x < 32) op hop
    obtain ⟨h1, h2, h3, h4, h5⟩ := requestWord_fields h32 hs (chk5_lt (v := op * 4 + seq))
    have hbad : dbgWrites.contains op = true ∧ crc8 (requestData op data) ≠ crc % 256 := by
      refine ⟨by simpa using hop, ?_⟩
      rw [requestData_eq hd, if_pos hop, Nat.mod_eq_of_lt hcrc]
      exact hne.symm
    have hrun : execDebugRequest (requestWord op seq (chk5 (op * 4 + seq))) data crc s = .next (s.dbgClock.dbgAnswer .error) := by
      unfold execDebugRequest
      rw [h1, h2, h4, h5]
      exact (if_neg (by decide)).trans (if_pos (.inr hbad))
    exact ⟨_, hrun, rfl⟩
  case busy =>
    intro s op seq data r hop hs hd hreq
    exact ⟨_, (exec_debugRequest_own hop hs hd).trans (State.dbgTake_busy (by simp [State.dbgClock, hreq])), rfl⟩
  case again =>
    intro s op seq data r hop hs hd hreq hlast hrop hrseq hwrite hread
    refine ⟨_, (exec_debugRequest_own hop hs hd).trans (State.dbgTake_repeat (s := s.dbgClock) hreq hlast hrop hrseq ?_), rfl⟩
    split
    · next h => exact hwrite h
    · next h => exact hread h
  case unlisted =>
    intro s op seq data hop hno hs hd hreq hlast
    refine ⟨_, (exec_debugRequest_own hop hs hd).trans ((State.dbgTake_fresh (s := s.dbgClock) hreq ?_).trans (if_pos hno)), rfl⟩
    exact fun l hl => absurd (hlast.symm.trans hl) (Option.some_ne_none l).symm
  case refused =>
    intro s seq data hs hd hreq hlast hne hlife hwide
    have hpermit : s.ctrlPermitted = 0 := by simp [State.ctrlPermitted, hlife, hwide]
    have hreach : s.opReached 0x10 data = false := by simp [State.opReached, hlife, hpermit]
    refine ⟨_, (exec_debugRequest_own (by decide) hs hd).trans ((State.dbgTake_fresh (s := s.dbgClock) hreq ?_).trans ((if_neg (by decide)).trans (if_pos hreach))), rfl⟩
    exact fun l hl => absurd (hlast.symm.trans hl) (Option.some_ne_none l).symm
  case resync => exact fun s => ⟨_, rfl, rfl⟩

end Sys2Proof.Machine
end

section
/-! Debug reads, addresses, memory and UNLOCK (R549, R738–R742). -/

namespace Sys2Proof.Machine

variable {s t : State} {r : DebugReq} {n : Nat}

/-! ### The request under way -/

theorem State.dbgReq_of {op : Nat} (h : s.dbg.req = some r) (hop : r.op = op) : s.dbgReq op = some r := by simp [State.dbgReq, h, hop]

theorem State.dbgRead_of {op v : Nat} (h : s.dbg.req = some r) (hop : r.op = op) :
    s.dbgRead op v =
      { s with dbg := { s.dbg with req := none, last := some r, lastOut := some (v % 2 ^ 32), answer := some .done, out := some (v % 2 ^ 32) } } := by
  simp [State.dbgRead, State.dbgReq_of h hop, State.dbgDone, h]

/-! ### Places of the address space (Table 20-15) -/

theorem State.dbgPlace_breakpoint (hn : n < 8) : s.dbgPlace (0xFFFFFFF000 + 4 * n) = some (.breakpoint n) := by
  have hdram : 0x0800000000 + Config.dramBytes % 2 ^ 35 ≤ 0x1000000000 := by omega
  have ha : (0xFFFFFFF000 + 4 * n) / 4 * 4 = 0xFFFFFFF000 + 4 * n := by omega
  unfold State.dbgPlace
  simp only [ha]
  rw [if_neg (by omega), if_neg (by omega), if_neg (by omega), if_pos (by omega)]
  congr 2
  omega

theorem State.dbgPlace_unlisted {a : Nat} (hlo : 0xC00000 ≤ a) (hhi : a < 0x01000000) : s.dbgPlace a = none := by
  unfold State.dbgPlace
  dsimp only
  rw [if_neg (by omega), if_neg (by omega), if_pos (by omega)]

theorem State.dbgPlace_sram {a : Nat} (h : a < 0xC00000) : s.dbgPlace a = some .purelSram := if_pos (by omega)

theorem execReadMem_at {p : DbgPlace} (h : s.dbg.req = some r) (hop : r.op = 0x08) (hp : s.dbgPlace s.dbg.addr = some p) :
    execReadMem s = if s.placeReached p = false then .next (s.dbgFail .refused)
      else .next ((s.dbgLoad s.dbg.addr p).2.nextAddr.dbgDone (some (s.dbgLoad s.dbg.addr p).1)) := by
  simp [execReadMem, State.dbgReq_of h hop, hp]

theorem execWriteMem_at {p : DbgPlace} (h : s.dbg.req = some r) (hop : r.op = 0x18) (hp : s.dbgPlace s.dbg.addr = some p) :
    execWriteMem s = if s.placeReached p = false then .next (s.dbgFail .refused)
      else .next ((s.dbgStore s.dbg.addr r.data p).nextAddr.dbgDone none) := by
  simp [execWriteMem, State.dbgReq_of h hop, hp]

/-! ### UNLOCK -/

/-- What the grant of wider access leaves (R549). -/
structure State.Opened (s t : State) : Prop where
  cache : t.glv.cache = []
  bank : t.glv.bank = none
  opened : t.glv.debugOpened = true
  roots : t.flag Attr.GloveboxService.testRoots 0 = true
  dbg : t.dbg = s.dbg

theorem State.flag_setAttr_ne {a b : Nat × Nat} {i j : Nat} {v : Val} (h : mkPath b.1 j b.2 ≠ mkPath a.1 i a.2) :
    (s.setAttr a i v).flag b j = s.flag b j := by
  simp only [State.flag, State.int, State.attr_setAttr_ne h]

theorem sameBut_refreshProvision : SameBut [.mbx, .obj] s s.refreshProvision := sameBut_setNat

theorem State.openDebug_opened : s.Opened s.openDebug := by
  let u : State := { s with glv := { s.glv with cache := [], bank := none, debugOpened := true } }
  have hsame : SameBut [.mbx, .obj, .recd] u s.openDebug := ((sameBut_setFlag.mono (by decide)).step sameBut_raise).step sameBut_refreshProvision
  have hglv : s.openDebug.glv = u.glv := hsame.area .glv
  refine ⟨by rw [hglv], by rw [hglv], by rw [hglv], ?_, hsame.area .dbg⟩
  refine (State.flag_setAttr_ne (by decide)).trans ?_
  exact State.flag_setFlag (s := u)

/-- Whether UNLOCK's signature opens the port (R741). -/
def State.unlocks (s : State) (r : DebugReq) : Bool :=
  (s.sys.lifecycle == .field || s.sys.lifecycle == .ret) && s.sys.mode == .provision && s.alive 0x0C20 r.data &&
    s.nat Attr.RoleCredential.role r.data == roleIndex .safety &&
    Config.ecdsaVerify (s.octets Attr.RoleCredential.publicKey r.data) s.unlockMessage (s.dbg.response ++ List.replicate (64 - s.dbg.response.length) 0#8)

/-- The challenge is drawn anew, whatever the outcome (R741). -/
def State.newChallenge (s : State) : State := { s.drawn with dbg := { s.dbg with challenge := s.freeCtr } }

theorem execUnlock_of (h : s.dbg.req = some r) (hop : r.op = 0x14) :
    execUnlock s =
      if s.unlocks r = true then
        .next (({ s.newChallenge.openDebug with dbg :=
          { s.newChallenge.openDebug.dbg with unlocked := true, unlocks := min (s.newChallenge.openDebug.dbg.unlocks + 1) 0xFFFF } }).dbgDone none)
      else .next (({ s.newChallenge with dbg := { s.newChallenge.dbg with failed := min (s.dbg.failed + 1) 0xFF } }).dbgFail .refused) := by
  unfold execUnlock
  rw [State.dbgReq_of h hop]
  rfl

/-- Settles O50: reads by the request they answer, memory by the place of the address, UNLOCK by its conditions. -/
theorem debugAccess : Obligations.DebugAccess := by
  refine ⟨?reads, ?address, ?breaks, ?unreached, ?unlock, ?locked⟩
  case reads =>
    intro s i op v r hi hreq hop
    simp only [List.mem_cons, List.not_mem_nil, or_false, Prod.mk.injEq] at hi
    rcases hi with ⟨rfl, rfl, rfl⟩ | ⟨rfl, rfl, rfl⟩ | ⟨rfl, rfl, rfl⟩ | ⟨rfl, rfl, rfl⟩ | ⟨rfl, rfl, rfl⟩
    all_goals exact ⟨_, congrArg Host.Outcome.next (State.dbgRead_of hreq hop), rfl⟩
  case address =>
    intro s r hreq hd
    refine ⟨fun hop => ⟨_, ?_, rfl⟩, fun hop => ⟨_, ?_, rfl⟩⟩
    · show execWriteAddr s = _
      simp [execWriteAddr, State.dbgReq_of hreq hop, State.dbgDone, hreq]
    · show execWriteAddrHi s = _
      simp [execWriteAddrHi, State.dbgReq_of hreq hop, State.dbgDone, hreq]
  case breaks =>
    intro s r n hreq hn haddr hlife
    have hplace : s.dbgPlace s.dbg.addr = some (.breakpoint n) := haddr ▸ State.dbgPlace_breakpoint hn
    have hreach : s.placeReached (.breakpoint n) = true := by simp [State.placeReached, hlife]
    have hnext : s.dbg.addr + 4 < 1099511627776 := by omega
    refine ⟨fun hop => ⟨_, (execReadMem_at hreq hop hplace).trans (if_neg (by simp [hreach])), ?_⟩,
      fun hop => ⟨_, (execWriteMem_at hreq hop hplace).trans (if_neg (by simp [hreach])), ?_⟩⟩
    · simp [State.dbgLoad, State.nextAddr, State.dbgDone, hreq, hnext]
    · simp [State.dbgStore, State.nextAddr, State.dbgDone, hreq, hnext]
  case unreached =>
    intro s r i hreq hi
    refine ⟨fun hlo hhi => ?_, fun hlow hlife hwide => ?_⟩
    · have hplace := State.dbgPlace_unlisted (s := s) hlo hhi
      rcases hi with ⟨rfl, hop⟩ | ⟨rfl, hop⟩
      · exact ⟨s.dbgFail .error, by show execReadMem s = _; simp [execReadMem, State.dbgReq_of hreq hop, hplace], rfl⟩
      · exact ⟨s.dbgFail .error, by show execWriteMem s = _; simp [execWriteMem, State.dbgReq_of hreq hop, hplace], rfl⟩
    · have hplace := State.dbgPlace_sram (s := s) hlow
      have hreach : s.placeReached .purelSram = false := by simp [State.placeReached, hlife, hwide]
      rcases hi with ⟨rfl, hop⟩ | ⟨rfl, hop⟩
      · exact ⟨_, (execReadMem_at hreq hop hplace).trans (if_pos hreach), rfl⟩
      · exact ⟨_, (execWriteMem_at hreq hop hplace).trans (if_pos hreach), rfl⟩
  case unlock =>
    intro s r hreq hop hlen hlife hmode halive hrole
    have hok : s.unlocks r =
        Config.ecdsaVerify (s.octets Attr.RoleCredential.publicKey r.data) (s.challenge ++ leBytes 8 s.sys.eui ++ [0x44#8]) s.dbg.response := by
      simp [State.unlocks, hlife, hmode, halive, hrole, hlen, State.unlockMessage]
    rw [← hok]
    by_cases hv : s.unlocks r = true
    · obtain ⟨hcache, hbank, hopened, hroots, hdbg⟩ := s.newChallenge.openDebug_opened
      refine ⟨_, (execUnlock_of hreq hop).trans (if_pos hv), (congrArg Debug.challenge hdbg :), rfl, rfl, ?_⟩
      rw [if_pos hv]
      refine ⟨rfl, rfl, ?_, hcache, hbank, hopened, hroots⟩
      exact (congrArg (fun d : Debug => min (d.unlocks + 1) 0xFFFF) hdbg :)
    · refine ⟨_, (execUnlock_of hreq hop).trans (if_neg hv), rfl, rfl, rfl, ?_⟩
      rw [if_neg hv]
      rfl
  case locked =>
    intro s r hreq hop hno
    have hv : ¬ s.unlocks r = true := by
      rcases hno with h | h | h | h <;> simp [State.unlocks, h]
    exact ⟨_, (execUnlock_of hreq hop).trans (if_neg hv), rfl⟩

end Sys2Proof.Machine
end

section
/-! Debug control words, breakpoints and watchpoints (R91, R118, R533, R740, R743). -/

namespace Sys2Proof.Machine

variable {s t : State} {r : DebugReq} {n : Nat} {f : State → State}

/-! ### One bit of a control word -/

/-- The last bit of a control word acts, and its request is DONE. -/
theorem State.ctrl_last {b : Nat} (h : s.dbg.req = some r) (hop : r.op = 0x10) (hleft : r.left = 2 ^ b) :
    s.ctrl b f = { f { s with dbg := { s.dbg with req := none } } with
      dbg := { (f { s with dbg := { s.dbg with req := none } }).dbg with last := some { r with left := 0 }, lastOut := none, answer := some .done, out := none } } := by
  have hbit : bit r.left b = true := by simp [bit, hleft, Nat.testBit_two_pow_self]
  have hrest : r.left - 2 ^ b = 0 := by omega
  simp [State.ctrl, State.dbgReq_of h hop, hbit, hrest]

/-- Another bit of a control word acts, and the rest stay to be acted on. -/
theorem State.ctrl_more {b : Nat} (h : s.dbg.req = some r) (hop : r.op = 0x10) (hbit : bit r.left b = true) (hmore : r.left - 2 ^ b ≠ 0) :
    s.ctrl b f = f { s with dbg := { s.dbg with req := some { r with left := r.left - 2 ^ b } } } := by
  simp [State.ctrl, State.dbgReq_of h hop, hbit, hmore]

/-! ### The life cycle and the OTP window -/

theorem State.advanceLife_factory (h : s.sys.lifecycle = .blank) :
    (s.advanceLife .factory).sys.lifecycle = .factory ∧ (s.advanceLife .factory).dbg = { s.dbg with unlocks := 0 } ∧
      (s.advanceLife .factory).glv.cache = [] ∧ (s.advanceLife .factory).glv.bank = none := by
  simp [State.advanceLife, h]

/-- A filled slot is WRITTEN and holds its value (R533). -/
theorem State.fillSlot_filled {i : Nat} {v : Bytes} :
    (s.fillSlot i v).nat Attr.RootSlot.state i = 1 ∧ Assoc.find i (s.fillSlot i v).glv.slots = some v ∧ (s.fillSlot i v).dbg = s.dbg := by
  unfold State.fillSlot
  dsimp only
  split
  · refine ⟨?_, ?_, ?_⟩
    · rw [State.nat_setAttr_ne (mkPath_ne (by decide)), State.nat_setNat_ne (mkPath_ne (by decide)), State.nat_setNat]
    · simp
    · simp
  · refine ⟨?_, ?_, ?_⟩
    · rw [State.nat_setNat_ne (mkPath_ne (by decide)), State.nat_setNat]
    · simp
    · simp

/-- A slot that holds no bits takes the value (R533). -/
theorem State.programSlot_unwritten {i : Nat} {v : Bytes} (hi : i ≤ 2) (h : Assoc.find i s.glv.blown = none) :
    (s.programSlot i v).2.nat Attr.RootSlot.state i = 1 ∧ Assoc.find i (s.programSlot i v).2.glv.slots = some v ∧ (s.programSlot i v).2.dbg = s.dbg := by
  have hprog : (s.programSlot i v).2 = ((s.fillSlot i v).raise 0x1005 (objPath 0x0C01 i) [(i : Int)]).refreshProvision := by
    unfold State.programSlot
    rw [h]
    exact congrArg Prod.snd (if_pos rfl)
  obtain ⟨hstate, hslot, hdbg⟩ := State.fillSlot_filled (s := s) (i := i) (v := v)
  have hne : mkPath Attr.RootSlot.state.1 i Attr.RootSlot.state.2 ≠ mkPath Attr.SystemMode.provisionState.1 0 Attr.SystemMode.provisionState.2 := by
    unfold mkPath
    dsimp only
    omega
  rw [hprog]
  refine ⟨(State.nat_setAttr_ne hne).trans hstate, ?_, ?_⟩
  · simpa [State.refreshProvision] using hslot
  · simpa [State.refreshProvision] using hdbg

/-- Settles O51: each control bit by what it does where it is the last one. -/
theorem debugControl : Obligations.DebugControl := by
  refine ⟨?bits, ?lapse, ?breakpoint, ?watchpoint⟩
  case bits =>
    intro s r hreq hop
    refine ⟨fun hl hh => ⟨_, congrArg Host.Outcome.next (State.ctrl_last (b := 0) hreq hop hl), ?_⟩,
      fun hl => ⟨_, congrArg Host.Outcome.next (State.ctrl_last (b := 1) hreq hop hl), rfl⟩,
      fun hl hh => ⟨_, congrArg Host.Outcome.next (State.ctrl_more (b := 0) hreq hop (by rw [hl]; decide) (by rw [hl]; decide)), ?_⟩,
      fun hl hh => ⟨_, congrArg Host.Outcome.next (State.ctrl_last (b := 2) hreq hop hl), ?_⟩,
      fun hl => ⟨_, congrArg Host.Outcome.next (State.ctrl_last (b := 3) hreq hop hl), ?_⟩,
      fun hl => ⟨_, congrArg Host.Outcome.next (State.ctrl_last (b := 4) hreq hop hl), rfl⟩,
      fun hl hlife => ⟨_, congrArg Host.Outcome.next (State.ctrl_last (b := 5) hreq hop hl), ?_⟩,
      fun hl hslot hlen hstate hblown => ⟨_, congrArg Host.Outcome.next (State.ctrl_last (b := 6) hreq hop hl), ?_⟩⟩
    · simp [hh, Debug.stirred]
    · simp [hh, hl, Debug.stirred]
    · simp [hh, Debug.stirred]
    · have h := State.chipReset_restarted (s := { s with dbg := { s.dbg with req := none } }) (cause := causeBit 7)
      exact ⟨h.mode, State.chipReset_cause (by decide), h.sessions, h.halted, rfl, rfl⟩
    · obtain ⟨hto, hdbg, hcache, hbank⟩ := State.advanceLife_factory (s := { s with dbg := { s.dbg with req := none } }) hlife
      dsimp only
      rw [if_pos hlife]
      exact ⟨hto, rfl, (congrArg Debug.req hdbg :), (congrArg Debug.unlocks hdbg :), hcache, hbank⟩
    · obtain ⟨hwritten, hvalue, hdbg⟩ := State.programSlot_unwritten (s := { s with dbg := { s.dbg with req := none } }) (v := fitBytes 32 s.dbg.otpValue) hslot hblown
      have hfit : fitBytes 32 s.dbg.otpValue = s.dbg.otpValue := by simp [fitBytes, hlen]
      have hstate' : State.nat { s with dbg := { s.dbg with req := none } } Attr.RootSlot.state s.dbg.otpSlot = 0 := hstate
      have hopen : ¬ (2 < s.dbg.otpSlot ∨ State.nat { s with dbg := { s.dbg with req := none } } Attr.RootSlot.state s.dbg.otpSlot = 1 ∨
          State.nat { s with dbg := { s.dbg with req := none } } Attr.RootSlot.state s.dbg.otpSlot = 3) := by omega
      dsimp only
      rw [if_neg hopen]
      exact ⟨hwritten, hvalue.trans (congrArg some hfit), rfl, (congrArg Debug.req hdbg :)⟩
  case lapse =>
    intro s hhalt hprov hfact
    exact ⟨_, congrArg Host.Outcome.next (if_pos ⟨hhalt, hprov, hfact⟩), rfl⟩
  case breakpoint =>
    intro s n addr w hhalt hbit
    refine ⟨_, ?_, rfl⟩
    exact (if_neg (by simp [hhalt])).trans ((if_neg (by decide)).trans (if_pos hbit))
  case watchpoint =>
    intro s n addr w hhalt hn hen hkind hmask
    refine ⟨_, ?_, rfl⟩
    exact (if_neg (by simp [hhalt])).trans ((if_pos rfl).trans (if_pos ⟨hn, hen, hmask, hkind⟩))

end Sys2Proof.Machine
end

section
/-! Line ports, lanes and their transmit queues (R153–R161, R163, R164, R169–R173, R188, R189). -/

namespace Sys2Proof.Machine

variable {s t : State} {p q l m k : Nat} {x : Port} {u : TxUnit}

/-! ### Ports, lanes and links of a state -/

@[simp] theorem State.port_setPort : (s.setPort p x).port p = x := by simp [State.port, State.setPort]

theorem State.port_setPort_ne (h : m ≠ p) : (s.setPort p x).port m = s.port m := by simp [State.port, State.setPort, Assoc.find_put_ne h]

theorem State.port_congr (h : t.lin = s.lin) : t.port m = s.port m := by simp only [State.port, h]

@[simp] theorem State.lane_setLane {y : Lane} : (s.setLane l y).lane l = y := by simp [State.lane, State.setLane]

theorem State.lane_setLane_ne {y : Lane} (h : m ≠ l) : (s.setLane l y).lane m = s.lane m := by simp [State.lane, State.setLane, Assoc.find_put_ne h]

theorem State.lane_congr (h : t.lin.lanes = s.lin.lanes) : t.lane m = s.lane m := by simp only [State.lane, h]

theorem sameBut_setLane {y : Lane} : SameBut [.lin] s (s.setLane l y) := by simp [SameBut, State.setLane]

theorem sameBut_setLink {y : Link} : SameBut [.lin] s (s.setLink k y) := by simp [SameBut, State.setLink]

theorem sameBut_sendMgmt {c d kd pr} {b : Bytes} : SameBut [.lin] s (s.sendMgmt c d kd b l pr) := sameBut_enqueue

theorem sameBut_refreshMaps {snr : List (Nat × Bytes)} : SameBut [.lin] s (s.refreshMaps p k snr) := sameBut_setLink.trans sameBut_sendMgmt

theorem sameBut_bumpSat {a : Nat × Nat} {w i d : Nat} : SameBut [.mbx, .obj] s (s.bumpSat w a i d) := sameBut_setAttr

/-! ### A unit enters a queue -/

theorem State.enqueue_fits (hseg : segments u.body.length (s.nat Attr.LinePort.maxSegment p) ≤ 64) (hlen : u.body.length ≤ 65535) :
    (s.enqueue p q u).2 = s.setPort p { s.port p with
      queues := (s.port p).queues.set q ((s.port p).queues.getD q [] ++ [{ u with seq := (s.port p).nextSeq }]), nextSeq := ((s.port p).nextSeq + 1) % 4096 } := by
  simp [State.enqueue, Nat.not_lt.2 hseg, Nat.not_lt.2 hlen]

/-- A SOUND unit, of at most 64 octets, needs at most 64 segments whatever their size (R189). -/
theorem segments_le {len maxSeg : Nat} (h : len ≤ 64) : segments len maxSeg ≤ 64 := by
  unfold segments
  split
  · exact Nat.zero_le _
  · next hm =>
    have hlen : max len 1 ≤ 64 := by omega
    have hpos : 1 ≤ maxSeg := Nat.pos_of_ne_zero hm
    refine Nat.le_of_lt_succ ((Nat.div_lt_iff_lt_mul hpos).2 ?_)
    have : 64 ≤ 64 * maxSeg := by omega
    omega

/-- A port without what a unit that enters it changes. -/
def Port.unqueued (x : Port) : Port := { x with queues := [], nextSeq := 0 }

/-- A unit that enters a queue changes the queues and the next sequence of its port alone. -/
theorem State.enqueue_unqueued : ((s.enqueue p q u).2.port m).unqueued = (s.port m).unqueued := by
  unfold State.enqueue
  split
  · rfl
  · by_cases hm : m = p
    · subst hm
      simp only [State.port_setPort]
      rfl
    · simp only [State.port_setPort_ne hm]

theorem State.refreshMaps_unqueued {snr : List (Nat × Bytes)} : ((s.refreshMaps p k snr).port m).unqueued = (s.port m).unqueued :=
  (State.enqueue_unqueued (s := s.setLink k _)).trans rfl

/-! ### Zero crossing -/

/-- Whether an edge lies outside 5 % of the expected periods after the last accepted one (R170). -/
def zcRejects (edges : List Nat) (t : Nat) : Bool :=
  let per := zcPeriod edges
  let d := t - edges.headD 0
  let n := (d + per / 2) / max per 1
  let off := if n * per ≤ d then d - n * per else n * per - d
  decide (per ≠ 0 ∧ (n = 0 ∨ per < off * 20))

/-- An edge is accepted (R170, R172). -/
def State.takeEdge (s : State) (p t : Nat) : State :=
  let x := s.port p
  let s := s.setPort p { x with
    edges := (t :: x.edges).take 9, missing := 0, good := x.good + 1, zcLost := x.zcLost && decide (x.good + 1 < 8) }
  let s := s.setNat Attr.LinePort.mainsPeriodNs p (zcPeriod ((t :: x.edges).take 9) / 65536)
  if x.good + 1 < 8 then s
  else
    let s := s.setFlag Attr.LinePort.zcValid p true
    if x.zcLost then s.raise 0x0406 (objPath 0x0201 p) [p] else s

theorem State.zcEdge_eq {t0 : Nat} :
    s.zcEdge p t0 = if zcRejects (s.port p).edges (t0 - s.nat Attr.LinePort.zcDelayNs p * 65536) = true then s
      else s.takeEdge p (t0 - s.nat Attr.LinePort.zcDelayNs p * 65536) := by
  unfold State.zcEdge zcRejects
  simp only [decide_eq_true_eq]
  rfl

theorem zcRejects_nil {t0 : Nat} : zcRejects [] t0 = false := rfl

/-- The edge one period after the last one is accepted. -/
theorem zcRejects_next {e : Nat} {es : List Nat} (hper : 0 < zcPeriod (e :: es)) : zcRejects (e :: es) (e + zcPeriod (e :: es)) = false := by
  have hn : (zcPeriod (e :: es) + zcPeriod (e :: es) / 2) / max (zcPeriod (e :: es)) 1 = 1 := by
    rw [Nat.max_eq_left hper]
    exact (Nat.div_eq_iff hper).2 (by omega)
  simp [zcRejects, hn]

/-- An edge less than half a period after the last one is rejected. -/
theorem zcRejects_early {e t0 : Nat} {es : List Nat} (hper : 0 < zcPeriod (e :: es)) (hearly : 2 * (t0 - e) < zcPeriod (e :: es)) :
    zcRejects (e :: es) t0 = true := by
  have hn : (t0 - e + zcPeriod (e :: es) / 2) / max (zcPeriod (e :: es)) 1 = 0 := by
    rw [Nat.max_eq_left hper]
    exact Nat.div_eq_of_lt (by omega)
  simp [zcRejects, hn, hper.ne']

theorem State.takeEdge_below {t0 : Nat} (hgood : (s.port p).good + 1 < 8) :
    ((s.takeEdge p t0).port p).edges = (t0 :: (s.port p).edges).take 9 ∧ ((s.takeEdge p t0).port p).good = (s.port p).good + 1 ∧
      ((s.takeEdge p t0).port p).missing = 0 ∧ (s.takeEdge p t0).flag Attr.LinePort.zcValid p = s.flag Attr.LinePort.zcValid p ∧
      SameBut [.lin, .obj, .mbx] s (s.takeEdge p t0) := by
  have hport : ∀ {v : Nat} {y : Port}, ((s.setPort p y).setNat Attr.LinePort.mainsPeriodNs p v).port p = y :=
    fun {v y} => (State.port_congr State.setNat_lin).trans State.port_setPort
  simp only [State.takeEdge, if_pos hgood, hport]
  exact ⟨trivial, trivial, trivial, State.flag_setAttr_ne (mkPath_ne (by decide)), (sameBut_setPort.mono (by decide)).step sameBut_setNat⟩

theorem State.takeEdge_valid {t0 : Nat} (hgood : 7 ≤ (s.port p).good) (hlost : (s.port p).zcLost = false) :
    ((s.takeEdge p t0).port p).edges = (t0 :: (s.port p).edges).take 9 ∧ (s.takeEdge p t0).flag Attr.LinePort.zcValid p = true ∧
      (s.takeEdge p t0).nat Attr.LinePort.mainsPeriodNs p = zcPeriod ((t0 :: (s.port p).edges).take 9) / 65536 ∧
      SameBut [.lin, .obj, .mbx] s (s.takeEdge p t0) := by
  have hport : ∀ {v : Nat} {y : Port}, (((s.setPort p y).setNat Attr.LinePort.mainsPeriodNs p v).setFlag Attr.LinePort.zcValid p true).port p = y :=
    fun {v y} => (State.port_congr (State.setFlag_lin.trans State.setNat_lin)).trans State.port_setPort
  simp only [State.takeEdge, if_neg (Nat.not_lt.2 (Nat.succ_le_succ hgood)), hlost, Bool.false_eq_true, ↓reduceIte, hport]
  exact ⟨trivial, State.flag_setFlag, (State.nat_setAttr_ne (mkPath_ne (by decide))).trans State.nat_setNat,
    ((sameBut_setPort.mono (by decide)).step sameBut_setNat).step sameBut_setFlag⟩

/-! ### Impulses -/

/-- One region's part of an impulse (R164): its maps are computed anew where it first contains a recurring position, and its avoidance follows. -/
def State.impulseRegion (p : Nat) (recur before : List Nat) (snr : List (Nat × Bytes)) (s : State) (r : Nat) : State :=
  let span := s.regionSpan p r
  let now := span.filter (fun q => recur.contains q)
  let s := if now.isEmpty ∨ span.any (fun q => before.contains q) then s
    else
      let s := s.raise 0x0407 (objPath 0x0201 p) ([(p : Int), (r : Int)] ++ now.map Int.ofNat)
      (s.portLinks p).foldl (fun s k => s.refreshMaps p k (snr.filter (fun m => m.1 == r))) s
  let a := s.nat Attr.LinePort.avoidRegions p
  let on := !now.isEmpty && decide (span.length ≤ 4 * now.length)
  if bit a (r - 1) = on then s
  else (s.setNat Attr.LinePort.avoidRegions p (if on then a + 2 ^ (r - 1) else a - 2 ^ (r - 1))).raise 0x0408 (objPath 0x0201 p) [p, r, b2n on]

/-- From `s` to `t` units have entered transmit queues, and attributes and events were written. -/
structure Queued (s t : State) : Prop where
  same : SameBut [.lin, .obj, .mbx, .recd] s t
  ports : ∀ m, (t.port m).unqueued = (s.port m).unqueued

theorem Queued.refl : Queued s s := ⟨.refl, fun _ => rfl⟩

theorem Queued.trans {w : State} (h : Queued s t) (h' : Queued t w) : Queued s w := ⟨h.same.trans h'.same, fun m => (h'.ports m).trans (h.ports m)⟩

theorem Queued.foldl {α} {g : State → α → State} {xs : List α} (hg : ∀ t x, Queued t (g t x)) : Queued s (xs.foldl g s) := by
  induction xs generalizing s with
  | nil => exact .refl
  | cons x xs ih => exact (hg s x).trans ih

theorem Queued.ite {c : Prop} [Decidable c] {w : State} (ht : Queued s t) (hw : Queued s w) : Queued s (if c then t else w) := by
  split <;> assumption

/-- A write outside the line ports. -/
theorem Queued.of_sameBut (h : SameBut [.obj, .mbx, .recd] s t) : Queued s t :=
  ⟨h.mono (by decide), fun _ => congrArg Port.unqueued (State.port_congr (h.area .lin))⟩

theorem queued_refreshMaps {snr : List (Nat × Bytes)} : Queued s (s.refreshMaps p k snr) :=
  ⟨sameBut_refreshMaps.mono (by decide), fun _ => State.refreshMaps_unqueued⟩

theorem queued_impulseRegion {recur before : List Nat} {snr : List (Nat × Bytes)} {r : Nat} : Queued s (State.impulseRegion p recur before snr s r) := by
  unfold State.impulseRegion
  refine Queued.trans (t := if _ then s else _)
    (Queued.ite .refl ((Queued.of_sameBut (sameBut_raise.mono (by decide))).trans (Queued.foldl fun _ _ => queued_refreshMaps))) (Queued.ite .refl ?_)
  exact .of_sameBut ((sameBut_setNat.mono (by decide)).step sameBut_raise)

/-- The positions that recur after a half-cycle (R163). -/
def recurring (hits : List (List Nat)) (before : List Nat) : List Nat :=
  (List.range 240).filter (fun q =>
    decide (128 ≤ hits.countP (fun l => l.contains q)) || (before.contains q && decide (64 ≤ hits.countP (fun l => l.contains q))))

theorem mem_recurring {hits : List (List Nat)} {before : List Nat} {q : Nat} : q ∈ recurring hits before ↔
    q < 240 ∧ (128 ≤ hits.countP (fun l => l.contains q) ∨ (q ∈ before ∧ 64 ≤ hits.countP (fun l => l.contains q))) := by
  simp [recurring]

/-- After its positions are counted, an impulse only puts units in queues and writes attributes and events. -/
theorem execImpulseLearnt_eq {hit : List Nat} {snr : List (Nat × Bytes)} : ∃ t,
    execImpulseLearnt p hit snr s = .next t ∧ Queued (s.setPort p { s.port p with
      hits := (hit :: (s.port p).hits).take 256, recurring := recurring ((hit :: (s.port p).hits).take 256) (s.port p).recurring }) t := by
  refine ⟨_, rfl, Queued.trans (Queued.ite .refl (Queued.foldl fun _ _ => ?_)) (Queued.foldl fun _ _ => queued_impulseRegion)⟩
  exact .of_sameBut (sameBut_setAttr.mono (by decide))

/-- Settles O14: an edge by whether it is accepted, and how many in a row were. -/
theorem zeroCrossing : Obligations.ZeroCrossing := by
  refine ⟨?first, ?valid, ?early, ?lost, ?invalid, ?impulse⟩
  case first =>
    intro s p t0 husers hedges hgood
    have hrun : exec (.zcEdge p t0) s = .next (s.takeEdge p (t0 - s.nat Attr.LinePort.zcDelayNs p * 65536)) := by
      show Host.Outcome.next ((s.zcUsers p).foldl (fun s p => s.zcEdge p t0) s) = _
      rw [husers, List.foldl_cons, List.foldl_nil, State.zcEdge_eq, hedges, zcRejects_nil]
      rfl
    obtain ⟨h1, h2, h3, h4, h5⟩ := State.takeEdge_below (s := s) (p := p) (t0 := t0 - s.nat Attr.LinePort.zcDelayNs p * 65536) (by omega)
    exact ⟨_, hrun, by rw [h1, hedges]; rfl, by rw [h2, hgood], h3, h4, h5⟩
  case valid =>
    intro s p t0 e es husers hdelay hedges hper ht hlost hgood
    have hrun : exec (.zcEdge p t0) s = .next (s.takeEdge p t0) := by
      show Host.Outcome.next ((s.zcUsers p).foldl (fun s p => s.zcEdge p t0) s) = _
      rw [husers, List.foldl_cons, List.foldl_nil, State.zcEdge_eq, hedges, hdelay, Nat.zero_mul, Nat.sub_zero, ht, zcRejects_next hper]
      rfl
    have h := State.takeEdge_valid (t0 := t0) hgood hlost
    rw [hedges] at h
    exact ⟨_, hrun, h⟩
  case early =>
    intro s p t0 e es husers hdelay hedges hper he hearly
    have hrun : exec (.zcEdge p t0) s = .next s := by
      show Host.Outcome.next ((s.zcUsers p).foldl (fun s p => s.zcEdge p t0) s) = _
      rw [husers, List.foldl_cons, List.foldl_nil, State.zcEdge_eq, hedges, hdelay, Nat.zero_mul, Nat.sub_zero, zcRejects_early hper hearly]
      rfl
    exact ⟨_, hrun, rfl⟩
  case lost =>
    intro s p hlost hedges
    refine ⟨_, if_neg (by simp [hlost, hedges]), ?_, rfl, (sameBut_setPort.mono (by decide)).step sameBut_raise⟩
    exact (State.port_congr State.raise_lin).trans State.port_setPort
  case invalid =>
    intro s p
    exact ⟨_, rfl, State.flag_setFlag, (State.port_congr State.setFlag_lin).trans State.port_setPort, (sameBut_setPort.mono (by decide)).step sameBut_setFlag⟩
  case impulse =>
    intro s p hit snr
    obtain ⟨t, hrun, hq⟩ := execImpulseLearnt_eq (s := s) (p := p) (hit := hit) (snr := snr)
    have hport := hq.ports p
    rw [State.port_setPort] at hport
    have hrec : (t.port p).recurring = recurring ((hit :: (s.port p).hits).take 256) (s.port p).recurring := (congrArg Port.recurring hport :)
    refine ⟨t, hrun, (congrArg Port.hits hport :), fun q => ?_, (sameBut_setPort.mono (by decide)).trans hq.same⟩
    rw [hrec, mem_recurring]

end Sys2Proof.Machine
end

section
/-! The arbiter with nothing to decide (R693–R695), and the canceller of a lane (R153–R161, R177). -/

namespace Sys2Proof.Machine

variable {s t : State} {l m : Nat} {a : Activity}

/-! ### An activity that nothing conflicts with -/

theorem sameBut_admitActivity : SameBut [.fcr, .recd] s (s.admitActivity a) := by simp [SameBut, State.admitActivity, State.activityEvent]

theorem State.admitActivity_mbx : (s.admitActivity a).mbx = s.mbx := rfl

theorem State.admitActivity_lin : (s.admitActivity a).lin = s.lin := rfl

theorem State.arbitrate_free (hadm : s.fcr.admitted = []) (hdef : s.fcr.deferred = []) : s.arbitrate a = (.admitted, s.admitActivity a) := by
  simp [State.arbitrate, State.mayAdmit, hadm, hdef]

theorem State.requestCmd_free {c : Cmd} {kind unit : Nat} (hadm : s.fcr.admitted = []) (hdef : s.fcr.deferred = []) :
    ∃ a, s.requestCmd c kind unit = (.admitted, s.admitActivity a) := ⟨_, State.arbitrate_free hadm hdef⟩

/-- An internal request where no command waits that asks the arbiter (R693). -/
theorem State.requestInternal_free {kind unit : Nat} (hadm : s.fcr.admitted = []) (hdef : s.fcr.deferred = []) (hwait : s.fcr.waiting = [])
    (htaken : s.mbx.taken = []) : ∃ a, s.requestInternal kind unit = (.admitted, s.admitActivity a) := by
  refine ⟨{ kind := kind, arrival := s.mbx.arrival, internal := true, unit := unit }, ?_⟩
  exact (if_neg (by simp [hadm, hdef, hwait])).trans ((if_neg (by simp [htaken])).trans (State.arbitrate_free hadm hdef))

/-! ### Lanes -/

theorem State.nat_setLane {y : Lane} {b : Nat × Nat} {j : Nat} : (s.setLane l y).nat b j = s.nat b j := rfl

@[simp] theorem State.lane_setNat {a : Nat × Nat} {i v : Nat} : (s.setNat a i v).lane m = s.lane m := State.lane_congr (congrArg Line.lanes State.setNat_lin)

@[simp] theorem State.lane_raise {c p : Nat} {xs : List Int} : (s.raise c p xs).lane m = s.lane m := rfl

@[simp] theorem State.lane_bumpSat {a : Nat × Nat} {w i d : Nat} : (s.bumpSat w a i d).lane m = s.lane m := State.lane_congr (congrArg Line.lanes State.bumpSat_lin)

/-- A unit of at most 64 octets enters the queue of the SOUND frames. -/
theorem State.enqueue_short {p : Nat} {u : TxUnit} (hlen : u.body.length ≤ 64) (hq : (s.port p).queues.length = 8) :
    ((s.enqueue p 0 u).2.port p).queues.getD 0 [] = (s.port p).queues.getD 0 [] ++ [{ u with seq := (s.port p).nextSeq }] ∧
      (s.enqueue p 0 u).2.lin.lanes = s.lin.lanes := by
  rw [State.enqueue_fits (segments_le hlen) (by omega), State.port_setPort]
  have h0 : 0 < (s.port p).queues.length := by omega
  exact ⟨by simp [List.getD, h0], rfl⟩

/-- A training starts: a SOUND frame of 64 symbols waits in queue 0 (R153). -/
theorem State.startTraining_effect (hq : (s.port (l / 3)).queues.length = 8) :
    ((s.startTraining l).lane l).training = true ∧ ((s.startTraining l).lane l).halfSince = none ∧
      (s.startTraining l).nat Attr.LineLane.cancellerState l = 1 ∧
      (∃ u, ((s.startTraining l).port (l / 3)).queues.getD 0 [] = (s.port (l / 3)).queues.getD 0 [] ++ [u] ∧ u.kind = 4 ∧ u.body.length = 64) ∧
      SameBut [.lin, .obj, .mbx] s (s.startTraining l) := by
  let v : State := s.setNat Attr.LineLane.cancellerState l 1
  let w : State := v.setLane l { v.lane l with training := true, halfSince := none }
  have hport : w.port (l / 3) = s.port (l / 3) := by
    show (Assoc.find (l / 3) v.lin.ports).getD {} = _
    rw [show v.lin = s.lin from State.setNat_lin]
    rfl
  let x : TxUnit := { kind := 4, cell := 0, dst16 := 0xFFFF, group := true, secured := false, body := List.replicate 64 0 }
  obtain ⟨hqueue, hlanes⟩ := State.enqueue_short (s := w) (p := l / 3) (u := x) (by simp [x]) (hport.symm ▸ hq)
  have hlane : (s.startTraining l).lane l = { v.lane l with training := true, halfSince := none } := (State.lane_congr hlanes).trans State.lane_setLane
  have hstate : (s.startTraining l).nat Attr.LineLane.cancellerState l = v.nat Attr.LineLane.cancellerState l :=
    State.nat_congr (show (w.enqueue (l / 3) 0 x).2.obj = w.obj from sameBut_enqueue.area .obj) _ _
  rw [hlane, hstate]
  refine ⟨rfl, rfl, State.nat_setNat, ⟨_, hport ▸ hqueue, rfl, by simp [x]⟩, ?_⟩
  exact ((sameBut_setNat.mono (by decide)).step sameBut_setLane).step sameBut_enqueue

theorem State.enterHalf_of_half {erle : Nat} (h : s.nat Attr.LineLane.cancellerState l ≠ 2) : s.enterHalf l erle = s := if_pos h

/-- From `s` to `t` lane `l` has entered HALF_DUPLEX, with its ERLE in the event (R156, R177). -/
structure State.EntersHalf (s t : State) (l e : Nat) : Prop where
  state : t.nat Attr.LineLane.cancellerState l = 3
  entries : t.nat Attr.LineLane.halfDuplexEntries l = min (s.nat Attr.LineLane.halfDuplexEntries l + 1) (2 ^ 32 - 1)
  lane : t.lane l = { s.lane l with halfSince := some s.tim.d3, halfTimes := (s.tim.d3 :: (s.lane l).halfTimes).take 3 }
  erle : t.nat Attr.LineLane.erle l = s.nat Attr.LineLane.erle l
  recd : t.recd = s.recd.ordinary ⟨0x0401, objPath 0x0202 l, [(l : Int), (e : Int)]⟩
  others : ∀ m, m ≠ l → t.lane m = s.lane m
  same : SameBut [.lin, .obj, .mbx, .recd] s t

/-- A lane in FULL_DUPLEX enters HALF_DUPLEX. -/
theorem State.enterHalf_effect {erle : Nat} (h : s.nat Attr.LineLane.cancellerState l = 2) : s.EntersHalf (s.enterHalf l erle) l erle := by
  have hset : ∀ {v : State} {y : Nat × Nat} {i k : Nat}, SameBut [.obj, .mbx] v (v.setNat y i k) := sameBut_setNat.mono (by decide)
  have henter : s.enterHalf l erle = (((s.setNat Attr.LineLane.cancellerState l 3).bumpSat 32 Attr.LineLane.halfDuplexEntries l).setLane l
      { s.lane l with halfSince := some ((s.setNat Attr.LineLane.cancellerState l 3).bumpSat 32 Attr.LineLane.halfDuplexEntries l).tim.d3,
                      halfTimes := (((s.setNat Attr.LineLane.cancellerState l 3).bumpSat 32 Attr.LineLane.halfDuplexEntries l).tim.d3 :: (s.lane l).halfTimes).take 3 }).raise
      0x0401 (objPath 0x0202 l) [(l : Int), (erle : Int)] := if_neg (not_not.2 h)
  rw [henter]
  have ha : SameBut [.obj, .mbx] s (s.setNat Attr.LineLane.cancellerState l 3) := hset
  have hstate : (s.setNat Attr.LineLane.cancellerState l 3).nat Attr.LineLane.cancellerState l = 3 := State.nat_setNat
  have hother : ∀ y : Nat × Nat, mkPath y.1 l y.2 ≠ mkPath Attr.LineLane.cancellerState.1 l Attr.LineLane.cancellerState.2 →
      (s.setNat Attr.LineLane.cancellerState l 3).nat y l = s.nat y l := fun y hy => State.nat_setNat_ne hy
  have halanes : ∀ m, (s.setNat Attr.LineLane.cancellerState l 3).lane m = s.lane m := fun m => State.lane_setNat
  generalize s.setNat Attr.LineLane.cancellerState l 3 = a at ha hstate hother halanes
  have hv : SameBut [.obj, .mbx] a (a.bumpSat 32 Attr.LineLane.halfDuplexEntries l) := hset
  have hcount : (a.bumpSat 32 Attr.LineLane.halfDuplexEntries l).nat Attr.LineLane.halfDuplexEntries l = min (a.nat Attr.LineLane.halfDuplexEntries l + 1) (2 ^ 32 - 1) := State.nat_bumpSat
  have hkept : ∀ y : Nat × Nat, mkPath y.1 l y.2 ≠ mkPath Attr.LineLane.halfDuplexEntries.1 l Attr.LineLane.halfDuplexEntries.2 →
      (a.bumpSat 32 Attr.LineLane.halfDuplexEntries l).nat y l = a.nat y l := fun y hy => State.nat_setNat_ne hy
  have hlanes : ∀ m, (a.bumpSat 32 Attr.LineLane.halfDuplexEntries l).lane m = s.lane m := fun m => State.lane_bumpSat.trans (halanes m)
  generalize a.bumpSat 32 Attr.LineLane.halfDuplexEntries l = v at hv hcount hkept hlanes
  have hsv : SameBut [.obj, .mbx] s v := ha.trans hv
  have htim : v.tim = s.tim := hsv.area .tim
  have hrecd : v.recd = s.recd := hsv.area .recd
  rw [htim]
  generalize hx : ({ s.lane l with halfSince := some s.tim.d3, halfTimes := (s.tim.d3 :: (s.lane l).halfTimes).take 3 } : Lane) = x
  have hobj : ((v.setLane l x).raise 0x0401 (objPath 0x0202 l) [(l : Int), (erle : Int)]).obj = v.obj := rfl
  have hlane : ((v.setLane l x).raise 0x0401 (objPath 0x0202 l) [(l : Int), (erle : Int)]).lane l = x := State.lane_setLane
  refine ⟨(State.nat_congr hobj _ _).trans ((hkept _ (mkPath_ne (by decide))).trans hstate), ?_, hlane.trans hx.symm,
    (State.nat_congr hobj _ _).trans ((hkept _ (mkPath_ne (by decide))).trans (hother _ (mkPath_ne (by decide)))), congrArg (fun r : Recorder => r.ordinary _) hrecd,
    fun m hm => (State.lane_setLane_ne hm).trans (hlanes m), ((hsv.mono (by decide)).step sameBut_setLane).step sameBut_raise⟩
  rw [State.nat_congr hobj, hcount, hother _ (mkPath_ne (by decide))]

/-- Settles O13: each row's equation of the lane, its attributes and its event. -/
theorem laneCanceller : Obligations.LaneCanceller := by
  refine ⟨?half, ?above, ?full, ?diverged, ?trained, ?retrain, ?command, ?tracking, ?clip⟩
  case half =>
    intro s l erle hfull hlow
    have herle : ∀ {b : Nat × Nat}, mkPath b.1 l b.2 ≠ mkPath Attr.LineLane.erle.1 l Attr.LineLane.erle.2 →
        (s.setNat Attr.LineLane.erle l erle).nat b l = s.nat b l := fun h => State.nat_setNat_ne h
    obtain ⟨hstate, hcount, hlane, hkept, hrecd, hothers, hsame⟩ := State.enterHalf_effect (s := s.setNat Attr.LineLane.erle l erle) (erle := erle)
      ((herle (mkPath_ne (by decide))).trans hfull)
    rw [herle (mkPath_ne (by decide))] at hcount
    rw [State.lane_setNat, State.setNat_tim] at hlane
    rw [State.setNat_recd] at hrecd
    refine ⟨_, congrArg Host.Outcome.next (if_pos (by rwa [herle (mkPath_ne (by decide))])), hkept.trans State.nat_setNat, hstate, hcount, by rw [hlane],
      by rw [hlane], hrecd, fun m hm => (hothers m hm).trans State.lane_setNat, (sameBut_setNat.mono (by decide)).trans hsame⟩
  case above =>
    intro s l erle hhigh
    have hexit : (s.setNat Attr.LineLane.erle l erle).nat Attr.LineLane.fdExit l = s.nat Attr.LineLane.fdExit l := State.nat_setNat_ne (mkPath_ne (by decide))
    exact ⟨_, congrArg Host.Outcome.next (if_neg (by rw [hexit]; exact Nat.not_lt.2 hhigh)), State.nat_setNat, State.setNat_lin, sameBut_setNat.mono (by decide)⟩
  case full =>
    intro s l erle taps hhalf hhigh
    have hstay : ¬ ((s.setNat Attr.LineLane.erle l erle).nat Attr.LineLane.cancellerState l ≠ 3 ∨
        erle < (s.setNat Attr.LineLane.erle l erle).nat Attr.LineLane.fdEnter l * 10) := by
      rw [State.nat_setNat_ne (mkPath_ne (by decide)), State.nat_setNat_ne (mkPath_ne (by decide))]
      omega
    refine ⟨_, if_neg hstay, State.nat_setNat, ?_, ?_, (((sameBut_setNat.mono (by decide)).step sameBut_setLane).step sameBut_setNat).step sameBut_raise⟩
    · rw [State.lane_raise, State.lane_setNat, State.lane_setLane, State.lane_setNat]
    · simp [State.raise, State.setLane]
  case diverged =>
    intro s l erle taps hsnap
    refine ⟨_, rfl, ?_, ?_, ((sameBut_setNat.mono (by decide)).step sameBut_setLane).step sameBut_raise⟩
    · have htaps : (s.lane l).snapshot.getD (s.lane l).taps = taps := by rw [hsnap]; rfl
      rw [State.lane_raise, State.lane_setLane, htaps]
    · simp [State.raise, State.setLane]
  case trained =>
    intro s l erle taps htrain
    have henter : (s.setNat Attr.LineLane.erle l erle).nat Attr.LineLane.fdEnter l = s.nat Attr.LineLane.fdEnter l := State.nat_setNat_ne (mkPath_ne (by decide))
    refine ⟨_, if_neg (by simp [htrain]), ?_, ?_, ?_, ?_, ((sameBut_setNat.mono (by decide)).step sameBut_setLane).step sameBut_setNat⟩
    · exact (State.nat_setNat_ne (mkPath_ne (by decide))).trans State.nat_setNat
    · rw [State.lane_setNat, State.lane_setLane]
    · rw [State.lane_setNat, State.lane_setLane]
    · refine State.nat_setNat.trans ?_
      rw [henter]
      simp
  case retrain =>
    intro s l t0 hsince hlong hadm hdef hwait htaken hq
    obtain ⟨a, hreq⟩ := State.requestInternal_free (kind := 8) (unit := l) hadm hdef hwait htaken
    have hlasts : (s.lane l).halfSince.any (fun t => decide (t + sec 2 ≤ s.tim.d3)) = true := by
      rw [hsince, Option.any_some, decide_eq_true_eq]
      exact hlong
    have hrun : execRetrainRequest l s = .next ((s.admitActivity a).startTraining l) := by
      unfold execRetrainRequest
      dsimp only
      rw [hlasts, hreq]
      simp only [Bool.true_or, Bool.not_true, Bool.false_eq_true, ↓reduceIte]
    obtain ⟨htrain, hhalf, hstate, hsound, hsame⟩ := State.startTraining_effect (s := s.admitActivity a) (l := l) hq
    exact ⟨_, hrun, htrain, hhalf, hstate, hsound, (sameBut_admitActivity.mono (by decide)).trans (hsame.mono (by decide))⟩
  case command =>
    intro s c n l h ho hl hle hstate hadm hdef hq
    obtain ⟨a, hreq⟩ := State.requestCmd_free (s := s.pop) (c := c) (kind := 8) (unit := l) hadm hdef
    have hbody : doCancellerRetrain c s.pop = (⟨.accepted, []⟩, (s.pop.admitActivity a).startTraining l) := by
      unfold doCancellerRetrain
      rw [hl]
      refine (if_neg (Nat.not_lt.2 hle)).trans ((if_neg hstate).trans ?_)
      rw [hreq]
      rfl
    obtain ⟨htrain, hhalf, htraining, ⟨u, hqueue, hkind, hlen⟩, hsame⟩ := State.startTraining_effect (s := s.pop.admitActivity a) (l := l) hq
    have hpoised : Poised s ((s.pop.admitActivity a).startTraining l) :=
      (Poised.setAttr (u := s.pop.admitActivity a) (poised_pop.of_mbx rfl)).of_mbx (sameBut_setLane.trans sameBut_enqueue |>.area .mbx)
    obtain ⟨t, hrun, rfl, hans⟩ := h.completes ho hbody hpoised (Nat.zero_le _)
    refine ⟨_, hrun, hans, (congrArg Lane.training (State.lane_congr (congrArg Line.lanes State.finish_lin))).trans htrain,
      (State.nat_congr State.finish_obj _ _).trans htraining, ⟨u, ?_, hkind, hlen⟩, ?_⟩
    · rw [State.port_congr State.finish_lin]
      exact hqueue
    · exact (sameBut_pop.mono (by decide)).trans (((sameBut_admitActivity.mono (by decide)).trans (hsame.mono (by decide))).step sameBut_finish)
  case tracking =>
    intro s l hhalf hq
    obtain ⟨hqueue, hlanes⟩ := State.enqueue_short (s := s) (p := l / 3)
      (u := { kind := 4, cell := 0, dst16 := 0xFFFF, group := true, secured := false, body := List.replicate 32 0 }) (by simp) hq
    exact ⟨_, if_neg (not_not.2 hhalf), ⟨_, hqueue, rfl, by simp, rfl⟩, hlanes, sameBut_enqueue⟩
  case clip =>
    intro s l n hstate
    have hraise : ∀ b, ((s.bump 32 Attr.LineLane.clipCount l n).raise 0x0404 (objPath 0x0202 l) [(l : Int), (n : Int)]).nat b l =
        (s.bump 32 Attr.LineLane.clipCount l n).nat b l := fun b => State.nat_congr State.raise_obj b l
    have hkept : ((s.bump 32 Attr.LineLane.clipCount l n).raise 0x0404 (objPath 0x0202 l) [(l : Int), (n : Int)]).nat Attr.LineLane.cancellerState l ≠ 2 := by
      rwa [hraise, State.bump, State.nat_setNat_ne (mkPath_ne (by decide))]
    have hrun : exec (.adcClip l n false) s = .next ((s.bump 32 Attr.LineLane.clipCount l n).raise 0x0404 (objPath 0x0202 l) [(l : Int), (n : Int)]) :=
      congrArg Host.Outcome.next ((if_neg (by decide)).trans (State.enterHalf_of_half hkept))
    refine ⟨_, hrun, (hraise _).trans State.nat_bump, ?_, ?_, (sameBut_bump.mono (by decide)).step sameBut_raise⟩
    · exact State.bump_lin
    · simp [State.raise]

end Sys2Proof.Machine
end

section
/-! The fault collector, its reactions and fences (R669–R681, R684, R695). -/

namespace Sys2Proof.Machine

variable {s t : State} {x : Source} {d u n cause : Nat} {f : FaultFact} {a : Activity} {nums : List Nat}

/-! ### Attributes that other attributes' writes leave -/

/-- Attributes of different numbers have different paths, whatever their classes and instances. -/
theorem mkPath_ne_of_attr {y z : Nat × Nat} {i j : Nat} (h : y.2 < 256 ∧ z.2 < 256 ∧ y.2 ≠ z.2) : mkPath y.1 i y.2 ≠ mkPath z.1 j z.2 := by
  obtain ⟨hy, hz, hne⟩ := h
  unfold mkPath
  omega

/-- From `s` to `t` no value of a number other than those listed has changed. -/
def AttrsBut (nums : List Nat) (s t : State) : Prop := ∀ (y : Nat × Nat) (i : Nat), y.2 < 256 ∧ y.2 ∉ nums → t.attr y i = s.attr y i

theorem AttrsBut.of_obj (h : t.obj = s.obj) : AttrsBut nums s t := fun y i _ => State.attr_congr h y i

theorem AttrsBut.trans {w : State} (h : AttrsBut nums s t) (h' : AttrsBut nums t w) : AttrsBut nums s w := fun y i hy => (h' y i hy).trans (h y i hy)

theorem AttrsBut.foldl {α} {g : State → α → State} {xs : List α} (hg : ∀ t x, AttrsBut nums t (g t x)) : AttrsBut nums s (xs.foldl g s) := by
  induction xs generalizing s with
  | nil => exact .of_obj rfl
  | cons x xs ih => exact (hg s x).trans ih

theorem AttrsBut.ite {c : Prop} [Decidable c] {w : State} (ht : AttrsBut nums s t) (hw : AttrsBut nums s w) : AttrsBut nums s (if c then t else w) := by
  split <;> assumption

theorem attrsBut_setAttr {y : Nat × Nat} {i : Nat} {v : Val} (hy : y.2 < 256 ∧ y.2 ∈ nums) : AttrsBut nums s (s.setAttr y i v) :=
  fun _ _ hz => State.attr_setAttr_ne (mkPath_ne_of_attr ⟨hz.1, hy.1, fun h => hz.2 (h ▸ hy.2)⟩)

theorem AttrsBut.nat (h : AttrsBut nums s t) (y : Nat × Nat) (i : Nat) (hy : autoParam (y.2 < 256 ∧ y.2 ∉ nums) Nat.toPNat._auto_1) : t.nat y i = s.nat y i := by
  simp only [State.nat, State.int, h y i hy]

theorem AttrsBut.flag (h : AttrsBut nums s t) (y : Nat × Nat) (i : Nat) (hy : autoParam (y.2 < 256 ∧ y.2 ∉ nums) Nat.toPNat._auto_1) : t.flag y i = s.flag y i := by
  simp only [State.flag, State.int, h y i hy]

/-! ### Flushing and fencing -/

theorem sameBut_emptyTx : SameBut [.lin, .rad] s (s.emptyTx n) := by
  unfold State.emptyTx
  split
  · split
    · exact .refl
    · exact SameBut.refl.set_lin
  · split
    · split
      · exact .refl
      · exact SameBut.refl.set_rad
    · exact .refl

theorem sameBut_flushQueue : SameBut [.que, .lin, .rad, .obj, .mbx, .recd] s (s.flushQueue n cause).2 :=
  ((((SameBut.refl.set_que).trans (sameBut_emptyTx.mono (by decide)))).step sameBut_queueCount).step sameBut_raise

theorem attrsBut_flushQueue : AttrsBut [0x0A] s (s.flushQueue n cause).2 := by
  refine AttrsBut.trans (t := (s.setQueue n (s.queue n).flush.2.2).emptyTx n) (.of_obj (sameBut_emptyTx.area .obj)) ?_
  exact (attrsBut_setAttr (by decide)).trans (.of_obj State.raise_obj)

theorem sameBut_activityEvent {k : Nat} : SameBut [.recd] s (s.activityEvent a k) := sameBut_raise

theorem sameBut_flushActivities {p : Activity → Bool} : SameBut [.fcr, .mbx, .recd] s (s.flushActivities p) := by
  refine SameBut.trans (t := { s with fcr := _, mbx := _ }) (by simp [SameBut]) (SameBut.foldl fun t a => ?_)
  exact (SameBut.ite .refl (sameBut_complete.mono (by decide))).step sameBut_activityEvent

theorem sameBut_condEnd {k code : Nat} {c : Condition} {e : Nat} : SameBut [.recd] s (s.condEnd k code cause c e) := sameBut_raise

theorem sameBut_setChan {k : Nat} {c : MeaChannel} : SameBut [.mea] s (s.setChan k c) := by simp [SameBut, State.setChan]

theorem sameBut_endConditions : SameBut [.mea, .recd] s (s.endConditions cause) := by
  refine SameBut.foldl fun t y => ?_
  dsimp only
  refine SameBut.trans ?_ (sameBut_setChan.mono (by decide))
  refine SameBut.trans (SameBut.trans (SameBut.ite ?_ .refl) (SameBut.ite ?_ .refl)) (SameBut.ite ?_ .refl)
  all_goals exact sameBut_condEnd.mono (by decide)

theorem sameBut_meaStopped : SameBut [.mea] s s.meaStopped := SameBut.refl.set_mea

/-- What a fence of a domain does in the lighting, the RTC and the measurement (Table 01-2). -/
def State.fenceDomain (s : State) (d : Nat) : State :=
  let s := if d = 13 then { s with lux := { s.lux with fences := (s.tim.d2 / msec 1, none) :: s.lux.fences } } else s
  let s := if d = 18 then { s with tim := { s.tim with rtc := { s.tim.rtc with fencedAt := some s.tim.rtc.live.epoch } } } else s
  if d = 14 then (s.endConditions 2).meaStopped else s

/-- The unit's activities and queues end (R677). -/
def State.fenceQueues (s : State) (d u : Nat) : State :=
  (unitQueues d u).foldl (fun s q => if 0 < s.wordsUsed q then (s.flushQueue q 2).2 else s) (s.flushActivities (fun a => a.uses.contains (d, u)))

theorem State.fence_of_open (h : s.fencedUnit d u = false) :
    s.fence d u cause = ((((s.setFlag Attr.FenceUnit.fenced (d * 256 + u) true).setNat Attr.FenceUnit.cause (d * 256 + u) cause).raise 0x1402
      (objPath 0x1003 (d * 256 + u)) [(d : Int), (u : Int), (cause : Int)]).fenceDomain d).fenceQueues d u :=
  if_neg (by simp [h])

theorem State.fence_of_fenced (h : s.fencedUnit d u = true) : s.fence d u cause = s := if_pos h

theorem sameBut_fenceDomain : SameBut [.recd, .lux, .tim, .mea] s (s.fenceDomain d) :=
  ((SameBut.ite SameBut.refl.set_lux .refl).trans (SameBut.ite SameBut.refl.set_tim .refl)).trans
    (SameBut.ite ((sameBut_endConditions.mono (by decide)).step sameBut_meaStopped) .refl)

theorem SameBut.ite_of {l : List Area} {c : Prop} [Decidable c] {w : State} (ht : c → SameBut l s t) (hw : SameBut l s w) : SameBut l s (if c then t else w) := by
  split
  · next h => exact ht h
  · exact hw

/-- Only a fence of the RTC touches TIM. -/
theorem sameBut_fenceDomain_of_ne (hd : d ≠ 18) : SameBut [.recd, .lux, .mea] s (s.fenceDomain d) :=
  ((SameBut.ite SameBut.refl.set_lux .refl).trans (SameBut.ite_of (fun h => absurd h hd) .refl)).trans
    (SameBut.ite ((sameBut_endConditions.mono (by decide)).step sameBut_meaStopped) .refl)

theorem sameBut_fenceQueues : SameBut [.fcr, .mbx, .recd, .que, .lin, .rad, .obj] s (s.fenceQueues d u) :=
  (sameBut_flushActivities.mono (by decide)).trans (SameBut.foldl fun _ _ => SameBut.ite (sameBut_flushQueue.mono (by decide)) .refl)

theorem attrsBut_fenceQueues : AttrsBut [0x0A] s (s.fenceQueues d u) :=
  (AttrsBut.of_obj (sameBut_flushActivities.area .obj)).trans (AttrsBut.foldl fun _ _ => AttrsBut.ite attrsBut_flushQueue (.of_obj rfl))

/-- From `s` to `t` a unit has been fenced for a cause, where it was not (R677). -/
structure State.Fences (s t : State) (d u cause : Nat) : Prop where
  fenced : t.fencedUnit d u = true
  cause : s.fencedUnit d u = false → t.nat Attr.FenceUnit.cause (d * 256 + u) = cause
  same : SameBut [.obj, .mbx, .fcr, .recd, .lux, .mea, .tim, .que, .lin, .rad] s t
  time : d ≠ 18 → SameBut [.obj, .mbx, .fcr, .recd, .lux, .mea, .que, .lin, .rad] s t
  attrs : AttrsBut [0x01, 0x02, 0x0A] s t

/-- A unit stands fenced with its cause after a fence (R677). -/
theorem State.fence_effect : s.Fences (s.fence d u cause) d u cause := by
  by_cases h : s.fencedUnit d u = true
  · rw [State.fence_of_fenced h]
    exact ⟨h, fun h' => absurd (h'.symm.trans h) (by decide), .refl, fun _ => .refl, .of_obj rfl⟩
  · have hopen : s.fencedUnit d u = false := by simpa using h
    let v : State := (s.setFlag Attr.FenceUnit.fenced (d * 256 + u) true).setNat Attr.FenceUnit.cause (d * 256 + u) cause
    let w : State := v.raise 0x1402 (objPath 0x1003 (d * 256 + u)) [(d : Int), (u : Int), (cause : Int)]
    have hv : SameBut [.obj, .mbx, .recd] s w := ((sameBut_setFlag.mono (by decide)).step sameBut_setNat).step sameBut_raise
    have hobj : (w.fenceDomain d).obj = v.obj := (sameBut_fenceDomain.area .obj : (w.fenceDomain d).obj = w.obj)
    have hafter : AttrsBut [0x0A] v ((w.fenceDomain d).fenceQueues d u) := (AttrsBut.of_obj hobj).trans attrsBut_fenceQueues
    rw [State.fence_of_open hopen]
    refine ⟨?_, fun _ => ?_, ?_, fun hd => ?_, ?_⟩
    · refine (hafter.flag _ _).trans ?_
      exact (State.flag_setAttr_ne (mkPath_ne_of_attr (by decide))).trans State.flag_setFlag
    · exact (hafter.nat _ _).trans State.nat_setNat
    · exact ((hv.mono (by decide)).step sameBut_fenceDomain).step sameBut_fenceQueues
    · exact ((hv.mono (by decide)).step (sameBut_fenceDomain_of_ne hd)).step sameBut_fenceQueues
    · have hfirst : AttrsBut [0x01, 0x02, 0x0A] s v := (attrsBut_setAttr (by decide)).trans (attrsBut_setAttr (by decide))
      refine hfirst.trans fun y i hy => hafter y i ⟨hy.1, fun hm => hy.2 (by simp at hm; simp [hm])⟩

/-! ### Reports (R669–R675) -/

theorem sameBut_latchReport {r : Nat} (hp : f.path = none) : SameBut [.obj, .mbx, .fcr] s (s.latchReport x f r) := by
  unfold State.latchReport
  rw [hp]
  exact (sameBut_setFlag.mono (by decide)).set_fcr

theorem attrsBut_latchReport {r : Nat} (hp : f.path = none) : AttrsBut [0x04] s (s.latchReport x f r) := by
  unfold State.latchReport
  rw [hp]
  exact (attrsBut_setAttr (by decide)).trans (.of_obj rfl)

theorem State.latchReport_latched {r : Nat} (hp : f.path = none) : (s.latchReport x f r).flag Attr.FaultSource.latched x.num = true := by
  unfold State.latchReport
  rw [hp]
  exact State.flag_setFlag

theorem State.latchReport_counts {r : Nat} (hp : f.path = none) :
    (s.latchReport x f r).fcr.reports = min (s.fcr.reports + 1) 0xFFFFFFFF ∧ Assoc.find x.num (s.latchReport x f r).fcr.lastReport = some s.tim.d3 := by
  unfold State.latchReport
  rw [hp]
  simp

theorem State.reactionOf_latchReport {r : Nat} (hp : f.path = none) : (s.latchReport x f r).reactionOf x = s.reactionOf x := by
  unfold State.reactionOf
  rw [(attrsBut_latchReport hp).nat _ _]

theorem sameBut_faultEvent {r : Nat} : SameBut [.recd] s (s.faultEvent x r) := by
  unfold State.faultEvent
  split
  · exact sameBut_raiseSafe
  · exact sameBut_raise

theorem sameBut_refreshHold : SameBut [.fcr] s s.refreshHold := SameBut.ite SameBut.refl.set_fcr .refl

theorem sameBut_countReport : SameBut [.obj, .mbx, .fcr] s (s.countReport n) := (sameBut_bumpSat.mono (by decide)).set_fcr

theorem sameBut_safeState : SameBut [.obj, .mbx, .fcr, .recd] s (s.safeState n) := by
  unfold State.safeState
  dsimp only
  split
  · refine SameBut.trans (sameBut_bumpSat.mono (by decide)) (SameBut.ite .refl ?_)
    exact (SameBut.refl.set_fcr).step sameBut_raiseSafe
  · refine SameBut.trans (sameBut_bumpSat.mono (by decide)) (SameBut.ite .refl ?_)
    exact (SameBut.refl.set_fcr).step sameBut_raiseSafe

theorem State.safeState_obj : (s.safeState n).obj = (s.bumpSat 32 Attr.SafetyFunction.detections n).obj := by
  unfold State.safeState
  dsimp only
  split
  · split <;> rfl
  · split <;> rfl

theorem State.safeState_nat_ne {y : Nat × Nat} {i : Nat}
    (h : mkPath y.1 i y.2 ≠ mkPath Attr.SafetyFunction.detections.1 n Attr.SafetyFunction.detections.2) : (s.safeState n).nat y i = s.nat y i :=
  (State.nat_congr State.safeState_obj y i).trans (State.nat_setNat_ne h)

theorem attrsBut_safeState : AttrsBut [0x02] s (s.safeState n) := by
  exact (attrsBut_setAttr (by decide)).trans (.of_obj State.safeState_obj)

/-- A single report, of no injection: it is latched, and its reaction acts (R670, R674). -/
theorem State.collect_one (hx : source f.source = some x) (hinj : s.fcr.injections = []) (hp : f.path = none) (hlate : f.late = false) :
    s.collect [f] = (s.latchReport x f (s.reactionOf x)).react x f.unit (s.reactionOf x) := by
  have hrank : ∀ v : State, v.outranked [f] f = false := by
    intro v
    simp [State.outranked, hx]
  have hsort : (sortFacts [f]).filter (fun f => (source f.source).isSome) = [f] := by simp [sortFacts, insertFact, hx]
  simp only [State.collect, hsort, List.foldl_cons, List.foldl_nil, hx, hinj, List.find?_nil, List.filter_cons, List.filter_nil, hrank, Bool.not_false,
    ↓reduceIte, State.reactionOf_latchReport hp, List.any_cons, List.any_nil, hlate, Bool.or_false, Bool.false_eq_true]

/-- No report changes nothing. -/
theorem State.collect_nil : s.collect [] = s := rfl

/-- A report as the block raises it while the processor runs (R743). -/
theorem execFaultReport_one {y : FaultFact} (hhalt : s.dbg.halted = false) : execFaultReport [y] s = .next (s.collect [y]) := by
  simp [execFaultReport, hhalt]

/-! ### The obligation -/

/-- STALEMATE is entered (R109, R110). -/
theorem State.enterStalemate_effect (h : s.sys.stalemate = false) :
    (s.enterStalemate n).sys = { s.sys with stalemate := true, txEnable := false, purelHeld := true, causeValid := true, causeSource := n } ∧
      (s.enterStalemate n).twn.claimOut = false ∧ (s.enterStalemate n).obj = s.obj ∧ SameBut [.sys, .twn, .recd] s (s.enterStalemate n) := by
  unfold State.enterStalemate
  rw [if_neg (by simp [h])]
  exact ⟨rfl, rfl, rfl, by simp [SameBut, State.raiseSafe]⟩

/-- A fault whose reaction is STALEMATE: latched, recorded, and STALEMATE entered (R681). -/
theorem State.toStalemate_effect (hp : f.path = none) (h : s.sys.stalemate = false) :
    let t := ((s.latchReport x f 5).faultEvent x 5).enterStalemate n
    t.sys = { s.sys with stalemate := true, txEnable := false, purelHeld := true, causeValid := true, causeSource := n } ∧ t.twn.claimOut = false ∧
      t.flag Attr.FaultSource.latched x.num = true ∧ SameBut [.sys, .twn, .obj, .mbx, .fcr, .recd] s t := by
  have hev : SameBut [.obj, .mbx, .fcr, .recd] s ((s.latchReport x f 5).faultEvent x 5) := ((sameBut_latchReport hp).mono (by decide)).step sameBut_faultEvent
  have hsys : ((s.latchReport x f 5).faultEvent x 5).sys = s.sys := hev.area .sys
  obtain ⟨h1, h2, h3, h4⟩ := State.enterStalemate_effect (s := (s.latchReport x f 5).faultEvent x 5) (n := n) (by rw [hsys]; exact h)
  have hobj : ((s.latchReport x f 5).faultEvent x 5).obj = (s.latchReport x f 5).obj := sameBut_faultEvent.area .obj
  refine ⟨by rw [h1, hsys], h2, (State.flag_congr (h3.trans hobj) _ _).trans (State.latchReport_latched hp), (hev.mono (by decide)).step h4⟩

/-- Settles O27: a report by its reaction, the collector's other rows by their equations. -/
theorem faultsAndFences : Obligations.FaultsAndFences := by
  refine ⟨?count, ?fence, ?stalemate, ?mismatch, ?nested, ?window, ?pulse, ?cleared, ?kept, ?gate, ?dropped, ?again⟩
  case count =>
    intro s x u hx hr hinj hhalt
    let v : State := s.latchReport x ⟨x.num, u, none, false, false⟩ 0
    have hrun : exec (.faultReport [⟨x.num, u, none, false, false⟩]) s = .next (v.countReport x.num) := by
      refine (execFaultReport_one hhalt).trans (congrArg Host.Outcome.next ?_)
      rw [State.collect_one hx hinj rfl rfl, hr]
      rfl
    have hcount : v.nat Attr.FaultSource.count x.num = s.nat Attr.FaultSource.count x.num := (attrsBut_latchReport rfl).nat _ _
    obtain ⟨hreports, hlast⟩ := State.latchReport_counts (s := s) (x := x) (f := ⟨x.num, u, none, false, false⟩) (r := 0) rfl
    have hfcr : (v.bumpSat 32 Attr.FaultSource.count x.num).fcr = v.fcr := State.bumpSat_fcr
    refine ⟨_, hrun, ?_, ?_, (congrArg FaultState.reports hfcr).trans hreports, ?_, (sameBut_latchReport rfl).trans sameBut_countReport⟩
    · exact (State.flag_setAttr_ne (mkPath_ne_of_attr (by decide))).trans (State.latchReport_latched rfl)
    · rw [← hcount]
      exact State.nat_bumpSat (s := v)
    · exact (congrArg (fun c : FaultState => Assoc.find x.num c.lastReport) hfcr).trans hlast
  case fence =>
    intro s x u hx hd hr hinj hhalt
    let v : State := (s.latchReport x ⟨x.num, u, none, false, false⟩ 2).faultEvent x 2
    let w : State := v.fence x.domain (x.unitOf u) x.num
    have hrun : exec (.faultReport [⟨x.num, u, none, false, false⟩]) s = .next (if x.num = 208 ∨ x.num = 209 then w.safeState 1 else w) := by
      refine (execFaultReport_one hhalt).trans (congrArg Host.Outcome.next ?_)
      rw [State.collect_one hx hinj rfl rfl, hr]
      rfl
    have hv : SameBut [.obj, .mbx, .fcr, .recd] s v := ((sameBut_latchReport rfl).mono (by decide)).step sameBut_faultEvent
    have hvattr : AttrsBut [0x04] s v := (attrsBut_latchReport rfl).trans (.of_obj (sameBut_faultEvent.area .obj))
    obtain ⟨hfenced, hcause, -, hsame, -⟩ := State.fence_effect (s := v) (d := x.domain) (u := x.unitOf u) (cause := x.num)
    have hsafe : AttrsBut [0x02] w (if x.num = 208 ∨ x.num = 209 then w.safeState 1 else w) := .ite attrsBut_safeState (.of_obj rfl)
    have hopen : v.fencedUnit x.domain (x.unitOf u) = s.fencedUnit x.domain (x.unitOf u) := hvattr.flag _ _
    refine ⟨_, hrun, (hsafe.flag _ _).trans hfenced, fun hno => ?_, ?_⟩
    · have hset : w.nat Attr.FenceUnit.cause (x.domain * 256 + x.unitOf u) = x.num := hcause (hopen.trans hno)
      show State.nat _ Attr.FenceUnit.cause (x.domain * 256 + x.unitOf u) = x.num
      split
      · next hlux =>
        have hunit : x.unitOf u = 0 ∧ x.domain = 13 := by
          rcases hlux with h | h
          · obtain rfl : (⟨208, 3, 2, false⟩ : Source) = x := Option.some.inj ((by decide : _ = source 208).trans (h ▸ hx))
            exact ⟨rfl, rfl⟩
          · obtain rfl : (⟨209, 3, 2, false⟩ : Source) = x := Option.some.inj ((by decide : _ = source 209).trans (h ▸ hx))
            exact ⟨rfl, rfl⟩
        rw [hunit.1, hunit.2] at hset ⊢
        exact (State.safeState_nat_ne (by decide)).trans hset
      · exact hset
    · exact ((hv.mono (by decide)).trans (hsame (show x.num / 16 ≠ 18 by omega))).trans (SameBut.ite (sameBut_safeState.mono (by decide)) .refl)
  case stalemate =>
    intro s x u hx hr hinj hhalt hst
    have hrun : exec (.faultReport [⟨x.num, u, none, false, false⟩]) s =
        .next (((s.latchReport x ⟨x.num, u, none, false, false⟩ 5).faultEvent x 5).enterStalemate x.num) := by
      refine (execFaultReport_one hhalt).trans (congrArg Host.Outcome.next ?_)
      rw [State.collect_one hx hinj rfl rfl, hr]
      rfl
    obtain ⟨h1, h2, -, h4⟩ := State.toStalemate_effect (s := s) (x := x) (f := ⟨x.num, u, none, false, false⟩) (n := x.num) rfl hst
    exact ⟨_, hrun, h1, h2, h4⟩
  case mismatch =>
    intro s hst
    obtain ⟨h1, h2, h3, h4⟩ := State.toStalemate_effect (s := s) (x := ⟨320, 4, 5, false⟩) (f := ⟨320, 0, none, false, false⟩) (n := 320) rfl hst
    exact ⟨_, rfl, by rw [h1], by rw [h1], by rw [h1], h2, h3, h4⟩
  case nested =>
    intro s hst
    obtain ⟨h1, h2, h3, h4⟩ := State.toStalemate_effect (s := s) (x := ⟨321, 4, 5, false⟩) (f := ⟨321, 0, none, false, false⟩) (n := 321) rfl hst
    exact ⟨_, rfl, by rw [h1], by rw [h1], by rw [h1], h2, h3, h4⟩
  case window =>
    intro s n
    by_cases h : 2 ≤ (Assoc.find n s.fcr.window).getD 0
    · refine ⟨_, if_pos h, Assoc.find_del_same, rfl, ?_, (SameBut.refl.set_fcr).step sameBut_raise⟩
      rw [if_pos h]
      rfl
    · refine ⟨_, if_neg h, Assoc.find_del_same, rfl, ?_, SameBut.refl.set_fcr⟩
      rw [if_neg h]
  case pulse => exact fun s => ⟨_, rfl, rfl, SameBut.refl.set_fcr⟩
  case cleared =>
    intro s x hx hcls hheal
    have hok : ¬ ((((source x.num).map (fun x => x.cls == clsFatal)).getD true || !s.healthy x.num) = true) := by simp [hx, hcls, hheal]
    have hrun : exec (.latchedWrite x.num false) s = .next (s.setFlag Attr.FaultSource.latched x.num false).refreshHold :=
      congrArg (fun r : Status × State => Host.Outcome.next r.2) ((if_neg (by decide)).trans (if_neg hok))
    exact ⟨_, hrun, (State.flag_congr (sameBut_refreshHold.area .obj) _ _).trans State.flag_setFlag, (sameBut_setFlag.mono (by decide)).step sameBut_refreshHold⟩
  case kept =>
    intro s x hx hno
    have hbad : (((source x.num).map (fun x => x.cls == clsFatal)).getD true || !s.healthy x.num) = true := by
      rcases hno with h | h <;> simp [hx, h]
    exact ⟨s, congrArg (fun r : Status × State => Host.Outcome.next r.2) ((if_neg (by decide)).trans (if_pos hbad)), rfl⟩
  case gate =>
    intro s hst hgate hpost hmode
    have hon : (!s.sys.stalemate && !s.twn.gateOk && !(s.nat Attr.ServicePosture.posture 0 == 1 || s.nat Attr.ServicePosture.posture 0 == 3) &&
        (s.sys.mode == .service || s.sys.mode == .island)) = true := by simp [hst, hgate, hpost, hmode]
    have hrun : exec (.guardDiagnostics ⟨true, true, true, true, true, true⟩) s =
        .next (State.refreshGate { s with fcr := { s.fcr with checkerOk := true, luxOk := true } }) :=
      congrArg Host.Outcome.next ((if_pos (by simp [hst])).trans rfl)
    refine ⟨_, hrun, rfl, ?_, rfl, rfl, by simp [SameBut, State.refreshGate]⟩
    exact (congrArg (s.sys.txEnable || ·) hon).trans (Bool.or_true _)
  case dropped =>
    intro s a hdef hcmd
    have hfind : s.fcr.deferred.find? (fun x => x.arrival == a.arrival && x.kind == a.kind) = some a := by simp [hdef]
    have hrest : s.fcr.deferred.filter (fun x => !(x.arrival == a.arrival && x.kind == a.kind)) = [] := by simp [hdef]
    let v : State := { s with
      fcr := { s.fcr with deferred := [] }
      mbx := { s.mbx with awaiting := s.mbx.awaiting.filter (fun x => x.arrival != a.arrival) } }
    have hrun : execDeferredDrop a.arrival a.kind s = .next (v.complete a.session a.path a.arrival .timeout) := by
      unfold execDeferredDrop
      rw [hfind]
      simp only [hrest, hcmd, Bool.false_eq_true, ↓reduceIte, Bool.false_or]
      rfl
    have hfcr : (v.complete a.session a.path a.arrival .timeout).fcr = v.fcr := sameBut_complete.area .fcr
    have hawait : (v.complete a.session a.path a.arrival .timeout).mbx.awaiting = v.mbx.awaiting := (congrArg Mailbox.awaiting State.complete_unnotified :)
    refine ⟨_, hrun, by rw [hfcr], by rw [hfcr], fun x hx => ?_, SameBut.step (t := v) (by simp [SameBut, v]) sameBut_complete⟩
    rw [hawait] at hx
    simpa using (List.mem_filter.1 hx).2
  case again =>
    intro s a hdef hint
    have hfind : s.fcr.deferred.find? (fun x => x.arrival == a.arrival && x.kind == a.kind) = some a := by simp [hdef]
    have hrest : s.fcr.deferred.filter (fun x => !(x.arrival == a.arrival && x.kind == a.kind)) = [] := by simp [hdef]
    have hrun : execDeferredDrop a.arrival a.kind s = .next { s with fcr := { s.fcr with deferred := [], again := s.fcr.again ++ [a] } } := by
      unfold execDeferredDrop
      rw [hfind]
      simp only [hrest, hint, ↓reduceIte, Bool.true_or, List.filter_true]
    exact ⟨_, hrun, rfl, SameBut.refl.set_fcr⟩

end Sys2Proof.Machine
end

section
/-! The real-time clock, its alarms and its registers (R588–R600). -/

namespace Sys2Proof.Machine

variable {s t : State} {n v who : Nat} {x : Rtc}

/-! ### Access -/

theorem sameBut_setRtc : SameBut [.tim] s (s.setRtc x) := by simp [SameBut, State.setRtc]

theorem State.int_setAttr_ne {a b : Nat × Nat} {i j : Nat} {w : Val} (h : mkPath b.1 j b.2 ≠ mkPath a.1 i a.2) : (s.setAttr a i w).int b j = s.int b j := by
  simp only [State.int, State.attr_setAttr_ne h]

theorem State.elem_setAttr_ne {a b : Nat × Nat} {i j k : Nat} {w : Val} (h : mkPath b.1 j b.2 ≠ mkPath a.1 i a.2) :
    (s.setAttr a i w).elem b j k = s.elem b j k := by
  simp only [State.elem, State.arr, State.attr_setAttr_ne h]

/-- Paths of one value in different objects. -/
theorem mkPath_ne_of_inst {y : Nat × Nat} {i j : Nat} (h : i ≠ j) : mkPath y.1 i y.2 ≠ mkPath y.1 j y.2 := by
  unfold mkPath
  omega

/-! ### Alarms -/

theorem State.alarmTick_disabled (h : s.flag Attr.RtcAlarm.enable n = false) : s.alarmTick n = s := if_neg (by simp [h])

theorem State.alarmAcross_disabled {old new : Nat} (h : s.flag Attr.RtcAlarm.enable n = false) : s.alarmAcross old new n = s := if_pos (.inl (by simp [h]))

/-- A move of the clock while no alarm is enabled (R599). -/
theorem State.alarmsAcross_disabled {old new : Nat} (h : ∀ m < 4, s.flag Attr.RtcAlarm.enable m = false) : s.alarmsAcross old new = s := by
  have hfold : ∀ (l : List Nat), (∀ m ∈ l, m < 4) → l.foldl (fun s n => s.alarmAcross old new n) s = s := by
    intro l hl
    induction l with
    | nil => rfl
    | cons m l ih =>
      rw [List.foldl_cons, State.alarmAcross_disabled (h m (hl m (by simp)))]
      exact ih fun k hk => hl k (by simp [hk])
  exact (if_congr Iff.rfl (hfold _ (by simp)) rfl).trans (ite_self s)

/-- A fold in which one element alone acts. -/
theorem foldl_one {α β} {g : β → α → β} {b : β} {y : α} {l : List α} (hnd : l.Nodup) (hy : y ∈ l) (hskip : ∀ z ∈ l, z ≠ y → g b z = b)
    (hafter : ∀ z ∈ l, z ≠ y → g (g b y) z = g b y) : l.foldl g b = g b y := by
  have hid : ∀ (c : β) (l : List α), (∀ z ∈ l, g c z = c) → l.foldl g c = c := by
    intro c l hl
    induction l with
    | nil => rfl
    | cons z l ih =>
      rw [List.foldl_cons, hl z (by simp)]
      exact ih fun w hw => hl w (by simp [hw])
  obtain ⟨l₁, l₂, rfl⟩ := List.append_of_mem hy
  have hnot : y ∉ l₁ ∧ y ∉ l₂ := by
    rw [List.nodup_append] at hnd
    obtain ⟨-, h2, h3⟩ := hnd
    exact ⟨fun h => h3 y h y (by simp) rfl, (List.nodup_cons.1 h2).1⟩
  rw [List.foldl_append, hid b l₁ fun z hz => hskip z (by simp [hz]) (fun h => hnot.1 (h ▸ hz)), List.foldl_cons]
  exact hid _ l₂ fun z hz => hafter z (by simp [hz]) (fun h => hnot.2 (h ▸ hz))

/-- What an alarm that fires leaves (R598). -/
structure State.AlarmFired (s t : State) (n u p e : Nat) : Prop where
  last : t.nat Attr.RtcAlarm.lastFire n = u
  rtc : t.tim.rtc = { s.tim.rtc with
    fired := s.tim.rtc.fired ||| 2 ^ n, purelIrqs := s.tim.rtc.purelIrqs + 1
    hostIrqs := if s.flag Attr.RtcAlarm.irqEnable n then s.tim.rtc.hostIrqs + 1 else s.tim.rtc.hostIrqs }
  once : p = 0 → t.flag Attr.RtcAlarm.enable n = false
  again : p ≠ 0 → t.nat Attr.RtcAlarm.instant n = u + ((e - u) / p + 1) * p
  others : ∀ m < 4, m ≠ n → t.flag Attr.RtcAlarm.enable m = s.flag Attr.RtcAlarm.enable m
  same : SameBut [.tim, .obj, .mbx] s t

theorem State.alarmTick_fires {u p e : Nat} (hen : s.flag Attr.RtcAlarm.enable n = true) (hu : s.nat Attr.RtcAlarm.instant n = u)
    (hp : s.nat Attr.RtcAlarm.periodS n = p) (he : s.tim.rtc.live.epoch = e) (hle : u ≤ e) (hlast : s.nat Attr.RtcAlarm.lastFire n < u) :
    s.AlarmFired (s.alarmTick n) n u p e := by
  let r : Rtc := { s.tim.rtc with
    fired := s.tim.rtc.fired ||| 2 ^ n, purelIrqs := s.tim.rtc.purelIrqs + 1
    hostIrqs := if s.flag Attr.RtcAlarm.irqEnable n then s.tim.rtc.hostIrqs + 1 else s.tim.rtc.hostIrqs }
  let f : State := (s.setRtc r).setNat Attr.RtcAlarm.lastFire n u
  have htick : s.alarmTick n = f.moveAlarm n e := by
    unfold State.alarmTick
    rw [hu, he]
    exact if_pos ⟨hen, hle, hlast⟩
  have hper : f.nat Attr.RtcAlarm.periodS n = p := (State.nat_setNat_ne (mkPath_ne_of_attr (by decide))).trans hp
  have hinst : f.nat Attr.RtcAlarm.instant n = u := (State.nat_setNat_ne (mkPath_ne_of_attr (by decide))).trans hu
  have hlastf : f.nat Attr.RtcAlarm.lastFire n = u := State.nat_setNat
  have hrtc : f.tim.rtc = r := congrArg Time.rtc State.setNat_tim
  have hf : SameBut [.tim, .obj, .mbx] s f := (sameBut_setRtc.mono (by decide)).step sameBut_setNat
  have hflag : ∀ m, f.flag Attr.RtcAlarm.enable m = s.flag Attr.RtcAlarm.enable m := fun m => State.flag_setAttr_ne (mkPath_ne_of_attr (by decide))
  rw [htick]
  unfold State.moveAlarm
  rw [hper]
  by_cases hzero : p = 0
  · rw [if_pos hzero]
    refine ⟨(State.nat_setAttr_ne (mkPath_ne_of_attr (by decide))).trans hlastf, (congrArg Time.rtc State.setFlag_tim).trans hrtc, fun _ => State.flag_setFlag,
      fun h => absurd hzero h, fun m hm hne => ?_, hf.step sameBut_setFlag⟩
    exact (State.flag_setAttr_ne (mkPath_ne_of_inst hne)).trans (hflag m)
  · rw [if_neg hzero]
    refine ⟨(State.nat_setNat_ne (mkPath_ne_of_attr (by decide))).trans hlastf, (congrArg Time.rtc State.setNat_tim).trans hrtc, fun h => absurd h hzero,
      fun _ => ?_, fun m _ _ => ?_, hf.step sameBut_setNat⟩
    · rw [State.nat_setNat, hinst]
      exact if_neg (Nat.not_lt.2 hle)
    · exact (State.flag_setAttr_ne (mkPath_ne_of_attr (by decide))).trans (hflag m)

theorem State.liveGroup_setRtc_shadow {y : Option (RtcGroup × Nat)} : (s.setRtc (s.tim.rtc.setShadow who y)).tim.rtc = s.tim.rtc.setShadow who y := rfl

/-- A commit of a valid group while no alarm is enabled (R590, R591). -/
theorem State.rtcCommit_valid {g : RtcGroup} (hg : g.valid = true) (h : ∀ m < 4, s.flag Attr.RtcAlarm.enable m = false) :
    s.rtcCommit g = (s.setRtc { s.tim.rtc with live := { g with sub := 0 }, stage := g, staged := false, subTicks := 0, osf := false }).raise 0x1204 rtcPath
      [(s.tim.rtc.live.epoch : Int), (g.epoch : Int)] := by
  unfold State.rtcCommit
  rw [if_neg (by simp [hg])]
  exact State.alarmsAcross_disabled h

theorem State.rtcCommit_invalid {g : RtcGroup} (hg : g.valid = false) : s.rtcCommit g = s.setRtc { s.tim.rtc with commitErr := true } := if_pos (by simp [hg])

theorem State.freeze_open (h : s.tim.rtc.shadow who = none) :
    s.freeze who = (s.liveGroup, s.setRtc (s.tim.rtc.setShadow who (some (s.liveGroup, s.tim.d3)))) := by
  simp only [State.freeze, h]

theorem State.freeze_frozen {y : RtcGroup × Nat} (h : s.tim.rtc.shadow who = some y) : s.freeze who = (y.1, s) := by
  simp only [State.freeze, h]

/-- The curve at one of its points (R593): no rounding is left open. -/
theorem State.curveAt_point {k : Nat} (hk : k ≤ 15) : s.curveAt (20 * k - 80) = (s.elem Attr.RealTimeClock.tcompCurve 0 k, s) := by
  have hx : max (0 : Int) (min 300 (20 * (k : Int) - 80 + 80)) = 20 * k := by omega
  have hdiv : (20 * (k : Int) / 20).toNat = k := by omega
  have hmod : 20 * (k : Int) % 20 = 0 := by omega
  simp only [State.curveAt, hx, hdiv, hmod, mul_zero, EuclideanDomain.zero_mod, ↓reduceIte, EuclideanDomain.zero_div, add_zero]

/-- The activity a recalibration command asks for (R594). -/
def recalibration (c : Cmd) : Activity :=
  { kind := 7, arrival := c.arrival, internal := false, unit := 0, session := c.session, path := c.path, arg := c.payload.take 16 }

/-- The latch, the count and the event of a fault whose reaction is an interrupt (R672, R675). -/
theorem State.reactInterrupt_effect {x : Source} {f : FaultFact} {u : Nat} (hp : f.path = none) (hcls : x.cls < 3) (hnum : x.num ≠ 258) :
    ((s.latchReport x f 1).react x u 1).flag Attr.FaultSource.latched x.num = true ∧ ((s.latchReport x f 1).react x u 1).fcr.irqs = s.fcr.irqs + 1 ∧
      ((s.latchReport x f 1).react x u 1).recd = s.recd.ordinary ⟨0x1401, objPath 0x1002 x.num, [(x.num : Int), (x.cls : Int), 1]⟩ ∧
      SameBut [.obj, .mbx, .fcr, .recd] s ((s.latchReport x f 1).react x u 1) := by
  have hlatch : (s.latchReport x f 1).flag Attr.FaultSource.latched x.num = true := State.latchReport_latched hp
  have hlatchS : SameBut [.obj, .mbx, .fcr] s (s.latchReport x f 1) := sameBut_latchReport hp
  have hirqs : (s.latchReport x f 1).fcr.irqs = s.fcr.irqs := by
    unfold State.latchReport
    rw [hp]
    exact (congrArg FaultState.irqs State.setFlag_fcr :)
  generalize s.latchReport x f 1 = w at hlatch hlatchS hirqs
  have hcount : SameBut [.obj, .mbx, .fcr] w (w.countReport x.num) := sameBut_countReport
  have hkeep : (w.countReport x.num).flag Attr.FaultSource.latched x.num = true := (State.flag_setAttr_ne (mkPath_ne_of_attr (by decide))).trans hlatch
  have hcirqs : (w.countReport x.num).fcr.irqs = w.fcr.irqs := (congrArg FaultState.irqs State.bumpSat_fcr :)
  have hreact : w.react x u 1 =
      { (w.countReport x.num).faultEvent x 1 with fcr := { ((w.countReport x.num).faultEvent x 1).fcr with irqs := ((w.countReport x.num).faultEvent x 1).fcr.irqs + 1 } } := if_neg hnum
  rw [hreact]
  generalize w.countReport x.num = v at hcount hkeep hcirqs
  have hsv : SameBut [.obj, .mbx, .fcr] s v := hlatchS.trans hcount
  have hrecd : v.recd = s.recd := hsv.area .recd
  have hevent : v.faultEvent x 1 = v.raise 0x1401 (objPath 0x1002 x.num) [(x.num : Int), (x.cls : Int), 1] := if_neg (Nat.not_le.2 hcls)
  rw [hevent]
  exact ⟨hkeep, congrArg (· + 1) (hcirqs.trans hirqs), congrArg (fun r : Recorder => r.ordinary _) hrecd, ((hsv.mono (by decide)).step sameBut_raise).set_fcr⟩

/-- Settles O35: each register and row of the RTC by its own equation. -/
theorem realTimeClock : Obligations.RealTimeClock := by
  refine ⟨?fencedSecond, ?alarm, ?firstRead, ?frozenRead, ?year, ?fencedRead, ?stale, ?staging, ?closed, ?commit, ?invalid, ?unkeyed, ?instant, ?trim, ?stopped,
    ?vbat, ?measure, ?align, ?recalibrate, ?refused⟩
  case fencedSecond =>
    intro s hcut
    exact ⟨_, congrArg Host.Outcome.next (if_pos hcut), rfl, sameBut_setRtc⟩
  case alarm =>
    intro s n u p e hn hlive hothers hen hu hp he hle hlast
    let v : State := s.setRtc { s.tim.rtc with live := s.tim.rtc.live.second, subTicks := 0 }
    have hfired : v.AlarmFired (v.alarmTick n) n u p e := State.alarmTick_fires hen hu hp he hle hlast
    have hfold : (List.range 4).foldl State.alarmTick v = v.alarmTick n := by
      refine foldl_one List.nodup_range (List.mem_range.2 hn) (fun m hm hne => State.alarmTick_disabled (hothers m (List.mem_range.1 hm) hne)) fun m hm hne => ?_
      exact State.alarmTick_disabled ((hfired.others m (List.mem_range.1 hm) hne).trans (hothers m (List.mem_range.1 hm) hne))
    have hrun : exec .rtcSecond s = .next (v.alarmTick n) := congrArg Host.Outcome.next ((if_neg (show ¬ s.cutOff 18 0 = true by simp [hlive])).trans hfold)
    exact ⟨_, hrun, hfired.last, by rw [hfired.rtc]; rfl, by rw [hfired.rtc]; rfl, by rw [hfired.rtc]; rfl, hfired.once, hfired.again, by rw [hfired.rtc]; rfl,
      (sameBut_setRtc.mono (by decide)).trans hfired.same⟩
  case firstRead =>
    intro s who a hlive hnone
    refine ⟨_, if_neg (by simp [hlive]), ?_, ?_⟩
    · rw [State.freeze_open hnone]
      rfl
    · rw [State.freeze_open hnone]
      exact sameBut_setRtc.trans sameBut_setRtc
  case frozenRead =>
    intro s who a x hlive hx
    refine ⟨_, if_neg (by simp [hlive]), ?_, ?_⟩
    · rw [State.freeze_frozen hx]
      rfl
    · rw [State.freeze_frozen hx]
      exact sameBut_setRtc
  case year =>
    intro s who x hlive hx
    refine ⟨_, if_neg (by simp [hlive]), ?_, ?_⟩
    · rw [State.freeze_frozen hx]
      rfl
    · rw [State.freeze_frozen hx]
      exact sameBut_setRtc
  case fencedRead => exact fun s who a hcut => ⟨_, if_pos hcut, rfl, sameBut_setRtc⟩
  case stale => exact fun s who hsome => ⟨_, if_pos hsome, rfl, sameBut_setRtc⟩
  case staging => exact fun s who a v hw => ⟨_, if_neg (by simp [hw]), rfl, sameBut_setRtc⟩
  case closed => exact fun s a v hw => ⟨s, if_pos (by simp [State.rtcWrites, hw]), rfl⟩
  case commit =>
    intro s who v hw hkey hcommit hvalid halarms
    have hgo : ¬ ((!s.rtcWrites who) = true ∨ v / 256 % 256 ≠ 0x5A ∨ v % 2 = 0) := by simp [hw, hkey, hcommit]
    refine ⟨_, (if_neg hgo).trans (congrArg Host.Outcome.next (State.rtcCommit_valid hvalid halarms)), rfl, rfl, (sameBut_setRtc.mono (by decide)).step sameBut_raise⟩
  case invalid =>
    intro s who v hw hkey hcommit hvalid
    have hgo : ¬ ((!s.rtcWrites who) = true ∨ v / 256 % 256 ≠ 0x5A ∨ v % 2 = 0) := by simp [hw, hkey, hcommit]
    exact ⟨_, (if_neg hgo).trans (congrArg Host.Outcome.next (State.rtcCommit_invalid hvalid)), rfl, sameBut_setRtc⟩
  case unkeyed => exact fun s who v hkey => ⟨s, if_pos (.inr (.inl hkey)), rfl⟩
  case instant =>
    intro s n v hn hlive
    refine ⟨_, if_neg (by simp [hlive, hn]), ?_, State.nat_setNat, (sameBut_setNat.step sameBut_setNat).mono (by decide)⟩
    exact (State.nat_setNat_ne (mkPath_ne_of_attr (by decide))).trans State.nat_setNat
  case trim =>
    intro s d k hen hk hd
    subst hd
    let v : State := s.setInt Attr.RealTimeClock.temperature 0 (20 * k - 80)
    have helem : v.elem Attr.RealTimeClock.tcompCurve 0 k = s.elem Attr.RealTimeClock.tcompCurve 0 k := State.elem_setAttr_ne (mkPath_ne_of_attr (by decide))
    have haging : v.int Attr.RealTimeClock.agingOffset 0 = s.int Attr.RealTimeClock.agingOffset 0 := State.int_setAttr_ne (mkPath_ne_of_attr (by decide))
    have htrim : v.setTrim (20 * k - 80) = v.setInt Attr.RealTimeClock.trimNow 0
        (max (-2139) (min 2139 (s.elem Attr.RealTimeClock.tcompCurve 0 k + s.int Attr.RealTimeClock.agingOffset 0))) := by
      unfold State.setTrim
      rw [State.curveAt_point hk]
      dsimp only
      rw [helem, haging]
    refine ⟨_, (if_pos hen).trans (congrArg Host.Outcome.next htrim), ?_, State.int_setInt, (sameBut_setInt.step sameBut_setInt).mono (by decide)⟩
    exact (State.int_setAttr_ne (mkPath_ne_of_attr (by decide))).trans State.int_setInt
  case stopped =>
    intro s hosf hreact hinj
    let v : State := (s.setRtc { s.tim.rtc with osf := true }).raise 0x1201 rtcPath []
    have hsource : source 288 = some ⟨288, 1, 1, false⟩ := by decide
    have hreaction : v.reactionOf ⟨288, 1, 1, false⟩ = 1 := hreact
    have hrun : exec .oscStopped s = .next ((v.latchReport ⟨288, 1, 1, false⟩ ⟨288, 0, none, false, false⟩ 1).react ⟨288, 1, 1, false⟩ 0 1) := by
      refine (if_neg (by simp [hosf])).trans (congrArg Host.Outcome.next ?_)
      refine (State.collect_one (s := v) (f := ⟨288, 0, none, false, false⟩) hsource hinj rfl rfl).trans ?_
      rw [hreaction]
    obtain ⟨hlatched, hirqs, hrecd, hsame⟩ := State.reactInterrupt_effect (s := v) (x := ⟨288, 1, 1, false⟩) (f := ⟨288, 0, none, false, false⟩) (u := 0) rfl
      (by decide) (by decide)
    have htim : ((v.latchReport ⟨288, 1, 1, false⟩ ⟨288, 0, none, false, false⟩ 1).react ⟨288, 1, 1, false⟩ 0 1).tim = v.tim := hsame.area .tim
    exact ⟨_, hrun, congrArg Time.rtc htim, hlatched, hirqs, hrecd,
      ((sameBut_setRtc.mono (by decide)).step sameBut_raise).trans (hsame.mono (by decide))⟩
  case vbat => exact fun s on => ⟨_, rfl, rfl, sameBut_setRtc⟩
  case measure =>
    intro s mv
    by_cases hlow : mv < 2000
    · refine ⟨_, congrArg Host.Outcome.next (if_pos hlow), rfl, ?_, (sameBut_setRtc.mono (by decide)).step sameBut_raise⟩
      rw [if_pos hlow]
      rfl
    · refine ⟨_, congrArg Host.Outcome.next (if_neg hlow), rfl, ?_, sameBut_setRtc.mono (by decide)⟩
      rw [if_neg hlow]
      rfl
  case align =>
    intro s hlocked hlive hvalid halarms
    have hgo : ¬ (s.nat Attr.TimeService.state 0 ≠ 2 ∨ s.cutOff 18 0 = true) := by simp [hlocked, hlive]
    exact ⟨_, (if_neg hgo).trans (congrArg Host.Outcome.next (State.rtcCommit_valid hvalid halarms)), rfl, rfl,
      ((SameBut.refl.set_tim).trans (sameBut_setRtc.mono (by decide))).step sameBut_raise⟩
  case recalibrate =>
    intro s c n h ho hw hlocked hadm hdef
    have hreq : s.pop.requestCmd c 7 0 = (.admitted, s.pop.admitActivity (recalibration c)) := State.arbitrate_free hadm hdef
    have hbody : doRtcRecalibrate c s.pop = (⟨.accepted, []⟩, s.pop.admitActivity (recalibration c)) := by
      refine (if_neg (by simp [hw])).trans ((if_neg (not_not.2 hlocked)).trans ?_)
      rw [hreq]
      rfl
    have hadmitted : (s.pop.admitActivity (recalibration c)).fcr.admitted = [recalibration c] := congrArg (· ++ [recalibration c]) hadm
    obtain ⟨t, hrun, rfl, hans⟩ := h.completes ho hbody (poised_pop.of_mbx rfl) (Nat.zero_le _)
    exact ⟨_, hrun, hans, ⟨recalibration c, (congrArg FaultState.admitted State.finish_fcr).trans hadmitted, rfl, rfl, rfl⟩,
      ((sameBut_pop.mono (by decide)).trans (sameBut_admitActivity.mono (by decide))).step sameBut_finish⟩
  case refused =>
    intro s c n h ho hw hunlocked
    exact h.completes_unchanged (b := doRtcRecalibrate) ho ((if_neg (by simp [hw])).trans (if_pos hunlocked)) (Nat.zero_le _)

end Sys2Proof.Machine
end

section
/-! Fencing commands, self-tests, injection and the arbiter (R677–R680, R684, R686, R693–R698). -/

namespace Sys2Proof.Machine

variable {s t v : State} {x : Source} {d u n ms cause : Nat} {c : Cmd} {a b : Activity}

/-! ### Answers after a fence -/

theorem Poised.flushActivities {p : Activity → Bool} (h : Poised s v) : Poised s (v.flushActivities p) := by
  refine Poised.foldl (fun t a ht => (Poised.ite ht ht.complete).of_mbx rfl) ?_
  exact ⟨h.pairs, h.repeats, h.taken⟩

theorem Poised.flushQueue (h : Poised s v) : Poised s (v.flushQueue n cause).2 :=
  (Poised.setAttr (h.of_mbx (t := (v.setQueue n (v.queue n).flush.2.2).emptyTx n) (sameBut_emptyTx.area .mbx))).of_mbx rfl

theorem Poised.fence (h : Poised s v) : Poised s (v.fence d u cause) := by
  by_cases hf : v.fencedUnit d u = true
  · rwa [State.fence_of_fenced hf]
  · rw [State.fence_of_open (by simpa using hf)]
    refine Poised.foldl (fun t q ht => Poised.ite ht.flushQueue ht) (Poised.flushActivities (Poised.of_mbx ?_ (sameBut_fenceDomain.area .mbx)))
    exact (Poised.setAttr h.setAttr).of_mbx rfl

/-! ### Lifting a fence -/

theorem octet_lt {b : Bytes} {k : Nat} : octet b k < 256 := by
  unfold octet field
  cases b.drop k with
  | nil => simp [leNat]
  | cons x xs => simpa [leNat] using x.isLt

theorem State.octets_congr (h : t.obj = s.obj) (a : Nat × Nat) (i : Nat) : t.octets a i = s.octets a i := by
  simp only [State.octets, State.attr_congr h a i]

theorem State.octets_setAttr {a : Nat × Nat} {i : Nat} {b : Bytes} : (s.setAttr a i (.bytes b)).octets a i = b := by
  simp only [State.octets, State.attr_setAttr]

/-- The domains whose units take up their work without more than their fence's end. -/
def plainDomains : List Nat := [5, 6, 7, 8, 10, 11, 12, 15]

theorem State.resumeEngine_plain (hd : d ≠ 9 ∧ d ≠ 13) : s.resumeEngine d = s := by
  unfold State.resumeEngine
  rw [if_neg hd.1, if_neg hd.2]
  exact ite_self s

theorem State.remake_of_empty {p : Activity → Bool} (h : s.fcr.again = []) : s.remake p = s := by
  simp only [State.remake, h, List.filter_nil, List.foldl_nil]
  rw [← h]

theorem AttrsBut.mono {nums nums' : List Nat} (h : AttrsBut nums s t) (hn : nums ⊆ nums') : AttrsBut nums' s t :=
  fun y i hy => h y i ⟨hy.1, fun hm => hy.2 (hn hm)⟩

theorem State.countReport_unnotified : (s.countReport n).mbx.unnotified = s.mbx.unnotified := by
  simp only [State.countReport, State.bumpSat, State.setNat, State.setAttr_unnotified]

theorem attrsBut_countReport : AttrsBut [0x05] s (s.countReport n) := by
  intro y i hy
  refine (State.attr_congr (t := s.countReport n) (s := s.bumpSat 32 Attr.FaultSource.count n) rfl y i).trans ?_
  exact attrsBut_setAttr (by decide) y i hy

theorem State.latchReport_unnotified {f : FaultFact} {r : Nat} (hp : f.path = none) : (s.latchReport x f r).mbx.unnotified = s.mbx.unnotified := by
  unfold State.latchReport
  rw [hp]
  exact State.setAttr_unnotified

theorem source_num_lt (h : source n = some x) : x.num < 400 :=
  (by decide : ∀ y ∈ sources, y.num < 400) x (List.mem_of_find?_eq_some h)

/-- The collector's state without PUREL_HOLD. -/
def FaultState.unheld (f : FaultState) : FaultState := { f with purelHold := false }

/-- From `s` to `t` sources' latches have been cleared, and PUREL_HOLD with them (R670, R676). -/
structure Cleared (s t : State) : Prop where
  same : SameBut [.obj, .mbx, .fcr] s t
  attrs : AttrsBut [0x04] s t
  fcr : t.fcr.unheld = s.fcr.unheld
  mbx : t.mbx.unnotified = s.mbx.unnotified

theorem Cleared.refl : Cleared s s := ⟨.refl, .of_obj rfl, rfl, rfl⟩

theorem Cleared.trans {w : State} (h : Cleared s t) (h' : Cleared t w) : Cleared s w :=
  ⟨h.same.trans h'.same, h.attrs.trans h'.attrs, h'.fcr.trans h.fcr, h'.mbx.trans h.mbx⟩

theorem Cleared.foldl {α} {g : State → α → State} {xs : List α} (hg : ∀ t y, Cleared t (g t y)) : Cleared s (xs.foldl g s) := by
  induction xs generalizing s with
  | nil => exact .refl
  | cons y ys ih => exact (hg s y).trans ih

theorem Cleared.poised (h : Cleared v t) (hp : Poised s v) : Poised s t :=
  ⟨(congrArg Mailbox.pairs h.mbx : _).trans hp.pairs, (congrArg Mailbox.repeats h.mbx : _).trans hp.repeats, (congrArg Mailbox.taken h.mbx : _).trans hp.taken⟩

theorem cleared_refreshHold : Cleared s s.refreshHold := by
  unfold State.refreshHold
  split
  · exact ⟨SameBut.refl.set_fcr, .of_obj rfl, rfl, rfl⟩
  · exact .refl

theorem cleared_writeLatched {w : Int} : Cleared s (s.writeLatched n w).2 := by
  unfold State.writeLatched
  split
  · exact .refl
  · split
    · exact .refl
    · exact Cleared.trans ⟨sameBut_setFlag.mono (by decide), attrsBut_setAttr (by decide), congrArg FaultState.unheld State.setFlag_fcr, State.setAttr_unnotified⟩
        cleared_refreshHold

theorem cleared_clearSources : Cleared s (s.clearSources d) := Cleared.foldl fun _ _ => cleared_writeLatched

/-- What the end of a fence leaves (R679). -/
structure State.Lifted (s t : State) (d u : Nat) : Prop where
  open' : t.fencedUnit d u = false
  cause : t.nat Attr.FenceUnit.cause (d * 256 + u) = 0
  test : t.nat Attr.FenceUnit.lastTest (d * 256 + u) = 1
  resetting : d * 256 + u ∉ t.fcr.resetting
  resets : t.fcr.domainResets = d :: s.fcr.domainResets
  admitted : t.fcr.admitted = s.fcr.admitted
  same : SameBut [.obj, .mbx, .fcr, .recd, .lin, .rad] s t
  mbx : t.mbx.unnotified = s.mbx.unnotified
  inner : d ≠ 5 → d ≠ 6 → SameBut [.obj, .mbx, .fcr, .recd] s t

/-- The reset of a plain domain's unit (R92). -/
theorem State.domainReset_plain (hd : d ∈ plainDomains) :
    (s.domainReset d u).fcr = { s.fcr with domainResets := d :: s.fcr.domainResets } ∧ (s.domainReset d u).obj = s.obj ∧ (s.domainReset d u).mbx = s.mbx ∧
      SameBut [.fcr, .lin, .rad] s (s.domainReset d u) ∧ (d ≠ 5 → d ≠ 6 → SameBut [.fcr] s (s.domainReset d u)) := by
  simp only [plainDomains, List.mem_cons, List.not_mem_nil, or_false] at hd
  rcases hd with rfl | rfl | rfl | rfl | rfl | rfl | rfl | rfl
  · exact ⟨rfl, rfl, rfl, (SameBut.refl.set_fcr).trans SameBut.refl.set_lin, fun h => absurd rfl h⟩
  · exact ⟨rfl, rfl, rfl, (SameBut.refl.set_fcr).trans SameBut.refl.set_rad, fun _ h => absurd rfl h⟩
  all_goals exact ⟨rfl, rfl, rfl, SameBut.refl.set_fcr, fun _ _ => SameBut.refl.set_fcr⟩

/-- The attributes, the event and the reset list of a fence's end. -/
def State.openFence (s : State) (d u ms : Nat) : State :=
  let i := d * 256 + u
  let s := ((s.setFlag Attr.FenceUnit.fenced i false).setNat Attr.FenceUnit.cause i 0).setNat Attr.FenceUnit.lastTest i 1
  let s := s.raise 0x1403 (objPath 0x1003 i) [d, u, ms]
  { s with fcr := { s.fcr with resetting := s.fcr.resetting.filter (fun x => x != i) } }

theorem State.lift_plain (hd : d ∈ plainDomains) (hagain : s.fcr.again = []) : s.lift d u ms = (s.openFence d u ms).refreshHold := by
  have hne : d ≠ 13 ∧ d ≠ 14 ∧ d ≠ 18 ∧ d ≠ 9 := by
    simp only [plainDomains, List.mem_cons, List.not_mem_nil, or_false] at hd
    omega
  obtain ⟨h13, h14, h18, h9⟩ := hne
  have hempty : (s.openFence d u ms).fcr.again = [] := by
    refine Eq.trans ?_ hagain
    simp [State.openFence]
  have hlift : s.lift d u ms = (((s.openFence d u ms).resumeEngine d).remake (fun a => a.uses.contains (d, u))).refreshHold := by
    unfold State.lift
    simp only [if_neg h13, if_neg h14, if_neg h18]
    rfl
  rw [hlift, State.resumeEngine_plain ⟨h9, h13⟩, State.remake_of_empty hempty]

theorem sameBut_openFence : SameBut [.obj, .mbx, .fcr, .recd] s (s.openFence d u ms) :=
  (((((sameBut_setFlag.mono (by decide)).step sameBut_setNat).step sameBut_setNat).step sameBut_raise).set_fcr)

theorem State.openFence_fcr : (s.openFence d u ms).fcr = { s.fcr with resetting := s.fcr.resetting.filter (fun x => x != d * 256 + u) } := by
  simp only [State.openFence, State.raise_fcr, State.setNat_fcr, State.setFlag_fcr]

theorem State.openFence_unnotified : (s.openFence d u ms).mbx.unnotified = s.mbx.unnotified := by
  simp only [State.openFence, State.raise_mbx, State.setNat, State.setFlag, State.setAttr_unnotified]

theorem State.openFence_attrs : (s.openFence d u ms).fencedUnit d u = false ∧ (s.openFence d u ms).nat Attr.FenceUnit.cause (d * 256 + u) = 0 ∧
    (s.openFence d u ms).nat Attr.FenceUnit.lastTest (d * 256 + u) = 1 := by
  have hfenced : (s.setFlag Attr.FenceUnit.fenced (d * 256 + u) false).fencedUnit d u = false := State.flag_setFlag
  unfold State.openFence
  dsimp only
  generalize s.setFlag Attr.FenceUnit.fenced (d * 256 + u) false = a at hfenced
  have hcause : (a.setNat Attr.FenceUnit.cause (d * 256 + u) 0).nat Attr.FenceUnit.cause (d * 256 + u) = 0 := State.nat_setNat
  have ha : AttrsBut [0x02] a (a.setNat Attr.FenceUnit.cause (d * 256 + u) 0) := attrsBut_setAttr (by decide)
  generalize a.setNat Attr.FenceUnit.cause (d * 256 + u) 0 = b at hcause ha
  have htest : (b.setNat Attr.FenceUnit.lastTest (d * 256 + u) 1).nat Attr.FenceUnit.lastTest (d * 256 + u) = 1 := State.nat_setNat
  have hb : AttrsBut [0x04] b (b.setNat Attr.FenceUnit.lastTest (d * 256 + u) 1) := attrsBut_setAttr (by decide)
  generalize b.setNat Attr.FenceUnit.lastTest (d * 256 + u) 1 = w at htest hb
  exact ⟨(hb.flag Attr.FenceUnit.fenced _).trans ((ha.flag Attr.FenceUnit.fenced _).trans hfenced), (hb.nat Attr.FenceUnit.cause _).trans hcause, htest⟩

/-- A restoration whose self-test passes lifts the fence (R679). -/
theorem State.restore_passes (hd : d ∈ plainDomains) (hagain : s.fcr.again = []) :
    s.restore d u ms [] = (true, (s.restore d u ms []).2) ∧ s.Lifted (s.restore d u ms []).2 d u := by
  obtain ⟨hfcr, -, hmbx, hsame, hinner⟩ := State.domainReset_plain (s := s) (u := u) hd
  have hrest : s.restore d u ms [] = (true, ((s.domainReset d u).openFence d u ms).refreshHold) :=
    congrArg (Prod.mk true) (State.lift_plain hd (by rw [hfcr]; exact hagain))
  rw [hrest]
  generalize s.domainReset d u = r at hfcr hmbx hsame hinner
  have hopen : SameBut [.obj, .mbx, .fcr, .recd] r (r.openFence d u ms) := sameBut_openFence
  have hofcr : (r.openFence d u ms).fcr = { s.fcr with
      domainResets := d :: s.fcr.domainResets, resetting := s.fcr.resetting.filter (fun x => x != d * 256 + u) } := by
    rw [State.openFence_fcr, hfcr]
  have hombx : (r.openFence d u ms).mbx.unnotified = s.mbx.unnotified := State.openFence_unnotified.trans (congrArg Mailbox.unnotified hmbx)
  obtain ⟨hfenced, hcause, htest⟩ := State.openFence_attrs (s := r) (d := d) (u := u) (ms := ms)
  generalize r.openFence d u ms = o at hopen hofcr hombx hfenced hcause htest
  have hclear : Cleared o o.refreshHold := cleared_refreshHold
  have hhold : SameBut [.fcr] o o.refreshHold := sameBut_refreshHold
  generalize o.refreshHold = q at hclear hhold
  have hobj : q.obj = o.obj := hhold.area .obj
  have hkeep : ∀ {α : Type} (g : FaultState → α), (∀ z : FaultState, g z.unheld = g z) → g q.fcr = g o.fcr :=
    fun g hg => (hg _).symm.trans ((congrArg g hclear.fcr).trans (hg _))
  refine ⟨rfl, ⟨(State.flag_congr hobj _ _).trans hfenced, (State.nat_congr hobj _ _).trans hcause, (State.nat_congr hobj _ _).trans htest, ?_, ?_, ?_,
    ((hsame.mono (by decide)).step hopen).step hhold, hclear.mbx.trans hombx, fun h5 h6 => (((hinner h5 h6).mono (by decide)).step hopen).step hhold⟩⟩
  · show d * 256 + u ∉ q.fcr.resetting
    rw [hkeep FaultState.resetting fun _ => rfl, hofcr]
    simp
  · show q.fcr.domainResets = _
    rw [hkeep FaultState.domainResets fun _ => rfl, hofcr]
  · show q.fcr.admitted = _
    rw [hkeep FaultState.admitted fun _ => rfl, hofcr]

/-- A restoration whose self-test reports a fault that only counts leaves the unit fenced (R679). -/
theorem State.restore_fails (hd : d ∈ plainDomains) (hx : source x.num = some x) (hr : s.reactionOf x = 0) (hinj : s.fcr.injections = [])
    (hf : s.fencedUnit d u = true) : ∃ t, s.restore d u ms [⟨x.num, u, none, false, false⟩] = (false, t) ∧ t.fencedUnit d u = true ∧
      t.nat Attr.FenceUnit.lastTest (d * 256 + u) = 2 ∧ t.flag Attr.FaultSource.latched x.num = true ∧ SameBut [.obj, .mbx, .fcr, .recd, .lin, .rad] s t ∧
      t.mbx.unnotified = s.mbx.unnotified := by
  obtain ⟨hfcr, hobj, hmbx, hsame, -⟩ := State.domainReset_plain (s := s) (u := u) hd
  have hnum : x.num < 400 := source_num_lt hx
  have hdom : d < 16 := (by decide : ∀ k ∈ plainDomains, k < 16) d hd
  have hne : mkPath Attr.FenceUnit.lastTest.1 (d * 256 + u) Attr.FenceUnit.lastTest.2 ≠ mkPath Attr.FaultSource.latched.1 x.num Attr.FaultSource.latched.2 := by
    unfold mkPath
    dsimp only
    omega
  have hrest : s.restore d u ms [⟨x.num, u, none, false, false⟩] = (false, ((((s.domainReset d u).setNat Attr.FenceUnit.lastTest (d * 256 + u) 2).collect
      [⟨x.num, u, none, false, false⟩]).raise 0x1404 (objPath 0x1003 (d * 256 + u)) [(d : Int), (u : Int), (x.num : Int)]).refreshHold) := rfl
  rw [hrest]
  generalize s.domainReset d u = r at hfcr hobj hmbx hsame
  have hset : SameBut [.obj, .mbx] r (r.setNat Attr.FenceUnit.lastTest (d * 256 + u) 2) := sameBut_setNat.mono (by decide)
  have htest : (r.setNat Attr.FenceUnit.lastTest (d * 256 + u) 2).nat Attr.FenceUnit.lastTest (d * 256 + u) = 2 := State.nat_setNat
  have hw : AttrsBut [0x04] s (r.setNat Attr.FenceUnit.lastTest (d * 256 + u) 2) := (AttrsBut.of_obj hobj).trans (attrsBut_setAttr (by decide))
  have hwmbx : (r.setNat Attr.FenceUnit.lastTest (d * 256 + u) 2).mbx.unnotified = s.mbx.unnotified := State.setAttr_unnotified.trans (congrArg Mailbox.unnotified hmbx)
  generalize r.setNat Attr.FenceUnit.lastTest (d * 256 + u) 2 = w at hset htest hw hwmbx
  have hreact : w.reactionOf x = 0 := by
    rw [← hr]
    simp only [State.reactionOf, hw.nat Attr.FaultSource.reaction x.num]
  have hwfcr : w.fcr = r.fcr := hset.area .fcr
  have hcollect : w.collect [⟨x.num, u, none, false, false⟩] = (w.latchReport x ⟨x.num, u, none, false, false⟩ 0).countReport x.num := by
    rw [State.collect_one (f := ⟨x.num, u, none, false, false⟩) hx (by rw [hwfcr, hfcr]; exact hinj) rfl rfl, hreact]
    rfl
  rw [hcollect]
  have hlatched : (w.latchReport x ⟨x.num, u, none, false, false⟩ 0).flag Attr.FaultSource.latched x.num = true := State.latchReport_latched rfl
  have hlatch : (w.latchReport x ⟨x.num, u, none, false, false⟩ 0).nat Attr.FenceUnit.lastTest (d * 256 + u) = w.nat Attr.FenceUnit.lastTest (d * 256 + u) := State.nat_setAttr_ne hne
  have hlatchA : AttrsBut [0x04] w (w.latchReport x ⟨x.num, u, none, false, false⟩ 0) := attrsBut_latchReport rfl
  have hlatchS : SameBut [.obj, .mbx, .fcr] w (w.latchReport x ⟨x.num, u, none, false, false⟩ 0) := sameBut_latchReport rfl
  have hlatchM : (w.latchReport x ⟨x.num, u, none, false, false⟩ 0).mbx.unnotified = w.mbx.unnotified := State.latchReport_unnotified rfl
  generalize w.latchReport x ⟨x.num, u, none, false, false⟩ 0 = l at hlatched hlatch hlatchA hlatchS hlatchM
  have hcount : AttrsBut [0x05] l (l.countReport x.num) := attrsBut_countReport
  have hcountS : SameBut [.obj, .mbx, .fcr] l (l.countReport x.num) := sameBut_countReport
  have hcountM : (l.countReport x.num).mbx.unnotified = l.mbx.unnotified := State.countReport_unnotified
  generalize l.countReport x.num = y at hcount hcountS hcountM
  have hraise : SameBut [.recd] y (y.raise 0x1404 (objPath 0x1003 (d * 256 + u)) [(d : Int), (u : Int), (x.num : Int)]) := sameBut_raise
  have hraiseO : (y.raise 0x1404 (objPath 0x1003 (d * 256 + u)) [(d : Int), (u : Int), (x.num : Int)]).obj = y.obj := rfl
  have hraiseM : (y.raise 0x1404 (objPath 0x1003 (d * 256 + u)) [(d : Int), (u : Int), (x.num : Int)]).mbx = y.mbx := rfl
  generalize y.raise 0x1404 (objPath 0x1003 (d * 256 + u)) [(d : Int), (u : Int), (x.num : Int)] = z at hraise hraiseO hraiseM
  have hhold : SameBut [.fcr] z z.refreshHold := sameBut_refreshHold
  have hholdM : z.refreshHold.mbx.unnotified = z.mbx.unnotified := cleared_refreshHold.mbx
  have hholdO : z.refreshHold.obj = z.obj := hhold.area .obj
  have hfinal : z.refreshHold.obj = y.obj := hholdO.trans hraiseO
  refine ⟨_, rfl, ?_, ?_, (State.flag_congr hfinal _ _).trans ((hcount.flag _ _).trans hlatched), ?_, ?_⟩
  · exact (State.flag_congr hfinal _ _).trans ((hcount.flag Attr.FenceUnit.fenced _).trans ((hlatchA.flag Attr.FenceUnit.fenced _).trans ((hw.flag Attr.FenceUnit.fenced _).trans hf)))
  · exact (State.nat_congr hfinal _ _).trans ((hcount.nat Attr.FenceUnit.lastTest _).trans (hlatch.trans htest))
  · exact (((((hsame.mono (by decide)).step hset).step hlatchS).step hcountS).step hraise).step hhold
  · exact hholdM.trans ((congrArg Mailbox.unnotified hraiseM).trans (hcountM.trans (hlatchM.trans hwmbx)))

/-! ### Activities that end -/

theorem State.admitWaiting_none (hd : s.fcr.deferred = []) (hw : s.fcr.waiting = []) : s.admitWaiting = s := by
  have hdef : s.admitDeferred = ([], s) := by
    simp only [State.admitDeferred, hd, List.foldl_nil]
    rw [← hd]
  have hdec : s.decideWaiting = ([], s) := by
    simp only [State.decideWaiting, hw, List.foldl_nil]
    rw [← hw]
  simp only [State.admitWaiting, hdef, hdec, List.append_nil, List.foldl_nil]

/-- One deferred request that nothing conflicts with is admitted and starts (R695). -/
theorem State.admitWaiting_one (ha : s.fcr.admitted = []) (hd : s.fcr.deferred = [b]) (hw : s.fcr.waiting = []) :
    ∃ w, s.admitWaiting = w.startActivity b ∧ w.fcr = { s.fcr with admitted := [b], deferred := [] } ∧ SameBut [.fcr, .recd] s w := by
  let w : State := { s.admitActivity b with fcr := { (s.admitActivity b).fcr with deferred := [] } }
  have hdef : s.admitDeferred = ([b], w) := by
    simp [State.admitDeferred, hd, State.mayAdmit, ha, w]
  have hwait : w.fcr.waiting = [] := hw
  have hdec : w.decideWaiting = ([], w) := by
    simp only [State.decideWaiting, hwait, List.foldl_nil]
    rw [← hwait]
  refine ⟨w, ?_, ?_, (sameBut_admitActivity).set_fcr⟩
  · simp only [State.admitWaiting, hdef, hdec, List.append_nil, List.foldl_cons, List.foldl_nil]
  · show { s.fcr with admitted := s.fcr.admitted ++ [b], deferred := [] } = _
    rw [ha]
    rfl

/-- The lane of a training that starts (R153). -/
theorem State.startTraining_lane {l : Nat} : ((s.startTraining l).lane l).training = true ∧ (s.startTraining l).nat Attr.LineLane.cancellerState l = 1 ∧
    SameBut [.lin, .obj, .mbx] s (s.startTraining l) ∧ (s.startTraining l).fcr = s.fcr := by
  have hlanes : ∀ {w : State} {p q : Nat} {y : TxUnit}, (w.enqueue p q y).2.lin.lanes = w.lin.lanes := by
    intro w p q y
    unfold State.enqueue
    split <;> rfl
  have hsame : SameBut [.lin, .obj, .mbx] s (s.startTraining l) := ((sameBut_setNat.mono (by decide)).step sameBut_setLane).step sameBut_enqueue
  refine ⟨?_, ?_, hsame, hsame.area .fcr⟩
  · refine (congrArg Lane.training ((State.lane_congr hlanes).trans State.lane_setLane) : _)
  · exact (State.nat_congr (sameBut_enqueue.area .obj) _ _).trans State.nat_setNat

/-- An activity that nothing waits for ends (R695). -/
theorem execActivityEnd_of {err : Int} (hadm : s.fcr.admitted = [a]) :
    execActivityEnd a.kind a.unit err s = .next (
      let s := ({ s with fcr := { s.fcr with admitted := [] } }).activityEvent a 3
      let s := if a.internal then s else s.completeCmd a.arrival .ok []
      (if a.kind = 2 then { s with sto := { s.sto with boost := none } } else if a.kind = 7 then s.recalibrated err else s).admitWaiting) := by
  have hfind : s.fcr.admitted.find? (fun x => x.kind == a.kind && x.unit == a.unit) = some a := by simp [hadm]
  have hrest : s.fcr.admitted.filter (fun x => x != a) = [] := by simp [hadm]
  unfold execActivityEnd
  rw [hfind]
  simp only [hrest]

theorem sameBut_curveAt {w : Int} : SameBut [] s (s.curveAt w).2 := by
  unfold State.curveAt
  dsimp only
  split
  · exact .refl
  · simp [SameBut]

theorem sameBut_setTrim {w : Int} : SameBut [.mbx, .obj] s (s.setTrim w) := (sameBut_curveAt.mono (by decide)).trans sameBut_setInt

/-- A recalibration takes its measured error out of the trim (R594). -/
theorem State.recalibrated_effect {err : Int} : (s.recalibrated err).int Attr.RealTimeClock.agingOffset 0 =
      max (-32768) (min 32767 (s.int Attr.RealTimeClock.agingOffset 0 + (err * 8388608 + 500000000) / 1000000000)) ∧
    SameBut [.mbx, .obj, .recd] s (s.recalibrated err) ∧ (s.recalibrated err).fcr = s.fcr := by
  have hsame : SameBut [.mbx, .obj, .recd] s (s.recalibrated err) := ((sameBut_setInt.mono (by decide)).step sameBut_setTrim).step sameBut_raise
  refine ⟨?_, hsame, hsame.area .fcr⟩
  have hset : (s.setInt Attr.RealTimeClock.agingOffset 0 (max (-32768) (min 32767 (s.int Attr.RealTimeClock.agingOffset 0 + (err * 8388608 + 500000000) / 1000000000)))).int
      Attr.RealTimeClock.agingOffset 0 = max (-32768) (min 32767 (s.int Attr.RealTimeClock.agingOffset 0 + (err * 8388608 + 500000000) / 1000000000)) := State.int_setInt
  unfold State.recalibrated
  dsimp only
  generalize max (-32768) (min 32767 (s.int Attr.RealTimeClock.agingOffset 0 + (err * 8388608 + 500000000) / 1000000000)) = a at hset
  generalize s.setInt Attr.RealTimeClock.agingOffset 0 a = w at hset
  have hcurve : ∀ x : Int, (w.curveAt x).2.obj = w.obj := fun x => sameBut_curveAt.area .obj
  have htrim : ∀ x : Int, (w.setTrim x).int Attr.RealTimeClock.agingOffset 0 = w.int Attr.RealTimeClock.agingOffset 0 := by
    intro x
    refine (State.int_setAttr_ne (mkPath_ne_of_attr (by decide))).trans ?_
    simp only [State.int, State.attr_congr (hcurve x)]
  exact (htrim (w.int Attr.RealTimeClock.temperature 0)).trans hset

/-- COMPLETE of a command that waits for its end, to an open session (R746). -/
theorem State.completeCmd_effect {r : Nat} {st : Status} {data : Bytes} {y : Awaiting} (hy : s.mbx.awaiting.find? (fun z => z.arrival == r) = some y)
    (hs : (s.session y.session).isSome = true) :
    (s.completeCmd r st data).mbx.awaiting = s.mbx.awaiting.filter (fun z => z.arrival != r) ∧
      (∃ e ∈ (s.completeCmd r st data).mbx.notifs, e.kind = kindComplete ∧ e.session = y.session ∧ e.arrival = r ∧ e.status = st.code) ∧
      SameBut [.mbx] s (s.completeCmd r st data) := by
  unfold State.completeCmd
  simp only [hy, if_pos (State.session_isSome ▸ hs)]
  refine ⟨(congrArg Mailbox.awaiting Mailbox.notify_unnotified :), ⟨_, Mailbox.notify_mem rfl, rfl, rfl, rfl, rfl⟩, by simp [SameBut]⟩

theorem Poised.of_unnotified (h : Poised s v) (e : t.mbx.unnotified = v.mbx.unnotified) : Poised s t :=
  ⟨(congrArg Mailbox.pairs e : _).trans h.pairs, (congrArg Mailbox.repeats e : _).trans h.repeats, (congrArg Mailbox.taken e : _).trans h.taken⟩

/-- UNFENCE of a fenced unit of a plain domain: its sources are cleared, and its restoration decides (R679). -/
theorem doUnfence_plain {fails : List FaultFact} (hd : octet c.payload 0 = d) (hu : octet c.payload 1 = u) (hopen : s.fenceRefused d u = none)
    (hmem : d ∈ plainDomains) (hf : s.fencedUnit d u = true) :
    doUnfence ms fails c s = if ((s.clearSources d).restore d u ms fails).1 = true then (⟨.ok, []⟩, ((s.clearSources d).restore d u ms fails).2)
      else (⟨.refused, []⟩, ((s.clearSources d).restore d u ms fails).2) := by
  have hne : d ≠ 13 ∧ d ≠ 16 := by
    simp only [plainDomains, List.mem_cons, List.not_mem_nil, or_false] at hmem
    omega
  have hspecial : (d == 16 && s.fcr.sf0) = false := by simp [hne.2]
  simp only [doUnfence, hd, hu, hopen, hspecial, hf, Bool.false_eq_true, ↓reduceIte, Bool.not_true, if_neg hne.2]
  exact if_neg (by simp [hne])

theorem doUnfence_of (hd : octet c.payload 0 = d) (hu : octet c.payload 1 = u) (hopen : s.fenceRefused d u = none) (hmem : d ∈ plainDomains)
    (hf : s.fencedUnit d u = true) (hr : (s.clearSources d).restore d u ms [] = (true, t)) : doUnfence ms [] c s = (⟨.ok, []⟩, t) := by
  rw [doUnfence_plain hd hu hopen hmem hf, hr]
  exact if_pos rfl

theorem doUnfence_failed {fails : List FaultFact} (hd : octet c.payload 0 = d) (hu : octet c.payload 1 = u) (hopen : s.fenceRefused d u = none)
    (hmem : d ∈ plainDomains) (hf : s.fencedUnit d u = true) (hr : (s.clearSources d).restore d u ms fails = (false, t)) :
    doUnfence ms fails c s = (⟨.refused, []⟩, t) := by
  rw [doUnfence_plain hd hu hopen hmem hf, hr]
  exact if_neg Bool.false_ne_true

/-! ### Deep self-tests (R697) -/

/-- A fence that no admitted activity uses ends none. -/
theorem State.flushActivities_unused {p : Activity → Bool} (h : ∀ x ∈ s.fcr.admitted, p x = false) : s.flushActivities p = s := by
  have hgone : s.fcr.admitted.filter p = [] := List.filter_eq_nil_iff.2 fun x hx => by simp [h x hx]
  have hkept : s.fcr.admitted.filter (fun x => !p x) = s.fcr.admitted := List.filter_eq_self.2 fun x hx => by simp [h x hx]
  simp only [State.flushActivities, hgone, hkept, List.filter_nil, List.append_nil, List.any_nil, Bool.not_false, List.filter_true, List.foldl_nil]

/-- The domains that a deep self-test names here: one unit each, no queues. -/
def singleDomains : List Nat := [8, 10, 11, 12, 15]

theorem singleDomains_plain (hd : d ∈ singleDomains) : d ∈ plainDomains ∧ unitsOf d = 1 ∧ unitQueues d 0 = [] :=
  (by decide : ∀ d ∈ singleDomains, d ∈ plainDomains ∧ unitsOf d = 1 ∧ unitQueues d 0 = []) d hd

theorem singleDomains_mask (hd : d ∈ singleDomains) : (List.range 20).filter (fun k => bit (2 ^ d) k) = [d] ∧ 2 ^ d % 16 = 0 ∧ 2 ^ d < 1048576 := by
  simp only [singleDomains, List.mem_cons, List.not_mem_nil, or_false] at hd
  rcases hd with rfl | rfl | rfl | rfl | rfl <;> exact ⟨by decide, by norm_num, by norm_num⟩

theorem singleDomains_ne (hd : d ∈ singleDomains) : d ≠ 4 ∧ d ≠ 5 ∧ d ≠ 6 ∧ d ≠ 13 ∧ d ≠ 14 ∧ d ≠ 18 :=
  (by decide : ∀ d ∈ singleDomains, d ≠ 4 ∧ d ≠ 5 ∧ d ≠ 6 ∧ d ≠ 13 ∧ d ≠ 14 ∧ d ≠ 18) d hd

theorem State.fusedOff_single (hd : d ∈ singleDomains) : s.fusedOff d u = false := by
  obtain ⟨h4, h5, -, h13, -⟩ := singleDomains_ne hd
  unfold State.fusedOff
  split <;> simp [h4, h5, h13]

/-- The fence of such a domain touches its attributes and the recorder alone. -/
theorem State.fence_single (hd : d ∈ singleDomains) (hunused : ∀ x ∈ s.fcr.admitted, x.uses.contains (d, 0) = false) :
    SameBut [.obj, .mbx, .recd] s (s.fence d 0 cause) := by
  by_cases hf : s.fencedUnit d 0 = true
  · rw [State.fence_of_fenced hf]
    exact .refl
  · obtain ⟨-, -, -, h13, h14, h18⟩ := singleDomains_ne hd
    let v : State := ((s.setFlag Attr.FenceUnit.fenced (d * 256 + 0) true).setNat Attr.FenceUnit.cause (d * 256 + 0) cause).raise 0x1402
      (objPath 0x1003 (d * 256 + 0)) [(d : Int), ((0 : Nat) : Int), (cause : Int)]
    have hdomain : v.fenceDomain d = v := by simp only [State.fenceDomain, if_neg h13, if_neg h14, if_neg h18]
    have hfcr : v.fcr = s.fcr := (congrArg State.fcr rfl).trans (State.setNat_fcr.trans State.setFlag_fcr)
    have hflush : v.flushActivities (fun x => x.uses.contains (d, 0)) = v := State.flushActivities_unused fun x hx => hunused x (hfcr ▸ hx)
    rw [State.fence_of_open (by simpa using hf), hdomain, State.fenceQueues, hflush, (singleDomains_plain hd).2.2]
    exact ((sameBut_setFlag.mono (by decide)).step sameBut_setNat).step sameBut_raise

/-- A deep self-test of one such domain whose self-test passes (R697). -/
theorem State.deepTest_single (hd : d ∈ singleDomains) (hunused : ∀ x ∈ s.fcr.admitted, x.uses.contains (d, 0) = false) (hagain : s.fcr.again = []) :
    (s.deepTest d ms []).fencedUnit d 0 = false ∧ (s.deepTest d ms []).nat Attr.FenceUnit.lastTest (d * 256) = 1 ∧
      (s.deepTest d ms []).fcr.domainResets = d :: s.fcr.domainResets ∧ (s.deepTest d ms []).fcr.admitted = s.fcr.admitted ∧
      SameBut [.obj, .mbx, .fcr, .recd] s (s.deepTest d ms []) ∧ (Poised t s → Poised t (s.deepTest d ms [])) := by
  obtain ⟨hplain, hunits, -⟩ := singleDomains_plain hd
  obtain ⟨-, h5, h6, -⟩ := singleDomains_ne hd
  have hfence : SameBut [.obj, .mbx, .recd] s (s.fence d 0 0) := State.fence_single hd hunused
  have hfcr : (s.fence d 0 0).fcr = s.fcr := hfence.area .fcr
  obtain ⟨-, hlift⟩ := State.restore_passes (s := s.fence d 0 0) (u := 0) (ms := ms) hplain (by rw [hfcr]; exact hagain)
  have hdeep : s.deepTest d ms [] = ((s.fence d 0 0).restore d 0 ms []).2 := by
    simp [State.deepTest, hunits, State.fusedOff_single hd]
  rw [hdeep]
  have htest := hlift.test
  rw [Nat.add_zero] at htest
  exact ⟨hlift.open', htest, hlift.resets.trans (by rw [hfcr]), hlift.admitted.trans (by rw [hfcr]),
    (hfence.mono (by decide)).trans (hlift.inner h5 h6), fun hp => .of_unnotified hp.fence hlift.mbx⟩

/-- Settles O28: fences by their effect, restorations by whether the self-test passes, activities by what waits. -/
theorem fencingAndArbiter : Obligations.FencingAndArbiter := by
  refine ⟨?fence, ?refused, ?unfence, ?unfenceFails, ?denied, ?blockReset, ?deepTest, ?inject, ?policy, ?ends, ?recalibrated, ?next⟩
  case fence =>
    intro s c n d u h ho hd hu hopen hfree hadm
    have hbody : doFence c s.pop = (⟨.ok, []⟩, s.pop.fence d u 0) := by
      simp only [doFence, hd, hu, show s.pop.fenceRefused d u = none from hopen]
    obtain ⟨hfenced, hcause, hsame, -, -⟩ := State.fence_effect (s := s.pop) (d := d) (u := u) (cause := 0)
    obtain ⟨t, hrun, rfl, hans⟩ := h.completes ho hbody poised_pop.fence (Nat.zero_le _)
    refine ⟨_, hrun, hans, (State.flag_congr State.finish_obj _ _).trans hfenced, (State.nat_congr State.finish_obj _ _).trans (hcause hfree), ?_⟩
    exact ((sameBut_pop.mono (by decide)).trans (hsame.mono (by decide))).step sameBut_finish
  case refused =>
    intro s c n d h ho hd hmem
    have hstop : s.pop.fenceRefused d (octet c.payload 1) = some .refused := if_pos (by simpa using hmem)
    refine h.completes_unchanged (b := doFence) (r := ⟨.refused, []⟩) ho ?_ (Nat.zero_le _)
    simp only [doFence, hd, hstop]
  case unfence =>
    intro s c n d u ms h ho hd hu hopen hmem hfenced hagain
    have hclear : Cleared s.pop (s.pop.clearSources d) := cleared_clearSources
    have hfcr : ∀ {α} (g : FaultState → α), (∀ f : FaultState, g f.unheld = g f) → g (s.pop.clearSources d).fcr = g s.fcr := by
      intro α g hg
      rw [← hg, hclear.fcr, hg]
      rfl
    obtain ⟨hpass, hlift⟩ := State.restore_passes (s := s.pop.clearSources d) (u := u) (ms := ms) hmem ((hfcr FaultState.again fun _ => rfl).trans hagain)
    have hbody : doUnfence ms [] c s.pop = (⟨.ok, []⟩, ((s.pop.clearSources d).restore d u ms []).2) :=
      doUnfence_of hd hu hopen hmem hfenced hpass
    have hpoised : Poised s ((s.pop.clearSources d).restore d u ms []).2 := .of_unnotified (hclear.poised poised_pop) hlift.mbx
    obtain ⟨t, hrun, rfl, hans⟩ := h.completes ho hbody hpoised (Nat.zero_le _)
    refine ⟨_, hrun, hans, (State.flag_congr State.finish_obj _ _).trans hlift.open', (State.nat_congr State.finish_obj _ _).trans hlift.cause,
      (State.nat_congr State.finish_obj _ _).trans hlift.test, (congrArg FaultState.domainResets State.finish_fcr).trans (hlift.resets.trans ?_), ?_⟩
    · rw [hfcr FaultState.domainResets fun _ => rfl]
    · exact (((sameBut_pop.mono (by decide)).step hclear.same).trans hlift.same).step sameBut_finish
  case unfenceFails =>
    intro s c n d u ms x h ho hd hu hopen hmem hfenced hx hr hinj
    have hclear : Cleared s.pop (s.pop.clearSources d) := cleared_clearSources
    have hreact : (s.pop.clearSources d).reactionOf x = 0 := by
      have hset : (s.pop.clearSources d).nat Attr.FaultSource.reaction x.num = s.nat Attr.FaultSource.reaction x.num := hclear.attrs.nat _ _
      rw [← hr]
      simp only [State.reactionOf, hset]
    have hunit : u < 256 := hu ▸ octet_lt
    obtain ⟨v, hrest, hv, htest, hlatched, hsame, hmbx⟩ := State.restore_fails (ms := ms) hmem hx hreact
      ((congrArg FaultState.injections hclear.fcr : _).trans hinj) ((hclear.attrs.flag _ _).trans hfenced)
    have hbody : doUnfence ms [⟨x.num, u, none, false, false⟩] c s.pop = (⟨.refused, []⟩, v) := doUnfence_failed hd hu hopen hmem hfenced hrest
    obtain ⟨t, hrun, rfl, hans⟩ := h.completes ho hbody (.of_unnotified (hclear.poised poised_pop) hmbx) (Nat.zero_le _)
    exact ⟨_, hrun, hans, (State.flag_congr State.finish_obj _ _).trans hv, (State.nat_congr State.finish_obj _ _).trans htest,
      (State.flag_congr State.finish_obj _ _).trans hlatched, (((sameBut_pop.mono (by decide)).step hclear.same).trans hsame).step sameBut_finish⟩
  case denied =>
    intro s c n ms fails h ho hd hu hrole
    have hopen : s.pop.fenceRefused 16 0 = none := by
      have hfused : s.pop.fusedOff 16 0 = false := by
        unfold State.fusedOff
        split <;> rfl
      simp [State.fenceRefused, unitsOf, hfused]
    refine h.completes_unchanged (b := doUnfence ms fails) (r := ⟨.denied, []⟩) ho ?_ (Nat.zero_le _)
    simp only [doUnfence, hd, hu, hopen]
    exact if_pos ⟨.inr trivial, hrole⟩
  case blockReset =>
    intro s d u ms hmem hu hres hfenced hagain
    obtain ⟨hpass, hlift⟩ := State.restore_passes (s := s) (u := u) (ms := ms) hmem hagain
    exact ⟨_, if_pos ⟨hres, hfenced⟩, hlift.open', hlift.cause, hlift.resetting, hlift.resets, hlift.same⟩
  case deepTest =>
    intro s c n d ms h ho hmem hm hmode hadm hdef hagain
    obtain ⟨hbits, hmod, hlt⟩ := singleDomains_mask hmem
    let a : Activity := { kind := 11, arrival := c.arrival, internal := false, unit := 0, session := c.session, path := c.path, arg := c.payload.take 16 }
    have hreq : s.pop.requestCmd c 11 0 = (.admitted, s.pop.admitActivity a) := State.arbitrate_free hadm hdef
    have hbody : doSelfTestDeep ms [] c s.pop = (⟨.accepted, []⟩, (s.pop.admitActivity a).deepTest d ms []) := by
      unfold doSelfTestDeep
      rw [hm]
      have hmode' : ¬ (s.pop.sys.mode ≠ .provision ∧ s.pop.sys.mode ≠ .shadow) := fun hno => hmode.elim hno.1 hno.2
      refine (if_neg hmode').trans ((if_neg (by omega)).trans ?_)
      rw [hreq, hbits]
      rfl
    have hadm' : (s.pop.admitActivity a).fcr.admitted = [a] := congrArg (· ++ [a]) hadm
    have hunused : ∀ x ∈ (s.pop.admitActivity a).fcr.admitted, x.uses.contains (d, 0) = false := by
      rw [hadm']
      rintro x (_ | ⟨_, ⟨⟩⟩)
      rfl
    obtain ⟨hopen, htest, hresets, hleft, hsame, hpoised⟩ := State.deepTest_single (ms := ms) (t := s) hmem hunused hagain
    obtain ⟨t, hrun, rfl, hans⟩ := h.completes ho hbody (hpoised (poised_pop.of_mbx rfl)) (Nat.zero_le _)
    refine ⟨_, hrun, hans, (State.flag_congr State.finish_obj _ _).trans hopen, (State.nat_congr State.finish_obj _ _).trans htest,
      (congrArg FaultState.domainResets State.finish_fcr).trans hresets, ⟨a, (congrArg FaultState.admitted State.finish_fcr).trans (hleft.trans hadm'), rfl, rfl⟩, ?_⟩
    exact (((sameBut_pop.mono (by decide)).step sameBut_admitActivity).trans hsame).step sameBut_finish
  case inject =>
    intro s c n k mode count h ho hk hmode hcount hsource hlo hhi hpos
    by_cases hf : s.sys.lifecycle = .factory ∧ s.sys.mode = .factory
    · have hbody : doFaultInject c s.pop = (⟨.ok, []⟩, { s.pop with fcr := { s.fcr with injections := s.fcr.injections ++ [(k, mode, count)], injected := true } }) := by
        have hgood : ¬ ((source k).isNone = true ∨ mode = 0 ∨ 3 < mode ∨ count = 0) := by
          have hsome : ¬ (source k).isNone = true := by simp [Option.isSome_iff_ne_none.1 hsource]
          rintro (hnone | hbounds)
          · exact hsome hnone
          · omega
        unfold doFaultInject
        rw [hk, hmode, hcount]
        exact (if_neg (by simp [hf])).trans (if_neg hgood)
      obtain ⟨t, hrun, rfl, hans⟩ := h.completes ho hbody (poised_pop.of_mbx rfl) (Nat.zero_le _)
      refine ⟨_, hrun, ?_⟩
      dsimp only
      rw [if_pos hf]
      exact ⟨hans, State.finish_fcr, ((sameBut_pop.mono (by decide)).set_fcr).step sameBut_finish⟩
    · have hbody : doFaultInject c s.pop = (⟨.refused, []⟩, s.pop.raise 0x140B (objPath 0x1002 k) [(s.sys.lifecycle.code : Int), (s.sys.mode.code : Int)]) := by
        unfold doFaultInject
        rw [hk]
        exact if_pos (Decidable.not_and_iff_not_or_not.1 hf)
      obtain ⟨t, hrun, rfl, hans⟩ := h.completes ho hbody (poised_pop.of_mbx rfl) (Nat.zero_le _)
      refine ⟨_, hrun, ?_⟩
      dsimp only
      rw [if_neg hf]
      exact ⟨hans, ((sameBut_pop.mono (by decide)).step sameBut_raise).step sameBut_finish⟩
  case policy =>
    intro s c n p h ho hcls hattr hinst hmode hbulk hlen hdeny hslot
    have hrun := h.runMethod (b := doPolicyLoad p) ho hcls hattr
    have hfirst : ¬ (pathInst c.path ≠ 0 ∨ (s.pop.sys.mode ≠ .provision ∧ s.pop.sys.mode ≠ .service)) := by
      rintro (hno | ⟨hp, hs⟩)
      · exact hno hinst
      · exact hmode.elim hp hs
    have hslot' : s.pop.slotGood 5 = true := hslot
    by_cases hver : Config.ecdsaVerify384 ((Assoc.find 5 s.glv.slots).getD []) (c.data.take (c.data.length - 96)) (c.data.drop (c.data.length - 96)) = true
    · let u : State := { s.pop with
        fcr := { s.fcr with islandAllowed := p.islandAllowed, rateChip := p.rateChip, rateCell := p.rateCell, spacing := p.spacing, deny := p.deny }
        glv := { s.glv with policyHash := Config.sha256 c.data } }
      have hbody : doPolicyLoad p c s.pop = (⟨.ok, []⟩, u.setAttr Attr.SafetyFunction.policyDigest 0 (.bytes (Config.sha256 c.data))) := by
        unfold doPolicyLoad
        refine (if_neg hfirst).trans (if_neg ?_)
        have hver' : Config.ecdsaVerify384 ((Assoc.find 5 s.pop.glv.slots).getD []) (c.data.take (c.data.length - 96)) (c.data.drop (c.data.length - 96)) = true := hver
        simp only [hbulk, hslot', hver', Bool.not_true, Bool.false_eq_true, false_or, or_false]
        omega
      have hu : SameBut [.mbx, .fcr, .obj, .glv] s u := by simp [SameBut, u]
      have hpoised : Poised s (u.setAttr Attr.SafetyFunction.policyDigest 0 (.bytes (Config.sha256 c.data))) := Poised.setAttr (poised_pop.of_mbx rfl)
      have hans := h.answered (r := ⟨.ok, []⟩) hpoised (Nat.zero_le _)
      rw [hbody] at hrun
      refine ⟨_, hrun, ?_⟩
      dsimp only
      rw [if_pos hver]
      refine ⟨hans, State.finish_fcr.trans State.setAttr_fcr, ?_, State.finish_glv.trans State.setAttr_glv, ?_⟩
      · exact (State.octets_congr State.finish_obj _ _).trans State.octets_setAttr
      · exact (hu.step sameBut_setAttr).step sameBut_finish
    · have hbody : doPolicyLoad p c s.pop = (⟨.badValue, []⟩, s.pop) := by
        unfold doPolicyLoad
        refine (if_neg hfirst).trans (if_pos ?_)
        exact .inr (.inr (.inr (.inr (by simpa using hver))))
      rw [hbody] at hrun
      refine ⟨_, hrun, ?_⟩
      dsimp only
      rw [if_neg hver]
      exact ⟨h.answered (r := ⟨.badValue, []⟩) poised_pop (Nat.zero_le _), sameBut_pop.step sameBut_finish⟩
  case ends =>
    intro s a x err hadm hk2 hk7 hint hdef hwait hfind hsess
    let v : State := State.activityEvent { s with fcr := { s.fcr with admitted := [] } } a 3
    obtain ⟨hawait, hentry, hsame⟩ := State.completeCmd_effect (s := v) (st := .ok) (data := []) hfind hsess
    have hfcr : (v.completeCmd a.arrival .ok []).fcr = v.fcr := hsame.area .fcr
    have hrun : exec (.activityEnd a.kind a.unit err) s = .next (v.completeCmd a.arrival .ok []) := by
      refine (execActivityEnd_of hadm).trans (congrArg Host.Outcome.next ?_)
      simp only [hint, Bool.false_eq_true, ↓reduceIte, if_neg hk2, if_neg hk7]
      exact State.admitWaiting_none (by rw [hfcr]; exact hdef) (by rw [hfcr]; exact hwait)
    refine ⟨_, hrun, by rw [hfcr]; rfl, hawait, hentry, hsame.area .recd, ?_⟩
    exact ((SameBut.refl.set_fcr).trans (sameBut_activityEvent.mono (by decide))).step hsame
  case recalibrated =>
    intro s a err hadm hk hint hdef hwait
    let v : State := State.activityEvent { s with fcr := { s.fcr with admitted := [] } } a 3
    obtain ⟨haging, hsame, hfcr⟩ := State.recalibrated_effect (s := v) (err := err)
    have hrun : exec (.activityEnd 7 a.unit err) s = .next (v.recalibrated err) := by
      rw [← hk]
      refine (execActivityEnd_of hadm).trans (congrArg Host.Outcome.next ?_)
      simp only [hint, ↓reduceIte, if_neg (show ¬ a.kind = 2 by omega), if_pos hk]
      exact State.admitWaiting_none (by rw [hfcr]; exact hdef) (by rw [hfcr]; exact hwait)
    exact ⟨_, hrun, by rw [hfcr]; rfl, haging, ((SameBut.refl.set_fcr).trans (sameBut_activityEvent.mono (by decide))).step hsame⟩
  case next =>
    intro s a b err hadm hk hint hdef hb hwait
    let v : State := State.activityEvent { s with fcr := { s.fcr with admitted := [] } } a 3
    obtain ⟨w, hw, hwfcr, hwsame⟩ := State.admitWaiting_one (s := v) (b := b) rfl hdef hwait
    obtain ⟨htrain, hstate, hsame, hfcr⟩ := State.startTraining_lane (s := w) (l := b.unit)
    have hstart : w.startActivity b = w.startTraining b.unit := by simp [State.startActivity, hb]
    have hrun : exec (.activityEnd 11 a.unit err) s = .next (w.startTraining b.unit) := by
      rw [← hk, ← hstart, ← hw]
      refine (execActivityEnd_of hadm).trans (congrArg Host.Outcome.next ?_)
      simp only [hint, ↓reduceIte, if_neg (show ¬ a.kind = 2 by omega), if_neg (show ¬ a.kind = 7 by omega)]
      rfl
    refine ⟨_, hrun, by rw [hfcr, hwfcr], by rw [hfcr, hwfcr], htrain, hstate, ?_⟩
    exact (((SameBut.refl.set_fcr).trans (sameBut_activityEvent.mono (by decide))).step hwsame).step hsame

end Sys2Proof.Machine
end

section
/-! Upkeep of the locator table: placements, locks, repairs, rebuilds and change records (R276, R284–R292). -/

namespace Sys2Proof.Machine

variable {s t : State} {n b k : Nat} {pl : Place} {e : LEntry} {cause : Nat}

/-! ### Items in queues -/

/-- What is put back as it was is not changed. -/
theorem SameBut.restore_que {l : List Area} (h : SameBut (.que :: l) s t) : SameBut l s { t with que := s.que } := by
  refine sameBut_iff.2 ⟨fun x hx => ?_, (sameBut_iff.1 h).2⟩
  cases x
  case que => rfl
  all_goals
    have hmem := List.not_mem_cons_of_ne_of_not_mem (y := Area.que) (by decide) hx
    exact (sameBut_iff.1 h).1 _ hmem

theorem sameBut_queueLevel : SameBut [.que, .recd] s (s.queueLevel n) := by
  unfold State.queueLevel
  dsimp only
  split
  · exact (sameBut_setQueue.mono (by decide)).step sameBut_raise
  · split
    · exact sameBut_setQueue.mono (by decide)
    · exact .refl

theorem sameBut_push {w : Nat} : SameBut [.que, .recd] s (s.push n w).2 := by
  unfold State.push
  dsimp only
  split
  · exact sameBut_setQueue.mono (by decide)
  · split
    · exact sameBut_setQueue.mono (by decide)
    · exact (sameBut_setQueue.mono (by decide)).step sameBut_queueLevel

theorem sameBut_closeItem : SameBut [.que] s (s.closeItem n) := by
  unfold State.closeItem
  dsimp only
  exact .ite .refl (.ite sameBut_setQueue sameBut_setQueue)

theorem sameBut_pushItem {ws : List Nat} : SameBut [.que, .recd] s (s.pushItem n ws) := by
  unfold State.pushItem
  split
  · exact SameBut.refl.set_que
  · exact (SameBut.foldl fun _ _ => sameBut_push).step sameBut_closeItem

theorem sameBut_postChange : SameBut [.que, .recd] s (s.postChange pl cause) := sameBut_pushItem

/-! ### Attributes of other classes -/

/-- From `s` to `t` no value of another class has changed. -/
def ClassesBut (classes : List Nat) (s t : State) : Prop := ∀ (y : Nat × Nat) (i : Nat), y.1 ∉ classes ∧ y.2 < 256 → i < 2 ^ 40 → t.attr y i = s.attr y i

theorem ClassesBut.of_obj {l : List Nat} (h : t.obj = s.obj) : ClassesBut l s t := fun y i _ _ => State.attr_congr h y i

theorem ClassesBut.trans {l : List Nat} {w : State} (h : ClassesBut l s t) (h' : ClassesBut l t w) : ClassesBut l s w :=
  fun y i hy hi => (h' y i hy hi).trans (h y i hy hi)

theorem ClassesBut.mono {l l' : List Nat} (h : ClassesBut l s t) (hl : l ⊆ l') : ClassesBut l' s t := fun y i hy => h y i ⟨fun hm => hy.1 (hl hm), hy.2⟩

theorem classesBut_setAttr {l : List Nat} {a : Nat × Nat} {v : Val} (ha : a.1 ∈ l ∧ a.2 < 256) (hk : k < 2 ^ 40) : ClassesBut l s (s.setAttr a k v) := by
  refine fun y i hy hi => State.attr_setAttr_ne ?_
  have hne : y.1 ≠ a.1 := fun he => hy.1 (he ▸ ha.1)
  obtain ⟨-, hnum⟩ := hy
  obtain ⟨-, hnum'⟩ := ha
  unfold mkPath
  omega

theorem ClassesBut.nat {l : List Nat} (h : ClassesBut l s t) (y : Nat × Nat) (i : Nat) (hi : i < 2 ^ 40) (hy : autoParam (y.1 ∉ l ∧ y.2 < 256) Nat.toPNat._auto_1) : t.nat y i = s.nat y i := by
  simp only [State.nat, State.int, h y i hy hi]

/-! ### Placements -/

/-- ELT without what the table holds. -/
def Locator.untabled (e : Locator) : Locator := { e with buckets := [], overflow := [], ovfHigh := false }

/-- From `s` to `t` places of the table have been written (R289). -/
structure Placed (s t : State) : Prop where
  same : SameBut [.elt, .obj, .mbx, .recd, .que] s t
  attrs : AttrsBut [0x0A, 0x0B] s t
  classes : ClassesBut [0x0402] s t
  elt : t.elt.untabled = s.elt.untabled

theorem Placed.refl : Placed s s := ⟨.refl, .of_obj rfl, .of_obj rfl, rfl⟩

theorem Placed.trans {w : State} (h : Placed s t) (h' : Placed t w) : Placed s w := 
  ⟨h.same.trans h'.same, h.attrs.trans h'.attrs, h.classes.trans h'.classes, h'.elt.trans h.elt⟩

theorem Placed.locks (h : Placed s t) : t.elt.locks = s.elt.locks := (congrArg Locator.locks h.elt :)

theorem sameBut_putRaw {x : Option LEntry} : SameBut [.elt] s (s.putRaw pl x) := by
  cases pl <;> exact SameBut.refl.set_elt

theorem State.putRaw_untabled {x : Option LEntry} : (s.putRaw pl x).elt.untabled = s.elt.untabled := by
  cases pl <;> rfl

/-- The store's level moves its count and its mark alone. -/
theorem State.overflowLevel_effect : s.overflowLevel.elt.buckets = s.elt.buckets ∧ s.overflowLevel.elt.overflow = s.elt.overflow ∧
    s.overflowLevel.elt.untabled = s.elt.untabled ∧ SameBut [.elt, .obj, .mbx, .recd] s s.overflowLevel ∧ AttrsBut [0x0B] s s.overflowLevel ∧
    ClassesBut [0x0402] s s.overflowLevel := by
  have hset : SameBut [.obj, .mbx] s (s.setNat Attr.LocatorTable.overflowUsed 0 s.elt.overflow.length) := sameBut_setNat.mono (by decide)
  have helt : (s.setNat Attr.LocatorTable.overflowUsed 0 s.elt.overflow.length).elt = s.elt := State.setNat_elt
  have hattr : AttrsBut [0x0B] s (s.setNat Attr.LocatorTable.overflowUsed 0 s.elt.overflow.length) := attrsBut_setAttr (by decide)
  have hcls : ClassesBut [0x0402] s (s.setNat Attr.LocatorTable.overflowUsed 0 s.elt.overflow.length) := classesBut_setAttr (by decide) (by decide)
  unfold State.overflowLevel
  dsimp only
  split
  · split
    · exact ⟨(congrArg Locator.buckets helt :), (congrArg Locator.overflow helt :), (congrArg Locator.untabled helt :), hset.mono (by decide), hattr, hcls⟩
    · refine ⟨(congrArg Locator.buckets helt :), (congrArg Locator.overflow helt :), (congrArg Locator.untabled helt :), ?_, hattr, hcls⟩
      exact ((hset.mono (by decide)).set_elt).step sameBut_raise
  · exact ⟨(congrArg Locator.buckets helt :), (congrArg Locator.overflow helt :), (congrArg Locator.untabled helt :), (hset.mono (by decide)).set_elt, hattr, hcls⟩

/-- What a place's write leaves in the table (R289). -/
theorem State.place_effect {x : Option LEntry} : (s.place pl x cause).elt.buckets = (s.putRaw pl x).elt.buckets ∧
    (s.place pl x cause).elt.overflow = (s.putRaw pl x).elt.overflow ∧ Placed s (s.place pl x cause) := by
  let v : State := (s.putRaw pl x).setNat Attr.LocatorTable.entries 0 (s.nat Attr.LocatorTable.entries 0 - b2n (s.atPlace pl).isSome + b2n x.isSome)
  have hv : v.elt = (s.putRaw pl x).elt := State.setNat_elt
  obtain ⟨hbuckets, hoverflow, huntabled, hsame, hattrs, hclasses⟩ := State.overflowLevel_effect (s := v)
  have hpost : (s.place pl x cause).elt = v.overflowLevel.elt := (sameBut_postChange (s := v.overflowLevel)).area .elt
  have hobj : (s.place pl x cause).obj = v.overflowLevel.obj := (sameBut_postChange (s := v.overflowLevel)).area .obj
  refine ⟨(congrArg Locator.buckets hpost).trans (hbuckets.trans (congrArg Locator.buckets hv)),
    (congrArg Locator.overflow hpost).trans (hoverflow.trans (congrArg Locator.overflow hv)), ?_, ?_, ?_, ?_⟩
  · exact (((sameBut_putRaw.mono (by decide)).step sameBut_setNat).step hsame).step sameBut_postChange
  · have hfirst : AttrsBut [0x0A, 0x0B] s v := (AttrsBut.of_obj (sameBut_putRaw.area .obj)).trans (attrsBut_setAttr (by decide))
    exact (hfirst.trans (hattrs.mono (by decide))).trans (.of_obj hobj)
  · have hfirst : ClassesBut [0x0402] s v := (ClassesBut.of_obj (sameBut_putRaw.area .obj)).trans (classesBut_setAttr (by decide) (by decide))
    exact (hfirst.trans hclasses).trans (.of_obj hobj)
  · exact (congrArg Locator.untabled hpost).trans (huntabled.trans ((congrArg Locator.untabled hv).trans State.putRaw_untabled))

theorem placed_place {x : Option LEntry} : Placed s (s.place pl x cause) := State.place_effect.2.2

theorem Assoc.length_put_le {α : Type} {k : Nat} {v : α} : ∀ l : List (Nat × α), (Assoc.put k v l).length ≤ l.length + 1
  | [] => Nat.le_refl _
  | (j, w) :: xs => by
    have ih := Assoc.length_put_le (k := k) (v := v) xs
    unfold Assoc.put
    split
    · exact Nat.le_refl _
    · split
      · exact Nat.le_succ _
      · exact Nat.succ_le_succ ih

theorem State.lockedBy_of_empty {who : Option Nat} (h : s.elt.locks = []) : s.lockedBy who b = false := by simp [State.lockedBy, h]

theorem State.place_slot_overflow {i : Nat} {x : Option LEntry} : (s.place (.slot b i) x cause).elt.overflow = s.elt.overflow := State.place_effect.2.1

/-- Where no bucket is locked and the overflow store has room, an entry is placed (R276). -/
theorem State.insertEntry_room {who : Option Nat} (hlocks : s.elt.locks = []) (hroom : s.elt.overflow.length < 16384) :
    ∃ t, s.insertEntry e who cause = (.done, t) ∧ Placed s t ∧ (t.elt.overflow = s.elt.overflow ∨ ∃ g, t.elt.overflow = Assoc.put g e s.elt.overflow) := by
  have hfree : ∀ j, s.lockedBy who j = false := fun j => State.lockedBy_of_empty hlocks
  unfold State.insertEntry
  simp only [hfree, Bool.false_eq_true, or_self, ↓reduceIte, if_pos hroom]
  split
  · exact ⟨_, rfl, placed_place, .inl State.place_slot_overflow⟩
  · exact ⟨_, rfl, placed_place, .inl State.place_slot_overflow⟩
  · split
    · exact ⟨_, rfl, placed_place.trans placed_place, .inl (State.place_slot_overflow.trans State.place_slot_overflow)⟩
    · exact ⟨_, rfl, placed_place, .inr ⟨_, State.place_effect.2.1⟩⟩

/-- A table built from entries that the overflow store alone would hold (R292). -/
theorem placed_insertAll {es : List LEntry} (hlocks : s.elt.locks = []) (hroom : s.elt.overflow.length + es.length ≤ 16384) :
    Placed s (es.foldl (fun s e => (s.insertEntry e none chMove).2) s) := by
  induction es generalizing s with
  | nil => exact .refl
  | cons e es ih =>
    rw [List.length_cons] at hroom
    obtain ⟨t, hins, hplaced, hover⟩ := State.insertEntry_room (e := e) (cause := chMove) (who := none) hlocks (by omega)
    have hlen : t.elt.overflow.length ≤ s.elt.overflow.length + 1 := by
      rcases hover with hsame | ⟨g, hput⟩
      · rw [hsame]
        exact Nat.le_succ _
      · rw [hput]
        exact Assoc.length_put_le _
    rw [List.foldl_cons, hins]
    exact hplaced.trans (ih (hplaced.locks.trans hlocks) (by omega))

/-! ### Repairs -/

theorem State.repaired_effect {d : Nat} : (s.repaired b d).elt = { s.elt with repairs := min (s.elt.repairs + 1) 0xFFFFFFFF } ∧
    (s.repaired b d).nat Attr.LocatorTable.repairs 0 = (s.nat Attr.LocatorTable.repairs 0 + 1) % 2 ^ 32 ∧
    (s.repaired b d).recd = s.recd.ordinary ⟨0x0806, objPath 0x0402 0, [(b : Int), (d : Int)]⟩ ∧ SameBut [.elt, .obj, .mbx, .recd] s (s.repaired b d) := by
  refine ⟨?_, ?_, ?_, ?_⟩
  · have helt : (s.bump 32 Attr.LocatorTable.repairs 0).elt = s.elt := State.bump_elt
    unfold State.repaired
    simp only [State.raise_elt, helt]
  · exact (State.nat_congr (s := s.bump 32 Attr.LocatorTable.repairs 0) rfl _ _).trans State.nat_bump
  · unfold State.repaired
    simp only [State.raise, State.bump_recd]
  · exact ((sameBut_bump.mono (by decide)).step sameBut_raise).set_elt

/-! ### Descriptors -/

theorem State.setPair_bulk {m : Nat} {p : Pair} (h : p.bar4 = (s.pair m).bar4) : ((s.setPair m p).pair n).bar4 = (s.pair n).bar4 := by
  by_cases hn : n = m
  · subst hn
    by_cases hlen : n < s.mbx.pairs.length
    · rw [State.pair_setPair_same hlen, h]
    · simp only [State.setPair, List.set_eq_of_length_le (Nat.le_of_not_lt hlen)]
  · rw [State.pair_setPair_ne hn]

theorem State.deliver_bulk {x : Src} {f : Bytes} : ((s.deliver x f).pair n).bar4 = (s.pair n).bar4 := by
  unfold State.deliver
  split
  · split
    · exact State.setPair_bulk rfl
    · unfold State.writeOut
      dsimp only
      split
      · exact State.setPair_bulk rfl
      · exact State.setPair_bulk rfl
  · rfl
  · rfl

theorem State.answer_bulk {c : Cmd} {r : Reply} (hd : r.data.length ≤ 4064) : ((s.answer c r).pair n).bar4 = (s.pair n).bar4 := by
  unfold State.answer
  rw [if_pos hd]
  exact State.deliver_bulk

theorem State.answerAll_bulk {q : Nat} {xs : List Cmd} : ((xs.foldl (fun s x => s.answerDuplicate x q) s).pair n).bar4 = (s.pair n).bar4 := by
  induction xs generalizing s with
  | nil => rfl
  | cons x xs ih => exact (ih (s := s.answerDuplicate x q)).trans (State.answer_bulk (by simp))

theorem State.respond_bulk {c : Cmd} {r : Reply} (hd : r.data.length ≤ 4064) : ((s.respond c r).pair n).bar4 = (s.pair n).bar4 :=
  State.answerAll_bulk.trans (State.answer_bulk (s := s.mark c.session c.seq r.status) hd)

/-- An answer leaves a pair's bulk memory. -/
theorem State.finish_bulk {c : Cmd} {r : Reply} (hd : r.data.length ≤ 4064) : ((s.finish c r).pair n).bar4 = (s.pair n).bar4 := by
  unfold State.finish
  dsimp only
  split
  · exact State.respond_bulk hd
  · split
    · exact State.respond_bulk (Nat.zero_le _)
    · exact State.respond_bulk hd

/-- A command of one descriptor that reads a bucket (R285). -/
theorem State.dmaGo_read {r : DmaRun} {d : Bytes} {off : Nat} (hdescs : r.descs = [d]) (hop : octet d 0 = 3) (htmo : field d 2 2 ≤ 1000)
    (hb : field d 4 4 = b) (hoff : field d 16 4 = off) (hbhi : b < 1048576) (hoffhi : off + 64 ≤ 1048576) (hexp : s.elt.expired = []) :
    s.dmaGo r 1 = s.dmaFinish { r with descs := [], done := r.done ++ [Status.ok.code], slice := writeAt r.slice off (bucketBytes (s.bucket b)) } := by
  have hstep : s.dmaStep r.cmd d r.slice = some (.ok, writeAt r.slice off (bucketBytes (s.bucket b)), s) := by
    unfold State.dmaStep
    rw [hop, hb, hoff, hexp]
    refine (if_neg (by simp [dmaOperatorOnly])).trans ((if_neg (by simp)).trans ((if_neg (Nat.not_lt.2 htmo)).trans ?_))
    exact if_neg (by omega)
  have hsteps : s.dmaSteps 1 r = ({ r with descs := [], done := r.done ++ [Status.ok.code], slice := writeAt r.slice off (bucketBytes (s.bucket b)) }, s) := by
    unfold State.dmaSteps
    rw [hdescs]
    dsimp only
    rw [hstep]
    rfl
  unfold State.dmaGo
  rw [hsteps]
  rfl

/-! ### Change records -/

theorem State.queueLevel_words : ((s.queueLevel n).queue n).words = (s.queue n).words ∧ (s.queueLevel n).que.backlog = s.que.backlog := by
  unfold State.queueLevel
  dsimp only
  split
  · exact ⟨(congrArg QueueState.words State.queue_setQueue :), rfl⟩
  · split
    · exact ⟨(congrArg QueueState.words State.queue_setQueue :), rfl⟩
    · exact ⟨rfl, rfl⟩

/-- A queue of one whole item is taken empty. -/
theorem State.takeItem_whole {w lo hi : Nat} (hwords : (s.queue n).words = [⟨w, false, true⟩, ⟨lo, false, true⟩, ⟨hi, true, true⟩]) (hback : s.que.backlog = []) :
    ∃ t, s.takeItem n = (some [w, lo, hi], t) ∧ (t.queue n).words = [] ∧ SameBut [.que, .recd] s t := by
  let v : State := s.setQueue n { s.queue n with words := [], rd := (s.queue n).rd - 3, mark := none }
  obtain ⟨hlevel, hbacklog⟩ := State.queueLevel_words (s := v) (n := n)
  have htake : s.takeItem n = (some [w, lo, hi], (v.queueLevel n).pushBacklog n) := by
    unfold State.takeItem
    dsimp only
    rw [hwords]
    rfl
  rw [State.pushBacklog_of_empty (hbacklog.trans hback)] at htake
  exact ⟨_, htake, hlevel.trans (congrArg QueueState.words State.queue_setQueue), (sameBut_setQueue.mono (by decide)).step sameBut_queueLevel⟩

/-! ### Rebuilds -/

theorem leNat_lt : ∀ b : Bytes, leNat b < 256 ^ b.length
  | [] => by simp [leNat]
  | x :: xs => by
    have ih := leNat_lt xs
    have hx : x.toNat < 256 := x.isLt
    simp only [leNat, List.length_cons, Nat.pow_succ]
    omega

/-- A second seed equal to the first is moved by one (R264). -/
theorem seeds_distinct {a c : Nat} : a ≠ if c = a then (c + 1) % 2 ^ 64 else c := by
  split <;> omega

/-- Settles O19: the table's writes are placements, and a descriptor acts once. -/
theorem locatorTable : Obligations.LocatorTable := by
  refine ⟨?compare, ?dram, ?unresolved, ?timeout, ?waits, ?built, ?change, ?dma, ?rebuild, ?room⟩
  case compare =>
    intro s b crc hheld hlocked hpending hdiff
    have hrun : exec (.shadowCompare b crc) s = .next (s.compareBucket b crc) := by
      show execShadowCompare b crc s = _
      unfold execShadowCompare
      rw [hheld]
    have hopen : ¬ (s.lockedBy none b = true ∨ s.changesPending b = true) := by simp [hlocked, hpending]
    cases crc with
    | true =>
      obtain ⟨helt, hnat, hrecd, hsame⟩ := State.repaired_effect (s := s.fromShadow b) (b := b) (d := 0)
      have hstate : s.compareBucket b true = (s.fromShadow b).repaired b 0 := (if_neg hopen).trans (if_neg hdiff)
      rw [hstate] at hrun
      refine ⟨_, hrun, ⟨?_, (congrArg Locator.shadow helt :)⟩, hnat, hrecd, (SameBut.refl.set_elt).trans hsame⟩
      exact (congrArg (fun l : Locator => (Assoc.find b l.buckets).getD emptyBucket) helt).trans Assoc.getD_set_same
    | false =>
      let v : State := { s with elt := { s.elt with shadow := Assoc.set emptyBucket b (s.bucket b) s.elt.shadow } }
      obtain ⟨helt, hnat, hrecd, hsame⟩ := State.repaired_effect (s := v) (b := b) (d := 1)
      have hstate : s.compareBucket b false = v.repaired b 1 := (if_neg hopen).trans (if_neg hdiff)
      rw [hstate] at hrun
      refine ⟨_, hrun, ⟨?_, (congrArg Locator.buckets helt :)⟩, hnat, hrecd, (SameBut.refl.set_elt).trans hsame⟩
      exact (congrArg (fun l : Locator => (Assoc.find b l.shadow).getD emptyBucket) helt).trans Assoc.getD_set_same
  case dram =>
    intro s b key p c short metric x
    exact ⟨_, rfl, rfl, SameBut.refl.set_elt⟩
  case unresolved =>
    intro s
    exact ⟨_, rfl, rfl, SameBut.refl.set_elt⟩
  case timeout =>
    intro s b l hl
    have hb : l.bucket = b := by simpa using List.find?_some hl
    have hrun : exec (.lockTimeout b) s = .next (({ s with
        elt := { s.elt with
          locks := s.elt.locks.filter (fun x => x.bucket != b)
          expired := s.elt.expired ++ [(b, l.arrival)]
          lockTimeouts := min (s.elt.lockTimeouts + 1) 0xFFFFFFFF } }).raise 0x0805 (objPath 0x0402 0) [(b : Int), (l.timeout : Int)]) := by
      show execLockTimeout b s = _
      unfold execLockTimeout
      rw [hl]
    refine ⟨_, hrun, ?_, ?_, rfl, rfl, (SameBut.refl.set_elt).step sameBut_raise⟩
    · simp only [State.lockedBy, State.raise_elt, List.any_eq_false, List.mem_filter]
      rintro x ⟨-, hx⟩
      simp [(bne_iff_ne.1 hx)]
    · exact List.mem_append_right _ (List.mem_singleton.2 rfl)
  case waits =>
    intro s a r d e rest hruns ha hdescs hop hlocked
    have hrun : exec (.lockWaitTimeout a) s = .next (s.dmaGo { r with descs := e :: rest, done := r.done ++ [Status.timeout.code] } 0) := by
      show execLockWaitTimeout a s = _
      have hfind : s.elt.runs.find? (fun r => r.cmd.arrival == a) = some r := by simp [hruns, ha]
      unfold execLockWaitTimeout
      rw [hfind]
      dsimp only
      rw [hdescs]
      exact if_pos ⟨hop, hlocked⟩
    refine ⟨_, hrun, ?_, ?_⟩
    · simp [State.dmaGo, State.dmaSteps, hruns]
    · exact SameBut.refl.set_elt
  case built =>
    intro s a b hrebuild hwords hroom
    let es : List LEntry := (s.elt.shadow.flatMap (fun x => x.2.filterMap id)) ++ s.elt.shadowOvf.map Prod.snd
    let u : State := (s.setNat Attr.LocatorTable.hashSeed1 0 a).setNat Attr.LocatorTable.hashSeed2 0 b
    let v : State := { u with elt := { u.elt with buckets := [], overflow := [], rebuild := none, locks := [] } }
    let w : State := v.setNat Attr.LocatorTable.entries 0 0
    have hu : u.elt = s.elt := State.setNat_elt.trans State.setNat_elt
    have hw : w.elt = { s.elt with buckets := [], overflow := [], rebuild := none, locks := [] } :=
      State.setNat_elt.trans (congrArg (fun l : Locator => { l with buckets := [], overflow := [], rebuild := none, locks := [] }) hu)
    let r : State := es.foldl (fun s e => (s.insertEntry e none chMove).2) w
    have hplaced : Placed w r := by
      refine placed_insertAll (congrArg Locator.locks hw :) ?_
      rw [(congrArg Locator.overflow hw :)]
      simpa [es] using hroom
    have hrun : exec .tableRebuildDone s = .next { r with que := w.que, elt := { r.elt with locks := u.elt.locks, shadow := r.elt.buckets, shadowOvf := r.elt.overflow } } := by
      show execTableRebuildDone s = _
      unfold execTableRebuildDone
      rw [hrebuild]
      dsimp only
      rw [hwords]
      rfl
    have hattrs : AttrsBut [0x0A, 0x0B] u r := (AttrsBut.trans (t := v) (.of_obj rfl) (attrsBut_setAttr (by decide))).trans hplaced.attrs
    have hsame : SameBut [.elt, .obj, .mbx, .recd, .que] s r :=
      (((sameBut_setNat.mono (by decide)).step sameBut_setNat).set_elt.step sameBut_setNat).trans hplaced.same
    have hque : w.que = s.que := State.setNat_que.trans (State.setNat_que.trans State.setNat_que)
    refine ⟨_, hrun, ?_, ?_, ?_, (congrArg Locator.locks hu :), rfl, rfl, ?_⟩
    · refine (hattrs.nat Attr.LocatorTable.hashSeed1 0).trans ?_
      exact (State.nat_setNat_ne (mkPath_ne_of_attr (by decide))).trans State.nat_setNat
    · exact (hattrs.nat Attr.LocatorTable.hashSeed2 0).trans State.nat_setNat
    · exact (congrArg Locator.rebuild hplaced.elt :).trans (congrArg Locator.rebuild hw)
    · have hleft : SameBut [.elt, .obj, .mbx, .recd] s { r with que := s.que } := (hsame.mono (by decide)).restore_que
      rw [hque]
      exact hleft.set_elt
  case change =>
    intro s w lo hi hwords hslot hback
    obtain ⟨t, htake, hempty, hsame⟩ := State.takeItem_whole hwords hback
    have helt : t.elt = s.elt := hsame.area .elt
    let l : List (Option LEntry) := (t.shadowBucket (w % 2 ^ 32)).set (bits w 39 32) (decodeSlot (lo + hi * 2 ^ 64))
    let u : State := { t with elt := { t.elt with shadow := Assoc.set emptyBucket (w % 2 ^ 32) l t.elt.shadow } }
    have hrun : exec .changeRecordApply s = .next u := by
      refine congrArg Host.Outcome.next ?_
      unfold State.applyChange
      rw [htake]
      exact if_neg (by omega)
    refine ⟨u, hrun, ?_, ?_, (congrArg Locator.buckets helt :), (hsame.mono (by decide)).set_elt⟩
    · refine Assoc.getD_set_same.trans ?_
      simp only [l, State.shadowBucket, helt]
    · exact hempty
  case dma =>
    intro s c n b off h ho hcount hlen hop htmo hb hoff hbhi hoffhi hexpired
    let r : DmaRun := { cmd := c, descs := [slice c.data 4 32], done := [], slice := (s.pair n).bar4 }
    let bulk : Bytes := writeAt (s.pair n).bar4 off (bucketBytes (s.bucket b))
    let u : State := { s.pop with elt := { s.elt with
      locks := s.elt.locks.filter (fun l => l.arrival != c.arrival)
      expired := s.elt.expired.filter (fun x => x.2 != c.arrival)
      runs := s.elt.runs.filter (fun x => x.cmd.arrival != c.arrival) } }
    have hrun : exec (.tableDma none 1) s = .next ((u.setPair n { s.pair n with bar4 := bulk }).finish c ⟨.ok, [0, 0, 0, 0]⟩) := by
      have hstart : exec (.tableDma none 1) s = .next (s.pop.dmaGo r 1) := by
        show execTableDma none 1 s = _
        unfold execTableDma
        rw [h.front]
        dsimp only
        rw [if_neg (by omega), hcount, h.src, if_neg (by omega)]
        rfl
      rw [hstart, State.dmaGo_read (s := s.pop) (r := r) rfl hop htmo hb hoff hbhi hoffhi hexpired]
      unfold State.dmaFinish
      dsimp only
      rw [h.src]
      rfl
    have hpair : n < u.mbx.pairs.length := h.pair
    have hbulk : (u.setPair n { s.pair n with bar4 := bulk }).pair n = { s.pair n with bar4 := bulk } := State.pair_setPair_same hpair
    have hans : Answered (s.setPair n { s.pair n with bar4 := bulk }) ((u.setPair n { s.pair n with bar4 := bulk }).finish c ⟨.ok, [0, 0, 0, 0]⟩) c n .ok [0, 0, 0, 0] := by
      refine State.finish_answered ⟨rfl, rfl, rfl⟩ h.src (by simpa [State.setPair] using h.pair) ?_ h.repeats h.waits (by decide)
      rw [State.pair_setPair_same h.pair]
      exact h.free
    refine ⟨_, hrun, ⟨hans.frame, hans.full, hans.idle, hans.taken⟩, ?_, (congrArg Locator.buckets State.finish_elt :), ?_⟩
    · exact (State.finish_bulk (by decide)).trans (congrArg Pair.bar4 hbulk)
    · exact (((sameBut_pop.mono (by decide)).set_elt).set_mbx).step sameBut_finish
  case rebuild =>
    intro s c n h ho hadm hdef
    obtain ⟨a, hreq⟩ := State.requestCmd_free (s := s.pop) (c := c) (kind := 3) (unit := 0) hadm hdef
    let u : State := s.pop.admitActivity a
    have hbody : doTableRebuild true c s.pop = (⟨.accepted, []⟩, u.startRebuild) := by
      unfold doTableRebuild
      rw [hreq]
      rfl
    obtain ⟨t, hrun, rfl, hans⟩ := h.completes ho hbody (poised_pop.of_mbx rfl) (Nat.zero_le _)
    refine ⟨_, hrun, hans, ⟨_, _, (congrArg Locator.rebuild State.finish_elt :), ?_⟩, (congrArg Locator.buckets State.finish_elt :), ?_⟩
    · exact seeds_distinct
    · have hstart : SameBut [.elt] u u.startRebuild := by simp [SameBut, State.startRebuild]
      exact (((sameBut_pop.mono (by decide)).step sameBut_admitActivity).step hstart).step sameBut_finish
  case room =>
    intro s c n h ho
    exact h.completes_unchanged (b := doTableRebuild false) (r := ⟨.tableFull, []⟩) ho rfl (Nat.zero_le _)

end Sys2Proof.Machine
end

section
/-! Learning and aging of locator entries (R269–R275, R281–R283). -/

namespace Sys2Proof.Machine

variable {s t : State} {h key n b k m cause : Nat} {pl : Place} {e : LEntry} {r : Route}

/-! ### Places -/

theorem State.atPlace_congr (hb : t.elt.buckets = s.elt.buckets) (ho : t.elt.overflow = s.elt.overflow) : t.atPlace pl = s.atPlace pl := by
  cases pl <;> simp only [State.atPlace, State.bucket, hb, ho]

/-- A place that holds an entry holds what is written there. -/
theorem State.atPlace_putRaw {x : LEntry} (h : s.atPlace pl = some e) : (s.putRaw pl (some x)).atPlace pl = some x := by
  cases pl with
  | ovf i => exact Assoc.find_put_same
  | slot b i =>
    have hlen : i < (s.bucket b).length := by
      by_contra hout
      have hnone : s.atPlace (.slot b i) = none := by simp [State.atPlace, List.getElem?_eq_none (Nat.le_of_not_lt hout)]
      rw [hnone] at h
      cases h
    have hbucket : (s.putRaw (.slot b i) (some x)).bucket b = (s.bucket b).set i (some x) := Assoc.getD_set_same
    simp [State.atPlace, hbucket, hlen]

theorem State.atPlace_place {x : LEntry} (h : s.atPlace pl = some e) : (s.place pl (some x) cause).atPlace pl = some x := by
  obtain ⟨hb, ho, -⟩ := State.place_effect (s := s) (pl := pl) (x := some x) (cause := cause)
  exact (State.atPlace_congr hb ho).trans (State.atPlace_putRaw h)

theorem State.findEntry_atPlace {a : Bool} (h : s.findEntry a key = some (pl, e)) : s.atPlace pl = some e := by
  obtain ⟨x, -, hx⟩ := List.exists_of_findSome?_eq_some h
  obtain ⟨y, hy, heq⟩ := Option.map_eq_some_iff.1 hx
  obtain ⟨rfl, rfl⟩ := Prod.mk.inj heq
  exact (Option.filter_eq_some_iff.1 hy).1

theorem State.findEntry_congr {a : Bool} (hobj : t.obj = s.obj) (hb : t.elt.buckets = s.elt.buckets) (ho : t.elt.overflow = s.elt.overflow) :
    t.findEntry a key = s.findEntry a key := by
  have hplace : ∀ pl, t.atPlace pl = s.atPlace pl := fun pl => State.atPlace_congr hb ho
  simp only [State.findEntry, State.candidates, State.nat_congr hobj, hplace, ho]

theorem Placed.queue (h : Placed s t) : t.elt.queue = s.elt.queue := (congrArg Locator.queue h.elt :)

theorem Placed.guardAt (h : Placed s t) : t.elt.guardAt = s.elt.guardAt := (congrArg Locator.guardAt h.elt :)

/-! ### Paths -/

theorem AttrsBut.primary {nums : List Nat} (h' : AttrsBut nums s t) (hn : autoParam (0x02 ∉ nums ∧ 0x03 ∉ nums ∧ 0x04 ∉ nums) Nat.toPNat._auto_1) : t.primary h = s.primary h := by
  obtain ⟨hp, hc, hs⟩ := hn
  simp only [State.primary, h'.nat Attr.EndpointLocator.port h ⟨by decide, hp⟩, h'.nat Attr.EndpointLocator.cell h ⟨by decide, hc⟩,
    h'.nat Attr.EndpointLocator.short h ⟨by decide, hs⟩]

theorem AttrsBut.secondary {nums : List Nat} (h' : AttrsBut nums s t) (hn : autoParam (0x06 ∉ nums ∧ 0x07 ∉ nums ∧ 0x08 ∉ nums) Nat.toPNat._auto_1) :
    t.secondary h = s.secondary h := by
  obtain ⟨hp, hc, hs⟩ := hn
  simp only [State.secondary, h'.nat Attr.EndpointLocator.secondaryPort h ⟨by decide, hp⟩, h'.nat Attr.EndpointLocator.secondaryCell h ⟨by decide, hc⟩,
    h'.nat Attr.EndpointLocator.secondaryShort h ⟨by decide, hs⟩]

theorem sameBut_pathChanged : SameBut [.sto, .twn] t (t.pathChanged s h) := by
  unfold State.pathChanged
  exact .ite .refl sameBut_post

theorem sameBut_setPrimary : SameBut [.obj, .mbx, .sto, .twn] s (s.setPrimary h r) :=
  (((sameBut_setNat.mono (by decide)).step sameBut_setNat).step sameBut_setNat).step sameBut_pathChanged

theorem attrsBut_setPrimary : AttrsBut [0x02, 0x03, 0x04] s (s.setPrimary h r) :=
  (((attrsBut_setAttr (by decide)).trans (attrsBut_setAttr (by decide))).trans (attrsBut_setAttr (by decide))).trans (.of_obj (sameBut_pathChanged.area .obj))

theorem classesBut_setPrimary (hh : h < 2 ^ 40) : ClassesBut [0x0401] s (s.setPrimary h r) :=
  (((classesBut_setAttr (by decide) hh).trans (classesBut_setAttr (by decide) hh)).trans (classesBut_setAttr (by decide) hh)).trans
    (.of_obj (sameBut_pathChanged.area .obj))

theorem sameBut_setSecondaryRaw : SameBut [.obj, .mbx, .sto, .twn] s (s.setSecondaryRaw h r) :=
  (((sameBut_setNat.mono (by decide)).step sameBut_setNat).step sameBut_setNat).step sameBut_pathChanged

theorem attrsBut_setSecondaryRaw : AttrsBut [0x06, 0x07, 0x08] s (s.setSecondaryRaw h r) :=
  (((attrsBut_setAttr (by decide)).trans (attrsBut_setAttr (by decide))).trans (attrsBut_setAttr (by decide))).trans (.of_obj (sameBut_pathChanged.area .obj))

/-- A primary path is read as written; port 63 is none (R293). -/
theorem State.primary_setPrimary : (s.setPrimary h r).primary h = if r.port = noPort then none else some r := by
  let v : State := ((s.setNat Attr.EndpointLocator.port h r.port).setNat Attr.EndpointLocator.cell h r.cell).setNat Attr.EndpointLocator.short h r.short
  have hobj : (s.setPrimary h r).obj = v.obj := sameBut_pathChanged.area .obj
  have hport : (s.setPrimary h r).nat Attr.EndpointLocator.port h = r.port :=
    (State.nat_congr hobj _ _).trans ((State.nat_setNat_ne (mkPath_ne_of_attr (by decide))).trans ((State.nat_setNat_ne (mkPath_ne_of_attr (by decide))).trans State.nat_setNat))
  have hcell : (s.setPrimary h r).nat Attr.EndpointLocator.cell h = r.cell :=
    (State.nat_congr hobj _ _).trans ((State.nat_setNat_ne (mkPath_ne_of_attr (by decide))).trans State.nat_setNat)
  have hshort : (s.setPrimary h r).nat Attr.EndpointLocator.short h = r.short := (State.nat_congr hobj _ _).trans State.nat_setNat
  simp only [State.primary, hport, hcell, hshort]

theorem State.secondary_setSecondaryRaw : (s.setSecondaryRaw h r).secondary h = if r.port = noPort then none else some r := by
  let v : State := ((s.setNat Attr.EndpointLocator.secondaryPort h r.port).setNat Attr.EndpointLocator.secondaryCell h r.cell).setNat
    Attr.EndpointLocator.secondaryShort h r.short
  have hobj : (s.setSecondaryRaw h r).obj = v.obj := sameBut_pathChanged.area .obj
  have hport : (s.setSecondaryRaw h r).nat Attr.EndpointLocator.secondaryPort h = r.port :=
    (State.nat_congr hobj _ _).trans ((State.nat_setNat_ne (mkPath_ne_of_attr (by decide))).trans ((State.nat_setNat_ne (mkPath_ne_of_attr (by decide))).trans State.nat_setNat))
  have hcell : (s.setSecondaryRaw h r).nat Attr.EndpointLocator.secondaryCell h = r.cell :=
    (State.nat_congr hobj _ _).trans ((State.nat_setNat_ne (mkPath_ne_of_attr (by decide))).trans State.nat_setNat)
  have hshort : (s.setSecondaryRaw h r).nat Attr.EndpointLocator.secondaryShort h = r.short := (State.nat_congr hobj _ _).trans State.nat_setNat
  simp only [State.secondary, hport, hcell, hshort]

/-- A metric is a path's mean (R274); the table, the locks and the windows stay. -/
theorem State.metric_effect {p : Bool} : (s.metric h p m).elt = { s.elt with metrics := (s.metric h p m).elt.metrics } ∧
    SameBut [.elt, .obj, .mbx] s (s.metric h p m) ∧ AttrsBut [0x05, 0x09] s (s.metric h p m) ∧ (h < 2 ^ 40 → ClassesBut [0x0401] s (s.metric h p m)) := by
  unfold State.metric
  dsimp only
  refine ⟨?_, ?_, ?_, fun hh => ?_⟩
  · rw [State.setNat_elt]
  · exact (SameBut.refl.set_elt).step sameBut_setNat
  · refine AttrsBut.trans (AttrsBut.of_obj rfl) (attrsBut_setAttr ?_)
    cases p <;> decide
  · refine ClassesBut.trans (ClassesBut.of_obj rfl) (classesBut_setAttr ?_ hh)
    cases p <;> decide

/-! ### Entries that are changed or entered -/

theorem placed_editEui {f : LEntry → LEntry} : Placed s (s.editEui key f cause) := by
  unfold State.editEui
  split
  · exact .refl
  · exact placed_place

/-- Where the store's index of an entry was written last, writing it again takes no room. -/
theorem Assoc.length_put_put {α : Type} {k : Nat} {v w : α} : ∀ l : List (Nat × α), (Assoc.put k v (Assoc.put k w l)).length = (Assoc.put k w l).length
  | [] => by simp [Assoc.put]
  | (j, x) :: xs => by
    have ih := Assoc.length_put_put (k := k) (v := v) (w := w) xs
    have hput : Assoc.put k w ((j, x) :: xs) = if k < j then (k, w) :: (j, x) :: xs else if k = j then (k, w) :: xs else (j, x) :: Assoc.put k w xs := rfl
    rw [hput]
    split
    · simp [Assoc.put]
    · split
      · simp [Assoc.put]
      · rename_i hlt hne
        simp [Assoc.put, hlt, hne, ih]

/-- An entry of the store that a key finds. -/
theorem State.findEntry_ovf {a : Bool} {i : Nat} (h : s.findEntry a key = some (.ovf i, e)) : Assoc.find i s.elt.overflow = some e ∧ e.isAlias = a ∧ e.key = key := by
  obtain ⟨x, -, hx⟩ := List.exists_of_findSome?_eq_some h
  obtain ⟨y, hy, heq⟩ := Option.map_eq_some_iff.1 hx
  obtain ⟨rfl, rfl⟩ := Prod.mk.inj heq
  obtain ⟨hat, hmatch⟩ := Option.filter_eq_some_iff.1 hy
  simp only [Bool.and_eq_true, beq_iff_eq] at hmatch
  exact ⟨hat, hmatch⟩

theorem Assoc.mem_of_find {α : Type} {k : Nat} {v : α} : ∀ {l : List (Nat × α)}, Assoc.find k l = some v → (k, v) ∈ l
  | [], h => by cases h
  | (j, w) :: xs, h => by
    unfold Assoc.find at h
    split at h
    · rename_i hj
      subst hj
      cases h
      exact List.mem_cons_self ..
    · exact List.mem_cons_of_mem _ (Assoc.mem_of_find h)

/-- A key that finds no entry is in no entry of the store. -/
theorem State.not_ovf_of_findEntry {a : Bool} {i : Nat} (h : s.findEntry a key = none) (hi : Assoc.find i s.elt.overflow = some e) : ¬ (e.isAlias = a ∧ e.key = key) := by
  rintro ⟨ha, hk⟩
  have hmem : (Place.ovf i) ∈ s.elt.overflow.map (fun x => Place.ovf x.1) := List.mem_map.2 ⟨(i, e), Assoc.mem_of_find hi, rfl⟩
  have hnone := List.findSome?_eq_none_iff.1 h (.ovf i) (List.mem_append_right _ hmem)
  simp [State.atPlace, hi, ha, hk] at hnone

/-- A change of the entry that was just entered takes no room in the store. -/
theorem State.editEui_overflow {f : LEntry → LEntry} {g : Nat} {x : LEntry} (hnone : s.findEntry false key = none) (hput : t.elt.overflow = Assoc.put g x s.elt.overflow) :
    (t.editEui key f cause).elt.overflow.length = t.elt.overflow.length := by
  unfold State.editEui
  split
  · rfl
  · rename_i pl y hy
    cases pl with
    | slot b i => rw [State.place_slot_overflow]
    | ovf i =>
      obtain ⟨hfind, hmatch⟩ := State.findEntry_ovf hy
      have hi : i = g := by
        by_contra hne
        rw [hput, Assoc.find_put_ne hne] at hfind
        exact State.not_ovf_of_findEntry hnone hfind hmatch
      subst hi
      rw [State.place_effect.2.1]
      show (Assoc.put i (f y) t.elt.overflow).length = t.elt.overflow.length
      rw [hput, Assoc.length_put_put]

theorem State.editEui_length {f : LEntry → LEntry} : (t.editEui key f cause).elt.overflow.length ≤ t.elt.overflow.length + 1 := by
  unfold State.editEui
  split
  · exact Nat.le_succ _
  · rename_i pl y hy
    cases pl with
    | slot b i => rw [State.place_slot_overflow]; exact Nat.le_succ _
    | ovf i => rw [State.place_effect.2.1]; exact Assoc.length_put_le _

/-- A second address is entered where the store has room (R260). -/
theorem State.enterAlias_room (hlocks : s.elt.locks = []) (hroom : s.elt.overflow.length < 16384) : ∃ t, s.enterAlias h r = (.done, t) ∧ Placed s t := by
  unfold State.enterAlias
  split
  · exact ⟨_, rfl, .refl⟩
  · obtain ⟨t, hins, hplaced, -⟩ := State.insertEntry_room (e := aliasOf h r) (who := none) (cause := chLearn) hlocks hroom
    exact ⟨t, hins, hplaced⟩

/-- The learn-guard window of a new primary path starts, and its metrics start again (R270, R271). -/
def State.guardsPath (s : State) (h : Nat) : State :=
  { s with elt := { s.elt with guardAt := Assoc.put h s.tim.d3 s.elt.guardAt, metrics := Assoc.modify ([], []) h (fun x => ([], x.2)) s.elt.metrics } }

/-- An entry moves to a path, under its guard (R270). -/
def LEntry.movedTo (r : Route) (e : LEntry) : LEntry := { e with port := r.port, cell := r.cell, short := if r.short = noShort then 0 else r.short, guard := true }

theorem State.startPrimary_eq : s.startPrimary h key r m = (((s.setPrimary h r).guardsPath h).editEui key (LEntry.movedTo r) chMove).metric h true m := rfl

theorem State.guardsPath_obj : (s.guardsPath h).obj = s.obj := rfl
theorem State.guardsPath_guardAt : (s.guardsPath h).elt.guardAt = Assoc.put h s.tim.d3 s.elt.guardAt := rfl
theorem State.guardsPath_queue : (s.guardsPath h).elt.queue = s.elt.queue := rfl
theorem State.guardsPath_locks : (s.guardsPath h).elt.locks = s.elt.locks := rfl
theorem State.guardsPath_overflow : (s.guardsPath h).elt.overflow = s.elt.overflow := rfl
theorem sameBut_guardsPath : SameBut [.elt] s (s.guardsPath h) := SameBut.refl.set_elt

/-- The first sighting of an endpoint sets its primary path and opens its learn-guard window (R270, R272). -/
theorem State.startPrimary_effect : (s.startPrimary h key r m).primary h = (if r.port = noPort then none else some r) ∧
    Assoc.find h (s.startPrimary h key r m).elt.guardAt = some s.tim.d3 ∧ (s.startPrimary h key r m).elt.queue = s.elt.queue ∧
    (s.startPrimary h key r m).elt.locks = s.elt.locks ∧ SameBut [.elt, .obj, .mbx, .recd, .que, .sto, .twn] s (s.startPrimary h key r m) ∧
    (∀ (w : State) (x : LEntry) (g : Nat), w.findEntry false key = none → s.elt.overflow = Assoc.put g x w.elt.overflow → (s.startPrimary h key r m).elt.overflow.length = s.elt.overflow.length) ∧
    (s.startPrimary h key r m).elt.overflow.length ≤ s.elt.overflow.length + 1 ∧ (h < 2 ^ 40 → ClassesBut [0x0401, 0x0402] s (s.startPrimary h key r m)) := by
  have hstart := State.startPrimary_eq (s := s) (h := h) (key := key) (r := r) (m := m)
  have hprim : SameBut [.obj, .mbx, .sto, .twn] s (s.setPrimary h r) := sameBut_setPrimary
  have hpath : (s.setPrimary h r).primary h = if r.port = noPort then none else some r := State.primary_setPrimary
  have hpclasses : h < 2 ^ 40 → ClassesBut [0x0401] s (s.setPrimary h r) := classesBut_setPrimary
  generalize s.setPrimary h r = a at *
  have haelt : a.elt = s.elt := hprim.area .elt
  have htim : a.tim = s.tim := hprim.area .tim
  have hbobj : (a.guardsPath h).obj = a.obj := State.guardsPath_obj
  have hbguard : (a.guardsPath h).elt.guardAt = Assoc.put h s.tim.d3 a.elt.guardAt := by rw [State.guardsPath_guardAt, htim]
  have hbqueue : (a.guardsPath h).elt.queue = s.elt.queue := by rw [State.guardsPath_queue, haelt]
  have hblocks : (a.guardsPath h).elt.locks = s.elt.locks := by rw [State.guardsPath_locks, haelt]
  have hbover : (a.guardsPath h).elt.overflow = s.elt.overflow := by rw [State.guardsPath_overflow, haelt]
  have hbsame : SameBut [.elt] a (a.guardsPath h) := sameBut_guardsPath
  generalize a.guardsPath h = b at *
  have hd : Placed b (b.editEui key (LEntry.movedTo r) chMove) := placed_editEui
  have hdsteady : ∀ (w : State) (x : LEntry) (g : Nat), w.findEntry false key = none → b.elt.overflow = Assoc.put g x w.elt.overflow →
      (b.editEui key (LEntry.movedTo r) chMove).elt.overflow.length = b.elt.overflow.length := fun _ _ _ hnone hput => State.editEui_overflow hnone hput
  have hdlen : (b.editEui key (LEntry.movedTo r) chMove).elt.overflow.length ≤ b.elt.overflow.length + 1 := State.editEui_length
  generalize b.editEui key (LEntry.movedTo r) chMove = d at *
  obtain ⟨helt, hsame, hattrs, hclasses⟩ := State.metric_effect (s := d) (h := h) (m := m) (p := true)
  have hkeep : ∀ {α} (p : Locator → α), (∀ e y, p { e with metrics := y } = p e) → p (d.metric h true m).elt = p d.elt := fun p hp => by rw [helt, hp]
  rw [hstart]
  refine ⟨?_, ?_, ?_, ?_, ?_, fun w x g hnone hput => ?_, ?_, fun hh => ?_⟩
  · have hbprim : b.primary h = a.primary h := AttrsBut.primary (nums := []) (.of_obj hbobj)
    rw [AttrsBut.primary hattrs, AttrsBut.primary hd.attrs, hbprim]
    exact hpath
  · rw [hkeep Locator.guardAt fun _ _ => rfl, hd.guardAt, hbguard, Assoc.find_put_same]
  · rw [hkeep Locator.queue fun _ _ => rfl]
    exact hd.queue.trans hbqueue
  · rw [hkeep Locator.locks fun _ _ => rfl]
    exact hd.locks.trans hblocks
  · have hbs : SameBut [.elt, .obj, .mbx, .recd, .que, .sto, .twn] s b := (hprim.mono (by decide)).trans (hbsame.mono (by decide))
    exact (hbs.step hd.same).step hsame
  · rw [hkeep Locator.overflow fun _ _ => rfl]
    exact (hdsteady w x g hnone (hbover.trans hput)).trans (congrArg List.length hbover)
  · rw [hkeep Locator.overflow fun _ _ => rfl]
    exact hdlen.trans (Nat.succ_le_succ (Nat.le_of_eq (congrArg List.length hbover)))
  · have hfirst : ClassesBut [0x0401] s b := (hpclasses hh).trans (.of_obj hbobj)
    exact ((hfirst.mono (by decide)).trans (hd.classes.mono (by decide))).trans ((hclasses hh).mono (by decide))

/-- The first sighting of an endpoint enters its entry and, where its path has a short address, a second address (R260, R270). -/
theorem State.commitPath_first (hlocks : s.elt.locks = []) (hfind : s.findEntry false key = none) (hroom : s.elt.overflow.length < 16383) :
    ∃ t, s.commitPath h key r m = (.done, t) ∧ t.primary h = (if r.port = noPort then none else some r) ∧ Assoc.find h t.elt.guardAt = some s.tim.d3 ∧
      t.elt.queue = s.elt.queue ∧ SameBut [.elt, .obj, .mbx, .recd, .que, .sto, .twn] s t ∧ (h < 2 ^ 40 → ClassesBut [0x0401, 0x0402] s t) := by
  let e : LEntry := { key := key, handle := h, port := r.port, cell := r.cell, short := if r.short = noShort then 0 else r.short, isAlias := false, pinned := s.pinned h, guard := true }
  obtain ⟨a, hins, hplaced, hover⟩ := State.insertEntry_room (s := s) (e := e) (who := none) (cause := chLearn) hlocks (by omega)
  let b : State := a.setNat Attr.EndpointLocator.eui h key
  have hb : b.elt = a.elt := State.setNat_elt
  obtain ⟨hprimary, hguard, hq, hl, hsame, hsteady, hgrow, hclasses⟩ := State.startPrimary_effect (s := b) (h := h) (key := key) (r := r) (m := m)
  have hblocks : b.elt.locks = [] := (congrArg Locator.locks hb).trans (hplaced.locks.trans hlocks)
  have hlen : (b.startPrimary h key r m).elt.overflow.length < 16384 := by
    rcases hover with hkept | ⟨g, hput⟩
    · have hbl : b.elt.overflow = s.elt.overflow := (congrArg Locator.overflow hb).trans hkept
      rw [hbl] at hgrow
      omega
    · have hbl : b.elt.overflow = Assoc.put g e s.elt.overflow := (congrArg Locator.overflow hb).trans hput
      rw [hsteady s e g hfind hbl, hbl]
      have hle : (Assoc.put g e s.elt.overflow).length ≤ s.elt.overflow.length + 1 := Assoc.length_put_le _
      omega
  obtain ⟨t, halias, ht⟩ := State.enterAlias_room (s := b.startPrimary h key r m) (h := h) (r := r) (hl.trans hblocks) hlen
  have hcommit : s.commitPath h key r m = (.done, t) := by
    unfold State.commitPath
    dsimp only
    rw [if_neg (by simp [State.lockedBy_of_empty (s := s) hlocks]), hfind]
    dsimp only
    rw [hins]
    exact (if_neg (by simp)).trans halias
  refine ⟨t, hcommit, ?_, ?_, ?_, ?_, fun hh => ?_⟩
  · exact (AttrsBut.primary ht.attrs).trans hprimary
  · have htim : b.tim = s.tim := State.setNat_tim.trans (hplaced.same.area .tim)
    rw [ht.guardAt, hguard, htim]
  · exact ht.queue.trans (hq.trans ((congrArg Locator.queue hb).trans hplaced.queue))
  · exact (((hplaced.same.mono (by decide)).step sameBut_setNat).trans hsame).step ht.same
  · have hfirst : ClassesBut [0x0401, 0x0402] s b := (hplaced.classes.mono (by decide)).trans (classesBut_setAttr (by decide) hh)
    exact (hfirst.trans (hclasses hh)).trans (ht.classes.mono (by decide))

/-! ### Entries that go -/

theorem sameBut_releaseAddr {c a : Nat} : SameBut [.lin, .obj, .mbx, .recd] s (s.releaseAddr c a cause) := by
  unfold State.releaseAddr
  split
  · exact .refl
  · dsimp only
    split
    · exact ((((SameBut.refl.set_lin).step sameBut_setNat).step sameBut_raise).step sameBut_sendMgmt)
    · exact (((SameBut.refl.set_lin).step sameBut_setNat).step sameBut_raise)

/-- A removal of a place leaves an index of the store empty that was empty. -/
theorem State.place_none_gone (h : Assoc.find k s.elt.overflow = none) : Assoc.find k (s.place pl none cause).elt.overflow = none := by
  rw [State.place_effect.2.1]
  cases pl with
  | slot b i => exact h
  | ovf i =>
    by_cases hk : k = i
    · subst hk
      exact Assoc.find_del_same
    · exact (Assoc.find_del_ne hk).trans h

theorem State.dropAddr_effect {c a : Nat} : SameBut [.elt, .obj, .mbx, .recd, .que, .lin] s (s.dropAddr c a cause) ∧
    (Assoc.find k s.elt.overflow = none → Assoc.find k (s.dropAddr c a cause).elt.overflow = none) := by
  have hsame : SameBut [.lin, .obj, .mbx, .recd] s (s.releaseAddr c a cause) := sameBut_releaseAddr
  have helt : (s.releaseAddr c a cause).elt = s.elt := hsame.area .elt
  unfold State.dropAddr
  dsimp only
  split
  · exact ⟨hsame.mono (by decide), fun h => by rw [helt]; exact h⟩
  · exact ⟨(hsame.mono (by decide)).step placed_place.same, fun h => State.place_none_gone (by rw [helt]; exact h)⟩

theorem State.dropAll_effect {xs : List (Nat × Nat)} (h : Assoc.find k s.elt.overflow = none) :
    Assoc.find k (xs.foldl (fun s x => s.dropAddr (x.1 / 65536) (x.1 % 65536) cause) s).elt.overflow = none ∧
      SameBut [.elt, .obj, .mbx, .recd, .que, .lin] s (xs.foldl (fun s x => s.dropAddr (x.1 / 65536) (x.1 % 65536) cause) s) := by
  induction xs generalizing s with
  | nil => exact ⟨h, .refl⟩
  | cons x xs ih =>
    obtain ⟨hsame, hgone⟩ := State.dropAddr_effect (s := s) (k := k) (c := x.1 / 65536) (a := x.1 % 65536) (cause := cause)
    obtain ⟨h', hsame'⟩ := ih (hgone h)
    exact ⟨h', hsame.trans hsame'⟩

/-- A deleted endpoint is in no place of the store that it held, and has no path (R283). -/
theorem State.deleteEui_effect {change : Nat} : (s.deleteEui (.ovf k) e cause change).primary e.handle = none ∧
    Assoc.find k (s.deleteEui (.ovf k) e cause change).elt.overflow = none ∧
    SameBut [.elt, .obj, .mbx, .recd, .que, .lin, .sto, .twn] s (s.deleteEui (.ovf k) e cause change) := by
  have ha : Assoc.find k (s.place (.ovf k) none change).elt.overflow = none := by
    rw [State.place_effect.2.1]
    exact Assoc.find_del_same
  have hplaced : SameBut [.elt, .obj, .mbx, .recd, .que, .lin, .sto, .twn] s (s.place (.ovf k) none change) := placed_place.same.mono (by decide)
  unfold State.deleteEui
  dsimp only
  generalize s.place (.ovf k) none change = a at ha hplaced
  obtain ⟨hgone, hmine⟩ := State.dropAll_effect (xs := a.lin.addrs.filter (fun x => x.2 == e.handle)) (cause := cause) ha
  generalize List.foldl _ a _ = b at hgone hmine
  have hprim : ((b.setPrimary e.handle ⟨noPort, 0, noShort⟩).setSecondaryRaw e.handle ⟨noPort, 0, noShort⟩).primary e.handle = none :=
    (AttrsBut.primary attrsBut_setSecondaryRaw).trans State.primary_setPrimary
  have hpaths : SameBut [.obj, .mbx, .sto, .twn] b ((b.setPrimary e.handle ⟨noPort, 0, noShort⟩).setSecondaryRaw e.handle ⟨noPort, 0, noShort⟩) :=
    sameBut_setPrimary.trans sameBut_setSecondaryRaw
  generalize (b.setPrimary e.handle ⟨noPort, 0, noShort⟩).setSecondaryRaw e.handle ⟨noPort, 0, noShort⟩ = f at hprim hpaths
  have hkept : f.elt = b.elt := hpaths.area .elt
  refine ⟨hprim, ?_, ((hplaced.step hmine).step hpaths).set_elt⟩
  rw [hkept]
  exact hgone

/-- Aging below its limit counts an entry up (R281, R282). -/
theorem State.ageEntry_counts (hat : s.atPlace pl = some e) (heui : e.isAlias = false) (hlim : s.nat Attr.LocatorTable.agingLimit 0 = 0) :
    s.ageEntry pl = (s.putRaw pl (some { e with age := min (e.age + 1) 255 })).setNat Attr.EndpointLocator.age e.handle (min (e.age + 1) 255) := by
  simp [State.ageEntry, hat, heui, hlim]

/-- Aging at its limit deletes an entry that is not pinned (R283). -/
theorem State.ageEntry_limit (hat : s.atPlace pl = some e) (heui : e.isAlias = false) (hpin : s.pinned e.handle = false)
    (hlim : s.nat Attr.LocatorTable.agingLimit 0 ≠ 0) (hage : s.nat Attr.LocatorTable.agingLimit 0 ≤ min (e.age + 1) 255) :
    s.ageEntry pl = (s.deleteEui pl { e with age := min (e.age + 1) 255 } causeAged chAge).raise 0x0803 (objPath 0x0401 e.handle)
      [(e.handle : Int), ((min (e.age + 1) 255 : Nat) : Int)] := by
  unfold State.ageEntry
  rw [hat]
  simp only [heui, Bool.false_eq_true, ↓reduceIte, hpin, Bool.not_false, and_true]
  rw [if_pos ⟨hlim, hage⟩]

theorem State.ageEntry_empty (hat : s.atPlace pl = none) : s.ageEntry pl = s := by
  unfold State.ageEntry
  rw [hat]

/-- Settles O18: each sighting and each visit writes places and paths alone. -/
theorem locatorEntries : Obligations.LocatorEntries := by
  refine ⟨?unknown, ?first, ?second, ?guardEnd, ?ovfAges, ?ovfGoes, ?bucketAges, ?locked⟩
  case unknown =>
    intro s x rest hqueue hframe hopen hnone
    have hrun : exec .learningCommit s = .next { s with elt := { s.elt with queue := rest } } := by
      show execLearningCommit s = _
      unfold execLearningCommit
      rw [hqueue]
      dsimp only
      rw [hframe, hnone]
      exact if_neg (by simp [hopen])
    exact ⟨_, hrun, rfl, SameBut.refl.set_elt⟩
  case first =>
    intro s x rest h hqueue hframe hopen hhandle hprim hfind hport hlt hlocks hroom
    let v : State := { s with elt := { s.elt with queue := rest } }
    obtain ⟨t, hcommit, hprimary, hguard, hq, hsame, -⟩ :=
      State.commitPath_first (s := v) (h := h) (key := x.key) (r := ⟨x.port, x.cell, x.short⟩) (m := x.metric) hlocks hfind hroom
    have hrun : exec .learningCommit s = .next t := by
      show execLearningCommit s = _
      unfold execLearningCommit
      rw [hqueue]
      dsimp only
      rw [hframe, hhandle]
      refine (if_neg (by simp [hopen])).trans ?_
      dsimp only [Option.map_none, Option.getD_none]
      rw [hcommit]
      rfl
    have hwhole : SameBut [.elt, .obj, .mbx, .recd, .que, .sto, .twn] s t := (SameBut.refl.set_elt).trans hsame
    exact ⟨t, hrun, hq, hprimary.trans (if_neg hport), hguard, hwhole.area .lin, hwhole⟩
  case second =>
    intro s x rest h pl e old hqueue hframe hopen hhandle hlocks hfind hgd hprim hother hsec hport
    let v : State := { s with elt := { s.elt with queue := rest } }
    let r : Route := ⟨x.port, x.cell, noShort⟩
    let w : State := { v with elt := { v.elt with metrics := Assoc.modify ([], []) h (fun y => (y.1, [])) v.elt.metrics } }
    let b : State := w.setSecondaryRaw h r
    obtain ⟨helt, hsame, hattrs, -⟩ := State.metric_effect (s := b) (h := h) (m := x.metric) (p := false)
    have hset : v.setSecondary h r = b := by
      have hsec' : v.secondary h = none := hsec
      unfold State.setSecondary
      dsimp only
      rw [hsec']
    have hcommit : v.commitPath h x.key ⟨x.port, x.cell, x.short⟩ x.metric = (.done, b.metric h false x.metric) := by
      have hfind' : v.findEntry false x.key = some (pl, e) := hfind
      have hprim' : v.primary h = some old := hprim
      unfold State.commitPath
      dsimp only
      rw [if_neg (by simp [State.lockedBy_of_empty (s := v) hlocks]), hfind', hprim']
      exact (if_neg hother).trans ((if_pos hgd).trans (by rw [← hset]))
    have hrun : exec .learningCommit s = .next (b.metric h false x.metric) := by
      show execLearningCommit s = _
      unfold execLearningCommit
      rw [hqueue]
      dsimp only
      rw [hframe, hhandle]
      refine (if_neg (by simp [hopen])).trans ?_
      dsimp only [Option.map_none, Option.getD_none]
      rw [hcommit]
      rfl
    have hb : SameBut [.obj, .mbx, .sto, .twn] w b := sameBut_setSecondaryRaw
    have hbelt : b.elt = w.elt := hb.area .elt
    have hfirst : SameBut [.elt, .obj, .mbx, .sto, .twn] s w := SameBut.refl.set_elt
    refine ⟨_, hrun, ?_, ?_, ?_, ?_, (hfirst.step hb).step hsame⟩
    · rw [helt]
      exact (congrArg Locator.queue hbelt :)
    · exact (AttrsBut.primary hattrs).trans ((AttrsBut.primary attrsBut_setSecondaryRaw).trans hprim)
    · exact (AttrsBut.secondary hattrs).trans (State.secondary_setSecondaryRaw.trans (if_neg hport))
    · rw [helt]
      exact (congrArg Locator.buckets hbelt :)
  case guardEnd =>
    intro s h pl e hhas hfind
    let v : State := { s with elt := { s.elt with guardAt := Assoc.del h s.elt.guardAt } }
    have hfind' : v.findEntry false (v.nat Attr.EndpointLocator.eui h) = some (pl, e) := hfind
    have hrun : exec (.learnGuardEnd h) s = .next (v.place pl (some { e with guard := false }) chLearn) := by
      refine (if_pos hhas).trans (congrArg Host.Outcome.next ?_)
      show v.editEui _ _ _ = _
      unfold State.editEui
      rw [hfind']
    have hplaced : Placed v (v.place pl (some { e with guard := false }) chLearn) := placed_place
    have hguard : (v.place pl (some { e with guard := false }) chLearn).elt.guardAt = v.elt.guardAt := hplaced.guardAt
    refine ⟨_, hrun, ?_, State.atPlace_place (State.findEntry_atPlace hfind'), (SameBut.refl.set_elt).step hplaced.same⟩
    rw [hguard]
    exact Assoc.find_del_same
  case ovfAges =>
    intro s k e hopen hfind heui hlim
    have hage := State.ageEntry_counts (pl := .ovf k) hfind heui hlim
    have hrun : exec (.agingVisit true k) s = .next (s.ageEntry (.ovf k)) := (if_neg (by simp [hopen])).trans (if_pos rfl)
    rw [hage] at hrun
    refine ⟨_, hrun, ?_, State.nat_setNat, (congrArg Locator.buckets State.setNat_elt :), (SameBut.refl.set_elt).step sameBut_setNat⟩
    rw [State.setNat_elt]
    exact Assoc.find_put_same
  case ovfGoes =>
    intro s k e hopen hfind heui hpin hlim hage
    obtain ⟨hprim, hgone, hsame⟩ := State.deleteEui_effect (s := s) (k := k) (e := { e with age := min (e.age + 1) 255 }) (cause := causeAged) (change := chAge)
    have hrun : exec (.agingVisit true k) s = .next (s.ageEntry (.ovf k)) := (if_neg (by simp [hopen])).trans (if_pos rfl)
    rw [State.ageEntry_limit (pl := .ovf k) hfind heui hpin hlim hage] at hrun
    exact ⟨_, hrun, hgone, (AttrsBut.primary (nums := []) (.of_obj State.raise_obj)).trans hprim, hsame.step sameBut_raise⟩
  case bucketAges =>
    intro s k e hopen hlocked hbucket hovf heui hlim
    have hat : ∀ i, s.atPlace (.slot k i) = [some e, none, none, none].getD i none := fun i => by simp [State.atPlace, hbucket]
    let e' : LEntry := { e with age := min (e.age + 1) 255 }
    let v : State := (s.putRaw (.slot k 0) (some e')).setNat Attr.EndpointLocator.age e.handle (min (e.age + 1) 255)
    have hvelt : v.elt = (s.putRaw (.slot k 0) (some e')).elt := State.setNat_elt
    have hvbucket : v.bucket k = [some e', none, none, none] := by
      refine (congrArg (fun y : Locator => (Assoc.find k y.buckets).getD emptyBucket) hvelt).trans (Assoc.getD_set_same.trans ?_)
      rw [hbucket]
      rfl
    have hrest : ∀ i, i ∈ [1, 2, 3] → v.ageEntry (.slot k i) = v := by
      intro i hi
      refine State.ageEntry_empty ?_
      simp only [State.atPlace, hvbucket]
      revert hi
      revert i
      simp
    have hfold : [0, 1, 2, 3].foldl (fun s i => s.ageEntry (.slot k i)) s = v := by
      have hzero : s.ageEntry (.slot k 0) = v := State.ageEntry_counts (pl := .slot k 0) (hat 0) heui hlim
      simp only [List.foldl_cons, List.foldl_nil, hzero, hrest 1 (by decide), hrest 2 (by decide), hrest 3 (by decide)]
    have hback : v.moveBack k = v := by
      have hempty : v.elt.overflow = [] := (congrArg Locator.overflow hvelt).trans hovf
      simp only [State.moveBack, hempty, List.foldl_nil]
    have hrun : exec (.agingVisit false k) s = .next v := by
      refine (if_neg (by simp [hopen])).trans ((if_neg Bool.false_ne_true).trans ((if_neg (by simp [hlocked])).trans (congrArg Host.Outcome.next ?_)))
      rw [hfold, hback]
    refine ⟨v, hrun, hvbucket, fun j hj => ?_, (SameBut.refl.set_elt).step sameBut_setNat⟩
    exact (congrArg (fun y : Locator => (Assoc.find j y.buckets).getD emptyBucket) hvelt).trans (Assoc.getD_set_ne hj)
  case locked =>
    intro s k hlocked
    by_cases hcut : s.cutOff 8 0 = true
    · exact ⟨s, if_pos hcut, rfl⟩
    · exact ⟨s, (if_neg hcut).trans ((if_neg Bool.false_ne_true).trans (if_pos hlocked)), rfl⟩

end Sys2Proof.Machine
end

section
/-! The medium of a line port: contention, frames and retries (R181–R185, R190, R191, R194, R196). -/

namespace Sys2Proof.Machine

variable {s t : State} {p q n : Nat} {x y : Port} {f : OnAir} {u : TxUnit} {rest : List TxUnit}

/-! ### A port written twice -/

theorem State.setPort_setPort_port : ((s.setPort p x).setPort p y).port p = y := State.port_setPort

theorem sameBut_setPort_twice : SameBut [.lin] s ((s.setPort p x).setPort p y) := sameBut_setPort.trans sameBut_setPort

theorem State.endUnacked_silent (h : (s.port p).onAir = none) : s.endUnacked p = s := by
  unfold State.endUnacked
  dsimp only
  rw [h]

/-- What the frame of a segment depends on. -/
theorem State.buildFrame_congr {receiving : Bool} (hobj : t.obj = s.obj) (htim : t.tim = s.tim) (hlinks : t.lin.links = s.lin.links)
    (hedges : (t.port p).edges = (s.port p).edges) : t.buildFrame p q u receiving = s.buildFrame p q u receiving := by
  have hnat : ∀ a i, t.nat a i = s.nat a i := State.nat_congr hobj
  have hflag : ∀ a i, t.flag a i = s.flag a i := State.flag_congr hobj
  have harr : ∀ a i, t.arr a i = s.arr a i := fun a i => by simp only [State.arr, State.attr_congr hobj]
  have helem : ∀ a i k, t.elem a i k = s.elem a i k := fun a i k => by simp only [State.elem, harr]
  have hlink : ∀ k, t.link k = s.link k := fun k => by simp only [State.link, hlinks]
  have htmi : t.tmiOf p u = s.tmiOf p u := by simp only [State.tmiOf, hlink, hnat]
  have hregion : ∀ k, t.regionOf p k = s.regionOf p k := fun k => by simp only [State.regionOf, harr]
  have hnotches : t.userNotches p = s.userNotches p := by simp only [State.userNotches, hnat, harr]
  simp only [State.buildFrame, hnat, hflag, helem, hlink, htmi, hregion, hnotches, hedges, htim]

/-- A threshold that is set, and recorded where it changes (R195). -/
theorem State.setThreshold_effect : (s.setThreshold p n).nat Attr.LinePort.ctThreshold p = n ∧
    (s.setThreshold p n).nat Attr.LinePort.underruns p = s.nat Attr.LinePort.underruns p ∧ SameBut [.obj, .mbx, .recd] s (s.setThreshold p n) := by
  unfold State.setThreshold
  split
  · exact ⟨‹_›, rfl, .refl⟩
  · exact ⟨(State.nat_congr State.raise_obj _ _).trans State.nat_setNat, (State.nat_congr State.raise_obj _ _).trans (State.nat_setNat_ne (mkPath_ne_of_attr (by decide))),
      (sameBut_setNat.mono (by decide)).step sameBut_raise⟩

/-- A failed attempt of the head unit (R191). -/
theorem State.failAttempt_of (hair : (s.port p).onAir = some f) (hqueue : (s.port p).queues.getD f.queue [] = u :: rest) :
    s.failAttempt p = if s.nat Attr.LinePort.retryLimit p ≤ u.attempts + 1 then
        ((s.setPort p { (s.port p).popHead f.queue with onAir := none, backoff := none, attempt := 0 }).bump 32 Attr.LinePort.retriesExhausted p).unitDropped u.producer
      else s.setPort p { (s.port p).setHead f.queue { u with attempts := u.attempts + 1 } with onAir := none, backoff := none, attempt := (s.port p).attempt + 1 } := by
  unfold State.failAttempt
  dsimp only
  rw [hair]
  dsimp only
  rw [hqueue]
  rfl

/-- An acknowledgement of the segment that awaits it (R190). -/
theorem execAckFrameReceived_awaited {result : Nat} (hair : (s.port p).onAir = some f) (hawait : f.awaitAck = true)
    (hqueue : (s.port p).queues.getD f.queue [] = u :: rest) :
    execAckFrameReceived p u.seq f.seg result none s = if result = 0 ∨ result = 3 then
        .next ((s.setPort p { s.port p with onAir := none, attempt := 0, backoff := none }).segmentDone p f.queue f.seg State.unitAcked)
      else .next (s.failAttempt p) := by
  unfold execAckFrameReceived
  dsimp only
  rw [hair]
  dsimp only
  rw [hqueue]
  exact if_neg (by simp [hawait])

/-- The last segment of a unit is acknowledged: the unit leaves its queue (R190). -/
theorem State.segmentDone_last {seg : Nat} {done : State → Producer → State} (hqueue : (s.port p).queues.getD q [] = u :: rest) (hseg : u.acked.contains seg = false)
    (hlast : segments u.body.length (s.nat Attr.LinePort.maxSegment p) = u.acked.length + 1) :
    s.segmentDone p q seg done = done (s.setPort p ((s.port p).popHead q)) u.producer := by
  unfold State.segmentDone
  dsimp only
  rw [hqueue]
  have hnot : seg ∉ u.acked := by simpa using hseg
  exact if_pos (.inl (by simp [hnot, hlast]))

/-- Settles O10: each event of the medium rewrites its port. -/
theorem lineMedium : Obligations.LineMedium := by
  refine ⟨?beaten, ?draws, ?counts, ?starts, ?collides, ?underrun, ?bad, ?acked, ?fails, ?gone, ?discard⟩
  case beaten =>
    intro s p q room hair htop
    have hrun : exec (.mediumIdle p true room) s = .next ((s.setPort p { s.port p with busy := false }).setPort p { s.port p with busy := false, contending := false }) := by
      show execMediumIdle p true room s = _
      unfold execMediumIdle
      have htop' : Port.top { s.port p with busy := false } = some q := htop
      rw [State.endUnacked_silent hair]
      dsimp only
      rw [htop', hair]
      rfl
    exact ⟨_, hrun, State.port_setPort, sameBut_setPort_twice⟩
  case draws =>
    intro s p q hair htop hback
    let n : Nat := s.freeNat % contentionWindow (s.port p).attempt (q / 2)
    have hrun : exec (.mediumIdle p false false) s =
        .next (((s.setPort p { s.port p with busy := false }).drawn).setPort p { s.port p with busy := false, contending := true, backoff := some n }) := by
      show execMediumIdle p false false s = _
      unfold execMediumIdle
      have htop' : Port.top { s.port p with busy := false } = some q := htop
      rw [State.endUnacked_silent hair]
      dsimp only
      rw [htop', hair]
      dsimp only
      rw [hback]
      exact congrArg Host.Outcome.next (if_neg (by simp))
    refine ⟨_, hrun, State.port_setPort, fun r hr => ?_, ?_⟩
    · exact (State.port_setPort_ne hr).trans (State.port_setPort_ne (s := s) hr)
    · have hdraw : ∀ v : State, SameBut [.lin] v v.drawn := fun v => by simp [SameBut, State.drawn]
      exact (sameBut_setPort.trans (hdraw _)).trans sameBut_setPort
  case counts =>
    intro s p n room hair hcont hback
    have hrun : exec (.backoffSlot p false room) s = .next (s.setPort p { s.port p with backoff := some (n + 1) }) := by
      show execBackoffSlot p false room s = _
      unfold execBackoffSlot
      dsimp only
      rw [hair, hback]
      dsimp only
      rw [hcont]
      exact congrArg Host.Outcome.next (if_neg (by omega))
    exact ⟨_, hrun, State.port_setPort, fun r hr => State.port_setPort_ne hr, sameBut_setPort⟩
  case starts =>
    intro s p q u rest hair hcont hback htop hqueue htx havoid
    let v : State := s.setPort p { s.port p with backoff := some 0 }
    have hport : v.port p = { s.port p with backoff := some 0 } := State.port_setPort
    have hframe : v.buildFrame p q u false = s.buildFrame p q u false := State.buildFrame_congr rfl rfl rfl (by rw [hport])
    have hstart : v.startFrame p false =
        v.setPort p { s.port p with onAir := some (s.buildFrame p q u false), busy := true, contending := false, backoff := none } := by
      have htop' : Port.top { s.port p with backoff := some 0 } = some q := htop
      have htx' : v.portTx p = true := htx
      have havoid' : v.avoids p (s.buildFrame p q u false) = false := havoid
      unfold State.startFrame
      dsimp only
      rw [hport, htop']
      dsimp only
      rw [hqueue, htx']
      dsimp only
      rw [hframe, havoid']
      rfl
    have hrun : exec (.backoffSlot p false true) s = .next ((s.setPort p { s.port p with backoff := some 0 }).startFrame p false) := by
      show execBackoffSlot p false true s = _
      unfold execBackoffSlot
      dsimp only
      rw [hair, hback]
      dsimp only
      rw [hcont]
      have hzero : (1 : Nat) ≤ 1 ∧ true = true := ⟨Nat.le_refl 1, rfl⟩
      exact congrArg Host.Outcome.next (if_pos hzero)
    exact ⟨_, hrun.trans (congrArg Host.Outcome.next hstart), State.port_setPort, sameBut_setPort_twice⟩
  case collides =>
    intro s p f hair hfull hduplex hkind
    let x : Port := { s.port p with onAir := none, undo := none, attempt := (s.port p).attempt + 1, backoff := none, contending := false }
    have hrun : exec (.collision p) s = .next ((s.bump 32 Attr.LinePort.collisions p).setPort p x) := by
      show execCollision p s = _
      unfold execCollision
      dsimp only
      rw [hair]
      dsimp only
      rw [if_neg (by simp [hfull, hduplex])]
      exact if_pos hkind
    exact ⟨_, hrun, State.port_setPort, State.nat_bump, (sameBut_bump.mono (by decide)).step sameBut_setPort⟩
  case underrun =>
    intro s p f hair hcut
    let v : State := (s.setPort p { s.port p with onAir := none, ctRun := 0 }).bump 32 Attr.LinePort.underruns p
    have hthreshold : v.nat Attr.LinePort.ctThreshold p = s.nat Attr.LinePort.ctThreshold p := State.nat_setNat_ne (mkPath_ne_of_attr (by decide))
    have hrun : exec (.underrun p false) s = .next (v.setThreshold p (min 8192 (s.nat Attr.LinePort.ctThreshold p + 512))) := by
      show execUnderrun p false s = _
      unfold execUnderrun
      dsimp only
      rw [hair]
      dsimp only
      rw [if_neg (by simp [hcut])]
      refine (if_neg Bool.false_ne_true).trans ?_
      rw [← hthreshold]
    obtain ⟨hset, hnat, hsame⟩ := State.setThreshold_effect (s := v) (p := p) (n := min 8192 (s.nat Attr.LinePort.ctThreshold p + 512))
    refine ⟨_, hrun, ?_, ?_, hset, ?_⟩
    · refine (State.port_congr (hsame.area .lin)).trans ((State.port_congr State.bump_lin).trans State.port_setPort)
    · exact hnat.trans State.nat_bump
    · exact ((sameBut_setPort.mono (by decide)).step sameBut_bump).step hsame
  case bad =>
    intro s p f hair hcut
    have hrun : exec (.underrun p true) s = .next (s.setPort p { (s.port p).popHead f.queue with onAir := none }) := by
      show execUnderrun p true s = _
      unfold execUnderrun
      dsimp only
      rw [hair]
      dsimp only
      rw [if_neg (by simp [hcut])]
      exact if_pos rfl
    exact ⟨_, hrun, State.port_setPort, sameBut_setPort⟩
  case acked =>
    intro s p result f u rest hair hawait hqueue hresult hprod hseg hlast
    let v : State := s.setPort p { s.port p with onAir := none, attempt := 0, backoff := none }
    have hport : v.port p = { s.port p with onAir := none, attempt := 0, backoff := none } := State.port_setPort
    have hdone : v.segmentDone p f.queue f.seg State.unitAcked = v.setPort p { (s.port p).popHead f.queue with onAir := none, attempt := 0, backoff := none } := by
      have hqueue' : (v.port p).queues.getD f.queue [] = u :: rest := by
        rw [hport]
        exact hqueue
      rw [State.segmentDone_last (s := v) hqueue' hseg hlast, hprod, hport]
      rfl
    have hrun : exec (.ackFrameReceived p u.seq f.seg result none) s = .next (v.segmentDone p f.queue f.seg State.unitAcked) :=
      (execAckFrameReceived_awaited hair hawait hqueue).trans (if_pos hresult)
    rw [hdone] at hrun
    exact ⟨_, hrun, State.port_setPort, sameBut_setPort_twice⟩
  case fails =>
    intro s p result f u rest hair hawait hqueue hresult hretry
    have hrun : exec (.ackFrameReceived p u.seq f.seg result none) s = .next (s.failAttempt p) := 
      (execAckFrameReceived_awaited hair hawait hqueue).trans (if_neg (by omega))
    rw [State.failAttempt_of hair hqueue, if_neg (Nat.not_le.2 hretry)] at hrun
    exact ⟨_, hrun, State.port_setPort, sameBut_setPort⟩
  case gone =>
    intro s p f u rest hair hawait hqueue hretry hprod
    let v : State := s.setPort p { (s.port p).popHead f.queue with onAir := none, backoff := none, attempt := 0 }
    have hfail : s.failAttempt p = v.bump 32 Attr.LinePort.retriesExhausted p := by
      rw [State.failAttempt_of hair hqueue, if_pos hretry, hprod]
      rfl
    have hrun : exec (.segmentAckTimeout p) s = .next (s.failAttempt p) := congrArg Host.Outcome.next (if_pos (by rw [hair, Option.any_some, hawait]))
    rw [hfail] at hrun
    exact ⟨_, hrun, (State.port_congr State.bump_lin).trans State.port_setPort, State.nat_bump, (sameBut_setPort.mono (by decide)).step sameBut_bump⟩
  case discard =>
    intro s p c src seq
    exact ⟨_, rfl, State.port_setPort, fun r hr => State.port_setPort_ne hr, sameBut_setPort⟩

end Sys2Proof.Machine
end

section
/-! Frames received on a line port, and the tone maps of its links (R131, R132, R139, R190, R192). -/

namespace Sys2Proof.Machine

variable {s t : State} {p k : Nat} {x : LineRx} {h : LineHeader} {b : SubHeader}

/-! ### What a header's measurements leave (Table 04-10) -/

/-- From `s` to `t` attributes of links, of class 0x0220, and tone map sets have changed. -/
structure Measured (s t : State) : Prop where
  same : SameBut [.lin, .obj, .mbx] s t
  attrs : ∀ (y : Nat × Nat) (i : Nat), y.1 ≠ 0x0220 ∧ y.2 < 256 → i < 2 ^ 40 → t.attr y i = s.attr y i
  live : t.obj.live = s.obj.live
  ports : t.lin.ports = s.lin.ports

theorem Measured.refl : Measured s s := ⟨.refl, fun _ _ _ _ => rfl, rfl, rfl⟩

theorem Measured.trans {u : State} (h : Measured s t) (h' : Measured t u) : Measured s u :=
  ⟨h.same.trans h'.same, fun y i hy hi => (h'.attrs y i hy hi).trans (h.attrs y i hy hi), h'.live.trans h.live, h'.ports.trans h.ports⟩

theorem Measured.ite {c : Prop} [Decidable c] {u : State} (ht : Measured s t) (hu : Measured s u) : Measured s (if c then t else u) := by
  split <;> assumption

theorem State.setAttr_live {a : Nat × Nat} {i : Nat} {v : Val} : (s.setAttr a i v).obj.live = s.obj.live := by
  unfold State.setAttr
  split <;> rfl

theorem measured_setAttr {a : Nat} {v : Val} (hk : k < 2 ^ 26) (ha : a < 256) : Measured s (s.setAttr (0x0220, a) k v) := by
  refine ⟨sameBut_setAttr.mono (by decide), fun y i hy hi => State.attr_setAttr_ne ?_, State.setAttr_live, congrArg Line.ports State.setAttr_lin⟩
  obtain ⟨hcls, hnum⟩ := hy
  unfold mkPath
  dsimp only
  omega

theorem measured_setLink {l : Link} : Measured s (s.setLink k l) := ⟨sameBut_setLink.mono (by decide), fun _ _ _ _ => rfl, rfl, rfl⟩

theorem Measured.write {a : Nat} {v : Val} (h : Measured s t) (hk : k < 2 ^ 26) (ha : autoParam (a < 256) Nat.toPNat._auto_1) : Measured s (t.setAttr (0x0220, a) k v) :=
  h.trans (measured_setAttr hk ha)

theorem Measured.writeIf {c : Prop} [Decidable c] {a : Nat} {v : Val} (h : Measured s t) (hk : k < 2 ^ 26) (ha : autoParam (a < 256) Nat.toPNat._auto_1) :
    Measured s (if c then t.setAttr (0x0220, a) k v else t) := .ite (h.write hk ha) h

theorem measured_linkStats (hk : k < 2 ^ 26) : Measured s (s.linkStats k x h) := by
  unfold State.linkStats
  refine .ite .refl ?_
  exact ((((((((((Measured.refl.write hk).write hk).write hk).write hk).writeIf hk).write hk).writeIf hk).writeIf hk).writeIf hk)).trans measured_setLink

theorem Measured.nat (h : Measured s t) (y : Nat × Nat) (i : Nat) (hy : autoParam (y.1 ≠ 0x0220 ∧ y.2 < 256) Nat.toPNat._auto_1) (hi : autoParam (i < 2 ^ 40) Nat.dfold._auto_1) : t.nat y i = s.nat y i := by
  simp only [State.nat, State.int, h.attrs y i hy hi]

theorem Measured.flag (h : Measured s t) (y : Nat × Nat) (i : Nat) (hy : autoParam (y.1 ≠ 0x0220 ∧ y.2 < 256) Nat.toPNat._auto_1) (hi : autoParam (i < 2 ^ 40) Nat.dfold._auto_1) : t.flag y i = s.flag y i := by
  simp only [State.flag, State.int, h.attrs y i hy hi]

theorem Measured.port (h : Measured s t) : t.port p = s.port p := by simp only [State.port, h.ports]

theorem Measured.cutOff (h : Measured s t) {d u : Nat} (hd : d < 256) (hu : u < 256) : t.cutOff d u = s.cutOff d u := by
  have hsys : t.sys = s.sys := h.same.area .sys
  have hfenced : t.fencedUnit d u = s.fencedUnit d u := h.flag Attr.FenceUnit.fenced (d * 256 + u)
  simp only [State.cutOff, State.fusedOff, hsys, hfenced]

theorem State.portLanes_lt {l : Nat} (hp : p < 16) (hl : l ∈ s.portLanes p) : l < 256 := by
  unfold State.portLanes at hl
  split at hl <;> simp only [List.mem_cons, List.not_mem_nil, or_false] at hl <;> omega

theorem Measured.portTx (h : Measured s t) (hp : p < 16) : t.portTx p = s.portTx p := by
  have hsys : t.sys = s.sys := h.same.area .sys
  have htwn : t.twn = s.twn := h.same.area .twn
  have hwiring : t.nat Attr.LinePort.wiring p = s.nat Attr.LinePort.wiring p := h.nat _ _
  have hlanes : t.portLanes p = s.portLanes p := by simp only [State.portLanes, hwiring]
  have hany : (s.portLanes p).any (t.cutOff 4) = (s.portLanes p).any (s.cutOff 4) := by
    rw [Bool.eq_iff_iff, List.any_eq_true, List.any_eq_true]
    exact exists_congr fun l => and_congr_right fun hl => by rw [h.cutOff (by decide) (State.portLanes_lt hp hl)]
  simp only [State.portTx, State.fieldTx, hsys, htwn, hwiring, hlanes, h.cutOff (d := 5) (u := p) (by decide) (by omega), hany]

/-! ### Headers and segments -/

theorem decodeHeader_cell_lt {w : BitVec 128} : (decodeHeader w).cell < 2 ^ 40 := by
  have hlt : (decodeHeader w).cell < 2 ^ 9 := Nat.mod_lt _ (by decide)
  exact hlt.trans (by decide)

theorem LineRx.heard (hlane : (s.portLanes x.port).contains x.lane = true) (hcut5 : s.cutOff 5 x.port = false) (hcut4 : s.cutOff 4 x.lane = false) :
    ¬ ((!(s.portLanes x.port).contains x.lane) = true ∨ s.cutOff 5 x.port = true ∨ s.cutOff 4 x.lane = true) := by
  rw [hlane, hcut5, hcut4]
  decide

/-- A segment of a cell of the port reaches reassembly with its link's measurements taken (R139, R190). -/
theorem execLineFrameReceived_segment (hp : x.port < 16) (hlane : (s.portLanes x.port).contains x.lane = true) (hcut : s.cutOff 4 x.lane = false)
    (hgood : headerGood x.header = true) (htx : s.portTx x.port = true)
    (hkind : (decodeHeader x.header).kind = 1 ∨ (decodeHeader x.header).kind = 3 ∨ (decodeHeader x.header).kind = 5) (htmi : (decodeHeader x.header).tmi = 0)
    (hline : s.isLine (decodeHeader x.header).cell = true) (hcell : s.nat Attr.LineCell.port (decodeHeader x.header).cell = x.port)
    (hlinks : ∀ k, s.linkOf x.port (decodeHeader x.header).cell (decodeHeader x.header).src = some k → k < 2 ^ 26) :
    ∃ v, exec (.lineFrameReceived x) s = .next (v.segmentReceived x (decodeHeader x.header)) ∧ v.port x.port = { s.port x.port with busy := true } ∧
      v.portTx x.port = true ∧ v.flag Attr.LinePort.deliverBad x.port = s.flag Attr.LinePort.deliverBad x.port ∧ SameBut [.lin, .obj, .mbx] s v := by
  let w : State := s.setPort x.port { s.port x.port with busy := true }
  let v : State := match s.linkOf x.port (decodeHeader x.header).cell (decodeHeader x.header).src with
    | some k => w.linkStats k x (decodeHeader x.header)
    | none => w
  have hv : Measured w v := by
    show Measured w (match s.linkOf x.port (decodeHeader x.header).cell (decodeHeader x.header).src with
      | some k => w.linkStats k x (decodeHeader x.header)
      | none => w)
    split
    · exact measured_linkStats (hlinks _ ‹_›)
    · exact .refl
  have htx' : v.portTx x.port = true := (hv.portTx hp).trans htx
  have hfield : v.fieldTx = true := by
    unfold State.portTx at htx'
    simp only [Bool.and_eq_true] at htx'
    exact htx'.1.1.1
  have hcut5 : s.cutOff 5 x.port = false := by
    unfold State.portTx at htx
    simp only [Bool.and_eq_true, Bool.not_eq_true'] at htx
    exact htx.1.2
  have hlive : v.isLine (decodeHeader x.header).cell = true := by
    unfold State.isLine State.alive
    rw [hv.live]
    exact hline
  have hport : v.nat Attr.LineCell.port (decodeHeader x.header).cell = x.port :=
    (hv.nat _ _ (by decide) decodeHeader_cell_lt).trans hcell
  refine ⟨v, ?_, hv.port.trans State.port_setPort, htx', hv.flag _ _, (sameBut_setPort.mono (by decide)).step hv.same⟩
  show execLineFrameReceived x s = _
  unfold execLineFrameReceived
  dsimp only
  rw [if_neg (LineRx.heard hlane hcut5 hcut), if_neg (by simp [hgood])]
  refine (if_neg (by omega)).trans ((if_neg (by simp [htmi])).trans ((if_neg (by simp [htmi])).trans ((if_neg (by omega)).trans (if_neg ?_))))
  rintro (hno | hno | hno)
  · exact Bool.false_ne_true ((Eq.mp (Bool.not_eq_true' _) hno).symm.trans hlive)
  · exact hno hport
  · exact Bool.false_ne_true ((Eq.mp (Bool.not_eq_true' _) hno).symm.trans hfield)

/-- An accepted segment is kept against its repeats, and its unit is assembled (R190, R192). -/
theorem Port.assemble_repeats {y : Port} {now c : Nat} {body : Bytes} : (y.assemble now c b body).2.repeats = y.repeats := by
  unfold Port.assemble
  dsimp only
  split
  · split <;> rfl
  · rfl

theorem Port.keep_mem {y : Port} {now c : Nat} : (c, b.src16, b.seq, b.seg, now) ∈ (y.keep now c b).repeats := by
  unfold Port.keep
  dsimp only
  refine List.mem_append_right _ ?_
  rw [List.drop_append_of_le_length (by omega)]
  exact List.mem_append_right _ (List.mem_singleton.2 rfl)

theorem State.sendLineAck_port {r : Nat} (htx : s.portTx p = true) : s.sendLineAck p b r = s.setPort p { s.port p with ackOut := some (b.seq, b.seg, r, none) } := if_pos htx

theorem State.deliverBad_off (h : s.flag Attr.LinePort.deliverBad x.port = false) : s.deliverBad x = s := if_pos (by simp [h])

/-! ### Tone maps -/

theorem State.link_setLink {l : Link} : (s.setLink k l).link k = l := by simp [State.link, State.setLink]

theorem State.link_congr (h : t.lin.links = s.lin.links) : t.link k = s.link k := by simp only [State.link, h]

theorem State.enqueue_links {q : Nat} {u : TxUnit} : (s.enqueue p q u).2.lin.links = s.lin.links := by
  unfold State.enqueue
  split <;> rfl

/-- Maps measured anew go into the set that the peer was not last sent a frame with (R131). -/
theorem State.refreshMaps_link {snr : List (Nat × Bytes)} : ((s.refreshMaps p k snr).link k).mapsValid = (s.link k).mapsValid ∧
    ((s.refreshMaps p k snr).link k).rxSet = 1 - (s.link k).txSet := by
  let ms : List ToneMap := snr.map (fun x => mapFor x.1 (s.nat Attr.LinePort.toneMargin p) (defaultNotches ++ s.userNotches p) x.2)
  have hlink : (s.refreshMaps p k snr).link k = { s.link k with rxMaps := putMaps (s.link k).rxMaps ms, rxSet := 1 - (s.link k).txSet, rxAcked := false } :=
    (State.link_congr State.enqueue_links).trans State.link_setLink
  rw [hlink]
  exact ⟨rfl, rfl⟩

/-- Settles O15: a header's fate, then its segment's. -/
theorem lineReception : Obligations.LineReception := by
  refine ⟨?broken, ?counted, ?accepted, ?repeats, ?bad, ?maps, ?young, ?old⟩
  case broken =>
    intro s x hlane hcut5 hcut4 hgood hlink
    refine ⟨s.setPort x.port { s.port x.port with busy := true }, ?_, State.port_setPort, sameBut_setPort⟩
    show execLineFrameReceived x s = _
    unfold execLineFrameReceived
    dsimp only
    rw [if_neg (LineRx.heard hlane hcut5 hcut4), hlink]
    exact if_pos (by simp [hgood])
  case counted =>
    intro s x k hlane hcut5 hcut4 hgood hlink halive
    let v : State := s.setPort x.port { s.port x.port with busy := true }
    refine ⟨v.bumpSat 32 Attr.LineLink.headerErrors k 1, ?_, State.nat_bumpSat, (sameBut_setPort.mono (by decide)).step sameBut_bumpSat⟩
    show execLineFrameReceived x s = _
    unfold execLineFrameReceived
    dsimp only
    rw [if_neg (LineRx.heard hlane hcut5 hcut4), hlink]
    refine (if_pos (by simp [hgood])).trans (congrArg Host.Outcome.next ?_)
    exact if_pos halive
  case accepted =>
    intro s x hp hlane hcut hgood htx hkind htmi hgroup hline hcell hlinks hfailed hfcs hnew
    obtain ⟨v, hrun, hport, htx', -, hsame⟩ := execLineFrameReceived_segment hp hlane hcut hgood htx (.inr (.inl hkind)) htmi hline hcell hlinks
    let h : LineHeader := decodeHeader x.header
    let b : SubHeader := decodeSub x.body
    have htim : v.tim = s.tim := hsame.area .tim
    have hnew' : (v.port x.port).repeated v.tim.d3 h.cell b = false := by
      rw [hport, htim]
      exact hnew
    let r : Option Bytes × Port := ((v.port x.port).keep v.tim.d3 h.cell b).assemble v.tim.d3 h.cell b (slice x.body 12 b.segLen)
    let w : State := (v.setPort x.port r.2).setPort x.port { r.2 with ackOut := some (b.seq, b.seg, 0, none) }
    have hack : (v.setPort x.port r.2).sendLineAck x.port b 0 = w := by
      have htx'' : (v.setPort x.port r.2).portTx x.port = true := htx'
      rw [State.sendLineAck_port htx'', State.port_setPort]
    obtain ⟨u, hseg, hlin, hheard⟩ : ∃ u, v.segmentReceived x h = u ∧ u.lin = w.lin ∧ SameBut [.col] w u := by
      refine ⟨_, rfl, ?_⟩
      unfold State.segmentReceived
      dsimp only
      rw [if_neg (by simp [hfailed, hfcs]), if_neg (Bool.eq_false_iff.1 hnew'), if_neg (Bool.eq_false_iff.1 hgroup), hack]
      have hunit : ∀ (z : State) (body : Bytes), z.unitReceived x h (decodeSub x.body) body = z := fun z body => if_pos hkind
      simp only [hunit]
      split <;> split <;> simp [SameBut, State.setEp]
    rw [hseg] at hrun
    have hw : u.port x.port = { r.2 with ackOut := some (b.seq, b.seg, 0, none) } := (State.port_congr hlin).trans State.port_setPort
    refine ⟨u, hrun, ?_, ?_, ?_⟩
    · rw [hw]
    · rw [hw, ← htim]
      show _ ∈ r.2.repeats
      rw [Port.assemble_repeats]
      exact Port.keep_mem
    · exact ((hsame.mono (by decide)).step sameBut_setPort_twice).step hheard
  case repeats =>
    intro s x hp hlane hcut hgood htx hkind htmi hgroup hline hcell hlinks hfailed hfcs hrep
    obtain ⟨v, hrun, hport, htx', -, hsame⟩ := execLineFrameReceived_segment hp hlane hcut hgood htx hkind htmi hline hcell hlinks
    have hrep' : (v.port x.port).repeated v.tim.d3 (decodeHeader x.header).cell (decodeSub x.body) = true := by
      rw [hport, show v.tim = s.tim from hsame.area .tim]
      exact hrep
    have hseg : v.segmentReceived x (decodeHeader x.header) = v.sendLineAck x.port (decodeSub x.body) 3 := by
      unfold State.segmentReceived
      dsimp only
      rw [if_neg (by simp [hfailed, hfcs]), if_pos hrep', if_neg (by simp [hgroup])]
    rw [hseg, State.sendLineAck_port htx'] at hrun
    refine ⟨_, hrun, ?_, ?_, hsame.step sameBut_setPort⟩
    · rw [State.port_setPort]
    · rw [State.port_setPort, hport]
  case bad =>
    intro s x hp hlane hcut hgood htx hkind htmi hgroup hline hcell hlinks hbad hdeliver
    obtain ⟨v, hrun, hport, htx', hflag, hsame⟩ := execLineFrameReceived_segment hp hlane hcut hgood htx hkind htmi hline hcell hlinks
    let w : State := v.setPort x.port { v.port x.port with ackOut := some ((decodeSub x.body).seq, (decodeSub x.body).seg, 1, none) }
    have hoff : w.flag Attr.LinePort.deliverBad x.port = false := hflag.trans hdeliver
    have hseg : v.segmentReceived x (decodeHeader x.header) = w := by
      unfold State.segmentReceived
      dsimp only
      rw [if_pos (by simpa using hbad), if_neg (by simp [hgroup]), State.sendLineAck_port htx']
      exact State.deliverBad_off hoff
    rw [hseg] at hrun
    refine ⟨_, hrun, ?_, ?_, hsame.step sameBut_setPort⟩
    · rw [State.port_setPort]
    · rw [State.port_setPort, hport]
  case maps =>
    intro s k set p ms halive hset hnew hp
    let l : Link := if set = 0 then { s.link k with set0 := putMaps (s.link k).set0 ms } else { s.link k with set1 := putMaps (s.link k).set1 ms }
    let a : State := (s.setLink k l).setNat Attr.LineLink.toneMapAge k 0
    let rates : List Int := ms.foldl (fun a m => if m.stream = 0 then a.set (m.region - 1) (mapRate m (defaultNotches ++ s.userNotches p) : Int) else a) (a.arr Attr.LineLink.rateRegion k)
    let v : State := a.setAttr Attr.LineLink.rateRegion k (.arr rates)
    have hlin : v.lin = (s.setLink k l).lin := State.setAttr_lin.trans State.setNat_lin
    have hport : v.port p = s.port p := State.port_congr (s := s.setLink k l) hlin
    have hrun : exec (.toneMap k set ms) s = .next (v.setPort p { v.port p with ackOut := (v.port p).ackOut.map (fun a => (a.1, a.2.1, a.2.2.1, some set)) }) := by
      show execToneMap k set ms s = _
      unfold execToneMap
      dsimp only
      rw [if_neg (by simp [halive, hnew]; omega), hp]
    refine ⟨_, hrun, ?_, ?_, ?_, ?_⟩
    · exact (State.link_congr (congrArg Line.links hlin)).trans State.link_setLink
    · exact (State.nat_setAttr_ne (mkPath_ne_of_attr (by decide))).trans State.nat_setNat
    · rw [State.port_setPort, hport]
    · exact (((sameBut_setLink.mono (by decide)).step sameBut_setNat).step sameBut_setAttr).step sameBut_setPort
  case young =>
    intro s k age snr halive hage
    refine ⟨s.setNat Attr.LineLink.toneMapAge k age, ?_, State.nat_setNat, sameBut_setNat.mono (by decide)⟩
    show execToneMapAge k age snr s = _
    unfold execToneMapAge
    rw [if_neg (by simp [halive])]
    dsimp only
    rw [if_neg (Nat.not_lt.2 hage), if_neg (by omega)]
  case old =>
    intro s k age snr halive hage
    let a : State := s.setNat Attr.LineLink.toneMapAge k age
    let v : State := a.setLink k { a.link k with mapsValid := false }
    have hlink : a.link k = s.link k := State.link_congr (congrArg Line.links State.setNat_lin)
    have hrun : exec (.toneMapAge k age snr) s = .next (v.refreshMaps (k / 2 ^ 21 % 16) k snr) := by
      show execToneMapAge k age snr s = _
      unfold execToneMapAge
      rw [if_neg (by simp [halive])]
      dsimp only
      rw [if_pos hage, if_pos (by omega)]
    obtain ⟨hvalid, hset⟩ := State.refreshMaps_link (s := v) (p := k / 2 ^ 21 % 16) (k := k) (snr := snr)
    have hv : v.link k = { a.link k with mapsValid := false } := State.link_setLink
    refine ⟨_, hrun, ?_, ?_, ?_, ?_⟩
    · exact (State.nat_congr (sameBut_refreshMaps.area .obj) _ _).trans State.nat_setNat
    · rw [hvalid, hv]
    · rw [hset, hv, hlink]
    · exact (((sameBut_setNat.mono (by decide)).step sameBut_setLink).step sameBut_refreshMaps)

end Sys2Proof.Machine
end

section
/-! Radio ports, their frames, associations and band profiles (R221, R225, R230–R232, R237, R238, R249). -/

namespace Sys2Proof.Machine

variable {s t : State} {n m i us c h a : Nat} {x : RadioRx} {y : RPort}

/-! ### Radio ports of a state -/

@[simp] theorem State.rport_setRport : (s.setRport n y).rport n = y := by simp [State.rport, State.setRport]

theorem State.rport_setRport_ne (hm : m ≠ n) : (s.setRport n y).rport m = s.rport m := by simp [State.rport, State.setRport, Assoc.find_put_ne hm]

theorem State.rport_congr (h : t.rad.ports = s.rad.ports) : t.rport n = s.rport n := by simp only [State.rport, h]

/-! ### Airtime charged (R239) -/

theorem State.arr_setAttr_ne {y z : Nat × Nat} {j : Nat} {v : Val} (h : mkPath y.1 j y.2 ≠ mkPath z.1 i z.2) : (s.setAttr z i v).arr y j = s.arr y j := by
  simp only [State.arr, State.attr_setAttr_ne h]

theorem State.arr_congr (h : t.obj = s.obj) (y : Nat × Nat) (j : Nat) : t.arr y j = s.arr y j := by simp only [State.arr, State.attr_congr h]

theorem State.setBuckets_effect {l : List Int} : (s.setBuckets i l).arr Attr.ChessLedger.buckets i = l ∧ (s.setBuckets i l).nat Attr.ChessLedger.usedUs i = l.sum.toNat ∧
    SameBut [.obj, .mbx] s (s.setBuckets i l) :=
  ⟨(State.arr_setAttr_ne (mkPath_ne_of_attr (by decide))).trans State.arr_setAttr, State.nat_setNat, (sameBut_setAttr.mono (by decide)).step sameBut_setNat⟩

/-- The measured airtime enters the ledger's current bucket (R239). -/
theorem State.charge_effect {beacon : Bool} : (s.charge i us beacon).arr Attr.ChessLedger.buckets i =
      (s.arr Attr.ChessLedger.buckets i).set (s.bucketNow i) (min ((s.arr Attr.ChessLedger.buckets i).getD (s.bucketNow i) 0 + us) 0xFFFFFFFF) ∧
    SameBut [.obj, .mbx] s (s.charge i us beacon) := by
  let l : List Int := (s.arr Attr.ChessLedger.buckets i).set (s.bucketNow i) (min ((s.arr Attr.ChessLedger.buckets i).getD (s.bucketNow i) 0 + us) 0xFFFFFFFF)
  obtain ⟨harr, -, hsame⟩ := State.setBuckets_effect (s := s) (i := i) (l := l)
  cases beacon with
  | false => exact ⟨harr, hsame⟩
  | true => exact ⟨(State.arr_setAttr_ne (mkPath_ne_of_attr (by decide))).trans harr, hsame.step sameBut_bump⟩

/-- A port that is cut off: its amplifiers low, no frame on air and no answer (R225). -/
theorem State.radioCut_silent (hair : (s.rport n).onAir = none) :
    s.radioCut n us = { s.setRport n { s.rport n with onAir := none, paEn := false, lnaEn := false, answer := none } with
      rad := { (s.setRport n { s.rport n with onAir := none, paEn := false, lnaEn := false, answer := none }).rad with
        spi := s.rad.spi.filter (fun e => e.1 != n) } } := by
  unfold State.radioCut
  dsimp only
  rw [hair]
  rfl

/-! ### Received frames -/

/-- The frames that a port in reception takes (R227, R230). -/
structure State.HearsRadio (s : State) (x : RadioRx) : Prop where
  tx : s.radioTx x.port = true
  locked : (s.rport x.port).locked = true
  receiving : (s.rport x.port).paEn = false
  pan : s.isPan x.cell = true
  port : s.nat Attr.RadioPan.port x.cell = x.port

theorem State.HearsRadio.taken (h : s.HearsRadio x) : ¬ ((!s.radioTx x.port) = true ∨ (!(s.rport x.port).locked) = true ∨ (s.rport x.port).paEn = true ∨
    (!s.isPan x.cell) = true ∨ s.nat Attr.RadioPan.port x.cell ≠ x.port) := by
  rw [h.tx, h.locked, h.receiving, h.pan, h.port]
  simp

theorem sameBut_toFirmware {k g : Nat} {b : Bytes} : SameBut [.que, .recd] s (s.toFirmware h k g b) := by
  unfold State.toFirmware
  dsimp only
  exact .ite (sameBut_pushItem.step sameBut_raise) sameBut_pushItem

/-- A frame of a port in reception that repeats none: its source's sequence is kept with what answers it (R232). -/
theorem execRadioFrameReceived_mesh (hheard : s.HearsRadio x) (hstd : s.nat Attr.RadioPort.standard x.port = 1) (hfcs : x.fcsOk = true) (hswitch : x.modeSwitch = false)
    (hmesh : x.mesh = true) (hrep : (s.rport x.port).repeats = []) :
    ∃ t, exec (.radioFrameReceived x) s = .next t ∧ (t.rport x.port).answer = some { cell := x.cell, dst16 := x.short, body := [BitVec.ofNat 8 x.seq] } ∧
      Assoc.find (rxSource x) (t.rport x.port).lastSeq = some (extendSeq ((Assoc.find (rxSource x) (s.rport x.port).lastSeq).getD 0) x.seq) ∧
      SameBut [.rad, .obj, .mbx, .que, .recd] s t := by
  let ext : Nat := extendSeq ((Assoc.find (rxSource x) (s.rport x.port).lastSeq).getD 0) x.seq
  let v : State := s.bump 64 Attr.RadioPort.framesRx x.port
  let w : State := v.setRport x.port { s.rport x.port with answer := some { cell := x.cell, dst16 := x.short, body := [BitVec.ofNat 8 x.seq] } }
  let u : State := w.toFirmware 0xFFFFFFFF 0 0 (match x.content.apdu with | .other b => b | _ => [])
  let z : RPort := u.rport x.port
  let t : State := u.setRport x.port { z with
    lastSeq := Assoc.put (rxSource x) ext z.lastSeq
    repeats := z.repeats.filter (fun r => r.1 != rxSource x) ++
      ((z.repeats.filter (fun r => r.1 == rxSource x)) ++ [(rxSource x, ext, u.tim.d3, z.answer)]).drop ((z.repeats.filter (fun r => r.1 == rxSource x)).length - 15) }
  have hu : SameBut [.que, .recd] w u := sameBut_toFirmware
  have hz : z = { s.rport x.port with answer := some { cell := x.cell, dst16 := x.short, body := [BitVec.ofNat 8 x.seq] } } :=
    (State.rport_congr (congrArg Radio.ports (hu.area .rad))).trans State.rport_setRport
  have hrun : exec (.radioFrameReceived x) s = .next t := by
    show execRadioFrameReceived x s = _
    unfold execRadioFrameReceived
    dsimp only
    rw [if_neg hheard.taken, if_neg (by simp [hfcs, hswitch]), if_neg (by omega)]
    have hfind : ∀ f, (s.rport x.port).repeats.find? f = none := fun f => by rw [hrep]; rfl
    rw [hfind]
    dsimp only
    rw [if_pos hstd, if_pos ⟨hstd, hmesh⟩]
    split
    · rw [if_neg (by omega)] <;> rfl
    · rfl
  have ht : t.rport x.port = _ := State.rport_setRport
  refine ⟨t, hrun, ?_, ?_, ?_⟩
  · rw [ht, hz]
  · rw [ht]
    exact Assoc.find_put_same
  · exact ((((sameBut_bump.mono (by decide)).step sameBut_setRport).step hu).step sameBut_setRport)

theorem AttrsBut.findEntry {nums : List Nat} {b : Bool} {k : Nat} (h : AttrsBut nums s t) (helt : t.elt = s.elt) (hn : autoParam (0x01 ∉ nums ∧ 0x02 ∉ nums) Nat.toPNat._auto_1) :
    t.findEntry b k = s.findEntry b k := by
  have hplace : ∀ pl, t.atPlace pl = s.atPlace pl := fun pl => State.atPlace_congr (congrArg Locator.buckets helt) (congrArg Locator.overflow helt)
  simp only [State.findEntry, State.candidates, h.nat Attr.LocatorTable.hashSeed1 0 ⟨by decide, hn.1⟩, h.nat Attr.LocatorTable.hashSeed2 0 ⟨by decide, hn.2⟩, hplace, helt]

/-! ### Associations (R237, R238) -/

/-- The open PANs of a SUN FSK port, where associations are heard (R237). -/
structure State.Admits (s : State) (c n : Nat) : Prop where
  pan : s.isPan c = true
  port : s.nat Attr.RadioPan.port c = n
  open' : s.flag Attr.RadioPan.admissionOpen c = true
  tx : s.radioTx n = true
  std : s.nat Attr.RadioPort.standard n = 1
  locator : s.cutOff 8 0 = false

theorem State.Admits.heard (h : s.Admits c n) : ¬ ((!s.isPan c) = true ∨ (!s.flag Attr.RadioPan.admissionOpen c) = true ∨ (!s.radioTx n) = true ∨
    s.nat Attr.RadioPort.standard n ≠ 1 ∨ s.cutOff 8 0 = true) := by
  rw [h.pan, h.open', h.tx, h.std, h.locator]
  simp

/-- A refused association of an EUI in a PAN leaves the state as it is but for the answer. -/
theorem State.admitRefuse_pan {r : AdmitReq} {k : Nat} (hpan : s.isPan r.cell = true) (hk : k ≠ 4) : s.admitRefuse r k = s := by
  unfold State.admitRefuse
  rw [if_pos hpan]
  exact if_pos hk

theorem State.admitResult_unknown {r : AdmitReq} (hrole : r.role = 0) (hnone : s.handleOf r.eui = none) : s.admitResult r = 1 := by
  have hknown : s.known r.eui = none := by simp [State.known, hnone]
  unfold State.admitResult
  rw [hknown, hrole]
  rfl

/-- An endpoint whose profile has the radio capability and that has no path passes the checks (Table 05-10). -/
theorem State.admitResult_passes {r : AdmitReq} (hrole : r.role = 0) (hknown : s.known r.eui = some h) (hcap : bit r.caps 5 = true) (hprim : s.primary h = none) :
    s.admitResult r = 0 := by
  unfold State.admitResult
  rw [hknown, hrole]
  simp [hcap, hprim]

/-- Bands of which none overlaps a later one (R249). -/
theorem noOverlap {es : List Bytes} (h : es.Pairwise (fun x y => bandsOverlap y x = false)) :
    (List.range es.length).any (fun j => (List.range j).any (fun k => bandsOverlap (es.getD j []) (es.getD k []))) = false := by
  simp only [List.any_eq_false, List.mem_range, Bool.not_eq_true]
  intro j hj k hk
  have hkl : k < es.length := hk.trans hj
  rw [List.getD_eq_getElem _ _ hj, List.getD_eq_getElem _ _ hkl]
  exact List.pairwise_iff_getElem.1 h k j hkl hj hk

/-- Settles O16: a port's write, a frame's way, an association's result. -/
theorem radioPorts : Obligations.RadioPorts := by
  refine ⟨?lost, ?lock, ?cutSilent, ?cutOnAir, ?broken, ?insecure, ?repeated, ?mesh, ?refused, ?admitted, ?bands⟩
  case lost =>
    intro s n hlocked
    let v : State := (s.setRport n { s.rport n with locked := false }).bump 32 Attr.RadioPort.syncLosses n
    have hcount : v.nat Attr.RadioPort.syncLosses n = (s.nat Attr.RadioPort.syncLosses n + 1) % 2 ^ 32 := State.nat_bump
    have hrun : exec (.rxSyncLost n) s = .next (v.raise 0x0601 (objPath 0x0301 n) [(n : Int), (v.nat Attr.RadioPort.syncLosses n : Int)]) := if_neg (by simp [hlocked])
    rw [hcount] at hrun
    have hrad : v.rad = (s.setRport n { s.rport n with locked := false }).rad := State.bump_rad
    have hrecd : v.recd = s.recd := State.bump_recd
    refine ⟨_, hrun, ?_, ?_, ?_, ?_⟩
    · exact (State.rport_congr (congrArg Radio.ports hrad)).trans State.rport_setRport
    · exact (State.nat_congr State.raise_obj _ _).trans hcount
    · rw [← hrecd]
      rfl
    · exact ((sameBut_setRport.mono (by decide)).step sameBut_bump).step sameBut_raise
  case lock =>
    intro s n
    exact ⟨_, rfl, State.rport_setRport, fun m hm => State.rport_setRport_ne hm, sameBut_setRport⟩
  case cutSilent =>
    intro s n us hcut hair
    have hrun : exec (.txCut n us) s = .next (s.radioCut n us) := if_pos (by tauto)
    rw [State.radioCut_silent hair] at hrun
    exact ⟨_, hrun, State.rport_setRport, sameBut_setRport.set_rad⟩
  case cutOnAir =>
    intro s n us q a i f hcut hair
    let v : State := s.setRport n { s.rport n with onAir := none, paEn := false, lnaEn := false, answer := none }
    let w : State := { v with rad := { v.rad with spi := v.rad.spi.filter (fun e => e.1 != n) } }
    have hrun : exec (.txCut n us) s = .next ((w.charge i us f.beacon).raise 0x0606 (objPath 0x0301 n) [(n : Int), (us : Int)]) := by
      refine (if_pos (by tauto)).trans (congrArg Host.Outcome.next ?_)
      unfold State.radioCut
      dsimp only
      rw [hair]
    obtain ⟨hcharge, hsame⟩ := State.charge_effect (s := w) (i := i) (us := us) (beacon := f.beacon)
    have hrecd : (w.charge i us f.beacon).recd = s.recd := hsame.area .recd
    refine ⟨_, hrun, ?_, ?_, ?_, ?_⟩
    · exact (State.rport_congr (congrArg Radio.ports (hsame.area .rad))).trans (State.rport_setRport (s := s))
    · exact (State.arr_congr State.raise_obj _ _).trans hcharge
    · exact congrArg (fun r : Recorder => r.ordinary _) hrecd
    · exact ((((sameBut_setRport.mono (by decide)).set_rad).step hsame).step sameBut_raise)
  case broken =>
    intro s x htx hlocked hpa hpan hport hfcs
    have hheard : s.HearsRadio x := ⟨htx, hlocked, hpa, hpan, hport⟩
    let v : State := s.bump 64 Attr.RadioPort.framesRx x.port
    refine ⟨v.bump 32 Attr.RadioPort.framesDiscarded x.port, (if_neg hheard.taken).trans (if_pos (.inr (by simp [hfcs]))), ?_, ?_, ?_⟩
    · exact (State.nat_setNat_ne (mkPath_ne_of_attr (by decide))).trans State.nat_bump
    · exact State.nat_bump.trans (by rw [show v.nat Attr.RadioPort.framesDiscarded x.port = _ from State.nat_setNat_ne (mkPath_ne_of_attr (by decide))])
    · exact (sameBut_bump.mono (by decide)).step sameBut_bump
  case insecure =>
    intro s x htx hlocked hpa hpan hport hstd hfcs hswitch hfive hseven
    have hheard : s.HearsRadio x := ⟨htx, hlocked, hpa, hpan, hport⟩
    let v : State := s.bump 64 Attr.RadioPort.framesRx x.port
    refine ⟨v.bump 32 Attr.RadioPort.insecureFrames x.port, (if_neg hheard.taken).trans ((if_neg (by simp [hfcs, hswitch])).trans (if_pos ⟨hstd, hfive, hseven⟩)), ?_, ?_⟩
    · exact State.nat_bump.trans (by rw [show v.nat Attr.RadioPort.insecureFrames x.port = _ from State.nat_setNat_ne (mkPath_ne_of_attr (by decide))])
    · exact (sameBut_bump.mono (by decide)).step sameBut_bump
  case repeated =>
    intro s x at3 ans htx hlocked hpa hpan hport hstd hfcs hswitch hrep hnow
    have hheard : s.HearsRadio x := ⟨htx, hlocked, hpa, hpan, hport⟩
    refine ⟨(s.bump 64 Attr.RadioPort.framesRx x.port).setRport x.port { s.rport x.port with answer := ans }, ?_, State.rport_setRport,
      (sameBut_bump.mono (by decide)).step sameBut_setRport⟩
    show execRadioFrameReceived x s = _
    unfold execRadioFrameReceived
    dsimp only
    rw [if_neg hheard.taken, if_neg (by simp [hfcs, hswitch]), if_neg (by omega)]
    have hfind : (s.rport x.port).repeats.find? (fun r => r.1 == rxSource x &&
        r.2.1 == extendSeq ((Assoc.find (rxSource x) (s.rport x.port).lastSeq).getD 0) x.seq && decide ((s.bump 64 Attr.RadioPort.framesRx x.port).tim.d3 ≤ r.2.2.1 + sec 10)) =
        some (rxSource x, extendSeq ((Assoc.find (rxSource x) (s.rport x.port).lastSeq).getD 0) x.seq, at3, ans) := by
      have htim : (s.bump 64 Attr.RadioPort.framesRx x.port).tim = s.tim := State.bump_tim
      rw [hrep, htim]
      simp [hnow]
    rw [hfind]
  case mesh =>
    intro s x hp htx hlocked hpa hpan hport hstd hfcs hswitch hmesh hrep
    exact execRadioFrameReceived_mesh ⟨htx, hlocked, hpa, hpan, hport⟩ hstd hfcs hswitch hmesh hrep
  case refused =>
    intro s c n eui metric hpan hport hopen htx hstd hcut hnone hlen
    have hadmits : s.Admits c n := ⟨hpan, hport, hopen, htx, hstd, hcut⟩
    let f : RadioTx := { cell := c, dst16 := 0xFFFE, body := leBytes 1 2 ++ leBytes 2 0xFFFF ++ leBytes 8 eui }
    have hrun : exec (.associationRequest c eui metric) s = .next (s.radioEnqueue n 5 f) := by
      show execAssociationRequest c eui metric s = _
      unfold execAssociationRequest
      rw [hport]
      refine (if_neg hadmits.heard).trans ?_
      dsimp only
      rw [hnone]
      refine (if_pos (by rw [State.admitResult_unknown (by rfl) hnone]; decide)).trans ?_
      rw [State.admitResult_unknown (by rfl) hnone, State.admitRefuse_pan hpan (by decide)]
      rfl
    refine ⟨_, hrun, ?_, sameBut_setRport⟩
    unfold State.radioEnqueue
    rw [State.rport_setRport]
    simp [hlen, f]
  case admitted =>
    intro s c n eui metric h a hc hh hn hpan hline hport hopen htx hstd hcut hhandle hknown hrole hcap hprim haddr hfree hlocks hroom hfind
    have hadmits : s.Admits c n := ⟨hpan, hport, hopen, htx, hstd, hcut⟩
    let v : State := s.assignAddr c a h
    have hv : SameBut [.lin, .obj, .mbx] s v := (SameBut.refl.set_lin).step sameBut_bump
    have hattrs : AttrsBut [0x08, 0x09] s v := by
      refine AttrsBut.trans (AttrsBut.of_obj rfl) (attrsBut_setAttr ?_)
      unfold State.cellAttr
      split <;> decide
    have hvfind : v.findEntry false eui = none := (hattrs.findEntry (hv.area .elt)).trans hfind
    have hvelt : v.elt = s.elt := hv.area .elt
    obtain ⟨t, hcommit, hprimary, -, -, hsame, -⟩ := State.commitPath_first (s := v) (h := h) (key := eui) (r := ⟨16 + n, c, a⟩) (m := metric)
      (by rw [hvelt]; exact hlocks) hvfind (by rw [hvelt]; exact hroom)
    let f : RadioTx := { cell := c, dst16 := noShort, body := leBytes 1 0 ++ leBytes 2 a ++ leBytes 8 eui }
    have hrun : exec (.associationRequest c eui metric) s = .next (t.radioEnqueue n 5 f) := by
      show execAssociationRequest c eui metric s = _
      unfold execAssociationRequest
      rw [hport]
      refine (if_neg hadmits.heard).trans ?_
      dsimp only
      rw [hhandle]
      simp only [Option.isSome_some, Option.getD_some, ↓reduceIte, hrole, Nat.zero_ne_one]
      have hpass : s.admitResult ⟨c, eui, s.nat Attr.EndpointProfile.capabilities h, 0, 1, 0, metric⟩ = 0 := State.admitResult_passes rfl hknown hcap hprim
      have hadmit : s.admitAddr (16 + n) h ⟨c, eui, s.nat Attr.EndpointProfile.capabilities h, 0, 1, 0, metric⟩ = some (some a, t) := by
        unfold State.admitAddr
        dsimp only
        rw [haddr, hfree]
        dsimp only
        rw [hcommit]
      refine (if_neg (not_not.2 hpass)).trans ?_
      rw [hadmit]
    refine ⟨_, hrun, ?_, ?_, ?_⟩
    · have hlin : t.lin = v.lin := hsame.area .lin
      show Assoc.find (c * 65536 + a) t.lin.addrs = some h
      have haddrs : v.lin.addrs = Assoc.put (c * 65536 + a) h s.lin.addrs := congrArg Line.addrs State.bump_lin
      rw [hlin, haddrs]
      exact Assoc.find_put_same
    · refine (AttrsBut.primary (nums := []) (.of_obj rfl)).trans (hprimary.trans (if_neg ?_))
      show ¬ 16 + n = 63
      omega
    · exact ((hv.mono (by decide)).step hsame).step sameBut_setRport
  case bands =>
    intro s c n i k es h ho hi hk hlo hhi hklo hkhi hres hlen hes hlegal hpair hfree
    subst hes
    have hbody : doBandProfileLoad c s.pop = (⟨.ok, []⟩, (s.pop.setAttr Attr.BandProfile.entries i (.bytes (c.data.drop 4))).raise 0x0605 (objPath 0x0302 i) [(i : Int), (k : Int)]) := by
      unfold doBandProfileLoad
      dsimp only
      rw [hi, hk]
      refine (if_neg ?_).trans (if_neg ?_)
      · rintro ⟨hused, -⟩
        obtain ⟨p, hp, hpi⟩ := List.any_eq_true.1 hused
        exact hfree p (List.mem_range.1 hp) (beq_iff_eq.1 hpi)
      · have hno := noOverlap hpair
        simp only [List.length_map, List.length_range] at hno
        rw [hlegal, hno]
        simp only [Bool.not_true, Bool.false_eq_true, or_false]
        omega
    obtain ⟨t, hrun, rfl, hans⟩ := h.completes ho hbody ((Poised.setAttr poised_pop).of_mbx rfl) (Nat.zero_le _)
    refine ⟨_, hrun, hans, ?_, ?_, ?_⟩
    · exact (State.attr_congr State.finish_obj _ _).trans State.attr_setAttr
    · have hrecd : (s.pop.setAttr Attr.BandProfile.entries i (.bytes (c.data.drop 4))).recd = s.recd := State.setAttr_recd
      exact State.finish_recd.trans (congrArg (fun r : Recorder => r.ordinary _) hrecd)
    · exact (((sameBut_pop.mono (by decide)).step sameBut_setAttr).step sameBut_raise).step sameBut_finish

end Sys2Proof.Machine
end

section
/-! Airtime admission by the chess clock, and radio beacons (R223, R233–R236, R239–R242, R245). -/

namespace Sys2Proof.Machine

variable {s t : State} {n q a i k c us : Nat} {b : Bytes} {f : RadioTx} {rest : List RadioTx} {cls : FrameClass}

/-! ### The decision on a frame (R240–R242) -/

theorem State.chess_tooLong {sensed : Bool} (hledger : s.ledgerOf n = some (i, b)) (hlong : field b 14 2 * 1000 < a) : s.chess n a cls sensed = .tooLong := by
  unfold State.chess
  rw [hledger]
  exact if_pos hlong

/-- A frame that is short enough, on a quiet channel, is decided by its band's budget alone. -/
theorem State.chess_budget (hledger : s.ledgerOf n = some (i, b)) (hshort : a ≤ field b 14 2 * 1000) (hlast : (s.rport n).lastEnd = none) :
    s.chess n a cls false = if budgetAllows cls (s.nat Attr.ChessLedger.usedUs i) a (bandBudget b) (octet b 18) (s.nat Attr.RadioPort.bulkLimitPct n) = true then .allow i
      else .refuse i (if 256 ≤ i then i - 256 else i % 16) := by
  unfold State.chess
  rw [hledger]
  refine (if_neg (Nat.not_lt.2 hshort)).trans ?_
  rw [hlast]
  exact (if_neg (by simp)).trans (if_neg (by simp))

/-- The head frame of a SUN FSK port's highest queue is decided (R239). -/
theorem execChessClockAdmit_head {sensed : Bool} (htx : s.radioTx n = true) (hstd : s.nat Attr.RadioPort.standard n = 1) (hair : (s.rport n).onAir = none)
    (htop : (s.rport n).top = some q) (hqueue : (s.rport n).queues.getD q [] = f :: rest) :
    execChessClockAdmit n false a sensed s =
      match s.chess n a (if q < 2 then .bulk else .prompt) sensed with
      | .allow i => .next ((s.setRport n { s.rport n with queues := (s.rport n).queues.set q rest }).radioStart n f q a i)
      | .wait => .next s
      | .tooLong => .next ((s.setRport n { s.rport n with queues := (s.rport n).queues.set q rest }).radioTooLong f.producer)
      | .refuse i k => .next (((s.setRport n { s.rport n with queues := (s.rport n).queues.set q rest }).radioRefuse n i k q).radioDropped f.producer) := by
  have hhead : (s.rport n).top.bind (fun q => (((s.rport n).queues.getD q []).head?).map (fun f => (q, f))) = some (q, f) := by
    rw [htop, Option.bind_some, hqueue]
    rfl
  unfold execChessClockAdmit
  dsimp only
  rw [if_neg (by simp [htx, hair]), if_neg (by simp), if_neg (by omega), hhead]
  dsimp only
  rw [hqueue]
  rfl

/-! ### Beacons (R233–R236) -/

theorem State.cell_setCell {y : Sys2Proof.Machine.Cell} : (s.setCell c y).cell c = y := by simp [State.cell, State.setCell]

theorem State.cell_congr (h : t.lin.cells = s.lin.cells) : t.cell c = s.cell c := by simp only [State.cell, h]

theorem sameBut_setCell {y : Sys2Proof.Machine.Cell} : SameBut [.lin] s (s.setCell c y) := by simp [SameBut, State.setCell]

/-- The state after the sequence of a beacon that falls due has been counted. -/
def State.countBeacon (s : State) (c k : Nat) : State := if k = 0 then s.setCell c { s.cell c with seq := ((s.cell c).seq + 1) % 65536 } else s

theorem sameBut_countBeacon : SameBut [.lin] s (s.countBeacon c k) := .ite sameBut_setCell .refl

theorem State.countBeacon_cell : (s.countBeacon c k).cell c = { s.cell c with seq := if k = 0 then ((s.cell c).seq + 1) % 65536 else (s.cell c).seq } := by
  unfold State.countBeacon
  by_cases hk : k = 0
  · rw [if_pos hk, if_pos hk, State.cell_setCell]
  · rw [if_neg hk, if_neg hk]

theorem State.radioTx_congr (hsys : t.sys = s.sys) (hobj : t.obj = s.obj) (htwn : t.twn = s.twn) : t.radioTx n = s.radioTx n := by
  simp only [State.radioTx, State.fieldTx, State.cutOff, State.fusedOff, State.fencedUnit, hsys, htwn, State.nat_congr hobj, State.flag_congr hobj]

theorem State.chess_congr {sensed : Bool} (hobj : t.obj = s.obj) (hrad : t.rad = s.rad) (htim : t.tim = s.tim) : t.chess n a cls sensed = s.chess n a cls sensed := by
  have hnat : ∀ y j, t.nat y j = s.nat y j := State.nat_congr hobj
  have hbands : ∀ p, t.bands p = s.bands p := fun p => by simp only [State.bands, State.octets_congr hobj]
  have hband : ∀ z, t.bandOf n z = s.bandOf n z := fun z => by simp only [State.bandOf, hnat, hbands]
  have hchannel : t.txChannel n = s.txChannel n := by simp only [State.txChannel, hnat]
  have hledger : t.ledgerOf n = s.ledgerOf n := by simp only [State.ledgerOf, hband, hchannel, hnat, hbands]
  have hport : t.rport n = s.rport n := State.rport_congr (congrArg Radio.ports hrad)
  simp only [State.chess, hledger, hport, htim, hnat]

/-- The beacons that a PAN's port sends (R233). -/
structure State.Beacons (s : State) (c n : Nat) : Prop where
  pan : s.isPan c = true
  port : s.nat Attr.RadioPan.port c = n
  std : s.nat Attr.RadioPort.standard n = 1
  tx : s.radioTx n = true
  mode : s.sys.mode ≠ .shadow

theorem State.Beacons.due (h : s.Beacons c n) : ¬ ((!s.isPan c) = true ∨ s.nat Attr.RadioPort.standard n ≠ 1 ∨ s.sys.mode = .shadow) := by
  rw [h.pan, h.std]
  simpa using h.mode

/-- A beacon that the clock admits goes on air in the port's highest queue, and its cell misses none (R236). -/
theorem execRadioBeaconDue_allowed (h : s.Beacons c n) (hair : (s.rport n).onAir = none) (hallow : s.chess n a .beacon false = .allow i)
    (hstate : s.nat Attr.RadioPan.beaconState c ≠ 2) : ∃ f, f.beacon = true ∧ f.cell = c ∧ f.dst16 = 0xFFFF ∧
      exec (.radioBeaconDue c k a false) s =
        .next ((((s.countBeacon c k).radioStart n f 7 a i).setCell c { (s.countBeacon c k).cell c with missed := 0, slip := none }).beaconState c 0) := by
  let u : State := s.countBeacon c k
  have hu : SameBut [.lin] s u := sameBut_countBeacon
  let f : RadioTx := { cell := c, dst16 := 0xFFFF, body := u.panBeacon c, beacon := true }
  refine ⟨f, rfl, rfl, rfl, ?_⟩
  have htx : u.radioTx n = true := (State.radioTx_congr (hu.area .sys) (hu.area .obj) (hu.area .twn)).trans h.tx
  have hair' : (u.rport n).onAir = none := (congrArg RPort.onAir (State.rport_congr (congrArg Radio.ports (hu.area .rad)))).trans hair
  have hchess : u.chess n a .beacon false = .allow i := (State.chess_congr (hu.area .obj) (hu.area .rad) (hu.area .tim)).trans hallow
  have hst : u.nat Attr.RadioPan.beaconState c ≠ 2 := by
    rw [State.nat_congr (hu.area .obj)]
    exact hstate
  show execRadioBeaconDue c k a false s = _
  unfold execRadioBeaconDue
  rw [h.port]
  refine (if_neg h.due).trans ?_
  show (if (!u.radioTx n) = true ∨ (u.rport n).onAir.isSome = true then _ else _) = _
  refine (if_neg (by simp [htx, hair'])).trans ?_
  show (match u.chess n a .beacon false with
    | .allow i => _
    | .refuse i b => _
    | _ => _) = _
  rw [hchess]
  exact congrArg Host.Outcome.next (if_neg hst)

/-- A beacon whose port is busy is tried again 1 ms later (R236). -/
theorem execRadioBeaconDue_busy {sensed : Bool} (h : s.Beacons c n) (hair : (s.rport n).onAir.isSome = true) (hk : k < 5) :
    exec (.radioBeaconDue c k a sensed) s = .next ((s.countBeacon c k).setCell c { (s.countBeacon c k).cell c with slip := some (k + 1) }) := by
  let u : State := s.countBeacon c k
  have hu : SameBut [.lin] s u := sameBut_countBeacon
  have hair' : (u.rport n).onAir.isSome = true :=
    (congrArg (fun y : RPort => y.onAir.isSome) (State.rport_congr (congrArg Radio.ports (hu.area .rad)))).trans hair
  show execRadioBeaconDue c k a sensed s = _
  unfold execRadioBeaconDue
  rw [h.port]
  refine (if_neg h.due).trans ?_
  show (if (!u.radioTx n) = true ∨ (u.rport n).onAir.isSome = true then _ else _) = _
  exact (if_pos (.inr hair')).trans (congrArg Host.Outcome.next (if_neg (by omega)))

/-! ### Settling -/

/-- Settles O17: a frame's way through the clock, a ledger's buckets, a beacon's attempt. -/
theorem chessClock : Obligations.ChessClock := by
  refine ⟨?allow, ?refuse, ?long, ?txEnd, ?bucket, ?beacon, ?waits⟩
  case allow =>
    intro s n q a i b f rest htx hstd hair htop hqueue hledger hshort hlast hbudget
    let v : State := s.setRport n { s.rport n with queues := (s.rport n).queues.set q rest }
    have hrun : exec (.chessClockAdmit n false a false) s = .next (v.radioStart n f q a i) := by
      refine (execChessClockAdmit_head htx hstd hair htop hqueue).trans ?_
      rw [State.chess_budget hledger hshort hlast, if_pos hbudget]
    have hport : v.rport n = { s.rport n with queues := (s.rport n).queues.set q rest } := State.rport_setRport
    refine ⟨_, hrun, ?_, rfl, (sameBut_setRport.step sameBut_setRport).set_rad⟩
    exact (State.rport_setRport (s := v)).trans (by rw [hport])
  case refuse =>
    intro s n q a i b f rest htx hstd hair htop hqueue hprod hledger hshort hlast hbudget
    let v : State := s.setRport n { s.rport n with queues := (s.rport n).queues.set q rest }
    let j : Nat := if 256 ≤ i then i - 256 else i % 16
    have hrun : exec (.chessClockAdmit n false a false) s = .next (v.radioRefuse n i j q) := by
      refine (execChessClockAdmit_head htx hstd hair htop hqueue).trans ?_
      rw [State.chess_budget hledger hshort hlast, if_neg (Bool.eq_false_iff.1 hbudget), hprod]
      rfl
    let w : State := (v.bumpSat 32 Attr.RadioPort.refusals n).bumpSat 32 Attr.ChessLedger.refusals i
    have hw : SameBut [.obj, .mbx] v w := (sameBut_bumpSat.mono (by decide)).step sameBut_bumpSat
    have hrecd : w.recd = s.recd := hw.area .recd
    refine ⟨_, hrun, ?_, ?_, ?_, ?_⟩
    · exact (State.rport_congr (s := v) (congrArg Radio.ports (hw.area .rad))).trans State.rport_setRport
    · refine (State.nat_congr (s := w) State.raise_obj _ _).trans ?_
      exact (State.nat_setNat_ne (mkPath_ne_of_attr (by decide))).trans State.nat_bumpSat
    · exact congrArg (fun r : Recorder => r.ordinary _) hrecd
    · exact ((sameBut_setRport.mono (by decide)).step hw).step sameBut_raise
  case long =>
    intro s n q a i b f rest htx hstd hair htop hqueue hprod hledger hlong
    have hrun : exec (.chessClockAdmit n false a false) s = .next (s.setRport n { s.rport n with queues := (s.rport n).queues.set q rest }) := by
      refine (execChessClockAdmit_head htx hstd hair htop hqueue).trans ?_
      rw [State.chess_tooLong hledger hlong, hprod]
      rfl
    exact ⟨_, hrun, State.rport_setRport, rfl, sameBut_setRport⟩
  case txEnd =>
    intro s n us q a i f hair hprod
    have hrun : exec (.radioTxEnd n us) s = .next ((s.charge i us f.beacon).radioEnd n) := by
      show execRadioTxEnd n us s = _
      unfold execRadioTxEnd
      rw [hair]
      dsimp only
      rw [hprod]
    obtain ⟨hcharge, hsame⟩ := State.charge_effect (s := s) (i := i) (us := us) (beacon := f.beacon)
    have hrad : (s.charge i us f.beacon).rad = s.rad := hsame.area .rad
    have htim : (s.charge i us f.beacon).tim = s.tim := hsame.area .tim
    have hport : (s.charge i us f.beacon).rport n = s.rport n := State.rport_congr (congrArg Radio.ports hrad)
    refine ⟨_, hrun, ?_, ?_, ?_, ?_⟩
    · exact (State.rport_setRport (s := s.charge i us f.beacon)).trans (by rw [hport, htim])
    · show (s.charge i us f.beacon).rad.spi ++ [(n, 1)] = _
      rw [hrad]
    · exact hcharge
    · exact ((hsame.mono (by decide)).step sameBut_setRport).set_rad
  case bucket =>
    intro s i
    let j : Nat := (s.bucketNow i + 1) % 64
    let v : State := s.post (.ledger i (s.bucketNow i) ((s.arr Attr.ChessLedger.buckets i).getD (s.bucketNow i) 0).toNat)
    let w : State := { v with rad := { v.rad with current := Assoc.put i j v.rad.current } }
    let u : State := w.setBuckets i ((w.arr Attr.ChessLedger.buckets i).set j 0)
    have hpost : SameBut [.sto, .twn] s v := sameBut_post
    have hobj : w.obj = s.obj := hpost.area .obj
    have harr : w.arr Attr.ChessLedger.buckets i = s.arr Attr.ChessLedger.buckets i := State.arr_congr hobj _ _
    obtain ⟨hbuckets, hused, hsame⟩ := State.setBuckets_effect (s := w) (i := i) (l := (w.arr Attr.ChessLedger.buckets i).set j 0)
    have hrun : exec (.ledgerBucketEnd i) s = .next (u.persistLedger i) := rfl
    refine ⟨_, hrun, ?_, ?_, ?_, Assoc.find_put_same, ?_⟩
    · have hcurrent : (u.persistLedger i).rad.current = Assoc.put i j v.rad.current := (congrArg Radio.current (hsame.area .rad) :)
      unfold State.bucketNow
      rw [hcurrent, Assoc.find_put_same]
      rfl
    · rw [← harr]
      exact hbuckets
    · rw [← harr]
      exact hused
    · exact ((((hpost.mono (by decide)).set_rad).step hsame).set_rad)
  case beacon =>
    intro s c n k a i b hpan hport hstd htx hmode hair hledger hshort hlast hbudget hstate
    have hallow : s.chess n a .beacon false = .allow i := by rw [State.chess_budget hledger hshort hlast, if_pos hbudget]
    obtain ⟨f, hbeacon, hcell, hdst, hrun⟩ := execRadioBeaconDue_allowed (k := k) ⟨hpan, hport, hstd, htx, hmode⟩ hair hallow hstate
    let u : State := s.countBeacon c k
    have hu : SameBut [.lin] s u := sameBut_countBeacon
    let v : State := (u.radioStart n f 7 a i).setCell c { u.cell c with missed := 0, slip := none }
    have hv : SameBut [.rad, .lin] s v := (((hu.mono (by decide)).step sameBut_setRport).set_rad).step sameBut_setCell
    have hpan' : v.isPan c = true := by
      unfold State.isPan State.alive
      rw [show v.obj = s.obj from hv.area .obj]
      exact hpan
    have hattr : v.cellAttr c Attr.LineCell.beaconState Attr.RadioPan.beaconState = Attr.RadioPan.beaconState := if_pos hpan'
    have hset : v.beaconState c 0 = v.setNat Attr.RadioPan.beaconState c 0 := by
      unfold State.beaconState
      rw [hattr]
    have hlast : exec (.radioBeaconDue c k a false) s = .next (v.setNat Attr.RadioPan.beaconState c 0) := hrun.trans (congrArg Host.Outcome.next hset)
    have hrport : (v.setNat Attr.RadioPan.beaconState c 0).rport n = { u.rport n with onAir := some (f, 7, a, i), paEn := true, lnaEn := false } :=
      (State.rport_congr (congrArg Radio.ports State.setNat_rad)).trans (State.rport_setRport (s := u))
    have hcells : (v.setNat Attr.RadioPan.beaconState c 0).cell c = { u.cell c with missed := 0, slip := none } :=
      (State.cell_congr (congrArg Line.cells State.setNat_lin)).trans State.cell_setCell
    refine ⟨_, hlast, ⟨f, ?_, hbeacon, hcell, hdst⟩, ?_, ?_, ?_, ?_, State.nat_setNat, ?_⟩
    · rw [hrport]
    · rw [hrport]
    · rw [hcells]
    · rw [hcells]
    · rw [hcells, State.countBeacon_cell]
    · exact (hv.mono (by decide)).step sameBut_setNat
  case waits =>
    intro s c n k a hpan hport hstd htx hmode hair hk
    refine ⟨_, execRadioBeaconDue_busy ⟨hpan, hport, hstd, htx, hmode⟩ hair hk, ?_, ?_, sameBut_countBeacon.step sameBut_setCell⟩
    · rw [State.cell_setCell]
    · rw [State.cell_setCell, State.countBeacon_cell]

end Sys2Proof.Machine
end

section
/-! Cells, short addresses and admissions (R204–R210). -/

namespace Sys2Proof.Machine

variable {s t u : State} {c a h p k n cause : Nat} {pl : Place} {e : LEntry} {r : AdmitReq}

/-! ### Notifications of the locator's writes -/

theorem Poised.setNat {y : Nat × Nat} {i v : Nat} (h : Poised s u) : Poised s (u.setNat y i v) := Poised.setAttr h

theorem Poised.raise {code path : Nat} {args : List Int} (h : Poised s u) : Poised s (u.raise code path args) := h.of_mbx rfl

theorem Poised.sendMgmt {d kd l pr} {b : Bytes} (h : Poised s u) : Poised s (u.sendMgmt c d kd b l pr) := h.of_mbx (sameBut_sendMgmt.area .mbx)

theorem Poised.place {x : Option LEntry} (h : Poised s u) : Poised s (u.place pl x cause) := by
  have hraw : Poised s (u.putRaw pl x) := h.of_mbx (sameBut_putRaw.area .mbx)
  have hlevel : ∀ v : State, Poised s v → Poised s v.overflowLevel := by
    intro v hv
    have hset : Poised s (v.setNat Attr.LocatorTable.overflowUsed 0 v.elt.overflow.length) := Poised.setAttr hv
    unfold State.overflowLevel
    dsimp only
    split
    · split
      · exact hset
      · exact hset.of_mbx rfl
    · exact hset.of_mbx rfl
  exact (hlevel _ (Poised.setAttr hraw)).of_mbx (sameBut_postChange.area .mbx)

theorem Poised.releaseAddr (h : Poised s u) : Poised s (u.releaseAddr c a cause) := by
  unfold State.releaseAddr
  split
  · exact h
  · have hv : ∀ v : State, v.mbx = u.mbx → ∀ y m code path args, Poised s ((v.setNat y c m).raise code path args) :=
      fun v hv y m code path args => (Poised.setNat (h.of_mbx hv)).raise
    dsimp only
    refine Poised.ite (Poised.sendMgmt (hv _ ?_ _ _ _ _ _)) (hv _ ?_ _ _ _ _ _) <;> rfl

theorem Poised.dropAddr (h : Poised s u) : Poised s (u.dropAddr c a cause) := by
  unfold State.dropAddr
  dsimp only
  split
  · exact h.releaseAddr
  · exact h.releaseAddr.place

theorem Poised.setPrimary {q : Route} (h' : Poised s u) : Poised s (u.setPrimary h q) :=
  (Poised.setNat (Poised.setNat (Poised.setNat h'))).of_mbx (sameBut_pathChanged.area .mbx)

theorem Poised.setSecondaryRaw {q : Route} (h' : Poised s u) : Poised s (u.setSecondaryRaw h q) :=
  (Poised.setNat (Poised.setNat (Poised.setNat h'))).of_mbx (sameBut_pathChanged.area .mbx)

/-! ### Addresses that are released (R210) -/

theorem State.enqueue_addrs {q : Nat} {y : TxUnit} : (s.enqueue p q y).2.lin.addrs = s.lin.addrs ∧ (s.enqueue p q y).2.lin.released = s.lin.released ∧
    (s.enqueue p q y).2.lin.cells = s.lin.cells ∧ (s.enqueue p q y).2.lin.links = s.lin.links := by
  unfold State.enqueue
  split <;> exact ⟨rfl, rfl, rfl, rfl⟩

theorem State.releaseAddr_absent (h : Assoc.find (c * 65536 + a) s.lin.addrs = none) : s.releaseAddr c a cause = s := by
  unfold State.releaseAddr
  rw [h]

/-- A short address that is held is released with its instant. -/
theorem State.releaseAddr_held (h' : Assoc.find (c * 65536 + a) s.lin.addrs = some h) :
    (s.releaseAddr c a cause).lin.addrs = Assoc.del (c * 65536 + a) s.lin.addrs ∧
      (s.releaseAddr c a cause).lin.released = Assoc.put (c * 65536 + a) s.tim.d3 s.lin.released := by
  have hset : ∀ (v : State) (y : Nat × Nat) (m : Nat), ((v.setNat y c m).raise 0x0505 (v.cellPath c) [(v.cellPort c : Int), (c : Int), (a : Int), (cause : Int)]).lin = v.lin :=
    fun v y m => State.setNat_lin
  unfold State.releaseAddr
  rw [h']
  dsimp only
  split
  · obtain ⟨haddrs, hreleased, -⟩ := State.enqueue_addrs
    refine ⟨haddrs.trans ?_, hreleased.trans ?_⟩ <;> rw [State.raise_lin, State.setNat_lin]
  · exact ⟨by rw [State.raise_lin, State.setNat_lin], by rw [State.raise_lin, State.setNat_lin]⟩

/-- What an address's release leaves of the addresses: its own is free, a free one stays free. -/
theorem State.dropAddr_addrs : Assoc.find (c * 65536 + a) (s.dropAddr c a cause).lin.addrs = none ∧
    (∀ k, Assoc.find k s.lin.addrs = none → Assoc.find k (s.dropAddr c a cause).lin.addrs = none) ∧
    (Assoc.find (c * 65536 + a) s.lin.addrs = some h → Assoc.find (c * 65536 + a) (s.dropAddr c a cause).lin.released = some s.tim.d3) := by
  have hlin : (s.dropAddr c a cause).lin = (s.releaseAddr c a cause).lin := by
    unfold State.dropAddr
    dsimp only
    split
    · rfl
    · exact placed_place.same.area .lin
  rw [hlin]
  cases hfind : Assoc.find (c * 65536 + a) s.lin.addrs with
  | none =>
    rw [State.releaseAddr_absent hfind]
    exact ⟨hfind, fun k hk => hk, fun hsome => by cases hsome⟩
  | some g =>
    obtain ⟨haddrs, hreleased⟩ := State.releaseAddr_held (cause := cause) hfind
    rw [haddrs, hreleased]
    refine ⟨Assoc.find_del_same, fun k hk => ?_, fun _ => Assoc.find_put_same⟩
    by_cases hkey : k = c * 65536 + a
    · rw [hkey]
      exact Assoc.find_del_same
    · exact (Assoc.find_del_ne hkey).trans hk

/-- Addresses that are released one after another are all free. -/
theorem State.dropAll_addrs {xs : List (Nat × Nat)} : (∀ x ∈ xs, Assoc.find x.1 (xs.foldl (fun s x => s.dropAddr (x.1 / 65536) (x.1 % 65536) cause) s).lin.addrs = none) ∧
    (∀ k, Assoc.find k s.lin.addrs = none → Assoc.find k (xs.foldl (fun s x => s.dropAddr (x.1 / 65536) (x.1 % 65536) cause) s).lin.addrs = none) := by
  induction xs generalizing s with
  | nil => exact ⟨fun x hx => absurd hx List.not_mem_nil, fun k hk => hk⟩
  | cons x xs ih =>
    obtain ⟨hmine, hfree⟩ := ih (s := s.dropAddr (x.1 / 65536) (x.1 % 65536) cause)
    obtain ⟨hgone, hkept, -⟩ := State.dropAddr_addrs (s := s) (c := x.1 / 65536) (a := x.1 % 65536) (cause := cause) (h := 0)
    have hkey : x.1 / 65536 * 65536 + x.1 % 65536 = x.1 := Nat.div_add_mod' _ _
    rw [hkey] at hgone
    refine ⟨fun y hy => ?_, fun k hk => hfree k (hkept k hk)⟩
    rcases List.mem_cons.1 hy with rfl | hin
    · exact hfree _ hgone
    · exact hmine y hin

/-- The areas that the locator's and the cells' releases write. -/
abbrev releaseAreas : List Area := [.mbx, .obj, .lin, .recd, .elt, .que, .sto, .twn]

/-- An endpoint that is deleted has no path and holds no address. -/
theorem State.deleteEui_frees {change : Nat} (hfind : Assoc.find k s.lin.addrs = some e.handle) :
    (s.deleteEui pl e cause change).primary e.handle = none ∧ (s.deleteEui pl e cause change).secondary e.handle = none ∧
      Assoc.find k (s.deleteEui pl e cause change).lin.addrs = none ∧ SameBut releaseAreas s (s.deleteEui pl e cause change) ∧
      (Poised t s → Poised t (s.deleteEui pl e cause change)) := by
  have hplaced : Placed s (s.place pl none change) := placed_place
  have hlin : (s.place pl none change).lin = s.lin := hplaced.same.area .lin
  have hsame : SameBut releaseAreas s (s.place pl none change) := hplaced.same.mono (by decide)
  have hpoised : Poised t s → Poised t (s.place pl none change) := Poised.place
  have hmem : (k, e.handle) ∈ (s.place pl none change).lin.addrs.filter (fun x => x.2 == e.handle) := by
    rw [hlin]
    exact List.mem_filter.2 ⟨Assoc.mem_of_find hfind, by simp⟩
  unfold State.deleteEui
  dsimp only
  generalize s.place pl none change = v at hsame hpoised hmem
  have hgone := (State.dropAll_addrs (s := v) (cause := cause)).1 _ hmem
  have hdrop : SameBut [.elt, .obj, .mbx, .recd, .que, .lin] v
      ((v.lin.addrs.filter (fun x => x.2 == e.handle)).foldl (fun s x => s.dropAddr (x.1 / 65536) (x.1 % 65536) cause) v) :=
    SameBut.foldl fun _ _ => (State.dropAddr_effect (k := 0)).1
  have hdropped : Poised t v → Poised t ((v.lin.addrs.filter (fun x => x.2 == e.handle)).foldl (fun s x => s.dropAddr (x.1 / 65536) (x.1 % 65536) cause) v) :=
    fun hp => Poised.foldl (fun _ _ hq => hq.dropAddr) hp
  generalize List.foldl _ v _ = b at hgone hdrop hdropped
  have hprim : ((b.setPrimary e.handle ⟨noPort, 0, noShort⟩).setSecondaryRaw e.handle ⟨noPort, 0, noShort⟩).primary e.handle = none :=
    (AttrsBut.primary attrsBut_setSecondaryRaw).trans State.primary_setPrimary
  have hsec : ((b.setPrimary e.handle ⟨noPort, 0, noShort⟩).setSecondaryRaw e.handle ⟨noPort, 0, noShort⟩).secondary e.handle = none := State.secondary_setSecondaryRaw
  have hpaths : SameBut [.obj, .mbx, .sto, .twn] b ((b.setPrimary e.handle ⟨noPort, 0, noShort⟩).setSecondaryRaw e.handle ⟨noPort, 0, noShort⟩) :=
    sameBut_setPrimary.trans sameBut_setSecondaryRaw
  have hlast : Poised t b → Poised t ((b.setPrimary e.handle ⟨noPort, 0, noShort⟩).setSecondaryRaw e.handle ⟨noPort, 0, noShort⟩) :=
    fun hp => hp.setPrimary.setSecondaryRaw
  generalize (b.setPrimary e.handle ⟨noPort, 0, noShort⟩).setSecondaryRaw e.handle ⟨noPort, 0, noShort⟩ = f at hprim hsec hpaths hlast
  have hkept : f.lin = b.lin := hpaths.area .lin
  refine ⟨hprim, hsec, ?_, ((hsame.step hdrop).step hpaths).set_elt, fun hp => (hlast (hdropped (hpoised hp))).of_mbx rfl⟩
  rw [hkept]
  exact hgone

/-- A release of an address that the primary path does not use (R210). -/
theorem State.releasePath_alias (hfind : Assoc.find (c * 65536 + a) s.lin.addrs = some h) (hprim : (s.primary h).any (fun q => q.cell == c) = false) :
    Assoc.find (c * 65536 + a) (s.releasePath c a cause).lin.addrs = none ∧ Assoc.find (c * 65536 + a) (s.releasePath c a cause).lin.released = some s.tim.d3 ∧
      SameBut releaseAreas s (s.releasePath c a cause) ∧ (Poised t s → Poised t (s.releasePath c a cause)) := by
  obtain ⟨hgone, -, hreleased⟩ := State.dropAddr_addrs (s := s) (c := c) (a := a) (cause := cause) (h := h)
  have hdrop : SameBut releaseAreas s (s.dropAddr c a cause) := (State.dropAddr_effect (k := 0)).1.mono (by decide)
  have hpath : s.releasePath c a cause = if ((s.dropAddr c a cause).secondary h).any (fun q => q.cell == c) = true then
      (s.dropAddr c a cause).setSecondaryRaw h ⟨noPort, 0, noShort⟩ else s.dropAddr c a cause := by
    unfold State.releasePath
    rw [hfind]
    dsimp only
    rw [hprim]
    rfl
  rw [hpath]
  split
  · have hsec : SameBut [.obj, .mbx, .sto, .twn] (s.dropAddr c a cause) ((s.dropAddr c a cause).setSecondaryRaw h ⟨noPort, 0, noShort⟩) := sameBut_setSecondaryRaw
    have hlin : ((s.dropAddr c a cause).setSecondaryRaw h ⟨noPort, 0, noShort⟩).lin = (s.dropAddr c a cause).lin := hsec.area .lin
    rw [hlin]
    exact ⟨hgone, hreleased hfind, hdrop.step hsec, fun hp => hp.dropAddr.setSecondaryRaw⟩
  · exact ⟨hgone, hreleased hfind, hdrop, fun hp => hp.dropAddr⟩

/-- A release of the address of the primary path: the endpoint's entry goes (R210). -/
theorem State.releasePath_primary (hfind : Assoc.find (c * 65536 + a) s.lin.addrs = some h) (hprim : (s.primary h).any (fun q => q.cell == c) = true)
    (hentry : s.findEntry false (s.nat Attr.EndpointLocator.eui h) = some (pl, e)) : s.releasePath c a cause = s.deleteEui pl e cause chRelease := by
  unfold State.releasePath
  rw [hfind]
  dsimp only
  rw [hprim, if_pos rfl, hentry]

end Sys2Proof.Machine
end

section
/-! Cells that are formed and dissolved, and admissions (R204–R209). -/

namespace Sys2Proof.Machine

variable {s t u : State} {c a h p k n cell slot purpose : Nat} {cls : List Nat}

/-! ### Objects that come and go -/

theorem State.alive_create {x i : Nat} : (s.create x i).alive x i = true := by
  show (Assoc.find _ (Assoc.put _ _ _)).isSome = true
  rw [Assoc.find_put_same]
  rfl

theorem State.alive_congr {x i : Nat} (h : t.obj.live = s.obj.live) : t.alive x i = s.alive x i := by simp only [State.alive, h]

theorem Assoc.find_filter {α : Type} {q : Nat → Bool} {j : Nat} (hq : q j = true) : ∀ {l : List (Nat × α)}, Assoc.find j (l.filter (fun e => q e.1)) = Assoc.find j l
  | [] => rfl
  | (i, v) :: xs => by
    by_cases hi : i = j
    · subst hi
      simp [hq, Assoc.find]
    · by_cases hqi : q i = true
      · simp [hqi, Assoc.find, hi, Assoc.find_filter hq]
      · simp [hqi, Assoc.find, hi, Assoc.find_filter hq]

/-- An object that is removed leaves the attributes of the other classes. -/
theorem classesBut_destroy {x : Nat} (hx : x ∈ cls) (hk : k < 2 ^ 40) : ClassesBut cls s (s.destroy x k) := by
  intro y i hy hi
  have hne : (mkPath y.1 i y.2 / 256 != objKey x k) = true := by
    have hcls : y.1 ≠ x := fun he => hy.1 (he ▸ hx)
    have hnum := hy.2
    simp only [bne_iff_ne, mkPath, objKey]
    omega
  show (Assoc.find _ (List.filter _ _)).getD _ = (Assoc.find _ _).getD _
  rw [Assoc.find_filter (q := fun j => j / 256 != objKey x k) hne]

theorem ClassesBut.primary (hc : ClassesBut cls s t) (hh : h < 2 ^ 40) (hn : autoParam (0x0401 ∉ cls) Nat.toPNat._auto_1) : t.primary h = s.primary h := by
  simp only [State.primary, hc.nat Attr.EndpointLocator.port h hh ⟨hn, by decide⟩, hc.nat Attr.EndpointLocator.cell h hh ⟨hn, by decide⟩,
    hc.nat Attr.EndpointLocator.short h hh ⟨hn, by decide⟩]

/-! ### The link of an admitted endpoint or relay node (R176) -/

theorem State.admitLink_effect {r : AdmitReq} : (s.admitLink k r).alive 0x0220 k = true ∧
    (s.admitLink k r).link k = { peerSpan := if bit r.caps 4 then r.longSpan else 0, fullDuplex := bit r.caps 2, zco := bit r.caps 0 } ∧
    (k < 2 ^ 40 → ClassesBut [0x0220] s (s.admitLink k r)) ∧ SameBut [.lin, .obj, .mbx] s (s.admitLink k r) ∧ (s.admitLink k r).lin.addrs = s.lin.addrs := by
  let v : State := (s.destroy 0x0220 k).create 0x0220 k
  let w : State := v.setNat Attr.LineLink.streams k (if bit r.caps 3 then min (max r.streams 1) 3 else 1)
  have hw : k < 2 ^ 40 → ClassesBut [0x0220] s w := fun hk =>
    have hv : ClassesBut [0x0220] s v := (classesBut_destroy (by decide) hk).trans fun _ _ _ _ => rfl
    hv.trans (classesBut_setAttr (by decide) hk)
  have hsame : SameBut [.lin, .obj, .mbx] s w := by
    have hfirst : SameBut [.lin, .obj, .mbx] s v := (sameBut_destroy.mono (by decide)).step sameBut_create
    exact hfirst.step sameBut_setNat
  refine ⟨?_, State.link_setLink, fun hk => (hw hk).trans (.of_obj rfl), hsame.step sameBut_setLink, (congrArg Line.addrs State.setNat_lin :)⟩
  exact (State.alive_congr (s := v) State.setAttr_live).trans State.alive_create

/-- A MGMT unit to a cell leaves the objects, the addresses and the links. -/
theorem State.sendMgmt_leaves {d kd l : Nat} {b : Bytes} {pr : Producer} : (s.sendMgmt c d kd b l pr).obj = s.obj ∧
    (s.sendMgmt c d kd b l pr).lin.addrs = s.lin.addrs ∧ (s.sendMgmt c d kd b l pr).lin.links = s.lin.links ∧ SameBut [.lin] s (s.sendMgmt c d kd b l pr) := by
  obtain ⟨haddrs, -, -, hlinks⟩ := State.enqueue_addrs (s := s) (p := s.nat Attr.LineCell.port c) (q := 5)
    (y := { kind := if s.isRemote c then 5 else 3, cell := c, dst16 := d, subkind := kd, body := b, link := l, producer := pr, group := d == 0xFFFF, secured := false })
  exact ⟨sameBut_sendMgmt.area .obj, haddrs, hlinks, sameBut_sendMgmt⟩

/-! ### Checks of an admission (Table 05-10) -/

/-- What an ADMIT_REQ is heard under (R207). -/
structure State.HearsAdmit (s : State) (r : AdmitReq) (p : Nat) : Prop where
  port : s.nat Attr.LineCell.port r.cell = p
  line : s.isLine r.cell = true
  open' : s.flag Attr.LineCell.admissionOpen r.cell = true
  tx : s.portTx p = true
  locator : s.cutOff 8 0 = false

theorem State.HearsAdmit.heard {r : AdmitReq} (h : s.HearsAdmit r p) :
    ¬ ((!s.isLine r.cell) = true ∨ (!s.flag Attr.LineCell.admissionOpen r.cell) = true ∨ (!s.portTx (s.nat Attr.LineCell.port r.cell)) = true ∨ s.cutOff 8 0 = true) := by
  rw [h.port, h.line, h.open', h.tx, h.locator]
  simp

theorem State.admitResult_strange {r : AdmitReq} (hrole : r.role ≠ 3) (hnone : s.known r.eui = none) : s.admitResult r = 1 := by
  unfold State.admitResult
  rw [hnone]
  exact (if_neg hrole).trans rfl

theorem State.admitResult_relay {r : AdmitReq} (hrole : r.role = 3) (hremote : s.isRemote r.cell = true) (heui : s.nat Attr.LineCell.relayEui r.cell = r.eui) :
    s.admitResult r = 0 := by
  unfold State.admitResult
  exact (if_pos hrole).trans (if_pos ⟨hremote, heui⟩)

/-- An endpoint without an address in the cell and without a path gets the lowest free address and its first path (R209, R270). -/
theorem State.admitAddr_new {r : AdmitReq} (hnone : s.addrOf r.cell h = none) (hfree : s.freeAddr r.cell = some a) (hlocks : s.elt.locks = [])
    (hfind : s.findEntry false r.eui = none) (hroom : s.elt.overflow.length < 16383) (hp : p < 16) (hpan : s.isPan r.cell = false) (hcell : r.cell < 2 ^ 40) (hh : h < 2 ^ 40) :
    ∃ t, s.admitAddr p h r = some (some a, t) ∧ t.primary h = some ⟨p, r.cell, a⟩ ∧ t.lin.addrs = Assoc.put (r.cell * 65536 + a) h s.lin.addrs ∧
      SameBut [.elt, .obj, .mbx, .recd, .que, .sto, .twn, .lin] s t ∧ t.nat Attr.EndpointProfile.role h = s.nat Attr.EndpointProfile.role h ∧
      t.nat Attr.LineCell.kind r.cell = s.nat Attr.LineCell.kind r.cell := by
  let v : State := s.assignAddr r.cell a h
  have hattr : s.cellAttr r.cell Attr.LineCell.members Attr.RadioPan.members = Attr.LineCell.members := if_neg (by simp [hpan])
  have hv : v = ({ s with lin := { s.lin with addrs := Assoc.put (r.cell * 65536 + a) h s.lin.addrs } } : State).bump 16 Attr.LineCell.members r.cell := by
    show State.bump _ 16 (s.cellAttr r.cell Attr.LineCell.members Attr.RadioPan.members) r.cell = _
    rw [hattr]
  have hattrs : AttrsBut [Attr.LineCell.members.2] s v := by
    rw [hv]
    exact (AttrsBut.of_obj (s := s) (t := { s with lin := { s.lin with addrs := Assoc.put (r.cell * 65536 + a) h s.lin.addrs } }) rfl).trans (attrsBut_setAttr (by decide))
  have hsame : SameBut [.elt, .obj, .mbx, .recd, .que, .sto, .twn, .lin] s v := by
    rw [hv]
    exact (SameBut.refl.set_lin.step sameBut_bump)
  have haddrs : v.lin.addrs = Assoc.put (r.cell * 65536 + a) h s.lin.addrs := by
    rw [hv]
    exact congrArg Line.addrs State.setNat_lin
  have helt : v.elt = s.elt := by
    rw [hv]
    exact State.setNat_elt
  obtain ⟨t, hcommit, hprim, -, -, hsteps, hclasses⟩ := State.commitPath_first (s := v) (h := h) (key := r.eui) (r := ⟨p, r.cell, a⟩) (m := r.metric) (by rw [helt]; exact hlocks)
    ((AttrsBut.findEntry hattrs helt).trans hfind) (by rw [helt]; exact hroom)
  have hport : p ≠ noPort := by
    unfold noPort
    omega
  refine ⟨t, ?_, hprim.trans (if_neg hport), (congrArg Line.addrs (hsteps.area .lin)).trans haddrs, hsame.step hsteps, ?_, ?_⟩
  · unfold State.admitAddr
    rw [hnone]
    dsimp only
    rw [hfree]
    dsimp only
    rw [show (s.assignAddr r.cell a h).commitPath h r.eui ⟨p, r.cell, a⟩ r.metric = (.done, t) from hcommit]
  · exact ((hclasses hh).nat Attr.EndpointProfile.role h hh).trans (hattrs.nat Attr.EndpointProfile.role h)
  · exact ((hclasses hh).nat Attr.LineCell.kind r.cell hcell).trans (hattrs.nat Attr.LineCell.kind r.cell)

/-! ### Forming and dissolving -/

theorem Poised.create {x i : Nat} (h : Poised t s) : Poised t (s.create x i) := h.of_mbx rfl

theorem Poised.setCell {y : Sys2Proof.Machine.Cell} (h : Poised t s) : Poised t (s.setCell c y) := h.of_mbx rfl

/-- The state after a local cell has been formed on a line port (R205). -/
def State.formLocal (s : State) (p cell slot purpose : Nat) : State :=
  let s := s.create 0x0210 cell
  let s := ((s.setNat Attr.LineCell.port cell p).setNat Attr.LineCell.kind cell 0).setNat Attr.LineCell.purpose cell purpose
  let s := (s.setNat Attr.LineCell.beaconPeriodMs cell (if purpose = 1 then 1000 else 8000)).setNat Attr.LineCell.beaconSlot cell slot
  (s.setNat Attr.LineCell.relayEui cell 0).setCell cell { held := false, restoring := false }

theorem State.formLocal_effect : (s.formLocal p cell slot purpose).isLine cell = true ∧ (s.formLocal p cell slot purpose).nat Attr.LineCell.port cell = p ∧
    (s.formLocal p cell slot purpose).nat Attr.LineCell.kind cell = 0 ∧ (s.formLocal p cell slot purpose).nat Attr.LineCell.purpose cell = purpose ∧
    (s.formLocal p cell slot purpose).nat Attr.LineCell.beaconSlot cell = slot ∧
    (s.formLocal p cell slot purpose).nat Attr.LineCell.beaconPeriodMs cell = (if purpose = 1 then 1000 else 8000) ∧
    SameBut [.mbx, .obj, .lin] s (s.formLocal p cell slot purpose) ∧ (Poised t s → Poised t (s.formLocal p cell slot purpose)) := by
  have hne : ∀ {y z : Nat × Nat} {v : State} {m : Nat}, y.2 < 256 ∧ z.2 < 256 ∧ y.2 ≠ z.2 → (v.setNat z cell m).nat y cell = v.nat y cell :=
    fun h => State.nat_setNat_ne (mkPath_ne_of_attr h)
  have hcell : ∀ {v : State} {x : Sys2Proof.Machine.Cell} (y : Nat × Nat), (v.setCell cell x).nat y cell = v.nat y cell := fun y => State.nat_congr rfl y cell
  unfold State.formLocal
  dsimp only
  refine ⟨?_, ?_, ?_, ?_, ?_, ?_, ?_, ?_⟩
  · have hlive : ∀ {y : Nat × Nat} {i m : Nat} {v : State}, (v.setNat y i m).obj.live = v.obj.live := State.setAttr_live
    refine (State.alive_congr (s := s.create 0x0210 cell) ?_).trans State.alive_create
    have hset : ∀ {v : State} {x : Sys2Proof.Machine.Cell}, (v.setCell cell x).obj.live = v.obj.live := rfl
    exact hset.trans (hlive.trans (hlive.trans (hlive.trans (hlive.trans (hlive.trans hlive)))))
  · exact (hcell _).trans ((hne (by decide)).trans ((hne (by decide)).trans ((hne (by decide)).trans ((hne (by decide)).trans ((hne (by decide)).trans State.nat_setNat)))))
  · exact (hcell _).trans ((hne (by decide)).trans ((hne (by decide)).trans ((hne (by decide)).trans ((hne (by decide)).trans State.nat_setNat))))
  · exact (hcell _).trans ((hne (by decide)).trans ((hne (by decide)).trans ((hne (by decide)).trans State.nat_setNat)))
  · exact (hcell _).trans ((hne (by decide)).trans State.nat_setNat)
  · exact (hcell _).trans ((hne (by decide)).trans ((hne (by decide)).trans State.nat_setNat))
  · have hcreate : SameBut [.mbx, .obj, .lin] s (s.create 0x0210 cell) := sameBut_create.mono (by decide)
    have hwrite : ∀ {v : State} {y : Nat × Nat} {i m : Nat}, SameBut [.mbx, .obj, .lin] s v → SameBut [.mbx, .obj, .lin] s (v.setNat y i m) := fun hv => hv.step sameBut_setNat
    exact SameBut.step (hwrite (hwrite (hwrite (hwrite (hwrite (hwrite hcreate)))))) sameBut_setCell
  · intro hp
    exact Poised.setCell (Poised.setNat (Poised.setNat (Poised.setNat (Poised.setNat (Poised.setNat (Poised.setNat hp.create))))))

theorem doCellForm_local {d : Cmd} (hact : octet d.payload 0 = 1) (hkind : octet d.payload 1 = 0) (hpur : octet d.payload 2 = purpose) (hp : octet d.payload 3 = p)
    (hcell : field d.payload 4 2 = cell) (hslot : octet d.payload 6 = slot) (hpur' : purpose ≤ 1) (hp' : p ≤ 15) (hcell' : cell ≤ 511) (hslot' : slot ≤ 15)
    (hopen : s.fencedObject 0x0201 p = false) (hlux : s.fusedOff 13 0 = false) (hwired : s.nat Attr.LinePort.wiring p ≠ 0) (hroom : (s.localCells p).length < 16)
    (hlimit : (s.instances 0x0210).countP (fun k => s.nat Attr.LineCell.kind k == 0) < s.localCellLimit) (hline : s.isLine cell = false) (hpan : s.isPan cell = false)
    (hfree : (s.localCells p).any (fun k => s.nat Attr.LineCell.beaconSlot k == slot) = false) :
    doCellForm d s = (⟨.ok, []⟩, (s.formLocal p cell slot purpose).raise 0x0507 (objPath 0x0210 cell) [(p : Int), (cell : Int), 0, (purpose : Int)]) := by
  have hlow : ¬ 16 ≤ p := by omega
  have hvals : ¬ ((1 : Nat) ≠ 1 ∨ 1 < 0 ∨ 1 < purpose ∨ 15 < p ∨ 511 < cell ∨ (0 = 0 ∧ 15 < slot)) := by omega
  have hfenced : ¬ (s.fencedObject 0x0201 p = true ∨ purpose = 1 ∧ s.fusedOff 13 0 = true) := by rw [hopen, hlux]; simp
  have htaken : ¬ (s.isLine cell = true ∨ s.isPan cell = true ∨ 0 = 0 ∧ (s.localCells p).any (fun k => s.nat Attr.LineCell.beaconSlot k == slot) = true) := by
    rw [hline, hpan, hfree]
    simp
  unfold doCellForm
  dsimp only
  rw [hact, hkind, hpur, hp, hcell, hslot]
  rw [if_neg (by decide), if_neg (fun hc => hlow hc.2.1), if_neg (fun hc => hlow hc.2.1), if_neg hvals, if_neg hfenced, if_neg hwired,
    if_neg (fun hc => hc.2.elim (Nat.not_le.2 hroom) (Nat.not_le.2 hlimit)), if_neg htaken]
  rfl

/-- The state after a line cell without addresses has been dissolved (R206). -/
def State.dissolved (s : State) (cell : Nat) : State :=
  { s.destroy 0x0210 cell with lin := { s.lin with cells := Assoc.del cell s.lin.cells } }

theorem State.dissolved_effect : (s.dissolved cell).isLine cell = false ∧ Assoc.find cell (s.dissolved cell).lin.cells = none ∧ SameBut [.obj, .lin] s (s.dissolved cell) ∧
    (Poised t s → Poised t (s.dissolved cell)) := by
  refine ⟨?_, Assoc.find_del_same, SameBut.refl.set_obj.set_lin, fun hp => hp.of_mbx rfl⟩
  show (Assoc.find _ (Assoc.del _ _)).isSome = false
  rw [Assoc.find_del_same]
  rfl

theorem State.dissolve_empty (hnone : s.cellHandles cell = []) : s.dissolve 0x0210 cell = (s.dissolved cell, 0) := by
  have hmine : s.lin.addrs.filter (fun a => a.1 / 65536 == cell) = [] := List.map_eq_nil_iff.1 hnone
  have hlanterns : s.expireLanterns cell = s := by
    unfold State.expireLanterns State.cellLanterns
    rw [hnone]
    rfl
  unfold State.dissolve
  rw [hlanterns]
  dsimp only
  rw [hmine]
  rfl

theorem doCellForm_dissolve {d : Cmd} (hact : octet d.payload 0 = 2) (hcell : field d.payload 4 2 = cell) (hline : s.isLine cell = true) (hpan : s.isPan cell = false)
    (hnone : s.cellHandles cell = []) :
    doCellForm d s = (⟨.ok, []⟩, (s.dissolved cell).raise 0x0508 (s.cellPath cell) [(s.cellPort cell : Int), (cell : Int), 0]) := by
  unfold doCellForm
  dsimp only
  rw [hact, hcell, if_pos rfl, if_neg (by simp [hline]), hpan]
  rw [show (if false = true then 0x0310 else 0x0210) = 0x0210 from rfl, State.dissolve_empty hnone]
  rfl

/-! ### Releases by command, by the endpoint, and by the idle time (R210) -/

theorem Assoc.has_of_find {α : Type} {l : List (Nat × α)} {v : α} (hf : Assoc.find k l = some v) : Assoc.has k l = true := by
  unfold Assoc.has
  rw [hf]
  rfl

theorem doShortAddressRelease_held {d : Cmd} (hcell : field d.payload 0 2 = cell) (ha : field d.payload 2 2 = a) (hfind : Assoc.find (cell * 65536 + a) s.lin.addrs = some h) :
    doShortAddressRelease d s = (⟨.ok, []⟩, s.releasePath cell a causeCommand) := by
  unfold doShortAddressRelease
  dsimp only
  rw [hcell, ha]
  exact if_pos (Assoc.has_of_find hfind)

/-! ### Admissions (R207–R209) -/

theorem length_beBytes {m v : Nat} : (beBytes m v).length = m := List.length_reverse.trans leBytes_length

theorem execAdmitReq_refused {r : AdmitReq} {res : Nat} (hh : s.HearsAdmit r p) (hres : s.admitResult r = res) (hne : res ≠ 0) :
    exec (.admitReq r) s = .next ((s.admitRefuse r res).admitResp r res 0) := by
  show execAdmitReq r s = _
  unfold execAdmitReq
  dsimp only
  rw [if_neg hh.heard, hres]
  exact if_pos hne

theorem execAdmitReq_relay {r : AdmitReq} (hh : s.HearsAdmit r p) (hres : s.admitResult r = 0) (hrole : r.role = 3) :
    exec (.admitReq r) s = .next ((s.admitLink (relayLink p r.cell) r).admitResp r 0 0) := by
  show execAdmitReq r s = _
  unfold execAdmitReq
  dsimp only
  rw [if_neg hh.heard, hres, hh.port]
  exact (if_neg (by decide)).trans (if_pos hrole)

theorem execAdmitReq_local {r : AdmitReq} (hh : s.HearsAdmit r p) (hres : s.admitResult r = 0) (hrole : r.role = 0) (hknown : s.known r.eui = some h)
    (haddr : s.admitAddr p h r = some (some a, t)) (hlocal : t.isRemote r.cell = false) :
    exec (.admitReq r) s = .next (((t.admitLink (endpointLink p h) r).admitResp r 0 a).admitEndpoint p h r) := by
  show execAdmitReq r s = _
  unfold execAdmitReq
  dsimp only
  rw [if_neg hh.heard, hres, hh.port]
  refine (if_neg (by decide)).trans ((if_neg (by omega)).trans ?_)
  rw [hknown]
  dsimp only
  rw [haddr]
  dsimp only
  rw [hlocal]
  rfl

/-- What admission enters for an endpoint that is no lantern (R208). -/
theorem State.admitEndpoint_effect {r : AdmitReq} (hh : h < 2 ^ 40) (hrole : s.nat Attr.EndpointProfile.role h ≠ 1) : (s.admitEndpoint p h r).nat Attr.EndpointProfile.capabilities h = r.caps ∧
    ClassesBut [0x0501] s (s.admitEndpoint p h r) ∧ (s.admitEndpoint p h r).obj.live = s.obj.live ∧
    (s.admitEndpoint p h r).lin.addrs = s.lin.addrs ∧ SameBut [.lin, .obj, .mbx] s (s.admitEndpoint p h r) := by
  let v : State := s.setNat Attr.EndpointProfile.capabilities h r.caps
  have hv : ClassesBut [0x0501] s v := classesBut_setAttr (by decide) hh
  have hlin : v.lin = s.lin := State.setNat_lin
  have hsame : SameBut [.lin, .obj, .mbx] s v := sameBut_setNat.mono (by decide)
  have hcaps : v.nat Attr.EndpointProfile.capabilities h = r.caps := State.nat_setNat
  have hlive : v.obj.live = s.obj.live := State.setAttr_live
  have hrole' : v.nat Attr.EndpointProfile.role h ≠ 1 := by
    have hkeep : v.nat Attr.EndpointProfile.role h = s.nat Attr.EndpointProfile.role h := State.nat_setNat_ne (mkPath_ne_of_attr (by decide))
    rwa [hkeep]
  have hform : ∃ xs, s.admitEndpoint p h r = { v with lin := { v.lin with noZco := xs } } := ⟨_, if_neg hrole'⟩
  obtain ⟨xs, hform⟩ := hform
  rw [hform]
  refine ⟨hcaps, hv.trans (.of_obj rfl), hlive, ?_, hsame.set_lin⟩
  show v.lin.addrs = s.lin.addrs
  rw [hlin]

/-- CELL_FORM of a local cell, answered (R205). -/
theorem State.Serves.cellForm_forms {d : Cmd} (hs : s.Serves d n) (ho : d.opcode = 0x0210)
    (hbody : doCellForm d s.pop = (⟨.ok, []⟩, (s.pop.formLocal p cell slot purpose).raise 0x0507 (objPath 0x0210 cell) [(p : Int), (cell : Int), 0, (purpose : Int)])) :
    Completes (exec .cellForm s) (fun t =>
      Answered s t d n .ok [] ∧ t.isLine cell = true ∧ t.nat Attr.LineCell.port cell = p ∧ t.nat Attr.LineCell.kind cell = 0 ∧
        t.nat Attr.LineCell.purpose cell = purpose ∧ t.nat Attr.LineCell.beaconSlot cell = slot ∧
        t.nat Attr.LineCell.beaconPeriodMs cell = (if purpose = 1 then 1000 else 8000) ∧
        t.recd = s.recd.ordinary ⟨0x0507, objPath 0x0210 cell, [(p : Int), (cell : Int), 0, (purpose : Int)]⟩ ∧ SameBut [.mbx, .obj, .lin, .recd] s t) := by
  obtain ⟨hline, hport, hkind, hpurpose, hslot, hperiod, hsame, hpoised⟩ := State.formLocal_effect (s := s.pop) (t := s) (p := p) (cell := cell) (slot := slot) (purpose := purpose)
  have hready := hpoised poised_pop
  generalize s.pop.formLocal p cell slot purpose = v at hbody hline hport hkind hpurpose hslot hperiod hsame hready
  obtain ⟨t, hrun, rfl, hans⟩ := hs.completes ho hbody hready.raise (Nat.zero_le _)
  have hobj : ((v.raise 0x0507 (objPath 0x0210 cell) [(p : Int), (cell : Int), 0, (purpose : Int)]).finish d ⟨.ok, []⟩).obj = v.obj := State.finish_obj
  have hnat := fun y => State.nat_congr hobj y cell
  have hrecd : v.recd = s.recd := (hsame.area .recd).trans (sameBut_pop.area .recd)
  refine ⟨_, hrun, hans, (State.alive_congr (congrArg Obj.live hobj)).trans hline, (hnat _).trans hport, (hnat _).trans hkind, (hnat _).trans hpurpose, (hnat _).trans hslot,
    (hnat _).trans hperiod, ?_, ?_⟩
  · rw [State.finish_recd]
    exact congrArg (fun x : Recorder => x.ordinary ⟨0x0507, objPath 0x0210 cell, [(p : Int), (cell : Int), 0, (purpose : Int)]⟩) hrecd
  · have hfirst : SameBut [.mbx, .obj, .lin, .recd] s v := (sameBut_pop.mono (by decide)).step hsame
    exact (hfirst.step sameBut_raise).step sameBut_finish

/-- Settles O12: each clause by the effect of its part — the cell that is formed or dissolved, the address that is released, and the admission that is refused, gives a
link to a relay node, or gives an endpoint its address and first path. -/
theorem cellsAndAddresses : Obligations.CellsAndAddresses := by
  refine ⟨?_, ?_, ?_, ?_, ?_, ?_, ?_, ?_, ?_, ?_⟩
  · intro s d n p cell slot purpose hs ho hact hkind hpur hp hcell hslot hpur' hp' hcell' hslot' hopen hlux hwired hroom hlimit hline hpan hfree
    exact hs.cellForm_forms ho (doCellForm_local hact hkind hpur hp hcell hslot hpur' hp' hcell' hslot' hopen hlux hwired hroom hlimit hline hpan hfree)
  · intro s d n cell hs ho hact hcell hline hpan hnone
    have hbody := doCellForm_dissolve (s := s.pop) hact hcell hline hpan hnone
    obtain ⟨hgone, hcells, hsame, hpoised⟩ := State.dissolved_effect (s := s.pop) (t := s) (cell := cell)
    have hready := hpoised poised_pop
    generalize s.pop.dissolved cell = v at hbody hgone hcells hsame hready
    obtain ⟨t, hrun, rfl, hans⟩ := hs.completes ho hbody hready.raise (Nat.zero_le _)
    have hfirst : SameBut [.mbx, .obj, .lin, .recd] s v := (sameBut_pop.mono (by decide)).step hsame
    refine ⟨_, hrun, hans, (State.alive_congr (congrArg Obj.live State.finish_obj)).trans hgone, ?_, (hfirst.step sameBut_raise).step sameBut_finish⟩
    exact (congrArg (fun l : Line => Assoc.find cell l.cells) State.finish_lin).trans hcells
  · intro s d n cell a h hs ho hcell ha hfind hprim
    obtain ⟨hgone, hreleased, hsame, hpoised⟩ := State.releasePath_alias (s := s.pop) (t := s) (cause := causeCommand) hfind hprim
    obtain ⟨t, hrun, rfl, hans⟩ := hs.completes ho (doShortAddressRelease_held (s := s.pop) hcell ha hfind) (hpoised poised_pop) (Nat.zero_le _)
    have hall : SameBut releaseAreas s (s.pop.releasePath cell a causeCommand) := (sameBut_pop.mono (by decide)).step hsame
    refine ⟨_, hrun, hans, ?_, ?_, hall.step sameBut_finish⟩
    · exact (congrArg (fun l : Line => Assoc.find (cell * 65536 + a) l.addrs) State.finish_lin).trans hgone
    · exact (congrArg (fun l : Line => Assoc.find (cell * 65536 + a) l.released) State.finish_lin).trans hreleased
  · intro s d n cell a h pl e hs ho hcell ha hfind hprim hentry he
    subst he
    obtain ⟨hp, hsec, hgone, hsame, hpoised⟩ := State.deleteEui_frees (s := s.pop) (t := s) (cause := causeCommand) (change := chRelease) (pl := pl) hfind
    have hpath := State.releasePath_primary (s := s.pop) (cause := causeCommand) hfind hprim hentry
    have hbody := doShortAddressRelease_held (s := s.pop) hcell ha hfind
    rw [hpath] at hbody
    have hready := hpoised poised_pop
    generalize s.pop.deleteEui pl e causeCommand chRelease = v at hbody hp hsec hgone hsame hready
    obtain ⟨t, hrun, rfl, hans⟩ := hs.completes ho hbody hready (Nat.zero_le _)
    have hobj : AttrsBut [] v (v.finish d ⟨.ok, []⟩) := .of_obj State.finish_obj
    have hall : SameBut releaseAreas s v := (sameBut_pop.mono (by decide)).step hsame
    refine ⟨_, hrun, hans, ?_, hobj.primary.trans hp, hobj.secondary.trans hsec, hall.step sameBut_finish⟩
    exact (congrArg (fun l : Line => Assoc.find (cell * 65536 + a) l.addrs) State.finish_lin).trans hgone
  · intro s c eui h a hhandle haddr hfind hprim
    obtain ⟨hgone, hreleased, hsame, -⟩ := State.releasePath_alias (s := s) (t := s) (cause := causeLeave) hfind hprim
    refine ⟨_, ?_, hgone, hreleased, hsame⟩
    show execLeave c eui s = _
    unfold execLeave
    rw [hhandle, Option.bind_some, haddr]
  · intro s c a h hdays hfind hprim
    obtain ⟨hgone, hreleased, hsame, -⟩ := State.releasePath_alias (s := s) (t := s) (cause := causeIdle) hfind hprim
    exact ⟨_, if_neg hdays, hgone, hreleased, hsame⟩
  · intro s c a hdays
    exact ⟨s, if_pos hdays, rfl⟩
  · intro s r p h a hcell hp hh hport hline hpan hkind hopen htx hcut hrole hcap hknown hrole' hprim hnone hfree hlocks hroom hentry
    have hhears : s.HearsAdmit r p := ⟨hport, hline, hopen, htx, hcut⟩
    obtain ⟨t, haddr, hprimary, haddrs, hsame, hroleT, hkindT⟩ := State.admitAddr_new (p := p) hnone hfree hlocks hentry hroom hp hpan (by omega) (by omega : h < 2 ^ 40)
    have hlocal : t.isRemote r.cell = false := by
      unfold State.isRemote
      rw [hkindT, hkind]
      exact Bool.and_false _
    have hlink : endpointLink p h < 2 ^ 40 := by
      unfold endpointLink
      omega
    obtain ⟨halive, -, hclasses, hlsame, hladdrs⟩ := State.admitLink_effect (s := t) (k := endpointLink p h) (r := r)
    replace hclasses := hclasses hlink
    let v : State := t.admitLink (endpointLink p h) r
    obtain ⟨hmobj, hmaddrs, -, hmsame⟩ := State.sendMgmt_leaves (s := v) (c := r.cell) (d := 0xFFFE) (kd := 1) (l := 0) (pr := .none)
      (b := beBytes 8 r.eui ++ beBytes 1 0 ++ [0] ++ beBytes 2 a ++ beBytes 2 r.cell ++ beBytes 2 (v.nat Attr.LineCell.leaseEpoch r.cell))
    let w : State := v.admitResp r 0 a
    have hwobj : w.obj = v.obj := hmobj
    have hwaddrs : w.lin.addrs = v.lin.addrs := hmaddrs
    have hvw : SameBut [.lin] v w := hmsame
    have hrole3 : w.nat Attr.EndpointProfile.role h ≠ 1 := by
      rw [State.nat_congr hwobj, hclasses.nat Attr.EndpointProfile.role h (by omega), hroleT]
      exact hrole'
    obtain ⟨hcaps, hattrs, hlive, headdrs, hesame⟩ := State.admitEndpoint_effect (p := p) (r := r) (by omega) hrole3
    have hpaths : v.primary h = some ⟨p, r.cell, a⟩ := by
      rw [hclasses.primary (by omega)]
      exact hprimary
    have hwpath : w.primary h = v.primary h := AttrsBut.primary (nums := []) (.of_obj hwobj)
    refine ⟨w.admitEndpoint p h r, execAdmitReq_local hhears (State.admitResult_passes hrole hknown hcap hprim) hrole hknown haddr hlocal, ?_, ?_, ?_, hcaps, ?_⟩
    · rw [headdrs, hwaddrs, hladdrs, haddrs]
      exact Assoc.find_put_same
    · exact (hattrs.primary (by omega)).trans (hwpath.trans hpaths)
    · exact (State.alive_congr hlive).trans ((State.alive_congr (congrArg Obj.live hwobj)).trans halive)
    · have hall : SameBut releaseAreas s t := hsame.mono (by decide)
      exact (((hall.step hlsame).step hvw).step hesame)
  · intro s r p hport hline hpan hkind hopen htx hcut hrole hknown hlen
    have hhears : s.HearsAdmit r p := ⟨hport, hline, hopen, htx, hcut⟩
    have hpath : s.cellPath r.cell = objPath 0x0210 r.cell := by
      unfold State.cellPath
      rw [hpan]
      rfl
    have hcellPort : s.cellPort r.cell = p := by
      unfold State.cellPort
      rw [hpan]
      exact hport
    have hrefuse : s.admitRefuse r 1 = s.raise 0x0504 (objPath 0x0210 r.cell) [(p : Int), (r.cell : Int), 1, (r.eui : Int)] := by
      unfold State.admitRefuse
      rw [hpan, hpath, hcellPort]
      rfl
    let v : State := s.raise 0x0504 (objPath 0x0210 r.cell) [(p : Int), (r.cell : Int), 1, (r.eui : Int)]
    let body : Bytes := beBytes 8 r.eui ++ beBytes 1 1 ++ [0] ++ beBytes 2 0 ++ beBytes 2 r.cell ++ beBytes 2 (s.nat Attr.LineCell.leaseEpoch r.cell)
    let u : TxUnit := { kind := 3, cell := r.cell, dst16 := 0xFFFE, subkind := 1, secured := false, body := body }
    have hvport : v.nat Attr.LineCell.port r.cell = p := hport
    have hremote : v.isRemote r.cell = false := by
      have hsk : v.nat Attr.LineCell.kind r.cell = 0 := hkind
      unfold State.isRemote
      rw [hsk]
      exact Bool.and_false _
    have hlen16 : body.length = 16 := by simp [body, length_beBytes]
    have hresp : v.admitResp r 1 0 = (v.enqueue p 5 u).2 := by
      show v.sendMgmt r.cell 0xFFFE 1 body 0 .none = _
      unfold State.sendMgmt
      rw [hvport, hremote]
      rfl
    have hfits := State.enqueue_fits (s := v) (p := p) (q := 5) (u := u) (segments_le (hlen16 ▸ by decide)) (hlen16 ▸ by decide)
    refine ⟨(v.enqueue p 5 u).2, ?_, ?_, ?_, ?_⟩
    · rw [execAdmitReq_refused hhears (State.admitResult_strange hrole hknown) (by decide), hrefuse, hresp]
    · rw [hfits]
      rfl
    · rw [hfits, State.port_setPort]
      have hget : ∀ (qs : List (List TxUnit)) (y : List TxUnit), qs.length = 8 → (qs.set 5 y).getD 5 [] = y := by
        intro qs y hq
        rw [List.getD_eq_getElem _ _ (by rw [List.length_set]; omega), List.getElem_set_self]
      exact hget _ _ hlen
    · rw [hfits]
      exact (SameBut.step (sameBut_raise.mono (by decide)) sameBut_setPort)
  · intro s r p hport hline hkind hopen htx hcut hrole heui
    have hhears : s.HearsAdmit r p := ⟨hport, hline, hopen, htx, hcut⟩
    have hremote : s.isRemote r.cell = true := by
      unfold State.isRemote
      rw [hline, hkind]
      rfl
    obtain ⟨halive, hlink, -, hsame, -⟩ := State.admitLink_effect (s := s) (k := relayLink p r.cell) (r := r)
    let v : State := s.admitLink (relayLink p r.cell) r
    obtain ⟨hobj, -, hlinks, hmgmt⟩ := State.sendMgmt_leaves (s := v) (c := r.cell) (d := 0xFFFE) (kd := 1) (l := 0) (pr := .none)
      (b := beBytes 8 r.eui ++ beBytes 1 0 ++ [0] ++ beBytes 2 0 ++ beBytes 2 r.cell ++ beBytes 2 (v.nat Attr.LineCell.leaseEpoch r.cell))
    have hkept : (v.admitResp r 0 0).link (relayLink p r.cell) = v.link (relayLink p r.cell) := State.link_congr hlinks
    refine ⟨v.admitResp r 0 0, execAdmitReq_relay hhears (State.admitResult_relay hrole hremote heui) hrole, ?_, ?_, ?_, hsame.step hmgmt⟩
    · exact (State.alive_congr (congrArg Obj.live hobj)).trans halive
    · rw [hkept, hlink]
    · rw [hkept, hlink]

end Sys2Proof.Machine
end

section
/-! What a part of an operation changes at most: the areas, and in the object store the attributes; composed step by step. -/

namespace Sys2Proof.Machine

variable {s t u : State} {areas areas' : List Area} {ys ys' : List (Nat × Nat)} {y : Nat × Nat} {i : Nat}

/-- From `s` to `t` at most these areas change and, in the object store, at most these attributes; what a command's answer needs stays. -/
structure Changes (areas : List Area) (ys : List (Nat × Nat)) (s t : State) : Prop where
  same : SameBut areas s t
  writes : ∀ (y : Nat × Nat) (i : Nat), y ∉ ys ∧ y.2 < 256 → i < 2 ^ 40 → t.attr y i = s.attr y i
  poised : ∀ x, Poised x s → Poised x t

theorem Changes.refl : Changes areas ys s s := ⟨.refl, fun _ _ _ _ => rfl, fun _ h => h⟩

/-- A change outside the object store and the mailbox. -/
theorem Changes.of_same (h : SameBut areas s t) (ha : autoParam (Area.obj ∉ areas ∧ Area.mbx ∉ areas) Nat.toPNat._auto_1) : Changes areas ys s t :=
  ⟨h, fun y i _ _ => State.attr_congr (h.area .obj ha.1) y i, fun _ hp => hp.of_mbx (h.area .mbx ha.2)⟩

theorem Changes.trans (h : Changes areas ys s t) (h' : Changes areas ys t u) : Changes areas ys s u :=
  ⟨h.same.trans h'.same, fun y i hy hi => (h'.writes y i hy hi).trans (h.writes y i hy hi), fun x hp => h'.poised x (h.poised x hp)⟩

theorem Changes.mono (h : Changes areas' ys' s t) (ha : autoParam (areas' ⊆ areas) Nat.toPNat._auto_1) (hy : autoParam (ys' ⊆ ys) Nat.toPNat._auto_1) : Changes areas ys s t :=
  ⟨h.same.mono ha, fun y i hn => h.writes y i ⟨fun hm => hn.1 (hy hm), hn.2⟩, h.poised⟩

/-- A further part, which changes no more. -/
theorem Changes.step (h : Changes areas ys s t) (h' : Changes areas' ys' t u) (ha : autoParam (areas' ⊆ areas) Nat.toPNat._auto_1) (hy : autoParam (ys' ⊆ ys) Nat.toPNat._auto_1) : Changes areas ys s u :=
  h.trans (h'.mono ha hy)

theorem Changes.ite {p : Prop} [Decidable p] (ht : Changes areas ys s t) (hu : Changes areas ys s u) : Changes areas ys s (if p then t else u) := by
  split <;> assumption

theorem Changes.foldl {α} {g : State → α → State} {xs : List α} (hg : ∀ t x, Changes areas ys t (g t x)) : Changes areas ys s (xs.foldl g s) := by
  induction xs generalizing s with
  | nil => exact .refl
  | cons x xs ih => exact (hg s x).trans ih

theorem Changes.attr (h : Changes areas ys s t) (y : Nat × Nat) (i : Nat) (hy : autoParam (y ∉ ys ∧ y.2 < 256) Nat.toPNat._auto_1) (hi : autoParam (i < 2 ^ 40) Nat.dfold._auto_1) : t.attr y i = s.attr y i :=
  h.writes y i hy hi

theorem Changes.nat (h : Changes areas ys s t) (y : Nat × Nat) (i : Nat) (hy : autoParam (y ∉ ys ∧ y.2 < 256) Nat.toPNat._auto_1) (hi : autoParam (i < 2 ^ 40) Nat.dfold._auto_1) : t.nat y i = s.nat y i := by
  simp only [State.nat, State.int, h.writes y i hy hi]

theorem Changes.int (h : Changes areas ys s t) (y : Nat × Nat) (i : Nat) (hy : autoParam (y ∉ ys ∧ y.2 < 256) Nat.toPNat._auto_1) (hi : autoParam (i < 2 ^ 40) Nat.dfold._auto_1) : t.int y i = s.int y i := by
  simp only [State.int, h.writes y i hy hi]

theorem Changes.flag (h : Changes areas ys s t) (y : Nat × Nat) (i : Nat) (hy : autoParam (y ∉ ys ∧ y.2 < 256) Nat.toPNat._auto_1) (hi : autoParam (i < 2 ^ 40) Nat.dfold._auto_1) : t.flag y i = s.flag y i := by
  simp only [State.flag, State.int, h.writes y i hy hi]

theorem Changes.cutOff (h : Changes areas ys s t) (d n : Nat) (hn : autoParam (Area.sys ∉ areas ∧ Attr.FenceUnit.fenced ∉ ys) Nat.toPNat._auto_1) (hd : autoParam (d * 256 + n < 2 ^ 40) Nat.dfold._auto_1) :
    t.cutOff d n = s.cutOff d n := by
  have hsys : t.sys = s.sys := h.same.area .sys hn.1
  have hfenced : t.fencedUnit d n = s.fencedUnit d n := h.flag Attr.FenceUnit.fenced (d * 256 + n) ⟨hn.2, by decide⟩
  simp only [State.cutOff, State.fusedOff, hsys, hfenced]

theorem Changes.sys (h : Changes areas ys s t) (ha : autoParam (Area.sys ∉ areas) Nat.toPNat._auto_1) : t.sys = s.sys := h.same.area .sys ha
theorem Changes.obj (h : Changes areas ys s t) (ha : autoParam (Area.obj ∉ areas) Nat.toPNat._auto_1) : t.obj = s.obj := h.same.area .obj ha
theorem Changes.fcr (h : Changes areas ys s t) (ha : autoParam (Area.fcr ∉ areas) Nat.toPNat._auto_1) : t.fcr = s.fcr := h.same.area .fcr ha
theorem Changes.recd (h : Changes areas ys s t) (ha : autoParam (Area.recd ∉ areas) Nat.toPNat._auto_1) : t.recd = s.recd := h.same.area .recd ha
theorem Changes.que (h : Changes areas ys s t) (ha : autoParam (Area.que ∉ areas) Nat.toPNat._auto_1) : t.que = s.que := h.same.area .que ha
theorem Changes.tim (h : Changes areas ys s t) (ha : autoParam (Area.tim ∉ areas) Nat.toPNat._auto_1) : t.tim = s.tim := h.same.area .tim ha
theorem Changes.lin (h : Changes areas ys s t) (ha : autoParam (Area.lin ∉ areas) Nat.toPNat._auto_1) : t.lin = s.lin := h.same.area .lin ha
theorem Changes.rad (h : Changes areas ys s t) (ha : autoParam (Area.rad ∉ areas) Nat.toPNat._auto_1) : t.rad = s.rad := h.same.area .rad ha
theorem Changes.elt (h : Changes areas ys s t) (ha : autoParam (Area.elt ∉ areas) Nat.toPNat._auto_1) : t.elt = s.elt := h.same.area .elt ha
theorem Changes.col (h : Changes areas ys s t) (ha : autoParam (Area.col ∉ areas) Nat.toPNat._auto_1) : t.col = s.col := h.same.area .col ha
theorem Changes.bil (h : Changes areas ys s t) (ha : autoParam (Area.bil ∉ areas) Nat.toPNat._auto_1) : t.bil = s.bil := h.same.area .bil ha
theorem Changes.bal (h : Changes areas ys s t) (ha : autoParam (Area.bal ∉ areas) Nat.toPNat._auto_1) : t.bal = s.bal := h.same.area .bal ha
theorem Changes.mea (h : Changes areas ys s t) (ha : autoParam (Area.mea ∉ areas) Nat.toPNat._auto_1) : t.mea = s.mea := h.same.area .mea ha
theorem Changes.lux (h : Changes areas ys s t) (ha : autoParam (Area.lux ∉ areas) Nat.toPNat._auto_1) : t.lux = s.lux := h.same.area .lux ha
theorem Changes.sto (h : Changes areas ys s t) (ha : autoParam (Area.sto ∉ areas) Nat.toPNat._auto_1) : t.sto = s.sto := h.same.area .sto ha
theorem Changes.glv (h : Changes areas ys s t) (ha : autoParam (Area.glv ∉ areas) Nat.toPNat._auto_1) : t.glv = s.glv := h.same.area .glv ha
theorem Changes.twn (h : Changes areas ys s t) (ha : autoParam (Area.twn ∉ areas) Nat.toPNat._auto_1) : t.twn = s.twn := h.same.area .twn ha
theorem Changes.upd (h : Changes areas ys s t) (ha : autoParam (Area.upd ∉ areas) Nat.toPNat._auto_1) : t.upd = s.upd := h.same.area .upd ha
theorem Changes.dbg (h : Changes areas ys s t) (ha : autoParam (Area.dbg ∉ areas) Nat.toPNat._auto_1) : t.dbg = s.dbg := h.same.area .dbg ha

/-- The outermost command: what a part leaves the answer leaves. -/
theorem Changes.finished {c : Cmd} {r : Reply} (h : Changes areas ys s.pop u) (hm : autoParam (Area.mbx ∈ areas) Nat.toPNat._auto_1) : SameBut areas s (u.finish c r) := by
  have hpop : SameBut areas s s.pop := sameBut_pop.mono (List.cons_subset.2 ⟨hm, List.nil_subset _⟩)
  exact (hpop.trans h.same).trans (sameBut_finish.mono (List.cons_subset.2 ⟨hm, List.nil_subset _⟩))

/-- An area that is as before is none of those that change. -/
theorem SameBut.drop {a : Area} (h : SameBut areas' s t) (ha : a.Same s t) (hl : autoParam (areas' ⊆ a :: areas) Nat.toPNat._auto_1) : SameBut areas s t := by
  refine sameBut_iff.2 ⟨fun x hx => ?_, (sameBut_iff.1 h).2⟩
  by_cases he : x = a
  · exact he ▸ ha
  · exact (sameBut_iff.1 h).1 x fun hm => (List.mem_cons.1 (hl hm)).elim he hx

/-! ### The state's operations -/

theorem changes_setAttr {v : Val} (hy : autoParam (y.2 < 256) Nat.toPNat._auto_1) (hi : autoParam (i < 2 ^ 40) Nat.dfold._auto_1) : Changes [.obj, .mbx] [y] s (s.setAttr y i v) := by
  refine ⟨sameBut_setAttr.mono (by decide), fun z j hz hj => State.attr_setAttr_ne ?_, fun _ => Poised.setAttr⟩
  obtain ⟨hne, hz⟩ := hz
  have hne : z ≠ y := fun h => hne (List.mem_singleton.2 h)
  intro hpath
  unfold mkPath at hpath
  exact hne (Prod.ext (by omega) (by omega))

theorem changes_setNat {v : Nat} (hy : autoParam (y.2 < 256) Nat.toPNat._auto_1) (hi : autoParam (i < 2 ^ 40) Nat.dfold._auto_1) : Changes [.obj, .mbx] [y] s (s.setNat y i v) := changes_setAttr hy hi

theorem changes_setInt {v : Int} (hy : autoParam (y.2 < 256) Nat.toPNat._auto_1) (hi : autoParam (i < 2 ^ 40) Nat.dfold._auto_1) : Changes [.obj, .mbx] [y] s (s.setInt y i v) := changes_setAttr hy hi

theorem changes_setFlag {v : Bool} (hy : autoParam (y.2 < 256) Nat.toPNat._auto_1) (hi : autoParam (i < 2 ^ 40) Nat.dfold._auto_1) : Changes [.obj, .mbx] [y] s (s.setFlag y i v) := changes_setAttr hy hi

theorem changes_bump {w n : Nat} (hy : autoParam (y.2 < 256) Nat.toPNat._auto_1) (hi : autoParam (i < 2 ^ 40) Nat.dfold._auto_1) : Changes [.obj, .mbx] [y] s (s.bump w y i n) := changes_setAttr hy hi

theorem changes_raise {code path : Nat} {args : List Int} : Changes [.recd] [] s (s.raise code path args) := .of_same sameBut_raise

theorem changes_raiseSafe {code path : Nat} {args : List Int} : Changes [.recd] [] s (s.raiseSafe code path args) := .of_same sameBut_raiseSafe

theorem changes_post {k : JKind} : Changes [.sto, .twn] [] s (s.post k) := .of_same sameBut_post

end Sys2Proof.Machine
end

section
/-! The disciplined domains and service time (R566–R568, R575–R579). -/

namespace Sys2Proof.Machine

variable {s t u : State} {d l i st new cause : Nat} {f : Int} {v : Servo}

/-! ### Entering a state of service time, and selecting a domain -/

theorem changes_enterTime : Changes [.obj, .mbx, .recd] [Attr.TimeService.state] s (s.enterTime st) := by
  have hset : Changes [.obj, .mbx, .recd] [Attr.TimeService.state] s (s.setNat Attr.TimeService.state 0 st) := Changes.mono changes_setNat
  unfold State.enterTime
  exact .ite hset (.ite (hset.step changes_raise) (.ite (hset.step changes_raise) hset))

theorem State.enterTime_state : (s.enterTime st).nat Attr.TimeService.state 0 = st := by
  unfold State.enterTime
  dsimp only
  split
  · exact State.nat_setNat
  · split
    · exact (State.nat_congr State.raise_obj _ _).trans State.nat_setNat
    · split
      · exact (State.nat_congr State.raise_obj _ _).trans State.nat_setNat
      · exact State.nat_setNat

/-- Only HOLDOVER is recorded when it is entered or left. -/
theorem State.enterTime_recd : (s.enterTime st).recd = if s.nat Attr.TimeService.state 0 = st then s.recd else
    if st = 3 then s.recd.ordinary ⟨0x1106, timePath, [1]⟩ else
      if s.nat Attr.TimeService.state 0 = 3 then s.recd.ordinary ⟨0x1106, timePath, [0]⟩ else s.recd := by
  have hset : (s.setNat Attr.TimeService.state 0 st).recd = s.recd := State.setNat_recd
  have hraise : ∀ args, ((s.setNat Attr.TimeService.state 0 st).raise 0x1106 timePath args).recd = s.recd.ordinary ⟨0x1106, timePath, args⟩ :=
    fun args => congrArg (fun r : Recorder => r.ordinary ⟨0x1106, timePath, args⟩) hset
  unfold State.enterTime
  dsimp only
  split
  · exact hset
  · split
    · exact hraise _
    · split
      · exact hraise _
      · exact hset

theorem changes_select : Changes [.obj, .mbx, .recd] [Attr.TimeService.selected] s (s.select i) := by
  unfold State.select
  exact .ite .refl (Changes.step (Changes.mono changes_setNat) changes_raise)

theorem State.select_effect : (s.select i).nat Attr.TimeService.selected 0 = i ∧
    (s.select i).recd = if s.nat Attr.TimeService.selected 0 = i then s.recd else s.recd.ordinary ⟨0x1104, timePath, [(s.nat Attr.TimeService.selected 0 : Int), (i : Int)]⟩ := by
  unfold State.select
  dsimp only
  split
  · next h => exact ⟨h, rfl⟩
  · exact ⟨(State.nat_congr State.raise_obj _ _).trans State.nat_setNat,
      congrArg (fun r : Recorder => r.ordinary ⟨0x1104, timePath, [(s.nat Attr.TimeService.selected 0 : Int), (i : Int)]⟩) State.setNat_recd⟩

/-- The attributes that locking to a domain sets. -/
abbrev lockAttrs : List (Nat × Nat) := [Attr.TimeService.state, Attr.TimeService.selected, Attr.TimeService.pendingOffsetNs]

/-- LOCKED to a domain: its state, its selection, and no jump pending (R576). -/
theorem State.lockTo_effect : (s.lockTo i).nat Attr.TimeService.state 0 = 2 ∧ (s.lockTo i).nat Attr.TimeService.selected 0 = i ∧ (s.lockTo i).tim = { s.tim with jump := none } ∧
    (s.lockTo i).recd = ((s.enterTime 2).select i).recd ∧
    Changes [.tim, .obj, .mbx, .recd] lockAttrs s (s.lockTo i) := by
  have henter : Changes [.obj, .mbx, .recd] [Attr.TimeService.state] s (s.enterTime 2) := changes_enterTime
  have hselect : Changes [.obj, .mbx, .recd] [Attr.TimeService.selected] (s.enterTime 2) ((s.enterTime 2).select i) := changes_select
  have hsel := (State.select_effect (s := s.enterTime 2) (i := i)).1
  have hstate : ((s.enterTime 2).select i).nat Attr.TimeService.state 0 = 2 := (hselect.nat Attr.TimeService.state 0).trans State.enterTime_state
  have hall : Changes [.tim, .obj, .mbx, .recd] lockAttrs s ((s.enterTime 2).select i) :=
    henter.mono.step hselect
  have htim : ((s.enterTime 2).select i).tim = s.tim := hselect.tim.trans henter.tim
  unfold State.lockTo
  dsimp only
  generalize (s.enterTime 2).select i = a at hsel hstate hall htim
  have hset : Changes [.obj, .mbx] [Attr.TimeService.pendingOffsetNs] a (a.setNat Attr.TimeService.pendingOffsetNs 0 0) := changes_setNat
  have hrecd : (a.setNat Attr.TimeService.pendingOffsetNs 0 0).recd = a.recd := State.setNat_recd
  have htim' : (a.setNat Attr.TimeService.pendingOffsetNs 0 0).tim = a.tim := State.setNat_tim
  have hstate' := (hset.nat Attr.TimeService.state 0).trans hstate
  have hsel' := (hset.nat Attr.TimeService.selected 0).trans hsel
  replace hall := hall.step hset
  generalize a.setNat Attr.TimeService.pendingOffsetNs 0 0 = b at hrecd htim' hstate' hsel' hall
  have hjump : Changes [.tim] [] b { b with tim := { b.tim with jump := none } } := .of_same SameBut.refl.set_tim
  exact ⟨hstate', hsel', by rw [htim', htim], hrecd, hall.step hjump⟩

/-! ### A Sync of a domain (R575) -/

/-- The state after a Sync has set a domain's counter, its servo, its attributes and its lock. -/
def State.disciplined (s : State) (d now : Nat) (v : Servo) (l : Nat) : State :=
  let s := s.setDom d now v
  let s := (s.setInt Attr.TimeDomain.freqPpb d (v.freq / 1024)).setInt Attr.TimeDomain.offsetToD2Ns d (s.domDiff d / 65536)
  s.setLock d l

/-- The attributes of a domain that a Sync sets. -/
abbrev domainAttrs : List (Nat × Nat) := [Attr.TimeDomain.freqPpb, Attr.TimeDomain.offsetToD2Ns, Attr.TimeDomain.lockState]

theorem State.setLock_effect (hd : d ≤ 1) : (s.setLock d l).nat Attr.TimeDomain.lockState d = l ∧
    Changes [.obj, .mbx, .recd] [Attr.TimeDomain.lockState] s (s.setLock d l) ∧
    (s.setLock d l).recd = if s.domLocked d = (l == 2) then s.recd else s.recd.ordinary ⟨0x1105, objPath 0x0D02 d, [(d : Int), (b2n (l == 2) : Int)]⟩ := by
  have hset : Changes [.obj, .mbx] [Attr.TimeDomain.lockState] s (s.setNat Attr.TimeDomain.lockState d l) := changes_setNat
  have hrecd : (s.setNat Attr.TimeDomain.lockState d l).recd = s.recd := State.setNat_recd
  have hlock : (s.setNat Attr.TimeDomain.lockState d l).nat Attr.TimeDomain.lockState d = l := State.nat_setNat
  unfold State.setLock
  dsimp only
  generalize s.setNat Attr.TimeDomain.lockState d l = a at hset hrecd hlock
  split
  · exact ⟨hlock, hset.mono, hrecd⟩
  · exact ⟨(State.nat_congr State.raise_obj _ _).trans hlock, hset.mono.step changes_raise,
      congrArg (fun r : Recorder => r.ordinary ⟨0x1105, objPath 0x0D02 d, [(d : Int), (b2n (l == 2) : Int)]⟩) hrecd⟩

theorem State.setLock_other {j : Nat} (h : j ≠ d) : (s.setLock d l).nat Attr.TimeDomain.lockState j = s.nat Attr.TimeDomain.lockState j := by
  have hset : (s.setNat Attr.TimeDomain.lockState d l).nat Attr.TimeDomain.lockState j = s.nat Attr.TimeDomain.lockState j := State.nat_setNat_ne (mkPath_ne_of_inst h)
  unfold State.setLock
  dsimp only
  split
  · exact hset
  · exact (State.nat_congr State.raise_obj _ _).trans hset

theorem changes_setDom {x : Nat} : Changes [.tim] [] s (s.setDom d x v) := by
  unfold State.setDom
  exact .ite (.of_same SameBut.refl.set_tim) (.of_same SameBut.refl.set_tim)

theorem State.disciplined_effect {now : Nat} (hd : d ≤ 1) : (s.disciplined d now v l).tim = (s.setDom d now v).tim ∧
    (s.disciplined d now v l).nat Attr.TimeDomain.lockState d = l ∧ (s.disciplined d now v l).int Attr.TimeDomain.freqPpb d = v.freq / 1024 ∧
    (s.disciplined d now v l).recd = (if s.domLocked d = (l == 2) then s.recd else s.recd.ordinary ⟨0x1105, objPath 0x0D02 d, [(d : Int), (b2n (l == 2) : Int)]⟩) ∧
    Changes [.tim, .obj, .mbx, .recd] domainAttrs s (s.disciplined d now v l) := by
  have hdom : Changes [.tim] [] s (s.setDom d now v) := changes_setDom
  unfold State.disciplined
  dsimp only
  generalize s.setDom d now v = a at hdom
  have hfreq : Changes [.obj, .mbx] [Attr.TimeDomain.freqPpb] a (a.setInt Attr.TimeDomain.freqPpb d (v.freq / 1024)) := changes_setInt
  have hval : (a.setInt Attr.TimeDomain.freqPpb d (v.freq / 1024)).int Attr.TimeDomain.freqPpb d = v.freq / 1024 := State.int_setInt
  have hoff : ∀ b : State, Changes [.obj, .mbx] [Attr.TimeDomain.offsetToD2Ns] b (b.setInt Attr.TimeDomain.offsetToD2Ns d (a.domDiff d / 65536)) := fun b => changes_setInt
  have hwrites : Changes [.obj, .mbx] [Attr.TimeDomain.freqPpb, Attr.TimeDomain.offsetToD2Ns] a _ := hfreq.mono.step (hoff _)
  replace hval := ((hoff _).int Attr.TimeDomain.freqPpb d).trans hval
  generalize (a.setInt Attr.TimeDomain.freqPpb d (v.freq / 1024)).setInt Attr.TimeDomain.offsetToD2Ns d (a.domDiff d / 65536) = b at hwrites hval
  obtain ⟨hlock, hchange, hrecd⟩ := State.setLock_effect (s := b) (l := l) hd
  have hrecdB : b.recd = s.recd := hwrites.recd.trans hdom.recd
  have hwas : b.domLocked d = s.domLocked d := by
    simp only [State.domLocked, hwrites.nat Attr.TimeDomain.lockState d, hdom.nat Attr.TimeDomain.lockState d]
  rw [hrecdB, hwas] at hrecd
  exact ⟨hchange.tim.trans hwrites.tim, hlock, (hchange.int Attr.TimeDomain.freqPpb d).trans hval, hrecd, (hdom.mono.step hwrites).step hchange⟩

/-- Where the domain is usable and the selected one is D0, the selection stays with D0, and nothing is pending (R576). -/
theorem State.selectDomain_first (hmode : s.sys.mode ≠ .shadow) (hst : s.nat Attr.TimeService.state 0 = 2) (hsel : s.nat Attr.TimeService.selected 0 = 0) (huse : s.domUsable 0 = true) :
    s.selectDomain = ({ s with tim := { s.tim with revert := none } } : State).lockTo 0 := by
  have huse' : ({ s with tim := { s.tim with revert := none } } : State).domUsable 0 = true := huse
  unfold State.selectDomain
  dsimp only
  rw [if_neg hmode, hst, hsel, if_neg (by decide)]
  exact if_pos ⟨huse', rfl⟩

/-- Where no domain is LOCKED the service holds over (R576). -/
theorem State.selectDomain_none (hmode : s.sys.mode ≠ .shadow) (hst : s.nat Attr.TimeService.state 0 = 2) (hsel : s.nat Attr.TimeService.selected 0 = 0)
    (h0 : s.domLocked 0 = false) (h1 : s.domLocked 1 = false) :
    ∃ a : State, Changes [.tim] [] s a ∧ a.tim.d2 = s.tim.d2 ∧ s.selectDomain =
      { ((a.enterTime 3).select 0xFF).setNat Attr.TimeService.pendingOffsetNs 0 0 with
        tim := { (((a.enterTime 3).select 0xFF).setNat Attr.TimeService.pendingOffsetNs 0 0).tim with jump := none } } := by
  let a : State := { s with tim := { s.tim with revert := none } }
  have ha0 : a.domLocked 0 = false := h0
  have ha1 : a.domLocked 1 = false := h1
  have hu0 : a.domUsable 0 = false := by simp [State.domUsable, ha0]
  have hu1 : a.domUsable 1 = false := by simp [State.domUsable, ha1]
  have hnone : a.lockedDom = none := by simp [State.lockedDom, ha0, ha1]
  refine ⟨a, .of_same SameBut.refl.set_tim, rfl, ?_⟩
  have hpick : (if 0 < 2 ∧ a.domLocked 0 = true then some 0 else a.lockedDom) = none := by
    rw [ha0, hnone]
    rfl
  unfold State.selectDomain
  dsimp only
  rw [if_neg hmode, hst, hsel, if_neg (by decide)]
  refine (if_neg (fun hc => ?_)).trans ((if_neg (fun hc => ?_)).trans ?_)
  · exact Bool.false_ne_true (hu0.symm.trans hc.1)
  · exact Bool.false_ne_true (hu1.symm.trans hc)
  · rw [show (if 0 < 2 ∧ ({ s with tim := { s.tim with revert := if (0 == 1 && s.domUsable 0) = true then s.tim.revert.or (some s.tim.d3) else none } } : State).domLocked 0 = true then
      some 0 else ({ s with tim := { s.tim with revert := if (0 == 1 && s.domUsable 0) = true then s.tim.revert.or (some s.tim.d3) else none } } : State).lockedDom) = none from hpick]
    rfl

/-! ### A step of service time (R579, R581) -/

/-- A step changes no more than time, its attributes, events and the journal, where MEA's inputs are not wired, LUX is off, and billing has nothing to do. -/
theorem State.stepConsequences_idle {old : Nat} (hin : s.flag Attr.MeasurementService.inputsWired 0 = false) (hcut : s.cutOff 13 0 = true)
    (hbill : ((new : Int) - old).natAbs ≤ s.jumpLimit ∨ (s.bil.cals = [] ∧ s.bil.executed = [] ∧ new ≤ old)) : s.stepConsequences false old new = s := by
  have hhead : s.headStep (old / sec 1 / 900) (new / sec 1 / 900) = s := if_pos (.inl (by simp [hin]))
  unfold State.stepConsequences
  dsimp only
  rw [if_neg Bool.false_ne_true, hhead]
  have hbilling : (if s.jumpLimit < ((new : Int) - old).natAbs then s.billingStep (old / sec 1) (new / sec 1) else s) = s := by
    rcases hbill with hsmall | ⟨hcals, hexec, hback⟩
    · exact if_neg (Nat.not_lt.2 hsmall)
    · have hidle : s.billingStep (old / sec 1) (new / sec 1) = s := by
        unfold State.billingStep
        dsimp only
        rw [hcals, List.foldl_nil, if_neg (Nat.not_lt.2 (Nat.div_le_div_right hback)), hexec]
        exact if_neg (by simp)
      rw [hidle]
      exact ite_self s
  rw [hbilling]
  exact if_pos hcut

/-- An event, then the anchor, then the journal entry (R581, R582). -/
theorem State.anchored_recd {code : Nat} {args : List Int} {k : JKind} : (((s.raise code timePath args).anchor cause).post k).recd =
    (s.recd.ordinary ⟨code, timePath, args⟩).ordinary
      ⟨0x1101, timePath, [((splitTime s.tim.d2).1 : Int), ((splitTime s.tim.d2).2 : Int), (s.nat Attr.TimeService.state 0 : Int), (cause : Int)]⟩ := State.post_recd

/-- The attributes of the time service that a step sets. -/
abbrev stepAttrs : List (Nat × Nat) := [Attr.TimeService.state, Attr.TimeService.pendingOffsetNs, Attr.TimeService.steps]

theorem State.commitStep_effect (hset : s.unset = false) (hin : s.flag Attr.MeasurementService.inputsWired 0 = false) (hcut : s.cutOff 13 0 = true)
    (hbill : ((new : Int) - s.tim.d2).natAbs ≤ s.jumpLimit ∨ (s.bil.cals = [] ∧ s.bil.executed = [] ∧ new ≤ s.tim.d2)) :
    (s.commitStep new st cause).tim = { s.tim with d2 := new, slew := 0, jump := none, alignDue := true } ∧
    (s.commitStep new st cause).nat Attr.TimeService.state 0 = st ∧
    (s.commitStep new st cause).nat Attr.TimeService.steps 0 = (s.nat Attr.TimeService.steps 0 + 1) % 2 ^ 32 ∧
    (s.commitStep new st cause).nat Attr.TimeService.pendingOffsetNs 0 = 0 ∧
    (s.commitStep new st cause).recd = ((s.enterTime st).recd.ordinary ⟨0x1103, timePath, [(s.tim.d2 / sec 1 : Nat), (new / sec 1 : Nat)]⟩).ordinary
      ⟨0x1101, timePath, [((splitTime new).1 : Int), ((splitTime new).2 : Int), (st : Int), (cause : Int)]⟩ ∧
    Changes [.tim, .obj, .mbx, .recd, .sto, .twn] stepAttrs s (s.commitStep new st cause) := by
  let a : State := { s with tim := { s.tim with d2 := new, slew := 0, jump := none, alignDue := true } }
  let b : State := a.bump 32 Attr.TimeService.steps 0
  let d : State := (b.enterTime st).setNat Attr.TimeService.pendingOffsetNs 0 0
  let e : State := (((d.raise 0x1103 timePath [(s.tim.d2 : Int) / (sec 1 : Nat), (new : Int) / (sec 1 : Nat)]).anchor cause).post (.timeStep s.tim.d2 new))
  have ha : Changes [.tim] [] s a := .of_same SameBut.refl.set_tim
  have hb : Changes [.obj, .mbx] [Attr.TimeService.steps] a b := changes_bump
  have hsteps : b.nat Attr.TimeService.steps 0 = (s.nat Attr.TimeService.steps 0 + 1) % 2 ^ 32 := State.nat_bump
  have hrecdB : b.recd = s.recd := hb.recd
  have hstB : b.nat Attr.TimeService.state 0 = s.nat Attr.TimeService.state 0 := hb.nat Attr.TimeService.state 0
  have hbt : Changes [.obj, .mbx, .recd] [Attr.TimeService.state] b (b.enterTime st) := changes_enterTime
  have hstate := State.enterTime_state (s := b) (st := st)
  have hrecdT : (b.enterTime st).recd = (s.enterTime st).recd := by rw [State.enterTime_recd, State.enterTime_recd, hrecdB, hstB]
  have htd : Changes [.obj, .mbx] [Attr.TimeService.pendingOffsetNs] (b.enterTime st) d := changes_setNat
  have hzero : d.nat Attr.TimeService.pendingOffsetNs 0 = 0 := State.nat_setNat
  have hd : Changes [.tim, .obj, .mbx, .recd] stepAttrs s d := ((ha.mono.step hb).step hbt).step htd
  have htimD : d.tim = a.tim := htd.tim.trans (hbt.tim.trans hb.tim)
  have hstateD : d.nat Attr.TimeService.state 0 = st := (htd.nat Attr.TimeService.state 0).trans hstate
  have hstepsD : d.nat Attr.TimeService.steps 0 = (s.nat Attr.TimeService.steps 0 + 1) % 2 ^ 32 :=
    (htd.nat Attr.TimeService.steps 0).trans ((hbt.nat Attr.TimeService.steps 0).trans hsteps)
  have hrecdD : d.recd = (s.enterTime st).recd := htd.recd.trans hrecdT
  have hform : s.commitStep new st cause = e.stepConsequences s.unset s.tim.d2 new := rfl
  have hde : Changes [.recd, .sto, .twn] [] d e := ((changes_raise.mono).step changes_raise).step changes_post
  have hall : Changes [.tim, .obj, .mbx, .recd, .sto, .twn] stepAttrs s e := hd.mono.step hde
  have hrecd := State.anchored_recd (s := d) (code := 0x1103) (args := [(s.tim.d2 : Int) / (sec 1 : Nat), (new : Int) / (sec 1 : Nat)]) (cause := cause) (k := .timeStep s.tim.d2 new)
  rw [htimD, hstateD, hrecdD, ← Int.natCast_ediv, ← Int.natCast_ediv] at hrecd
  have hrecdE : e.recd = _ := hrecd
  have hlimit : e.jumpLimit = s.jumpLimit := by simp only [State.jumpLimit, hall.nat Attr.TimeService.jumpThresholdNs 0]
  have hbil : e.bil = s.bil := hall.bil
  have hidle : e.stepConsequences false s.tim.d2 new = e := State.stepConsequences_idle ((hall.flag Attr.MeasurementService.inputsWired 0).trans hin) ((hall.cutOff 13 0).trans hcut)
    (by rw [hlimit, hbil]; exact hbill)
  have hcommit : s.commitStep new st cause = e := by rw [hform, hset, hidle]
  clear_value e
  subst hcommit
  exact ⟨hde.tim.trans htimD, (hde.nat Attr.TimeService.state 0).trans hstateD, (hde.nat Attr.TimeService.steps 0).trans hstepsD,
    (hde.nat Attr.TimeService.pendingOffsetNs 0).trans hzero, hrecdE, hall⟩

/-! ### Syncs -/

/-- A good Sync: its offset is within the lock limit (R575). -/
theorem execPtpSync_good {master : Nat} (hd : d ≤ 1) (harr : s.syncArrives d = true) (hoff : ((s.dom d : Int) - master).natAbs ≤ s.nat Attr.TimeDomain.lockNs d * 65536)
    (hgood : (s.servo d).good < 16) (hl : (if s.domLocked d = true then 2 else if (s.servo d).good = 15 then 2 else 1) = l)
    (hv : v = { s.servo d with freq := clampRate f, good := (s.servo d).good + 1, bad := 0, had := (s.servo d).had || l == 2 })
    (ht : (s.disciplined d (s.dom d) v l).selectDomain = t) :
    exec (.ptpSync d master f false) s = .next (if t.nat Attr.TimeService.state 0 = 2 ∧ t.nat Attr.TimeService.selected 0 = d ∧ t.sys.mode ≠ .shadow then
      t.follow (clampRate f) (t.domDiff d) else t) := by
  have hlim : ¬ 10 * (s.nat Attr.TimeDomain.lockNs d * 65536) < ((s.dom d : Int) - master).natAbs := by omega
  have hmin : min ((s.servo d).good + 1) 16 = (s.servo d).good + 1 := by omega
  have hlock : (if s.domLocked d = true then (if 4 ≤ 0 then 0 else 2) else if 16 ≤ (s.servo d).good + 1 then 2 else 1) = l := by
    have hfull : (if 16 ≤ (s.servo d).good + 1 then 2 else 1) = if (s.servo d).good = 15 then 2 else 1 := if_congr (by omega) rfl rfl
    rw [hfull]
    exact hl
  subst ht hv
  show execPtpSync d master f false s = _
  unfold execPtpSync
  dsimp only
  rw [if_neg (by omega), if_neg (by rw [harr]; simp; omega)]
  simp only [if_pos hoff, if_neg hlim, if_neg Bool.false_ne_true, hmin, if_neg (fun h : false = true ∧ (s.servo d).had = true => Bool.false_ne_true h.1), hlock]
  rfl

/-- What a counter and a servo that have been set read. -/
theorem State.setDom_reads (ht : t.tim = (s.setDom d (s.dom d) v).tim) (hd : d ≤ 1) : t.dom d = s.dom d ∧ t.servo d = v ∧ t.tim.d2 = s.tim.d2 := by
  unfold State.dom State.servo
  rw [ht]
  rcases Nat.le_one_iff_eq_zero_or_eq_one.1 hd with rfl | rfl <;> exact ⟨rfl, rfl, rfl⟩

/-- Settles O33: a Sync disciplines its domain and the selection follows; a loss, a revert and a step act through the same parts. -/
theorem disciplinedTime : Obligations.DisciplinedTime := by
  refine ⟨?_, ?_, ?_, ?_, ?_, ?_⟩
  · intro s d master freq hd harr hmode hunlocked hoff hgood
    let l : Nat := if (s.servo d).good = 15 then 2 else 1
    let v : Servo := { s.servo d with freq := clampRate freq, good := (s.servo d).good + 1, bad := 0, had := (s.servo d).had || l == 2 }
    have hl : (if s.domLocked d = true then 2 else l) = l := if_neg (by simp [hunlocked])
    obtain ⟨htim, hlock, hfreq, hrecd, hchange⟩ := State.disciplined_effect (s := s) (now := s.dom d) (v := v) (l := l) hd
    have hstay : (s.disciplined d (s.dom d) v l).selectDomain = s.disciplined d (s.dom d) v l := if_pos ((congrArg Sys.mode hchange.sys).trans hmode)
    have hrun := execPtpSync_good hd harr hoff hgood hl rfl hstay
    generalize s.disciplined d (s.dom d) v l = t at htim hlock hfreq hrecd hchange hrun
    have hshadow : t.sys.mode = .shadow := (congrArg Sys.mode hchange.sys).trans hmode
    rw [if_neg (fun h => h.2.2 hshadow)] at hrun
    obtain ⟨hdom, hservo, hd2⟩ := State.setDom_reads (s := s) (v := v) htim hd
    refine ⟨t, hrun, hdom, congrArg Servo.freq hservo, congrArg Servo.good hservo, hlock, hfreq, hrecd.trans ?_, hd2, hchange.same⟩
    rw [hunlocked]
    by_cases h15 : (s.servo d).good = 15
    · simp [l, h15, b2n]
    · simp [l, h15]
  · intro s master freq harr hmode hst hsel huse hgood hoff
    have hlocked : s.domLocked 0 = true := (Bool.and_eq_true_iff.1 huse).1
    let v : Servo := { s.tim.s0 with freq := clampRate freq, good := s.tim.s0.good + 1, bad := 0, had := s.tim.s0.had || (2 == 2) }
    obtain ⟨htim, hlock, -, hrecd, hchange⟩ := State.disciplined_effect (s := s) (d := 0) (now := s.dom 0) (v := v) (l := 2) (by omega)
    have hrun := fun t => execPtpSync_good (t := t) (Nat.zero_le 1) harr hoff hgood (if_pos hlocked) (v := v) rfl
    generalize s.disciplined 0 (s.dom 0) v 2 = a at htim hlock hrecd hchange hrun
    have hmode' : a.sys.mode ≠ .shadow := by
      rw [hchange.sys, hmode]
      decide
    have hst' : a.nat Attr.TimeService.state 0 = 2 := (hchange.nat Attr.TimeService.state 0).trans hst
    have hsel' : a.nat Attr.TimeService.selected 0 = 0 := (hchange.nat Attr.TimeService.selected 0).trans hsel
    have hdiff : a.domDiff 0 = s.domDiff 0 := by
      unfold State.domDiff State.dom
      rw [htim]
      rfl
    have huse' : a.domUsable 0 = true := by
      have hlimit : a.jumpLimit = s.jumpLimit := by simp only [State.jumpLimit, hchange.nat Attr.TimeService.jumpThresholdNs 0]
      have hnear := (Bool.and_eq_true_iff.1 huse).2
      unfold State.domUsable State.domLocked
      rw [hlock, hdiff, hlimit, hnear]
      rfl
    have hsd := State.selectDomain_first hmode' hst' hsel' huse'
    let b : State := { a with tim := { a.tim with revert := none } }
    have hab : Changes [.tim] [] a b := .of_same SameBut.refl.set_tim
    obtain ⟨hstate, hselected, htimT, hrecdT, hchangeT⟩ := State.lockTo_effect (s := b) (i := 0)
    have hrun := hrun _ hsd
    have hstB : b.nat Attr.TimeService.state 0 = 2 := hst'
    have henter : Changes [.obj, .mbx, .recd] [Attr.TimeService.state] b (b.enterTime 2) := changes_enterTime
    have hselB : (b.enterTime 2).nat Attr.TimeService.selected 0 = 0 := (henter.nat Attr.TimeService.selected 0).trans hsel'
    have hrecdL : (b.lockTo 0).recd = s.recd := by
      rw [hrecdT, State.select_effect.2, hselB, if_pos rfl, State.enterTime_recd, hstB, if_pos rfl]
      refine hrecd.trans ?_
      rw [hlocked]
      exact if_pos rfl
    have hmodeT : (b.lockTo 0).sys.mode ≠ .shadow := by
      rw [hchangeT.sys]
      exact hmode'
    replace hrun : exec (.ptpSync 0 master freq false) s = .next ((b.lockTo 0).follow (clampRate freq) ((b.lockTo 0).domDiff 0)) :=
      hrun.trans (congrArg Host.Outcome.next (if_pos ⟨hstate, hselected, hmodeT⟩))
    have hall : Changes [.tim, .obj, .mbx, .recd] (domainAttrs ++ lockAttrs) s (b.lockTo 0) := ((hchange.mono).step hab).step hchangeT
    have htimB : b.tim = { s.tim with s0 := v, revert := none } := congrArg (fun y : Time => { y with revert := none }) htim
    rw [htimB] at htimT
    generalize b.lockTo 0 = w at hrun hstate hselected htimT hrecdL hall
    refine ⟨_, hrun, ?_, hstate, hselected, ?_⟩
    · have hdiffW : w.domDiff 0 = (s.tim.d0 : Int) - s.tim.d2 := by
        unfold State.domDiff State.dom
        rw [htimT]
        rfl
      show ({ w.tim with s2 := { w.tim.s2 with freq := clampRate freq }, slew := w.domDiff 0 * rateUnit } : Time) = _
      rw [hdiffW, htimT]
      simp [v]
    · exact (hall.same.drop (areas := [.tim, .obj, .mbx]) (a := .recd) hrecdL).set_tim
  · intro s master freq steps hmode hcut hcut'
    refine ⟨s.follow (clampRate freq) ((master : Int) - s.tim.d2), ?_, rfl, SameBut.refl.set_tim⟩
    show execPtpSync 2 master freq steps s = _
    unfold execPtpSync
    rw [if_pos rfl, if_pos ⟨hmode, by simp [hcut], by simp [hcut']⟩]
  · intro s hmode hst hsel h0 h1
    have hlive : s.nat Attr.TimeDomain.lockState 0 ≠ 0 := by
      have h2 : s.nat Attr.TimeDomain.lockState 0 = 2 := eq_of_beq h0
      omega
    let a : State := s.setDom 0 (s.dom 0) { s.servo 0 with good := 0, bad := 0 }
    have ha : Changes [.tim] [] s a := changes_setDom
    have hd2 : a.tim.d2 = s.tim.d2 := rfl
    have hrun : exec (.domainLossTimeout 0) s = .next ((a.setLock 0 0).selectDomain) := if_neg (by omega)
    obtain ⟨hlock, hchange, hrecd⟩ := State.setLock_effect (s := a) (d := 0) (l := 0) (by omega)
    have hwas : a.domLocked 0 = true := h0
    rw [hwas] at hrecd
    have hother : (a.setLock 0 0).nat Attr.TimeDomain.lockState 1 = s.nat Attr.TimeDomain.lockState 1 :=
      (State.setLock_other (by decide)).trans (ha.nat Attr.TimeDomain.lockState 1)
    generalize a.setLock 0 0 = b at hrun hlock hchange hrecd hother
    have hb : Changes [.tim, .obj, .mbx, .recd] [Attr.TimeDomain.lockState] s b := ha.mono.step hchange
    have hsysB : b.sys = s.sys := hb.sys
    obtain ⟨e, he, hde, hsd⟩ := State.selectDomain_none (s := b) (by rw [hsysB]; exact hmode) ((hb.nat Attr.TimeService.state 0).trans hst)
      ((hb.nat Attr.TimeService.selected 0).trans hsel) (by unfold State.domLocked; rw [hlock]; rfl) (by unfold State.domLocked; rw [hother]; exact h1)
    rw [hsd] at hrun
    have hstE : e.nat Attr.TimeService.state 0 = 2 := (he.nat Attr.TimeService.state 0).trans ((hb.nat Attr.TimeService.state 0).trans hst)
    have henter : Changes [.obj, .mbx, .recd] [Attr.TimeService.state] e (e.enterTime 3) := changes_enterTime
    have hselE : (e.enterTime 3).nat Attr.TimeService.selected 0 = 0 :=
      (henter.nat Attr.TimeService.selected 0).trans ((he.nat Attr.TimeService.selected 0).trans ((hb.nat Attr.TimeService.selected 0).trans hsel))
    have hselect : Changes [.obj, .mbx, .recd] [Attr.TimeService.selected] (e.enterTime 3) ((e.enterTime 3).select 0xFF) := changes_select
    obtain ⟨hselected, hrecdS⟩ := State.select_effect (s := e.enterTime 3) (i := 0xFF)
    have hstate : ((e.enterTime 3).select 0xFF).nat Attr.TimeService.state 0 = 3 := (hselect.nat Attr.TimeService.state 0).trans State.enterTime_state
    have hloss : Changes [.tim, .obj, .mbx, .recd] [Attr.TimeDomain.lockState, Attr.TimeService.state, Attr.TimeService.selected] s ((e.enterTime 3).select 0xFF) :=
      ((hb.mono.step he).step henter).step hselect
    have hd2E : ((e.enterTime 3).select 0xFF).tim.d2 = s.tim.d2 := by
      rw [hselect.tim, henter.tim, hde, hchange.tim]
      exact hd2
    have hlockE : ((e.enterTime 3).select 0xFF).nat Attr.TimeDomain.lockState 0 = 0 :=
      (hselect.nat Attr.TimeDomain.lockState 0).trans ((henter.nat Attr.TimeDomain.lockState 0).trans ((he.nat Attr.TimeDomain.lockState 0).trans hlock))
    rw [hselE, State.enterTime_recd, hstE, he.recd, hrecd, ha.recd] at hrecdS
    generalize (e.enterTime 3).select 0xFF = w at hrun hselected hstate hloss hrecdS hd2E hlockE
    have hzero : Changes [.obj, .mbx] [Attr.TimeService.pendingOffsetNs] w (w.setNat Attr.TimeService.pendingOffsetNs 0 0) := changes_setNat
    refine ⟨_, hrun, (hzero.nat Attr.TimeDomain.lockState 0).trans hlockE, (hzero.nat Attr.TimeService.state 0).trans hstate,
      (hzero.nat Attr.TimeService.selected 0).trans hselected, ?_, ?_, ?_⟩
    · exact (congrArg Time.d2 hzero.tim).trans hd2E
    · exact hzero.recd.trans hrecdS
    · exact ((hloss.same.step hzero.same).set_tim)
  · intro s hmode hst hsel huse
    let a : State := { s with tim := { s.tim with revert := none } }
    obtain ⟨hstate, hselected, htim, hrecd, hchange⟩ := State.lockTo_effect (s := a) (i := 0)
    have ha : Changes [.tim] [] s a := .of_same SameBut.refl.set_tim
    have hrun : exec .domainRevert s = .next (a.lockTo 0) := if_pos ⟨hsel, huse, hmode⟩
    have henter : Changes [.obj, .mbx, .recd] [Attr.TimeService.state] a (a.enterTime 2) := changes_enterTime
    have hsel' : (a.enterTime 2).nat Attr.TimeService.selected 0 = 1 := (henter.nat Attr.TimeService.selected 0).trans hsel
    have hst' : a.nat Attr.TimeService.state 0 = 2 := hst
    refine ⟨a.lockTo 0, hrun, hselected, hstate, htim, hrecd.trans ?_, (ha.mono.trans hchange).same⟩
    rw [State.select_effect.2, hsel', State.enterTime_recd, hst']
    rfl
  · intro s hst hauto hmode hin hcut hcals hexec hback
    have hset : s.unset = false := by simp [State.unset, hst]
    obtain ⟨htim, hstate, hsteps, hzero, hrecd, hchange⟩ := State.commitStep_effect (st := 2) (cause := 1) hset hin hcut (.inr ⟨hcals, hexec, hback⟩)
    have hmay : s.mayStep = true := by simp [State.mayStep, hmode]
    have hrun : exec .autoStep s = .next (s.commitStep s.pendingStep 2 1) := if_pos ⟨hst, hauto, hmay⟩
    refine ⟨_, hrun, htim, hstate, hsteps, hzero, hrecd.trans ?_, hchange.same⟩
    rw [State.enterTime_recd, hst]
    rfl

end Sys2Proof.Machine
end

section
/-! Steps by command, PTP and anchors (R572, R573, R579–R582). -/

namespace Sys2Proof.Machine

variable {s t u : State} {n new p : Nat} {c : Cmd}

theorem doTimeStep_set (hmode : octet c.payload 0 = 1) (hserv : s.sys.mode = .service) (hfree : s.lockedDom = none) (hst : s.nat Attr.TimeService.state 0 = 3)
    (hsec : field c.payload 4 8 < 2 ^ 48) (hns : field c.payload 12 4 < 1000000000) (hnew : sec (field c.payload 4 8) + field c.payload 12 4 * 65536 = new)
    (hmax : ((new : Int) - s.tim.d2).natAbs ≤ sec (s.nat Attr.TimeService.stepMaxS 0)) : doTimeStep c s = (⟨.ok, []⟩, s.commitStep new 3 1) := by
  unfold doTimeStep
  dsimp only
  rw [hmode, if_neg (by decide), if_pos rfl, if_neg (by simp [State.mayStep, hserv, hfree]), if_neg (by omega), hnew, if_neg (Nat.not_lt.2 hmax), hst]
  rfl

theorem doTimeStep_locked (hmode : octet c.payload 0 = 1) (hlocked : s.lockedDom.isSome = true) : doTimeStep c s = (⟨.refused, []⟩, s) := by
  unfold doTimeStep
  dsimp only
  rw [hmode, if_neg (by decide), if_pos rfl]
  exact if_pos (.inr hlocked)

theorem doTimeStep_nothing (hmode : octet c.payload 0 = 0) (hst : s.nat Attr.TimeService.state 0 ≠ 4) : doTimeStep c s = (⟨.notFound, []⟩, s) := by
  unfold doTimeStep
  dsimp only
  rw [hmode, if_pos rfl]
  exact if_pos hst

/-- A port that serves as boundary clock sends its Sync (R571, R573). -/
theorem execBoundaryClockSync_serves (hp : p < 8) (hmaster : s.flag Attr.PtpPort.master p = true) (hport : s.cutOff 7 p = false) (htim : s.cutOff 17 0 = false)
    (h0 : s.nat Attr.TimeDomain.sourcePort 0 ≠ p) (h1 : s.nat Attr.TimeDomain.sourcePort 1 ≠ p) :
    exec (.boundaryClockSync p) s = .next { s with tim := { s.tim with served := s.tim.served ++
      [(p, if s.nat Attr.TimeService.state 0 = 2 then 6 else if s.nat Attr.TimeService.state 0 = 3 then 7 else 248,
        if s.nat Attr.TimeService.state 0 = 4 then none else some s.tim.d2)] } } := by
  refine if_neg ?_
  rw [hmaster, hport, htim]
  simp [hp, h0, h1]

/-- Settles O34: the step of a command is `State.commitStep_effect`; the other rows of TIM act at once. -/
theorem timeStepsAndPtp : Obligations.TimeStepsAndPtp := by
  refine ⟨?_, ?_, ?_, ?_, ?_, ?_, ?_, ?_⟩
  · intro s c n new hs ho hmode hserv hfree hst hsec hns hnew hmax hjump hin hcut
    have hset : s.pop.unset = false := by
      have hst' : s.pop.nat Attr.TimeService.state 0 = 3 := hst
      unfold State.unset
      rw [hst']
      rfl
    obtain ⟨htim, hstate, hsteps, -, -, hchange⟩ := State.commitStep_effect (s := s.pop) (new := new) (st := 3) (cause := 1) hset hin hcut (.inl hjump)
    obtain ⟨t, hrun, rfl, hans⟩ := hs.completes ho (doTimeStep_set (s := s.pop) hmode hserv hfree hst hsec hns hnew hmax) (hchange.poised s poised_pop) (Nat.zero_le _)
    have hobj : ∀ y, ((s.pop.commitStep new 3 1).finish c ⟨.ok, []⟩).nat y 0 = (s.pop.commitStep new 3 1).nat y 0 := fun y => State.nat_congr State.finish_obj y 0
    have hfin : Changes [.tim, .obj, .mbx, .recd, .sto, .twn] stepAttrs s.pop (s.pop.commitStep new 3 1) := hchange
    refine ⟨_, hrun, hans, State.finish_tim.trans htim, (hobj _).trans hstate, (hobj _).trans hsteps, hfin.finished.mono (by decide)⟩
  · intro s c n hs ho hmode hlocked
    exact State.Serves.completes_unchanged (b := doTimeStep) hs ho (doTimeStep_locked hmode hlocked) (Nat.zero_le _)
  · intro s c n hs ho hmode hst
    exact State.Serves.completes_unchanged (b := doTimeStep) hs ho (doTimeStep_nothing hmode hst) (Nat.zero_le _)
  · intro s pin pout at3 correction delay sync hin hout hcin hcout
    have hrun : exec (.ptpBridge pin pout at3 correction delay sync) s = .next { s with tim := { s.tim with bridged := s.tim.bridged ++
        [(pout, correction + ((s.tim.d3 : Int) - at3) +
          (if ((s.nat Attr.PtpPort.profile pin == 2 || s.nat Attr.PtpPort.profile pin == 3) && sync) = true then delay else 0))] } } := by
      refine if_neg ?_
      rw [hcin, hcout]
      simp
      omega
    refine ⟨_, hrun, ?_, SameBut.refl.set_tim⟩
    simp
  · intro s p hp hmaster hport htim h0 h1 hst
    have hrun := execBoundaryClockSync_serves hp hmaster hport htim h0 h1
    rw [hst] at hrun
    exact ⟨_, hrun, rfl, SameBut.refl.set_tim⟩
  · intro s p hp hmaster hport htim h0 h1 hst
    have hrun := execBoundaryClockSync_serves hp hmaster hport htim h0 h1
    rw [hst] at hrun
    exact ⟨_, hrun, rfl, SameBut.refl.set_tim⟩
  · exact fun s ins => ⟨_, rfl, rfl, SameBut.refl.set_tim⟩
  · exact fun s => ⟨_, rfl, rfl, sameBut_raise⟩

end Sys2Proof.Machine
end

section
/-! What sending and receiving on a Cobor link leaves: links and messages out change, and nothing else (R642–R645). -/

namespace Sys2Proof.Machine

variable {s t u : State} {l j ty q n : Nat} {b : Bytes} {k : CLink} {m : Cobor} {again : Bool}

/-! ### Links and messages out -/

/-- From `s` to `t` only links, messages out and the count of free values have changed. -/
structure Linked (s t : State) : Prop where
  parts : ∃ (ls : List (Nat × CLink)) (os : List CoborOut) (c : Nat), t = { s with twn := { s.twn with links := ls, out := os }, freeCtr := c }

theorem Linked.refl : Linked s s := ⟨_, _, _, rfl⟩

theorem Linked.trans (h : Linked s t) (h' : Linked t u) : Linked s u := by
  obtain ⟨_, _, _, rfl⟩ := h
  obtain ⟨_, _, _, rfl⟩ := h'
  exact ⟨_, _, _, rfl⟩

theorem Linked.ite {p : Prop} [Decidable p] (ht : Linked s t) (hu : Linked s u) : Linked s (if p then t else u) := by split <;> assumption

theorem Linked.foldl {α} {g : State → α → State} {xs : List α} (hg : ∀ t x, Linked t (g t x)) : Linked s (xs.foldl g s) := by
  induction xs generalizing s with
  | nil => exact .refl
  | cons x xs ih => exact (hg s x).trans ih

theorem Linked.same (h : Linked s t) : SameBut [.twn] s t := by
  obtain ⟨_, _, _, rfl⟩ := h
  exact SameBut.refl.set_twn

theorem Linked.changes (h : Linked s t) : Changes [.twn] [] s t := .of_same h.same

theorem Linked.obj (h : Linked s t) : t.obj = s.obj := h.same.area .obj

theorem Linked.twn (h : Linked s t) : t.twn = { s.twn with links := t.twn.links, out := t.twn.out } := by
  obtain ⟨_, _, _, rfl⟩ := h
  rfl

theorem Linked.cutOff {d i : Nat} (h : Linked s t) : t.cutOff d i = s.cutOff d i := by
  obtain ⟨_, _, _, rfl⟩ := h
  rfl

theorem Linked.d3 (h : Linked s t) : t.tim = s.tim := h.same.area .tim

theorem linked_setClink : Linked s (s.setClink l k) := ⟨_, _, _, rfl⟩

theorem State.clink_setClink : (s.setClink l k).clink l = k := congrArg (fun x : Option CLink => x.getD {}) Assoc.find_put_same

theorem State.clink_setClink_ne (h : j ≠ l) : (s.setClink l k).clink j = s.clink j := congrArg (fun x : Option CLink => x.getD {}) (Assoc.find_put_ne h)

theorem State.clink_congr (h : t.twn.links = s.twn.links) : t.clink l = s.clink l := by simp only [State.clink, h]

/-! ### Sending -/

theorem linked_emit : Linked s (s.emit l ty q again b) := ⟨_, _, _, rfl⟩

/-- A message goes out under the next nonce counter and carries the acknowledgement owed (R643, R645). -/
theorem State.emit_effect : (s.emit l ty q again b).clink l = { s.clink l with nonce := (s.clink l).nonce + 1, sentAt := s.tim.d3, owed := false } ∧
    (s.emit l ty q again b).twn.out = s.twn.out ++ [⟨l, ty, again, (s.clink l).nonce + 1, q, (s.clink l).rxSeq, b⟩] :=
  ⟨State.clink_setClink (s := s), rfl⟩

theorem linked_sendNow : Linked s (s.sendNow l ty b) := linked_setClink.trans linked_emit

theorem State.sendNow_effect : (s.sendNow l ty b).clink l = (s.clink l).sends ty b s.tim.d3 ∧
    (s.sendNow l ty b).twn.out = s.twn.out ++ [⟨l, ty, false, (s.clink l).nonce + 1, (s.clink l).seq + 1, (s.clink l).rxSeq, b⟩] := by
  let v : State := s.setClink l { s.clink l with seq := (s.clink l).seq + 1, unacked := (s.clink l).unacked ++ [((s.clink l).seq + 1, ty, b, s.tim.d3)] }
  have hv : v.clink l = { s.clink l with seq := (s.clink l).seq + 1, unacked := (s.clink l).unacked ++ [((s.clink l).seq + 1, ty, b, s.tim.d3)] } := State.clink_setClink
  obtain ⟨hlink, hout⟩ := State.emit_effect (s := v) (l := l) (ty := ty) (q := (s.clink l).seq + 1) (again := false) (b := b)
  rw [hv] at hlink hout
  exact ⟨hlink, hout⟩

theorem linked_pumpLink : Linked s (s.pumpLink l) := by
  unfold State.pumpLink
  exact linked_setClink.trans (.foldl fun _ _ => linked_sendNow)

/-- A link on which nothing waits sends nothing. -/
theorem State.pumpLink_idle (h : (s.clink l).waiting = []) : (s.pumpLink l).clink l = s.clink l ∧ (s.pumpLink l).twn.out = s.twn.out := by
  have hform : ∀ i, ((s.clink l).waiting.take i).foldl (fun s x => State.sendNow s l x.1 x.2) (s.setClink l { s.clink l with waiting := (s.clink l).waiting.drop i }) =
      s.setClink l { s.clink l with waiting := [] } := by
    intro i
    rw [h, List.take_nil, List.drop_nil]
    rfl
  unfold State.pumpLink
  dsimp only
  rw [hform]
  refine ⟨State.clink_setClink.trans ?_, rfl⟩
  rw [← h]

theorem linked_sendReliable : Linked s (s.sendReliable l ty b) := linked_setClink.trans linked_pumpLink

/-- On a link that can send at once a reliable message takes the next sequence and goes (R645). -/
theorem State.sendReliable_effect (h : s.Sends l) : (s.sendReliable l ty b).clink l = (s.clink l).sends ty b s.tim.d3 ∧
    (s.sendReliable l ty b).twn.out = s.twn.out ++ [⟨l, ty, false, (s.clink l).nonce + 1, (s.clink l).seq + 1, (s.clink l).rxSeq, b⟩] := by
  let v : State := s.setClink l { s.clink l with waiting := (s.clink l).waiting ++ [(ty, b)] }
  have hv : v.clink l = { s.clink l with waiting := [(ty, b)] } := by
    refine State.clink_setClink.trans ?_
    rw [h.waits]
    rfl
  have hopen : v.linkOpen l = true := by
    have hready := h.ready
    unfold State.linkOpen at hready ⊢
    rw [hv]
    exact hready
  let w : State := v.setClink l { v.clink l with waiting := [] }
  have hw : w.clink l = s.clink l := by
    refine State.clink_setClink.trans ?_
    rw [hv]
    have hwaits := h.waits
    show { s.clink l with waiting := [] } = s.clink l
    rw [← hwaits]
  have hpos : ∃ i, 4096 - (v.clink l).unacked.length = i + 1 := by
    rw [hv]
    have hroom := h.room
    show ∃ i, 4096 - (s.clink l).unacked.length = i + 1
    exact ⟨4095 - (s.clink l).unacked.length, by omega⟩
  have hpump : v.pumpLink l = w.sendNow l ty b := by
    obtain ⟨i, hi⟩ := hpos
    unfold State.pumpLink
    dsimp only
    rw [if_pos hopen, hi]
    rw [show (v.clink l).waiting = [(ty, b)] from congrArg CLink.waiting hv, List.take_succ_cons, List.take_nil, List.drop_succ_cons, List.drop_nil]
    rfl
  have hsend : s.sendReliable l ty b = w.sendNow l ty b := hpump
  obtain ⟨hlink, hout⟩ := State.sendNow_effect (s := w) (l := l) (ty := ty) (b := b)
  rw [hw] at hlink hout
  rw [hsend]
  exact ⟨hlink, hout⟩

theorem linked_sendPlain : Linked s (s.sendPlain l ty b) := by
  unfold State.sendPlain
  exact .ite linked_emit .refl

theorem State.sendPlain_open (h : s.linkOpen l = true) : s.sendPlain l ty b = s.emit l ty 0 false b := if_pos h

theorem linked_sendOpen : Linked s (s.sendOpen l ty b) := by
  unfold State.sendOpen
  exact .ite .refl linked_emit

theorem State.sendOpen_served (h : s.cutOff 19 0 = false) : s.sendOpen l ty b = s.emit l ty 0 false b := if_neg (by simp [h])

theorem linked_advertise : Linked s (s.advertise l) := linked_sendOpen

theorem linked_drawn : Linked s s.drawn := ⟨_, _, _, rfl⟩

theorem linked_sendKeyAgree : Linked s (s.sendKeyAgree l) := ((linked_drawn.trans linked_setClink).trans linked_advertise).trans linked_sendOpen

/-- KEY_AGREE and the ADVERTISE that precedes it take two nonce counters (R644). -/
theorem State.sendKeyAgree_effect (h : s.cutOff 19 0 = false) :
    (s.sendKeyAgree l).clink l = { s.clink l with asked := true, nonce := (s.clink l).nonce + 2, sentAt := s.tim.d3, owed := false } ∧
      ∃ x y : CoborOut, (s.sendKeyAgree l).twn.out = s.twn.out ++ [x, y] ∧ x.type = 1 ∧ x.nonce = (s.clink l).nonce + 1 ∧ x.link = l ∧ y.type = 2 ∧
        y.nonce = (s.clink l).nonce + 2 ∧ y.link = l := by
  let v : State := s.drawn.setClink l { s.clink l with asked := true }
  have hv : v.clink l = { s.clink l with asked := true } := State.clink_setClink
  have hcutV : v.cutOff 19 0 = false := (linked_drawn.trans linked_setClink).cutOff.trans h
  have hadv : ∃ x, v.advertise l = v.emit l 1 0 false x := ⟨_, State.sendOpen_served hcutV⟩
  obtain ⟨x, hadv⟩ := hadv
  obtain ⟨hlink, hout⟩ := State.emit_effect (s := v) (l := l) (ty := 1) (q := 0) (again := false) (b := x)
  have hcutW : (v.emit l 1 0 false x).cutOff 19 0 = false := linked_emit.cutOff.trans hcutV
  have hagree : ∃ y, s.sendKeyAgree l = (v.emit l 1 0 false x).emit l 2 0 false y := by
    rw [← hadv] at hcutW ⊢
    exact ⟨_, State.sendOpen_served hcutW⟩
  obtain ⟨y, hagree⟩ := hagree
  obtain ⟨hlink', hout'⟩ := State.emit_effect (s := v.emit l 1 0 false x) (l := l) (ty := 2) (q := 0) (again := false) (b := y)
  have hd3 : (v.emit l 1 0 false x).tim.d3 = s.tim.d3 := rfl
  rw [hlink, hv, hd3] at hlink'
  rw [hlink, hout, hv] at hout'
  rw [hagree]
  refine ⟨hlink', ⟨l, 1, false, (s.clink l).nonce + 1, 0, (s.clink l).rxSeq, x⟩, ⟨l, 2, false, (s.clink l).nonce + 2, 0, (s.clink l).rxSeq, y⟩, ?_, rfl, rfl, rfl, rfl, rfl, rfl⟩
  rw [hout', List.append_assoc]
  rfl

/-! ### Receiving -/

theorem linked_heardOn : Linked s (s.heardOn m) := linked_setClink.trans linked_pumpLink

theorem State.heardOn_effect (hwaits : (s.clink m.link).waiting = []) :
    (s.heardOn m).clink m.link = { s.heardLink m with unacked := (s.clink m.link).unacked.filter (fun x => decide (m.acked < x.1)) } ∧ (s.heardOn m).twn.out = s.twn.out := by
  let v : State := s.setClink m.link { s.clink m.link with up := true, heardAt := s.tim.d3, unacked := (s.clink m.link).unacked.filter (fun x => decide (m.acked < x.1)) }
  have hv : v.clink m.link = { s.heardLink m with unacked := (s.clink m.link).unacked.filter (fun x => decide (m.acked < x.1)) } := State.clink_setClink
  obtain ⟨hlink, hout⟩ := State.pumpLink_idle (s := v) (l := m.link) (by rw [hv]; exact hwaits)
  exact ⟨hlink.trans hv, hout⟩

theorem State.heardOn_acked (hsent : (s.clink m.link).unacked = []) (hwaits : (s.clink m.link).waiting = []) :
    (s.heardOn m).clink m.link = s.heardLink m ∧ (s.heardOn m).twn.out = s.twn.out := by
  obtain ⟨hlink, hout⟩ := State.heardOn_effect (s := s) (m := m) hwaits
  refine ⟨hlink.trans ?_, hout⟩
  rw [hsent]
  show { s.heardLink m with unacked := [] } = s.heardLink m
  rw [← hsent]
  rfl

/-- A message that is taken is heard first; then its type decides (R645). -/
theorem State.coborIn_heard {deliver : Nat → Cobor → State → State} (hserved : s.cutOff 19 0 = false) (hsize : m.body.length ≤ bodyLimit m.link)
    (hkey : 2 < ty → m.tagOk = true ∧ (s.clink m.link).keyed = true) (hty : ty < 0x10) : s.coborIn deliver ty m = deliver ty m (s.heardOn m) := by
  unfold State.coborIn
  rw [if_neg (by rw [hserved]; simp; omega), if_neg (by rintro ⟨h2, hbad⟩; obtain ⟨ht, hk⟩ := hkey h2; simp [ht, hk] at hbad)]
  exact if_pos hty

/-- A reliable message is delivered, held or passed over by its sequence (R645). -/
theorem State.coborIn_reliable {deliver : Nat → Cobor → State → State} (h : s.Hears m) (hty : 0x10 ≤ ty) :
    ∃ v : State, Linked s v ∧ v.clink m.link = s.heardLink m ∧ v.twn.out = s.twn.out ∧ s.coborIn deliver ty m =
      if m.seq ≤ (s.clink m.link).rxSeq then v.setClink m.link { s.heardLink m with owed := true }
      else if m.seq = (s.clink m.link).rxSeq + 1 then
        State.drainHeld deliver m.link (s.clink m.link).held.length
          (deliver ty m ((v.setClink m.link { s.heardLink m with owed := true }).setClink m.link { s.heardLink m with owed := true, rxSeq := (s.clink m.link).rxSeq + 1 }))
      else if (s.clink m.link).held.length < 4096 ∧ (!(s.clink m.link).held.any (fun x => x.2.seq == m.seq)) = true then
        (v.setClink m.link { s.heardLink m with owed := true }).setClink m.link { s.heardLink m with owed := true, held := (s.clink m.link).held ++ [(ty, m)] }
      else v.setClink m.link { s.heardLink m with owed := true } := by
  obtain ⟨hlink, hout⟩ := State.heardOn_acked (s := s) (m := m) h.sent h.waits
  refine ⟨s.heardOn m, linked_heardOn, hlink, hout, ?_⟩
  unfold State.coborIn
  rw [if_neg (by rw [h.served]; simp [h.size]), if_neg (by simp [h.tag, h.keyed])]
  dsimp only
  rw [if_neg (by omega), hlink]
  rfl

/-- A reliable message in its turn is delivered once, where none is held (R645). -/
theorem State.coborIn_turn {deliver : Nat → Cobor → State → State} (h : s.InTurn m) (hty : 0x10 ≤ ty) :
    ∃ v : State, s.coborIn deliver ty m = deliver ty m v ∧ Linked s v ∧ v.clink m.link = s.turnLink m ∧ v.twn.out = s.twn.out := by
  obtain ⟨v, hv, -, hout, hrun⟩ := State.coborIn_reliable (deliver := deliver) h.hears hty
  rw [if_neg (by have := h.next; omega), if_pos h.next, h.held] at hrun
  refine ⟨_, hrun, (hv.trans linked_setClink).trans linked_setClink, State.clink_setClink.trans ?_, hout⟩
  unfold State.turnLink
  rw [h.next]

/-- A link on which a message has been heard can send at once. -/
theorem State.InTurn.sends (h : s.InTurn m) (hv : Linked s u) (hlink : u.clink m.link = s.turnLink m) : u.Sends m.link := by
  refine ⟨?_, ?_, ?_⟩
  · unfold State.linkOpen
    rw [hlink, hv.cutOff, h.hears.served]
    show (true && (s.clink m.link).keyed && true) = true
    rw [h.hears.keyed]
    rfl
  · rw [hlink]
    exact h.hears.waits
  · rw [hlink]
    show (s.clink m.link).unacked.length < 4096
    rw [h.hears.sent]
    decide

end Sys2Proof.Machine
end

section
/-! Cobor links: messages that arrive, and what a chip sends of its own (R605, R624, R632, R638, R642–R645). -/

namespace Sys2Proof.Machine

variable {s t u : State} {l n a e : Nat} {m : Cobor} {k : CLink} {st : Status} {data : Bytes}

/-! ### Completing a command that waits -/

/-- A command that completes waits no longer, whether its session is open or not. -/
theorem State.completeCmd_awaiting : (s.completeCmd a st data).mbx.awaiting = s.mbx.awaiting.filter (fun y => y.arrival != a) ∧
    Changes [.mbx] [] s (s.completeCmd a st data) := by
  unfold State.completeCmd
  split
  · next hnone =>
    refine ⟨(List.filter_eq_self.2 fun y hy => ?_).symm, .refl⟩
    simpa using List.find?_eq_none.1 hnone y hy
  · next x hsome =>
    dsimp only
    split
    · refine ⟨(congrArg Mailbox.awaiting Mailbox.notify_unnotified :), SameBut.refl.set_mbx, fun y i _ _ => rfl, fun p hp => ?_⟩
      have hmid : Poised p { s with mbx := { s.mbx with awaiting := s.mbx.awaiting.filter (fun y => y.arrival != a) } } := ⟨hp.pairs, hp.repeats, hp.taken⟩
      exact hmid.of_unnotified Mailbox.notify_unnotified
    · exact ⟨rfl, SameBut.refl.set_mbx, fun y i _ _ => rfl, fun p hp => ⟨hp.pairs, hp.repeats, hp.taken⟩⟩

theorem changes_refreshProvision : Changes [.obj, .mbx] [Attr.SystemMode.provisionState] s s.refreshProvision := changes_setNat

theorem State.setAttr_awaiting {y : Nat × Nat} {i : Nat} {v : Val} : (s.setAttr y i v).mbx.awaiting = s.mbx.awaiting :=
  (congrArg Mailbox.awaiting State.setAttr_unnotified :)

/-! ### ADVERTISE and KEY_AGREE (R605, R644) -/

/-- Members of another EUI keep their versions. -/
theorem State.advertised_members {b : Bytes} {v : Val} {js : List Nat} (h : ∀ j ∈ js, s.nat Attr.FederationMember.eui j ≠ field b 0 8) :
    js.foldl (fun s j => if s.nat Attr.FederationMember.eui j = field b 0 8 then s.setAttr Attr.FederationMember.versions j v else s) s = s := by
  induction js with
  | nil => rfl
  | cons j js ih =>
    rw [List.foldl_cons, if_neg (h j List.mem_cons_self)]
    exact ih fun i hi => h i (List.mem_cons_of_mem _ hi)

theorem State.takeAdvertise_stranger {trial : Bool} (hnone : ∀ j ∈ s.instances 0x0E20, s.nat Attr.FederationMember.eui j ≠ field m.body 0 8) (htwin : s.twinned = false)
    (hpair : s.twn.pairing = none) (hseed : m.link ≠ seedLink) :
    s.takeAdvertise m trial = s.setClink m.link { s.clink m.link with peer := some (field m.body 0 8, advertised m.body), trial := trial } := by
  let v : State := s.setClink m.link { s.clink m.link with peer := some (field m.body 0 8, advertised m.body), trial := trial }
  have hfold := State.advertised_members (s := v) (v := .bytes (advertised m.body)) (js := s.instances 0x0E20) hnone
  have hidle : ¬ (m.link = v.pairLink ∧ (v.twinned = true ∨ v.twn.pairing.isSome = true)) := by
    rintro ⟨-, ht | hp⟩
    · exact Bool.false_ne_true (htwin.symm.trans ht)
    · exact Bool.false_ne_true ((congrArg Option.isSome hpair).symm.trans hp)
  unfold State.takeAdvertise
  dsimp only
  rw [show (s.setClink m.link { s.clink m.link with peer := some (field m.body 0 8, advertised m.body), trial := trial }).instances 0x0E20 = s.instances 0x0E20 from rfl]
  rw [hfold]
  exact (if_neg hidle).trans (if_neg fun hc => hseed hc.1)

/-- The link after a KEY_AGREE of an attested peer, which this side had asked for. -/
def State.keyedLink (s : State) (l : Nat) : CLink := { s.clink l with keyed := true, keyedAt := s.tim.d3, asked := false, nonce := 0 }

/-- The state after the link of a KEY_AGREE has its key. -/
def State.keyAgreed (s : State) (l : Nat) : State := (s.setClink l (s.keyedLink l)).pumpLink l

theorem State.keyAgreed_effect (hwaits : (s.clink l).waiting = []) : (s.keyAgreed l).clink l = s.keyedLink l ∧ Linked s (s.keyAgreed l) := by
  have hlink : (s.setClink l (s.keyedLink l)).clink l = s.keyedLink l := State.clink_setClink
  exact ⟨(State.pumpLink_idle (by rw [hlink]; exact hwaits)).1.trans hlink, linked_setClink.trans linked_pumpLink⟩

theorem State.takeKeyAgree_stranger (htwin : s.twinned = false) (hpair : s.twn.pairing = none) (hasked : (s.clink m.link).asked = true) :
    s.takeKeyAgree m =
      if Config.attested (field (slice m.body 0 296) 8 8) (slice m.body 0 296) (slice m.body 296 96) (slice m.body 392 96) = true then s.keyAgreed m.link else s := by
  unfold State.takeKeyAgree
  dsimp only
  rw [hpair]
  dsimp only
  rw [htwin, Bool.and_false, if_neg Bool.false_ne_true, hasked]
  by_cases hatt : Config.attested (field (slice m.body 0 296) 8 8) (slice m.body 0 296) (slice m.body 296 96) (slice m.body 392 96) = true
  · rw [if_neg (by simp [hatt]), if_pos hatt, if_pos rfl]
    have hkept : ((s.setClink m.link (s.keyedLink m.link)).pumpLink m.link).twn.pairing = none := by
      rw [(linked_setClink.trans linked_pumpLink).twn (s := s)]
      exact hpair
    show (match ((s.setClink m.link (s.keyedLink m.link)).pumpLink m.link).twn.pairing with | some (e, a) => _ | none => _) = _
    rw [hkept]
    rfl
  · rw [if_pos (by simp [hatt]), if_neg hatt]

/-- The pair's key: the partner's EUI is known, and the PAIR under way completes (R605). -/
theorem State.takeKeyAgree_paired (hlink : m.link = s.pairLink) (hpair : s.twn.pairing = some (e, a)) (heui : field (slice m.body 0 296) 8 8 = e)
    (hasked : (s.clink m.link).asked = true) :
    s.takeKeyAgree m =
      if Config.attested e (slice m.body 0 296) (slice m.body 296 96) (slice m.body 392 96) = true then
        ((((s.keyAgreed m.link).setNat Attr.TwinPair.partnerEui 0 e).setTwn
          { ((s.keyAgreed m.link).setNat Attr.TwinPair.partnerEui 0 e).twn with pairing := none }).completeCmd a .ok []).refreshProvision
      else s := by
  have hsame : (m.link == s.pairLink) = true := beq_iff_eq.2 hlink
  unfold State.takeKeyAgree
  dsimp only
  rw [hpair]
  dsimp only
  simp only [hsame, if_pos, hasked]
  by_cases hatt : Config.attested e (slice m.body 0 296) (slice m.body 296 96) (slice m.body 392 96) = true
  · rw [if_neg (by simp [hatt, heui]), if_pos hatt]
    have hkept : ((s.setClink m.link (s.keyedLink m.link)).pumpLink m.link).twn.pairing = some (e, a) := by
      rw [(linked_setClink.trans linked_pumpLink).twn (s := s)]
      exact hpair
    show (match ((s.setClink m.link (s.keyedLink m.link)).pumpLink m.link).twn.pairing with | some (e, a) => _ | none => _) = _
    rw [hkept]
    rfl
  · rw [if_pos (by simp [hatt]), if_neg hatt]

/-! ### HEARTBEAT (R104, R624, R632) -/

/-- The state after a member has been heard (R632). -/
def State.memberHeard (s : State) (m : Cobor) (rtt : Nat) : State :=
  { s with
    twn := { s.twn with heard := Assoc.put m.sender s.tim.d3 s.twn.heard, distance := Assoc.put m.sender rtt s.twn.distance }
    sys := { s.sys with federationAt := some s.tim.d3 } }

theorem State.takeHeartbeat_member {rtt : Nat} (hsender : m.sender ≠ 0xFFFF) (hother : m.sender ≠ s.twn.self) (hlink : m.link ≠ s.pairLink) :
    s.takeHeartbeat m rtt = s.memberHeard m rtt := by
  unfold State.takeHeartbeat
  dsimp only
  simp only [if_pos (⟨hsender, hother⟩ : m.sender ≠ 0xFFFF ∧ m.sender ≠ s.twn.self)]
  exact if_neg fun hc => hlink hc.1

/-- The partner's heartbeat at a standby (R624). -/
theorem State.takeHeartbeat_partner {rtt : Nat} (hsender : m.sender = 0xFFFF) (hlink : m.link = s.pairLink) (htwin : s.twinned = true) (hrole : s.nat Attr.TwinPair.role 0 = 2)
    (hactive : octet m.body 11 = 1) (hlo : 1 ≤ octet m.body 12) (hhi : octet m.body 12 ≤ 3) (hcmd : s.twn.castleCmd = none) :
    s.takeHeartbeat m rtt = (s.setTwn { s.twn with partner := some (octet m.body 10, 1, field m.body 18 8) }).setPairState (octet m.body 12) := by
  let v : State := s.setTwn { s.twn with partner := some (octet m.body 10, 1, field m.body 18 8) }
  have hset : Changes [.obj, .mbx] [Attr.TwinPair.pairState] v (v.setPairState (octet m.body 12)) := changes_setNat
  have hstandby : (v.setPairState (octet m.body 12)).active = false := by
    unfold State.active
    rw [hset.nat Attr.TwinPair.role 0, show v.nat Attr.TwinPair.role 0 = 2 from hrole]
    rfl
  have hcmd' : (v.setPairState (octet m.body 12)).twn.castleCmd = none := by
    rw [hset.twn]
    exact hcmd
  unfold State.takeHeartbeat
  dsimp only
  simp only [if_neg (fun hc : m.sender ≠ 0xFFFF ∧ m.sender ≠ s.twn.self => hc.1 hsender)]
  have hpair : (if v.nat Attr.TwinPair.role 0 = 2 ∧ 1 = 1 ∧ 1 ≤ octet m.body 12 ∧ octet m.body 12 ≤ 3 then v.setPairState (octet m.body 12) else v) =
    v.setPairState (octet m.body 12) := if_pos ⟨hrole, rfl, hlo, hhi⟩
  rw [if_pos ⟨hlink, htwin⟩, hactive, hpair]
  rw [if_neg (by rw [hstandby]; exact Bool.false_ne_true), hcmd']

/-! ### The pair link goes down (R624, R626, R645) -/

theorem State.dropLink_effect : (s.dropLink l).clink l =
    { s.clink l with
      up := false, keyed := false, asked := false, seq := 0, rxSeq := 0, held := [], owed := false, unacked := [],
      waiting := (s.clink l).unacked.map (fun x => (x.2.1, x.2.2.1)) ++ (s.clink l).waiting } := State.clink_setClink

/-! ### The links -/

/-- ADVERTISE and KEY_AGREE need no key (R644). -/
theorem State.coborIn_open {ty : Nat} {deliver : Nat → Cobor → State → State} (hserved : s.cutOff 19 0 = false) (hsize : m.body.length ≤ bodyLimit m.link) (hty : ty ≤ 2) :
    s.coborIn deliver ty m = deliver ty m (s.heardOn m) :=
  State.coborIn_heard hserved hsize (fun h => absurd h (by omega)) (by omega)

/-- Settles O36: what arrives is heard, then delivered, held or passed over; each row that sends does so through `State.emit_effect`. -/
theorem coborLinks : Obligations.CoborLinks := by
  refine ⟨?_, ?_, ?_, ?_, ?_, ?_, ?_, ?_, ?_, ?_, ?_, ?_, ?_, ?_, ?_, ?_⟩
  · intro s m hserved hsize htag hkeyed hwaits
    obtain ⟨hlink, hout⟩ := State.heardOn_effect (s := s) (m := m) hwaits
    exact ⟨_, congrArg Host.Outcome.next (State.coborIn_heard hserved hsize (fun _ => ⟨htag, hkeyed⟩) (by decide)), hlink, hout, linked_heardOn.same⟩
  · intro s m hserved hsize htag
    refine ⟨s.bump 32 Attr.Federation.coborAuthFails 0, congrArg Host.Outcome.next ?_, State.nat_bump, sameBut_bump.mono (by decide)⟩
    unfold State.coborIn
    rw [if_neg (by rw [hserved]; simp [hsize]), if_pos ⟨by decide, .inl (by simp [htag])⟩]
  · intro s m hfenced
    exact ⟨s, congrArg Host.Outcome.next (if_pos (.inl hfenced)), rfl⟩
  · intro s m hh hold
    obtain ⟨v, hv, -, hout, hrun⟩ := State.coborIn_reliable (deliver := deliverCobor) (ty := 0x10) hh (by decide)
    rw [if_pos hold] at hrun
    exact ⟨_, congrArg Host.Outcome.next hrun, State.clink_setClink, hout, (hv.trans linked_setClink).same⟩
  · intro s m hh hgap hheld
    obtain ⟨v, hv, -, hout, hrun⟩ := State.coborIn_reliable (deliver := deliverCobor) (ty := 0x10) hh (by decide)
    rw [if_neg (by omega), if_neg (by omega), hheld, if_pos ⟨by decide, rfl⟩] at hrun
    exact ⟨_, congrArg Host.Outcome.next hrun, State.clink_setClink, hout, ((hv.trans linked_setClink).trans linked_setClink).same⟩
  · intro s m trial hserved hsize hsent hwaits hnone htwin hpair hseed
    obtain ⟨hlink, -⟩ := State.heardOn_acked hsent hwaits
    have hh : Linked s (s.heardOn m) := linked_heardOn
    have htake : (s.heardOn m).takeAdvertise m trial = _ := State.takeAdvertise_stranger (by
        intro j hj
        rw [State.nat_congr hh.obj]
        exact hnone j (by rwa [State.instances, hh.obj] at hj)) (by
        unfold State.twinned
        rw [State.nat_congr hh.obj]
        exact htwin) (by rw [hh.twn]; exact hpair) hseed
    have hrun : exec (.advertise m trial) s = .next ((s.heardOn m).takeAdvertise m trial) := congrArg Host.Outcome.next (State.coborIn_open hserved hsize (by decide))
    rw [htake, hlink] at hrun
    exact ⟨_, hrun, State.clink_setClink, (hh.trans linked_setClink).same⟩
  · intro s m hserved hsize hsent hwaits hasked htwin hpair
    obtain ⟨hlink, -⟩ := State.heardOn_acked hsent hwaits
    have hh : Linked s (s.heardOn m) := linked_heardOn
    have htake := State.takeKeyAgree_stranger (s := s.heardOn m) (m := m) (by
        unfold State.twinned
        rw [State.nat_congr hh.obj]
        exact htwin) (by rw [hh.twn]; exact hpair) (by rw [hlink]; exact hasked)
    have hrun : exec (.keyAgree m) s = .next ((s.heardOn m).takeKeyAgree m) := congrArg Host.Outcome.next (State.coborIn_open hserved hsize (by decide))
    rw [htake] at hrun
    refine ⟨_, hrun, ?_, ?_⟩
    · split
      · rw [(State.keyAgreed_effect (by rw [hlink]; exact hwaits)).1]
        unfold State.keyedLink
        rw [hlink, hh.d3]
      · exact hlink
    · split
      · exact (hh.trans (State.keyAgreed_effect (by rw [hlink]; exact hwaits)).2).same
      · exact hh.same
  · intro s m e a hserved hsize hpl hsent hwaits hasked hpair heui
    obtain ⟨hlink, -⟩ := State.heardOn_acked hsent hwaits
    have hh : Linked s (s.heardOn m) := linked_heardOn
    have htake := State.takeKeyAgree_paired (s := s.heardOn m) (m := m) (e := e) (a := a) (by
        unfold State.pairLink
        rw [State.nat_congr hh.obj]
        exact hpl) (by rw [hh.twn]; exact hpair) heui (by rw [hlink]; exact hasked)
    have hrun : exec (.keyAgree m) s = .next ((s.heardOn m).takeKeyAgree m) := congrArg Host.Outcome.next (State.coborIn_open hserved hsize (by decide))
    rw [htake] at hrun
    refine ⟨_, hrun, ?_⟩
    split
    · obtain ⟨hkey, hlinked⟩ := State.keyAgreed_effect (s := s.heardOn m) (l := m.link) (by rw [hlink]; exact hwaits)
      have hv : Linked s ((s.heardOn m).keyAgreed m.link) := hh.trans hlinked
      generalize (s.heardOn m).keyAgreed m.link = v at hkey hv
      have hset : Changes [.obj, .mbx] [Attr.TwinPair.partnerEui] v (v.setNat Attr.TwinPair.partnerEui 0 e) := changes_setNat
      have heui' : (v.setNat Attr.TwinPair.partnerEui 0 e).nat Attr.TwinPair.partnerEui 0 = e := State.nat_setNat
      have hawait : (v.setNat Attr.TwinPair.partnerEui 0 e).mbx.awaiting = s.mbx.awaiting := State.setAttr_awaiting.trans (congrArg Mailbox.awaiting (hv.same.area .mbx : v.mbx = s.mbx))
      have htwn := hset.twn
      generalize v.setNat Attr.TwinPair.partnerEui 0 e = w at hset heui' hawait htwn
      obtain ⟨hwait, hdone⟩ := State.completeCmd_awaiting (s := w.setTwn { w.twn with pairing := none }) (a := a) (st := .ok) (data := [])
      have htwn' := hdone.twn
      have hpart := hdone.nat Attr.TwinPair.partnerEui 0
      have hall : Changes [.twn, .obj, .mbx] [Attr.TwinPair.partnerEui] s ((w.setTwn { w.twn with pairing := none }).completeCmd a .ok []) := by
        have hvw : Changes [.twn, .obj, .mbx] [Attr.TwinPair.partnerEui] s w := hv.changes.mono.step hset
        have hpairing : Changes [.twn] [] w (w.setTwn { w.twn with pairing := none }) := .of_same SameBut.refl.set_twn
        exact (hvw.step hpairing).step hdone
      generalize (w.setTwn { w.twn with pairing := none }).completeCmd a .ok [] = z at hwait htwn' hpart hall
      have hfresh : Changes [.obj, .mbx] [Attr.SystemMode.provisionState] z z.refreshProvision := changes_refreshProvision
      have hpairing : z.twn.links = (w.setTwn { w.twn with pairing := none }).twn.links := congrArg Twin.links htwn'
      have hlinksZ : z.refreshProvision.twn.links = w.twn.links := (congrArg Twin.links hfresh.twn).trans hpairing
      have hlinkZ : z.refreshProvision.clink m.link = v.clink m.link := State.clink_congr (hlinksZ.trans (congrArg Twin.links htwn))
      refine ⟨?_, ?_, ?_, ?_, hall.same.step hfresh.same⟩
      · exact (hfresh.nat Attr.TwinPair.partnerEui 0).trans (hpart.trans heui')
      · exact congrArg Twin.pairing (hfresh.twn.trans htwn')
      · rw [hlinkZ, hkey]
        rfl
      · exact State.setAttr_awaiting.trans (hwait.trans (congrArg (List.filter _) hawait))
    · exact ⟨hlink, hh.same⟩
  · intro s m rtt hh hsender hother hnl
    obtain ⟨hlink, -⟩ := State.heardOn_acked hh.sent hh.waits
    have hheard : Linked s (s.heardOn m) := linked_heardOn
    have htake := State.takeHeartbeat_member (s := s.heardOn m) (m := m) (rtt := rtt) hsender (by rw [hheard.twn]; exact hother) (by
        unfold State.pairLink
        rw [State.nat_congr hheard.obj]
        exact hnl)
    have hrun : exec (.heartbeat m rtt) s = .next ((s.heardOn m).takeHeartbeat m rtt) :=
      congrArg Host.Outcome.next (State.coborIn_heard hh.served hh.size (fun _ => ⟨hh.tag, hh.keyed⟩) (by decide))
    rw [htake] at hrun
    have hd3 : (s.heardOn m).tim = s.tim := hheard.d3
    have hsys : (s.heardOn m).sys = s.sys := hheard.same.area .sys
    have hsame := hheard.same
    generalize s.heardOn m = v at hrun hlink hd3 hsys hsame
    have hfirst : SameBut [.twn, .sys] s v := hsame.mono (by decide)
    refine ⟨_, hrun, ?_, Assoc.find_put_same, ?_, hlink, hfirst.trans (by simp [SameBut, State.memberHeard])⟩
    · rw [← hd3]
      exact Assoc.find_put_same
    · rw [← hd3, ← hsys]
      rfl
  · intro s m rtt hh hsender hpl htwin hrole hactive hlo hhi hcmd
    obtain ⟨hlink, -⟩ := State.heardOn_acked hh.sent hh.waits
    have hheard : Linked s (s.heardOn m) := linked_heardOn
    have htake := State.takeHeartbeat_partner (s := s.heardOn m) (m := m) (rtt := rtt) hsender (by
        unfold State.pairLink
        rw [State.nat_congr hheard.obj]
        exact hpl) (by
        unfold State.twinned
        rw [State.nat_congr hheard.obj]
        exact htwin) ((State.nat_congr hheard.obj _ _).trans hrole) hactive hlo hhi (by rw [hheard.twn]; exact hcmd)
    have hrun : exec (.heartbeat m rtt) s = .next ((s.heardOn m).takeHeartbeat m rtt) :=
      congrArg Host.Outcome.next (State.coborIn_heard hh.served hh.size (fun _ => ⟨hh.tag, hh.keyed⟩) (by decide))
    rw [htake] at hrun
    let v : State := (s.heardOn m).setTwn { (s.heardOn m).twn with partner := some (octet m.body 10, 1, field m.body 18 8) }
    have hset : Changes [.obj, .mbx] [Attr.TwinPair.pairState] v (v.setPairState (octet m.body 12)) := changes_setNat
    have hv : SameBut [.twn, .obj, .mbx] s v := (hheard.same.mono (by decide)).set_twn
    refine ⟨_, hrun, congrArg Twin.partner hset.twn, State.nat_setNat, ?_, hv.step hset.same⟩
    have hlinks : (v.setPairState (octet m.body 12)).twn.links = v.twn.links := congrArg Twin.links hset.twn
    exact (State.clink_congr hlinks).trans hlink
  · intro s l k hlinks hopen
    have hk : s.clink l = k := by
      unfold State.clink
      rw [hlinks]
      simp [Assoc.find]
    have hrun : exec .heartbeatSend s = .next (s.emit l 3 0 false s.heartbeatBody) := by
      show Host.Outcome.next ((s.twn.links.map Prod.fst).foldl (fun s l => State.sendPlain s l 3 s.heartbeatBody) s) = _
      rw [hlinks]
      exact congrArg Host.Outcome.next (State.sendPlain_open hopen)
    obtain ⟨hlink, hout⟩ := State.emit_effect (s := s) (l := l) (ty := 3) (q := 0) (again := false) (b := s.heartbeatBody)
    rw [hk] at hlink hout
    exact ⟨_, hrun, hout, hlink, linked_emit.same⟩
  · intro s l q x hserved hfind
    let v : State := s.setClink l { s.clink l with unacked := (s.clink l).unacked.map (fun y => if y.1 = q then (y.1, y.2.1, y.2.2.1, s.tim.d3) else y) }
    have hv : v.clink l = { s.clink l with unacked := (s.clink l).unacked.map (fun y => if y.1 = q then (y.1, y.2.1, y.2.2.1, s.tim.d3) else y) } := State.clink_setClink
    have hrun : exec (.coborRetransmit l q) s = .next (v.emit l x.2.1 q true x.2.2.1) := by
      show execCoborRetransmit l q s = _
      unfold execCoborRetransmit
      rw [if_neg (by simp [hserved]), hfind]
    obtain ⟨hlink, hout⟩ := State.emit_effect (s := v) (l := l) (ty := x.2.1) (q := q) (again := true) (b := x.2.2.1)
    rw [hv] at hlink hout
    exact ⟨_, hrun, hout, congrArg CLink.nonce hlink, congrArg CLink.unacked hlink, (linked_setClink.trans linked_emit).same⟩
  · intro s l howed hopen
    have hrun : exec (.coborAckDue l) s = .next (s.emit l 4 0 false []) := (if_pos howed).trans (congrArg Host.Outcome.next (State.sendPlain_open hopen))
    obtain ⟨hlink, hout⟩ := State.emit_effect (s := s) (l := l) (ty := 4) (q := 0) (again := false) (b := [])
    exact ⟨_, hrun, hout, congrArg CLink.owed hlink, linked_emit.same⟩
  · intro s htwin hopen
    have hrun : exec .pairLinkIdleMessage s = .next (s.emit s.pairLink 4 0 false []) := (if_pos htwin).trans (congrArg Host.Outcome.next (State.sendPlain_open hopen))
    obtain ⟨-, hout⟩ := State.emit_effect (s := s) (l := s.pairLink) (ty := 4) (q := 0) (again := false) (b := [])
    exact ⟨_, hrun, hout, linked_emit.same⟩
  · intro s l hkeyed hserved
    obtain ⟨hlink, x, y, hout, hx, hxn, -, hy, hyn, -⟩ := State.sendKeyAgree_effect (s := s) (l := l) hserved
    refine ⟨s.sendKeyAgree l, if_pos hkeyed, congrArg CLink.asked hlink, congrArg CLink.nonce hlink, (congrArg CLink.keyed hlink).trans hkeyed, ⟨x, y, hout, hx, hxn, hy, hyn⟩,
      linked_sendKeyAgree.same⟩
  · intro s hup hrole hclaim
    let key : Bool := (s.clink s.pairLink).keyed && s.nat Attr.TwinPair.partnerEui 0 != 0
    let v : State := (s.dropLink s.pairLink).setClink s.pairLink { (s.dropLink s.pairLink).clink s.pairLink with keyed := key }
    have hlink : v.clink s.pairLink = { (s.dropLink s.pairLink).clink s.pairLink with keyed := key } := State.clink_setClink
    rw [State.dropLink_effect] at hlink
    have hv : Linked s v := linked_setClink.trans linked_setClink
    have hclaim' : v.twn.claimIn = .claimed := hclaim
    have hrole' : v.nat Attr.TwinPair.role 0 = 2 := hrole
    have hrun : exec .pairLinkDown s = .next (((v.setTwn { v.twn with partner := none }).setPairState 4).setFlag Attr.TwinPair.fit 0 false) := by
      show execPairLinkDown s = _
      unfold execPairLinkDown
      dsimp only
      rw [if_neg (by simp [hup])]
      exact if_pos ⟨hrole, hclaim⟩
    clear_value v
    let w : State := v.setTwn { v.twn with partner := none }
    have hw : SameBut [.twn, .obj, .mbx] s w := (hv.same.mono (by decide)).set_twn
    have hset : Changes [.obj, .mbx] [Attr.TwinPair.pairState] w (w.setPairState 4) := changes_setNat
    have hstate : (w.setPairState 4).nat Attr.TwinPair.pairState 0 = 4 := State.nat_setNat
    have htwn : (w.setPairState 4).twn = w.twn := hset.twn
    replace hw := hw.step hset.same
    change exec .pairLinkDown s = .next ((w.setPairState 4).setFlag Attr.TwinPair.fit 0 false) at hrun
    generalize w.setPairState 4 = z at hstate htwn hw hrun
    have hfit : Changes [.obj, .mbx] [Attr.TwinPair.fit] z (z.setFlag Attr.TwinPair.fit 0 false) := changes_setFlag
    have hlinks : (z.setFlag Attr.TwinPair.fit 0 false).twn.links = w.twn.links := congrArg Twin.links (hfit.twn.trans htwn)
    have hlinkZ : (z.setFlag Attr.TwinPair.fit 0 false).clink s.pairLink = _ := (State.clink_congr hlinks).trans hlink
    refine ⟨_, hrun, congrArg CLink.up hlinkZ, congrArg CLink.seq hlinkZ, congrArg CLink.rxSeq hlinkZ, congrArg CLink.unacked hlinkZ, congrArg CLink.waiting hlinkZ, ?_, ?_,
      State.flag_setFlag, hw.step hfit.same⟩
    · exact congrArg Twin.partner (hfit.twn.trans htwn)
    · exact (hfit.nat Attr.TwinPair.pairState 0).trans hstate

end Sys2Proof.Machine
end

section
/-! The messages that carry the journal of a home: MIRROR, REPLICA and their confirmations (R502, R522, R607, R635). -/

namespace Sys2Proof.Machine

variable {s t u : State} {q k h old : Nat} {b : Bytes} {m : Cobor}

/-! ### Entries that a standby holds (R607, R647) -/

theorem State.ep_setEp {e : Endpoint} : (s.setEp h e).ep h = e := congrArg (fun x : Option Endpoint => x.getD {}) Assoc.find_put_same

/-- The state of a standby after it has held an OUT_COUNTER entry. -/
def State.counterHeld (s : State) (q : Nat) (b : Bytes) : State :=
  { s.applyCounter b with
    sto := { s.sto with seq := q, gather := s.sto.gather ++ [(q, .counter (field b 0 4))] }
    twn := { s.twn with heldSeq := q, exchanged := s.twn.exchanged + 1 } }

theorem State.takeMirror_counter (hreads : s.twn.stopped = false) (hnew : s.twn.heldSeq < q) : s.takeMirror (q, 10, b) = s.counterHeld q b := by
  have hpass : ¬ (s.twn.stopped = true ∨ q ≤ s.twn.heldSeq) := by
    rw [hreads]
    simp
    omega
  refine (if_neg hpass).trans ?_
  show ({ ({ s with sys := { s.sys with mode := .shadow } } : State).applyCounter b with
    sys := { s.sys with mode := s.sys.mode }
    sto := { s.sto with seq := q, gather := s.sto.gather ++ [(q, .counter (field b 0 4))] }
    twn := { s.twn with heldSeq := q, exchanged := s.twn.exchanged + 1 } } : State) = _
  rfl

/-- The state of a standby after an entry of a kind that it does not read. -/
def State.mirrorStopped (s : State) (k : Nat) : State := ({ s with twn := { s.twn with stopped := true } } : State).compatRefused s.side [(k : Int)]

theorem State.applyEntry_unread (h : k = 0 ∨ 11 < k) : s.applyEntry q k b = none := by
  rcases h with rfl | h
  · rfl
  · obtain ⟨n, rfl⟩ : ∃ n, k = n + 12 := ⟨k - 12, by omega⟩
    rfl

theorem State.takeMirror_unread (hreads : s.twn.stopped = false) (hnew : s.twn.heldSeq < q) (hk : k = 0 ∨ 11 < k) : s.takeMirror (q, k, b) = s.mirrorStopped k := by
  have hpass : ¬ (s.twn.stopped = true ∨ q ≤ s.twn.heldSeq) := by
    rw [hreads]
    simp
    omega
  refine (if_neg hpass).trans ?_
  have hnone : ({ s with sys := { s.sys with mode := .shadow } } : State).applyEntry q k b = none := State.applyEntry_unread hk
  dsimp only
  rw [hnone]
  rfl

/-- A standby in SHADOW holds the entries of a MIRROR, and confirms the last unless it has stopped. -/
theorem State.takeMirrorBody_one {e : Nat × Nat × Bytes} (hrole : s.nat Attr.TwinPair.role 0 = 2) (hmode : s.sys.mode = .shadow) (hbody : parseEntries m.body.length m.body = [e]) :
    s.takeMirrorBody m = if (s.takeMirror e).twn.stopped = true then s.takeMirror e else (s.takeMirror e).sendReliable m.link 0x11 (leBytes 8 (s.takeMirror e).twn.heldSeq) := by
  unfold State.takeMirrorBody
  dsimp only
  rw [if_pos ⟨hrole, .inl hmode⟩, hbody]
  rfl

/-! ### A replica's entry (R522) -/

/-- A replica's entry goes to this chip's own journal alone. -/
theorem State.post_replica {home : Nat} (hmode : s.sys.mode ≠ .shadow) : s.post (.replica home q) = { s with
    sto := { s.sto with seq := (s.sto.seq + 1) % 2 ^ 64, gather := s.sto.gather ++ [((s.sto.seq + 1) % 2 ^ 64, .replica home q)] } } := by
  refine (if_neg hmode).trans ?_
  dsimp only [State.shared]
  simp [JKind.mirrored, JKind.endpoint, JKind.entries]

/-- The state after a replica has taken one entry of a home. -/
def State.replicaTaken (s : State) (home q k : Nat) (b : Bytes) : State := { s with
  sto := { s.sto with seq := (s.sto.seq + 1) % 2 ^ 64, gather := s.sto.gather ++ [((s.sto.seq + 1) % 2 ^ 64, .replica home q)] }
  twn := { s.twn with
    replicas := s.twn.replicas ++ [(home * 2 ^ 64 + q, k, b)]
    repDue := s.twn.repDue ++ [(home, q, (s.sto.seq + 1) % 2 ^ 64)] } }

theorem State.takeReplica_one (hmode : s.sys.mode ≠ .shadow) (hbody : parseEntries m.body.length (m.body.drop 4) = [(q, k, b)]) :
    s.takeReplica m = s.replicaTaken (field m.body 0 2) q k b := by
  unfold State.takeReplica
  dsimp only
  rw [hbody, List.foldl_cons, List.foldl_nil, State.post_replica hmode]
  rfl

/-! ### A replica that confirms nothing (R635) -/

theorem execReplicaWaitTimeout_serves (hfed : s.federated = true) (hold : s.nat Attr.EndpointPlacement.replica h = old) (hsome : old ≠ 0xFFFF) (hep : s.endpoint h = true) :
    exec (.replicaWaitTimeout h) s =
      match ((((s.placement (s.nat Attr.EndpointProfile.eui h)).filter (fun m => m != s.twn.self && s.readsStore m)).dropWhile (fun m => m != old)).drop 1).head? with
      | some n => .next ((s.setNat Attr.EndpointPlacement.replica h n).setTwn { (s.setNat Attr.EndpointPlacement.replica h n).twn with
          repOut := (s.setNat Attr.EndpointPlacement.replica h n).twn.repOut ++
            ((s.setNat Attr.EndpointPlacement.replica h n).journalled.filter (fun x => x.2.endpoint == some h && (s.twn.repWait.filter (fun x => x.1 == old)).any (fun y => y.2.1 == x.1))).map
              (fun x => (n, x.1, x.2)) })
      | none => .next (((s.setNat Attr.EndpointPlacement.replica h 0xFFFF).setTwn { s.twn with replicaLost := true }).raise 0x130A (objPath 0x0E30 h)
          [(h : Int), (old : Int)]) := by
  show execReplicaWaitTimeout h s = _
  unfold execReplicaWaitTimeout
  dsimp only
  rw [hold, if_neg (by rw [hfed, hep]; simp [hsome])] <;> rfl

/-- Settles O37: each message is delivered in its turn (`State.coborIn_turn`), and acts by what its type does with one entry or confirmation. -/
theorem mirrorAndReplicas : Obligations.MirrorAndReplicas := by
  refine ⟨?_, ?_, ?_, ?_, ?_, ?_⟩
  · intro s m q b hturn hrole hmode hreads hbody hnew
    obtain ⟨v, hrun, hv, hlink, hout⟩ := State.coborIn_turn (deliver := deliverCobor) (ty := 0x10) hturn (by decide)
    have hreads' : v.twn.stopped = false := by rw [hv.twn]; exact hreads
    have hheld : v.twn.heldSeq < q := by rw [hv.twn]; exact hnew
    have hmode' : v.sys.mode = .shadow := (congrArg Sys.mode (hv.same.area .sys : v.sys = s.sys)).trans hmode
    have htake := State.takeMirrorBody_one (s := v) (m := m) ((State.nat_congr hv.obj _ _).trans hrole) hmode' hbody
    rw [State.takeMirror_counter hreads' hheld] at htake
    have hgo : ¬ (v.counterHeld q b).twn.stopped = true := by
      show ¬ v.twn.stopped = true
      rw [hreads']
      exact Bool.false_ne_true
    rw [if_neg hgo] at htake
    have hsto : v.sto = s.sto := hv.same.area .sto
    have hsendsV : v.Sends m.link := hturn.sends hv hlink
    have hsends : (v.counterHeld q b).Sends m.link := ⟨hsendsV.ready, hsendsV.waits, hsendsV.room⟩
    obtain ⟨hlink', hout'⟩ := State.sendReliable_effect (ty := 0x11) (b := leBytes 8 (v.counterHeld q b).twn.heldSeq) hsends
    have hsent : Linked (v.counterHeld q b) ((v.counterHeld q b).sendReliable m.link 0x11 (leBytes 8 (v.counterHeld q b).twn.heldSeq)) := linked_sendReliable
    have hclink : (v.counterHeld q b).clink m.link = s.turnLink m := hlink
    have houtW : (v.counterHeld q b).twn.out = s.twn.out := hout
    have hd3 : (v.counterHeld q b).tim.d3 = s.tim.d3 := congrArg Time.d3 hv.d3
    rw [hclink, hd3] at hlink'
    rw [hclink, houtW] at hout'
    have hall : SameBut [.twn, .sto, .col] s (v.counterHeld q b) := by
      have hfirst : SameBut [.twn, .sto, .col] s v := hv.same.mono (by decide)
      exact hfirst.trans (by simp [SameBut, State.counterHeld, State.applyCounter, State.setEp])
    have hstoW : (v.counterHeld q b).sto = { s.sto with seq := q, gather := s.sto.gather ++ [(q, .counter (field b 0 4))] } := by
      rw [← hsto]
      rfl
    have hep : ((v.counterHeld q b).ep (field b 0 4)).outCounter = field b 8 4 := congrArg Endpoint.outCounter (State.ep_setEp (s := v))
    have hheldW : (v.counterHeld q b).twn.heldSeq = q := rfl
    have hexec : exec (.mirror m) s = .next ((v.counterHeld q b).sendReliable m.link 0x11 (leBytes 8 (v.counterHeld q b).twn.heldSeq)) :=
      congrArg Host.Outcome.next (hrun.trans htake)
    generalize v.counterHeld q b = w at hexec hlink' hout' hsent hall hstoW hep hheldW
    rw [hheldW] at hexec hlink' hout' hsent
    have hcol : (w.sendReliable m.link 0x11 (leBytes 8 q)).col = w.col := hsent.same.area .col
    have hsto' : (w.sendReliable m.link 0x11 (leBytes 8 q)).sto = w.sto := hsent.same.area .sto
    refine ⟨_, hexec, ?_, hsto'.trans hstoW, ?_, hlink', hout', hall.step hsent.same⟩
    · rw [hsent.twn]
      exact hheldW
    · unfold State.ep at hep ⊢
      rw [hcol]
      exact hep
  · intro s m q k b hturn hrole hmode hreads hbody hk hnew
    obtain ⟨v, hrun, hv, hlink, hout⟩ := State.coborIn_turn (deliver := deliverCobor) (ty := 0x10) hturn (by decide)
    have hreads' : v.twn.stopped = false := by rw [hv.twn]; exact hreads
    have hheld : v.twn.heldSeq < q := by rw [hv.twn]; exact hnew
    have hmode' : v.sys.mode = .shadow := (congrArg Sys.mode (hv.same.area .sys : v.sys = s.sys)).trans hmode
    have htake := State.takeMirrorBody_one (s := v) (m := m) ((State.nat_congr hv.obj _ _).trans hrole) hmode' hbody
    rw [State.takeMirror_unread hreads' hheld hk, if_pos (show (v.mirrorStopped k).twn.stopped = true from rfl)] at htake
    have hside : v.side = s.side := State.nat_congr hv.obj _ _
    have hrecd : v.recd = s.recd := hv.same.area .recd
    refine ⟨v.mirrorStopped k, congrArg Host.Outcome.next (hrun.trans htake), rfl, ?_, hout, ?_, ?_⟩
    · show v.twn.heldSeq = s.twn.heldSeq
      rw [hv.twn]
    · rw [← hside, ← hrecd]
      rfl
    · have hfirst : SameBut [.twn, .recd] s v := hv.same.mono (by decide)
      exact hfirst.trans (by simp [SameBut, State.mirrorStopped, State.compatRefused])
  · intro s m q hturn hq
    obtain ⟨v, hrun, hv, -, -⟩ := State.coborIn_turn (deliver := deliverCobor) (ty := 0x11) hturn (by decide)
    have hposted : v.twn.posted = s.twn.posted := by rw [hv.twn]
    have hseq : v.twn.mirrorSeq = s.twn.mirrorSeq := by rw [hv.twn]
    have hcol : v.col = s.col := hv.same.area .col
    have hsame : SameBut [.twn, .col] s (v.takeMirrorConfirm m) := by
      have hfirst : SameBut [.twn, .col] s v := hv.same.mono (by decide)
      exact hfirst.set_twn.set_col
    refine ⟨v.takeMirrorConfirm m, congrArg Host.Outcome.next hrun, ?_, ?_, ?_, hsame⟩
    · rw [← hposted, ← hq]
      rfl
    · rw [← hseq, ← hq]
      rfl
    · rw [← hposted, ← hcol, ← hq]
      rfl
  · intro s m q k b hturn hmode hbody
    obtain ⟨v, hrun, hv, -, -⟩ := State.coborIn_turn (deliver := deliverCobor) (ty := 0x12) hturn (by decide)
    have hmode' : v.sys.mode ≠ .shadow := by
      rw [(hv.same.area .sys : v.sys = s.sys)]
      exact hmode
    have hsto : v.sto = s.sto := hv.same.area .sto
    have hreps : v.twn.replicas = s.twn.replicas := by rw [hv.twn]
    have hdue : v.twn.repDue = s.twn.repDue := by rw [hv.twn]
    refine ⟨v.replicaTaken (field m.body 0 2) q k b, congrArg Host.Outcome.next (hrun.trans (State.takeReplica_one hmode' hbody)), ?_, ?_, ?_, ?_⟩
    · rw [← hsto]
      rfl
    · rw [← hreps]
      rfl
    · rw [← hdue, ← hsto]
      rfl
    · have hfirst : SameBut [.twn, .sto] s v := hv.same.mono (by decide)
      exact hfirst.trans (by simp [SameBut, State.replicaTaken])
  · intro s m q hturn hq
    obtain ⟨v, hrun, hv, -, -⟩ := State.coborIn_turn (deliver := deliverCobor) (ty := 0x13) hturn (by decide)
    have hwait : v.twn.repWait = s.twn.repWait := by rw [hv.twn]
    have hcol : v.col = s.col := hv.same.area .col
    have hsame : SameBut [.twn, .col] s (v.takeReplicaConfirm m) := by
      have hfirst : SameBut [.twn, .col] s v := hv.same.mono (by decide)
      exact hfirst.set_twn.set_col
    refine ⟨v.takeReplicaConfirm m, congrArg Host.Outcome.next hrun, ?_, ?_, hsame⟩
    · rw [← hwait, ← hq]
      rfl
    · rw [← hwait, ← hcol, ← hq]
      rfl
  · intro s h old hfed hold hsome hep hmax
    have hrun := execReplicaWaitTimeout_serves hfed hold hsome hep
    have hh : h < 2 ^ 40 := by
      unfold maxHandle at hmax
      omega
    dsimp only
    generalize (((s.placement (s.nat Attr.EndpointProfile.eui h)).filter (fun m => m != s.twn.self && s.readsStore m)).dropWhile (fun m => m != old)).drop 1 = rest at hrun ⊢
    cases rest with
    | nil =>
      have hset : Changes [.obj, .mbx] [Attr.EndpointPlacement.replica] s (s.setNat Attr.EndpointPlacement.replica h 0xFFFF) := changes_setNat
      have hval : (s.setNat Attr.EndpointPlacement.replica h 0xFFFF).nat Attr.EndpointPlacement.replica h = 0xFFFF := State.nat_setNat
      dsimp only [List.head?_nil] at hrun
      generalize s.setNat Attr.EndpointPlacement.replica h 0xFFFF = v at hrun hset hval
      have hrecd : v.recd = s.recd := hset.recd
      have hv : SameBut [.twn, .obj, .mbx, .recd] s v := hset.same.mono (by decide)
      refine ⟨_, hrun, hval, fun _ => ⟨rfl, ?_⟩, fun hne => absurd rfl hne, hv.set_twn.step sameBut_raise⟩
      rw [← hrecd]
      rfl
    | cons n rest =>
      have hset : Changes [.obj, .mbx] [Attr.EndpointPlacement.replica] s (s.setNat Attr.EndpointPlacement.replica h n) := changes_setNat
      have hval : (s.setNat Attr.EndpointPlacement.replica h n).nat Attr.EndpointPlacement.replica h = n := State.nat_setNat
      dsimp only [List.head?_cons] at hrun
      generalize s.setNat Attr.EndpointPlacement.replica h n = v at hrun hset hval
      have hv : SameBut [.twn, .obj, .mbx, .recd] s v := hset.same.mono (by decide)
      refine ⟨_, hrun, hval, fun hne => absurd hne (List.cons_ne_nil _ _), fun _ => ⟨hset.recd, ?_⟩, hv.set_twn⟩
      show v.twn.replicaLost = s.twn.replicaLost
      rw [hset.twn]

end Sys2Proof.Machine
end

section
/-! The other messages of the links: resync, castling results, peer frames and sums (R51, R421, R618, R625, R627, R646, R647). -/

namespace Sys2Proof.Machine

variable {s t u v : State} {q h : Nat} {b : Bytes} {m : Cobor}

/-! ### What a link's message leaves -/

theorem Linked.active (hv : Linked s v) : v.active = s.active := by simp only [State.active, State.nat_congr hv.obj]

theorem Linked.twinned (hv : Linked s v) : v.twinned = s.twinned := by simp only [State.twinned, State.nat_congr hv.obj]

theorem Linked.pairLink (hv : Linked s v) : v.pairLink = s.pairLink := State.nat_congr hv.obj _ _

theorem Linked.sys (hv : Linked s v) : v.sys = s.sys := hv.same.area .sys

theorem Linked.mbx (hv : Linked s v) : v.mbx = s.mbx := hv.same.area .mbx

/-- A reply on the link of a message that was delivered in its turn (R643, R645). -/
theorem State.InTurn.replies {ty : Nat} (hturn : s.InTurn m) (hv : Linked s v) (hlink : v.clink m.link = s.turnLink m) (hout : v.twn.out = s.twn.out) :
    (v.sendReliable m.link ty b).clink m.link = (s.turnLink m).sends ty b s.tim.d3 ∧
      (v.sendReliable m.link ty b).twn.out = s.twn.out ++ [⟨m.link, ty, false, (s.clink m.link).nonce + 1, (s.clink m.link).seq + 1, m.seq, b⟩] ∧
      Linked s (v.sendReliable m.link ty b) := by
  obtain ⟨hlink', hout'⟩ := State.sendReliable_effect (ty := ty) (b := b) (hturn.sends hv hlink)
  rw [hlink, hv.d3] at hlink'
  rw [hlink, hout] at hout'
  exact ⟨hlink', hout', hv.trans linked_sendReliable⟩

/-! ### A resync's request for one entry (R627) -/

theorem packBodies_one {lim : Nat} (hb : b ≠ []) (hlen : b.length ≤ lim) : packBodies lim [b] = [b] := by
  unfold packBodies
  simp [hlen, hb]

/-- The body of an OUT_COUNTER entry. -/
def State.counterBody (s : State) (h : Nat) : Bytes :=
  leBytes 4 h ++ leBytes 1 (s.nat Attr.EndpointKey.generation h) ++ leBytes 3 0 ++ leBytes 4 (s.ep h).outCounter

theorem State.takeRequest_counter (hone : s.journalled = [(q, .counter h)]) (hfrom : field m.body 0 8 = q) (hto : field m.body 8 8 = q) (hidle : s.active = false) :
    s.takeRequest m = s.sendReliable m.link 0x10 (entryOctets (q, 10, s.counterBody h)) := by
  have hlen : (entryOctets (q, 10, s.counterBody h)).length = 24 := by simp [entryOctets, State.counterBody]
  have hlim : (entryOctets (q, 10, s.counterBody h)).length ≤ bodyLimit m.link := by
    rw [hlen]
    unfold bodyLimit
    split <;> decide
  have hne : entryOctets (q, 10, s.counterBody h) ≠ [] := fun he => by
    rw [he] at hlen
    cases hlen
  have hents : s.entries q (.counter h) = [(q, 10, s.counterBody h)] := rfl
  unfold State.takeRequest
  dsimp only
  rw [hone, hfrom, hto]
  simp only [List.filter_cons, Nat.le_refl, decide_true, Bool.and_self, if_true, List.filter_nil, List.flatMap_cons, List.flatMap_nil, hents, List.map_cons, List.map_nil, List.append_nil,
    List.min?_singleton, Option.getD_some, Nat.lt_irrefl, if_false, List.foldl_nil]
  rw [packBodies_one hne hlim, hidle]
  rfl

/-! ### Castling over the link (R618) -/

theorem State.castlesFrom_planned (hpair : (s.clink s.pairLink).up = true) (htwin : s.twinned = true) (hrole : s.nat Attr.TwinPair.role 0 = 1) (hmode : s.sys.mode = .service)
    (hdrain : s.twn.drain = false) (hrel : s.twn.released = false) (hclaim : s.twn.claimIn ≠ .invalid) : s.castlesFrom 1 = true := by
  simp [State.castlesFrom, State.castleRefused, State.active, hpair, htwin, hrole, hmode, hdrain, hrel, hclaim]

theorem State.castlesFrom_single {mode : Nat} (htwin : s.twinned = false) : s.castlesFrom mode = false := by
  simp [State.castlesFrom, State.castleRefused, htwin]

/-! ### The peer's frame (R51) -/

theorem State.takePeer_challenge {c : Cmd} (hready : s.ready = true) (hfree : s.boundTo (.peer m.link) = none)
    (hc : c = frameCmd (.peer m.link) m.body [] [] 0 ((s.mbx.arrival + 1) % 2 ^ 32)) (hchk : headerChecks m.body c = none) (hop : c.opcode = opChallenge) :
    s.takePeer m = s.arrived.take c := by
  obtain ⟨harr, -, hsess, -, -⟩ := s.arrived_mbx
  have harr' : s.arrived.mbx.arrival = (s.mbx.arrival + 1) % 2 ^ 32 := harr.trans rfl
  have hbound : s.arrived.boundTo (.peer m.link) = none := by
    rw [← hfree]
    exact congrArg (List.find? _) hsess
  subst hc
  refine (if_neg (by simp [hready])).trans ?_
  show s.arrived.intake (.peer m.link) m.body [] [] 0 s.arrived.mbx.arrival = _
  rw [harr']
  exact State.intake_challenge hchk hop hbound

/-! ### Sums for another home (R421) -/

theorem intBytes_length {n : Nat} {x : Int} : (intBytes n x).length = n := leBytes_length

theorem execBalanceSumsSend_member {g i home : Nat} (hfed : s.federated = true) (hhome : s.groupHome g = home) (hother : home ≠ s.twn.self) (hopen : s.cutOff 12 0 = false) :
    ∃ b, exec (.balanceSumsSend g i) s = .next (s.sendReliable (s.memberLink home) 0x30 b) ∧ b.take 8 = leBytes 2 g ++ [0, 0] ++ leBytes 4 i ∧ b.length = 32 ∧
      b.drop 24 = leBytes 4 (s.ownSums g i).2.2.1 ++ leBytes 4 (s.ownSums g i).2.2.2 := by
  let front : Bytes := leBytes 2 g ++ [0, 0] ++ leBytes 4 i
  let sums : Bytes := intBytes 8 (Dbl.floor (s.ownSums g i).1) ++ intBytes 8 (Dbl.floor (s.ownSums g i).2.1)
  let counts : Bytes := leBytes 4 (s.ownSums g i).2.2.1 ++ leBytes 4 (s.ownSums g i).2.2.2
  have hfront : front.length = 8 := by simp [front]
  have hsums : sums.length = 16 := by simp [sums, intBytes_length]
  have hcounts : counts.length = 8 := by simp [counts]
  refine ⟨front ++ (sums ++ counts), ?_, List.take_left' hfront, ?_, ?_⟩
  · show execBalanceSumsSend g i s = _
    unfold execBalanceSumsSend
    dsimp only
    rw [hhome, if_neg (by rw [hfed, hopen]; simp [hother])]
    simp only [front, sums, counts, List.append_assoc]
  · simp [front, sums, counts, intBytes_length]
  · rw [← List.append_assoc]
    exact List.drop_left' (List.length_append.trans (congrArg₂ (· + ·) hfront hsums))

/-- Settles O38: each message is delivered in its turn; a reply goes out on its link (`State.InTurn.replies`). -/
theorem resyncAndPeerMessages : Obligations.ResyncAndPeerMessages := by
  refine ⟨?_, ?_, ?_, ?_, ?_, ?_, ?_, ?_, ?_, ?_⟩
  · intro s m hturn hactive
    obtain ⟨v, hrun, hv, hlink, hout⟩ := State.coborIn_turn (deliver := deliverCobor) (ty := 0x40) hturn (by decide)
    obtain ⟨hlink', hout', hsent⟩ := hturn.replies (ty := 0x41) (b := m.body.take 16) hv hlink hout
    have htake : v.takeOffer m = v.sendReliable m.link 0x41 (m.body.take 16) := if_pos (.inl (hv.active.trans hactive))
    exact ⟨_, congrArg Host.Outcome.next (hrun.trans htake), hlink', hout', hsent.same⟩
  · intro s m q h hturn hidle hone hfrom hto
    obtain ⟨v, hrun, hv, hlink, hout⟩ := State.coborIn_turn (deliver := deliverCobor) (ty := 0x41) hturn (by decide)
    have hsto : v.sto = s.sto := hv.same.area .sto
    have hcol : v.col = s.col := hv.same.area .col
    have hone' : v.journalled = [(q, .counter h)] := by
      unfold State.journalled
      rw [hsto]
      exact hone
    have hbody : v.counterBody h = s.counterBody h := by simp only [State.counterBody, State.ep, State.nat_congr hv.obj, hcol]
    have htake := State.takeRequest_counter hone' hfrom hto (hv.active.trans hidle)
    rw [hbody] at htake
    obtain ⟨-, hout', hsent⟩ := hturn.replies (ty := 0x10) (b := entryOctets (q, 10, s.counterBody h)) hv hlink hout
    refine ⟨_, congrArg Host.Outcome.next (hrun.trans htake), ⟨_, hout', rfl⟩, ?_, hsent.same⟩
    rw [hsent.twn]
  · intro s m hturn hother
    obtain ⟨v, hrun, hv, hlink, -⟩ := State.coborIn_turn (deliver := deliverCobor) (ty := 0x42) hturn (by decide)
    have hself : v.twn.self = s.twn.self := by rw [hv.twn]
    have hreps : v.twn.replicas = s.twn.replicas := by rw [hv.twn]
    have htake : v.takeSegment m = v.setTwn { v.twn with replicas := v.twn.replicas ++
        ((List.range ((m.body.length - 16) / 32)).map (fun k => slice m.body (16 + 32 * k) 32)).map (fun r => (field m.body 0 2 * 2 ^ 64, 1, r)) } :=
      if_neg (by rw [hself]; exact hother)
    refine ⟨_, congrArg Host.Outcome.next (hrun.trans htake), ?_, hlink, hv.same.set_twn⟩
    rw [← hreps]
    show v.twn.replicas ++ List.map _ (List.map _ _) = _
    rw [List.map_map]
    rfl
  · intro s m hturn hpl htwin hrole hmode hdrain hrel hclaim hplanned
    obtain ⟨v, hrun, hv, hlink, hout⟩ := State.coborIn_turn (deliver := deliverCobor) (ty := 0x50) hturn (by decide)
    have hup : (v.clink v.pairLink).up = true := by
      rw [hv.pairLink, ← hpl, hlink]
      rfl
    have hstart := State.castlesFrom_planned hup (hv.twinned.trans htwin) ((State.nat_congr hv.obj _ _).trans hrole) ((congrArg Sys.mode hv.sys).trans hmode)
      (by rw [hv.twn]; exact hdrain) (by rw [hv.twn]; exact hrel) (by rw [hv.twn]; exact hclaim)
    have htake : v.takeCastle m = v.setTwn { v.twn with drain := true } := if_pos (by rw [hplanned]; exact hstart)
    exact ⟨_, congrArg Host.Outcome.next (hrun.trans htake), rfl, hout, hlink, hv.same.set_twn⟩
  · intro s m hturn htwin
    obtain ⟨v, hrun, hv, hlink, hout⟩ := State.coborIn_turn (deliver := deliverCobor) (ty := 0x50) hturn (by decide)
    have hno := State.castlesFrom_single (mode := octet m.body 0) (hv.twinned.trans htwin)
    have htake : v.takeCastle m = v.sendReliable m.link 0x51 (slice m.body 4 4 ++ leBytes 1 Status.refused.code ++ [0, 0, 0]) := if_neg (by rw [hno]; exact Bool.false_ne_true)
    obtain ⟨-, hout', hsent⟩ := hturn.replies (ty := 0x51) (b := slice m.body 4 4 ++ leBytes 1 Status.refused.code ++ [0, 0, 0]) hv hlink hout
    refine ⟨_, congrArg Host.Outcome.next (hrun.trans htake), ?_, hout', hsent.same⟩
    rw [hsent.twn]
  · intro s m x hturn hst hfind hsess
    obtain ⟨v, hrun, hv, -, -⟩ := State.coborIn_turn (deliver := deliverCobor) (ty := 0x51) hturn (by decide)
    have htake : v.takeCastleResult m = (v.setTwn { v.twn with castleCmd := none }).completeCmd (field m.body 0 4) .refused [] := if_neg (by omega)
    have hmbx : (v.setTwn { v.twn with castleCmd := none }).mbx = s.mbx := hv.mbx
    obtain ⟨hawait, hentry, hsame⟩ := State.completeCmd_effect (s := v.setTwn { v.twn with castleCmd := none }) (st := .refused) (data := []) (by rw [hmbx]; exact hfind)
      (by unfold State.session; rw [hmbx]; exact hsess)
    have hfirst : SameBut [.twn, .mbx] s (v.setTwn { v.twn with castleCmd := none }) := (hv.same.mono (by decide)).set_twn
    rw [hmbx] at hawait
    refine ⟨_, congrArg Host.Outcome.next (hrun.trans htake), ?_, hawait, hentry, hfirst.step hsame⟩
    exact congrArg Twin.castleCmd (hsame.area .twn : _ = (v.setTwn { v.twn with castleCmd := none }).twn)
  · intro s m hturn hready henergize hdeferred hfree c hchk hop
    obtain ⟨v, hrun, hv, hlink, -⟩ := State.coborIn_turn (deliver := deliverCobor) (ty := 0x52) hturn (by decide)
    have hmbx : v.mbx = s.mbx := hv.mbx
    have htake := State.takePeer_challenge (s := v) (m := m) (c := c) (by unfold State.ready; rw [hv.sys]; exact hready) (by unfold State.boundTo; rw [hmbx]; exact hfree)
      (by rw [hmbx]) hchk hop
    obtain ⟨harr, htaken, -, -, -⟩ := v.arrived_mbx
    have hsame : SameBut [.mbx, .fcr] v (v.arrived.take c) := sameBut_arrived.trans (by simp [SameBut, State.take])
    have hlinks : (v.arrived.take c).twn.links = v.twn.links := congrArg Twin.links (hsame.area .twn : (v.arrived.take c).twn = v.twn)
    have hfirst : SameBut [.mbx, .fcr, .twn] s v := hv.same.mono (by decide)
    refine ⟨_, congrArg Host.Outcome.next (hrun.trans htake), ?_, ?_, (State.clink_congr hlinks).trans hlink, hfirst.step hsame⟩
    · refine harr.trans ?_
      show (v.mbx.arrival + 1) % 2 ^ 32 = _
      rw [hmbx]
    · rw [← hmbx]
      exact congrArg (· ++ [c]) htaken
  · intro s m hturn hidle
    obtain ⟨v, hrun, hv, hlink, -⟩ := State.coborIn_turn (deliver := deliverCobor) (ty := 0x52) hturn (by decide)
    have hidle' : v.ready = false := by
      unfold State.ready
      rw [hv.sys]
      exact hidle
    have htake : v.takePeer m = v := if_pos (by rw [hidle']; rfl)
    exact ⟨v, congrArg Host.Outcome.next (hrun.trans htake), hlink, hv.same⟩
  · intro s m hturn
    obtain ⟨v, hrun, hv, -, -⟩ := State.coborIn_turn (deliver := deliverCobor) (ty := 0x30) hturn (by decide)
    have hbal : v.bal = s.bal := hv.same.area .bal
    have hfirst : SameBut [.twn, .bal] s v := hv.same.mono (by decide)
    refine ⟨v.takeSums m, congrArg Host.Outcome.next hrun, ?_, hfirst.set_bal⟩
    rw [← hbal]
    exact Assoc.find_put_same
  · intro s g i home hfed hhome hother hopen hsends
    obtain ⟨b, hrun, htake, hlen, hdrop⟩ := execBalanceSumsSend_member (g := g) (i := i) hfed hhome hother hopen
    obtain ⟨-, hout⟩ := State.sendReliable_effect (ty := 0x30) (b := b) hsends
    exact ⟨_, hrun, ⟨b, hout, htake, hlen, hdrop⟩, linked_sendReliable.same⟩

end Sys2Proof.Machine
end

section
/-! Joins, proposals, votes and suspicions of a federation (R523, R524, R630–R636). -/

namespace Sys2Proof.Machine

variable {s t u v : State} {ys : List (Nat × Nat)} {n k e st : Nat} {m : Cobor} {p : Proposal} {vs : List Nat}

/-! ### Members -/

/-- An entry of a key that is not looked for changes no selection. -/
theorem Assoc.filter_put {α : Type} {g : Nat → Bool} {w : α} (hg : g k = false) : ∀ {l : List (Nat × α)}, (Assoc.put k w l).filter (fun e => g e.1) = l.filter (fun e => g e.1)
  | [] => by simp [Assoc.put, hg]
  | (j, x) :: xs => by
    unfold Assoc.put
    split
    · rw [List.filter_cons_of_neg (by simp [hg])]
    · split
      · next hkj =>
        subst hkj
        rw [List.filter_cons_of_neg (by simp [hg]), List.filter_cons_of_neg (by simp [hg])]
      · rw [List.filter_cons, List.filter_cons, Assoc.filter_put hg]

/-- A new object joins no selection that it does not meet. -/
theorem State.instances_create {c : Nat} {g : Nat → Bool} (hn : n < 2 ^ 40) (hg : g n = false) : ((s.create c n).instances c).filter g = (s.instances c).filter g := by
  have hmod : objKey c n % 2 ^ 40 = n := by
    unfold objKey
    omega
  have hput := Assoc.filter_put (k := objKey c n) (w := ()) (l := s.obj.live) (g := fun j => g (j % 2 ^ 40) && (j / 2 ^ 40 == c)) (by rw [hmod, hg]; rfl)
  unfold State.instances
  rw [List.filter_map, List.filter_map, List.filter_filter, List.filter_filter]
  exact congrArg (List.map _) hput

theorem State.activeMembers_congr (h : t.obj = s.obj) : t.activeMembers = s.activeMembers := by
  simp only [State.activeMembers, State.instances, h, State.nat_congr h]

theorem State.majority_congr (h : t.obj = s.obj) : t.majority vs = s.majority vs := by simp only [State.majority, State.activeMembers_congr h]

theorem length_eraseDups_le : ∀ l : List Nat, l.eraseDups.length ≤ l.length
  | [] => Nat.le_refl 0
  | x :: xs => by
    have hrest := length_eraseDups_le (xs.filter fun y => !y == x)
    have hfilter : (xs.filter fun y => !y == x).length ≤ xs.length := List.length_filter_le _ _
    rw [List.eraseDups_cons, List.length_cons, List.length_cons]
    omega
termination_by l => l.length
decreasing_by exact Nat.lt_succ_of_le (List.length_filter_le _ _)

/-- Fewer votes than half of the members are no majority. -/
theorem State.majority_short (h : 2 * vs.length ≤ s.activeMembers.length) : s.majority vs = false := by
  have hlen : (vs.filter s.activeMembers.contains).eraseDups.length ≤ vs.length :=
    (length_eraseDups_le _).trans (List.length_filter_le _ _)
  simp only [State.majority, decide_eq_false_iff_not]
  omega

theorem linked_broadcast {ty : Nat} {b : Bytes} : Linked s (s.broadcast ty b) := .foldl fun _ _ => linked_sendReliable

/-- The attributes that a change of a member's state sets. -/
abbrev memberAttrs : List (Nat × Nat) := [Attr.Federation.epoch, Attr.FederationMember.state, Attr.SystemMode.provisionState]

/-- A member's state changes in a new epoch, which is recorded (R641). -/
theorem State.memberState_effect (hn : n < 2 ^ 40) :
    (s.memberState n st).nat Attr.Federation.epoch 0 = (s.nat Attr.Federation.epoch 0 + 1) % 2 ^ 32 ∧ (s.memberState n st).nat Attr.FederationMember.state n = st ∧
      (s.memberState n st).obj.live = s.obj.live ∧
      (s.memberState n st).recd =
        (if st = 3 then (s.recd.ordinary ⟨0x1309, memberPath n, [(n : Int), (st : Int), (((s.nat Attr.Federation.epoch 0 + 1) % 2 ^ 32 : Nat) : Int)]⟩).ordinary
            ⟨0x1308, memberPath n, [(n : Int), (((s.nat Attr.Federation.epoch 0 + 1) % 2 ^ 32 : Nat) : Int)]⟩
          else s.recd.ordinary ⟨0x1309, memberPath n, [(n : Int), (st : Int), (((s.nat Attr.Federation.epoch 0 + 1) % 2 ^ 32 : Nat) : Int)]⟩) ∧
      Changes [.obj, .mbx, .recd] memberAttrs s (s.memberState n st) := by
  unfold State.memberState
  dsimp only
  generalize (s.nat Attr.Federation.epoch 0 + 1) % 2 ^ 32 = e
  have hw : Changes [.obj, .mbx] [Attr.Federation.epoch] s (s.setNat Attr.Federation.epoch 0 e) := changes_setNat
  have hepoch : (s.setNat Attr.Federation.epoch 0 e).nat Attr.Federation.epoch 0 = e := State.nat_setNat
  have hliveW : (s.setNat Attr.Federation.epoch 0 e).obj.live = s.obj.live := State.setAttr_live
  generalize s.setNat Attr.Federation.epoch 0 e = w at hw hepoch hliveW ⊢
  have hx : Changes [.obj, .mbx] [Attr.FederationMember.state] w (w.setNat Attr.FederationMember.state n st) := changes_setNat
  have hstate : (w.setNat Attr.FederationMember.state n st).nat Attr.FederationMember.state n = st := State.nat_setNat
  have hlive : (w.setNat Attr.FederationMember.state n st).obj.live = s.obj.live := State.setAttr_live.trans hliveW
  generalize w.setNat Attr.FederationMember.state n st = x at hx hstate hlive ⊢
  have hrecd : x.recd = s.recd := hx.recd.trans hw.recd
  have hsx : Changes [.obj, .mbx, .recd] memberAttrs s x := hw.mono.step hx
  replace hepoch := (hx.nat Attr.Federation.epoch 0).trans hepoch
  have hfresh : ∀ y : State, y.obj = x.obj → y.refreshProvision.nat Attr.Federation.epoch 0 = e ∧ y.refreshProvision.nat Attr.FederationMember.state n = st ∧
      y.refreshProvision.obj.live = s.obj.live := by
    intro y hy
    have hset : Changes [.obj, .mbx] [Attr.SystemMode.provisionState] y y.refreshProvision := changes_refreshProvision
    refine ⟨(hset.nat Attr.Federation.epoch 0).trans ((State.nat_congr hy _ _).trans hepoch), (hset.nat Attr.FederationMember.state n).trans ((State.nat_congr hy _ _).trans hstate), ?_⟩
    exact State.setAttr_live.trans ((congrArg Obj.live hy).trans hlive)
  have hall : ∀ y : State, Changes [.recd] [] x y → Changes [.obj, .mbx, .recd] memberAttrs s y.refreshProvision := fun y hy => (hsx.step hy).step changes_refreshProvision
  have hkeep : ∀ y : State, y.refreshProvision.recd = y.recd := fun y => State.setNat_recd
  by_cases h3 : st = 3
  · rw [if_pos h3, if_pos h3]
    obtain ⟨h1, h2, h4⟩ := hfresh ((x.raise 0x1309 (memberPath n) [(n : Int), (st : Int), (e : Int)]).raise 0x1308 (memberPath n) [(n : Int), (e : Int)]) rfl
    refine ⟨h1, h2, h4, (hkeep _).trans ?_, hall _ (changes_raise.trans changes_raise)⟩
    rw [← hrecd]
    rfl
  · rw [if_neg h3, if_neg h3]
    obtain ⟨h1, h2, h4⟩ := hfresh (x.raise 0x1309 (memberPath n) [(n : Int), (st : Int), (e : Int)]) rfl
    refine ⟨h1, h2, h4, (hkeep _).trans ?_, hall _ changes_raise⟩
    rw [← hrecd]
    rfl

theorem changes_memberState (hn : n < 2 ^ 40) : Changes [.obj, .mbx, .recd] memberAttrs s (s.memberState n st) := by
  obtain ⟨-, -, -, -, hchange⟩ := State.memberState_effect (s := s) (st := st) hn
  exact hchange

/-- The attributes that an enrolment sets. -/
abbrev enrolAttrs : List (Nat × Nat) :=
  [Attr.FederationMember.eui, Attr.FederationMember.addressKind, Attr.FederationMember.lane, Attr.FederationMember.ipv6, Attr.FederationMember.capacityWeight]

theorem changes_create {c i : Nat} : Changes [.obj] ys s (s.create c i) := ⟨sameBut_create, fun _ _ _ _ => rfl, fun _ hp => hp.create⟩

theorem State.enrol_effect {eui kind lane weight : Nat} {ip : Bytes} (hn : n < 2 ^ 40) :
    (s.enrol n eui kind lane weight ip).obj.live = (s.create 0x0E20 n).obj.live ∧ (s.enrol n eui kind lane weight ip).nat Attr.FederationMember.eui n = eui ∧
      (s.enrol n eui kind lane weight ip).nat Attr.FederationMember.lane n = lane ∧ (s.enrol n eui kind lane weight ip).nat Attr.FederationMember.capacityWeight n = weight ∧
      Changes [.obj, .mbx] enrolAttrs s (s.enrol n eui kind lane weight ip) := by
  have hlive : ∀ {v : State} {y : Nat × Nat} {w : Val}, (v.setAttr y n w).obj.live = v.obj.live := State.setAttr_live
  have hset : ∀ {v : State} {y : Nat × Nat} {w : Val}, y ∈ enrolAttrs ∧ y.2 < 256 → Changes [.obj, .mbx] enrolAttrs v (v.setAttr y n w) :=
    fun hy => (changes_setAttr hy.2).mono (List.Subset.refl _) (List.cons_subset.2 ⟨hy.1, List.nil_subset _⟩)
  have hne : ∀ {v : State} {y z : Nat × Nat} {w : Val}, y.2 < 256 ∧ z.2 < 256 ∧ y.2 ≠ z.2 → (v.setAttr z n w).nat y n = v.nat y n :=
    fun h => by simp only [State.nat, State.int, State.attr_setAttr_ne (mkPath_ne_of_attr h)]
  have hcreate : Changes [.obj, .mbx] enrolAttrs s (s.create 0x0E20 n) := changes_create (ys := []) |>.mono
  unfold State.enrol
  dsimp only [State.setNat]
  refine ⟨hlive.trans (hlive.trans (hlive.trans (hlive.trans hlive))), ?_, ?_, ?_, ?_⟩
  · exact (hne (by decide)).trans ((hne (by decide)).trans ((hne (by decide)).trans ((hne (by decide)).trans State.nat_setNat)))
  · exact (hne (by decide)).trans ((hne (by decide)).trans State.nat_setNat)
  · exact State.nat_setNat
  · exact ((((hcreate.trans (hset (by decide))).trans (hset (by decide))).trans (hset (by decide))).trans (hset (by decide))).trans (hset (by decide))

theorem changes_enrol {eui kind lane weight : Nat} {ip : Bytes} (hn : n < 2 ^ 40) : Changes [.obj, .mbx] enrolAttrs s (s.enrol n eui kind lane weight ip) := by
  obtain ⟨-, -, -, -, hchange⟩ := State.enrol_effect (s := s) (eui := eui) (kind := kind) (lane := lane) (weight := weight) (ip := ip) hn
  exact hchange

/-! ### Proposals (R631) -/

theorem State.completeMember_idle (h : s.twn.joining = []) : s.completeMember n = s := by
  unfold State.completeMember
  dsimp only
  rw [h]
  show s.setTwn { s.twn with joining := [] } = s
  rw [← h]
  rfl

/-- The single proposal that takes effect is proposed no longer. -/
theorem State.decided (hp : s.twn.proposals = [p]) :
    (s.twn.proposals.filter (fun x => x.epoch != p.epoch || x.proposer == s.twn.self)).filter (fun x => x != p) = [] := by
  rw [hp, List.filter_filter]
  simp

/-- The state in which a decided change takes effect. -/
def State.changing (s : State) (p : Proposal) : State :=
  let v := s.setTwn { s.twn with proposals := s.twn.proposals.filter (fun x => x.epoch != p.epoch || x.proposer == s.twn.self) }
  v.setTwn { v.twn with proposals := v.twn.proposals.filter (fun x => x != p) }

theorem State.changing_one (hp : s.twn.proposals = [p]) : s.changing p = s.setTwn { s.twn with proposals := [] } := by
  show s.setTwn { s.twn with
    proposals := (s.twn.proposals.filter (fun x => x.epoch != p.epoch || x.proposer == s.twn.self)).filter (fun x => x != p) } = _
  rw [State.decided hp]

theorem State.applyMembership_join (hc : p.change = 1) (hp : s.twn.proposals = [p]) (hj : s.twn.joining = []) (hm : p.member < 2 ^ 40) :
    s.applyMembership p = ((s.setTwn { s.twn with proposals := [] }).enrol p.member p.eui p.kind p.lane p.weight p.ip).memberState p.member 1 := by
  have hstay : ∀ w : State, (((s.setTwn { s.twn with proposals := [] }).enrol p.member p.eui p.kind p.lane p.weight p.ip).memberState p.member 1) = w → w.completeMember p.member = w := by
    rintro w rfl
    refine State.completeMember_idle ?_
    rw [(changes_memberState hm).twn, (changes_enrol hm).twn]
    exact hj
  show (let s := s.changing p
    let s := if p.change = 1 then s.enrol p.member p.eui p.kind p.lane p.weight p.ip
      else if p.change = 5 then s.setNat Attr.FederationMember.capacityWeight p.member p.weight else s
    let s := s.memberState p.member (p.after s)
    let s := if p.change = 6 then s.destroy 0x0E20 p.member else s
    let s := if p.change = 3 then s else s.completeMember p.member
    if p.change = 2 ∧ p.member = s.twn.self then s.offerAll else s) = _
  rw [State.changing_one hp]
  simp only [hc, Proposal.after, if_true, if_false, Nat.reduceEqDiff, false_and]
  exact hstay _ rfl

theorem State.applyMembership_weight (hc : p.change = 5) (hp : s.twn.proposals = [p]) (hj : s.twn.joining = []) (hm : p.member < 2 ^ 40) :
    s.applyMembership p = ((s.setTwn { s.twn with proposals := [] }).setNat Attr.FederationMember.capacityWeight p.member p.weight).memberState p.member
      (((s.setTwn { s.twn with proposals := [] }).setNat Attr.FederationMember.capacityWeight p.member p.weight).nat Attr.FederationMember.state p.member) := by
  have hstay : ∀ st w, (((s.setTwn { s.twn with proposals := [] }).setNat Attr.FederationMember.capacityWeight p.member p.weight).memberState p.member st) = w →
      w.completeMember p.member = w := by
    rintro st w rfl
    refine State.completeMember_idle ?_
    rw [(changes_memberState hm).twn, State.setNat_twn]
    exact hj
  show (let s := s.changing p
    let s := if p.change = 1 then s.enrol p.member p.eui p.kind p.lane p.weight p.ip
      else if p.change = 5 then s.setNat Attr.FederationMember.capacityWeight p.member p.weight else s
    let s := s.memberState p.member (p.after s)
    let s := if p.change = 6 then s.destroy 0x0E20 p.member else s
    let s := if p.change = 3 then s else s.completeMember p.member
    if p.change = 2 ∧ p.member = s.twn.self then s.offerAll else s) = _
  rw [State.changing_one hp]
  simp only [hc, Proposal.after, if_true, if_false, Nat.reduceEqDiff, false_and]
  exact hstay _ _ rfl

theorem State.tally_one (hp : s.twn.proposals = [p]) (he : p.epoch = s.nat Attr.Federation.epoch 0 + 1) : s.tally = if s.majority p.votes = true then s.applyMembership p else s := by
  unfold State.tally
  dsimp only
  rw [hp, ← he]
  simp

theorem State.reproposeStale_idle (h : ∀ p ∈ s.twn.proposals, s.nat Attr.Federation.epoch 0 < p.epoch) : s.reproposeStale = s := by
  have hold : s.twn.proposals.filter (fun p => p.proposer == s.twn.self && decide (p.epoch ≤ s.nat Attr.Federation.epoch 0)) = [] := by
    refine List.filter_eq_nil_iff.2 fun p hp => ?_
    have := h p hp
    simp
    omega
  have hkeep : s.twn.proposals.filter (fun p => decide (s.nat Attr.Federation.epoch 0 < p.epoch)) = s.twn.proposals := List.filter_eq_self.2 fun p hp => decide_eq_true (h p hp)
  unfold State.reproposeStale
  dsimp only
  rw [hold, hkeep]
  rfl

/-! ### Suspicions (R632) -/

theorem State.suspect_minority {who : Nat} (halive : s.alive 0x0E20 n = true) (hactive : s.nat Attr.FederationMember.state n = 1)
    (hfew : s.majority (who :: (Assoc.find n s.twn.suspects).getD []) = false) :
    s.suspect n who = s.setTwn { s.twn with suspects := Assoc.put n (who :: (Assoc.find n s.twn.suspects).getD []) s.twn.suspects } := by
  unfold State.suspect
  rw [if_neg (by rw [halive, hactive]; simp)]
  exact if_neg fun hc => Bool.false_ne_true (hfew.symm.trans ((State.majority_congr (s := s) rfl).symm.trans hc))

/-- The state in which a majority's suspicion makes a member FAILED. -/
def State.unsuspected (s : State) (n who : Nat) : State :=
  let v := s.setTwn { s.twn with suspects := Assoc.put n (who :: (Assoc.find n s.twn.suspects).getD []) s.twn.suspects }
  v.setTwn { v.twn with suspects := Assoc.del n v.twn.suspects }

theorem State.suspect_majority {who : Nat} (hother : n ≠ s.twn.self) (hn : n < 2 ^ 40) (halive : s.alive 0x0E20 n = true) (hactive : s.nat Attr.FederationMember.state n = 1)
    (hmost : s.majority (who :: (Assoc.find n s.twn.suspects).getD []) = true) : s.suspect n who = (s.unsuspected n who).memberState n 3 := by
  have hself : ¬ n = ((s.unsuspected n who).memberState n 3).twn.self := by
    rw [(changes_memberState hn).twn]
    exact hother
  unfold State.suspect
  rw [if_neg (by rw [halive, hactive]; simp)]
  exact (if_pos ((State.majority_congr (s := s) rfl).trans hmost)).trans (if_neg hself)

theorem field_lt {b : Bytes} {i w : Nat} : field b i w < 256 ^ w :=
  (leNat_lt _).trans_le (Nat.pow_le_pow_right (by decide) (List.length_take_le _ _))

/-! ### Joining (R632, R639) -/

theorem coborCompatible_self {b : Bytes} : coborCompatible b b = true := by simp [coborCompatible]

/-- The member that a JOIN enters, JOINING with its versions. -/
def State.joiner (s : State) (n eui lane weight : Nat) (b : Bytes) : State :=
  ((s.enrol n eui 0 lane weight []).setNat Attr.FederationMember.state n 0).setAttr Attr.FederationMember.versions n (.bytes b)

theorem State.joiner_effect {eui lane weight : Nat} {b : Bytes} (hn : n < 2 ^ 40) : (s.joiner n eui lane weight b).obj.live = (s.create 0x0E20 n).obj.live ∧
    (s.joiner n eui lane weight b).nat Attr.FederationMember.state n = 0 ∧
    (∀ j < 2 ^ 40, j ≠ n → (s.joiner n eui lane weight b).nat Attr.FederationMember.state j = s.nat Attr.FederationMember.state j) ∧
    Changes [.obj, .mbx] (Attr.FederationMember.state :: Attr.FederationMember.versions :: enrolAttrs) s (s.joiner n eui lane weight b) := by
  obtain ⟨hlive, -, -, -, henrol⟩ := State.enrol_effect (s := s) (eui := eui) (kind := 0) (lane := lane) (weight := weight) (ip := []) hn
  unfold State.joiner
  generalize s.enrol n eui 0 lane weight [] = v at hlive henrol
  have hset : Changes [.obj, .mbx] [Attr.FederationMember.state] v (v.setNat Attr.FederationMember.state n 0) := changes_setNat
  have hzero : (v.setNat Attr.FederationMember.state n 0).nat Attr.FederationMember.state n = 0 := State.nat_setNat
  have hother : ∀ j, j ≠ n → (v.setNat Attr.FederationMember.state n 0).nat Attr.FederationMember.state j = v.nat Attr.FederationMember.state j :=
    fun j hj => State.nat_setNat_ne (mkPath_ne_of_inst hj)
  have hliveW : (v.setNat Attr.FederationMember.state n 0).obj.live = v.obj.live := State.setAttr_live
  generalize v.setNat Attr.FederationMember.state n 0 = w at hset hzero hother hliveW
  have hvers : ∀ j, (w.setAttr Attr.FederationMember.versions n (.bytes b)).nat Attr.FederationMember.state j = w.nat Attr.FederationMember.state j :=
    fun j => by simp only [State.nat, State.int, State.attr_setAttr_ne (mkPath_ne_of_attr (y := Attr.FederationMember.state) (z := Attr.FederationMember.versions) (by decide))]
  refine ⟨State.setAttr_live.trans (hliveW.trans hlive), (hvers n).trans hzero, fun j hlt hj => (hvers j).trans ((hother j hj).trans (henrol.nat Attr.FederationMember.state j)), ?_⟩
  · exact (henrol.mono.step hset).step changes_setAttr

theorem changes_joiner {eui lane weight : Nat} {b : Bytes} (hn : n < 2 ^ 40) :
    Changes [.obj, .mbx] (Attr.FederationMember.state :: Attr.FederationMember.versions :: enrolAttrs) s (s.joiner n eui lane weight b) := by
  obtain ⟨-, -, -, hchange⟩ := State.joiner_effect (s := s) (eui := eui) (lane := lane) (weight := weight) (b := b) hn
  exact hchange

theorem State.instances_lt {c j : Nat} (h : j ∈ s.instances c) : j < 2 ^ 40 := by
  obtain ⟨x, -, rfl⟩ := List.mem_map.1 h
  exact Nat.mod_lt _ (by decide)

/-- The single ACTIVE member is its own majority. -/
theorem State.majority_single {x : Nat} (h : s.activeMembers = [x]) : s.majority [x] = true := by
  simp [State.majority, h, List.eraseDups_cons]

/-- A chip that is asked proposes the join in its own name. -/
theorem State.takeJoin_proposes (hfed : field m.body 0 8 = s.nat Attr.Federation.federationId 0) (hn : field m.body 8 2 = n) (hmax : n ≤ 1999) (hpeer : (s.clink m.link).peer = none)
    (hlane : m.link < 8) :
    s.takeJoin m = (s.joiner n 0 m.link (field m.body 10 2) s.ownVersions).proposeChange
      { proposer := m.sender, epoch := 0, change := 1, member := n, state := 1, kind := 0, lane := m.link, weight := field m.body 10 2, eui := 0, ip := [] } := by
  unfold State.takeJoin
  dsimp only
  rw [hn, hpeer, if_neg (by rw [hfed]; simp; omega), if_neg (by simp [coborCompatible_self]), if_pos hlane, Nat.mod_eq_of_lt hlane]
  simp only [Option.map_none, Option.getD_none]
  unfold State.joiner
  generalize State.setAttr _ Attr.FederationMember.versions n _ = w
  rfl

/-- What is proposed in this chip's name, for the next epoch. -/
def State.ownProposal (s : State) (p : Proposal) : Proposal :=
  { p with proposer := s.twn.self, epoch := s.nat Attr.Federation.epoch 0 + 1, at3 := s.tim.d3, votes := [s.twn.self] }

/-- A proposal of this chip, the only one, is entered and told to every member; then the votes are counted (R631). -/
theorem State.proposeChange_one (hp : s.twn.proposals = []) :
    ∃ v : State, Linked (s.setTwn { s.twn with proposals := [s.ownProposal p] }) v ∧
      s.proposeChange p = if s.majority [s.twn.self] = true then v.applyMembership (s.ownProposal p) else v := by
  let v : State := (s.setTwn { s.twn with proposals := s.twn.proposals ++ [s.ownProposal p] }).broadcast 0x21 (s.ownProposal p).body
  have hv : Linked (s.setTwn { s.twn with proposals := s.twn.proposals ++ [s.ownProposal p] }) v := linked_broadcast
  have hone : v.twn.proposals = [s.ownProposal p] := by
    rw [hv.twn]
    show s.twn.proposals ++ [s.ownProposal p] = _
    rw [hp]
    rfl
  have hepoch : (s.ownProposal p).epoch = v.nat Attr.Federation.epoch 0 + 1 := congrArg (· + 1) (State.nat_congr hv.obj Attr.Federation.epoch 0).symm
  have htally := State.tally_one hone hepoch
  rw [State.majority_congr (s := s) hv.obj] at htally
  rw [hp] at hv
  exact ⟨v, hv, htally⟩

/-- A join that the only ACTIVE member proposes is decided by its own vote. -/
theorem State.proposeChange_join (hc : p.change = 1) (hp : s.twn.proposals = []) (hj : s.twn.joining = []) (hm : p.member < 2 ^ 40) (hmaj : s.majority [s.twn.self] = true) :
    ∃ w : State, Changes [.twn] [] s w ∧ w.twn.proposals = [] ∧ s.proposeChange p = (w.enrol p.member p.eui p.kind p.lane p.weight p.ip).memberState p.member 1 := by
  obtain ⟨v, hv, hprop⟩ := State.proposeChange_one (p := p) hp
  have hone : v.twn.proposals = [s.ownProposal p] := by
    rw [hv.twn]
    rfl
  have hjoin : v.twn.joining = [] := by
    rw [hv.twn]
    exact hj
  rw [if_pos hmaj, State.applyMembership_join (p := s.ownProposal p) hc hone hjoin hm] at hprop
  have hav : Changes [.twn] [] s v := (Changes.of_same SameBut.refl.set_twn).trans hv.changes
  exact ⟨v.setTwn { v.twn with proposals := [] }, hav.trans (.of_same SameBut.refl.set_twn), rfl, hprop⟩

/-- A member that is entered and becomes ACTIVE. -/
theorem State.enrolled_effect {eui kind lane weight : Nat} {ip : Bytes} (hn : n < 2 ^ 40) :
    ((s.enrol n eui kind lane weight ip).memberState n 1).alive 0x0E20 n = true ∧ ((s.enrol n eui kind lane weight ip).memberState n 1).nat Attr.FederationMember.state n = 1 ∧
      ((s.enrol n eui kind lane weight ip).memberState n 1).nat Attr.FederationMember.capacityWeight n = weight ∧
      ((s.enrol n eui kind lane weight ip).memberState n 1).nat Attr.FederationMember.lane n = lane ∧
      ((s.enrol n eui kind lane weight ip).memberState n 1).nat Attr.Federation.epoch 0 = (s.nat Attr.Federation.epoch 0 + 1) % 2 ^ 32 ∧
      ((s.enrol n eui kind lane weight ip).memberState n 1).twn.proposals = s.twn.proposals ∧
      ((s.enrol n eui kind lane weight ip).memberState n 1).recd =
        s.recd.ordinary ⟨0x1309, memberPath n, [(n : Int), 1, (((s.nat Attr.Federation.epoch 0 + 1) % 2 ^ 32 : Nat) : Int)]⟩ ∧
      SameBut [.obj, .mbx, .recd] s ((s.enrol n eui kind lane weight ip).memberState n 1) := by
  obtain ⟨hlive, -, hlane, hweight, henrol⟩ := State.enrol_effect (s := s) (eui := eui) (kind := kind) (lane := lane) (weight := weight) (ip := ip) hn
  generalize s.enrol n eui kind lane weight ip = z at hlive hlane hweight henrol
  obtain ⟨hepoch, hst, hliveM, hrecd, hM⟩ := State.memberState_effect (s := z) (st := 1) hn
  rw [henrol.nat Attr.Federation.epoch 0] at hepoch hrecd
  rw [henrol.recd, if_neg (by decide)] at hrecd
  have halive : (z.memberState n 1).alive 0x0E20 n = true := (State.alive_congr (hliveM.trans hlive)).trans State.alive_create
  have hall : SameBut [.obj, .mbx, .recd] s z := henrol.same.mono (by decide)
  refine ⟨halive, hst, (hM.nat Attr.FederationMember.capacityWeight n).trans hweight, (hM.nat Attr.FederationMember.lane n).trans hlane, hepoch, ?_, hrecd, hall.step hM.same⟩
  rw [hM.twn, henrol.twn]

/-- What the only ACTIVE member's proposal of a join becomes: the member is entered and made ACTIVE at once. -/
theorem State.takeJoin_alone {m : Cobor} (hfed : field m.body 0 8 = s.nat Attr.Federation.federationId 0) (hn : field m.body 8 2 = n) (hmax : n ≤ 1999)
    (hpeer : (s.clink m.link).peer = none) (hlane : m.link < 8) (hinst : s.instances 0x0E20 = [s.twn.self]) (hother : n ≠ s.twn.self)
    (hstate : s.nat Attr.FederationMember.state s.twn.self = 1) (hprops : s.twn.proposals = []) (hjoin : s.twn.joining = []) :
    ∃ w : State, Changes [.twn, .obj, .mbx] (Attr.FederationMember.state :: Attr.FederationMember.versions :: enrolAttrs) s w ∧ w.twn.proposals = [] ∧
      s.takeJoin m = (w.enrol n 0 0 m.link (field m.body 10 2) []).memberState n 1 := by
  have hlt : n < 2 ^ 40 := by omega
  rw [State.takeJoin_proposes hfed hn hmax hpeer hlane]
  obtain ⟨hlive, hzero, hkeep, hchange⟩ := State.joiner_effect (s := s) (eui := 0) (lane := m.link) (weight := field m.body 10 2) (b := s.ownVersions) hlt
  generalize s.joiner n 0 m.link (field m.body 10 2) s.ownVersions = a at hlive hzero hkeep hchange
  have htwn : a.twn = s.twn := hchange.twn
  have hself : s.twn.self < 2 ^ 40 := State.instances_lt (s := s) (c := 0x0E20) (by rw [hinst]; exact List.mem_singleton_self _)
  have hactive : a.activeMembers = [a.twn.self] := by
    have hinstA : a.instances 0x0E20 = (s.create 0x0E20 n).instances 0x0E20 := by simp only [State.instances, hlive]
    have hpick : (a.nat Attr.FederationMember.state s.twn.self == 1) = true := by
      rw [hkeep _ hself (Ne.symm hother), hstate]
      rfl
    unfold State.activeMembers
    rw [hinstA, State.instances_create (g := fun j => a.nat Attr.FederationMember.state j == 1) hlt (by rw [hzero]; rfl), hinst, htwn]
    exact List.filter_cons_of_pos hpick
  obtain ⟨w, hw, hnone, hprop⟩ := State.proposeChange_join (s := a)
    (p := { proposer := m.sender, epoch := 0, change := 1, member := n, state := 1, kind := 0, lane := m.link, weight := field m.body 10 2, eui := 0, ip := [] })
    rfl (by rw [htwn]; exact hprops) (by rw [htwn]; exact hjoin) hlt (State.majority_single hactive)
  exact ⟨w, hchange.mono.step hw, hnone, hprop⟩

/-- From `s` to `v` the members, the proposals and the suspicions are as they were. -/
structure State.SameMembers (s v : State) : Prop where
  proposals : v.twn.proposals = s.twn.proposals
  joining : v.twn.joining = s.twn.joining
  self : v.twn.self = s.twn.self
  suspects : v.twn.suspects = s.twn.suspects
  nat : ∀ y i, v.nat y i = s.nat y i
  instances : ∀ c, v.instances c = s.instances c
  alive : ∀ c i, v.alive c i = s.alive c i

/-- A membership message that is delivered in its turn finds the members, the proposals and the suspicions as they were. -/
theorem Linked.membership (hv : Linked s v) : s.SameMembers v := by
  refine ⟨by rw [hv.twn], by rw [hv.twn], by rw [hv.twn], by rw [hv.twn], State.nat_congr hv.obj, fun c => ?_, fun c i => ?_⟩
  · simp only [State.instances, hv.obj]
  · exact State.alive_congr (congrArg Obj.live hv.obj)

/-- A vote for the only proposal is entered with it; then the votes are counted (R631). -/
theorem State.takeVote_one (hyes : octet m.body 6 = 1) (hepoch : field m.body 0 4 = p.epoch) (hwho : field m.body 4 2 = p.proposer) (hp : s.twn.proposals = [p]) :
    s.takeVote m = (s.setTwn { s.twn with proposals := [{ p with votes := m.sender :: p.votes }] }).tally.reproposeStale := by
  unfold State.takeVote
  dsimp only
  rw [if_neg (by omega), hp, List.map_cons, List.map_nil, hepoch, hwho, if_pos ⟨rfl, rfl⟩]

/-- A change of a weight that has its majority takes effect in a new epoch (R631, R637). -/
theorem State.decide_weight (hp : s.twn.proposals = [p]) (he : p.epoch = s.nat Attr.Federation.epoch 0 + 1) (hmaj : s.majority p.votes = true) (hc : p.change = 5) (hm : p.member < 2 ^ 40)
    (hj : s.twn.joining = []) :
    s.tally.reproposeStale.nat Attr.FederationMember.capacityWeight p.member = p.weight ∧
      s.tally.reproposeStale.nat Attr.FederationMember.state p.member = s.nat Attr.FederationMember.state p.member ∧
      s.tally.reproposeStale.nat Attr.Federation.epoch 0 = (s.nat Attr.Federation.epoch 0 + 1) % 2 ^ 32 ∧
      s.tally.reproposeStale.twn.proposals = [] ∧ SameBut [.twn, .obj, .mbx, .recd] s s.tally.reproposeStale := by
  have htally : s.tally = s.applyMembership p := (State.tally_one hp he).trans (if_pos hmaj)
  rw [htally, State.applyMembership_weight hc hp hj hm]
  have hset : Changes [.twn, .obj, .mbx] [Attr.FederationMember.capacityWeight] s
      ((s.setTwn { s.twn with proposals := [] }).setNat Attr.FederationMember.capacityWeight p.member p.weight) :=
    (Changes.mono (Changes.of_same SameBut.refl.set_twn : Changes [.twn] [] s (s.setTwn { s.twn with proposals := [] }))).trans (Changes.mono changes_setNat)
  have hweight : ((s.setTwn { s.twn with proposals := [] }).setNat Attr.FederationMember.capacityWeight p.member p.weight).nat Attr.FederationMember.capacityWeight p.member = p.weight :=
    State.nat_setNat
  have hnone : ((s.setTwn { s.twn with proposals := [] }).setNat Attr.FederationMember.capacityWeight p.member p.weight).twn.proposals = [] := by rw [State.setNat_twn]; rfl
  generalize (s.setTwn { s.twn with proposals := [] }).setNat Attr.FederationMember.capacityWeight p.member p.weight = w at hset hweight hnone
  obtain ⟨hepoch, hst, -, -, hM⟩ := State.memberState_effect (s := w) (st := w.nat Attr.FederationMember.state p.member) hm
  rw [hset.nat Attr.Federation.epoch 0] at hepoch
  have hnone' : (w.memberState p.member (w.nat Attr.FederationMember.state p.member)).twn.proposals = [] := by rw [hM.twn, hnone]
  rw [State.reproposeStale_idle (by rw [hnone']; intro x hx; exact absurd hx (List.not_mem_nil))]
  have hall : SameBut [.twn, .obj, .mbx, .recd] s w := hset.same.mono (by decide)
  exact ⟨(hM.nat Attr.FederationMember.capacityWeight p.member).trans hweight, hst.trans (hset.nat Attr.FederationMember.state p.member), hepoch, hnone', hall.step hM.same⟩

/-- The proposal that a PROPOSE carries, with its proposer's vote and this chip's (R631). -/
def State.proposalOf (s : State) (m : Cobor) : Proposal :=
  { proposer := m.sender, epoch := field m.body 0 4, change := octet m.body 4, member := field m.body 6 2, state := octet m.body 8, kind := octet m.body 9, lane := octet m.body 10,
    weight := field m.body 12 2, eui := field m.body 16 8, ip := slice m.body 24 16, at3 := s.tim.d3, votes := [m.sender, s.twn.self] }

/-- The only proposal for the next epoch is entered with two votes, which are no majority of four members or more. -/
theorem State.takePropose_alone (hp : s.twn.proposals = []) (hepoch : field m.body 0 4 = s.nat Attr.Federation.epoch 0 + 1) (hmany : 4 ≤ s.activeMembers.length) :
    Linked (s.setTwn { s.twn with proposals := [s.proposalOf m] }) (s.takePropose m) := by
  have hok : (field m.body 0 4 == s.nat Attr.Federation.epoch 0 + 1 && !s.twn.proposals.any (fun x => x.epoch == field m.body 0 4 && decide (x.proposer < m.sender))) = true := by
    simp [hp, hepoch]
  let v : State := (s.setTwn { s.twn with proposals := s.twn.proposals ++ [s.proposalOf m] }).broadcast 0x22 (leBytes 4 (field m.body 0 4) ++ leBytes 2 m.sender ++ leBytes 1 (b2n true) ++ [0])
  have hv : Linked (s.setTwn { s.twn with proposals := s.twn.proposals ++ [s.proposalOf m] }) v := linked_broadcast
  have htake : s.takePropose m = v.tally.reproposeStale := by
    unfold State.takePropose
    dsimp only
    simp only [hok]
    rfl
  rw [htake]
  clear_value v
  rw [hp] at hv
  have hone : v.twn.proposals = [s.proposalOf m] := by
    rw [hv.twn]
    rfl
  have hnext : (s.proposalOf m).epoch = v.nat Attr.Federation.epoch 0 + 1 := hepoch.trans (congrArg (· + 1) (State.nat_congr hv.obj Attr.Federation.epoch 0).symm)
  have hfew : v.majority (s.proposalOf m).votes = false := by
    rw [State.majority_congr (s := s) hv.obj]
    exact State.majority_short hmany
  have htally : v.tally = v := (State.tally_one hone hnext).trans (if_neg (by rw [hfew]; exact Bool.false_ne_true))
  rw [htally, State.reproposeStale_idle fun x hx => by
    rw [hone] at hx
    rw [List.mem_singleton.1 hx, hnext]
    exact Nat.lt_succ_self _]
  exact hv

/-- Settles O39: each message is delivered in its turn; the votes are counted by `State.tally_one`, and a change takes effect through `State.memberState_effect`. -/
theorem federationMessages : Obligations.FederationMessages := by
  refine ⟨?_, ?_, ?_, ?_, ?_, ?_, ?_⟩
  · intro s m n hturn hlane hn hmax hfed hpeer hinst hother hstate hprops hjoin
    obtain ⟨v, hrun, hv, hlink, -⟩ := State.coborIn_turn (deliver := deliverCobor) (ty := 0x20) hturn (by decide)
    obtain ⟨hprops', hjoin', hself, -, hnat, hinst', -⟩ := hv.membership
    obtain ⟨w, hw, hnone, htake⟩ := State.takeJoin_alone (s := v) (m := m) (hfed.trans (hnat _ _).symm) hn hmax (by rw [hlink]; exact hpeer) hlane
      (by rw [hinst', hinst, hself]) (by rw [hself]; exact hother) (by rw [hself, hnat]; exact hstate) (hprops'.trans hprops) (hjoin'.trans hjoin)
    obtain ⟨halive, hst, hweight, hlane', hepoch, hprops'', hrecd, hsame⟩ :=
      State.enrolled_effect (s := w) (eui := 0) (kind := 0) (lane := m.link) (weight := field m.body 10 2) (ip := []) (n := n) (by omega)
    rw [hw.nat Attr.Federation.epoch 0, hnat] at hepoch hrecd
    rw [hw.recd, hv.changes.recd] at hrecd
    have hfirst : SameBut [.twn, .obj, .mbx, .recd] s v := hv.same.mono (by decide)
    exact ⟨_, congrArg Host.Outcome.next (hrun.trans htake), halive, hst, hweight, hlane', hepoch, hprops''.trans hnone, hrecd, (hfirst.step hw.same).trans (hsame.mono (by decide))⟩
  · intro s m hturn hfed
    obtain ⟨v, hrun, hv, hlink, -⟩ := State.coborIn_turn (deliver := deliverCobor) (ty := 0x20) hturn (by decide)
    obtain ⟨hprops', -, -, -, hnat, -, -⟩ := hv.membership
    have htake : v.takeJoin m = v := if_pos (.inl (by rw [hnat]; exact hfed))
    exact ⟨v, congrArg Host.Outcome.next (hrun.trans htake), hlink, hprops', hv.same⟩
  · intro s m hturn hprops hother hepoch hmany
    obtain ⟨v, hrun, hv, -, -⟩ := State.coborIn_turn (deliver := deliverCobor) (ty := 0x21) hturn (by decide)
    obtain ⟨hprops', -, hself, -, hnat, -, -⟩ := hv.membership
    have hlinked := State.takePropose_alone (s := v) (m := m) (hprops'.trans hprops) (by rw [hepoch, hnat]) (by rw [State.activeMembers_congr hv.obj]; exact hmany)
    refine ⟨_, congrArg Host.Outcome.next hrun, ⟨v.proposalOf m, ?_, rfl, rfl, rfl, rfl, rfl, ?_⟩, (hv.same.set_twn).trans hlinked.same⟩
    · exact (congrArg Twin.proposals hlinked.twn).trans rfl
    · exact congrArg (fun x => [m.sender, x]) hself
  · intro s m p hturn hprops hyes hepoch hwho hother hnext hfew
    obtain ⟨v, hrun, hv, -, -⟩ := State.coborIn_turn (deliver := deliverCobor) (ty := 0x22) hturn (by decide)
    obtain ⟨hprops', -, -, -, hnat, -, -⟩ := hv.membership
    have htake := State.takeVote_one (s := v) hyes hepoch hwho (hprops'.trans hprops)
    let w : State := v.setTwn { v.twn with proposals := [{ p with votes := m.sender :: p.votes }] }
    have hobj : w.obj = s.obj := hv.obj
    have htally := State.tally_one (s := w) (p := { p with votes := m.sender :: p.votes }) rfl (hnext.trans (congrArg (· + 1) (State.nat_congr hobj Attr.Federation.epoch 0).symm))
    rw [State.majority_congr hobj, State.majority_short (by simpa using hfew), if_neg Bool.false_ne_true] at htally
    have hidle : w.reproposeStale = w := State.reproposeStale_idle fun x hx => by
      rw [List.mem_singleton.1 hx, State.nat_congr hobj]
      show _ < p.epoch
      omega
    have hall : v.takeVote m = w := htake.trans ((congrArg State.reproposeStale htally).trans hidle)
    exact ⟨w, congrArg Host.Outcome.next (hrun.trans hall), rfl, hv.same.set_twn⟩
  · intro s m p hturn hprops hyes hepoch hwho hnext hmost hweight hmax hjoin
    obtain ⟨v, hrun, hv, -, -⟩ := State.coborIn_turn (deliver := deliverCobor) (ty := 0x22) hturn (by decide)
    obtain ⟨hprops', hjoin', -, -, hnat, -, -⟩ := hv.membership
    have htake := State.takeVote_one (s := v) hyes hepoch hwho (hprops'.trans hprops)
    have hvote := State.decide_weight (s := v.setTwn { v.twn with proposals := [{ p with votes := m.sender :: p.votes }] }) (p := { p with votes := m.sender :: p.votes }) rfl
      (hnext.trans (congrArg (· + 1) (hnat _ _).symm)) ((State.majority_congr hv.obj).trans hmost) hweight (show p.member < 2 ^ 40 by omega) (hjoin'.trans hjoin)
    obtain ⟨hwt, hst, hep, hnone, hsame⟩ := hvote
    rw [← htake] at hwt hst hep hnone hsame
    refine ⟨_, congrArg Host.Outcome.next hrun, hwt, hst.trans (hnat _ _), hep.trans ?_, hnone, ((hv.same.set_twn).mono (by decide)).trans hsame⟩
    exact congrArg (fun x => (x + 1) % 2 ^ 32) (hnat _ _)
  · intro s m n hturn hn halive hactive hfew
    obtain ⟨v, hrun, hv, -, -⟩ := State.coborIn_turn (deliver := deliverCobor) (ty := 0x23) hturn (by decide)
    obtain ⟨-, -, -, hsusp, hnat, -, halive'⟩ := hv.membership
    have htake := State.suspect_minority (s := v) (who := m.sender) ((halive' _ _).trans halive) ((hnat _ _).trans hactive) (by rw [hsusp, State.majority_congr hv.obj]; exact hfew)
    rw [← hn] at htake
    refine ⟨_, congrArg Host.Outcome.next (hrun.trans htake), ?_, hv.same.set_twn⟩
    rw [← hsusp, hn]
    exact Assoc.find_put_same
  · intro s m n hturn hn hother halive hactive hmost
    obtain ⟨v, hrun, hv, -, -⟩ := State.coborIn_turn (deliver := deliverCobor) (ty := 0x23) hturn (by decide)
    obtain ⟨-, -, hself, hsusp, hnat, -, halive'⟩ := hv.membership
    have hlt : n < 2 ^ 40 := by
      rw [← hn]
      exact field_lt.trans (by decide)
    have htake := State.suspect_majority (s := v) (who := m.sender) (by rw [hself]; exact hother) hlt ((halive' _ _).trans halive) ((hnat _ _).trans hactive)
      (by rw [hsusp, State.majority_congr hv.obj]; exact hmost)
    let w : State := v.unsuspected n m.sender
    have hw : Changes [.twn] [] v w := (Changes.of_same SameBut.refl.set_twn).trans (.of_same SameBut.refl.set_twn)
    have hgone : Assoc.find n w.twn.suspects = none := Assoc.find_del_same
    have hsw : Changes [.twn] [] s w := hv.changes.trans hw
    rw [← hn] at htake
    have hrun' : exec (.suspect m) s = .next ((v.unsuspected (field m.body 0 2) m.sender).memberState (field m.body 0 2) 3) := congrArg Host.Outcome.next (hrun.trans htake)
    rw [hn] at hrun'
    change exec (.suspect m) s = .next (w.memberState n 3) at hrun'
    clear_value w
    obtain ⟨hepoch, hst, -, hrecd, hM⟩ := State.memberState_effect (s := w) (st := 3) hlt
    rw [hsw.nat Attr.Federation.epoch 0] at hepoch hrecd
    rw [hsw.recd, if_pos rfl] at hrecd
    have hall : SameBut [.twn, .obj, .mbx, .recd] s w := hsw.same.mono (by decide)
    refine ⟨_, hrun', hst, ?_, hepoch, hrecd, hall.step hM.same⟩
    rw [hM.twn]
    exact hgone

end Sys2Proof.Machine
end

section
/-! Changes of the federation that no message brings (R630–R639). -/

namespace Sys2Proof.Machine

variable {s t u v : State} {n k e : Nat} {c : Cmd} {p : Proposal}

/-! ### Silent members and proposals without a majority (R631, R632) -/

theorem execMemberTimeout_tells (halive : s.alive 0x0E20 n = true) (hother : n ≠ s.twn.self) (hactive : s.nat Attr.FederationMember.state n = 1) :
    ∃ v : State, Linked s v ∧ exec (.memberTimeout n) s = .next (v.suspect n v.twn.self) := by
  have hv : Linked s (s.broadcast 0x23 (leBytes 2 n ++ [0, 0] ++ leBytes 4 (s.nat Attr.Federation.epoch 0))) := linked_broadcast
  have hself : (s.broadcast 0x23 (leBytes 2 n ++ [0, 0] ++ leBytes 4 (s.nat Attr.Federation.epoch 0))).twn.self = s.twn.self := by rw [hv.twn]
  have hrun : exec (.memberTimeout n) s =
      .next ((s.broadcast 0x23 (leBytes 2 n ++ [0, 0] ++ leBytes 4 (s.nat Attr.Federation.epoch 0))).suspect n
        (s.broadcast 0x23 (leBytes 2 n ++ [0, 0] ++ leBytes 4 (s.nat Attr.Federation.epoch 0))).twn.self) := if_neg (by simp [halive, hother, hactive])
  exact ⟨_, hv, hrun⟩

/-- The proposal that is dropped is the one of the epoch and proposer named. -/
theorem execMembershipVoteTimeout_one (hp : s.twn.proposals = [p]) : exec (.membershipVoteTimeout p.epoch p.proposer) s =
    if p.proposer = s.twn.self then
      .next ((s.twn.joining.filter (fun x => x.2 == p.member)).foldl (fun s x => s.completeCmd x.1 .timeout [])
        (s.setTwn { s.twn with proposals := [], joining := s.twn.joining.filter (fun x => x.2 != p.member) }))
    else .next (s.setTwn { s.twn with proposals := [] }) := by
  have hfind : s.twn.proposals.find? (fun x => x.epoch == p.epoch && x.proposer == p.proposer) = some p := by simp [hp]
  show execMembershipVoteTimeout p.epoch p.proposer s = _
  unfold execMembershipVoteTimeout
  rw [hfind]
  simp only [show s.twn.proposals.filter (fun x => x != p) = [] by simp [hp]]
  rfl

/-! ### Cells of a failed member (R636) -/

/-- The attributes of a cell that is formed again. -/
abbrev reformAttrs : List (Nat × Nat) :=
  [Attr.LineCell.port, Attr.LineCell.kind, Attr.LineCell.purpose, Attr.LineCell.beaconPeriodMs, Attr.LineCell.relayEui]

/-- The objects of a metering cell that is formed again here. -/
def State.reformed (s : State) (x : PlannedCell) : State :=
  let s := ((((s.create 0x0210 x.cell).setNat Attr.LineCell.port x.cell x.port).setNat Attr.LineCell.kind x.cell 1).setNat Attr.LineCell.purpose x.cell x.purpose)
  (s.setNat Attr.LineCell.beaconPeriodMs x.cell (if x.purpose = 1 then 1000 else 8000)).setNat Attr.LineCell.relayEui x.cell x.relay

/-- From `s` to `t` a planned cell has been formed again (R636). -/
structure State.Reforms (s t : State) (x : PlannedCell) : Prop where
  line : t.isLine x.cell = true
  port : t.nat Attr.LineCell.port x.cell = x.port
  kind : t.nat Attr.LineCell.kind x.cell = 1
  purpose : t.nat Attr.LineCell.purpose x.cell = x.purpose
  period : t.nat Attr.LineCell.beaconPeriodMs x.cell = (if x.purpose = 1 then 1000 else 8000)
  relay : t.nat Attr.LineCell.relayEui x.cell = x.relay
  change : Changes [.obj, .mbx] reformAttrs s t

theorem State.reformed_effect {x : PlannedCell} (hx : x.cell ≤ 511) : s.Reforms (s.reformed x) x := by
  have hne : ∀ {y z : Nat × Nat} {v : State} {m : Nat}, y.2 < 256 ∧ z.2 < 256 ∧ y.2 ≠ z.2 → (v.setNat z x.cell m).nat y x.cell = v.nat y x.cell :=
    fun h => State.nat_setNat_ne (mkPath_ne_of_attr h)
  have hlive : ∀ {y : Nat × Nat} {i m : Nat} {v : State}, (v.setNat y i m).obj.live = v.obj.live := State.setAttr_live
  have hset : ∀ {v : State} {y : Nat × Nat} {m : Nat}, y ∈ reformAttrs ∧ y.2 < 256 → Changes [.obj, .mbx] reformAttrs v (v.setNat y x.cell m) :=
    fun hy => Changes.mono (changes_setNat hy.2) (List.Subset.refl _) (List.cons_subset.2 ⟨hy.1, List.nil_subset _⟩)
  have hcreate : Changes [.obj, .mbx] reformAttrs s (s.create 0x0210 x.cell) := changes_create (ys := []) |>.mono
  unfold State.reformed
  dsimp only
  refine ⟨?_, ?_, ?_, ?_, ?_, State.nat_setNat, ?_⟩
  · exact (State.alive_congr (s := s.create 0x0210 x.cell) (hlive.trans (hlive.trans (hlive.trans (hlive.trans hlive))))).trans State.alive_create
  · exact (hne (by decide)).trans ((hne (by decide)).trans ((hne (by decide)).trans ((hne (by decide)).trans State.nat_setNat)))
  · exact (hne (by decide)).trans ((hne (by decide)).trans ((hne (by decide)).trans State.nat_setNat))
  · exact (hne (by decide)).trans ((hne (by decide)).trans State.nat_setNat)
  · exact (hne (by decide)).trans State.nat_setNat
  · exact ((((hcreate.trans (hset (by decide))).trans (hset (by decide))).trans (hset (by decide))).trans (hset (by decide))).trans (hset (by decide))

theorem State.reform_metering {x : PlannedCell} (hpur : x.purpose = 0) (hcell : x.cell ≤ 511) (hport : x.port ≤ 15) (hline : s.isLine x.cell = false) (hpan : s.isPan x.cell = false) :
    s.reform x = ((s.reformed x).raise 0x0507 (objPath 0x0210 x.cell) [x.port, x.cell, 1, x.purpose]).setCell x.cell { held := false, restoring := false } := by
  unfold State.reform
  dsimp only
  rw [if_neg (by simp [hline, hpan]; omega), if_neg (by omega)]
  rfl

theorem execMigrated_one {f : Nat} {x : PlannedCell} (halive : s.alive 0x0E20 f = true) (hother : f ≠ s.twn.self) (hfailed : s.nat Attr.FederationMember.state f = 3)
    (hreps : s.twn.replicas = []) : exec (.migrated f [x]) s = .next (((s.setTwn { s.twn with replicas := [] }).raise 0x130B (memberPath f) [(f : Int), 0]).reform x) := by
  show execMigrated f [x] s = _
  unfold execMigrated
  rw [if_neg (by simp [halive, hother, hfailed])]
  simp only [hreps, List.filter_nil, List.map_nil, List.eraseDups_nil, List.foldl_nil, List.foldl_cons]
  rfl

/-! ### Joining and leaving (R632, R639) -/

theorem doFederationJoin_asks {m : Nat} (hrole : c.role = .operator) (hmode : s.sys.mode = .provision) (hlen : 28 ≤ c.payload.length) (hm : field c.payload 8 2 = m) (hmax : m ≤ 1999) :
    ∃ t, doFederationJoin c s = (⟨.accepted, []⟩, t) ∧ t.twn.self = m ∧ t.twn.joining = s.twn.joining ++ [(c.arrival, m)] ∧
      t.nat Attr.Federation.federationId 0 = field c.payload 0 8 ∧ t.alive 0x0E20 m = true ∧ t.nat Attr.FederationMember.state m = 0 ∧
      t.nat Attr.FederationMember.eui m = s.sys.eui ∧
      Changes [.mbx, .obj, .twn] (Attr.SystemMode.provisionState :: Attr.Federation.federationId :: Attr.FederationMember.state :: enrolAttrs) s t := by
  have hlt : m < 2 ^ 40 := by omega
  let a : State := s.setNat Attr.Federation.federationId 0 (field c.payload 0 8)
  let b : State := a.setTwn { a.twn with self := m, joining := s.twn.joining ++ [(c.arrival, m)] }
  have hsa : Changes [.mbx, .obj] [Attr.Federation.federationId] s a := Changes.mono changes_setNat
  have hab : Changes [.twn] [] a b := .of_same SameBut.refl.set_twn
  have hid : b.nat Attr.Federation.federationId 0 = field c.payload 0 8 := (hab.nat Attr.Federation.federationId 0).trans State.nat_setNat
  have hself : b.twn.self = m := rfl
  have hjoin : b.twn.joining = s.twn.joining ++ [(c.arrival, m)] := rfl
  have hsb : Changes [.mbx, .obj, .twn] [Attr.Federation.federationId] s b := hsa.mono.step hab
  have heui : b.sys.eui = s.sys.eui := congrArg Sys.eui hsb.sys
  have hrun : doFederationJoin c s = (⟨.accepted, []⟩,
      ((((b.enrol m b.sys.eui 1 0 (field c.payload 10 2) []).setNat Attr.FederationMember.state m 0).sendKeyAgree seedLink).sendReliable seedLink 0x20
        (leBytes 8 (field c.payload 0 8) ++ leBytes 2 m ++ leBytes 2 (field c.payload 10 2) ++ leBytes 4 0)).refreshProvision) := by
    unfold doFederationJoin
    dsimp only
    rw [hm, if_neg (by simp [hrole]), if_neg (by simp [hmode]), if_neg (by omega)]
  clear_value b
  obtain ⟨hlive, heuiE, -, -, henrol⟩ := State.enrol_effect (s := b) (eui := b.sys.eui) (kind := 1) (lane := 0) (weight := field c.payload 10 2) (ip := []) hlt
  generalize b.enrol m b.sys.eui 1 0 (field c.payload 10 2) [] = w at hrun hlive heuiE henrol
  have hst : (w.setNat Attr.FederationMember.state m 0).nat Attr.FederationMember.state m = 0 := State.nat_setNat
  have hwx : Changes [.obj, .mbx] [Attr.FederationMember.state] w (w.setNat Attr.FederationMember.state m 0) := changes_setNat
  have hliveX : (w.setNat Attr.FederationMember.state m 0).obj.live = w.obj.live := State.setAttr_live
  generalize w.setNat Attr.FederationMember.state m 0 = x at hrun hst hwx hliveX
  have hxy : Linked x ((x.sendKeyAgree seedLink).sendReliable seedLink 0x20 (leBytes 8 (field c.payload 0 8) ++ leBytes 2 m ++ leBytes 2 (field c.payload 10 2) ++ leBytes 4 0)) :=
    linked_sendKeyAgree.trans linked_sendReliable
  generalize (x.sendKeyAgree seedLink).sendReliable seedLink 0x20 (leBytes 8 (field c.payload 0 8) ++ leBytes 2 m ++ leBytes 2 (field c.payload 10 2) ++ leBytes 4 0) = y at hrun hxy
  have hyz : Changes [.obj, .mbx] [Attr.SystemMode.provisionState] y y.refreshProvision := changes_refreshProvision
  have hliveZ : y.refreshProvision.obj.live = y.obj.live := State.setAttr_live
  have hbx : Changes [.obj, .mbx] (Attr.FederationMember.state :: enrolAttrs) b x := henrol.mono.step hwx
  have hxz : Changes [.mbx, .obj, .twn] [Attr.SystemMode.provisionState] x y.refreshProvision := hxy.changes.mono.step hyz
  have htwn : y.refreshProvision.twn = { x.twn with links := y.twn.links, out := y.twn.out } := hyz.twn.trans hxy.twn
  refine ⟨_, hrun, ?_, ?_, ?_, ?_, ?_, ?_, ?_⟩
  · rw [htwn]
    exact (congrArg Twin.self hbx.twn).trans hself
  · rw [htwn]
    exact (congrArg Twin.joining hbx.twn).trans hjoin
  · exact (hxz.nat Attr.Federation.federationId 0).trans ((hbx.nat Attr.Federation.federationId 0).trans hid)
  · refine (State.alive_congr (s := b.create 0x0E20 m) ?_).trans State.alive_create
    exact hliveZ.trans ((congrArg Obj.live hxy.obj).trans (hliveX.trans hlive))
  · exact (hxz.nat Attr.FederationMember.state m).trans hst
  · exact (hxz.nat Attr.FederationMember.eui m).trans ((hwx.nat Attr.FederationMember.eui m).trans (heuiE.trans heui))
  · exact (hsb.mono.step hbx).step hxz

/-- A chip that is not the only ACTIVE member proposes alone. -/
theorem State.proposeChange_waits (hp : s.twn.proposals = []) (hmany : 2 ≤ s.activeMembers.length) :
    Linked (s.setTwn { s.twn with proposals := [s.ownProposal p] }) (s.proposeChange p) := by
  obtain ⟨v, hv, hprop⟩ := State.proposeChange_one (p := p) hp
  rw [State.majority_short (s := s) (vs := [s.twn.self]) hmany, if_neg Bool.false_ne_true] at hprop
  rw [hprop]
  exact hv

/-- What a graceful leave of member `m` proposes: DRAINING, all else as it is. -/
def State.drainProposal (s : State) (m : Nat) : Proposal :=
  { proposer := s.twn.self, epoch := 0, change := 3, member := m, state := 2, kind := s.nat Attr.FederationMember.addressKind m, lane := s.nat Attr.FederationMember.lane m,
    weight := s.nat Attr.FederationMember.capacityWeight m, eui := s.nat Attr.FederationMember.eui m, ip := s.octets Attr.FederationMember.ipv6 m }

theorem doFederationLeave_proposes {m : Nat} (hrole : c.role = .operator) (hm : field c.payload 0 2 = m) (hmode : octet c.payload 2 = 0) (halive : s.alive 0x0E20 m = true) :
    doFederationLeave c s = (⟨.accepted, []⟩, (s.setTwn { s.twn with joining := s.twn.joining ++ [(c.arrival, m)] }).proposeChange (s.drainProposal m)) := by
  unfold doFederationLeave
  dsimp only
  rw [hm, hmode, if_neg (by simp [hrole]), if_neg (by omega), if_neg (by simp [halive]), if_neg (by omega)]
  rfl

/-! ### Rebalancing (R524, R634) -/

/-- The home that the placement order gives an endpoint (R634). -/
def State.placedHome (s : State) (h : Nat) : Nat :=
  if (s.primary h).isSome && decide (0 < s.nat Attr.FederationMember.capacityWeight s.twn.self) then s.twn.self
  else ((s.placement (s.nat Attr.EndpointProfile.eui h)).head?).getD s.twn.self

/-- The replica that the placement order gives an endpoint (R634). -/
def State.placedReplica (s : State) (h : Nat) : Nat :=
  ((s.placement (s.nat Attr.EndpointProfile.eui h)).find? (fun m => m != s.placedHome h && s.readsStore m)).getD 0xFFFF

theorem State.misplaced_eq {h : Nat} : s.misplaced h =
    (s.placedHome h != s.nat Attr.EndpointPlacement.home h || s.placedReplica h != s.nat Attr.EndpointPlacement.replica h) := by
  have hplace : s.placeEndpoint h = (s.setNat Attr.EndpointPlacement.home h (s.placedHome h)).setNat Attr.EndpointPlacement.replica h (s.placedReplica h) := rfl
  have hhome : (s.placeEndpoint h).nat Attr.EndpointPlacement.home h = s.placedHome h := by
    rw [hplace]
    exact (State.nat_setNat_ne (mkPath_ne_of_attr (by decide))).trans State.nat_setNat
  have hreplica : (s.placeEndpoint h).nat Attr.EndpointPlacement.replica h = s.placedReplica h := by
    rw [hplace]
    exact State.nat_setNat
  unfold State.misplaced
  dsimp only
  rw [hhome, hreplica]

theorem State.misplaced_congr {h : Nat} (hu : SameBut [.mbx, .fcr, .recd] s u) : u.misplaced h = s.misplaced h := by
  obtain ⟨m, f, r, k, rfl⟩ : ∃ m f r k, u = { s with mbx := m, fcr := f, recd := r, freeCtr := k } := by
    refine ⟨u.mbx, u.fcr, u.recd, u.freeCtr, ?_⟩
    cases u
    simp_all [SameBut]
  rw [State.misplaced_eq, State.misplaced_eq]
  rfl

theorem State.startRebalance_settled (h : ∀ i ∈ s.instances 0x0501, s.misplaced i = false) :
    ∃ k, s.startRebalance = (if 0 < s.freeOutside then { s.setTwn { s.twn with moved := (s.today, k) } with sto := { s.sto with peers := [] } }
      else s.setTwn { s.twn with moved := (s.today, k) }) := by
  have hnone : (s.instances 0x0501).filter s.misplaced = [] := List.filter_eq_nil_iff.2 fun i hi => by
    rw [h i hi]
    exact Bool.false_ne_true
  unfold State.startRebalance
  dsimp only
  rw [hnone, List.take_nil, List.foldl_nil]
  exact ⟨_, rfl⟩

/-- Settles O40: a member that is not heard is suspected (`State.suspect_minority`), a planned cell is formed again (`State.reformed_effect`), and a leave waits for the votes. -/
theorem federationChanges : Obligations.FederationChanges := by
  refine ⟨?_, ?_, ?_, ?_, ?_, ?_, ?_, ?_, ?_, ?_⟩
  · intro s n halive hother hactive hfew
    obtain ⟨v, hv, hrun⟩ := execMemberTimeout_tells halive hother hactive
    obtain ⟨-, -, hself, hsusp, hnat, -, halive'⟩ := hv.membership
    have htake := State.suspect_minority (s := v) (who := v.twn.self) ((halive' _ _).trans halive) ((hnat _ _).trans hactive)
      (by rw [hself, hsusp, State.majority_congr hv.obj]; exact hfew)
    rw [htake, hself, hsusp] at hrun
    exact ⟨_, hrun, Assoc.find_put_same, hv.same.set_twn⟩
  · intro s p hp hother
    exact ⟨_, (execMembershipVoteTimeout_one hp).trans (if_neg hother), rfl, SameBut.refl.set_twn⟩
  · intro s p a x hp hown hjoin hfind hsess
    have hrun := (execMembershipVoteTimeout_one hp).trans (if_pos hown)
    have hdone : s.twn.joining.filter (fun y => y.2 == p.member) = [(a, p.member)] := by simp [hjoin]
    have hleft : s.twn.joining.filter (fun y => y.2 != p.member) = [] := by simp [hjoin]
    rw [hdone, hleft] at hrun
    obtain ⟨-, hentry, hsame⟩ := State.completeCmd_effect (s := s.setTwn { s.twn with proposals := [], joining := [] }) (st := .timeout) (data := []) hfind hsess
    exact ⟨_, hrun, hsame.area .twn, hentry, SameBut.refl.set_twn.step hsame⟩
  · intro s f c p x halive hother hfailed hreps hc hp hpur hc' hp' hline hpan
    subst hc hp
    have hrun := execMigrated_one (x := x) halive hother hfailed hreps
    have hreps' : Changes [.twn] [] s (s.setTwn { s.twn with replicas := [] }) := .of_same SameBut.refl.set_twn
    have hsa : Changes [.mbx, .twn, .recd] [] s ((s.setTwn { s.twn with replicas := [] }).raise 0x130B (memberPath f) [(f : Int), 0]) :=
      hreps'.mono.step changes_raise
    have hrecd : ((s.setTwn { s.twn with replicas := [] }).raise 0x130B (memberPath f) [(f : Int), 0]).recd = s.recd.ordinary ⟨0x130B, objPath 0x0E20 f, [(f : Int), 0]⟩ := rfl
    have hline' : ((s.setTwn { s.twn with replicas := [] }).raise 0x130B (memberPath f) [(f : Int), 0]).isLine x.cell = false := hline
    have hpan' : ((s.setTwn { s.twn with replicas := [] }).raise 0x130B (memberPath f) [(f : Int), 0]).isPan x.cell = false := hpan
    generalize (s.setTwn { s.twn with replicas := [] }).raise 0x130B (memberPath f) [(f : Int), 0] = v at hrun hsa hrecd hline' hpan'
    rw [State.reform_metering hpur hc' hp' hline' hpan'] at hrun
    obtain ⟨hlive, hport, hkind, hpurpose, hperiod, hrelay, hchange⟩ := State.reformed_effect (s := v) hc'
    generalize v.reformed x = w at hrun hlive hport hkind hpurpose hperiod hrelay hchange
    have hobj : ((w.raise 0x0507 (objPath 0x0210 x.cell) [x.port, x.cell, 1, x.purpose]).setCell x.cell { held := false, restoring := false }).obj = w.obj := rfl
    have hsw : Changes [.twn, .obj, .mbx, .recd, .lin] reformAttrs s w := hsa.mono.step hchange
    have hlast : Changes [.recd, .lin] [] w ((w.raise 0x0507 (objPath 0x0210 x.cell) [x.port, x.cell, 1, x.purpose]).setCell x.cell { held := false, restoring := false }) :=
      .of_same ((sameBut_raise.mono (by decide)).step sameBut_setCell)
    refine ⟨_, hrun, (State.alive_congr (congrArg Obj.live hobj)).trans hlive, (State.nat_congr hobj _ _).trans hport, (State.nat_congr hobj _ _).trans hkind,
      (State.nat_congr hobj _ _).trans (hpurpose.trans hpur), (State.nat_congr hobj _ _).trans (hperiod.trans (if_neg (by omega))), (State.nat_congr hobj _ _).trans hrelay, ?_,
      (hsw.step hlast).same⟩
    show w.recd.ordinary _ = _
    rw [hchange.recd, hrecd, hpur]
    rfl
  · intro s c n m hs ho hrole hmode hlen hm hmax
    obtain ⟨u, hbody, hself, hjoin, hid, halive, hst, heui, hchange⟩ := doFederationJoin_asks (s := s.pop) hrole hmode hlen hm hmax
    obtain ⟨t, hrun, rfl, hans⟩ := hs.completes ho hbody (hchange.poised s ⟨rfl, rfl, rfl⟩) (Nat.zero_le _)
    have hobj : (u.finish c ⟨.accepted, []⟩).obj = u.obj := State.finish_obj
    have htwn : (u.finish c ⟨.accepted, []⟩).twn = u.twn := State.finish_twn
    refine ⟨_, hrun, hans, (congrArg Twin.self htwn).trans hself, (congrArg Twin.joining htwn).trans hjoin, (State.nat_congr hobj _ _).trans hid,
      (State.alive_congr (congrArg Obj.live hobj)).trans halive, (State.nat_congr hobj _ _).trans hst, (State.nat_congr hobj _ _).trans heui, hchange.finished⟩
  · intro s c n hs ho hrole hmode
    have hbody : doFederationJoin c s.pop = (⟨.refused, []⟩, s.pop) := (if_neg (by simp [hrole])).trans (if_pos hmode)
    exact State.Serves.completes_unchanged (b := doFederationJoin) hs ho hbody (Nat.zero_le _)
  · intro s c n m hs ho hrole hm hmode halive hprops hmany
    have hbody := doFederationLeave_proposes (s := s.pop) hrole hm hmode halive
    have hlinked := State.proposeChange_waits (s := s.pop.setTwn { s.pop.twn with joining := s.pop.twn.joining ++ [(c.arrival, m)] }) (p := s.pop.drainProposal m) hprops hmany
    have hjoins : Changes [.twn] [] s.pop ((s.pop.setTwn { s.pop.twn with joining := s.pop.twn.joining ++ [(c.arrival, m)] }).setTwn
        { s.pop.twn with joining := s.pop.twn.joining ++ [(c.arrival, m)],
                         proposals := [(s.pop.setTwn { s.pop.twn with joining := s.pop.twn.joining ++ [(c.arrival, m)] }).ownProposal (s.pop.drainProposal m)] }) :=
      .of_same SameBut.refl.set_twn.set_twn
    have hchange : Changes [.mbx, .twn] [] s.pop
        ((s.pop.setTwn { s.pop.twn with joining := s.pop.twn.joining ++ [(c.arrival, m)] }).proposeChange (s.pop.drainProposal m)) :=
      Changes.mono (hjoins.trans hlinked.changes)
    have htwn := hlinked.twn
    generalize (s.pop.setTwn { s.pop.twn with joining := s.pop.twn.joining ++ [(c.arrival, m)] }).proposeChange (s.pop.drainProposal m) = u at hbody hchange htwn
    obtain ⟨t, hrun, rfl, hans⟩ := hs.completes ho hbody (hchange.poised s ⟨rfl, rfl, rfl⟩) (Nat.zero_le _)
    have htwnT : (u.finish c ⟨.accepted, []⟩).twn = u.twn := State.finish_twn
    exact ⟨_, hrun, hans, congrArg Twin.joining (htwnT.trans htwn), ⟨_, congrArg Twin.proposals (htwnT.trans htwn), rfl, rfl, rfl, rfl, rfl⟩, hchange.finished⟩
  · intro s c n hs ho hrole hmode hgone
    have hbody : doFederationLeave c s.pop = (⟨.notFound, []⟩, s.pop) := by
      refine (if_neg (by simp [hrole])).trans ((if_neg (by omega)).trans (if_pos ?_))
      rw [show s.pop.alive 0x0E20 (field c.payload 0 2) = s.alive 0x0E20 (field c.payload 0 2) from rfl, hgone]
      rfl
    exact State.Serves.completes_unchanged (b := doFederationLeave) hs ho hbody (Nat.zero_le _)
  · intro s c n hs ho hrole hadm hdef hplaced
    let a : Activity := { kind := 10, arrival := c.arrival, internal := false, unit := 0, session := c.session, path := c.path, arg := c.payload.take 16 }
    have hbody : doRebalance c s.pop = (⟨.accepted, []⟩, (s.pop.admitActivity a).startRebalance) := by
      have hreq : s.pop.requestCmd c 10 0 = (.admitted, s.pop.admitActivity a) := State.arbitrate_free hadm hdef
      unfold doRebalance
      dsimp only
      rw [hreq, if_neg (by simp [hrole])]
      rfl
    have hadmit : SameBut [.mbx, .fcr, .recd] s (s.pop.admitActivity a) := (sameBut_pop.mono (by decide)).step sameBut_admitActivity
    obtain ⟨k, hstart⟩ := State.startRebalance_settled (s := s.pop.admitActivity a) fun i hi => by
      rw [State.misplaced_congr hadmit]
      exact hplaced i hi
    rw [hstart] at hbody
    have hfree : (s.pop.admitActivity a).freeOutside = s.freeOutside := rfl
    have htoday : (s.pop.admitActivity a).today = s.today := rfl
    rw [hfree, htoday] at hbody
    have hfcr : (s.pop.admitActivity a).fcr.admitted = [a] := congrArg (· ++ [a]) hadm
    have hsto : (s.pop.admitActivity a).sto = s.sto := rfl
    have hpoised : Poised s (s.pop.admitActivity a) := ⟨rfl, rfl, rfl⟩
    generalize s.pop.admitActivity a = v at hbody hadmit hfcr hsto hpoised
    have hchange : Changes [.twn, .sto] [] v (if 0 < s.freeOutside then { v.setTwn { v.twn with moved := (s.today, k) } with sto := { v.sto with peers := [] } }
        else v.setTwn { v.twn with moved := (s.today, k) }) := .ite (.of_same SameBut.refl.set_twn.set_sto) (.of_same SameBut.refl.set_twn)
    have hmoved : (if 0 < s.freeOutside then { v.setTwn { v.twn with moved := (s.today, k) } with sto := { v.sto with peers := [] } }
        else v.setTwn { v.twn with moved := (s.today, k) }).twn.moved.1 = s.today := by split <;> rfl
    have hpeers : (if 0 < s.freeOutside then { v.setTwn { v.twn with moved := (s.today, k) } with sto := { v.sto with peers := [] } }
        else v.setTwn { v.twn with moved := (s.today, k) }).sto = if 0 < s.freeOutside then { v.sto with peers := [] } else v.sto := by split <;> rfl
    generalize (if 0 < s.freeOutside then { v.setTwn { v.twn with moved := (s.today, k) } with sto := { v.sto with peers := [] } }
        else v.setTwn { v.twn with moved := (s.today, k) }) = u at hbody hchange hmoved hpeers
    obtain ⟨t, hrun, rfl, hans⟩ := hs.completes ho hbody (hchange.poised s hpoised) (Nat.zero_le _)
    have hfin : SameBut [.mbx] u (u.finish c ⟨.accepted, []⟩) := sameBut_finish
    have hall : SameBut [.mbx, .fcr, .recd, .twn, .sto] s v := hadmit.mono (by decide)
    rw [hsto] at hpeers
    refine ⟨_, hrun, hans, (congrArg (fun x : Twin => x.moved.1) State.finish_twn).trans hmoved, ⟨a, ?_, rfl, rfl⟩, State.finish_sto.trans hpeers, (hall.step hchange.same).step hfin⟩
    have hkeep : (u.finish c ⟨.accepted, []⟩).fcr = v.fcr := State.finish_fcr.trans hchange.fcr
    rw [hkeep]
    exact hfcr
  · intro s c n hs ho hrole
    have hbody : doRebalance c s.pop = (⟨.denied, []⟩, s.pop) := if_pos hrole
    exact State.Serves.completes_unchanged (b := doRebalance) hs ho hbody (Nat.zero_le _)

end Sys2Proof.Machine
end

section
/-! Pairing and the interlock (R604, R605, R612–R616). -/

namespace Sys2Proof.Machine

variable {s t u v : State} {trig : Nat} {m : Mode}

/-! ### Mode changes (Table 03-8) -/

theorem changes_touch {y : Nat × Nat} {i : Nat} {x : Val} : Changes [.mbx, .obj] [] s (s.touch y i x) :=
  ⟨sameBut_touch, fun _ _ _ _ => rfl, fun _ hp => hp.of_unnotified Mailbox.notifyAll_unnotified⟩

theorem changes_setMode : Changes [.sys, .dbg, .obj, .mbx, .recd] [] s (s.setMode m trig) := by
  unfold State.setMode
  dsimp only
  split
  · exact .refl
  · refine Changes.step (Changes.step ?_ changes_touch) changes_raise
    exact Changes.mono (areas' := [.sys, .dbg]) (ys' := []) (Changes.trans (.of_same SameBut.refl.set_sys) (.ite (.of_same SameBut.refl.set_dbg) .refl))

/-- A change from a mode other than PROVISION and FACTORY. -/
theorem State.setMode_effect (hne : s.sys.mode ≠ m) (hlocked : s.sys.mode ≠ .provision ∧ s.sys.mode ≠ .factory) :
    (s.setMode m trig).sys = { s.sys with mode := m, prevMode := s.sys.mode, serviceAt := if m = Mode.service then s.tim.d3 else s.sys.serviceAt } ∧
      (s.setMode m trig).recd = s.recd.ordinary ⟨0x0101, objPath 0x0102 0, [(s.sys.mode.code : Int), (m.code : Int), (trig : Int)]⟩ ∧
      Changes [.sys, .obj, .mbx, .recd] [] s (s.setMode m trig) := by
  have hset : s.setMode m trig =
      ({ s with sys := { s.sys with mode := m, prevMode := s.sys.mode, serviceAt := if m = Mode.service then s.tim.d3 else s.sys.serviceAt } }.touch
        Attr.SystemMode.mode 0 (.num m.code)).raise 0x0101 modePath [s.sys.mode.code, m.code, trig] := by
    unfold State.setMode
    dsimp only
    rw [if_neg hne, if_neg (by simp [hlocked])]
  rw [hset]
  refine ⟨rfl, rfl, Changes.step (Changes.step ?_ changes_touch) changes_raise⟩
  exact Changes.mono (areas' := [.sys]) (ys' := []) (.of_same SameBut.refl.set_sys)

/-! ### The roles of a pair (Tables 16-5, 16-7) -/

theorem State.becomeStandby_effect : s.becomeStandby.nat Attr.TwinPair.role 0 = 2 ∧
    s.becomeStandby.nat Attr.TwinPair.pairState 0 = (if s.nat Attr.TwinPair.pairState 0 = 1 then 1 else 4) ∧
    Changes [.obj, .mbx] [Attr.TwinPair.role, Attr.TwinPair.pairState] s s.becomeStandby := by
  have hrole : (s.setNat Attr.TwinPair.role 0 2).nat Attr.TwinPair.role 0 = 2 := State.nat_setNat
  have hset : Changes [.obj, .mbx] [Attr.TwinPair.role] s (s.setNat Attr.TwinPair.role 0 2) := changes_setNat
  have hpair : (s.setNat Attr.TwinPair.role 0 2).nat Attr.TwinPair.pairState 0 = s.nat Attr.TwinPair.pairState 0 := hset.nat _ _
  unfold State.becomeStandby
  generalize s.setNat Attr.TwinPair.role 0 2 = w at hrole hset hpair
  dsimp only
  rw [hpair]
  split
  · next hpaired => exact ⟨hrole, hpair.trans hpaired, hset.mono⟩
  · have hpairs : Changes [.obj, .mbx] [Attr.TwinPair.pairState] w (w.setPairState 4) := changes_setNat
    exact ⟨(hpairs.nat Attr.TwinPair.role 0).trans hrole, State.nat_setNat, hset.mono.step hpairs⟩

theorem State.becomeActive_effect : s.becomeActive.nat Attr.TwinPair.role 0 = 1 ∧
    s.becomeActive.nat Attr.TwinPair.pairState 0 = (if s.nat Attr.TwinPair.pairState 0 = 1 then 1 else 2) ∧
    Changes [.obj, .mbx] [Attr.TwinPair.role, Attr.TwinPair.pairState] s s.becomeActive := by
  have hrole : (s.setNat Attr.TwinPair.role 0 1).nat Attr.TwinPair.role 0 = 1 := State.nat_setNat
  have hset : Changes [.obj, .mbx] [Attr.TwinPair.role] s (s.setNat Attr.TwinPair.role 0 1) := changes_setNat
  have hpair : (s.setNat Attr.TwinPair.role 0 1).nat Attr.TwinPair.pairState 0 = s.nat Attr.TwinPair.pairState 0 := hset.nat _ _
  unfold State.becomeActive
  generalize s.setNat Attr.TwinPair.role 0 1 = w at hrole hset hpair
  dsimp only
  rw [hpair]
  split
  · next hpaired => exact ⟨hrole, hpair.trans hpaired, hset.mono⟩
  · have hpairs : Changes [.obj, .mbx] [Attr.TwinPair.pairState] w (w.setPairState 2) := changes_setNat
    exact ⟨(hpairs.nat Attr.TwinPair.role 0).trans hrole, State.nat_setNat, hset.mono.step hpairs⟩

theorem changes_transmitOff : Changes [.sys, .twn] [] s s.transmitOff := .of_same SameBut.refl.set_sys.set_twn

theorem State.discardAllEnergize_none {st : Status} (h : s.mbx.energize = []) : s.discardAllEnergize st = s := by
  unfold State.discardAllEnergize
  rw [h]
  rfl

theorem State.setMode_unnotified : (s.setMode m trig).mbx.unnotified = s.mbx.unnotified := by
  have htouch : ∀ {v : State} {y : Nat × Nat} {i : Nat} {x : Val}, (v.touch y i x).mbx.unnotified = v.mbx.unnotified := Mailbox.notifyAll_unnotified
  unfold State.setMode
  dsimp only
  split
  · rfl
  · refine htouch.trans ?_
    split <;> rfl

/-- The state in which a standby's role is taken: transmission off, the mode changed, the claim's marks reset. -/
def State.standingBy (s : State) (trig : Nat) : State :=
  (s.transmitOff.setMode .shadow trig).setTwn
    { s.twn with txPermitted := false, claimOut := false, gap := none, released := false, drain := false, bootClaim := none }

theorem State.toShadow_eq (h : s.mbx.energize = []) : s.toShadow trig = (s.standingBy trig).becomeStandby := by
  have hidle : (s.transmitOff.setMode .shadow trig).mbx.energize = [] :=
    (congrArg Mailbox.energize (State.setMode_unnotified (s := s.transmitOff)) :).trans h
  have htwn : (s.transmitOff.setMode .shadow trig).twn = s.transmitOff.twn := changes_setMode.twn
  unfold State.toShadow
  rw [State.discardAllEnergize_none hidle]
  unfold State.standingBy
  generalize s.transmitOff.setMode .shadow trig = w at htwn
  dsimp only
  rw [htwn]
  rfl

theorem changes_standingBy : Changes [.sys, .twn, .obj, .mbx, .recd, .dbg] [] s (s.standingBy trig) := by
  have hmode : Changes [.sys, .dbg, .obj, .mbx, .recd] [] s.transmitOff (s.transmitOff.setMode .shadow trig) := changes_setMode
  have hclaim : Changes [.twn] [] (s.transmitOff.setMode .shadow trig) (s.standingBy trig) := .of_same SameBut.refl.set_twn
  exact (changes_transmitOff.mono.step hmode).step hclaim

theorem State.standingBy_effect (hne : s.sys.mode ≠ .shadow) (hlocked : s.sys.mode ≠ .provision ∧ s.sys.mode ≠ .factory) :
    (s.standingBy trig).sys = { s.sys with txEnable := false, mode := .shadow, prevMode := s.sys.mode } ∧
      (s.standingBy trig).recd = s.recd.ordinary ⟨0x0101, objPath 0x0102 0, [(s.sys.mode.code : Int), (Mode.shadow.code : Int), (trig : Int)]⟩ ∧
      Changes [.sys, .twn, .obj, .mbx, .recd] [] s (s.standingBy trig) := by
  obtain ⟨hsys, hrecd, hmode⟩ := State.setMode_effect (s := s.transmitOff) (m := .shadow) (trig := trig) hne hlocked
  have hclaim : Changes [.twn] [] (s.transmitOff.setMode .shadow trig) (s.standingBy trig) := .of_same SameBut.refl.set_twn
  exact ⟨hclaim.sys.trans hsys, hclaim.recd.trans hrecd, (changes_transmitOff.mono.step hmode).step hclaim⟩

/-! ### Methods -/

/-- A method that runs next is answered with its result. -/
theorem State.Serves.method_completes {b : Body} {c : Cmd} {n cls k : Nat} {r : Reply} (h : s.Serves c n) (ho : c.opcode = opAction) (hc : pathCls c.path = cls)
    (hm : pathAttr c.path = k) (hb : b c s.pop = (r, u)) (hp : Poised s u) (hd : r.data.length ≤ 4064) :
    ∃ t, Machine.runMethod cls k b s = .next t ∧ t = u.finish c r ∧ Answered s t c n r.status r.data :=
  ⟨u.finish c r, by rw [h.runMethod ho hc hm, hb], rfl, h.answered hp hd⟩

/-- A method whose answer is all it does. -/
theorem State.Serves.method_unchanged {b : Body} {c : Cmd} {n cls k : Nat} {r : Reply} (h : s.Serves c n) (ho : c.opcode = opAction) (hc : pathCls c.path = cls)
    (hm : pathAttr c.path = k) (hb : b c s.pop = (r, s.pop)) (hd : r.data.length ≤ 4064) :
    Completes (Machine.runMethod cls k b s) (fun t => Answered s t c n r.status r.data ∧ SameBut [.mbx] s t) := by
  obtain ⟨t, hrun, rfl, hans⟩ := h.method_completes ho hc hm hb poised_pop hd
  exact ⟨_, hrun, hans, sameBut_pop.step sameBut_finish⟩

/-! ### PAIR and the claims (R605, R612–R617) -/

theorem doPair_asks {c : Cmd} {e : Nat} (hmode : s.sys.mode = .provision) (hlen : 8 ≤ c.payload.length) (he : field c.payload 0 8 = e) (hne : e ≠ 0) (hself : e ≠ s.sys.eui) :
    doPair c s = (⟨.accepted, []⟩, (s.setTwn { s.twn with pairing := some (e, c.arrival) }).sendKeyAgree s.pairLink) := by
  unfold doPair
  dsimp only
  rw [he, if_neg (by simp [hmode]), if_neg (by simp [hne, hself]; omega)]

theorem State.startClaim_served (hst : s.sys.stalemate = false) (hgate : s.twn.gateOk = true) :
    s.startClaim trig = s.setTwn { s.twn with claimOut := true, gap := some (s.tim.d3, trig), bootClaim := none } :=
  (if_neg (by rw [hst]; exact Bool.false_ne_true)).trans (if_pos hgate)

/-- What a claim that is read leads to, on a chip of a pair that is not in STALEMATE. -/
theorem State.claimInChange_served {x : ClaimIn} {p q : Bool} (htwin : s.twinned = true) (hst : s.sys.stalemate = false) : exec (.claimInChange x p q) s =
    let w := s.setTwn { s.twn with claimIn := x, railP := p, railM := q }
    match x with
    | .invalid =>
      let w := match w.twn.bootClaim with
        | some t => w.toShadow t
        | none => w
      if s.twn.claimIn = .invalid then .next w
      else .next (((w.setTwn { w.twn with wire := true }).raiseSafe 0x1302 pairPath [w.side, b2n p + 2 * b2n q]).report 306 0)
    | .claimed =>
      match w.twn.bootClaim with
      | some t => .next (w.toShadow t)
      | none => if (w.sys.mode = .service ∨ w.sys.mode = .island) ∧ !w.twn.claimOut then .next (w.toShadow 3) else .next w
    | _ =>
      if w.twn.contest then .next (w.setTwn { w.twn with contest := false, gap := some (w.tim.d3, (w.twn.gap.map Prod.snd).getD 3) })
      else if w.sys.mode = .shadow ∧ !w.twn.claimOut ∧ w.twn.bootClaim.isNone then .next (w.startClaim 3)
      else if w.twn.released ∧ x = .absent then .next (w.startClaim 3)
      else .next w := by
  have hopen : ¬ (!(s.setTwn { s.twn with claimIn := x, railP := p, railM := q }).twinned ∨ (s.setTwn { s.twn with claimIn := x, railP := p, railM := q }).sys.stalemate = true) := by
    rw [show (s.setTwn { s.twn with claimIn := x, railP := p, railM := q }).twinned = s.twinned from rfl, htwin,
      show (s.setTwn { s.twn with claimIn := x, railP := p, railM := q }).sys.stalemate = s.sys.stalemate from rfl, hst]
    simp
  show execClaimInChange x p q s = _
  unfold execClaimInChange
  exact if_neg hopen

/-- The latch, the count and the safety event of a SAFETY fault whose reaction is an interrupt (R672, R675, R701). -/
theorem State.reactSafety_effect {x : Source} {f : FaultFact} {k : Nat} (hp : f.path = none) (hcls : 3 ≤ x.cls) (hnum : x.num ≠ 258) :
    ((s.latchReport x f 1).react x k 1).flag Attr.FaultSource.latched x.num = true ∧ ((s.latchReport x f 1).react x k 1).fcr.irqs = s.fcr.irqs + 1 ∧
      ((s.latchReport x f 1).react x k 1).recd = s.recd.safe ⟨0x1401, objPath 0x1002 x.num, [(x.num : Int), (x.cls : Int), 1]⟩ ∧
      SameBut [.obj, .mbx, .fcr, .recd] s ((s.latchReport x f 1).react x k 1) := by
  have hlatch : (s.latchReport x f 1).flag Attr.FaultSource.latched x.num = true := State.latchReport_latched hp
  have hcount : SameBut [.obj, .mbx, .fcr] s ((s.latchReport x f 1).countReport x.num) := (sameBut_latchReport hp).trans sameBut_countReport
  have hkeep : ((s.latchReport x f 1).countReport x.num).flag Attr.FaultSource.latched x.num = true := (attrsBut_countReport.flag _ _).trans hlatch
  have hirqs : ((s.latchReport x f 1).countReport x.num).fcr.irqs = s.fcr.irqs := by
    have hwindow : ((s.latchReport x f 1).countReport x.num).fcr.irqs = (s.latchReport x f 1).fcr.irqs := (congrArg FaultState.irqs State.bumpSat_fcr :)
    rw [hwindow]
    unfold State.latchReport
    rw [hp]
    exact (congrArg FaultState.irqs State.setFlag_fcr :)
  have hreact : (s.latchReport x f 1).react x k 1 =
      { ((s.latchReport x f 1).countReport x.num).faultEvent x 1 with
        fcr := { (((s.latchReport x f 1).countReport x.num).faultEvent x 1).fcr with irqs := (((s.latchReport x f 1).countReport x.num).faultEvent x 1).fcr.irqs + 1 } } := if_neg hnum
  rw [hreact]
  generalize (s.latchReport x f 1).countReport x.num = v at hcount hkeep hirqs
  have hevent : v.faultEvent x 1 = v.raiseSafe 0x1401 (objPath 0x1002 x.num) [(x.num : Int), (x.cls : Int), 1] := if_pos hcls
  rw [hevent]
  exact ⟨hkeep, congrArg (· + 1) hirqs, congrArg (fun r : Recorder => r.safe _) (hcount.area .recd), ((hcount.mono (by decide)).step sameBut_raiseSafe).set_fcr⟩

/-- From `s` to `t` the fault of the wire has been recorded, latched and reported (R615). -/
structure State.WireFault (s t : State) (i : Nat) (ps : List Int) : Prop where
  twn : t.twn = { s.twn with wire := true }
  latched : t.flag Attr.FaultSource.latched 306 = true
  irqs : t.fcr.irqs = s.fcr.irqs + 1
  recd : t.recd = (s.recd.safe ⟨0x1302, i, ps⟩).safe ⟨0x1401, objPath 0x1002 306, [306, 3, 1]⟩
  same : SameBut [.twn, .obj, .mbx, .fcr, .recd] s t

/-- A new INVALID is a fault of the wire (R615). -/
theorem State.wireFault_effect {i : Nat} {ps : List Int} (hinj : s.fcr.injections = []) : s.WireFault (((s.setTwn { s.twn with wire := true }).raiseSafe 0x1302 i ps).report 306 0) i ps := by
  have hw : SameBut [.twn, .obj, .mbx, .fcr, .recd] s ((s.setTwn { s.twn with wire := true }).raiseSafe 0x1302 i ps) := SameBut.refl.set_twn.step sameBut_raiseSafe
  have htwn : ((s.setTwn { s.twn with wire := true }).raiseSafe 0x1302 i ps).twn = { s.twn with wire := true } := rfl
  have hrecd : ((s.setTwn { s.twn with wire := true }).raiseSafe 0x1302 i ps).recd = s.recd.safe ⟨0x1302, i, ps⟩ := rfl
  have hfcr : ((s.setTwn { s.twn with wire := true }).raiseSafe 0x1302 i ps).fcr = s.fcr := rfl
  generalize (s.setTwn { s.twn with wire := true }).raiseSafe 0x1302 i ps = w at hw htwn hrecd hfcr
  have hreport : w.report 306 0 = (w.latchReport ⟨306, 3, 1, false⟩ ⟨306, 0, none, false, false⟩ 1).react ⟨306, 3, 1, false⟩ 0 1 :=
    State.collect_one (x := ⟨306, 3, 1, false⟩) (f := ⟨306, 0, none, false, false⟩) (by decide) (hfcr ▸ hinj) rfl rfl
  obtain ⟨hlatch, hirqs, hevent, hsame⟩ :=
    State.reactSafety_effect (s := w) (x := ⟨306, 3, 1, false⟩) (f := ⟨306, 0, none, false, false⟩) (k := 0) rfl (Nat.le_refl 3) (by decide)
  rw [← hreport] at hlatch hirqs hevent hsame
  rw [hrecd] at hevent
  have hkeep : (w.report 306 0).twn = w.twn := hsame.area .twn
  exact ⟨hkeep.trans htwn, hlatch, hirqs.trans (congrArg (fun x : FaultState => x.irqs + 1) hfcr), hevent, hw.step hsame⟩

/-- Settles O41: a claim that is read is entered with its rails; what it leads to is decided by the mode and this chip's own claim. -/
theorem pairingAndClaims : Obligations.PairingAndClaims := by
  refine ⟨?_, ?_, ?_, ?_, ?_, ?_, ?_⟩
  · intro s c n e hs ho hcls hatt hmode hlen he hne hself hopen
    have hbody := doPair_asks (s := s.pop) hmode hlen he hne hself
    have hlinked : Linked (s.pop.setTwn { s.pop.twn with pairing := some (e, c.arrival) }) _ := linked_sendKeyAgree (l := s.pop.pairLink)
    obtain ⟨hlink, x, y, hout, hx, -, hxl, hy, -, hyl⟩ :=
      State.sendKeyAgree_effect (s := s.pop.setTwn { s.pop.twn with pairing := some (e, c.arrival) }) (l := s.pop.pairLink) hopen
    have htwn := hlinked.twn
    have hobj := hlinked.obj
    have hchange : Changes [.mbx, .twn] [] s.pop ((s.pop.setTwn { s.pop.twn with pairing := some (e, c.arrival) }).sendKeyAgree s.pop.pairLink) := by
      have hset : Changes [.twn] [] s.pop (s.pop.setTwn { s.pop.twn with pairing := some (e, c.arrival) }) := .of_same SameBut.refl.set_twn
      exact Changes.mono (hset.trans hlinked.changes)
    generalize (s.pop.setTwn { s.pop.twn with pairing := some (e, c.arrival) }).sendKeyAgree s.pop.pairLink = w at hbody hlink hout htwn hchange
    obtain ⟨t, hrun, rfl, hans⟩ := hs.method_completes ho hcls hatt hbody (hchange.poised s poised_pop) (Nat.zero_le _)
    have htwnT : (w.finish c ⟨.accepted, []⟩).twn = w.twn := State.finish_twn
    refine ⟨_, hrun, hans, congrArg Twin.pairing (htwnT.trans htwn), ?_, ⟨x, y, (congrArg Twin.out htwnT).trans hout, hx, hy, hxl, hyl⟩, hchange.finished⟩
    exact congrArg CLink.asked ((State.clink_congr (congrArg Twin.links htwnT)).trans hlink)
  · intro s c n hs ho hcls hatt hmode
    have hbody : doPair c s.pop = (⟨.refused, []⟩, s.pop) := if_pos hmode
    exact hs.method_unchanged ho hcls hatt hbody (Nat.zero_le _)
  · intro s x p m htwin
    exact ⟨_, if_pos (.inl (by rw [show (s.setTwn { s.twn with claimIn := x, railP := p, railM := m }).twinned = s.twinned from rfl, htwin]; rfl)), rfl, SameBut.refl.set_twn⟩
  · intro s p m htwin hst hboot hwas hinj
    have hrun : exec (.claimInChange .invalid p m) s = .next (((s.setTwn { s.twn with claimIn := .invalid, railP := p, railM := m, wire := true }).raiseSafe 0x1302 pairPath
        [s.side, b2n p + 2 * b2n m]).report 306 0) := by
      refine (State.claimInChange_served htwin hst).trans ?_
      simp only [State.setTwn, hboot, if_neg hwas]
      rfl
    obtain ⟨htwn, hlatch, hirqs, hrecd, hsame⟩ := State.wireFault_effect (s := s.setTwn { s.twn with claimIn := .invalid, railP := p, railM := m }) (i := pairPath)
      (ps := [s.side, b2n p + 2 * b2n m]) hinj
    exact ⟨_, hrun, htwn, hlatch, hirqs, hrecd, (SameBut.refl.set_twn).trans hsame⟩
  · intro s p m htwin hst hmode hclaim hboot hcontest hgate
    have hrun : exec (.claimInChange .released p m) s = .next ((s.setTwn { s.twn with claimIn := .released, railP := p, railM := m }).startClaim 3) := by
      refine (State.claimInChange_served htwin hst).trans ?_
      simp only [State.setTwn, hcontest, Bool.false_eq_true, if_false]
      exact if_pos (by simp [hmode, hclaim, hboot])
    have hclaims := State.startClaim_served (s := s.setTwn { s.twn with claimIn := .released, railP := p, railM := m }) (trig := 3) hst hgate
    refine ⟨_, hrun.trans (congrArg Host.Outcome.next hclaims), ?_, SameBut.refl.set_twn.set_twn⟩
    simp only [State.setTwn, hboot]
  · intro s p m htwin hst hmode hclaim hboot henergize
    have hrun : exec (.claimInChange .claimed p m) s = .next ((s.setTwn { s.twn with claimIn := .claimed, railP := p, railM := m }).toShadow 3) := by
      refine (State.claimInChange_served htwin hst).trans ?_
      simp only [State.setTwn, hboot]
      exact if_pos (by simp [hmode, hclaim])
    rw [State.toShadow_eq (s := s.setTwn { s.twn with claimIn := .claimed, railP := p, railM := m }) henergize] at hrun
    have hread : Changes [.twn] [] s (s.setTwn { s.twn with claimIn := .claimed, railP := p, railM := m }) := .of_same SameBut.refl.set_twn
    have hmode' : (s.setTwn { s.twn with claimIn := .claimed, railP := p, railM := m }).sys.mode = .service := hmode
    obtain ⟨hsys, hrecd, hstand⟩ := State.standingBy_effect (s := s.setTwn { s.twn with claimIn := .claimed, railP := p, railM := m }) (trig := 3)
      (by rw [hmode']; decide) (by rw [hmode']; decide)
    rw [hmode'] at hsys hrecd
    have htwn : ((s.setTwn { s.twn with claimIn := .claimed, railP := p, railM := m }).standingBy 3).twn =
        { s.twn with claimIn := .claimed, railP := p, railM := m, txPermitted := false, claimOut := false, gap := none, released := false, drain := false, bootClaim := none } := rfl
    generalize (s.setTwn { s.twn with claimIn := .claimed, railP := p, railM := m }).standingBy 3 = w at hrun hsys hrecd hstand htwn
    obtain ⟨hrole, hpair, hchange⟩ := State.becomeStandby_effect (s := w)
    rw [hstand.nat Attr.TwinPair.pairState 0, hread.nat Attr.TwinPair.pairState 0] at hpair
    have htwn' := hchange.twn.trans htwn
    exact ⟨_, hrun, hchange.sys.trans hsys, congrArg Twin.claimOut htwn', congrArg Twin.txPermitted htwn', congrArg Twin.released htwn', congrArg Twin.drain htwn', hrole, hpair,
      hchange.recd.trans hrecd, ((hread.same.mono (by decide)).step hstand.same).step hchange.same⟩
  · intro s trig hboot hmode hst hclaim hgate
    have hrun : exec .bootClaimDelay s = .next (s.startClaim trig) := by
      show execBootClaimDelay s = _
      unfold execBootClaimDelay
      simp only [hboot]
      exact if_pos (by simp [hmode, hst, hclaim])
    rw [State.startClaim_served hst hgate] at hrun
    exact ⟨_, hrun, rfl, SameBut.refl.set_twn⟩

end Sys2Proof.Machine
end

section
/-! Castling of a pair (R613, R617–R623). -/

namespace Sys2Proof.Machine

variable {s t u v : State} {trig : Nat} {m : Mode} {c : Cmd}

/-! ### The live objects that a mode change and a role leave -/

theorem State.setMode_live : (s.setMode m trig).obj.live = s.obj.live := by
  unfold State.setMode
  dsimp only
  split
  · rfl
  · split <;> rfl

theorem State.becomeActive_live : s.becomeActive.obj.live = s.obj.live := by
  have hset : ∀ {v : State} {y : Nat × Nat} {n : Nat}, (v.setNat y 0 n).obj.live = v.obj.live := State.setAttr_live
  unfold State.becomeActive
  dsimp only
  split
  · exact hset
  · exact hset.trans hset

theorem State.instances_congr (h : t.obj.live = s.obj.live) (c : Nat) : t.instances c = s.instances c := by simp only [State.instances, h]

/-! ### The new active (R611, R621–R623) -/

/-- Without calendars no boundary is executed. -/
theorem State.runBoundaries_none {fl : Nat} (h : s.bil.cals = []) : s.runBoundaries fl = s := by
  have hspan : ∀ n, s.boundarySpan n = [] := by
    intro n
    simp [State.boundarySpan, State.firstBoundary, h, least]
  have hhor : s.horizons = s := by
    unfold State.horizons
    rw [h]
    rfl
  unfold State.runBoundaries
  dsimp only
  rw [hspan, List.foldl_nil, hhor]
  exact ite_self s

/-- The new active of a pair with no lighting cell and no command that waits. -/
theorem State.castled_quiet {planned : Bool} {cause cycles : Nat} (hcals : s.bil.cals = []) (hcmd : s.twn.castleCmd = none) (hdark : ∀ k ∈ s.instances 0x0210, s.isLighting k = false) :
    s.castled planned cause cycles =
      ((s.setTwn { s.twn with castlings := min (s.twn.castlings + 1) 0xFFFFFFFF, lastGap := cycles % 2 ^ 19 }).raiseSafe 0x1301 pairPath [s.side, b2n planned, cause, cycles]).reserveCounters := by
  unfold State.castled
  dsimp only
  have hbil : ((s.setTwn { s.twn with castlings := min (s.twn.castlings + 1) 0xFFFFFFFF, lastGap := cycles % 2 ^ 19 }).raiseSafe 0x1301 pairPath
      [s.side, b2n planned, cause, cycles]).reserveCounters.bil.cals = [] := hcals
  have hnone : ((s.setTwn { s.twn with castlings := min (s.twn.castlings + 1) 0xFFFFFFFF, lastGap := cycles % 2 ^ 19 }).raiseSafe 0x1301 pairPath
      [s.side, b2n planned, cause, cycles]).reserveCounters.twn.castleCmd = none := hcmd
  have hobj : ((s.setTwn { s.twn with castlings := min (s.twn.castlings + 1) 0xFFFFFFFF, lastGap := cycles % 2 ^ 19 }).raiseSafe 0x1301 pairPath
      [s.side, b2n planned, cause, cycles]).reserveCounters.obj = s.obj := rfl
  have hside : (s.setTwn { s.twn with castlings := min (s.twn.castlings + 1) 0xFFFFFFFF, lastGap := cycles % 2 ^ 19 }).side = s.side := rfl
  rw [hside]
  generalize ((s.setTwn { s.twn with castlings := min (s.twn.castlings + 1) 0xFFFFFFFF, lastGap := cycles % 2 ^ 19 }).raiseSafe 0x1301 pairPath
      [s.side, b2n planned, cause, cycles]).reserveCounters = v at hbil hnone hobj
  have hcells : (v.instances 0x0210).filter v.isLighting = [] := List.filter_eq_nil_iff.2 fun k hk => by
    have hsame : v.isLighting k = s.isLighting k := by simp only [State.isLighting, State.isLine, State.alive, hobj, State.nat_congr hobj]
    rw [State.instances_congr (congrArg Obj.live hobj)] at hk
    rw [hsame, hdark k hk]
    exact Bool.false_ne_true
  rw [State.runBoundaries_none hbil, hcells, List.foldl_nil, hnone]

/-- A gap that ends on a chip that has claimed, whose partner has released: it serves. -/
theorem execCastleGapEnd_serves {g cause cycles : Nat} {planned : Bool} (hgap : s.twn.gap = some (g, trig)) (hclaim : s.twn.claimOut = true) (hst : s.sys.stalemate = false)
    (hin : s.twn.claimIn = .released) (hmode : s.sys.mode = .shadow) : exec (.castleGapEnd planned cause cycles) s =
      .next ((((s.setTwn { s.twn with gap := none, txPermitted := true, released := false }).setMode .service trig).transmitOn.becomeActive).castled planned cause cycles) := by
  show execCastleGapEnd planned cause cycles s = _
  unfold execCastleGapEnd
  simp only [hgap]
  have hcastling : (s.sys.mode == .shadow) = true := by rw [hmode]; rfl
  have hidle : ¬ ((s.setTwn { s.twn with gap := none, txPermitted := true, released := false }).sys.mode = .service ∨
      (s.setTwn { s.twn with gap := none, txPermitted := true, released := false }).sys.mode = .island) := by
    rw [show (s.setTwn { s.twn with gap := none, txPermitted := true, released := false }).sys.mode = s.sys.mode from rfl, hmode]
    decide
  rw [if_neg (by simp [hclaim, hst]), if_neg (by rw [hin]; decide), if_neg (by rw [hin]; decide), if_pos hcastling, if_neg hidle]

theorem execCastleGapEnd_contest {g cause cycles : Nat} {planned : Bool} (hgap : s.twn.gap = some (g, trig)) (hclaim : s.twn.claimOut = true) (hst : s.sys.stalemate = false)
    (hin : s.twn.claimIn = .claimed) : exec (.castleGapEnd planned cause cycles) s =
      if s.side = 1 then .next ((s.toShadow trig).raise 0x1303 pairPath [s.side]) else .next (s.setTwn { s.twn with contest := true }) := by
  show execCastleGapEnd planned cause cycles s = _
  unfold execCastleGapEnd
  simp only [hgap]
  rw [if_neg (by simp [hclaim, hst]), if_pos hin]

/-! ### Commands (R618) -/

theorem State.castleRefused_fit (hfit : s.flag Attr.TwinPair.fit 0 = false) : s.castleRefused 0 = true := by simp [State.castleRefused, hfit]

theorem doCastle_refused (hmode : s.sys.mode = .service) (hzero : octet c.payload 0 = 0) (hfit : s.flag Attr.TwinPair.fit 0 = false) : doCastle c s = (⟨.refused, []⟩, s) := by
  have hno : s.castlesFrom 0 = false := by simp [State.castlesFrom, State.castleRefused_fit hfit]
  unfold doCastle
  dsimp only
  rw [hzero, hmode, hno]
  rfl

theorem doCastle_drains (hmode : s.sys.mode = .service) (hzero : octet c.payload 0 = 0) (hgo : s.castlesFrom 0 = true) :
    doCastle c s = (⟨.accepted, []⟩, s.setTwn { s.twn with drain := true, castleCmd := some (c.arrival, false) }) := by
  unfold doCastle
  dsimp only
  rw [hzero, hmode, hgo]
  rfl

theorem doCastle_passes (hmode : s.sys.mode = .shadow) (hzero : octet c.payload 0 = 0) (hgo : s.castleRefused 0 = false) :
    doCastle c s = (⟨.accepted, []⟩,
      (s.setTwn { s.twn with castleCmd := some (c.arrival, true) }).sendReliable s.pairLink 0x50 (leBytes 1 0 ++ [0, 0, 0] ++ leBytes 4 c.arrival)) := by
  unfold doCastle
  dsimp only
  rw [hzero, hmode, hgo]
  rfl

/-- A standby is in SHADOW, from whatever mode, with its transmit enables low. -/
theorem State.standingBy_shadow : (s.standingBy trig).sys.mode = .shadow ∧ (s.standingBy trig).sys.txEnable = false := by
  have hclaim : (s.standingBy trig).sys = (s.transmitOff.setMode .shadow trig).sys := rfl
  rw [hclaim]
  unfold State.setMode
  dsimp only
  split
  · next h => exact ⟨h, rfl⟩
  · split <;> exact ⟨rfl, rfl⟩

/-- Settles O42: the gap's end by its branches (`execCastleGapEnd_serves`, `execCastleGapEnd_contest`), the other rows by their equations. -/
theorem castling : Obligations.Castling := by
  refine ⟨?_, ?_, ?_, ?_, ?_, ?_, ?_, ?_, ?_⟩
  · intro s g trig cause cycles planned hgap hclaim hst hin hmode hcals hcmd hdark
    have hrun := execCastleGapEnd_serves (planned := planned) (cause := cause) (cycles := cycles) hgap hclaim hst hin hmode
    let a : State := s.setTwn { s.twn with gap := none, txPermitted := true, released := false }
    have hsa : Changes [.twn] [] s a := .of_same SameBut.refl.set_twn
    obtain ⟨hsys, hrecd, hmodes⟩ := State.setMode_effect (s := a) (m := .service) (trig := trig) (by rw [hsa.sys, hmode]; decide) (by rw [hsa.sys, hmode]; decide)
    have hlive : (a.setMode .service trig).obj.live = s.obj.live := State.setMode_live
    have htwn : (a.setMode .service trig).twn = { s.twn with gap := none, txPermitted := true, released := false } := hmodes.twn
    rw [hsa.sys, hmode] at hsys hrecd
    rw [hsa.recd] at hrecd
    change exec (.castleGapEnd planned cause cycles) s = .next (((a.setMode .service trig).transmitOn.becomeActive).castled planned cause cycles) at hrun
    clear_value a
    generalize a.setMode .service trig = w at hrun hsys hrecd hmodes hlive htwn
    have hon : w.transmitOn = { w with sys := { w.sys with txEnable := true } } := by
      refine if_neg ?_
      rw [hsys]
      simp [hst]
    have hxsys : w.transmitOn.sys = { s.sys with mode := .service, prevMode := .shadow, serviceAt := s.tim.d3, txEnable := true } := by
      rw [hon]
      dsimp only
      rw [hsys, hsa.tim]
      rfl
    have hwx : Changes [.sys] [] w w.transmitOn := by
      rw [hon]
      exact .of_same SameBut.refl.set_sys
    have hxlive : w.transmitOn.obj.live = s.obj.live := by
      rw [hon]
      exact hlive
    generalize w.transmitOn = x at hrun hxsys hwx hxlive
    obtain ⟨hrole, hpair, hactive⟩ := State.becomeActive_effect (s := x)
    have hylive : x.becomeActive.obj.live = s.obj.live := State.becomeActive_live.trans hxlive
    generalize x.becomeActive = y at hrun hrole hpair hactive hylive
    have hsy : Changes [.sys, .twn, .obj, .mbx, .recd] [Attr.TwinPair.role, Attr.TwinPair.pairState] s y :=
      ((hsa.mono.step hmodes).step hwx).step hactive
    have hxy : Changes [.sys, .obj, .mbx] [Attr.TwinPair.role, Attr.TwinPair.pairState] w y := hwx.mono.step hactive
    have hytwn : y.twn = { s.twn with gap := none, txPermitted := true, released := false } := hxy.twn.trans htwn
    rw [State.castled_quiet (s := y) (by rw [hsy.bil]; exact hcals) (by rw [hytwn]; exact hcmd) fun k hk => ?dark] at hrun
    case dark =>
      rw [State.instances_congr hylive] at hk
      have hsame : y.isLighting k = s.isLighting k := by
        simp only [State.isLighting, State.isLine, State.alive_congr hylive, hsy.nat Attr.LineCell.purpose k (by decide) (State.instances_lt hk)]
      rw [hsame, hdark k hk]
    have hside : y.side = s.side := hsy.nat Attr.TwinPair.side 0
    have hreserve : y.nat Attr.TwinPair.counterReserve 0 = s.nat Attr.TwinPair.counterReserve 0 := hsy.nat _ _
    have hpairX : x.nat Attr.TwinPair.pairState 0 = s.nat Attr.TwinPair.pairState 0 :=
      (hwx.nat Attr.TwinPair.pairState 0).trans ((hmodes.nat Attr.TwinPair.pairState 0).trans (hsa.nat Attr.TwinPair.pairState 0))
    rw [hpairX] at hpair
    refine ⟨_, hrun, hactive.sys.trans hxsys, ?_, hrole, hpair, ?_, ?_, ?_⟩
    · show ({ y.twn with castlings := _, lastGap := _ } : Twin) = _
      rw [hytwn]
    · show ({ y.col with eps := y.col.eps.map (fun x => (x.1, { x.2 with outCounter := x.2.outCounter + y.nat Attr.TwinPair.counterReserve 0 })) } : Collect) = _
      rw [hsy.col, hreserve]
    · show y.recd.safe _ = _
      rw [hxy.recd, hrecd, hside]
      rfl
    · have hlast : SameBut [.twn, .recd, .col] y (((y.setTwn { y.twn with castlings := min (y.twn.castlings + 1) 0xFFFFFFFF, lastGap := cycles % 2 ^ 19 }).raiseSafe 0x1301 pairPath
          [y.side, b2n planned, cause, cycles]).reserveCounters) := (SameBut.refl.set_twn.step sameBut_raiseSafe).set_col
      exact (hsy.same.mono (by decide)).step hlast
  · intro s g trig cause cycles planned hgap hclaim hst hin hside
    exact ⟨_, (execCastleGapEnd_contest hgap hclaim hst hin).trans (if_neg (by omega)), rfl, SameBut.refl.set_twn⟩
  · intro s g trig cause cycles planned hgap hclaim hst hin hside hidle
    have hrun := (execCastleGapEnd_contest (planned := planned) (cause := cause) (cycles := cycles) hgap hclaim hst hin).trans (if_pos hside)
    rw [State.toShadow_eq hidle] at hrun
    have hstand : Changes [.sys, .twn, .obj, .mbx, .recd, .dbg] [] s (s.standingBy trig) := changes_standingBy
    obtain ⟨hmode, htx⟩ := State.standingBy_shadow (s := s) (trig := trig)
    have htwn : (s.standingBy trig).twn = { s.twn with txPermitted := false, claimOut := false, gap := none, released := false, drain := false, bootClaim := none } := rfl
    generalize s.standingBy trig = w at hrun hstand hmode htx htwn
    obtain ⟨hrole, -, hchange⟩ := State.becomeStandby_effect (s := w)
    generalize w.becomeStandby = x at hrun hrole hchange
    have hraise : Changes [.recd] [] x (x.raise 0x1303 pairPath [s.side]) := changes_raise
    have htwn' := hraise.twn.trans (hchange.twn.trans htwn)
    have hsys' := hraise.sys.trans hchange.sys
    refine ⟨_, hrun, (congrArg Sys.mode hsys').trans hmode, (congrArg Sys.txEnable hsys').trans htx, congrArg Twin.claimOut htwn', congrArg Twin.gap htwn',
      (hraise.nat Attr.TwinPair.role 0).trans hrole, (hstand.same.step hchange.same).step hraise.same⟩
  · exact fun s => ⟨_, rfl, rfl, rfl, SameBut.refl.set_sys.set_twn.set_twn⟩
  · intro s b hactive hmode hclaim hfit hbit hcause
    exact ⟨_, if_pos ⟨hactive, .inl hmode, hclaim, hfit, hbit, hcause⟩, rfl, rfl, SameBut.refl.set_sys.set_twn.set_twn⟩
  · intro s hdrain hout hposted
    exact ⟨_, if_pos ⟨hdrain, by rw [hout]; rfl, by rw [hposted]; rfl⟩, rfl, rfl, SameBut.refl.set_sys.set_twn.set_twn⟩
  · intro s c n hs ho hzero hmode hactive hdrain hrel htwin hup hin hfit
    have hallowed : s.pop.castleRefused 0 = false := by
      simp only [State.castleRefused, show s.pop.twinned = true from htwin, show (s.pop.clink s.pop.pairLink).up = true from hup, show s.pop.twn.claimIn = s.twn.claimIn from rfl,
        show s.pop.sys.mode = .service from hmode, show s.pop.flag Attr.TwinPair.fit 0 = true from hfit]
      simp [hin]
    have hgo : s.pop.castlesFrom 0 = true := by
      simp only [State.castlesFrom, hallowed, show s.pop.sys.mode = .service from hmode, show s.pop.active = true from hactive, show s.pop.twn.drain = false from hdrain,
        show s.pop.twn.released = false from hrel]
      rfl
    obtain ⟨t, hrun, rfl, hans⟩ := hs.completes ho (doCastle_drains (s := s.pop) hmode hzero hgo) (poised_pop.of_mbx rfl) (Nat.zero_le _)
    exact ⟨_, hrun, hans, State.finish_twn, ((sameBut_pop.mono (by decide)).set_twn).step sameBut_finish⟩
  · intro s c n hs ho hzero hmode hfit
    exact State.Serves.completes_unchanged (b := doCastle) hs ho (doCastle_refused (s := s.pop) hmode hzero hfit) (Nat.zero_le _)
  · intro s c n hs ho hzero hmode htwin hopen hwait hun hin hfit
    have hup : (s.pop.clink s.pop.pairLink).up = true := by
      have hopen' := hopen
      simp only [State.linkOpen, Bool.and_eq_true] at hopen'
      exact hopen'.1.1
    have hallowed : s.pop.castleRefused 0 = false := by
      simp only [State.castleRefused, show s.pop.twinned = true from htwin, hup, show s.pop.twn.claimIn = s.twn.claimIn from rfl,
        show s.pop.sys.mode = .shadow from hmode, show s.pop.flag Attr.TwinPair.fit 0 = true from hfit]
      simp [hin]
    have hbody := doCastle_passes (s := s.pop) (c := c) hmode hzero hallowed
    let v : State := s.pop.setTwn { s.pop.twn with castleCmd := some (c.arrival, true) }
    have hsends : v.Sends s.pairLink := ⟨hopen, hwait, hun⟩
    obtain ⟨-, hout⟩ := State.sendReliable_effect (ty := 0x50) (b := leBytes 1 0 ++ [0, 0, 0] ++ leBytes 4 c.arrival) hsends
    have hlinked : Linked v (v.sendReliable s.pairLink 0x50 (leBytes 1 0 ++ [0, 0, 0] ++ leBytes 4 c.arrival)) := linked_sendReliable
    have hset : Changes [.twn] [] s.pop v := .of_same SameBut.refl.set_twn
    have hchange : Changes [.mbx, .twn] [] s.pop (v.sendReliable s.pairLink 0x50 (leBytes 1 0 ++ [0, 0, 0] ++ leBytes 4 c.arrival)) := Changes.mono (hset.trans hlinked.changes)
    have hcmd : (v.sendReliable s.pairLink 0x50 (leBytes 1 0 ++ [0, 0, 0] ++ leBytes 4 c.arrival)).twn.castleCmd = some (c.arrival, true) := by
      rw [hlinked.twn]
      rfl
    obtain ⟨t, hrun, rfl, hans⟩ := hs.completes ho hbody (hchange.poised s poised_pop) (Nat.zero_le _)
    exact ⟨_, hrun, hans, (congrArg Twin.castleCmd State.finish_twn).trans hcmd, (congrArg Twin.out State.finish_twn).trans hout, hchange.finished⟩

end Sys2Proof.Machine
end

section
/-! Degraded pairs and the standby's health (R625–R629, R663). -/

namespace Sys2Proof.Machine

variable {s t u v : State} {cause bits : Nat}

theorem execSolo_absent (htwin : s.twinned = true) (hactive : s.active = true) (hpair : s.nat Attr.TwinPair.pairState 0 = 1) (hin : s.twn.claimIn = .absent) : exec (.solo 1) s =
    .next (((((s.flushActivities (fun a => a.kind == 4)).setPairState 2).setFlag Attr.TwinPair.fit 0 false).setTwn
      { (((s.flushActivities (fun a => a.kind == 4)).setPairState 2).setFlag Attr.TwinPair.fit 0 false).twn with outbox := [], posted := [] }).raise 0x1304 pairPath
        [(((s.flushActivities (fun a => a.kind == 4)).setPairState 2).setFlag Attr.TwinPair.fit 0 false).side, 1]) :=
  if_neg (by simp [htwin, hactive, hpair, hin])

theorem execTwinResync_asks (htwin : s.twinned = true) (hopen : s.linkOpen s.pairLink = true) (hactive : s.active = true) (hpair : s.nat Attr.TwinPair.pairState 0 = 2) :
    exec .twinResync s = .next (if (s.requestInternal 4 0).1 = .admitted then (s.requestInternal 4 0).2.startResync else (s.requestInternal 4 0).2) := by
  have hrole : ¬ s.nat Attr.TwinPair.role 0 = 2 := by
    simp only [State.active, beq_iff_eq] at hactive
    omega
  exact (if_neg (by simp [htwin, hopen])).trans ((if_neg hrole).trans ((if_neg (by simp [hactive])).trans (if_pos hpair)))

/-- The activity that a resync asks for (R627). -/
def State.resyncActivity (s : State) : Activity := { kind := 4, arrival := s.mbx.arrival, internal := true, unit := 0 }

theorem State.requestResync_free (hadm : s.fcr.admitted = []) (hdef : s.fcr.deferred = []) (hwait : s.fcr.waiting = []) (htaken : s.mbx.taken = []) :
    s.requestInternal 4 0 = (.admitted, s.admitActivity s.resyncActivity) :=
  (if_neg (by simp [hadm, hdef, hwait])).trans ((if_neg (by simp [htaken])).trans (State.arbitrate_free hadm hdef))

theorem execTwinResync_ends (htwin : s.twinned = true) (hopen : s.linkOpen s.pairLink = true) (hactive : s.active = true) (hpair : s.nat Attr.TwinPair.pairState 0 = 3)
    (hposted : s.twn.posted = []) (hout : s.twn.outbox = []) (hadm : s.fcr.admitted = []) :
    exec .twinResync s = .next (((s.setPairState 1).setTwn { (s.setPairState 1).twn with soloMarks := [] }).raise 0x1305 pairPath [s.side, s.twn.exchanged]) := by
  have hrole : ¬ s.nat Attr.TwinPair.role 0 = 2 := by
    simp only [State.active, beq_iff_eq] at hactive
    omega
  have hfcr : ({ s with fcr := { s.fcr with admitted := s.fcr.admitted.filter (fun a => a.kind != 4) } } : State) = s := by
    rw [hadm, List.filter_nil, ← hadm]
  have hgone : s.fcr.admitted.filter (fun a => a.kind == 4) = [] := by rw [hadm, List.filter_nil]
  refine (if_neg (by simp [htwin, hopen])).trans ((if_neg hrole).trans ((if_neg (by simp [hactive])).trans ((if_neg (by omega)).trans
    ((if_pos ⟨hpair, by rw [hposted]; rfl, by rw [hout]; rfl⟩).trans ?_))))
  dsimp only
  rw [hfcr, hgone]
  rfl

/-! ### The standby's health (R629, Table 16-8) -/

/-- The checks of a standby that reads its partner's claim and reads its mirror: `h` of them pass. -/
theorem execHealthTest_claimed {h : Nat} (hrole : s.nat Attr.TwinPair.role 0 = 2) (hgate : s.twn.gateOk = true) (hin : s.twn.claimIn = .claimed) (hread : s.twn.stopped = false)
    (hbits : bits % 256 &&& 0x6F ||| 0x10 ||| 0x80 = h) : exec (.healthTest bits) s =
      let v := s.setNat Attr.TwinPair.health 0 h
      let w := v.setFlag Attr.TwinPair.fit 0 (h == 255 && v.nat Attr.TwinPair.pairState 0 == 1 && !v.trial)
      .next (((List.range 8).filter (fun k => !bit h k && !bit s.twn.alarms k)).foldl (fun s k => s.raise 0x1306 pairPath [s.side, k]) (w.setTwn { w.twn with alarms := 255 - h })) := by
  have hclaim : (s.twn.gateOk && (s.twn.claimIn == .claimed || (s.twn.railP && s.twn.railM))) = true := by
    rw [hgate, hin]
    rfl
  show execHealthTest bits s = _
  unfold execHealthTest
  rw [if_neg (by simp [hrole])]
  dsimp only
  rw [hclaim, hread]
  simp only [if_true, Bool.false_eq_true, if_false]
  rw [hbits]

/-- What a health test writes before it records what fails. -/
theorem State.tested_effect {h : Nat} {fit : Bool} :
    ((s.setNat Attr.TwinPair.health 0 h).setFlag Attr.TwinPair.fit 0 fit).nat Attr.TwinPair.health 0 = h ∧
      ((s.setNat Attr.TwinPair.health 0 h).setFlag Attr.TwinPair.fit 0 fit).flag Attr.TwinPair.fit 0 = fit ∧
      Changes [.obj, .mbx] [Attr.TwinPair.health, Attr.TwinPair.fit] s ((s.setNat Attr.TwinPair.health 0 h).setFlag Attr.TwinPair.fit 0 fit) := by
  have hfirst : Changes [.obj, .mbx] [Attr.TwinPair.health] s (s.setNat Attr.TwinPair.health 0 h) := changes_setNat
  have hvalue : (s.setNat Attr.TwinPair.health 0 h).nat Attr.TwinPair.health 0 = h := State.nat_setNat
  generalize s.setNat Attr.TwinPair.health 0 h = v at hfirst hvalue
  have hsecond : Changes [.obj, .mbx] [Attr.TwinPair.fit] v (v.setFlag Attr.TwinPair.fit 0 fit) := changes_setFlag
  exact ⟨(hsecond.nat Attr.TwinPair.health 0).trans hvalue, State.flag_setFlag, hfirst.mono.step hsecond⟩

theorem State.trial_congr {areas : List Area} {ys : List (Nat × Nat)} (h : Changes areas ys s t) (hs : autoParam (Attr.FirmwareImage.state ∉ ys) Nat.toPNat._auto_1) : t.trial = s.trial := by
  have hslot : ∀ i ∈ [0, 1], t.slotState i = s.slotState i := fun i hi => h.nat Attr.FirmwareImage.state i ⟨hs, by decide⟩ (by simp at hi; omega)
  have h0 : t.slotState 0 = s.slotState 0 := hslot 0 (by decide)
  have h1 : t.slotState 1 = s.slotState 1 := hslot 1 (by decide)
  simp [State.trial, State.trialSlot, List.find?_cons, h0, h1]

/-- Settles O43: SOLO, a resync and the standby's checks by their equations. -/
theorem twinHealth : Obligations.TwinHealth := by
  refine ⟨?_, ?_, ?_, ?_, ?_⟩
  · intro s htwin hactive hpair hin hadm
    have hrun := execSolo_absent htwin hactive hpair hin
    rw [State.flushActivities_unused (by rw [hadm]; intro x hx; exact absurd hx List.not_mem_nil)] at hrun
    have hfirst : Changes [.obj, .mbx] [Attr.TwinPair.pairState] s (s.setPairState 2) := changes_setNat
    have hvalue : (s.setPairState 2).nat Attr.TwinPair.pairState 0 = 2 := State.nat_setNat
    generalize s.setPairState 2 = v at hrun hfirst hvalue
    have hsecond : Changes [.obj, .mbx] [Attr.TwinPair.fit] v (v.setFlag Attr.TwinPair.fit 0 false) := changes_setFlag
    have hfit : (v.setFlag Attr.TwinPair.fit 0 false).flag Attr.TwinPair.fit 0 = false := State.flag_setFlag
    generalize v.setFlag Attr.TwinPair.fit 0 false = w at hrun hsecond hfit
    have hsw : Changes [.twn, .obj, .mbx, .fcr, .recd] [Attr.TwinPair.pairState, Attr.TwinPair.fit] s w := hfirst.mono.step hsecond
    have hlast : SameBut [.twn, .recd] w ((w.setTwn { w.twn with outbox := [], posted := [] }).raise 0x1304 pairPath [w.side, 1]) := SameBut.refl.set_twn.step sameBut_raise
    have hobj : ((w.setTwn { w.twn with outbox := [], posted := [] }).raise 0x1304 pairPath [w.side, 1]).obj = w.obj := rfl
    have hside : w.side = s.side := hsw.nat Attr.TwinPair.side 0
    have htwn : w.twn = s.twn := hsecond.twn.trans hfirst.twn
    have hrecd : w.recd = s.recd := hsecond.recd.trans hfirst.recd
    refine ⟨_, hrun, (State.nat_congr hobj _ _).trans ((hsecond.nat Attr.TwinPair.pairState 0).trans hvalue), (State.flag_congr hobj _ _).trans hfit, ?_, ?_, hsw.same.step hlast⟩
    · show ({ w.twn with outbox := [], posted := [] } : Twin) = _
      rw [htwn]
    · show w.recd.ordinary _ = _
      rw [hrecd, hside]
      rfl
  · intro s htwin hopen hactive hpair hadm hdef hwait htaken
    have hrun := execTwinResync_asks htwin hopen hactive hpair
    rw [State.requestResync_free hadm hdef hwait htaken] at hrun
    change exec .twinResync s = .next (s.admitActivity s.resyncActivity).startResync at hrun
    have hadmit : Changes [.fcr, .recd] [] s (s.admitActivity s.resyncActivity) := .of_same sameBut_admitActivity
    have hkeep : (s.admitActivity s.resyncActivity).fcr.admitted = [s.resyncActivity] := congrArg (· ++ [s.resyncActivity]) hadm
    generalize s.admitActivity s.resyncActivity = v at hrun hadmit hkeep
    have hset : Changes [.obj, .mbx] [Attr.TwinPair.pairState] v (v.setPairState 3) := changes_setNat
    have hvalue : (v.setPairState 3).nat Attr.TwinPair.pairState 0 = 3 := State.nat_setNat
    unfold State.startResync at hrun
    generalize v.setPairState 3 = w at hrun hset hvalue
    have hsw : Changes [.twn, .obj, .mbx, .fcr, .recd] [Attr.TwinPair.pairState] s w := hadmit.mono.step hset
    have htwn : w.twn = s.twn := hset.twn.trans hadmit.twn
    refine ⟨_, hrun, hvalue, ?_, ⟨s.resyncActivity, ?_, rfl, rfl⟩, hsw.same.set_twn⟩
    · show ({ w.twn with exchanged := 0 } : Twin) = _
      rw [htwn]
    · show w.fcr.admitted = _
      rw [hset.fcr, hkeep]
  · intro s htwin hopen hactive hpair hposted hout hadm
    have hrun := execTwinResync_ends htwin hopen hactive hpair hposted hout hadm
    have hset : Changes [.obj, .mbx] [Attr.TwinPair.pairState] s (s.setPairState 1) := changes_setNat
    have hvalue : (s.setPairState 1).nat Attr.TwinPair.pairState 0 = 1 := State.nat_setNat
    generalize s.setPairState 1 = w at hrun hset hvalue
    refine ⟨_, hrun, hvalue, ?_, ?_, ((hset.same.mono (by decide)).set_twn).step sameBut_raise⟩
    · show ({ w.twn with soloMarks := [] } : Twin) = _
      rw [hset.twn]
    · show w.recd.ordinary _ = _
      rw [hset.recd]
      rfl
  · intro s bits hrole hbits hgate hin hread hpair hplain
    have hrun := execHealthTest_claimed (h := 255) hrole hgate hin hread (by rw [hbits]; rfl)
    have hfirst : Changes [.obj, .mbx] [Attr.TwinPair.health] s (s.setNat Attr.TwinPair.health 0 255) := changes_setNat
    have hfit : ((255 == 255 && (s.setNat Attr.TwinPair.health 0 255).nat Attr.TwinPair.pairState 0 == 1 && !(s.setNat Attr.TwinPair.health 0 255).trial) : Bool) = true := by
      rw [State.trial_congr hfirst, hfirst.nat Attr.TwinPair.pairState 0, hpair, hplain]
      rfl
    dsimp only at hrun
    rw [hfit] at hrun
    have hnone : (List.range 8).filter (fun k => !bit 255 k && !bit s.twn.alarms k) = [] := List.filter_eq_nil_iff.2 fun k hk => by
      have hset : ∀ j ∈ List.range 8, bit 255 j = true := by decide
      simp [hset k hk]
    rw [hnone] at hrun
    obtain ⟨hhealth, hfitT, hchange⟩ := State.tested_effect (s := s) (h := 255) (fit := true)
    generalize (s.setNat Attr.TwinPair.health 0 255).setFlag Attr.TwinPair.fit 0 true = w at hrun hhealth hfitT hchange
    refine ⟨_, hrun, hhealth, hfitT, ?_, (hchange.same.mono (by decide)).set_twn⟩
    show ({ w.twn with alarms := 255 - 255 } : Twin) = _
    rw [hchange.twn]
  · intro s bits hrole hbits hgate hin hread hquiet
    have hrun := execHealthTest_claimed (h := 254) hrole hgate hin hread (by rw [hbits]; rfl)
    have hone : (List.range 8).filter (fun k => !bit 254 k && !bit s.twn.alarms k) = [0] := by
      rw [hquiet]
      decide
    dsimp only at hrun
    rw [hone, show (254 == 255) = false from rfl, Bool.false_and, Bool.false_and] at hrun
    obtain ⟨hhealth, hfitT, hchange⟩ := State.tested_effect (s := s) (h := 254) (fit := false)
    generalize (s.setNat Attr.TwinPair.health 0 254).setFlag Attr.TwinPair.fit 0 false = w at hrun hhealth hfitT hchange
    have hside : w.side = s.side := hchange.nat Attr.TwinPair.side 0
    refine ⟨_, hrun, hhealth, hfitT, ?_, ?_, ((hchange.same.mono (by decide)).set_twn).step sameBut_raise⟩
    · show ({ w.twn with alarms := 255 - 254 } : Twin) = _
      rw [hchange.twn]
    · show w.recd.ordinary ⟨0x1306, pairPath, [(w.side : Int), ((0 : Nat) : Int)]⟩ = _
      rw [hchange.recd, hside]
      rfl

end Sys2Proof.Machine
end

section
/-! The chip's own firmware (R648–R655, R658, R660, R661). -/

namespace Sys2Proof.Machine

variable {s t u v : State} {c : Cmd} {d g n a : Nat} {b : Bytes}

/-! ### Slots and generations -/

/-- The attributes of the slots. -/
abbrev slotAttrs : List (Nat × Nat) :=
  [Attr.FirmwareImage.state, Attr.FirmwareImage.version, Attr.FirmwareImage.securityVersion, Attr.FirmwareImage.formatMasks, Attr.FirmwareImage.settingsGeneration]

theorem State.slotState_congr {areas : List Area} {ys : List (Nat × Nat)} (h : Changes areas ys s t) (hi : autoParam (n < 2 ^ 40) Nat.dfold._auto_1) (hs : autoParam (Attr.FirmwareImage.state ∉ ys) Nat.toPNat._auto_1) :
    t.slotState n = s.slotState n := h.nat Attr.FirmwareImage.state n ⟨hs, by decide⟩ hi

theorem State.slotState_set : (s.setNat Attr.FirmwareImage.state d n).slotState d = n := State.nat_setNat

theorem State.stageSlot_lt : s.stageSlot < 2 := by
  unfold State.stageSlot
  rcases hfind : [0, 1].find? (fun i => s.slotState i != 4 && s.slotState i != 3) with _ | x
  · exact Nat.zero_lt_two
  · have hmem := List.mem_of_find?_eq_some hfind
    simp at hmem
    simp only [Option.getD_some]
    omega

/-! ### What ends a handover (R654) -/

/-- A fold whose steps all leave its start as it is. -/
theorem foldl_stays {α β : Type} {f : α → β → α} {x : α} : ∀ {l : List β}, (∀ y ∈ l, f x y = x) → l.foldl f x = x
  | [], _ => rfl
  | y :: l, h => by
    rw [List.foldl_cons, h y List.mem_cons_self]
    exact foldl_stays fun z hz => h z (List.mem_cons_of_mem _ hz)

theorem State.takeHeld_none (hremote : s.mbx.remoteHeld = []) (hpairs : ∀ k < 64, (s.pair k).held = none) : s.takeHeld = s := by
  unfold State.takeHeld
  rw [foldl_stays (x := s) (l := List.range 64) fun k hk => by rw [hpairs k (List.mem_range.1 hk)]]
  dsimp only
  rw [hremote, List.foldl_nil, ← hremote]

/-- A notification holds no frame back. -/
theorem State.held_unnotified (h : t.mbx.unnotified = s.mbx.unnotified) (hremote : s.mbx.remoteHeld = []) (hpairs : ∀ k < 64, (s.pair k).held = none) :
    t.mbx.remoteHeld = [] ∧ ∀ k < 64, (t.pair k).held = none := by
  have hheld : t.mbx.remoteHeld = s.mbx.remoteHeld := (congrArg Mailbox.remoteHeld h :)
  have hp : t.mbx.pairs = s.mbx.pairs := (congrArg Mailbox.pairs h :)
  exact ⟨hheld.trans hremote, fun k hk => (congrArg (fun l : List Pair => (l.getD k {}).held) hp).trans (hpairs k hk)⟩

theorem linked_advertiseAll : Linked s s.advertiseAll := .foldl fun _ _ => linked_advertise

/-- A handover that ends with no frame waiting. -/
theorem State.handoverOver_effect (hremote : s.mbx.remoteHeld = []) (hpairs : ∀ k < 64, (s.pair k).held = none) :
    s.handoverOver.sys = { s.sys with handover := false } ∧ s.handoverOver.upd = { s.upd with handing := none } ∧ Changes [.sys, .upd, .twn] [] s s.handoverOver := by
  let v : State := { s with sys := { s.sys with handover := false }, upd := { s.upd with handing := none } }
  have hover : s.handoverOver = v.advertiseAll := congrArg State.advertiseAll (State.takeHeld_none (s := v) hremote hpairs)
  have hlinked : Linked v v.advertiseAll := linked_advertiseAll
  have hset : Changes [.sys, .upd] [] s v := .of_same SameBut.refl.set_sys.set_upd
  rw [hover]
  exact ⟨hlinked.sys, hlinked.same.area .upd, hset.mono.step hlinked.changes⟩

theorem State.endUpdate_none (hadm : s.fcr.admitted = []) (hdef : s.fcr.deferred = []) (hwait : s.fcr.waiting = []) : s.endUpdate = s := by
  have hfcr : ({ s with fcr := { s.fcr with admitted := s.fcr.admitted.filter (fun a => a.kind != 5) } } : State) = s := by rw [hadm, List.filter_nil, ← hadm]
  unfold State.endUpdate
  dsimp only
  rw [hfcr, hadm, List.filter_nil, List.foldl_nil]
  exact State.admitWaiting_none hdef hwait

/-! ### Settings generations (R656–R658) -/

theorem State.applySettings_same {book : List (Nat × Val)} : SameBut [.obj, .mbx] s (s.applySettings book) ∧ (s.applySettings book).mbx.unnotified = s.mbx.unnotified := by
  have hset : ∀ (g : Nat × Val → Val) (l : List (Nat × Val)) (v : State),
      SameBut [.obj, .mbx] v (l.foldl (fun s e => s.setAttr (pathCls e.1, pathAttr e.1) (pathInst e.1) (g e)) v) ∧
        (l.foldl (fun s e => s.setAttr (pathCls e.1, pathAttr e.1) (pathInst e.1) (g e)) v).mbx.unnotified = v.mbx.unnotified := by
    intro g l
    induction l with
    | nil => exact fun v => ⟨.refl, rfl⟩
    | cons e l ih =>
      intro v
      obtain ⟨hsame, hmbx⟩ := ih (v.setAttr (pathCls e.1, pathAttr e.1) (pathInst e.1) (g e))
      exact ⟨(sameBut_setAttr.mono (by decide)).trans hsame, hmbx.trans State.setAttr_unnotified⟩
  obtain ⟨hgone, hgone'⟩ := hset (fun e => dfltAt (pathCls e.1, pathAttr e.1) (pathInst e.1)) (s.settings.filter (fun e => !Assoc.has e.1 book)) s
  obtain ⟨hbook, hbook'⟩ := hset (fun e => e.2) book
    ((s.settings.filter (fun e => !Assoc.has e.1 book)).foldl (fun s e => s.setAttr (pathCls e.1, pathAttr e.1) (pathInst e.1) (dfltAt (pathCls e.1, pathAttr e.1) (pathInst e.1))) s)
  exact ⟨hgone.trans hbook, hbook'.trans hgone'⟩

theorem State.useGeneration_effect : (s.useGeneration g).sys = { s.sys with settingsGen := g } ∧ SameBut [.sys, .obj, .mbx] s (s.useGeneration g) ∧
    (s.useGeneration g).mbx.unnotified = s.mbx.unnotified := by
  let v : State := { s with sys := { s.sys with settingsGen := g } }
  obtain ⟨hsame, hmbx⟩ := State.applySettings_same (s := v) (book := (Assoc.find g s.upd.books).getD [])
  have huse : s.useGeneration g = (v.applySettings ((Assoc.find g s.upd.books).getD [])).refreshProvision := rfl
  have hset : SameBut [.sys, .obj, .mbx] s v := SameBut.refl.set_sys
  have hvsys : v.sys = { s.sys with settingsGen := g } := rfl
  have hvmbx : v.mbx = s.mbx := rfl
  generalize v.applySettings ((Assoc.find g s.upd.books).getD []) = w at hsame hmbx huse
  have hfresh : SameBut [.obj, .mbx] w w.refreshProvision := sameBut_setAttr.mono (by decide)
  rw [huse]
  refine ⟨?_, (hset.step hsame).step hfresh, State.setAttr_unnotified.trans (hmbx.trans (congrArg Mailbox.unnotified hvmbx))⟩
  have hlast : w.refreshProvision.sys = w.sys := hfresh.area .sys
  have hfirst : w.sys = v.sys := hsame.area .sys
  exact hlast.trans (hfirst.trans hvsys)

/-- The attributes that a new generation writes. -/
abbrev genAttrs : List (Nat × Nat) :=
  [Attr.SettingsGeneration.state, Attr.SettingsGeneration.sequence, Attr.SettingsGeneration.format, Attr.SettingsGeneration.writerVersion, Attr.FirmwareImage.settingsGeneration,
   Attr.SystemMode.provisionState]

/-- The attributes of a generation that is written and bound to a slot. -/
def State.boundGeneration (s : State) (d g seq fmt ver : Nat) : State :=
  let s := ((s.setNat Attr.SettingsGeneration.state g 2).setNat Attr.SettingsGeneration.sequence g seq).setNat Attr.SettingsGeneration.format g fmt
  (s.setNat Attr.SettingsGeneration.writerVersion g ver).setNat Attr.FirmwareImage.settingsGeneration d g

theorem State.boundGeneration_effect {seq fmt ver : Nat} (hd : d < 2) (hg : g ≤ 3) : (s.boundGeneration d g seq fmt ver).genState g = 2 ∧
    (s.boundGeneration d g seq fmt ver).nat Attr.FirmwareImage.settingsGeneration d = g ∧ Changes [.obj, .mbx] genAttrs s (s.boundGeneration d g seq fmt ver) ∧
    (s.boundGeneration d g seq fmt ver).mbx.unnotified = s.mbx.unnotified := by
  have hset : ∀ {v : State} {y : Nat × Nat} {i k : Nat}, y ∈ genAttrs.tail ∧ y.2 < 256 → i ≤ 3 → Changes [.obj, .mbx] genAttrs.tail v (v.setNat y i k) :=
    fun hy hi => Changes.mono (changes_setNat hy.2) (List.Subset.refl _) (List.cons_subset.2 ⟨hy.1, List.nil_subset _⟩)
  have hvalid : (s.setNat Attr.SettingsGeneration.state g 2).genState g = 2 := State.nat_setNat
  have hfirst : Changes [.obj, .mbx] [Attr.SettingsGeneration.state] s (s.setNat Attr.SettingsGeneration.state g 2) := changes_setNat
  have hrest : Changes [.obj, .mbx] genAttrs.tail (s.setNat Attr.SettingsGeneration.state g 2) (s.boundGeneration d g seq fmt ver) :=
    (((hset (by decide) hg).trans (hset (by decide) hg)).trans (hset (by decide) hg)).trans (hset (by decide) (by omega))
  exact ⟨(hrest.nat Attr.SettingsGeneration.state g).trans hvalid, State.nat_setNat, hfirst.mono.step hrest,
    State.setAttr_unnotified.trans (State.setAttr_unnotified.trans (State.setAttr_unnotified.trans (State.setAttr_unnotified.trans State.setAttr_unnotified)))⟩

theorem State.newGeneration_eq (hd : d < 2) (hg : s.freeGeneration = g) : ∃ seq fmt ver, s.newGeneration d =
    ({ s.keepBook.boundGeneration d g seq fmt ver with sys := { (s.keepBook.boundGeneration d g seq fmt ver).sys with settingsGen := g } }.raise 0x0144 (genPath g)
      [g, fmt, seq]).refreshProvision := by
  unfold State.newGeneration
  rw [hg]
  generalize (([1, 2, 3].map (fun k => s.nat Attr.SettingsGeneration.sequence k)).foldl max 0 + 1) % 2 ^ 32 = seq
  generalize (highest (maskOf s.masks 0 true)).getD 0 = fmt
  generalize s.keepBook = a
  refine ⟨seq, fmt, (((a.setNat Attr.SettingsGeneration.state g 2).setNat Attr.SettingsGeneration.sequence g seq).setNat Attr.SettingsGeneration.format g fmt).nat
    Attr.FirmwareImage.version d, ?_⟩
  unfold State.boundGeneration
  dsimp only
  generalize ((a.setNat Attr.SettingsGeneration.state g 2).setNat Attr.SettingsGeneration.sequence g seq).setNat Attr.SettingsGeneration.format g fmt = w
  rw [if_pos hd, if_pos hd]

/-- A new generation is VALID, bound to its slot and in use (R658). -/
theorem State.newGeneration_effect (hd : d < 2) (hg : s.freeGeneration = g) (hmax : g ≤ 3) : (s.newGeneration d).sys = { s.sys with settingsGen := g } ∧
    (s.newGeneration d).nat Attr.FirmwareImage.settingsGeneration d = g ∧ (s.newGeneration d).genState g = 2 ∧
    Changes [.sys, .obj, .mbx, .upd, .recd] genAttrs s (s.newGeneration d) ∧ (s.newGeneration d).mbx.unnotified = s.mbx.unnotified := by
  have hbook : Changes [.upd] [] s s.keepBook := .of_same SameBut.refl.set_upd
  obtain ⟨seq, fmt, ver, hnew⟩ := State.newGeneration_eq (s := s) hd hg
  obtain ⟨hvalid, hbound, hattrs, hmbx⟩ := State.boundGeneration_effect (s := s.keepBook) (seq := seq) (fmt := fmt) (ver := ver) hd hmax
  have hsmbx : s.keepBook.mbx = s.mbx := rfl
  rw [hnew]
  generalize s.keepBook = a at hbook hattrs hvalid hbound hmbx hsmbx
  generalize a.boundGeneration d g seq fmt ver = w at hattrs hvalid hbound hmbx
  have hsys : w.sys = s.sys := hattrs.sys.trans hbook.sys
  have huse : Changes [.sys, .recd] [] w ({ w with sys := { w.sys with settingsGen := g } }.raise 0x0144 (genPath g) [g, fmt, seq]) :=
    .of_same (SameBut.refl.set_sys.step sameBut_raise)
  have hsysX : ({ w with sys := { w.sys with settingsGen := g } }.raise 0x0144 (genPath g) [g, fmt, seq]).sys = { s.sys with settingsGen := g } := by
    show { w.sys with settingsGen := g } = _
    rw [hsys]
  have hmbxX : ({ w with sys := { w.sys with settingsGen := g } }.raise 0x0144 (genPath g) [g, fmt, seq]).mbx = w.mbx := rfl
  generalize { w with sys := { w.sys with settingsGen := g } }.raise 0x0144 (genPath g) [g, fmt, seq] = x at huse hsysX hmbxX
  have hlast : Changes [.obj, .mbx] [Attr.SystemMode.provisionState] x x.refreshProvision := changes_refreshProvision
  exact ⟨hlast.sys.trans hsysX, (hlast.nat _ _).trans ((huse.nat Attr.FirmwareImage.settingsGeneration d).trans hbound),
    (hlast.nat _ _).trans ((huse.nat Attr.SettingsGeneration.state g).trans hvalid), ((hbook.mono.step hattrs).step huse).step hlast,
    State.setAttr_unnotified.trans ((congrArg Mailbox.unnotified hmbxX).trans (hmbx.trans (congrArg Mailbox.unnotified hsmbx)))⟩

/-- A slot that leaves STAGED for TRIAL was bound to no generation that is kept (R658). -/
theorem State.freeGeneration_trial (hd : d < 2) (hold : s.slotState d = 2) (hnew : t.slotState d = 3) (h : AttrsBut [0x01] s t) (hother : t.slotState (1 - d) = s.slotState (1 - d)) :
    t.freeGeneration = s.freeGeneration := by
  have hkept : ∀ i ∈ [0, 1], (t.slotState i == 4 || t.slotState i == 5) = (s.slotState i == 4 || s.slotState i == 5) := by
    intro i hi
    by_cases he : i = d
    · rw [he, hold, hnew]
      rfl
    · have hi' : i = 1 - d := by
        simp at hi
        omega
      rw [hi', hother]
  have hfilter : [0, 1].filter (fun i => t.slotState i == 4 || t.slotState i == 5) = [0, 1].filter (fun i => s.slotState i == 4 || s.slotState i == 5) := List.filter_congr hkept
  have hbound : ∀ i, t.nat Attr.FirmwareImage.settingsGeneration i = s.nat Attr.FirmwareImage.settingsGeneration i := fun i => h.nat _ i
  have hseq : ∀ k, t.nat Attr.SettingsGeneration.sequence k = s.nat Attr.SettingsGeneration.sequence k := fun k => h.nat _ k
  unfold State.freeGeneration
  rw [hfilter]
  simp only [hbound, hseq]

/-- The attributes of a slot whose trial starts. -/
theorem State.slot_trial (hd : d < 2) (hold : s.slotState d = 2) : (s.setNat Attr.FirmwareImage.state d 3).freeGeneration = s.freeGeneration := by
  have hother : (s.setNat Attr.FirmwareImage.state d 3).slotState (1 - d) = s.slotState (1 - d) := State.nat_setNat_ne (mkPath_ne_of_inst (by omega))
  exact State.freeGeneration_trial hd hold State.slotState_set (attrsBut_setAttr (by decide)) hother

/-- The confirm window opens, and FW_ACTIVATED is recorded (R654 step 6). -/
def State.opensTrial (s : State) (d w outage : Nat) : State :=
  let s := { s with upd := { s.upd with trialEnd := some (s.tim.d3 + sec w) } }
  s.raise 0x0141 (slotPath d) [d, s.nat Attr.FirmwareImage.version d, outage]

/-- From `s` to `t` the image of slot `d` has begun its trial on generation `g`, with a confirm window of `w` s. -/
structure State.Trials (s t : State) (d g w : Nat) : Prop where
  sys : t.sys = { s.sys with slot := d, settingsGen := g }
  state : t.slotState d = 3
  window : t.upd.trialEnd = some (s.tim.d3 + sec w)
  bound : t.nat Attr.FirmwareImage.settingsGeneration d = g
  valid : t.genState g = 2
  change : Changes [.sys, .obj, .mbx, .upd, .recd] (Attr.FirmwareImage.state :: genAttrs) s t
  unnotified : t.mbx.unnotified = s.mbx.unnotified

/-- The new image runs its trial on a generation of its own (R654 step 6, R658). -/
theorem State.startTrial_effect {w outage : Nat} (hd : d < 2) (hold : s.slotState d = 2) (hg : s.freeGeneration = g) (hmax : g ≤ 3) :
    s.Trials (s.startTrial d w outage) d g w := by
  have hfree := (State.slot_trial hd hold).trans hg
  have htrial : (s.setNat Attr.FirmwareImage.state d 3).slotState d = 3 := State.slotState_set
  have hset : Changes [.obj, .mbx] [Attr.FirmwareImage.state] s (s.setNat Attr.FirmwareImage.state d 3) := changes_setNat
  have hstart : s.startTrial d w outage =
      (State.newGeneration { s.setNat Attr.FirmwareImage.state d 3 with sys := { (s.setNat Attr.FirmwareImage.state d 3).sys with slot := d } } d).opensTrial d w outage := rfl
  have hmbxA : (s.setNat Attr.FirmwareImage.state d 3).mbx.unnotified = s.mbx.unnotified := State.setAttr_unnotified
  rw [hstart]
  generalize s.setNat Attr.FirmwareImage.state d 3 = a at hfree htrial hset hmbxA
  have hslot : Changes [.sys] [] a { a with sys := { a.sys with slot := d } } := .of_same SameBut.refl.set_sys
  have hfree' : ({ a with sys := { a.sys with slot := d } } : State).freeGeneration = g := hfree
  have hsys : ({ a with sys := { a.sys with slot := d } } : State).sys = { s.sys with slot := d } := by
    show { a.sys with slot := d } = _
    rw [hset.sys]
  have hmbxE : ({ a with sys := { a.sys with slot := d } } : State).mbx = a.mbx := rfl
  generalize ({ a with sys := { a.sys with slot := d } } : State) = e at hslot hfree' hsys hmbxE
  obtain ⟨hsysN, hbound, hvalid, hnew, hmbxN⟩ := State.newGeneration_effect hd hfree' hmax
  generalize e.newGeneration d = f at hsysN hbound hvalid hnew hmbxN
  have hlast : Changes [.upd, .recd] [] f (f.opensTrial d w outage) := .of_same (SameBut.refl.set_upd.step sameBut_raise)
  have htim : f.tim = s.tim := hnew.tim.trans (hslot.tim.trans hset.tim)
  refine ⟨?_, ?_, ?_, (hlast.nat Attr.FirmwareImage.settingsGeneration d).trans hbound, (hlast.nat Attr.SettingsGeneration.state g).trans hvalid, ((hset.mono.step hslot).step hnew).step hlast,
    hmbxN.trans ((congrArg Mailbox.unnotified hmbxE).trans hmbxA)⟩
  · refine hlast.sys.trans (hsysN.trans ?_)
    rw [hsys]
  · exact (hlast.nat Attr.FirmwareImage.state d).trans ((hnew.nat Attr.FirmwareImage.state d).trans ((hslot.nat Attr.FirmwareImage.state d).trans htrial))
  · exact congrArg (fun x : Time => some (x.d3 + sec w)) htim

/-! ### The fallback (R655, R661) -/

theorem State.trialSlot_spec (h : s.trialSlot = some n) : n < 2 ∧ s.slotState n = 3 := by
  have hmem := List.mem_of_find?_eq_some h
  have hval := List.find?_some h
  simp at hmem hval
  exact ⟨by omega, hval⟩

/-- The generation of a failed image is discarded (R661). -/
def State.discarded (s : State) (g : Nat) : State := if g = 0 then s else s.setNat Attr.SettingsGeneration.state g 3

theorem State.discarded_same : SameBut [.obj, .mbx] s (s.discarded g) ∧ (s.discarded g).mbx.unnotified = s.mbx.unnotified := by
  unfold State.discarded
  split
  · exact ⟨.refl, rfl⟩
  · exact ⟨sameBut_setNat.mono (by decide), State.setAttr_unnotified⟩

/-- The other image runs, on its generation, and the fallback is recorded (R661). -/
def State.revert (s : State) (n r : Nat) : State :=
  let s := { s with sys := { s.sys with slot := 1 - n } }
  (s.useGeneration (s.bootGeneration (1 - n) s.masks [])).raise 0x0143 (slotPath n) [n, r]

theorem State.revert_effect {r : Nat} : (∃ k, (s.revert n r).sys = { s.sys with slot := 1 - n, settingsGen := k }) ∧
    (s.revert n r).recd = s.recd.ordinary ⟨0x0143, objPath 0x0F01 n, [(n : Int), (r : Int)]⟩ ∧ SameBut [.sys, .obj, .mbx, .recd] s (s.revert n r) ∧
    (s.revert n r).mbx.unnotified = s.mbx.unnotified := by
  have hslot : SameBut [.sys, .obj, .mbx] s { s with sys := { s.sys with slot := 1 - n } } := SameBut.refl.set_sys
  have hsys : ({ s with sys := { s.sys with slot := 1 - n } } : State).sys = { s.sys with slot := 1 - n } := rfl
  have hmbx : ({ s with sys := { s.sys with slot := 1 - n } } : State).mbx = s.mbx := rfl
  unfold State.revert
  dsimp only
  generalize ({ s with sys := { s.sys with slot := 1 - n } } : State) = v at hslot hsys hmbx
  generalize v.bootGeneration (1 - n) v.masks [] = k
  obtain ⟨huse, hsame, hunn⟩ := State.useGeneration_effect (s := v) (g := k)
  have hall : SameBut [.sys, .obj, .mbx] s (v.useGeneration k) := hslot.trans hsame
  refine ⟨⟨k, ?_⟩, congrArg (fun x : Recorder => x.ordinary _) (hall.area .recd), (hall.mono (by decide)).step sameBut_raise, hunn.trans (congrArg Mailbox.unnotified hmbx)⟩
  exact huse.trans (by rw [hsys])

theorem State.fallBack_effect {r : Nat} (htrial : s.slotState n = 3) :
    (∃ k, (s.fallBack n r).sys = { s.sys with slot := 1 - n, settingsGen := k }) ∧ (s.fallBack n r).upd.trialEnd = none ∧
      (s.fallBack n r).recd = s.recd.ordinary ⟨0x0143, objPath 0x0F01 n, [(n : Int), (r : Int)]⟩ ∧ (s.fallBack n r).mbx.unnotified = s.mbx.unnotified ∧
      SameBut [.sys, .obj, .mbx, .upd, .recd] s (s.fallBack n r) := by
  have hset : SameBut [.obj, .mbx] s (s.setNat Attr.FirmwareImage.state n 6) := sameBut_setNat.mono (by decide)
  have hmbx : (s.setNat Attr.FirmwareImage.state n 6).mbx.unnotified = s.mbx.unnotified := State.setAttr_unnotified
  have hfall : s.fallBack n r = (State.discarded { s.setNat Attr.FirmwareImage.state n 6 with upd := { s.upd with trialEnd := none, handing := none } }
      (s.nat Attr.FirmwareImage.settingsGeneration n)).revert n r := by
    unfold State.fallBack
    dsimp only
    rw [if_pos (by rw [htrial]; rfl), State.setNat_upd]
    rfl
  rw [hfall]
  generalize s.setNat Attr.FirmwareImage.state n 6 = a at hset hmbx
  have hend : SameBut [.obj, .mbx, .upd] s { a with upd := { s.upd with trialEnd := none, handing := none } } := (hset.mono (by decide)).set_upd
  have hendMbx : ({ a with upd := { s.upd with trialEnd := none, handing := none } } : State).mbx.unnotified = s.mbx.unnotified := hmbx
  have hendUpd : ({ a with upd := { s.upd with trialEnd := none, handing := none } } : State).upd.trialEnd = none := rfl
  generalize ({ a with upd := { s.upd with trialEnd := none, handing := none } } : State) = b at hend hendMbx hendUpd
  obtain ⟨hdis, hdisMbx⟩ := State.discarded_same (s := b) (g := s.nat Attr.FirmwareImage.settingsGeneration n)
  generalize b.discarded (s.nat Attr.FirmwareImage.settingsGeneration n) = e at hdis hdisMbx
  obtain ⟨⟨k, hsys⟩, hrecd, hrev, hrevMbx⟩ := State.revert_effect (s := e) (n := n) (r := r)
  have hse : SameBut [.obj, .mbx, .upd] s e := hend.step hdis
  have hesys : e.sys = s.sys := hse.area .sys
  have herecd : e.recd = s.recd := hse.area .recd
  have heupd : e.upd = b.upd := hdis.area .upd
  have hrupd : (e.revert n r).upd = e.upd := hrev.area .upd
  refine ⟨⟨k, by rw [hsys, hesys]⟩, ?_, by rw [hrecd, herecd], hrevMbx.trans (hdisMbx.trans hendMbx), (hse.mono (by decide)).step hrev⟩
  rw [hrupd, heupd, hendUpd]

/-! ### Staging (R652) -/

/-- An image in progress: its chunk, its destination and the total length. -/
theorem doImageStage_piece {x : Nat × Bytes} (hbulk : bit c.flags flagBulk = true) (hlen : 16 ≤ c.data.length) (htrial : s.trialSlot = none)
    (hcur : (if field c.data 0 4 = 0 then some (if octet (c.data.drop 16) 6 = 2 then 3 else s.stageSlot, c.data.drop 16)
      else (s.upd.stage.filter (fun y => y.2.1 == field c.data 4 4 && y.2.2.length == field c.data 0 4)).map (fun y => (y.1, y.2.2 ++ c.data.drop 16))) = some x)
    (hfit : x.2.length ≤ field c.data 4 4) (hmax : field c.data 4 4 ≤ 25165824) : doImageStage c s =
      let v : State := { s with upd := { s.upd with stage := some (x.1, field c.data 4 4, x.2) } }
      let v := if field c.data 0 4 = 0 ∧ x.1 < 2 then v.setNat Attr.FirmwareImage.state x.1 1 else v
      if !bit (octet c.data 8) 0 then (⟨.ok, []⟩, v)
      else if x.2.length < field c.data 4 4 then (⟨.badValue, []⟩, if x.1 < 2 then v.setNat Attr.FirmwareImage.state x.1 6 else v)
      else (⟨(v.stagedWhole x.1 x.2).1, []⟩, (v.stagedWhole x.1 x.2).2) := by
  unfold doImageStage
  dsimp only
  rw [if_neg (by simp [hbulk]; omega), if_neg (by simp [htrial]), hcur]
  exact if_neg (by omega)

/-- The chunk becomes the image in progress. -/
def State.inProgress (s : State) (d total : Nat) (b : Bytes) : State := { s with upd := { s.upd with stage := some (d, total, b) } }

/-- The first chunk of a Purel image opens the free slot. -/
theorem doImageStage_first (hbulk : bit c.flags flagBulk = true) (hlen : 16 ≤ c.data.length) (htrial : s.trialSlot = none) (hoff : field c.data 0 4 = 0)
    (hkind : octet (c.data.drop 16) 6 ≠ 2) (hslot : s.stageSlot = d) (hfit : (c.data.drop 16).length ≤ field c.data 4 4) (hmax : field c.data 4 4 ≤ 25165824)
    (hmore : bit (octet c.data 8) 0 = false) :
    doImageStage c s = (⟨.ok, []⟩, (s.inProgress d (field c.data 4 4) (c.data.drop 16)).setNat Attr.FirmwareImage.state d 1) := by
  have hd : d < 2 := hslot ▸ State.stageSlot_lt
  have hcur : (if field c.data 0 4 = 0 then some (if octet (c.data.drop 16) 6 = 2 then 3 else s.stageSlot, c.data.drop 16)
      else (s.upd.stage.filter (fun y => y.2.1 == field c.data 4 4 && y.2.2.length == field c.data 0 4)).map (fun y => (y.1, y.2.2 ++ c.data.drop 16))) = some (d, c.data.drop 16) := by
    rw [if_pos hoff, if_neg hkind, hslot]
  rw [doImageStage_piece hbulk hlen htrial hcur hfit hmax]
  dsimp only
  have hopens : field c.data 0 4 = 0 ∧ d < 2 := ⟨hoff, hd⟩
  rw [if_pos (by simp [hmore]), if_pos hopens]
  rfl

/-- The last chunk of a Purel image completes it. -/
theorem doImageStage_last (hbulk : bit c.flags flagBulk = true) (hlen : 16 ≤ c.data.length) (htrial : s.trialSlot = none) (hoff : field c.data 0 4 ≠ 0)
    (hstage : s.upd.stage = some (d, field c.data 4 4, b)) (hb : b.length = field c.data 0 4) (hwhole : (b ++ c.data.drop 16).length = field c.data 4 4)
    (hmax : field c.data 4 4 ≤ 25165824) (hlast : bit (octet c.data 8) 0 = true) :
    doImageStage c s = (⟨((s.inProgress d (field c.data 4 4) (b ++ c.data.drop 16)).stagedWhole d (b ++ c.data.drop 16)).1, []⟩,
      ((s.inProgress d (field c.data 4 4) (b ++ c.data.drop 16)).stagedWhole d (b ++ c.data.drop 16)).2) := by
  have hcur : (if field c.data 0 4 = 0 then some (if octet (c.data.drop 16) 6 = 2 then 3 else s.stageSlot, c.data.drop 16)
      else (s.upd.stage.filter (fun y => y.2.1 == field c.data 4 4 && y.2.2.length == field c.data 0 4)).map (fun y => (y.1, y.2.2 ++ c.data.drop 16))) =
        some (d, b ++ c.data.drop 16) := by
    rw [if_neg hoff, hstage]
    simp [hb]
  rw [doImageStage_piece hbulk hlen htrial hcur hwhole.le hmax]
  dsimp only
  have hopen : ¬ (field c.data 0 4 = 0 ∧ d < 2) := fun h => hoff h.1
  rw [if_neg (by simp [hlast]), if_neg (not_lt.2 hwhole.ge), if_neg hopen]
  rfl

/-- From `s` to `t` slot `d` holds the accepted image `b` (R650, R652). -/
structure State.Stages (s t : State) (d : Nat) (b : Bytes) : Prop where
  state : t.slotState d = 2
  version : t.nat Attr.FirmwareImage.version d = field b 16 4
  security : t.nat Attr.FirmwareImage.securityVersion d = field b 20 2
  masks : t.octets Attr.FirmwareImage.formatMasks d = slice b 28 16
  upd : t.upd = { s.upd with stage := none, images := Assoc.put d b s.upd.images }
  recd : t.recd = s.recd.ordinary ⟨0x0140, objPath 0x0F01 d, [(d : Int), (field b 16 4 : Nat)]⟩
  change : Changes [.obj, .mbx, .upd, .recd] slotAttrs s t

theorem State.stagedWhole_accepted (hd : d < 2) (hok : s.imageOk 1 b = true) : (s.stagedWhole d b).1 = .ok ∧ s.Stages (s.stagedWhole d b).2 d b := by
  let v : State := { s with upd := { s.upd with stage := none, images := Assoc.put d b s.upd.images } }
  have hstaged : s.stagedWhole d b = (.ok, (((((v.setNat Attr.FirmwareImage.state d 2).setNat Attr.FirmwareImage.version d (field b 16 4)).setNat
      Attr.FirmwareImage.securityVersion d (field b 20 2)).setAttr Attr.FirmwareImage.formatMasks d (.bytes (slice b 28 16))).setNat
        Attr.FirmwareImage.settingsGeneration d 0).raise 0x0140 (slotPath d) [d, field b 16 4]) := by
    unfold State.stagedWhole
    dsimp only
    rw [if_neg (by omega), if_pos (show ({ s with upd := { s.upd with stage := none } } : State).imageOk 1 b = true from hok)]
  have hset : ∀ {w : State} {y : Nat × Nat} {k : Nat}, y.2 < 256 → Changes [.obj, .mbx] [y] w (w.setNat y d k) := fun hy => changes_setNat hy
  have hv : Changes [.upd] [] s v := .of_same SameBut.refl.set_upd
  have hvupd : v.upd = { s.upd with stage := none, images := Assoc.put d b s.upd.images } := rfl
  rw [hstaged]
  refine ⟨rfl, ?_⟩
  dsimp only
  generalize v = v at hv hvupd
  have h1 : Changes [.obj, .mbx] [Attr.FirmwareImage.state] v (v.setNat Attr.FirmwareImage.state d 2) := hset (by decide)
  have hstate : (v.setNat Attr.FirmwareImage.state d 2).slotState d = 2 := State.slotState_set
  generalize v.setNat Attr.FirmwareImage.state d 2 = w1 at h1 hstate
  have h2 : Changes [.obj, .mbx] [Attr.FirmwareImage.version] w1 (w1.setNat Attr.FirmwareImage.version d (field b 16 4)) := hset (by decide)
  have hversion : (w1.setNat Attr.FirmwareImage.version d (field b 16 4)).nat Attr.FirmwareImage.version d = field b 16 4 := State.nat_setNat
  generalize w1.setNat Attr.FirmwareImage.version d (field b 16 4) = w2 at h2 hversion
  have h3 : Changes [.obj, .mbx] [Attr.FirmwareImage.securityVersion] w2 (w2.setNat Attr.FirmwareImage.securityVersion d (field b 20 2)) := hset (by decide)
  have hsecurity : (w2.setNat Attr.FirmwareImage.securityVersion d (field b 20 2)).nat Attr.FirmwareImage.securityVersion d = field b 20 2 := State.nat_setNat
  generalize w2.setNat Attr.FirmwareImage.securityVersion d (field b 20 2) = w3 at h3 hsecurity
  have h4 : Changes [.obj, .mbx] [Attr.FirmwareImage.formatMasks] w3 (w3.setAttr Attr.FirmwareImage.formatMasks d (.bytes (slice b 28 16))) := changes_setAttr
  have hmasks : (w3.setAttr Attr.FirmwareImage.formatMasks d (.bytes (slice b 28 16))).octets Attr.FirmwareImage.formatMasks d = slice b 28 16 := State.octets_setAttr
  generalize w3.setAttr Attr.FirmwareImage.formatMasks d (.bytes (slice b 28 16)) = w4 at h4 hmasks
  have h5 : Changes [.obj, .mbx] [Attr.FirmwareImage.settingsGeneration] w4 (w4.setNat Attr.FirmwareImage.settingsGeneration d 0) := hset (by decide)
  generalize w4.setNat Attr.FirmwareImage.settingsGeneration d 0 = w5 at h5
  have h6 : Changes [.recd] [] w5 (w5.raise 0x0140 (slotPath d) [d, field b 16 4]) := changes_raise
  have hrecd : (w5.raise 0x0140 (slotPath d) [d, field b 16 4]).recd = w5.recd.ordinary ⟨0x0140, objPath 0x0F01 d, [(d : Int), (field b 16 4 : Nat)]⟩ := rfl
  generalize w5.raise 0x0140 (slotPath d) [d, field b 16 4] = w6 at h6 hrecd
  have h56 : Changes [.obj, .mbx, .recd] [Attr.FirmwareImage.settingsGeneration] w4 w6 := h5.mono.step h6
  have h46 : Changes [.obj, .mbx, .recd] [Attr.FirmwareImage.formatMasks, Attr.FirmwareImage.settingsGeneration] w3 w6 := h4.mono.step h56
  have h36 : Changes [.obj, .mbx, .recd] slotAttrs.tail.tail w2 w6 := h3.mono.step h46
  have h26 : Changes [.obj, .mbx, .recd] slotAttrs.tail w1 w6 := h2.mono.step h36
  have hall : Changes [.obj, .mbx, .upd, .recd] slotAttrs s w6 := (hv.mono.step h1).step h26
  have hkept : Changes [.obj, .mbx] slotAttrs v w5 := (((h1.mono.step h2).step h3).step h4).step h5
  exact ⟨(h26.nat _ d).trans hstate, (h36.nat _ d).trans hversion, (h46.nat _ d).trans hsecurity,
    (by simp only [State.octets, h56.attr Attr.FirmwareImage.formatMasks d] : w6.octets Attr.FirmwareImage.formatMasks d = w4.octets Attr.FirmwareImage.formatMasks d).trans hmasks,
    h6.upd.trans (hkept.upd.trans hvupd), hrecd.trans (congrArg (fun r : Recorder => r.ordinary _) (hkept.recd.trans hv.recd)), hall⟩

/-- An image that R650 refuses leaves its slot FAILED. -/
theorem State.stagedWhole_refused (hd : d < 2) (hbad : s.imageOk 1 b = false) :
    s.stagedWhole d b = (.badValue, ({ s with upd := { s.upd with stage := none } } : State).setNat Attr.FirmwareImage.state d 6) := by
  have hno : ¬ ({ s with upd := { s.upd with stage := none } } : State).imageOk 1 b = true := fun h => Bool.false_ne_true (hbad.symm.trans h)
  unfold State.stagedWhole
  dsimp only
  rw [if_neg (by omega), if_neg hno]

/-! ### Activation, confirmation -/

theorem doImageActivate_new (hmode : octet c.payload 0 = 0) (hservice : s.sys.mode = .service) (htrial : s.trialSlot = none) (hpeer : s.peerTrial = false)
    (hhand : s.upd.handing = none) (hstaged : s.stagedSlot = some d) (hw : field c.payload 4 4 ≠ 0) :
    doImageActivate c s = if !s.versionsFit (s.image d) then (⟨.versionMismatch, []⟩, s)
      else if (s.requestCmd c 5 0).1 = .admitted then
        (⟨.accepted, []⟩, { (s.requestCmd c 5 0).2 with upd := { (s.requestCmd c 5 0).2.upd with handing := some (.activate d (field c.payload 4 4) c.arrival) } })
      else (⟨decisionStatus (s.requestCmd c 5 0).1 .accepted, []⟩, (s.requestCmd c 5 0).2) := by
  unfold doImageActivate
  dsimp only
  rw [if_pos hmode, if_neg (by simp [hservice, htrial, hpeer, hhand]), hstaged, if_neg hw]

theorem doImageActivate_back (hmode : octet c.payload 0 = 1) (hhand : s.upd.handing = none) :
    doImageActivate c s = if s.trialSlot.isSome = true then (⟨.accepted, []⟩, { s with upd := { s.upd with handing := some (.fallback 3 (some c.arrival)) } })
      else (⟨.refused, []⟩, s) := by
  unfold doImageActivate
  dsimp only
  rw [if_neg (by omega), if_pos hmode]
  simp [hhand]

/-- The slot of a confirmed image, and the PREVIOUS one beside it (R660). -/
def State.confirmed (s : State) (d f : Nat) : State :=
  let s := if s.slotState (1 - d) = 4 then s.setNat Attr.FirmwareImage.state (1 - d) 5 else s
  (s.setNat Attr.FirmwareImage.state d 4).setNat Attr.UpdateService.securityFloor 0 f

theorem State.confirmed_effect {f : Nat} (hd : d ≤ 1) : (s.confirmed d f).slotState d = 4 ∧ (s.slotState (1 - d) = 4 → (s.confirmed d f).slotState (1 - d) = 5) ∧
    (s.confirmed d f).nat Attr.UpdateService.securityFloor 0 = f ∧ Changes [.obj, .mbx] [Attr.FirmwareImage.state, Attr.UpdateService.securityFloor] s (s.confirmed d f) := by
  let v : State := if s.slotState (1 - d) = 4 then s.setNat Attr.FirmwareImage.state (1 - d) 5 else s
  have hv : Changes [.obj, .mbx] [Attr.FirmwareImage.state] s v := .ite changes_setNat .refl
  have hprev : s.slotState (1 - d) = 4 → v.slotState (1 - d) = 5 := fun h => (congrArg (fun x : State => x.slotState (1 - d)) (if_pos h) : v.slotState (1 - d) = _).trans State.slotState_set
  have hconf : s.confirmed d f = (v.setNat Attr.FirmwareImage.state d 4).setNat Attr.UpdateService.securityFloor 0 f := rfl
  rw [hconf]
  generalize v = v at hv hprev
  have hset : Changes [.obj, .mbx] [Attr.FirmwareImage.state] v (v.setNat Attr.FirmwareImage.state d 4) := changes_setNat
  have hown : (v.setNat Attr.FirmwareImage.state d 4).slotState d = 4 := State.slotState_set
  have hother : (v.setNat Attr.FirmwareImage.state d 4).slotState (1 - d) = v.slotState (1 - d) := State.nat_setNat_ne (mkPath_ne_of_inst (by omega))
  generalize v.setNat Attr.FirmwareImage.state d 4 = w at hset hown hother
  have hfloor : Changes [.obj, .mbx] [Attr.UpdateService.securityFloor] w (w.setNat Attr.UpdateService.securityFloor 0 f) := changes_setNat
  exact ⟨(hfloor.nat Attr.FirmwareImage.state d).trans hown, fun h => (hfloor.nat Attr.FirmwareImage.state (1 - d)).trans (hother.trans (hprev h)), State.nat_setNat,
    (hv.mono.step hset).step hfloor⟩

theorem doImageConfirm_trial {f : Nat} (hp : octet c.payload 0 = d) (hd : d ≤ 1) (htrial : s.slotState d = 3) (hgen : s.genState (s.nat Attr.FirmwareImage.settingsGeneration d) = 2)
    (hfloor : max (s.nat Attr.UpdateService.securityFloor 0) (s.nat Attr.FirmwareImage.securityVersion d) = f) :
    doImageConfirm true c s = (⟨.ok, []⟩, State.advertiseAll (({ s.confirmed d f with upd := { s.upd with trialEnd := none } } : State).raise 0x0142 (slotPath d)
      [d, s.nat Attr.FirmwareImage.version d, f])) := by
  unfold doImageConfirm
  rw [hp]
  dsimp only
  rw [if_neg (by simp [htrial, hgen]; omega)]
  unfold State.confirmed
  dsimp only
  have hkept : Changes [.obj, .mbx] [Attr.FirmwareImage.state] s
      ((if s.slotState (1 - d) = 4 then s.setNat Attr.FirmwareImage.state (1 - d) 5 else s).setNat Attr.FirmwareImage.state d 4) :=
    Changes.trans (.ite changes_setNat .refl) changes_setNat
  generalize (if s.slotState (1 - d) = 4 then s.setNat Attr.FirmwareImage.state (1 - d) 5 else s).setNat Attr.FirmwareImage.state d 4 = w at hkept
  rw [hkept.nat Attr.UpdateService.securityFloor 0, hkept.nat Attr.FirmwareImage.securityVersion d, hfloor]
  have hset : Changes [.obj, .mbx] [Attr.UpdateService.securityFloor] w (w.setNat Attr.UpdateService.securityFloor 0 f) := changes_setNat
  generalize w.setNat Attr.UpdateService.securityFloor 0 f = x at hset
  have hversion : ({ x with upd := { x.upd with trialEnd := none } } : State).nat Attr.FirmwareImage.version d = s.nat Attr.FirmwareImage.version d :=
    (hset.nat Attr.FirmwareImage.version d).trans (hkept.nat _ d)
  rw [hversion, hset.upd, hkept.upd]

theorem doImageConfirm_refused {ok : Bool} (h : s.slotState (octet c.payload 0) ≠ 3) : doImageConfirm ok c s = (⟨.refused, []⟩, s) := by
  unfold doImageConfirm
  dsimp only
  exact if_pos (.inr (.inl h))

/-- A fallback begins while a trial runs and no handover does. -/
theorem State.beginFallback_trial {r : Nat} (htrial : s.trialSlot.isSome = true) (hhand : s.upd.handing = none) :
    s.beginFallback r = { s with upd := { s.upd with handing := some (.fallback r none) } } := if_pos ⟨htrial, by simp [hhand]⟩

/-! ### The handover's rows -/

theorem execHandover_verified {w us : Nat} {r : Bool} (hst : s.sys.stalemate = false) (hhand : s.upd.handing = some (.activate d w a)) :
    execHandover true r us s = if s.imageOk 1 (s.image d) then .next { s with sys := { s.sys with handover := true } }
      else .next (({ s.setNat Attr.FirmwareImage.state d 6 with upd := { s.upd with handing := none } } : State).completeCmd a .badValue []).endUpdate := by
  unfold execHandover
  dsimp only
  rw [if_neg (by simp [hst]), hhand]
  rfl

theorem execHandover_activated {w us : Nat} (hst : s.sys.stalemate = false) (hhand : s.upd.handing = some (.activate d w a)) (hover : s.sys.handover = true) :
    execHandover false true us s = .next (((s.startTrial d w us).handoverOver).completeCmd a .ok []).endUpdate := by
  unfold execHandover
  rw [if_neg (by simp [hst]), hhand]
  dsimp only
  rw [if_neg Bool.false_ne_true, if_neg (by simp [hover])]
  rfl

theorem execHandover_fellBack {r us : Nat} (hst : s.sys.stalemate = false) (hhand : s.upd.handing = some (.fallback r none)) (htrial : s.trialSlot = some n)
    (hover : s.sys.handover = true) : execHandover false true us s = .next (s.fallBack n r).handoverOver := by
  unfold execHandover
  rw [if_neg (by simp [hst]), hhand]
  dsimp only
  rw [if_neg Bool.false_ne_true, if_neg (by simp [hover]), htrial]

/-- An image that the loader finds bad is FAILED, its activation ends, and so does its activity (R654 step 2). -/
theorem State.badImage_effect (hadm : s.fcr.admitted = []) (hdef : s.fcr.deferred = []) (hwait : s.fcr.waiting = []) :
    ∃ t, (({ s.setNat Attr.FirmwareImage.state d 6 with upd := { s.upd with handing := none } } : State).completeCmd a .badValue []).endUpdate = t ∧ t.slotState d = 6 ∧
      t.upd = { s.upd with handing := none } ∧ t.mbx.awaiting = s.mbx.awaiting.filter (fun y => y.arrival != a) ∧ SameBut [.obj, .mbx, .upd] s t := by
  have hset : SameBut [.obj, .mbx] s (s.setNat Attr.FirmwareImage.state d 6) := sameBut_setNat.mono (by decide)
  have hstate : (s.setNat Attr.FirmwareImage.state d 6).slotState d = 6 := State.slotState_set
  have hawait : (s.setNat Attr.FirmwareImage.state d 6).mbx.awaiting = s.mbx.awaiting := State.setAttr_awaiting
  generalize s.setNat Attr.FirmwareImage.state d 6 = v at hset hstate hawait
  have hw : SameBut [.obj, .mbx, .upd] s { v with upd := { s.upd with handing := none } } := (hset.mono (by decide)).set_upd
  have hwstate : ({ v with upd := { s.upd with handing := none } } : State).slotState d = 6 := hstate
  have hwawait : ({ v with upd := { s.upd with handing := none } } : State).mbx.awaiting = s.mbx.awaiting := hawait
  have hwupd : ({ v with upd := { s.upd with handing := none } } : State).upd = { s.upd with handing := none } := rfl
  generalize ({ v with upd := { s.upd with handing := none } } : State) = w at hw hwstate hwawait hwupd
  obtain ⟨hfilter, hend⟩ := State.completeCmd_awaiting (s := w) (a := a) (st := .badValue) (data := [])
  generalize w.completeCmd a .badValue [] = x at hfilter hend
  have hsx : SameBut [.obj, .mbx, .upd] s x := hw.step hend.same
  have hfcr : x.fcr = s.fcr := hsx.area .fcr
  exact ⟨x, State.endUpdate_none (hfcr ▸ hadm) (hfcr ▸ hdef) (hfcr ▸ hwait), (State.nat_congr hend.obj _ _).trans hwstate, hend.upd.trans hwupd,
    hfilter.trans (by rw [hwawait]), hsx⟩

/-- A trial that starts and is answered: the areas of its end (R654 step 6). -/
theorem State.activated_effect {w us : Nat} (hd : d < 2) (hold : s.slotState d = 2) (hfree : s.freeGeneration ≤ 3) (hremote : s.mbx.remoteHeld = [])
    (hpairs : ∀ k < 64, (s.pair k).held = none) (hadm : s.fcr.admitted = []) (hdef : s.fcr.deferred = []) (hwait : s.fcr.waiting = []) :
    ∃ t, (((s.startTrial d w us).handoverOver).completeCmd a .ok []).endUpdate = t ∧
      t.sys = { s.sys with slot := d, settingsGen := s.freeGeneration, handover := false } ∧ t.slotState d = 3 ∧ t.upd.trialEnd = some (s.tim.d3 + sec w) ∧ t.upd.handing = none ∧
        t.nat Attr.FirmwareImage.settingsGeneration d = s.freeGeneration ∧ t.genState s.freeGeneration = 2 ∧ SameBut [.sys, .obj, .mbx, .upd, .fcr, .recd, .twn] s t := by
  have htr := State.startTrial_effect (w := w) (outage := us) hd hold rfl hfree
  have hmbx := State.held_unnotified htr.unnotified hremote hpairs
  generalize s.startTrial d w us = v at htr hmbx
  obtain ⟨hover, hhand, hchange⟩ := State.handoverOver_effect hmbx.1 hmbx.2
  generalize v.handoverOver = x at hover hhand hchange
  have hend : Changes [.mbx] [] x (x.completeCmd a .ok []) := State.completeCmd_awaiting.2
  generalize x.completeCmd a .ok [] = y at hend
  have hsy : Changes [.sys, .obj, .mbx, .upd, .recd, .twn] (Attr.FirmwareImage.state :: genAttrs) s y := (htr.change.mono.step hchange).step hend
  have hvy : Changes [.sys, .mbx, .upd, .twn] [] v y := hchange.mono.step hend
  have hfcr : y.fcr = s.fcr := hsy.fcr
  have hupd : y.upd = { v.upd with handing := none } := hend.upd.trans hhand
  refine ⟨y, State.endUpdate_none (hfcr ▸ hadm) (hfcr ▸ hdef) (hfcr ▸ hwait), hend.sys.trans (hover.trans ?_), (hvy.nat Attr.FirmwareImage.state d).trans htr.state,
    (congrArg Update.trialEnd hupd).trans htr.window, congrArg Update.handing hupd, (hvy.nat Attr.FirmwareImage.settingsGeneration d).trans htr.bound,
    (hvy.nat Attr.SettingsGeneration.state _).trans htr.valid, hsy.same.mono (by decide)⟩
  rw [htr.sys]

theorem State.fellBack_effect {r : Nat} (htrial : s.trialSlot = some n) (hremote : s.mbx.remoteHeld = []) (hpairs : ∀ k < 64, (s.pair k).held = none) :
    ∃ t, (s.fallBack n r).handoverOver = t ∧ t.sys.slot = 1 - n ∧ t.sys.handover = false ∧ t.upd.handing = none ∧ t.upd.trialEnd = none ∧
        t.recd = s.recd.ordinary ⟨0x0143, objPath 0x0F01 n, [(n : Int), (r : Int)]⟩ ∧ SameBut [.sys, .obj, .mbx, .upd, .recd, .twn] s t := by
  obtain ⟨hn, hstate⟩ := State.trialSlot_spec htrial
  obtain ⟨⟨k, hsys⟩, htrialEnd, hrecd, hmbx, hsame⟩ := State.fallBack_effect (r := r) hstate
  have hheld := State.held_unnotified hmbx hremote hpairs
  generalize s.fallBack n r = v at hsys htrialEnd hrecd hmbx hsame hheld
  obtain ⟨hover, hhand, hchange⟩ := State.handoverOver_effect hheld.1 hheld.2
  generalize v.handoverOver = x at hover hhand hchange
  exact ⟨x, rfl, by rw [hover, hsys], by rw [hover], by rw [hhand], by rw [hhand]; exact htrialEnd, hchange.recd.trans hrecd, (hsame.mono (by decide)).step hchange.same⟩

/-- Settles O44: staging by its chunk's equation, the handover by the effects of its trial and its fallback, the confirmation by that of its slots. -/
theorem ownUpdates : Obligations.OwnUpdates := by
  refine ⟨?_, ?_, ?_, ?_, ?_, ?_, ?_, ?_, ?_, ?_, ?_, ?_⟩
  · intro s c n d hs ho hbulk hlen htrial hoff hkind hslot hfit hmax hmore
    have hd : d < 2 := hslot ▸ State.stageSlot_lt
    have hbody := doImageStage_first (s := s.pop) hbulk hlen htrial hoff hkind hslot hfit hmax hmore
    have hstage : Changes [.upd] [] s.pop (s.pop.inProgress d (field c.data 4 4) (c.data.drop 16)) := .of_same SameBut.refl.set_upd
    have hupd : (s.pop.inProgress d (field c.data 4 4) (c.data.drop 16)).upd = { s.upd with stage := some (d, field c.data 4 4, c.data.drop 16) } := rfl
    generalize s.pop.inProgress d (field c.data 4 4) (c.data.drop 16) = v at hbody hstage hupd
    have hset : Changes [.obj, .mbx] [Attr.FirmwareImage.state] v (v.setNat Attr.FirmwareImage.state d 1) := changes_setNat
    have hstate : (v.setNat Attr.FirmwareImage.state d 1).slotState d = 1 := State.slotState_set
    generalize v.setNat Attr.FirmwareImage.state d 1 = u at hbody hset hstate
    have hchange : Changes [.mbx, .upd, .obj] [Attr.FirmwareImage.state] s.pop u := hstage.mono.step hset
    obtain ⟨t, hrun, rfl, hans⟩ := hs.completes ho hbody (hchange.poised s ⟨rfl, rfl, rfl⟩) (Nat.zero_le _)
    exact ⟨_, hrun, hans, State.finish_upd.trans (hset.upd.trans hupd), (State.nat_congr State.finish_obj _ _).trans hstate, hchange.finished⟩
  · intro s c n d b hs ho hbulk hlen htrial hoff hd hstage hb hwhole hmax hlast
    have hbody := doImageStage_last (s := s.pop) hbulk hlen htrial hoff hstage hb hwhole hmax hlast
    have hprog : Changes [.upd] [] s.pop (s.pop.inProgress d (field c.data 4 4) (b ++ c.data.drop 16)) := .of_same SameBut.refl.set_upd
    have hupd : (s.pop.inProgress d (field c.data 4 4) (b ++ c.data.drop 16)).upd = { s.upd with stage := some (d, field c.data 4 4, b ++ c.data.drop 16) } := rfl
    have hok : (s.pop.inProgress d (field c.data 4 4) (b ++ c.data.drop 16)).imageOk 1 (b ++ c.data.drop 16) = s.imageOk 1 (b ++ c.data.drop 16) := rfl
    generalize s.pop.inProgress d (field c.data 4 4) (b ++ c.data.drop 16) = v at hbody hprog hupd hok
    dsimp only
    split
    · next haccept =>
      obtain ⟨hst, htr⟩ := State.stagedWhole_accepted hd (hok.trans haccept)
      rw [hst] at hbody
      generalize (v.stagedWhole d (b ++ c.data.drop 16)).2 = u at hbody htr
      have hchange : Changes [.mbx, .upd, .obj, .recd] slotAttrs s.pop u := hprog.mono.step htr.change
      obtain ⟨t, hrun, rfl, hans⟩ := hs.completes ho hbody (hchange.poised s ⟨rfl, rfl, rfl⟩) (Nat.zero_le _)
      have hobj : (u.finish c ⟨.ok, []⟩).obj = u.obj := State.finish_obj
      exact ⟨_, hrun, hans, (State.nat_congr hobj _ _).trans htr.state, (State.nat_congr hobj _ _).trans htr.version, (State.nat_congr hobj _ _).trans htr.security,
        (State.octets_congr hobj _ _).trans htr.masks, State.finish_upd.trans (htr.upd.trans (by rw [hupd])),
        State.finish_recd.trans (htr.recd.trans (congrArg (fun r : Recorder => r.ordinary _) hprog.recd)), hchange.finished⟩
    · next hrefuse =>
      rw [State.stagedWhole_refused hd (hok.trans (by simpa using hrefuse))] at hbody
      have hcut : Changes [.upd] [] v { v with upd := { v.upd with stage := none } } := .of_same SameBut.refl.set_upd
      have hnone : ({ v with upd := { v.upd with stage := none } } : State).upd = { s.upd with stage := none } := by
        dsimp only
        rw [hupd]
      generalize ({ v with upd := { v.upd with stage := none } } : State) = w at hbody hcut hnone
      have hset : Changes [.obj, .mbx] [Attr.FirmwareImage.state] w (w.setNat Attr.FirmwareImage.state d 6) := changes_setNat
      have hstate : (w.setNat Attr.FirmwareImage.state d 6).slotState d = 6 := State.slotState_set
      generalize w.setNat Attr.FirmwareImage.state d 6 = u at hbody hset hstate
      have hchange : Changes [.mbx, .upd, .obj] [Attr.FirmwareImage.state] s.pop u := (hprog.mono.step hcut).step hset
      obtain ⟨t, hrun, rfl, hans⟩ := hs.completes ho hbody (hchange.poised s ⟨rfl, rfl, rfl⟩) (Nat.zero_le _)
      exact ⟨_, hrun, hans, (State.nat_congr State.finish_obj _ _).trans hstate, State.finish_upd.trans (hset.upd.trans hnone), hchange.finished⟩
  · intro s c n hs ho hbulk hlen htrial
    have hbody : doImageStage c s.pop = (⟨.refused, []⟩, s.pop) := (if_neg (by simp [hbulk]; omega)).trans (if_pos htrial)
    exact State.Serves.completes_unchanged (b := doImageStage) hs ho hbody (Nat.zero_le _)
  · intro s c n d hs ho hmode hservice htrial hpeer hhand hstaged hw hadm hdef
    have hbody := doImageActivate_new (c := c) (s := s.pop) hmode hservice htrial hpeer hhand hstaged hw
    have hpop : s.pop.versionsFit (s.pop.image d) = s.versionsFit (s.image d) := rfl
    rw [hpop] at hbody
    split
    · next hfit =>
      let a : Activity := { kind := 5, arrival := c.arrival, internal := false, unit := 0, session := c.session, path := c.path, arg := c.payload.take 16 }
      have hreq : s.pop.requestCmd c 5 0 = (.admitted, s.pop.admitActivity a) := State.arbitrate_free hadm hdef
      rw [if_neg (by simpa using hfit), hreq, if_pos rfl] at hbody
      dsimp only at hbody
      have hadmit : SameBut [.mbx, .fcr, .recd] s (s.pop.admitActivity a) := (sameBut_pop.mono (by decide)).step sameBut_admitActivity
      have hfcr : (s.pop.admitActivity a).fcr.admitted = [a] := congrArg (· ++ [a]) hadm
      have hupd : (s.pop.admitActivity a).upd = s.upd := rfl
      have hmbx : (s.pop.admitActivity a).mbx = s.pop.mbx := State.admitActivity_mbx
      generalize s.pop.admitActivity a = v at hbody hadmit hfcr hupd hmbx
      have hset : SameBut [.mbx, .upd, .fcr, .recd] s { v with upd := { v.upd with handing := some (.activate d (field c.payload 4 4) c.arrival) } } := (hadmit.mono (by decide)).set_upd
      obtain ⟨t, hrun, rfl, hans⟩ := hs.completes ho hbody (Poised.of_mbx (u := s.pop) ⟨rfl, rfl, rfl⟩ hmbx) (Nat.zero_le _)
      exact ⟨_, hrun, hans, State.finish_upd.trans (by rw [← hupd]), ⟨a, (congrArg FaultState.admitted State.finish_fcr).trans hfcr, rfl, rfl⟩,
        hset.trans (sameBut_finish.mono (by decide))⟩
    · next hfit =>
      rw [if_pos (by simpa using hfit)] at hbody
      exact State.Serves.completes_unchanged (b := doImageActivate) hs ho hbody (Nat.zero_le _)
  · intro s c n hs ho hmode hhand
    have hbody : doImageActivate c s.pop = if s.trialSlot.isSome = true then (⟨.accepted, []⟩, { s.pop with upd := { s.upd with handing := some (.fallback 3 (some c.arrival)) } })
      else (⟨.refused, []⟩, s.pop) := doImageActivate_back (s := s.pop) hmode hhand
    split
    · next htrial =>
      rw [if_pos htrial] at hbody
      have hset : Changes [.mbx, .upd] [] s.pop { s.pop with upd := { s.upd with handing := some (.fallback 3 (some c.arrival)) } } :=
        .mono (.of_same SameBut.refl.set_upd : Changes [.upd] [] _ _)
      obtain ⟨t, hrun, rfl, hans⟩ := hs.completes ho hbody (hset.poised s ⟨rfl, rfl, rfl⟩) (Nat.zero_le _)
      exact ⟨_, hrun, hans, State.finish_upd, hset.finished⟩
    · next htrial =>
      rw [if_neg htrial] at hbody
      exact State.Serves.completes_unchanged (b := doImageActivate) hs ho hbody (Nat.zero_le _)
  · intro s d w a us r hst hhand hd hadm hdef hwait
    have hexec : exec (.handover true r us) s = _ := execHandover_verified hst hhand
    split
    · next hok => exact ⟨_, hexec.trans (if_pos hok), rfl, SameBut.refl.set_sys⟩
    · next hbad =>
      obtain ⟨t, ht, hfacts⟩ := State.badImage_effect (d := d) (a := a) hadm hdef hwait
      exact ⟨t, hexec.trans ((if_neg hbad).trans (congrArg Host.Outcome.next ht)), hfacts⟩
  · intro s d w a us hst hhand hd hold hover hadm hdef hwait hremote hpairs _ hfree
    obtain ⟨t, ht, hfacts⟩ := State.activated_effect (w := w) (us := us) (a := a) hd hold hfree hremote hpairs hadm hdef hwait
    exact ⟨t, (execHandover_activated hst hhand hover).trans (congrArg Host.Outcome.next ht), hfacts⟩
  · intro s r us x hst hhand htrial hover hremote hpairs
    obtain ⟨t, ht, hfacts⟩ := State.fellBack_effect (r := r) htrial hremote hpairs
    exact ⟨t, (execHandover_fellBack hst hhand htrial hover).trans (congrArg Host.Outcome.next ht), hfacts⟩
  · exact fun s htrial hhand => ⟨_, congrArg Host.Outcome.next (State.beginFallback_trial htrial hhand), rfl, SameBut.refl.set_upd⟩
  · exact fun s htrial hhand => ⟨_, congrArg Host.Outcome.next (State.beginFallback_trial htrial hhand), rfl, SameBut.refl.set_upd⟩
  · intro s c n d f hs ho hp hd htrial hgen hfloor
    have hbody := doImageConfirm_trial (s := s.pop) hp hd htrial hgen hfloor
    obtain ⟨hstate, hprev, hsec, hchange⟩ := State.confirmed_effect (s := s.pop) (f := f) hd
    generalize s.pop.confirmed d f = v at hbody hstate hprev hsec hchange
    have hend : Changes [.upd, .recd] [] v (({ v with upd := { s.upd with trialEnd := none } } : State).raise 0x0142 (slotPath d) [d, s.nat Attr.FirmwareImage.version d, f]) :=
      .of_same (SameBut.refl.set_upd.step sameBut_raise)
    have hupd : (({ v with upd := { s.upd with trialEnd := none } } : State).raise 0x0142 (slotPath d) [d, s.nat Attr.FirmwareImage.version d, f]).upd =
      { s.upd with trialEnd := none } := rfl
    have hrecd : (({ v with upd := { s.upd with trialEnd := none } } : State).raise 0x0142 (slotPath d) [d, s.nat Attr.FirmwareImage.version d, f]).recd =
      v.recd.ordinary ⟨0x0142, objPath 0x0F01 d, [(d : Int), (s.nat Attr.FirmwareImage.version d : Nat), (f : Int)]⟩ := rfl
    have hbody' : doImageConfirm true c s.pop = (⟨.ok, []⟩, (({ v with upd := { s.upd with trialEnd := none } } : State).raise 0x0142 (slotPath d)
      [d, s.nat Attr.FirmwareImage.version d, f]).advertiseAll) := hbody
    generalize ({ v with upd := { s.upd with trialEnd := none } } : State).raise 0x0142 (slotPath d) [d, s.nat Attr.FirmwareImage.version d, f] = w at hbody' hend hupd hrecd
    have hlinked : Linked w w.advertiseAll := linked_advertiseAll
    generalize w.advertiseAll = u at hbody' hlinked
    have hobj : u.obj = w.obj := hlinked.obj
    have hall : Changes [.mbx, .obj, .upd, .recd, .twn] [Attr.FirmwareImage.state, Attr.UpdateService.securityFloor] s.pop u := (hchange.mono.step hend).step hlinked.changes
    have hrecd' : u.recd = w.recd := hlinked.same.area .recd
    have hupd' : u.upd = w.upd := hlinked.same.area .upd
    obtain ⟨t, hrun, rfl, hans⟩ := hs.completes ho hbody' (hall.poised s ⟨rfl, rfl, rfl⟩) (Nat.zero_le _)
    have hkept : (u.finish c ⟨.ok, []⟩).obj = v.obj := State.finish_obj.trans (hobj.trans hend.obj)
    exact ⟨_, hrun, hans, (State.nat_congr hkept _ _).trans hstate, fun h => (State.nat_congr hkept _ _).trans (hprev h), (State.nat_congr hkept _ _).trans hsec,
      State.finish_upd.trans (hupd'.trans hupd), State.finish_recd.trans (hrecd'.trans (hrecd.trans (congrArg (fun r : Recorder => r.ordinary _) hchange.recd))), hall.finished⟩
  · intro s c n ok hs ho hstate
    exact State.Serves.completes_unchanged (b := doImageConfirm ok) hs ho (doImageConfirm_refused (s := s.pop) hstate) (Nat.zero_le _)

end Sys2Proof.Machine
end

section
/-! Endpoint campaigns (R460, R664–R666). -/

namespace Sys2Proof.Machine

variable {s t u v : State} {c : Cmd} {k h j n st : Nat} {x y : Target}

/-! ### Campaigns and their targets -/

theorem State.camp_setCamp {z : Campaign} : (s.setCamp k z).camp k = z := congrArg (fun o : Option Campaign => o.getD {}) Assoc.find_put_same

theorem State.camp_congr (e : t.upd = s.upd) : t.camp k = s.camp k := by simp only [State.camp, e]

theorem changes_setCamp {z : Campaign} : Changes [.upd] [] s (s.setCamp k z) := .of_same SameBut.refl.set_upd

theorem State.twinned_congr {areas : List Area} {ys : List (Nat × Nat)} (hc : Changes areas ys s t) (hs : autoParam (Attr.ServicePosture.posture ∉ ys) Nat.toPNat._auto_1) : t.twinned = s.twinned := by
  simp only [State.twinned, hc.nat Attr.ServicePosture.posture 0 ⟨hs, by decide⟩]

theorem State.targetInst_lt (hk : k < 8) (hh : h ≤ maxHandle) : targetInst k h < 2 ^ 40 := by
  unfold targetInst
  unfold maxHandle at hh
  omega

theorem State.targetState_congr {areas : List Area} {ys : List (Nat × Nat)} (hc : Changes areas ys s t) (hk : k < 8) (hh : h ≤ maxHandle)
    (hs : autoParam (Attr.CampaignTarget.state ∉ ys) Nat.toPNat._auto_1) : t.targetState k h = s.targetState k h :=
  hc.nat Attr.CampaignTarget.state _ ⟨hs, by decide⟩ (State.targetInst_lt hk hh)

theorem State.campRuns_congr {areas : List Area} {ys : List (Nat × Nat)} (hc : Changes areas ys s t) (hk : k < 8)
    (hs : autoParam (Attr.EndpointCampaign.state ∉ ys) Nat.toPNat._auto_1) : t.campRuns k = s.campRuns k := by
  simp only [State.campRuns, hc.nat Attr.EndpointCampaign.state k ⟨hs, by decide⟩]

theorem State.requestCell_congr {areas : List Area} {ys : List (Nat × Nat)} (hc : Changes areas ys s t) (hh : h ≤ maxHandle)
    (hs : autoParam (Attr.EndpointLocator.port ∉ ys ∧ Attr.EndpointLocator.cell ∉ ys ∧ Attr.EndpointLocator.short ∉ ys) Nat.toPNat._auto_1) : t.requestCell h = s.requestCell h := by
  obtain ⟨hport, hcell, hshort⟩ := hs
  have hlt : h < 2 ^ 40 := hh.trans_lt (by decide)
  simp only [State.requestCell, State.primary, hc.nat Attr.EndpointLocator.port h ⟨hport, by decide⟩ hlt, hc.nat Attr.EndpointLocator.cell h ⟨hcell, by decide⟩ hlt,
    hc.nat Attr.EndpointLocator.short h ⟨hshort, by decide⟩ hlt]

/-- The attributes of a target. -/
abbrev targetAttrs : List (Nat × Nat) := [Attr.CampaignTarget.state, Attr.CampaignTarget.blocksHeld]

/-- From `s` to `t` target `h` of campaign `k` stands in state `st` and is kept as `x` (R666). -/
structure State.Retargets (s t : State) (k h st : Nat) (x : Target) : Prop where
  state : t.targetState k h = st
  blocks : t.nat Attr.CampaignTarget.blocksHeld (targetInst k h) = x.held.length
  camp : t.camp k = { s.camp k with targets := Assoc.put h x (s.camp k).targets }
  others : ∀ j, j ≠ h → j ≤ maxHandle → t.targetState k j = s.targetState k j
  live : t.obj.live = s.obj.live
  change : Changes [.obj, .mbx, .upd] targetAttrs s t

/-- Out of a pair a target is written without a word to the partner. -/
theorem State.setTarget_effect (hk : k < 8) (hh : h ≤ maxHandle) (htwin : s.twinned = false) : s.Retargets (s.setTarget k h st x) k h st x := by
  have hlt := State.targetInst_lt hk hh
  let w : State := s.setCamp k { s.camp k with targets := Assoc.put h x (s.camp k).targets }
  have hset : s.setTarget k h st x = (((w.setNat Attr.CampaignTarget.state (targetInst k h) st).setNat Attr.CampaignTarget.blocksHeld (targetInst k h) x.held.length).postSetting
    (mkPath 0x0F21 (targetInst k h) 1)).postSetting (mkPath 0x0F21 (targetInst k h) 2) := rfl
  have hw : Changes [.upd] [] s w := changes_setCamp
  have hcamp : w.camp k = { s.camp k with targets := Assoc.put h x (s.camp k).targets } := State.camp_setCamp
  rw [hset]
  generalize w = w at hw hcamp
  have hst : Changes [.obj, .mbx] [Attr.CampaignTarget.state] w (w.setNat Attr.CampaignTarget.state (targetInst k h) st) := changes_setNat (by decide) hlt
  have hstate : (w.setNat Attr.CampaignTarget.state (targetInst k h) st).targetState k h = st := State.nat_setNat
  have hothers : ∀ j, j ≠ h → (w.setNat Attr.CampaignTarget.state (targetInst k h) st).targetState k j = w.targetState k j := by
    intro j hj
    refine State.nat_setNat_ne (mkPath_ne_of_inst ?_)
    unfold targetInst
    omega
  have hliveA : (w.setNat Attr.CampaignTarget.state (targetInst k h) st).obj.live = s.obj.live := State.setAttr_live.trans (congrArg Obj.live hw.obj)
  generalize w.setNat Attr.CampaignTarget.state (targetInst k h) st = a at hst hstate hothers hliveA
  have hbl : Changes [.obj, .mbx] [Attr.CampaignTarget.blocksHeld] a (a.setNat Attr.CampaignTarget.blocksHeld (targetInst k h) x.held.length) := changes_setNat (by decide) hlt
  have hblocks : (a.setNat Attr.CampaignTarget.blocksHeld (targetInst k h) x.held.length).nat Attr.CampaignTarget.blocksHeld (targetInst k h) = x.held.length := State.nat_setNat
  have hliveB : (a.setNat Attr.CampaignTarget.blocksHeld (targetInst k h) x.held.length).obj.live = s.obj.live := State.setAttr_live.trans hliveA
  generalize a.setNat Attr.CampaignTarget.blocksHeld (targetInst k h) x.held.length = b at hbl hblocks hliveB
  have hall : Changes [.obj, .mbx, .upd] targetAttrs s b := (hw.mono.step hst).step hbl
  have hpost : ∀ p, b.postSetting p = b := fun p => if_neg (by rw [State.twinned_congr hall, htwin]; exact Bool.false_ne_true)
  rw [hpost, hpost]
  exact ⟨(State.targetState_congr hbl hk hh).trans hstate, hblocks, (State.camp_congr (hbl.upd.trans hst.upd)).trans hcamp,
    fun j hj hjm => (State.targetState_congr hbl hk hjm).trans ((hothers j hj).trans (State.targetState_congr hw hk hjm)), hliveB, hall⟩

theorem State.Retargets.target (e : s.Retargets t k h st x) : t.target k h = some x := by
  unfold State.target
  rw [e.camp]
  exact Assoc.find_put_same

/-- An entry of another key stays in a list that another entry is put in. -/
theorem Assoc.mem_put_ne {α : Type} {e : Nat × α} {a : α} {l : List (Nat × α)} (hm : e ∈ l) (hne : e.1 ≠ h) : e ∈ Assoc.put h a l := by
  induction l with
  | nil => exact absurd hm List.not_mem_nil
  | cons z l ih =>
    unfold Assoc.put
    split
    · exact List.mem_cons_of_mem _ hm
    split
    · next hz => exact List.mem_cons_of_mem _ ((List.mem_cons.1 hm).resolve_left fun he => hne (he ▸ hz.symm))
    · rcases List.mem_cons.1 hm with rfl | hm
      · exact List.mem_cons_self
      · exact List.mem_cons_of_mem _ (ih hm)

/-- A campaign with a target that waits goes on (R666). -/
theorem State.campaignCheck_goesOn (hm : (j, y) ∈ (s.camp k).targets) (hj : s.targetState k j < 5) : s.campaignCheck k = s := by
  unfold State.campaignCheck
  dsimp only
  refine if_neg fun hend => ?_
  obtain ⟨_, hall⟩ := (Bool.and_eq_true_iff).1 hend
  have hdone : 5 ≤ s.targetState k j := of_decide_eq_true (List.all_eq_true.1 hall (j, y) hm)
  omega

/-- Another target that waits keeps the campaign going. -/
theorem State.Retargets.goesOn (e : s.Retargets t k h st x) (hm : (j, y) ∈ (s.camp k).targets) (hne : j ≠ h) (hj : j ≤ maxHandle) (hwaits : s.targetState k j = 0) :
    (j, y) ∈ (t.camp k).targets ∧ t.targetState k j < 5 := by
  refine ⟨?_, ?_⟩
  · rw [e.camp]
    exact Assoc.mem_put_ne hm hne
  · rw [e.others j hne hj, hwaits]
    decide

/-- The campaign ends, and its command completes (R666). -/
theorem State.campaignCheck_ends (hk : k < 8) (hruns : s.campRuns k = true) (htargets : (s.camp k).targets = [(h, x)]) (hst : s.targetState k h = 7) (hh : h ≤ maxHandle)
    (hgroups : (s.camp k).groups = []) :
    (s.campaignCheck k).nat Attr.EndpointCampaign.state k = 3 ∧ (s.campaignCheck k).targetState k h = 7 ∧
      (s.campaignCheck k).recd = s.recd.ordinary ⟨0x0147, objPath 0x0F20 k, [(k : Int), 0, 0]⟩ ∧ Changes [.obj, .mbx, .upd, .recd] [Attr.EndpointCampaign.state] s (s.campaignCheck k) := by
  have hcheck : s.campaignCheck k = ((((s.setNat Attr.EndpointCampaign.state k 3).setCamp k { s.camp k with groups := [], sent := [], repairing := [] }).raise 0x0147 (campPath k)
      [(k : Int), 0, 0]).completeCmd (s.camp k).arrival .ok []) := by
    unfold State.campaignCheck
    dsimp only
    rw [htargets, hruns, if_pos (by simp [hst])]
    simp [hgroups, hst]
  rw [hcheck]
  have hset : Changes [.obj, .mbx] [Attr.EndpointCampaign.state] s (s.setNat Attr.EndpointCampaign.state k 3) := changes_setNat
  have hstate : (s.setNat Attr.EndpointCampaign.state k 3).nat Attr.EndpointCampaign.state k = 3 := State.nat_setNat
  generalize s.setNat Attr.EndpointCampaign.state k 3 = v at hset hstate
  have hcamp : Changes [.upd] [] v (v.setCamp k { s.camp k with groups := [], sent := [], repairing := [] }) := changes_setCamp
  generalize v.setCamp k { s.camp k with groups := [], sent := [], repairing := [] } = w at hcamp
  have hraise : Changes [.recd] [] w (w.raise 0x0147 (campPath k) [(k : Int), 0, 0]) := changes_raise
  have hrecd : (w.raise 0x0147 (campPath k) [(k : Int), 0, 0]).recd = w.recd.ordinary ⟨0x0147, objPath 0x0F20 k, [(k : Int), 0, 0]⟩ := rfl
  generalize w.raise 0x0147 (campPath k) [(k : Int), 0, 0] = a at hraise hrecd
  have hdone : Changes [.mbx] [] a (a.completeCmd (s.camp k).arrival .ok []) := State.completeCmd_awaiting.2
  generalize a.completeCmd (s.camp k).arrival .ok [] = b at hdone
  have hvb : Changes [.upd, .recd, .mbx] [] v b := (hcamp.mono.step hraise).step hdone
  have hall : Changes [.obj, .mbx, .upd, .recd] [Attr.EndpointCampaign.state] s b := hset.mono.step hvb
  exact ⟨(hvb.nat Attr.EndpointCampaign.state k).trans hstate, (State.targetState_congr hall hk hh).trans hst,
    hdone.recd.trans (hrecd.trans (congrArg (fun r : Recorder => r.ordinary _) (hcamp.recd.trans hset.recd))), hall⟩

/-- A target fails while another waits. -/
theorem State.failTarget_effect {cause : Nat} (hk : k < 8) (hh : h ≤ maxHandle) (htwin : s.twinned = false) (hm : (j, y) ∈ (s.camp k).targets) (hne : j ≠ h) (hj : j ≤ maxHandle)
    (hwaits : s.targetState k j = 0) :
    (s.failTarget k h cause x).targetState k h = 6 ∧ (s.failTarget k h cause x).recd = s.recd.ordinary ⟨0x0146, objPath 0x0F20 k, [(k : Int), (h : Int), (cause : Int)]⟩ ∧
      Changes [.obj, .mbx, .upd, .recd] targetAttrs s (s.failTarget k h cause x) := by
  have hset : s.Retargets (s.setTarget k h 6 x) k h 6 x := State.setTarget_effect hk hh htwin
  have hfail : s.failTarget k h cause x = ((s.setTarget k h 6 x).raise 0x0146 (campPath k) [(k : Int), (h : Int), (cause : Int)]).campaignCheck k := rfl
  rw [hfail]
  generalize s.setTarget k h 6 x = v at hset
  obtain ⟨hmem, hlow⟩ := hset.goesOn hm hne hj hwaits
  have hraise : Changes [.recd] [] v (v.raise 0x0146 (campPath k) [(k : Int), (h : Int), (cause : Int)]) := changes_raise
  have hrecd : (v.raise 0x0146 (campPath k) [(k : Int), (h : Int), (cause : Int)]).recd = v.recd.ordinary ⟨0x0146, objPath 0x0F20 k, [(k : Int), (h : Int), (cause : Int)]⟩ := rfl
  generalize v.raise 0x0146 (campPath k) [(k : Int), (h : Int), (cause : Int)] = w at hraise hrecd
  rw [State.campaignCheck_goesOn (by rw [State.camp_congr hraise.upd]; exact hmem) (by rw [State.targetState_congr hraise hk hj]; exact hlow)]
  exact ⟨(State.targetState_congr hraise hk hh).trans hset.state, hrecd.trans (congrArg (fun r : Recorder => r.ordinary _) hset.change.recd), hset.change.mono.step hraise⟩

/-! ### Loading and starting (R664) -/

theorem doImageChunk_loads (hk : pathInst c.path = k) (hbulk : bit c.flags flagBulk = true) (hlen : 4 ≤ c.data.length) (hoff : field c.data 0 4 % 512 = 0)
    (hend : field c.data 0 4 + (c.data.drop 4).length ≤ 4194304) (hidle : s.campRuns k = false) :
    doImageChunk c s = (⟨.ok, []⟩, (s.setCamp k { s.camp k with image := writeAt (s.camp k).image (field c.data 0 4) (c.data.drop 4) }).setNat Attr.EndpointCampaign.state k 1) := by
  have hgood : ¬ ((!bit c.flags flagBulk) = true ∨ c.data.length < 4 ∨ field c.data 0 4 % 512 ≠ 0 ∨ 4194304 < field c.data 0 4 + (c.data.drop 4).length) := by
    simp only [hbulk, hoff, Bool.not_true, Bool.false_eq_true, ne_eq, not_true_eq_false, false_or, not_or, not_lt]
    exact ⟨hlen, hend⟩
  unfold doImageChunk
  dsimp only
  rw [hk, if_neg hgood, hidle]
  rfl

/-- The target of a start on an endpoint that takes it: PENDING (R664). -/
theorem State.addTarget_effect (hk : k < 8) (hh : h ≤ maxHandle) (htwin : s.twinned = false) (hnew : (s.camp k).targets = []) :
    (s.addTarget k h).targetState k h = 0 ∧ (s.addTarget k h).alive 0x0F21 (targetInst k h) = true ∧
      (s.addTarget k h).camp k = { s.camp k with targets := [(h, { progressAt := s.tim.d3 })] } ∧ Changes [.obj, .mbx, .upd] targetAttrs s (s.addTarget k h) := by
  have hadd : s.addTarget k h = (s.create 0x0F21 (targetInst k h)).setTarget k h 0 { progressAt := s.tim.d3 } := if_neg (by simp [State.target, hnew, Assoc.find])
  rw [hadd]
  have hcreate : Changes [.obj] [] s (s.create 0x0F21 (targetInst k h)) := changes_create
  have halive : (s.create 0x0F21 (targetInst k h)).alive 0x0F21 (targetInst k h) = true := State.alive_create
  generalize s.create 0x0F21 (targetInst k h) = v at hcreate halive
  have hset : v.Retargets (v.setTarget k h 0 { progressAt := s.tim.d3 }) k h 0 { progressAt := s.tim.d3 } :=
    State.setTarget_effect hk hh ((State.twinned_congr hcreate).trans htwin)
  generalize v.setTarget k h 0 { progressAt := s.tim.d3 } = w at hset
  refine ⟨hset.state, (State.alive_congr hset.live).trans halive, ?_, hcreate.mono.step hset.change⟩
  rw [hset.camp, State.camp_congr hcreate.upd, hnew]
  rfl

/-- The campaign of a start: its image and what the request says (Table 17-5). -/
def State.asked (s : State) (k : Nat) (b : Bytes) (arrival : Nat) : Campaign :=
  { image := (s.camp k).image, digest := slice b 8 32, role := octet b 2, activateAt := if bit (octet b 3) 0 then some (field b 40 4) else none,
    repairs := field b 44 2, arrival := arrival }

theorem State.targetStatus_ok {r : Nat} (hhomed : s.homed h = true) (hrole : s.nat Attr.EndpointProfile.role h = r) (hfree : ∀ z ∈ s.upd.campaigns, s.campRuns z.1 = false) :
    s.targetStatus r h = .ok := by
  have hnone : s.upd.campaigns.any (fun z => s.campRuns z.1 && Assoc.has h z.2.targets) = false :=
    List.any_eq_false.2 fun z hz => by simp [hfree z hz]
  unfold State.targetStatus
  rw [if_neg (by simp [hhomed]), if_neg (by simp only [hrole, hnone]; simp)]

/-- A start with one target that has no path (R664). -/
theorem State.startCampaign_one {b : Bytes} {arrival : Nat} (hn : field b 48 4 = 1) (hb : field b 52 4 = h) (hnew : (s.camp k).targets = [])
    (hok : (s.setCamp k (s.asked k b arrival)).targetStatus (octet b 2) h = .ok) (hcell : ((s.setCamp k (s.asked k b arrival)).addTarget k h).requestCell h = none) :
    s.startCampaign k b arrival =
      ([BitVec.ofNat 8 0], (((s.setCamp k (s.asked k b arrival)).addTarget k h).setNat Attr.EndpointCampaign.state k 2).raise 0x0145 (campPath k) [(k : Int), 1]) := by
  unfold State.asked at hok hcell ⊢
  unfold State.startCampaign
  dsimp only
  have hhs : (List.range 1).map (fun j => field b (52 + 4 * j) 4) = [h] := congrArg (fun y => [y]) hb
  rw [hn, hhs, hnew, List.foldl_nil, List.map_singleton, hok]
  have htaken : (([h].zip [Status.ok]).filter (fun x => x.2 == .ok)).map Prod.fst = [h] := rfl
  rw [htaken]
  simp only [List.foldl_cons, List.foldl_nil]
  generalize State.addTarget _ k h = w at hcell ⊢
  have hcells : ([h].filterMap w.requestCell).eraseDups = [] := by rw [List.filterMap_cons_none hcell]; rfl
  have hcodes : [Status.ok].map (fun st => BitVec.ofNat 8 st.code) = [BitVec.ofNat 8 0] := rfl
  have hnone : ¬ ((none : Option Nat).any w.isLine = true) := Bool.false_ne_true
  rw [hcells, List.foldl_nil, hcell, hcodes, if_neg hnone, List.length_singleton, Nat.cast_one]

/-- The activities of a start end with it, and its first answer goes out (R664). -/
def State.endStart (s : State) : State :=
  let gone := s.fcr.admitted.filter (fun a => a.kind == 6)
  let s := { s with fcr := { s.fcr with admitted := s.fcr.admitted.filter (fun a => a.kind != 6) } }
  gone.foldl (fun s a => s.activityEvent a 3) s

theorem State.endStart_changes : Changes [.fcr, .recd] [] s s.endStart := by
  have hset : Changes [.fcr] [] s { s with fcr := { s.fcr with admitted := s.fcr.admitted.filter (fun a => a.kind != 6) } } := .of_same SameBut.refl.set_fcr
  exact hset.mono.step (.foldl fun _ _ => changes_raise : Changes [.recd] [] _ _)

/-- A start whose request is well formed asks the arbiter where the image has its digest (R664). -/
theorem doCampaignStart_starts {free : Nat} (hk : octet c.data 0 = k) (hlow : k ≤ 7) (hact : octet c.data 1 = 1) (hrole : c.role = .operator) (htarget : octet c.data 2 ≤ 2)
    (hlen1 : 1 ≤ field c.data 4 4) (hlen2 : field c.data 4 4 ≤ 4194304) (himage : (s.camp k).image.length = field c.data 4 4) (hrep1 : 1 ≤ field c.data 44 2)
    (hrep2 : field c.data 44 2 ≤ 64) (hn : field c.data 48 4 = 1) (hlong : 56 ≤ c.data.length) (hidle : s.campRuns k = false) (hfree : 1024 ≤ free) :
    doCampaignStart free c s = if Config.sha256 (s.camp k).image ≠ slice c.data 8 32 then (⟨.badValue, []⟩, s)
      else if (s.requestCmd c 6 0).1 = .admitted then
        (⟨if (((s.requestCmd c 6 0).2.startCampaign k c.data c.arrival).2.endStart.camp k).targets.isEmpty then .ok else .accepted,
          ((s.requestCmd c 6 0).2.startCampaign k c.data c.arrival).1⟩,
          if (((s.requestCmd c 6 0).2.startCampaign k c.data c.arrival).2.endStart.camp k).targets.isEmpty then
            ((s.requestCmd c 6 0).2.startCampaign k c.data c.arrival).2.endStart.campaignCheck k
          else ((s.requestCmd c 6 0).2.startCampaign k c.data c.arrival).2.endStart)
      else (⟨decisionStatus (s.requestCmd c 6 0).1 .accepted, []⟩, (s.requestCmd c 6 0).2) := by
  have hall : (List.range 8).all s.campRuns = false := List.all_eq_false.2 ⟨k, List.mem_range.2 (by omega), by simp [hidle]⟩
  have hmay : campaignRole Role.operator (octet c.data 2) = true := rfl
  unfold doCampaignStart
  dsimp only
  rw [hk, hact, hrole, hn, if_neg (by omega), if_pos rfl, hmay, if_neg (by simp), if_neg (by omega), if_neg (by omega), hall, hidle]
  by_cases hsha : Config.sha256 (s.camp k).image = slice c.data 8 32
  · rw [if_neg (by simp [himage, hsha]), if_neg (by simp; omega), if_neg Bool.false_ne_true, if_neg (not_not.2 hsha)]
    rfl
  · rw [if_pos (.inr hsha), if_pos hsha]

/-- From `s` to `t` campaign 0 has been started with the one target `h` by the command of an arrival (R664). -/
structure State.Starts (s t : State) (h : Nat) (b : Bytes) (arrival : Nat) : Prop where
  runs : t.campRuns 0 = true
  pending : t.targetState 0 h = 0
  alive : t.alive 0x0F21 (targetInst 0 h) = true
  digest : (t.camp 0).digest = slice b 8 32
  arrival : (t.camp 0).arrival = arrival
  targets : (t.camp 0).targets.map Prod.fst = [h]
  change : Changes [.obj, .mbx, .upd, .fcr, .recd] (Attr.EndpointCampaign.state :: targetAttrs) s t

/-- A start with one target that this chip serves and that has no path (R664). -/
theorem State.startCampaign_effect {b : Bytes} {arrival : Nat} (hn : field b 48 4 = 1) (hb : field b 52 4 = h) (hh : h ≤ maxHandle) (hhomed : s.homed h = true)
    (hrole : s.nat Attr.EndpointProfile.role h = octet b 2) (hcell : s.requestCell h = none) (hfree : ∀ z ∈ s.upd.campaigns, s.campRuns z.1 = false) (hidle : s.campRuns 0 = false)
    (hnew : (s.camp 0).targets = []) (htwin : s.twinned = false) :
    (s.startCampaign 0 b arrival).1 = [BitVec.ofNat 8 0] ∧ s.Starts (s.startCampaign 0 b arrival).2.endStart h b arrival := by
  let v : State := s.setCamp 0 (s.asked 0 b arrival)
  have hv : Changes [.upd] [] s v := changes_setCamp
  have hcamp : v.camp 0 = s.asked 0 b arrival := State.camp_setCamp
  have hfreeV : ∀ z ∈ v.upd.campaigns, v.campRuns z.1 = false := fun z hz => (Assoc.mem_put hz).elim (fun he => he ▸ hidle) (hfree z)
  have hok : v.targetStatus (octet b 2) h = .ok := State.targetStatus_ok hhomed hrole hfreeV
  have hadded := State.addTarget_effect (s := v) (k := 0) (by decide) hh htwin (by rw [hcamp]; rfl)
  obtain ⟨hpending, halive, hcampW, hw⟩ := hadded
  have hstart : s.startCampaign 0 b arrival = ([BitVec.ofNat 8 0], ((v.addTarget 0 h).setNat Attr.EndpointCampaign.state 0 2).raise 0x0145 (campPath 0) [((0 : Nat) : Int), 1]) :=
    State.startCampaign_one hn hb hnew hok ((State.requestCell_congr hw hh).trans hcell)
  rw [hstart]
  refine ⟨rfl, ?_⟩
  dsimp only
  generalize v = v at hv hcamp hpending halive hcampW hw
  generalize v.addTarget 0 h = w at hpending halive hcampW hw
  have hset : Changes [.obj, .mbx] [Attr.EndpointCampaign.state] w (w.setNat Attr.EndpointCampaign.state 0 2) := changes_setNat
  have hruns : (w.setNat Attr.EndpointCampaign.state 0 2).campRuns 0 = true := beq_iff_eq.2 State.nat_setNat
  have hlive : (w.setNat Attr.EndpointCampaign.state 0 2).obj.live = w.obj.live := State.setAttr_live
  generalize w.setNat Attr.EndpointCampaign.state 0 2 = x at hset hruns hlive
  have hraise : Changes [.recd] [] x (x.raise 0x0145 (campPath 0) [((0 : Nat) : Int), 1]) := changes_raise
  generalize x.raise 0x0145 (campPath 0) [((0 : Nat) : Int), 1] = y at hraise
  have hend : Changes [.fcr, .recd] [] y y.endStart := State.endStart_changes
  generalize y.endStart = z at hend
  have hxz : Changes [.fcr, .recd] [] x z := hraise.mono.step hend
  have hwz : Changes [.obj, .mbx, .fcr, .recd] [Attr.EndpointCampaign.state] w z := hset.mono.step hxz
  have hcampZ : z.camp 0 = { s.asked 0 b arrival with targets := [(h, { progressAt := v.tim.d3 })] } := by rw [State.camp_congr hwz.upd, hcampW, hcamp]
  exact ⟨(State.campRuns_congr hxz (by decide)).trans hruns, (State.targetState_congr hwz (by decide) hh).trans hpending,
    (State.alive_congr ((congrArg Obj.live hxz.obj).trans hlive)).trans halive, by rw [hcampZ]; rfl, by rw [hcampZ]; rfl, by rw [hcampZ]; rfl, (hv.mono.step hw).step hwz⟩

/-- A cancel of a running campaign with one target that has not activated. -/
theorem doCampaignStart_cancels {free : Nat} (hk : octet c.data 0 = k) (hlow : k ≤ 7) (hact : octet c.data 1 = 2) (hrole : c.role = .operator) (hruns : s.campRuns k = true) :
    doCampaignStart free c s = (⟨.ok, []⟩, s.cancelCampaign k) := by
  unfold doCampaignStart
  dsimp only
  have hmay : campaignRole Role.operator (s.camp k).role = true := rfl
  have hnew : ¬ (2 = 1) := by decide
  rw [hk, hact, hrole, if_neg (by omega), if_neg hnew, hmay, if_neg (by simp), if_pos rfl, if_pos hruns]

theorem State.cancelCampaign_one (htargets : (s.camp k).targets = [(h, x)]) (hlow : s.targetState k h < 4) : s.cancelCampaign k = (s.setTarget k h 7 x).campaignCheck k := by
  unfold State.cancelCampaign
  rw [htargets, List.foldl_cons, List.foldl_nil, if_pos hlow]

/-- A campaign with one target ends when it is cancelled (R664, R666). -/
theorem State.cancelCampaign_effect (hk : k < 8) (hh : h ≤ maxHandle) (hruns : s.campRuns k = true) (htargets : (s.camp k).targets = [(h, x)]) (hlow : s.targetState k h < 4)
    (hgroups : (s.camp k).groups = []) (htwin : s.twinned = false) :
    (s.cancelCampaign k).targetState k h = 7 ∧ (s.cancelCampaign k).nat Attr.EndpointCampaign.state k = 3 ∧
      (s.cancelCampaign k).recd = s.recd.ordinary ⟨0x0147, objPath 0x0F20 k, [(k : Int), 0, 0]⟩ ∧
      Changes [.obj, .mbx, .upd, .recd] (Attr.EndpointCampaign.state :: targetAttrs) s (s.cancelCampaign k) := by
  have hset : s.Retargets (s.setTarget k h 7 x) k h 7 x := State.setTarget_effect hk hh htwin
  rw [State.cancelCampaign_one htargets hlow]
  generalize s.setTarget k h 7 x = v at hset
  have htargetsV : (v.camp k).targets = [(h, x)] := by
    rw [hset.camp]
    show Assoc.put h x (s.camp k).targets = _
    rw [htargets, Assoc.put, if_neg (lt_irrefl h), if_pos rfl]
  obtain ⟨hdone, hstate, hrecd, hend⟩ := State.campaignCheck_ends hk ((State.campRuns_congr hset.change hk).trans hruns) htargetsV hset.state hh (by rw [hset.camp]; exact hgroups)
  exact ⟨hstate, hdone, hrecd.trans (congrArg (fun r : Recorder => r.ordinary _) hset.change.recd), hset.change.mono.step hend⟩

/-! ### Blocks and reports (R665, R666) -/

theorem Assoc.any_of_find {α : Type} {a : α} {l : List (Nat × α)} (hf : Assoc.find k l = some a) : l.any (fun e => e.1 == k) = true := by
  induction l with
  | nil => exact absurd hf (by simp [Assoc.find])
  | cons e l ih =>
    unfold Assoc.find at hf
    split at hf
    · next he => simp [he]
    · simp [ih hf]

/-- A block that a cell with a group has not had goes out once, by multicast (R665). -/
theorem State.multicastBlock_once {b cell g : Nat} (hgroup : Assoc.find cell (s.camp k).groups = some g) (hwant : s.wanting k cell = [(h, x)]) (hserved : s.targetState k h = 1)
    (hnew : (cell, b) ∉ (s.camp k).sent) (htime : s.blockTime h = true) (hopen : s.gloveShut = false) :
    ∃ p q z, s.multicastBlock k cell b = ((s.setCamp k { s.camp k with sent := (s.camp k).sent ++ [(cell, b)] }).enqueue p q z).2 := by
  have htaken : s.takeGroup k cell = s := by
    unfold State.takeGroup
    dsimp only
    rw [if_pos (.inr (Assoc.any_of_find hgroup))]
  have hstays : (s.setCamp k { s.camp k with sent := (s.camp k).sent ++ [(cell, b)] }).served k (h, x) = s.setCamp k { s.camp k with sent := (s.camp k).sent ++ [(cell, b)] } := by
    have hsame : (s.setCamp k { s.camp k with sent := (s.camp k).sent ++ [(cell, b)] }).targetState k h = 1 := hserved
    unfold State.served
    rw [hsame]
    rfl
  unfold State.multicastBlock
  dsimp only
  rw [htaken, hgroup, hwant]
  dsimp only
  rw [if_neg (by simp [hnew, htime, hopen]), List.foldl_cons, List.foldl_nil, hstays]
  exact ⟨_, _, _, rfl⟩

/-- A target once it has reported blocks (R666). -/
def State.reported (s : State) (k : Nat) (x : Target) (bs : List Nat) : Target :=
  let held := (x.held ++ bs.filter (fun b => decide (b < blockCount (s.camp k).image.length))).eraseDups
  { x with held := held, progressAt := if x.held.length < held.length then s.tim.d3 else x.progressAt }

/-- A report of held blocks. -/
theorem State.heldBlocks_effect {bs : List Nat} (hk : k < 8) (hh : h ≤ maxHandle) (htwin : s.twinned = false) :
    (s.setCamp k { s.camp k with repairing := (s.camp k).repairing.filter (fun r => r.1 != h) }).Retargets (s.heldBlocks k h x bs) k h
      (if blockCount (s.camp k).image.length ≤ (s.reported k x bs).held.length then 2 else 1) (s.reported k x bs) := by
  have hheld : s.heldBlocks k h x bs = (s.setCamp k { s.camp k with repairing := (s.camp k).repairing.filter (fun r => r.1 != h) }).setTarget k h
      (if blockCount (s.camp k).image.length ≤ (s.reported k x bs).held.length then 2 else 1) (s.reported k x bs) := rfl
  have htwinV : (s.setCamp k { s.camp k with repairing := (s.camp k).repairing.filter (fun r => r.1 != h) }).twinned = false := htwin
  rw [hheld]
  exact State.setTarget_effect hk hh htwinV

/-- The request that tells a target to activate waits while COL is fenced (R666). -/
theorem State.request_waits {q op m : Nat} {poll : Option (Nat × Nat)} {b : Bytes} {cmd : Option Nat} (hcut : s.cutOff 9 0 = true) :
    (∃ r : Request, (s.request h q op m poll b cmd).col.requests = s.col.requests ++ [r] ∧ r.handle = h ∧ r.opcode = op ∧ r.queue = q ∧ r.apdu = b) ∧
      Changes [.col] [] s (s.request h q op m poll b cmd) := by
  let r : Request := { handle := h, cell := (s.requestCell h).getD 0, queue := q, order := s.col.nextOrder, serial := m, opcode := op, poll := poll, apdu := b, cmd := cmd }
  have hreq : s.request h q op m poll b cmd = { s with col := { s.col with requests := s.col.requests ++ [r], nextOrder := s.col.nextOrder + 1 } } := if_pos (.inl hcut)
  rw [hreq]
  exact ⟨⟨r, rfl, rfl, rfl, rfl, rfl⟩, .of_same SameBut.refl.set_col⟩

/-- A target is told to activate, with the next command serial (R666). -/
theorem State.activateTarget_effect (hk : k < 8) (hh : h ≤ maxHandle) (htarget : s.target k h = some x) (hst : s.targetState k h = 3) (hrole : s.nat Attr.EndpointProfile.role h ≠ 1)
    (hmode : s.sys.mode ≠ .shadow) (hcut : s.cutOff 9 0 = true) (htwin : s.twinned = false) :
    (s.activateTarget k h).targetState k h = 4 ∧
      (s.activateTarget k h).nat Attr.EndpointProfile.commandSerial h = (s.nat Attr.EndpointProfile.commandSerial h + 1) % 2 ^ 32 ∧
      (∃ r : Request, (s.activateTarget k h).col.requests = s.col.requests ++ [r] ∧ r.handle = h ∧ r.opcode = 0x0F04 ∧ r.queue = 0 ∧ r.apdu = Config.activateApdu (s.camp k).digest) ∧
      SameBut [.obj, .mbx, .upd, .col] s (s.activateTarget k h) := by
  have hlt : h < 2 ^ 40 := hh.trans_lt (by decide)
  have hact : s.activateTarget k h = ((s.nextSerial h).2.request h 0 0x0F04 (s.nextSerial h).1 none (Config.activateApdu ((s.nextSerial h).2.camp k).digest) none).setTarget k h 4
      { x with serial := (s.nextSerial h).1,
               progressAt := ((s.nextSerial h).2.request h 0 0x0F04 (s.nextSerial h).1 none (Config.activateApdu ((s.nextSerial h).2.camp k).digest) none).tim.d3 } := by
    unfold State.activateTarget
    rw [htarget]
    dsimp only
    rw [if_neg (by simp [hst, State.mayRestart, hrole, hmode]), if_neg hrole]
  have hv : Changes [.obj, .mbx] [Attr.EndpointProfile.commandSerial] s (s.nextSerial h).2 := changes_setNat (by decide) hlt
  have hserial : (s.nextSerial h).2.nat Attr.EndpointProfile.commandSerial h = (s.nat Attr.EndpointProfile.commandSerial h + 1) % 2 ^ 32 := State.nat_setNat
  rw [hact]
  generalize (s.nextSerial h).1 = m
  generalize (s.nextSerial h).2 = v at hv hserial
  have hcutV : v.cutOff 9 0 = true := (hv.cutOff 9 0).trans hcut
  obtain ⟨⟨r, hreqs, hhandle, hop, hq, hapdu⟩, hreq⟩ := State.request_waits (h := h) (q := 0) (op := 0x0F04) (m := m) (poll := none)
    (b := Config.activateApdu (v.camp k).digest) (cmd := none) hcutV
  generalize v.request h 0 0x0F04 m none (Config.activateApdu (v.camp k).digest) none = w at hreqs hreq
  have htwinW : w.twinned = false := (State.twinned_congr hreq).trans ((State.twinned_congr hv).trans htwin)
  have hset : w.Retargets (w.setTarget k h 4 { x with serial := m, progressAt := w.tim.d3 }) k h 4 { x with serial := m, progressAt := w.tim.d3 } := State.setTarget_effect hk hh htwinW
  generalize w.setTarget k h 4 { x with serial := m, progressAt := w.tim.d3 } = z at hset
  refine ⟨hset.state, (hset.change.nat Attr.EndpointProfile.commandSerial h (by decide) hlt).trans ((hreq.nat Attr.EndpointProfile.commandSerial h (by decide) hlt).trans hserial),
    ⟨r, ?_, hhandle, hop, hq, by rw [hapdu, State.camp_congr hv.upd]⟩, ((hv.same.mono (by decide)).step hreq.same).step hset.change.same⟩
  rw [hset.change.col, hreqs, hv.col]

/-- A report of a target of a running campaign (R666). -/
theorem execReport_running {r : TargetReport} (htarget : s.target k h = some x) (hruns : s.campRuns k = true) : exec (.campaignTargetReport k h r) s =
    match r with
    | .held bs => .next (if s.targetState k h < 2 then s.heldBlocks k h x bs else s)
    | .digest d => .next (if s.targetState k h = 2 then s.digestReport k h x d else s)
    | .running d => .next (if s.targetState k h = 4 then s.runningReport k h x d else s) := by
  have hexec : exec (.campaignTargetReport k h r) s = execCampaignTargetReport k h r s := rfl
  rw [hexec, execCampaignTargetReport, htarget]
  dsimp only
  rw [if_neg (by simp [hruns])] <;> rfl

/-- Settles O45: a write of a target is one lemma, and each row says which target it writes and whether another that waits keeps the campaign going. -/
theorem campaigns : Obligations.Campaigns := by
  refine ⟨?_, ?_, ?_, ?_, ?_, ?_, ?_, ?_, ?_, ?_⟩
  · intro s c n k hs ho hcls hatt hk hbulk hlen hoff hend hidle
    have hbody := doImageChunk_loads (s := s.pop) hk hbulk hlen hoff hend hidle
    have hlt : k < 2 ^ 40 := hk ▸ Nat.mod_lt _ (by decide)
    have hcamp : Changes [.upd] [] s.pop (s.pop.setCamp k { s.pop.camp k with image := writeAt (s.pop.camp k).image (field c.data 0 4) (c.data.drop 4) }) := changes_setCamp
    have himage : ((s.pop.setCamp k { s.pop.camp k with image := writeAt (s.pop.camp k).image (field c.data 0 4) (c.data.drop 4) }).camp k).image =
      writeAt (s.camp k).image (field c.data 0 4) (c.data.drop 4) := congrArg Campaign.image State.camp_setCamp
    generalize s.pop.setCamp k { s.pop.camp k with image := writeAt (s.pop.camp k).image (field c.data 0 4) (c.data.drop 4) } = v at hbody hcamp himage
    have hset : Changes [.obj, .mbx] [Attr.EndpointCampaign.state] v (v.setNat Attr.EndpointCampaign.state k 1) := changes_setNat (by decide) hlt
    have hstate : (v.setNat Attr.EndpointCampaign.state k 1).nat Attr.EndpointCampaign.state k = 1 := State.nat_setNat
    generalize v.setNat Attr.EndpointCampaign.state k 1 = u at hbody hset hstate
    have hall : Changes [.mbx, .obj, .upd] [Attr.EndpointCampaign.state] s.pop u := hcamp.mono.step hset
    obtain ⟨t, hrun, rfl, hans⟩ := hs.method_completes ho hcls hatt hbody (hall.poised s ⟨rfl, rfl, rfl⟩) (Nat.zero_le _)
    have hupd : (u.finish c ⟨.ok, []⟩).upd = v.upd := State.finish_upd.trans hset.upd
    exact ⟨_, hrun, hans, (congrArg Campaign.image (State.camp_congr hupd)).trans himage, (State.nat_congr State.finish_obj _ _).trans hstate, hall.finished⟩
  · intro s c n h hs ho hk hact hrole htarget hlen1 hlen2 himage hrep1 hrep2 hn hlong hb hh hhomed hprofile hcell hfree hidle hnew htwin hadm hdef
    have hbody := doCampaignStart_starts (s := s.pop) hk (by decide) hact hrole htarget hlen1 hlen2 himage hrep1 hrep2 hn hlong hidle (le_refl 1024)
    have hsha : (Config.sha256 (s.pop.camp 0).image ≠ slice c.data 8 32) = (Config.sha256 (s.camp 0).image ≠ slice c.data 8 32) := rfl
    split
    · next heq =>
      let a : Activity := { kind := 6, arrival := c.arrival, internal := false, unit := 0, session := c.session, path := c.path, arg := c.payload.take 16 }
      have hreq : s.pop.requestCmd c 6 0 = (.admitted, s.pop.admitActivity a) := State.arbitrate_free hadm hdef
      rw [if_neg (by rw [hsha]; exact not_not.2 heq), hreq, if_pos rfl] at hbody
      dsimp only at hbody
      have hadmit : Changes [.fcr, .recd] [] s.pop (s.pop.admitActivity a) := .of_same sameBut_admitActivity
      obtain ⟨hanswer, hstart⟩ := State.startCampaign_effect (s := s.pop.admitActivity a) (arrival := c.arrival) hn hb hh hhomed hprofile hcell hfree hidle hnew htwin
      rw [hanswer] at hbody
      generalize s.pop.admitActivity a = v at hbody hadmit hstart
      generalize (v.startCampaign 0 c.data c.arrival).2.endStart = u at hbody hstart
      have hsome : (u.camp 0).targets.isEmpty = false := by
        rcases hempty : (u.camp 0).targets with _ | ⟨z, zs⟩
        · exact absurd (hempty ▸ hstart.targets) (by simp)
        · rfl
      rw [hsome, if_neg Bool.false_ne_true, if_neg Bool.false_ne_true] at hbody
      have hall : Changes [.mbx, .obj, .upd, .fcr, .recd] (Attr.EndpointCampaign.state :: targetAttrs) s.pop u := hadmit.mono.step hstart.change
      obtain ⟨t, hrun, rfl, hans⟩ := hs.completes ho hbody (hall.poised s ⟨rfl, rfl, rfl⟩) (by simp)
      have hobj : ∀ r, (u.finish c r).obj = u.obj := fun r => State.finish_obj
      have hcamp : ∀ r, (u.finish c r).camp 0 = u.camp 0 := fun r => State.camp_congr State.finish_upd
      refine ⟨_, hrun, hans, ?_, (State.nat_congr (hobj _) _ _).trans hstart.pending, (State.alive_congr (congrArg Obj.live (hobj _))).trans hstart.alive, ?_, ?_, ?_, hall.finished⟩
      · rw [State.campRuns, State.nat_congr (hobj _)]
        exact hstart.runs
      · rw [hcamp, hstart.digest]
      · rw [hcamp, hstart.arrival]
      · rw [hcamp, hstart.targets]
    · next hne =>
      rw [if_pos (by rw [hsha]; exact hne)] at hbody
      exact State.Serves.completes_unchanged (b := doCampaignStart 1024) hs ho hbody (Nat.zero_le _)
  · intro s c n h x hs ho hk hact hrole hruns htargets hh hlow hgroups htwin
    have hbody := doCampaignStart_cancels (s := s.pop) (free := 0) hk (by decide) hact hrole hruns
    obtain ⟨hstate, hdone, hrecd, hchange⟩ := State.cancelCampaign_effect (s := s.pop) (k := 0) (by decide) hh hruns htargets hlow hgroups htwin
    generalize s.pop.cancelCampaign 0 = u at hbody hstate hdone hrecd hchange
    have hall : Changes [.mbx, .obj, .upd, .recd] (Attr.EndpointCampaign.state :: targetAttrs) s.pop u := hchange.mono
    obtain ⟨t, hrun, rfl, hans⟩ := hs.completes ho hbody (hall.poised s ⟨rfl, rfl, rfl⟩) (Nat.zero_le _)
    have hobj : (u.finish c ⟨.ok, []⟩).obj = u.obj := State.finish_obj
    exact ⟨_, hrun, hans, (State.nat_congr hobj _ _).trans hstate, (State.nat_congr hobj _ _).trans hdone, State.finish_recd.trans hrecd, hall.finished⟩
  · intro s k b cell g h x hruns hmode hb _ hgroup hwant hserved hnew htime hopen
    obtain ⟨p, q, z, hblock⟩ := State.multicastBlock_once hgroup hwant hserved hnew htime hopen
    have hexec : exec (.campaignBlock k b cell none) s = .next (s.multicastBlock k cell b) := if_neg (by simp [hruns, hmode]; omega)
    have hcamp : SameBut [.upd] s (s.setCamp k { s.camp k with sent := (s.camp k).sent ++ [(cell, b)] }) := changes_setCamp.same
    have hsent : ((s.setCamp k { s.camp k with sent := (s.camp k).sent ++ [(cell, b)] }).camp k).sent = (s.camp k).sent ++ [(cell, b)] := congrArg Campaign.sent State.camp_setCamp
    rw [hexec, hblock]
    generalize s.setCamp k { s.camp k with sent := (s.camp k).sent ++ [(cell, b)] } = v at hcamp hsent
    have hqueue : SameBut [.lin] v (v.enqueue p q z).2 := sameBut_enqueue
    exact ⟨_, rfl, (congrArg Campaign.sent (State.camp_congr (hqueue.area .upd))).trans hsent, (hcamp.mono (by decide)).step hqueue⟩
  · intro s k h x bs hk hh htarget hruns hlow htwin
    have hexec : exec (.campaignTargetReport k h (.held bs)) s = .next (s.heldBlocks k h x bs) :=
      (execReport_running htarget hruns).trans (congrArg Host.Outcome.next (if_pos hlow))
    have hset := State.heldBlocks_effect (x := x) (bs := bs) hk hh htwin
    have hcamp : Changes [.upd] [] s (s.setCamp k { s.camp k with repairing := (s.camp k).repairing.filter (fun r => r.1 != h) }) := changes_setCamp
    have hrepairs : ((s.setCamp k { s.camp k with repairing := (s.camp k).repairing.filter (fun r => r.1 != h) }).camp k).repairing =
      (s.camp k).repairing.filter (fun r => r.1 != h) := congrArg Campaign.repairing State.camp_setCamp
    rw [hexec]
    generalize s.setCamp k { s.camp k with repairing := (s.camp k).repairing.filter (fun r => r.1 != h) } = v at hset hcamp hrepairs
    generalize s.heldBlocks k h x bs = t at hset
    refine ⟨t, rfl, hset.state, by rw [hset.target]; rfl, hset.blocks, fun r hr => ?_, (hcamp.mono.step hset.change : Changes [.obj, .mbx, .upd] targetAttrs s t).same⟩
    have hrepairing : (t.camp k).repairing = (s.camp k).repairing.filter (fun r => r.1 != h) := by rw [hset.camp]; exact hrepairs
    obtain ⟨_, hother⟩ := List.mem_filter.1 (hrepairing ▸ hr)
    exact bne_iff_ne.1 hother
  · intro s k h x hk hh htarget hruns hst hdue htwin
    have hset : s.Retargets (s.setTarget k h 3 { x with progressAt := s.tim.d3 }) k h 3 { x with progressAt := s.tim.d3 } := State.setTarget_effect hk hh htwin
    have hexec : exec (.campaignTargetReport k h (.digest (s.camp k).digest)) s = .next (s.setTarget k h 3 { x with progressAt := s.tim.d3 }) := by
      refine (execReport_running htarget hruns).trans (congrArg Host.Outcome.next ((if_pos hst).trans ((if_pos rfl).trans (if_neg ?_))))
      have hdue' : (s.setTarget k h 3 { x with progressAt := s.tim.d3 }).activationDue k = false := by
        rw [State.activationDue, hset.camp, State.nowInterval, hset.change.tim]
        exact hdue
      rw [hdue']
      exact Bool.false_ne_true
    exact ⟨_, hexec, hset.state, hset.change.same⟩
  · intro s k h x d hk hh htarget hruns hst hd hfirst htwin
    have hset : s.Retargets (s.setTarget k h 1 { x with held := [], mismatches := 1, progressAt := s.tim.d3 }) k h 1 { x with held := [], mismatches := 1, progressAt := s.tim.d3 } :=
      State.setTarget_effect hk hh htwin
    have hexec : exec (.campaignTargetReport k h (.digest d)) s = .next (s.setTarget k h 1 { x with held := [], mismatches := 1, progressAt := s.tim.d3 }) :=
      (execReport_running htarget hruns).trans (congrArg Host.Outcome.next ((if_pos hst).trans ((if_neg hd).trans (if_pos hfirst))))
    exact ⟨_, hexec, hset.state, by rw [hset.target]; rfl, hset.change.same⟩
  · intro s k h j x y hk hh htarget hruns hst hrole hm hne hj hwaits htwin
    have hset : s.Retargets (s.setTarget k h 5 { x with progressAt := s.tim.d3 }) k h 5 { x with progressAt := s.tim.d3 } := State.setTarget_effect hk hh htwin
    obtain ⟨hmem, hlow⟩ := hset.goesOn hm hne hj hwaits
    have hexec : exec (.campaignTargetReport k h (.running (s.camp k).digest)) s = .next (s.setTarget k h 5 { x with progressAt := s.tim.d3 }) := by
      refine (execReport_running htarget hruns).trans (congrArg Host.Outcome.next ((if_pos hst).trans ?_))
      unfold State.runningReport
      rw [if_neg hrole]
      exact (if_pos rfl).trans (State.campaignCheck_goesOn hmem hlow)
    exact ⟨_, hexec, hset.state, (State.campRuns_congr hset.change hk).trans hruns, hset.change.same⟩
  · intro s k h j x y hk hh htarget hruns hlow hm hne hj hwaits htwin
    obtain ⟨hstate, hrecd, hchange⟩ := State.failTarget_effect (x := x) (cause := 3) hk hh htwin hm hne hj hwaits
    have hexec : exec (.campaignNoProgress k h) s = .next (s.failTarget k h 3 x) := by
      have hrow : exec (.campaignNoProgress k h) s = execCampaignNoProgress k h s := rfl
      rw [hrow, execCampaignNoProgress, htarget]
      exact if_pos ⟨hruns, hlow⟩
    exact ⟨_, hexec, hstate, (State.campRuns_congr hchange hk).trans hruns, hrecd, hchange.same⟩
  · intro s k h x hk hh hruns hdue htargets hst hrole hmode hcut htwin
    have htarget : s.target k h = some x := by
      rw [State.target, htargets]
      exact if_pos rfl
    have hexec : exec (.campaignActivationDue k) s = .next (s.activateTarget k h) := by
      refine (if_pos (by simp [hruns, hdue])).trans (congrArg Host.Outcome.next ?_)
      rw [htargets]
      rfl
    exact ⟨_, hexec, State.activateTarget_effect hk hh htarget hst hrole hmode hcut htwin⟩

end Sys2Proof.Machine
end

section
/-! The blocks of the profile store, its journal, its segments and its copies (R499–R512). -/

namespace Sys2Proof.Machine

variable {s t u : State} {b n target : Nat} {w : MediaWrite}

/-! ### Blocks -/

/-- From `s` to `t` nothing but the blocks of the store and the counts of their pages have changed. -/
structure Media (s t : State) : Prop where
  parts : ∃ (bs : List (Nat × Block)) (p q : Nat), t = { s with sto := { s.sto with blocks := bs, userPages := p, programmed := q } }

theorem Media.refl : Media s s := ⟨_, _, _, rfl⟩

theorem Media.trans (h : Media s t) (h' : Media t u) : Media s u := by
  obtain ⟨_, _, _, rfl⟩ := h
  obtain ⟨_, _, _, rfl⟩ := h'
  exact ⟨_, _, _, rfl⟩

theorem Media.same (h : Media s t) : SameBut [.sto] s t := by
  obtain ⟨_, _, _, rfl⟩ := h
  exact SameBut.refl.set_sto

/-- What the store holds beside its blocks. -/
theorem Media.store (h : Media s t) : t.sto = { s.sto with blocks := t.sto.blocks, userPages := t.sto.userPages, programmed := t.sto.programmed } := by
  obtain ⟨_, _, _, rfl⟩ := h
  rfl

theorem Media.sys (h : Media s t) : t.sys = s.sys := h.same.area .sys

theorem media_setBlock {x : Block} : Media s (s.setBlock b x) := ⟨_, _, _, rfl⟩

@[simp] theorem State.block_setBlock {x : Block} : (s.setBlock b x).block b = x := Assoc.getD_set_same

theorem State.block_setBlock_ne {x : Block} {k : Nat} (h : k ≠ b) : (s.setBlock b x).block k = s.block k := Assoc.getD_set_ne h

theorem State.block_congr {k : Nat} (h : t.sto = s.sto) : t.block k = s.block k := by simp only [State.block, h]

/-- What lets a block be written. -/
def State.writable (s : State) (b n : Nat) : Bool :=
  let x := s.block b
  if x.free then decide (b < s.sto.total) && !x.retired && decide (n ≤ s.sto.pages) && (x.erased || !s.sys.eraseHold) else !x.retired && decide (x.valid + n ≤ s.sto.pages)

theorem State.writeBlock_isSome : (s.writeBlock b n).isSome = s.writable b n := by
  unfold State.writeBlock State.writable State.takeBlock
  dsimp only
  split
  · split <;> grind
  · split <;> grind

theorem State.writeBlock_effect (h : s.writeBlock b n = some t) : Media s t ∧ ∀ k, k ≠ b → t.block k = s.block k := by
  have hset : ∀ x : Block, Media s (s.setBlock b x) ∧ ∀ k, k ≠ b → (s.setBlock b x).block k = s.block k := fun x => ⟨media_setBlock, fun k hk => State.block_setBlock_ne hk⟩
  unfold State.writeBlock State.takeBlock at h
  dsimp only at h
  split at h
  · split at h
    · cases h
    · cases h
      exact hset _
  · split at h
    · cases h
    · cases h
      exact hset _

theorem media_invalidate {x : Nat × Nat} : Media s (s.invalidate x) := by
  unfold State.invalidate
  dsimp only
  split
  · exact .refl
  · exact media_setBlock

theorem Media.foldl {α} {g : State → α → State} {xs : List α} (hg : ∀ t x, Media t (g t x)) : Media s (xs.foldl g s) := by
  induction xs generalizing s with
  | nil => exact .refl
  | cons x xs ih => exact (hg s x).trans ih

theorem State.writeBlocks_none {xs : List (Nat × Nat)} : xs.foldl (fun (t : Option State) x => t.bind (fun t => t.writeBlock x.1 x.2)) none = none := by
  induction xs with
  | nil => rfl
  | cons x xs ih => exact ih

theorem media_writeBlocks {xs : List (Nat × Nat)} (h : xs.foldl (fun (t : Option State) x => t.bind (fun t => t.writeBlock x.1 x.2)) (some s) = some t) : Media s t := by
  induction xs generalizing s with
  | nil =>
    cases h
    exact .refl
  | cons x xs ih =>
    rw [List.foldl_cons, Option.bind_some] at h
    rcases hw : s.writeBlock x.1 x.2 with _ | v
    · rw [hw, State.writeBlocks_none] at h
      cases h
    · rw [hw] at h
      exact (State.writeBlock_effect hw).1.trans (ih h)

theorem media_mediaWrite {all : Bool} (h : s.mediaWrite w all = some t) : Media s t := by
  unfold State.mediaWrite at h
  obtain ⟨v, hv, h⟩ := Option.bind_eq_some_iff.1 h
  dsimp only at h
  split at h
  · cases h
  · have hpages : ∀ x : State, Media x { x with sto := { x.sto with userPages := x.sto.userPages + (w.written.map Prod.snd).sum, programmed := x.sto.programmed + (w.written.map Prod.snd).sum } } :=
      fun x => ⟨_, _, _, rfl⟩
    rw [← Option.some.inj h]
    exact ((media_writeBlocks hv).trans (.foldl fun _ _ => media_invalidate)).trans (hpages _)

/-! ### Copies (R510) -/

theorem State.moveBlock_isSome : (s.moveBlock b target).isSome = (!(b == target || (s.block b).free || (s.block b).retired) && s.writable target (s.block b).valid) := by
  unfold State.moveBlock
  dsimp only
  split
  · next h =>
    have hno : (b == target || (s.block b).free || (s.block b).retired) = true := by simpa [or_assoc] using h
    rw [hno]
    rfl
  · next h =>
    have hyes : (b == target || (s.block b).free || (s.block b).retired) = false := by simpa [not_or, and_assoc] using h
    rw [hyes, Option.isSome_map, State.writeBlock_isSome]
    rfl

/-- What a copy needs is the source, the target, the size of the media and whether erases are held. -/
theorem State.moveBlock_isSome_congr (hsys : t.sys = s.sys) (hsize : t.sto.total = s.sto.total ∧ t.sto.pages = s.sto.pages) (hsource : t.block b = s.block b)
    (htarget : t.block target = s.block target) : (t.moveBlock b target).isSome = (s.moveBlock b target).isSome := by
  simp only [State.moveBlock_isSome, State.writable, hsys, hsize, hsource, htarget]

/-- A copied block is free (R510). -/
theorem State.moveBlock_effect (h : s.moveBlock b target = some t) :
    (t.block b).free = true ∧ (t.block b).valid = 0 ∧ Media s t ∧ ∀ k, k ≠ b → k ≠ target → t.block k = s.block k := by
  unfold State.moveBlock at h
  dsimp only at h
  split at h
  · cases h
  · obtain ⟨v, hv, h⟩ := Option.map_eq_some_iff.1 h
    obtain ⟨hmedia, hkept⟩ := State.writeBlock_effect hv
    have hpages : Media v { v with sto := { v.sto with programmed := v.sto.programmed + (s.block b).valid } } := ⟨_, _, _, rfl⟩
    have hpagesKept : ∀ k, ({ v with sto := { v.sto with programmed := v.sto.programmed + (s.block b).valid } } : State).block k = v.block k := fun _ => rfl
    rw [← h]
    refine ⟨?_, ?_, (hmedia.trans hpages).trans media_setBlock, fun k hb ht => (State.block_setBlock_ne hb).trans ((hpagesKept k).trans (hkept k ht))⟩
    · rw [State.block_setBlock]
      split <;> rfl
    · rw [State.block_setBlock]
      split <;> rfl

/-! ### Health (R528, Table 13-5) -/

theorem sameBut_health {wd i m : Nat} {a : Nat × Nat} : SameBut [.obj, .mbx] s (s.health wd a i m) :=
  (sameBut_bumpSat.mono (by decide) : SameBut [.obj, .mbx] _ _).step sameBut_bumpSat

theorem sameBut_refreshHealth : SameBut [.obj, .mbx] s s.refreshHealth := by
  have hset : ∀ {v : State} {y : Nat × Nat} {i k : Nat}, SameBut [.obj, .mbx] v (v.setNat y i k) := sameBut_setNat.mono (by decide)
  exact (((hset.trans hset).trans hset).trans (.ite .refl hset)).trans (.ite .refl hset)

/-- The posting of an entry changes the gathered entries of the store alone. -/
theorem State.post_store {k : JKind} : ∃ q g, (s.post k).sto = { s.sto with seq := q, gather := g } := by
  unfold State.post
  split
  · exact ⟨_, _, rfl⟩
  · exact ⟨_, _, rfl⟩

/-! ### The journal (R501) -/

theorem State.programJournal_writes (hopen : s.journalOpen = true) (hpage : s.sto.page = []) (hsome : (fillPage 0 s.sto.gather).1 ≠ [])
    (hroom : weight s.sto.ring + weight (fillPage 0 s.sto.gather).1 ≤ s.ringRoom) (hw : s.mediaWrite w true = some t) :
    s.programJournal w = { t with sto := { t.sto with page := (fillPage 0 s.sto.gather).1, gather := (fillPage 0 s.sto.gather).2 } } := by
  unfold State.programJournal
  dsimp only
  rw [if_neg (by simp [hopen, hpage, hsome]; omega), hw]

theorem sameBut_programJournal : SameBut [.sto] s (s.programJournal w) := by
  unfold State.programJournal
  dsimp only
  split
  · exact .refl
  · split
    · exact .refl
    · next t ht => exact (media_mediaWrite ht).same.set_sto

/-- The flights of an identifier have their confirmation of the journal. -/
def State.Confirmed (s : State) (id : Nat) : Prop := ∀ f ∈ s.col.flights, f.id = id → f.journal = true

theorem sameBut_journalFlight {k : JKind} : SameBut [.col] s (s.journalFlight k) := by
  unfold State.journalFlight
  split
  · exact SameBut.refl.set_col
  · exact .refl

theorem State.Confirmed.journalFlight {id : Nat} {k : JKind} (h : s.Confirmed id) : (s.journalFlight k).Confirmed id := by
  unfold State.journalFlight
  split
  · intro f hf hid
    obtain ⟨g, hg, rfl⟩ := List.mem_map.1 hf
    split
    · rfl
    · next hne =>
      rw [if_neg hne] at hid
      exact h g hg hid
  · exact h

theorem State.confirmed_journalFlight {id : Nat} {recs : List NewRec} {mark : Option (Nat × Nat)} : (s.journalFlight (.flight id recs mark)).Confirmed id := by
  intro f hf hid
  obtain ⟨g, hg, rfl⟩ := List.mem_map.1 hf
  split
  · rfl
  · next hne =>
    rw [if_neg hne] at hid
    exact absurd hid hne

/-- What a page confirms stays confirmed (R501). -/
theorem State.confirmed_page {id : Nat} {l : List (Nat × JKind)} (h : s.Confirmed id ∨ ∃ q recs mark, (q, JKind.flight id recs mark) ∈ l) :
    (l.foldl (fun s x => s.journalFlight x.2) s).Confirmed id := by
  induction l generalizing s with
  | nil =>
    rcases h with h | ⟨_, _, _, hm⟩
    · exact h
    · exact absurd hm List.not_mem_nil
  | cons x l ih =>
    refine ih ?_
    rcases h with h | ⟨q, recs, mark, hm⟩
    · exact .inl h.journalFlight
    · rcases List.mem_cons.1 hm with rfl | hm
      · exact .inl State.confirmed_journalFlight
      · exact .inr ⟨q, recs, mark, hm⟩

theorem sameBut_confirmJournal : SameBut [.sto, .col] s s.confirmJournal := by
  have hset : SameBut [.sto, .col] s { s with sto := { s.sto with page := [], ring := s.sto.ring ++ s.sto.page } } := SameBut.refl.set_sto
  exact hset.trans (.foldl fun _ _ => sameBut_journalFlight.mono (by decide))

theorem State.confirmJournal_store : s.confirmJournal.sto = { s.sto with page := [], ring := s.sto.ring ++ s.sto.page } := by
  have hfold : SameBut [.col] { s with sto := { s.sto with page := [], ring := s.sto.ring ++ s.sto.page } } s.confirmJournal := .foldl fun _ _ => sameBut_journalFlight
  exact hfold.area .sto

/-! ### Segments and checkpoints (R499, R504) -/

/-- The base segments of a day that is folded. -/
theorem State.baseSegments {hbs : List Nat} {day hb : Nat} {g : Nat → Nat} {l : List (Nat × Nat)} (h : hb ∈ hbs ∨ Assoc.find (segKey hb day) l = some (g hb)) :
    Assoc.find (segKey hb day) (hbs.foldl (fun l hb => Assoc.put (segKey hb day) (g hb) l) l) = some (g hb) := by
  induction hbs generalizing l with
  | nil => exact h.resolve_left List.not_mem_nil
  | cons x hbs ih =>
    refine ih ?_
    by_cases hx : hb = x
    · exact .inr (hx ▸ Assoc.find_put_same)
    · rcases h with h | h
      · exact .inl ((List.mem_cons.1 h).resolve_left hx)
      · refine .inr ((Assoc.find_put_ne ?_).trans h)
        unfold segKey
        omega

/-- The records of a day do not depend on the blocks. -/
theorem Media.dayCount (h : Media s t) {hb day : Nat} : t.dayCount hb day = s.dayCount hb day := by
  obtain ⟨_, _, _, rfl⟩ := h
  rfl

theorem Media.dayBlocks (h : Media s t) {day : Nat} : t.dayBlocks day = s.dayBlocks day := by
  obtain ⟨_, _, _, rfl⟩ := h
  rfl

theorem sameBut_checkpoint : SameBut [.sto] s (s.checkpoint w) := by
  unfold State.checkpoint
  split
  · exact .refl
  · split
    · exact .refl
    · next t ht => exact (media_mediaWrite ht).same.set_sto

/-- The first checkpoint covers the last committed entry (R504). -/
theorem State.checkpoint_first {x : Nat × JKind} (hopen : s.journalOpen = true) (hw : s.mediaWrite w true = some t) (hlast : t.sto.ring.getLast? = some x) (hnone : t.sto.checkpoints = []) :
    s.checkpoint w = { t with sto := { t.sto with checkpoints := [(x.1, [])], foldedSince := false, ring := t.sto.ring.filter (fun y => !t.mayDrop x.1 y) } } := by
  unfold State.checkpoint
  rw [if_neg (by simp [hopen]), hw]
  dsimp only
  rw [hlast, hnone]
  rfl

/-! ### Folding, copying and wear (R499, R510–R512) -/

/-- The base segments of a day are written, with their format (R499). -/
def State.foldedDay (s : State) (day stored : Nat) : State :=
  let hbs := s.dayBlocks day
  let raw := 32 * (hbs.map (fun hb => s.dayCount hb day)).sum
  let kept := if s.flag Attr.StoreService.compression 0 then min stored raw else raw
  let seg := hbs.foldl (fun l hb => Assoc.put (segKey hb day) (s.dayCount hb day) l) s.sto.segments
  { s with
    sto := { s.sto with
      segments := seg, folded := day :: s.sto.folded, foldedSince := true
      rawBytes := s.sto.rawBytes + raw, storedBytes := s.sto.storedBytes + kept }
    upd := { s.upd with formats := hbs.foldl (fun l hb => Assoc.put (segKey hb day) s.storeFormat l) s.upd.formats } }

theorem execDayFold_due {day stored : Nat} (hopen : s.storeOpen = true) (hset : s.unset = false) (hnew : s.sto.folded.contains day = false)
    (hdue : (day + 1) * 86400 + s.nat Attr.StoreService.foldDelayH 0 * 3600 ≤ s.serviceSec) (hw : s.mediaWrite w false = some t) :
    exec (.dayFold day stored w) s = .next (((t.foldedDay day stored).post .map).refreshHealth) := by
  have hrow : exec (.dayFold day stored w) s = execDayFold day stored w s := rfl
  rw [hrow, execDayFold, hopen, hset, hnew, if_neg (by simpa using hdue), hw]
  rfl

theorem State.foldedDay_effect {day stored : Nat} (h : Media s t) :
    day ∈ (t.foldedDay day stored).sto.folded ∧ (t.foldedDay day stored).sto.foldedSince = true ∧ (t.foldedDay day stored).sto.records = s.sto.records ∧
      (∀ hb ∈ s.dayBlocks day, Assoc.find (segKey hb day) (t.foldedDay day stored).sto.segments = some (s.dayCount hb day)) ∧ SameBut [.sto, .upd] s (t.foldedDay day stored) := by
  have hsame : SameBut [.sto, .upd] t (t.foldedDay day stored) := by simp [SameBut, State.foldedDay]
  refine ⟨List.mem_cons_self, rfl, (congrArg Store.records h.store :), fun hb hmem => ?_, (h.same.mono (by decide)).trans hsame⟩
  rw [← h.dayBlocks] at hmem
  rw [← h.dayCount]
  exact State.baseSegments (g := fun hb => t.dayCount hb day) (.inl hmem)

/-- A block that is retired holds nothing, and the others are as they were (R516). -/
theorem State.retire_effect {cause : Nat} : ((s.retire b cause).block b).retired = true ∧ (∀ k, k ≠ b → (s.retire b cause).block k = s.block k) ∧
    (s.retire b cause).sto = { s.sto with blocks := (s.retire b cause).sto.blocks } ∧ SameBut [.sto, .obj, .mbx, .recd] s (s.retire b cause) := by
  have hset : SameBut [.sto] s (s.setBlock b { s.block b with retired := true, free := false, valid := 0 }) := media_setBlock.same
  have hown : ((s.setBlock b { s.block b with retired := true, free := false, valid := 0 }).block b).retired = true := congrArg Block.retired State.block_setBlock
  have hothers : ∀ k, k ≠ b → (s.setBlock b { s.block b with retired := true, free := false, valid := 0 }).block k = s.block k := fun k hk => State.block_setBlock_ne hk
  have hstore : (s.setBlock b { s.block b with retired := true, free := false, valid := 0 }).sto =
    { s.sto with blocks := (s.setBlock b { s.block b with retired := true, free := false, valid := 0 }).sto.blocks } := rfl
  unfold State.retire
  dsimp only
  generalize s.setBlock b { s.block b with retired := true, free := false, valid := 0 } = v at hset hown hothers hstore
  have hcount : SameBut [.obj, .mbx] v (v.health 32 Attr.StoreHealth.retiredBlocks b) := sameBut_health
  generalize v.health 32 Attr.StoreHealth.retiredBlocks b = x at hcount
  have hcause : SameBut [.obj, .mbx] x (if cause = 0 then x.health 32 Attr.StoreHealth.eraseFails b else if cause = 1 then x.health 32 Attr.StoreHealth.programFails b else x) :=
    .ite sameBut_health (.ite sameBut_health .refl)
  generalize (if cause = 0 then x.health 32 Attr.StoreHealth.eraseFails b else if cause = 1 then x.health 32 Attr.StoreHealth.programFails b else x) = y at hcause
  have hraise : SameBut [.recd] y (y.raise 0x0F04 storePath [(b : Int), (cause : Int)]) := sameBut_raise
  generalize y.raise 0x0F04 storePath [(b : Int), (cause : Int)] = z at hraise
  have hlast : SameBut [.obj, .mbx, .recd] v z.refreshHealth := (((hcount.trans hcause).mono (by decide)).step hraise).step sameBut_refreshHealth
  have hsto : z.refreshHealth.sto = v.sto := hlast.area .sto
  refine ⟨by rw [State.block_congr hsto, hown], fun k hk => by rw [State.block_congr hsto, hothers k hk], ?_, (hset.mono (by decide)).trans (hlast.mono (by decide))⟩
  rw [hsto]
  exact hstore

/-- Settles O8: a write touches the blocks alone, so each row shows what it does beside the blocks; a copy needs its source, its target and the media. -/
theorem storeJournalAndCopies : Obligations.StoreJournalAndCopies := by
  refine ⟨?program, ?confirm, ?fold, ?merge, ?checkpoint, ?collect, ?restart, ?wear⟩
  case program =>
    intro s w hopen hpage hsome hroom hwrite
    obtain ⟨t, ht⟩ := Option.isSome_iff_exists.1 hwrite
    have hmedia := media_mediaWrite ht
    have hstore := hmedia.store
    have hrun : exec (.journalProgram w) s = .next (s.programJournal w) := rfl
    rw [hrun, State.programJournal_writes hopen hpage hsome hroom ht]
    exact ⟨_, rfl, rfl, rfl, (congrArg Store.ring hstore :), hmedia.same.set_sto⟩
  case confirm =>
    intro s
    have hstore := State.confirmJournal_store (s := s)
    refine ⟨s.confirmJournal, rfl, (congrArg Store.page hstore :), (congrArg Store.ring hstore :), (congrArg Store.gather hstore :), ?_, sameBut_confirmJournal⟩
    intro q id recs mark hmem
    exact State.confirmed_page (.inr ⟨q, recs, mark, hmem⟩)
  case fold =>
    intro s day stored w hopen hset hnew hdue hwrite
    obtain ⟨t, ht⟩ := Option.isSome_iff_exists.1 hwrite
    have hrun := execDayFold_due (stored := stored) hopen hset hnew hdue ht
    obtain ⟨hfolded, hsince, hrecords, hsegments, hsame⟩ := State.foldedDay_effect (day := day) (stored := stored) (media_mediaWrite ht)
    generalize t.foldedDay day stored = u at hrun hfolded hsince hrecords hsegments hsame
    obtain ⟨q, g, hpost⟩ := State.post_store (s := u) (k := .map)
    have hposted : SameBut [.sto, .twn] u (u.post .map) := sameBut_post
    generalize u.post .map = v at hrun hpost hposted
    have hhealth : SameBut [.obj, .mbx] v v.refreshHealth := sameBut_refreshHealth
    have hkept : v.refreshHealth.sto = v.sto := hhealth.area .sto
    have hsto : v.refreshHealth.sto = { u.sto with seq := q, gather := g } := hkept.trans hpost
    refine ⟨_, hrun, ?_, (congrArg Store.foldedSince hsto).trans hsince, (congrArg Store.records hsto).trans hrecords, fun hb hmem => ?_,
      ((hsame.mono (by decide)).step hposted).step hhealth⟩
    · rw [hsto]
      exact hfolded
    · rw [hsto]
      exact hsegments hb hmem
  case merge =>
    intro s hb day base w hfind hopen hdelta hwrite
    obtain ⟨t, ht⟩ := Option.isSome_iff_exists.1 hwrite
    have hmedia := media_mediaWrite ht
    let u : State := { t with sto := { t.sto with segments := Assoc.put (segKey hb day) (t.dayCount hb day) t.sto.segments },
                              upd := { t.upd with formats := Assoc.put (segKey hb day) t.storeFormat t.upd.formats } }
    have hrun : exec (.deltaMerge hb day w) s = .next (u.post .map) := by
      have hrow : exec (.deltaMerge hb day w) s = execDeltaMerge hb day w s := rfl
      rw [hrow, execDeltaMerge, hfind]
      dsimp only
      rw [if_pos ⟨hopen, hdelta⟩, ht]
    have hu : SameBut [.sto, .upd] t u := by simp [SameBut, u]
    have hsegment : Assoc.find (segKey hb day) u.sto.segments = some (s.dayCount hb day) := Assoc.find_put_same.trans (congrArg some hmedia.dayCount)
    have hrecords : u.sto.records = s.sto.records := (congrArg Store.records hmedia.store :)
    generalize u = u at hrun hu hsegment hrecords
    obtain ⟨q, g, hpost⟩ := State.post_store (s := u) (k := .map)
    refine ⟨_, hrun, ?_, (congrArg Store.records hpost).trans hrecords, ((hmedia.same.mono (by decide)).trans (hu.mono (by decide))).step sameBut_post⟩
    rw [hpost]
    exact hsegment
  case checkpoint =>
    intro s w x hopen hwrite hlast hnone
    obtain ⟨t, ht⟩ := Option.isSome_iff_exists.1 hwrite
    have hmedia := media_mediaWrite ht
    have hstore := hmedia.store
    have hring : t.sto.ring = s.sto.ring := (congrArg Store.ring hstore :)
    have hcps : t.sto.checkpoints = s.sto.checkpoints := (congrArg Store.checkpoints hstore :)
    have hrun : exec (.checkpoint w) s = .next (s.checkpoint w) := rfl
    rw [hrun, State.checkpoint_first hopen ht (hring ▸ hlast) (hcps ▸ hnone)]
    refine ⟨_, rfl, rfl, rfl, fun y hy => ?_, fun y hy hlater => ?_, hmedia.same.set_sto⟩
    · obtain ⟨hmem, _⟩ := List.mem_filter.1 hy
      exact hring ▸ hmem
    · refine List.mem_filter.2 ⟨hring ▸ hy, ?_⟩
      simp [State.mayDrop, hlater]
  case collect =>
    intro s target v hopen hstarts hbelow hvictim hmove
    obtain ⟨t, ht⟩ := Option.isSome_iff_exists.1 hmove
    obtain ⟨hfree, hvalid, hmedia, _⟩ := State.moveBlock_effect ht
    let u : State := { t with sto := { t.sto with collecting := decide (t.freeOutside < t.goodShare t.gcTarget) } }
    have hrun : exec (.garbageCollect target) s = .next u.refreshHealth := by
      have hrow : exec (.garbageCollect target) s = execGarbageCollect target s := rfl
      rw [hrow, execGarbageCollect]
      dsimp only
      rw [hstarts, if_neg (by simp [hopen]; omega), hvictim]
      dsimp only
      rw [ht]
    have hu : SameBut [.sto] t u := SameBut.refl.set_sto
    have hblock : u.block v.1 = t.block v.1 := rfl
    have hrecords : u.sto.records = s.sto.records := (congrArg Store.records hmedia.store :)
    generalize u = u at hrun hu hblock hrecords
    have hhealth : SameBut [.obj, .mbx] u u.refreshHealth := sameBut_refreshHealth
    have hsto : u.refreshHealth.sto = u.sto := hhealth.area .sto
    exact ⟨_, hrun, by rw [State.block_congr hsto, hblock, hfree], by rw [State.block_congr hsto, hblock, hvalid], (congrArg Store.records hsto).trans hrecords,
      ((hmedia.same.trans hu).mono (by decide)).step hhealth⟩
  case restart =>
    intro s source failed target hopen hin hgood hfailedFree hsourceFull hsourceGood hother hmove
    have hne : source ≠ failed := fun h => by simp [h, hfailedFree] at hsourceFull
    obtain ⟨hretired, hothers, hstore, hsame⟩ := State.retire_effect (s := s) (b := failed) (cause := 1)
    have hraised : SameBut [.recd] (s.retire failed 1) ((s.retire failed 1).raise 0x0F05 storePath [(target : Int)]) := sameBut_raise
    have hsto : ((s.retire failed 1).raise 0x0F05 storePath [(target : Int)]).sto = (s.retire failed 1).sto := hraised.area .sto
    have hrun : exec (.gcCopyRestart source failed target) s = match ((s.retire failed 1).raise 0x0F05 storePath [(target : Int)]).moveBlock source target with
        | none => .next ((s.retire failed 1).raise 0x0F05 storePath [(target : Int)])
        | some t => .next t.refreshHealth := by
      have hrow : exec (.gcCopyRestart source failed target) s = execGcCopyRestart source failed target s := rfl
      rw [hrow, execGcCopyRestart]
      dsimp only
      rw [if_neg (by simp [hopen, hgood, hfailedFree, hsourceFull, hsourceGood, hother]; omega)] <;> rfl
    generalize (s.retire failed 1).raise 0x0F05 storePath [(target : Int)] = v at hrun hraised hsto
    generalize s.retire failed 1 = r at hretired hothers hstore hsame hraised hsto
    have hsv : SameBut [.sto, .obj, .mbx, .recd] s v := hsame.step hraised
    have hsys : v.sys = s.sys := hsv.area .sys
    have hblock : ∀ k, v.block k = r.block k := fun k => State.block_congr hsto
    have hsize : v.sto.total = s.sto.total ∧ v.sto.pages = s.sto.pages := by
      rw [hsto, hstore]
      exact ⟨rfl, rfl⟩
    have hmoves : (v.moveBlock source target).isSome = true :=
      (State.moveBlock_isSome_congr hsys hsize ((hblock source).trans (hothers source hne)) ((hblock target).trans (hothers target hother.symm))).trans hmove
    obtain ⟨t, ht⟩ := Option.isSome_iff_exists.1 hmoves
    obtain ⟨hfree, _, hmedia, hkept⟩ := State.moveBlock_effect ht
    rw [ht] at hrun
    have hhealth : SameBut [.obj, .mbx] t t.refreshHealth := sameBut_refreshHealth
    have htsto : t.refreshHealth.sto = t.sto := hhealth.area .sto
    have hrecords : t.sto.records = v.sto.records := (congrArg Store.records hmedia.store :)
    refine ⟨_, hrun, ?_, by rw [State.block_congr htsto, hfree], ?_, (hsv.step hmedia.same).step hhealth⟩
    · rw [State.block_congr htsto, hkept failed hne.symm hother, hblock, hretired]
    · rw [htsto, hrecords, hsto, hstore]
  case wear =>
    intro s source target hopen hfew hspread hmore hleast hmove
    obtain ⟨t, ht⟩ := Option.isSome_iff_exists.1 hmove
    obtain ⟨hfree, hvalid, hmedia, _⟩ := State.moveBlock_effect ht
    have hrun : exec (.wearLevel source target) s = .next t.refreshHealth := by
      have hrow : exec (.wearLevel source target) s = execWearLevel source target s := rfl
      rw [hrow, execWearLevel]
      rw [if_pos hfew, if_pos ⟨hopen, by rwa [Nat.sub_zero], hmore, hleast⟩, ht]
    have hhealth : SameBut [.obj, .mbx] t t.refreshHealth := sameBut_refreshHealth
    have hsto : t.refreshHealth.sto = t.sto := hhealth.area .sto
    have hrecords : t.sto.records = s.sto.records := (congrArg Store.records hmedia.store :)
    exact ⟨_, hrun, by rw [State.block_congr hsto, hfree], by rw [State.block_congr hsto, hvalid], (congrArg Store.records hsto).trans hrecords,
      (hmedia.same.mono (by decide)).step hhealth⟩

end Sys2Proof.Machine
end

section
/-! Refresh, retirement, retention and reading of the profile store (R497, R514–R520, R525, R526). -/

namespace Sys2Proof.Machine

variable {s t u : State} {c : Cmd} {b n h day target : Nat} {w : MediaWrite}

/-! ### Refresh and repair (R497, R517) -/

/-- A block that moves is relocated and counted (R517). -/
theorem State.refreshBlock_effect (hmove : (s.moveBlock b target).isSome = true) : ((s.refreshBlock b target).block b).free = true ∧ ((s.refreshBlock b target).block b).valid = 0 ∧
    (s.refreshBlock b target).sto.records = s.sto.records ∧ SameBut [.sto, .obj, .mbx] s (s.refreshBlock b target) := by
  obtain ⟨t, ht⟩ := Option.isSome_iff_exists.1 hmove
  obtain ⟨hfree, hvalid, hmedia, _⟩ := State.moveBlock_effect ht
  have hrefresh : s.refreshBlock b target = (t.health 64 Attr.StoreHealth.refreshes b).refreshHealth := by
    unfold State.refreshBlock
    rw [ht]
  have hhealth : SameBut [.obj, .mbx] t (t.health 64 Attr.StoreHealth.refreshes b).refreshHealth := sameBut_health.trans sameBut_refreshHealth
  have hsto : (t.health 64 Attr.StoreHealth.refreshes b).refreshHealth.sto = t.sto := hhealth.area .sto
  have hrecords : t.sto.records = s.sto.records := (congrArg Store.records hmedia.store :)
  rw [hrefresh]
  exact ⟨by rw [State.block_congr hsto, hfree], by rw [State.block_congr hsto, hvalid], (congrArg Store.records hsto).trans hrecords, (hmedia.same.mono (by decide)).step hhealth⟩

theorem execBlockRefresh_retried {reads age : Nat} (hopen : s.cutOff 15 0 = false) :
    exec (.blockRefresh b reads 0 age 0 true target) s = .next ((s.health 64 Attr.StoreHealth.retries b).refreshBlock b target) := by
  have hrow : exec (.blockRefresh b reads 0 age 0 true target) s = execBlockRefresh b reads 0 age 0 true target s := rfl
  rw [hrow, execBlockRefresh, hopen]
  rfl

/-- The records that a segment loses (R497). -/
def lostKeys (hb day : Nat) (keys : List Nat) : List Nat := keys.filter (fun k => k / 2 ^ 32 / 1024 == hb && k % 2 ^ 32 / 96 == day)

theorem mem_lostKeys {hb k : Nat} {keys : List Nat} : k ∈ lostKeys hb day keys ↔ k ∈ keys ∧ k / 2 ^ 32 / 1024 = hb ∧ k % 2 ^ 32 / 96 = day := by
  simp [lostKeys]

/-- A segment without another copy loses its records. -/
def State.losesSegment (s : State) (hb day : Nat) (keys : List Nat) : State :=
  { s with sto := { s.sto with records := s.sto.records.filter (fun x => !(lostKeys hb day keys).contains x.1),
                               lost := segKey hb day :: s.sto.lost.filter (fun x => x != segKey hb day) } }

theorem execMediaRepair_row {hb : Nat} {keys : List Nat} {copy : Bool} (hopen : s.cutOff 15 0 = false) (hseg : Assoc.has (segKey hb day) s.sto.segments = true) :
    exec (.mediaRepair b hb day copy keys) s = .next (if copy then (s.health 32 Attr.StoreHealth.uncorrectable b).raise 0x0F0B storePath [(hb : Int), (day : Int)]
      else ((s.health 32 Attr.StoreHealth.uncorrectable b).losesSegment hb day keys).raise 0x0F0C storePath [(hb : Int), (day : Int)]) := by
  have hrow : exec (.mediaRepair b hb day copy keys) s = execMediaRepair b hb day copy keys s := rfl
  rw [hrow, execMediaRepair, if_neg (by simp [hopen, hseg])]
  cases copy <;> rfl

/-! ### Reserve and release (R514, R518, R519) -/

theorem State.mediaReserve_enters (hopen : s.storeOpen = true) (hfull : s.freeOutside = 0) (herase : s.sys.eraseHold = false) :
    s.mediaReserve.nat Attr.StoreService.mediaState 0 = 2 ∧ s.mediaReserve.sto.collecting = false ∧ s.mediaReserve.sto.records = s.sto.records := by
  have hreserve : s.mediaReserve = ({ s.setNat Attr.StoreService.mediaState 0 2 with sto := { s.sto with collecting := false } } : State).raise 0x0F06 storePath [1] :=
    if_pos ⟨hopen, hfull, by simp [herase]⟩
  rw [hreserve]
  have hstate : (s.setNat Attr.StoreService.mediaState 0 2).nat Attr.StoreService.mediaState 0 = 2 := State.nat_setNat
  exact ⟨hstate, rfl, rfl⟩

theorem State.mediaReserve_kept : s.mediaReserve.sto.records = s.sto.records ∧ s.mediaReserve.sto.releasedTo = s.sto.releasedTo ∧
    SameBut [.sto, .obj, .mbx, .recd] s s.mediaReserve := by
  have hset : ∀ k, SameBut [.sto, .obj, .mbx, .recd] s (s.setNat Attr.StoreService.mediaState 0 k) := fun k => sameBut_setNat.mono (by decide)
  have hsto : ∀ k, (s.setNat Attr.StoreService.mediaState 0 k).sto = s.sto := fun k => State.setNat_sto
  unfold State.mediaReserve
  split
  · have hraise : SameBut [.sto, .obj, .mbx, .recd] s (({ s.setNat Attr.StoreService.mediaState 0 2 with sto := { s.sto with collecting := false } } : State).raise 0x0F06 storePath [1]) :=
      ((hset 2).set_sto).step sameBut_raise
    exact ⟨rfl, rfl, hraise⟩
  · split
    · have hraise : SameBut [.sto, .obj, .mbx, .recd] s ((s.setNat Attr.StoreService.mediaState 0 1).raise 0x0F06 storePath [0]) := (hset 1).step sameBut_raise
      exact ⟨congrArg Store.records (hsto 1), congrArg Store.releasedTo (hsto 1), hraise⟩
    · exact ⟨rfl, rfl, .refl⟩

/-- What a release leaves of the records (R518). -/
theorem State.release_effect : (s.release day w).sto.records = s.sto.records.filter (fun x => decide (day < x.1 % 2 ^ 32 / 96)) ∧
    (s.release day w).sto.releasedTo = max s.sto.releasedTo (day + 1) ∧ SameBut [.sto, .twn] s (s.release day w) := by
  have hmedia : Media s (w.invalid.foldl State.invalidate s) := .foldl fun _ _ => media_invalidate
  have hrecords : (w.invalid.foldl State.invalidate s).sto.records = s.sto.records := (congrArg Store.records hmedia.store :)
  have hreleased : (w.invalid.foldl State.invalidate s).sto.releasedTo = s.sto.releasedTo := (congrArg Store.releasedTo hmedia.store :)
  unfold State.release
  dsimp only
  rw [hrecords, hreleased]
  generalize w.invalid.foldl State.invalidate s = v at hmedia
  generalize hx : ({ v.sto with
      records := s.sto.records.filter (fun x => decide (day < x.1 % 2 ^ 32 / 96))
      segments := v.sto.segments.filter (fun x => decide (day < x.1 % 2 ^ 32))
      peers := v.sto.peers.filter (fun x => decide (day < x.1 % 2 ^ 32))
      lost := v.sto.lost.filter (fun x => decide (day < x % 2 ^ 32))
      folded := v.sto.folded.filter (fun d => decide (day < d))
      releasedTo := max s.sto.releasedTo (day + 1) } : Store) = x
  have hset : SameBut [.sto, .twn] s { v with sto := x } := (hmedia.same.mono (by decide)).set_sto
  obtain ⟨q, g, hpost⟩ := State.post_store (s := { v with sto := x }) (k := .map)
  have hxr : x.records = s.sto.records.filter (fun x => decide (day < x.1 % 2 ^ 32 / 96)) := (congrArg Store.records hx :).symm
  have hxt : x.releasedTo = max s.sto.releasedTo (day + 1) := (congrArg Store.releasedTo hx :).symm
  exact ⟨(congrArg Store.records hpost).trans hxr, (congrArg Store.releasedTo hpost).trans hxt, hset.step sameBut_post⟩

/-! ### Reading (R525, R526) -/

theorem length_recBytes {i : Nat} {r : IRec} : (recBytes h i r).length = 32 := by
  simp [recBytes, List.length_flatMap]

theorem length_readRecords {l : List (Nat × IRec)} : (l.flatMap (fun x => recBytes h x.1 x.2)).length = 32 * l.length := by
  induction l with
  | nil => rfl
  | cons x l ih =>
    rw [List.flatMap_cons, List.length_append, ih, length_recBytes, List.length_cons]
    ring

theorem doProfileRead_intact {g : List (Nat × IRec) × Bool} (htarget : c.target 0x0B10 = some h) (hcount : 1 ≤ field c.payload 4 2 ∧ field c.payload 4 2 ≤ 32768)
    (hflags : octet c.payload 6 < 4) (hzero : octet c.payload 7 = 0)
    (his : (s.sto.records.filter (fun x => x.1 / 2 ^ 32 == h && decide (field c.payload 0 4 ≤ x.1 % 2 ^ 32) &&
      decide (x.1 % 2 ^ 32 < field c.payload 0 4 + field c.payload 4 2))).map (fun x => x.1 % 2 ^ 32) ≠ [])
    (hg : gatherRecords (fun i => s.readVersions h i (bit (octet c.payload 6) 0) (bit (octet c.payload 6) 1)) h
      ((s.sto.records.filter (fun x => x.1 / 2 ^ 32 == h && decide (field c.payload 0 4 ≤ x.1 % 2 ^ 32) &&
        decide (x.1 % 2 ^ 32 < field c.payload 0 4 + field c.payload 4 2))).map (fun x => x.1 % 2 ^ 32)) 0 [] = g)
    (hlost : s.sto.lost = []) (hpeers : s.sto.peers = []) :
    doProfileRead c s = (⟨.ok, leBytes 4 g.1.length ++ leBytes 1 (4 * b2n (decide (field c.payload 0 4 / 96 < s.sto.releasedTo)) + 8 * b2n g.2) ++ leBytes 3 0 ++
      g.1.reverse.flatMap (fun x => recBytes h x.1 x.2)⟩, s) := by
  unfold doProfileRead
  rw [htarget]
  dsimp only
  rw [if_neg (by omega), if_neg his, hg, hlost, hpeers]
  simp [b2n]

/-- GC_BOOST asks the arbiter for its activity (R515). -/
theorem doGcBoost_asks (hstop : s.nat Attr.StoreService.gcStopPct 0 ≤ octet c.payload 0) (hshare : octet c.payload 0 ≤ 40) (hmins : 1 ≤ field c.payload 1 2)
    (hlong : field c.payload 1 2 ≤ 1440) (hzero : octet c.payload 3 = 0) :
    doGcBoost c s = (⟨decisionStatus (s.requestCmd c 2 0).1 .accepted, []⟩, if (s.requestCmd c 2 0).1 = .admitted then
      { (s.requestCmd c 2 0).2 with sto := { (s.requestCmd c 2 0).2.sto with boost := some (octet c.payload 0) } } else (s.requestCmd c 2 0).2) := by
  unfold doGcBoost
  dsimp only
  rw [if_neg (by omega)]

/-- Settles O9: what each row relocates, retires, loses or releases, by the lemmas on blocks, and the answer of a read where nothing of it is lost or held by a peer. -/
theorem storeRetentionAndReads : Obligations.StoreRetentionAndReads := by
  refine ⟨?refresh, ?retired, ?lost, ?rewritten, ?reserve, ?retention, ?rolled, ?worn, ?boost, ?read⟩
  case refresh =>
    intro s b reads age target hopen hmove
    have hcount : SameBut [.obj, .mbx] s (s.health 64 Attr.StoreHealth.retries b) := sameBut_health
    have hrun := execBlockRefresh_retried (b := b) (target := target) (reads := reads) (age := age) hopen
    generalize s.health 64 Attr.StoreHealth.retries b = v at hcount hrun
    have hsto : v.sto = s.sto := hcount.area .sto
    have hmoves : (v.moveBlock b target).isSome = true :=
      (State.moveBlock_isSome_congr (hcount.area .sys) (by rw [hsto]; exact ⟨rfl, rfl⟩) (State.block_congr hsto) (State.block_congr hsto)).trans hmove
    obtain ⟨hfree, hvalid, hrecords, hsame⟩ := State.refreshBlock_effect hmoves
    exact ⟨_, hrun, hfree, hvalid, hrecords.trans (by rw [hsto]), (hcount.mono (by decide)).trans hsame⟩
  case retired =>
    intro s b cause target hopen hin hgood hempty
    obtain ⟨hretired, hothers, hstore, hsame⟩ := State.retire_effect (s := s) (b := b) (cause := cause)
    have hrun : exec (.blockRetired b cause target) s = .next (s.retire b cause) :=
      (if_neg (by simp [hopen, hgood]; omega)).trans (if_pos hempty)
    exact ⟨_, hrun, hretired, hothers, by rw [hstore], hsame⟩
  case lost =>
    intro s b hb day keys hopen hseg
    have hcount : SameBut [.obj, .mbx] s (s.health 32 Attr.StoreHealth.uncorrectable b) := sameBut_health
    have hrun := execMediaRepair_row (b := b) (keys := keys) (copy := false) hopen hseg
    rw [if_neg Bool.false_ne_true] at hrun
    generalize s.health 32 Attr.StoreHealth.uncorrectable b = v at hcount hrun
    have hsto : v.sto = s.sto := hcount.area .sto
    have hset : SameBut [.sto] v (v.losesSegment hb day keys) := SameBut.refl.set_sto
    have hlost : segKey hb day ∈ (v.losesSegment hb day keys).sto.lost := List.mem_cons_self
    have hrecords : (v.losesSegment hb day keys).sto.records = v.sto.records.filter (fun x => !(lostKeys hb day keys).contains x.1) := rfl
    generalize v.losesSegment hb day keys = u at hrun hset hlost hrecords
    refine ⟨_, hrun, hlost, fun x hx => ?_, ((hcount.mono (by decide)).step hset).step sameBut_raise⟩
    rw [State.raise_sto, hrecords, hsto, List.mem_filter, ← mem_lostKeys]
    simp [hx]
  case rewritten =>
    intro s b hb day keys hopen hseg
    have hcount : SameBut [.obj, .mbx] s (s.health 32 Attr.StoreHealth.uncorrectable b) := sameBut_health
    have hrun := execMediaRepair_row (b := b) (keys := keys) (copy := true) hopen hseg
    rw [if_pos rfl] at hrun
    generalize s.health 32 Attr.StoreHealth.uncorrectable b = v at hcount hrun
    have hall : SameBut [.obj, .mbx, .recd] s (v.raise 0x0F0B storePath [(hb : Int), (day : Int)]) := (hcount.mono (by decide)).step sameBut_raise
    exact ⟨_, hrun, hall.area .sto, hall⟩
  case reserve =>
    intro s hopen hfull herase
    obtain ⟨hstate, hcollect, hrecords⟩ := State.mediaReserve_enters hopen hfull herase
    obtain ⟨_, _, hsame⟩ := State.mediaReserve_kept (s := s)
    exact ⟨s.mediaReserve, rfl, hstate, hcollect, hrecords, hsame⟩
  case retention =>
    intro s day w hopen hold
    obtain ⟨hrecords, hreleased, hsame⟩ := State.release_effect (s := s) (day := day) (w := w)
    have hrun : exec (.retentionRelease day w) s = .next (s.release day w).mediaReserve := if_neg (by simp [hopen]; omega)
    generalize s.release day w = v at hrecords hreleased hsame hrun
    obtain ⟨hkeptR, hkeptT, hkept⟩ := State.mediaReserve_kept (s := v)
    exact ⟨_, hrun, hkeptR.trans hrecords, hkeptT.trans hreleased, (hsame.mono (by decide)).step hkept⟩
  case rolled =>
    intro s hb day d accepting w hopen herase hfull hpolicy hstate hold hlong
    obtain ⟨hrecords, hreleased, hsame⟩ := State.release_effect (s := s) (day := d) (w := w)
    have hrun : exec (.writeSpaceExhausted false hb day accepting w) s = .next ((s.release d w).raise 0x0F07 storePath [(d : Int)]).mediaReserve := by
      have hrow : exec (.writeSpaceExhausted false hb day accepting w) s = execWriteSpaceExhausted false hb day accepting w s := rfl
      have hday : (s.oldestDay).filter (fun d => decide (d + s.nat Attr.BillingService.minRetentionDays 0 < s.today)) = some d := by
        rw [hold, Option.filter_some, decide_eq_true hlong, if_pos rfl]
      rw [hrow, execWriteSpaceExhausted, if_neg (by simp [hopen, herase, hfull])]
      dsimp only
      rw [if_pos ⟨hpolicy, hstate⟩, hday]
    have hraise : SameBut [.recd] (s.release d w) ((s.release d w).raise 0x0F07 storePath [(d : Int)]) := sameBut_raise
    generalize (s.release d w).raise 0x0F07 storePath [(d : Int)] = x at hraise hrun
    have hsto : x.sto = (s.release d w).sto := hraise.area .sto
    obtain ⟨hkeptR, hkeptT, hkept⟩ := State.mediaReserve_kept (s := x)
    exact ⟨_, hrun, hkeptR.trans ((congrArg Store.records hsto).trans hrecords), hkeptT.trans ((congrArg Store.releasedTo hsto).trans hreleased),
      ((hsame.mono (by decide)).step hraise).step hkept⟩
  case worn =>
    intro s hopen hmedia hspare
    have hrun : exec .endOfLife s = .next ((s.setNat Attr.StoreService.mediaState 0 3).raise 0x0F0A storePath [(s.spareLeft : Int)]) := by
      have hrow : exec .endOfLife s = execEndOfLife s := rfl
      rw [hrow, execEndOfLife, if_pos ⟨hopen, hmedia, hspare⟩]
    have hset : SameBut [.obj, .mbx] s (s.setNat Attr.StoreService.mediaState 0 3) := sameBut_setNat.mono (by decide)
    have hstate : (s.setNat Attr.StoreService.mediaState 0 3).nat Attr.StoreService.mediaState 0 = 3 := State.nat_setNat
    generalize s.setNat Attr.StoreService.mediaState 0 3 = v at hrun hset hstate
    have hall : SameBut [.obj, .mbx, .recd] s (v.raise 0x0F0A storePath [(s.spareLeft : Int)]) := (hset.mono (by decide)).step sameBut_raise
    exact ⟨_, hrun, (State.nat_congr State.raise_obj _ _).trans hstate, hall.area .sto, hall⟩
  case boost =>
    intro s c n hs ho hstop hshare hmins hlong hzero hadm hdef
    let a : Activity := { kind := 2, arrival := c.arrival, internal := false, unit := 0, session := c.session, path := c.path, arg := c.payload.take 16 }
    have hreq : s.pop.requestCmd c 2 0 = (.admitted, s.pop.admitActivity a) := State.arbitrate_free hadm hdef
    have hbody := doGcBoost_asks (s := s.pop) hstop hshare hmins hlong hzero
    rw [hreq, if_pos rfl] at hbody
    have hadmit : Changes [.fcr, .recd] [] s.pop (s.pop.admitActivity a) := .of_same sameBut_admitActivity
    have hfcr : (s.pop.admitActivity a).fcr.admitted = [a] := congrArg (· ++ [a]) hadm
    generalize s.pop.admitActivity a = v at hbody hadmit hfcr
    have hset : Changes [.sto] [] v { v with sto := { v.sto with boost := some (octet c.payload 0) } } := .of_same SameBut.refl.set_sto
    have hall : Changes [.mbx, .fcr, .sto, .recd] [] s.pop { v with sto := { v.sto with boost := some (octet c.payload 0) } } := hadmit.mono.step hset
    obtain ⟨t, hrun, rfl, hans⟩ := hs.completes ho hbody (hall.poised s ⟨rfl, rfl, rfl⟩) (Nat.zero_le _)
    refine ⟨_, hrun, hans, congrArg Store.boost State.finish_sto, ⟨a, ?_, rfl, rfl⟩, hall.finished⟩
    rw [State.finish_fcr, hfcr]
    exact List.mem_singleton_self a
  case read =>
    intro s c n h g hs ho htarget hlow hhigh hflags hzero
    dsimp only
    intro his hg hlost hpeers hfew
    have hbody := doProfileRead_intact (s := s.pop) htarget ⟨hlow, hhigh⟩ hflags hzero his hg hlost hpeers
    refine State.Serves.completes_unchanged (b := doProfileRead) hs ho hbody ?_
    dsimp only
    simp only [List.length_append, leBytes_length, length_readRecords, List.length_reverse]
    omega

end Sys2Proof.Machine
end

section
/-! Modes and supply dips (R100, R102, R104–R107, R111, R115–R117, R751, R752). -/

namespace Sys2Proof.Machine

variable {s t u v : State} {c : Cmd} {n : Nat} {m : Mode} {trig : Nat}

/-! ### What a boundary changes (R378–R385) -/

/-- The areas of a boundary's execution. -/
abbrev boundaryAreas : List Area := [.obj, .mbx, .bil, .recd, .sto, .twn]

theorem sameBut_boundaryDone {k i p fl : Nat} : SameBut boundaryAreas s (s.boundaryDone k i p fl) := by
  have hset : ∀ {v : State} {y : Nat × Nat} {j x : Nat}, SameBut [.mbx, .obj] v (v.setNat y j x) := sameBut_setNat
  have hattrs : SameBut [.mbx, .obj] s (((s.bump 32 Attr.BillingService.boundarySeq 0).setNat Attr.BillingService.guardInterval 0 i).setNat Attr.BillingService.guardPosition 0 p) :=
    (sameBut_bump.trans hset).trans hset
  exact ((hattrs.mono (by decide)).set_bil).step sameBut_post

theorem sameBut_setCalSlot {k : Nat} {x : CalSlot} : SameBut [.bil] s (s.setCalSlot k x) := SameBut.refl.set_bil

theorem sameBut_periodEnd {k i fl : Nat} : SameBut boundaryAreas s (s.periodEnd k i fl) :=
  (sameBut_setNat.mono (by decide) : SameBut boundaryAreas _ _).step sameBut_setCalSlot

theorem sameBut_activateCalendar {k i : Nat} : SameBut boundaryAreas s (s.activateCalendar k i) := by
  have hset : ∀ {v : State} {y : Nat × Nat} {j x : Nat}, SameBut boundaryAreas v (v.setNat y j x) := sameBut_setNat.mono (by decide)
  unfold State.activateCalendar
  dsimp only
  split
  · exact .refl
  · refine SameBut.trans ?_ (.foldl fun _ _ => sameBut_raise.mono (by decide))
    refine SameBut.step ?_ sameBut_raise
    have hslot : ∀ x, SameBut boundaryAreas s (s.setCalSlot k x) := fun x => sameBut_setCalSlot.mono (by decide)
    exact (((((((hslot _).trans hset).trans hset).trans hset).trans hset).trans (sameBut_setAttr.mono (by decide))).trans hset).trans hset

theorem sameBut_executeBoundary {k i p fl : Nat} : SameBut boundaryAreas s (s.executeBoundary k i p fl) := by
  have hflags : ∀ {v : State} {h f : Nat}, SameBut boundaryAreas v (v.addFlags h f) := SameBut.refl.set_bil
  unfold State.executeBoundary
  dsimp only
  exact ((SameBut.ite (.foldl fun _ _ => hflags) .refl).trans (.ite sameBut_periodEnd (.ite sameBut_activateCalendar .refl))).trans sameBut_boundaryDone

theorem sameBut_horizons : SameBut boundaryAreas s s.horizons := by
  refine .foldl fun v x => ?_
  split
  · exact .refl
  · exact .ite (SameBut.step (sameBut_setCalSlot.mono (by decide)) sameBut_raise) .refl

theorem sameBut_runBoundaries {fl : Nat} : SameBut boundaryAreas s (s.runBoundaries fl) := by
  have hkey : ∀ (v : State) (i p f : Nat), SameBut boundaryAreas v (v.executeKey i p f) := by
    intro v i p f
    unfold State.executeKey
    exact .ite .refl (.foldl fun _ _ => sameBut_executeBoundary)
  unfold State.runBoundaries
  dsimp only
  exact .ite .refl ((SameBut.foldl fun _ _ => .foldl fun _ _ => hkey _ _ _ _).trans sameBut_horizons)

theorem sameBut_logOutage : SameBut boundaryAreas s s.logOutage := by
  unfold State.logOutage
  dsimp only
  exact .ite .refl ((sameBut_runBoundaries.trans sameBut_boundaryDone).step sameBut_raise)

/-! ### What the chip writes before it stops (Table 03-9) -/

theorem sameBut_flushJournal {ws : List MediaWrite} : SameBut [.sto, .col] s (s.flushJournal ws) :=
  sameBut_confirmJournal.trans (.foldl fun _ _ => (sameBut_programJournal.mono (by decide)).trans sameBut_confirmJournal)

theorem sameBut_persistLedgers : SameBut [.rad] s s.persistLedgers := .foldl fun _ _ => SameBut.refl.set_rad

theorem sameBut_commitEvent {e : Event} {safety : Bool} : SameBut [.recd, .mbx] s (s.commitEvent e safety) := by
  unfold State.commitEvent
  dsimp only
  split
  · exact .ite ((SameBut.refl.set_recd : SameBut [.recd, .mbx] _ _).step sameBut_eventNotify) SameBut.refl.set_recd
  · exact .ite SameBut.refl.set_recd ((SameBut.refl.set_recd : SameBut [.recd, .mbx] _ _).step sameBut_eventNotify)

theorem sameBut_mirrorRecords : SameBut [.recd, .mbx] s s.mirrorRecords := by
  have hgap : ∀ v : State, SameBut [.recd, .mbx] v v.commitGap := by
    intro v
    unfold State.commitGap
    split
    · exact .refl
    · exact (SameBut.refl.set_recd : SameBut [.recd, .mbx] _ _).trans sameBut_commitEvent
  unfold State.mirrorRecords
  dsimp only
  exact .ite .refl ((SameBut.refl.set_recd : SameBut [.recd, .mbx] _ _).trans (hgap _))

/-! ### What HOLDUP ends (R111, R696) -/

theorem State.flushArbiter_effect : s.flushArbiter.fcr.deferred = [] ∧ SameBut [.fcr, .mbx, .recd] s s.flushArbiter := by
  have hflush : SameBut [.fcr, .mbx, .recd] s (s.flushActivities (fun _ => true)) := sameBut_flushActivities
  unfold State.flushArbiter
  dsimp only
  generalize s.flushActivities (fun _ => true) = v at hflush
  generalize hw : ({ v with
    fcr := { v.fcr with deferred := [], waiting := [], again := v.fcr.again ++ (v.fcr.waiting ++ v.fcr.deferred.filter Activity.internal) }
    mbx := { v.mbx with awaiting := v.mbx.awaiting.filter (fun x => !v.fcr.deferred.any (fun a => !a.internal && a.arrival == x.arrival)) } } : State) = w
  have hset : SameBut [.fcr, .mbx, .recd] v w := by
    rw [← hw]
    simp [SameBut]
  have hnone : w.fcr.deferred = [] := by rw [← hw]
  have hfold : SameBut [.mbx] w (v.fcr.deferred.foldl (fun s a => if a.internal then s else s.complete a.session a.path a.arrival .flushed) w) :=
    .foldl fun _ _ => .ite .refl sameBut_complete
  exact ⟨(congrArg FaultState.deferred (hfold.area .fcr)).trans hnone, (hflush.trans hset).step hfold⟩

theorem sameBut_discardUnvalidated : SameBut [.que, .col, .elt, .lin] s s.discardUnvalidated := by
  have hqueue : SameBut [.que, .col, .elt, .lin] s (s.setQueue (s.nat Attr.CollectionService.firmwareQueue 0) {}) := sameBut_setQueue.mono (by decide)
  refine hqueue.trans ?_
  simp [SameBut, State.discardUnvalidated]

/-! ### The commit of flights at a reset (R20, R507) -/

/-- A record enters the store as the next version of its interval, and the two commit streams (R323, R335). -/
def State.withVersion (s : State) (r : NewRec) (q : BitVec 7) : State :=
  let vs := s.versions r.handle r.interval
  let key : Nat × Nat × Nat := (r.handle, r.interval, vs.length)
  { s with
    sto := { s.sto with
      records := Assoc.put (recKey r.handle r.interval) (vs ++ [⟨vs.length, q, r.vals⟩]) s.sto.records
      bilStream := s.sto.bilStream ++ [key]
      balStream := s.sto.balStream ++ [key] } }

theorem sameBut_storeRecord {r : NewRec} : SameBut [.obj, .mbx, .recd, .sto] s (s.storeRecord r).2 := by
  unfold State.storeRecord
  dsimp only
  generalize (if (s.closedEnd r.handle).any (fun e => decide (r.interval < e)) = true then r.quality ||| qRetro else r.quality) = q
  split
  · have hsame : SameBut [.obj, .mbx, .recd, .sto] s (s.bump 32 Attr.EndpointProfile.sameValue r.handle) := sameBut_bump.mono (by decide)
    exact hsame
  split
  · have hlimit : SameBut [.obj, .mbx, .recd, .sto] s (s.raise 0x0A01 (objPath 0x0501 r.handle) [(r.handle : Int), (r.interval : Int)]) := sameBut_raise.mono (by decide)
    exact hlimit
  · have hkept : SameBut [.obj, .mbx, .recd, .sto] s (s.withVersion r q) := SameBut.refl.set_sto
    exact hkept.trans (.ite (sameBut_setNat.mono (by decide)) .refl)

/-- The areas of a commit. -/
abbrev commitAreas : List Area := [.obj, .mbx, .recd, .sto, .col, .glv, .lin, .rad, .twn]

theorem SameBut.foldl_snd {α β : Type} {l : List Area} {g : β × State → α → β × State} {xs : List α} {a : β × State} (hg : ∀ p x, SameBut l p.2 (g p x).2) :
    SameBut l a.2 (xs.foldl g a).2 := by
  induction xs generalizing a with
  | nil => exact .refl
  | cons x xs ih => exact (hg a x).trans ih

theorem sameBut_markCounter {h k : Nat} : SameBut [.col, .obj, .mbx] s (s.markCounter h k) := by
  have hset : ∀ {v : State} {y : Nat × Nat} {i x : Nat}, SameBut [.col, .obj, .mbx] v (v.setNat y i x) := sameBut_setNat.mono (by decide)
  have hep : ∀ {v : State} {e : Endpoint}, SameBut [.col, .obj, .mbx] v (v.setEp h e) := sameBut_setEp.mono (by decide)
  unfold State.markCounter
  dsimp only
  exact .ite (hep.trans hset) (.ite (hep.trans hset) hep)

theorem sameBut_adoptGen {h g : Nat} : SameBut [.obj, .mbx, .glv] s (s.adoptGen h g) := by
  have hset : ∀ {v : State} {y : Nat × Nat} {i x : Nat}, SameBut [.obj, .mbx, .glv] v (v.setNat y i x) := sameBut_setNat.mono (by decide)
  exact ((hset.trans hset).trans hset).set_glv

/-- The records of a flight enter the store; whether one of them found its interval full (R335). -/
def State.commitRecords (s : State) (f : Flight) : Bool × State :=
  f.recs.foldl (fun (acc : Bool × State) n =>
    let x := acc.2.storeRecord n
    let t := if f.unchecked ∧ x.1 = .kept then x.2.setEp n.handle { x.2.ep n.handle with unchecked := (x.2.ep n.handle).unchecked ++ [n.interval] } else x.2
    (acc.1 || x.1 == .limit, t)) (false, { s with col := { s.col with flights := s.col.flights.filter (fun x => x.id != f.id) } })

/-- The key generation of a flight (R541). -/
def State.commitGen (s : State) (f : Flight) : State :=
  match f.newGen with
  | some (h, g) => s.adoptGen h g
  | none => s

/-- The mark of a flight (R315). -/
def State.commitMark (s : State) (f : Flight) : State :=
  match f.mark, f.newGen with
  | some (h, c), some _ =>
    let e := s.ep h
    (s.setEp h { e with heard := true, bitmap := 1, pendingCounters := e.pendingCounters.filter (fun x => x != c) }).setNat Attr.EndpointProfile.lastCounter h c
  | some (h, c), none => s.markCounter h c
  | none, _ => s

/-- The acknowledgement of a flight (R321). -/
def State.commitAck (s : State) (f : Flight) : State :=
  match f.ack with
  | some (h, c) => s.sendAck h c
  | none => s

/-- The command that completes with a flight (R312). -/
def State.commitDone (s : State) (f : Flight) (full : Bool) : State :=
  match f.done with
  | some a => s.completeCmd a (if full then .tableFull else .ok) []
  | none => s

theorem State.commitFlight_eq {f : Flight} : s.commitFlight f = ((((s.commitRecords f).2.commitGen f).commitMark f).commitAck f).commitDone f (s.commitRecords f).1 := rfl

theorem sameBut_commitRecords {f : Flight} : SameBut [.obj, .mbx, .recd, .sto, .col] s (s.commitRecords f).2 := by
  refine SameBut.trans (SameBut.set_col .refl) (SameBut.foldl_snd (a := (false, _)) fun p r => ?_)
  have hstore : SameBut [.obj, .mbx, .recd, .sto, .col] p.2 (p.2.storeRecord r).2 := sameBut_storeRecord.mono (by decide)
  exact .ite (hstore.step sameBut_setEp) hstore

theorem sameBut_commitGen {f : Flight} : SameBut [.obj, .mbx, .glv] s (s.commitGen f) := by
  unfold State.commitGen
  split
  · exact sameBut_adoptGen
  · exact .refl

theorem sameBut_commitMark {f : Flight} : SameBut [.obj, .mbx, .col] s (s.commitMark f) := by
  have hset : ∀ (h k : Nat) (e : Endpoint), SameBut [.obj, .mbx, .col] s ((s.setEp h e).setNat Attr.EndpointProfile.lastCounter h k) :=
    fun h k e => (sameBut_setEp.mono (by decide)).trans (sameBut_setNat.mono (by decide))
  have hmark : ∀ h k : Nat, SameBut [.obj, .mbx, .col] s (s.markCounter h k) := fun h k => sameBut_markCounter.mono (by decide)
  unfold State.commitMark
  split
  · exact hset _ _ _
  · exact hmark _ _
  · exact .refl

theorem sameBut_commitAck {f : Flight} : SameBut [.lin, .rad, .col, .glv, .sto, .twn] s (s.commitAck f) := by
  unfold State.commitAck
  split
  · exact sent_sendApdu.same
  · exact .refl

theorem sameBut_commitDone {f : Flight} {full : Bool} : SameBut [.mbx] s (s.commitDone f full) := by
  unfold State.commitDone
  split
  · exact State.completeCmd_awaiting.2.same
  · exact .refl

theorem sameBut_commitFlight {f : Flight} : SameBut commitAreas s (s.commitFlight f) := by
  rw [State.commitFlight_eq]
  exact ((((sameBut_commitRecords.mono (by decide)).step sameBut_commitGen).step sameBut_commitMark).step sameBut_commitAck).step sameBut_commitDone

theorem sameBut_replay : SameBut commitAreas s s.replay := by
  refine .foldl fun v f => ?_
  exact SameBut.trans (SameBut.set_mbx .refl) sameBut_commitFlight

/-! ### Changes of mode (Table 03-8) -/

/-- The chip-level state of a change of mode, whatever the old mode. -/
theorem State.setMode_sys (hne : s.sys.mode ≠ m) :
    (s.setMode m trig).sys = { s.sys with mode := m, prevMode := s.sys.mode, serviceAt := if m = Mode.service then s.tim.d3 else s.sys.serviceAt } := by
  unfold State.setMode
  dsimp only
  rw [if_neg hne]
  split <;> rfl

theorem State.toProvision_effect (hne : s.sys.mode ≠ .provision) : s.toProvision.sys.mode = .provision ∧ s.toProvision.sys.prevMode = s.sys.mode ∧ s.toProvision.sys.txEnable = false ∧
    s.toProvision.twn.claimOut = false ∧ Changes [.sys, .obj, .mbx, .recd, .twn, .dbg] [Attr.TwinPair.role] s s.toProvision := by
  have hoff : Changes [.sys, .twn] [] s s.transmitOff := changes_transmitOff
  have hsys : (s.transmitOff.setMode .provision 1).sys = { s.transmitOff.sys with mode := .provision, prevMode := s.sys.mode } := State.setMode_sys hne
  have hmode : Changes [.sys, .dbg, .obj, .mbx, .recd] [] s.transmitOff (s.transmitOff.setMode .provision 1) := changes_setMode
  have hclaim : s.transmitOff.twn.claimOut = false := rfl
  have htx : s.transmitOff.sys.txEnable = false := rfl
  have hprov : s.toProvision = if (s.transmitOff.setMode .provision 1).twinned then (s.transmitOff.setMode .provision 1).setNat Attr.TwinPair.role 0 0
    else s.transmitOff.setMode .provision 1 := rfl
  generalize s.transmitOff.setMode .provision 1 = v at hsys hmode hprov
  have hrole : Changes [.obj, .mbx] [Attr.TwinPair.role] v s.toProvision := by
    rw [hprov]
    exact .ite changes_setNat .refl
  have hkept : s.toProvision.sys = { s.transmitOff.sys with mode := .provision, prevMode := s.sys.mode } := hrole.sys.trans hsys
  have htwn : s.toProvision.twn = s.transmitOff.twn := hrole.twn.trans hmode.twn
  exact ⟨by rw [hkept], by rw [hkept], by rw [hkept]; exact htx, by rw [htwn, hclaim], (hoff.mono.step hmode).step hrole⟩

/-- A chip that serves a command is not in STALEMATE (R109). -/
theorem State.Serves.running (h : s.Serves c n) : s.sys.stalemate = false := by
  have hfront := h.front
  unfold State.frontCmd at hfront
  split at hfront
  · cases hfront
  · next hrun =>
    unfold State.purelStopped at hrun
    simp only [Bool.or_eq_true, not_or, Bool.not_eq_true] at hrun
    obtain ⟨⟨hst, _⟩, _⟩ := hrun
    exact hst

/-- SERVICE is entered out of a pair: field transmit begins (R107). -/
theorem State.enterService_effect (hne : s.sys.mode ≠ .service) (htwin : s.twinned = false) (hst : s.sys.stalemate = false) :
    (s.enterService trig).sys.mode = .service ∧ (s.enterService trig).sys.prevMode = s.sys.mode ∧ (s.enterService trig).sys.txEnable = true ∧
      Changes [.sys, .obj, .mbx, .recd, .dbg] [] s (s.enterService trig) := by
  have hsys : (s.setMode .service trig).sys = { s.sys with mode := .service, prevMode := s.sys.mode, serviceAt := s.tim.d3 } := State.setMode_sys hne
  have hmode : Changes [.sys, .dbg, .obj, .mbx, .recd] [] s (s.setMode .service trig) := changes_setMode
  have henter : s.enterService trig = (s.setMode .service trig).transmitOn := if_neg (by simp [htwin])
  rw [henter]
  generalize s.setMode .service trig = v at hsys hmode
  have hon : v.transmitOn = { v with sys := { v.sys with txEnable := true } } := if_neg (by rw [hsys]; simp [hst])
  rw [hon]
  have hset : Changes [.sys] [] v { v with sys := { v.sys with txEnable := true } } := .of_same SameBut.refl.set_sys
  exact ⟨by dsimp only; rw [hsys], by dsimp only; rw [hsys], rfl, (hmode.mono.step hset)⟩

/-! ### HOLDUP (R106, R111, R752) -/

/-- The areas that the end of the activities in HOLDUP changes. -/
theorem State.stopped_effect : (((s.endConditions 1).meaStopped.flushArbiter).discardUnvalidated).fcr.deferred = [] ∧
    SameBut [.mea, .recd, .fcr, .mbx, .que, .col, .elt, .lin] s (((s.endConditions 1).meaStopped.flushArbiter).discardUnvalidated) := by
  have hmea : SameBut [.mea, .recd] s (s.endConditions 1).meaStopped := sameBut_endConditions.step sameBut_meaStopped
  generalize (s.endConditions 1).meaStopped = v at hmea
  obtain ⟨hnone, hflush⟩ := State.flushArbiter_effect (s := v)
  generalize v.flushArbiter = w at hnone hflush
  have hdiscard : SameBut [.que, .col, .elt, .lin] w w.discardUnvalidated := sameBut_discardUnvalidated
  exact ⟨(congrArg FaultState.deferred (hdiscard.area .fcr)).trans hnone, ((hmea.mono (by decide)).step hflush).step hdiscard⟩

/-- HOLDUP is entered from a running mode (R106, R111). -/
theorem State.enterHoldup_effect (hne : s.sys.mode ≠ .holdup) : s.enterHoldup.sys = { s.enterHoldup.sys with mode := .holdup, prevMode := s.sys.mode, txEnable := false, eraseHold := true, pfi := s.sys.pfi } ∧
    s.enterHoldup.twn.claimOut = false ∧ s.enterHoldup.fcr.deferred = [] := by
  have hlog : SameBut boundaryAreas s s.logOutage := sameBut_logOutage
  let w : State := (s.logOutage.setMode .holdup 4).transmitOff
  let x : State := { w with sys := { w.sys with eraseHold := true, holdupStep := 5, returning := false } }
  have henter : s.enterHoldup = ((x.endConditions 1).meaStopped.flushArbiter).discardUnvalidated := rfl
  have hsysL : s.logOutage.sys = s.sys := hlog.area .sys
  have hsys : (s.logOutage.setMode .holdup 4).sys = { s.sys with mode := .holdup, prevMode := s.sys.mode } := by
    rw [State.setMode_sys (by rw [hsysL]; exact hne), hsysL]
    rfl
  have hxsys : x.sys = { s.sys with mode := .holdup, prevMode := s.sys.mode, txEnable := false, eraseHold := true, holdupStep := 5, returning := false } :=
    congrArg (fun y : Sys => { y with txEnable := false, eraseHold := true, holdupStep := 5, returning := false }) hsys
  have hxtwn : x.twn.claimOut = false := rfl
  generalize x = x at henter hxsys hxtwn
  obtain ⟨hnone, hstop⟩ := State.stopped_effect (s := x)
  rw [← henter] at hnone hstop
  have hend : s.enterHoldup.sys = x.sys := hstop.area .sys
  have htwn : s.enterHoldup.twn = x.twn := hstop.area .twn
  refine ⟨?_, by rw [htwn, hxtwn], hnone⟩
  rw [hend, hxsys]

/-- What HOLDUP writes before it is done leaves the chip-level state. -/
theorem State.holdupWrites_sys {ws : List MediaWrite} {cp : MediaWrite} :
    (((((s.runBoundaries 0).flushJournal ws).persistLedgers).checkpoint cp).mirrorRecords).sys = s.sys := by
  have hrun : SameBut boundaryAreas s (s.runBoundaries 0) := sameBut_runBoundaries
  generalize s.runBoundaries 0 = v at hrun
  have hflush : SameBut [.sto, .col] v (v.flushJournal ws) := sameBut_flushJournal
  generalize v.flushJournal ws = w at hflush
  have hledgers : SameBut [.rad] w w.persistLedgers := sameBut_persistLedgers
  generalize w.persistLedgers = x at hledgers
  have hcheck : SameBut [.sto] x (x.checkpoint cp) := sameBut_checkpoint
  generalize x.checkpoint cp = y at hcheck
  have hmirror : SameBut [.recd, .mbx] y y.mirrorRecords := sameBut_mirrorRecords
  have h1 : v.sys = s.sys := hrun.area .sys
  have h2 : w.sys = v.sys := hflush.area .sys
  have h3 : x.sys = w.sys := hledgers.area .sys
  have h4 : y.sys = x.sys := hcheck.area .sys
  have h5 : y.mirrorRecords.sys = y.sys := hmirror.area .sys
  rw [h5, h4, h3, h2, h1]

/-- A CHIP reset keeps what PFI_N says. -/
theorem State.chipReset_sys {cause : BitVec 11} : (s.chipReset cause).sys = s.sys.afterReset cause := by
  have hreplay : s.replay.sys = s.sys := sameBut_replay.area .sys
  have hreset : (s.chipReset cause).sys = s.replay.keepBook.sys.afterReset cause := rfl
  rw [hreset, ← hreplay]
  rfl

/-- The previous mode resumes: SERVICE out of a pair (R752). -/
theorem State.resumeMode_effect (hmode : s.sys.mode = .holdup) (hprev : s.sys.prevMode = .service) (htwin : s.twinned = false) (hst : s.sys.stalemate = false) (hagain : s.fcr.again = []) :
    s.resumeMode.sys.mode = .service ∧ s.resumeMode.sys.returning = false ∧ s.resumeMode.sys.txEnable = true ∧ s.resumeMode.sys.eraseHold = s.sys.holdupPrep := by
  have hset : Changes [.sys, .dbg, .obj, .mbx, .recd] [] s (s.setMode .service 5) := changes_setMode
  have hsys : (s.setMode .service 5).sys = { s.sys with mode := .service, prevMode := s.sys.mode, serviceAt := s.tim.d3 } := State.setMode_sys (by rw [hmode]; decide)
  let v : State := s.setMode .service 5
  let w : State := { v with sys := { v.sys with returning := false, holdupStep := 0, eraseHold := v.sys.holdupPrep } }
  have hw : Changes [.sys] [] v w := .of_same SameBut.refl.set_sys
  have hwsys : w.sys = { s.sys with mode := .service, prevMode := s.sys.mode, serviceAt := s.tim.d3, returning := false, holdupStep := 0, eraseHold := s.sys.holdupPrep } :=
    congrArg (fun y : Sys => { y with returning := false, holdupStep := 0, eraseHold := y.holdupPrep }) hsys
  have hresume : s.resumeMode = (((List.range 80).filter ((if !(w.sys.mode == .service || w.sys.mode == .island) then w else if !w.twinned then w.transmitOn
      else if w.twn.claimIn = .claimed ∨ w.twn.claimIn = .invalid then w.toShadow 3 else w.startClaim 5).flag Attr.MeasurementChannel.enabled)).foldl State.startChannel
        (if !(w.sys.mode == .service || w.sys.mode == .island) then w else if !w.twinned then w.transmitOn
          else if w.twn.claimIn = .claimed ∨ w.twn.claimIn = .invalid then w.toShadow 3 else w.startClaim 5)).remake (fun _ => true) := by
    unfold State.resumeMode
    rw [hprev]
  have hw' : Changes [.sys, .dbg, .obj, .mbx, .recd] [] s w := hset.mono.step hw
  generalize w = w at hwsys hresume hw'
  have htwinW : w.twinned = false := (State.twinned_congr hw').trans htwin
  have hon : w.transmitOn = { w with sys := { w.sys with txEnable := true } } := if_neg (by rw [hwsys]; simp [hst])
  rw [if_neg (by rw [hwsys]; exact Bool.false_ne_true), if_pos (by rw [htwinW]; rfl), hon] at hresume
  have hx : ({ w with sys := { w.sys with txEnable := true } } : State).sys = { w.sys with txEnable := true } := rfl
  have hxfcr : ({ w with sys := { w.sys with txEnable := true } } : State).fcr = w.fcr := rfl
  generalize ({ w with sys := { w.sys with txEnable := true } } : State) = x at hresume hx hxfcr
  have hchannels : SameBut [.mea, .obj, .mbx] x (((List.range 80).filter (x.flag Attr.MeasurementChannel.enabled)).foldl State.startChannel x) :=
    .foldl fun _ _ => (sameBut_setChan.mono (by decide)).trans (sameBut_setFlag.mono (by decide))
  generalize ((List.range 80).filter (x.flag Attr.MeasurementChannel.enabled)).foldl State.startChannel x = y at hresume hchannels
  have hyfcr : y.fcr = x.fcr := hchannels.area .fcr
  have hyagain : y.fcr.again = [] := by rw [hyfcr, hxfcr, hw'.fcr, hagain]
  have hysys : y.sys = x.sys := hchannels.area .sys
  have hremake : (y.remake (fun _ => true)).sys = y.sys := by
    unfold State.remake
    rw [hyagain]
    rfl
  have hlast : s.resumeMode.sys = { w.sys with txEnable := true } := by rw [hresume, hremake, hysys, hx]
  exact ⟨by rw [hlast, hwsys], by rw [hlast, hwsys], by rw [hlast], by rw [hlast, hwsys]⟩

/-- Settles O6: each row by the effect of its change of mode, and what HOLDUP writes by the areas it touches, of which the chip-level state is none. -/
theorem modesAndPower : Obligations.ModesAndPower := by
  refine ⟨?provision, ?service, ?island, ?back, ?warning, ?recovered, ?asserted, ?done, ?reset, ?released, ?decided, ?resumed⟩
  case provision =>
    intro s c n hs ho hrole hm hmode
    have hbody : doModeRequest c s.pop = (⟨.ok, []⟩, s.pop.toProvision) := by
      unfold doModeRequest
      dsimp only
      rw [if_neg (by rcases hrole with h | h <;> simp [h]), if_neg (by omega), if_pos ⟨hm, hmode⟩]
    have hne : s.pop.sys.mode ≠ .provision := by
      show s.sys.mode ≠ .provision
      rcases hmode with h | h | h <;> simp [h]
    obtain ⟨hnew, hold, htx, hclaim, hchange⟩ := State.toProvision_effect (s := s.pop) hne
    generalize s.pop.toProvision = u at hbody hnew hold htx hclaim hchange
    obtain ⟨t, hrun, rfl, hans⟩ := hs.completes ho hbody (hchange.poised s ⟨rfl, rfl, rfl⟩) (Nat.zero_le _)
    have hsys : (u.finish c ⟨.ok, []⟩).sys = u.sys := State.finish_sys
    exact ⟨_, hrun, hans, by rw [hsys, hnew], by rw [hsys, hold]; rfl, by rw [hsys, htx], by rw [State.finish_twn, hclaim], hchange.finished⟩
  case service =>
    intro s c n hs ho hrole hm hmode hlife hprov htwin
    have hbody : doModeRequest c s.pop = (⟨.ok, []⟩, s.pop.enterService 1) := by
      have htwinP : s.pop.twinned = false := htwin
      have hprovP : s.pop.provisioned = true := hprov
      unfold doModeRequest
      dsimp only
      rw [if_neg (by rcases hrole with h | h <;> simp [h]), if_pos ⟨hm, hmode, hlife, hprovP, by rw [htwinP]; rfl⟩]
    have hne : s.pop.sys.mode ≠ .service := by
      show s.sys.mode ≠ .service
      simp [hmode]
    obtain ⟨hnew, hold, htx, hchange⟩ := State.enterService_effect (s := s.pop) (trig := 1) hne htwin hs.running
    generalize s.pop.enterService 1 = u at hbody hnew hold htx hchange
    have hall : Changes [.sys, .obj, .mbx, .recd, .dbg] [] s.pop u := hchange
    obtain ⟨t, hrun, rfl, hans⟩ := hs.completes ho hbody (hall.poised s ⟨rfl, rfl, rfl⟩) (Nat.zero_le _)
    have hsys : (u.finish c ⟨.ok, []⟩).sys = u.sys := State.finish_sys
    exact ⟨_, hrun, hans, by rw [hsys, hnew], by rw [hsys, hold]; exact hmode, by rw [hsys, htx], hall.finished⟩
  case island =>
    intro s hmode hlong
    have hrun : exec .islandEntry s = .next (s.setMode .island 2) := if_pos ⟨hmode, hlong⟩
    obtain ⟨hsys, _, hchange⟩ := State.setMode_effect (s := s) (m := .island) (trig := 2) (by simp [hmode]) (by simp [hmode])
    exact ⟨_, hrun, by rw [hsys], by rw [hsys]; exact hmode, hchange.same⟩
  case back =>
    intro s hmode hreach
    have hrun : exec .islandExit s = .next (s.setMode .service 2) := if_pos ⟨hmode, hreach⟩
    obtain ⟨hsys, _, hchange⟩ := State.setMode_effect (s := s) (m := .service) (trig := 2) (by simp [hmode]) (by simp [hmode])
    exact ⟨_, hrun, by rw [hsys], by rw [hsys]; exact hmode, by rw [hsys]; rfl, hchange.same⟩
  case warning =>
    intro s r mv ws
    let v : State := { s with
      sys := { s.sys with
        pwrWarn := true, holdupPrep := true, eraseHold := true
        coreWarn := s.sys.coreWarn || r == Rail.core, io33Warn := s.sys.io33Warn || r == Rail.io33 } }
    let w : State := v.raise 0x0102 (objPath 0x0102 0) [if r = Rail.core then 1 else 0, (mv : Int)]
    have hrun : exec (.powerWarning r mv ws) s = .next (w.flushJournal ws) := rfl
    have hw : SameBut [.sys, .recd] s w := SameBut.step SameBut.refl.set_sys sameBut_raise
    have hsys : w.sys = { s.sys with pwrWarn := true, holdupPrep := true, eraseHold := true, coreWarn := s.sys.coreWarn || r == Rail.core, io33Warn := s.sys.io33Warn || r == Rail.io33 } := rfl
    generalize w = w at hrun hw hsys
    have hflush : SameBut [.sto, .col] w (w.flushJournal ws) := sameBut_flushJournal
    have hkept : (w.flushJournal ws).sys = w.sys := hflush.area .sys
    refine ⟨_, hrun, by rw [hkept, hsys], by rw [hkept, hsys], by rw [hkept, hsys], fun h => by rw [hkept, hsys, h]; simp, fun h => by rw [hkept, hsys, h]; simp, by rw [hkept, hsys],
      (hw.mono (by decide)).step hflush⟩
  case recovered =>
    intro s r hwarn
    let y : Sys := { s.sys with
      coreWarn := s.sys.coreWarn && r != Rail.core, io33Warn := s.sys.io33Warn && r != Rail.io33, dips := min (s.sys.dips + 1) 65535 }
    have hrun : exec (.dipRecovered r) s = .next { s with sys := { y with holdupPrep := y.coreWarn || y.io33Warn, eraseHold := (y.coreWarn || y.io33Warn) || y.pfi } } := if_pos hwarn
    refine ⟨_, hrun, ?_, rfl, rfl, rfl, SameBut.refl.set_sys⟩
    cases r
    · exact Bool.and_false _
    · exact Bool.and_false _
  case asserted =>
    intro s ws hst hmode
    have hne : s.sys.mode ≠ .holdup := by rcases hmode with h | h | h | h <;> simp [h]
    have hrun : exec (.pfiAssert ws) s = .next (State.enterHoldup { s with sys := { s.sys with pfi := true } }) := by
      refine (if_neg (by simp [hst])).trans ?_
      rcases hmode with h | h | h | h <;> simp [h]
    obtain ⟨hsys, hclaim, hnone⟩ := State.enterHoldup_effect (s := { s with sys := { s.sys with pfi := true } }) hne
    exact ⟨_, hrun, by rw [hsys], by rw [hsys], by rw [hsys], by rw [hsys], hclaim, by rw [hsys], hnone⟩
  case done =>
    intro s ws cp hmode hopen hback hst hpfi
    have hsys := State.holdupWrites_sys (s := s) (ws := ws) (cp := cp)
    have hrun : exec (.holdupDone ws cp) s = _ := if_neg (by simp [hmode, hopen, hback, hst])
    generalize (((((s.runBoundaries 0).flushJournal ws).persistLedgers).checkpoint cp).mirrorRecords) = v at hsys hrun
    dsimp only at hrun
    rw [if_pos (by rw [hsys]; exact hpfi)] at hrun
    exact ⟨_, hrun, rfl, rfl⟩
  case reset =>
    intro s hmode hdone hst
    have hrun : exec .pfiRelease s = .next (State.chipReset { s with sys := { s.sys with pfi := false } } (causeBit 5)) := by
      refine (if_neg (by simp [hst])).trans ((if_pos hmode).trans (if_pos hdone))
    have hsys := State.chipReset_sys (s := { s with sys := { s.sys with pfi := false } }) (cause := causeBit 5)
    have hcause := State.chipReset_cause (s := { s with sys := { s.sys with pfi := false } }) (k := 5) (by decide)
    exact ⟨_, hrun, congrArg Sys.mode hsys, congrArg Sys.pfi hsys, hcause⟩
  case released =>
    intro s hmode hst
    have hrun : exec .pfiRelease s = .next { s with sys := { s.sys with pfi := false, eraseHold := s.sys.holdupPrep } } := (if_neg (by simp [hst])).trans (if_neg hmode)
    exact ⟨_, hrun, rfl, rfl, SameBut.refl.set_sys⟩
  case decided =>
    intro s hmode hopen hpfi hst
    have hrun : exec (.holdupReturn false) s = .next { s with sys := { s.sys with returning := true } } := (if_neg (by simp [hmode, hopen, hpfi, hst])).trans (if_pos rfl)
    exact ⟨_, hrun, rfl, hmode, SameBut.refl.set_sys⟩
  case resumed =>
    intro s hmode hopen hpfi hst hback hprev htwin hagain
    have hrun : exec (.holdupReturn true) s = .next s.resumeMode := (if_neg (by simp [hmode, hopen, hpfi, hst])).trans ((if_neg (by simp)).trans (if_pos hback))
    obtain ⟨hnew, hreturn, htx, herase⟩ := State.resumeMode_effect hmode hprev htwin hst hagain
    exact ⟨_, hrun, hnew, hreturn, htx, herase⟩

end Sys2Proof.Machine
end

section
/-! Start-up and host load (R95, R97, R98, R121). -/

namespace Sys2Proof.Machine

variable {s t u v : State} {f : BootFacts} {b : Bytes} {len why : Nat} {data : Bytes}

/-! ### The boot ROM (R95, R97, R530) -/

/-- The straps that step 2 latches (R95, R96). -/
def Sys.strapped (y : Sys) (f : BootFacts) : Sys :=
  { y with bootSel := f.bootSel % 4, testMode := f.testLow && (y.lifecycle == .blank || y.lifecycle == .factory), resetOutLow := false, bootStep := 2, boot := some f }

theorem State.latchStraps_effect : (s.latchStraps f).sys = s.sys.strapped f ∧ SameBut [.sys, .recd, .obj, .mbx] s (s.latchStraps f) := by
  let v : State := { s with sys := s.sys.strapped f, recd := { s.recd with head := s.recd.startSeq, ring := s.recd.tail } }
  have hv : SameBut [.sys, .recd, .obj, .mbx] s v := by simp [SameBut, v]
  have hvsys : v.sys = s.sys.strapped f := rfl
  let w : State := v.setNat Attr.TwinPair.side 0 (f.twinSide % 2)
  have hlatch : s.latchStraps f = if f.testLow && !(f.testLow && (s.sys.lifecycle == .blank || s.sys.lifecycle == .factory)) then
      (if f.bootSel % 4 = 3 then w.raise 0x0103 (objPath 0x0102 0) [3] else w).raise 0x0104 (objPath 0x0102 0)
        [((if f.bootSel % 4 = 3 then w.raise 0x0103 (objPath 0x0102 0) [3] else w).sys.lifecycle.code : Int)]
    else if f.bootSel % 4 = 3 then w.raise 0x0103 (objPath 0x0102 0) [3] else w := rfl
  have hw : SameBut [.obj, .mbx] v w := sameBut_setNat.mono (by decide)
  generalize w = w at hlatch hw
  have hside : SameBut [.recd] w (if f.bootSel % 4 = 3 then w.raise 0x0103 (objPath 0x0102 0) [3] else w) := .ite sameBut_raise .refl
  generalize (if f.bootSel % 4 = 3 then w.raise 0x0103 (objPath 0x0102 0) [3] else w) = x at hlatch hside
  have hlast : SameBut [.recd] x (s.latchStraps f) := by
    rw [hlatch]
    exact .ite sameBut_raise .refl
  have hrest : SameBut [.obj, .mbx, .recd] v (s.latchStraps f) := ((hw.mono (by decide)).step hside).step hlast
  have hsys : (s.latchStraps f).sys = v.sys := hrest.area .sys
  exact ⟨hsys.trans hvsys, hv.step hrest⟩

/-- The Guard core starts; the chip-level state reaches step 4 (R97, R530). -/
theorem State.checkSlots_effect : (s.checkSlots f).sys = { s.sys with bootStep := 4 } ∧ (s.checkSlots f).twn.gateOk = true ∧ (s.checkSlots f).upd = s.upd := by
  let bad : List Nat := (f.slotFaults.filter s.slotGood).eraseDups
  let v : State := bad.foldl (fun s i => (s.setNat Attr.RootSlot.state i 2).raise 0x1004 glovePath [(i : Int)]) s
  let w : State := match v.glv.firstTrip with
    | some x => v.raiseSafe 0x1001 (tamperPath x.1) [(x.1 : Int), (x.2 : Int), (v.nat Attr.GloveboxService.tripCount 0 : Int)]
    | none => v
  let x : State := { w with sys := { w.sys with bootStep := 4 }, twn := { w.twn with gateOk := true }, glv := { w.glv with firstTrip := none, slotFaults := bad.length } }
  have hcheck : s.checkSlots f = if x.sys.tamperLatched then x.setFlag Attr.GloveboxService.sealed 0 true else x := rfl
  have hv : SameBut [.obj, .mbx, .recd] s v := .foldl fun _ _ => (sameBut_setNat.mono (by decide) : SameBut [.obj, .mbx, .recd] _ _).step sameBut_raise
  have hw : SameBut [.recd] v w := by
    show SameBut [.recd] v (match v.glv.firstTrip with
      | some x => v.raiseSafe 0x1001 (tamperPath x.1) [(x.1 : Int), (x.2 : Int), (v.nat Attr.GloveboxService.tripCount 0 : Int)]
      | none => v)
    split
    · exact sameBut_raiseSafe
    · exact .refl
  have hsw : SameBut [.obj, .mbx, .recd] s w := hv.step hw
  have hsys : w.sys = s.sys := hsw.area .sys
  have hupd : w.upd = s.upd := hsw.area .upd
  have hxsys : x.sys = { s.sys with bootStep := 4 } := congrArg (fun y : Sys => { y with bootStep := 4 }) hsys
  have hxgate : x.twn.gateOk = true := rfl
  have hxupd : x.upd = s.upd := hupd
  generalize x = x at hcheck hxsys hxgate hxupd
  have hseal : SameBut [.obj, .mbx] x (s.checkSlots f) := by
    rw [hcheck]
    exact .ite (sameBut_setFlag.mono (by decide)) .refl
  have hlastSys : (s.checkSlots f).sys = x.sys := hseal.area .sys
  have hlastTwn : (s.checkSlots f).twn = x.twn := hseal.area .twn
  have hlastUpd : (s.checkSlots f).upd = x.upd := hseal.area .upd
  exact ⟨hlastSys.trans hxsys, by rw [hlastTwn, hxgate], hlastUpd.trans hxupd⟩

/-- The boot ROM has reached step 4: its chip-level state, the gate, and the images as they were. -/
theorem State.bootRom_effect : ((s.latchStraps f).checkSlots f).sys = { s.sys.strapped f with bootStep := 4 } ∧ ((s.latchStraps f).checkSlots f).twn.gateOk = true ∧
    ((s.latchStraps f).checkSlots f).upd = s.upd := by
  obtain ⟨hsys, hsame⟩ := State.latchStraps_effect (s := s) (f := f)
  generalize s.latchStraps f = v at hsys hsame
  obtain ⟨hnew, hgate, hupd⟩ := State.checkSlots_effect (s := v) (f := f)
  exact ⟨hnew.trans (by rw [hsys]), hgate, hupd.trans (hsame.area .upd)⟩

/-- After step 4 the chip stops in BLANK and VOID, and starts its loader elsewhere (R97). -/
def State.bootFrom (s : State) (f : BootFacts) : Out :=
  match s.sys.lifecycle with
  | .blank | .void => .next { s with sys := { s.sys with boot := none } }
  | _ => .next (s.startLoader f)

theorem execBoot_released (hlow : s.sys.resetOutLow = true) (hpfi : s.sys.pfi = false) : exec (.boot f) s = ((s.latchStraps f).checkSlots f).bootFrom f := by
  have hrow : exec (.boot f) s = execBoot f s := rfl
  rw [hrow, execBoot, if_neg (by simp [hlow]), if_neg (by simp [hpfi])] <;> rfl

/-! ### Host load (R121) -/

/-- A chunk that is handed over to a waiting chip is taken. -/
theorem State.offerChunk_waits (hwait : s.sys.hlState = .waitChunk) (hlen : 1 ≤ len ∧ len ≤ 1048576) :
    s.offerChunk 0xC3 len data = (true, s.setPair 1 { s.pair 1 with bar4 := data }) := by
  unfold State.offerChunk
  rw [if_neg (not_not.2 rfl), hwait]
  exact if_neg (by omega)

theorem State.offered_bar4 (hpairs : 1 < s.mbx.pairs.length) : ((s.setPair 1 { s.pair 1 with bar4 := data }).pair 1).bar4 = data := by
  simp [State.pair, State.setPair, hpairs]

/-- A chunk that the image has room for is appended. -/
theorem State.takeChunk_fits (hb : s.sys.hlImage ++ fitBytes len (s.pair 1).bar4 = b) (hfits : b.length ≤ loadLimit b) :
    s.takeChunk len = { s with sys := { s.sys with hlImage := b, hlOffset := b.length, hlState := .waitChunk } } := by
  unfold State.takeChunk
  dsimp only
  rw [hb]
  exact if_neg (not_lt.2 hfits)

/-- The chip once a chunk of the host is appended to its image. -/
def State.withChunk (s : State) (data b : Bytes) : State :=
  { s.setPair 1 { s.pair 1 with bar4 := data } with sys := { s.sys with hlImage := b, hlOffset := b.length, hlState := .waitChunk } }

theorem sameBut_withChunk : SameBut [.sys, .mbx] s (s.withChunk data b) := by simp [SameBut, State.withChunk, State.setPair]

/-- The conditions on an image read neither the host load nor the buffers. -/
theorem State.imageFault_withChunk {kind : Nat} {x : Bytes} : (s.withChunk data b).imageFault kind x = s.imageFault kind x := rfl

theorem execHostloadLast_whole (hwait : s.sys.hlState = .waitChunk) (hlen : 1 ≤ len ∧ len ≤ 1048576) (hpairs : 1 < s.mbx.pairs.length)
    (hb : s.sys.hlImage ++ fitBytes len data = b) (hfits : b.length ≤ loadLimit b) : exec (.hostloadLast 0xC3 len data) s = .next (s.withChunk data b).verifyLoad := by
  have hoffer := State.offerChunk_waits (data := data) hwait hlen
  have htake : (s.setPair 1 { s.pair 1 with bar4 := data }).takeChunk len = s.withChunk data b :=
    State.takeChunk_fits (by rw [State.offered_bar4 hpairs]; exact hb) hfits
  have hrow : exec (.hostloadLast 0xC3 len data) s = execHostloadLast 0xC3 len data s := rfl
  have hgoes : ¬ ((s.withChunk data b).sys.hlState = .rejected) := by simp [State.withChunk]
  rw [hrow, execHostloadLast, hoffer]
  dsimp only
  rw [if_neg (by decide), htake, if_neg hgoes]

/-- What R650 decides of a whole image (R121 step 5). -/
theorem State.verifyLoad_refused (hwhy : s.imageFault (if s.sys.bootStep = 0xE0 then 2 else 1) s.sys.hlImage = some why) : s.verifyLoad = s.rejectLoad why := by
  unfold State.verifyLoad
  simp only [beq_iff_eq, hwhy]

theorem State.verifyLoad_accepted (hboot : s.sys.boot = none) (hgood : s.imageFault (if s.sys.bootStep = 0xE0 then 2 else 1) s.sys.hlImage = none) :
    s.verifyLoad = { s with sys := { s.sys with hlState := .accepted, hlReason := 0, hlLast := true } } := by
  unfold State.verifyLoad
  simp only [beq_iff_eq, hgood, hboot]

/-- Settles O7: the boot ROM by what its steps leave of the chip-level state, the host load by the state of an offered chunk. -/
theorem bootAndHostLoad : Obligations.BootAndHostLoad := by
  refine ⟨?noLoader, ?blank, ?offered, ?taken, ?refused, ?verified, ?aborted⟩
  case noLoader =>
    intro s f hlow hpfi hlife hloader
    obtain ⟨hsys, hgate, hupd⟩ := State.bootRom_effect (s := s) (f := f)
    have hrun := execBoot_released (f := f) hlow hpfi
    generalize (s.latchStraps f).checkSlots f = v at hsys hgate hupd hrun
    have hlifeV : v.sys.lifecycle = .field := by rw [hsys]; exact hlife
    have himage : v.image 3 = s.image 3 := by simp only [State.image, hupd]
    have hloads : v.startLoader f = { v.awaitHost with sys := { v.awaitHost.sys with bootStep := 0xE0 } } := if_neg fun h => hloader (himage ▸ h.1)
    rw [State.bootFrom, hlifeV, hloads] at hrun
    refine ⟨_, hrun, ?_, ?_, ?_, rfl, rfl, rfl, hgate, ?_⟩
    · exact congrArg Sys.resetOutLow hsys
    · exact congrArg Sys.bootSel hsys
    · refine (congrArg Sys.testMode hsys).trans ?_
      simp [Sys.strapped, hlife]
    · exact (congrArg Sys.mode hsys :)
  case blank =>
    intro s f hlow hpfi hlife
    obtain ⟨hsys, _, _⟩ := State.bootRom_effect (s := s) (f := f)
    have hrun := execBoot_released (f := f) hlow hpfi
    generalize (s.latchStraps f).checkSlots f = v at hsys hrun
    have hlifeV : v.sys.lifecycle = .blank := by rw [hsys]; exact hlife
    rw [State.bootFrom, hlifeV] at hrun
    refine ⟨_, hrun, congrArg Sys.resetOutLow hsys, congrArg Sys.bootStep hsys, (congrArg Sys.testMode hsys).trans ?_, rfl, (congrArg Sys.mode hsys :)⟩
    simp [Sys.strapped, hlife]
  case offered =>
    intro s len data hwait hlow hhigh hpairs
    have hoffer := State.offerChunk_waits (data := data) hwait ⟨hlow, hhigh⟩
    have hrun : exec (.hostloadChunk 0xC3 len data) s =
        .next { s.setPair 1 { s.pair 1 with bar4 := data } with sys := { s.sys with hlState := .chunkBusy, hlLength := len, hlLast := false } } := by
      have hrow : exec (.hostloadChunk 0xC3 len data) s = execHostloadChunk 0xC3 len data s := rfl
      rw [hrow, execHostloadChunk, hoffer]
      rfl
    exact ⟨_, hrun, rfl, rfl, rfl, State.offered_bar4 hpairs, rfl, by simp [SameBut, State.setPair]⟩
  case taken =>
    intro s hbusy hfits
    have hrun : exec .hostloadChunkTaken s = .next (s.takeChunk s.sys.hlLength) := if_pos hbusy
    rw [State.takeChunk_fits rfl hfits] at hrun
    exact ⟨_, hrun, rfl, rfl, rfl, SameBut.refl.set_sys⟩
  case refused =>
    intro s len why data hwait hlow hhigh hpairs hfits hwhy
    have hrun := execHostloadLast_whole hwait ⟨hlow, hhigh⟩ hpairs rfl hfits
    have hchunk := sameBut_withChunk (s := s) (data := data) (b := s.sys.hlImage ++ fitBytes len data)
    have hbad := State.verifyLoad_refused (s := s.withChunk data (s.sys.hlImage ++ fitBytes len data)) (State.imageFault_withChunk.trans hwhy)
    rw [hbad] at hrun
    exact ⟨_, hrun, rfl, rfl, hchunk.set_sys⟩
  case verified =>
    intro s len data hwait hlow hhigh hpairs hboot hfits
    have hrun := execHostloadLast_whole hwait ⟨hlow, hhigh⟩ hpairs rfl hfits
    rcases hfault : s.imageFault (if s.sys.bootStep = 0xE0 then 2 else 1) (s.sys.hlImage ++ fitBytes len data) with _ | why
    · have hgood := State.verifyLoad_accepted (s := s.withChunk data (s.sys.hlImage ++ fitBytes len data)) hboot (State.imageFault_withChunk.trans hfault)
      rw [hgood] at hrun
      exact ⟨_, hrun, rfl, rfl, rfl⟩
    · have hbad := State.verifyLoad_refused (s := s.withChunk data (s.sys.hlImage ++ fitBytes len data)) (State.imageFault_withChunk.trans hfault)
      rw [hbad] at hrun
      exact ⟨_, hrun, rfl, rfl⟩
  case aborted =>
    intro s hstate hboot
    have hrun : exec (.hostloadAbort 0xC3) s = .next s.awaitHost := by
      refine if_neg ?_
      rw [not_or, not_or]
      exact ⟨not_not.2 rfl, hstate, by simp [Option.isSome_iff_ne_none.1 hboot]⟩
    exact ⟨_, hrun, rfl, rfl, rfl, rfl, SameBut.refl.set_sys⟩

end Sys2Proof.Machine
end

section
/-! The schedules and requests of collection: slots, deadlines, attempts and polls after a power restoration (R298–R305). -/

namespace Sys2Proof.Machine

variable {s t : State} {h c : Nat} {r : Request}

/-! ### Requests -/

theorem State.slotRetries_none (hnone : s.col.requests = []) : s.slotRetries h = s := by
  have hcol : { s.col with requests := [] } = s.col := by rw [← hnone]
  simp only [State.slotRetries, hnone, List.map_nil, List.filter_nil, List.eraseDups_nil, List.foldl_nil, hcol]

theorem nextRequest_mem {x : Request} (hx : nextRequest c [r] = some x) : x = r := by
  simp only [nextRequest, List.foldl_cons, List.foldl_nil] at hx
  split at hx
  · exact absurd hx (by simp)
  · exact (Option.some.inj hx).symm

/-- Without a path nothing is handed to a MAC (R304). -/
theorem State.sendTo_none {q : Nat} {b : Bytes} {pr : Producer} (hpath : s.primary h = none) : s.sendTo h q b pr = s := by
  simp only [State.sendTo, hpath]

theorem State.primary_congr (hobj : t.obj = s.obj) : t.primary h = s.primary h := by
  simp only [State.primary, State.nat_congr hobj]

theorem State.pathlessSendApdu {q : Nat} {b : Bytes} {pr : Producer} (hpath : s.primary h = none) :
    (∃ m, (s.sendApdu h q b pr).col = { s.col with eps := m }) ∧ SameBut [.col, .glv, .sto, .twn] s (s.sendApdu h q b pr) := by
  unfold State.sendApdu
  split
  · exact ⟨⟨s.col.eps, rfl⟩, .refl⟩
  · have hset : SameBut [.col, .glv, .sto, .twn] s (s.setEp h { s.ep h with outCounter := (s.ep h).outCounter + 1 }) := sameBut_setEp.mono (by decide)
    have heps : ∃ m, (s.setEp h { s.ep h with outCounter := (s.ep h).outCounter + 1 }).col = { s.col with eps := m } := ⟨_, rfl⟩
    dsimp only
    generalize s.setEp h { s.ep h with outCounter := (s.ep h).outCounter + 1 } = a at hset heps ⊢
    have hkey : SameBut [.glv] a (a.useKey h (s.nat Attr.EndpointKey.generation h)) := by simp [SameBut, State.useKey]
    generalize a.useKey h (s.nat Attr.EndpointKey.generation h) = v at hkey ⊢
    have hpost : SameBut [.sto, .twn] v (v.post (.counter h)) := sameBut_post
    generalize v.post (.counter h) = d at hpost ⊢
    have hd : SameBut [.col, .glv, .sto, .twn] s d := (hset.step hkey).step hpost
    have hcol : d.col = a.col := Eq.trans (hpost.area .col) (hkey.area .col)
    rw [State.sendTo_none ((State.primary_congr (hd.area .obj)).trans hpath)]
    exact ⟨heps.imp fun m hm => hcol.trans hm, hd⟩

/-- A lone request of an endpoint without a path: its attempts go nowhere, and it stays (R304). -/
theorem State.pathlessPump {n : Nat} (hreqs : s.col.requests = [r]) (hpath : s.primary r.handle = none) :
    (∃ x, (s.pump c n).col.requests = [x] ∧ x.handle = r.handle ∧ x.queue = r.queue ∧ x.poll = r.poll) ∧
      (s.pump c n).col.duePolls = s.col.duePolls ∧ SameBut [.col, .glv, .sto, .twn] s (s.pump c n) := by
  induction n generalizing s r with
  | zero => exact ⟨⟨r, hreqs, rfl, rfl, rfl⟩, rfl, .refl⟩
  | succ n ih =>
    unfold State.pump
    split
    · exact ⟨⟨r, hreqs, rfl, rfl, rfl⟩, rfl, .refl⟩
    · split
      · exact ⟨⟨r, hreqs, rfl, rfl, rfl⟩, rfl, .refl⟩
      · rename_i x hnext
        obtain rfl := nextRequest_mem (hreqs ▸ hnext)
        have hset : (s.setRequest { x with outstanding := true, attempts := x.attempts + 1 }).col.requests = [{ x with outstanding := true, attempts := x.attempts + 1 }] := by
          simp [State.setRequest, hreqs]
        have hsame : SameBut [.col, .glv, .sto, .twn] s (s.setRequest { x with outstanding := true, attempts := x.attempts + 1 }) := SameBut.refl.set_col
        have hpolls : (s.setRequest { x with outstanding := true, attempts := x.attempts + 1 }).col.duePolls = s.col.duePolls := rfl
        generalize s.setRequest { x with outstanding := true, attempts := x.attempts + 1 } = a at hset hsame hpolls
        have hapath : a.primary x.handle = none := (State.primary_congr (hsame.area .obj)).trans hpath
        obtain ⟨⟨m, hcol⟩, hsent⟩ := State.pathlessSendApdu (q := x.queue) (b := x.apdu) (pr := .col x.handle x.serial) hapath
        have hsend : a.sendRequest x = a.sendApdu x.handle x.queue x.apdu (.col x.handle x.serial) := rfl
        rw [← hsend] at hcol hsent
        generalize a.sendRequest x = b at hcol hsent
        have hkept : b.col.requests = a.col.requests := by rw [hcol]
        have hbpath : b.primary x.handle = none := (State.primary_congr (hsent.area .obj)).trans hapath
        have hkeptPolls : b.col.duePolls = a.col.duePolls := by rw [hcol]
        obtain ⟨hwaits, hdue, hpump⟩ := ih (hkept.trans hset) hbpath
        exact ⟨hwaits, (hdue.trans hkeptPolls).trans hpolls, (hsame.trans hsent).trans hpump⟩

/-- The first request of an endpoint without a path waits for one (R304). -/
theorem State.pathlessRequest {q op m : Nat} {poll : Option (Nat × Nat)} {b : Bytes} {cmd : Option Nat} (hnone : s.col.requests = []) (hpath : s.primary h = none) :
    (∃ x : Request, (s.request h q op m poll b cmd).col.requests = [x] ∧ x.handle = h ∧ x.queue = q ∧ x.poll = poll) ∧
      (s.request h q op m poll b cmd).col.duePolls = s.col.duePolls ∧ SameBut [.col, .glv, .sto, .twn] s (s.request h q op m poll b cmd) := by
  let r : Request := { handle := h, cell := (s.requestCell h).getD 0, queue := q, order := s.col.nextOrder, serial := m, opcode := op, poll := poll, apdu := b, cmd := cmd }
  have hreq : s.request h q op m poll b cmd = State.pumpCell { s with col := { s.col with requests := s.col.requests ++ [r], nextOrder := s.col.nextOrder + 1 } } r.cell := rfl
  rw [hreq]
  have hreqs : (State.col { s with col := { s.col with requests := s.col.requests ++ [r], nextOrder := s.col.nextOrder + 1 } }).requests = [r] := congrArg (· ++ [r]) hnone
  have hsame : SameBut [.col, .glv, .sto, .twn] s { s with col := { s.col with requests := s.col.requests ++ [r], nextOrder := s.col.nextOrder + 1 } } := SameBut.refl.set_col
  have hpolls : (State.col { s with col := { s.col with requests := s.col.requests ++ [r], nextOrder := s.col.nextOrder + 1 } }).duePolls = s.col.duePolls := rfl
  generalize { s with col := { s.col with requests := s.col.requests ++ [r], nextOrder := s.col.nextOrder + 1 } } = a at hreqs hsame hpolls
  obtain ⟨hwaits, hdue, hpump⟩ := State.pathlessPump (c := r.cell) (n := 64) hreqs ((State.primary_congr (hsame.area .obj)).trans hpath)
  exact ⟨hwaits, hdue.trans hpolls, hsame.trans hpump⟩

theorem State.pump_none {n : Nat} (hnone : s.col.requests = []) : s.pump c n = s := by
  cases n with
  | zero => rfl
  | succ n =>
    unfold State.pump
    split
    · rfl
    · simp [hnone, nextRequest]

/-- The only request ends without a command to complete: it leaves (R305). -/
theorem State.endRequest_last {st : Status} {data : Bytes} (hreqs : s.col.requests = [r]) (hcmd : r.cmd = none) :
    s.endRequest r st data = { s with col := { s.col with requests := [] } } := by
  have hdrop : s.dropRequest r = { s with col := { s.col with requests := [] } } := by simp [State.dropRequest, hreqs]
  simp only [State.endRequest, hcmd, hdrop]
  exact State.pump_none rfl

/-! ### Slots and deadlines -/

theorem execScheduleSlot_fenced (hend : s.endpoint h = true) (hpoll : s.nat Attr.CollectionSchedule.method (s.nat Attr.EndpointProfile.schedule h) = 2)
    (hset : s.unset = false) (hcut : s.cutOff 9 0 = true) (hnone : s.col.requests = []) (hdue : s.col.duePolls = []) :
    execScheduleSlot h s = .next { s with col := { s.col with duePolls := [h] } } := by
  simp [execScheduleSlot, State.slotRetries_none hnone, hend, hpoll, hset, hcut, hdue]

theorem execScheduleSlot_polls (hend : s.endpoint h = true) (hpoll : s.nat Attr.CollectionSchedule.method (s.nat Attr.EndpointProfile.schedule h) = 2)
    (hset : s.unset = false) (hcut : s.cutOff 9 0 = false) (hnone : s.col.requests = []) :
    execScheduleSlot h s = .next (s.pollMissing h (s.nat Attr.CollectionSchedule.lookback (s.nat Attr.EndpointProfile.schedule h))) := by
  simp [execScheduleSlot, State.slotRetries_none hnone, hend, hpoll, hset, hcut]

theorem State.pollMissing_some {n i : Nat} (hmiss : s.firstMissing h (min n 672) = some i) (hi : i ≤ s.lastEnded) :
    s.pollMissing h n = s.request h 2 0x0501 0 (some (i, min (s.lastEnded + 1 - i) 672)) (Config.pollApdu h i (min (s.lastEnded + 1 - i) 672)) none := by
  have hcount : s.lastEnded + 1 - i ≠ 0 := by omega
  simp only [State.pollMissing, hmiss, State.poll, if_neg hcount]

theorem sameBut_commit {f : Flight} : SameBut [.col, .sto, .twn] s (s.commit f) :=
  (SameBut.refl.set_col (s := s)).trans (sameBut_post.mono (by decide))

/-- The one expected interval has no record: a placeholder is committed (R299). -/
theorem State.deadline_missing {due : Nat} (hback : s.nat Attr.CollectionSchedule.lookback (s.nat Attr.EndpointProfile.schedule h) = 1)
    (hnone : s.versions h (due / 900 - 1) = []) (hfall : s.flag Attr.CollectionSchedule.pollFallback (s.nat Attr.EndpointProfile.schedule h) = false) :
    s.deadline h due = s.commit { id := 0, recs := [placeholder h (due / 900 - 1)] } := by
  have hfall' : (s.commit { id := 0, recs := [placeholder h (due / 900 - 1)] }).flag Attr.CollectionSchedule.pollFallback (s.nat Attr.EndpointProfile.schedule h) = false := by
    rw [State.flag_congr (sameBut_commit.area .obj)]
    exact hfall
  simp [State.deadline, hback, hnone, hfall']

theorem execMissingDeadline_fenced {due : Nat} (hend : s.endpoint h = true)
    (hpush : s.nat Attr.CollectionSchedule.method (s.nat Attr.EndpointProfile.schedule h) = 1) (hcut : s.cutOff 9 0 = true) :
    execMissingDeadline h due s = .next { s with col := { s.col with dueDeadlines := s.col.dueDeadlines ++ [(h, due)] } } := by
  simp [execMissingDeadline, hend, hpush, hcut]

theorem execMissingDeadline_checks {due : Nat} (hend : s.endpoint h = true)
    (hpush : s.nat Attr.CollectionSchedule.method (s.nat Attr.EndpointProfile.schedule h) = 1) (hcut : s.cutOff 9 0 = false) (hset : s.unset = false) :
    execMissingDeadline h due s = .next (s.deadline h due) := by
  simp [execMissingDeadline, hend, hpush, hcut, hset]

/-! ### Attempts and restorations -/

/-- A wireless M-Bus request waits for its meter's next access (R305). -/
theorem execRequestTimeout_waits (hreqs : s.col.requests = [r]) (hout : r.outstanding = true) (hleft : r.attempts < s.requestRetries r.cell)
    (hbus : s.isWmbus r.cell = true) :
    execRequestTimeout r.order s = .next { s with col := { s.col with requests := [{ r with outstanding := false }] } } := by
  simp [execRequestTimeout, hreqs, hout, hleft, hbus, State.setRequest]

theorem execRequestTimeout_ends (hreqs : s.col.requests = [r]) (hout : r.outstanding = true) (hlast : s.requestRetries r.cell ≤ r.attempts)
    (hop : r.opcode = 0x0502) (hcmd : r.cmd = none) :
    execRequestTimeout r.order s =
      .next { (s.raise 0x0903 (objPath 0x0501 r.handle) [r.handle, r.opcode, r.serial]) with col := { s.col with requests := [] } } := by
  have hend := State.endRequest_last (s := s.raise 0x0903 (objPath 0x0501 r.handle) [r.handle, r.opcode, r.serial]) (st := .timeout) (data := []) hreqs hcmd
  have hattempts : ¬ r.attempts < s.requestRetries r.cell := Nat.not_lt.2 hlast
  have hfind : s.col.requests.find? (fun x => x.order == r.order && x.outstanding) = some r := by simp [hreqs, hout]
  have hgone : ¬ (r.opcode = 0x0701 ∨ r.opcode = 0x0702) := by rw [hop]; decide
  simp only [execRequestTimeout, hfind, if_neg hattempts, hend, if_neg hgone]
  rfl

theorem execPowerRestoreNotice_draws (hend : s.endpoint h = true) (hrestore : s.flag Attr.CollectionSchedule.restorePoll (s.nat Attr.EndpointProfile.schedule h) = true)
    (hnone : (s.ep h).restorePoll = none) :
    execPowerRestoreNotice h s =
      .next (s.drawn.setEp h { s.ep h with restorePoll := some (s.freeNat % (s.nat Attr.CollectionSchedule.restoreSpreadS (s.nat Attr.EndpointProfile.schedule h) + 1)) }) := by
  simp [execPowerRestoreNotice, hend, hrestore, hnone]

theorem execPowerRestoreNotice_counts (hend : s.endpoint h = true) (hrestore : s.flag Attr.CollectionSchedule.restorePoll (s.nat Attr.EndpointProfile.schedule h) = true)
    {d : Nat} (hsome : (s.ep h).restorePoll = some d) :
    execPowerRestoreNotice h s = .next (s.setEp h { s.ep h with notices := (s.ep h).notices + 1 }) := by
  simp [execPowerRestoreNotice, hend, hrestore, hsome]

/-- A poll that falls due while COL is fenced is kept for its end (R302). -/
theorem execRestorePollDue_fenced {d : Nat} (hsome : (s.ep h).restorePoll = some d) (hcut : s.cutOff 9 0 = true) (hdue : s.col.duePolls = []) :
    Completes (execRestorePollDue h s) (fun t =>
      (t.ep h).restorePoll = none ∧ (t.ep h).notices = 0 ∧ t.col.duePolls = [h] ∧ t.col.requests = s.col.requests ∧ SameBut [.col] s t) := by
  have hep : (s.setEp h { s.ep h with restorePoll := none, notices := 0 }).ep h = { s.ep h with restorePoll := none, notices := 0 } := State.ep_setEp
  have hsame : SameBut [.col] s (s.setEp h { s.ep h with restorePoll := none, notices := 0 }) := sameBut_setEp
  have hcutV : (s.setEp h { s.ep h with restorePoll := none, notices := 0 }).cutOff 9 0 = true := hcut
  have hdueV : (s.setEp h { s.ep h with restorePoll := none, notices := 0 }).col.duePolls = [] := hdue
  have hreqs : (s.setEp h { s.ep h with restorePoll := none, notices := 0 }).col.requests = s.col.requests := rfl
  generalize hv : s.setEp h { s.ep h with restorePoll := none, notices := 0 } = v at hep hsame hcutV hdueV hreqs
  refine ⟨{ v with col := { v.col with duePolls := [h] } }, ?_, congrArg Endpoint.restorePoll hep, congrArg Endpoint.notices hep, rfl, hreqs, hsame.set_col⟩
  simp [execRestorePollDue, hsome, hv, hcutV, hdueV]

/-- Settles O21: each instruction in the situation that its clause names. -/
theorem scheduledReads : Obligations.ScheduledReads := by
  unfold Obligations.ScheduledReads
  refine ⟨fun s h hend hpoll hset hcut hnone hdue => ⟨_, execScheduleSlot_fenced hend hpoll hset hcut hnone hdue, rfl, SameBut.refl.set_col⟩,
    fun s h i hend hpoll hset hcut hnone hpath hmiss hi => ?slot,
    fun s h due hend hpush hcut => ⟨_, execMissingDeadline_fenced hend hpush hcut, rfl, SameBut.refl.set_col⟩,
    fun s h due hend hpush hcut hset hback hnone hfall => ?deadline,
    fun s r hreqs hout hleft hbus => ⟨_, execRequestTimeout_waits hreqs hout hleft hbus, rfl, SameBut.refl.set_col⟩,
    fun s r hreqs hout hlast hop hcmd => ⟨_, execRequestTimeout_ends hreqs hout hlast hop hcmd, rfl, rfl, SameBut.refl.set_recd.set_col⟩,
    fun s h hend hrestore hnone => ⟨_, execPowerRestoreNotice_draws hend hrestore hnone, State.ep_setEp, sameBut_setEp (s := s.drawn)⟩,
    fun s h d hend hrestore hsome => ⟨_, execPowerRestoreNotice_counts hend hrestore hsome, State.ep_setEp, rfl, sameBut_setEp⟩,
    fun s h d hsome hcut hdue => execRestorePollDue_fenced hsome hcut hdue⟩
  case slot =>
    obtain ⟨hwaits, -, hsame⟩ := State.pathlessRequest (q := 2) (op := 0x0501) (m := 0) (poll := some (i, min (s.lastEnded + 1 - i) 672))
      (b := Config.pollApdu h i (min (s.lastEnded + 1 - i) 672)) (cmd := none) hnone hpath
    refine ⟨_, execScheduleSlot_polls hend hpoll hset hcut hnone, ?_⟩
    rw [State.pollMissing_some hmiss hi]
    exact ⟨hwaits, hsame⟩
  case deadline =>
    refine ⟨_, execMissingDeadline_checks hend hpush hcut hset, ?_⟩
    rw [State.deadline_missing hback hnone hfall]
    exact ⟨congrArg Collect.flights (SameBut.area sameBut_post .col), sameBut_commit⟩

end Sys2Proof.Machine
end

section
/-! Records on their way to commit: readings, flights, estimates, rechecks and resumed engines (R306, R321, R322, R329, R331, R332). -/

namespace Sys2Proof.Machine

variable {s t u : State} {h i n : Nat} {f : Flight} {r : NewRec}

/-! ### Readings -/

/-- From `s` to `t` readings have been checked: attributes and registers change, and no flight (R327). -/
structure Checks (s t : State) : Prop where
  same : SameBut [.col, .obj, .mbx] s t
  flights : t.col.flights = s.col.flights
  next : t.col.nextFlight = s.col.nextFlight

theorem Checks.refl : Checks s s := ⟨.refl, rfl, rfl⟩

theorem Checks.trans (h : Checks s t) (h' : Checks t u) : Checks s u :=
  ⟨h.same.trans h'.same, h'.flights.trans h.flights, h'.next.trans h.next⟩

theorem Checks.of_col (h : SameBut [.mbx, .obj] s t) : Checks s t :=
  have hcol : t.col = s.col := h.area .col
  ⟨h.mono (by decide), by rw [hcol], by rw [hcol]⟩

theorem Checks.foldl {α} {g : State → α → State} {xs : List α} (hg : ∀ t x, Checks t (g t x)) : Checks s (xs.foldl g s) := by
  induction xs generalizing s with
  | nil => exact .refl
  | cons x xs ih => exact (hg s x).trans ih

theorem checks_setEp {e : Endpoint} : Checks s (s.setEp h e) := ⟨sameBut_setEp.mono (by decide), rfl, rfl⟩

/-- One reading is checked (R327, R329). -/
def State.readingStep (h : Nat) (fenced : Bool) (acc : List NewRec × State) (r : Reading) : List NewRec × State :=
    let c := if fenced then acc.2.unchecked h r else acc.2.check h r
    let e := acc.2.ep h
    let keep := c.registers ++ e.registers.filter (fun x => !c.registers.any (fun y => y.1 == x.1 && y.2.1 == x.2.1))
    let t := acc.2.setEp h { e with
      registers := keep.take 8192
      noEnergy := if r.noEnergy then (c.record.map (fun n => n.interval)).toList ++ e.noEnergy else e.noEnergy }
    let t := c.registers.foldl (fun t x => t.setNat Attr.EndpointChannel.lastRegister (h * 8 + x.1) x.2.2) t
    let t := (List.range 8).foldl (fun t k => if r.vals.any (fun x => x.1 == k) then t.setFlag Attr.EndpointChannel.present (h * 8 + k) true else t) t
    let older := c.bracket.filterMap (fun j => (t.current h j).map (fun q => (⟨h, j, q.quality ||| qSuspect, q.vals⟩ : NewRec)))
    match c.record with
    | none => (acc.1, t.bump 64 Attr.CollectionService.tooOld 0)
    | some n => (acc.1 ++ older ++ [n], t)

theorem State.commitReadings_eq {rs : List Reading} : s.commitReadings h rs f =
    (rs.foldl (State.readingStep h (s.cutOff 10 0)) ([], s)).2.commit
      { f with recs := (rs.foldl (State.readingStep h (s.cutOff 10 0)) ([], s)).1, unchecked := s.cutOff 10 0 || s.unset } := rfl

theorem checks_readingStep {b : Bool} {acc : List NewRec × State} {r : Reading} : Checks acc.2 (State.readingStep h b acc r).2 := by
  unfold State.readingStep
  dsimp only
  generalize (if b = true then acc.2.unchecked h r else acc.2.check h r) = c
  have hset : ∀ {v : State} {y : Nat × Nat} {i x : Nat}, Checks v (v.setNat y i x) := .of_col sameBut_setNat
  have hflag : ∀ {v : State} {y : Nat × Nat} {i : Nat} {x : Bool}, Checks v (v.setFlag y i x) := .of_col sameBut_setFlag
  split
  · refine Checks.trans (.trans (.trans checks_setEp (.foldl fun v x => hset)) (.foldl fun v x => ?_)) (.of_col sameBut_bump)
    split
    · exact hflag
    · exact .refl
  · refine Checks.trans (.trans checks_setEp (.foldl fun v x => hset)) (.foldl fun v x => ?_)
    split
    · exact hflag
    · exact .refl

theorem checks_readings {b : Bool} {rs : List Reading} {acc : List NewRec × State} : Checks acc.2 (rs.foldl (State.readingStep h b) acc).2 := by
  induction rs generalizing acc with
  | nil => exact .refl
  | cons r rs ih => exact checks_readingStep.trans ih

theorem State.commit_flights : (s.commit f).col.flights = s.col.flights ++ [{ f with id := s.col.nextFlight }] :=
  congrArg Collect.flights (SameBut.area sameBut_post .col)

theorem State.commit_store : ∃ q g, (s.commit f).sto = { s.sto with seq := q, gather := g } := State.post_store

/-- Readings go on the commit path as one flight, with the acknowledgement and the mark of their frame (R321, R327). -/
theorem State.commitReadings_effect {rs : List Reading} :
    (∃ x : Flight, (s.commitReadings h rs f).col.flights = s.col.flights ++ [x] ∧ x.id = s.col.nextFlight ∧ x.ack = f.ack ∧ x.newGen = f.newGen ∧ x.mark = f.mark) ∧
      SameBut [.col, .obj, .mbx, .sto, .twn] s (s.commitReadings h rs f) := by
  have hchecks : Checks s (rs.foldl (State.readingStep h (s.cutOff 10 0)) ([], s)).2 := checks_readings (acc := ([], s))
  rw [State.commitReadings_eq]
  generalize rs.foldl (State.readingStep h (s.cutOff 10 0)) ([], s) = r at hchecks ⊢
  obtain ⟨hsame, hflights, hnext⟩ := hchecks
  refine ⟨⟨_, State.commit_flights.trans (congrArg (· ++ _) hflights), hnext, rfl, rfl, rfl⟩, ?_⟩
  exact (hsame.mono (by decide)).step sameBut_commit

theorem execFirmwareParseDone_reads {rs : List Reading} {c len : Nat} {body : QWord} (hrun : s.sys.handover = false) (hcut : s.cutOff 9 0 = false)
    (hh : h < 0xFFFFFFFF) (hlen : len < 2 ^ 32) (hback : s.que.backlog = [])
    (hwords : (s.queue (s.nat Attr.CollectionService.firmwareQueue 0)).words = [⟨h + c * 2 ^ 32, false, true⟩, ⟨len, false, true⟩, ⟨body.bits, true, true⟩]) :
    ∃ v, SameBut [.que, .recd] s v ∧ execFirmwareParseDone rs s =
      .next (v.commitReadings h rs { id := 0, recs := [], mark := if (s.ep h).pendingCounters.contains c then some (h, c) else none, ack := some (h, c) }) := by
  obtain ⟨v, htake, -, hsame⟩ := State.takeItem_whole hwords hback
  have hcol : v.col = s.col := hsame.area .col
  have hep : v.ep h = s.ep h := by simp only [State.ep, hcol]
  have hlow : (h + c * 2 ^ 32) % 2 ^ 32 = h := by omega
  have hhigh : (h + c * 2 ^ 32) / 2 ^ 32 = c := by omega
  have hgen : len / 2 ^ 32 = 0 := Nat.div_eq_of_lt hlen
  have hne : ¬ h = 0xFFFFFFFF := Nat.ne_of_lt hh
  have hopen : ¬ (s.sys.handover = true ∨ s.cutOff 9 0 = true) := by simp [hrun, hcut]
  refine ⟨v, hsame, ?_⟩
  simp only [execFirmwareParseDone, if_neg hopen, htake, hlow, hhigh, hgen, if_neg hne, hep, if_true]

/-! ### The commit of a flight -/

theorem State.commitFlight_plain (hack : f.ack = none) (hdone : f.done = none) (hgen : f.newGen = none) :
    s.commitFlight f = (s.commitRecords f).2.commitMark f := by
  simp only [State.commitFlight_eq, State.commitGen, State.commitAck, State.commitDone, hack, hdone, hgen]

/-- A record that is not actual becomes the first version of its interval (R335). -/
theorem State.storeRecord_first (hnone : s.versions r.handle r.interval = []) (hopen : s.closedEnd r.handle = none)
    (hact : r.quality &&& (qMissing ||| qEstimated) ≠ 0) : s.storeRecord r = (.kept, s.withVersion r r.quality) := by
  have hlen : ¬ 16 ≤ (s.versions r.handle r.interval).length := by rw [hnone]; decide
  have hact' : ¬ ((r.quality &&& (qMissing ||| qEstimated) == 0) = true ∧
      (s.withVersion r r.quality).nat Attr.EndpointProfile.lastActual r.handle < r.interval) := fun hboth => hact (eq_of_beq hboth.1)
  have hfirst : ¬ ((s.versions r.handle r.interval).getLast?.any fun x => x.quality == r.quality && x.vals == r.vals) = true := by simp [hnone]
  unfold State.storeRecord
  simp only [hopen, Option.any_none, Bool.false_eq_true, if_false, if_neg hfirst, if_neg hlen]
  exact congrArg (Prod.mk Stored.kept) (if_neg hact')

theorem State.versions_withVersion {q : BitVec 7} (hnone : s.versions r.handle r.interval = []) :
    (s.withVersion r q).versions r.handle r.interval = [⟨0, q, r.vals⟩] := by
  simp only [State.versions] at hnone
  simp [State.versions, State.withVersion, Assoc.find_put_same, hnone]

theorem sameBut_circuitTests {vals : List Nat} : SameBut [.recd, .lux] s (s.circuitTests h i vals) := by
  refine .foldl fun v c => ?_
  dsimp only
  split
  · exact .refl
  · exact .ite (SameBut.refl.set_lux.step sameBut_raise) SameBut.refl.set_lux

/-- A flight leaves the commit path. -/
def State.landed (s : State) (f : Flight) : State := { s with col := { s.col with flights := s.col.flights.filter (fun x => x.id != f.id) } }

theorem State.landed_flights (hone : s.col.flights = [f]) : (s.landed f).col.flights = [] := by simp [State.landed, hone]

theorem State.commitRecords_one (hrecs : f.recs = [r]) (hchecked : f.unchecked = false) : (s.commitRecords f).2 = ((s.landed f).storeRecord r).2 := by
  simp [State.commitRecords, hrecs, hchecked, State.landed]

theorem State.commitRecords_none (hrecs : f.recs = []) : (s.commitRecords f).2 = s.landed f := by
  simp [State.commitRecords, hrecs, State.landed]

/-- A flight of one record that is not actual (R335, R321): the lantern tests are those of lanterns only (Table 11-8). -/
theorem execRecordCommitConfirmed_record (hone : s.col.flights = [f]) (hrecs : f.recs = [r]) (hreached : f.reached s.requiredLevel = true)
    (hact : r.quality &&& (qMissing ||| qEstimated) ≠ 0) (hrole : (s.commitFlight f).nat Attr.EndpointProfile.role r.handle ≠ 1) :
    execRecordCommitConfirmed f.id s = .next ((s.commitFlight f).circuitTests r.handle r.interval r.vals) := by
  have hfind : s.col.flights.find? (fun x => x.id == f.id) = some f := by simp [hone]
  have hnone : f.recs.filter (fun x => x.quality &&& (qMissing ||| qEstimated) == 0 && (s.current x.handle x.interval).any (fun y => y.has qEstimated)) = [] := by
    simpa [hrecs] using fun hzero => absurd hzero hact
  simp only [execRecordCommitConfirmed, hfind, hreached, hnone, List.foldl_nil]
  simp [hrecs, hrole]

theorem execRecordCommitConfirmed_mark (hone : s.col.flights = [f]) (hrecs : f.recs = []) (hreached : f.reached s.requiredLevel = true) :
    execRecordCommitConfirmed f.id s = .next (s.commitFlight f) := by
  have hfind : s.col.flights.find? (fun x => x.id == f.id) = some f := by simp [hone]
  simp only [execRecordCommitConfirmed, hfind, hreached, hrecs]
  rfl

theorem recordCommitConfirmed_record (hone : s.col.flights = [f]) (hrecs : f.recs = [r]) (hmark : f.mark = none) (hack : f.ack = none) (hdone : f.done = none)
    (hgen : f.newGen = none) (hchecked : f.unchecked = false) (hreached : f.reached s.requiredLevel = true) (hnone : s.versions r.handle r.interval = [])
    (hopen : s.closedEnd r.handle = none) (hrole : s.nat Attr.EndpointProfile.role r.handle ≠ 1) (hact : r.quality &&& (qMissing ||| qEstimated) ≠ 0) :
    Completes (execRecordCommitConfirmed f.id s) (fun t =>
      t.col.flights = [] ∧ t.versions r.handle r.interval = [⟨0, r.quality, r.vals⟩] ∧ t.sto.bilStream = s.sto.bilStream ++ [(r.handle, r.interval, 0)] ∧
        t.sto.balStream = s.sto.balStream ++ [(r.handle, r.interval, 0)] ∧ SameBut [.col, .sto, .recd, .lux] s t) := by
  have hkey : (r.handle, r.interval, (s.versions r.handle r.interval).length) = (r.handle, r.interval, 0) := by rw [hnone]; rfl
  have hcommit : s.commitFlight f = (s.landed f).withVersion r r.quality := by
    have hfirst : (s.landed f).storeRecord r = (.kept, (s.landed f).withVersion r r.quality) := State.storeRecord_first hnone hopen hact
    rw [State.commitFlight_plain hack hdone hgen, State.commitRecords_one hrecs hchecked, hfirst]
    simp only [State.commitMark, hmark]
  have hversions : ((s.landed f).withVersion r r.quality).versions r.handle r.interval = [⟨0, r.quality, r.vals⟩] := State.versions_withVersion hnone
  have hflights : ((s.landed f).withVersion r r.quality).col.flights = [] := State.landed_flights hone
  have hbil : ((s.landed f).withVersion r r.quality).sto.bilStream = s.sto.bilStream ++ [(r.handle, r.interval, 0)] := congrArg (fun k => s.sto.bilStream ++ [k]) hkey
  have hbal : ((s.landed f).withVersion r r.quality).sto.balStream = s.sto.balStream ++ [(r.handle, r.interval, 0)] := congrArg (fun k => s.sto.balStream ++ [k]) hkey
  have hsame : SameBut [.col, .sto, .recd, .lux] s ((s.landed f).withVersion r r.quality) := SameBut.refl.set_col.set_sto
  generalize (s.landed f).withVersion r r.quality = v at hcommit hversions hflights hbil hbal hsame
  have hroleV : (s.commitFlight f).nat Attr.EndpointProfile.role r.handle ≠ 1 := by rwa [hcommit, State.nat_congr (hsame.area .obj)]
  have htests : SameBut [.recd, .lux] v (v.circuitTests r.handle r.interval r.vals) := sameBut_circuitTests
  refine ⟨_, execRecordCommitConfirmed_record hone hrecs hreached hact hroleV, ?_⟩
  rw [hcommit]
  generalize v.circuitTests r.handle r.interval r.vals = w at htests
  have hcol : w.col = v.col := htests.area .col
  have hsto : w.sto = v.sto := htests.area .sto
  refine ⟨?_, ?_, ?_, ?_, hsame.step htests⟩
  · rw [hcol, hflights]
  · simpa only [State.versions, hsto] using hversions
  · rw [hsto, hbil]
  · rw [hsto, hbal]

/-- An endpoint whose first mark is that of a counter (R315). -/
def Endpoint.firstMark (c : Nat) (e : Endpoint) : Endpoint := { e with pendingCounters := e.pendingCounters.filter (fun x => x != c), heard := true, bitmap := 1 }

theorem State.markCounter_first {h c : Nat} (hheard : (s.ep h).heard = false) :
    s.markCounter h c = (s.setEp h ((s.ep h).firstMark c)).setNat Attr.EndpointProfile.lastCounter h c := by
  have hfirst : (!(s.ep h).heard) = true := by rw [hheard]; rfl
  unfold State.markCounter
  dsimp only
  rw [if_pos hfirst, Endpoint.firstMark]

theorem State.commitMark_current {h c : Nat} (hmark : f.mark = some (h, c)) (hgen : f.newGen = none) : s.commitMark f = s.markCounter h c := by
  unfold State.commitMark
  rw [hmark, hgen]

theorem State.commitFlight_mark {h c : Nat} (hrecs : f.recs = []) (hmark : f.mark = some (h, c)) (hack : f.ack = none) (hdone : f.done = none)
    (hgen : f.newGen = none) (hheard : (s.ep h).heard = false) :
    s.commitFlight f = ((s.landed f).setEp h (((s.landed f).ep h).firstMark c)).setNat Attr.EndpointProfile.lastCounter h c := by
  have hheard' : ((s.landed f).ep h).heard = false := hheard
  rw [State.commitFlight_plain hack hdone hgen, State.commitRecords_none hrecs, State.commitMark_current hmark hgen, State.markCounter_first hheard']

/-- The first mark of an endpoint sets its counter and its window (R315). -/
theorem recordCommitConfirmed_mark {h c : Nat} (hone : s.col.flights = [f]) (hrecs : f.recs = []) (hmark : f.mark = some (h, c)) (hack : f.ack = none)
    (hdone : f.done = none) (hgen : f.newGen = none) (hreached : f.reached s.requiredLevel = true) (hheard : (s.ep h).heard = false) :
    Completes (execRecordCommitConfirmed f.id s) (fun t =>
      t.nat Attr.EndpointProfile.lastCounter h = c ∧ (t.ep h).heard = true ∧ (t.ep h).bitmap = 1 ∧ t.sto = s.sto ∧ SameBut [.col, .obj, .mbx] s t) := by
  refine ⟨_, execRecordCommitConfirmed_mark hone hrecs hreached, ?_⟩
  have hlanded : SameBut [.col] s (s.landed f) := SameBut.refl.set_col
  rw [State.commitFlight_mark hrecs hmark hack hdone hgen hheard]
  generalize s.landed f = v at hlanded
  have hset : SameBut [.col] v (v.setEp h ((v.ep h).firstMark c)) := sameBut_setEp
  have hep : (v.setEp h ((v.ep h).firstMark c)).ep h = (v.ep h).firstMark c := State.ep_setEp
  generalize v.setEp h ((v.ep h).firstMark c) = w at hset hep
  have hsame : SameBut [.col, .obj, .mbx] s (w.setNat Attr.EndpointProfile.lastCounter h c) :=
    ((hlanded.trans hset).mono (by decide)).step sameBut_setNat
  have hcol : (w.setNat Attr.EndpointProfile.lastCounter h c).col = w.col := (sameBut_setNat (s := w)).area .col
  have hepT : (w.setNat Attr.EndpointProfile.lastCounter h c).ep h = w.ep h := by simp only [State.ep, hcol]
  exact ⟨State.nat_setNat, congrArg Endpoint.heard (hepT.trans hep), congrArg Endpoint.bitmap (hepT.trans hep), hsame.area .sto, hsame⟩

/-! ### Stalls, estimates and rechecks -/

theorem execCommitStall_records (hone : s.col.flights = [f]) (hlow : f.reached s.requiredLevel = false) (hfirst : f.stalled = false) :
    execCommitStall f.id s = .next (State.raise { s with col := { s.col with flights := [{ f with stalled := true }] } } 0x0901 (objPath 0x0510 0)
      [(((f.mark.map Prod.fst).or ((f.recs.head?).map NewRec.handle)).getD 0 : Nat), (f.lacks s.requiredLevel : Nat)]) := by
  have hfind : s.col.flights.find? (fun x => x.id == f.id) = some f := by simp [hone]
  have hopen : ¬ (f.reached s.requiredLevel = true ∨ f.stalled = true) := by simp [hlow, hfirst]
  have hmap : s.col.flights.map (fun (g : Flight) => if g.id = f.id then { g with stalled := true } else g) = [{ f with stalled := true }] := by simp [hone]
  simp only [execCommitStall, hfind, if_neg hopen, hmap]
  rfl

theorem execCommitStall_stalled (hone : s.col.flights = [f]) (hstalled : f.stalled = true) : execCommitStall f.id s = .next s := by
  simp [execCommitStall, hone, hstalled]

/-- No actual record is near: the gap's limit is recorded (R332). -/
theorem execEstimationDue_limit {g : Nat} (hopen : s.cutOff 10 0 = false) (hset : s.unset = false) (hcur : (s.current h n).isSome = true)
    (hfar : s.nearActual h n = false) (hgap : s.gapStart h n = g) (hnew : (s.ep h).limits.contains g = false) :
    execEstimationDue h n s = .next ((s.setEp h { s.ep h with limits := (s.ep h).limits ++ [g] }).raise 0x0A02 (objPath 0x0501 h) [(h : Int), (g : Int)]) := by
  have hgo : ¬ (s.cutOff 10 0 = true ∨ s.unset = true ∨ (s.current h n).isNone = true) := by
    simp [hopen, hset, Option.isSome_iff_ne_none.1 hcur]
  have hfar' : (!s.nearActual h n) = true := by rw [hfar]; rfl
  simp only [execEstimationDue, if_neg hgo, if_pos hfar', hgap, hnew, Bool.false_eq_true, if_false]

theorem execEstimationDue_commits (hopen : s.cutOff 10 0 = false) (hset : s.unset = false) (hcur : (s.current h n).isSome = true)
    (hnear : s.nearActual h n = true) (hest : s.estimated h n false = some r) :
    execEstimationDue h n s = .next (s.commit { id := 0, recs := [r] }) := by
  have hgo : ¬ (s.cutOff 10 0 = true ∨ s.unset = true ∨ (s.current h n).isNone = true) := by
    simp [hopen, hset, Option.isSome_iff_ne_none.1 hcur]
  have hnear' : ¬ (!s.nearActual h n) = true := by rw [hnear]; decide
  simp only [execEstimationDue, if_neg hgo, if_neg hnear', hest]

/-- The one unchecked record is as it was: it is no longer unchecked, and the recheck is recorded (R329). -/
theorem execValRecheck_same (hopen : s.cutOff 10 0 = false) (hset : s.unset = false) (heps : s.col.eps = [(h, { s.ep h with unchecked := [i] })])
    (hsame : s.recheck h i = none) :
    execValRecheck s = .next (State.raise { s with col := { s.col with eps := [(h, { s.ep h with unchecked := [] })] } } 0x0A03 (objPath 0x0510 0) [1]) := by
  have hgo : ¬ (s.cutOff 10 0 = true ∨ s.unset = true) := by simp [hopen, hset]
  have hall : s.col.eps.flatMap (fun (e : Nat × Endpoint) => e.2.unchecked.map (fun i => (e.1, i))) = [(h, i)] := by rw [heps]; rfl
  have hnone : [(h, i)].filterMap (fun x => s.recheck x.1 x.2) = [] := by simp [hsame]
  have hmap : s.col.eps.map (fun (e : Nat × Endpoint) => (e.1, { e.2 with unchecked := [] })) = [(h, { s.ep h with unchecked := [] })] := by rw [heps]; rfl
  simp only [execValRecheck, if_neg hgo, hall, hnone, hmap]
  rfl

/-! ### Resumed engines and serial frames -/

theorem State.resumeEngine_fenced {d : Nat} (hcut : s.cutOff d 0 = true) : s.resumeEngine d = s := if_pos (.inl hcut)

/-- COL takes up the one poll that fell due while it was fenced (R302): the endpoint has no path, and its request waits for one. -/
theorem State.resumeEngine_polls (hopen : s.cutOff 9 0 = false) (hset : s.unset = false) (hpolls : s.col.duePolls = [h]) (hdls : s.col.dueDeadlines = [])
    (hnone : s.col.requests = []) (hpath : s.primary h = none) (hmiss : s.firstMissing h 672 = some i) (hi : i ≤ s.lastEnded) :
    (s.resumeEngine 9).col.duePolls = [] ∧
      (∃ r : Request, (s.resumeEngine 9).col.requests = [r] ∧ r.handle = h ∧ r.queue = 2 ∧ r.poll = some (i, min (s.lastEnded + 1 - i) 672)) ∧
      SameBut [.col, .glv, .sto, .twn] s (s.resumeEngine 9) := by
  have hgo : ¬ (s.cutOff 9 0 = true ∨ s.unset = true) := by simp [hopen, hset]
  have hreqs : (State.col { s with col := { s.col with duePolls := [], dueDeadlines := [] } }).requests = [] := hnone
  have hdue : (State.col { s with col := { s.col with duePolls := [], dueDeadlines := [] } }).duePolls = [] := rfl
  have hcol : SameBut [.col] s { s with col := { s.col with duePolls := [], dueDeadlines := [] } } := SameBut.refl.set_col
  have hpoll : State.pollMissing { s with col := { s.col with duePolls := [], dueDeadlines := [] } } h 672 =
      State.request { s with col := { s.col with duePolls := [], dueDeadlines := [] } } h 2 0x0501 0 (some (i, min (s.lastEnded + 1 - i) 672))
        (Config.pollApdu h i (min (s.lastEnded + 1 - i) 672)) none := State.pollMissing_some hmiss hi
  simp only [State.resumeEngine, if_neg hgo, hpolls, hdls, List.foldl_cons, List.foldl_nil, hpoll, if_true]
  generalize { s with col := { s.col with duePolls := [], dueDeadlines := [] } } = v at hreqs hdue hcol ⊢
  have hpathV : v.primary h = none := (State.primary_congr (hcol.area .obj)).trans hpath
  obtain ⟨⟨x, hx, hhandle, hqueue, hrange⟩, hkept, hreq⟩ := State.pathlessRequest (q := 2) (op := 0x0501) (m := 0)
    (poll := some (i, min (s.lastEnded + 1 - i) 672)) (b := Config.pollApdu h i (min (s.lastEnded + 1 - i) 672)) (cmd := none) hreqs hpathV
  generalize v.request h 2 0x0501 0 (some (i, min (s.lastEnded + 1 - i) 672)) (Config.pollApdu h i (min (s.lastEnded + 1 - i) 672)) none = w at hx hkept hreq ⊢
  have hcells : (w.col.requests.map Request.cell).eraseDups = [x.cell] := by rw [hx]; rfl
  have hpathW : w.primary x.handle = none := by rw [hhandle, State.primary_congr (hreq.area .obj)]; exact hpathV
  obtain ⟨⟨y, hy, hyhandle, hyqueue, hyrange⟩, hkept', hpump⟩ := State.pathlessPump (c := x.cell) (n := 64) hx hpathW
  rw [hcells]
  exact ⟨hkept'.trans (hkept.trans hdue), ⟨y, hy, hyhandle.trans hhandle, hyqueue.trans hqueue, hyrange.trans hrange⟩,
    ((hcol.mono (by decide)).trans hreq).trans hpump⟩

theorem State.atLocator_unknown {n key : Nat} {x : Secured} (hopen : s.cutOff 8 0 = false) (hnone : s.findEntry false key = none) (hroom : s.elt.queue.length < 4096) :
    s.atLocator (some key) ⟨32 + n, 0, noShort⟩ 0 x =
      { s with
        col := { s.col with heldFrames := s.col.heldFrames ++ [(s.col.nextHeld, (key, x))], nextHeld := s.col.nextHeld + 1 }
        elt := { s.elt with queue := s.elt.queue ++ [⟨key, 32 + n, 0, 0xFFFE, 0, some s.col.nextHeld⟩] } } := by
  have hgo : ¬ s.cutOff 8 0 = true := by simp [hopen]
  have hlook : s.lookup false key = (none, s) := by simp only [State.lookup, hnone]
  simp only [State.atLocator, if_neg hgo, hlook, Option.bind_none, State.holdFrame, State.sight, if_pos hroom]
  rfl

/-- Settles O22: each instruction in the situation that its clause names. -/
theorem recordsCommitted : Obligations.RecordsCommitted := by
  unfold Obligations.RecordsCommitted
  refine ⟨fun s rs h c len body hrun hcut hh hlen hback hwords => ?parsed,
    fun s f r hone hrecs hmark hack hdone hgen hchecked hreached hnone hopen hrole hact =>
      recordCommitConfirmed_record hone hrecs hmark hack hdone hgen hchecked hreached hnone hopen hrole hact,
    fun s f h c hone hrecs hmark hack hdone hgen hreached hheard => recordCommitConfirmed_mark hone hrecs hmark hack hdone hgen hreached hheard,
    fun s f hone hlow hfirst => ⟨_, execCommitStall_records hone hlow hfirst, rfl, rfl, SameBut.refl.set_col.set_recd⟩,
    fun s f hone hstalled => ⟨_, execCommitStall_stalled hone hstalled, rfl⟩,
    fun s h g n hopen hset hcur hfar hgap hnew => ⟨_, execEstimationDue_limit hopen hset hcur hfar hgap hnew, State.ep_setEp, rfl, ?limit⟩,
    fun s h n r hopen hset hcur hnear hest => ⟨_, execEstimationDue_commits hopen hset hcur hnear hest, State.commit_flights, ?estimate, sameBut_commit⟩,
    fun s h i hopen hset heps hsame => ⟨_, execValRecheck_same hopen hset heps hsame, ?checked, rfl, rfl, SameBut.refl.set_col.set_recd⟩,
    fun s h i hopen hset hpolls hdls hnone hpath hmiss hi => ⟨_, rfl, State.resumeEngine_polls hopen hset hpolls hdls hnone hpath hmiss hi⟩,
    fun s d hcut => ⟨_, rfl, State.resumeEngine_fenced hcut⟩,
    fun s n key x hopen hnone hroom => ⟨_, congrArg Host.Outcome.next (State.atLocator_unknown (x := x) hopen hnone hroom), rfl, rfl, ?serial⟩⟩
  case parsed =>
    obtain ⟨v, hv, hparse⟩ := execFirmwareParseDone_reads (rs := rs) hrun hcut hh hlen hback hwords
    obtain ⟨⟨x, hx, hid, hack, hgen, hmark⟩, hsame⟩ := State.commitReadings_effect (s := v) (h := h) (rs := rs)
      (f := { id := 0, recs := [], mark := if (s.ep h).pendingCounters.contains c then some (h, c) else none, ack := some (h, c) })
    have hcol : v.col = s.col := hv.area .col
    rw [hcol] at hx hid
    exact ⟨_, hparse, ⟨x, hx, hid, hack, hgen, hmark⟩, (hv.mono (by decide)).step hsame⟩
  case limit => exact (sameBut_setEp.mono (by decide)).step sameBut_raise
  case estimate =>
    obtain ⟨q, g, hsto⟩ := State.commit_store (s := s) (f := { id := 0, recs := [r] })
    rw [hsto]
  case checked => simp [State.ep, Assoc.find]
  case serial => simp [SameBut]

end Sys2Proof.Machine
end

section
/-! Billing: calendars, snapshots, booking, boundaries, closes and comparisons (R341–R344, R350–R358, R365–R373, R378). -/

namespace Sys2Proof.Machine

variable {s t u : State} {c : Cmd} {h i k n q : Nat} {im : Calendar}

/-! ### Calendars -/

theorem State.calSlot_setCalSlot {x : CalSlot} : (s.setCalSlot k x).calSlot k = x := by
  simp only [State.calSlot, State.setCalSlot, Assoc.find_put_same, Option.getD_some]

theorem State.calSlot_congr (hbil : t.bil = s.bil) : t.calSlot k = s.calSlot k := by simp only [State.calSlot, hbil]

/-- An image that is not pushed is transferred to no meter (R354). -/
theorem State.pushCalendar_kept {op : Nat} (hsome : (s.calSlot k).passive = some im) (hkeep : im.push = false) : s.pushCalendar k op = s := by
  simp [State.pushCalendar, hsome, hkeep]

/-- A valid image becomes the passive one (R341–R344). -/
theorem calendarLoad_stores (hs : s.Serves c n) (ho : c.opcode = 0x0701) (hparse : parseCalendar c.data = some (k, im))
    (hidle : s.nat Attr.TariffCalendar.activationInterval k = 0) (hkeep : im.push = false) :
    Completes (exec .calendarLoad s) (fun t =>
      Answered s t c n .ok [] ∧ t.calSlot k = { s.calSlot k with passive := some im, pendingMeters := [] } ∧
        t.nat Attr.TariffCalendar.identifierPassive k = im.ident ∧ SameBut [.mbx, .bil, .obj] s t) := by
  let v : State := s.pop.setCalSlot k { s.calSlot k with passive := some im, pendingMeters := [] }
  have hv : SameBut [.bil] s.pop v := sameBut_setCalSlot
  have hpoised : Poised s v := Poised.of_mbx (u := s.pop) ⟨rfl, rfl, rfl⟩ (hv.area .mbx)
  have hslot : v.calSlot k = { s.calSlot k with passive := some im, pendingMeters := [] } := State.calSlot_setCalSlot
  have hbody : doCalendarLoad c s.pop = (⟨.ok, []⟩, v.setNat Attr.TariffCalendar.identifierPassive k im.ident) := by
    have hidle' : ¬ s.pop.nat Attr.TariffCalendar.activationInterval k ≠ 0 := not_not.2 hidle
    have hpush : (v.setNat Attr.TariffCalendar.identifierPassive k im.ident).pushCalendar k 0x0701 = v.setNat Attr.TariffCalendar.identifierPassive k im.ident := by
      refine State.pushCalendar_kept ?_ hkeep
      rw [State.calSlot_congr State.setNat_bil, hslot]
    simp only [doCalendarLoad, hparse, if_neg hidle']
    exact congrArg (Prod.mk _) hpush
  obtain ⟨t, hrun, rfl, hans⟩ := hs.completes ho hbody hpoised.setNat (Nat.zero_le _)
  have hset : SameBut [.mbx, .bil, .obj] s.pop (v.setNat Attr.TariffCalendar.identifierPassive k im.ident) := (hv.mono (by decide)).step sameBut_setNat
  refine ⟨_, hrun, hans, ?_, ?_, (sameBut_pop.mono (by decide)).trans (hset.step sameBut_finish)⟩
  · rw [State.calSlot_congr State.finish_bil, State.calSlot_congr State.setNat_bil, hslot]
  · rw [State.nat_congr State.finish_obj, State.nat_setNat]

/-- An activation interval is set where it lies ahead and starts a demand block (R350, R351). -/
theorem doCalendarActivate_sets {a : Nat} (hk : octet c.payload 0 = k) (hlow : k ≤ 63) (hmode : octet c.payload 1 = 1) (hzero : field c.payload 2 2 = 0)
    (hsome : (s.calSlot k).passive = some im) (hkeep : im.push = false) (ha : field (slice c.payload 4 4) 0 4 = a) (hnow : s.nowInterval < a) (hfar : a ≤ s.thirtyYears)
    (himage : im.blockStart a = true) (hslot : (s.calSlot k).startsBlock a = true) :
    doCalendarActivate c s = (⟨.ok, []⟩, s.setNat Attr.TariffCalendar.activationInterval k a) := by
  have hpush : (s.setNat Attr.TariffCalendar.activationInterval k a).pushCalendar k 0x0702 = s.setNat Attr.TariffCalendar.activationInterval k a := by
    refine State.pushCalendar_kept ?_ hkeep
    rw [State.calSlot_congr State.setNat_bil, hsome]
  have hgood : ¬ (63 < k ∨ 2 < 1 ∨ (0 : Nat) ≠ 0) := by omega
  have hmay : ¬ (a ≤ s.nowInterval ∨ s.thirtyYears < a ∨ (!im.blockStart a) = true ∨ (!(s.calSlot k).startsBlock a) = true) := by
    simp [himage, hslot]
    omega
  have hset : ¬ ((1 : Nat) = 0) := by decide
  simp only [doCalendarActivate, hk, hmode, hzero, if_neg hgood, hsome, if_neg hset, activationOf, if_true, ha, if_neg hmay, hpush]

theorem doCalendarActivate_removes (hk : octet c.payload 0 = k) (hlow : k ≤ 63) (hmode : octet c.payload 1 = 0) (hzero : field c.payload 2 2 = 0)
    (hsome : (s.calSlot k).passive = some im) (hset : s.nat Attr.TariffCalendar.activationInterval k ≠ 0) :
    doCalendarActivate c s = (⟨.ok, []⟩, s.setNat Attr.TariffCalendar.activationInterval k 0) := by
  have hgood : ¬ (63 < k ∨ 2 < 0 ∨ (0 : Nat) ≠ 0) := by omega
  simp only [doCalendarActivate, hk, hmode, hzero, if_neg hgood, hsome, if_neg hset, if_true]

/-- A calendar's activation interval is written, and the command answered OK. -/
theorem calendarActivate_writes {a : Nat} (hs : s.Serves c n) (ho : c.opcode = 0x0702)
    (hbody : doCalendarActivate c s.pop = (⟨.ok, []⟩, s.pop.setNat Attr.TariffCalendar.activationInterval k a)) :
    Completes (exec .calendarActivate s) (fun t =>
      Answered s t c n .ok [] ∧ t.nat Attr.TariffCalendar.activationInterval k = a ∧ t.bil = s.bil ∧ SameBut [.mbx, .obj] s t) := by
  have hpoised : Poised s s.pop := Poised.of_mbx (u := s.pop) ⟨rfl, rfl, rfl⟩ rfl
  obtain ⟨t, hrun, rfl, hans⟩ := hs.completes ho hbody hpoised.setNat (Nat.zero_le _)
  have hsame : SameBut [.mbx, .obj] s ((s.pop.setNat Attr.TariffCalendar.activationInterval k a).finish c ⟨.ok, []⟩) :=
    (sameBut_pop.mono (by decide)).trans (sameBut_setNat.step sameBut_finish)
  refine ⟨_, hrun, hans, ?_, hsame.area .bil, hsame⟩
  rw [State.nat_congr State.finish_obj, State.nat_setNat]

/-! ### Snapshots -/

theorem State.keepSnapshot_effect {b : Bytes} :
    (s.keepSnapshot i b).bil = { s.bil with snaps := Assoc.put i b s.bil.snaps } ∧ SameBut [.bil, .sto, .twn] s (s.keepSnapshot i b) :=
  ⟨(sameBut_post (s := { s with bil := { s.bil with snaps := Assoc.put i b s.bil.snaps } })).area .bil, SameBut.step SameBut.refl.set_bil sameBut_post⟩

theorem State.onDemandSnapshot_effect :
    Assoc.find (h * 128 + 64 + (Assoc.find h s.bil.onDemand).getD 0 % 4) (s.onDemandSnapshot h).bil.snaps = some (s.snapshotBytes h s.nowInterval 1) ∧
      Assoc.find h (s.onDemandSnapshot h).bil.onDemand = some ((Assoc.find h s.bil.onDemand).getD 0 + 1) ∧ SameBut [.bil, .sto, .twn] s (s.onDemandSnapshot h) := by
  obtain ⟨hbil, hsame⟩ := State.keepSnapshot_effect (s := s) (i := h * 128 + 64 + (Assoc.find h s.bil.onDemand).getD 0 % 4) (b := s.snapshotBytes h s.nowInterval 1)
  simp only [State.onDemandSnapshot]
  generalize s.keepSnapshot (h * 128 + 64 + (Assoc.find h s.bil.onDemand).getD 0 % 4) (s.snapshotBytes h s.nowInterval 1) = v at hbil hsame ⊢
  exact ⟨by rw [hbil]; exact Assoc.find_put_same, Assoc.find_put_same, hsame.set_bil⟩

theorem snapshotNow_stores (hs : s.Serves c n) (ho : c.opcode = 0x0703) (hscope : octet c.payload 0 = 0) (hcal : octet c.payload 1 ≤ 63) (hzero : field c.payload 2 2 = 0)
    (hcls : pathCls c.path = 0x0702) (hinst : pathInst c.path = h) :
    Completes (exec .snapshotNow s) (fun t =>
      Answered s t c n .ok [] ∧
        Assoc.find (h * 128 + 64 + (Assoc.find h s.bil.onDemand).getD 0 % 4) t.bil.snaps = some (s.snapshotBytes h s.nowInterval 1) ∧
        Assoc.find h t.bil.onDemand = some ((Assoc.find h s.bil.onDemand).getD 0 + 1) ∧ SameBut [.mbx, .bil, .sto, .twn] s t) := by
  have hgood : ¬ (1 < 0 ∨ 63 < octet c.payload 1 ∨ (0 : Nat) ≠ 0) := by omega
  have hbody : doSnapshotNow c s.pop = (⟨.ok, []⟩, s.pop.onDemandSnapshot h) := by
    simp only [doSnapshotNow, hscope, hzero, if_neg hgood, hcls, hinst, if_true, true_or]
  obtain ⟨hsnap, hdemand, hsame⟩ := State.onDemandSnapshot_effect (s := s.pop) (h := h)
  generalize s.pop.onDemandSnapshot h = v at hbody hsnap hdemand hsame
  obtain ⟨t, hrun, rfl, hans⟩ := hs.completes ho hbody (Poised.of_mbx (u := s.pop) ⟨rfl, rfl, rfl⟩ (hsame.area .mbx)) (Nat.zero_le _)
  refine ⟨_, hrun, hans, ?_, ?_, (sameBut_pop.mono (by decide)).trans ((hsame.mono (by decide)).step sameBut_finish)⟩
  · rw [State.finish_bil]
    exact hsnap
  · rw [State.finish_bil]
    exact hdemand

/-! ### Booking -/

theorem mkPath_ne_of_cls {y z : Nat × Nat} (hne : y.1 ≠ z.1) (hy : y.2 < 256) (hz : z.2 < 256) : mkPath y.1 i y.2 ≠ mkPath z.1 i z.2 := by
  unfold mkPath
  omega

theorem State.calendarOf_congr (hcal : t.nat Attr.EndpointProfile.calendar h = s.nat Attr.EndpointProfile.calendar h) (hbil : t.bil.cals = s.bil.cals) :
    t.calendarOf h i = s.calendarOf h i := by
  simp only [State.calendarOf, State.calSlot, hcal, hbil]

/-- From `s` to `t` the registers of an endpoint have been written, and what they hold is `xs` (R358). -/
structure Registers (h : Nat) (xs : List Int) (s t : State) : Prop where
  held : t.arr Attr.BillingRegisters.registers h = xs
  calendar : t.nat Attr.EndpointProfile.calendar h = s.nat Attr.EndpointProfile.calendar h
  same : SameBut [.obj, .mbx] s t

/-- A register takes a difference that does not wrap it (R358). -/
theorem Registers.add {xs : List Int} {k : Nat} {d : Int} (hr : Registers h xs s t) (hk : k < xs.length) (hlow : 0 ≤ xs.getD k 0 + d) (hfit : xs.getD k 0 + d < 2 ^ 48) :
    Registers h (xs.set k (xs.getD k 0 + d)) s (t.addRegister h k d) := by
  obtain ⟨hheld, hcal, hsame⟩ := hr
  have helem : t.elem Attr.BillingRegisters.registers h k = xs.getD k 0 := by simp only [State.elem, hheld]
  by_cases hzero : d = 0
  · have hkept : xs.set k (xs.getD k 0 + d) = xs := by
      rw [hzero, Int.add_zero, List.getD_eq_getElem _ _ hk, List.set_getElem_self]
    rw [State.addRegister, if_pos hzero, hkept]
    exact ⟨hheld, hcal, hsame⟩
  · have hmod : (xs.getD k 0 + d) % 2 ^ 48 = xs.getD k 0 + d := Int.emod_eq_of_lt hlow hfit
    have hwhole : ¬ (xs.getD k 0 + d < 0 ∨ 2 ^ 48 ≤ xs.getD k 0 + d) := by omega
    simp only [State.addRegister, if_neg hzero, helem, if_neg hwhole, hmod, State.setElem, hheld]
    exact ⟨State.arr_setAttr, (State.nat_setAttr_ne (mkPath_ne_of_cls (by decide) (by decide) (by decide))).trans hcal, hsame.step sameBut_setAttr⟩

/-- What an actual record books for an interval: its four values (R356). -/
def IRec.energies (r : IRec) : List Nat := [(r.val 0).getD 0, (r.val 1).getD 0, (r.val 2).getD 0, (r.val 3).getD 0, 0]

theorem State.bookable_actual {r : IRec} (hq : r.quality = 0) : s.bookable r = r.energies := by
  have hplain : ∀ b, r.has b = false := fun b => by simp [IRec.has, hq]
  simp [State.bookable, hplain, IRec.energies]

/-- The interval's booked values are kept (R356). -/
def State.bookedAt (s : State) (h i : Nat) (xs : List Nat) : State := { s with bil := { s.bil with booked := Assoc.put (recKey h i) xs s.bil.booked } }

/-- The first actual record of an interval of an endpoint without a calendar goes to the registers of rate 1 (R348, R356). -/
theorem State.book_actual {r : IRec} (hq : r.quality = 0) (hcal : s.calendarOf h i = none) (hclose : s.closingEnd h = none)
    (hnew : Assoc.find (recKey h i) s.bil.booked = none) :
    s.book h i r = ((((s.bookedAt h i r.energies).addRegister h 0 ((r.val 0).getD 0 : Nat)).addRegister h 1 ((r.val 1).getD 0 : Nat)).addRegister h 2
      ((r.val 2).getD 0 : Nat)).addRegister h 3 ((r.val 3).getD 0 : Nat) := by
  have hplain : ∀ b, r.has b = false := fun b => by simp [IRec.has, hq]
  have hrate : (s.bookedAt h i r.energies).rateAt h i = 1 := by
    have hcal' : (s.bookedAt h i r.energies).calendarOf h i = none := hcal
    simp [State.rateAt, hcal']
  have hclose' : (s.bookedAt h i r.energies).closingEnd h = none := hclose
  have hfix : ({ s with bil := { s.bil with booked := Assoc.put (recKey h i) r.energies s.bil.booked } } : State) = s.bookedAt h i r.energies := rfl
  have hopen : ¬ ((s.bookedAt h i r.energies).closingEnd h).any (fun e => decide (e ≤ i)) = true := by simp [hclose']
  unfold State.book
  simp only [hcal, hplain, hnew, State.bookable_actual hq, Option.any_none, Option.getD_none, Bool.false_eq_true, false_and, if_false, hfix, if_neg hopen, hrate]
  simp [List.range, List.range.loop, IRec.energies, State.addEstimated]

theorem State.demand_none (hcal : s.calendarOf h i = none) : s.demand h i = s := by
  simp only [State.demand, State.windowsOf, hcal, List.foldl_nil]

theorem getD_set_other {xs : List Int} {j k : Nat} {x : Int} (hne : j ≠ k) : (xs.set j x).getD k 0 = xs.getD k 0 := by
  simp [List.getD_eq_getElem?_getD, hne]

theorem getD_set_at {xs : List Int} {k : Nat} {x : Int} (hk : k < xs.length) : (xs.set k x).getD k 0 = x := by
  simp [List.getD_eq_getElem?_getD, hk]

/-- What an actual record adds to the registers of rate 1 (R356, R358). -/
def addEnergies (r : IRec) (xs : List Int) : List Int :=
  (((xs.set 0 (xs.getD 0 0 + ((r.val 0).getD 0 : Nat))).set 1 (xs.getD 1 0 + ((r.val 1).getD 0 : Nat))).set 2 (xs.getD 2 0 + ((r.val 2).getD 0 : Nat))).set 3
    (xs.getD 3 0 + ((r.val 3).getD 0 : Nat))

theorem getD_addEnergies {r : IRec} {xs : List Int} (hlen : xs.length = 64) :
    (∀ q < 4, (addEnergies r xs).getD q 0 = xs.getD q 0 + ((r.val q).getD 0 : Nat)) ∧ ∀ q, 4 ≤ q → (addEnergies r xs).getD q 0 = xs.getD q 0 := by
  unfold addEnergies
  refine ⟨fun q hq => ?_, fun q hq => ?_⟩
  · interval_cases q
    · rw [getD_set_other (by decide), getD_set_other (by decide), getD_set_other (by decide), getD_set_at (by omega)]
    · rw [getD_set_other (by decide), getD_set_other (by decide), getD_set_at (by simp [hlen])]
    · rw [getD_set_other (by decide), getD_set_at (by simp [hlen])]
    · rw [getD_set_at (by simp [hlen])]
  · rw [getD_set_other (by omega), getD_set_other (by omega), getD_set_other (by omega), getD_set_other (by omega)]

/-- The four values of an actual record, added in turn. -/
theorem registers_energies {r : IRec} (hlen : (s.arr Attr.BillingRegisters.registers h).length = 64)
    (hbounds : ∀ q < 4, 0 ≤ s.elem Attr.BillingRegisters.registers h q ∧ s.elem Attr.BillingRegisters.registers h q + ((r.val q).getD 0 : Nat) < 2 ^ 48) :
    Registers h (addEnergies r (s.arr Attr.BillingRegisters.registers h)) s
      ((((s.addRegister h 0 ((r.val 0).getD 0 : Nat)).addRegister h 1 ((r.val 1).getD 0 : Nat)).addRegister h 2 ((r.val 2).getD 0 : Nat)).addRegister h 3 ((r.val 3).getD 0 : Nat)) := by
  have hstart : Registers h (s.arr Attr.BillingRegisters.registers h) s s := ⟨rfl, rfl, .refl⟩
  obtain ⟨hlow0, hfit0⟩ := hbounds 0 (by decide)
  obtain ⟨hlow1, hfit1⟩ := hbounds 1 (by decide)
  obtain ⟨hlow2, hfit2⟩ := hbounds 2 (by decide)
  obtain ⟨hlow3, hfit3⟩ := hbounds 3 (by decide)
  simp only [State.elem] at *
  generalize s.arr Attr.BillingRegisters.registers h = xs at *
  have hone := hstart.add (k := 0) (d := ((r.val 0).getD 0 : Nat)) (by omega) (by omega) hfit0
  have htwo := hone.add (k := 1) (d := ((r.val 1).getD 0 : Nat)) (by simp [hlen])
  rw [getD_set_other (by decide)] at htwo
  have hthree := (htwo (by omega) hfit1).add (k := 2) (d := ((r.val 2).getD 0 : Nat)) (by simp [hlen])
  rw [getD_set_other (by decide), getD_set_other (by decide)] at hthree
  have hfour := (hthree (by omega) hfit2).add (k := 3) (d := ((r.val 3).getD 0 : Nat)) (by simp [hlen])
  rw [getD_set_other (by decide), getD_set_other (by decide), getD_set_other (by decide)] at hfour
  exact hfour (by omega) hfit3

/-- BIL takes the oldest record of its stream (R323, R356). -/
theorem execRecordBooking_books {v : Nat} {rest : List (Nat × Nat × Nat)} {r : IRec} (hstream : s.sto.bilStream = (h, i, v) :: rest) (hopen : s.cutOff 11 0 = false)
    (hfind : (s.versions h i).find? (fun x => x.version == v) = some r) :
    execRecordBooking s = .next ((State.book { s with sto := { s.sto with bilStream := rest } } h i r).demand h i) := by
  have hgo : ¬ s.cutOff 11 0 = true := by simp [hopen]
  have hfind' : (State.versions { s with sto := { s.sto with bilStream := rest } } h i).find? (fun x => x.version == v) = some r := hfind
  simp only [execRecordBooking, hstream, if_neg hgo, hfind']

theorem recordBooking_actual {v : Nat} {rest : List (Nat × Nat × Nat)} {r : IRec} (hstream : s.sto.bilStream = (h, i, v) :: rest) (hopen : s.cutOff 11 0 = false)
    (hfind : (s.versions h i).find? (fun x => x.version == v) = some r) (hq : r.quality = 0) (hcal : s.calendarOf h i = none) (hclose : s.closingEnd h = none)
    (hnew : Assoc.find (recKey h i) s.bil.booked = none) (hlen : (s.arr Attr.BillingRegisters.registers h).length = 64)
    (hbounds : ∀ q < 4, 0 ≤ s.elem Attr.BillingRegisters.registers h q ∧ s.elem Attr.BillingRegisters.registers h q + ((r.val q).getD 0 : Nat) < 2 ^ 48) :
    Completes (exec .recordBooking s) (fun t =>
      t.sto.bilStream = rest ∧
        (∀ q < 4, t.elem Attr.BillingRegisters.registers h q = s.elem Attr.BillingRegisters.registers h q + ((r.val q).getD 0 : Nat)) ∧
        (∀ q, 4 ≤ q → t.elem Attr.BillingRegisters.registers h q = s.elem Attr.BillingRegisters.registers h q) ∧
        Assoc.find (recKey h i) t.bil.booked = some r.energies ∧ SameBut [.sto, .bil, .obj, .mbx] s t) := by
  have hrun := execRecordBooking_books hstream hopen hfind
  have hbook := State.book_actual (s := { s with sto := { s.sto with bilStream := rest } }) hq hcal hclose hnew
  rw [hbook] at hrun
  have hregs := registers_energies (s := State.bookedAt { s with sto := { s.sto with bilStream := rest } } h i r.energies) (h := h) (r := r) hlen hbounds
  have hcalU : (State.bookedAt { s with sto := { s.sto with bilStream := rest } } h i r.energies).calendarOf h i = none := hcal
  have hstart : SameBut [.sto, .bil] s (State.bookedAt { s with sto := { s.sto with bilStream := rest } } h i r.energies) := SameBut.refl.set_sto.set_bil
  have hrest : (State.bookedAt { s with sto := { s.sto with bilStream := rest } } h i r.energies).sto.bilStream = rest := rfl
  have hbooked : Assoc.find (recKey h i) (State.bookedAt { s with sto := { s.sto with bilStream := rest } } h i r.energies).bil.booked = some r.energies := Assoc.find_put_same
  have harr : (State.bookedAt { s with sto := { s.sto with bilStream := rest } } h i r.energies).arr Attr.BillingRegisters.registers h = s.arr Attr.BillingRegisters.registers h := rfl
  rw [harr] at hregs
  generalize State.bookedAt { s with sto := { s.sto with bilStream := rest } } h i r.energies = u at hrun hregs hcalU hstart hrest hbooked
  generalize (((u.addRegister h 0 ((r.val 0).getD 0 : Nat)).addRegister h 1 ((r.val 1).getD 0 : Nat)).addRegister h 2 ((r.val 2).getD 0 : Nat)).addRegister h 3
    ((r.val 3).getD 0 : Nat) = w at hrun hregs
  obtain ⟨hheld, hcalW, hsame⟩ := hregs
  have hbil : w.bil = u.bil := hsame.area .bil
  have hsto : w.sto = u.sto := hsame.area .sto
  rw [State.demand_none ((State.calendarOf_congr hcalW (by rw [hbil])).trans hcalU)] at hrun
  obtain ⟨hfour, hothers⟩ := getD_addEnergies (r := r) hlen
  refine ⟨w, hrun, by rw [hsto, hrest], fun q hq4 => ?_, fun q hq4 => ?_, by rw [hbil, hbooked], (hstart.mono (by decide)).trans (hsame.mono (by decide))⟩
  · simp only [State.elem, hheld]
    exact hfour q hq4
  · simp only [State.elem, hheld]
    exact hothers q hq4

end Sys2Proof.Machine
end

section
/-! Billing in time: boundaries, closes of periods and comparisons with meters (R352, R365, R371–R373, R378). -/

namespace Sys2Proof.Machine

variable {s t u : State} {c a h i k : Nat} {im : Calendar}

/-! ### The boundary of an activation -/

/-- The key (i, p) of a calendar has been executed between `s` and `t` (R378): the guard stands there. -/
structure Executed (c i p fl : Nat) (s t : State) : Prop where
  done : t.bil = { s.bil with executed := (i, p, c, fl) :: s.bil.executed }
  guard : t.guard = (i, p)
  change : Changes [.obj, .mbx, .bil, .sto, .twn] [Attr.BillingService.boundarySeq, Attr.BillingService.guardInterval, Attr.BillingService.guardPosition] s t

theorem executed_boundaryDone {p fl : Nat} : Executed c i p fl s (s.boundaryDone c i p fl) := by
  have hseq : Changes [.obj, .mbx] [Attr.BillingService.boundarySeq] s (s.bump 32 Attr.BillingService.boundarySeq 0) := changes_bump
  unfold State.boundaryDone
  dsimp only
  generalize s.bump 32 Attr.BillingService.boundarySeq 0 = v at hseq ⊢
  have hat : Changes [.obj, .mbx] [Attr.BillingService.guardInterval] v (v.setNat Attr.BillingService.guardInterval 0 i) := changes_setNat
  have hi : (v.setNat Attr.BillingService.guardInterval 0 i).nat Attr.BillingService.guardInterval 0 = i := State.nat_setNat
  generalize v.setNat Attr.BillingService.guardInterval 0 i = w at hat hi ⊢
  have hpos : Changes [.obj, .mbx] [Attr.BillingService.guardPosition] w (w.setNat Attr.BillingService.guardPosition 0 p) := changes_setNat
  have hp : (w.setNat Attr.BillingService.guardPosition 0 p).nat Attr.BillingService.guardPosition 0 = p := State.nat_setNat
  have hiw : (w.setNat Attr.BillingService.guardPosition 0 p).nat Attr.BillingService.guardInterval 0 = i := (hpos.nat _ _).trans hi
  generalize w.setNat Attr.BillingService.guardPosition 0 p = x at hpos hp hiw ⊢
  have hx : Changes [.obj, .mbx, .bil, .sto, .twn] [Attr.BillingService.boundarySeq, Attr.BillingService.guardInterval, Attr.BillingService.guardPosition] s x :=
    (hseq.mono.step hat).step hpos
  have hbil : x.bil = s.bil := (hpos.bil.trans hat.bil).trans hseq.bil
  have hput : Changes [.bil] [] x { x with bil := { x.bil with executed := (i, p, c, fl) :: x.bil.executed } } := .of_same SameBut.refl.set_bil
  have hdone : (State.bil { x with bil := { x.bil with executed := (i, p, c, fl) :: x.bil.executed } }) = { s.bil with executed := (i, p, c, fl) :: s.bil.executed } := by
    rw [← hbil]
  generalize ({ x with bil := { x.bil with executed := (i, p, c, fl) :: x.bil.executed } } : State) = z at hput hdone ⊢
  have hpost : Changes [.sto, .twn] [] z (z.post (.boundary c p fl i (x.nat Attr.BillingService.boundarySeq 0))) := changes_post
  refine ⟨hpost.bil.trans hdone, ?_, (hx.step hput).step hpost⟩
  exact Prod.ext ((hpost.nat _ _).trans ((hput.nat _ _).trans hiw)) ((hpost.nat _ _).trans ((hput.nat _ _).trans hp))

/-- What an activation writes of a calendar's attributes (R352). -/
abbrev activationAttrs : List (Nat × Nat) := [Attr.TariffCalendar.generation, Attr.TariffCalendar.activationInterval, Attr.TariffCalendar.identifierActive,
  Attr.TariffCalendar.identifierPassive, Attr.TariffCalendar.retired, Attr.TariffCalendar.horizonInterval, Attr.TariffCalendar.nextPeriodEnd]

/-- A slot whose passive image has become its newest generation (R352). -/
def CalSlot.activated (x : CalSlot) (i g : Nat) (im : Calendar) : CalSlot :=
  { x with passive := none, gens := (⟨i, g, im⟩ :: x.gens).take 4, horizon := false, late := x.pendingMeters }

/-- The passive image becomes the newest generation; no meter is late (R352, R354). -/
theorem State.activateCalendar_effect (hsome : (s.calSlot c).passive = some im) (hmeters : (s.calSlot c).pendingMeters = []) (hc : c < 2 ^ 40) :
    (s.activateCalendar c i).bil = { s.bil with cals := Assoc.put c ((s.calSlot c).activated i ((s.nat Attr.TariffCalendar.generation c + 1) % 2 ^ 16) im) s.bil.cals } ∧
      (s.activateCalendar c i).nat Attr.TariffCalendar.activationInterval c = 0 ∧ (s.activateCalendar c i).nat Attr.TariffCalendar.identifierActive c = im.ident ∧
      Changes [.obj, .mbx, .bil, .recd] activationAttrs s (s.activateCalendar c i) := by
  have hnone : ∀ w : State, (s.calSlot c).pendingMeters.foldl (fun w h => w.raise 0x0B06 (objPath 0x0501 h) [(h : Int), (im.ident : Int)]) w = w := by
    intro w
    rw [hmeters, List.foldl_nil]
  unfold State.activateCalendar
  simp only [hsome, hnone]
  generalize (s.nat Attr.TariffCalendar.generation c + 1) % 2 ^ 16 = g
  have hput : Changes [.bil] [] s (s.setCalSlot c ((s.calSlot c).activated i g im)) := .of_same sameBut_setCalSlot
  have hbil : (s.setCalSlot c ((s.calSlot c).activated i g im)).bil = { s.bil with cals := Assoc.put c ((s.calSlot c).activated i g im) s.bil.cals } := rfl
  rw [CalSlot.activated] at hput hbil ⊢
  generalize s.setCalSlot c _ = v at hput hbil ⊢
  have hset : ∀ {w : State} {y : Nat × Nat} {x : Nat}, y.2 < 256 → Changes [.obj, .mbx] [y] w (w.setNat y c x) := fun hy => changes_setNat hy
  have hact : Changes [.obj, .mbx] [Attr.TariffCalendar.generation, Attr.TariffCalendar.activationInterval] v
      ((v.setNat Attr.TariffCalendar.generation c g).setNat Attr.TariffCalendar.activationInterval c 0) := (hset (by decide)).mono.step (hset (by decide))
  have hzero : ((v.setNat Attr.TariffCalendar.generation c g).setNat Attr.TariffCalendar.activationInterval c 0).nat Attr.TariffCalendar.activationInterval c = 0 := State.nat_setNat
  generalize (v.setNat Attr.TariffCalendar.generation c g).setNat Attr.TariffCalendar.activationInterval c 0 = w at hact hzero ⊢
  have hid : Changes [.obj, .mbx] [Attr.TariffCalendar.identifierActive] w (w.setNat Attr.TariffCalendar.identifierActive c im.ident) := hset (by decide)
  have hident : (w.setNat Attr.TariffCalendar.identifierActive c im.ident).nat Attr.TariffCalendar.identifierActive c = im.ident := State.nat_setNat
  generalize w.setNat Attr.TariffCalendar.identifierActive c im.ident = x at hid hident ⊢
  have hrest : ∀ {r : Val} {m e : Nat} {p : Nat} {l : List Int}, Changes [.obj, .mbx, .recd] [Attr.TariffCalendar.identifierPassive, Attr.TariffCalendar.retired,
      Attr.TariffCalendar.horizonInterval, Attr.TariffCalendar.nextPeriodEnd] x
      (((((x.setNat Attr.TariffCalendar.identifierPassive c 0).setAttr Attr.TariffCalendar.retired c r).setNat Attr.TariffCalendar.horizonInterval c m).setNat
        Attr.TariffCalendar.nextPeriodEnd c e).raise 0x0B04 p l) := fun {_ _ _ _ _} =>
    ((((hset (by decide)).mono.step changes_setAttr).step (hset (by decide))).step (hset (by decide))).step changes_raise
  have hall : Changes [.obj, .mbx, .bil, .recd] activationAttrs s x := (hput.mono.step hact).step hid
  refine ⟨?_, ?_, ?_, hall.step hrest⟩
  · exact hrest.bil.trans ((hid.bil.trans hact.bil).trans hbil)
  · exact (hrest.nat _ _).trans ((hid.nat _ _).trans hzero)
  · exact (hrest.nat _ _).trans hident

/-- From `s` to `t` calendars may have been marked at their horizon (R346); their generations and images, and what was executed, stand. -/
structure Horizons (s t : State) : Prop where
  gens : ∀ c, (t.calSlot c).gens = (s.calSlot c).gens
  passive : ∀ c, (t.calSlot c).passive = (s.calSlot c).passive
  executed : t.bil.executed = s.bil.executed
  obj : t.obj = s.obj

theorem State.calSlot_setCalSlot_ne {x : CalSlot} {d : Nat} (hne : d ≠ c) : (s.setCalSlot c x).calSlot d = s.calSlot d := by
  simp only [State.calSlot, State.setCalSlot, Assoc.find_put_ne hne]

theorem horizons_horizons : Horizons s s.horizons := by
  have hstep : ∀ {α} (g : State → α → State) (xs : List α) (v : State), (∀ v x, Horizons v (g v x)) → Horizons v (xs.foldl g v) := by
    intro α g xs v hg
    induction xs generalizing v with
    | nil => exact ⟨fun _ => rfl, fun _ => rfl, rfl, rfl⟩
    | cons x xs ih =>
      obtain ⟨hgens, hpassive, hexec, hobj⟩ := hg v x
      obtain ⟨hgens', hpassive', hexec', hobj'⟩ := ih (g v x)
      exact ⟨fun c => (hgens' c).trans (hgens c), fun c => (hpassive' c).trans (hpassive c), hexec'.trans hexec, hobj'.trans hobj⟩
  refine hstep _ _ _ fun v x => ?_
  have hrefl : Horizons v v := ⟨fun _ => rfl, fun _ => rfl, rfl, rfl⟩
  split
  · exact hrefl
  · split
    · have hmark : ∀ d, ((v.setCalSlot x.1 { v.calSlot x.1 with horizon := true }).calSlot d).gens = (v.calSlot d).gens ∧
          ((v.setCalSlot x.1 { v.calSlot x.1 with horizon := true }).calSlot d).passive = (v.calSlot d).passive := by
        intro d
        by_cases hd : d = x.1
        · rw [hd, State.calSlot_setCalSlot]
          exact ⟨rfl, rfl⟩
        · rw [State.calSlot_setCalSlot_ne hd]
          exact ⟨rfl, rfl⟩
      exact ⟨fun d => (hmark d).1, fun d => (hmark d).2, rfl, rfl⟩
    · exact hrefl

/-- The keys of one calendar: the filter of the 64 numbers (Table 09-9). -/
theorem State.filter_boundary {b : Nat → Bool} (hc : c < 64) (hb : b c = true) (hothers : ∀ d, d ≠ c → b d = false) : (List.range 64).filter b = [c] := by
  have hiff : ∀ d ∈ List.range 64, b d = (d == c) := by
    intro d _
    by_cases hd : d = c
    · rw [hd, hb, beq_self_eq_true]
    · rw [hothers d hd, beq_false_of_ne hd]
  rw [List.filter_congr hiff, List.filter_beq, List.count_eq_one_of_mem List.nodup_range (List.mem_range.2 hc), List.replicate_one]

theorem CalSlot.genAt_none {x : CalSlot} (hnone : x.gens = []) : x.genAt i = none := by
  simp [CalSlot.genAt, hnone]

/-- Without a generation the only boundary is an activation (Table 09-9). -/
theorem State.isBoundary_ungenerated {p : Nat} (hnone : (s.calSlot c).gens = []) (hp : p ≠ 3) : s.isBoundary c i p = false := by
  unfold State.isBoundary
  simp only [CalSlot.genAt_none hnone, Option.any_none]
  split <;> simp_all

theorem State.executeKey_none {p fl : Nat} (hnone : ∀ d, s.isBoundary d i p = false) : s.executeKey i p fl = s := by
  have hempty : (List.range 64).filter (fun d => s.isBoundary d i p) = [] := List.filter_eq_nil_iff.2 fun d _ => by simp [hnone d]
  simp only [State.executeKey, hempty, List.foldl_nil, ite_self]

theorem State.executeKey_one {p fl : Nat} (habove : s.aboveGuard i p = true) (hc : c < 64) (hb : s.isBoundary c i p = true)
    (hothers : ∀ d, d ≠ c → s.isBoundary d i p = false) : s.executeKey i p fl = s.executeBoundary c i p fl := by
  have hgo : ¬ (!s.aboveGuard i p) = true := by simp [habove]
  simp only [State.executeKey, if_neg hgo, State.filter_boundary (b := fun d => s.isBoundary d i p) hc hb hothers, List.foldl_cons, List.foldl_nil]

/-- The only calendar, without a generation: its first boundary is its activation. -/
theorem State.boundarySpan_activation {x : CalSlot} (hcals : s.bil.cals = [(c, x)]) (hgens : x.gens = []) (hsome : x.passive = some im)
    (hact : s.nat Attr.TariffCalendar.activationInterval c = a) (hguard : s.guard.1 < a) : s.boundarySpan a = [a] := by
  have hfirst : s.firstBoundary = some a := by
    have hne : a ≠ 0 := by omega
    simp [State.firstBoundary, hcals, hgens, hsome, hact, hne, least]
  have hmax : max a s.guard.1 = a := by omega
  have hone : a + 1 - a = 1 := by omega
  simp [State.boundarySpan, hfirst, hmax, hone]

theorem Executed.calSlot {p fl d : Nat} (hx : Executed c i p fl s t) : t.calSlot d = s.calSlot d := by
  simp only [State.calSlot, hx.done]

theorem State.executeBoundary_activation : s.executeBoundary c i 3 0 = (s.activateCalendar c i).boundaryDone c i 3 0 := rfl

theorem State.executeBoundary_switch : s.executeBoundary c i 4 0 = s.boundaryDone c i 4 0 := rfl

/-- What the keys of an activation interval execute (Table 09-9): the activation and, where the new image switches there, its switch. -/
theorem State.keys_activation {x : CalSlot} (hcals : s.bil.cals = [(c, x)]) (hc : c < 64) (hgens : x.gens = []) (hsome : x.passive = some im)
    (hact : s.nat Attr.TariffCalendar.activationInterval c = a) (hguard : s.guard.1 < a) (hmeters : x.pendingMeters = []) :
    ∃ v, Executed c a 3 0 (s.activateCalendar c a) v ∧
      ([1, 2, 3, 4].foldl (fun w p => w.executeKey a p 0) s = v ∨ Executed c a 4 0 v ([1, 2, 3, 4].foldl (fun w p => w.executeKey a p 0) s)) := by
  have hslot : s.calSlot c = x := by simp [State.calSlot, hcals, Assoc.find]
  have hother : ∀ d, d ≠ c → s.calSlot d = {} := fun d hd => by simp [State.calSlot, hcals, Assoc.find, Ne.symm hd]
  have hall : ∀ d, (s.calSlot d).gens = [] := fun d => by
    by_cases hd : d = c
    · rw [hd, hslot, hgens]
    · rw [hother d hd]
  have hone : s.executeKey a 1 0 = s := State.executeKey_none fun d => State.isBoundary_ungenerated (hall d) (by decide)
  have htwo : s.executeKey a 2 0 = s := State.executeKey_none fun d => State.isBoundary_ungenerated (hall d) (by decide)
  have habove : s.aboveGuard a 3 = true := by simp [State.aboveGuard, hguard]
  have hthree : s.executeKey a 3 0 = (s.activateCalendar c a).boundaryDone c a 3 0 := by
    have hne : a ≠ 0 := by omega
    have hb : s.isBoundary c a 3 = true := by simp [State.isBoundary, hslot, hsome, hact, hne]
    have hothers : ∀ d, d ≠ c → s.isBoundary d a 3 = false := fun d hd => by simp [State.isBoundary, hother d hd]
    rw [State.executeKey_one habove hc hb hothers, State.executeBoundary_activation]
  have hexec : Executed c a 3 0 (s.activateCalendar c a) ((s.activateCalendar c a).boundaryDone c a 3 0) := executed_boundaryDone
  have hact' := State.activateCalendar_effect (s := s) (i := a) (by rw [hslot]; exact hsome) (by rw [hslot]; exact hmeters) (by omega : c < 2 ^ 40)
  refine ⟨_, hexec, ?_⟩
  simp only [List.foldl_cons, List.foldl_nil, hone, htwo, hthree]
  have hothersV : ∀ d, d ≠ c → (((s.activateCalendar c a).boundaryDone c a 3 0).calSlot d).gens = [] := fun d hd => by
    rw [hexec.calSlot, State.calSlot, hact'.1]
    simp only [Assoc.find_put_ne hd]
    exact hall d
  have haboveV : ((s.activateCalendar c a).boundaryDone c a 3 0).aboveGuard a 4 = true := by simp [State.aboveGuard, hexec.guard]
  generalize (s.activateCalendar c a).boundaryDone c a 3 0 = v at hothersV haboveV
  have hfalse : ∀ d, d ≠ c → v.isBoundary d a 4 = false := fun d hd => State.isBoundary_ungenerated (hothersV d hd) (by decide)
  by_cases hb : v.isBoundary c a 4 = true
  · refine .inr ?_
    rw [State.executeKey_one haboveV hc hb hfalse, State.executeBoundary_switch]
    exact executed_boundaryDone
  · refine .inl (State.executeKey_none fun d => ?_)
    by_cases hd : d = c
    · rw [hd]
      exact Bool.eq_false_iff.2 hb
    · exact hfalse d hd

/-- At its activation interval the passive image becomes the newest generation (R352, R378). -/
theorem billingBoundary_activation {x : CalSlot} (hruns : s.executes = true) (hup : s.bil.downSince = none) (hcals : s.bil.cals = [(c, x)]) (hc : c < 64)
    (hgens : x.gens = []) (hsome : x.passive = some im) (hmeters : x.pendingMeters = []) (hact : s.nat Attr.TariffCalendar.activationInterval c = a)
    (hnow : a = s.nowInterval) (hguard : s.guard.1 < a) :
    Completes (exec .billingBoundary s) (fun t =>
      (t.calSlot c).gens = [⟨a, (s.nat Attr.TariffCalendar.generation c + 1) % 2 ^ 16, im⟩] ∧ (t.calSlot c).passive = none ∧
        t.nat Attr.TariffCalendar.activationInterval c = 0 ∧ t.nat Attr.TariffCalendar.identifierActive c = im.ident ∧
        t.nat Attr.BillingService.guardInterval 0 = a ∧ (a, 3, c, 0) ∈ t.bil.executed ∧ SameBut [.bil, .obj, .mbx, .recd, .sto, .twn] s t) := by
  have hslot : s.calSlot c = x := by simp [State.calSlot, hcals, Assoc.find]
  have hspan := State.boundarySpan_activation hcals hgens hsome hact hguard
  have hsame : SameBut boundaryAreas s (s.runBoundaries 0) := sameBut_runBoundaries
  have hrun : s.restoreBilling = ([1, 2, 3, 4].foldl (fun w p => w.executeKey a p 0) s).horizons := by
    simp only [State.restoreBilling, State.runBoundaries, hup, hruns, ← hnow, hspan, List.foldl_cons, List.foldl_nil, Option.isSome_none, Bool.not_true,
      Bool.false_eq_true, if_false]
  have hrest : s.restoreBilling = s.runBoundaries 0 := by simp only [State.restoreBilling, hup]
  obtain ⟨v, hv, hlast⟩ := State.keys_activation hcals hc hgens hsome hact hguard hmeters
  obtain ⟨hbil, hzero, hident, hchange⟩ := State.activateCalendar_effect (s := s) (i := a) (by rw [hslot]; exact hsome) (by rw [hslot]; exact hmeters) (by omega : c < 2 ^ 40)
  rw [hslot] at hbil
  generalize s.activateCalendar c a = w at hv hbil hzero hident hchange
  have hvslot : v.calSlot c = x.activated a ((s.nat Attr.TariffCalendar.generation c + 1) % 2 ^ 16) im := by
    rw [hv.calSlot, State.calSlot, hbil]
    simp only [Assoc.find_put_same, Option.getD_some]
  have hvdone : (a, 3, c, 0) ∈ v.bil.executed := by
    rw [hv.done]
    exact List.mem_cons_self
  have hvzero : v.nat Attr.TariffCalendar.activationInterval c = 0 := (hv.change.nat _ _).trans hzero
  have hvident : v.nat Attr.TariffCalendar.identifierActive c = im.ident := (hv.change.nat _ _).trans hident
  have hvguard : v.nat Attr.BillingService.guardInterval 0 = a := congrArg Prod.fst hv.guard
  refine ⟨_, rfl, ?_⟩
  rw [← hrest] at hsame
  rw [hrun] at hsame ⊢
  generalize [1, 2, 3, 4].foldl (fun w p => w.executeKey a p 0) s = u at hlast hsame ⊢
  obtain ⟨hgensH, hpassiveH, hexecH, hobjH⟩ := horizons_horizons (s := u)
  have hnats := State.nat_congr hobjH
  rw [hgensH, hpassiveH, hexecH, hnats, hnats, hnats]
  have hgensX : (x.activated a ((s.nat Attr.TariffCalendar.generation c + 1) % 2 ^ 16) im).gens = [⟨a, (s.nat Attr.TariffCalendar.generation c + 1) % 2 ^ 16, im⟩] := by
    simp [CalSlot.activated, hgens]
  rcases hlast with rfl | hu
  · exact ⟨by rw [hvslot, hgensX], by rw [hvslot]; rfl, hvzero, hvident, hvguard, hvdone, hsame.mono (by decide)⟩
  · refine ⟨by rw [hu.calSlot, hvslot, hgensX], by rw [hu.calSlot, hvslot]; rfl, (hu.change.nat _ _).trans hvzero, (hu.change.nat _ _).trans hvident,
      congrArg Prod.fst hu.guard, ?_, hsame.mono (by decide)⟩
    rw [hu.done]
    exact List.mem_cons_of_mem _ hvdone

/-! ### The close of a period -/

/-- A close without endpoints ends the oldest waiting period (R365). -/
theorem State.closePeriod_empty {e at2 : Nat} {rest : List (Nat × Nat)} (hcloses : (s.calSlot c).closes = (e, at2) :: rest) (hnone : s.calHandles c = []) :
    s.closePeriod c = ((s.setCalSlot c { s.calSlot c with closes := rest, closedEnd := some e }).setNat Attr.TariffCalendar.periodNumber c
      ((s.nat Attr.TariffCalendar.periodNumber c + 1) % 2 ^ 32)).raise 0x0B03 (objPath 0x0701 c) [(c : Int), (s.nat Attr.TariffCalendar.periodNumber c : Nat)] := by
  simp only [State.closePeriod, hcloses, hnone, List.foldl_nil, ite_self]

theorem periodClosed_empty {e at2 : Nat} {rest : List (Nat × Nat)} (hc : c < 64) (hopen : s.cutOff 11 0 = false) (hmode : s.sys.mode = .service)
    (hcloses : (s.calSlot c).closes = (e, at2) :: rest) (hnone : s.calHandles c = []) :
    Completes (exec (.periodClosed c) s) (fun t =>
      t.calSlot c = { s.calSlot c with closes := rest, closedEnd := some e } ∧
        t.nat Attr.TariffCalendar.periodNumber c = (s.nat Attr.TariffCalendar.periodNumber c + 1) % 2 ^ 32 ∧
        t.recd = s.recd.ordinary ⟨0x0B03, objPath 0x0701 c, [(c : Int), (s.nat Attr.TariffCalendar.periodNumber c : Nat)]⟩ ∧ SameBut [.bil, .obj, .mbx, .recd] s t) := by
  have hgo : ¬ (64 ≤ c ∨ s.cutOff 11 0 = true ∨ (!s.commits) = true ∧ s.sys.mode ≠ .shadow) := by
    simp [State.commits, hmode, hopen]
    omega
  have hrun : execPeriodClosed c s = .next (s.closePeriod c) := if_neg hgo
  rw [State.closePeriod_empty hcloses hnone] at hrun
  have hslot : SameBut [.bil] s (s.setCalSlot c { s.calSlot c with closes := rest, closedEnd := some e }) := sameBut_setCalSlot
  have hheld : (s.setCalSlot c { s.calSlot c with closes := rest, closedEnd := some e }).calSlot c = { s.calSlot c with closes := rest, closedEnd := some e } :=
    State.calSlot_setCalSlot
  generalize s.setCalSlot c { s.calSlot c with closes := rest, closedEnd := some e } = v at hrun hslot hheld
  have hset : SameBut [.mbx, .obj] v (v.setNat Attr.TariffCalendar.periodNumber c ((s.nat Attr.TariffCalendar.periodNumber c + 1) % 2 ^ 32)) := sameBut_setNat
  have hnum : (v.setNat Attr.TariffCalendar.periodNumber c ((s.nat Attr.TariffCalendar.periodNumber c + 1) % 2 ^ 32)).nat Attr.TariffCalendar.periodNumber c =
      (s.nat Attr.TariffCalendar.periodNumber c + 1) % 2 ^ 32 := State.nat_setNat
  generalize v.setNat Attr.TariffCalendar.periodNumber c ((s.nat Attr.TariffCalendar.periodNumber c + 1) % 2 ^ 32) = w at hrun hset hnum
  have hrecd : w.recd = s.recd := Eq.trans (hset.area .recd) (hslot.area .recd)
  have hbil : w.bil = v.bil := hset.area .bil
  refine ⟨_, hrun, ?_, ?_, ?_, ((hslot.mono (by decide)).step hset).step sameBut_raise⟩
  · rw [State.calSlot_congr (State.raise_bil), State.calSlot_congr hbil, hheld]
  · exact hnum
  · exact congrArg (fun r : Recorder => r.ordinary _) hrecd

/-! ### The comparison with a meter -/

theorem execRegisterCompare_authority {r : MeterReport} (hend : s.endpoint r.handle = true) (hopen : s.cutOff 11 0 = false)
    (hauth : s.nat Attr.EndpointProfile.billingAuthority r.handle = 1) :
    execRegisterCompare r s = .next (s.setNat Attr.RegisterComparison.lastResult r.handle 3) := by
  simp [execRegisterCompare, hend, hopen, hauth]

theorem execRegisterCompare_compares {r : MeterReport} (hend : s.endpoint r.handle = true) (hopen : s.cutOff 11 0 = false)
    (hauth : s.nat Attr.EndpointProfile.billingAuthority r.handle ≠ 1) (hbooked : s.allBooked r.handle r.capture = true) :
    execRegisterCompare r s = .next (s.compare r) := by
  simp [execRegisterCompare, hend, hopen, hauth, hbooked]

/-- A report is entered: the meter's demands and the capture (R371). -/
def State.withReport (s : State) (r : MeterReport) : State :=
  (s.setAttr Attr.RegisterComparison.meterMaxDemand r.handle (.arr ((List.range 16).map (fun k => r.demands.getD k 0)))).setNat Attr.RegisterComparison.lastCapture
    r.handle r.capture

/-- The first report is the baseline of the chip's registers and of the meter's difference (R372). -/
def State.baselined (s : State) (r : MeterReport) (chip : List Int) : State :=
  State.setAttr { s with bil := { s.bil with baseChip := Assoc.put r.handle chip s.bil.baseChip } } Attr.RegisterComparison.baseline r.handle
    (.arr ((List.range 34).map (fun k => r.values.getD k 0 - chip.getD k 0)))

/-- The deviations from the baseline (R373). -/
def State.deviations (s : State) (r : MeterReport) (chip : List Int) : List Int :=
  (List.range 34).map (fun k => r.values.getD k 0 - chip.getD k 0 - s.elem Attr.RegisterComparison.baseline r.handle k)

/-- Which deviations are within the tolerance (R373). -/
def State.tolerated (s : State) (r : MeterReport) (chip d : List Int) : List Bool :=
  (List.range 34).map (fun k => decide (((d.getD k 0).natAbs : Int) * 1000000 ≤ s.int Attr.BillingService.compareTolUnits 0 * 1000000 +
    (chip.getD k 0 - ((Assoc.find r.handle s.bil.baseChip).getD []).getD k 0) * s.int Attr.BillingService.compareTolPpm 0))

theorem State.compare_first {r : MeterReport} (hbase : Assoc.find r.handle s.bil.baseChip = none)
    (hlate : (s.calSlot (s.nat Attr.EndpointProfile.calendar r.handle)).late.contains r.handle = false) {w : State}
    (hw : (s.withReport r).baselined r (s.bookedBefore r.handle r.capture) = w) {d : List Int} (hd : w.deviations r (s.bookedBefore r.handle r.capture) = d) :
    s.compare r = (w.setAttr Attr.RegisterComparison.deviation r.handle (.arr d)).compared r.handle
      (compareResult (w.tolerated r (s.bookedBefore r.handle r.capture) d)) (worstOf d) := by
  subst hw hd
  have hfresh : (r.reset || (Assoc.find r.handle s.bil.baseChip).isNone) = true := by simp [hbase]
  unfold State.compare
  simp only [hfresh, hlate, Bool.not_true, Bool.false_and, Bool.false_eq_true, or_self, if_false, if_true]
  rfl

theorem deviations_baseline {r : MeterReport} {chip : List Int} (hbase : s.arr Attr.RegisterComparison.baseline r.handle = (List.range 34).map (fun k => r.values.getD k 0 - chip.getD k 0)) :
    s.deviations r chip = List.replicate 34 0 := by
  refine List.eq_replicate_iff.2 ⟨by simp [State.deviations], fun x hx => ?_⟩
  obtain ⟨k, hk, rfl⟩ := List.mem_map.1 hx
  have hk : k < 34 := List.mem_range.1 hk
  simp [State.elem, hbase, List.getD_eq_getElem?_getD, List.getElem?_map, List.getElem?_range hk]

theorem tolerated_baseline {r : MeterReport} {chip : List Int} (hbase : Assoc.find r.handle s.bil.baseChip = some chip) (htol : 0 ≤ s.int Attr.BillingService.compareTolUnits 0) :
    s.tolerated r chip (List.replicate 34 0) = List.replicate 34 true := by
  refine List.eq_replicate_iff.2 ⟨by simp [State.tolerated], fun x hx => ?_⟩
  obtain ⟨k, hk, rfl⟩ := List.mem_map.1 hx
  have hzero : (List.replicate 34 (0 : Int)).getD k 0 = 0 := by
    rw [List.getD_eq_getElem?_getD, List.getElem?_replicate]
    split <;> rfl
  simp only [hzero, hbase, Option.getD_some, sub_self, zero_mul, decide_eq_true_eq, Int.natAbs_zero]
  omega

theorem State.withReport_effect {r : MeterReport} (hh : r.handle < 2 ^ 40) :
    (s.withReport r).nat Attr.RegisterComparison.lastCapture r.handle = r.capture ∧
      Changes [.obj, .mbx] [Attr.RegisterComparison.meterMaxDemand, Attr.RegisterComparison.lastCapture] s (s.withReport r) := by
  have hmax : ∀ {x : Val}, Changes [.obj, .mbx] [Attr.RegisterComparison.meterMaxDemand] s (s.setAttr Attr.RegisterComparison.meterMaxDemand r.handle x) := changes_setAttr
  exact ⟨State.nat_setNat, hmax.mono.step changes_setNat⟩

theorem State.baselined_effect {r : MeterReport} {chip : List Int} (hh : r.handle < 2 ^ 40) :
    (s.baselined r chip).arr Attr.RegisterComparison.baseline r.handle = (List.range 34).map (fun k => r.values.getD k 0 - chip.getD k 0) ∧
      Assoc.find r.handle (s.baselined r chip).bil.baseChip = some chip ∧
      Changes [.obj, .mbx, .bil] [Attr.RegisterComparison.baseline] s (s.baselined r chip) := by
  have hput : Changes [.bil] [] s { s with bil := { s.bil with baseChip := Assoc.put r.handle chip s.bil.baseChip } } := .of_same SameBut.refl.set_bil
  have hfind : Assoc.find r.handle (State.bil { s with bil := { s.bil with baseChip := Assoc.put r.handle chip s.bil.baseChip } }).baseChip = some chip := Assoc.find_put_same
  unfold State.baselined
  generalize ({ s with bil := { s.bil with baseChip := Assoc.put r.handle chip s.bil.baseChip } } : State) = v at hput hfind ⊢
  have hset : ∀ {x : Val}, Changes [.obj, .mbx] [Attr.RegisterComparison.baseline] v (v.setAttr Attr.RegisterComparison.baseline r.handle x) := changes_setAttr
  exact ⟨State.arr_setAttr, by rw [hset.bil]; exact hfind, hput.mono.step hset⟩

/-- A comparison that matches (R373). -/
theorem State.compared_match {w : Int} (hh : h < 2 ^ 40) :
    (s.compared h 0 w).nat Attr.RegisterComparison.lastResult h = 0 ∧ (s.compared h 0 w).nat Attr.RegisterComparison.consecutive h = 0 ∧
      (s.compared h 0 w).flag Attr.RegisterComparison.mismatch h = false ∧
      Changes [.obj, .mbx] [Attr.RegisterComparison.lastResult, Attr.RegisterComparison.consecutive, Attr.RegisterComparison.mismatch] s (s.compared h 0 w) := by
  have heq : s.compared h 0 w = ((s.setNat Attr.RegisterComparison.lastResult h 0).setNat Attr.RegisterComparison.consecutive h 0).setFlag Attr.RegisterComparison.mismatch h false := rfl
  have hres : Changes [.obj, .mbx] [Attr.RegisterComparison.lastResult] s (s.setNat Attr.RegisterComparison.lastResult h 0) := changes_setNat
  have hzero : (s.setNat Attr.RegisterComparison.lastResult h 0).nat Attr.RegisterComparison.lastResult h = 0 := State.nat_setNat
  rw [heq]
  generalize s.setNat Attr.RegisterComparison.lastResult h 0 = v at hres hzero
  have hcon : Changes [.obj, .mbx] [Attr.RegisterComparison.consecutive] v (v.setNat Attr.RegisterComparison.consecutive h 0) := changes_setNat
  have hnone : (v.setNat Attr.RegisterComparison.consecutive h 0).nat Attr.RegisterComparison.consecutive h = 0 := State.nat_setNat
  generalize v.setNat Attr.RegisterComparison.consecutive h 0 = x at hcon hnone
  have hmis : Changes [.obj, .mbx] [Attr.RegisterComparison.mismatch] x (x.setFlag Attr.RegisterComparison.mismatch h false) := changes_setFlag
  exact ⟨(hmis.nat _ _).trans ((hcon.nat _ _).trans hzero), (hmis.nat _ _).trans hnone, State.flag_setFlag, (hres.mono.step hcon).step hmis⟩

/-- The first report is the baseline, from which nothing deviates (R372, R373). -/
theorem registerCompare_baseline {r : MeterReport} (hend : s.endpoint r.handle = true) (hlow : r.handle < 2 ^ 21) (hopen : s.cutOff 11 0 = false)
    (hauth : s.nat Attr.EndpointProfile.billingAuthority r.handle ≠ 1) (hbooked : s.allBooked r.handle r.capture = true)
    (hbase : Assoc.find r.handle s.bil.baseChip = none)
    (hlate : (s.calSlot (s.nat Attr.EndpointProfile.calendar r.handle)).late.contains r.handle = false) (htol : 0 ≤ s.int Attr.BillingService.compareTolUnits 0) :
    Completes (exec (.registerCompare r) s) (fun t =>
      t.nat Attr.RegisterComparison.lastResult r.handle = 0 ∧ t.nat Attr.RegisterComparison.consecutive r.handle = 0 ∧
        t.flag Attr.RegisterComparison.mismatch r.handle = false ∧ t.nat Attr.RegisterComparison.lastCapture r.handle = r.capture ∧
        Assoc.find r.handle t.bil.baseChip = some (s.bookedBefore r.handle r.capture) ∧ SameBut [.obj, .mbx, .bil] s t) := by
  have hh : r.handle < 2 ^ 40 := by omega
  have hrun := execRegisterCompare_compares hend hopen hauth hbooked
  generalize hchip : s.bookedBefore r.handle r.capture = chip
  obtain ⟨hcap, hreport⟩ := State.withReport_effect (s := s) hh
  obtain ⟨harr, hfind, hbaselined⟩ := State.baselined_effect (s := s.withReport r) (chip := chip) hh
  have hcompare := State.compare_first hbase hlate rfl rfl
  rw [hchip] at hcompare
  rw [hcompare] at hrun
  generalize (s.withReport r).baselined r chip = w at hrun harr hfind hbaselined
  have hstart : Changes [.obj, .mbx, .bil] [Attr.RegisterComparison.meterMaxDemand, Attr.RegisterComparison.lastCapture, Attr.RegisterComparison.baseline] s w :=
    hreport.mono.step hbaselined
  have htolW : 0 ≤ w.int Attr.BillingService.compareTolUnits 0 := by rw [hstart.int _ _]; exact htol
  rw [deviations_baseline harr, tolerated_baseline hfind htolW, show compareResult (List.replicate 34 true) = 0 from by decide] at hrun
  have hcapW : w.nat Attr.RegisterComparison.lastCapture r.handle = r.capture := (hbaselined.nat _ _).trans hcap
  have hdev : ∀ {x : Val}, Changes [.obj, .mbx] [Attr.RegisterComparison.deviation] w (w.setAttr Attr.RegisterComparison.deviation r.handle x) := changes_setAttr
  have hdev := @hdev (.arr (List.replicate 34 0))
  generalize w.setAttr Attr.RegisterComparison.deviation r.handle (.arr (List.replicate 34 0)) = x at hrun hdev
  obtain ⟨hres, hcon, hmis, hmatch⟩ := State.compared_match (s := x) (w := worstOf (List.replicate 34 0)) hh
  refine ⟨_, hrun, hres, hcon, hmis, (hmatch.nat _ _).trans ((hdev.nat _ _).trans hcapW), ?_, (hstart.same.step hdev.same).step hmatch.same⟩
  rw [hmatch.bil, hdev.bil, hfind]

/-- Settles O23: each command and each step of the billing service in the situation that its clause names. -/
theorem billingAndTariffs : Obligations.BillingAndTariffs := by
  unfold Obligations.BillingAndTariffs
  refine ⟨fun s c n k im hs ho hparse hidle hkeep => calendarLoad_stores hs ho hparse hidle hkeep, fun s c n hs ho hparse => ?bad,
    fun s c n k a im hs ho hk hlow hmode hzero hsome hkeep ha hnow hfar himage hslot => ?sets, fun s c n k im hs ho hk hlow hmode hzero hsome hset => ?removes,
    fun s c n h hs ho hscope hcal hzero hcls hinst => snapshotNow_stores hs ho hscope hcal hzero hcls hinst,
    fun s h i v rest r hstream hopen hfind hq hcal hclose hnew hlen hbounds => recordBooking_actual hstream hopen hfind hq hcal hclose hnew hlen hbounds,
    fun s hcut => ⟨s, ?fenced, rfl⟩,
    fun s c a x im hruns hup hcals hc hgens hsome hmeters hact hnow hguard => ?boundary, fun s hstop => ⟨_, rfl, ?stopped⟩,
    fun s c e at2 rest hc hopen hmode hcloses hnone => periodClosed_empty hc hopen hmode hcloses hnone,
    fun s r hend hopen hauth => ⟨_, execRegisterCompare_authority hend hopen hauth, State.nat_setNat, sameBut_setNat.mono (by decide)⟩,
    fun s r hend hlow hopen hauth hbooked hbase hlate htol => registerCompare_baseline hend hlow hopen hauth hbooked hbase hlate htol⟩
  case bad =>
    have hbody : doCalendarLoad c s.pop = (⟨.badValue, []⟩, s.pop) := by simp only [doCalendarLoad, hparse]
    exact State.Serves.completes_unchanged (b := doCalendarLoad) hs ho hbody (Nat.zero_le _)
  case sets =>
    have hbody := doCalendarActivate_sets (s := s.pop) hk hlow hmode hzero hsome hkeep ha hnow hfar himage hslot
    obtain ⟨t, hrun, hans, hat, -, hsame⟩ := calendarActivate_writes hs ho hbody
    exact ⟨t, hrun, hans, hat, hsame⟩
  case removes => exact calendarActivate_writes hs ho (doCalendarActivate_removes (s := s.pop) hk hlow hmode hzero hsome hset)
  case fenced =>
    show execRecordBooking s = .next s
    unfold execRecordBooking
    split
    · rfl
    · exact if_pos hcut
  case boundary =>
    obtain ⟨t, hrun, hgensT, hrest⟩ := billingBoundary_activation hruns hup hcals hc hgens hsome hmeters hact hnow hguard
    exact ⟨t, hrun, hgensT, hrest⟩
  case stopped =>
    have hrun : ∀ fl, s.runBoundaries fl = s := fun fl => by simp [State.runBoundaries, hstop]
    unfold State.restoreBilling
    split
    · exact hrun 0
    · simp [hstop]

end Sys2Proof.Machine
end

section
/-! Balance groups: definitions, memberships, evaluations, the daily run and proposals (R394–R403, R414, R418–R421). -/

namespace Sys2Proof.Machine

variable {s t u : State} {c : Cmd} {g h i n : Nat} {d : GroupDef}

/-! ### What an evaluation changes -/

/-- What the fit and the persistence write of a group (R400, R403). -/
abbrev fitAttrs : List (Nat × Nat) := [Attr.BalanceGroup.updates, Attr.BalanceGroup.lossCoeff, Attr.BalanceGroup.state, Attr.BalanceGroup.excessCount,
  Attr.BalanceGroup.deficitCount, Attr.BalanceGroup.deficitFlag]

/-- From `s` to `t` a group has been fitted and its persistence counted: objects and memberships are those of before. -/
structure Fits (s t : State) : Prop where
  change : Changes [.bal, .obj, .mbx, .recd] fitAttrs s t
  live : t.obj.live = s.obj.live
  members : t.bal.members = s.bal.members

theorem Fits.refl : Fits s s := ⟨.refl, rfl, rfl⟩

theorem Fits.trans (h : Fits s t) (h' : Fits t u) : Fits s u :=
  ⟨h.change.trans h'.change, h'.live.trans h.live, h'.members.trans h.members⟩

theorem Fits.ite {p : Prop} [Decidable p] (ht : Fits s t) (hu : Fits s u) : Fits s (if p then t else u) := by
  split <;> assumption

theorem fits_setGroup {x : Group} : Fits s (s.setGroup g x) := ⟨(Changes.of_same (areas := [.bal]) (ys := []) SameBut.refl.set_bal).mono, rfl, rfl⟩

theorem fits_setAttr {y : Nat × Nat} {v : Val} (hy : y ∈ fitAttrs) (hlow : y.2 < 256) (hg : g < 2 ^ 40) : Fits s (s.setAttr y g v) := by
  have hset : Changes [.obj, .mbx] [y] s (s.setAttr y g v) := changes_setAttr hlow hg
  have hbal : (s.setAttr y g v).bal = s.bal := hset.bal
  exact ⟨hset.mono (by decide) (List.cons_subset.2 ⟨hy, List.nil_subset _⟩), State.setAttr_live, by rw [hbal]⟩

theorem fits_balRaise {code path : Nat} {args : List Int} : Fits s (s.balRaise code path args) :=
  .ite .refl ⟨changes_raise.mono, rfl, rfl⟩

theorem fits_fit {y x : Dbl} {b : Bool} (hg : g < 2 ^ 40) : Fits s (s.fit g d y x b) := by
  unfold State.fit
  dsimp only
  exact .ite .refl ((fits_setGroup.trans (fits_setAttr (by decide) (by decide) hg)).trans (fits_setAttr (by decide) (by decide) hg))

theorem fits_groupState (hg : g < 2 ^ 40) : Fits s (s.groupState g) := by
  have hset : ∀ {v : State} {y : Nat × Nat} {x : Nat}, y ∈ fitAttrs → y.2 < 256 → Fits v (v.setNat y g x) := fun hy hlow => fits_setAttr hy hlow hg
  have hflag : ∀ {v : State} {x : Bool}, Fits v (v.setFlag Attr.BalanceGroup.deficitFlag g x) := fits_setAttr (by decide) (by decide) hg
  unfold State.groupState
  extract_lets w ex de pc v st x
  have hv : Fits s v := (hset (by decide) (by decide)).trans (hset (by decide) (by decide))
  have hx : Fits v x := .ite ((hset (by decide) (by decide)).trans fits_balRaise) (.ite ((hset (by decide) (by decide)).trans fits_balRaise) .refl)
  exact (hv.trans hx).trans (.ite .refl (.ite (hflag.trans fits_balRaise) (.ite hflag .refl)))

theorem State.ownMembers_none (hnone : s.bal.members = []) : s.ownMembers g i = [] := by
  simp [State.ownMembers, State.membersAt, hnone]

theorem State.attribute_none {r : Dbl} (hnone : s.bal.members = []) : s.attribute g i r = s := by
  simp only [State.attribute, State.ownMembers_none hnone, List.foldl_nil]

theorem State.testNeutral_none {r : IRec} (hnone : s.bal.members = []) : s.testNeutral g i r = s := by
  simp only [State.testNeutral, State.ownMembers_none hnone, List.foldl_nil]

/-- What an evaluation writes of a residual (R424). -/
abbrev residualAttrs : List (Nat × Nat) := [Attr.GroupResidual.interval, Attr.GroupResidual.status, Attr.GroupResidual.headWh, Attr.GroupResidual.membersWh,
  Attr.GroupResidual.lossWh, Attr.GroupResidual.residualWh, Attr.GroupResidual.coverage, Attr.GroupResidual.estimatedShare, Attr.GroupResidual.evaluations]

theorem resInst_lt (hg : g < 8192) : resInst g i < 2 ^ 40 := by
  unfold resInst
  omega

theorem State.evaluated_congr (halive : t.alive 0x0804 (resInst g i) = s.alive 0x0804 (resInst g i))
    (hat : t.nat Attr.GroupResidual.interval (resInst g i) = s.nat Attr.GroupResidual.interval (resInst g i)) : t.evaluated g i = s.evaluated g i := by
  simp only [State.evaluated, halive, hat]

/-- The entry of an interval is written: it has been evaluated (R424). -/
theorem State.writeResidual_effect {r : Residual} (hg : g < 8192) :
    (s.writeResidual g i r).evaluated g i = true ∧ Changes [.obj, .mbx] residualAttrs s (s.writeResidual g i r) := by
  have hi := resInst_lt (i := i) hg
  unfold State.writeResidual
  extract_lets k n a b e f
  have ha : Changes [.obj, .mbx] [] s a := (changes_create (ys := [])).mono
  have halive : a.alive 0x0804 k = true := State.alive_create
  have hnat : ∀ {v : State} {y : Nat × Nat} {x : Nat}, y.2 < 256 → Changes [.obj, .mbx] [y] v (v.setNat y k x) := fun hy => changes_setNat hy hi
  have hint : ∀ {v : State} {y : Nat × Nat} {x : Int}, y.2 < 256 → Changes [.obj, .mbx] [y] v (v.setInt y k x) := fun hy => changes_setInt hy hi
  have hat : (a.setNat Attr.GroupResidual.interval k i).nat Attr.GroupResidual.interval k = i := State.nat_setNat
  have hb : Changes [.obj, .mbx] [Attr.GroupResidual.status] (a.setNat Attr.GroupResidual.interval k i) b := hnat (by decide)
  have he : Changes [.obj, .mbx] [Attr.GroupResidual.headWh, Attr.GroupResidual.membersWh] b e := (hint (by decide)).mono.step (hint (by decide))
  have hf : Changes [.obj, .mbx] [Attr.GroupResidual.lossWh, Attr.GroupResidual.residualWh] e f := (hint (by decide)).mono.step (hint (by decide))
  have hlast : Changes [.obj, .mbx] [Attr.GroupResidual.coverage, Attr.GroupResidual.estimatedShare, Attr.GroupResidual.evaluations] f
      (((f.setNat Attr.GroupResidual.coverage k r.coverage).setNat Attr.GroupResidual.estimatedShare k (min r.estShare 65535)).setNat Attr.GroupResidual.evaluations k n) :=
    ((hnat (by decide)).mono.step (hnat (by decide))).step (hnat (by decide))
  have hrest : Changes [.obj, .mbx] (residualAttrs.tail) (a.setNat Attr.GroupResidual.interval k i)
      (((f.setNat Attr.GroupResidual.coverage k r.coverage).setNat Attr.GroupResidual.estimatedShare k (min r.estShare 65535)).setNat Attr.GroupResidual.evaluations k n) :=
    ((hb.mono.step he).step hf).step hlast
  have hlive : (((f.setNat Attr.GroupResidual.coverage k r.coverage).setNat Attr.GroupResidual.estimatedShare k (min r.estShare 65535)).setNat
      Attr.GroupResidual.evaluations k n).obj.live = a.obj.live := by
    simp only [f, e, b, State.setNat, State.setInt, State.setAttr_live]
  refine ⟨?_, (ha.mono.step (hnat (by decide))).step hrest⟩
  have hshown : State.evaluated (((f.setNat Attr.GroupResidual.coverage k r.coverage).setNat Attr.GroupResidual.estimatedShare k (min r.estShare 65535)).setNat
      Attr.GroupResidual.evaluations k n) g i = (a.alive 0x0804 k && (a.setNat Attr.GroupResidual.interval k i).nat Attr.GroupResidual.interval k == i) := by
    unfold State.evaluated
    rw [State.alive_congr hlive, hrest.nat _ _]
  rw [hshown, halive, hat, beq_self_eq_true, Bool.and_self]

/-- A first evaluation writes the residual and moves the last one; without members nothing is attributed (R400, R404). -/
theorem State.evaluateGroup_effect (hd : s.defAt g i = some d) (hfirst : s.evaluated g i = false) (hnone : s.bal.members = []) (hg : g < 8192) :
    (s.evaluateGroup g i).evaluated g i = true ∧
      (s.evaluateGroup g i).nat Attr.BalanceGroup.lastEvaluated g = max i (s.nat Attr.BalanceGroup.lastEvaluated g) ∧
      SameBut [.bal, .obj, .mbx, .recd] s (s.evaluateGroup g i) := by
  unfold State.evaluateGroup
  rw [hd]
  dsimp -zeta only
  extract_lets again r v learning w x gr hist y z f
  have hg40 : g < 2 ^ 40 := by omega
  obtain ⟨hevaluated, hv⟩ : v.evaluated g i = true ∧ Changes [.obj, .mbx] residualAttrs s v := State.writeResidual_effect hg
  have hwrite : w = v.setNat Attr.BalanceGroup.lastEvaluated g (max i (v.nat Attr.BalanceGroup.lastEvaluated g)) := if_neg (Bool.eq_false_iff.1 hfirst)
  clear_value again r v
  have hw : Changes [.obj, .mbx] [Attr.BalanceGroup.lastEvaluated] v w := hwrite ▸ changes_setNat
  have hwlive : w.obj.live = v.obj.live := hwrite ▸ State.setAttr_live
  have hwlast : w.nat Attr.BalanceGroup.lastEvaluated g = max i (s.nat Attr.BalanceGroup.lastEvaluated g) := by
    rw [hwrite, State.nat_setNat, hv.nat _ _]
  have hwnone : w.bal.members = [] := by rw [hw.bal, hv.bal, hnone]
  clear_value w
  have hx : Fits w x := by
    refine .ite ?_ .refl
    have hfit := fits_fit (s := w) (d := d) (y := Dbl.sub (Dbl.sub r.head r.sum) (Dbl.ofInt d.fixed)) (x := Dbl.mul r.head r.head) (b := r.excess || r.deficit) hg40
    rw [State.attribute_none (hfit.members.trans hwnone)]
    exact hfit
  clear_value x
  have hz : Fits x z := fits_setGroup.trans (.ite (fits_setAttr (by decide) (by decide) hg40) .refl)
  clear_value z
  have hf : Fits w f := (hx.trans hz).trans (fits_groupState hg40)
  clear_value f
  have hkeep : ∀ x, f.testNeutral g i x = f := fun _ => State.testNeutral_none (hf.members.trans hwnone)
  have hi := resInst_lt (i := i) hg
  have hshown : f.evaluated g i = true := by
    rw [State.evaluated_congr (s := w) (State.alive_congr hf.live) (hf.change.nat _ _), State.evaluated_congr (State.alive_congr hwlive) (hw.nat _ _)]
    exact hevaluated
  have hlast : f.nat Attr.BalanceGroup.lastEvaluated g = max i (s.nat Attr.BalanceGroup.lastEvaluated g) := (hf.change.nat _ _).trans hwlast
  have hsame : SameBut [.bal, .obj, .mbx, .recd] s f := ((hv.same.mono (by decide)).step hw.same).step hf.change.same
  simp only [hkeep, ite_self]
  split <;> exact ⟨hshown, hlast, hsame⟩

theorem State.takeBalance_none (hnone : s.sto.balStream = []) : s.takeBalance = s := by
  have hsto : { s.sto with balStream := [] } = s.sto := by rw [← hnone]
  simp only [State.takeBalance, hnone, hsto, List.flatMap_nil, List.eraseDups_nil, List.foldl_nil]

/-- A settled interval is evaluated on the group's home (R399, R421). -/
theorem execBalanceEvaluate_evaluates (hopen : s.cutOff 12 0 = false) (hset : s.unset = false) (hnone : s.sto.balStream = []) (hhome : s.groupHome g = s.twn.self)
    (hpast : i < s.nowInterval) (hfirst : s.evaluated g i = false) (hdue : s.settled i = true) :
    execBalanceEvaluate g i s = .next (s.evaluateGroup g i) := by
  simp [execBalanceEvaluate, State.takeBalance_none hnone, hopen, hset, hhome, hfirst, hdue, Nat.not_le.2 hpast]

theorem execBalanceSumsDeadline_evaluates (hopen : s.cutOff 12 0 = false) (hnone : s.sto.balStream = []) (hhome : s.groupHome g = s.twn.self)
    (hfirst : s.evaluated g i = false) (hdue : s.settled i = true) : execBalanceSumsDeadline g i s = .next (s.evaluateGroup g i) := by
  simp [execBalanceSumsDeadline, State.takeBalance_none hnone, hopen, hhome, hfirst, hdue]

/-! ### The daily run (R414) -/

/-- A daily run without endpoints, groups and proposals ages the bins (R409). -/
theorem execDailyRun_idle {k : Nat} (hlast : s.bal.lastRun = some k) (hopen : s.cutOff 12 0 = false) (hcommits : s.commits = true) (hset : s.unset = false)
    (hended : k + 1 < s.nowInterval / 96) (hdue : (k + 2) * 86400 + s.nat Attr.BalanceService.dailyRunMin 0 * 60 ≤ s.serviceSec) (hends : s.instances 0x0501 = [])
    (hgroups : s.bal.groups = []) (horder : s.bal.order = []) (hnone : s.sto.balStream = []) :
    execDailyRun s = .next { s.ageBins with bal := { s.ageBins.bal with lastRun := some (k + 1) } } := by
  have hgo : ¬ (s.cutOff 12 0 = true ∨ (!s.commits) = true ∨ s.unset = true ∨ s.nowInterval / 96 ≤ k + 1 ∨
      s.serviceSec < (k + 1 + 1) * 86400 + s.nat Attr.BalanceService.dailyRunMin 0 * 60) := by
    simp [hopen, hcommits, hset]
    omega
  have hrun : s.dailyRun (k + 1) = { s.ageBins with bal := { s.ageBins.bal with lastRun := some (k + 1) } } := by
    have horder' : s.ageBins.bal.order = [] := horder
    simp only [State.dailyRun, hends, hgroups, List.foldl_nil, horder', State.autoApply]
  simp only [execDailyRun, hlast, if_neg hgo, State.takeBalance_none hnone, hrun]

/-! ### Definitions and memberships (R394–R397, R420) -/

theorem State.evaluateAgain_none {gs : List Nat} (hnone : s.instances 0x0804 = []) : s.evaluateAgain gs i = s := by
  have hempty : ∀ l : List Nat, l.flatMap (fun _ => ([] : List (Nat × Nat))) = [] := fun l => List.flatMap_eq_nil_iff.2 fun _ _ => rfl
  simp [State.evaluateAgain, State.evaluatedFrom, hnone, hempty]

theorem State.instances_create_ne {k x : Nat} (hne : k ≠ x) (hn : n < 2 ^ 40) : (s.create k n).instances x = s.instances x := by
  have hother : (objKey k n / 2 ^ 40 == x) = false := by
    unfold objKey
    exact beq_false_of_ne (by omega)
  exact congrArg (List.map _) (Assoc.filter_put (g := fun j => j / 2 ^ 40 == x) hother)

/-- A group in LEARNING stays there: its counts are written (Table 10-3). -/
theorem State.groupState_learning (hlearn : s.nat Attr.BalanceGroup.state g = 0) (hg : g < 2 ^ 40) :
    (s.groupState g).nat Attr.BalanceGroup.state g = 0 ∧ (s.groupState g).bal = s.bal ∧ (s.groupState g).obj.live = s.obj.live ∧
      Changes [.obj, .mbx] [Attr.BalanceGroup.excessCount, Attr.BalanceGroup.deficitCount] s (s.groupState g) := by
  unfold State.groupState
  extract_lets w ex de pc v st x
  have hset : ∀ {v : State} {y : Nat × Nat} {x : Nat}, y.2 < 256 → Changes [.obj, .mbx] [y] v (v.setNat y g x) := fun hy => changes_setNat hy hg
  have hv : Changes [.obj, .mbx] [Attr.BalanceGroup.excessCount, Attr.BalanceGroup.deficitCount] s v := (hset (by decide)).mono.step (hset (by decide))
  have hst : v.nat Attr.BalanceGroup.state g = 0 := (hv.nat _ _).trans hlearn
  have hlive : v.obj.live = s.obj.live := by simp only [v, State.setNat, State.setAttr_live]
  have hx : x = v := by
    have hone : ¬ (st = 1 ∧ pc ≤ ex) := fun hc => absurd (hst.symm.trans hc.1) (by decide)
    have htwo : ¬ (st = 2 ∧ ex ≤ pc / 2) := fun hc => absurd (hst.symm.trans hc.1) (by decide)
    exact (if_neg hone).trans (if_neg htwo)
  have hend : st = 0 := hst
  rw [if_pos hend, hx]
  exact ⟨hst, hv.bal, hlive, hv⟩

/-- A new group: its object with no updates, no fit and state LEARNING, and its first definition (R401, R403). -/
def State.newGroup (s : State) (g : Nat) (d : GroupDef) : State :=
  (((((s.create 0x0801 g).setNat Attr.BalanceGroup.updates g 0).setNat Attr.BalanceGroup.state g 0).setNat Attr.BalanceGroup.lossCoeff g 0).setGroup g { defs := [d] }).groupState g

theorem State.newGroup_effect (hg : g < 2 ^ 40) :
    ((s.newGroup g d).group g).defs = [d] ∧ (s.newGroup g d).alive 0x0801 g = true ∧ (s.newGroup g d).nat Attr.BalanceGroup.state g = 0 ∧
      (s.newGroup g d).nat Attr.BalanceGroup.updates g = 0 ∧ (s.newGroup g d).instances 0x0804 = s.instances 0x0804 ∧
      Changes [.bal, .obj, .mbx] [Attr.BalanceGroup.updates, Attr.BalanceGroup.state, Attr.BalanceGroup.lossCoeff, Attr.BalanceGroup.excessCount,
        Attr.BalanceGroup.deficitCount] s (s.newGroup g d) := by
  have hset : ∀ {v : State} {y : Nat × Nat} {x : Nat}, y.2 < 256 → Changes [.obj, .mbx] [y] v (v.setNat y g x) := fun hy => changes_setNat hy hg
  have hcreate : Changes [.obj] [] s (s.create 0x0801 g) := changes_create
  have halive : (s.create 0x0801 g).alive 0x0801 g = true := State.alive_create
  have hother : (s.create 0x0801 g).instances 0x0804 = s.instances 0x0804 := State.instances_create_ne (by decide) hg
  unfold State.newGroup
  generalize s.create 0x0801 g = a at hcreate halive hother ⊢
  have hupd : Changes [.obj, .mbx] [Attr.BalanceGroup.updates] a (a.setNat Attr.BalanceGroup.updates g 0) := hset (by decide)
  have hzero : (a.setNat Attr.BalanceGroup.updates g 0).nat Attr.BalanceGroup.updates g = 0 := State.nat_setNat
  have hlive : (a.setNat Attr.BalanceGroup.updates g 0).obj.live = a.obj.live := State.setAttr_live
  generalize a.setNat Attr.BalanceGroup.updates g 0 = b at hupd hzero hlive ⊢
  have hstate : Changes [.obj, .mbx] [Attr.BalanceGroup.state] b (b.setNat Attr.BalanceGroup.state g 0) := hset (by decide)
  have hlearn : (b.setNat Attr.BalanceGroup.state g 0).nat Attr.BalanceGroup.state g = 0 := State.nat_setNat
  have hlive' : (b.setNat Attr.BalanceGroup.state g 0).obj.live = b.obj.live := State.setAttr_live
  generalize b.setNat Attr.BalanceGroup.state g 0 = e at hstate hlearn hlive' ⊢
  have hloss : Changes [.obj, .mbx] [Attr.BalanceGroup.lossCoeff] e (e.setNat Attr.BalanceGroup.lossCoeff g 0) := hset (by decide)
  have hlive'' : (e.setNat Attr.BalanceGroup.lossCoeff g 0).obj.live = e.obj.live := State.setAttr_live
  generalize e.setNat Attr.BalanceGroup.lossCoeff g 0 = f at hloss hlive'' ⊢
  have hput : Changes [.bal] [] f (f.setGroup g { defs := [d] }) := .of_same SameBut.refl.set_bal
  have hgroup : (f.setGroup g { defs := [d] }).group g = { defs := [d] } := by simp only [State.group, State.setGroup, Assoc.find_put_same, Option.getD_some]
  have hlivePut : (f.setGroup g { defs := [d] }).obj.live = f.obj.live := rfl
  generalize f.setGroup g { defs := [d] } = v at hput hgroup hlivePut ⊢
  have hlearnV : v.nat Attr.BalanceGroup.state g = 0 := (hput.nat _ _).trans ((hloss.nat _ _).trans hlearn)
  obtain ⟨hst, hbal, hliveT, hcounts⟩ := State.groupState_learning hlearnV hg
  have hliveA : (v.groupState g).obj.live = a.obj.live := (hliveT.trans hlivePut).trans (hlive''.trans (hlive'.trans hlive))
  refine ⟨?_, (State.alive_congr hliveA).trans halive, hst, ?_, (State.instances_congr hliveA _).trans hother, ?_⟩
  · simp only [State.group, hbal] at hgroup ⊢
    rw [hgroup]
  · exact (hcounts.nat _ _).trans ((hput.nat _ _).trans ((hloss.nat _ _).trans ((hstate.nat _ _).trans hzero)))
  · exact ((((hcreate.mono.step hupd).step hstate).step hloss).step hput).step hcounts

/-- The first group without a parent is defined (R394–R396). -/
theorem doGroupDefine_first (hparse : parseGroup c.payload = some (g, d)) (hin : s.effectiveOk d.start = true) (hhere : d.gone = false) (hparent : d.parent = noGroup)
    (hgroups : s.bal.groups = []) (hmembers : s.bal.members = []) (hres : s.instances 0x0804 = []) (hg : g < 2 ^ 40) :
    doGroupDefine c s = (⟨.ok, []⟩, s.newGroup g d) := by
  have hgone : s.group g = {} := by simp [State.group, hgroups, Assoc.find]
  have hmember : (s.memberAt d.head d.start).group = noGroup := by simp [State.memberAt, hmembers, Assoc.find, noGroup]
  have hdepth : s.depthBelow d.start 4 g = 0 := by simp [State.depthBelow, State.childrenAt, hgroups]
  obtain ⟨-, -, -, -, hinst, -⟩ := State.newGroup_effect (s := s) (d := d) hg
  have hagain : (s.newGroup g d).evaluateAgain [g] d.start = s.newGroup g d := State.evaluateAgain_none (hinst.trans hres)
  have hup : s.chainUp d.start g d.parent = [g] := if_pos hparent
  unfold State.newGroup at hagain ⊢
  unfold doGroupDefine
  simp [hparse, hin, hhere, hup, hgroups, hmember, hdepth, hgone, hagain]

/-- The first membership of an endpoint (R396). -/
def State.firstMembership (s : State) (h : Nat) (m : Membership) : State := { s with bal := { s.bal with members := Assoc.put h [m] s.bal.members } }

/-- The attribution of an endpoint starts again (R405). -/
def State.forgetsSums (s : State) (h : Nat) : State :=
  (State.setInt { s with bal := { s.bal with sums := Assoc.del h s.bal.sums } } Attr.EndpointBalance.rho h 0).setInt Attr.EndpointBalance.beta h 0

theorem State.forgetsSums_effect (hh : h < 2 ^ 40) :
    (s.forgetsSums h).bal.members = s.bal.members ∧ (s.forgetsSums h).obj.live = s.obj.live ∧
      Changes [.bal, .obj, .mbx] [Attr.EndpointBalance.rho, Attr.EndpointBalance.beta] s (s.forgetsSums h) := by
  have hput : Changes [.bal] [] s { s with bal := { s.bal with sums := Assoc.del h s.bal.sums } } := .of_same SameBut.refl.set_bal
  have hkept : (State.bal { s with bal := { s.bal with sums := Assoc.del h s.bal.sums } }).members = s.bal.members := rfl
  have hlive : (State.obj { s with bal := { s.bal with sums := Assoc.del h s.bal.sums } }).live = s.obj.live := rfl
  unfold State.forgetsSums
  generalize ({ s with bal := { s.bal with sums := Assoc.del h s.bal.sums } } : State) = v at hput hkept hlive ⊢
  have hset : ∀ {w : State} {y : Nat × Nat} {x : Int}, y.2 < 256 → Changes [.obj, .mbx] [y] w (w.setInt y h x) := fun hy => changes_setInt hy hh
  have hzero : Changes [.obj, .mbx] [Attr.EndpointBalance.rho, Attr.EndpointBalance.beta] v ((v.setInt Attr.EndpointBalance.rho h 0).setInt Attr.EndpointBalance.beta h 0) :=
    (hset (by decide)).mono.step (hset (by decide))
  exact ⟨by rw [hzero.bal, hkept], by simp only [State.setInt, State.setAttr_live, hlive], hput.mono.step hzero⟩

theorem State.changeMembership_first {ph start : Nat} (hnone : Assoc.find h s.bal.members = none) (hgroup : g ≠ noGroup) (hmode : s.sys.mode ≠ .shadow) (hh : h < 2 ^ 40) :
    s.changeMembership h g ph start 1 =
      ((((s.firstMembership h ⟨start, g, ph⟩).forgetsSums h).raise 0x0C07 (objPath 0x0802 h) [(h : Int), 0xFFFF, 0, (g : Int), (ph : Int), 1]).showBins h).evaluateAgain
        [g] start := by
  have hwas : s.memberAt h start = ⟨0, 0xFFFF, 0⟩ := by simp [State.memberAt, hnone]
  have hlist : (Assoc.find h s.bal.members).getD [] = [] := by rw [hnone]; rfl
  have hnew : ¬ (0xFFFF : Nat) = g := fun he => hgroup he.symm
  obtain ⟨-, -, hchange⟩ := State.forgetsSums_effect (s := s.firstMembership h ⟨start, g, ph⟩) hh
  have hmodeV : ((s.firstMembership h ⟨start, g, ph⟩).forgetsSums h).sys.mode ≠ .shadow := by
    rw [hchange.sys]
    exact hmode
  have hraise : ((s.firstMembership h ⟨start, g, ph⟩).forgetsSums h).balRaise 0x0C07 (objPath 0x0802 h) [(h : Int), 0xFFFF, 0, (g : Int), (ph : Int), 1] =
      ((s.firstMembership h ⟨start, g, ph⟩).forgetsSums h).raise 0x0C07 (objPath 0x0802 h) [(h : Int), 0xFFFF, 0, (g : Int), (ph : Int), 1] := if_neg hmodeV
  have hgs : (if (0xFFFF : Nat) = noGroup then [] else [0xFFFF]) ++ (if g = noGroup then [] else [g]) = [g] := by
    have hout : (0xFFFF : Nat) = noGroup := rfl
    rw [if_pos hout, if_neg hgroup, List.nil_append]
  unfold State.changeMembership
  simp only [hwas, hlist, if_neg hnew, hgs]
  rw [← hraise]
  rfl

/-- An endpoint without a membership enters a group (R396, R405, R420). -/
theorem State.changeMembership_enters {ph start : Nat} (hnone : Assoc.find h s.bal.members = none) (hgroup : g ≠ noGroup) (hmode : s.sys.mode ≠ .shadow)
    (hres : s.instances 0x0804 = []) (hh : h < 2 ^ 40) :
    Assoc.find h (s.changeMembership h g ph start 1).bal.members = some [⟨start, g, ph⟩] ∧
      (s.changeMembership h g ph start 1).recd = s.recd.ordinary ⟨0x0C07, objPath 0x0802 h, [(h : Int), 0xFFFF, 0, (g : Int), (ph : Int), 1]⟩ ∧
      Changes [.bal, .obj, .mbx, .recd] [Attr.EndpointBalance.rho, Attr.EndpointBalance.beta, Attr.EndpointBalance.zcoBins] s (s.changeMembership h g ph start 1) := by
  rw [State.changeMembership_first hnone hgroup hmode hh]
  have hput : Changes [.bal] [] s (s.firstMembership h ⟨start, g, ph⟩) := .of_same SameBut.refl.set_bal
  have hfind : Assoc.find h (s.firstMembership h ⟨start, g, ph⟩).bal.members = some [⟨start, g, ph⟩] := Assoc.find_put_same
  have hlive : (s.firstMembership h ⟨start, g, ph⟩).obj.live = s.obj.live := rfl
  generalize s.firstMembership h ⟨start, g, ph⟩ = a at hput hfind hlive ⊢
  obtain ⟨hmembers, hliveF, hforget⟩ := State.forgetsSums_effect (s := a) hh
  generalize a.forgetsSums h = b at hmembers hliveF hforget ⊢
  have hraise : Changes [.recd] [] b (b.raise 0x0C07 (objPath 0x0802 h) [(h : Int), 0xFFFF, 0, (g : Int), (ph : Int), 1]) := changes_raise
  have hevent : (b.raise 0x0C07 (objPath 0x0802 h) [(h : Int), 0xFFFF, 0, (g : Int), (ph : Int), 1]).recd =
      b.recd.ordinary ⟨0x0C07, objPath 0x0802 h, [(h : Int), 0xFFFF, 0, (g : Int), (ph : Int), 1]⟩ := rfl
  generalize b.raise 0x0C07 (objPath 0x0802 h) [(h : Int), 0xFFFF, 0, (g : Int), (ph : Int), 1] = v at hraise hevent ⊢
  have hshow : Changes [.obj, .mbx] [Attr.EndpointBalance.zcoBins] v (v.showBins h) := changes_setAttr
  have hliveS : (v.showBins h).obj.live = v.obj.live := State.setAttr_live
  generalize v.showBins h = w at hshow hliveS ⊢
  have hliveW : w.obj.live = s.obj.live := by rw [hliveS, hraise.obj, hliveF, hlive]
  rw [State.evaluateAgain_none ((State.instances_congr hliveW _).trans hres)]
  refine ⟨?_, ?_, ((hput.mono.step hforget).step hraise).step hshow⟩
  · rw [hshow.bal, hraise.bal, hmembers, hfind]
  · rw [hshow.recd, hevent, hforget.recd, hput.recd]

/-- One explicit entry that enters an endpoint (R420). -/
theorem State.applyExplicit_enters {e : Bytes} {ph start : Nat} (hh : field e 0 4 % 2 ^ 21 = h) (hg : field e 4 2 = g) (hph : octet e 6 = ph) (hlock : octet e 7 = 0)
    (hlow : ph ≤ 7) (hgroup : g ≠ noGroup) (hend : s.endpoint h = true) (hdef : (s.defAt g start).isSome = true)
    (hpresent : s.flag Attr.EndpointChannel.present (h * 8) = true) (hhead : s.bal.groups.any (fun x => (s.defAt x.1 start).any (fun y => y.head == h)) = false)
    (hnone : Assoc.find h s.bal.members = none) : s.applyExplicit e start = (.ok, s.changeMembership h g ph start 1) := by
  have hwas : s.memberAt h start = ⟨0, 0xFFFF, 0⟩ := by simp [State.memberAt, hnone]
  have hgood : ¬ (7 < ph ∨ 2 < 0) := by omega
  have hfound : ¬ ((!s.endpoint h) = true ∨ g ≠ noGroup ∧ (s.defAt g start).isNone = true) := by
    simp [hend, Option.isSome_iff_ne_none.1 hdef]
  have hmay : ¬ (g ≠ noGroup ∧ ((!s.flag Attr.EndpointChannel.present (h * 8)) = true ∨
      s.bal.groups.any (fun x => (s.defAt x.1 start).any (fun y => y.head == h)) = true)) := by
    rw [hhead]
    simp [hpresent]
  have hmoves : ¬ ((0xFFFF : Nat) = g ∧ (0 : Nat) = ph) := fun hc => hgroup hc.1.symm
  simp only [State.applyExplicit, hh, hg, hph, hlock, if_neg hgood, if_neg hfound, if_neg hmay, if_true, hwas, if_neg hmoves]

theorem doMembershipApply_explicit {e : Bytes} {start : Nat} (hmode : octet c.data 0 = 1) (hzero : octet c.data 1 = 0) (hone : field c.data 2 2 = 1)
    (hstart : field c.data 4 4 = start) (hlen : c.data.length = 16) (hin : s.effectiveOk start = true) (he : slice c.data 8 8 = e)
    (hentry : s.applyExplicit e start = (.ok, t)) : doMembershipApply c s = (⟨.ok, [0, 0, 0, 0]⟩, t) := by
  have hgood : ¬ (1 < 1 ∨ (0 : Nat) ≠ 0 ∨ (1 : Nat) = 0 ∨ 1000 < 1 ∨ (16 : Nat) ≠ 8 + 8 * 1 ∨ (!s.effectiveOk start) = true) := by simp [hin]
  have hmode' : ¬ ((1 : Nat) = 0) := by decide
  have hrecs : records c.data 8 8 1 = [e] := by
    simp [records, he]
  simp only [doMembershipApply, hmode, hzero, hone, hstart, hlen, if_neg hmode', if_neg hgood, hrecs, List.foldl_cons, List.foldl_nil, hentry]
  rfl

/-- Settles O24: the two commands by their bodies, the evaluations by that of a group, the daily run and the expiry by their equations. -/
theorem balanceAndTopology : Obligations.BalanceAndTopology := by
  unfold Obligations.BalanceAndTopology
  refine ⟨fun s c n g d hs ho hparse hin hhere hparent hgroups hmembers hres => ?defines, fun s c n hs ho hparse => ?bad,
    fun s c n h g ph start e hs ho hmode hzero hone hstart hlen hin he hh hg hph hlock hlow hgroup hend hdef hpresent hhead hnone hres hrun => ?enters,
    fun s g i d hg hopen hset hnone hhome hpast hfirst hdue hd hmembers =>
      ⟨_, execBalanceEvaluate_evaluates hopen hset hnone hhome hpast hfirst hdue, State.evaluateGroup_effect hd hfirst hmembers hg⟩,
    fun s g i hcut => ⟨_, if_pos (.inl hcut), rfl⟩,
    fun s g i d hg hopen hnone hhome hfirst hdue hd hmembers => ?deadline,
    fun s d hlast hopen hcommits hset hended hdue hends hgroups horder hnone =>
      ⟨_, execDailyRun_idle hlast hopen hcommits hset hended hdue hends hgroups horder hnone, rfl, SameBut.refl.set_bal⟩,
    fun s n hopen hold => ⟨_, if_pos ⟨hopen, hold⟩, State.nat_setNat, sameBut_setNat.area .bal, sameBut_setNat.mono (by decide)⟩,
    fun s n hyoung => ⟨_, if_neg fun hc => ?young, rfl⟩⟩
  case defines =>
    have hg : g < 2 ^ 40 := by
      have hfield : g = field c.payload 4 2 := by
        unfold parseGroup at hparse
        dsimp only at hparse
        split at hparse
        · exact (congrArg Prod.fst (Option.some.inj hparse)).symm
        · exact absurd hparse (by simp)
      have hlt : field c.payload 4 2 < 256 ^ 2 := field_lt
      omega
    have hbody := doGroupDefine_first (s := s.pop) hparse hin hhere hparent hgroups hmembers hres hg
    obtain ⟨hdefs, halive, hstate, hupd, -, hchange⟩ := State.newGroup_effect (s := s.pop) (d := d) hg
    generalize s.pop.newGroup g d = v at hbody hdefs halive hstate hupd hchange
    obtain ⟨t, hrun, rfl, hans⟩ := hs.completes ho hbody (hchange.poised s ⟨rfl, rfl, rfl⟩) (Nat.zero_le _)
    refine ⟨_, hrun, hans, ?_, ?_, ?_, ?_, (hchange.mono (areas := [.mbx, .bal, .obj]) (by decide) (List.Subset.refl _)).finished⟩
    · simpa only [State.group, State.finish_bal] using hdefs
    · exact (State.alive_congr (congrArg Obj.live State.finish_obj)).trans halive
    · rw [State.nat_congr State.finish_obj, hstate]
    · rw [State.nat_congr State.finish_obj, hupd]
  case bad =>
    have hbody : doGroupDefine c s.pop = (⟨.badValue, []⟩, s.pop) := by simp only [doGroupDefine, hparse]
    exact State.Serves.completes_unchanged (b := doGroupDefine) hs ho hbody (Nat.zero_le _)
  case enters =>
    have hlow21 : h < 2 ^ 40 := by omega
    have hentry := State.applyExplicit_enters (s := s.pop) hh hg hph hlock hlow hgroup hend hdef hpresent hhead hnone
    have hbody := doMembershipApply_explicit (s := s.pop) hmode hzero hone hstart hlen hin he hentry
    obtain ⟨hfind, hevent, hchange⟩ := State.changeMembership_enters (s := s.pop) (ph := ph) (start := start) hnone hgroup hrun hres hlow21
    generalize s.pop.changeMembership h g ph start 1 = v at hbody hfind hevent hchange
    obtain ⟨t, hstep, rfl, hans⟩ := hs.completes ho hbody (hchange.poised s ⟨rfl, rfl, rfl⟩) (by decide)
    refine ⟨_, hstep, hans, ?_, ?_, (hchange.mono (areas := [.mbx, .bal, .obj, .recd]) (by decide) (List.Subset.refl _)).finished⟩
    · rw [State.finish_bal, hfind]
    · rw [State.finish_recd, hevent]
      rfl
  case deadline =>
    obtain ⟨hshown, -, hsame⟩ := State.evaluateGroup_effect hd hfirst hmembers hg
    exact ⟨_, execBalanceSumsDeadline_evaluates hopen hnone hhome hfirst hdue, hshown, hsame⟩
  case young => exact absurd hc.2 (by omega)

end Sys2Proof.Machine
end

section
/-! The lighting service: multicast units, records of lanterns, their faults and the circuits (R431, R444, R449, R452–R457). -/

namespace Sys2Proof.Machine

variable {s t u : State} {c g h i k n q : Nat} {b : Bytes}

/-! ### Multicast units (R441, R444) -/

/-- A body of at most 64 octets is queued (R189). -/
theorem State.enqueue_appends {p : Nat} {x : TxUnit} (hlen : x.body.length ≤ 64) (hq : q < (s.port p).queues.length) :
    ∃ u, ((s.enqueue p q x).2.port p).queues.getD q [] = (s.port p).queues.getD q [] ++ [u] ∧ u.cell = x.cell ∧ u.body = x.body := by
  refine ⟨{ x with seq := (s.port p).nextSeq }, ?_, rfl, rfl⟩
  rw [State.enqueue_fits (segments_le hlen) (by omega), State.port_setPort]
  simp [List.getD, hq]

/-- A multicast unit goes into queue 7 of the cell's port, unless its body is too long. -/
theorem State.sendMulticast_effect (hq : (s.port (s.nat Attr.LineCell.port c)).queues.length = 8) :
    SameBut [.lin] s (s.sendMulticast c b) ∧
      ((∃ u, ((s.sendMulticast c b).port (s.nat Attr.LineCell.port c)).queues.getD 7 [] = (s.port (s.nat Attr.LineCell.port c)).queues.getD 7 [] ++ [u] ∧ u.cell = c ∧
          u.body = Config.protectCell c (s.beaconGen c) b) ∨ 64 < (Config.protectCell c (s.beaconGen c) b).length) := by
  refine ⟨sameBut_enqueue, ?_⟩
  rcases Nat.lt_or_ge 64 (Config.protectCell c (s.beaconGen c) b).length with hlong | hfits
  · exact .inr hlong
  · exact .inl (State.enqueue_appends hfits (by rw [hq]; decide))

/-- The oldest waiting unit is sent once more (R444). -/
theorem multicastRepeat_sends {rest : List (Nat × Bytes × Nat)} (hwait : s.lux.multicasts = (c, b, k) :: rest) (hsend : s.lightSends c = true)
    (hq : (s.port (s.nat Attr.LineCell.port c)).queues.length = 8) :
    Completes (exec .multicastRepeat s) (fun t =>
      t.lux = { s.lux with multicasts := rest ++ (if k ≤ 1 then [] else [(c, b, k - 1)]) } ∧ SameBut [.lux, .lin] s t ∧
        ((∃ u, (t.port (s.nat Attr.LineCell.port c)).queues.getD 7 [] = (s.port (s.nat Attr.LineCell.port c)).queues.getD 7 [] ++ [u] ∧ u.cell = c ∧
            u.body = Config.protectCell c (s.beaconGen c) b) ∨ 64 < (Config.protectCell c (s.beaconGen c) b).length)) := by
  have hput : SameBut [.lux] s { s with lux := { s.lux with multicasts := rest ++ (if k ≤ 1 then [] else [(c, b, k - 1)]) } } := SameBut.refl.set_lux
  have hsendV : State.lightSends { s with lux := { s.lux with multicasts := rest ++ (if k ≤ 1 then [] else [(c, b, k - 1)]) } } c = true := hsend
  have hrun : execMulticastRepeat s = .next (State.sendMulticast { s with lux := { s.lux with multicasts := rest ++ (if k ≤ 1 then [] else [(c, b, k - 1)]) } } c b) := by
    simp only [execMulticastRepeat, hwait, if_pos hsendV]
  obtain ⟨hsame, hsent⟩ := State.sendMulticast_effect (s := { s with lux := { s.lux with multicasts := rest ++ (if k ≤ 1 then [] else [(c, b, k - 1)]) } }) (c := c) (b := b) hq
  exact ⟨_, hrun, hsame.area .lux, (hput.mono (by decide)).step hsame, hsent⟩

/-- A refresh sends the level of the cell's one segment (R444). -/
theorem State.refreshCell_one (hsend : s.lightSends c = true) (hset : s.unset = false) (hseg : s.cellSegments c = [g]) :
    s.refreshCell c = s.sendMulticast c (s.lightBody c 1 [s.segEntry g 0]) := by
  have hgo : ¬ ((!s.lightSends c) = true ∨ s.unset = true) := by simp [hsend, hset]
  simp only [State.refreshCell, if_neg hgo, hseg]
  rfl

/-! ### The self-test (R449) -/

/-- A report spends an injection of its source (R698). -/
def State.spendsInjection (s : State) (f : FaultFact) : State :=
  match s.fcr.injections.find? (fun j => j.1 == f.source) with
  | none => s
  | some j => State.raise { s with fcr := { s.fcr with injections := spendInjection f.source s.fcr.injections } } 0x140A (objPath 0x1002 f.source) [f.source, j.2.1]

theorem sameBut_spendsInjection {f : FaultFact} : SameBut [.fcr, .recd] s (s.spendsInjection f) := by
  unfold State.spendsInjection
  split
  · exact .refl
  · exact SameBut.refl.set_fcr.step sameBut_raise

/-- A single report of a source whose reaction is fixed (R670, R674, Table 18-1). -/
theorem State.collect_fixed {f : FaultFact} {x : Source} (hx : source f.source = some x) (hfixed : clsSafety ≤ x.cls) (hlate : f.late = false) :
    s.collect [f] = ((s.spendsInjection f).latchReport x f x.reaction).react x f.unit x.reaction := by
  have hreact : ∀ v : State, v.reactionOf x = x.reaction := fun v => if_pos (.inl hfixed)
  have hrank : ∀ v : State, v.outranked [f] f = false := by
    intro v
    simp [State.outranked, hx]
  have hsort : (sortFacts [f]).filter (fun f => (source f.source).isSome) = [f] := by simp [sortFacts, insertFact, hx]
  simp only [State.collect, hsort, List.foldl_cons, List.foldl_nil, hx, List.filter_cons, List.filter_nil, hrank, Bool.not_false,
    ↓reduceIte, hreact, List.any_cons, List.any_nil, hlate, Bool.or_false, Bool.false_eq_true]
  rfl

/-- The safety function of LUX stands in its safe state (R684). -/
theorem State.safeState_lux : (s.safeState 1).fcr.sf1 = true := by
  unfold State.safeState
  dsimp only
  rw [if_neg (by decide)]
  split
  · assumption
  · rfl

/-- A fence of LUX flushes no queue and stops no measurement (R677). -/
theorem sameBut_fence_lux : SameBut [.obj, .mbx, .fcr, .recd, .lux] s (s.fence 13 0 n) := by
  have hset : ∀ {v : State} {y : Nat × Nat} {j x : Nat}, SameBut [.mbx, .obj] v (v.setNat y j x) := sameBut_setNat
  by_cases hopen : s.fencedUnit 13 0 = true
  · rw [State.fence_of_fenced hopen]
    exact .refl
  · rw [State.fence_of_open (Bool.eq_false_iff.2 hopen)]
    have hfirst : SameBut [.obj, .mbx, .fcr, .recd, .lux] s (((s.setFlag Attr.FenceUnit.fenced (13 * 256 + 0) true).setNat Attr.FenceUnit.cause (13 * 256 + 0) n).raise 0x1402
        (objPath 0x1003 (13 * 256 + 0)) [((13 : Nat) : Int), ((0 : Nat) : Int), (n : Int)]) :=
      ((sameBut_setFlag.mono (by decide)).step hset).step sameBut_raise
    refine hfirst.trans ?_
    have hqueues : ∀ v : State, v.fenceQueues 13 0 = v.flushActivities (fun a => a.uses.contains (13, 0)) := fun _ => rfl
    rw [hqueues]
    exact SameBut.step SameBut.refl.set_lux sameBut_flushActivities

theorem source_lux : source 208 = some ⟨208, 3, 2, false⟩ := by decide

/-- A fence of LUX by its own source: the safety function follows (Table 18-2, R684). -/
theorem State.react_lux : s.react ⟨208, 3, 2, false⟩ 0 2 = ((s.faultEvent ⟨208, 3, 2, false⟩ 2).fence 13 0 208).safeState 1 := by
  have hdomain : Source.domain ⟨208, 3, 2, false⟩ = 13 := by decide
  have hunit : Source.unitOf ⟨208, 3, 2, false⟩ 0 = 0 := by decide
  simp only [State.react, hdomain, hunit, true_or, ↓reduceIte]

/-- A failed self-test fences LUX, and its safety function enters its safe state (R449, R684). -/
theorem luxSelfTest_fails : Completes (exec (.luxSelfTest false) s) (fun t =>
      t.fencedUnit 13 0 = true ∧ t.fcr.sf1 = true ∧ t.flag Attr.FaultSource.latched 208 = true ∧ SameBut [.obj, .mbx, .fcr, .recd, .lux] s t) := by
  let f : FaultFact := ⟨208, 0, none, false, false⟩
  let x : Source := ⟨208, 3, 2, false⟩
  have hrun : s.report 208 0 = ((s.spendsInjection f).latchReport x f 2).react x 0 2 := State.collect_fixed (x := x) source_lux (by decide) rfl
  have hspend : SameBut [.fcr, .recd] s (s.spendsInjection f) := sameBut_spendsInjection
  refine ⟨s.report 208 0, rfl, ?_⟩
  rw [hrun]
  generalize s.spendsInjection f = a at hspend
  have hlatch : SameBut [.obj, .mbx, .fcr] a (a.latchReport x f 2) := sameBut_latchReport rfl
  have hlatched : (a.latchReport x f 2).flag Attr.FaultSource.latched 208 = true := State.latchReport_latched (x := x) rfl
  generalize a.latchReport x f 2 = v at hlatch hlatched
  have hreact : v.react x 0 2 = ((v.faultEvent x 2).fence 13 0 208).safeState 1 := State.react_lux
  have hevent : SameBut [.recd] v (v.faultEvent x 2) := sameBut_faultEvent
  rw [hreact]
  generalize v.faultEvent x 2 = e at hevent
  have hfence : e.Fences (e.fence 13 0 208) 13 0 208 := State.fence_effect
  have hsameF : SameBut [.obj, .mbx, .fcr, .recd, .lux] e (e.fence 13 0 208) := sameBut_fence_lux
  generalize e.fence 13 0 208 = w at hfence hsameF
  have hsafe : AttrsBut [0x02] w (w.safeState 1) := attrsBut_safeState
  refine ⟨(hsafe.flag _ _).trans hfence.fenced, State.safeState_lux, ?_, ?_⟩
  · rw [hsafe.flag _ _, hfence.attrs.flag _ _, State.flag_congr (hevent.area .obj)]
    exact hlatched
  · exact ((((hspend.mono (by decide)).step hlatch).step hevent).step hsameF).step sameBut_safeState

/-! ### Records and faults of lanterns (R452–R455) -/

theorem execLanternRecord_waits (hmeter : s.metered h = false) (hcut : s.cutOff 13 0 = true) :
    execLanternRecord h k s = .next { s with lux := { s.lux with lateRecords := s.lux.lateRecords ++ [(h, k)] } } := by
  simp [execLanternRecord, hmeter, hcut]

theorem execLanternRecord_commits (hmeter : s.metered h = false) (hopen : s.cutOff 13 0 = false) (hset : s.unset = false) :
    execLanternRecord h k s = .next (s.commitLantern h k) := by
  simp [execLanternRecord, hmeter, hopen, hset]

/-- The eighth value of a record with its energy and its mean level. -/
theorem getD_recordValues {e v l : Nat} : [e, v, v, v, v, v, v, l].getD 7 v = l := rfl

/-- The record of an unmetered lantern carries its mean level (R454). -/
theorem State.commitLantern_effect :
    (s.commitLantern h k).nat Attr.Lantern.levelMeanLast h = s.meanLevel h k ∧
      (∃ (f : Flight) (r : NewRec), (s.commitLantern h k).col.flights = s.col.flights ++ [f] ∧ f.recs = [r] ∧ r.handle = h ∧ r.interval = k ∧
        r.vals.getD 7 absentVal = s.meanLevel h k) ∧ SameBut [.obj, .mbx, .col, .sto, .twn] s (s.commitLantern h k) := by
  unfold State.commitLantern
  extract_lets x out late l vals fenced quality
  have hlast : vals.getD 7 absentVal = s.meanLevel h k := getD_recordValues
  have hl : l = s.meanLevel h k := rfl
  clear_value vals quality fenced l
  have hset : SameBut [.mbx, .obj] s (s.setNat Attr.Lantern.levelMeanLast h l) := sameBut_setNat
  have hmean : (s.setNat Attr.Lantern.levelMeanLast h l).nat Attr.Lantern.levelMeanLast h = l := State.nat_setNat
  generalize s.setNat Attr.Lantern.levelMeanLast h l = v at hset hmean ⊢
  have hcol : v.col = s.col := hset.area .col
  refine ⟨((State.nat_congr (sameBut_commit.area .obj) _ _).trans hmean).trans hl, ⟨{ id := v.col.nextFlight, recs := [⟨h, k, quality, vals⟩], unchecked := fenced }, ⟨h, k, quality, vals⟩, ?_, rfl, rfl, rfl, hlast⟩, (hset.mono (by decide)).step sameBut_commit⟩
  rw [State.commit_flights, hcol]

/-- A fault bit that is raised stands (R452). -/
theorem State.lanternFault_raised : bit ((s.lanternFault h k true).nat Attr.Lantern.faults h) k = true ∧ SameBut [.obj, .mbx, .recd] s (s.lanternFault h k true) := by
  unfold State.lanternFault
  dsimp only
  split
  · exact ⟨‹_›, .refl⟩
  · rename_i hclear
    have hclear : (s.nat Attr.Lantern.faults h).testBit k = false := Bool.eq_false_iff.2 hclear
    refine ⟨?_, (sameBut_setNat.mono (by decide)).step sameBut_raise⟩
    rw [State.nat_congr State.raise_obj, State.nat_setNat, if_pos rfl]
    unfold bit
    rw [Nat.add_comm, Nat.testBit_two_pow_add_eq, hclear]
    rfl

/-! ### Circuits (R456, R457) -/

/-- The report of a contactor, before the lanterns and the segments of its circuit follow (R457). -/
def State.contactorReport (s : State) (c st : Nat) : State :=
  let v := (s.setNat Attr.LightingCircuit.state c st).raise 0x0D06 (objPath 0x0906 c) [(c : Int), (s.nat Attr.LightingCircuit.state c : Nat), (st : Int)]
  { v with
    lux := { v.lux with
      isolated :=
        let closed := v.lux.isolated.map (fun x : Nat × Nat × Option Nat => if x.1 = c ∧ x.2.2 = none then (x.1, x.2.1, some s.serviceMs) else x)
        if st = 0 then (c, s.serviceMs, none) :: closed else closed } }

/-- The circuit's state and its event; a circuit that opens is isolated from now on. -/
theorem State.contactorReport_effect (hc : c < 64) :
    (s.contactorReport c n).nat Attr.LightingCircuit.state c = n ∧
      (s.contactorReport c n).recd = s.recd.ordinary ⟨0x0D06, objPath 0x0906 c, [(c : Int), (s.nat Attr.LightingCircuit.state c : Nat), (n : Int)]⟩ ∧
      (n = 0 → (c, s.serviceMs, none) ∈ (s.contactorReport c n).lux.isolated) ∧ Changes [.obj, .mbx, .recd, .lux] [Attr.LightingCircuit.state] s (s.contactorReport c n) := by
  have hset : Changes [.obj, .mbx] [Attr.LightingCircuit.state] s (s.setNat Attr.LightingCircuit.state c n) := changes_setNat
  have hstate : (s.setNat Attr.LightingCircuit.state c n).nat Attr.LightingCircuit.state c = n := State.nat_setNat
  have hrecd : (s.setNat Attr.LightingCircuit.state c n).recd = s.recd := hset.recd
  unfold State.contactorReport
  generalize s.setNat Attr.LightingCircuit.state c n = v at hset hstate hrecd ⊢
  refine ⟨hstate, ?_, fun hzero => ?_, ?_⟩
  · rw [← hrecd]
    rfl
  · simp [hzero]
  · exact ((hset.mono (areas := [.obj, .mbx, .recd, .lux])).step changes_raise).step (Changes.of_same (areas := [.lux]) (ys := []) SameBut.refl.set_lux)

/-- The lanterns of a circuit are told by their profiles and the circuit they name alone. -/
theorem State.circuitLanterns_congr {areas : List Area} (hlive : t.obj.live = s.obj.live) (hchange : Changes areas [Attr.LightingCircuit.state] s t) :
    t.circuitLanterns c = s.circuitLanterns c := by
  unfold State.circuitLanterns
  rw [State.instances_congr hlive]
  refine List.filter_congr fun h hmem => ?_
  have hlt : h < 2 ^ 40 := State.instances_lt hmem
  rw [hchange.nat _ _ (by decide) hlt, hchange.nat _ _ (by decide) hlt]

theorem State.contactorReport_live : (s.contactorReport c n).obj.live = s.obj.live := State.setAttr_live

/-- A circuit without lanterns: only the energize commands that closed it are left to complete. -/
theorem execCircuitState_empty (hc : c < 64) (hn : n ≤ 2) (hne : s.nat Attr.LightingCircuit.state c ≠ n) (hnone : s.circuitLanterns c = []) :
    execCircuitState c n s = .next (if n = 1 then
      ((s.contactorReport c n).lux.energizing.filter (fun x => x.1 == c)).foldl (fun v x => v.completeCmd x.2 .ok [])
        { s.contactorReport c n with lux := { (s.contactorReport c n).lux with energizing := (s.contactorReport c n).lux.energizing.filter (fun x => x.1 != c) } }
      else s.contactorReport c n) := by
  obtain ⟨-, -, -, hchange⟩ := State.contactorReport_effect (s := s) (n := n) hc
  have hempty : (s.contactorReport c n).circuitLanterns c = [] := (State.circuitLanterns_congr State.contactorReport_live hchange).trans hnone
  unfold execCircuitState
  extract_lets +onlyGivenNames old now v1 lux closed v2 v3 segs v4 done
  have hreport : v2 = s.contactorReport c n := rfl
  have hlanterns : v3 = v2 := by simp only [v3, hreport, hempty, List.foldl_nil]
  have hcommand : v4 = v3 := by
    have hsegs : segs = [] := by simp only [segs, hlanterns, hreport, hempty, List.map_nil, List.eraseDups_nil, List.filter_nil]
    simp only [v4, hsegs, List.map_nil]
    unfold State.command
    split <;> rfl
  have hgo : ¬ (old = n ∨ 64 ≤ c ∨ 2 < n) := fun h => h.elim hne (by omega)
  rw [if_neg hgo]
  have hv4 : v4 = s.contactorReport c n := hcommand.trans (hlanterns.trans hreport)
  rw [← hv4]
  clear_value v4
  by_cases hclosed : n = 1
  · rw [if_pos hclosed, if_pos hclosed]
  · rw [if_neg hclosed, if_neg hclosed]

/-- Completions change the mailbox alone. -/
theorem changes_completeAll {xs : List (Nat × Nat)} : Changes [.mbx] [] s (xs.foldl (fun v x => v.completeCmd x.2 .ok []) s) :=
  Changes.foldl fun _ _ => State.completeCmd_awaiting.2

/-- Settles O26: units and refreshes by what is queued, the self-test by its report, records and faults of lanterns and circuits by their equations. -/
theorem lightingService : Obligations.LightingService := by
  refine ⟨?repeats, ?refresh, ?still, ?passes, ?fails, ?waits, ?commits, ?silent, ?unconfirmed, ?circuit⟩
  case repeats => exact fun _ _ _ _ _ => multicastRepeat_sends
  case refresh =>
    intro s c g hsend hset hseg hq
    obtain ⟨hsame, hsent⟩ := State.sendMulticast_effect (s := s) (c := c) (b := s.lightBody c 1 [s.segEntry g 0]) hq
    exact ⟨_, congrArg Host.Outcome.next (State.refreshCell_one hsend hset hseg), hsame, hsent⟩
  case still =>
    intro s c hsend
    have hidle : s.refreshCell c = s := by
      unfold State.refreshCell
      rw [if_pos (.inl (by simp [hsend]))]
    exact ⟨_, congrArg Host.Outcome.next hidle, rfl⟩
  case passes => exact fun s => ⟨s, rfl, rfl⟩
  case fails => exact fun _ => luxSelfTest_fails
  case waits => exact fun _ _ _ hmeter hcut => ⟨_, execLanternRecord_waits hmeter hcut, rfl, SameBut.refl.set_lux⟩
  case commits =>
    intro s h k hmeter hopen hset
    exact ⟨_, execLanternRecord_commits hmeter hopen hset, State.commitLantern_effect⟩
  case silent =>
    intro s h hwired
    exact ⟨_, if_neg (by simp [hwired]), State.lanternFault_raised⟩
  case unconfirmed =>
    intro s h hconf
    exact ⟨_, if_neg (by simp [hconf]), State.lanternFault_raised⟩
  case circuit =>
    intro s c n hc hn hne hnone
    obtain ⟨hstate, hrecd, hisolated, hchange⟩ := State.contactorReport_effect (s := s) (n := n) hc
    have hrun := execCircuitState_empty hc hn hne hnone
    generalize s.contactorReport c n = v at *
    by_cases hclosed : n = 1
    · rw [if_pos hclosed] at hrun
      have hdone : Changes [.mbx] [] { v with lux := { v.lux with energizing := v.lux.energizing.filter (fun x => x.1 != c) } }
          ((v.lux.energizing.filter (fun x => x.1 == c)).foldl (fun v x => v.completeCmd x.2 .ok [])
            { v with lux := { v.lux with energizing := v.lux.energizing.filter (fun x => x.1 != c) } }) := changes_completeAll
      refine ⟨_, hrun, (hdone.nat _ _).trans hstate, hdone.recd.trans hrecd, fun hzero => by omega, fun _ x hx => ?_, ?_⟩
      · rw [hdone.lux] at hx
        simpa using (List.mem_filter.1 hx).2
      · exact (hchange.same.set_lux).trans (hdone.same.mono (by decide))
    · rw [if_neg hclosed] at hrun
      exact ⟨v, hrun, hstate, hrecd, hisolated, fun h => absurd h hclosed, hchange.same⟩

end Sys2Proof.Machine
end

section
/-! Tamper trips, their acknowledgement and the life cycle (R99, R118, R552–R558, R755, R756). -/

namespace Sys2Proof.Machine

variable {s t u v : State} {c : Cmd} {i k n cls : Nat}

/-! ### Trips (R553–R555, R756) -/

/-- A trip stands active, GLITCH aside, and is counted (R555, R756). -/
def State.tripCounted (s : State) (n : Nat) : State :=
  let v := if n = 9 then s else s.setFlag Attr.TamperSource.active n true
  (v.setNat Attr.GloveboxService.tripCount 0 ((v.nat Attr.GloveboxService.tripCount 0 + 1) % 2 ^ 32)).bump 32 Attr.TamperSource.trips n

theorem State.tripCounted_effect (hn : n ≤ 10) :
    (s.tripCounted n).nat Attr.GloveboxService.tripCount 0 = (s.nat Attr.GloveboxService.tripCount 0 + 1) % 2 ^ 32 ∧
      (n ≠ 9 → (s.tripCounted n).flag Attr.TamperSource.active n = true) ∧
      Changes [.obj, .mbx] [Attr.TamperSource.active, Attr.GloveboxService.tripCount, Attr.TamperSource.trips] s (s.tripCounted n) := by
  have hactive : Changes [.obj, .mbx] [Attr.TamperSource.active] s (if n = 9 then s else s.setFlag Attr.TamperSource.active n true) := .ite .refl changes_setFlag
  have hflag : n ≠ 9 → (if n = 9 then s else s.setFlag Attr.TamperSource.active n true).flag Attr.TamperSource.active n = true := by
    intro hn
    rw [if_neg hn]
    exact State.flag_setFlag
  unfold State.tripCounted
  dsimp only
  generalize (if n = 9 then s else s.setFlag Attr.TamperSource.active n true) = v at hactive hflag ⊢
  have hset : Changes [.obj, .mbx] [Attr.GloveboxService.tripCount] v (v.setNat Attr.GloveboxService.tripCount 0 ((v.nat Attr.GloveboxService.tripCount 0 + 1) % 2 ^ 32)) := changes_setNat
  have hcount : (v.setNat Attr.GloveboxService.tripCount 0 ((v.nat Attr.GloveboxService.tripCount 0 + 1) % 2 ^ 32)).nat Attr.GloveboxService.tripCount 0 =
      (v.nat Attr.GloveboxService.tripCount 0 + 1) % 2 ^ 32 := State.nat_setNat
  have hkept : v.nat Attr.GloveboxService.tripCount 0 = s.nat Attr.GloveboxService.tripCount 0 := hactive.nat _ _
  generalize v.setNat Attr.GloveboxService.tripCount 0 ((v.nat Attr.GloveboxService.tripCount 0 + 1) % 2 ^ 32) = w at hset hcount ⊢
  have hbump : Changes [.obj, .mbx] [Attr.TamperSource.trips] w (w.bump 32 Attr.TamperSource.trips n) := changes_bump
  refine ⟨(hbump.nat _ _).trans (hkept ▸ hcount), fun hn => ?_, ((hactive.mono).step hset).step hbump⟩
  rw [hbump.flag _ _, hset.flag _ _]
  exact hflag hn

/-- A trip of a class above LOG after the boot: recorded, latched and sealed (R553, R555). -/
def State.tripLatched (v : State) (n cls : Nat) : State :=
  let w := v.raiseSafe 0x1001 (objPath 0x0C11 n) [(n : Int), (cls : Int), (v.nat Attr.GloveboxService.tripCount 0 : Nat)]
  { w with glv := { w.glv with ack := none }, sys := { w.sys with tamperLatched := true } }.setFlag Attr.GloveboxService.sealed 0 true

theorem State.tripLatched_effect :
    (v.tripLatched n cls).sys = { v.sys with tamperLatched := true } ∧ (v.tripLatched n cls).flag Attr.GloveboxService.sealed 0 = true ∧
      (v.tripLatched n cls).glv.ack = none ∧
      (v.tripLatched n cls).recd = v.recd.safe ⟨0x1001, objPath 0x0C11 n, [(n : Int), (cls : Int), (v.nat Attr.GloveboxService.tripCount 0 : Nat)]⟩ ∧
      Changes [.obj, .mbx, .sys, .glv, .recd] [Attr.GloveboxService.sealed] v (v.tripLatched n cls) := by
  unfold State.tripLatched
  extract_lets w
  have hraise : Changes [.recd] [] v w := changes_raiseSafe
  have hrecd : w.recd = v.recd.safe ⟨0x1001, objPath 0x0C11 n, [(n : Int), (cls : Int), (v.nat Attr.GloveboxService.tripCount 0 : Nat)]⟩ := rfl
  clear_value w
  have hmarked : SameBut [.sys, .glv] w { w with glv := { w.glv with ack := none }, sys := { w.sys with tamperLatched := true } } := by simp [SameBut]
  have hmark : Changes [.sys, .glv] [] w { w with glv := { w.glv with ack := none }, sys := { w.sys with tamperLatched := true } } := .of_same hmarked
  have hset : Changes [.obj, .mbx] [Attr.GloveboxService.sealed] { w with glv := { w.glv with ack := none }, sys := { w.sys with tamperLatched := true } }
      ({ w with glv := { w.glv with ack := none }, sys := { w.sys with tamperLatched := true } }.setFlag Attr.GloveboxService.sealed 0 true) := changes_setFlag
  refine ⟨?_, State.flag_setFlag, ?_, hset.recd.trans hrecd, ((hraise.mono).step hmark).step hset⟩
  · rw [hset.sys]
    exact congrArg (fun x : Sys => { x with tamperLatched := true }) hraise.sys
  · rw [hset.glv]

/-- A trip of the highest class erases: cache, KEK bank and the OTP window (R553). -/
def State.tripErased (v : State) : State :=
  ({ v with glv := { v.glv with erased := true, cache := [], bank := none } }.setFlag Attr.GloveboxService.otpLocked 0 true).refreshProvision

theorem State.tripErased_effect :
    v.tripErased.glv = { v.glv with erased := true, cache := [], bank := none } ∧ v.tripErased.flag Attr.GloveboxService.otpLocked 0 = true ∧
      Changes [.glv, .obj, .mbx] [Attr.GloveboxService.otpLocked, Attr.SystemMode.provisionState] v v.tripErased := by
  unfold State.tripErased
  have hmark : Changes [.glv] [] v { v with glv := { v.glv with erased := true, cache := [], bank := none } } := .of_same SameBut.refl.set_glv
  have hset : Changes [.obj, .mbx] [Attr.GloveboxService.otpLocked] { v with glv := { v.glv with erased := true, cache := [], bank := none } }
      ({ v with glv := { v.glv with erased := true, cache := [], bank := none } }.setFlag Attr.GloveboxService.otpLocked 0 true) := changes_setFlag
  have hlocked : ({ v with glv := { v.glv with erased := true, cache := [], bank := none } }.setFlag Attr.GloveboxService.otpLocked 0 true).flag Attr.GloveboxService.otpLocked 0 = true :=
    State.flag_setFlag
  have hglv := hset.glv
  generalize { v with glv := { v.glv with erased := true, cache := [], bank := none } }.setFlag Attr.GloveboxService.otpLocked 0 true = w at hset hlocked hglv ⊢
  have hfresh : Changes [.obj, .mbx] [Attr.SystemMode.provisionState] w w.refreshProvision := changes_refreshProvision
  exact ⟨hfresh.glv.trans hglv, (hfresh.flag _ _).trans hlocked, ((hmark.mono).step hset).step hfresh⟩

theorem execTamperTrip_latches (hn : n ≤ 10) (hidle : s.flag Attr.TamperSource.active n = false) (hcls : s.nat Attr.TamperSource.klass n = cls) (hhigh : 2 ≤ cls)
    (hboot : s.sys.resetOutLow = false) :
    execTamperTrip n [] s = .next (if cls = 3 then ((s.tripCounted n).tripLatched n cls).tripErased else (s.tripCounted n).tripLatched n cls) := by
  obtain ⟨hcount, -, hchange⟩ := State.tripCounted_effect (s := s) hn
  have hboot : ¬ ((s.tripCounted n).sys.resetOutLow = true) := by simp [hchange.sys, hboot]
  have hgo : ¬ (10 < n ∨ s.flag Attr.TamperSource.active n = true) := by simp [hidle, hn]
  unfold execTamperTrip
  rw [if_neg hgo]
  extract_lets +onlyGivenNames cls' v count w x y z e
  have hcls' : cls' = cls := hcls
  have hw : w = s.tripCounted n := rfl
  have hy : y = (s.tripCounted n).raiseSafe 0x1001 (objPath 0x0C11 n) [(n : Int), (cls : Int), ((s.tripCounted n).nat Attr.GloveboxService.tripCount 0 : Nat)] := by
    have hkept : count = (s.tripCounted n).nat Attr.GloveboxService.tripCount 0 := (State.nat_setAttr_ne (mkPath_ne_of_attr (by decide)) |>.trans State.nat_setNat).symm
    simp only [y, hw, if_neg hboot, hcls', hkept, tamperPath]
  rw [if_neg (by omega), if_neg (by omega), hcls']
  unfold State.tripLatched
  rw [← hy]
  clear_value w
  by_cases hhighest : cls = 3
  · simp only [if_pos hhighest, List.foldl_nil]
    rfl
  · simp only [if_neg hhighest, List.foldl_nil]
    rfl

/-- A trip of class LOG before the boot: the backup domain keeps the first one (R756). -/
theorem execTamperTrip_logs (hn : n ≤ 10) (hidle : s.flag Attr.TamperSource.active n = false) (hcls : s.nat Attr.TamperSource.klass n = 1) (hboot : s.sys.resetOutLow = true) :
    execTamperTrip n [] s =
      .next { s.tripCounted n with glv := { (s.tripCounted n).glv with firstTrip := (s.tripCounted n).glv.firstTrip.or (some (n, 1)), ack := none } } := by
  obtain ⟨-, -, hchange⟩ := State.tripCounted_effect (s := s) hn
  have hboot : (s.tripCounted n).sys.resetOutLow = true := by rw [hchange.sys, hboot]
  have hgo : ¬ (10 < n ∨ s.flag Attr.TamperSource.active n = true) := by simp [hidle, hn]
  unfold execTamperTrip
  rw [if_neg hgo]
  extract_lets +onlyGivenNames cls' v count w x y
  have hcls' : cls' = 1 := hcls
  have hw : w = s.tripCounted n := rfl
  have hy : y = { w with glv := { w.glv with firstTrip := w.glv.firstTrip.or (some (n, 1)) } } := by
    simp only [y, hcls']
    exact if_pos (hw ▸ hboot)
  rw [← hw]
  clear_value w y cls'
  subst hcls' hy
  rfl

/-! ### Acknowledgements and sources (R99, R552, R555) -/

theorem doTamperAck_first (hlatched : s.sys.tamperLatched = true) (hcount : field c.payload 0 4 = s.nat Attr.GloveboxService.tripCount 0)
    (hidle : ∀ k < 11, s.flag Attr.TamperSource.active k = false) (hnone : s.glv.ack = none) :
    doTamperAck c s = (⟨.accepted, []⟩, { s with glv := { s.glv with ack := some (roleIndex c.role, c.cred, s.tim.d3) } }) := by
  have hquiet : ¬ ((List.range 11).any (s.flag Attr.TamperSource.active) = true) := by simpa using hidle
  unfold doTamperAck
  simp only [hlatched, Bool.not_true, Bool.false_eq_true, if_false, hcount, ne_eq, not_true_eq_false, if_neg hquiet, hnone, Option.filter_none]

/-- The latch has ended: keys are sealed no longer, and the bank is of the generation in force (R555). -/
def State.tamperCleared (s : State) (first second : Nat) : State :=
  let v := { s with
    sys := { s.sys with tamperLatched := false }
    glv := { s.glv with ack := none, erased := false, bank := some (s.nat Attr.GloveboxService.kekGeneration 0) } }
  let w := (v.setFlag Attr.GloveboxService.sealed 0 false).setFlag Attr.GloveboxService.otpLocked 0 false
  (w.raise 0x1002 glovePath [(w.nat Attr.GloveboxService.tripCount 0 : Nat), (first : Int), (second : Int)]).refreshProvision

theorem doTamperAck_second {role cred d : Nat} (hlatched : s.sys.tamperLatched = true) (hcount : field c.payload 0 4 = s.nat Attr.GloveboxService.tripCount 0)
    (hidle : ∀ k < 11, s.flag Attr.TamperSource.active k = false) (hfirst : s.glv.ack = some (role, cred, d)) (htime : s.tim.d3 ≤ d + sec 600)
    (hrole : role ≠ roleIndex c.role) (hcred : cred ≠ c.cred) : doTamperAck c s = (⟨.ok, []⟩, s.tamperCleared cred c.cred) := by
  have hquiet : ¬ ((List.range 11).any (s.flag Attr.TamperSource.active) = true) := by simpa using hidle
  have hother : ¬ (role = roleIndex c.role ∨ cred = c.cred) := by simp [hrole, hcred]
  unfold doTamperAck
  simp only [hlatched, Bool.not_true, Bool.false_eq_true, if_false, hcount, ne_eq, not_true_eq_false, if_neg hquiet, hfirst, Option.filter_some, decide_eq_true htime, if_true,
    if_neg hother]
  rfl

theorem State.tamperCleared_effect {first second : Nat} :
    (s.tamperCleared first second).sys = { s.sys with tamperLatched := false } ∧ (s.tamperCleared first second).flag Attr.GloveboxService.sealed 0 = false ∧
      (s.tamperCleared first second).flag Attr.GloveboxService.otpLocked 0 = false ∧
      (s.tamperCleared first second).glv = { s.glv with ack := none, erased := false, bank := some (s.nat Attr.GloveboxService.kekGeneration 0) } ∧
      (s.tamperCleared first second).recd = s.recd.ordinary ⟨0x1002, objPath 0x0C10 0, [(s.nat Attr.GloveboxService.tripCount 0 : Nat), (first : Int), (second : Int)]⟩ ∧
      Changes [.mbx, .sys, .obj, .recd, .glv] [Attr.GloveboxService.sealed, Attr.GloveboxService.otpLocked, Attr.SystemMode.provisionState] s (s.tamperCleared first second) := by
  unfold State.tamperCleared
  extract_lets +onlyGivenNames x y v w
  have hmarked : SameBut [.sys, .glv] s v := by simp [SameBut, v]
  have hmark : Changes [.sys, .glv] [] s v := .of_same hmarked
  have hsys : v.sys = { s.sys with tamperLatched := false } := rfl
  have hglv : v.glv = { s.glv with ack := none, erased := false, bank := some (s.nat Attr.GloveboxService.kekGeneration 0) } := rfl
  have hopen : Changes [.obj, .mbx] [Attr.GloveboxService.sealed] v (v.setFlag Attr.GloveboxService.sealed 0 false) := changes_setFlag
  have hsealed : (v.setFlag Attr.GloveboxService.sealed 0 false).flag Attr.GloveboxService.sealed 0 = false := State.flag_setFlag
  have hw : w = (v.setFlag Attr.GloveboxService.sealed 0 false).setFlag Attr.GloveboxService.otpLocked 0 false := rfl
  clear_value w v
  generalize v.setFlag Attr.GloveboxService.sealed 0 false = o at hopen hsealed hw
  have hunlock : Changes [.obj, .mbx] [Attr.GloveboxService.otpLocked] o w := hw ▸ changes_setFlag
  have hunlocked : w.flag Attr.GloveboxService.otpLocked 0 = false := hw ▸ State.flag_setFlag
  have htail : Changes [.obj, .mbx, .recd] [Attr.SystemMode.provisionState] w
      (w.raise 0x1002 glovePath [(w.nat Attr.GloveboxService.tripCount 0 : Nat), (first : Int), (second : Int)]).refreshProvision :=
    (changes_raise.mono (areas := [.obj, .mbx, .recd]) (ys := [Attr.SystemMode.provisionState])).step changes_refreshProvision
  have hrecd : (w.raise 0x1002 glovePath [(w.nat Attr.GloveboxService.tripCount 0 : Nat), (first : Int), (second : Int)]).refreshProvision.recd =
      w.recd.ordinary ⟨0x1002, glovePath, [(w.nat Attr.GloveboxService.tripCount 0 : Nat), (first : Int), (second : Int)]⟩ := State.setNat_recd
  have hcount : w.nat Attr.GloveboxService.tripCount 0 = s.nat Attr.GloveboxService.tripCount 0 := (hunlock.nat _ _).trans ((hopen.nat _ _).trans (hmark.nat _ _))
  have hkept : w.recd = s.recd := hunlock.recd.trans (hopen.recd.trans hmark.recd)
  refine ⟨htail.sys.trans (hunlock.sys.trans (hopen.sys.trans hsys)), ?_, (htail.flag _ _).trans hunlocked, htail.glv.trans (hunlock.glv.trans (hopen.glv.trans hglv)), ?_, ?_⟩
  · rw [htail.flag _ _, hunlock.flag _ _, hsealed]
  · rw [hrecd, hcount, hkept]
    rfl
  · exact ((hmark.mono.step hopen).step hunlock).step htail

/-- A switch's class, level and debounce time (R552). -/
theorem doTamperConfigure_switch (hi : pathInst c.path = i) (hlo : 4 ≤ i) (hhi : i ≤ 7) (hmode : s.sys.mode = .provision) (hcls : octet c.payload 0 ≤ 3)
    (hlevel : octet c.payload 1 ≤ 1) (hmin : 1 ≤ field c.payload 2 2) (hmax : field c.payload 2 2 ≤ 64) :
    doTamperConfigure c s = (⟨.ok, []⟩, ((s.setNat Attr.TamperSource.klass i (octet c.payload 0)).setNat Attr.TamperSource.activeLevel i (octet c.payload 1)).setNat
      Attr.TamperSource.debounceMs i (field c.payload 2 2)) := by
  have hgo : ¬ (s.sys.mode ≠ .provision ∨ i = 9 ∨ (i ≤ 3 ∧ octet c.payload 0 < 2 ∧ s.sys.lifecycle = .field)) := by
    rw [hmode]
    simp only [ne_eq, not_true_eq_false, false_or]
    omega
  have hvalues : ¬ (3 < octet c.payload 0 ∨ (4 ≤ i ∧ i ≤ 7 ∧ (1 < octet c.payload 1 ∨ field c.payload 2 2 < 1 ∨ 64 < field c.payload 2 2))) := by omega
  unfold doTamperConfigure
  simp only [hi, if_neg hgo, if_neg hvalues, if_pos (And.intro hlo hhi)]

theorem doTamperConfigure_glitch (hi : pathInst c.path = 9) : doTamperConfigure c s = (⟨.refused, []⟩, s) := if_pos (.inr (.inl hi))

/-! ### Root slots that are filled and objects that end (R531, R557) -/

def rootAttrs : List (Nat × Nat) := [Attr.RootSlot.state, Attr.RootSlot.tag, Attr.RootSlot.value]

theorem changes_fillSlot {b : Bytes} (hi : i < 2 ^ 40) : Changes [.glv, .obj, .mbx] rootAttrs s (s.fillSlot i b) := by
  unfold State.fillSlot
  extract_lets +onlyGivenNames x v w z
  have hput : SameBut [.glv] s v := by simp [SameBut, v]
  have hv : Changes [.glv] [] s v := .of_same hput
  have hw : Changes [.obj, .mbx] [Attr.RootSlot.state] v w := changes_setNat
  have hz : Changes [.obj, .mbx] [Attr.RootSlot.tag] w z := changes_setNat
  have hall : Changes [.glv, .obj, .mbx] rootAttrs s z := (hv.mono.step hw).step hz
  exact .ite (hall.step (changes_setAttr (y := Attr.RootSlot.value))) hall

/-- A slot that is filled leaves the state of the others. -/
theorem State.fillSlot_keeps {b : Bytes} (hne : i ≠ k) : (s.fillSlot i b).nat Attr.RootSlot.state k = s.nat Attr.RootSlot.state k := by
  have hstate : mkPath Attr.RootSlot.state.1 k Attr.RootSlot.state.2 ≠ mkPath Attr.RootSlot.state.1 i Attr.RootSlot.state.2 := mkPath_ne_of_inst hne.symm
  unfold State.fillSlot
  dsimp only
  split
  · rw [State.nat_setAttr_ne (mkPath_ne_of_attr (by decide)), State.nat_setNat_ne (mkPath_ne_of_attr (by decide)), State.nat_setNat_ne hstate]
    rfl
  · rw [State.nat_setNat_ne (mkPath_ne_of_attr (by decide)), State.nat_setNat_ne hstate]
    rfl

theorem changes_seedSlot (hi : i < 2 ^ 40) : Changes [.glv, .obj, .mbx] rootAttrs s (s.seedSlot i) := by
  have hdrawn : ∀ w : State, Changes [] [] w w.drawn := fun w => .of_same (by simp [SameBut, State.drawn])
  exact (changes_fillSlot hi).step (hdrawn _)

theorem State.slotGood_seedSlot : (s.seedSlot i).slotGood i = true := by
  obtain ⟨hstate, -, -⟩ := State.fillSlot_filled (s := s) (i := i) (v := s.trng 32)
  exact beq_iff_eq.2 hstate

theorem State.slotGood_seedSlot_ne (hne : i ≠ k) : (s.seedSlot i).slotGood k = s.slotGood k :=
  congrArg (· == 1) (State.fillSlot_keeps hne)

/-- An object that is removed lives no longer; the others of its class live as before. -/
theorem State.alive_destroy {x : Nat} : (s.destroy x k).alive x k = false := by
  show (Assoc.find _ (Assoc.del _ _)).isSome = false
  rw [Assoc.find_del_same]
  rfl

theorem State.alive_destroy_ne {x : Nat} (hne : i ≠ k) : (s.destroy x i).alive x k = s.alive x k := by
  show (Assoc.find _ (Assoc.del _ _)).isSome = (Assoc.find _ _).isSome
  rw [Assoc.find_del_ne]
  unfold objKey
  omega

/-- All objects of a list are removed. -/
theorem State.alive_destroyAll {x : Nat} : ∀ {l : List Nat} {s : State}, k ∈ l ∨ s.alive x k = false → (l.foldl (fun t j => t.destroy x j) s).alive x k = false
  | [], s, hgone => hgone.elim (fun hm => absurd hm List.not_mem_nil) id
  | j :: l, s, hgone => by
    refine State.alive_destroyAll (l := l) (s := s.destroy x j) ?_
    by_cases hj : j = k
    · exact .inr (hj ▸ State.alive_destroy)
    · rcases hgone with hm | hdead
      · exact .inl ((List.mem_cons.1 hm).resolve_left (Ne.symm hj))
      · exact .inr ((State.alive_destroy_ne hj).trans hdead)

/-- A live object is among the instances of its class. -/
theorem State.mem_instances {x : Nat} (hk : k < 2 ^ 40) (halive : s.alive x k = true) : k ∈ s.instances x := by
  obtain ⟨v, hv⟩ := Option.isSome_iff_exists.1 halive
  refine List.mem_map.2 ⟨(objKey x k, v), List.mem_filter.2 ⟨Assoc.mem_of_find hv, ?_⟩, ?_⟩
  · simp only [objKey, beq_iff_eq]
    omega
  · simp only [objKey]
    omega

/-- Every object of a class is removed. -/
theorem State.alive_destroyClass {x : Nat} (hk : k < 2 ^ 40) : ((s.instances x).foldl (fun t j => t.destroy x j) s).alive x k = false := by
  refine State.alive_destroyAll ?_
  by_cases halive : s.alive x k = true
  · exact .inl (State.mem_instances hk halive)
  · exact .inr (Bool.eq_false_iff.2 halive)

theorem classesBut_destroyAll {x : Nat} : ∀ {l : List Nat} {s : State}, (∀ j ∈ l, j < 2 ^ 40) → ClassesBut [x] s (l.foldl (fun t j => t.destroy x j) s)
  | [], _, _ => .of_obj rfl
  | j :: l, s, hlt =>
    ClassesBut.trans (classesBut_destroy (List.mem_singleton.2 rfl) (hlt j List.mem_cons_self))
      (classesBut_destroyAll (l := l) (s := s.destroy x j) fun i hi => hlt i (List.mem_cons_of_mem _ hi))

/-! ### The advance (R118, R556–R558) -/

/-- The fuses and the debug port of a transition. -/
def State.fusesBlown (s : State) (l : Lifecycle) : State :=
  { s with sys := { s.sys with lifecycle := l, postureWritten := false, resetDue := true }, dbg := { s.dbg with unlocks := 0 } }

/-- The seeds of FIELD, and the keys that end with the factory's. -/
def State.fieldSeeded (s : State) : State :=
  let v := (((s.fusesBlown .field).seedSlot 7).seedSlot 8).seedSlot 9
  { v with glv := { v.glv with cache := [], bank := none, attests := 0 } }

/-- The recorder starts anew (Table 14-9). -/
def Recorder.cleared (r : Recorder) : Recorder := { r with ring := [], tail := [], mirror := [], last := none, head := 0, loaderSeq := none, mirrored := 0 }

theorem State.advanceLife_field (h : s.sys.lifecycle = .factory) :
    s.advanceLife .field =
      let v := (s.fieldSeeded.instances 0x0C20).foldl (fun t k => t.destroy 0x0C20 k) s.fieldSeeded
      { v with recd := v.recd.cleared } := by
  unfold State.advanceLife
  extract_lets +onlyGivenNames old x y s1 s2 s3 z s4 s5 s6
  have h1 : s1 = s.fusesBlown .field := rfl
  have h2 : s2 = s1 := (if_neg (by decide)).trans (if_neg (by decide))
  have h3 : s3 = ((s2.seedSlot 7).seedSlot 8).seedSlot 9 := if_pos rfl
  rw [h2, h1] at h3
  have h4 : s4 = s.fieldSeeded := by
    unfold State.fieldSeeded
    rw [← h3]
  have h6 : s6 = s4 := if_neg (by decide)
  rw [if_pos (.inr h), h6, h4]
  rfl

theorem State.fieldSeeded_effect :
    s.fieldSeeded.sys = { s.sys with lifecycle := .field, postureWritten := false, resetDue := true } ∧ s.fieldSeeded.dbg.unlocks = 0 ∧
      (∀ k ∈ [7, 8, 9], s.fieldSeeded.slotGood k = true) ∧ s.fieldSeeded.glv.bank = none ∧ s.fieldSeeded.glv.attests = 0 ∧
      Changes [.mbx, .sys, .dbg, .obj, .glv] rootAttrs s s.fieldSeeded := by
  have hblown : SameBut [.sys, .dbg] s (s.fusesBlown .field) := by simp [SameBut, State.fusesBlown]
  have hfuses : Changes [.sys, .dbg] [] s (s.fusesBlown .field) := .of_same hblown
  have hsys : (s.fusesBlown .field).sys = { s.sys with lifecycle := .field, postureWritten := false, resetDue := true } := rfl
  have hdbg : (s.fusesBlown .field).dbg.unlocks = 0 := rfl
  unfold State.fieldSeeded
  generalize s.fusesBlown .field = v at hfuses hsys hdbg ⊢
  have hseeded : Changes [.glv, .obj, .mbx] rootAttrs v (((v.seedSlot 7).seedSlot 8).seedSlot 9) :=
    ((changes_seedSlot (by decide)).trans (changes_seedSlot (by decide))).trans (changes_seedSlot (by decide))
  have hseven : (((v.seedSlot 7).seedSlot 8).seedSlot 9).slotGood 7 = true := by
    rw [State.slotGood_seedSlot_ne (by decide), State.slotGood_seedSlot_ne (by decide), State.slotGood_seedSlot]
  have height : (((v.seedSlot 7).seedSlot 8).seedSlot 9).slotGood 8 = true := by
    rw [State.slotGood_seedSlot_ne (by decide), State.slotGood_seedSlot]
  have hnine : (((v.seedSlot 7).seedSlot 8).seedSlot 9).slotGood 9 = true := State.slotGood_seedSlot
  generalize ((v.seedSlot 7).seedSlot 8).seedSlot 9 = w at hseeded hseven height hnine ⊢
  have hmark : Changes [.glv] [] w { w with glv := { w.glv with cache := [], bank := none, attests := 0 } } := .of_same SameBut.refl.set_glv
  refine ⟨hseeded.sys.trans hsys, (congrArg Debug.unlocks hseeded.dbg).trans hdbg, ?_, rfl, rfl, (hfuses.mono.step hseeded).step hmark⟩
  simpa using ⟨hseven, height, hnine⟩

/-- The transition to FIELD: the fuses, the seeds, no credentials and no records (R118, R557). -/
theorem State.advanceLife_field_effect (h : s.sys.lifecycle = .factory) :
    let t := s.advanceLife .field
    t.sys = { s.sys with lifecycle := .field, postureWritten := false, resetDue := true } ∧ (∀ k ∈ [7, 8, 9], t.slotGood k = true) ∧
      (∀ k < 2 ^ 40, t.alive 0x0C20 k = false) ∧ t.glv.bank = none ∧ t.glv.attests = 0 ∧ t.dbg.unlocks = 0 ∧ t.recd.ring = [] ∧ t.recd.head = 0 ∧ t.recd.last = none ∧
      SameBut [.mbx, .sys, .dbg, .obj, .glv, .recd] s t ∧ (∀ x : State, Poised x s → Poised x t) := by
  obtain ⟨hsys, hunlocks, hslots, hbank, hattests, hchange⟩ := State.fieldSeeded_effect (s := s)
  rw [State.advanceLife_field h]
  generalize s.fieldSeeded = v at hsys hunlocks hslots hbank hattests hchange ⊢
  have hsame : SameBut [.obj] v ((v.instances 0x0C20).foldl (fun t k => t.destroy 0x0C20 k) v) := SameBut.foldl fun _ _ => sameBut_destroy
  have hclasses : ClassesBut [0x0C20] v ((v.instances 0x0C20).foldl (fun t k => t.destroy 0x0C20 k) v) := classesBut_destroyAll fun _ => State.instances_lt
  have hdead : ∀ k < 2 ^ 40, ((v.instances 0x0C20).foldl (fun t k => t.destroy 0x0C20 k) v).alive 0x0C20 k = false := fun _ => State.alive_destroyClass
  generalize (v.instances 0x0C20).foldl (fun t k => t.destroy 0x0C20 k) v = w at hsame hclasses hdead ⊢
  have hglv : w.glv = v.glv := hsame.area .glv
  have hgood : ∀ k ∈ [7, 8, 9], w.slotGood k = true := by
    intro k hk
    have hlt : k < 2 ^ 40 := by
      simp only [List.mem_cons, List.not_mem_nil, or_false] at hk
      omega
    have hstate : w.slotGood k = v.slotGood k := congrArg (· == 1) (hclasses.nat Attr.RootSlot.state k hlt)
    exact hstate.trans (hslots k hk)
  have hwsys : w.sys = v.sys := hsame.area .sys
  refine ⟨hwsys.trans hsys, hgood, hdead, (congrArg Glovebox.bank hglv).trans hbank, (congrArg Glovebox.attests hglv).trans hattests,
    (congrArg Debug.unlocks (hsame.area .dbg)).trans hunlocks, rfl, rfl, rfl, ?_, fun x hx => ?_⟩
  · exact ((hchange.same.mono (by decide)).step hsame).trans (SameBut.refl.set_recd)
  · have hmbx : w.mbx = v.mbx := hsame.area .mbx
    obtain ⟨hpairs, hrepeats, htaken⟩ := hchange.poised x hx
    exact ⟨(congrArg Mailbox.pairs hmbx).trans hpairs, (congrArg Mailbox.repeats hmbx).trans hrepeats, (congrArg Mailbox.taken hmbx).trans htaken⟩

theorem doLifecycleAdvance_field (hop : octet c.payload 0 = 2) (hmode : s.sys.mode = .factory) (hlife : s.sys.lifecycle = .factory)
    (hsealed : s.flag Attr.GloveboxService.sealed 0 = false) (htrng : s.glv.trngFault = false) (hrole : c.role = .operator) (hslots : ∀ k ∈ [2, 3, 4, 5, 6], s.slotGood k = true) :
    doLifecycleAdvance c s = (⟨.ok, []⟩, s.advanceLife .field) := by
  have hall : [2, 3, 4, 5, 6].all s.slotGood = true := List.all_eq_true.2 hslots
  unfold doLifecycleAdvance
  simp [hop, lifeOfByte, hmode, hlife, lifeArrow, hsealed, htrng, hrole, hall]

theorem doLifecycleAdvance_safety (hop : octet c.payload 0 = 3) (hmode : s.sys.mode = .provision) (hlife : s.sys.lifecycle = .field)
    (hsealed : s.flag Attr.GloveboxService.sealed 0 = false) (htrng : s.glv.trngFault = false) (hrole : c.role = .safety) :
    doLifecycleAdvance c s = (⟨.accepted, []⟩, { s with glv := { s.glv with advance := some (3, c.cred, s.tim.d3) } }) := by
  unfold doLifecycleAdvance
  simp [hop, lifeOfByte, hmode, hlife, lifeArrow, hsealed, htrng, hrole, Lifecycle.code]

theorem doLifecycleAdvance_alone (hop : octet c.payload 0 = 3) (hmode : s.sys.mode = .provision) (hlife : s.sys.lifecycle = .field)
    (hsealed : s.flag Attr.GloveboxService.sealed 0 = false) (htrng : s.glv.trngFault = false) (hrole : c.role = .operator) (hnone : s.glv.advance = none) :
    doLifecycleAdvance c s = (⟨.denied, []⟩, s) := by
  unfold doLifecycleAdvance
  simp [hop, lifeOfByte, hmode, hlife, lifeArrow, hsealed, htrng, hrole, hnone]

/-- Settles O32: trips by what they count, latch and erase, the acknowledgements and the advance by their bodies. -/
theorem tamperAndLifecycle : Obligations.TamperAndLifecycle := by
  refine ⟨?latches, ?logs, ?again, ?inactive, ?first, ?second, ?ackExpiry, ?advanceExpiry, ?configure, ?glitch, ?field, ?safety, ?alone⟩
  case latches =>
    intro s n cls hn hidle hcls hhigh hboot
    obtain ⟨hcount, hactive, hcounted⟩ := State.tripCounted_effect (s := s) hn
    have hrun := execTamperTrip_latches hn hidle hcls hhigh hboot
    generalize s.tripCounted n = v at hcount hactive hcounted hrun
    obtain ⟨hsys, hsealed, hack, hrecd, hlatched⟩ := State.tripLatched_effect (v := v) (n := n) (cls := cls)
    rw [hcount, hcounted.recd] at hrecd
    rw [hcounted.sys] at hsys
    generalize v.tripLatched n cls = w at hsys hsealed hack hrecd hlatched hrun
    have hwcount : w.nat Attr.GloveboxService.tripCount 0 = (s.nat Attr.GloveboxService.tripCount 0 + 1) % 2 ^ 32 := (hlatched.nat _ _).trans hcount
    have hwactive : n ≠ 9 → w.flag Attr.TamperSource.active n = true := fun hne => (hlatched.flag _ _).trans (hactive hne)
    have hsame : SameBut [.sys, .obj, .mbx, .recd, .glv] s w := (hcounted.same.mono (by decide)).step hlatched.same
    by_cases hhighest : cls = 3
    · rw [if_pos hhighest] at hrun
      obtain ⟨hglv, hlocked, herased⟩ := State.tripErased_effect (v := w)
      refine ⟨_, hrun, herased.sys.trans hsys, (herased.flag _ _).trans hsealed, (herased.nat _ _).trans hwcount, fun hne => (herased.flag _ _).trans (hwactive hne),
        (congrArg Glovebox.ack hglv).trans hack, fun _ => ⟨congrArg Glovebox.erased hglv, congrArg Glovebox.cache hglv, congrArg Glovebox.bank hglv, hlocked⟩,
        herased.recd.trans hrecd, hsame.step herased.same⟩
    · rw [if_neg hhighest] at hrun
      exact ⟨_, hrun, hsys, hsealed, hwcount, hwactive, hack, fun h => absurd h hhighest, hrecd, hsame⟩
  case logs =>
    intro s n hn hidle hcls hboot
    obtain ⟨hcount, -, hcounted⟩ := State.tripCounted_effect (s := s) hn
    have hrun := execTamperTrip_logs hn hidle hcls hboot
    generalize s.tripCounted n = v at hcount hcounted hrun
    refine ⟨_, hrun, congrArg (fun g : Glovebox => { g with firstTrip := g.firstTrip.or (some (n, 1)), ack := none }) hcounted.glv, hcount, ?_⟩
    exact (hcounted.same.mono (by decide)).trans SameBut.refl.set_glv
  case again => exact fun s n hactive => ⟨s, if_pos (.inr hactive), rfl⟩
  case inactive =>
    intro s n hn
    exact ⟨_, congrArg Host.Outcome.next (if_pos hn), State.flag_setFlag, sameBut_setFlag.mono (by decide)⟩
  case first =>
    intro s c n hs ho hlatched hcount hidle hnone
    obtain ⟨t, hrun, rfl, hans⟩ := hs.completes ho (doTamperAck_first (s := s.pop) hlatched hcount hidle hnone) ⟨rfl, rfl, rfl⟩ (Nat.zero_le _)
    refine ⟨_, hrun, hans, ?_, ?_, ?_⟩
    · rw [State.finish_glv]
      rfl
    · rw [State.finish_sys]
      exact hlatched
    · exact ((sameBut_pop.mono (by decide)).set_glv).step sameBut_finish
  case second =>
    intro s c n role cred d hs ho hlatched hcount hidle hfirst htime hrole hcred
    have hbody := doTamperAck_second (s := s.pop) hlatched hcount hidle hfirst htime hrole hcred
    obtain ⟨hsys, hsealed, hlocked, hglv, hrecd, hchange⟩ := State.tamperCleared_effect (s := s.pop) (first := cred) (second := c.cred)
    obtain ⟨t, hrun, rfl, hans⟩ := hs.completes ho hbody (hchange.poised s ⟨rfl, rfl, rfl⟩) (Nat.zero_le _)
    refine ⟨_, hrun, hans, ?_, (State.flag_congr State.finish_obj _ _).trans hsealed, (State.flag_congr State.finish_obj _ _).trans hlocked, ?_, ?_, hchange.finished⟩
    · rw [State.finish_sys]
      exact hsys
    · rw [State.finish_glv]
      exact hglv
    · rw [State.finish_recd]
      exact hrecd
  case ackExpiry => exact fun s => ⟨_, rfl, rfl, SameBut.refl.set_glv⟩
  case advanceExpiry => exact fun s => ⟨_, rfl, rfl, SameBut.refl.set_glv⟩
  case configure =>
    intro s c n i hs ho hcls hattr hi hlo hhi hmode hklass hlevel hmin hmax
    have hbody := doTamperConfigure_switch (s := s.pop) hi hlo hhi hmode hklass hlevel hmin hmax
    have hfirst : Changes [.obj, .mbx] [Attr.TamperSource.klass] s.pop (s.pop.setNat Attr.TamperSource.klass i (octet c.payload 0)) := changes_setNat
    have hk : (s.pop.setNat Attr.TamperSource.klass i (octet c.payload 0)).nat Attr.TamperSource.klass i = octet c.payload 0 := State.nat_setNat
    generalize s.pop.setNat Attr.TamperSource.klass i (octet c.payload 0) = v at hbody hfirst hk
    have hnext : Changes [.obj, .mbx] [Attr.TamperSource.activeLevel] v (v.setNat Attr.TamperSource.activeLevel i (octet c.payload 1)) := changes_setNat
    have hl : (v.setNat Attr.TamperSource.activeLevel i (octet c.payload 1)).nat Attr.TamperSource.activeLevel i = octet c.payload 1 := State.nat_setNat
    generalize v.setNat Attr.TamperSource.activeLevel i (octet c.payload 1) = w at hbody hnext hl
    have hlast : Changes [.obj, .mbx] [Attr.TamperSource.debounceMs] w (w.setNat Attr.TamperSource.debounceMs i (field c.payload 2 2)) := changes_setNat
    have hall : Changes [.mbx, .obj] [Attr.TamperSource.klass, Attr.TamperSource.activeLevel, Attr.TamperSource.debounceMs] s.pop
        (w.setNat Attr.TamperSource.debounceMs i (field c.payload 2 2)) := (hfirst.mono.step hnext).step hlast
    obtain ⟨t, hrun, rfl, hans⟩ := hs.method_completes ho hcls hattr hbody (hall.poised s ⟨rfl, rfl, rfl⟩) (Nat.zero_le _)
    have hnat : ∀ y : Nat × Nat, ((w.setNat Attr.TamperSource.debounceMs i (field c.payload 2 2)).finish c ⟨.ok, []⟩).nat y i =
        (w.setNat Attr.TamperSource.debounceMs i (field c.payload 2 2)).nat y i := fun y => State.nat_congr State.finish_obj y i
    refine ⟨_, hrun, hans, ?_, ?_, ?_, hall.finished⟩
    · rw [hnat, hlast.nat _ _, hnext.nat _ _, hk]
    · rw [hnat, hlast.nat _ _, hl]
    · exact (hnat _).trans State.nat_setNat
  case glitch =>
    intro s c n hs ho hcls hattr hi
    exact hs.method_unchanged ho hcls hattr (doTamperConfigure_glitch hi) (Nat.zero_le _)
  case field =>
    intro s c n hs _ ho hop hmode hlife hsealed htrng hrole hslots
    have hbody := doLifecycleAdvance_field (s := s.pop) hop hmode hlife hsealed htrng hrole hslots
    obtain ⟨hsys, hgood, hdead, hbank, hattests, hunlocks, hring, hhead, hlast, hsame, hpoised⟩ := State.advanceLife_field_effect (s := s.pop) hlife
    generalize s.pop.advanceLife .field = v at hbody hsys hgood hdead hbank hattests hunlocks hring hhead hlast hsame hpoised
    obtain ⟨t, hrun, rfl, hans⟩ := hs.completes ho hbody (hpoised s ⟨rfl, rfl, rfl⟩) (Nat.zero_le _)
    have hobj : (v.finish c ⟨.ok, []⟩).obj = v.obj := State.finish_obj
    refine ⟨_, hrun, hans, ?_, fun k hk => ?_, fun k hk => ?_, ?_, ?_, ?_, ?_, ?_, ?_, ((sameBut_pop.mono (by decide)).step hsame).step sameBut_finish⟩
    · rw [State.finish_sys]
      exact hsys
    · exact (congrArg (· == 1) (State.nat_congr hobj _ _)).trans (hgood k hk)
    · exact (State.alive_congr (congrArg Obj.live hobj)).trans (hdead k hk)
    · rw [State.finish_glv, hbank]
    · rw [State.finish_glv, hattests]
    · rw [State.finish_dbg, hunlocks]
    · rw [State.finish_recd, hring]
    · rw [State.finish_recd, hhead]
    · rw [State.finish_recd, hlast]
  case safety =>
    intro s c n hs ho hop hmode hlife hsealed htrng hrole
    obtain ⟨t, hrun, rfl, hans⟩ := hs.completes ho (doLifecycleAdvance_safety (s := s.pop) hop hmode hlife hsealed htrng hrole) ⟨rfl, rfl, rfl⟩ (Nat.zero_le _)
    refine ⟨_, hrun, hans, ?_, ?_, ((sameBut_pop.mono (by decide)).set_glv).step sameBut_finish⟩
    · rw [State.finish_glv]
      rfl
    · rw [State.finish_sys]
      rfl
  case alone =>
    intro s c n hs ho hop hmode hlife hsealed htrng hrole hnone
    exact hs.completes_unchanged (b := doLifecycleAdvance) ho (doLifecycleAdvance_alone (s := s.pop) hop hmode hlife hsealed htrng hrole hnone) (Nat.zero_le _)

end Sys2Proof.Machine
end

section
/-! Root slots, keys, attestation and credentials (R530, R533–R535, R540–R542, R546, R547, R558). -/

namespace Sys2Proof.Machine

variable {s t u v : State} {c : Cmd} {b : Bytes} {cell g h i k n : Nat} {areas : List Area} {ys : List (Nat × Nat)}

theorem Changes.octets (hchange : Changes areas ys s t) (y : Nat × Nat) (i : Nat) (hy : autoParam (y ∉ ys ∧ y.2 < 256) Nat.toPNat._auto_1)
    (hi : autoParam (i < 2 ^ 40) Nat.dfold._auto_1) : t.octets y i = s.octets y i := by
  simp only [State.octets, hchange.attr y i hy hi]

/-! ### Root slots (R530, R533–R535) -/

/-- The USER slots are public (Table 14-1). -/
theorem publicSlot_user (hlo : 16 ≤ i) (hhi : i ≤ 31) : publicSlot i = true := by simp [publicSlot, hlo, hhi]

/-- From `s` to `t` a USER slot has taken a state, a value and a tag, and this is recorded (R533, R535). -/
structure SlotSet (s t : State) (i st tag : Nat) (b : Bytes) : Prop where
  state : t.nat Attr.RootSlot.state i = st
  value : t.octets Attr.RootSlot.value i = b
  tag : t.nat Attr.RootSlot.tag i = tag
  slot : Assoc.find i t.glv.slots = some b
  recd : t.recd = s.recd.ordinary ⟨0x1005, objPath 0x0C01 i, [(i : Int)]⟩
  changes : Changes [.mbx, .glv, .obj, .recd] (Attr.SystemMode.provisionState :: rootAttrs) s t

/-- The three attributes of a USER slot, and the event. -/
def State.writeSlot (s : State) (i st tag : Nat) (b : Bytes) : State :=
  let v := { s with glv := { s.glv with slots := Assoc.put i b s.glv.slots, blown := Assoc.del i s.glv.blown } }
  ((((v.setNat Attr.RootSlot.state i st).setNat Attr.RootSlot.tag i tag).setAttr Attr.RootSlot.value i (.bytes b)).raise 0x1005 (objPath 0x0C01 i) [(i : Int)]).refreshProvision

theorem State.writeSlot_effect {st tag : Nat} (hi : i < 2 ^ 40) : SlotSet s (s.writeSlot i st tag b) i st tag b := by
  unfold State.writeSlot
  extract_lets +onlyGivenNames x v
  have hput : SameBut [.glv] s v := by simp [SameBut, v]
  have hv : Changes [.glv] [] s v := .of_same hput
  have hslot : Assoc.find i v.glv.slots = some b := Assoc.find_put_same
  clear_value v
  have hw : Changes [.obj, .mbx] [Attr.RootSlot.state] v (v.setNat Attr.RootSlot.state i st) := changes_setNat
  have hstate : (v.setNat Attr.RootSlot.state i st).nat Attr.RootSlot.state i = st := State.nat_setNat
  generalize v.setNat Attr.RootSlot.state i st = w at hw hstate ⊢
  have hy : Changes [.obj, .mbx] [Attr.RootSlot.tag] w (w.setNat Attr.RootSlot.tag i tag) := changes_setNat
  have htag : (w.setNat Attr.RootSlot.tag i tag).nat Attr.RootSlot.tag i = tag := State.nat_setNat
  generalize w.setNat Attr.RootSlot.tag i tag = y at hy htag ⊢
  have hz : Changes [.obj, .mbx] [Attr.RootSlot.value] y (y.setAttr Attr.RootSlot.value i (.bytes b)) := changes_setAttr
  have hvalue : (y.setAttr Attr.RootSlot.value i (.bytes b)).octets Attr.RootSlot.value i = b := State.octets_setAttr
  generalize y.setAttr Attr.RootSlot.value i (.bytes b) = z at hz hvalue ⊢
  have htail : Changes [.obj, .mbx, .recd] [Attr.SystemMode.provisionState] z (z.raise 0x1005 (objPath 0x0C01 i) [(i : Int)]).refreshProvision :=
    (changes_raise.mono (areas := [.obj, .mbx, .recd]) (ys := [Attr.SystemMode.provisionState])).step changes_refreshProvision
  have hrecd : (z.raise 0x1005 (objPath 0x0C01 i) [(i : Int)]).refreshProvision.recd = z.recd.ordinary ⟨0x1005, objPath 0x0C01 i, [(i : Int)]⟩ := State.setNat_recd
  have hkept : z.recd = s.recd := hz.recd.trans (hy.recd.trans (hw.recd.trans hv.recd))
  have hglv : z.glv = v.glv := hz.glv.trans (hy.glv.trans hw.glv)
  refine ⟨?_, ?_, ?_, ?_, ?_, ?_⟩
  · rw [htail.nat _ _, hz.nat _ _, hy.nat _ _, hstate]
  · rw [htail.octets _ _, hvalue]
  · rw [htail.nat _ _, hz.nat _ _, htag]
  · rw [htail.glv, hglv, hslot]
  · rw [hrecd, hkept]
  · have hall : Changes [.mbx, .glv, .obj, .recd] (Attr.SystemMode.provisionState :: rootAttrs) s z := ((hv.mono.step hw).step hy).step hz
    exact hall.step htail

/-- A USER slot that holds no bits takes the value (R533). -/
theorem State.programSlot_user (hlo : 16 ≤ i) (hhi : i ≤ 31) (hblown : Assoc.find i s.glv.blown = none) : s.programSlot i b = (.ok, s.writeSlot i 1 (leNat (slotTag i b)) b) := by
  unfold State.programSlot
  rw [hblown]
  refine (if_pos rfl).trans ?_
  unfold State.fillSlot
  simp only [publicSlot_user hlo hhi, ↓reduceIte]
  rfl

theorem State.destroySlot_user (hlo : 16 ≤ i) (hhi : i ≤ 31) :
    ((s.destroySlot i).raise 0x1005 (objPath 0x0C01 i) [(i : Int)]).refreshProvision = s.writeSlot i 3 (2 ^ 64 - 1) (List.replicate 32 0xFF#8) := by
  unfold State.destroySlot
  simp only [publicSlot_user hlo hhi, ↓reduceIte]
  rfl

theorem doRootProgram_user (hi : pathInst c.path = i) (hlo : 16 ≤ i) (hhi : i ≤ 31) (hlife : s.sys.lifecycle = .field) (hmode : s.sys.mode = .provision)
    (hstate : s.nat Attr.RootSlot.state i = 0) (hotp : s.flag Attr.GloveboxService.otpLocked 0 = false) (hsealed : s.flag Attr.GloveboxService.sealed 0 = false)
    (hlen : c.payload.length = 32) (hblown : Assoc.find i s.glv.blown = none) :
    doRootProgram c s = (⟨.ok, []⟩, s.writeSlot i 1 (leNat (slotTag i c.payload)) c.payload) := by
  have huser : ¬ (3 ≤ i ∧ i ≤ 6) := by omega
  unfold doRootProgram
  simp only [hi, if_neg huser, hlife, hmode, hstate, hotp, hsealed, hlen, State.programSlot_user hlo hhi hblown]
  simp [hlo, hhi]

theorem doRootProgram_written (hstate : s.nat Attr.RootSlot.state (pathInst c.path) = 1) : doRootProgram c s = (⟨.refused, []⟩, s) := if_pos (.inr (.inl hstate))

theorem doRootDestroy_user (hi : pathInst c.path = i) (hlo : 16 ≤ i) (hhi : i ≤ 31) (hmode : s.sys.mode = .provision)
    (hotp : s.flag Attr.GloveboxService.otpLocked 0 = false) (hsealed : s.flag Attr.GloveboxService.sealed 0 = false) :
    doRootDestroy c s = (⟨.ok, []⟩, s.writeSlot i 3 (2 ^ 64 - 1) (List.replicate 32 0xFF#8)) := by
  have hgo : ¬ (i < 16 ∨ s.sys.mode ≠ .provision ∨ s.flag Attr.GloveboxService.otpLocked 0 = true ∨ s.flag Attr.GloveboxService.sealed 0 = true) := by
    simp [hmode, hotp, hsealed, hlo]
  unfold doRootDestroy
  simp only [hi, if_neg hgo, State.destroySlot_user hlo hhi]

/-! ### Key rotation (R540–R542) -/

/-- The work of a request that the arbiter admits at once. -/
theorem doKeyRotate_kek (hscope : octet c.payload 0 = 2) (hlen : c.payload.length < 8) (hsealed : s.flag Attr.GloveboxService.sealed 0 = false)
    (hadm : s.fcr.admitted = []) (hdef : s.fcr.deferred = []) : ∃ a, doKeyRotate c s = (⟨.accepted, []⟩, (s.admitActivity a).rotateKek) := by
  obtain ⟨a, ha⟩ := State.requestCmd_free (c := c) (kind := 9) (unit := 0) hadm hdef
  have hshort : ¬ 8 ≤ c.payload.length := by omega
  refine ⟨a, ?_⟩
  unfold doKeyRotate
  simp [hscope, hsealed, ha, hshort, decisionStatus]

theorem doKeyRotate_beacon (hscope : octet c.payload 0 = 1) (hcell : field c.payload 4 2 = cell) (hsealed : s.flag Attr.GloveboxService.sealed 0 = false)
    (hline : s.isLine cell = true) (hadm : s.fcr.admitted = []) (hdef : s.fcr.deferred = []) :
    ∃ a, doKeyRotate c s = (⟨.accepted, []⟩, (s.admitActivity a).startBeaconKey cell) := by
  obtain ⟨a, ha⟩ := State.requestCmd_free (c := c) (kind := 9) (unit := 0) hadm hdef
  refine ⟨a, ?_⟩
  unfold doKeyRotate
  simp [hscope, hsealed, ha, hcell, hline, decisionStatus]

theorem doKeyRotate_sealed (hsealed : s.flag Attr.GloveboxService.sealed 0 = true) : doKeyRotate c s = (⟨.refused, []⟩, s) := if_pos hsealed

/-- The tags of some endpoints' blobs are shown anew. -/
theorem changes_showBlob (hh : h < 2 ^ 40) : Changes [.obj, .mbx] [Attr.EndpointKey.blobTag] s (s.showBlob h) := changes_setNat

theorem changes_showBlobs : ∀ {l : List Nat} {s : State}, (∀ h ∈ l, h < 2 ^ 40) → Changes [.obj, .mbx] [Attr.EndpointKey.blobTag] s (l.foldl State.showBlob s)
  | [], _, _ => .refl
  | h :: l, s, hlt =>
    (changes_showBlob (hlt h List.mem_cons_self)).trans (changes_showBlobs (l := l) (s := s.showBlob h) fun i hi => hlt i (List.mem_cons_of_mem _ hi))

/-- Scope 2: the next KEK generation, which the bank holds (R540). -/
theorem State.rotateKek_effect (hkeys : ∀ x ∈ s.glv.keys, x.1 / 16 ≤ maxHandle) :
    s.rotateKek.nat Attr.GloveboxService.kekGeneration 0 = (s.nat Attr.GloveboxService.kekGeneration 0 + 1) % 256 ∧
      s.rotateKek.glv = { s.glv with bank := s.glv.bank.map (fun _ => (s.nat Attr.GloveboxService.kekGeneration 0 + 1) % 256) } ∧
      Changes [.mbx, .recd, .glv, .obj] [Attr.GloveboxService.kekGeneration, Attr.EndpointKey.blobTag] s s.rotateKek := by
  unfold State.rotateKek
  extract_lets +onlyGivenNames g v x w hs
  have hv : Changes [.obj, .mbx] [Attr.GloveboxService.kekGeneration] s v := changes_setNat
  have hgen : v.nat Attr.GloveboxService.kekGeneration 0 = g := State.nat_setNat
  have hput : SameBut [.glv] v w := by simp [SameBut, w]
  have hw : Changes [.glv] [] v w := .of_same hput
  have hglv : w.glv = { v.glv with bank := v.glv.bank.map (fun _ => g) } := rfl
  have hkeysV : w.glv.keys = v.glv.keys := rfl
  have hkeysW : w.glv.keys = s.glv.keys := hkeysV.trans (congrArg Glovebox.keys hv.glv)
  have hlt : ∀ h ∈ hs, h < 2 ^ 40 := by
    intro h hm
    obtain ⟨y, hy, rfl⟩ := List.mem_map.1 (List.mem_eraseDups.1 hm)
    have hmax : y.1 / 16 ≤ 1572863 := hkeys y (hkeysW ▸ hy)
    omega
  clear_value hs w v
  have hshow : Changes [.obj, .mbx] [Attr.EndpointKey.blobTag] w (hs.foldl State.showBlob w) := changes_showBlobs hlt
  have htail : Changes [.recd] [] (hs.foldl State.showBlob w) ((hs.foldl State.showBlob w).raise 0x1006 glovePath [2, (hs.length : Int), (g : Int)]) := changes_raise
  refine ⟨?_, ?_, ?_⟩
  · rw [htail.nat _ _, hshow.nat _ _, hw.nat _ _, hgen]
  · rw [htail.glv, hshow.glv, hglv, hv.glv]
  · exact ((hv.mono.step hw).step hshow).step htail

/-- Without members there is nobody to tell. -/
theorem State.startBeaconKey_empty (hnone : s.cellHandles cell = []) :
    s.startBeaconKey cell = { s with glv := { s.glv with beaconNext := Assoc.put cell [] s.glv.beaconNext } } := by
  simp only [State.startBeaconKey, hnone, List.foldl_nil]

/-! ### Imports (R540, R541) -/

/-- The keys of a good record, under the next generation. -/
def State.keysTaken (s : State) (h su : Nat) (ks : Bytes) : State :=
  let g := (s.nat Attr.EndpointKey.generation h + 1) % 16
  let v := { s with glv := { s.glv with keys := Assoc.put (h * 16 + g) ks s.glv.keys } }
  (((v.setNat Attr.EndpointKey.pendingGeneration h g).setNat Attr.EndpointKey.suite h su).setNat Attr.EndpointKey.keyState h 1).showBlob h

theorem State.importRecord_good {e r ks : Bytes} (hh : field r 0 4 ≤ maxHandle) (hsuite : octet r 4 ≤ 3) (hend : s.endpoint (field r 0 4) = true)
    (hkeys : Config.importKeys e n r = some ks) : s.importRecord e n r = (.ok, s.keysTaken (field r 0 4) (octet r 4) ks) := by
  have hgo : ¬ (maxHandle < field r 0 4 ∨ 3 < octet r 4) := by omega
  unfold State.importRecord
  simp only [if_neg hgo, hkeys, State.ensureEndpoint, if_pos hend]
  rfl

theorem State.importRecord_bad {e r : Bytes} (hh : field r 0 4 ≤ maxHandle) (hsuite : octet r 4 ≤ 3) (hkeys : Config.importKeys e n r = none) :
    s.importRecord e n r = (.badValue, s) := by
  have hgo : ¬ (maxHandle < field r 0 4 ∨ 3 < octet r 4) := by omega
  unfold State.importRecord
  simp only [if_neg hgo, hkeys]

def keyAttrs : List (Nat × Nat) := [Attr.EndpointKey.pendingGeneration, Attr.EndpointKey.suite, Attr.EndpointKey.keyState, Attr.EndpointKey.blobTag]

theorem State.keysTaken_effect {su : Nat} {ks : Bytes} (hh : h < 2 ^ 40) (hg : (s.nat Attr.EndpointKey.generation h + 1) % 16 = g) :
    (s.keysTaken h su ks).glv = { s.glv with keys := Assoc.put (h * 16 + g) ks s.glv.keys } ∧ (s.keysTaken h su ks).nat Attr.EndpointKey.pendingGeneration h = g ∧
      (s.keysTaken h su ks).nat Attr.EndpointKey.suite h = su ∧ (s.keysTaken h su ks).nat Attr.EndpointKey.keyState h = 1 ∧
      Changes [.mbx, .glv, .obj] keyAttrs s (s.keysTaken h su ks) := by
  unfold State.keysTaken
  rw [hg]
  extract_lets +onlyGivenNames g' x v
  have hput : SameBut [.glv] s v := by simp [SameBut, v]
  have hv : Changes [.glv] [] s v := .of_same hput
  have hglv : v.glv = { s.glv with keys := Assoc.put (h * 16 + g) ks s.glv.keys } := rfl
  clear_value v
  have hw : Changes [.obj, .mbx] [Attr.EndpointKey.pendingGeneration] v (v.setNat Attr.EndpointKey.pendingGeneration h g) := changes_setNat
  have hpending : (v.setNat Attr.EndpointKey.pendingGeneration h g).nat Attr.EndpointKey.pendingGeneration h = g := State.nat_setNat
  generalize v.setNat Attr.EndpointKey.pendingGeneration h g = w at hw hpending ⊢
  have hy : Changes [.obj, .mbx] [Attr.EndpointKey.suite] w (w.setNat Attr.EndpointKey.suite h su) := changes_setNat
  have hsuite : (w.setNat Attr.EndpointKey.suite h su).nat Attr.EndpointKey.suite h = su := State.nat_setNat
  generalize w.setNat Attr.EndpointKey.suite h su = y at hy hsuite ⊢
  have hz : Changes [.obj, .mbx] [Attr.EndpointKey.keyState] y (y.setNat Attr.EndpointKey.keyState h 1) := changes_setNat
  have hstate : (y.setNat Attr.EndpointKey.keyState h 1).nat Attr.EndpointKey.keyState h = 1 := State.nat_setNat
  generalize y.setNat Attr.EndpointKey.keyState h 1 = z at hz hstate ⊢
  have hshow : Changes [.obj, .mbx] [Attr.EndpointKey.blobTag] z (z.showBlob h) := changes_showBlob hh
  refine ⟨?_, ?_, ?_, ?_, (((hv.mono.step hw).step hy).step hz).step hshow⟩
  · rw [hshow.glv, hz.glv, hy.glv, hw.glv, hglv]
  · rw [hshow.nat _ _, hz.nat _ _, hy.nat _ _, hpending]
  · rw [hshow.nat _ _, hz.nat _ _, hsuite]
  · rw [hshow.nat _ _, hstate]

/-- What follows the records of an import: its count, its event and the provision state (R541). -/
def State.importEnded (s : State) (good : Nat) : State :=
  ({ s with sys := { s.sys with keysImported := s.sys.keysImported || decide (0 < good) } }.raise 0x1006 glovePath [3, (good : Int), 0]).refreshProvision

theorem State.importEnded_effect {good : Nat} :
    (s.importEnded good).sys = { s.sys with keysImported := s.sys.keysImported || decide (0 < good) } ∧
      Changes [.mbx, .sys, .recd, .obj] [Attr.SystemMode.provisionState] s (s.importEnded good) := by
  unfold State.importEnded
  have hput : SameBut [.sys] s { s with sys := { s.sys with keysImported := s.sys.keysImported || decide (0 < good) } } := SameBut.refl.set_sys
  have hmark : Changes [.sys] [] s { s with sys := { s.sys with keysImported := s.sys.keysImported || decide (0 < good) } } := .of_same hput
  have hsys : ({ s with sys := { s.sys with keysImported := s.sys.keysImported || decide (0 < good) } } : State).sys =
      { s.sys with keysImported := s.sys.keysImported || decide (0 < good) } := rfl
  generalize ({ s with sys := { s.sys with keysImported := s.sys.keysImported || decide (0 < good) } } : State) = v at hmark hsys ⊢
  have htail : Changes [.obj, .mbx, .recd] [Attr.SystemMode.provisionState] v (v.raise 0x1006 glovePath [3, (good : Int), 0]).refreshProvision :=
    (changes_raise.mono (areas := [.obj, .mbx, .recd]) (ys := [Attr.SystemMode.provisionState])).step changes_refreshProvision
  exact ⟨htail.sys.trans hsys, hmark.mono.step htail⟩

/-- The hypotheses of an import of one record: its frame and the record's fields. -/
structure ImportsOne (s : State) (c : Cmd) : Prop where
  scope : octet c.payload 0 = 3
  unsealed : s.flag Attr.GloveboxService.sealed 0 = false
  bulk : bit c.flags flagBulk = true
  count : field c.data 4 4 = 1
  length : c.data.length = 128
  clear : s.glv.aborting = []

theorem doKeyRotate_one {r : Status × State} (hi : ImportsOne s c)
    (hr : s.importRecord (slice c.data 8 64) 0 (slice (c.data.drop 72) 0 56) = r) (hstatus : r.1 = .ok ∨ r.1 = .badValue) :
    doKeyRotate c s = (⟨.ok, [BitVec.ofNat 8 r.1.code]⟩,
      if r.1 = .ok then (r.2.post (.keys (slice c.data 8 64) 0 (slice (c.data.drop 72) 0 56))).importEnded 1 else r.2.importEnded 0) := by
  obtain ⟨hscope, hsealed, hbulk, hcount, hlen, hclear⟩ := hi
  have hstop : (s.glv.aborting.find? (fun x => x.1 == c.arrival)).map Prod.snd = none := by simp [hclear]
  have hone : s.importRecords (slice c.data 8 64) (c.data.drop 72) none 1 0 =
      ([BitVec.ofNat 8 r.1.code], if r.1 = .ok then r.2.post (.keys (slice c.data 8 64) 0 (slice (c.data.drop 72) 0 56)) else r.2) := by
    simp only [State.importRecords, Option.any_none, Bool.false_eq_true, ↓reduceIte, Nat.mul_zero, hr]
    split <;> rfl
  unfold doKeyRotate
  simp only [hscope, hsealed, hbulk, hcount, hlen, hstop, hone]
  rcases hstatus with hok | hbad
  · simp [hok, Status.code, State.importEnded]
  · simp [hbad, Status.code, State.importEnded]

/-! ### The beacon key, the TRNG and attestation (R542, R546, R547) -/

/-- A cell's next beacon key is in force. -/
def State.beaconSwitched (s : State) (cell : Nat) : State :=
  { s with glv := { s.glv with beaconGen := Assoc.put cell ((s.beaconGen cell + 1) % 2 ^ 16) s.glv.beaconGen, beaconNext := Assoc.del cell s.glv.beaconNext } }

theorem execBeaconKeySwitch_switches {l : List Nat} {ten : Bool} (hnext : Assoc.find cell s.glv.beaconNext = some l) (hdone : l = [] ∨ ten = true) :
    execBeaconKeySwitch cell ten s =
      let v := (s.beaconSwitched cell).bump 32 Attr.GloveboxService.beaconKeyUnconfirmed 0 l.length
      .next ((if l = [] then v else v.raise 0x100A glovePath [(cell : Int), (l.length : Int)]).raise 0x1006 glovePath [1, (cell : Int), (((s.beaconGen cell + 1) % 2 ^ 16 : Nat) : Int)]) := by
  have hgo : ¬ (l ≠ [] ∧ (!ten) = true) := by
    rcases hdone with h | h <;> simp [h]
  unfold execBeaconKeySwitch
  simp only [hnext, if_neg hgo]
  rfl

theorem fitBytes_length : (fitBytes n b).length = n := by
  simp only [fitBytes, List.length_take, List.length_append, List.length_replicate]
  omega

theorem State.attestBody_length : (s.attestBody b).length = 200 := by
  simp only [State.attestBody, List.length_append, leBytes_length, fitBytes_length]

theorem doAttest_signs (hlen : 36 ≤ c.payload.length) (hkey : s.attestKey ≠ 0) :
    doAttest c s =
      let v : State := { s with glv := { s.glv with attests := (s.glv.attests + 1) % 2 ^ 32 } }
      (⟨.ok, v.attestBody (c.payload.take 32) ++ fitBytes 96 (Config.ecdsaSign384 s.attestKey (v.attestBody (c.payload.take 32)))⟩, v) := by
  unfold doAttest
  rw [if_neg (by omega), if_neg hkey]
  rfl

theorem doAttest_keyless (hlen : 36 ≤ c.payload.length) (hkey : s.attestKey = 0) : doAttest c s = (⟨.refused, []⟩, s) := by
  unfold doAttest
  rw [if_neg (by omega), if_pos hkey]

/-! ### Credentials (R558) -/

theorem State.addCredential_effect {role : Nat} {cert : Bytes} :
    (s.addCredential role cert).1 = s.newCredential ∧ (s.addCredential role cert).2.alive 0x0C20 s.newCredential = true ∧
      (s.addCredential role cert).2.nat Attr.RoleCredential.role s.newCredential = role ∧
      (s.addCredential role cert).2.octets Attr.RoleCredential.certDigest s.newCredential = Config.sha256 cert ∧
      SameBut [.mbx, .obj] s (s.addCredential role cert).2 ∧ (∀ x : State, Poised x s → Poised x (s.addCredential role cert).2) := by
  unfold State.addCredential
  dsimp only
  generalize s.newCredential = k
  have hcreated : SameBut [.obj] s (s.create 0x0C20 k) := sameBut_create
  have halive : (s.create 0x0C20 k).alive 0x0C20 k = true := State.alive_create
  have hpoised : ∀ x : State, Poised x s → Poised x (s.create 0x0C20 k) := fun x hx => hx.create
  generalize s.create 0x0C20 k = v at hcreated halive hpoised ⊢
  have hrole : (v.setNat Attr.RoleCredential.role k role).nat Attr.RoleCredential.role k = role := State.nat_setNat
  refine ⟨rfl, ?_, ?_, ?_, ?_, fun x hx => ?_⟩
  · have hlive : ∀ {w : State} {y : Nat × Nat} {j : Nat} {x : Val}, (w.setAttr y j x).alive 0x0C20 k = w.alive 0x0C20 k := State.alive_congr State.setAttr_live
    exact hlive.trans (hlive.trans (hlive.trans (hlive.trans halive)))
  · rw [State.refreshProvision, State.nat_setNat_ne, State.nat_setAttr_ne (mkPath_ne_of_attr (by decide)), State.nat_setAttr_ne (mkPath_ne_of_attr (by decide)), hrole]
    unfold mkPath
    dsimp only
    omega
  · have hkept : ∀ w : State, w.refreshProvision.attr Attr.RoleCredential.certDigest k = w.attr Attr.RoleCredential.certDigest k := by
      intro w
      refine State.attr_setAttr_ne ?_
      unfold mkPath
      dsimp only
      omega
    rw [State.octets, hkept]
    exact State.octets_setAttr
  · exact (((((hcreated.mono (by decide)).step sameBut_setNat).step sameBut_setAttr).step sameBut_setAttr).step sameBut_refreshProvision)
  · exact Poised.setNat (Poised.setAttr (Poised.setAttr (Poised.setNat (hpoised x hx))))

theorem roleOfByte_isSome (h : n ≤ 7) : (roleOfByte n).isNone = false := by
  interval_cases n <;> rfl

theorem doCredentialAdd_good (hrole : octet c.payload 0 ≤ 7) (hslot : s.slotGood 6 = true)
    (hcert : Config.certChains (s.octets Attr.RootSlot.value 6) (c.payload.drop 4) = true) :
    doCredentialAdd c s = (⟨.ok, leBytes 4 s.newCredential⟩, (s.addCredential (octet c.payload 0) (c.payload.drop 4)).2) := by
  refine if_neg ?_
  simp [roleOfByte_isSome hrole, hslot, hcert]

theorem doCredentialAdd_bad (hcert : ¬ Config.certChains (s.octets Attr.RootSlot.value 6) (c.payload.drop 4) = true) : doCredentialAdd c s = (⟨.badValue, []⟩, s) :=
  if_pos (.inr (.inl (by simpa using hcert)))

/-! ### The obligation -/

/-- An answer leaves the attributes, the objects and the glovebox. -/
theorem SlotSet.finished {st tag : Nat} (hset : SlotSet s.pop v i st tag b) {r : Reply} :
    (v.finish c r).nat Attr.RootSlot.state i = st ∧ (v.finish c r).nat Attr.RootSlot.tag i = tag ∧ (v.finish c r).octets Attr.RootSlot.value i = b ∧
      Assoc.find i (v.finish c r).glv.slots = some b ∧ (v.finish c r).recd = s.recd.ordinary ⟨0x1005, objPath 0x0C01 i, [(i : Int)]⟩ ∧
      SameBut [.mbx, .glv, .obj, .recd] s (v.finish c r) := by
  refine ⟨(State.nat_congr State.finish_obj _ _).trans hset.state, (State.nat_congr State.finish_obj _ _).trans hset.tag, (State.octets_congr State.finish_obj _ _).trans hset.value,
    ?_, ?_, hset.changes.finished⟩
  · rw [State.finish_glv]
    exact hset.slot
  · rw [State.finish_recd]
    exact hset.recd

/-- Settles O31: slots, rotations, imports and credentials by what their bodies write, the TRNG fault by its report. -/
theorem keysAndCredentials : Obligations.KeysAndCredentials := by
  refine ⟨?program, ?written, ?destroy, ?kek, ?beacon, ?imports, ?sealed, ?switch, ?trng, ?attest, ?add, ?remove⟩
  case program =>
    intro s c n i hs ho hcls hattr hi hlo hhi hlife hmode hstate hotp hsealed hlen hblown
    have hset := State.writeSlot_effect (s := s.pop) (i := i) (st := 1) (tag := leNat (slotTag i c.payload)) (b := c.payload) (by omega)
    obtain ⟨t, hrun, rfl, hans⟩ := hs.method_completes ho hcls hattr (doRootProgram_user (s := s.pop) hi hlo hhi hlife hmode hstate hotp hsealed hlen hblown)
      (hset.changes.poised s ⟨rfl, rfl, rfl⟩) (Nat.zero_le _)
    obtain ⟨hst, htag, hval, hslot, hrecd, hsame⟩ := hset.finished (c := c) (r := ⟨.ok, []⟩)
    exact ⟨_, hrun, hans, hst, hval, htag, hslot, hrecd, hsame⟩
  case written =>
    intro s c n hs ho hcls hattr hstate
    exact hs.method_unchanged ho hcls hattr (doRootProgram_written (s := s.pop) hstate) (Nat.zero_le _)
  case destroy =>
    intro s c n i hs ho hcls hattr hi hlo hhi hmode hotp hsealed
    have hset := State.writeSlot_effect (s := s.pop) (i := i) (st := 3) (tag := 2 ^ 64 - 1) (b := List.replicate 32 0xFF#8) (by omega)
    obtain ⟨t, hrun, rfl, hans⟩ := hs.method_completes ho hcls hattr (doRootDestroy_user (s := s.pop) hi hlo hhi hmode hotp hsealed)
      (hset.changes.poised s ⟨rfl, rfl, rfl⟩) (Nat.zero_le _)
    obtain ⟨hst, htag, hval, -, hrecd, hsame⟩ := hset.finished (c := c) (r := ⟨.ok, []⟩)
    exact ⟨_, hrun, hans, hst, htag, hval, hrecd, hsame⟩
  case kek =>
    intro s c n hs ho hscope hlen hsealed hadm hdef hkeys
    obtain ⟨a, hbody⟩ := doKeyRotate_kek (s := s.pop) hscope hlen hsealed hadm hdef
    have hadmit : SameBut [.fcr, .recd] s.pop (s.pop.admitActivity a) := (SameBut.refl.set_fcr).step sameBut_activityEvent
    have hfirst : Changes [.fcr, .recd] [] s.pop (s.pop.admitActivity a) := .of_same hadmit
    obtain ⟨hgen, hglv, hchange⟩ := State.rotateKek_effect (s := s.pop.admitActivity a) (by rw [hfirst.glv]; exact hkeys)
    rw [hfirst.nat Attr.GloveboxService.kekGeneration 0] at hgen hglv
    rw [hfirst.glv] at hglv
    have hall : Changes [.mbx, .fcr, .recd, .glv, .obj] [Attr.GloveboxService.kekGeneration, Attr.EndpointKey.blobTag] s.pop (s.pop.admitActivity a).rotateKek :=
      hfirst.mono.step hchange
    obtain ⟨t, hrun, rfl, hans⟩ := hs.completes ho hbody (hall.poised s ⟨rfl, rfl, rfl⟩) (Nat.zero_le _)
    refine ⟨_, hrun, hans, (State.nat_congr State.finish_obj _ _).trans hgen, ?_, hall.finished⟩
    rw [State.finish_glv]
    exact hglv
  case beacon =>
    intro s c n cell hs ho hscope hcell hsealed hline hnone hadm hdef
    obtain ⟨a, hbody⟩ := doKeyRotate_beacon (s := s.pop) hscope hcell hsealed hline hadm hdef
    have hadmit : SameBut [.fcr, .recd] s.pop (s.pop.admitActivity a) := (SameBut.refl.set_fcr).step sameBut_activityEvent
    have hhandles : (s.pop.admitActivity a).cellHandles cell = [] := hnone
    have hglv : (s.pop.admitActivity a).glv = s.glv := hadmit.area .glv
    have hmbx : (s.pop.admitActivity a).mbx = s.pop.mbx := hadmit.area .mbx
    rw [State.startBeaconKey_empty hhandles] at hbody
    generalize s.pop.admitActivity a = v at hadmit hglv hmbx hbody
    have hpoised : Poised s { v with glv := { v.glv with beaconNext := Assoc.put cell [] v.glv.beaconNext } } := poised_pop.of_mbx hmbx
    obtain ⟨t, hrun, rfl, hans⟩ := hs.completes ho hbody hpoised (Nat.zero_le _)
    have hall : SameBut [.mbx, .fcr, .recd, .glv] s v := (sameBut_pop.mono (by decide)).step hadmit
    refine ⟨_, hrun, hans, ?_, (hall.set_glv).step sameBut_finish⟩
    rw [State.finish_glv, hglv]
  case imports =>
    intro s c n h g hs ho hscope hsealed hbulk hcount hlen hh hmax hsuite hend hg
    have hone : ImportsOne s.pop c := ⟨hscope, hsealed, hbulk, hcount, hlen, hs.aborting⟩
    have hlt : h < 2 ^ 40 := by
      have hmax : h ≤ 1572863 := hmax
      omega
    subst hh
    cases hkeys : Config.importKeys (slice c.data 8 64) 0 (slice (c.data.drop 72) 0 56) with
    | some ks =>
      have hbody := doKeyRotate_one hone (State.importRecord_good (s := s.pop) hmax hsuite hend hkeys) (.inl rfl)
      obtain ⟨hglv, hpending, hsu, hstate, hchange⟩ := State.keysTaken_effect (s := s.pop) (su := octet (slice (c.data.drop 72) 0 56) 4) (ks := ks) hlt hg
      rw [if_pos rfl] at hbody
      generalize s.pop.keysTaken (field (slice (c.data.drop 72) 0 56) 0 4) (octet (slice (c.data.drop 72) 0 56) 4) ks = v at hglv hpending hsu hstate hchange hbody
      have hpost : Changes [.sto, .twn] [] v (v.post (.keys (slice c.data 8 64) 0 (slice (c.data.drop 72) 0 56))) := changes_post
      generalize v.post (.keys (slice c.data 8 64) 0 (slice (c.data.drop 72) 0 56)) = w at hpost hbody
      obtain ⟨hsys, hended⟩ := State.importEnded_effect (s := w) (good := 1)
      have hsysW : w.sys = s.sys := hpost.sys.trans hchange.sys
      have hall : Changes [.mbx, .sys, .recd, .glv, .obj, .sto, .twn] (Attr.SystemMode.provisionState :: keyAttrs) s.pop (w.importEnded 1) :=
        (hchange.mono.step hpost).step hended
      obtain ⟨t, hrun, rfl, hans⟩ := hs.completes ho hbody (hall.poised s ⟨rfl, rfl, rfl⟩) (Nat.le_of_ble_eq_true rfl)
      have hnat : ∀ y ∈ keyAttrs, ((w.importEnded 1).finish c ⟨.ok, [BitVec.ofNat 8 Status.ok.code]⟩).nat y (field (slice (c.data.drop 72) 0 56) 0 4) =
          v.nat y (field (slice (c.data.drop 72) 0 56) 0 4) := by
        intro y hy
        have hfree : y ∉ [Attr.SystemMode.provisionState] ∧ y.2 < 256 := (by decide : ∀ y ∈ keyAttrs, y ∉ [Attr.SystemMode.provisionState] ∧ y.2 < 256) y hy
        rw [State.nat_congr State.finish_obj, hended.nat _ _ hfree hlt, hpost.nat _ _ ⟨List.not_mem_nil, hfree.2⟩ hlt]
      refine ⟨_, hrun, hans, ?_, (hnat _ (by decide)).trans hpending, (hnat _ (by decide)).trans hsu, (hnat _ (by decide)).trans hstate, ?_, hall.finished⟩
      · rw [State.finish_glv, hended.glv, hpost.glv, hglv]
        rfl
      · rw [State.finish_sys, hsys, hsysW]
        simp
    | none =>
      have hbody := doKeyRotate_one hone (State.importRecord_bad (s := s.pop) hmax hsuite hkeys) (.inr rfl)
      rw [if_neg (by decide : ¬ Status.badValue = Status.ok)] at hbody
      obtain ⟨hsys, hended⟩ := State.importEnded_effect (s := s.pop) (good := 0)
      have hsysV : (s.pop.importEnded 0).sys = s.pop.sys := by
        rw [hsys]
        simp
      obtain ⟨t, hrun, rfl, hans⟩ := hs.completes ho hbody (hended.poised s ⟨rfl, rfl, rfl⟩) (Nat.le_of_ble_eq_true rfl)
      exact ⟨_, hrun, hans, (sameBut_pop.mono (by decide)).trans ((hended.same.drop (a := .sys) (areas := [.mbx, .recd, .obj]) hsysV).step sameBut_finish)⟩
  case sealed =>
    intro s c n hs ho hsealed
    exact hs.completes_unchanged (b := doKeyRotate) ho (doKeyRotate_sealed (s := s.pop) hsealed) (Nat.zero_le _)
  case switch =>
    intro s cell l ten hnext hdone
    have hrun := execBeaconKeySwitch_switches hnext hdone
    dsimp only at hrun
    have hput : SameBut [.glv] s (s.beaconSwitched cell) := by simp [SameBut, State.beaconSwitched]
    have hmark : Changes [.glv] [] s (s.beaconSwitched cell) := .of_same hput
    have hgen : (s.beaconSwitched cell).beaconGen cell = (s.beaconGen cell + 1) % 2 ^ 16 := congrArg (·.getD 0) Assoc.find_put_same
    generalize s.beaconSwitched cell = v at hrun hmark hgen
    have hbump : Changes [.obj, .mbx] [Attr.GloveboxService.beaconKeyUnconfirmed] v (v.bump 32 Attr.GloveboxService.beaconKeyUnconfirmed 0 l.length) := changes_bump
    have hcount : (v.bump 32 Attr.GloveboxService.beaconKeyUnconfirmed 0 l.length).nat Attr.GloveboxService.beaconKeyUnconfirmed 0 =
        (v.nat Attr.GloveboxService.beaconKeyUnconfirmed 0 + l.length) % 2 ^ 32 := State.nat_setNat
    rw [hmark.nat Attr.GloveboxService.beaconKeyUnconfirmed 0] at hcount
    generalize v.bump 32 Attr.GloveboxService.beaconKeyUnconfirmed 0 l.length = w at hrun hbump hcount
    have hrecd : w.recd = s.recd := hbump.recd.trans hmark.recd
    have htold : Changes [.recd] [] w (if l = [] then w else w.raise 0x100A glovePath [(cell : Int), (l.length : Int)]) := .ite .refl changes_raise
    have hevent : (if l = [] then w else w.raise 0x100A glovePath [(cell : Int), (l.length : Int)]).recd =
        if l = [] then w.recd else w.recd.ordinary ⟨0x100A, glovePath, [(cell : Int), (l.length : Int)]⟩ := apply_ite State.recd _ _ _
    generalize (if l = [] then w else w.raise 0x100A glovePath [(cell : Int), (l.length : Int)]) = z at hrun htold hevent
    have hlast : Changes [.recd] [] z (z.raise 0x1006 glovePath [1, (cell : Int), (((s.beaconGen cell + 1) % 2 ^ 16 : Nat) : Int)]) := changes_raise
    have hglv := hlast.glv.trans (htold.glv.trans hbump.glv)
    refine ⟨_, hrun, ?_, ?_, ?_, ?_⟩
    · refine Eq.trans ?_ hgen
      exact congrArg (fun g : Glovebox => (Assoc.find cell g.beaconGen).getD 0) hglv
    · rw [hlast.nat _ _, htold.nat _ _, hcount]
    · rw [hrecd] at hevent
      exact congrArg (fun r : Recorder => r.ordinary ⟨0x1006, glovePath, [1, (cell : Int), (((s.beaconGen cell + 1) % 2 ^ 16 : Nat) : Int)]⟩) hevent
    · exact (((hmark.mono (areas := [.glv, .obj, .mbx, .recd]) (ys := [Attr.GloveboxService.beaconKeyUnconfirmed]) |>.step hbump).step htold).step hlast).same
  case trng =>
    intro s k hgood hreact hinj
    let v : State := { s with glv := { s.glv with trngFault := true } }.raise 0x100B glovePath [(k : Int)]
    have hput : SameBut [.glv] s { s with glv := { s.glv with trngFault := true } } := SameBut.refl.set_glv
    have hsource : source 256 = some ⟨256, 1, 1, false⟩ := by decide
    have hreaction : v.reactionOf ⟨256, 1, 1, false⟩ = 1 := hreact
    have hrun : exec (.trngFault k) s = .next ((v.latchReport ⟨256, 1, 1, false⟩ ⟨256, 0, none, false, false⟩ 1).react ⟨256, 1, 1, false⟩ 0 1) := by
      refine (if_neg (by simp [hgood])).trans (congrArg Host.Outcome.next ?_)
      refine (State.collect_one (s := v) (f := ⟨256, 0, none, false, false⟩) hsource hinj rfl rfl).trans ?_
      rw [hreaction]
    obtain ⟨hlatched, hirqs, hrecd, hsame⟩ := State.reactInterrupt_effect (s := v) (x := ⟨256, 1, 1, false⟩) (f := ⟨256, 0, none, false, false⟩) (u := 0) rfl
      (by decide) (by decide)
    have hglv : ((v.latchReport ⟨256, 1, 1, false⟩ ⟨256, 0, none, false, false⟩ 1).react ⟨256, 1, 1, false⟩ 0 1).glv = v.glv := hsame.area .glv
    exact ⟨_, hrun, hglv, hlatched, hirqs, hrecd, ((hput.mono (by decide)).step sameBut_raise).trans (hsame.mono (by decide))⟩
  case attest =>
    intro s c n hs ho hlen
    by_cases hkey : s.attestKey = 0
    · obtain ⟨t, hrun, hans⟩ := hs.completes_unchanged (b := doAttest) ho (doAttest_keyless (s := s.pop) hlen hkey) (Nat.zero_le _)
      exact ⟨t, hrun, (if_pos hkey).mpr hans⟩
    · have hbody := doAttest_signs (s := s.pop) hlen hkey
      obtain ⟨t, hrun, rfl, hans⟩ := hs.completes ho hbody ⟨rfl, rfl, rfl⟩ (by
        simp only [List.length_append, State.attestBody_length, fitBytes_length]
        decide)
      refine ⟨_, hrun, (if_neg hkey).mpr ⟨hans, ?_, ((sameBut_pop.mono (by decide)).set_glv).step sameBut_finish⟩⟩
      rw [State.finish_glv]
      rfl
  case add =>
    intro s c n hs ho hcls hattr hrole hslot
    by_cases hcert : Config.certChains (s.octets Attr.RootSlot.value 6) (c.payload.drop 4) = true
    · obtain ⟨-, halive, hr, hdigest, hsame, hpoised⟩ := State.addCredential_effect (s := s.pop) (role := octet c.payload 0) (cert := c.payload.drop 4)
      obtain ⟨t, hrun, rfl, hans⟩ := hs.method_completes ho hcls hattr (doCredentialAdd_good (s := s.pop) hrole hslot hcert) (hpoised s ⟨rfl, rfl, rfl⟩)
        (leBytes_length.trans_le (by decide))
      exact ⟨_, hrun, (if_pos hcert).mpr ⟨hans, (State.alive_congr (congrArg Obj.live State.finish_obj)).trans halive, (State.nat_congr State.finish_obj _ _).trans hr,
        (State.octets_congr State.finish_obj _ _).trans hdigest, (sameBut_pop.mono (by decide)).trans (hsame.step sameBut_finish)⟩⟩
    · obtain ⟨t, hrun, hans⟩ := hs.method_unchanged ho hcls hattr (doCredentialAdd_bad (s := s.pop) hcert) (Nat.zero_le _)
      exact ⟨t, hrun, (if_neg hcert).mpr hans⟩
  case remove =>
    intro s c n hs _ ho hcls hattr
    by_cases halive : s.alive 0x0C20 (field c.payload 0 4) = true
    · have hbody : doCredentialRemove c s.pop = (⟨.ok, []⟩, (s.pop.destroy 0x0C20 (field c.payload 0 4)).refreshProvision) := if_pos halive
      have hgone : (s.pop.destroy 0x0C20 (field c.payload 0 4)).alive 0x0C20 (field c.payload 0 4) = false := State.alive_destroy
      have hdestroyed : SameBut [.obj] s.pop (s.pop.destroy 0x0C20 (field c.payload 0 4)) := sameBut_destroy
      have hpoised : Poised s (s.pop.destroy 0x0C20 (field c.payload 0 4)) := ⟨rfl, rfl, rfl⟩
      generalize s.pop.destroy 0x0C20 (field c.payload 0 4) = v at hbody hgone hdestroyed hpoised
      obtain ⟨t, hrun, rfl, hans⟩ := hs.method_completes ho hcls hattr hbody (Poised.setNat hpoised) (Nat.zero_le _)
      have hsame : SameBut [.mbx, .obj] s.pop v.refreshProvision := (hdestroyed.mono (by decide)).step sameBut_refreshProvision
      exact ⟨_, hrun, (if_pos halive).mpr ⟨hans, (State.alive_congr ((congrArg Obj.live State.finish_obj).trans State.setAttr_live)).trans hgone,
        (sameBut_pop.mono (by decide)).trans (hsame.step sameBut_finish)⟩⟩
    · obtain ⟨t, hrun, hans⟩ := hs.method_unchanged (b := doCredentialRemove) (r := ⟨.notFound, []⟩) ho hcls hattr (if_neg halive) (Nat.zero_le _)
      exact ⟨t, hrun, (if_neg halive).mpr hans⟩

end Sys2Proof.Machine
end

section
/-! Metrology, conditions and head records (R476, R477, R479, R481, R483, R486, R487). -/

namespace Sys2Proof.Machine

variable {s t u v : State} {a b e f g h i k n rms : Nat}

/-! ### What MEA keeps -/

theorem State.chan_setChan {x : MeaChannel} : (s.setChan k x).chan k = x := by
  simp only [State.chan, State.setChan, Assoc.find_put_same, Option.getD_some]

theorem State.meaBus_setMeaBus {x : MeaBus} : (s.setMeaBus b x).meaBus b = x := by
  simp only [State.meaBus, State.setMeaBus, Assoc.find_put_same, Option.getD_some]

theorem State.feeder_setFeeder {x : MeaFeeder} : (s.setFeeder f x).feeder f = x := by
  simp only [State.feeder, State.setFeeder, Assoc.find_put_same, Option.getD_some]

theorem State.chan_congr (hmea : t.mea = s.mea) : t.chan k = s.chan k := by simp only [State.chan, hmea]

theorem State.meaBus_congr (hbuses : t.mea.buses = s.mea.buses) : t.meaBus b = s.meaBus b := by simp only [State.meaBus, hbuses]

theorem State.feeder_congr (hmea : t.mea = s.mea) : t.feeder f = s.feeder f := by simp only [State.feeder, hmea]

theorem changes_setFeeder {x : MeaFeeder} : Changes [.mea] [] s (s.setFeeder f x) := .of_same (by simp [SameBut, State.setFeeder])

theorem changes_setChan {x : MeaChannel} : Changes [.mea] [] s (s.setChan k x) := .of_same sameBut_setChan

theorem changes_setMeaBus {x : MeaBus} : Changes [.mea] [] s (s.setMeaBus b x) := .of_same (by simp [SameBut, State.setMeaBus])

/-! ### A cycle (R476, R477) -/

/-- A cycle of a feeder sets its P and Q, and books its energy. -/
theorem State.bookCycle_effect (hf : f < 16) (hswitch : s.mea.switching = []) :
    (s.bookCycle f b e a).int Attr.MeasurementFeeder.pW f = Frac.nearest (s.feederPower f b (a - e) (s.instants (busL1 b) e a)).1 ∧
      (s.bookCycle f b e a).int Attr.MeasurementFeeder.qVar f = Frac.nearest (s.feederPower f b (a - e) (s.instants (busL1 b) e a)).2 ∧
      (s.bookCycle f b e a).mea.chans = s.mea.chans ∧ (s.bookCycle f b e a).mea.buses = s.mea.buses ∧
      Changes [.mea, .obj, .mbx] [Attr.MeasurementFeeder.pW, Attr.MeasurementFeeder.qVar] s (s.bookCycle f b e a) := by
  have hheld : ¬ ((!s.mea.switching.isEmpty) = true) := by simp [hswitch]
  unfold State.bookCycle
  extract_lets +onlyGivenNames ts x held pq i n here time part x' x''
  have hpq : pq = s.feederPower f b (a - e) (s.instants (busL1 b) e a) := if_neg hheld
  rw [← hpq]
  clear_value pq x''
  have hv : Changes [.mea] [] s (s.setFeeder f x'') := changes_setFeeder
  have hchans : (s.setFeeder f x'').mea.chans = s.mea.chans := rfl
  have hbuses : (s.setFeeder f x'').mea.buses = s.mea.buses := rfl
  generalize s.setFeeder f x'' = v at hv hchans hbuses ⊢
  have hw : Changes [.obj, .mbx] [Attr.MeasurementFeeder.pW] v (v.setInt Attr.MeasurementFeeder.pW f (Frac.nearest pq.1)) := changes_setInt
  have hp : (v.setInt Attr.MeasurementFeeder.pW f (Frac.nearest pq.1)).int Attr.MeasurementFeeder.pW f = Frac.nearest pq.1 := State.int_setInt
  generalize v.setInt Attr.MeasurementFeeder.pW f (Frac.nearest pq.1) = w at hw hp ⊢
  have hz : Changes [.obj, .mbx] [Attr.MeasurementFeeder.qVar] w (w.setInt Attr.MeasurementFeeder.qVar f (Frac.nearest pq.2)) := changes_setInt
  have hmea : (w.setInt Attr.MeasurementFeeder.qVar f (Frac.nearest pq.2)).mea = v.mea := hz.mea.trans hw.mea
  exact ⟨(hz.int _ _).trans hp, State.int_setInt, (congrArg Measure.chans hmea).trans hchans, (congrArg Measure.buses hmea).trans hbuses, (hv.mono.step hw).step hz⟩

/-- The one feeder of a busbar. -/
theorem State.feeders_one (hf : f < 16) (hone : ∀ g < 16, s.nat Attr.MeasurementFeeder.busbar g = b ↔ g = f) :
    (List.range 16).filter (fun g => s.nat Attr.MeasurementFeeder.busbar g == b) = [f] := by
  have hsame : (List.range 16).filter (fun g => s.nat Attr.MeasurementFeeder.busbar g == b) = (List.range 16).filter (fun g => g == f) := by
    refine List.filter_congr fun g hg => ?_
    rw [Bool.eq_iff_iff, beq_iff_eq, beq_iff_eq]
    exact hone g (List.mem_range.1 hg)
  rw [hsame]
  exact (by decide : ∀ f < 16, (List.range 16).filter (fun g => g == f) = [f]) f hf

theorem execMetrologyCycle_one (hb : b < 4) (hopen : s.cutOff 14 0 = false) (hwired : s.flag Attr.MeasurementService.inputsWired 0 = true) (hcycle : s.cycleOf b = some (e, a))
    (hlt : e < a) (hf : f < 16) (hone : ∀ g < 16, s.nat Attr.MeasurementFeeder.busbar g = b ↔ g = f) :
    execMetrologyCycle b s = .next (((s.bookCycle f b e a).setMeaBus b { (s.bookCycle f b e a).meaBus b with cycleEnd := a, period := a - e }).setNat
      Attr.MeasurementBusbar.frequencyMhz b (65536000000000000 / (a - e))) := by
  have hgo : ¬ (4 ≤ b ∨ s.cutOff 14 0 = true ∨ (!s.flag Attr.MeasurementService.inputsWired 0) = true) := by simp [hb, hopen, hwired]
  unfold execMetrologyCycle
  simp only [if_neg hgo, hcycle, State.feeders_one hf hone, List.foldl_cons, List.foldl_nil, if_neg (Nat.not_le.2 hlt)]

/-! ### A half-cycle (R483) -/

theorem State.halfCycle_idle (hoff : s.flag Attr.MeasurementChannel.enabled k = false) : s.halfCycle k b a e = s := if_pos (.inl (by simp [hoff]))

/-- A condition that has just started (R483). -/
def Condition.begun (rms : Nat) : Condition := { active := true, run := 0, ends := 0, extreme := rms, duration := 1, first := rms, held := rms }

theorem Condition.step_starts {stop least : Bool} : ({} : Condition).step true stop least rms 1 = (Condition.begun rms, true, none) := rfl

theorem Condition.step_rests {stop least : Bool} : ({} : Condition).step false stop least rms n = ({}, false, none) := rfl

theorem State.condition_starts {code : Nat} {stop least : Bool} :
    s.condition k code {} true stop least rms 1 = (Condition.begun rms, s.raise code (objPath 0x0A01 k) [(k : Int), (chanOwner k : Nat), 0, (rms : Int), 0]) := by
  simp only [State.condition, Condition.step_starts]
  rfl

theorem State.condition_rests {code : Nat} {stop least : Bool} : s.condition k code {} false stop least rms n = ({}, s) := by
  simp only [State.condition, Condition.step_rests]
  rfl

/-- A voltage below the sag level starts a sag at once where one half-cycle is enough (R483). -/
theorem State.testVoltage_sag (hsag : (s.chan k).sag = {}) (hswell : (s.chan k).swell = {}) (honce : s.nat Attr.MeasurementBusbar.persist b = 1)
    (hlow : rms * 1000 < s.nat Attr.MeasurementBusbar.sagLevel b * s.nominal b) (hhigh : rms * 1000 ≤ s.nat Attr.MeasurementBusbar.swellLevel b * s.nominal b) :
    s.testVoltage k b rms =
      (s.raise 0x0E01 (objPath 0x0A01 k) [(k : Int), (chanOwner k : Nat), 0, (rms : Int), 0]).setChan k { s.chan k with sag := Condition.begun rms, swell := {} } := by
  unfold State.testVoltage
  simp only [hsag, hswell, honce, decide_eq_true hlow, decide_eq_false (Nat.not_lt.2 hhigh), State.condition_starts, State.condition_rests]
  rfl

/-- The half-cycle's samples of a channel (R474, R483). -/
def State.halfSamples (s : State) (k a e : Nat) : List (Nat × Int) :=
  (s.chan k).samples.filter (fun p => decide (a ≤ s.channelInstant k p.1) && decide (s.channelInstant k p.1 < e))

/-- The hypotheses of a first sag of a voltage channel. -/
structure SagStarts (s : State) (k b a e rms : Nat) : Prop where
  enabled : s.flag Attr.MeasurementChannel.enabled k = true
  samples : s.halfSamples k a e ≠ []
  value : s.rmsOf k (((s.halfSamples k a e).map (fun p => p.2.natAbs * p.2.natAbs)).sum) (s.halfSamples k a e).length = rms
  still : s.mea.switching = []
  settled : s.flag Attr.MeasurementChannel.settling k = false
  sag : (s.chan k).sag = {}
  swell : (s.chan k).swell = {}
  once : s.nat Attr.MeasurementBusbar.persist b = 1
  low : rms * 1000 < s.nat Attr.MeasurementBusbar.sagLevel b * s.nominal b
  high : rms * 1000 ≤ s.nat Attr.MeasurementBusbar.swellLevel b * s.nominal b

/-- A half-cycle in which a sag starts. -/
def State.sagStarted (s : State) (k rms : Nat) : State :=
  ((s.setNat Attr.MeasurementChannel.rmsHalf k rms).raise 0x0E01 (objPath 0x0A01 k) [(k : Int), (chanOwner k : Nat), 0, (rms : Int), 0]).setChan k
    { s.chan k with sag := Condition.begun rms, swell := {} }

theorem State.halfCycle_sag (hstart : SagStarts s k b a e rms) (hk : 64 ≤ k) (hlt : k < 76) (hb : b < 4) : s.halfCycle k b a e = s.sagStarted k rms := by
  have hgo : ¬ ((!s.flag Attr.MeasurementChannel.enabled k) = true ∨ (s.halfSamples k a e).isEmpty = true) := by
    simp [hstart.enabled, List.isEmpty_iff, hstart.samples]
  have hset : Changes [.obj, .mbx] [Attr.MeasurementChannel.rmsHalf] s (s.setNat Attr.MeasurementChannel.rmsHalf k rms) := changes_setNat
  have hmea : (s.setNat Attr.MeasurementChannel.rmsHalf k rms).mea = s.mea := hset.mea
  have hchan : (s.setNat Attr.MeasurementChannel.rmsHalf k rms).chan k = s.chan k := State.chan_congr hmea
  have hrun : ¬ ((!(s.setNat Attr.MeasurementChannel.rmsHalf k rms).mea.switching.isEmpty) = true ∨
      (s.setNat Attr.MeasurementChannel.rmsHalf k rms).flag Attr.MeasurementChannel.settling k = true) := by
    rw [hmea, hset.flag _ _, hstart.still, hstart.settled]
    decide
  have hnominal : (s.setNat Attr.MeasurementChannel.rmsHalf k rms).nominal b = s.nominal b := hset.nat _ _
  have htest : (s.setNat Attr.MeasurementChannel.rmsHalf k rms).testVoltage k b rms = s.sagStarted k rms := by
    unfold State.sagStarted
    rw [← hchan]
    refine State.testVoltage_sag (hchan ▸ hstart.sag) (hchan ▸ hstart.swell) ((hset.nat _ _).trans hstart.once) ?_ ?_
    · rw [hnominal, hset.nat _ _]
      exact hstart.low
    · rw [hnominal, hset.nat _ _]
      exact hstart.high
  unfold State.halfCycle
  extract_lets +onlyGivenNames xs rms' v
  have hxs : xs = s.halfSamples k a e := rfl
  have hrms : rms' = rms := hstart.value
  have hv : v = s.setNat Attr.MeasurementChannel.rmsHalf k rms := congrArg (s.setNat Attr.MeasurementChannel.rmsHalf k) hrms
  rw [hxs, if_neg hgo, hv, hrms, if_neg hrun, if_pos hk, htest]

theorem State.sagStarted_effect (hlt : k < 76) :
    (s.sagStarted k rms).nat Attr.MeasurementChannel.rmsHalf k = rms ∧ ((s.sagStarted k rms).chan k).sag = Condition.begun rms ∧
      (s.sagStarted k rms).recd = s.recd.ordinary ⟨0x0E01, objPath 0x0A01 k, [(k : Int), (chanOwner k : Nat), 0, (rms : Int), 0]⟩ ∧
      (s.sagStarted k rms).mea.buses = s.mea.buses ∧ Changes [.mea, .obj, .mbx, .recd] [Attr.MeasurementChannel.rmsHalf] s (s.sagStarted k rms) := by
  have hset : Changes [.obj, .mbx] [Attr.MeasurementChannel.rmsHalf] s (s.setNat Attr.MeasurementChannel.rmsHalf k rms) := changes_setNat
  have hrms : (s.setNat Attr.MeasurementChannel.rmsHalf k rms).nat Attr.MeasurementChannel.rmsHalf k = rms := State.nat_setNat
  have hbuses : (s.setNat Attr.MeasurementChannel.rmsHalf k rms).mea.buses = s.mea.buses := congrArg Measure.buses hset.mea
  have hrecd : (s.setNat Attr.MeasurementChannel.rmsHalf k rms).recd = s.recd := hset.recd
  unfold State.sagStarted
  generalize s.setNat Attr.MeasurementChannel.rmsHalf k rms = v at hset hrms hbuses hrecd ⊢
  refine ⟨hrms, congrArg MeaChannel.sag State.chan_setChan, ?_, hbuses, ((hset.mono (areas := [.mea, .obj, .mbx, .recd])).step changes_raise).step changes_setChan⟩
  rw [← hrecd]
  rfl

theorem chanOwner_busL1 : chanOwner (busL1 b) = b := by
  unfold chanOwner busL1
  rw [if_neg (by omega)]
  omega

theorem State.chanBus_busL1 : s.chanBus (busL1 b) = b := by
  unfold State.chanBus busL1
  rw [if_neg (by omega)]
  omega

/-- A half-cycle of a busbar of which L1's channel alone runs. -/
theorem execHalfCycleTest_sag (hlo : 1 ≤ b) (hb : b < 4) (hopen : s.cutOff 14 0 = false) (hwired : s.flag Attr.MeasurementService.inputsWired 0 = true)
    (hhalf : s.halfOf b = some (a, e)) (hothers : ∀ k < 76, k ≠ busL1 b → s.chanBus k = b → s.flag Attr.MeasurementChannel.enabled k = false)
    (hstart : SagStarts s (busL1 b) b a e rms) :
    execHalfCycleTest b s = .next ((s.sagStarted (busL1 b) rms).setMeaBus b { (s.sagStarted (busL1 b) rms).meaBus b with halfEnd := e }) := by
  have hk : 64 ≤ busL1 b ∧ busL1 b < 76 := by
    unfold busL1
    omega
  have hgo : ¬ (4 ≤ b ∨ s.cutOff 14 0 = true ∨ (!s.flag Attr.MeasurementService.inputsWired 0) = true) := by simp [hb, hopen, hwired]
  have hstarted : s.halfCycle (busL1 b) b a e = s.sagStarted (busL1 b) rms := State.halfCycle_sag hstart hk.1 hk.2 hb
  obtain ⟨-, -, -, -, hchange⟩ := State.sagStarted_effect (s := s) (rms := rms) hk.2
  have hoff : ∀ k ∈ (List.range 76).filter (fun k => s.chanBus k == b), k ≠ busL1 b → k < 76 ∧ s.flag Attr.MeasurementChannel.enabled k = false := by
    intro k hm hne
    obtain ⟨hrange, hbus⟩ := List.mem_filter.1 hm
    have hlt : k < 76 := List.mem_range.1 hrange
    exact ⟨hlt, hothers k hlt hne (beq_iff_eq.1 hbus)⟩
  have hall : ((List.range 76).filter (fun k => s.chanBus k == b)).foldl (fun s k => s.halfCycle k b a e) s = s.sagStarted (busL1 b) rms := by
    rw [← hstarted]
    refine foldl_one (g := fun (s : State) k => s.halfCycle k b a e) (List.nodup_range.filter _) (List.mem_filter.2 ⟨List.mem_range.2 hk.2, beq_iff_eq.2 State.chanBus_busL1⟩) ?_ ?_
    · exact fun k hm hne => State.halfCycle_idle (hoff k hm hne).2
    · intro k hm hne
      obtain ⟨hlt, hdisabled⟩ := hoff k hm hne
      rw [hstarted]
      exact State.halfCycle_idle ((hchange.flag _ _).trans hdisabled)
  unfold execHalfCycleTest
  simp only [if_neg hgo, hhalf, hall, if_neg (Nat.ne_of_gt hlo)]

/-! ### Head records (R479, R481) -/

/-- The interval's RMS of each channel is shown (R479). -/
def State.intervalsShown (s : State) (i : Nat) : State :=
  (List.range 80).foldl (fun s k => if (Assoc.find i (s.chan k).squares).isSome then s.setNat Attr.MeasurementChannel.rmsInterval k (s.rmsInterval k i) else s) s

/-- From `s` to `v` only the intervals' RMS is shown. -/
structure Shown (s v : State) : Prop where
  same : SameBut [.obj, .mbx] s v
  attrs : AttrsBut [0x09] s v

theorem State.intervalsShown_effect : Shown s (s.intervalsShown i) where
  same := .foldl fun _ _ => .ite (sameBut_setNat.mono (by decide)) .refl
  attrs := .foldl fun _ _ => .ite (attrsBut_setAttr (by decide)) (.of_obj rfl)

theorem Shown.mea (hv : Shown s v) : v.mea = s.mea := hv.same.area .mea

theorem Shown.nat (hv : Shown s v) (y : Nat × Nat) (j : Nat) (hy : autoParam (y.2 < 256 ∧ y.2 ∉ [0x09]) Nat.toPNat._auto_1) : v.nat y j = s.nat y j := hv.attrs.nat y j hy

theorem Shown.feederChannels (hv : Shown s v) : v.feederChannels f = s.feederChannels f := by
  simp only [State.feederChannels, hv.nat Attr.MeasurementFeeder.busbar f]

theorem Shown.chanGap (hv : Shown s v) : v.chanGap k i = s.chanGap k i := by
  have henabled : v.flag Attr.MeasurementChannel.enabled k = s.flag Attr.MeasurementChannel.enabled k := hv.attrs.flag _ _
  have hset : v.firSet = s.firSet := hv.nat _ _
  have hdecimation : v.firDecimation = s.firDecimation := by
    unfold State.firDecimation
    rw [hset, hv.nat Attr.FirSet.decimation]
  have hlimit : v.nat Attr.MeasurementService.overrangeLimitMs 0 = s.nat Attr.MeasurementService.overrangeLimitMs 0 := hv.nat _ _
  unfold State.chanGap
  rw [State.chan_congr hv.mea, hdecimation, henabled, hlimit]

theorem Shown.rmsInterval (hv : Shown s v) : v.rmsInterval k i = s.rmsInterval k i := by
  simp only [State.rmsInterval, State.rmsOf, State.codeScale, State.chan_congr hv.mea, hv.nat Attr.MeasurementChannel.unitsPerVolt]

/-- The intervals of a feeder that end with interval `i`, in order (R482). -/
def State.headsUpTo (s : State) (i f : Nat) : State :=
  ((((s.feeder f).energy.map Prod.fst).filter (fun j => decide (j < i))) ++ [i]).foldl (fun s j => s.headEnd f j) s

theorem State.headEnd_none (hnone : s.nat Attr.MeasurementFeeder.headHandle f = 0xFFFFFFFF) : s.headEnd f n = s := if_pos hnone

theorem State.headsUpTo_none (hnone : s.nat Attr.MeasurementFeeder.headHandle f = 0xFFFFFFFF) : s.headsUpTo i f = s :=
  List.foldl_fixed' (fun _ => State.headEnd_none hnone) _

theorem State.headsUpTo_due (hdue : ∀ x ∈ (s.feeder f).energy, i ≤ x.1) : s.headsUpTo i f = s.headEnd f i := by
  have holder : ((s.feeder f).energy.map Prod.fst).filter (fun j => decide (j < i)) = [] := by
    refine List.filter_eq_nil_iff.2 fun j hj => ?_
    obtain ⟨x, hx, rfl⟩ := List.mem_map.1 hj
    simpa using hdue x hx
  unfold State.headsUpTo
  rw [holder]
  rfl

/-- A feeder with a gap records it (R481). -/
theorem State.headEnd_gap (hhandle : s.nat Attr.MeasurementFeeder.headHandle f ≠ 0xFFFFFFFF) (hk : k ∈ s.feederChannels f) (hgap : s.chanGap k i = true) :
    s.headEnd f i = (s.setFeeder f { s.feeder f with energy := Assoc.del i (s.feeder f).energy }).raise 0x0E08 (objPath 0x0A02 f)
      [(s.nat Attr.MeasurementFeeder.headHandle f : Nat), (i : Int)] := by
  unfold State.headEnd
  dsimp only
  rw [if_neg hhandle, if_pos (List.any_eq_true.2 ⟨k, hk, hgap⟩)]

/-- A feeder whose channels all ran forms its record. -/
theorem State.headEnd_record (hhandle : s.nat Attr.MeasurementFeeder.headHandle f ≠ 0xFFFFFFFF) (hall : ∀ k ∈ s.feederChannels f, s.chanGap k i = false) :
    s.headEnd f i = s.formHead f i 0 := by
  have hwhole : ¬ ((s.feederChannels f).any (fun k => s.chanGap k i) = true) := by simpa using hall
  unfold State.headEnd
  dsimp only
  rw [if_neg hhandle, if_neg hwhole]

/-- A record of a feeder: its energy and its RMS in the units of its head, and what is left over (R479). -/
theorem State.formHead_effect (hh : s.nat Attr.MeasurementFeeder.headHandle f = h) :
    (∃ (fl : Flight) (q : BitVec 7), (s.formHead f i 0).col.flights = s.col.flights ++ [fl] ∧ fl.id = s.col.nextFlight ∧ fl.mark = none ∧
      fl.recs = [⟨h, i, q, (headEnergy (s.int Attr.EndpointProfile.scale h) ((Assoc.find i (s.feeder f).energy).getD []) (s.feeder f).rest).1.map (fun v => min v topVal) ++
        [0, 1, 2].map (fun p => min (s.rmsInterval (busL1 (s.nat Attr.MeasurementFeeder.busbar f) + p) i) topVal) ++ [absentVal]⟩]) ∧
      ((s.formHead f i 0).feeder f).rest = (headEnergy (s.int Attr.EndpointProfile.scale h) ((Assoc.find i (s.feeder f).energy).getD []) (s.feeder f).rest).2 ∧
      SameBut [.mea, .col, .sto, .twn] s (s.formHead f i 0) := by
  unfold State.formHead
  rw [hh]
  extract_lets +onlyGivenNames h' x r b us vals sus fenced q
  have hrest : ((s.setFeeder f { x with energy := Assoc.del i x.energy, rest := r.2 }).feeder f).rest = r.2 := congrArg MeaFeeder.rest State.feeder_setFeeder
  have hcol : (s.setFeeder f { x with energy := Assoc.del i x.energy, rest := r.2 }).col = s.col := rfl
  have hput : Changes [.mea] [] s (s.setFeeder f { x with energy := Assoc.del i x.energy, rest := r.2 }) := changes_setFeeder
  generalize s.setFeeder f { x with energy := Assoc.del i x.energy, rest := r.2 } = v at hrest hcol hput ⊢
  have hvals : vals = r.1.map (fun v => min v topVal) ++ us ++ [absentVal] := rfl
  rw [← hvals]
  clear_value q fenced vals
  have hcommit : SameBut [.col, .sto, .twn] v (v.commit { id := 0, recs := [⟨h, i, q, vals⟩], unchecked := fenced }) := sameBut_commit.mono (by decide)
  refine ⟨⟨{ id := v.col.nextFlight, recs := [⟨h, i, q, vals⟩], unchecked := fenced }, q, ?_, congrArg Collect.nextFlight hcol, rfl, rfl⟩, ?_,
    (hput.same.mono (by decide)).step hcommit⟩
  · rw [State.commit_flights, hcol]
  · rw [State.feeder_congr (hcommit.area .mea), hrest]

/-- The one feeder with a head: its interval ends, and the interval is done. -/
theorem execHeadRecord_one (hnow : s.nowInterval = i + 1) (hwired : s.flag Attr.MeasurementService.inputsWired 0 = true) (hmode : s.sys.mode = .service)
    (hnew : s.mea.headDone ≠ some i) (hset : s.unset = false) (hf : f < 16) (hone : ∀ g < 16, g ≠ f → s.nat Attr.MeasurementFeeder.headHandle g = 0xFFFFFFFF)
    (hdue : ∀ x ∈ (s.feeder f).energy, i ≤ x.1) (hobj : ((s.intervalsShown i).headEnd f i).obj = (s.intervalsShown i).obj) :
    execHeadRecord s = .next { (s.intervalsShown i).headEnd f i with mea := { ((s.intervalsShown i).headEnd f i).mea with headDone := some i } } := by
  have hv : Shown s (s.intervalsShown i) := State.intervalsShown_effect
  have hidx : s.nowInterval - 1 = i := by omega
  have hwired' : (s.intervalsShown i).flag Attr.MeasurementService.inputsWired 0 = true := (hv.attrs.flag _ _).trans hwired
  have hmode' : (s.intervalsShown i).sys.mode = .service := (congrArg Sys.mode (hv.same.area .sys)).trans hmode
  have hset' : (s.intervalsShown i).unset = false := (congrArg (· == 0) (hv.nat Attr.TimeService.state 0)).trans hset
  have hnew' : (s.intervalsShown i).mea.headDone ≠ some i := by
    rw [hv.mea]
    exact hnew
  have hgo : ¬ ((!(s.intervalsShown i).flag Attr.MeasurementService.inputsWired 0) = true ∨
      (!decide ((s.intervalsShown i).sys.mode = .service ∨ (s.intervalsShown i).sys.mode = .island)) = true ∨ (s.intervalsShown i).mea.headDone = some i ∨
      (s.intervalsShown i).unset = true) := by
    simp [hwired', hmode', hset', hnew']
  have hdone : (s.intervalsShown i).headsUpTo i f = (s.intervalsShown i).headEnd f i := State.headsUpTo_due (by rw [State.feeder_congr hv.mea]; exact hdue)
  have hnone : ∀ g ∈ List.range 16, g ≠ f → (s.intervalsShown i).nat Attr.MeasurementFeeder.headHandle g = 0xFFFFFFFF :=
    fun g hg hne => (hv.nat _ _).trans (hone g (List.mem_range.1 hg) hne)
  have hall : (List.range 16).foldl (fun s f => s.headsUpTo i f) (s.intervalsShown i) = (s.intervalsShown i).headEnd f i := by
    rw [← hdone]
    refine foldl_one (g := fun (s : State) f => s.headsUpTo i f) List.nodup_range (List.mem_range.2 hf) (fun g hg hne => State.headsUpTo_none (hnone g hg hne)) fun g hg hne => ?_
    rw [hdone]
    exact State.headsUpTo_none ((State.nat_congr hobj _ _).trans (hnone g hg hne))
  unfold execHeadRecord
  rw [hidx]
  extract_lets +onlyGivenNames j v
  have hvs : v = s.intervalsShown i := rfl
  rw [hvs, if_neg hgo]
  extract_lets +onlyGivenNames w
  have hw : w = (s.intervalsShown i).headEnd f i := hall
  rw [hw]

theorem AttrsBut.int {nums : List Nat} (hattrs : AttrsBut nums s t) (y : Nat × Nat) (i : Nat) (hy : autoParam (y.2 < 256 ∧ y.2 ∉ nums) Nat.toPNat._auto_1) :
    t.int y i = s.int y i := by
  simp only [State.int, hattrs y i hy]

/-! ### The obligation -/

/-- Settles O30: cycles, half-cycles and crossings by what they set, head records by the one feeder that has a head. -/
theorem measurementRecords : Obligations.MeasurementRecords := by
  refine ⟨?cycle, ?sag, ?crossing, ?fenced, ?record, ?gap⟩
  case cycle =>
    intro s b f e a hb hopen hwired hcycle hlt hf hone hswitch
    have hrun := execMetrologyCycle_one hb hopen hwired hcycle hlt hf hone
    obtain ⟨hp, hq, hchans, hbuses, hchange⟩ := State.bookCycle_effect (s := s) (b := b) (e := e) (a := a) hf hswitch
    generalize s.bookCycle f b e a = v at hrun hp hq hchans hbuses hchange
    rw [State.meaBus_congr hbuses] at hrun
    have hv : Changes [.mea] [] v (v.setMeaBus b { s.meaBus b with cycleEnd := a, period := a - e }) := changes_setMeaBus
    have hbus : (v.setMeaBus b { s.meaBus b with cycleEnd := a, period := a - e }).meaBus b = { s.meaBus b with cycleEnd := a, period := a - e } := State.meaBus_setMeaBus
    have hkept : (v.setMeaBus b { s.meaBus b with cycleEnd := a, period := a - e }).mea.chans = s.mea.chans := hchans
    generalize v.setMeaBus b { s.meaBus b with cycleEnd := a, period := a - e } = w at hrun hv hbus hkept
    have hz : Changes [.obj, .mbx] [Attr.MeasurementBusbar.frequencyMhz] w (w.setNat Attr.MeasurementBusbar.frequencyMhz b (65536000000000000 / (a - e))) := changes_setNat
    have hall : Changes [.mea, .obj, .mbx] [Attr.MeasurementFeeder.pW, Attr.MeasurementFeeder.qVar, Attr.MeasurementBusbar.frequencyMhz] s
        (w.setNat Attr.MeasurementBusbar.frequencyMhz b (65536000000000000 / (a - e))) := (hchange.mono.step hv).step hz
    refine ⟨_, hrun, ?_, State.nat_setNat, ?_, ?_, (congrArg Measure.chans hz.mea).trans hkept, hall.same⟩
    · rw [State.meaBus_congr (congrArg Measure.buses hz.mea), hbus]
    · rw [hz.int _ _, hv.int _ _, hp]
    · rw [hz.int _ _, hv.int _ _, hq]
  case sag =>
    intro s b a e rms hlo hb hopen hwired hhalf hothers henabled hsamples hrms hstill hsettled hsag hswell honce hlow hhigh
    have hstart : SagStarts s (busL1 b) b a e rms := ⟨henabled, hsamples, hrms, hstill, hsettled, hsag, hswell, honce, hlow, hhigh⟩
    have hk : busL1 b < 76 := by
      unfold busL1
      omega
    have hrun := execHalfCycleTest_sag hlo hb hopen hwired hhalf hothers hstart
    obtain ⟨hvalue, hbegun, hrecd, -, hchange⟩ := State.sagStarted_effect (s := s) (rms := rms) hk
    rw [chanOwner_busL1] at hrecd
    generalize s.sagStarted (busL1 b) rms = v at hrun hvalue hbegun hrecd hchange
    have hput : Changes [.mea] [] v (v.setMeaBus b { v.meaBus b with halfEnd := e }) := changes_setMeaBus
    have hchan : (v.setMeaBus b { v.meaBus b with halfEnd := e }).chan (busL1 b) = v.chan (busL1 b) := rfl
    have hbus : ((v.setMeaBus b { v.meaBus b with halfEnd := e }).meaBus b).halfEnd = e := congrArg MeaBus.halfEnd State.meaBus_setMeaBus
    refine ⟨_, hrun, (hput.nat _ _).trans hvalue, ?_, ?_, hbus, hput.recd.trans hrecd, (hchange.step hput).same⟩
    · rw [hchan, hbegun]
      rfl
    · rw [hchan, hbegun]
      rfl
  case crossing =>
    intro s p u us hp hsource hopen hrises hedges hgood
    have hgo : ¬ (16 ≤ p ∨ s.nat Attr.LinePort.zcSource p ≠ 2 ∨ s.cutOff 14 0 = true) := by simp [hp, hsource, hopen]
    have hrun : exec (.meaZeroCrossing p) s = .next (s.takeEdge p (u - s.nat Attr.LinePort.zcDelayNs p * 65536)) := by
      show execMeaZeroCrossing p s = _
      unfold execMeaZeroCrossing
      simp only [if_neg hgo, hrises, State.zcEdge_eq, hedges, zcRejects_nil, Bool.false_eq_true, ↓reduceIte]
    obtain ⟨hnew, hcount, hmissing, -, hsame⟩ := State.takeEdge_below (s := s) (p := p) (t0 := u - s.nat Attr.LinePort.zcDelayNs p * 65536) (by omega)
    refine ⟨_, hrun, ?_, ?_, hmissing, hsame⟩
    · rw [hnew, hedges]
      rfl
    · rw [hcount, hgood]
  case fenced => exact fun s p hcut => ⟨s, if_pos (.inr (.inr hcut)), rfl⟩
  case record =>
    intro s i f h hnow hwired hmode hnew hset hf hone hhandle hh hdue hall
    have hv : Shown s (s.intervalsShown i) := State.intervalsShown_effect
    have hhead : (s.intervalsShown i).nat Attr.MeasurementFeeder.headHandle f = h := (hv.nat _ _).trans hhandle
    have hend : (s.intervalsShown i).headEnd f i = (s.intervalsShown i).formHead f i 0 := by
      refine State.headEnd_record (by omega) fun k hk => ?_
      rw [hv.chanGap]
      exact hall k (hv.feederChannels ▸ hk)
    obtain ⟨⟨fl, q, hflights, hid, hmark, hrecs⟩, hrest, hsame⟩ := State.formHead_effect (i := i) hhead
    have hrun := execHeadRecord_one hnow hwired hmode hnew hset hf hone hdue (by
      rw [hend]
      exact hsame.area .obj)
    rw [hend] at hrun
    have hcol : (s.intervalsShown i).col = s.col := hv.same.area .col
    have hbus : (s.intervalsShown i).nat Attr.MeasurementFeeder.busbar f = s.nat Attr.MeasurementFeeder.busbar f := hv.nat _ _
    have hscale : (s.intervalsShown i).int Attr.EndpointProfile.scale h = s.int Attr.EndpointProfile.scale h := hv.attrs.int _ _
    simp only [hv.rmsInterval] at hrecs
    rw [hbus, hscale, State.feeder_congr hv.mea] at hrecs
    rw [hscale, State.feeder_congr hv.mea] at hrest
    rw [hcol] at hflights hid
    generalize (s.intervalsShown i).formHead f i 0 = w at hrun hflights hrest hsame
    exact ⟨_, hrun, ⟨fl, q, hflights, hid, hmark, hrecs⟩, hrest, rfl, ((hv.same.mono (by decide)).step hsame).trans SameBut.refl.set_mea⟩
  case gap =>
    intro s i f h k hnow hwired hmode hnew hset hf hone hhandle hh hdue hk hgap
    have hv : Shown s (s.intervalsShown i) := State.intervalsShown_effect
    have hhead : (s.intervalsShown i).nat Attr.MeasurementFeeder.headHandle f = h := (hv.nat _ _).trans hhandle
    have hend : (s.intervalsShown i).headEnd f i = ((s.intervalsShown i).setFeeder f { (s.intervalsShown i).feeder f with
        energy := Assoc.del i ((s.intervalsShown i).feeder f).energy }).raise 0x0E08 (objPath 0x0A02 f) [(h : Int), (i : Int)] := by
      have hne : (s.intervalsShown i).nat Attr.MeasurementFeeder.headHandle f ≠ 0xFFFFFFFF := by omega
      have hmem : k ∈ (s.intervalsShown i).feederChannels f := by
        rw [hv.feederChannels]
        exact hk
      rw [State.headEnd_gap hne hmem (hv.chanGap.trans hgap), hhead]
    have hrun := execHeadRecord_one hnow hwired hmode hnew hset hf hone hdue (by
      rw [hend]
      exact State.raise_obj.trans changes_setFeeder.obj)
    rw [hend] at hrun
    have hcol : (s.intervalsShown i).col = s.col := hv.same.area .col
    have hrecd : (s.intervalsShown i).recd = s.recd := hv.same.area .recd
    have hsame := hv.same
    generalize s.intervalsShown i = v at hrun hcol hrecd hsame
    have hput : SameBut [.mea, .recd] v ((v.setFeeder f { v.feeder f with energy := Assoc.del i (v.feeder f).energy }).raise 0x0E08 (objPath 0x0A02 f) [(h : Int), (i : Int)]) :=
      (changes_setFeeder.same.mono (by decide)).step sameBut_raise
    refine ⟨_, hrun, ?_, rfl, hcol, ((hsame.mono (by decide)).step hput).trans SameBut.refl.set_mea⟩
    rw [← hrecd]
    rfl

end Sys2Proof.Machine
end
